-- ==== Sys2Proof/Word.lean ====
section
/-! DEFINITION. Words, bytes and the one sparse form in which the model holds addressed data. -/

namespace Sys2Proof

/-- A byte of memory or of a frame. -/
abbrev Byte := BitVec 8

/-- A register or memory word (R8). -/
abbrev Word := BitVec 32

/-- Sparse data: key and value pairs, keys strictly rising, no value equal to what an unlisted key reads as
(`Machine.twf` in Machine/Table.lean states this form). -/
abbrev Table (α : Type) := List (Nat × α)

end Sys2Proof
end

