-- ==== Sys2Proof/Syntax.lean ====
section
/-! DEFINITION. The commands the block takes (every row of the opcode table) with their operands. -/

namespace Sys2Proof.Machine

/-- The register paths in the grant order of R462. -/
inductive Path where
  | firmware | mgmt | jtag | transom | fabric | flex
  deriving DecidableEq, Repr

/-- The service classes of R268. -/
inductive MemClass where
  | realTime | latency | throughput | background
  deriving DecidableEq, Repr

/-- The requesters of the memory controller (R268): of the Real-time class the prefill, the uniformity residual reads and the DC unit
of each weave die; of the Latency class the ingest writer, the rings, Coil, the Weft, firmware and the register windows; of the
Throughput class the Coil encoder, the Rim calculator, and map loading and copies; of the Background class scrub and debug. -/
inductive MemWho where
  | prefill (die : Fin 2) | residual (die : Fin 2) | dc (die : Fin 2)
  | ingest | ring | coil | weft | firmware | window
  | encode | rim | copy
  | scrub | debug
  deriving DecidableEq, Repr

/-- What a UDP datagram's checksum shows (R77): absent, correct, or failed. -/
inductive UdpSum where
  | zero | good | bad
  deriving DecidableEq, Repr

/-- How a TST packet reaches the module (R77): a UDP datagram on a flex Ethernet port with its destination port, whether it
is an IP fragment, its IP version and its checksum; or a Tile message on a flex Calnar or a fabric port. -/
inductive Arrival where
  | ethernet (port : BitVec 5) (udp : BitVec 16) (fragment v6 : Bool) (sum : UdpSum)
  | flexCalnar (port : BitVec 5)
  | fabric (port : BitVec 5)
  deriving DecidableEq, Repr

/-- The PTP messages the time unit knows (R343). -/
inductive PtpKind where
  | sync | followUp | delayResp | pdelay | announce | management
  deriving DecidableEq, Repr

/-- How a PTP message travels (R343, R344): on the Time VC of a Calnar port, over UDP with IPv4 or IPv6, or in an Ethernet frame of
its own, sent to a multicast address or not. -/
inductive PtpVia where
  | timeVc | udp4 | udp6 | ethernet (multicast : Bool)
  deriving DecidableEq, Repr

/-- One event of a flex Ethernet port's bring-up (R309): Clause 73 done, Clause 136 done, either failed, an active copper
plug-in's interface taken from its CMIS data, or code words counted by the FEC of a port that is up (R308). -/
inductive EthStep where
  | negotiated | trained | failed | activePlugIn
  | codewords (corrected uncorrected : BitVec 32)
  deriving DecidableEq, Repr

/-- What a start finds at a panel connector (R40, R58): whether PNL_PRES_N is low, and the panel type code and serial number
that the identity EEPROM gives. -/
structure PanelId where
  present : Bool
  type : BitVec 8
  serial : BitVec 64
  deriving DecidableEq, Repr

/-- The paths that carry register access frames (R468): the management port, a flex Ethernet port, the Calnar Bulk VC. -/
inductive FramePath where
  | mgmt | flex | fabric
  deriving DecidableEq, Repr

end Sys2Proof.Machine

namespace Sys2Proof

open Sys2Proof.Machine (Path MemWho UdpSum Arrival PtpKind PtpVia EthStep PanelId FramePath)

/-- The commands of the block, one for each row of the opcode table, in its order. Each docstring gives the row and the rule
it comes from; its meaning is the definition that exec calls for it. -/
inductive Instr where
  /-- FEED_OK (R30). -/
  | feedOk (feed : Fin 2)
  /-- FEED_LOST (R30). -/
  | feedLost (feed : Fin 2)
  /-- FEED_OVERVOLTAGE (R30). -/
  | feedOvervoltage (feed : Fin 2)
  /-- OVERVOLTAGE_CLEARED (R30). -/
  | overvoltageCleared (feed : Fin 2)
  /-- ALWAYS_ON_RAIL_UP (R56). -/
  | alwaysOnRailUp
  /-- V48_VALID (R30). -/
  | v48Valid (romOk : Bool) (panelA panelB : PanelId)
  /-- POWER_FAIL_WARNING (R33). -/
  | powerFailWarning
  /-- HOLD_RDY (R32). -/
  | holdRdy
  /-- HOLD_TIMEOUT (R65). -/
  | holdTimeout
  /-- HOLDUP_MEASURE_START (R35). -/
  | holdupMeasureStart
  /-- HOLDUP_MEASURE_DONE (R36). -/
  | holdupMeasureDone (cUf : BitVec 32)
  /-- RAIL_FAULT (R39). -/
  | railFault (half : Fin 2) (rail : Fin 4) (limit : Bool)
  /-- PANEL_UNPLUGGED (R40). -/
  | panelUnplugged (half : Fin 2)
  /-- PANEL_LOCK_TIMEOUT (R65). -/
  | panelLockTimeout (half : Fin 2)
  /-- RAILS_ENABLE (R221). -/
  | railsEnable (half : Fin 2) (missed : Option (Fin 4))
  /-- SILL_PICTURE_START (R56). -/
  | sillPictureStart
  /-- SILL_FRAME_START (R60). -/
  | sillFrameStart
  /-- BALANCE_RESTORE_END (R63). -/
  | balanceRestoreEnd
  /-- FIRMWARE_VERIFY (R443). -/
  | firmwareVerify
  /-- HBM_TRAINING (R283). -/
  | hbmTraining (first again : List (BitVec 6))
  /-- MAP_LOAD (R241). -/
  | mapLoad
  /-- LANE_STEP_UP (R210). -/
  | laneStepUp
  /-- LINTEL_LOCK (R486). -/
  | lintelLock
  /-- LINTEL_LOCK_TIMEOUT (R486). -/
  | lintelLockTimeout
  /-- ENTER_FULL (R57). -/
  | enterFull (fl : BitVec 32)
  /-- FAST_PASS_DONE (R168). -/
  | fastPassDone
  /-- WARM_RESET (R67). -/
  | warmReset (path : Path)
  /-- MODULE_RESET (R67). -/
  | moduleReset (path : Path)
  /-- WATCHDOG_RESET (R67). -/
  | watchdogReset
  /-- WATCHDOG_SERVICE (R474). -/
  | watchdogService (path : Path) (v : BitVec 32)
  /-- TEST_RESET (R67). -/
  | testReset
  /-- SOFT_RESET (R458). -/
  | softReset (path : Path) (page : BitVec 12) (v : BitVec 32)
  /-- PAGE_LOCK (R459). -/
  | pageLock (path : Path) (page : BitVec 12) (v : BitVec 32)
  /-- PG_EVT_CLEAR (R457). -/
  | pgEvtClear (path : Path) (page : BitVec 12) (v : BitVec 32)
  /-- PG_EVT_FORCE (R480). -/
  | pgEvtForce (path : Path) (page : BitVec 12) (v : BitVec 32)
  /-- EVENT_RING_TAIL_WRITE (R482). -/
  | eventRingTailWrite (path : Path) (ring : Fin 2) (v : BitVec 32)
  /-- RC_READ (R11). -/
  | rcRead (path : Path) (addr : BitVec 24) (same : BitVec 32)
  /-- REGISTER_WRITE (R10). -/
  | registerWrite (path : Path) (addr : BitVec 24) (v : BitVec 32)
  /-- PACKET_LAND (R85). -/
  | packetLand (via : Arrival) (bytes : List Byte)
  /-- TST_TILE (R80). -/
  | tstTile (ring : BitVec 16)
  /-- T5_TILE (R102). -/
  | t5Tile (ring : BitVec 16)
  /-- TST_EDIT (R97). -/
  | tstEdit (ring : BitVec 16)
  /-- TST_EDIT_CLOSE (R97). -/
  | tstEditClose (ring : BitVec 16)
  /-- TST_RESTAMP (R96). -/
  | tstRestamp (ring : BitVec 16)
  /-- TST_INVALIDATE (R96). -/
  | tstInvalidate (ring : BitVec 16)
  /-- STAGE_UPDATE (R87). -/
  | stageUpdate (ring : BitVec 16)
  /-- COIL_DECODE_START (R122). -/
  | coilDecodeStart
  /-- COIL_DECODE_DONE (R120). -/
  | coilDecodeDone (lane : Fin 32)
  /-- INGEST_WRITE (R145). -/
  | ingestWrite (ring : BitVec 16)
  /-- TILE_COMMIT (R93). -/
  | tileCommit
  /-- RESTAMP_COMMIT (R96). -/
  | restampCommit
  /-- INVALIDATE_COMMIT (R96). -/
  | invalidateCommit
  /-- EDIT_SET_CHECK (R98). -/
  | editSetCheck
  /-- EDIT_SET_CHECK_DONE (R98). -/
  | editSetCheckDone
  /-- APPLY_POINT (R99). -/
  | applyPoint
  /-- EPOCH_SWEEP_DONE (R101). -/
  | epochSweepDone
  /-- RING_ENABLE (R107). -/
  | ringEnable (path : Path) (v : BitVec 32)
  /-- RING_DISABLE (R107). -/
  | ringDisable (path : Path) (v : BitVec 32)
  /-- STREAM_RING_WRITE (R107). -/
  | streamRingWrite (path : Path) (v : BitVec 32)
  /-- STREAM_CLEAR (R122). -/
  | streamClear (path : Path)
  /-- STREAM_FLUSH (R122). -/
  | streamFlush (path : Path)
  /-- CTX_BASE_WRITE (R132). -/
  | ctxBaseWrite (path : Path) (hi : Bool) (v : BitVec 32)
  /-- ENCODE_START (R124). -/
  | encodeStart (path : Path) (v : BitVec 32)
  /-- ENCODE_DONE (R125). -/
  | encodeDone (lane : Fin 4)
  /-- MAP_SWAP (R136). -/
  | mapSwap (path : Path) (half : Fin 2)
  /-- MAP_CHECK_DONE (R136). -/
  | mapCheckDone (die : Fin 2)
  /-- LUT_DATA_WRITE (R159). -/
  | lutDataWrite (path : Path) (half : Fin 2) (v : BitVec 32)
  /-- LUT_DATA_READ (R159). -/
  | lutDataRead (path : Path) (half : Fin 2)
  /-- LUT_SWAP (R159). -/
  | lutSwap (path : Path) (half : Fin 2)
  /-- OUT_CTL_WRITE (R160). -/
  | outCtlWrite (path : Path) (half : Fin 2) (v : BitVec 32)
  /-- PROBE_ARM (R160). -/
  | probeArm (path : Path) (half : Fin 2) (v : BitVec 32)
  /-- LINE_START (R188). -/
  | lineStart (skew : BitVec 8)
  /-- FRAME_START (R355). -/
  | frameStart (fl : BitVec 32) (skew : BitVec 8)
  /-- LINE_MATCH (R195). -/
  | lineMatch
  /-- VERDICT_SAMPLE (R161). -/
  | verdictSample (half : Fin 2)
  /-- BAND_READ (R146). -/
  | bandRead (half : Fin 2) (corrected : BitVec 16) (bad : List (BitVec 32))
  /-- PREFILL_ISSUE (R193). -/
  | prefillIssue (half : Fin 2)
  /-- PREFILL_CELL_ARRIVE (R491). -/
  | prefillCellArrive (cell : BitVec 32)
  /-- RESIDUE_WRITEBACK (R235). -/
  | residueWriteback (h : Fin 2) (line : Fin 8640)
  /-- LINE_PACKET_SEND (R199). -/
  | linePacketSend (group : Fin 16)
  /-- LOAD_MARKER (R197). -/
  | loadMarker (h : Fin 2)
  /-- FRAME_MARKER (R197). -/
  | frameMarker (h : Fin 2)
  /-- RAIL_CHANGE_WINDOW (R222). -/
  | railChangeWindow
  /-- CONTROL_PACKET_SEND (R201). -/
  | controlPacketSend (group : Fin 16)
  /-- CONTROL_PACKET_RESEND (R201). -/
  | controlPacketResend (group : Fin 16)
  /-- LINE_REPORT_RECEIVED (R181). -/
  | lineReportReceived (group : Fin 16) (bs : List Byte)
  /-- REPORT_MISSING (R181). -/
  | reportMissing (group : Fin 16) (line : Fin 8640)
  /-- STATUS_REPORT_RECEIVED (R207). -/
  | statusReportReceived (group : Fin 16) (bs : List Byte)
  /-- LANE_READMIT (R208). -/
  | laneReadmit (path : Path) (half : Fin 2) (lanes : BitVec 15)
  /-- MIN_LANES_WRITE (R219). -/
  | minLanesWrite (path : Path) (half : Fin 2) (v : BitVec 32)
  /-- RASTER_WRITE (R219). -/
  | rasterWrite (path : Path) (reg : Fin 5) (v : BitVec 32)
  /-- RATE_STEP_TRAIN (R210). -/
  | rateStepTrain (h : Fin 2)
  /-- RATE_STEP_DECIDE (R210). -/
  | rateStepDecide (h : Fin 2)
  /-- SHUTTER_REQUEST (R212). -/
  | shutterRequest (path : Path) (v : BitVec 32)
  /-- SHUTTER_IN (R213). -/
  | shutterIn
  /-- SHUTTER_EXIT_REQUEST (R214). -/
  | shutterExitRequest (path : Path) (v : BitVec 32)
  /-- SHUTTER_STATUS_TIMEOUT (R216). -/
  | shutterStatusTimeout (group : Fin 16)
  /-- WAVEFORM_SWAP (R228). -/
  | waveformSwap (path : Path) (half : Fin 2)
  /-- WAVEFORM_CHECK_DONE (R227). -/
  | waveformCheckDone (h : Fin 2)
  /-- GATE_CTL_WRITE (R244). -/
  | gateCtlWrite (path : Path) (half : Fin 2) (v : BitVec 32)
  /-- RES_ADDR_WRITE (R244). -/
  | resAddrWrite (path : Path) (half : Fin 2) (hi : Bool) (v : BitVec 32)
  /-- RES_VAL_READ (R243). -/
  | resValRead (path : Path) (half : Fin 2)
  /-- DISCHARGE_START (R239). -/
  | dischargeStart (half : Fin 2)
  /-- DISCHARGE_SENSE_SAMPLE (R240). -/
  | dischargeSenseSample (half : Fin 2) (mv : BitVec 16)
  /-- DISCHARGE_DONE (R240). -/
  | dischargeDone (half : Fin 2) (stepsOk : Bool)
  /-- SILL_HANDOVER (R238). -/
  | sillHandover
  /-- WEFT_SUBMIT (R245). -/
  | weftSubmit (path : Path) (v : BitVec 32)
  /-- WEFT_LIST_START (R247). -/
  | weftListStart
  /-- WEFT_NOP (R249). -/
  | weftNop
  /-- WEFT_COPY (R259). -/
  | weftCopy
  /-- WEFT_FILL (R249). -/
  | weftFill
  /-- WEFT_PFILL (R253). -/
  | weftPfill
  /-- WEFT_LINE (R254). -/
  | weftLine
  /-- WEFT_BLEND (R252). -/
  | weftBlend
  /-- WEFT_SCROLL (R250). -/
  | weftScroll
  /-- WEFT_CONVERT (R251). -/
  | weftConvert
  /-- WEFT_WAIT (R260). -/
  | weftWait
  /-- WEFT_WAIT_END (R260). -/
  | weftWaitEnd
  /-- WEFT_WMARK (R261). -/
  | weftWmark
  /-- WMARK_REACHED (R261). -/
  | wmarkReached
  /-- WEFT_BURST_COMPLETE (R257). -/
  | weftBurstComplete
  /-- WEFT_ABORT (R263). -/
  | weftAbort (path : Path) (v : BitVec 32)
  /-- WEFT_PAUSE (R264). -/
  | weftPause (path : Path) (v : BitVec 32)
  /-- WEFT_QUEUE_WRITE (R265). -/
  | weftQueueWrite (path : Path) (reg : Fin 3) (v : BitVec 32)
  /-- RIM_CALC_START (R185). -/
  | rimCalcStart (path : Path)
  /-- RIM_CALC_DONE (R185). -/
  | rimCalcDone
  /-- REALTIME_GRANT (R272). -/
  | realtimeGrant (pc : Fin 128)
  /-- ROUND_BOUNDARY (R275). -/
  | roundBoundary
  /-- MEMORY_REQUEST (R269). -/
  | memoryRequest (who : MemWho) (addr : BitVec 40) (len : BitVec 12) (write : Bool) (data : List Byte)
  /-- MEMORY_RESPONSE (R280). -/
  | memoryResponse (pc : Fin 128) (rt : Bool) (burst : Fin 64) (errs : List (Fin 36 × BitVec 8))
  /-- ECC_RETRY (R280). -/
  | eccRetry (burst : Fin 64) (errs : List (Fin 36 × BitVec 8))
  /-- AGE_PROMOTION (R269). -/
  | agePromotion (k : BitVec 16)
  /-- BANK_REFRESH (R276). -/
  | bankRefresh (pc : Fin 128)
  /-- REFRESH_FORCED (R277). -/
  | refreshForced (pc : Fin 128) (bank : Fin 48)
  /-- NEIGHBOUR_REFRESH (R278). -/
  | neighbourRefresh (pc : Fin 128)
  /-- RD_TABLE_CLEAR (R279). -/
  | rdTableClear
  /-- RD_CTL_WRITE (R279). -/
  | rdCtlWrite (path : Path) (v : BitVec 32)
  /-- SCRUB_READ (R282). -/
  | scrubRead (burst : Fin 64) (errs : List (Fin 36 × BitVec 8))
  /-- COR_RATE_CHECK (R282). -/
  | corRateCheck (pc : Fin 128)
  /-- SELF_REFRESH_ENTRY (R286). -/
  | selfRefreshEntry (cause : Fin 4)
  /-- SELF_REFRESH_SEAL (R286). -/
  | selfRefreshSeal
  /-- SELF_REFRESH_EXIT (R287). -/
  | selfRefreshExit (trimBad : Bool)
  /-- XLATE_WRITE (R290). -/
  | xlateWrite (path : Path) (hi : Bool) (v : BitVec 32)
  /-- LOS_SET (R296). -/
  | losSet (lane : Fin 512)
  /-- LOS_CLEAR (R296). -/
  | losClear (lane : Fin 512)
  /-- BLOCK_LOCK_GAIN (R296). -/
  | blockLockGain (lane : Fin 512)
  /-- BLOCK_LOCK_LOSS (R298). -/
  | blockLockLoss (lane : Fin 512)
  /-- DEGRADED_CHECK (R297). -/
  | degradedCheck (lane : Fin 512) (headers kinds : BitVec 32)
  /-- FILL_SEND (R299). -/
  | fillSend (port : Fin 40)
  /-- FILL_RECEIVE (R300). -/
  | fillReceive (port : Fin 40) (fill lost : BitVec 8)
  /-- PORT_ENABLE (R303). -/
  | portEnable (port : Fin 40) (supported : Bool)
  /-- PORT_DISABLE (R313). -/
  | portDisable (path : Path) (v : BitVec 32)
  /-- PORT_CFG_WRITE (R313). -/
  | portCfgWrite (path : Path) (v : BitVec 32)
  /-- LANE_CTL_WRITE (R313). -/
  | laneCtlWrite (path : Path) (v : BitVec 32)
  /-- BACKOFF_ELAPSED (R305). -/
  | backoffElapsed (port : Fin 40)
  /-- CAP_RECEIVE (R303). -/
  | capReceive (port : Fin 40) (version : BitVec 4) (rate : BitVec 3) (preReq backoff ack : Bool)
  /-- TRAIN_DONE (R303). -/
  | trainDone (port : Fin 40) (reqs : List (List (BitVec 8))) (rx : List (BitVec 4 × List Int))
  /-- CHECK_DONE (R304). -/
  | checkDone (port : Fin 40) (counts : List (BitVec 32)) (hdr partner : BitVec 8)
  /-- STEP_DONE (R303). -/
  | stepDone (port : Fin 40) (relocked : BitVec 8)
  /-- EXCHANGE_TIMEOUT (R305). -/
  | exchangeTimeout (port : Fin 40)
  /-- TRAIN_BLOCK_TIMEOUT (R305). -/
  | trainBlockTimeout (port : Fin 40)
  /-- TRAIN_TIMEOUT (R305). -/
  | trainTimeout (port : Fin 40)
  /-- STEP_RELOCK_TIMEOUT (R305). -/
  | stepRelockTimeout (port : Fin 40)
  /-- CAP_RESTORE (R305). -/
  | capRestore (port : Fin 40) (hour : Bool)
  /-- ETH_PORT_BRINGUP (R309). -/
  | ethPortBringup (port : Fin 16) (ev : EthStep)
  /-- FLIT_RECEIVE (R324). -/
  | flitReceive (port : Fin 40) (flit : List Byte)
  /-- FEC_FRAME_RECEIVE (R323). -/
  | fecFrameReceive (port : Fin 40) (errs : Fin 213)
  /-- LCTL_RECEIVE (R322). -/
  | lctlReceive (port : Fin 40) (kind : BitVec 8) (ack : BitVec 16) (nak : Bool) (idx : BitVec 3) (valid : Bool)
      (credits : BitVec 16)
  /-- LCTL_ACK_SEND (R324). -/
  | lctlAckSend (port : Fin 40)
  /-- REPLAY_TIMEOUT (R324). -/
  | replayTimeout (port : Fin 40)
  /-- WIDTH_RECEIVE (R335). -/
  | widthReceive (port : Fin 40) (mask : BitVec 8) (switch : BitVec 16) (ack : Bool)
  /-- WIDTH_SWITCH (R335). -/
  | widthSwitch (port : Fin 40)
  /-- WIDTH_TIMEOUT (R335). -/
  | widthTimeout (port : Fin 40)
  /-- TRANSOM_PROBE (R316). -/
  | transomProbe (port : Fin 40) (msg : List Byte) (serve : Bool)
  /-- PROBE_ANNOUNCE (R316). -/
  | probeAnnounce
  /-- ROOT_LOST (R316). -/
  | rootLost
  /-- ADDRESS_FIX (R317). -/
  | addressFix
  /-- NEIGH_SEND (R318). -/
  | neighSend (port : Fin 40)
  /-- TRANSOM_NEIGH (R318). -/
  | transomNeigh (port : Fin 40) (msg : List Byte) (serve : Bool)
  /-- TRANSOM_STOP (R337). -/
  | transomStop (port : Fin 40) (msg : List Byte) (serve : Bool)
  /-- TRANSOM_RELEASE (R337). -/
  | transomRelease (port : Fin 40) (msg : List Byte) (serve : Bool)
  /-- TRANSOM_ECHO (R329). -/
  | transomEcho (port : Fin 40) (msg : List Byte) (serve : Bool)
  /-- TRANSOM_ECHO_RSP (R329). -/
  | transomEchoRsp (port : Fin 40) (msg : List Byte) (serve : Bool)
  /-- TRANSOM_NAK (R336). -/
  | transomNak (port : Fin 40) (msg : List Byte) (serve : Bool)
  /-- TRANSOM_REG_REQ (R469). -/
  | transomRegReq (port : Fin 40) (msg : List Byte) (serve : Bool)
  /-- TRANSOM_REG_RSP (R469). -/
  | transomRegRsp (port : Fin 40) (msg : List Byte) (serve : Bool)
  /-- TRANSOM_ILLEGAL_TYPE (R329). -/
  | transomIllegalType (port : Fin 40) (msg : List Byte) (serve : Bool)
  /-- VIOLATION_QUARANTINE (R337). -/
  | violationQuarantine (port : Fin 40)
  /-- QUARANTINE_EXPIRE (R337). -/
  | quarantineExpire (port : Fin 40)
  /-- ROUTE_TABLE_WRITE (R328). -/
  | routeTableWrite (path : Path) (v : BitVec 32)
  /-- PORT_RELEASE (R337). -/
  | portRelease (path : Path)
  /-- PORT_QUARANTINE (R339). -/
  | portQuarantine (path : Path)
  /-- PORT_REWIDEN (R335). -/
  | portRewiden (path : Path)
  /-- REGISTER_FRAME (R466). -/
  | registerFrame (via : FramePath) (src : BitVec 144) (frame : List Byte)
  /-- BULK_COPY_MESSAGE (R321). -/
  | bulkCopyMessage
  /-- PTP_MESSAGE (R344). -/
  | ptpMessage (port : Fin 41) (domain : BitVec 8) (via : PtpVia) (kind : PtpKind) (accuracy : BitVec 8)
      (gm : BitVec 64) (best : Bool)
  /-- PTP_SAMPLE (R348). -/
  | ptpSample (offset : BitVec 64)
  /-- TIME_ACQUIRE (R347). -/
  | timeAcquire (sec : BitVec 48) (ns : BitVec 30)
  /-- ANNOUNCE_TIMEOUT (R347). -/
  | announceTimeout
  /-- HOLDOVER_TICK (R350). -/
  | holdoverTick
  /-- PPS_EDGE (R351). -/
  | ppsEdge (err : BitVec 32)
  /-- PPS_TIMEOUT (R351). -/
  | ppsTimeout
  /-- CLK10_CHECK (R352). -/
  | clk10Check (ok : Bool)
  /-- JUMP_ACCEPT (R354). -/
  | jumpAccept (path : Path)
  /-- STEP_SWEEP_DONE (R167). -/
  | stepSweepDone
  /-- WRAP_SWEEP_VISIT (R168). -/
  | wrapSweepVisit
  /-- VERIFICATION_SWEEP (R169). -/
  | verificationSweep
  /-- VERIFICATION_SWEEP_DONE (R169). -/
  | verificationSweepDone
  /-- LINTEL_SLOT_WRITE (R366). -/
  | lintelSlotWrite (path : Path) (reg : Fin 3) (v : BitVec 32)
  /-- LINTEL_SLOT_FIRE (R359). -/
  | lintelSlotFire (slot : Fin 256)
  /-- FIRED_CLEAR (R365). -/
  | firedClear (path : Path) (k : Fin 8) (v : BitVec 32)
  /-- COMPARE_ARM (R360). -/
  | compareArm (path : Path) (v : BitVec 32)
  /-- COMPARE_FIRE (R360). -/
  | compareFire (ch : Fin 16)
  /-- LEAF_HELLO_SEND (R371). -/
  | leafHelloSend
  /-- HINGE_PARTNER_TIMEOUT (R371). -/
  | hingePartnerTimeout
  /-- LEAF_HELLO (R371). -/
  | leafHello (arg : List Byte)
  /-- DEMOTE_SEND (R385). -/
  | demoteSend
  /-- LEAF_DEMOTE (R385). -/
  | leafDemote (arg : List Byte)
  /-- LEAF_TAKE (R386). -/
  | leafTake (arg : List Byte)
  /-- TAKEOVER (R386). -/
  | takeover
  /-- ACTIVE_SILENT (R385). -/
  | activeSilent
  /-- PARTNER_LOST_TIMEOUT (R385). -/
  | partnerLostTimeout
  /-- MIRROR_COMMIT (R373). -/
  | mirrorCommit (bs : List Byte)
  /-- MIRROR_COMMIT_APPLY (R373). -/
  | mirrorCommitApply
  /-- MIRROR_UPDATE_EXPIRE (R374). -/
  | mirrorUpdateExpire (ring : BitVec 16)
  /-- MIRROR_FETCH_REQ (R374). -/
  | mirrorFetchReq (bs : List Byte)
  /-- MIRROR_FETCH_DATA (R374). -/
  | mirrorFetchData (bs : List Byte)
  /-- MIRROR_LINE (R378). -/
  | mirrorLine (bs : List Byte)
  /-- MIRROR_WEFT_START (R376). -/
  | mirrorWeftStart (bs : List Byte)
  /-- MIRROR_EDIT_APPLY (R375). -/
  | mirrorEditApply (bs : List Byte)
  /-- MIRROR_REPAIR (R380). -/
  | mirrorRepair (bs : List Byte)
  /-- MIRROR_SYNC (R382). -/
  | mirrorSync (bs : List Byte)
  /-- SYNC_COMPLETE (R382). -/
  | syncComplete
  /-- PLANNED_SWAP (R384). -/
  | plannedSwap
  /-- REVERT (R389). -/
  | revert
  /-- LEAF_SWAP (R394). -/
  | leafSwap (path : Path)
  /-- LEAF_RESYNC (R394). -/
  | leafResync (path : Path)
  /-- LEAF_REARM (R384). -/
  | leafRearm (path : Path)
  /-- NVS_READ (R398). -/
  | nvsRead (path : Path) (kind : Bool)
  /-- NVS_WRITE (R400). -/
  | nvsWrite (path : Path) (kind : Bool)
  /-- NVS_SET_PASSWORD (R402). -/
  | nvsSetPassword (path : Path) (kind : Bool)
  /-- NVS_PAGE_WRITE (R399). -/
  | nvsPageWrite
  /-- NVS_WRITE_DONE (R399). -/
  | nvsWriteDone
  /-- LIFE_S_TICK (R403). -/
  | lifeSTick
  /-- PASSWORD_LOCKOUT_END (R402). -/
  | passwordLockoutEnd
  /-- LOG_PAGE_WRITE (R404). -/
  | logPageWrite (page : BitVec 11)
  /-- FIRST_FAULT_CLEAR (R404). -/
  | firstFaultClear (path : Path)
  /-- NVS_SCRUB_START (R405). -/
  | nvsScrubStart
  /-- NVS_SCRUB_PAGE (R405). -/
  | nvsScrubPage (marginBad : Bool)
  /-- BMS_ERASE (R410). -/
  | bmsErase (path : Path)
  /-- BMS_WRITE (R410). -/
  | bmsWrite (path : Path)
  /-- BMS_READ (R413). -/
  | bmsRead (path : Path)
  /-- BMS_DONE (R413). -/
  | bmsDone (fail : Bool)
  /-- BMS_PATROL (R407). -/
  | bmsPatrol (retired : BitVec 16)
  /-- SENSOR_READ (R415). -/
  | sensorRead (sensor : Fin 28) (temp : BitVec 16) (valid : Bool)
  /-- THERMAL_RESTART (R422). -/
  | thermalRestart
  /-- CALIBRATION_RUN (R424). -/
  | calibrationRun (group : Fin 3)
  /-- CALIBRATION_COMMAND (R424). -/
  | calibrationCommand (path : Path) (groups : BitVec 3)
  /-- CALIBRATION_DONE (R424). -/
  | calibrationDone (group : Fin 3)
  /-- VREF_CALIBRATION (R426). -/
  | vrefCalibration (gain : BitVec 32) (inRange : Bool)
  /-- FREQ_MEASURE (R427). -/
  | freqMeasure (ppb : BitVec 32)
  /-- SELF_TEST_START (R428). -/
  | selfTestStart (path : Path) (v : BitVec 32)
  /-- SELF_TEST_DONE (R428). -/
  | selfTestDone (pass : Bool)
  /-- SEAL (R439). -/
  | sealOp (path : Path)
  /-- UNSEAL (R439). -/
  | unsealOp (path : Path)
  /-- RECOVER (R439). -/
  | recover (path : Path)
  /-- OWNER (R439). -/
  | owner (path : Path)
  /-- KEY_LOAD (R441). -/
  | keyLoad (path : Path) (readOk : Bool)
  /-- KEY_CLEAR (R439). -/
  | keyClear (path : Path)
  /-- SVN_COMMIT (R439). -/
  | svnCommit (path : Path)
  /-- SIGNATURE_LOCKOUT_END (R439). -/
  | signatureLockoutEnd
  /-- DEBUG_ATTACH (R444). -/
  | debugAttach
  /-- DEBUG_DETACH (R448). -/
  | debugDetach
  /-- IDCODE (R445). -/
  | idcode
  /-- SAMPLE_PRELOAD (R445). -/
  | samplePreload (cells : List Bool)
  /-- EXTEST (R445). -/
  | extest
  /-- CLAMP (R445). -/
  | clamp
  /-- HIGHZ (R445). -/
  | highz
  /-- EXTEST_PULSE (R445). -/
  | extestPulse
  /-- EXTEST_TRAIN (R445). -/
  | extestTrain
  /-- DBG_REQ (R446). -/
  | dbgReq (req : BitVec 2)
  /-- INTRUSIVE_GRANT (R446). -/
  | intrusiveGrant
  /-- DBG_STS (R445). -/
  | dbgSts
  /-- JTAG_REG_RD (R470). -/
  | jtagRegRd (addr : BitVec 24)
  /-- JTAG_REG_WR (R470). -/
  | jtagRegWr (addr : BitVec 24) (v : BitVec 32)
  /-- MEM_RD (R445). -/
  | memRd (addr : BitVec 37)
  /-- MEM_WR (R445). -/
  | memWr (addr : BitVec 37) (data : BitVec 32)
  /-- HALT (R447). -/
  | halt
  /-- RESUME (R445). -/
  | resume
  /-- BYPASS (R445). -/
  | bypass
  /-- WINDOW_READ (R473). -/
  | windowRead (path : Path) (page : BitVec 12) (word : Fin 512)
  /-- WINDOW_WRITE (R473). -/
  | windowWrite (path : Path) (page : BitVec 12) (word : Fin 512) (v : BitVec 32)
  /-- MODULE_UNPOWERED (R33). -/
  | moduleUnpowered
  /-- HOUSE_SYNC_EDGE (R190). -/
  | houseSyncEdge
  /-- CDR_LOCK_GAIN (R296). -/
  | cdrLockGain (lane : Fin 512)
  /-- CDR_LOCK_LOSS (R296). -/
  | cdrLockLoss (lane : Fin 512)
  /-- MANAGEMENT_LINK_CHANGE (R44). -/
  | managementLinkChange (up : Bool) (speed : Fin 2)
  deriving DecidableEq, Repr

end Sys2Proof
end

