-- ==== Sys2Proof/Config.lean ====
section
/-! DEFINITION. What the spec leaves open, as constants without a body: nothing in Lean can evaluate one or prove a value
of it, so a statement about the model holds for every choice. -/

namespace Sys2Proof

/-- A free value of `w` bits, one for each count of `State.freeCtr` (log entry 1). -/
opaque Config.free : (w : Nat) → Nat → BitVec w

/-- The DATA bytes of a parameter store page at delivery (Identity, Config, Calibration contents are each module's own;
log entry 13). -/
opaque Config.deliveredByte : (page : Nat) → (ofs : Nat) → BitVec 8

/-- The write password that the label of the module names for a partition (R402; log entry 13). -/
opaque Config.labelPassword : (partition : Nat) → BitVec 64

/-- The two keys that the security unit derives from K_dev (R436): label 0 the wrap key (32 bytes), label 1 the MAC key
(48 bytes). No path reads them (log entry 9). -/
opaque Config.deviceKey : (label i : Nat) → BitVec 8

/-- The SHA-384 digest that the ROM holds of firmware key 0 or 1 (R443; log entry 9). -/
opaque Config.romKey : Nat → List (BitVec 8)

/-- The stream an encode lane chooses at an effort, a block size and a source: the choice of matches and tables is no part
of the format (R124; log entry 1). -/
opaque Config.coilChoice : (effort log : Nat) → (src : List (BitVec 8)) → List (BitVec 8)

/-- The glyph ROM of the Sill raster generator (R60): whether dot (row, column) of a character is lit. The spec gives no
glyph shapes (log entry 1). -/
opaque Config.glyphDot : (char row col : Nat) → Bool

/-- The transmitter taps that the panel record of Config pages gives for a rate code, as LANE_EQ shows them (R301); of the page
list `[]` those at delivery (log entry 10). -/
opaque Config.panelTaps : (pages : List (List (BitVec 8))) → (rate : Nat) → Nat

/-- The taps that a PRESET request sets, as LANE_EQ shows them (R295; log entry 200). -/
opaque Config.presetTaps : Nat

/-- The range of a DFE tap to either side of 0 (R301, R302; log entry 200). -/
opaque Config.dfeRange : Nat

/-- How many steps a read delay (0), a write delay (1) or a reference voltage (2) of an HBM pseudo-channel may move from its
training, to either side (R284; log entry 204). -/
opaque Config.hbmRange : (trim : Nat) → Nat

/-- GON (0) and GOE (1) of the Sill raster's frames, in 10 ns: the spec takes them from a waveform table's phase, which those
frames have none of (R224; log entry 196). -/
opaque Config.sillGate : Nat → Nat

/-- The ROM revision shown in SIL.CPU_STS (R474; log entry 1). -/
opaque Config.romVersion : BitVec 16

/-- Fields of the Identity pages (R397): 0 serial number, 1 module ID, 2 the build (1: TL-7250-E). The spec gives the
partition's contents and not their layout (log entry 10). -/
opaque Config.identity : (field : Nat) → (pages : List (List (BitVec 8))) → BitVec 64

/-- What rewritten Config pages hold (R397, R58, R220, R487): panel type code and serial, the Sill drive set (VGH, VGL, VCOM
and GMA0-13 in mV) when there is one, and the register settings in order. The spec gives the layout nowhere (log
entry 10). -/
opaque Config.record : (pages : List (List (BitVec 8))) →
  Nat × Nat × Option (Int × Int × Int × List Int) × List (Nat × BitVec 32)

end Sys2Proof
end

