-- ==== Sys2Proof/Machine/Bits.lean ====
section
/-! DEFINITION. Bit fields, signed readings, byte order (R13) and saturation, used by every family. -/

namespace Sys2Proof.Machine

/-- Bits [hi:lo] of `n`. -/
def bits (n hi lo : Nat) : Nat := n / 2 ^ lo % 2 ^ (hi + 1 - lo)

/-- Bit `i` of `n`. -/
def bit (n i : Nat) : Bool := n / 2 ^ i % 2 == 1

/-- `n` with bits [hi:lo] holding the low bits of `v`. -/
def setBits (n hi lo v : Nat) : Nat := n / 2 ^ (hi + 1) * 2 ^ (hi + 1) + v % 2 ^ (hi + 1 - lo) * 2 ^ lo + n % 2 ^ lo

/-- 1 for true. -/
def b2n (b : Bool) : Nat := if b then 1 else 0

/-- The two's complement reading of the low `w` bits of `n`. -/
def sgn (w n : Nat) : Int := if n % 2 ^ w < 2 ^ (w - 1) then (n % 2 ^ w : Nat) else (n % 2 ^ w : Nat) - (2 ^ w : Nat)

/-- The low `w` bits of an integer, as two's complement. -/
def wrapI (w : Nat) (i : Int) : Nat := (i % (2 ^ w : Nat)).toNat

/-- Clamp to a range. -/
def clampI (lo hi i : Int) : Int := max lo (min hi i)

/-- Signed 32-bit difference `a - b` (R6, R91, R168). -/
def sdiff32 (a b : Nat) : Int := sgn 32 (a % 2 ^ 32 + 2 ^ 32 - b % 2 ^ 32)

/-- Little-endian value (stored structures, R13). -/
def leNat : List Byte → Nat
  | [] => 0
  | b :: bs => b.toNat + 256 * leNat bs

/-- Big-endian value (packets on a link, R13). -/
def beNat (bs : List Byte) : Nat := bs.foldl (fun a b => a * 256 + b.toNat) 0

/-- `n` bytes of `v`, least significant first. -/
def leBytes : (n v : Nat) → List Byte
  | 0, _ => []
  | n + 1, v => BitVec.ofNat 8 v :: leBytes n (v / 256)

/-- `n` bytes of `v`, most significant first. -/
def beBytes (n v : Nat) : List Byte := (leBytes n v).reverse

/-- `n` zero bytes. -/
def zeros (n : Nat) : List Byte := List.replicate n 0

/-- Bytes `o` to `o + n - 1`. -/
def slice {α : Type} (bs : List α) (o n : Nat) : List α := (bs.drop o).take n

/-- Big-endian field of `n` bytes at offset `o`. -/
def beAt (bs : List Byte) (o n : Nat) : Nat := beNat (slice bs o n)

/-- Little-endian field of `n` bytes at offset `o`. -/
def leAt (bs : List Byte) (o n : Nat) : Nat := leNat (slice bs o n)

/-- `bs` with the bytes from offset `o` replaced by `xs`. -/
def splice {α : Type} (bs : List α) (o : Nat) (xs : List α) : List α := bs.take o ++ xs ++ bs.drop (o + xs.length)

/-- Add with saturation at the largest `w`-bit value (statistic counters). -/
def satAdd (w a n : Nat) : Nat := min (2 ^ w - 1) (a + n)

/-- Division rounding towards minus infinity of an integer by a positive number. -/
def fdiv (a : Int) (b : Nat) : Int := a / (b : Int)

/-- The largest `v < 2 ^ n` with `p v`, for a `p` that holds downwards from it; 0 when none. Bisection from the top bit. -/
def largest (p : Nat → Bool) : (n : Nat) → (base : Nat) → Nat
  | 0, base => base
  | n + 1, base => if p (base + 2 ^ n) then largest p n (base + 2 ^ n) else largest p n base

end Sys2Proof.Machine
end

