-- ==== Sys2Proof/Machine/Crypto.lean ====
section
/-! DEFINITION. The algorithms that chapters 4 and 19 name by their standards (R82, R436, R437, R440, R443): SHA-384, HMAC,
AES-256, GMAC, the KW key wrap and ECDSA over P-384 (log entry 9). -/

namespace Sys2Proof.Machine

/-! ### SHA-384 and HMAC-SHA-384 (R437, R440, R443) -/

/-- The primes up to 409, by trial division: the first 80. -/
def primes80 : List Nat :=
  (List.range 410).filter (fun n => decide (2 ≤ n) && (List.range n).all (fun d => d < 2 || n % d != 0))

/-- The largest x below 2^k + base with x^e ≤ n. -/
def rootBelow (e n : Nat) : (k base : Nat) → Nat
  | 0, base => base
  | k + 1, base => if (base + 2 ^ k) ^ e ≤ n then rootBelow e n k (base + 2 ^ k) else rootBelow e n k base

/-- The first 64 bits of the fractional part of the e-th root of p. -/
def rootFrac (e p : Nat) : Nat := rootBelow e (p * 2 ^ (64 * e)) 70 0 % 2 ^ 64

/-- The round constants. -/
def shaK : List Nat := primes80.map (rootFrac 3)

/-- The initial value of SHA-384. -/
def shaInit : List Nat := ((primes80.drop 8).take 8).map (rootFrac 2)

/-- Rotate a 64-bit word right. -/
def rotr64 (x n : Nat) : Nat := x / 2 ^ n + x % 2 ^ n * 2 ^ (64 - n)

/-- The next word of the message schedule from the last 16, oldest first. -/
def shaNext (w : List Nat) : Nat :=
  let a := w.getD 1 0
  let b := w.getD 14 0
  let s0 := rotr64 a 1 ^^^ rotr64 a 8 ^^^ a / 2 ^ 7
  let s1 := rotr64 b 19 ^^^ rotr64 b 61 ^^^ b / 2 ^ 6
  (w.getD 0 0 + s0 + w.getD 9 0 + s1) % 2 ^ 64

/-- One round on the eight working words. -/
def shaRound (v : List Nat) (k w : Nat) : List Nat :=
  match v with
  | [a, b, c, d, e, f, g, h] =>
    let s1 := rotr64 e 14 ^^^ rotr64 e 18 ^^^ rotr64 e 41
    let ch := (e &&& f) ^^^ ((2 ^ 64 - 1 - e) &&& g)
    let t1 := h + s1 + ch + k + w
    let s0 := rotr64 a 28 ^^^ rotr64 a 34 ^^^ rotr64 a 39
    let maj := (a &&& b) ^^^ (a &&& c) ^^^ (b &&& c)
    [(t1 + s0 + maj) % 2 ^ 64, a, b, c, (d + t1) % 2 ^ 64, e, f, g]
  | _ => v

/-- The rounds of one block: the constants left, the working words, the schedule window. -/
def shaRounds : List Nat → List Nat → List Nat → List Nat
  | [], v, _ => v
  | k :: ks, v, w => shaRounds ks (shaRound v k (w.headD 0)) (w.drop 1 ++ [shaNext w])

/-- One block of 128 bytes. -/
def shaBlock (v : List Nat) (blk : List Byte) : List Nat :=
  let w := (List.range 16).map (fun i => beAt blk (8 * i) 8)
  (v.zip (shaRounds shaK v w)).map (fun p => (p.1 + p.2) % 2 ^ 64)

/-- The blocks of a padded message. -/
def shaBlocks : (n : Nat) → List Nat → List Byte → List Nat
  | 0, v, _ => v
  | n + 1, v, m => shaBlocks n (shaBlock v (m.take 128)) (m.drop 128)

/-- SHA-384 of a message. -/
def sha384 (m : List Byte) : List Byte :=
  let k := (239 - m.length % 128) % 128
  let p := m ++ [0x80] ++ zeros k ++ beBytes 16 (8 * m.length)
  ((shaBlocks (p.length / 128) shaInit p).take 6).flatMap (beBytes 8)

/-- HMAC-SHA-384 under a key of at most 128 bytes. -/
def hmac384 (key m : List Byte) : List Byte :=
  let k := key ++ zeros (128 - key.length)
  sha384 (k.map (fun b => b ^^^ 0x5C) ++ sha384 (k.map (fun b => b ^^^ 0x36) ++ m))

/-! ### AES-256, the KW wrap and GMAC (R82, R437) -/

/-- Multiply by x in the AES field. -/
def xtime (a : Nat) : Nat := if 128 ≤ a then (2 * a - 256) ^^^ 0x1B else 2 * a

/-- Multiply in the AES field, over the bits of b from `n` down. -/
def aesMul (a b : Nat) : (n : Nat) → Nat
  | 0 => 0
  | n + 1 => xtimes n (if bit b n then a else 0) ^^^ aesMul a b n
where
  /-- Multiply by x^n. -/
  xtimes : (n : Nat) → Nat → Nat
    | 0, a => a
    | n + 1, a => xtimes n (xtime a)

/-- a^254, the inverse in the AES field (0 for 0). -/
def aesInv (a : Nat) : Nat :=
  (List.range 7).foldl (fun r i => aesMul r (pow2 (i + 1)) 8) 1
where
  /-- a^(2^k). -/
  pow2 : Nat → Nat
    | 0 => a
    | k + 1 => aesMul (pow2 k) (pow2 k) 8

/-- The S-box entry of a byte. -/
def sboxOf (a : Nat) : Nat :=
  let b := aesInv a
  (List.range 8).foldl (fun r i =>
    r + 2 ^ i * b2n ((bit b i).xor ((bit b ((i + 4) % 8)).xor ((bit b ((i + 5) % 8)).xor
      ((bit b ((i + 6) % 8)).xor ((bit b ((i + 7) % 8)).xor (bit 0x63 i)))))) ) 0

/-- The S-box. -/
def sbox : List Nat := (List.range 256).map sboxOf

/-- The inverse S-box. -/
def sboxInv : List Nat := (List.range 256).map (fun b => sbox.findIdx (· == b))

/-- The round words of AES-256, newest first: from the 8 key words up to `n` more. -/
def aesExpand : (n i rc : Nat) → List (List Nat) → List (List Nat)
  | 0, _, _, ws => ws
  | n + 1, i, rc, ws =>
    let t := ws.headD []
    let sub := t.map (fun b => sbox.getD b 0)
    let t' := if i % 8 = 0 then
        match sub.drop 1 ++ sub.take 1 with
        | x :: r => (x ^^^ rc) :: r
        | [] => []
      else if i % 8 = 4 then sub else t
    let w := ((ws.getD 7 []).zip t').map (fun p => p.1 ^^^ p.2)
    aesExpand n (i + 1) (if i % 8 = 0 then xtime rc else rc) (w :: ws)

/-- The 15 round keys of 16 bytes. -/
def aesKeys (key : List Byte) : List (List Nat) :=
  let k := key.map BitVec.toNat
  let ws := ((List.range 8).map (fun i => slice k (4 * i) 4)).reverse
  let all := (aesExpand 52 8 1 ws).reverse
  (List.range 15).map (fun r => (slice all (4 * r) 4).flatten)

/-- Add a round key. -/
def aesAdd (st k : List Nat) : List Nat := (st.zip k).map (fun p => p.1 ^^^ p.2)

/-- Rotate row r of the state by `sign` r columns. -/
def aesShift (st : List Nat) (back : Bool) : List Nat :=
  (List.range 16).map (fun i =>
    let r := i % 4
    let c := i / 4
    st.getD (4 * ((c + (if back then 4 - r else r)) % 4) + r) 0)

/-- Mix each column with a circulant of first row `m`. -/
def aesMix (st m : List Nat) : List Nat :=
  (List.range 16).map (fun i =>
    let r := i % 4
    let c := i / 4
    (List.range 4).foldl (fun a j => a ^^^ aesMul (st.getD (4 * c + j) 0) (m.getD ((j + 4 - r) % 4) 0) 4) 0)

/-- Rounds 1 to 14 of the cipher. -/
def aesEncRounds : List (List Nat) → List Nat → List Nat
  | [], st => st
  | [k], st => aesAdd (aesShift (st.map (fun b => sbox.getD b 0)) false) k
  | k :: ks, st => aesEncRounds ks (aesAdd (aesMix (aesShift (st.map (fun b => sbox.getD b 0)) false) [2, 3, 1, 1]) k)

/-- AES-256 of one 16-byte block. -/
def aesEnc (keys : List (List Nat)) (blk : List Byte) : List Byte :=
  (aesEncRounds (keys.drop 1) (aesAdd (blk.map BitVec.toNat) (keys.headD []))).map (BitVec.ofNat 8)

/-- Rounds of the inverse cipher, on the round keys from 13 down to 0. -/
def aesDecRounds : List (List Nat) → List Nat → List Nat
  | [], st => st
  | [k], st => aesAdd ((aesShift st true).map (fun b => sboxInv.getD b 0)) k
  | k :: ks, st =>
    aesDecRounds ks (aesMix (aesAdd ((aesShift st true).map (fun b => sboxInv.getD b 0)) k) [14, 11, 13, 9])

/-- The inverse of AES-256 on one block. -/
def aesDec (keys : List (List Nat)) (blk : List Byte) : List Byte :=
  let r := keys.reverse
  (aesDecRounds (r.drop 1) (aesAdd (blk.map BitVec.toNat) (r.headD []))).map (BitVec.ofNat 8)

/-- XOR of two byte strings. -/
def xorBytes (a b : List Byte) : List Byte := (a.zip b).map (fun p => p.1 ^^^ p.2)

/-- The initial value of KW. -/
def kwIv : List Byte := List.replicate 8 0xA6

/-- KW of a 32-byte key: 6 passes over its 4 half-blocks. -/
def kwWrap (kek key : List Byte) : List Byte :=
  let ks := aesKeys kek
  let r := (List.range 24).foldl (fun (st : List Byte × List Byte) t =>
    let i := t % 4
    let b := aesEnc ks (st.1 ++ slice st.2 (8 * i) 8)
    (xorBytes (b.take 8) (beBytes 8 (t + 1)), splice st.2 (8 * i) (b.drop 8))) (kwIv, key)
  r.1 ++ r.2

/-- The inverse of KW; `none` when the integrity check fails. -/
def kwUnwrap (kek w : List Byte) : Option (List Byte) :=
  let ks := aesKeys kek
  let r := (List.range 24).foldl (fun (st : List Byte × List Byte) k =>
    let t := 23 - k
    let i := t % 4
    let b := aesDec ks (xorBytes st.1 (beBytes 8 (t + 1)) ++ slice st.2 (8 * i) 8)
    (b.take 8, splice st.2 (8 * i) (b.drop 8))) (w.take 8, w.drop 8)
  if r.1 = kwIv then some r.2 else none

/-- Multiply in GF(2^128) as GHASH numbers its bits, over the bits of x from the left. -/
def ghashMul (x y : Nat) : Nat :=
  ((List.range 128).foldl (fun (zv : Nat × Nat) i =>
    (if bit x (127 - i) then zv.1 ^^^ zv.2 else zv.1,
     if bit zv.2 0 then zv.2 / 2 ^^^ 0xE1 * 2 ^ 120 else zv.2 / 2)) (0, y)).1

/-- GHASH over whole blocks. -/
def ghash (h : Nat) : (n : Nat) → List Byte → Nat → Nat
  | 0, _, y => y
  | n + 1, m, y => ghash h n (m.drop 16) (ghashMul (y ^^^ beNat (m.take 16)) h)

/-- The first 96 bits of AES-256-GMAC under a 96-bit nonce, the message being additional authenticated data (R82). -/
def gmac96 (key nonce m : List Byte) : List Byte :=
  let ks := aesKeys key
  let h := beNat (aesEnc ks (zeros 16))
  let p := m ++ zeros ((16 - m.length % 16) % 16) ++ beBytes 8 (8 * m.length) ++ zeros 8
  let y := ghash h (p.length / 16) p 0
  (xorBytes (beBytes 16 y) (aesEnc ks (nonce ++ beBytes 4 1))).take 12

/-! ### ECDSA over P-384 (R440, R443) -/

/-- The field prime of P-384. -/
def p384 : Nat := 2 ^ 384 - 2 ^ 128 - 2 ^ 96 + 2 ^ 32 - 1

/-- The order of its base point. -/
def n384 : Nat :=
  0xFFFFFFFFFFFFFFFFFFFFFFFFFFFFFFFFFFFFFFFFFFFFFFFFC7634D81F4372DDF581A0DB248B0A77AECEC196ACCC52973

/-- The coefficient b. -/
def b384 : Nat :=
  0xB3312FA7E23EE7E4988E056BE3F82D19181D9C6EFE8141120314088F5013875AC656398D8A2ED19D2A85C8EDD3EC2AEF

/-- The base point. -/
def g384 : Nat × Nat :=
  (0xAA87CA22BE8B05378EB1C71EF320AD746E1D3B628BA79B9859F741E082542A385502F25DBF55296C3A545E3872760AB7,
   0x3617DE4A96262C6F5D9E98BF9292DC29F8F41DBD289A147CE9DA3113B5F0B8C00A60B1CE1D7E819D7A431D7C90EA0E5F)

/-- a^e mod m over the bits of e from `k` down. -/
def powMod (a e m : Nat) : (k : Nat) → Nat
  | 0 => 1 % m
  | k + 1 =>
    let r := powMod (a * a % m) (e / 2) m k
    if e % 2 = 1 then r * a % m else r

/-- The inverse modulo a prime. -/
def invMod (a m : Nat) : Nat := powMod (a % m) (m - 2) m 384

/-- A point in Jacobian coordinates (X, Y, Z); Z = 0 is the neutral element. -/
abbrev JPoint := Nat × Nat × Nat

/-- Double a point. -/
def jDouble (a : JPoint) : JPoint :=
  let p := p384
  let (x, y, z) := a
  if z = 0 ∨ y = 0 then (1, 1, 0)
  else
    let d := z * z % p
    let g := y * y % p
    let b := x * g % p
    let al := 3 * ((x + (p - d)) % p) * ((x + d) % p) % p
    let x3 := (al * al + 8 * (p - b)) % p
    let z3 := 2 * y * z % p
    let y3 := (al * ((4 * b + (p - x3)) % p) + 8 * (p - g * g % p)) % p
    (x3, y3, z3)

/-- Add two points. -/
def jAdd (a b : JPoint) : JPoint :=
  let p := p384
  let (x1, y1, z1) := a
  let (x2, y2, z2) := b
  if z1 = 0 then b
  else if z2 = 0 then a
  else
    let z11 := z1 * z1 % p
    let z22 := z2 * z2 % p
    let u1 := x1 * z22 % p
    let u2 := x2 * z11 % p
    let s1 := y1 * z2 * z22 % p
    let s2 := y2 * z1 * z11 % p
    let h := (u2 + (p - u1)) % p
    let r := (s2 + (p - s1)) % p
    if h = 0 then (if r = 0 then jDouble a else (1, 1, 0))
    else
      let h2 := h * h % p
      let h3 := h * h2 % p
      let v := u1 * h2 % p
      let x3 := (r * r + (p - h3) + 2 * (p - v)) % p
      (x3, (r * ((v + (p - x3)) % p) + (p - s1 * h3 % p)) % p, h * z1 * z2 % p)

/-- k times a point, over the bits of k. -/
def jMul (a : JPoint) : (n k : Nat) → JPoint
  | 0, _ => (1, 1, 0)
  | n + 1, k =>
    let r := jMul (jDouble a) n (k / 2)
    if k % 2 = 1 then jAdd r a else r

/-- Affine coordinates; `none` for the neutral element. -/
def jAffine (a : JPoint) : Option (Nat × Nat) :=
  let (x, y, z) := a
  if z = 0 then none
  else
    let i := invMod z p384
    let i2 := i * i % p384
    some (x * i2 % p384, y * i2 % p384 * i % p384)

/-- x^3 - 3x + b. -/
def curve384 (x : Nat) : Nat := (x * x % p384 * x + 3 * (p384 - x % p384) + b384) % p384

/-- A point of the curve with coordinates below p. -/
def onCurve (x y : Nat) : Bool := decide (x < p384) && decide (y < p384) && y * y % p384 == curve384 x

/-- r and s of a signature r ‖ s, when both lie from 1 to n - 1. -/
def sigParts (sig : List Byte) : Option (Nat × Nat) :=
  let r := beAt sig 0 48
  let s := beAt sig 48 48
  if 0 < r ∧ r < n384 ∧ 0 < s ∧ s < n384 then some (r, s) else none

/-- A signature over SHA-384 of a message verifies under the key X ‖ Y (R443). -/
def ecdsaOk (pub msg sig : List Byte) : Bool :=
  let x := beAt pub 0 48
  let y := beAt pub 48 48
  match sigParts sig with
  | none => false
  | some (r, s) =>
    if !onCurve x y then false
    else
      let e := beNat (sha384 msg)
      let w := invMod s n384
      let q := jAdd (jMul (g384.1, g384.2, 1) 384 (e * w % n384)) (jMul (x, y, 1) 384 (r * w % n384))
      match jAffine q with
      | some (qx, _) => qx % n384 == r
      | none => false

/-- The keys X ‖ Y under which a signature over a message verifies. -/
def signerKeys (msg sig : List Byte) : List (List Byte) :=
  match sigParts sig with
  | none => []
  | some (r, s) =>
    let e := beNat (sha384 msg)
    let ri := invMod r n384
    ([r, r + n384].filter (fun x => decide (x < p384))).flatMap (fun x =>
      let y0 := powMod (curve384 x) ((p384 + 1) / 4) p384 384
      if y0 * y0 % p384 ≠ curve384 x then []
      else [y0, (p384 - y0) % p384].filterMap (fun y =>
        let q := jAdd (jMul (x, y, 1) 384 (s * ri % n384)) (jMul (g384.1, g384.2, 1) 384 ((n384 - e % n384) * ri % n384))
        (jAffine q).map (fun a => beBytes 48 a.1 ++ beBytes 48 a.2)))

/-- A signature over a message verifies under a key whose SHA-384 digest is `owner` (R440). -/
def ownerSigned (owner msg sig : List Byte) : Bool := (signerKeys msg sig).any (fun k => sha384 k == owner)

end Sys2Proof.Machine
end

