-- ==== Sys2Proof/Machine/Crc.lean ====
section
/-! DEFINITION. The Rim check-value (R176): CRC-32C in reflected form, folded with a word. -/

namespace Sys2Proof.Machine

/-- One bit of the reflected CRC-32C register (R176). -/
def crcBit (r : Nat) : Nat := if r % 2 = 1 then r / 2 ^^^ 0x82F63B78 else r / 2

/-- One byte into the register, least significant bit first (R176). -/
def crcByte (r : Nat) (b : Byte) : Nat :=
  crcBit (crcBit (crcBit (crcBit (crcBit (crcBit (crcBit (crcBit (r ^^^ b.toNat))))))))

/-- The register after the bytes, from 0xFFFF_FFFF (R176). -/
def crcReg (bs : List Byte) : Nat := bs.foldl crcByte 0xFFFFFFFF

/-- The Rim check-value of `bs` under the fold word (R176). -/
def rim (bs : List Byte) (fold : Nat) : Nat := crcReg bs ^^^ 0xFFFFFFFF ^^^ fold % 2 ^ 32

end Sys2Proof.Machine
end

