-- ==== Sys2Proof/Machine/RegMap.lean ====
section
/-! DEFINITION. The register map (R455-R460 and the register tables of every chapter): one row per register with its
offset, the number of consecutive registers, its access code (R10), whether it is privileged (R362), its value at reset
and the mask of its defined bits (R9), page by page; and one constant per register and field the model names,
written BLOCK.REGISTER.FIELD as in R8. -/

namespace Sys2Proof.Machine

/-- The access codes of R10. -/
inductive Acc where
  | rw | ro | wo | w1c | rc | rws
  deriving DecidableEq, Repr

/-- One row of a register table. `cnt` registers stand at `off`, `off + 4`, ... -/
structure RegRow where
  off : Nat
  cnt : Nat
  acc : Acc
  priv : Bool
  rst : Nat
  mask : Nat
  deriving DecidableEq, Repr

/-- A register field: its page (the block's first instance), its offset in the page and its bits [hi:lo]. -/
structure Fld where
  page : Nat
  off : Nat
  hi : Nat
  lo : Nat
  deriving DecidableEq, Repr

/-- Register rows of the HDR page (the common header, R457). -/
def rowsHDR : List RegRow :=
  [⟨0x000, 1, .ro, false, 0x0, 0xFFFFFFFF⟩ /- PG_ID -/,
   ⟨0x004, 1, .ro, false, 0x4201, 0xFFFF⟩ /- PG_VER -/,
   ⟨0x008, 1, .rw, false, 0x1, 0x7⟩ /- PG_CTL -/,
   ⟨0x00C, 1, .ro, false, 0x0, 0xF⟩ /- PG_STS -/,
   ⟨0x010, 1, .w1c, false, 0x0, 0xFFFFFFFF⟩ /- PG_EVT -/,
   ⟨0x014, 1, .rw, false, 0x0, 0xFFFFFFFF⟩ /- PG_EVT_EN -/,
   ⟨0x018, 1, .wo, false, 0x0, 0xFFFFFFFF⟩ /- PG_EVT_FORCE -/,
   ⟨0x01C, 1, .rc, false, 0x0, 0xFFFF⟩ /- PG_ERR_CNT -/,
   ⟨0x020, 1, .ro, false, 0x0, 0xFFFF01FF⟩ /- PG_ERR_FIRST -/,
   ⟨0x024, 1, .ro, false, 0x0, 0xFFFFFFFF⟩ /- PG_BEAM_AT -/]

/-- Register rows of the SYS page. -/
def rowsSYS : List RegRow :=
  [⟨0x100, 1, .ro, false, 0x72500042, 0xFFFF01FF⟩ /- MOD_ID -/,
   ⟨0x104, 1, .ro, false, 0x0, 0xFFFFFFFF⟩ /- SERIAL_LO -/,
   ⟨0x108, 1, .ro, false, 0x0, 0xFFFFFFFF⟩ /- SERIAL_HI -/,
   ⟨0x10C, 1, .ro, false, 0x0, 0xFFFFFFFF⟩ /- MODID_LO -/,
   ⟨0x110, 1, .ro, false, 0x0, 0xFFFFFFFF⟩ /- MODID_HI -/,
   ⟨0x114, 1, .ro, false, 0x0, 0xFFFFFFFF⟩ /- UPTIME -/,
   ⟨0x118, 1, .ro, false, 0x0, 0xFFFFFFFF⟩ /- LIFE_S -/,
   ⟨0x11C, 1, .rws, false, 0x4363, 0x1FFFF⟩ /- RAP_CFG -/,
   ⟨0x120, 1, .rc, false, 0x0, 0xFFFFFFFF⟩ /- RAP_BAD -/,
   ⟨0x124, 1, .rc, false, 0x0, 0xFFFFFFFF⟩ /- RAP_DUP -/,
   ⟨0x128, 1, .ro, false, 0x0, 0x7⟩ /- MGMT_STS -/,
   ⟨0x12C, 1, .rw, false, 0x0, 0xFFFFFFFF⟩ /- SCRATCH -/,
   ⟨0x130, 1, .ro, false, 0xD4, 0xFFF⟩ /- PAGE_CNT -/,
   ⟨0x140, 1, .ro, false, 0x0, 0xFFFF00FF⟩ /- PWR_STS -/,
   ⟨0x144, 1, .ro, false, 0x0, 0xFFFFFFFF⟩ /- FEED_V -/,
   ⟨0x148, 1, .ro, false, 0x0, 0xFFFF⟩ /- IN_PWR -/,
   ⟨0x160, 1, .ro, false, 0x0, 0xFFFFFF⟩ /- START_STS -/,
   ⟨0x164, 1, .ro, false, 0xFFFF, 0xFFFFFFFF⟩ /- START_T -/,
   ⟨0x168, 1, .wo, false, 0x0, 0xFFFF0003⟩ /- RST_CTL -/,
   ⟨0x16C, 1, .ro, false, 0x0, 0xF⟩ /- RST_CAUSE -/] ++
  [⟨0x170, 1, .ro, false, 0x0, 0x1F⟩ /- ALM_STS -/]

/-- Register rows of the SIL page. -/
def rowsSIL : List RegRow :=
  [⟨0x100, 1, .ro, false, 0x0, 0xFFFF0007⟩ /- CPU_STS -/,
   ⟨0x104, 1, .wo, false, 0x0, 0xFFFFFFFF⟩ /- WDG_SVC -/,
   ⟨0x108, 1, .ro, false, 0x0, 0xFFFFFFFF⟩ /- WDG_STS -/,
   ⟨0x10C, 1, .rw, false, 0x0, 0x1⟩ /- TEXT_CTL -/,
   ⟨0x200, 10, .rw, false, 0x20202020, 0xFFFFFFFF⟩ /- TEXT_A -/,
   ⟨0x240, 10, .rw, false, 0x20202020, 0xFFFFFFFF⟩ /- TEXT_B -/]

/-- Register rows of the ING page. -/
def rowsING : List RegRow :=
  [⟨0x100, 1, .rw, false, 0x4362, 0xFFFF⟩ /- UDP_PORT -/,
   ⟨0x104, 1, .rw, false, 0x0, 0x3FFFF01⟩ /- T5_CTL -/,
   ⟨0x108, 1, .rw, false, 0x0, 0xFFFF⟩ /- RING_SEL -/,
   ⟨0x10C, 1, .rw, false, 0x0, 0xF1F07⟩ /- RING_CFG -/,
   ⟨0x110, 1, .rw, false, 0x0, 0xFFFFFFC0⟩ /- RING_ADDR_LO -/,
   ⟨0x114, 1, .rw, false, 0x0, 0x1F⟩ /- RING_ADDR_HI -/,
   ⟨0x118, 1, .ro, false, 0x0, 0x1FFFF⟩ /- RING_FILL -/,
   ⟨0x11C, 1, .rc, false, 0x0, 0xFFFF⟩ /- RING_DROP -/,
   ⟨0x120, 1, .rc, false, 0x0, 0xFFFFFFFF⟩ /- STAT_PKT -/,
   ⟨0x124, 1, .rc, false, 0x0, 0xFFFFFFFF⟩ /- STAT_REJ -/,
   ⟨0x128, 1, .rc, false, 0x0, 0xFFFFFFFF⟩ /- STAT_COMMIT -/,
   ⟨0x12C, 1, .rc, false, 0x0, 0xFFFFFFFF⟩ /- STAT_SUPER -/,
   ⟨0x130, 1, .ro, false, 0x0, 0xFFFFFFFF⟩ /- COMMIT_GEN -/,
   ⟨0x134, 1, .rc, false, 0x0, 0xFFFFFFFF⟩ /- LAND_DROP -/,
   ⟨0x138, 1, .ro, false, 0x0, 0xFFFFFFFF⟩ /- EDIT_LAST -/,
   ⟨0x13C, 1, .ro, false, 0x0, 0xFFFFFF1F⟩ /- EDIT_STS -/,
   ⟨0x140, 1, .ro, false, 0x0, 0xFFFFFFFF⟩ /- EDIT_FRAME -/,
   ⟨0x144, 1, .ro, false, 0x0, 0x1FFFF⟩ /- STAGE_FILL -/,
   ⟨0x148, 1, .ro, false, 0x0, 0xFFFF00FF⟩ /- REJ_LAST -/,
   ⟨0x14C, 1, .ro, false, 0x0, 0xFFFFFFFF⟩ /- REJ_TILE -/] ++
  [⟨0x150, 1, .rw, false, 0x0, 0xFFF⟩ /- STREAM_SEL -/,
   ⟨0x154, 1, .rw, false, 0x0, 0x1FFFF⟩ /- STREAM_RING -/,
   ⟨0x158, 1, .rw, false, 0x0, 0x11FFF⟩ /- DESC_SEL -/,
   ⟨0x200, 16, .ro, false, 0x0, 0xFFFFFFFF⟩ /- DESC_WIN -/]

/-- Register rows of the COL page. -/
def rowsCOL : List RegRow :=
  [⟨0x100, 1, .rw, false, 0x0, 0xFFFFF000⟩ /- CTX_BASE_LO -/,
   ⟨0x104, 1, .rw, false, 0x0, 0x1F⟩ /- CTX_BASE_HI -/,
   ⟨0x108, 1, .rw, false, 0x0, 0xFFF⟩ /- STRM_SEL -/,
   ⟨0x10C, 1, .ro, false, 0x0, 0x7FFFFFF⟩ /- STRM_STS -/,
   ⟨0x110, 1, .ro, false, 0x0, 0xFFFFFFFF⟩ /- STRM_POS -/,
   ⟨0x114, 1, .wo, false, 0x0, 0x3⟩ /- STRM_CTL -/,
   ⟨0x118, 1, .rc, false, 0x0, 0xFFFFFFFF⟩ /- STAT_OUT -/,
   ⟨0x11C, 1, .rc, false, 0x0, 0xFFFFFFFF⟩ /- STAT_FAIL -/,
   ⟨0x120, 1, .ro, false, 0x0, 0xFFF00FF⟩ /- FAIL_LAST -/,
   ⟨0x124, 1, .ro, false, 0x0, 0xFFFFFFFF⟩ /- FAIL_RING -/,
   ⟨0x128, 1, .ro, false, 0x0, 0xFFFFFFFF⟩ /- LANE_BUSY -/,
   ⟨0x130, 1, .rw, false, 0x0, 0x3⟩ /- ENC_SEL -/,
   ⟨0x134, 1, .rw, false, 0x0, 0xFFFFFFC0⟩ /- ENC_SRC_LO -/,
   ⟨0x138, 1, .rw, false, 0x0, 0x1F⟩ /- ENC_SRC_HI -/,
   ⟨0x13C, 1, .rw, false, 0x0, 0x7FFFFFF⟩ /- ENC_LEN -/,
   ⟨0x140, 1, .rw, false, 0x0, 0xFFFFFFC0⟩ /- ENC_DST_LO -/,
   ⟨0x144, 1, .rw, false, 0x0, 0x1F⟩ /- ENC_DST_HI -/,
   ⟨0x148, 1, .rw, false, 0x0, 0xFFFFFFF⟩ /- ENC_CAP -/,
   ⟨0x14C, 1, .rw, false, 0x0, 0x80001F03⟩ /- ENC_CTL -/,
   ⟨0x150, 1, .ro, false, 0x0, 0xF⟩ /- ENC_STS -/] ++
  [⟨0x154, 1, .ro, false, 0x0, 0xFFFFFFF⟩ /- ENC_OUT -/]

/-- Register rows of the FRS page. -/
def rowsFRS : List RegRow :=
  [⟨0x100, 1, .rws, false, 0xF017, 0xFF1F⟩ /- ALM_CTL -/,
   ⟨0x104, 1, .ro, false, 0x0, 0xFF003F⟩ /- ALM_STS -/,
   ⟨0x108, 1, .ro, false, 0x0, 0x1F⟩ /- TIME_STS -/,
   ⟨0x10C, 1, .ro, false, 0xFFFFFFFF, 0xFFFFFFFF⟩ /- BOUND -/,
   ⟨0x110, 1, .ro, false, 0x0, 0xFFFFFFFF⟩ /- NOW -/,
   ⟨0x114, 1, .ro, false, 0x0, 0x7FFFF⟩ /- CNT_CONTENT -/,
   ⟨0x118, 1, .ro, false, 0x0, 0x7FFFF⟩ /- CNT_NODATA -/,
   ⟨0x11C, 1, .ro, false, 0x0, 0x7FFFF⟩ /- CNT_STALE -/,
   ⟨0x120, 1, .ro, false, 0x0, 0x7FFFF⟩ /- CNT_UNVER -/,
   ⟨0x124, 1, .ro, false, 0x0, 0x7FFFF⟩ /- CNT_FAULT -/,
   ⟨0x128, 1, .ro, false, 0x0, 0x8003FFFF⟩ /- FIRST_STALE -/,
   ⟨0x12C, 1, .rc, false, 0x0, 0xFFFFFFFF⟩ /- STAT_WITHDRAW -/,
   ⟨0x130, 1, .rw, false, 0x0, 0x3FFFF⟩ /- TILE_SEL -/,
   ⟨0x134, 1, .ro, false, 0x0, 0x7F⟩ /- TILE_VERDICT -/,
   ⟨0x138, 1, .ro, false, 0x0, 0xFFFFFFFF⟩ /- TILE_AGE -/,
   ⟨0x140, 4, .ro, false, 0x0, 0xFFFFFFFF⟩ /- ENT -/]

/-- Register rows of the RIM page. -/
def rowsRIM : List RegRow :=
  [⟨0x100, 1, .rws, false, 0x0, 0xFFFF⟩ /- WALL_ID -/,
   ⟨0x104, 1, .rc, false, 0x0, 0xFFFFFFFF⟩ /- TST_ERR -/,
   ⟨0x108, 1, .rc, false, 0x0, 0xFFFFFFFF⟩ /- LOAD_ERR -/,
   ⟨0x10C, 1, .ro, false, 0x0, 0xFFFFFFFF⟩ /- RET_STS -/,
   ⟨0x110, 1, .rw, false, 0x0, 0xF⟩ /- RET_SEL -/,
   ⟨0x114, 1, .rc, false, 0x0, 0xFFFFFFFF⟩ /- RET_MIS -/,
   ⟨0x118, 1, .ro, false, 0x0, 0x1FFFFF⟩ /- RET_LAST -/,
   ⟨0x11C, 1, .rc, false, 0x0, 0xFFFFFFFF⟩ /- DIG_MIS -/,
   ⟨0x120, 1, .rc, false, 0x0, 0xFFFFFFFF⟩ /- DIG_SKIP -/,
   ⟨0x124, 1, .ro, false, 0x0, 0x1FFFF⟩ /- DIG_LAST -/,
   ⟨0x128, 1, .rw, false, 0x0, 0xFFFFFFFF⟩ /- CALC_ADDR_LO -/,
   ⟨0x12C, 1, .rw, false, 0x0, 0x1F⟩ /- CALC_ADDR_HI -/,
   ⟨0x130, 1, .rw, false, 0x0, 0xFFFFFFFF⟩ /- CALC_LEN -/,
   ⟨0x134, 1, .rw, false, 0x0, 0xFFFFFFFF⟩ /- CALC_FOLD -/,
   ⟨0x138, 1, .rw, false, 0x0, 0x80000000⟩ /- CALC_CTL -/,
   ⟨0x13C, 1, .ro, false, 0x0, 0x7⟩ /- CALC_STS -/,
   ⟨0x140, 1, .ro, false, 0x0, 0xFFFFFFFF⟩ /- CALC_RES -/]

/-- Register rows of the WFT page. -/
def rowsWFT : List RegRow :=
  [⟨0x100, 1, .rw, false, 0x0, 0xFFFFFFC0⟩ /- SQ_BASE_LO -/,
   ⟨0x104, 1, .rw, false, 0x0, 0x1F⟩ /- SQ_BASE_HI -/,
   ⟨0x108, 1, .rw, false, 0x0, 0xF⟩ /- SQ_SIZE -/,
   ⟨0x10C, 1, .rw, false, 0x0, 0xFFF⟩ /- SQ_TAIL -/,
   ⟨0x110, 1, .ro, false, 0x0, 0xFFF⟩ /- SQ_HEAD -/,
   ⟨0x114, 1, .rw, false, 0x1, 0x7⟩ /- CTL -/,
   ⟨0x118, 1, .ro, false, 0x0, 0xFFFF0007⟩ /- STS -/,
   ⟨0x11C, 1, .ro, false, 0x0, 0xFFFFFFFF⟩ /- LIST_DONE -/,
   ⟨0x120, 1, .ro, false, 0x0, 0xFFFF00FF⟩ /- ERR -/,
   ⟨0x124, 1, .ro, false, 0x0, 0xFFFFFFFF⟩ /- ERR_LIST -/,
   ⟨0x128, 1, .ro, false, 0x0, 0xFF7FFF⟩ /- WM_STS -/,
   ⟨0x12C, 1, .rc, false, 0x0, 0xFFFFFFFF⟩ /- STAT_CMD -/,
   ⟨0x130, 1, .rc, false, 0x0, 0xFFFFFFFF⟩ /- STAT_LATE -/,
   ⟨0x134, 1, .rc, false, 0x0, 0xFFFFFFFF⟩ /- STAT_ERR -/,
   ⟨0x138, 1, .rws, false, 0x1, 0x1⟩ /- WR_CTL -/]

/-- Register rows of the WV page. -/
def rowsWV : List RegRow :=
  [⟨0x100, 1, .rw, false, 0x1, 0x3⟩ /- LVR_CTL -/,
   ⟨0x104, 1, .rw, false, 0x0, 0x1FF0003⟩ /- MAP_CTL -/,
   ⟨0x108, 1, .rw, false, 0x0, 0xFFFFFFC0⟩ /- MAP_ADDR_LO -/,
   ⟨0x10C, 1, .rw, false, 0x0, 0x1F⟩ /- MAP_ADDR_HI -/,
   ⟨0x110, 1, .ro, false, 0x0, 0xFFFFFFFF⟩ /- MAP_KU -/,
   ⟨0x114, 1, .ro, false, 0x0, 0xFFFFFFFF⟩ /- MAP_KY -/,
   ⟨0x118, 1, .ro, false, 0x0, 0xFFFFFFFF⟩ /- MAP_P0 -/,
   ⟨0x11C, 1, .rw, false, 0x0, 0x1⟩ /- FLT_CTL -/,
   ⟨0x120, 1, .rw, false, 0x6, 0x7⟩ /- OUT_CTL -/,
   ⟨0x124, 1, .rw, false, 0x0, 0xFFFFFFC0⟩ /- UNI_ADDR_LO -/,
   ⟨0x128, 1, .rw, false, 0x0, 0x1F⟩ /- UNI_ADDR_HI -/,
   ⟨0x12C, 1, .rw, false, 0x0, 0xFFFFFFC0⟩ /- UNI_NODE_LO -/,
   ⟨0x130, 1, .rw, false, 0x0, 0x1F⟩ /- UNI_NODE_HI -/,
   ⟨0x134, 1, .rw, false, 0x0, 0xF7FF⟩ /- LUT_SEL -/,
   ⟨0x138, 1, .rw, false, 0x0, 0xFFFF⟩ /- LUT_DATA -/,
   ⟨0x13C, 1, .rw, false, 0x0, 0x3⟩ /- LUT_CTL -/,
   ⟨0x140, 1, .rw, false, 0x0, 0xFFFF⟩ /- SLOT_SEL -/,
   ⟨0x144, 1, .ro, false, 0x0, 0x801FFFFF⟩ /- SLOT_INFO -/,
   ⟨0x148, 1, .ro, false, 0x0, 0x3FFF007F⟩ /- BAND_STS -/,
   ⟨0x14C, 1, .rc, false, 0x0, 0xFFFFFFFF⟩ /- STAT_REFUSE -/] ++
  [⟨0x150, 1, .rc, false, 0x0, 0xFFFFFFFF⟩ /- STAT_CLAMP -/,
   ⟨0x154, 1, .rc, false, 0x0, 0xFFFFFFFF⟩ /- STAT_ECC_COR -/,
   ⟨0x158, 1, .rc, false, 0x0, 0xFFFFFFFF⟩ /- STAT_ECC_UNC -/,
   ⟨0x15C, 1, .ro, false, 0x0, 0xFFFF03FF⟩ /- RSV_STS -/,
   ⟨0x160, 1, .rw, false, 0x0, 0xFFFFFFFF⟩ /- PROBE_SEL -/,
   ⟨0x164, 1, .ro, false, 0x0, 0x7FFFFF⟩ /- PROBE_STAKE -/,
   ⟨0x168, 1, .ro, false, 0x0, 0x1FF0FFF⟩ /- PROBE_CODE -/]

/-- Register rows of the SCN page. -/
def rowsSCN : List RegRow :=
  [⟨0x100, 1, .rw, false, 0x2FE48, 0x1FFFFF⟩ /- LINE_PER -/,
   ⟨0x104, 1, .rw, false, 0x21FC, 0x3FFF⟩ /- VTOTAL -/,
   ⟨0x108, 1, .rw, false, 0xF0, 0x3FFF⟩ /- RATE_CTL -/,
   ⟨0x10C, 1, .rw, false, 0x0, 0xFFFFFFFF⟩ /- PHASE -/,
   ⟨0x110, 1, .rw, false, 0x0, 0xFFFFFF⟩ /- HS_DELAY -/,
   ⟨0x114, 1, .rw, false, 0x0, 0xFF⟩ /- MUL_SKEW -/,
   ⟨0x118, 1, .rw, false, 0x40, 0xFFF⟩ /- TRIM_MAX -/,
   ⟨0x11C, 1, .ro, false, 0x0, 0xFFFF001F⟩ /- LOCK_STS -/,
   ⟨0x120, 1, .ro, false, 0x0, 0xFFFFFFFF⟩ /- BEAM_LO -/,
   ⟨0x124, 1, .ro, false, 0x0, 0xFFFFFFFF⟩ /- BEAM_HI -/,
   ⟨0x128, 1, .rw, false, 0x0, 0x1FFF3FFF⟩ /- LM_POS -/,
   ⟨0x12C, 1, .rc, false, 0x0, 0xFFFFFFFF⟩ /- UNDR_CNT -/,
   ⟨0x130, 1, .ro, false, 0x0, 0x1FFFF⟩ /- UNDR_FIRST -/,
   ⟨0x134, 1, .rw, false, 0x4, 0x7⟩ /- SHUT_CTL -/,
   ⟨0x138, 1, .ro, false, 0x0, 0xFFFF0F07⟩ /- SHUT_STS -/,
   ⟨0x13C, 1, .rw, false, 0x3E8, 0xFFFF⟩ /- SHUT_MIN -/,
   ⟨0x140, 1, .ro, false, 0x0, 0xFFFFFFFF⟩ /- SHUT_E -/,
   ⟨0x144, 1, .ro, false, 0x0, 0x1FFFFF⟩ /- LINE_EFF -/]

/-- Register rows of the PLK page. -/
def rowsPLK : List RegRow :=
  [⟨0x100, 1, .rw, false, 0xA03, 0xF07⟩ /- LINK_CTL -/,
   ⟨0x104, 1, .ro, false, 0x0, 0xFFFF07⟩ /- LINK_STS -/,
   ⟨0x108, 1, .rw, false, 0x0, 0xF⟩ /- GRP_SEL -/,
   ⟨0x10C, 1, .ro, false, 0x0, 0x1F7FFF⟩ /- GRP_STS -/,
   ⟨0x110, 1, .ro, false, 0x0, 0x7FFF⟩ /- GRP_LOCK -/,
   ⟨0x114, 1, .ro, false, 0x0, 0xFFFFFFFF⟩ /- GRP_MAP0 -/,
   ⟨0x118, 1, .ro, false, 0x0, 0xFFFFFFF⟩ /- GRP_MAP1 -/,
   ⟨0x11C, 1, .wo, false, 0x0, 0x7FFF⟩ /- GRP_READMIT -/,
   ⟨0x120, 1, .ro, false, 0x0, 0x3FFFFFF⟩ /- CTRL_STS -/,
   ⟨0x124, 1, .rc, false, 0x0, 0xFFFFFFFF⟩ /- REP_CNT -/,
   ⟨0x128, 1, .rc, false, 0x0, 0xFFFFFFFF⟩ /- REP_BAD -/,
   ⟨0x12C, 1, .rc, false, 0x0, 0xFFFFFFFF⟩ /- MARK_DIS -/]

/-- Register rows of the PDV page. -/
def rowsPDV : List RegRow :=
  [⟨0x100, 1, .rws, false, 0x3001, 0x7F01⟩ /- DC_CTL -/,
   ⟨0x104, 1, .rw, false, 0x0, 0xFFFFFFC0⟩ /- RES_ADDR_LO -/,
   ⟨0x108, 1, .rw, false, 0x0, 0x1F⟩ /- RES_ADDR_HI -/,
   ⟨0x10C, 1, .rw, false, 0x0, 0x7FFFFFFF⟩ /- RES_SEL -/,
   ⟨0x110, 1, .ro, false, 0x0, 0xFFFF⟩ /- RES_VAL -/,
   ⟨0x114, 1, .ro, false, 0x0, 0xFF⟩ /- RES_STS -/,
   ⟨0x118, 1, .rc, false, 0x0, 0xFFFFFFFF⟩ /- STAT_SAT -/,
   ⟨0x11C, 1, .rc, false, 0x0, 0xFFFFFFFF⟩ /- STAT_BLEED -/,
   ⟨0x120, 1, .rc, false, 0x0, 0xFFFFFFFF⟩ /- STAT_TOUCH -/,
   ⟨0x124, 1, .rw, false, 0x0, 0xFFFFFFC0⟩ /- WF_ADDR_LO -/,
   ⟨0x128, 1, .rw, false, 0x0, 0x1F⟩ /- WF_ADDR_HI -/,
   ⟨0x12C, 1, .rw, false, 0x0, 0x703⟩ /- WF_CTL -/,
   ⟨0x130, 1, .ro, false, 0x0, 0xFFFF01FF⟩ /- WV_STS -/,
   ⟨0x134, 1, .ro, false, 0x0, 0x7F⟩ /- RAIL_STS -/,
   ⟨0x138, 1, .rw, false, 0x0, 0xFFFF⟩ /- VCOM_TRIM -/,
   ⟨0x13C, 1, .rw, false, 0xC8, 0xFFF⟩ /- GATE_CTL -/,
   ⟨0x140, 1, .rw, false, 0xA, 0xFF⟩ /- DIS_CTL -/,
   ⟨0x144, 1, .ro, false, 0x0, 0xFFFF001F⟩ /- DIS_STS -/,
   ⟨0x148, 1, .rw, false, 0x500, 0xFFFF⟩ /- HEAT_CTL -/]

/-- Register rows of the DMC page. -/
def rowsDMC : List RegRow :=
  [⟨0x100, 1, .rw, false, 0x7D, 0x800000FF⟩ /- RT_CTL -/,
   ⟨0x104, 1, .ro, false, 0x7D, 0x1FFFF⟩ /- RT_STS -/,
   ⟨0x108, 1, .rw, false, 0x800, 0xFFFFF⟩ /- AGE_LAT -/,
   ⟨0x10C, 1, .rw, false, 0x4000, 0xFFFFF⟩ /- AGE_THR -/,
   ⟨0x110, 1, .rw, false, 0x20000, 0xFFFFF⟩ /- AGE_BKG -/,
   ⟨0x114, 1, .rw, false, 0x100000B0, 0xFFFF00F1⟩ /- RD_CTL -/,
   ⟨0x118, 1, .rw, false, 0x82, 0x3FF⟩ /- REF_CTL -/,
   ⟨0x11C, 1, .ro, false, 0x0, 0xF01⟩ /- REF_STS -/,
   ⟨0x120, 1, .ro, false, 0x0, 0xFFFFFFFF⟩ /- STK_TEMP -/,
   ⟨0x124, 1, .rc, false, 0x0, 0xFFFFFFFF⟩ /- ECC_COR -/,
   ⟨0x128, 1, .rc, false, 0x0, 0xFFFFFFFF⟩ /- ECC_UNC -/,
   ⟨0x12C, 1, .ro, false, 0x0, 0xFFFFFFFF⟩ /- ERR_ADDR_LO -/,
   ⟨0x130, 1, .ro, false, 0x0, 0x31F⟩ /- ERR_ADDR_HI -/,
   ⟨0x134, 1, .rw, false, 0x40, 0xFFFF⟩ /- COR_THR -/,
   ⟨0x138, 1, .rw, false, 0x401, 0xFF01⟩ /- SCRUB_CTL -/,
   ⟨0x13C, 1, .ro, false, 0x0, 0xFFFFFFFF⟩ /- SCRUB_STS -/,
   ⟨0x140, 1, .ro, false, 0x0, 0x1F⟩ /- SR_STS -/,
   ⟨0x144, 1, .ro, false, 0x0, 0x3F00FF⟩ /- TRAIN_STS -/,
   ⟨0x148, 1, .rw, false, 0x0, 0xFFFFFFFF⟩ /- XLATE_LO -/,
   ⟨0x14C, 1, .rw, false, 0x0, 0x1F⟩ /- XLATE_HI -/] ++
  [⟨0x150, 1, .ro, false, 0x0, 0xFFFFFFFF⟩ /- XLATE_OUT -/,
   ⟨0x154, 1, .ro, false, 0x0, 0xFFFFFFFF⟩ /- ROUND_POS -/,
   ⟨0x158, 1, .rc, false, 0x0, 0xFFFFFFFF⟩ /- STAT_RT -/,
   ⟨0x15C, 1, .rc, false, 0x0, 0xFFFFFFFF⟩ /- STAT_NR -/,
   ⟨0x160, 1, .rc, false, 0x0, 0xFFFFFFFF⟩ /- STAT_PROMO -/]

/-- Register rows of the LAN page. -/
def rowsLAN : List RegRow :=
  [⟨0x100, 1, .rw, false, 0x0, 0x1FF⟩ /- LANE_SEL -/,
   ⟨0x104, 1, .ro, false, 0x0, 0xFFFF03FF⟩ /- LANE_STS -/,
   ⟨0x108, 1, .ro, false, 0x0, 0xF7FFF⟩ /- LANE_EQ -/,
   ⟨0x10C, 1, .rc, false, 0x0, 0xFFFFFFFF⟩ /- LANE_ERR -/,
   ⟨0x110, 1, .rw, false, 0x0, 0x3⟩ /- LANE_CTL -/,
   ⟨0x114, 1, .rw, false, 0x0, 0x3F⟩ /- PORT_SEL -/,
   ⟨0x118, 1, .rw, false, 0x2A73, 0x3FFF⟩ /- PORT_CFG -/,
   ⟨0x11C, 1, .ro, false, 0x200000, 0x3FFFFFF⟩ /- PORT_STS -/,
   ⟨0x120, 1, .ro, false, 0x0, 0xFFFF07FF⟩ /- PORT_FAIL -/,
   ⟨0x124, 1, .rw, false, 0x400, 0x1FFF⟩ /- FILL_INT -/,
   ⟨0x128, 1, .rw, false, 0x3E8, 0xFFFF⟩ /- DEGR_THR -/,
   ⟨0x12C, 1, .rc, false, 0x0, 0xFFFFFFFF⟩ /- ETH_FEC_COR -/,
   ⟨0x130, 1, .rc, false, 0x0, 0xFFFFFFFF⟩ /- ETH_FEC_UNC -/]

/-- Register rows of the FAB page. -/
def rowsFAB : List RegRow :=
  [⟨0x100, 1, .rws, false, 0x1, 0xFFFF0003⟩ /- ADDR_CFG -/,
   ⟨0x104, 1, .ro, false, 0x0, 0xFFCFFFFF⟩ /- ADDR_STS -/,
   ⟨0x108, 1, .rws, false, 0x0, 0xFFFF01⟩ /- ROOT_CFG -/,
   ⟨0x10C, 1, .ro, false, 0x0, 0xFFFFFFFF⟩ /- ROOT_ID_LO -/,
   ⟨0x110, 1, .ro, false, 0x0, 0xFFFFFFFF⟩ /- ROOT_ID_HI -/,
   ⟨0x114, 1, .rws, false, 0x0, 0x3FFFF⟩ /- GRID -/,
   ⟨0x118, 1, .rw, false, 0x258140A, 0x3FFFFFF⟩ /- DISC_CTL -/,
   ⟨0x11C, 4, .rws, false, 0x0, 0x3FFFFFFF⟩ /- PDIR -/,
   ⟨0x12C, 1, .rw, false, 0x0, 0x1⟩ /- RT_CTL -/,
   ⟨0x130, 1, .rw, false, 0x0, 0x1FFFF⟩ /- RT_SEL -/,
   ⟨0x134, 1, .rw, false, 0x0, 0x7F7F⟩ /- RT_DATA -/,
   ⟨0x138, 1, .rw, false, 0x0, 0x3F⟩ /- PORT_SEL -/,
   ⟨0x13C, 1, .ro, false, 0x0, 0x77FFF⟩ /- PORT_STS -/,
   ⟨0x140, 1, .wo, false, 0x0, 0x7⟩ /- PORT_CTL -/,
   ⟨0x144, 1, .rc, false, 0x0, 0xFFFFFF⟩ /- PORT_VIOL -/,
   ⟨0x148, 1, .rc, false, 0x0, 0xFFFFFFFF⟩ /- PORT_REPLAY -/,
   ⟨0x14C, 1, .rw, false, 0xA10, 0xFFFFFF⟩ /- VIOL_CFG -/,
   ⟨0x150, 1, .rws, false, 0x0, 0x1FFFF⟩ /- MGR0 -/,
   ⟨0x154, 1, .rws, false, 0x0, 0x1FFFF⟩ /- MGR1 -/,
   ⟨0x158, 1, .rc, false, 0x0, 0xFFFFFFFF⟩ /- STAT_FWD -/] ++
  [⟨0x15C, 1, .rc, false, 0x0, 0xFFFFFFFF⟩ /- STAT_DROP -/,
   ⟨0x160, 1, .ro, false, 0x0, 0xFFFFFFFF⟩ /- NAK_LAST -/,
   ⟨0x164, 1, .rc, false, 0x0, 0xFFFFFFFF⟩ /- TR_DROP -/]

/-- Register rows of the TIM page. -/
def rowsTIM : List RegRow :=
  [⟨0x100, 1, .rws, false, 0x1, 0xFF03⟩ /- CTL -/,
   ⟨0x104, 1, .rws, false, 0xFFFFFF, 0xFFFFFF⟩ /- PORT_ENA0 -/,
   ⟨0x108, 1, .rws, false, 0x0, 0x1FFFF⟩ /- PORT_ENA1 -/,
   ⟨0x10C, 1, .rw, false, 0xFC, 0xFFFFFF⟩ /- LOG_INT -/,
   ⟨0x110, 1, .rw, false, 0x0, 0x3F⟩ /- ASYM_SEL -/,
   ⟨0x114, 1, .rw, false, 0x0, 0xFFFFFFFF⟩ /- ASYM -/,
   ⟨0x118, 1, .ro, false, 0xFF00, 0xFF7F⟩ /- STS -/,
   ⟨0x11C, 1, .ro, false, 0xFFFFFFFF, 0xFFFFFFFF⟩ /- BOUND -/,
   ⟨0x120, 1, .ro, false, 0x0, 0xFFFFFFFF⟩ /- OFFSET -/,
   ⟨0x124, 1, .ro, false, 0x0, 0xFFFFFFFF⟩ /- JUMP -/,
   ⟨0x128, 1, .rw, true, 0x0, 0x1⟩ /- JUMP_CTL -/,
   ⟨0x12C, 1, .rws, false, 0x3E8, 0xFFFFFF⟩ /- JUMP_THR -/,
   ⟨0x130, 1, .rws, false, 0x3E8, 0xFFFFFF⟩ /- VALID_LIM -/,
   ⟨0x134, 1, .rw, false, 0x64, 0xFFFFFF⟩ /- SLEW_LIM -/,
   ⟨0x138, 1, .rw, false, 0xA0064, 0xFFFFFFFF⟩ /- HOLD_RATE -/,
   ⟨0x13C, 1, .rw, false, 0x20100, 0xFFFFFF01⟩ /- PPS_CFG -/,
   ⟨0x140, 1, .rw, false, 0x64, 0xFFFFFF⟩ /- ACC_UNK -/,
   ⟨0x144, 1, .ro, false, 0x0, 0xFFFF⟩ /- SEC_HI -/,
   ⟨0x148, 1, .ro, false, 0x0, 0xFFFFFFFF⟩ /- SEC_LO -/,
   ⟨0x14C, 1, .ro, false, 0x0, 0x3FFFFFFF⟩ /- NSEC -/] ++
  [⟨0x150, 1, .ro, false, 0x0, 0xFFFFFFFF⟩ /- NS_RAW -/,
   ⟨0x154, 1, .ro, false, 0x0, 0xFFFFFFFF⟩ /- GM_ID_LO -/,
   ⟨0x158, 1, .ro, false, 0x0, 0xFFFFFFFF⟩ /- GM_ID_HI -/,
   ⟨0x15C, 1, .ro, false, 0x0, 0xFFFFFFFF⟩ /- HOLD_T -/,
   ⟨0x160, 1, .rc, false, 0x0, 0xFFFFFFFF⟩ /- STAT_STEP -/,
   ⟨0x164, 1, .rc, false, 0x0, 0xFFFFFFFF⟩ /- STAT_DROP -/]

/-- Register rows of the LNT page. -/
def rowsLNT : List RegRow :=
  [⟨0x100, 1, .rw, false, 0x0, 0xFF⟩ /- SLOT_SEL -/,
   ⟨0x104, 1, .rw, false, 0x0, 0x3FFF0007⟩ /- SLOT_CFG -/,
   ⟨0x108, 1, .rw, false, 0x0, 0x1FFF⟩ /- SLOT_WC -/,
   ⟨0x10C, 1, .rw, false, 0x0, 0xFFFFFFFF⟩ /- SLOT_FRAME -/,
   ⟨0x110, 8, .w1c, false, 0x0, 0xFFFFFFFF⟩ /- FIRED -/,
   ⟨0x130, 1, .rw, false, 0x0, 0xF⟩ /- CMP_SEL -/,
   ⟨0x134, 1, .rw, true, 0x0, 0xFFFFFFFF⟩ /- CMP_VAL -/,
   ⟨0x138, 1, .rw, true, 0x0, 0x7⟩ /- CMP_CTL -/,
   ⟨0x13C, 1, .ro, false, 0x0, 0x7⟩ /- CMP_STS -/,
   ⟨0x140, 1, .ro, false, 0x0, 0xFFFFFFFF⟩ /- CMP_BEAM_LO -/,
   ⟨0x144, 1, .ro, false, 0x0, 0xFFFFFFFF⟩ /- CMP_BEAM_HI -/]

/-- Register rows of the LEF page. -/
def rowsLEF : List RegRow :=
  [⟨0x100, 1, .rws, false, 0x41800, 0xFFFF07⟩ /- CFG -/,
   ⟨0x104, 1, .rw, false, 0x258, 0xFFFF⟩ /- REVERT_S -/,
   ⟨0x108, 1, .rw, false, 0x0, 0xFFFF⟩ /- PARTNER -/,
   ⟨0x10C, 1, .wo, false, 0x0, 0x7⟩ /- CTL -/,
   ⟨0x110, 1, .ro, false, 0x0, 0xFF01FF⟩ /- STS -/,
   ⟨0x114, 1, .ro, false, 0x0, 0xFFFFFFFF⟩ /- TAKE_LO -/,
   ⟨0x118, 1, .ro, false, 0x0, 0xFFFFFFFF⟩ /- TAKE_HI -/,
   ⟨0x11C, 1, .ro, false, 0x0, 0xFFFF000F⟩ /- TAKE_CAUSE -/,
   ⟨0x120, 1, .rc, false, 0x0, 0xFFFFFFFF⟩ /- MIRROR_LATE -/,
   ⟨0x124, 1, .ro, false, 0x0, 0xFFFFFFF⟩ /- REPAIR_Q -/,
   ⟨0x128, 1, .ro, false, 0x0, 0x7F⟩ /- SYNC_PROG -/,
   ⟨0x12C, 1, .rc, false, 0x0, 0xFFFFFFFF⟩ /- RES_GAP -/,
   ⟨0x130, 1, .rw, false, 0x8, 0xFF⟩ /- THR -/,
   ⟨0x134, 1, .rw, false, 0x1000000, 0xFFFFFFF⟩ /- REPAIR_MAX -/]

/-- Register rows of the NVS page. -/
def rowsNVS : List RegRow :=
  [⟨0x100, 1, .ro, false, 0x0, 0x7FF⟩ /- STS -/,
   ⟨0x104, 1, .rw, false, 0x0, 0xFFF⟩ /- PG_SEL -/,
   ⟨0x108, 1, .wo, false, 0x0, 0xFFFFFFFF⟩ /- PWD_LO -/,
   ⟨0x10C, 1, .wo, false, 0x0, 0xFFFFFFFF⟩ /- PWD_HI -/,
   ⟨0x110, 1, .wo, false, 0x0, 0x7⟩ /- CMD -/,
   ⟨0x114, 1, .ro, false, 0x0, 0xF⟩ /- RESULT -/,
   ⟨0x118, 1, .ro, false, 0x0, 0xFFFFFFFF⟩ /- PG_SEQ -/,
   ⟨0x11C, 1, .rw, false, 0x0, 0x7F⟩ /- CNT_SEL -/,
   ⟨0x120, 1, .ro, false, 0x0, 0xFFFFFFFF⟩ /- CNT_VAL -/,
   ⟨0x124, 1, .ro, false, 0x0, 0xFFFFFFFF⟩ /- SCRUB_STS -/,
   ⟨0x128, 1, .wo, false, 0x0, 0x1⟩ /- LOG_CTL -/,
   ⟨0x12C, 1, .ro, false, 0x0, 0xFFFFFF⟩ /- LOG_STS -/,
   ⟨0x130, 1, .rc, false, 0x0, 0xFFFFFFFF⟩ /- LOG_DROP -/,
   ⟨0x200, 124, .rw, false, 0x0, 0xFFFFFFFF⟩ /- DATA -/]

/-- Register rows of the BMS page. -/
def rowsBMS : List RegRow :=
  [⟨0x100, 1, .ro, false, 0x0, 0xFFFF0007⟩ /- STS -/,
   ⟨0x104, 1, .rw, false, 0x0, 0x1⟩ /- SIDE_SEL -/,
   ⟨0x108, 1, .rw, false, 0x0, 0xFFFFF000⟩ /- OFS -/,
   ⟨0x10C, 1, .rw, false, 0x0, 0xFFFFF000⟩ /- HBM_LO -/,
   ⟨0x110, 1, .rw, false, 0x0, 0x1F⟩ /- HBM_HI -/,
   ⟨0x114, 1, .rw, false, 0x0, 0xFFFFFFFF⟩ /- LEN -/,
   ⟨0x118, 1, .wo, false, 0x0, 0x3⟩ /- CTL -/,
   ⟨0x11C, 1, .ro, false, 0x0, 0xF⟩ /- RESULT -/,
   ⟨0x120, 1, .ro, false, 0x0, 0xFFFFFFFF⟩ /- GEN_A -/,
   ⟨0x124, 1, .ro, false, 0x0, 0xFFFFFFFF⟩ /- GEN_B -/]

/-- Register rows of the THM page. -/
def rowsTHM : List RegRow :=
  [⟨0x100, 1, .rw, false, 0x0, 0x7⟩ /- ZONE_SEL -/,
   ⟨0x104, 1, .rws, false, 0x0, 0xFFFFFFFF⟩ /- ZONE_THR0 -/,
   ⟨0x108, 1, .rws, false, 0x0, 0xFFFF⟩ /- ZONE_THR1 -/,
   ⟨0x10C, 1, .ro, false, 0x0, 0xFFFFF⟩ /- ZONE_STS -/,
   ⟨0x110, 1, .rw, false, 0x0, 0x1F⟩ /- SEN_SEL -/,
   ⟨0x114, 1, .ro, false, 0x0, 0x7FFFF⟩ /- SEN_STS -/,
   ⟨0x118, 1, .rws, false, 0x0, 0xFFF⟩ /- SEN_CFG -/,
   ⟨0x11C, 1, .rw, false, 0x3, 0xF⟩ /- HYST -/,
   ⟨0x120, 1, .ro, false, 0x0, 0x1FF⟩ /- FAULT -/,
   ⟨0x124, 1, .rw, false, 0x3C, 0xFFFF⟩ /- RESTART -/]

/-- Register rows of the CLB page. -/
def rowsCLB : List RegRow :=
  [⟨0x100, 1, .rw, false, 0x1, 0x1⟩ /- CTL -/,
   ⟨0x104, 1, .rw, false, 0x28, 0xFF⟩ /- DRIFT -/,
   ⟨0x108, 1, .wo, false, 0x0, 0x7⟩ /- CMD -/,
   ⟨0x10C, 1, .ro, false, 0x0, 0x7F⟩ /- STS -/,
   ⟨0x110, 1, .ro, false, 0x0, 0xFFFFFFFF⟩ /- VREF_GAIN -/,
   ⟨0x114, 1, .ro, false, 0x0, 0xFFFFFFFF⟩ /- FREQ_ERR -/,
   ⟨0x118, 1, .ro, false, 0x0, 0xFFFFFFFF⟩ /- VCOM_TGT -/,
   ⟨0x11C, 1, .rw, false, 0x0, 0x81FF0007⟩ /- ST_CTL -/,
   ⟨0x120, 1, .ro, false, 0xC, 0xF⟩ /- ST_STS -/,
   ⟨0x124, 1, .rc, false, 0x0, 0xFFFFFFFF⟩ /- STAT_RUN -/]

/-- Register rows of the SEC page. -/
def rowsSEC : List RegRow :=
  [⟨0x100, 1, .wo, true, 0x0, 0x7⟩ /- CTL -/,
   ⟨0x104, 1, .ro, false, 0x0, 0xFFF07FF⟩ /- STS -/,
   ⟨0x108, 1, .ro, false, 0x0, 0xF⟩ /- RESULT -/,
   ⟨0x10C, 1, .ro, false, 0x0, 0xFFFFFFFF⟩ /- NONCE_LO -/,
   ⟨0x110, 1, .ro, false, 0x0, 0xFFFFFFFF⟩ /- NONCE_HI -/,
   ⟨0x114, 1, .rw, false, 0x0, 0x3FF⟩ /- KEY_SEL -/,
   ⟨0x118, 1, .rw, false, 0x0, 0xFFFF⟩ /- KEY_BIND -/,
   ⟨0x11C, 1, .ro, false, 0x0, 0xFFFF0001⟩ /- KEY_STS -/,
   ⟨0x120, 1, .rc, false, 0x0, 0xFFFFFFFF⟩ /- TAG_FAIL -/,
   ⟨0x124, 1, .ro, false, 0x0, 0xFFFF03FF⟩ /- TAG_LAST -/,
   ⟨0x128, 1, .ro, false, 0x0, 0xFF7F⟩ /- FW_STS -/,
   ⟨0x12C, 1, .ro, false, 0x0, 0xFFFFFFFF⟩ /- FW_VER -/,
   ⟨0x200, 8, .wo, false, 0x0, 0xFFFFFFFF⟩ /- KEY_DATA -/,
   ⟨0x300, 24, .wo, false, 0x0, 0xFFFFFFFF⟩ /- SIG -/,
   ⟨0x400, 24, .wo, false, 0x0, 0xFFFFFFFF⟩ /- PUB -/]

/-- Register rows of the DBG page. -/
def rowsDBG : List RegRow :=
  [⟨0x100, 1, .ro, false, 0x0, 0xFF⟩ /- STS -/,
   ⟨0x104, 1, .ro, false, 0x0, 0xFFFFFFFF⟩ /- GRANT_LO -/,
   ⟨0x108, 1, .ro, false, 0x0, 0xFFFFFFFF⟩ /- GRANT_HI -/,
   ⟨0x10C, 1, .ro, false, 0x0, 0xFFFFFFFF⟩ /- END_LO -/,
   ⟨0x110, 1, .ro, false, 0x0, 0xFFFFFFFF⟩ /- END_HI -/,
   ⟨0x114, 1, .ro, false, 0x0, 0xFFFF⟩ /- CNT -/]

/-- Register rows of the EVT page. -/
def rowsEVT : List RegRow :=
  [⟨0x100, 1, .ro, false, 0x0, 0x3FFFFFF⟩ /- BASE -/,
   ⟨0x104, 1, .ro, false, 0x0, 0xFFF⟩ /- HEAD -/,
   ⟨0x108, 1, .rw, false, 0x0, 0xFFF⟩ /- TAIL -/,
   ⟨0x10C, 1, .ro, false, 0x0, 0x3FFF⟩ /- STS -/,
   ⟨0x110, 1, .rc, false, 0x0, 0xFFFFFFFF⟩ /- DROP -/]

/-- Register rows of the WIN page. -/
def rowsWIN : List RegRow :=
  [⟨0x100, 1, .rw, false, 0x0, 0xFFFFF800⟩ /- WIN_ADDR_LO -/,
   ⟨0x104, 1, .rw, false, 0x0, 0x1F⟩ /- WIN_ADDR_HI -/,
   ⟨0x108, 1, .ro, false, 0x0, 0x3⟩ /- WIN_STS -/,
   ⟨0x800, 512, .rw, false, 0x0, 0xFFFFFFFF⟩ /- WIN_DATA -/]

/-- The block rows of a page; `none` where R460 defines no page. -/
def pageRows (page : Nat) : Option (List RegRow) :=
  if page = 0x000 then some rowsSYS else
  if page = 0x001 then some rowsSIL else
  if page = 0x010 then some rowsING else
  if page = 0x011 then some rowsCOL else
  if page = 0x012 then some rowsFRS else
  if page = 0x013 then some rowsRIM else
  if page = 0x014 then some rowsWFT else
  if page = 0x020 then some rowsWV else
  if page = 0x021 then some rowsWV else
  if page = 0x022 then some rowsSCN else
  if page = 0x023 then some rowsPLK else
  if page = 0x024 then some rowsPLK else
  if page = 0x025 then some rowsPDV else
  if page = 0x026 then some rowsPDV else
  if page = 0x030 then some rowsDMC else
  if page = 0x031 then some rowsLAN else
  if page = 0x032 then some rowsFAB else
  if page = 0x040 then some rowsTIM else
  if page = 0x041 then some rowsLNT else
  if page = 0x042 then some rowsLEF else
  if page = 0x050 then some rowsNVS else
  if page = 0x051 then some rowsBMS else
  if page = 0x052 then some rowsTHM else
  if page = 0x053 then some rowsCLB else
  if page = 0x060 then some rowsSEC else
  if page = 0x061 then some rowsDBG else
  if page = 0x070 then some rowsEVT else
  if page = 0x071 then some rowsEVT else
  if 0x100 ≤ page ∧ page ≤ 0x17F then some rowsWIN else
  if 0x200 ≤ page ∧ page ≤ 0x237 then some rowsWIN else none

/-- Block type (PG_ID [31:16]) of a page, R460. -/
def pageType (page : Nat) : Nat :=
  if page = 0x001 then 0x0002 else
  if page = 0x010 then 0x0010 else
  if page = 0x011 then 0x0011 else
  if page = 0x012 then 0x0012 else
  if page = 0x013 then 0x0013 else
  if page = 0x014 then 0x0014 else
  if page = 0x020 then 0x0020 else
  if page = 0x021 then 0x0020 else
  if page = 0x022 then 0x0021 else
  if page = 0x023 then 0x0022 else
  if page = 0x024 then 0x0022 else
  if page = 0x025 then 0x0023 else
  if page = 0x026 then 0x0023 else
  if page = 0x030 then 0x0030 else
  if page = 0x031 then 0x0031 else
  if page = 0x032 then 0x0032 else
  if page = 0x040 then 0x0040 else
  if page = 0x041 then 0x0041 else
  if page = 0x042 then 0x0042 else
  if page = 0x050 then 0x0050 else
  if page = 0x051 then 0x0051 else
  if page = 0x052 then 0x0052 else
  if page = 0x053 then 0x0053 else
  if page = 0x060 then 0x0060 else
  if page = 0x061 then 0x0061 else
  if page = 0x070 then 0x0070 else
  if page = 0x071 then 0x0070 else
  0x0001

/-- Instance (PG_ID [15:0]) of a page, R460. -/
def pageInst (page : Nat) : Nat :=
  if page = 0x021 ∨ page = 0x024 ∨ page = 0x026 ∨ page = 0x071 then 1 else if 0x100 ≤ page then page else 0

/-- The event flags a page defines (PG_EVT bits), as a mask. -/
def pageEvents (page : Nat) : Nat :=
  if page = 0x014 then 0x7 else
  if page = 0x022 then 0x1FF else
  if page = 0x023 then 0x1F else
  if page = 0x024 then 0x1F else
  if page = 0x025 then 0x1F else
  if page = 0x026 then 0x1F else
  if page = 0x030 then 0x7F else
  if page = 0x031 then 0x3F else
  if page = 0x032 then 0xFF else
  if page = 0x040 then 0x1F else
  if page = 0x041 then 0x3 else
  if page = 0x042 then 0x1F else
  if page = 0x050 then 0x1F else
  if page = 0x051 then 0x3 else
  if page = 0x052 then 0x1F else
  if page = 0x053 then 0x7 else
  if page = 0x060 then 0x7 else
  if page = 0x061 then 0xF else
  if page = 0x070 then 0x3 else
  if page = 0x071 then 0x3 else
  0

def HDR.PG_CTL.ENA : Fld := ⟨0x000, 0x008, 0, 0⟩
def HDR.PG_CTL.LOCK : Fld := ⟨0x000, 0x008, 2, 2⟩
/-- HDR.PG_STS (chapter 20, R457). -/
def HDR.PG_STS : Fld := ⟨0x000, 0x00C, 31, 0⟩
/-- HDR.PG_EVT (chapter 20, R457). -/
def HDR.PG_EVT : Fld := ⟨0x000, 0x010, 31, 0⟩
/-- HDR.PG_EVT_EN (chapter 20, R457). -/
def HDR.PG_EVT_EN : Fld := ⟨0x000, 0x014, 31, 0⟩
/-- HDR.PG_EVT_FORCE (chapter 20, R457). -/
def HDR.PG_EVT_FORCE : Fld := ⟨0x000, 0x018, 31, 0⟩
def HDR.PG_ERR_CNT.COUNT : Fld := ⟨0x000, 0x01C, 15, 0⟩
def HDR.PG_ERR_FIRST.CODE : Fld := ⟨0x000, 0x020, 7, 0⟩
def HDR.PG_ERR_FIRST.LOGGED : Fld := ⟨0x000, 0x020, 8, 8⟩
def HDR.PG_ERR_FIRST.SEQ : Fld := ⟨0x000, 0x020, 31, 16⟩
def HDR.PG_BEAM_AT.WC : Fld := ⟨0x000, 0x024, 15, 0⟩
def HDR.PG_BEAM_AT.LINE : Fld := ⟨0x000, 0x024, 31, 16⟩
def SYS.MOD_ID.EXT : Fld := ⟨0x000, 0x100, 8, 8⟩
/-- SYS.SERIAL_LO (chapter 20, R472). -/
def SYS.SERIAL_LO : Fld := ⟨0x000, 0x104, 31, 0⟩
/-- SYS.SERIAL_HI (chapter 20, R472). -/
def SYS.SERIAL_HI : Fld := ⟨0x000, 0x108, 31, 0⟩
/-- SYS.MODID_LO (chapter 20, R472). -/
def SYS.MODID_LO : Fld := ⟨0x000, 0x10C, 31, 0⟩
/-- SYS.MODID_HI (chapter 20, R472). -/
def SYS.MODID_HI : Fld := ⟨0x000, 0x110, 31, 0⟩
/-- SYS.UPTIME (chapter 20, R472). -/
def SYS.UPTIME : Fld := ⟨0x000, 0x114, 31, 0⟩
/-- SYS.LIFE_S (chapter 20, R472). -/
def SYS.LIFE_S : Fld := ⟨0x000, 0x118, 31, 0⟩
def SYS.RAP_CFG.FLEX : Fld := ⟨0x000, 0x11C, 16, 16⟩
/-- SYS.RAP_BAD (chapter 20, R472). -/
def SYS.RAP_BAD : Fld := ⟨0x000, 0x120, 31, 0⟩
/-- SYS.RAP_DUP (chapter 20, R472). -/
def SYS.RAP_DUP : Fld := ⟨0x000, 0x124, 31, 0⟩
def SYS.MGMT_STS.LINK : Fld := ⟨0x000, 0x128, 0, 0⟩
def SYS.MGMT_STS.SPEED : Fld := ⟨0x000, 0x128, 2, 1⟩
/-- SYS.SCRATCH (chapter 20, R472). -/
def SYS.SCRATCH : Fld := ⟨0x000, 0x12C, 31, 0⟩
/-- SYS.PAGE_CNT (chapter 20, R472). -/
def SYS.PAGE_CNT : Fld := ⟨0x000, 0x130, 31, 0⟩
/-- SYS.PWR_STS (chapter 02, R55). -/
def SYS.PWR_STS : Fld := ⟨0x000, 0x140, 31, 0⟩
def SYS.PWR_STS.FEED_A_OK : Fld := ⟨0x000, 0x140, 0, 0⟩
def SYS.PWR_STS.FEED_B_OK : Fld := ⟨0x000, 0x140, 1, 1⟩
def SYS.PWR_STS.FEED_A_OV : Fld := ⟨0x000, 0x140, 2, 2⟩
def SYS.PWR_STS.FEED_B_OV : Fld := ⟨0x000, 0x140, 3, 3⟩
def SYS.PWR_STS.HOLD_RDY : Fld := ⟨0x000, 0x140, 4, 4⟩
def SYS.PWR_STS.HOLD_DEGR : Fld := ⟨0x000, 0x140, 5, 5⟩
def SYS.PWR_STS.PF_WARN : Fld := ⟨0x000, 0x140, 6, 6⟩
def SYS.PWR_STS.HOLD_MS : Fld := ⟨0x000, 0x140, 31, 16⟩
/-- SYS.FEED_V (chapter 02, R55). -/
def SYS.FEED_V : Fld := ⟨0x000, 0x144, 31, 0⟩
/-- SYS.IN_PWR (chapter 02, R55). -/
def SYS.IN_PWR : Fld := ⟨0x000, 0x148, 31, 0⟩
/-- SYS.START_STS (chapter 03, R69). -/
def SYS.START_STS : Fld := ⟨0x000, 0x160, 31, 0⟩
def SYS.START_STS.STAGE : Fld := ⟨0x000, 0x160, 3, 0⟩
def SYS.START_STS.BAL_RST : Fld := ⟨0x000, 0x160, 4, 4⟩
def SYS.START_STS.FW_IMG : Fld := ⟨0x000, 0x160, 5, 5⟩
def SYS.START_STS.CFG_DEF : Fld := ⟨0x000, 0x160, 6, 6⟩
def SYS.START_STS.LNT_FREE : Fld := ⟨0x000, 0x160, 7, 7⟩
def SYS.START_STS.FAIL : Fld := ⟨0x000, 0x160, 23, 8⟩
def SYS.START_T.FULL_MS : Fld := ⟨0x000, 0x164, 15, 0⟩
def SYS.START_T.SILL_T : Fld := ⟨0x000, 0x164, 31, 16⟩
/-- SYS.RST_CTL (chapter 03, R69). -/
def SYS.RST_CTL : Fld := ⟨0x000, 0x168, 31, 0⟩
/-- SYS.RST_CAUSE (chapter 03, R69). -/
def SYS.RST_CAUSE : Fld := ⟨0x000, 0x16C, 31, 0⟩
def SYS.RST_CAUSE.CAUSE : Fld := ⟨0x000, 0x16C, 3, 0⟩
/-- SYS.ALM_STS (chapter 20, R472). -/
def SYS.ALM_STS : Fld := ⟨0x000, 0x170, 31, 0⟩
/-- SIL.CPU_STS (chapter 20, R474). -/
def SIL.CPU_STS : Fld := ⟨0x001, 0x100, 31, 0⟩
def SIL.CPU_STS.FW : Fld := ⟨0x001, 0x100, 0, 0⟩
def SIL.CPU_STS.HALTED : Fld := ⟨0x001, 0x100, 1, 1⟩
def SIL.CPU_STS.WDG_PAUSED : Fld := ⟨0x001, 0x100, 2, 2⟩
/-- SIL.WDG_SVC (chapter 20, R474). -/
def SIL.WDG_SVC : Fld := ⟨0x001, 0x104, 31, 0⟩
def SIL.WDG_SVC.KEY : Fld := ⟨0x001, 0x104, 31, 0⟩
/-- SIL.WDG_STS (chapter 20, R474). -/
def SIL.WDG_STS : Fld := ⟨0x001, 0x108, 31, 0⟩
def SIL.WDG_STS.EXPIRIES : Fld := ⟨0x001, 0x108, 31, 16⟩
def SIL.TEXT_CTL.SHOW : Fld := ⟨0x001, 0x10C, 0, 0⟩
def ING.UDP_PORT.PORT : Fld := ⟨0x010, 0x100, 15, 0⟩
def ING.T5_CTL.ENA : Fld := ⟨0x010, 0x104, 0, 0⟩
def ING.T5_CTL.BASE : Fld := ⟨0x010, 0x104, 25, 8⟩
def ING.RING_SEL.RING : Fld := ⟨0x010, 0x108, 15, 0⟩
/-- ING.RING_CFG (chapter 04, R106). -/
def ING.RING_CFG : Fld := ⟨0x010, 0x10C, 31, 0⟩
def ING.RING_CFG.ENA : Fld := ⟨0x010, 0x10C, 0, 0⟩
def ING.RING_CFG.EDIT_OK : Fld := ⟨0x010, 0x10C, 2, 2⟩
def ING.RING_CFG.WEIGHT : Fld := ⟨0x010, 0x10C, 19, 16⟩
/-- ING.RING_ADDR_LO (chapter 04, R106). -/
def ING.RING_ADDR_LO : Fld := ⟨0x010, 0x110, 31, 0⟩
/-- ING.RING_ADDR_HI (chapter 04, R106). -/
def ING.RING_ADDR_HI : Fld := ⟨0x010, 0x114, 31, 0⟩
/-- ING.RING_FILL (chapter 04, R106). -/
def ING.RING_FILL : Fld := ⟨0x010, 0x118, 31, 0⟩
def ING.RING_DROP.DROP : Fld := ⟨0x010, 0x11C, 15, 0⟩
/-- ING.STAT_PKT (chapter 04, R106). -/
def ING.STAT_PKT : Fld := ⟨0x010, 0x120, 31, 0⟩
/-- ING.STAT_REJ (chapter 04, R106). -/
def ING.STAT_REJ : Fld := ⟨0x010, 0x124, 31, 0⟩
/-- ING.STAT_COMMIT (chapter 04, R106). -/
def ING.STAT_COMMIT : Fld := ⟨0x010, 0x128, 31, 0⟩
/-- ING.STAT_SUPER (chapter 04, R106). -/
def ING.STAT_SUPER : Fld := ⟨0x010, 0x12C, 31, 0⟩
/-- ING.COMMIT_GEN (chapter 04, R106). -/
def ING.COMMIT_GEN : Fld := ⟨0x010, 0x130, 31, 0⟩
/-- ING.LAND_DROP (chapter 04, R106). -/
def ING.LAND_DROP : Fld := ⟨0x010, 0x134, 31, 0⟩
/-- ING.EDIT_LAST (chapter 04, R106). -/
def ING.EDIT_LAST : Fld := ⟨0x010, 0x138, 31, 0⟩
/-- ING.EDIT_STS (chapter 04, R106). -/
def ING.EDIT_STS : Fld := ⟨0x010, 0x13C, 31, 0⟩
def ING.EDIT_STS.PENDING : Fld := ⟨0x010, 0x13C, 2, 0⟩
def ING.EDIT_STS.ASSEMBLING : Fld := ⟨0x010, 0x13C, 3, 3⟩
def ING.EDIT_STS.SWEEP : Fld := ⟨0x010, 0x13C, 4, 4⟩
def ING.EDIT_STS.ERR : Fld := ⟨0x010, 0x13C, 15, 8⟩
def ING.EDIT_STS.ERR_REC : Fld := ⟨0x010, 0x13C, 31, 16⟩
/-- ING.EDIT_FRAME (chapter 04, R106). -/
def ING.EDIT_FRAME : Fld := ⟨0x010, 0x140, 31, 0⟩
def ING.STAGE_FILL.FILL : Fld := ⟨0x010, 0x144, 16, 0⟩
/-- ING.REJ_LAST (chapter 04, R106). -/
def ING.REJ_LAST : Fld := ⟨0x010, 0x148, 31, 0⟩
def ING.REJ_LAST.CODE : Fld := ⟨0x010, 0x148, 7, 0⟩
def ING.REJ_LAST.RING : Fld := ⟨0x010, 0x148, 31, 16⟩
/-- ING.REJ_TILE (chapter 04, R106). -/
def ING.REJ_TILE : Fld := ⟨0x010, 0x14C, 31, 0⟩
def ING.STREAM_SEL.STREAM : Fld := ⟨0x010, 0x150, 11, 0⟩
/-- ING.STREAM_RING (chapter 04, R106). -/
def ING.STREAM_RING : Fld := ⟨0x010, 0x154, 31, 0⟩
def ING.STREAM_RING.RING : Fld := ⟨0x010, 0x154, 15, 0⟩
def ING.STREAM_RING.BOUND : Fld := ⟨0x010, 0x154, 16, 16⟩
def ING.DESC_SEL.INDEX : Fld := ⟨0x010, 0x158, 12, 0⟩
def ING.DESC_SEL.SHADOW : Fld := ⟨0x010, 0x158, 16, 16⟩
/-- ING.DESC_WIN (chapter 04, R106). -/
def ING.DESC_WIN : Fld := ⟨0x010, 0x200, 31, 0⟩
/-- COL.CTX_BASE_LO (chapter 05, R131). -/
def COL.CTX_BASE_LO : Fld := ⟨0x011, 0x100, 31, 0⟩
/-- COL.CTX_BASE_HI (chapter 05, R131). -/
def COL.CTX_BASE_HI : Fld := ⟨0x011, 0x104, 31, 0⟩
def COL.STRM_SEL.STREAM : Fld := ⟨0x011, 0x108, 11, 0⟩
/-- COL.STRM_STS (chapter 05, R131). -/
def COL.STRM_STS : Fld := ⟨0x011, 0x10C, 31, 0⟩
/-- COL.STRM_POS (chapter 05, R131). -/
def COL.STRM_POS : Fld := ⟨0x011, 0x110, 31, 0⟩
/-- COL.STRM_CTL (chapter 05, R131). -/
def COL.STRM_CTL : Fld := ⟨0x011, 0x114, 31, 0⟩
/-- COL.STAT_OUT (chapter 05, R131). -/
def COL.STAT_OUT : Fld := ⟨0x011, 0x118, 31, 0⟩
/-- COL.STAT_FAIL (chapter 05, R131). -/
def COL.STAT_FAIL : Fld := ⟨0x011, 0x11C, 31, 0⟩
def COL.FAIL_LAST.WHY : Fld := ⟨0x011, 0x120, 7, 0⟩
def COL.FAIL_LAST.STREAM : Fld := ⟨0x011, 0x120, 27, 16⟩
def COL.FAIL_RING.RING : Fld := ⟨0x011, 0x124, 15, 0⟩
def COL.FAIL_RING.BLOCK : Fld := ⟨0x011, 0x124, 31, 16⟩
/-- COL.LANE_BUSY (chapter 05, R131). -/
def COL.LANE_BUSY : Fld := ⟨0x011, 0x128, 31, 0⟩
def COL.ENC_SEL.LANE : Fld := ⟨0x011, 0x130, 1, 0⟩
/-- COL.ENC_SRC_LO (chapter 05, R131). -/
def COL.ENC_SRC_LO : Fld := ⟨0x011, 0x134, 31, 0⟩
/-- COL.ENC_SRC_HI (chapter 05, R131). -/
def COL.ENC_SRC_HI : Fld := ⟨0x011, 0x138, 31, 0⟩
def COL.ENC_LEN.LEN : Fld := ⟨0x011, 0x13C, 26, 0⟩
/-- COL.ENC_DST_LO (chapter 05, R131). -/
def COL.ENC_DST_LO : Fld := ⟨0x011, 0x140, 31, 0⟩
/-- COL.ENC_DST_HI (chapter 05, R131). -/
def COL.ENC_DST_HI : Fld := ⟨0x011, 0x144, 31, 0⟩
def COL.ENC_CAP.CAP : Fld := ⟨0x011, 0x148, 27, 0⟩
/-- COL.ENC_CTL (chapter 05, R131). -/
def COL.ENC_CTL : Fld := ⟨0x011, 0x14C, 31, 0⟩
def COL.ENC_CTL.EFFORT : Fld := ⟨0x011, 0x14C, 1, 0⟩
def COL.ENC_CTL.BLK_LOG2 : Fld := ⟨0x011, 0x14C, 12, 8⟩
/-- COL.ENC_STS (chapter 05, R131). -/
def COL.ENC_STS : Fld := ⟨0x011, 0x150, 31, 0⟩
def COL.ENC_STS.BUSY : Fld := ⟨0x011, 0x150, 0, 0⟩
/-- COL.ENC_OUT (chapter 05, R131). -/
def COL.ENC_OUT : Fld := ⟨0x011, 0x154, 31, 0⟩
def COL.ENC_OUT.BYTES : Fld := ⟨0x011, 0x154, 27, 0⟩
/-- FRS.ALM_CTL (chapter 07, R174). -/
def FRS.ALM_CTL : Fld := ⟨0x012, 0x100, 31, 0⟩
def FRS.ALM_CTL.CLR_FR : Fld := ⟨0x012, 0x100, 15, 8⟩
/-- FRS.ALM_STS (chapter 07, R174). -/
def FRS.ALM_STS : Fld := ⟨0x012, 0x104, 31, 0⟩
def FRS.ALM_STS.ACTIVE : Fld := ⟨0x012, 0x104, 0, 0⟩
def FRS.ALM_STS.CAUSE : Fld := ⟨0x012, 0x104, 5, 1⟩
def FRS.ALM_STS.CLEAN : Fld := ⟨0x012, 0x104, 23, 16⟩
/-- FRS.TIME_STS (chapter 07, R174). -/
def FRS.TIME_STS : Fld := ⟨0x012, 0x108, 31, 0⟩
def FRS.TIME_STS.VALID : Fld := ⟨0x012, 0x108, 0, 0⟩
def FRS.TIME_STS.TVAL : Fld := ⟨0x012, 0x108, 1, 1⟩
def FRS.TIME_STS.JUMP : Fld := ⟨0x012, 0x108, 2, 2⟩
def FRS.TIME_STS.STEP_SWEEP : Fld := ⟨0x012, 0x108, 3, 3⟩
def FRS.TIME_STS.VER_SWEEP : Fld := ⟨0x012, 0x108, 4, 4⟩
def FRS.BOUND.BE : Fld := ⟨0x012, 0x10C, 31, 0⟩
def FRS.NOW.T : Fld := ⟨0x012, 0x110, 31, 0⟩
def FRS.CNT_CONTENT.COUNT : Fld := ⟨0x012, 0x114, 18, 0⟩
def FRS.CNT_NODATA.COUNT : Fld := ⟨0x012, 0x118, 18, 0⟩
def FRS.CNT_STALE.COUNT : Fld := ⟨0x012, 0x11C, 18, 0⟩
def FRS.CNT_UNVER.COUNT : Fld := ⟨0x012, 0x120, 18, 0⟩
def FRS.CNT_FAULT.COUNT : Fld := ⟨0x012, 0x124, 18, 0⟩
def FRS.FIRST_STALE.HANDLE : Fld := ⟨0x012, 0x128, 17, 0⟩
def FRS.FIRST_STALE.VALID : Fld := ⟨0x012, 0x128, 31, 31⟩
/-- FRS.STAT_WITHDRAW (chapter 07, R174). -/
def FRS.STAT_WITHDRAW : Fld := ⟨0x012, 0x12C, 31, 0⟩
def FRS.TILE_SEL.HANDLE : Fld := ⟨0x012, 0x130, 17, 0⟩
/-- FRS.TILE_VERDICT (chapter 07, R174). -/
def FRS.TILE_VERDICT : Fld := ⟨0x012, 0x134, 31, 0⟩
/-- FRS.TILE_AGE (chapter 07, R174). -/
def FRS.TILE_AGE : Fld := ⟨0x012, 0x138, 31, 0⟩
/-- FRS.ENT (chapter 07, R174). -/
def FRS.ENT : Fld := ⟨0x012, 0x140, 31, 0⟩
def RIM.WALL_ID.ID : Fld := ⟨0x013, 0x100, 15, 0⟩
/-- RIM.TST_ERR (chapter 08, R185). -/
def RIM.TST_ERR : Fld := ⟨0x013, 0x104, 31, 0⟩
/-- RIM.LOAD_ERR (chapter 08, R185). -/
def RIM.LOAD_ERR : Fld := ⟨0x013, 0x108, 31, 0⟩
/-- RIM.RET_STS (chapter 08, R185). -/
def RIM.RET_STS : Fld := ⟨0x013, 0x10C, 31, 0⟩
def RIM.RET_SEL.GROUP : Fld := ⟨0x013, 0x110, 3, 0⟩
/-- RIM.RET_MIS (chapter 08, R185). -/
def RIM.RET_MIS : Fld := ⟨0x013, 0x114, 31, 0⟩
/-- RIM.RET_LAST (chapter 08, R185). -/
def RIM.RET_LAST : Fld := ⟨0x013, 0x118, 31, 0⟩
def RIM.RET_LAST.LINE : Fld := ⟨0x013, 0x118, 15, 0⟩
def RIM.RET_LAST.GROUP : Fld := ⟨0x013, 0x118, 19, 16⟩
def RIM.RET_LAST.MISSING : Fld := ⟨0x013, 0x118, 20, 20⟩
/-- RIM.DIG_MIS (chapter 08, R185). -/
def RIM.DIG_MIS : Fld := ⟨0x013, 0x11C, 31, 0⟩
/-- RIM.DIG_SKIP (chapter 08, R185). -/
def RIM.DIG_SKIP : Fld := ⟨0x013, 0x120, 31, 0⟩
def RIM.DIG_LAST.LINE : Fld := ⟨0x013, 0x124, 15, 0⟩
def RIM.DIG_LAST.HALF : Fld := ⟨0x013, 0x124, 16, 16⟩
/-- RIM.CALC_ADDR_LO (chapter 08, R185). -/
def RIM.CALC_ADDR_LO : Fld := ⟨0x013, 0x128, 31, 0⟩
/-- RIM.CALC_ADDR_HI (chapter 08, R185). -/
def RIM.CALC_ADDR_HI : Fld := ⟨0x013, 0x12C, 31, 0⟩
/-- RIM.CALC_LEN (chapter 08, R185). -/
def RIM.CALC_LEN : Fld := ⟨0x013, 0x130, 31, 0⟩
/-- RIM.CALC_FOLD (chapter 08, R185). -/
def RIM.CALC_FOLD : Fld := ⟨0x013, 0x134, 31, 0⟩
def RIM.CALC_CTL.GO : Fld := ⟨0x013, 0x138, 31, 31⟩
/-- RIM.CALC_STS (chapter 08, R185). -/
def RIM.CALC_STS : Fld := ⟨0x013, 0x13C, 31, 0⟩
def RIM.CALC_STS.BUSY : Fld := ⟨0x013, 0x13C, 0, 0⟩
def RIM.CALC_STS.DONE : Fld := ⟨0x013, 0x13C, 1, 1⟩
def RIM.CALC_STS.ERR_MEM : Fld := ⟨0x013, 0x13C, 2, 2⟩
/-- RIM.CALC_RES (chapter 08, R185). -/
def RIM.CALC_RES : Fld := ⟨0x013, 0x140, 31, 0⟩
/-- WFT.SQ_BASE_LO (chapter 11, R264). -/
def WFT.SQ_BASE_LO : Fld := ⟨0x014, 0x100, 31, 0⟩
/-- WFT.SQ_BASE_HI (chapter 11, R264). -/
def WFT.SQ_BASE_HI : Fld := ⟨0x014, 0x104, 31, 0⟩
def WFT.SQ_SIZE.SIZE_LOG2 : Fld := ⟨0x014, 0x108, 3, 0⟩
def WFT.SQ_TAIL.INDEX : Fld := ⟨0x014, 0x10C, 11, 0⟩
def WFT.SQ_HEAD.INDEX : Fld := ⟨0x014, 0x110, 11, 0⟩
/-- WFT.CTL (chapter 11, R264). -/
def WFT.CTL : Fld := ⟨0x014, 0x114, 31, 0⟩
def WFT.CTL.ENA : Fld := ⟨0x014, 0x114, 0, 0⟩
def WFT.CTL.PAUSE : Fld := ⟨0x014, 0x114, 1, 1⟩
/-- WFT.STS (chapter 11, R264). -/
def WFT.STS : Fld := ⟨0x014, 0x118, 31, 0⟩
def WFT.STS.BUSY : Fld := ⟨0x014, 0x118, 0, 0⟩
def WFT.STS.PAUSED : Fld := ⟨0x014, 0x118, 1, 1⟩
def WFT.STS.WAITING : Fld := ⟨0x014, 0x118, 2, 2⟩
def WFT.STS.CMD : Fld := ⟨0x014, 0x118, 31, 16⟩
def WFT.LIST_DONE.ID : Fld := ⟨0x014, 0x11C, 31, 0⟩
/-- WFT.ERR (chapter 11, R264). -/
def WFT.ERR : Fld := ⟨0x014, 0x120, 31, 0⟩
def WFT.ERR.CODE : Fld := ⟨0x014, 0x120, 7, 0⟩
def WFT.ERR.CMD : Fld := ⟨0x014, 0x120, 31, 16⟩
def WFT.ERR_LIST.ID : Fld := ⟨0x014, 0x124, 31, 0⟩
def WFT.WM_STS.LINE : Fld := ⟨0x014, 0x128, 13, 0⟩
def WFT.WM_STS.LATE : Fld := ⟨0x014, 0x128, 14, 14⟩
def WFT.WM_STS.FREL : Fld := ⟨0x014, 0x128, 23, 16⟩
/-- WFT.STAT_CMD (chapter 11, R264). -/
def WFT.STAT_CMD : Fld := ⟨0x014, 0x12C, 31, 0⟩
/-- WFT.STAT_LATE (chapter 11, R264). -/
def WFT.STAT_LATE : Fld := ⟨0x014, 0x130, 31, 0⟩
/-- WFT.STAT_ERR (chapter 11, R264). -/
def WFT.STAT_ERR : Fld := ⟨0x014, 0x134, 31, 0⟩
def WFT.WR_CTL.PLANE_ENA : Fld := ⟨0x014, 0x138, 0, 0⟩
def WV.LVR_CTL.ENA : Fld := ⟨0x020, 0x100, 0, 0⟩
def WV.LVR_CTL.PENDING : Fld := ⟨0x020, 0x100, 1, 1⟩
/-- WV.MAP_CTL (chapter 06, R159). -/
def WV.MAP_CTL : Fld := ⟨0x020, 0x104, 31, 0⟩
def WV.MAP_CTL.SWAP : Fld := ⟨0x020, 0x104, 0, 0⟩
def WV.MAP_CTL.ERR : Fld := ⟨0x020, 0x104, 1, 1⟩
def WV.MAP_CTL.NSTK : Fld := ⟨0x020, 0x104, 24, 16⟩
/-- WV.MAP_ADDR_LO (chapter 06, R159). -/
def WV.MAP_ADDR_LO : Fld := ⟨0x020, 0x108, 31, 0⟩
/-- WV.MAP_ADDR_HI (chapter 06, R159). -/
def WV.MAP_ADDR_HI : Fld := ⟨0x020, 0x10C, 31, 0⟩
/-- WV.MAP_KU (chapter 06, R159). -/
def WV.MAP_KU : Fld := ⟨0x020, 0x110, 31, 0⟩
/-- WV.MAP_KY (chapter 06, R159). -/
def WV.MAP_KY : Fld := ⟨0x020, 0x114, 31, 0⟩
/-- WV.MAP_P0 (chapter 06, R159). -/
def WV.MAP_P0 : Fld := ⟨0x020, 0x118, 31, 0⟩
def WV.FLT_CTL.MODE : Fld := ⟨0x020, 0x11C, 0, 0⟩
/-- WV.OUT_CTL (chapter 06, R159). -/
def WV.OUT_CTL : Fld := ⟨0x020, 0x120, 31, 0⟩
def WV.OUT_CTL.DEPTH : Fld := ⟨0x020, 0x120, 0, 0⟩
def WV.OUT_CTL.DITHER : Fld := ⟨0x020, 0x120, 1, 1⟩
def WV.OUT_CTL.UNI : Fld := ⟨0x020, 0x120, 2, 2⟩
/-- WV.UNI_ADDR_LO (chapter 06, R159). -/
def WV.UNI_ADDR_LO : Fld := ⟨0x020, 0x124, 31, 0⟩
def WV.UNI_ADDR_LO.ADDR : Fld := ⟨0x020, 0x124, 31, 6⟩
def WV.UNI_ADDR_HI.ADDR : Fld := ⟨0x020, 0x128, 4, 0⟩
/-- WV.UNI_NODE_LO (chapter 06, R159). -/
def WV.UNI_NODE_LO : Fld := ⟨0x020, 0x12C, 31, 0⟩
def WV.UNI_NODE_LO.ADDR : Fld := ⟨0x020, 0x12C, 31, 6⟩
def WV.UNI_NODE_HI.ADDR : Fld := ⟨0x020, 0x130, 4, 0⟩
def WV.LUT_SEL.INDEX : Fld := ⟨0x020, 0x134, 10, 0⟩
def WV.LUT_SEL.TABLE : Fld := ⟨0x020, 0x134, 13, 12⟩
def WV.LUT_SEL.SHADOW : Fld := ⟨0x020, 0x134, 14, 14⟩
def WV.LUT_SEL.AUTO : Fld := ⟨0x020, 0x134, 15, 15⟩
def WV.LUT_DATA.VALUE : Fld := ⟨0x020, 0x138, 15, 0⟩
/-- WV.LUT_CTL (chapter 06, R159). -/
def WV.LUT_CTL : Fld := ⟨0x020, 0x13C, 31, 0⟩
def WV.LUT_CTL.PENDING : Fld := ⟨0x020, 0x13C, 1, 1⟩
def WV.SLOT_SEL.BAND : Fld := ⟨0x020, 0x140, 9, 0⟩
def WV.SLOT_SEL.SLOT : Fld := ⟨0x020, 0x140, 15, 10⟩
/-- WV.SLOT_INFO (chapter 06, R159). -/
def WV.SLOT_INFO : Fld := ⟨0x020, 0x144, 31, 0⟩
def WV.BAND_STS.SLOTS_MAX : Fld := ⟨0x020, 0x148, 6, 0⟩
def WV.BAND_STS.CELLS_MAX : Fld := ⟨0x020, 0x148, 29, 16⟩
/-- WV.STAT_REFUSE (chapter 06, R159). -/
def WV.STAT_REFUSE : Fld := ⟨0x020, 0x14C, 31, 0⟩
/-- WV.STAT_CLAMP (chapter 06, R159). -/
def WV.STAT_CLAMP : Fld := ⟨0x020, 0x150, 31, 0⟩
/-- WV.STAT_ECC_COR (chapter 06, R159). -/
def WV.STAT_ECC_COR : Fld := ⟨0x020, 0x154, 31, 0⟩
/-- WV.STAT_ECC_UNC (chapter 06, R159). -/
def WV.STAT_ECC_UNC : Fld := ⟨0x020, 0x158, 31, 0⟩
def WV.RSV_STS.IN_USE : Fld := ⟨0x020, 0x15C, 9, 0⟩
def WV.RSV_STS.WAIT : Fld := ⟨0x020, 0x15C, 31, 16⟩
/-- WV.PROBE_SEL (chapter 06, R159). -/
def WV.PROBE_SEL : Fld := ⟨0x020, 0x160, 31, 0⟩
def WV.PROBE_SEL.X : Fld := ⟨0x020, 0x160, 14, 0⟩
def WV.PROBE_SEL.Y : Fld := ⟨0x020, 0x160, 28, 15⟩
def WV.PROBE_SEL.C : Fld := ⟨0x020, 0x160, 30, 29⟩
def WV.PROBE_SEL.ARM : Fld := ⟨0x020, 0x160, 31, 31⟩
def WV.PROBE_STAKE.S88 : Fld := ⟨0x020, 0x164, 15, 0⟩
def WV.PROBE_STAKE.LOUVRE : Fld := ⟨0x020, 0x164, 21, 16⟩
def WV.PROBE_STAKE.NONE : Fld := ⟨0x020, 0x164, 22, 22⟩
def WV.PROBE_CODE.CODE : Fld := ⟨0x020, 0x168, 11, 0⟩
def WV.PROBE_CODE.E : Fld := ⟨0x020, 0x168, 24, 16⟩
/-- SCN.LINE_PER (chapter 09, R217). -/
def SCN.LINE_PER : Fld := ⟨0x022, 0x100, 31, 0⟩
def SCN.LINE_PER.PER : Fld := ⟨0x022, 0x100, 20, 0⟩
def SCN.VTOTAL.LINES : Fld := ⟨0x022, 0x104, 13, 0⟩
/-- SCN.RATE_CTL (chapter 09, R217). -/
def SCN.RATE_CTL : Fld := ⟨0x022, 0x108, 31, 0⟩
def SCN.RATE_CTL.RATE : Fld := ⟨0x022, 0x108, 7, 0⟩
def SCN.RATE_CTL.K1001 : Fld := ⟨0x022, 0x108, 8, 8⟩
def SCN.RATE_CTL.SRC : Fld := ⟨0x022, 0x108, 10, 9⟩
def SCN.RATE_CTL.HS_MULT : Fld := ⟨0x022, 0x108, 13, 11⟩
def SCN.PHASE.NS : Fld := ⟨0x022, 0x10C, 31, 0⟩
def SCN.HS_DELAY.NS : Fld := ⟨0x022, 0x110, 23, 0⟩
/-- SCN.MUL_SKEW (chapter 09, R217). -/
def SCN.MUL_SKEW : Fld := ⟨0x022, 0x114, 31, 0⟩
def SCN.TRIM_MAX.WC : Fld := ⟨0x022, 0x118, 11, 0⟩
/-- SCN.LOCK_STS (chapter 09, R217). -/
def SCN.LOCK_STS : Fld := ⟨0x022, 0x11C, 31, 0⟩
def SCN.LOCK_STS.STATE : Fld := ⟨0x022, 0x11C, 2, 0⟩
def SCN.LOCK_STS.SRC : Fld := ⟨0x022, 0x11C, 4, 3⟩
def SCN.LOCK_STS.PHASE_ERR : Fld := ⟨0x022, 0x11C, 31, 16⟩
/-- SCN.BEAM_LO (chapter 09, R217). -/
def SCN.BEAM_LO : Fld := ⟨0x022, 0x120, 31, 0⟩
/-- SCN.BEAM_HI (chapter 09, R217). -/
def SCN.BEAM_HI : Fld := ⟨0x022, 0x124, 31, 0⟩
/-- SCN.LM_POS (chapter 09, R217). -/
def SCN.LM_POS : Fld := ⟨0x022, 0x128, 31, 0⟩
def SCN.LM_POS.LINE : Fld := ⟨0x022, 0x128, 13, 0⟩
def SCN.LM_POS.WC : Fld := ⟨0x022, 0x128, 28, 16⟩
/-- SCN.UNDR_CNT (chapter 09, R217). -/
def SCN.UNDR_CNT : Fld := ⟨0x022, 0x12C, 31, 0⟩
def SCN.UNDR_FIRST.LINE : Fld := ⟨0x022, 0x130, 15, 0⟩
def SCN.UNDR_FIRST.HALF : Fld := ⟨0x022, 0x130, 16, 16⟩
def SCN.SHUT_CTL.REQ : Fld := ⟨0x022, 0x134, 0, 0⟩
def SCN.SHUT_CTL.WAKE_DATA : Fld := ⟨0x022, 0x134, 2, 2⟩
/-- SCN.SHUT_STS (chapter 09, R217). -/
def SCN.SHUT_STS : Fld := ⟨0x022, 0x138, 31, 0⟩
def SCN.SHUT_STS.STATE : Fld := ⟨0x022, 0x138, 2, 0⟩
def SCN.SHUT_STS.WHY : Fld := ⟨0x022, 0x138, 11, 8⟩
def SCN.SHUT_STS.ENTRIES : Fld := ⟨0x022, 0x138, 31, 16⟩
/-- SCN.SHUT_MIN (chapter 09, R217). -/
def SCN.SHUT_MIN : Fld := ⟨0x022, 0x13C, 31, 0⟩
/-- SCN.SHUT_E (chapter 09, R217). -/
def SCN.SHUT_E : Fld := ⟨0x022, 0x140, 31, 0⟩
def SCN.LINE_EFF.PER : Fld := ⟨0x022, 0x144, 20, 0⟩
def PLK.LINK_CTL.RATE : Fld := ⟨0x023, 0x100, 2, 0⟩
def PLK.LINK_CTL.MIN_LANES : Fld := ⟨0x023, 0x100, 11, 8⟩
/-- PLK.LINK_STS (chapter 09, R218). -/
def PLK.LINK_STS : Fld := ⟨0x023, 0x104, 31, 0⟩
def PLK.LINK_STS.RATE_CUR : Fld := ⟨0x023, 0x104, 2, 0⟩
def PLK.LINK_STS.NARROW : Fld := ⟨0x023, 0x104, 15, 8⟩
def PLK.LINK_STS.FAILED : Fld := ⟨0x023, 0x104, 23, 16⟩
def PLK.GRP_SEL.GROUP : Fld := ⟨0x023, 0x108, 3, 0⟩
def PLK.GRP_STS.FAIL : Fld := ⟨0x023, 0x10C, 14, 0⟩
def PLK.GRP_STS.N : Fld := ⟨0x023, 0x10C, 19, 16⟩
def PLK.GRP_STS.SPARE_USED : Fld := ⟨0x023, 0x10C, 20, 20⟩
def PLK.GRP_LOCK.LOCK : Fld := ⟨0x023, 0x110, 14, 0⟩
/-- PLK.GRP_MAP0 (chapter 09, R218). -/
def PLK.GRP_MAP0 : Fld := ⟨0x023, 0x114, 31, 0⟩
/-- PLK.GRP_MAP1 (chapter 09, R218). -/
def PLK.GRP_MAP1 : Fld := ⟨0x023, 0x118, 31, 0⟩
def PLK.CTRL_STS.CMD : Fld := ⟨0x023, 0x120, 7, 0⟩
def PLK.CTRL_STS.SEQ : Fld := ⟨0x023, 0x120, 23, 8⟩
def PLK.CTRL_STS.RESULT : Fld := ⟨0x023, 0x120, 25, 24⟩
/-- PLK.REP_CNT (chapter 09, R218). -/
def PLK.REP_CNT : Fld := ⟨0x023, 0x124, 31, 0⟩
/-- PLK.REP_BAD (chapter 09, R218). -/
def PLK.REP_BAD : Fld := ⟨0x023, 0x128, 31, 0⟩
/-- PLK.MARK_DIS (chapter 09, R218). -/
def PLK.MARK_DIS : Fld := ⟨0x023, 0x12C, 31, 0⟩
def PDV.DC_CTL.ENA : Fld := ⟨0x025, 0x100, 0, 0⟩
def PDV.DC_CTL.THR : Fld := ⟨0x025, 0x100, 14, 8⟩
/-- PDV.RES_ADDR_LO (chapter 10, R243). -/
def PDV.RES_ADDR_LO : Fld := ⟨0x025, 0x104, 31, 0⟩
/-- PDV.RES_ADDR_HI (chapter 10, R243). -/
def PDV.RES_ADDR_HI : Fld := ⟨0x025, 0x108, 31, 0⟩
def PDV.RES_SEL.X : Fld := ⟨0x025, 0x10C, 14, 0⟩
def PDV.RES_SEL.Y : Fld := ⟨0x025, 0x10C, 28, 15⟩
def PDV.RES_SEL.C : Fld := ⟨0x025, 0x10C, 30, 29⟩
/-- PDV.RES_VAL (chapter 10, R243). -/
def PDV.RES_VAL : Fld := ⟨0x025, 0x110, 31, 0⟩
/-- PDV.RES_STS (chapter 10, R243). -/
def PDV.RES_STS : Fld := ⟨0x025, 0x114, 31, 0⟩
def PDV.RES_STS.MAX : Fld := ⟨0x025, 0x114, 6, 0⟩
def PDV.RES_STS.FROZEN : Fld := ⟨0x025, 0x114, 7, 7⟩
/-- PDV.STAT_SAT (chapter 10, R243). -/
def PDV.STAT_SAT : Fld := ⟨0x025, 0x118, 31, 0⟩
/-- PDV.STAT_BLEED (chapter 10, R243). -/
def PDV.STAT_BLEED : Fld := ⟨0x025, 0x11C, 31, 0⟩
/-- PDV.STAT_TOUCH (chapter 10, R243). -/
def PDV.STAT_TOUCH : Fld := ⟨0x025, 0x120, 31, 0⟩
/-- PDV.WF_ADDR_LO (chapter 10, R243). -/
def PDV.WF_ADDR_LO : Fld := ⟨0x025, 0x124, 31, 0⟩
/-- PDV.WF_ADDR_HI (chapter 10, R243). -/
def PDV.WF_ADDR_HI : Fld := ⟨0x025, 0x128, 31, 0⟩
/-- PDV.WF_CTL (chapter 10, R243). -/
def PDV.WF_CTL : Fld := ⟨0x025, 0x12C, 31, 0⟩
def PDV.WF_CTL.SWAP : Fld := ⟨0x025, 0x12C, 0, 0⟩
def PDV.WF_CTL.ERR : Fld := ⟨0x025, 0x12C, 1, 1⟩
def PDV.WF_CTL.WHY : Fld := ⟨0x025, 0x12C, 10, 8⟩
/-- PDV.WV_STS (chapter 10, R243). -/
def PDV.WV_STS : Fld := ⟨0x025, 0x130, 31, 0⟩
def PDV.WV_STS.BAND : Fld := ⟨0x025, 0x130, 4, 2⟩
def PDV.WV_STS.BAND_NEXT : Fld := ⟨0x025, 0x130, 7, 5⟩
def PDV.WV_STS.PENDING : Fld := ⟨0x025, 0x130, 8, 8⟩
def PDV.WV_STS.TP : Fld := ⟨0x025, 0x130, 31, 16⟩
/-- PDV.RAIL_STS (chapter 10, R243). -/
def PDV.RAIL_STS : Fld := ⟨0x025, 0x134, 31, 0⟩
def PDV.RAIL_STS.UP : Fld := ⟨0x025, 0x134, 0, 0⟩
def PDV.RAIL_STS.VGH_LIM : Fld := ⟨0x025, 0x134, 1, 1⟩
def PDV.RAIL_STS.VGL_LIM : Fld := ⟨0x025, 0x134, 2, 2⟩
def PDV.RAIL_STS.VCOM_LIM : Fld := ⟨0x025, 0x134, 3, 3⟩
def PDV.RAIL_STS.GMA_LIM : Fld := ⟨0x025, 0x134, 4, 4⟩
def PDV.RAIL_STS.FAULT : Fld := ⟨0x025, 0x134, 5, 5⟩
def PDV.RAIL_STS.VCOM_CLAMP : Fld := ⟨0x025, 0x134, 6, 6⟩
/-- PDV.VCOM_TRIM (chapter 10, R243). -/
def PDV.VCOM_TRIM : Fld := ⟨0x025, 0x138, 31, 0⟩
def PDV.VCOM_TRIM.MV : Fld := ⟨0x025, 0x138, 15, 0⟩
def PDV.GATE_CTL.GATE_DLY : Fld := ⟨0x025, 0x13C, 11, 0⟩
def PDV.DIS_CTL.THR : Fld := ⟨0x025, 0x140, 7, 0⟩
/-- PDV.DIS_STS (chapter 10, R243). -/
def PDV.DIS_STS : Fld := ⟨0x025, 0x144, 31, 0⟩
def PDV.DIS_STS.RESULT : Fld := ⟨0x025, 0x144, 1, 0⟩
def PDV.DIS_STS.CAUSE : Fld := ⟨0x025, 0x144, 4, 2⟩
def PDV.DIS_STS.SENSE_MV : Fld := ⟨0x025, 0x144, 31, 16⟩
def PDV.HEAT_CTL.ON : Fld := ⟨0x025, 0x148, 7, 0⟩
def PDV.HEAT_CTL.OFF : Fld := ⟨0x025, 0x148, 15, 8⟩
def DMC.RT_CTL.SLICES : Fld := ⟨0x030, 0x100, 7, 0⟩
def DMC.RT_CTL.PENDING : Fld := ⟨0x030, 0x100, 31, 31⟩
/-- DMC.RT_STS (chapter 12, R289). -/
def DMC.RT_STS : Fld := ⟨0x030, 0x104, 31, 0⟩
def DMC.RT_STS.CUR : Fld := ⟨0x030, 0x104, 7, 0⟩
def DMC.RT_STS.NEED : Fld := ⟨0x030, 0x104, 15, 8⟩
def DMC.RT_STS.SHORT : Fld := ⟨0x030, 0x104, 16, 16⟩
def DMC.AGE_LAT.WC : Fld := ⟨0x030, 0x108, 19, 0⟩
def DMC.AGE_THR.WC : Fld := ⟨0x030, 0x10C, 19, 0⟩
def DMC.AGE_BKG.WC : Fld := ⟨0x030, 0x110, 19, 0⟩
def DMC.RD_CTL.MODE : Fld := ⟨0x030, 0x114, 0, 0⟩
def DMC.RD_CTL.PROB_LOG2 : Fld := ⟨0x030, 0x114, 7, 4⟩
def DMC.RD_CTL.THR : Fld := ⟨0x030, 0x114, 31, 16⟩
/-- DMC.REF_CTL (chapter 12, R289). -/
def DMC.REF_CTL : Fld := ⟨0x030, 0x118, 31, 0⟩
/-- DMC.REF_STS (chapter 12, R289). -/
def DMC.REF_STS : Fld := ⟨0x030, 0x11C, 31, 0⟩
def DMC.REF_STS.HOT : Fld := ⟨0x030, 0x11C, 0, 0⟩
def DMC.REF_STS.POST_MAX : Fld := ⟨0x030, 0x11C, 11, 8⟩
/-- DMC.STK_TEMP (chapter 12, R289). -/
def DMC.STK_TEMP : Fld := ⟨0x030, 0x120, 31, 0⟩
/-- DMC.ECC_COR (chapter 12, R289). -/
def DMC.ECC_COR : Fld := ⟨0x030, 0x124, 31, 0⟩
/-- DMC.ECC_UNC (chapter 12, R289). -/
def DMC.ECC_UNC : Fld := ⟨0x030, 0x128, 31, 0⟩
/-- DMC.ERR_ADDR_LO (chapter 12, R289). -/
def DMC.ERR_ADDR_LO : Fld := ⟨0x030, 0x12C, 31, 0⟩
/-- DMC.ERR_ADDR_HI (chapter 12, R289). -/
def DMC.ERR_ADDR_HI : Fld := ⟨0x030, 0x130, 31, 0⟩
def DMC.ERR_ADDR_HI.ADDR : Fld := ⟨0x030, 0x130, 4, 0⟩
def DMC.ERR_ADDR_HI.CLASS : Fld := ⟨0x030, 0x130, 9, 8⟩
def DMC.COR_THR.COUNT : Fld := ⟨0x030, 0x134, 15, 0⟩
def DMC.SCRUB_CTL.ENA : Fld := ⟨0x030, 0x138, 0, 0⟩
def DMC.SCRUB_STS.BLOCK : Fld := ⟨0x030, 0x13C, 18, 0⟩
def DMC.SCRUB_STS.PASSES : Fld := ⟨0x030, 0x13C, 31, 19⟩
def DMC.SR_STS.STATE : Fld := ⟨0x030, 0x140, 1, 0⟩
def DMC.SR_STS.CAUSE : Fld := ⟨0x030, 0x140, 4, 2⟩
/-- DMC.TRAIN_STS (chapter 12, R289). -/
def DMC.TRAIN_STS : Fld := ⟨0x030, 0x144, 31, 0⟩
def DMC.TRAIN_STS.PASS : Fld := ⟨0x030, 0x144, 3, 0⟩
def DMC.TRAIN_STS.FAIL : Fld := ⟨0x030, 0x144, 7, 4⟩
def DMC.TRAIN_STS.MARGIN : Fld := ⟨0x030, 0x144, 21, 16⟩
/-- DMC.XLATE_LO (chapter 12, R289). -/
def DMC.XLATE_LO : Fld := ⟨0x030, 0x148, 31, 0⟩
/-- DMC.XLATE_HI (chapter 12, R289). -/
def DMC.XLATE_HI : Fld := ⟨0x030, 0x14C, 31, 0⟩
/-- DMC.XLATE_OUT (chapter 12, R289). -/
def DMC.XLATE_OUT : Fld := ⟨0x030, 0x150, 31, 0⟩
/-- DMC.ROUND_POS (chapter 12, R289). -/
def DMC.ROUND_POS : Fld := ⟨0x030, 0x154, 31, 0⟩
/-- DMC.STAT_RT (chapter 12, R289). -/
def DMC.STAT_RT : Fld := ⟨0x030, 0x158, 31, 0⟩
/-- DMC.STAT_NR (chapter 12, R289). -/
def DMC.STAT_NR : Fld := ⟨0x030, 0x15C, 31, 0⟩
/-- DMC.STAT_PROMO (chapter 12, R289). -/
def DMC.STAT_PROMO : Fld := ⟨0x030, 0x160, 31, 0⟩
def LAN.LANE_SEL.LANE : Fld := ⟨0x031, 0x100, 8, 0⟩
/-- LAN.LANE_STS (chapter 13, R312). -/
def LAN.LANE_STS : Fld := ⟨0x031, 0x104, 31, 0⟩
def LAN.LANE_STS.RATE : Fld := ⟨0x031, 0x104, 2, 0⟩
def LAN.LANE_STS.LOS : Fld := ⟨0x031, 0x104, 3, 3⟩
def LAN.LANE_STS.CDR : Fld := ⟨0x031, 0x104, 4, 4⟩
def LAN.LANE_STS.BLOCK : Fld := ⟨0x031, 0x104, 5, 5⟩
def LAN.LANE_STS.PRE_TX : Fld := ⟨0x031, 0x104, 6, 6⟩
def LAN.LANE_STS.PRE_RX : Fld := ⟨0x031, 0x104, 7, 7⟩
def LAN.LANE_STS.FAILED : Fld := ⟨0x031, 0x104, 8, 8⟩
def LAN.LANE_STS.DEGR : Fld := ⟨0x031, 0x104, 9, 9⟩
def LAN.LANE_STS.LOSS_CNT : Fld := ⟨0x031, 0x104, 31, 16⟩
/-- LAN.LANE_EQ (chapter 13, R312). -/
def LAN.LANE_EQ : Fld := ⟨0x031, 0x108, 31, 0⟩
def LAN.LANE_EQ.CTLE : Fld := ⟨0x031, 0x108, 19, 16⟩
def LAN.LANE_ERR.SH_ERR : Fld := ⟨0x031, 0x10C, 15, 0⟩
def LAN.LANE_ERR.SLIP : Fld := ⟨0x031, 0x10C, 31, 16⟩
/-- LAN.LANE_CTL (chapter 13, R312). -/
def LAN.LANE_CTL : Fld := ⟨0x031, 0x110, 31, 0⟩
def LAN.LANE_CTL.DIS : Fld := ⟨0x031, 0x110, 0, 0⟩
/-- LAN.PORT_SEL (chapter 13, R312). -/
def LAN.PORT_SEL : Fld := ⟨0x031, 0x114, 31, 0⟩
/-- LAN.PORT_CFG (chapter 13, R312). -/
def LAN.PORT_CFG : Fld := ⟨0x031, 0x118, 31, 0⟩
def LAN.PORT_CFG.ENA : Fld := ⟨0x031, 0x118, 0, 0⟩
def LAN.PORT_CFG.MODE : Fld := ⟨0x031, 0x118, 1, 1⟩
def LAN.PORT_CFG.MAX_RATE : Fld := ⟨0x031, 0x118, 4, 2⟩
def LAN.PORT_CFG.PRECODE_REQ : Fld := ⟨0x031, 0x118, 5, 5⟩
def LAN.PORT_CFG.AN : Fld := ⟨0x031, 0x118, 6, 6⟩
def LAN.PORT_CFG.ETH_TYPE : Fld := ⟨0x031, 0x118, 9, 7⟩
def LAN.PORT_CFG.BO_MAX : Fld := ⟨0x031, 0x118, 13, 10⟩
/-- LAN.PORT_STS (chapter 13, R312). -/
def LAN.PORT_STS : Fld := ⟨0x031, 0x11C, 31, 0⟩
def LAN.PORT_STS.STATE : Fld := ⟨0x031, 0x11C, 3, 0⟩
def LAN.PORT_STS.RATE : Fld := ⟨0x031, 0x11C, 6, 4⟩
def LAN.PORT_STS.BACKOFF : Fld := ⟨0x031, 0x11C, 7, 7⟩
def LAN.PORT_STS.LANES_UP : Fld := ⟨0x031, 0x11C, 15, 8⟩
def LAN.PORT_STS.PARTNER_MAX : Fld := ⟨0x031, 0x11C, 18, 16⟩
def LAN.PORT_STS.CAP_RATE : Fld := ⟨0x031, 0x11C, 21, 19⟩
def LAN.PORT_STS.BO_CUR : Fld := ⟨0x031, 0x11C, 25, 22⟩
def LAN.PORT_FAIL.CODE : Fld := ⟨0x031, 0x120, 7, 0⟩
def LAN.PORT_FAIL.RATE : Fld := ⟨0x031, 0x120, 10, 8⟩
def LAN.PORT_FAIL.FAILS : Fld := ⟨0x031, 0x120, 31, 16⟩
def LAN.FILL_INT.BLOCKS : Fld := ⟨0x031, 0x124, 12, 0⟩
def LAN.DEGR_THR.COUNT : Fld := ⟨0x031, 0x128, 15, 0⟩
def LAN.ETH_FEC_COR.COUNT : Fld := ⟨0x031, 0x12C, 31, 0⟩
def LAN.ETH_FEC_UNC.COUNT : Fld := ⟨0x031, 0x130, 31, 0⟩
def FAB.ADDR_CFG.SRC : Fld := ⟨0x032, 0x100, 1, 0⟩
def FAB.ADDR_CFG.STATIC : Fld := ⟨0x032, 0x100, 31, 16⟩
/-- FAB.ADDR_STS (chapter 14, R339). -/
def FAB.ADDR_STS : Fld := ⟨0x032, 0x104, 31, 0⟩
def FAB.ADDR_STS.ADDR : Fld := ⟨0x032, 0x104, 15, 0⟩
def FAB.ADDR_STS.STATE : Fld := ⟨0x032, 0x104, 18, 16⟩
def FAB.ADDR_STS.ROOT : Fld := ⟨0x032, 0x104, 19, 19⟩
def FAB.ADDR_STS.HOPS : Fld := ⟨0x032, 0x104, 31, 22⟩
def FAB.ROOT_CFG.ELIG : Fld := ⟨0x032, 0x108, 0, 0⟩
def FAB.ROOT_CFG.COL : Fld := ⟨0x032, 0x108, 15, 8⟩
def FAB.ROOT_CFG.ROW : Fld := ⟨0x032, 0x108, 23, 16⟩
/-- FAB.ROOT_ID_LO (chapter 14, R339). -/
def FAB.ROOT_ID_LO : Fld := ⟨0x032, 0x10C, 31, 0⟩
/-- FAB.ROOT_ID_HI (chapter 14, R339). -/
def FAB.ROOT_ID_HI : Fld := ⟨0x032, 0x110, 31, 0⟩
def FAB.GRID.W_M1 : Fld := ⟨0x032, 0x114, 7, 0⟩
def FAB.GRID.H_M1 : Fld := ⟨0x032, 0x114, 15, 8⟩
def FAB.GRID.TOR_X : Fld := ⟨0x032, 0x114, 16, 16⟩
def FAB.GRID.TOR_Y : Fld := ⟨0x032, 0x114, 17, 17⟩
def FAB.DISC_CTL.TTL : Fld := ⟨0x032, 0x118, 25, 16⟩
/-- FAB.PDIR (chapter 14, R339). -/
def FAB.PDIR : Fld := ⟨0x032, 0x11C, 31, 0⟩
def FAB.RT_CTL.ENA : Fld := ⟨0x032, 0x12C, 0, 0⟩
def FAB.RT_SEL.DST : Fld := ⟨0x032, 0x130, 15, 0⟩
def FAB.RT_SEL.AUTO : Fld := ⟨0x032, 0x130, 16, 16⟩
def FAB.RT_DATA.PORT : Fld := ⟨0x032, 0x134, 5, 0⟩
def FAB.PORT_SEL.PORT : Fld := ⟨0x032, 0x138, 5, 0⟩
/-- FAB.PORT_STS (chapter 14, R339). -/
def FAB.PORT_STS : Fld := ⟨0x032, 0x13C, 31, 0⟩
def FAB.PORT_STS.WIDTH : Fld := ⟨0x032, 0x13C, 3, 0⟩
def FAB.PORT_STS.LANES : Fld := ⟨0x032, 0x13C, 11, 4⟩
def FAB.PORT_STS.QUAR : Fld := ⟨0x032, 0x13C, 12, 12⟩
def FAB.PORT_STS.NEIGH_OK : Fld := ⟨0x032, 0x13C, 13, 13⟩
def FAB.PORT_STS.ROUTE : Fld := ⟨0x032, 0x13C, 14, 14⟩
def FAB.PORT_STS.DIR : Fld := ⟨0x032, 0x13C, 18, 16⟩
def FAB.PORT_VIOL.COUNT : Fld := ⟨0x032, 0x144, 15, 0⟩
def FAB.PORT_VIOL.CODE : Fld := ⟨0x032, 0x144, 23, 16⟩
/-- FAB.PORT_REPLAY (chapter 14, R339). -/
def FAB.PORT_REPLAY : Fld := ⟨0x032, 0x148, 31, 0⟩
def FAB.VIOL_CFG.THR : Fld := ⟨0x032, 0x14C, 7, 0⟩
def FAB.VIOL_CFG.QUAR_S : Fld := ⟨0x032, 0x14C, 23, 8⟩
/-- FAB.MGR0 (chapter 14, R339). -/
def FAB.MGR0 : Fld := ⟨0x032, 0x150, 31, 0⟩
def FAB.MGR0.ADDR : Fld := ⟨0x032, 0x150, 15, 0⟩
def FAB.MGR0.VALID : Fld := ⟨0x032, 0x150, 16, 16⟩
def FAB.MGR1.ADDR : Fld := ⟨0x032, 0x154, 15, 0⟩
def FAB.MGR1.VALID : Fld := ⟨0x032, 0x154, 16, 16⟩
/-- FAB.STAT_FWD (chapter 14, R339). -/
def FAB.STAT_FWD : Fld := ⟨0x032, 0x158, 31, 0⟩
/-- FAB.STAT_DROP (chapter 14, R339). -/
def FAB.STAT_DROP : Fld := ⟨0x032, 0x15C, 31, 0⟩
def FAB.NAK_LAST.CODE : Fld := ⟨0x032, 0x160, 7, 0⟩
def FAB.NAK_LAST.PORT : Fld := ⟨0x032, 0x160, 15, 8⟩
def FAB.NAK_LAST.SRC : Fld := ⟨0x032, 0x160, 31, 16⟩
/-- FAB.TR_DROP (chapter 14, R339). -/
def FAB.TR_DROP : Fld := ⟨0x032, 0x164, 31, 0⟩
def TIM.CTL.PROFILE : Fld := ⟨0x040, 0x100, 1, 0⟩
def TIM.CTL.DOMAIN : Fld := ⟨0x040, 0x100, 15, 8⟩
def TIM.PORT_ENA0.PORTS : Fld := ⟨0x040, 0x104, 23, 0⟩
def TIM.PORT_ENA1.FLEX : Fld := ⟨0x040, 0x108, 15, 0⟩
def TIM.PORT_ENA1.MGMT : Fld := ⟨0x040, 0x108, 16, 16⟩
/-- TIM.LOG_INT (chapter 15, R364). -/
def TIM.LOG_INT : Fld := ⟨0x040, 0x10C, 31, 0⟩
def TIM.ASYM_SEL.PORT : Fld := ⟨0x040, 0x110, 5, 0⟩
/-- TIM.ASYM (chapter 15, R364). -/
def TIM.ASYM : Fld := ⟨0x040, 0x114, 31, 0⟩
def TIM.ASYM.UNC : Fld := ⟨0x040, 0x114, 31, 20⟩
/-- TIM.STS (chapter 15, R364). -/
def TIM.STS : Fld := ⟨0x040, 0x118, 31, 0⟩
def TIM.STS.STATE : Fld := ⟨0x040, 0x118, 2, 0⟩
def TIM.STS.TVAL : Fld := ⟨0x040, 0x118, 3, 3⟩
def TIM.STS.JUMP : Fld := ⟨0x040, 0x118, 4, 4⟩
def TIM.STS.PPS_OK : Fld := ⟨0x040, 0x118, 5, 5⟩
def TIM.STS.CLK10_OK : Fld := ⟨0x040, 0x118, 6, 6⟩
def TIM.STS.PORT : Fld := ⟨0x040, 0x118, 15, 8⟩
def TIM.BOUND.US : Fld := ⟨0x040, 0x11C, 31, 0⟩
/-- TIM.OFFSET (chapter 15, R364). -/
def TIM.OFFSET : Fld := ⟨0x040, 0x120, 31, 0⟩
def TIM.OFFSET.NS : Fld := ⟨0x040, 0x120, 31, 0⟩
/-- TIM.JUMP (chapter 15, R364). -/
def TIM.JUMP : Fld := ⟨0x040, 0x124, 31, 0⟩
def TIM.JUMP.US : Fld := ⟨0x040, 0x124, 31, 0⟩
def TIM.JUMP_THR.US : Fld := ⟨0x040, 0x12C, 23, 0⟩
def TIM.VALID_LIM.US : Fld := ⟨0x040, 0x130, 23, 0⟩
/-- TIM.SLEW_LIM (chapter 15, R364). -/
def TIM.SLEW_LIM : Fld := ⟨0x040, 0x134, 31, 0⟩
def TIM.SLEW_LIM.US : Fld := ⟨0x040, 0x134, 23, 0⟩
/-- TIM.HOLD_RATE (chapter 15, R364). -/
def TIM.HOLD_RATE : Fld := ⟨0x040, 0x138, 31, 0⟩
def TIM.HOLD_RATE.INT : Fld := ⟨0x040, 0x138, 15, 0⟩
def TIM.HOLD_RATE.EXT : Fld := ⟨0x040, 0x138, 31, 16⟩
/-- TIM.PPS_CFG (chapter 15, R364). -/
def TIM.PPS_CFG : Fld := ⟨0x040, 0x13C, 31, 0⟩
def TIM.PPS_CFG.ENA : Fld := ⟨0x040, 0x13C, 0, 0⟩
def TIM.PPS_CFG.ACC : Fld := ⟨0x040, 0x13C, 15, 8⟩
def TIM.PPS_CFG.WIN : Fld := ⟨0x040, 0x13C, 31, 16⟩
/-- TIM.ACC_UNK (chapter 15, R364). -/
def TIM.ACC_UNK : Fld := ⟨0x040, 0x140, 31, 0⟩
def TIM.ACC_UNK.US : Fld := ⟨0x040, 0x140, 23, 0⟩
/-- TIM.SEC_HI (chapter 15, R364). -/
def TIM.SEC_HI : Fld := ⟨0x040, 0x144, 31, 0⟩
/-- TIM.SEC_LO (chapter 15, R364). -/
def TIM.SEC_LO : Fld := ⟨0x040, 0x148, 31, 0⟩
/-- TIM.NSEC (chapter 15, R364). -/
def TIM.NSEC : Fld := ⟨0x040, 0x14C, 31, 0⟩
/-- TIM.NS_RAW (chapter 15, R364). -/
def TIM.NS_RAW : Fld := ⟨0x040, 0x150, 31, 0⟩
/-- TIM.GM_ID_LO (chapter 15, R364). -/
def TIM.GM_ID_LO : Fld := ⟨0x040, 0x154, 31, 0⟩
/-- TIM.GM_ID_HI (chapter 15, R364). -/
def TIM.GM_ID_HI : Fld := ⟨0x040, 0x158, 31, 0⟩
/-- TIM.HOLD_T (chapter 15, R364). -/
def TIM.HOLD_T : Fld := ⟨0x040, 0x15C, 31, 0⟩
/-- TIM.STAT_STEP (chapter 15, R364). -/
def TIM.STAT_STEP : Fld := ⟨0x040, 0x160, 31, 0⟩
/-- TIM.STAT_DROP (chapter 15, R364). -/
def TIM.STAT_DROP : Fld := ⟨0x040, 0x164, 31, 0⟩
def LNT.SLOT_SEL.SLOT : Fld := ⟨0x041, 0x100, 7, 0⟩
/-- LNT.SLOT_CFG (chapter 15, R365). -/
def LNT.SLOT_CFG : Fld := ⟨0x041, 0x104, 31, 0⟩
def LNT.SLOT_CFG.MODE : Fld := ⟨0x041, 0x104, 1, 0⟩
def LNT.SLOT_CFG.LOG : Fld := ⟨0x041, 0x104, 2, 2⟩
def LNT.SLOT_CFG.LINE : Fld := ⟨0x041, 0x104, 29, 16⟩
/-- LNT.SLOT_WC (chapter 15, R365). -/
def LNT.SLOT_WC : Fld := ⟨0x041, 0x108, 31, 0⟩
/-- LNT.SLOT_FRAME (chapter 15, R365). -/
def LNT.SLOT_FRAME : Fld := ⟨0x041, 0x10C, 31, 0⟩
/-- LNT.FIRED (chapter 15, R365). -/
def LNT.FIRED : Fld := ⟨0x041, 0x110, 31, 0⟩
def LNT.CMP_SEL.CH : Fld := ⟨0x041, 0x130, 3, 0⟩
/-- LNT.CMP_VAL (chapter 15, R365). -/
def LNT.CMP_VAL : Fld := ⟨0x041, 0x134, 31, 0⟩
/-- LNT.CMP_CTL (chapter 15, R365). -/
def LNT.CMP_CTL : Fld := ⟨0x041, 0x138, 31, 0⟩
def LNT.CMP_CTL.ARM : Fld := ⟨0x041, 0x138, 0, 0⟩
def LNT.CMP_CTL.ACT : Fld := ⟨0x041, 0x138, 2, 1⟩
/-- LNT.CMP_STS (chapter 15, R365). -/
def LNT.CMP_STS : Fld := ⟨0x041, 0x13C, 31, 0⟩
def LNT.CMP_STS.FIRED : Fld := ⟨0x041, 0x13C, 0, 0⟩
def LNT.CMP_STS.LATE : Fld := ⟨0x041, 0x13C, 1, 1⟩
def LNT.CMP_STS.DISARMED : Fld := ⟨0x041, 0x13C, 2, 2⟩
/-- LNT.CMP_BEAM_LO (chapter 15, R365). -/
def LNT.CMP_BEAM_LO : Fld := ⟨0x041, 0x140, 31, 0⟩
/-- LNT.CMP_BEAM_HI (chapter 15, R365). -/
def LNT.CMP_BEAM_HI : Fld := ⟨0x041, 0x144, 31, 0⟩
/-- LEF.CFG (chapter 16, R393). -/
def LEF.CFG : Fld := ⟨0x042, 0x100, 31, 0⟩
def LEF.CFG.PAIRED : Fld := ⟨0x042, 0x100, 0, 0⟩
def LEF.CFG.PREF : Fld := ⟨0x042, 0x100, 1, 1⟩
def LEF.CFG.REVERT : Fld := ⟨0x042, 0x100, 2, 2⟩
def LEF.CFG.SWAP_H : Fld := ⟨0x042, 0x100, 15, 8⟩
def LEF.CFG.DIG_THR : Fld := ⟨0x042, 0x100, 23, 16⟩
def LEF.REVERT_S.S : Fld := ⟨0x042, 0x104, 15, 0⟩
/-- LEF.PARTNER (chapter 16, R393). -/
def LEF.PARTNER : Fld := ⟨0x042, 0x108, 31, 0⟩
def LEF.PARTNER.ADDR : Fld := ⟨0x042, 0x108, 15, 0⟩
/-- LEF.CTL (chapter 16, R393). -/
def LEF.CTL : Fld := ⟨0x042, 0x10C, 31, 0⟩
def LEF.CTL.SWAP : Fld := ⟨0x042, 0x10C, 0, 0⟩
def LEF.CTL.RESYNC : Fld := ⟨0x042, 0x10C, 1, 1⟩
def LEF.CTL.REARM : Fld := ⟨0x042, 0x10C, 2, 2⟩
/-- LEF.STS (chapter 16, R393). -/
def LEF.STS : Fld := ⟨0x042, 0x110, 31, 0⟩
def LEF.STS.ROLE : Fld := ⟨0x042, 0x110, 2, 0⟩
def LEF.STS.PARTNER_ROLE : Fld := ⟨0x042, 0x110, 5, 3⟩
def LEF.STS.HINGE_UP : Fld := ⟨0x042, 0x110, 6, 6⟩
def LEF.STS.PARTNER_SEEN : Fld := ⟨0x042, 0x110, 7, 7⟩
def LEF.STS.BARRED : Fld := ⟨0x042, 0x110, 8, 8⟩
def LEF.STS.FAULT : Fld := ⟨0x042, 0x110, 23, 16⟩
/-- LEF.TAKE_LO (chapter 16, R393). -/
def LEF.TAKE_LO : Fld := ⟨0x042, 0x114, 31, 0⟩
/-- LEF.TAKE_HI (chapter 16, R393). -/
def LEF.TAKE_HI : Fld := ⟨0x042, 0x118, 31, 0⟩
/-- LEF.TAKE_CAUSE (chapter 16, R393). -/
def LEF.TAKE_CAUSE : Fld := ⟨0x042, 0x11C, 31, 0⟩
def LEF.TAKE_CAUSE.CAUSE : Fld := ⟨0x042, 0x11C, 3, 0⟩
def LEF.TAKE_CAUSE.COUNT : Fld := ⟨0x042, 0x11C, 31, 16⟩
/-- LEF.MIRROR_LATE (chapter 16, R393). -/
def LEF.MIRROR_LATE : Fld := ⟨0x042, 0x120, 31, 0⟩
/-- LEF.REPAIR_Q (chapter 16, R393). -/
def LEF.REPAIR_Q : Fld := ⟨0x042, 0x124, 31, 0⟩
def LEF.REPAIR_Q.BYTES : Fld := ⟨0x042, 0x124, 27, 0⟩
def LEF.SYNC_PROG.PERCENT : Fld := ⟨0x042, 0x128, 6, 0⟩
/-- LEF.RES_GAP (chapter 16, R393). -/
def LEF.RES_GAP : Fld := ⟨0x042, 0x12C, 31, 0⟩
def LEF.THR.UNPROV : Fld := ⟨0x042, 0x130, 7, 0⟩
/-- LEF.REPAIR_MAX (chapter 16, R393). -/
def LEF.REPAIR_MAX : Fld := ⟨0x042, 0x134, 31, 0⟩
/-- NVS.STS (chapter 17, R412). -/
def NVS.STS : Fld := ⟨0x050, 0x100, 31, 0⟩
def NVS.STS.BUSY : Fld := ⟨0x050, 0x100, 1, 1⟩
def NVS.STS.QDEPTH : Fld := ⟨0x050, 0x100, 6, 2⟩
def NVS.STS.WEAR : Fld := ⟨0x050, 0x100, 7, 7⟩
def NVS.STS.SCRUB : Fld := ⟨0x050, 0x100, 8, 8⟩
def NVS.STS.LOCKOUT : Fld := ⟨0x050, 0x100, 10, 10⟩
def NVS.PG_SEL.PAGE : Fld := ⟨0x050, 0x104, 11, 0⟩
/-- NVS.PWD_LO (chapter 17, R412). -/
def NVS.PWD_LO : Fld := ⟨0x050, 0x108, 31, 0⟩
/-- NVS.PWD_HI (chapter 17, R412). -/
def NVS.PWD_HI : Fld := ⟨0x050, 0x10C, 31, 0⟩
/-- NVS.CMD (chapter 17, R412). -/
def NVS.CMD : Fld := ⟨0x050, 0x110, 31, 0⟩
def NVS.RESULT.CODE : Fld := ⟨0x050, 0x114, 3, 0⟩
/-- NVS.PG_SEQ (chapter 17, R412). -/
def NVS.PG_SEQ : Fld := ⟨0x050, 0x118, 31, 0⟩
def NVS.CNT_SEL.COUNTER : Fld := ⟨0x050, 0x11C, 6, 0⟩
/-- NVS.CNT_VAL (chapter 17, R412). -/
def NVS.CNT_VAL : Fld := ⟨0x050, 0x120, 31, 0⟩
/-- NVS.SCRUB_STS (chapter 17, R412). -/
def NVS.SCRUB_STS : Fld := ⟨0x050, 0x124, 31, 0⟩
def NVS.SCRUB_STS.PAGE : Fld := ⟨0x050, 0x124, 11, 0⟩
def NVS.SCRUB_STS.REWRITTEN : Fld := ⟨0x050, 0x124, 31, 12⟩
/-- NVS.LOG_STS (chapter 17, R412). -/
def NVS.LOG_STS : Fld := ⟨0x050, 0x12C, 31, 0⟩
def NVS.LOG_STS.HEAD : Fld := ⟨0x050, 0x12C, 13, 0⟩
def NVS.LOG_STS.FF_COUNT : Fld := ⟨0x050, 0x12C, 22, 14⟩
def NVS.LOG_STS.FF_FULL : Fld := ⟨0x050, 0x12C, 23, 23⟩
/-- NVS.LOG_DROP (chapter 17, R412). -/
def NVS.LOG_DROP : Fld := ⟨0x050, 0x130, 31, 0⟩
/-- BMS.STS (chapter 17, R413). -/
def BMS.STS : Fld := ⟨0x051, 0x100, 31, 0⟩
def BMS.STS.A_VALID : Fld := ⟨0x051, 0x100, 0, 0⟩
def BMS.STS.B_VALID : Fld := ⟨0x051, 0x100, 1, 1⟩
def BMS.STS.BUSY : Fld := ⟨0x051, 0x100, 2, 2⟩
def BMS.STS.RETIRED : Fld := ⟨0x051, 0x100, 31, 16⟩
def BMS.SIDE_SEL.SIDE : Fld := ⟨0x051, 0x104, 0, 0⟩
def BMS.OFS.OFS : Fld := ⟨0x051, 0x108, 31, 12⟩
def BMS.HBM_LO.ADDR : Fld := ⟨0x051, 0x10C, 31, 12⟩
def BMS.HBM_HI.ADDR : Fld := ⟨0x051, 0x110, 4, 0⟩
def BMS.LEN.BYTES : Fld := ⟨0x051, 0x114, 31, 0⟩
/-- BMS.CTL (chapter 17, R413). -/
def BMS.CTL : Fld := ⟨0x051, 0x118, 31, 0⟩
def BMS.RESULT.CODE : Fld := ⟨0x051, 0x11C, 3, 0⟩
/-- BMS.GEN_A (chapter 17, R413). -/
def BMS.GEN_A : Fld := ⟨0x051, 0x120, 31, 0⟩
/-- BMS.GEN_B (chapter 17, R413). -/
def BMS.GEN_B : Fld := ⟨0x051, 0x124, 31, 0⟩
def THM.ZONE_SEL.ZONE : Fld := ⟨0x052, 0x100, 2, 0⟩
/-- THM.ZONE_THR0 (chapter 18, R430). -/
def THM.ZONE_THR0 : Fld := ⟨0x052, 0x104, 31, 0⟩
def THM.ZONE_THR0.CSTOP : Fld := ⟨0x052, 0x104, 7, 0⟩
def THM.ZONE_THR0.CWARN : Fld := ⟨0x052, 0x104, 15, 8⟩
def THM.ZONE_THR0.HWARN : Fld := ⟨0x052, 0x104, 23, 16⟩
def THM.ZONE_THR0.HTHR : Fld := ⟨0x052, 0x104, 31, 24⟩
/-- THM.ZONE_THR1 (chapter 18, R430). -/
def THM.ZONE_THR1 : Fld := ⟨0x052, 0x108, 31, 0⟩
def THM.ZONE_THR1.HSTOP : Fld := ⟨0x052, 0x108, 7, 0⟩
def THM.ZONE_THR1.TRIP : Fld := ⟨0x052, 0x108, 15, 8⟩
/-- THM.ZONE_STS (chapter 18, R430). -/
def THM.ZONE_STS : Fld := ⟨0x052, 0x10C, 31, 0⟩
def THM.ZONE_STS.TEMP : Fld := ⟨0x052, 0x10C, 15, 0⟩
def THM.ZONE_STS.LEVEL : Fld := ⟨0x052, 0x10C, 18, 16⟩
def THM.ZONE_STS.ALL_BROKEN : Fld := ⟨0x052, 0x10C, 19, 19⟩
def THM.SEN_SEL.SENSOR : Fld := ⟨0x052, 0x110, 4, 0⟩
/-- THM.SEN_STS (chapter 18, R430). -/
def THM.SEN_STS : Fld := ⟨0x052, 0x114, 31, 0⟩
def THM.SEN_STS.TEMP : Fld := ⟨0x052, 0x114, 15, 0⟩
def THM.SEN_STS.BROKEN : Fld := ⟨0x052, 0x114, 16, 16⟩
def THM.SEN_STS.KIND : Fld := ⟨0x052, 0x114, 18, 17⟩
def THM.SEN_CFG.THERM : Fld := ⟨0x052, 0x118, 11, 0⟩
def THM.HYST.C : Fld := ⟨0x052, 0x11C, 3, 0⟩
/-- THM.FAULT (chapter 18, R430). -/
def THM.FAULT : Fld := ⟨0x052, 0x120, 31, 0⟩
def THM.FAULT.ZONES : Fld := ⟨0x052, 0x120, 6, 0⟩
def THM.FAULT.BROKEN : Fld := ⟨0x052, 0x120, 7, 7⟩
def THM.FAULT.STOPPED : Fld := ⟨0x052, 0x120, 8, 8⟩
def THM.RESTART.S : Fld := ⟨0x052, 0x124, 15, 0⟩
def CLB.CTL.AUTO : Fld := ⟨0x053, 0x100, 0, 0⟩
/-- CLB.DRIFT (chapter 18, R431). -/
def CLB.DRIFT : Fld := ⟨0x053, 0x104, 31, 0⟩
def CLB.DRIFT.T : Fld := ⟨0x053, 0x104, 7, 0⟩
/-- CLB.CMD (chapter 18, R431). -/
def CLB.CMD : Fld := ⟨0x053, 0x108, 31, 0⟩
/-- CLB.STS (chapter 18, R431). -/
def CLB.STS : Fld := ⟨0x053, 0x10C, 31, 0⟩
def CLB.STS.RUNNING : Fld := ⟨0x053, 0x10C, 2, 0⟩
def CLB.STS.WAITING : Fld := ⟨0x053, 0x10C, 3, 3⟩
def CLB.STS.VREF_OK : Fld := ⟨0x053, 0x10C, 4, 4⟩
def CLB.STS.CLK10_OK : Fld := ⟨0x053, 0x10C, 5, 5⟩
def CLB.STS.UNCAL : Fld := ⟨0x053, 0x10C, 6, 6⟩
/-- CLB.VREF_GAIN (chapter 18, R431). -/
def CLB.VREF_GAIN : Fld := ⟨0x053, 0x110, 31, 0⟩
def CLB.VREF_GAIN.PPM : Fld := ⟨0x053, 0x110, 31, 0⟩
/-- CLB.FREQ_ERR (chapter 18, R431). -/
def CLB.FREQ_ERR : Fld := ⟨0x053, 0x114, 31, 0⟩
def CLB.FREQ_ERR.PPB : Fld := ⟨0x053, 0x114, 31, 0⟩
/-- CLB.VCOM_TGT (chapter 18, R431). -/
def CLB.VCOM_TGT : Fld := ⟨0x053, 0x118, 31, 0⟩
def CLB.VCOM_TGT.A : Fld := ⟨0x053, 0x118, 15, 0⟩
def CLB.VCOM_TGT.B : Fld := ⟨0x053, 0x118, 31, 16⟩
/-- CLB.ST_CTL (chapter 18, R431). -/
def CLB.ST_CTL : Fld := ⟨0x053, 0x11C, 31, 0⟩
def CLB.ST_CTL.TEST : Fld := ⟨0x053, 0x11C, 2, 0⟩
def CLB.ST_CTL.TARGET : Fld := ⟨0x053, 0x11C, 24, 16⟩
/-- CLB.ST_STS (chapter 18, R431). -/
def CLB.ST_STS : Fld := ⟨0x053, 0x120, 31, 0⟩
def CLB.ST_STS.BUSY : Fld := ⟨0x053, 0x120, 0, 0⟩
def CLB.ST_STS.PASS : Fld := ⟨0x053, 0x120, 1, 1⟩
def CLB.ST_STS.RESULT : Fld := ⟨0x053, 0x120, 3, 2⟩
/-- CLB.STAT_RUN (chapter 18, R431). -/
def CLB.STAT_RUN : Fld := ⟨0x053, 0x124, 31, 0⟩
/-- SEC.CTL (chapter 19, R452). -/
def SEC.CTL : Fld := ⟨0x060, 0x100, 31, 0⟩
/-- SEC.STS (chapter 19, R452). -/
def SEC.STS : Fld := ⟨0x060, 0x104, 31, 0⟩
def SEC.STS.SEC : Fld := ⟨0x060, 0x104, 1, 0⟩
def SEC.STS.DBG : Fld := ⟨0x060, 0x104, 3, 2⟩
def SEC.STS.PWR : Fld := ⟨0x060, 0x104, 6, 4⟩
def SEC.STS.KEYS_HIDDEN : Fld := ⟨0x060, 0x104, 7, 7⟩
def SEC.STS.INT_PEND : Fld := ⟨0x060, 0x104, 8, 8⟩
def SEC.STS.KEYSTORE_OK : Fld := ⟨0x060, 0x104, 9, 9⟩
def SEC.STS.FW_OK : Fld := ⟨0x060, 0x104, 10, 10⟩
/-- SEC.RESULT (chapter 19, R452). -/
def SEC.RESULT : Fld := ⟨0x060, 0x108, 31, 0⟩
def SEC.RESULT.CODE : Fld := ⟨0x060, 0x108, 3, 0⟩
def SEC.NONCE_LO.NONCE : Fld := ⟨0x060, 0x10C, 31, 0⟩
def SEC.NONCE_HI.NONCE : Fld := ⟨0x060, 0x110, 31, 0⟩
def SEC.KEY_SEL.SLOT : Fld := ⟨0x060, 0x114, 9, 0⟩
def SEC.KEY_BIND.SOURCE : Fld := ⟨0x060, 0x118, 15, 0⟩
/-- SEC.KEY_STS (chapter 19, R452). -/
def SEC.KEY_STS : Fld := ⟨0x060, 0x11C, 31, 0⟩
/-- SEC.TAG_FAIL (chapter 19, R452). -/
def SEC.TAG_FAIL : Fld := ⟨0x060, 0x120, 31, 0⟩
def SEC.TAG_LAST.SLOT : Fld := ⟨0x060, 0x124, 9, 0⟩
def SEC.TAG_LAST.SOURCE : Fld := ⟨0x060, 0x124, 31, 16⟩
def SEC.FW_STS.SVN : Fld := ⟨0x060, 0x128, 5, 0⟩
def SEC.FW_STS.SIDE : Fld := ⟨0x060, 0x128, 6, 6⟩
def SEC.FW_STS.SVN_MIN : Fld := ⟨0x060, 0x128, 13, 8⟩
def SEC.FW_STS.KEY_IDX : Fld := ⟨0x060, 0x128, 14, 14⟩
def SEC.FW_STS.KEY0_REVOKED : Fld := ⟨0x060, 0x128, 15, 15⟩
/-- SEC.FW_VER (chapter 19, R452). -/
def SEC.FW_VER : Fld := ⟨0x060, 0x12C, 31, 0⟩
/-- DBG.STS (chapter 19, R453). -/
def DBG.STS : Fld := ⟨0x061, 0x100, 31, 0⟩
def DBG.STS.REQ : Fld := ⟨0x061, 0x100, 3, 2⟩
def DBG.STS.PRESENT : Fld := ⟨0x061, 0x100, 4, 4⟩
def DBG.STS.HALTED : Fld := ⟨0x061, 0x100, 5, 5⟩
def DBG.STS.SCAN_HELD : Fld := ⟨0x061, 0x100, 6, 6⟩
def DBG.GRANT_LO.STAMP : Fld := ⟨0x061, 0x104, 31, 0⟩
def DBG.GRANT_HI.STAMP : Fld := ⟨0x061, 0x108, 31, 0⟩
def DBG.END_LO.STAMP : Fld := ⟨0x061, 0x10C, 31, 0⟩
def DBG.END_HI.STAMP : Fld := ⟨0x061, 0x110, 31, 0⟩
def DBG.CNT.COUNT : Fld := ⟨0x061, 0x114, 15, 0⟩
/-- EVT.BASE (chapter 21, R482). -/
def EVT.BASE : Fld := ⟨0x070, 0x100, 31, 0⟩
def EVT.BASE.OFS : Fld := ⟨0x070, 0x100, 25, 0⟩
def EVT.HEAD.INDEX : Fld := ⟨0x070, 0x104, 11, 0⟩
/-- EVT.TAIL (chapter 21, R482). -/
def EVT.TAIL : Fld := ⟨0x070, 0x108, 31, 0⟩
def EVT.TAIL.INDEX : Fld := ⟨0x070, 0x108, 11, 0⟩
/-- EVT.STS (chapter 21, R482). -/
def EVT.STS : Fld := ⟨0x070, 0x10C, 31, 0⟩
def EVT.STS.OVF : Fld := ⟨0x070, 0x10C, 13, 13⟩
/-- EVT.DROP (chapter 21, R482). -/
def EVT.DROP : Fld := ⟨0x070, 0x110, 31, 0⟩
/-- Page number of SYS (its first instance), R460. -/
def SYS.PAGE : Nat := 0x000
/-- Page number of SIL (its first instance), R460. -/
def SIL.PAGE : Nat := 0x001
/-- Page number of ING (its first instance), R460. -/
def ING.PAGE : Nat := 0x010
/-- Page number of COL (its first instance), R460. -/
def COL.PAGE : Nat := 0x011
/-- Page number of FRS (its first instance), R460. -/
def FRS.PAGE : Nat := 0x012
/-- Page number of RIM (its first instance), R460. -/
def RIM.PAGE : Nat := 0x013
/-- Page number of WFT (its first instance), R460. -/
def WFT.PAGE : Nat := 0x014
/-- Page number of WV (its first instance), R460. -/
def WV.PAGE : Nat := 0x020
/-- Page number of SCN (its first instance), R460. -/
def SCN.PAGE : Nat := 0x022
/-- Page number of PLK (its first instance), R460. -/
def PLK.PAGE : Nat := 0x023
/-- Page number of PDV (its first instance), R460. -/
def PDV.PAGE : Nat := 0x025
/-- Page number of DMC (its first instance), R460. -/
def DMC.PAGE : Nat := 0x030
/-- Page number of LAN (its first instance), R460. -/
def LAN.PAGE : Nat := 0x031
/-- Page number of FAB (its first instance), R460. -/
def FAB.PAGE : Nat := 0x032
/-- Page number of TIM (its first instance), R460. -/
def TIM.PAGE : Nat := 0x040
/-- Page number of LNT (its first instance), R460. -/
def LNT.PAGE : Nat := 0x041
/-- Page number of LEF (its first instance), R460. -/
def LEF.PAGE : Nat := 0x042
/-- Page number of NVS (its first instance), R460. -/
def NVS.PAGE : Nat := 0x050
/-- Page number of BMS (its first instance), R460. -/
def BMS.PAGE : Nat := 0x051
/-- Page number of THM (its first instance), R460. -/
def THM.PAGE : Nat := 0x052
/-- Page number of CLB (its first instance), R460. -/
def CLB.PAGE : Nat := 0x053
/-- Page number of SEC (its first instance), R460. -/
def SEC.PAGE : Nat := 0x060
/-- Page number of DBG (its first instance), R460. -/
def DBG.PAGE : Nat := 0x061
/-- Page number of EVT (its first instance), R460. -/
def EVT.PAGE : Nat := 0x070
/-- Page number of WIN (its first instance), R460. -/
def WIN.PAGE : Nat := 0x100

end Sys2Proof.Machine
end

