-- ==== Sys2Proof/Machine/Table.lean ====
section
/-! DEFINITION. Reading and writing the sparse tables in which the model holds registers, memories and every other keyed
store: one canonical form (keys strictly rising, no entry equal to what an unlisted key reads as). -/

namespace Sys2Proof.Machine

/-- The value at key `k`; `d k` where the table lists none. -/
def tget {α : Type} (d : Nat → α) : Table α → Nat → α
  | [], k => d k
  | (a, v) :: t, k => if k = a then v else tget d t k

/-- What the table lists at a key. -/
def tfind {α : Type} (t : Table α) (k : Nat) : Option α := (t.find? (fun kv => kv.1 == k)).map (fun kv => kv.2)

/-- The table with `v` listed at `k`, keys kept in order. -/
def tput {α : Type} (k : Nat) (v : α) : Table α → Table α
  | [] => [(k, v)]
  | (a, w) :: t => if k < a then (k, v) :: (a, w) :: t else if k = a then (k, v) :: t else (a, w) :: tput k v t

/-- The table with nothing listed at `k`. -/
def tdel {α : Type} (k : Nat) : Table α → Table α
  | [] => []
  | (a, w) :: t => if k = a then tdel k t else (a, w) :: tdel k t

/-- Writing `v` at `k`: writing what an unlisted key reads as removes the entry. -/
def tset {α : Type} [DecidableEq α] (d : Nat → α) (t : Table α) (k : Nat) (v : α) : Table α :=
  if v = d k then tdel k t else tput k v t

/-- Writing consecutive keys from `k`. -/
def tsets {α : Type} [DecidableEq α] (d : Nat → α) (t : Table α) (k : Nat) : List α → Table α
  | [] => t
  | v :: vs => tsets d (tset d t k v) (k + 1) vs

/-- Reading `n` consecutive keys from `k`. -/
def tgets {α : Type} (d : Nat → α) (t : Table α) (k : Nat) : (n : Nat) → List α
  | 0 => []
  | n + 1 => tget d t k :: tgets d t (k + 1) n

/-- Every key of the table lies above `k`. -/
def tabove {α : Type} (k : Nat) : Table α → Bool
  | [] => true
  | (a, _) :: _ => decide (k < a)

/-- The canonical form of a table whose unlisted keys read as `d`. -/
def twf {α : Type} [DecidableEq α] (d : Nat → α) : Table α → Bool
  | [] => true
  | (a, v) :: t => decide (v ≠ d a) && tabove a t && twf d t

/-- The canonical form of a byte memory whose unlisted bytes read as `b`. -/
def Memory.wf (b : Byte) (m : Table Byte) : Bool := twf (fun _ => b) m

/-- The listed entries whose key satisfies `p`. -/
def tfilter {α : Type} (p : Nat → α → Bool) (t : Table α) : Table α := t.filter (fun kv => p kv.1 kv.2)

end Sys2Proof.Machine
end

