-- ==== Sys2Proof/Machine/Coil.lean ====
section
/-! DEFINITION. The Coil stream format (R108-R118, R490): bit reader, canonical prefix codes, blocks, and the decode of
one update against a stream context (R119-R121), with the failure reason and block of R118. -/

namespace Sys2Proof.Machine

/-- Bits of a body, most significant bit of each byte first (R110). -/
def bitsOf (bs : List Byte) : List Bool :=
  bs.flatMap (fun b => [b.getLsbD 7, b.getLsbD 6, b.getLsbD 5, b.getLsbD 4, b.getLsbD 3, b.getLsbD 2, b.getLsbD 1,
    b.getLsbD 0])

/-- Read `n` bits, most significant first; `none` when they are cut off. -/
def takeBits : (n : Nat) → List Bool → Option (Nat × List Bool)
  | 0, bs => some (0, bs)
  | _ + 1, [] => none
  | n + 1, b :: bs => (takeBits n bs).map (fun r => (b2n b * 2 ^ n + r.1, r.2))

/-- The symbols of a code table in the order of their codes (R115): by length, then by symbol. -/
def codeOrder (L : List Nat) : List Nat :=
  (List.range 15).flatMap (fun k => (List.range L.length).filter (fun s => L.getD s 0 == k + 1))

/-- Number of symbols with code length `k`. -/
def lenCount (L : List Nat) (k : Nat) : Nat := (L.filter (· == k)).length

/-- The sum of 2^(15 - L) over the coded symbols (R115). -/
def kraft (L : List Nat) : Nat := L.foldl (fun a l => if l = 0 then a else a + 2 ^ (15 - l)) 0

/-- Number of coded symbols. -/
def codedCount (L : List Nat) : Nat := (L.filter (· != 0)).length

/-- A legal code table (R115). A table with no coded symbol is legal for D only. -/
def tableLegal (isD : Bool) (L : List Nat) : Bool :=
  L.all (· ≤ 15) && (kraft L == 32768 || (codedCount L == 1 && L.all (· ≤ 1)) || (isD && codedCount L == 0))

/-- How reading a code word can end. -/
inductive SymRes where
  | sym (s : Nat) (rest : List Bool)
  | bad
  | cut
  deriving DecidableEq, Repr

/-- Canonical decoding, one bit at a time: `len` bits read so far give `code`; `first` is the first code of the next
length and `index` the number of symbols with shorter codes (R115). The code word 1 of a one-symbol table is bad. -/
def readSym (order : List Nat) (L : List Nat) : (fuel len code first index : Nat) → List Bool → SymRes
  | 0, _, _, _, _, _ => .bad
  | _ + 1, _, _, _, _, [] => .cut
  | f + 1, len, code, first, index, b :: bs =>
    let code := code * 2 + b2n b
    let n := lenCount L (len + 1)
    if code < first + n then .sym (order.getD (index + (code - first)) 0) bs
    else if codedCount L = 1 then .bad
    else readSym order L f (len + 1) code ((first + n) * 2) (index + n) bs

/-- Read one symbol of a table. -/
def symOf (L : List Nat) (bs : List Bool) : SymRes := readSym (codeOrder L) L 15 0 0 0 0 bs

/-- Extra bits of a class symbol (R113). -/
def clsExtra (s : Nat) : Nat := if s < 8 then 0 else 2 + (s - 8) / 2

/-- The value of a class symbol with its extra bits (R113). -/
def clsValue (s x : Nat) : Nat := if s < 8 then s else (2 + (s - 8) % 2) * 2 ^ clsExtra s + x

/-- The class symbol of a value (R113). -/
def cls (v : Nat) : Nat := if v < 8 then v else 8 + 2 * (Nat.log2 v - 3) + v / 2 ^ (Nat.log2 v - 1) % 2

/-- Code lengths of the tables of a block: LL (278 symbols) and D (38 symbols). -/
structure CoilTabs where
  ll : List Nat
  d : List Nat
  deriving DecidableEq, Repr

/-- The static tables (R116). -/
def staticTabs : CoilTabs :=
  { ll := List.replicate 128 8 ++ List.replicate 128 9 ++ List.replicate 10 6 ++ List.replicate 12 7,
    d := List.replicate 26 5 ++ List.replicate 12 6 }

/-- A stream context (R119): history with the most recent byte first, POS, and the previous tables. FILL is the
history's length. -/
structure CoilCtx where
  hist : List Byte
  pos : Nat
  tabs : Option CoilTabs
  deriving DecidableEq, Repr

/-- An empty context (R122). -/
def CoilCtx.empty : CoilCtx := ⟨[], 0, none⟩

/-- The farthest distance (R114). -/
def coilWindow : Nat := 262144

/-- Failure reasons (R118). -/
inductive CoilWhy where
  | hdr | outSpace | inSpace | rawLen | table | noTable | symbol | match_ | distance | pad | pos | short | plait | ctx | mem
  deriving DecidableEq, Repr

/-- The WHY code (R118). -/
def CoilWhy.code : CoilWhy → Nat
  | .hdr => 1 | .outSpace => 2 | .inSpace => 3 | .rawLen => 4 | .table => 5 | .noTable => 6 | .symbol => 7
  | .match_ => 8 | .distance => 9 | .pad => 10 | .pos => 11 | .short => 12 | .plait => 13 | .ctx => 14 | .mem => 15

/-- The ingest reject code of a failed decode (R118): 0x11 for SHORT and PLAIT, else 0x10. -/
def CoilWhy.reject : CoilWhy → Nat
  | .short | .plait => 0x11
  | _ => 0x10

/-- Copy `n` bytes from `dist` back, one at a time (R114). -/
def copyMatch (dist : Nat) : (n : Nat) → List Byte → List Byte
  | 0, h => h
  | n + 1, h => copyMatch dist n (h.getD (dist - 1) 0 :: h)

/-- The code-length symbols of a dynamic block (R117): fill `out` (in order) up to `n` lengths. -/
def readLens (cl : List Nat) (n : Nat) : (fuel : Nat) → List Nat → List Bool → Except CoilWhy (List Nat × List Bool)
  | 0, _, _ => .error .table
  | f + 1, out, bs =>
    if out.length = n then .ok (out, bs)
    else match symOf cl bs with
      | .cut => .error .inSpace
      | .bad => .error .symbol
      | .sym s bs =>
        if s < 16 then readLens cl n f (out ++ [s]) bs
        else
          let nx := if s = 16 then 3 else if s = 17 then 4 else 8
          let base := if s = 18 then 18 else 2
          if s = 16 ∧ out = [] then .error .table
          else match takeBits nx bs with
            | none => .error .inSpace
            | some (x, bs) =>
              let v := if s = 16 then out.getLastD 0 else 0
              if out.length + base + x > n then .error .table
              else readLens cl n f (out ++ List.replicate (base + x) v) bs

/-- The tables at the start of a dynamic body (R117). -/
def readTabs (bs : List Bool) : Except CoilWhy (CoilTabs × List Bool) :=
  match takeBits 5 bs with
  | none => .error .inSpace
  | some (hll, bs) =>
    if hll > 21 then .error .table
    else match takeBits 6 bs with
      | none => .error .inSpace
      | some (hd, bs) =>
        if hd > 38 then .error .table
        else
          match takeBits 57 bs with
          | none => .error .inSpace
          | some (cl, bs) =>
            let cl := (List.range 19).map (fun k => bits cl (56 - 3 * k) (54 - 3 * k))
            if !tableLegal false cl then .error .table
            else match readLens cl (257 + hll + hd) (258 + hll + hd) [] bs with
              | .error e => .error e
              | .ok (ls, bs) =>
                let t : CoilTabs := {
                  ll := ls.take (257 + hll) ++ List.replicate (21 - hll) 0,
                  d := ls.drop (257 + hll) ++ List.replicate (38 - hd) 0 }
                if tableLegal false t.ll && tableLegal true t.d then .ok (t, bs) else .error .table

/-- The symbols of a coded body (R113, R114): `due` output bytes are still due, `avail` history bytes may be reached. -/
def readBody (t : CoilTabs) : (fuel due avail : Nat) → List Byte → List Bool →
    Except CoilWhy (List Byte × List Bool)
  | 0, _, _, _, _ => .error .symbol
  | f + 1, due, avail, h, bs =>
    if due = 0 then .ok (h, bs)
    else match symOf t.ll bs with
      | .cut => .error .inSpace
      | .bad => .error .symbol
      | .sym s bs =>
        if s < 256 then readBody t f (due - 1) (avail + 1) (BitVec.ofNat 8 s :: h) bs
        else if codedCount t.d = 0 then .error .symbol
        else match takeBits (clsExtra (s - 256)) bs with
          | none => .error .inSpace
          | some (x, bs) =>
            if s = 277 ∧ x > 252 then .error .symbol
            else
              let len := clsValue (s - 256) x + 4
              if len > due then .error .match_
              else match symOf t.d bs with
                | .cut => .error .inSpace
                | .bad => .error .symbol
                | .sym ds bs => match takeBits (clsExtra ds) bs with
                  | none => .error .inSpace
                  | some (dx, bs) =>
                    let dist := clsValue ds dx + 1
                    if dist > avail ∨ dist > coilWindow then .error .distance
                    else readBody t f (due - len) (avail + len) (copyMatch dist len h) bs

/-- A decode in progress: the block reached, history (most recent first), how much of it R114 may reach, output bytes so
far, position and previous tables. -/
structure CoilRun where
  blk : Nat
  hist : List Byte
  avail : Nat
  out : Nat
  pos : Nat
  tabs : Option CoilTabs
  deriving DecidableEq, Repr

/-- One block body (R112, R490 item 4): the run after it. -/
def coilBody (mode : Nat) (outN : Nat) (body : List Byte) (r : CoilRun) : Except CoilWhy CoilRun :=
  if mode = 0 then
    .ok { r with hist := body.reverse ++ r.hist, avail := r.avail + outN, out := r.out + outN }
  else
    let start : Except CoilWhy (CoilTabs × List Bool) :=
      if mode = 1 then .ok (staticTabs, bitsOf body)
      else if mode = 2 then readTabs (bitsOf body)
      else match r.tabs with
        | some t => .ok (t, bitsOf body)
        | none => .error .noTable
    match start with
    | .error e => .error e
    | .ok (t, bs) =>
      match readBody t (outN + 1) outN r.avail r.hist bs with
      | .error e => .error e
      | .ok (h, rest) =>
        if rest.length ≥ 8 ∨ rest.any id then .error .pad
        else .ok { r with hist := h, avail := r.avail + outN, out := r.out + outN,
                          tabs := if mode = 3 then r.tabs else some t }

/-- The blocks of an update in turn (R111, R490 item 3). `hpos`: the preamble's HIST_POS of a bound stream, checked on
the first block. The error carries the failing block's index. -/
def coilBlocks (space : Nat) (hpos : Option Nat) : (fuel k : Nat) → List Byte → CoilRun →
    Except (CoilWhy × Nat) CoilRun
  | 0, k, _, _ => .error (.inSpace, k)
  | f + 1, k, p, r =>
    if p.length < 6 then .error (.inSpace, k)
    else
      let h0 := beAt p 0 1
      let last := bit h0 7
      let mode := bits h0 6 5
      let reset := bit h0 4
      let outN := beAt p 2 2 + 1
      let inN := beAt p 4 2 + 1
      let body := (p.drop 6).take inN
      let rest := p.drop (6 + inN)
      if bits h0 3 0 ≠ 0 ∨ beAt p 1 1 ≠ 0 then .error (.hdr, k)
      else
        match (if k = 0 then hpos else none) with
        | some q =>
          if !reset && q != r.pos then .error (.pos, k)
          else
            let r := if reset then { r with hist := [], avail := 0, tabs := none, pos := q } else r
            if mode = 3 ∧ r.tabs = none then .error (.noTable, k)
            else if mode = 0 ∧ inN ≠ outN then .error (.rawLen, k)
            else if r.out + outN > space then .error (.outSpace, k)
            else if p.length < 6 + inN then .error (.inSpace, k)
            else if last != (rest == []) then .error (.inSpace, k)
            else match coilBody mode outN body r with
              | .error e => .error (e, k)
              | .ok r => if last then .ok { r with blk := k } else coilBlocks space hpos f (k + 1) rest r
        | none =>
          let r := if reset then { r with avail := 0, tabs := none } else r
          if mode = 3 ∧ r.tabs = none then .error (.noTable, k)
          else if mode = 0 ∧ inN ≠ outN then .error (.rawLen, k)
          else if r.out + outN > space then .error (.outSpace, k)
          else if p.length < 6 + inN then .error (.inSpace, k)
          else if last != (rest == []) then .error (.inSpace, k)
          else match coilBody mode outN body r with
            | .error e => .error (e, k)
            | .ok r => if last then .ok { r with blk := k } else coilBlocks space hpos f (k + 1) rest r

/-- The decode of one update (R108, R120, R490): its expansion and, for a bound stream, the context after it. `space` is
the tile's size. The error names the reason and the failing block (for SHORT the last one, log entry 14); a success
names the last block. -/
def coilDecode (space : Nat) (bound : Bool) (c : CoilCtx) (payload : List Byte) :
    Except (CoilWhy × Nat) (List Byte × CoilCtx × Nat) :=
  if bound && decide (payload.length < 10) then .error (.inSpace, 0)
  else
    let hpos := if bound then some (beAt payload 0 4) else none
    let blocks := if bound then payload.drop 4 else payload
    let start : CoilRun := if bound then ⟨0, c.hist, c.hist.length, 0, c.pos, c.tabs⟩ else ⟨0, [], 0, 0, 0, none⟩
    match coilBlocks space hpos (payload.length + 1) 0 blocks start with
    | .error e => .error e
    | .ok r =>
      if r.out < space then .error (.short, r.blk)
      else .ok ((r.hist.take r.out).reverse,
        { hist := r.hist.take (min r.avail coilWindow), pos := (r.pos + r.out) % 2 ^ 32, tabs := r.tabs }, r.blk)

/-- Cut a region into pieces of at most `n` bytes. -/
def chunks {α : Type} (n : Nat) : (fuel : Nat) → List α → List (List α)
  | 0, _ => []
  | _ + 1, [] => []
  | f + 1, x :: xs => (x :: xs).take n :: chunks n f ((x :: xs).drop n)

/-- The stand-alone stream of raw blocks of at most 2^log bytes (R124, EFFORT 0). -/
def coilRaw (log : Nat) (src : List Byte) : List Byte :=
  let cs := chunks (2 ^ log) (src.length + 1) src
  (cs.zipIdx).flatMap (fun ci =>
    leBytes 1 (b2n (ci.2 + 1 == cs.length) * 128) ++ [0] ++ beBytes 2 (ci.1.length - 1) ++ beBytes 2 (ci.1.length - 1) ++ ci.1)

/-- The longest output R124 allows for a source. -/
def coilBound (log len : Nat) : Nat := len + 6 * ((len + 2 ^ log - 1) / 2 ^ log)

end Sys2Proof.Machine
end

