-- ==== Sys2Proof/Machine/State.lean ====
section
/-! DEFINITION. The state of the module as plain data: every register (in `regs`), every store, buffer, queue, counter,
mode and pin the spec gives the block, and the queue of waiting commands. State.reset is the module as delivered and
before power (log entries 3, 4, 5, 6). -/

namespace Sys2Proof.Machine

/-- Whether the module has power (R30, R33, R56): none, the always-on rail only, or 48 V valid. -/
inductive Supply where
  | off | aon | on
  deriving DecidableEq, Repr

/-- The power states of R14 and R449. -/
inductive PowerState where
  | sill | full | shutter | standbyLeaf | thermalStop | discharge
  deriving DecidableEq, Repr

/-- The security states of R433. -/
inductive SecState where
  | openS | sealed | quarantined
  deriving DecidableEq, Repr

/-- The debug attachment levels of R444. -/
inductive DbgLevel where
  | detached | observe | intrusive
  deriving DecidableEq, Repr

/-- Which raster drives the panel (R60, R187). -/
inductive RasterMode where
  | off | sill | weaver
  deriving DecidableEq, Repr

/-- State group `mode`: the state sets of R14, R449 and what drives the panel. -/
structure Modes where
  /-- whether the module has power: off, the always-on rail only, or 48 V valid (R30, R33). -/
  supply : Supply
  /-- power state (SEC.STS.PWR) (R449, R452). -/
  power : PowerState
  /-- security state (SEC.STS.SEC); Open at delivery (R433). -/
  sec : SecState
  /-- debug attachment (SEC.STS.DBG) (R444). -/
  dbg : DbgLevel
  /-- which raster drives the panel: none, Sill, Weaver (R60, R187). -/
  raster : RasterMode
  deriving DecidableEq, Repr

/-- Group `mode` at reset. -/
def Modes.init : Modes where
  supply := .off
  power := .sill
  sec := .openS
  dbg := .detached
  raster := .off

/-- State group `clk`: weave clock, beam and TAI count. -/
structure Clock where
  /-- weave cycles since power-on or module reset (UPTIME counts their seconds) (R3). -/
  now : Nat
  /-- FRAME of the beam stamp (R4). -/
  frame : BitVec 32
  /-- LINE of the beam stamp (R4). -/
  line : BitVec 16
  /-- WC of the beam stamp (R4). -/
  wc : BitVec 16
  /-- now at the edge at which the line in progress started (R5). -/
  lineAt : Nat
  /-- how far the exact start of line 0 of this frame lies before its edge, in 1/256 wc (R5). -/
  frac : Nat
  /-- FS, frame counter of the first Weaver frame after a Sill raster period (R225). -/
  fs : BitVec 32
  /-- Sill frames started since the first one (R60). -/
  sillFrame : Nat
  /-- difference of half B's line start from MUL_SKEW at the last check (R189). -/
  lineErr : Int
  /-- TAI seconds since the PTP epoch (R341). -/
  sec : BitVec 48
  /-- TAI nanoseconds of the second (R341). -/
  ns : BitVec 30
  /-- eighths of a nanosecond (a weave cycle is 5 of them) (R341). -/
  sub : BitVec 3
  /-- now at the last Shutter exit (SHUT_MIN runs from it) (R214). -/
  waker : Nat
  deriving DecidableEq, Repr

/-- Group `clk` at reset. -/
def Clock.init : Clock where
  now := 0
  frame := 0
  line := 0
  wc := 0
  lineAt := 0
  frac := 0
  fs := 0
  sillFrame := 0
  lineErr := 0
  sec := 0
  ns := 0
  sub := 0
  waker := 0

/-- State group `pwr`: power stage, holdup and alarm causes. -/
structure PowerSt where
  /-- the holdup charger runs (R32). -/
  charger : Bool
  /-- a holdup measurement runs (R35). -/
  measuring : Bool
  /-- power fault from a lost feed A, B (R30, R47). -/
  pfFeed : Vector Bool 2
  /-- power fault from an overvoltage on feed A, B (R30, R47). -/
  pfOv : Vector Bool 2
  /-- power fault from a degraded holdup bank (R36). -/
  pfHold : Bool
  /-- power fault raised by a start failure (0x0201, 0x0202, 0x0301) (R65). -/
  pfStart : Bool
  /-- holdup charge attempts of this start (R65). -/
  holdTries : Nat
  /-- ray lanes, fabric lanes, flex lanes and Weft stopped by the power-fail warning (R33). -/
  lanesStopped : Bool
  /-- after the power-fail warning the panel was handed to the partner, in place of a discharge (R385). -/
  handed : Bool
  deriving DecidableEq, Repr

/-- Group `pwr` at reset. -/
def PowerSt.init : PowerSt where
  charger := false
  measuring := false
  pfFeed := Vector.replicate 2 false
  pfOv := Vector.replicate 2 false
  pfHold := false
  pfStart := false
  holdTries := 0
  lanesStopped := false
  handed := false

/-- Rail values in force, in mV (R220); all 0 while the rails are down. -/
structure Rails where
  vgh : Int
  vgl : Int
  vcom : Int
  gma : List Int
  deriving DecidableEq, Repr

/-- Every rail at 0 V. -/
def Rails.down : Rails := ⟨0, 0, 0, []⟩

/-- One phase of a waveform table band (R226): VCOM_OFS, GON, GOE and GMA[0..13] in 4 mV units. -/
structure WavePhase where
  ofs : Int
  gon : Nat
  goe : Nat
  gma : List Nat
  deriving DecidableEq, Repr

/-- One band of a waveform table (R226). -/
structure WaveBand where
  tUp : Int
  vgh : Int
  vgl : Int
  vcom : Int
  ph : List WavePhase
  deriving DecidableEq, Repr

/-- A waveform table (R226): the panel type code and five bands. -/
structure Waveform where
  panel : Nat
  band : List WaveBand
  deriving DecidableEq, Repr

/-- The discharge sequence of a half (R239, R240): whether it runs, the cause code of DIS_STS, and
whether every sense sample so far lay below the threshold. -/
structure DischargeSt where
  run : Bool
  cause : Nat
  samplesOk : Bool
  deriving DecidableEq, Repr

/-- No discharge running. -/
def DischargeSt.idle : DischargeSt := ⟨false, 0, true⟩

/-- A reset or a return to the Sill raster that waits for the waveform cycle or for its discharge (R67, R211, R238, R421):
warm reset, module reset by software, by Trip or by RECOVER, the orderly stop, and the loss of a group's link. -/
inductive ResetKind where
  | warm | module | trip | stop | linkLost
  deriving DecidableEq, Repr

/-- The settle results of one subpixel of a touched row that waits for its H row (R235): residue before, own un >> 8,
bleed step, whether a unit is due off the residue. -/
structure SettleSub where
  col : Nat
  r : Int
  ho : Nat
  bleed : Int
  unit : Bool
  deriving DecidableEq, Repr

/-- A row waiting for its write-back (R235). -/
structure RowDc where
  polS : Int
  subs : List SettleSub
  deriving DecidableEq, Repr

/-- State group `panel`: both panel halves: pins, rails, waveforms, discharge. -/
structure PanelSt where
  /-- PNL_PRES_N of Panel A, B (high: no panel) (R40). -/
  presN : Vector Bool 2
  /-- the panel identity EEPROM matches the Config panel record (R58). -/
  eepromOk : Vector Bool 2
  /-- panel type code and serial number that each identity EEPROM gave (R58). -/
  eeprom : Vector (Nat × Nat) 2
  /-- groups of the half whose column drivers report lock (R58). -/
  driverLock : Vector (BitVec 8) 2
  /-- HEATER_EN_OUT pulled low (R242). -/
  heaterOn : Vector Bool 2
  /-- gate clocks run (R221). -/
  gatesOn : Vector Bool 2
  /-- GCK_7 high (every row open) (R223). -/
  allGate : Vector Bool 2
  /-- power fault from a rail fault of the half (R39). -/
  railFaultPf : Vector Bool 2
  /-- halves whose rails have been up in this start (R240). -/
  driven : Vector Bool 2
  /-- VGH, VGL, VCOM and GMA0-13 in force, in mV; all 0 while down (R220). -/
  rails : Vector Rails 2
  /-- waveform table in force (R226, R228). -/
  wave : Vector (Option Waveform) 2
  /-- checked table waiting for its cycle start (R228). -/
  waveNext : Vector (Option Waveform) 2
  /-- a table check runs (R228). -/
  waveBusy : Vector Bool 2
  /-- discharge sequence of the half (R239, R240). -/
  dis : Vector DischargeSt 2
  /-- reset or stop waiting for the end of the waveform cycle or of the discharge (R67, R238). -/
  resetPend : Option ResetKind
  /-- largest residue magnitude of the last and of this frame (R237). -/
  resMax : Vector (Nat × Nat) 2
  /-- code 0x61 already logged for the half in this frame (R236). -/
  satLogged : Vector Bool 2
  /-- every row is touched in its first settle frame (takeover, Shutter exit) (R238). -/
  freshPair : Vector Bool 2
  /-- the frame in progress began with freshPair set (R238). -/
  freshWhole : Vector Bool 2
  /-- frame parities that follow an apply point or UNI change which touches every row (R233). -/
  tableTouch : BitVec 2
  /-- rows that underran, keyed 2 x (8640 half + line) + parity (R233). -/
  underrunRows : Table Bool
  /-- settle results of a row waiting for write-back (R235). -/
  rowMark : Table RowDc
  /-- a module reset was asked for behind (8,641, 400) of the phase-3 frame in progress, and waits for the next one (R239). -/
  resetLate : Bool
  /-- the frame in progress is the first Weaver frame behind a Sill raster, whose odd-band pair spans the handover (R238). -/
  firstWeaver : Bool
  /-- the R plane is to be written 0 before the first Weaver frame of this start (R231). -/
  resZero : Bool
  /-- VCOM trim for which the rails of the coming cycle have been set, and whether it includes a calibration step (R222, R244). -/
  trimNext : Vector (Option (Int × Bool)) 2
  deriving DecidableEq, Repr

/-- Group `panel` at reset. -/
def PanelSt.init : PanelSt where
  presN := Vector.replicate 2 true
  eepromOk := Vector.replicate 2 false
  eeprom := Vector.replicate 2 (0, 0)
  driverLock := Vector.replicate 2 0
  heaterOn := Vector.replicate 2 false
  gatesOn := Vector.replicate 2 false
  allGate := Vector.replicate 2 false
  railFaultPf := Vector.replicate 2 false
  driven := Vector.replicate 2 false
  rails := Vector.replicate 2 Rails.down
  wave := Vector.replicate 2 none
  waveNext := Vector.replicate 2 none
  waveBusy := Vector.replicate 2 false
  dis := Vector.replicate 2 DischargeSt.idle
  resetPend := none
  resMax := Vector.replicate 2 (0, 0)
  satLogged := Vector.replicate 2 false
  freshPair := Vector.replicate 2 false
  freshWhole := Vector.replicate 2 false
  tableTouch := 0
  underrunRows := []
  rowMark := []
  resetLate := false
  firstWeaver := false
  resZero := false
  trimNext := Vector.replicate 2 none

/-- What the Config partition holds as the Sill controller reads it at stage 1 (R58, R220, R397, R487): the panel type
code and serial of the panel record, its Sill drive set (absent at delivery), the register settings it applies, in order. -/
structure ConfigRec where
  panelType : Nat
  panelSer : Nat
  sill : Option Rails
  settings : List (Nat × BitVec 32)
  /-- transmitter taps of the panel lanes at each rate code, as LANE_EQ shows them (R301). -/
  taps : List Nat
  deriving DecidableEq, Repr

/-- Config at delivery (R220): panel type code 0, no Sill drive set. -/
def ConfigRec.delivered : ConfigRec := ⟨0, 0, none, [], (List.range 4).map (Config.panelTaps [])⟩

/-- What a pin-driving scan instruction does to the pins (R445). -/
inductive PinDrive where
  | none | extest | clamp | highz | pulse | train
  deriving DecidableEq, Repr

/-- State group `boot`: start progress, Sill picture and watchdog. -/
structure StartSt where
  /-- bit k: start stage k is complete or ended under a fallback (R56, R57). -/
  done : BitVec 16
  /-- Sill frames of balance-restore driven (R63). -/
  balFrames : Nat
  /-- the Sill character buffer, 10 rows of half A then 10 of half B; [] before its first write (R60). -/
  chars : List (List (BitVec 8))
  /-- the first complete Sill frame has been timed (R69). -/
  firstSill : Bool
  /-- the Lintel lock instant of this start has passed (R486). -/
  lockDone : Bool
  /-- now at the Lintel lock, from which a raster without TAI counts its frames (R190, R486). -/
  lockAt : Nat
  /-- now at the last watchdog service (R474). -/
  wdgMs : Nat
  /-- a warm reset is running (R68). -/
  warm : Bool
  /-- a module reset is running (R68). -/
  modReset : Bool
  /-- a start is running (R68). -/
  starting : Bool
  /-- what the Config pages held when stage 1 read them (R397). -/
  cfg : ConfigRec
  /-- instruction register of the test access port (R445). -/
  tapIr : BitVec 8
  /-- boundary scan register contents (R445). -/
  bsr : List Bool
  /-- JTAG data register captured by the last instruction (R470). -/
  tapDr : BitVec 64
  /-- what a pin-driving scan instruction does to the pins (R445). -/
  pinDrive : PinDrive
  /-- the Sill controller or firmware is halted by the probe (R447). -/
  halted : Bool
  /-- the ROM self-check failed: the Sill controller is held in reset (R65). -/
  romBad : Bool
  /-- ROM defaults replace Config for the management port (R65). -/
  mgmtDefault : Bool
  /-- the Sill raster has ended behind an odd frame, and the panel holds that frame until the first Weaver frame (R64). -/
  hold : Bool
  /-- counters of this start (STARTS, DISCH_INC) whose increment waits for HOLD_RDY (R32, R403). -/
  owed : List Nat
  deriving DecidableEq, Repr

/-- Group `boot` at reset. -/
def StartSt.init : StartSt where
  done := 0
  balFrames := 0
  chars := []
  firstSill := false
  lockDone := false
  lockAt := 0
  wdgMs := 0
  warm := false
  modReset := false
  starting := false
  cfg := ConfigRec.delivered
  tapIr := 0x01
  bsr := []
  tapDr := 0
  pinDrive := .none
  halted := false
  romBad := false
  mgmtDefault := false
  hold := false
  owed := []

/-- The statuses of R465. -/
inductive Status where
  | ok | locked | unaligned | unmapped | ignored | path | memerr
  deriving DecidableEq, Repr

/-- The outcome of one register access (R465, R466): its status and the value it returns. -/
structure AccessRes where
  status : Status
  data : BitVec 32
  deriving DecidableEq, Repr

/-- No access completed yet. -/
def AccessRes.none : AccessRes := ⟨.ok, 0⟩

/-- One entry of the access protocol cache (R467): the source, its last SEQ and the stored response. -/
structure CacheLine where
  src : Nat
  seq : Nat
  resp : List Byte
  deriving DecidableEq, Repr

/-- State group `bus`: register access and the access protocol cache. -/
structure BusSt where
  /-- status and data of the last completed access (R465). -/
  last : AccessRes
  /-- SEQ and response of the last frame of each source, most recently used first (R467). -/
  cache : List CacheLine
  /-- _HI values latched by a read of _LO (R465). -/
  latched : Table (BitVec 32)
  /-- bytes of the last response sent (R466). -/
  out : List (BitVec 8)
  deriving DecidableEq, Repr

/-- Group `bus` at reset. -/
def BusSt.init : BusSt where
  last := AccessRes.none
  cache := []
  latched := []
  out := []

/-- A log record (R476). -/
structure LogRec where
  seq : BitVec 32
  beam : Nat
  life : Nat
  block : Nat
  inst : Nat
  code : Nat
  cls : Nat
  arg0 : Nat
  arg1 : Nat
  deriving DecidableEq, Repr

/-- An empty log entry: SEQ 0 (R476). -/
def LogRec.empty : LogRec := ⟨0, 0, 0, 0, 0, 0, 0, 0, 0⟩

/-- A log record entered in the present weave cycle (R477). -/
structure CycLog where
  page : Nat
  code : Nat
  slot : Nat
  first : Option Nat
  deriving DecidableEq, Repr

/-- An event ring record of the present weave cycle (R480): its first 12 bytes, the ring entry that holds it (`none`: dropped)
and its sequence number. -/
structure CycEv where
  page : Nat
  bitNo : Nat
  body : List (BitVec 8)
  entry : Option Nat
  seq : BitVec 32
  deriving DecidableEq, Repr

/-- State group `log`: the parameter-store log and the event rings. -/
structure LogSt where
  /-- log records under assembly in hub SRAM, keyed by ring entry (first-fault entry j at 16384 + j), not yet in the store (R404, R476). -/
  wait : Table LogRec
  /-- SEQ of the next record (R477). -/
  nextSeq : BitVec 32
  /-- the log page buffer is full and records are being dropped (R404). -/
  full : Bool
  /-- log page writes spent in the current 86,400 s (R479). -/
  budget : Nat
  /-- LIFE_S div 86,400 of the budget's period (R479). -/
  budgetDay : Nat
  /-- code 0xD9 logged for the current budget period (R479). -/
  budgetLogged : Bool
  /-- (code, item) pairs already logged in this frame by once-per-frame codes (R103, R181). -/
  frameKeys : List (Nat × Nat)
  /-- code 0xD8 logged since the last clear (R404). -/
  ffFullLogged : Bool
  /-- next event ring sequence number of rings 0, 1 (R480). -/
  evSeq : Vector (BitVec 32) 2
  /-- records lost since the ring last had room (R481). -/
  evLost : Vector Nat 2
  /-- log records entered in the present weave cycle, in ring order (R477). -/
  cyc : List CycLog
  /-- event ring records of the present weave cycle, in ring order (R480). -/
  cycEv : Vector (List CycEv) 2
  deriving DecidableEq, Repr

/-- Group `log` at reset. -/
def LogSt.init : LogSt where
  wait := []
  nextSeq := 1
  full := false
  budget := 0
  budgetDay := 0
  budgetLogged := false
  frameKeys := []
  ffFullLogged := false
  evSeq := Vector.replicate 2 1
  evLost := Vector.replicate 2 0
  cyc := []
  cycEv := Vector.replicate 2 []

/-- State group `ram`: HBM and hub SRAM contents. -/
structure RamSt where
  /-- HBM bytes, keyed by address (R266). -/
  hbm : Table (BitVec 8)
  /-- hub SRAM bytes, keyed by offset (R15). -/
  sram : Table (BitVec 8)
  /-- bursts whose stored code word is uncorrectable (R280). -/
  bad : Table Bool
  deriving DecidableEq, Repr

/-- Group `ram` at reset. -/
def RamSt.init : RamSt where
  hbm := []
  sram := []
  bad := []

/-- A memory request (R268, R269): its number in order of arrival, the class it is in now, requester, address, length, the bytes
of a write (none for a read), when its age last began to count (for a granted Real-time block its grant instant, for a read that
waits for its retry when that is due), and whether it stands at the head of the Latency order. -/
structure MemReq where
  no : Nat
  cls : MemClass
  who : MemWho
  addr : Nat
  len : Nat
  write : Option (List Byte)
  since : Nat
  head : Bool
  deriving DecidableEq, Repr

/-- A TST packet for a ring in HBM held during self-refresh (R288): its ring, PORT byte and bytes. -/
structure LandedHold where
  beam : Nat
  ring : Nat
  port : Nat
  bytes : List Byte
  deriving DecidableEq, Repr

/-- One entry of a TL-5100 row-activation table (R279). -/
structure RdEntry where
  bank : Nat
  row : Nat
  count : Nat
  deriving DecidableEq, Repr

/-- The last response of the controller: data, the UNCORR error or the ADDR error (R267, R280). -/
inductive MemResp where
  | none | data (bs : List Byte) | uncorr | addr
  deriving DecidableEq, Repr

/-- A Real-time block delivered to its requester (R272, R280): requester, address, bytes, and the bursts with an uncorrectable
status. -/
structure RtBlock where
  who : MemWho
  addr : Nat
  bytes : List Byte
  bad : List Nat
  deriving DecidableEq, Repr

/-- State group `mem`: the memory controller. -/
structure MemSt where
  /-- blocks whose uncorrectable result was reported in this frame (R280). -/
  badLogged : List Nat
  /-- corrected errors of each pseudo-channel in this hour (R282). -/
  corHour : Table Nat
  /-- Real-time queue of each pseudo-channel, oldest first (R272). -/
  rtQ : Table (List MemReq)
  /-- granted Real-time blocks whose bursts have not all been checked (R272). -/
  rtOut : Table (List MemReq)
  /-- queued Latency, Throughput and Background requests, in arrival order (R269). -/
  q : List MemReq
  /-- reads waiting for their retry, with the burst in error (R280). -/
  retry : List MemReq
  /-- requests held at their requesters by self-refresh (R286). -/
  held : List MemReq
  /-- last response of a request outside the Real-time class (R280). -/
  resp : MemResp
  /-- packets for HBM rings held during self-refresh (R288). -/
  landHold : List LandedHold
  /-- open row of each bank, keyed 48 pc + bank (R269). -/
  openRow : Table (Option Nat)
  /-- weave cycle until which a granted Real-time block holds each bank (R272). -/
  rtBusy : Table Nat
  /-- RT_NEED of the last apply point (R274). -/
  rtNeed : Nat
  /-- code 0x82 logged at the last apply point (R274). -/
  rtLogged : Bool
  /-- weave cycle until which a refresh holds each bank (R276). -/
  refBusy : Table Nat
  /-- postponement count of each bank (R277). -/
  postponed : Table Nat
  /-- banks whose forced refresh is due (R277). -/
  forced : Table Bool
  /-- queued neighbour refreshes (bank, row), oldest first (R278). -/
  nrQ : Table (List (Nat × Nat))
  /-- neighbour refreshes pushed out of a full queue, run in the next other slice (R278). -/
  nrFirst : Table (List (Nat × Nat))
  /-- TL-5100 row-activation tables (R279). -/
  rdTable : Table (List RdEntry)
  /-- SLICES value waiting for its boundary (R275). -/
  sliceNext : Option Nat
  /-- line 0 has started since that write (R275). -/
  sliceLine0 : Bool
  /-- now at the calendar's last start (R270). -/
  calBase : Nat
  /-- pseudo-channel of the next scrubbed block (R282). -/
  scrubPc : Nat
  /-- a full retrain is scheduled for the next warm reset (R284). -/
  retrain : Bool
  /-- largest postponement count of the current frame (R289). -/
  postMaxNow : Nat
  /-- self-refresh is entered again as soon as the exit ends (R287). -/
  srAgain : Bool
  /-- queues closed at the seal (R286). -/
  sealed : Bool
  /-- SLICES was written since the last comparison (R274). -/
  sliceNew : Bool
  /-- steps that calibration has moved each pseudo-channel's read delay, write delay and reference voltage from their training (R283, R284). -/
  trims : Table (List Int)
  /-- refresh rotation of each pseudo-channel, the next bank first (R276). -/
  refOrder : Table (List Nat)
  /-- number of the next request, in order of arrival (R269). -/
  reqNo : Nat
  /-- last Real-time block delivered to its requester (R272). -/
  rtGot : Option RtBlock
  /-- Latency request that a Real-time slice is lent to, and the end of that slice (R271). -/
  lent : Table (Option (Nat × Nat))
  /-- Real-time blocks each weave die's interposer link carries in this round, keyed die + 2 for writes (R17). -/
  linkUse : Table Nat
  /-- round that those counts are of (R17). -/
  linkRound : Nat
  /-- weave cycle until which a neighbour refresh holds each bank (R278). -/
  nrBusy : Table Nat
  /-- bank and rows of each pseudo-channel's last neighbour refresh (R278). -/
  nrLast : Table (Nat × List Nat)
  /-- now at the seal, where the calendar stopped (R286). -/
  calStop : Nat
  /-- round count at the calendar's last start (R289). -/
  calRound : Nat
  deriving DecidableEq, Repr

/-- Group `mem` at reset. -/
def MemSt.init : MemSt where
  badLogged := []
  corHour := []
  rtQ := []
  rtOut := []
  q := []
  retry := []
  held := []
  resp := .none
  landHold := []
  openRow := []
  rtBusy := []
  rtNeed := 0
  rtLogged := false
  refBusy := []
  postponed := []
  forced := []
  nrQ := []
  nrFirst := []
  rdTable := []
  sliceNext := none
  sliceLine0 := false
  calBase := 0
  scrubPc := 0
  retrain := false
  postMaxNow := 0
  srAgain := false
  sealed := false
  sliceNew := false
  trims := []
  refOrder := []
  reqNo := 0
  rtGot := none
  lent := []
  linkUse := []
  linkRound := 0
  nrBusy := []
  nrLast := []
  calStop := 0
  calRound := 0

/-- A plane descriptor in force (R70). -/
structure Plane where
  format : Nat
  order : Nat
  common : Bool
  x : Int
  y : Int
  wt : Nat
  ht : Nat
  tileBase : Nat
  disp : Int
  surf : Nat
  pitch : Nat
  stride : Nat
  deriving DecidableEq, Repr

/-- A louvre descriptor in force (R74). -/
structure Louvre where
  first : Nat
  last : Nat
  soft : Nat
  vshift : Int
  centre : Nat
  list : List Nat
  deriving DecidableEq, Repr

/-- STATE of a freshness table entry (R92). -/
inductive TileState where
  | noData | content | fault | withdrawn
  deriving DecidableEq, Repr

/-- A freshness table entry (R92). -/
structure Entry where
  stamp : Nat
  seq : Nat
  maxAge : Nat
  state : TileState
  v : Bool
  tv : Bool
  slot : Bool
  t5 : Bool
  source : Nat
  plane : Nat
  epoch : BitVec 4
  deriving DecidableEq, Repr

/-- The zero entry: STATE = 0, no committed SEQ (R101). -/
def Entry.zero : Entry := ⟨0, 0, 0, .noData, false, false, false, false, 0, 0, 0⟩

/-- A ring between its enable and its last processed entry (R83, R84): where its entries lie, how many it holds, the
next entry to write, and the packets landed and not yet freed, oldest first, as (first entry, entries). -/
structure RingQ where
  inHbm : Bool
  base : Nat
  size : Nat
  tail : Nat
  pkts : List (Nat × Nat)
  deriving DecidableEq, Repr

/-- A ring that was never enabled. -/
def RingQ.empty : RingQ := ⟨false, 0, 0, 0, []⟩

/-- What an update does to its tile (R79). -/
inductive UpdKind where
  | tile | restamp | invalidate
  deriving DecidableEq, Repr

/-- How far an update has come (R86-R88, R93): fragments still arriving, checks passed and waiting for staging, staged
and waiting for its expansion, in a decode lane, expanded, written to its bank, or handed to the standby's mirror. -/
inductive UpdPhase where
  | gathering | passed | staged | decoding | expanded | written
  deriving DecidableEq, Repr

/-- The one update of a ring between its first packet's checks and its commit (R86, R88). -/
structure Update where
  kind : UpdKind
  phase : UpdPhase
  pkts : Nat
  nextFrag : Nat
  lastFrag : Nat
  handle : Nat
  seq : Nat
  stamp : Nat
  maxAge : Nat
  source : Nat
  stream : Nat
  enc : Nat
  total : Nat
  verified : Bool
  timeOk : Bool
  t5 : Bool
  plane : Nat
  epoch : BitVec 4
  fmt : Nat
  payload : List Byte
  expansion : List Byte
  doneAt : Nat
  deriving DecidableEq, Repr

/-- One edit record (R70, R74). -/
inductive EditRec where
  | planeSet (i : Nat) (p : Plane)
  | planeClear (i : Nat)
  | louvreSet (i : Nat) (l : Louvre)
  | louvreClear (i : Nat)
  deriving DecidableEq, Repr

/-- An edit set (R97-R100): its ID, its records' 64 bytes by index, and, once closed, the record count, target frame,
flags, the ring it closed on, and whether its check runs, passed, or has not begun. -/
structure EditSet where
  id : Nat
  recs : Table (List Byte)
  count : Nat
  frame : Nat
  asap : Bool
  strict : Bool
  ring : Nat
  checking : Bool
  passed : Bool
  late : Bool
  deriving DecidableEq, Repr

/-- A commit, or a Weft plane write (`commit` = false), whose hold-off of 8 wc may still run (R94, R257): its instant, its
tile, the entry as it was before and, of each band cache cell it replaced, the key with its words and fault mark. -/
structure Recent where
  at_ : Nat
  commit : Bool
  handle : Nat
  old : Entry
  cells : List (Nat × List (BitVec 32) × Bool)
  deriving DecidableEq, Repr

/-- State group `scene`: scene tables, freshness, rings and ingest. -/
structure SceneSt where
  /-- plane table in force (R70). -/
  planes : Table (Option Plane)
  /-- louvre table in force (R74). -/
  louvres : Table (Option Louvre)
  /-- epoch of each plane index (R101). -/
  epoch : Table (BitVec 4)
  /-- freshness table (R92). -/
  fresh : Table Entry
  /-- dirty-tile map: bit 0 even frames, bit 1 odd frames (R233). -/
  dirty : Table (BitVec 2)
  /-- ring read position and landed packets, in landing order (R83). -/
  ringQ : Table RingQ
  /-- update of each ring between its checks and its commit (R86, R87). -/
  upd : Table (Option Update)
  /-- edit set being assembled (R97). -/
  edit : Option EditSet
  /-- closed edit sets, in closing order (R99). -/
  closed : List EditSet
  /-- rings whose updates wait for a decode lane, in order (R122). -/
  readyOrder : List Nat
  /-- epoch sweep position (R101). -/
  sweepEpoch : Option Nat
  /-- T of the last apply point; none before the first (R100). -/
  lastApply : Option Nat
  /-- commits of the last 8 weave cycles: instant, handle, the entry and the band cache cells as they were before (R94). -/
  recent : List Recent
  /-- the last apply point changed the tables, a map, a curve or a setting (R233). -/
  tableChanged : Bool
  /-- packets that each ring has had in the present turn of the weighted round robin (R86). -/
  turns : Table Nat
  deriving DecidableEq, Repr

/-- Group `scene` at reset. -/
def SceneSt.init : SceneSt where
  planes := []
  louvres := []
  epoch := []
  fresh := []
  dirty := []
  ringQ := []
  upd := []
  edit := none
  closed := []
  readyOrder := []
  sweepEpoch := none
  lastApply := none
  recent := []
  tableChanged := false
  turns := []

/-- A decode lane (R122): the resident stream and its context, the use order of that context, the ring whose update it
decodes, and why the load of its context failed. -/
structure DecLane where
  ctx : Option (Nat × CoilCtx)
  used : Nat
  ring : Option Nat
  bad : Option CoilWhy
  deriving DecidableEq, Repr

/-- A lane with no context and no update. -/
def DecLane.free : DecLane := ⟨none, 0, none, none⟩

/-- An encode job under way (R124, R125). -/
structure EncJob where
  src : Nat
  len : Nat
  dst : Nat
  cap : Nat
  effort : Nat
  log : Nat
  deriving DecidableEq, Repr

/-- State group `coil`: Coil decode and encode lanes. -/
structure CoilSt where
  /-- decode lanes: resident context, use order, update being decoded (R122). -/
  lanes : Table DecLane
  /-- encode jobs running (R124). -/
  enc : Table (Option EncJob)
  /-- use order of resident contexts (R122). -/
  useCtr : Nat
  deriving DecidableEq, Repr

/-- Group `coil` at reset. -/
def CoilSt.init : CoilSt where
  lanes := []
  enc := []
  useCtr := 0

/-- A weave map in force (R134, R135). -/
structure WeaveMap where
  nstk : Nat
  ku : Nat
  ky : Nat
  p0 : Nat
  grid : List Int
  deriving DecidableEq, Repr

/-- No weave map loaded yet. -/
def WeaveMap.init : WeaveMap := ⟨0, 0, 0, 0, []⟩

/-- A band cache cell (R141): whether it is resident, its 1,024 cache words, and whether its taps take the Fault level
(R158, R491). -/
structure Cell where
  resident : Bool
  words : List (BitVec 32)
  fault : Bool
  deriving DecidableEq, Repr

/-- A cell that is not resident. -/
def Cell.absent : Cell := ⟨false, [], false⟩

/-- The key of a band cache cell: die, plane, row group m and column k (R141). -/
abbrev CellId := Nat

/-- A slot of the plan (R142, R143): its plane, its first cell column and its width in cells. -/
structure Slot where
  plane : Nat
  col : Nat
  w : Nat
  deriving DecidableEq, Repr

/-- The panel codes of a line of one half (R133), with the CG and WG of its verdict sample (R179, R376). -/
structure LineCodes where
  frame : Nat
  line : Nat
  gen : Nat
  wg : Nat
  codes : List Nat
  deriving DecidableEq, Repr

/-- No line computed yet. -/
def LineCodes.none : LineCodes := ⟨0, 0, 0, 0, []⟩

/-- Rows that prefill fetched for a band of a frame (R146, R153, R235): the HBM bytes of its uniformity node rows and, in a settle frame, of
its residue rows, as they stood when they were read, and the uncorrectable bursts among them. -/
structure BandRows where
  band : Nat
  frame : Nat
  bytes : Table (BitVec 8)
  bad : Table Bool
  deriving DecidableEq, Repr


/-- State group `wv`: the Weaver of each die. -/
structure WeaverSt where
  /-- weave map in force (R134, R135). -/
  map : Vector WeaveMap 2
  /-- checked map waiting for the apply point (R136). -/
  mapNext : Vector (Option WeaveMap) 2
  /-- a map check runs (R136). -/
  mapBusy : Vector Bool 2
  /-- address of the image under check (R136, R465). -/
  mapAddr : Vector Nat 2
  /-- curve tables in force; unlisted entries hold the default curve (R148, R152). -/
  curves : Vector (Table (BitVec 16)) 2
  /-- shadow curve tables (R159). -/
  shadow : Vector (Table (BitVec 16)) 2
  /-- band cache cells (R141). -/
  cells : Table Cell
  /-- prefill reads issued and not yet arrived (R193). -/
  wanted : List CellId
  /-- replacement cells built for updates, by ring (R145). -/
  reserve : List (Nat × List CellId)
  /-- slot plan of each die: the admitted slots of each band (R143). -/
  plan : Vector (List (List Slot)) 2
  /-- (band, plane) pairs refused (R144). -/
  refused : Vector (List (Nat × Nat)) 2
  /-- most slots and cells of a band in the plan last made (R159). -/
  planMax : Vector (Nat × Nat) 2
  /-- the same of the plan of the frame in progress (R159). -/
  planWas : Vector (Nat × Nat) 2
  /-- panel codes of the line last computed (R133). -/
  codes : Vector LineCodes 2
  /-- frame in which PROBE_SEL.ARM was last written; the capture is in a later frame (R159). -/
  probeArm : Vector (BitVec 32) 2
  /-- uniformity node rows and residue rows that prefill fetched: of the band being read and of the next (R146, R153, R235). -/
  rows : Vector (List BandRows) 2
  deriving DecidableEq, Repr

/-- Group `wv` at reset. -/
def WeaverSt.init : WeaverSt where
  map := Vector.replicate 2 WeaveMap.init
  mapNext := Vector.replicate 2 none
  mapBusy := Vector.replicate 2 false
  mapAddr := Vector.replicate 2 0
  curves := Vector.replicate 2 []
  shadow := Vector.replicate 2 []
  cells := []
  wanted := []
  reserve := []
  plan := Vector.replicate 2 []
  refused := Vector.replicate 2 []
  planMax := Vector.replicate 2 (0, 0)
  planWas := Vector.replicate 2 (0, 0)
  codes := Vector.replicate 2 LineCodes.none
  probeArm := Vector.replicate 2 0
  rows := Vector.replicate 2 []

/-- A verdict sample of a half (R161): when it was taken, for which line and frame, its time inputs, the commit generation, the
Weft write count and the row of R164 of each tile covered. -/
structure SampleSt where
  at_ : Nat
  line : Nat
  frame : Nat
  t : Nat
  be : Nat
  valid : Bool
  gen : Nat
  wg : Nat
  rows : Table Nat
  deriving DecidableEq, Repr

/-- No sample taken. -/
def SampleSt.none : SampleSt := ⟨0, 0, 0, 0, 0, false, 0, 0, []⟩

/-- State group `frs`: freshness unit. -/
structure FreshSt where
  /-- time inputs, generation and verdicts of the last verdict sample (R161). -/
  sample : Vector SampleSt 2
  /-- row of R164 of each tile's previous band read, keyed 2 handle + half (0: none yet) (R171, R233). -/
  lastVerdict : Table Nat
  /-- row and age of each tile at the last sample that covered it (R175). -/
  seen : Table (Nat × Int)
  /-- worst row of R164 of each tile in this frame (R171). -/
  worst : Table Nat
  /-- first tile whose verdict became Stale in this frame (R171). -/
  firstStale : Option Nat
  /-- time was not valid at a sample of this frame (R172). -/
  timeBad : Bool
  /-- time was valid for freshness at the last change (R173). -/
  wasValid : Bool
  /-- wrap sweep position (R168). -/
  wrapPos : Nat
  /-- the wrap sweep runs (from the first acquisition of the start) (R168). -/
  wrapOn : Bool
  /-- the current pass withdrew an entry (R168). -/
  wrapHit : Bool
  /-- the fast pass runs (R168). -/
  fastPass : Bool
  /-- step sweep: position, summed step D in microseconds, T before the step (R167). -/
  stepSweep : Option (Nat × Int × BitVec 32)
  /-- verification sweep position (R169). -/
  verSweep : Option Nat
  /-- entries that the running step sweep has withdrawn (R173). -/
  stepCount : Nat
  /-- tiles read before the Weaver frame began behind a Sill raster period, keyed 2 handle + half: their next read counts as a change (R233). -/
  again : List Nat
  deriving DecidableEq, Repr

/-- Group `frs` at reset. -/
def FreshSt.init : FreshSt where
  sample := Vector.replicate 2 SampleSt.none
  lastVerdict := []
  seen := []
  worst := []
  firstStale := none
  timeBad := false
  wasValid := false
  wrapPos := 0
  wrapOn := false
  wrapHit := false
  fastPass := false
  stepSweep := none
  verSweep := none
  stepCount := 0
  again := []

/-- A line's leaf digest with the CG and WG that stood at its verdict sample (R182, R376). -/
structure DigRec where
  /-- a digest has been formed or received. -/
  ok : Bool
  dig : Nat
  cg : Nat
  wg : Nat
  deriving DecidableEq, Repr

/-- No digest formed yet. -/
def DigRec.none : DigRec := ⟨false, 0, 0, 0⟩

/-- A Rim calculator job (R185): address, length, fold word. -/
structure CalcJob where
  addr : Nat
  len : Nat
  fold : Nat
  deriving DecidableEq, Repr

/-- State group `rim`: Rim units. -/
structure RimSt where
  /-- line checks of the last 16 lines of each group, keyed 16384 g + line (R180). -/
  lchk : Table (BitVec 32)
  /-- (group, line) packets sent whose report is outstanding (R181). -/
  sent : List (Nat × Nat)
  /-- lines not proven in the last 32 lines, keyed 16384 g + line (R183). -/
  unproven : Table Bool
  /-- RET_STS of the frame in progress (R185). -/
  retNow : BitVec 32
  /-- unproven lines of the frame in progress (R390). -/
  unprovNow : Nat
  /-- unproven lines of the last frame (R390). -/
  unprovLast : Nat
  /-- digest mismatches of the frame in progress (R379). -/
  digMisNow : Nat
  /-- digest mismatches of the last frame (R390). -/
  digMisLast : Nat
  /-- own digest, CG and WG of each recent line, keyed 16384 half + line (R182). -/
  dig : Table DigRec
  /-- calculator job running (R185). -/
  calcJob : Option CalcJob
  /-- (group, line) packets whose line check the return comparator still holds: sent by this leaf among the last 16 lines of the group (R180). -/
  held : List (Nat × Nat)
  deriving DecidableEq, Repr

/-- Group `rim` at reset. -/
def RimSt.init : RimSt where
  lchk := []
  sent := []
  unproven := []
  retNow := 0
  unprovNow := 0
  unprovLast := 0
  digMisNow := 0
  digMisLast := 0
  dig := []
  calcJob := none
  held := []

/-- A control packet (R200): CMD, SEQ, ARG0, ARG1 and the first 15 body bytes. -/
structure CtrlPkt where
  cmd : Nat
  seq : Nat
  arg0 : Nat
  arg1 : Nat
  body : List Nat
  deriving DecidableEq, Repr

/-- The last LOAD and FRAME blocks sent on a half's lanes (R197). -/
structure MarkerSt where
  load : Option Nat
  frame : Nat
  phase : Nat
  band : Nat
  sill : Bool
  shutter : Bool
  deriving DecidableEq, Repr

/-- No marker sent yet. -/
def MarkerSt.none : MarkerSt := ⟨Option.none, 0, 0, 0, false, false⟩

/-- State group `scan`: raster, scan-out, panel link and Shutter. -/
structure ScanSt where
  /-- trim of line VTOTAL-1 (R188). -/
  trim : Int
  /-- lengthening of line VTOTAL-1 by a re-phase (R357). -/
  stretch : Nat
  /-- the raster follows TAI: it locked with valid time, or was re-phased (R190, R486). -/
  aligned : Bool
  /-- a re-phase is due at the next start of line 0 (R357). -/
  rephase : Bool
  /-- frame number that the next frame takes after a re-phase (R357). -/
  rephaseTo : Option (BitVec 32)
  /-- the source is back and the phase is pulled back through the trim alone (R191). -/
  pull : Bool
  /-- consecutive frames with a phase error within 4 wc (R355). -/
  goodFrames : Nat
  /-- frames left until the underrun fault clears; 0: no fault (R194). -/
  underrunFault : Nat
  /-- Mullion error in the current (bit 0) and last (bit 1) frame (R390). -/
  mullion : BitVec 2
  /-- next control packet SEQ of each group (R201). -/
  groupSeq : Table (BitVec 16)
  /-- control packets queued per group (R201). -/
  ctrlQ : Table (List CtrlPkt)
  /-- control packets that await their acknowledgement, oldest first, and their sends (R201). -/
  ctrlSent : Table (List (CtrlPkt × Nat))
  /-- lanes to re-admit in the next blanking (R208). -/
  readmit : Table (BitVec 15)
  /-- last line packet of each group, as sent (R199). -/
  txPkt : Table (List (BitVec 8))
  /-- last LOAD and FRAME markers sent (R197). -/
  marker : Vector MarkerSt 2
  /-- failed attempts at the rate step under way (R210). -/
  rateTry : Vector Nat 2
  /-- the lanes train at the new rate (R210). -/
  rateTrain : Vector Bool 2
  /-- groups whose STATUS report showed STORED (R206). -/
  stored : BitVec 16
  /-- capture frame c (R213). -/
  shutC : BitVec 32
  /-- first Weaver frame named by SHUTTER_EXIT (R214). -/
  shutExit : Option (BitVec 32)
  /-- an exit request waits to be served (R216). -/
  shutExitReq : Bool
  /-- frames without a STATUS report in Shutter, per group (R216). -/
  statusMiss : Table Nat
  /-- code 0x56 logged for this request (R216). -/
  shutWhyLogged : Bool
  /-- number of the frame whose instant the last house edge set, counted from lock (R190). -/
  houseN : BitVec 32
  /-- now at the frame instant that the last house edge set (R190). -/
  houseAt : Option Nat
  /-- now at the last house frame edge (R190). -/
  houseEdge : Option Nat
  /-- weave cycles between the last two house frame edges (R190). -/
  housePer : Nat
  /-- frame of the last underrun line (R194). -/
  underrunIn : Option (BitVec 32)
  /-- lane map in force of each group: logical lane of each physical lane, 15 for none (R207). -/
  mapNow : Table (List Nat)
  /-- lane map sent and not yet in force, and whether a LOAD or FRAME has followed it (R207). -/
  mapSent : Table (Option (List Nat × Bool))
  /-- rate code that the lanes of a half train at (R210). -/
  rateNew : Vector Nat 2
  /-- tiles with a Content verdict in the captured frame (R214, R215). -/
  shutTiles : List Nat
  deriving DecidableEq, Repr

/-- Group `scan` at reset. -/
def ScanSt.init : ScanSt where
  trim := 0
  stretch := 0
  aligned := false
  rephase := false
  rephaseTo := none
  pull := false
  goodFrames := 0
  underrunFault := 0
  mullion := 0
  groupSeq := []
  ctrlQ := []
  ctrlSent := []
  readmit := []
  txPkt := []
  marker := Vector.replicate 2 MarkerSt.none
  rateTry := Vector.replicate 2 0
  rateTrain := Vector.replicate 2 false
  stored := 0
  shutC := 0
  shutExit := none
  shutExitReq := false
  statusMiss := []
  shutWhyLogged := false
  houseN := 0
  houseAt := none
  houseEdge := none
  housePer := 0
  underrunIn := none
  mapNow := []
  mapSent := []
  rateNew := Vector.replicate 2 0
  shutTiles := []

/-- The list being run (R245, R246): first command, COUNT, ID, start frame FS, EVT, the index of its next command, and the
count of lists started with it. -/
structure WeftList where
  addr : Nat
  count : Nat
  id : Nat
  fs : Nat
  evt : Bool
  cmd : Nat
  no : Nat
  deriving DecidableEq, Repr

/-- A recorded watermark (R261): line, frame FS + FREL, and the weave cycle at which it was reached. -/
structure WeftMark where
  line : Nat
  frame : Nat
  frel : Nat
  reached : Option Nat
  deriving DecidableEq, Repr

/-- The plane pixels a burst covers (R256-R258): plane, its epoch at issue, tile handle, first pixel and row, pixel count. -/
structure BurstPlane where
  plane : Nat
  epoch : BitVec 4
  handle : Nat
  x : Nat
  y : Nat
  n : Nat
  deriving DecidableEq, Repr

/-- A write burst issued and not yet complete (R257): address, bytes, its list's number and ID, the index of its command,
its plane. -/
structure Burst where
  addr : Nat
  bytes : List Byte
  no : Nat
  id : Nat
  cmd : Nat
  plane : Option BurstPlane
  deriving DecidableEq, Repr

/-- State group `weft`: the Weft engine. -/
structure WeftSt where
  /-- list being run: descriptor, start frame, next command (R245). -/
  list : Option WeftList
  /-- a timed list waits for its frame (R247). -/
  waitFrame : Bool
  /-- band read awaited by WAIT (line, frame) (R260). -/
  wait : Option (Nat × BitVec 32)
  /-- watermarks waiting for earlier bursts or recorded and not yet checked (R261). -/
  marks : List WeftMark
  /-- write bursts issued and not yet complete, oldest first (R257). -/
  bursts : List Burst
  /-- abort at the next command boundary (R263). -/
  abort : Bool
  /-- plane-write bursts completed (WG) (R376). -/
  wg : BitVec 32
  /-- WMARK that waits for earlier bursts: LINE and FREL (R261). -/
  wmark : Option (Nat × Nat)
  /-- lists started, which tells a late burst of an ended list from one of the list that runs (R263). -/
  listNo : Nat
  deriving DecidableEq, Repr

/-- Group `weft` at reset. -/
def WeftSt.init : WeftSt where
  list := none
  waitFrame := false
  wait := none
  marks := []
  bursts := []
  abort := false
  wg := 0
  wmark := none
  listNo := 0

/-- What a port's bring-up machine holds beside its registers (R303-R305, R299, R309). -/
structure PortSt where
  /-- Lanes that passed the last Check. -/
  passed : BitVec 8
  /-- Target T of the climb. -/
  target : Nat
  /-- The partner asked for precoding. -/
  partnerPre : Bool
  /-- FILL interval in force, in blocks. -/
  fillInt : Nat
  /-- FILL blocks sent since the port came Up. -/
  fills : Nat
  /-- now when code 0x9A was last logged. -/
  ethLogAt : Option Nat
  deriving DecidableEq, Repr

/-- A port before its first bring-up. -/
def PortSt.init : PortSt := ⟨0, 0, false, 1024, 0, none⟩

/-- A 66-bit block before its scrambling (R292): a K block or a D block, with its 8 payload bytes. -/
structure LaneBlk where
  k : Bool
  bytes : List (BitVec 8)
  deriving DecidableEq, Repr

/-- A lane's transmitter (R292-R294): the last 58 scrambled bits, the latest in bit 0, after the blocks of the last command that
sent on the lane; those blocks; and the levels they went out as. -/
structure LaneTx where
  scr : BitVec 58
  blocks : List LaneBlk
  levels : List Nat
  deriving DecidableEq, Repr

/-- A transmitter before its first block (R306): the scrambler is all ones. -/
def LaneTx.init : LaneTx := ⟨BitVec.allOnes 58, [], []⟩

/-- State group `lan`: lane layer state beside the LAN registers. -/
structure LaneSt where
  /-- transmitters switched on (R303). -/
  tx : Table Bool
  /-- elastic buffer fill of each lane, relative to its centre (R300). -/
  elastic : Table Int
  /-- bring-up machine of each own port (0-23 fabric, 24-39 flex) (R303). -/
  port : Table PortSt
  /-- now + 1 when code 0x92 was last logged for a lane; 0: never (R297). -/
  degrAt : Table Nat
  /-- flex cages whose plug-in is held in low-power mode as unsupported (R43). -/
  plugBad : BitVec 8
  /-- scrambler of each lane's transmitter and the blocks it sent last (R292). -/
  out : Table LaneTx
  /-- DFE taps of each lane's receiver (R301). -/
  dfe : Table (List Int)
  /-- TRAIN byte 5 that answers the partner's last request, of each lane (R295). -/
  reply : Table (BitVec 8)
  deriving DecidableEq, Repr

/-- Group `lan` at reset. -/
def LaneSt.init : LaneSt where
  tx := []
  elastic := []
  port := []
  degrAt := []
  plugBad := 0
  out := []
  dfe := []
  reply := []

/-- A message being received on a VC and class of a port (R320, R321, R327). -/
structure CurMsg where
  /-- Flits still to come after the head, by LEN. -/
  left : Nat
  /-- Output port; none: taken locally. -/
  out : Option Nat
  /-- The rest of the message is dropped. -/
  drop : Bool
  /-- Torus class at the output. -/
  cls : Nat
  head : List (BitVec 8)
  body : List (BitVec 8)
  deriving DecidableEq, Repr

/-- A flit waiting at an output for a credit. -/
structure QFlit where
  /-- Credit index 2 x (VC - 1) + CLASS at the output. -/
  idx : Nat
  /-- Input port and index, by which the flits of one message stay together. -/
  src : Nat × Nat
  bytes : List (BitVec 8)
  deriving DecidableEq, Repr

/-- The link layer of a port (R322-R326). -/
structure LinkSt where
  rxNext : BitVec 16
  txNext : BitVec 16
  /-- Unacknowledged flits, oldest first. -/
  replay : List (List (BitVec 8))
  /-- Transmit credits, by index. -/
  credits : List Nat
  /-- Receive credits the partner still holds, by index. -/
  granted : List Nat
  /-- Credits to return, by index. -/
  owed : List Nat
  cur : List (Option CurMsg)
  txQ : List QFlit
  /-- By index: input whose message is being sent. -/
  locked : List (Option (Nat × Nat))
  /-- NAKs in a row without ACK progress. -/
  naks : Nat
  /-- Flits accepted since the last LCTL. -/
  sinceAck : Nat
  /-- Content of the last LCTL sent: ACK, NAK, credit index, credits. -/
  lctl : Option (Nat × Bool × Nat × Nat)
  /-- Weave cycle of the last ACK progress, or of the first flit outstanding since (R324). -/
  progressAt : Nat
  deriving DecidableEq, Repr

/-- The flits each input buffers by index: Time 8, Tile 256, Bulk 128 (R325). -/
def bufferFlits : List Nat := [8, 8, 256, 256, 128, 128]

/-- A link as its port comes Up. -/
def LinkSt.init : LinkSt :=
  ⟨0, 0, [], bufferFlits, bufferFlits, List.replicate 6 0, List.replicate 6 none, [], List.replicate 6 none, 0, 0, none, 0⟩

/-- A message delivered locally. -/
structure MsgIn where
  vc : Nat
  port : Nat
  head : List (BitVec 8)
  body : List (BitVec 8)
  deriving DecidableEq, Repr

/-- What a PROBE offers (R316): root, nonce, sender's coordinate, hops, epoch. -/
structure Probe where
  id : Nat
  nonce : Nat
  col : Nat
  row : Nat
  hops : Nat
  epoch : Nat
  deriving DecidableEq, Repr

/-- Root election and addressing of this module (R316, R317). -/
structure RootSt where
  /-- Eligible until the next start. -/
  elig : Bool
  nonce : BitVec 16
  /-- Best PROBE held, with this module's own coordinate in col and row. -/
  best : Option Probe
  /-- The coordinate derived from it lies in the grid. -/
  inGrid : Bool
  /-- The best PROBE came from a port from which a coordinate follows, or this module is the root. -/
  derived : Bool
  deriving DecidableEq, Repr

/-- Before a start. -/
def RootSt.init : RootSt := ⟨false, 0, none, false, false⟩

/-- A 24-byte Transom message. -/
structure TransomMsg where
  bytes : List (BitVec 8)
  deriving DecidableEq, Repr

/-- Width negotiation of a port (R335). -/
structure WidthSt where
  /-- This end sends WIDTH until the partner's carries ACK. -/
  sending : Bool
  /-- Partner's RX_MASK as last received. -/
  partner : BitVec 8
  /-- Agreed width and lanes waiting for the switch frame. -/
  agreed : Option (Nat × BitVec 8)
  /-- SWITCH that the partner named. -/
  switchAt : BitVec 16
  deriving DecidableEq, Repr

/-- No negotiation. -/
def WidthSt.none : WidthSt := ⟨false, 0, Option.none, 0⟩

/-- Why a port is quarantined (R337). -/
inductive QuarKind where
  | open_
  /-- For violations; lifts after QUAR_S seconds. -/
  | timed
  /-- Until RELEASE. -/
  | held
  deriving DecidableEq, Repr

/-- Quarantine of a port and the instants of its violation quarantines of the last hour. -/
structure QuarSt where
  kind : QuarKind
  past : List Nat
  deriving DecidableEq, Repr

/-- No quarantine. -/
def QuarSt.none : QuarSt := ⟨.open_, []⟩

/-- A neighbour's last NEIGH (R318): its address, its port's direction, and whether the check passed. -/
structure Neigh where
  heard : Bool
  addr : BitVec 16
  dir : Nat
  ok : Bool
  /-- It contradicts this module's address, so the check failed and was logged (R318). -/
  bad : Bool
  deriving DecidableEq, Repr

/-- No NEIGH yet. -/
def Neigh.none : Neigh := ⟨false, 0, 0, false, false⟩

/-- State group `fab`: fabric switch. -/
structure FabSt where
  /-- link layer of each port: sequence numbers, replay, credits, messages (R324). -/
  link : Table LinkSt
  /-- messages delivered locally, oldest first (R327). -/
  inbox : List MsgIn
  /-- root election state (R316). -/
  root : RootSt
  /-- the address is fixed for this start (R317). -/
  addrFixed : Bool
  /-- the start waits unaddressed before stage 9 (R319). -/
  waitAddr : Bool
  /-- address derived from a new root, for the next start (R317). -/
  addrNext : Option (BitVec 16)
  /-- Transom input queue of each port, oldest first (R330). -/
  trIn : Table (List TransomMsg)
  /-- Transom output queue of each port (R330). -/
  trOut : Table (List TransomMsg)
  /-- Transom messages of the last control slots of each port (R322). -/
  trSent : Table (List TransomMsg)
  /-- width negotiation of each port (R335). -/
  wide : Table WidthSt
  /-- quarantine kind and history of each port (R337). -/
  quar : Table QuarSt
  /-- violations of each port in its second under way, and when that second began (R337). -/
  viol : Table (Nat × Nat)
  /-- now + 1 of the last NAK (key 64 port + code), and of the last record of 0xA8, 0xAB, 0xAD (key 64 port + 32, 33, 34) (R330, R336). -/
  at_ : Table Nat
  /-- routing entries written in the last 4 wc: instant, DST, value (R328). -/
  rtPend : List (Nat × Nat × BitVec 32)
  /-- TSEQ of the ECHO outstanding to the partner (R385). -/
  echoOut : Option (BitVec 16)
  /-- neighbour's last NEIGH on each port (R318). -/
  nbr : Table Neigh
  /-- next own TSEQ (R329). -/
  trTseq : BitVec 16
  /-- NAK, REG_RSP and ECHO_RSP messages taken by this module, oldest first (R329). -/
  trTaken : List TransomMsg
  deriving DecidableEq, Repr

/-- Group `fab` at reset. -/
def FabSt.init : FabSt where
  link := []
  inbox := []
  root := RootSt.init
  addrFixed := false
  waitAddr := false
  addrNext := none
  trIn := []
  trOut := []
  trSent := []
  wide := []
  quar := []
  viol := []
  at_ := []
  rtPend := []
  echoOut := none
  nbr := []
  trTseq := 0
  trTaken := []

/-- The last PTP event message a port timestamped (R345). -/
structure PtpPort where
  kind : Nat
  at_ : Nat
  deriving DecidableEq, Repr

/-- No message yet. -/
def PtpPort.none : PtpPort := ⟨0, 0⟩

/-- A step of the count that waits for the next µs boundary (R348, R354): the offset it takes off, the count's µs as it was asked
for, and whether it is an accepted jump. -/
structure StepPend where
  off : Int
  us : Int
  jump : Bool
  deriving DecidableEq, Repr

/-- A slot's registers before a write in this weave cycle (R366): slot, cycle, SLOT_CFG, SLOT_WC and SLOT_FRAME. -/
structure SlotOld where
  slot : Nat
  at_ : Nat
  cfg : Nat
  wc : Nat
  frame : Nat
  deriving DecidableEq, Repr

/-- State group `tim`: time unit and Lintel. -/
structure TimeSt where
  /-- the first acquisition of this start has happened (R342). -/
  first : Bool
  /-- consecutive offsets within 1 us (R347). -/
  good : Nat
  /-- consecutive offsets beyond JUMP_THR (R348). -/
  far : Nat
  /-- consecutive offsets within JUMP_THR while a jump is pending (R348). -/
  near : Nat
  /-- bound at the entry to Holdover (or when PPS_IN became invalid) (R350). -/
  b0 : Nat
  /-- whole seconds of growth in Holdover (R350). -/
  holdSec : Nat
  /-- board sensor readings at the entry to Holdover (R350). -/
  boardT0 : List Int
  /-- the Holdover rate is doubled (R350). -/
  rateDouble : Bool
  /-- consecutive PPS edges within the window (R351). -/
  ppsGood : Nat
  /-- offset still being slewed out (R348). -/
  slew : Int
  /-- last sample, unsaturated (D = -o) (R354). -/
  lastOff : Int
  /-- ACC_M of the master (R349). -/
  accM : Nat
  /-- the master is usable (R349). -/
  masterOk : Bool
  /-- J when code 0xB2 was last logged (R348). -/
  jLogged : Nat
  /-- last PTP event message of each port: kind and TAI ns of its timestamp (R345). -/
  ports : Table PtpPort
  /-- now when the slew under way began (R348). -/
  slewAt : Nat
  /-- now when code 0xB2 was last logged (R348). -/
  jLogAt : Nat
  /-- now when code 0xBC was last logged (R346). -/
  dropAt : Option Nat
  /-- step of the count that waits for the next µs boundary (R348). -/
  step : Option StepPend
  /-- slots written in this weave cycle, with their values before (R366). -/
  slotOld : List SlotOld
  deriving DecidableEq, Repr

/-- Group `tim` at reset. -/
def TimeSt.init : TimeSt where
  first := false
  good := 0
  far := 0
  near := 0
  b0 := 0
  holdSec := 0
  boardT0 := []
  rateDouble := false
  ppsGood := 0
  slew := 0
  lastOff := 0
  accM := 0
  masterOk := false
  jLogged := 0
  ports := []
  slewAt := 0
  jLogAt := 0
  dropAt := none
  step := none
  slotOld := []

/-- What the partner's HELLO and LINE messages showed (R371, R377): whether a HELLO has arrived, its ROLE, flags, module ID
and FS, and the weave cycle of its arrival. -/
structure PartnerSt where
  heard : Bool
  at_ : Nat
  role : Nat
  driving : Bool
  healthy : Bool
  pref : Bool
  intrusive : Bool
  id : Nat
  fs : Nat
  deriving DecidableEq, Repr

/-- No partner heard. -/
def PartnerSt.none : PartnerSt := ⟨false, 0, 0, false, false, false, false, 0, 0⟩

/-- A takeover decided and not yet made (R385, R386): cause, whether this leaf gives the panel up, and the takeover line and
frame. -/
structure TakeSt where
  cause : Nat
  giveUp : Bool
  line : Nat
  frame : Nat
  deriving DecidableEq, Repr

/-- A commit scheduled from a COMMIT record (R373, R377). -/
structure MirrorRec where
  op : Nat
  ring : Nat
  line : Nat
  frame : Nat
  wc : Nat
  tile : Nat
  seq : Nat
  stamp : Nat
  word2 : Nat
  source : Nat
  cg : Nat
  fetching : Bool
  deriving DecidableEq, Repr

/-- A WEFT_START record (R376): list ID, FS, and the line, frame and weave cycle at which the standby starts the list. -/
structure WeftGo where
  id : Nat
  fs : Nat
  line : Nat
  frame : Nat
  wc : Nat
  deriving DecidableEq, Repr

/-- A fetch outstanding (R374): tile, sequence and the bytes arrived. -/
structure FetchSt where
  tile : Nat
  seq : Nat
  got : List Byte
  deriving DecidableEq, Repr

/-- A residue repair (R380): half, line, first column and the residue bytes. -/
structure RepairRec where
  half : Nat
  line : Nat
  col : Nat
  bytes : List Byte
  deriving DecidableEq, Repr

/-- A region of a row whose codes differ between the leaves after a commit or a plane write (R380): half, line, first
half-local column, columns. -/
structure RowSpan where
  half : Nat
  line : Nat
  col : Nat
  n : Nat
  deriving DecidableEq, Repr

/-- A message sent on port 23: a Transom LEAF message by its ARG bytes (R372), or the body of a Bulk message of TYPE 0x22
(R377). -/
structure MirrorMsg where
  transom : Bool
  body : List Byte
  deriving DecidableEq, Repr

/-- State group `leaf`: leaf pair. -/
structure LeafSt where
  /-- this leaf sends START, LOAD, FRAME and control packets (R369, R372). -/
  driving : Bool
  /-- what the partner's HELLO and LINE messages showed (R371). -/
  partner : PartnerSt
  /-- takeover decided and not yet made (R386). -/
  tau : Option TakeSt
  /-- cause of a DEMOTE or TAKE being repeated; 0: none (R385). -/
  demoteCause : Nat
  /-- commits scheduled from COMMIT records (R373). -/
  sched : List MirrorRec
  /-- fetches outstanding (R374). -/
  fetch : List FetchSt
  /-- repairs queued for the partner, oldest first (R380). -/
  repairQ : List RepairRec
  /-- messages sent on port 23, oldest first (R377). -/
  outBox : List MirrorMsg
  /-- WEFT_START records waiting, oldest first (R376). -/
  weftStart : List WeftGo
  /-- reports missing in a row, with no LINE report of any group between (R386). -/
  reportMiss : Nat
  /-- the frame in progress began after the copy and had no digest mismatch (R382). -/
  clean : Bool
  /-- one such whole frame has passed (R382). -/
  cleanWhole : Bool
  /-- divergent regions of rows: to repair at their next settle write-back (active), or whose repair has not arrived (standby) (R380). -/
  diverge : List RowSpan
  /-- this preferred leaf asks for the panel (DEMOTE_REQ of its LINE messages) (R377, R389). -/
  demoteReq : Bool
  /-- partner's digests of the last lines, keyed as RimSt.dig (R378). -/
  pdig : Table DigRec
  /-- the synchronising copy is complete (R382). -/
  copyDone : Bool
  /-- the last takeover was planned (R384). -/
  planned : Bool
  /-- the first whole frame after a planned takeover is running (R384). -/
  firstWhole : Bool
  /-- bytes copied by the resynchronisation (R382). -/
  syncPos : Nat
  /-- a leaf that took over in Shutter sends nothing before its SHUTTER_EXIT (R388). -/
  mute : Bool
  /-- repairs received that wait for this leaf's write-back of their row (R380). -/
  repairIn : List RepairRec
  /-- now of the last HELLO or ECHO answer of the partner (R393). -/
  seenAt : Option Nat
  /-- consecutive lines started with no LINE message of the partner (R385). -/
  silent : Nat
  /-- now when this leaf became Ready (R389). -/
  readyAt : Nat
  /-- now when this leaf became Active, or last wanted a planned swap (R384). -/
  swapAt : Nat
  /-- tiles whose copy has arrived in the synchronisation under way (R382). -/
  copied : List Nat
  /-- per half, the residue row next copied to a Syncing partner (R382). -/
  copyRow : Vector Nat 2
  /-- per half, the last residue row of the synchronisation has arrived (R382). -/
  rowsDone : Vector Bool 2
  /-- DEMOTE or TAKE being repeated every line; empty: none (R372). -/
  repeats : List Byte
  deriving DecidableEq, Repr

/-- Group `leaf` at reset. -/
def LeafSt.init : LeafSt where
  driving := false
  partner := PartnerSt.none
  tau := none
  demoteCause := 0
  sched := []
  fetch := []
  repairQ := []
  outBox := []
  weftStart := []
  reportMiss := 0
  clean := false
  cleanWhole := false
  diverge := []
  demoteReq := false
  pdig := []
  copyDone := false
  planned := false
  firstWhole := false
  syncPos := 0
  mute := false
  repairIn := []
  seenAt := none
  silent := 0
  readyAt := 0
  swapAt := 0
  copied := []
  copyRow := Vector.replicate 2 0
  rowsDone := Vector.replicate 2 false
  repeats := []

/-- One physical copy of a parameter store page (R396). -/
structure PageCopy where
  data : List Byte
  lpage : Nat
  seq : BitVec 32
  check : Nat
  commit : Nat
  deriving DecidableEq, Repr

/-- Who asked for a page write: a register operation (RESULT, R400), the module itself (R398), the scrub (R405) or the log
buffer (R404). -/
inductive WriteBy where
  | reg | own | scrub | log
  deriving DecidableEq, Repr

/-- A queued page write (R400), with the password that it changes (R402): the key of `NvsSt.pwds` and the new value. -/
structure NvsWrite where
  page : Nat
  data : List Byte
  by_ : WriteBy
  pwd : Option (Nat × BitVec 64)
  deriving DecidableEq, Repr

/-- A register operation of the store (R412), as its CMD write found the registers: OP, KIND, page, password, DATA. -/
structure NvsCmd where
  op : Nat
  kind : Nat
  page : Nat
  pwd : Nat
  data : List Byte
  deriving DecidableEq, Repr

/-- A bulk map store operation under way (R410, R413): OP, side, offset, HBM address, length. -/
structure BmsJob where
  op : Nat
  side : Nat
  ofs : Nat
  hbm : Nat
  len : Nat
  deriving DecidableEq, Repr

/-- State group `nvs`: parameter store and bulk map store. -/
structure NvsSt where
  /-- physical page copies; an unlisted copy is as delivered (R395, R396). -/
  pages : Table PageCopy
  /-- read (key 2p) and write (key 2p + 1) password of partition p; unlisted as delivered (R402). -/
  pwds : Table (BitVec 64)
  /-- queued page writes, in order (R400). -/
  q : List NvsWrite
  /-- page write in progress (R399). -/
  cur : Option NvsWrite
  /-- instants of the wrong passwords of the last 60 s (R402). -/
  wrongAt : List Nat
  /-- a register operation waits for its page write (R414). -/
  regOp : Bool
  /-- journal pages written (R401). -/
  jrnl : Nat
  /-- journal mode after the power-fail warning (R401). -/
  jrnlOn : Bool
  /-- page reached by the scrub pass (R405). -/
  scrubPos : Option Nat
  /-- pages rewritten in the pass under way (R405). -/
  scrubDone : Nat
  /-- LIFE_S when the last scrub pass began (R405). -/
  scrubLife : Nat
  /-- discharge results (DIS_STS) that the journal recorded (R240). -/
  disRes : Vector (BitVec 32) 2
  /-- pages whose wear was logged (R406). -/
  wearPages : List Nat
  /-- register operations waiting for the one under way (R414). -/
  cmdQ : List NvsCmd
  /-- now at the last LIFE_S increment (R403). -/
  lifeAt : Nat
  /-- bulk map store bytes (side B from 4 GiB); unlisted bytes read 0xFF, as erased (R407). -/
  bms : Table (BitVec 8)
  /-- pages programmed since the last erase (R410). -/
  bmsProg : Table Bool
  /-- operation running (R413). -/
  bmsJob : Option BmsJob
  /-- the failed flash operation was retried (R411). -/
  bmsRetried : Bool
  /-- now when the password lockout began (R402). -/
  lockAt : Nat
  deriving DecidableEq, Repr

/-- Group `nvs` at reset. -/
def NvsSt.init : NvsSt where
  pages := []
  pwds := []
  q := []
  cur := none
  wrongAt := []
  regOp := false
  jrnl := 0
  jrnlOn := false
  scrubPos := none
  scrubDone := 0
  scrubLife := 0
  disRes := Vector.replicate 2 0
  wearPages := []
  cmdQ := []
  lifeAt := 0
  bms := []
  bmsProg := []
  bmsJob := none
  bmsRetried := false
  lockAt := 0

/-- A self-test running (R428): its number and target. -/
structure SelfTest where
  test : Nat
  target : Nat
  deriving DecidableEq, Repr

/-- State group `thm`: thermal management and calibration. -/
structure ThermSt where
  /-- consecutive invalid readings of each sensor (R416). -/
  senBad : Table Nat
  /-- consecutive valid readings of each broken sensor (R416). -/
  senGood : Table Nat
  /-- consecutive readings of a zone at or beyond a level, keyed 8 zone + level (6: Trip) (R418). -/
  zoneIn : Table Nat
  /-- consecutive readings of a zone back from a level, keyed alike (R418). -/
  zoneOut : Table Nat
  /-- levels a zone is in, keyed 8 zone + level (R418). -/
  inLevel : Table Bool
  /-- calibration baselines, keyed 8 group + zone (R424). -/
  base : Table Int
  /-- calibration groups that wait to run (R420, R424). -/
  waits : BitVec 3
  /-- VCOM trim steps of the run under way still to make in each half (R424, R425). -/
  vcomLeft : Vector Int 2
  /-- the orderly stop runs (R421). -/
  stopping : Bool
  /-- self-test running (R428). -/
  selfTest : Option SelfTest
  /-- stored converter gain correction (R426). -/
  vrefStored : Option Int
  /-- code 0xE5 logged in this start (R423). -/
  startLogged : Bool
  /-- now since when every zone has lain between Cold-warn + HYST and Hot-warn - HYST (R422). -/
  clearSince : Option Nat
  deriving DecidableEq, Repr

/-- Group `thm` at reset. -/
def ThermSt.init : ThermSt where
  senBad := []
  senGood := []
  zoneIn := []
  zoneOut := []
  inLevel := []
  base := []
  waits := 0
  vcomLeft := Vector.replicate 2 0
  stopping := false
  selfTest := none
  vrefStored := none
  startLogged := false
  clearSince := none

/-- A source key slot (R437, R441): LOADED, the bound SOURCE and the AES-256 key. -/
structure KeySlot where
  loaded : Bool
  source : Nat
  key : List Byte
  deriving DecidableEq, Repr

/-- An empty slot. -/
def KeySlot.empty : KeySlot := ⟨false, 0, []⟩

/-- State group `secu`: security unit. -/
structure SecuSt where
  /-- transition fuses burned (R436). -/
  trans : Nat
  /-- owner-key fields burned, in order (R436). -/
  owners : List (List (BitVec 8))
  /-- security-version thermometer fuses burned (R436). -/
  svnFuses : Nat
  /-- revocation fuse of ROM key 0 (R436). -/
  key0Revoked : Bool
  /-- source key slots in use by the tag check (R441). -/
  keys : Table KeySlot
  /-- instants of the failed signatures of the last 60 s (R439). -/
  sigFails : List Nat
  /-- UNSEAL, RECOVER and OWNER are refused (R439). -/
  sigLock : Bool
  /-- SHA-384 digests of ROM firmware keys 0 and 1 (R443). -/
  romKeys : List (List (BitVec 8))
  /-- now when the signature lockout began (R439). -/
  lockAt : Nat
  deriving DecidableEq, Repr

/-- Group `secu` at reset. -/
def SecuSt.init : SecuSt where
  trans := 0
  owners := []
  svnFuses := 0
  key0Revoked := false
  keys := []
  sigFails := []
  sigLock := false
  romKeys := [Config.romKey 0, Config.romKey 1]
  lockAt := 0

/-- The whole state. Register values stand in `regs`, keyed item index x 2^24 + 24-bit address (R455, R464; for a
register whose name ends in _SEL the item index is the path in the order of R462); `eff` holds, for a register whose
writes take effect later, the value in force. `freeCtr` is the model's own counter of free values (log entry 1). -/
structure State where
  regs : Table (BitVec 32)
  eff : Table (BitVec 32)
  mode : Modes
  clk : Clock
  pwr : PowerSt
  panel : PanelSt
  boot : StartSt
  bus : BusSt
  log : LogSt
  ram : RamSt
  mem : MemSt
  scene : SceneSt
  coil : CoilSt
  wv : WeaverSt
  frs : FreshSt
  rim : RimSt
  scan : ScanSt
  weft : WeftSt
  lan : LaneSt
  fab : FabSt
  tim : TimeSt
  leaf : LeafSt
  nvs : NvsSt
  thm : ThermSt
  secu : SecuSt
  freeCtr : Nat
  /-- Commands waiting, first in first out. -/
  pending : List Instr
  deriving DecidableEq, Repr

/-- Right after reset: every register at its default, every group at its reset value, no command waiting. -/
def State.reset : State where
  regs := []
  eff := []
  mode := Modes.init
  clk := Clock.init
  pwr := PowerSt.init
  panel := PanelSt.init
  boot := StartSt.init
  bus := BusSt.init
  log := LogSt.init
  ram := RamSt.init
  mem := MemSt.init
  scene := SceneSt.init
  coil := CoilSt.init
  wv := WeaverSt.init
  frs := FreshSt.init
  rim := RimSt.init
  scan := ScanSt.init
  weft := WeftSt.init
  lan := LaneSt.init
  fab := FabSt.init
  tim := TimeSt.init
  leaf := LeafSt.init
  nvs := NvsSt.init
  thm := ThermSt.init
  secu := SecuSt.init
  freeCtr := 0
  pending := []

/-- Reasons a step could stop with a fault. No meaning of this model raises one: the block has no stop the spec
describes as a fault. -/
inductive Fault where
  /-- Raised by nothing; it stands for a stop of the machine the spec does not describe (safe). -/
  | noMeaning
  deriving DecidableEq, Repr

/-- Reasons a command is refused. -/
inductive Refusal where
  /-- Raised by an arm of `exec` whose command has no meaning in the model yet (safe: nothing can be proved of it). -/
  | notModelled (mnemonic : String)
  deriving DecidableEq, Repr

/-- What a command answers. -/
abbrev Out := Host.Outcome State Fault Refusal

end Sys2Proof.Machine
end

