-- ==== Sys2Proof/Machine/Update.lean ====
section
/-! DEFINITION. One named update per group of State, so that what an operation leaves alone is read off its text
(Laws/State.lean states each field after each update). -/

namespace Sys2Proof.Machine

/-- Update group `regs`. -/
def State.modRegs (s : State) (f : Table (BitVec 32) → Table (BitVec 32)) : State := { s with regs := f s.regs }
/-- Update group `eff`. -/
def State.modEff (s : State) (f : Table (BitVec 32) → Table (BitVec 32)) : State := { s with eff := f s.eff }
/-- Update group `mode`. -/
def State.modMode (s : State) (f : Modes → Modes) : State := { s with mode := f s.mode }
/-- Update group `clk`. -/
def State.modClk (s : State) (f : Clock → Clock) : State := { s with clk := f s.clk }
/-- Update group `pwr`. -/
def State.modPwr (s : State) (f : PowerSt → PowerSt) : State := { s with pwr := f s.pwr }
/-- Update group `panel`. -/
def State.modPanel (s : State) (f : PanelSt → PanelSt) : State := { s with panel := f s.panel }
/-- Update group `boot`. -/
def State.modBoot (s : State) (f : StartSt → StartSt) : State := { s with boot := f s.boot }
/-- Update group `bus`. -/
def State.modBus (s : State) (f : BusSt → BusSt) : State := { s with bus := f s.bus }
/-- Update group `log`. -/
def State.modLog (s : State) (f : LogSt → LogSt) : State := { s with log := f s.log }
/-- Update group `ram`. -/
def State.modRam (s : State) (f : RamSt → RamSt) : State := { s with ram := f s.ram }
/-- Update group `mem`. -/
def State.modMem (s : State) (f : MemSt → MemSt) : State := { s with mem := f s.mem }
/-- Update group `scene`. -/
def State.modScene (s : State) (f : SceneSt → SceneSt) : State := { s with scene := f s.scene }
/-- Update group `coil`. -/
def State.modCoil (s : State) (f : CoilSt → CoilSt) : State := { s with coil := f s.coil }
/-- Update group `wv`. -/
def State.modWv (s : State) (f : WeaverSt → WeaverSt) : State := { s with wv := f s.wv }
/-- Update group `frs`. -/
def State.modFrs (s : State) (f : FreshSt → FreshSt) : State := { s with frs := f s.frs }
/-- Update group `rim`. -/
def State.modRim (s : State) (f : RimSt → RimSt) : State := { s with rim := f s.rim }
/-- Update group `scan`. -/
def State.modScan (s : State) (f : ScanSt → ScanSt) : State := { s with scan := f s.scan }
/-- Update group `weft`. -/
def State.modWeft (s : State) (f : WeftSt → WeftSt) : State := { s with weft := f s.weft }
/-- Update group `lan`. -/
def State.modLan (s : State) (f : LaneSt → LaneSt) : State := { s with lan := f s.lan }
/-- Update group `fab`. -/
def State.modFab (s : State) (f : FabSt → FabSt) : State := { s with fab := f s.fab }
/-- Update group `tim`. -/
def State.modTim (s : State) (f : TimeSt → TimeSt) : State := { s with tim := f s.tim }
/-- Update group `leaf`. -/
def State.modLeaf (s : State) (f : LeafSt → LeafSt) : State := { s with leaf := f s.leaf }
/-- Update group `nvs`. -/
def State.modNvs (s : State) (f : NvsSt → NvsSt) : State := { s with nvs := f s.nvs }
/-- Update group `thm`. -/
def State.modThm (s : State) (f : ThermSt → ThermSt) : State := { s with thm := f s.thm }
/-- Update group `secu`. -/
def State.modSecu (s : State) (f : SecuSt → SecuSt) : State := { s with secu := f s.secu }
/-- Update group `freeCtr`. -/
def State.modFreeCtr (s : State) (f : Nat → Nat) : State := { s with freeCtr := f s.freeCtr }
/-- Update group `pending`. -/
def State.modPending (s : State) (f : List Instr → List Instr) : State := { s with pending := f s.pending }

end Sys2Proof.Machine
end

