-- ==== Sys2Proof/Machine/Ops.lean ====
section
/-! DEFINITION. The named operations every family uses: registers and their fields, memory bytes, beam stamps, event
flags with their rings (R457, R480, R481), the parameter store's pages and counters (R396-R403) and log records
(R476-R479, R404, R489). -/

namespace Sys2Proof.Machine

/-! ### Registers -/

/-- The key of a register in `State.regs`: item index, page, offset (R455, R464). -/
def regKey (idx page off : Nat) : Nat := idx * 2 ^ 24 + page * 4096 + off

/-- The row of a table that holds offset `off`. -/
def findRow (off : Nat) : List RegRow → Option RegRow
  | [] => none
  | r :: rs => if r.off ≤ off ∧ off < r.off + 4 * r.cnt then some r else findRow off rs

/-- The row of a register: the common header below 0x100 (R457), the block's own rows above; `none` on a reserved
offset or an undefined page. -/
def rowOf (page off : Nat) : Option RegRow :=
  match pageRows page with
  | none => none
  | some rs => if off < 0x100 then findRow off rowsHDR else findRow off rs

/-- The thresholds of a thermal zone at reset (R418): ZONE_THR0 and ZONE_THR1. -/
def zoneThrReset (zone : Nat) : Nat × Nat :=
  if zone = 0 then (0x5550E2D8, 0x5F5A) else if zone ≤ 2 then (0x413CF6EC, 0x4B46)
  else if zone ≤ 5 then (0x645FE2D8, 0x7369) else (0x5F55E2D8, 0x6964)

/-- The value of a register at reset, by key (R457, R460, the register tables; a field without a stated default is 0,
log entry 3). -/
def regReset (key : Nat) : BitVec 32 :=
  let off := key % 4096
  let page := key / 4096 % 4096
  let idx := key / 2 ^ 24
  if off = 0 then BitVec.ofNat 32 (pageType page * 2 ^ 16 + pageInst page)
  else if off = 0x014 then BitVec.ofNat 32 (pageEvents page)
  else if page = 0x070 ∧ off = 0x100 then 0x03FE0000
  else if page = 0x071 ∧ off = 0x100 then 0x03FF0000
  else if page = 0x052 ∧ off = 0x104 then BitVec.ofNat 32 (zoneThrReset idx).1
  else if page = 0x052 ∧ off = 0x108 then BitVec.ofNat 32 (zoneThrReset idx).2
  else match rowOf page off with
    | some r => BitVec.ofNat 32 r.rst
    | none => 0

/-- The stored value of a register. -/
def State.reg (s : State) (key : Nat) : BitVec 32 := tget regReset s.regs key

/-- Store a register. -/
def State.setReg (s : State) (key : Nat) (v : BitVec 32) : State := s.modRegs (fun t => tset regReset t key v)

/-- The key of the register that holds a field, for a page instance and an item. -/
def Fld.key (f : Fld) (inst idx : Nat) : Nat := regKey idx (f.page + inst) f.off

/-- The width of a field. -/
def Fld.width (f : Fld) : Nat := f.hi + 1 - f.lo

/-- Read a field. -/
def State.rd (s : State) (f : Fld) (inst : Nat := 0) (idx : Nat := 0) : Nat :=
  bits (s.reg (f.key inst idx)).toNat f.hi f.lo

/-- Read a one-bit field. -/
def State.rdB (s : State) (f : Fld) (inst : Nat := 0) (idx : Nat := 0) : Bool := s.rd f inst idx != 0

/-- Read a field as a signed number. -/
def State.rdI (s : State) (f : Fld) (inst : Nat := 0) (idx : Nat := 0) : Int := sgn f.width (s.rd f inst idx)

/-- Write a field, keeping the other bits of its register. -/
def State.wr (s : State) (f : Fld) (v : Nat) (inst : Nat := 0) (idx : Nat := 0) : State :=
  s.setReg (f.key inst idx) (BitVec.ofNat 32 (setBits (s.reg (f.key inst idx)).toNat f.hi f.lo v))

/-- Write a one-bit field. -/
def State.wrB (s : State) (f : Fld) (v : Bool) (inst : Nat := 0) (idx : Nat := 0) : State := s.wr f (b2n v) inst idx

/-- Write a field from a signed number, as two's complement. -/
def State.wrI (s : State) (f : Fld) (v : Int) (inst : Nat := 0) (idx : Nat := 0) : State :=
  s.wr f (wrapI f.width v) inst idx

/-- Count `n` in a field, saturating at its largest value. -/
def State.bump (s : State) (f : Fld) (n : Nat := 1) (inst : Nat := 0) (idx : Nat := 0) : State :=
  s.wr f (satAdd f.width (s.rd f inst idx) n) inst idx

/-- The value in force of a field whose writes take effect later. -/
def State.eff_ (s : State) (f : Fld) (inst : Nat := 0) (idx : Nat := 0) : Nat :=
  bits (tget regReset s.eff (f.key inst idx)).toNat f.hi f.lo

/-- The value in force of a signed field. -/
def State.effI (s : State) (f : Fld) (inst : Nat := 0) (idx : Nat := 0) : Int := sgn f.width (s.eff_ f inst idx)

/-- Set the value in force of a register. -/
def State.effSet (s : State) (key : Nat) (v : BitVec 32) : State := s.modEff (fun t => tset regReset t key v)

/-- Registers whose keys satisfy `p` take their value at reset. -/
def State.dropRegs (s : State) (p : Nat → Bool) : State := s.modRegs (fun t => tfilter (fun k _ => !p k) t)

/-- Values in force whose keys satisfy `p` take their value at reset. -/
def State.dropEff (s : State) (p : Nat → Bool) : State := s.modEff (fun t => tfilter (fun k _ => !p k) t)

/-- Every register comes into force as it stands, but those whose keys satisfy `p`, which take their value at reset. -/
def State.latchAll (s : State) (p : Nat → Bool) : State := s.modEff (fun _ => tfilter (fun k _ => !p k) s.regs)

/-- Bring the register of a field into force as it stands now. -/
def State.latch (s : State) (f : Fld) (inst : Nat := 0) (idx : Nat := 0) : State :=
  s.effSet (f.key inst idx) (s.reg (f.key inst idx))

/-- Set the value in force of a field. -/
def State.wrEff (s : State) (f : Fld) (v : Nat) (inst : Nat := 0) (idx : Nat := 0) : State :=
  s.effSet (f.key inst idx) (BitVec.ofNat 32 (setBits (tget regReset s.eff (f.key inst idx)).toNat f.hi f.lo v))

/-- Apply an update once for each element of a list, in order. -/
def State.each {α : Type} (s : State) (xs : List α) (f : State → α → State) : State := xs.foldl f s

/-- The first state when `c` holds, else `s`. -/
def State.when (s : State) (c : Bool) (f : State → State) : State := if c then f s else s

/-- An address register pair: the low register of a field's page at `lo` and its high 5 bits at `hi`. -/
def State.addr37 (s : State) (lo hi : Fld) (inst : Nat := 0) (idx : Nat := 0) : Nat :=
  (s.reg (lo.key inst idx)).toNat + (s.reg (hi.key inst idx)).toNat % 32 * 2 ^ 32

/-! ### The weave clock (R3, R341) -/

/-- The weave clock runs on by `n` cycles: the count of weave cycles, WC, and the TAI count by 5/8 ns for each. -/
def State.advance (s : State) (n : Nat) : State :=
  let e := s.clk.sub.toNat + 5 * n
  let m := s.clk.ns.toNat + e / 8
  s.modClk (fun c => { c with
    now := c.now + n, wc := c.wc + BitVec.ofNat 16 n, sub := BitVec.ofNat 3 (e % 8)
    ns := BitVec.ofNat 30 (m % 1000000000), sec := c.sec + BitVec.ofNat 48 (m / 1000000000) })

/-! ### Free values -/

/-- Take a free value of `w` bits (log entry 1). -/
def State.takeFree (s : State) (w : Nat) : BitVec w × State :=
  (Config.free w s.freeCtr, s.modFreeCtr (· + 1))

/-! ### Memory bytes -/

/-- What a byte of HBM or hub SRAM that nothing has written reads as (log entry 2). -/
def memDefault : Nat → Byte := fun _ => 0

/-- Bytes of HBM: 96 GiB (R15, R266). -/
def hbmSize : Nat := 96 * 2 ^ 30

/-- Read `n` HBM bytes. -/
def State.hbmRd (s : State) (a n : Nat) : List Byte := tgets memDefault s.ram.hbm a n

/-- Write HBM bytes. A burst written whole gets a new code word (R280). -/
def State.hbmWr (s : State) (a : Nat) (bs : List Byte) : State :=
  s.modRam (fun r => { r with
    hbm := tsets memDefault r.hbm a bs,
    bad := tfilter (fun k _ => !(decide (a ≤ 32 * k) && decide (32 * k + 32 ≤ a + bs.length))) r.bad })

/-- HBM bytes whose addresses satisfy `p`, and the code words of bursts that satisfy `q`, become 0 and good. -/
def State.clearHbm (s : State) (p q : Nat → Bool) : State :=
  s.modRam (fun r => { r with hbm := tfilter (fun k _ => !p k) r.hbm, bad := tfilter (fun k _ => !q k) r.bad })

/-- The code word of burst `b` is uncorrectable from now on (R280). -/
def State.spoil (s : State) (b : Nat) : State := s.modRam (fun r => { r with bad := tset (fun _ => false) r.bad b true })

/-- Read `n` hub SRAM bytes. -/
def State.sramRd (s : State) (a n : Nat) : List Byte := tgets memDefault s.ram.sram a n

/-- Write hub SRAM bytes. -/
def State.sramWr (s : State) (a : Nat) (bs : List Byte) : State :=
  s.modRam (fun r => { r with sram := tsets memDefault r.sram a bs })

/-- Whether a burst that holds any of `n` HBM bytes from `a` has an uncorrectable code word stored (R280). -/
def State.hbmBad (s : State) (a n : Nat) : Bool :=
  s.ram.bad.any (fun kb => kb.2 && decide (a / 32 ≤ kb.1) && decide (kb.1 ≤ (a + n - 1) / 32) && decide (0 < n))

/-- The first uncorrectable burst among `n` HBM bytes from `a`. -/
def State.firstBad (s : State) (a n : Nat) : Option Nat :=
  s.ram.bad.findSome? (fun kb => if kb.2 ∧ a / 32 ≤ kb.1 ∧ kb.1 ≤ (a + n - 1) / 32 ∧ 0 < n then some kb.1 else none)

/-! ### Beam stamps, events -/

/-- The beam stamp now (R4): FRAME [63:32], LINE [31:16], WC [15:0]. -/
def State.stamp (s : State) : Nat := s.clk.frame.toNat * 2 ^ 32 + s.clk.line.toNat * 2 ^ 16 + s.clk.wc.toNat

/-- The event rings' records waiting: (HEAD - TAIL) mod 4,096 (R481). -/
def State.evFill (s : State) (r : Nat) : Nat := (s.rd EVT.HEAD.INDEX r + 4096 - s.rd EVT.TAIL.INDEX r) % 4096

/-- The next ring or log sequence number: 0xFFFF_FFFF wraps to 1 (R477, R480). -/
def nextSeq (q : BitVec 32) : BitVec 32 := if q = 0xFFFFFFFF then 1 else q + 1

/-- Bytes 0-11 of an event record (R480). -/
def evBody (beam block inst bitNo : Nat) (forced : Bool) : List Byte :=
  leBytes 8 beam ++ leBytes 2 block ++ leBytes 1 inst ++ leBytes 1 (bitNo % 32 + 32 * b2n forced)

/-- A 16-byte event record (R480). -/
def evRecord (beam block inst bitNo : Nat) (forced : Bool) (seq : Nat) : List Byte :=
  evBody beam block inst bitNo forced ++ leBytes 4 seq

/-- A record that event ring `r` takes or drops in the present weave cycle (R480). -/
def State.noteEv (s : State) (r : Fin 2) (e : CycEv) : State :=
  s.modLog (fun l => { l with evSeq := l.evSeq.set r (nextSeq e.seq), cycEv := l.cycEv.set r (l.cycEv[r] ++ [e]) })

/-- Flag `b` of an EVT page itself rises (R457, R482): it gives no ring record. -/
def State.ringFlag (s : State) (r : Fin 2) (b : Nat) : State :=
  let s := s.wr HDR.PG_EVT (s.rd HDR.PG_EVT (EVT.PAGE + r) ||| b) (EVT.PAGE + r)
  let s := s.wr HDR.PG_BEAM_AT.WC s.clk.wc.toNat (EVT.PAGE + r)
  s.wr HDR.PG_BEAM_AT.LINE s.clk.line.toNat (EVT.PAGE + r)

/-- One flag reported to event ring `r` (R480, R481): a record at HEAD, or a drop counted when the ring is full; the
sequence number advances either way. -/
def State.ringPut (s : State) (r : Fin 2) (page bitNo : Nat) (forced : Bool) : State :=
  let seq := s.log.evSeq[r]
  let head := s.rd EVT.HEAD.INDEX r
  let body := evBody s.stamp (pageType page) (pageInst page) bitNo forced
  if s.evFill r = 4095 then
    let s := s.noteEv r ⟨page, bitNo, body, none, seq⟩
    let s := s.modLog (fun l => { l with evLost := l.evLost.set r (l.evLost[r] + 1) })
    let s := s.bump EVT.DROP 1 r
    (s.wrB EVT.STS.OVF true r).ringFlag r 1
  else
    let s := s.noteEv r ⟨page, bitNo, body, some head, seq⟩
    let s := s.sramWr (s.rd EVT.BASE.OFS r + 16 * head) (body ++ leBytes 4 seq.toNat)
    let s := s.wr EVT.HEAD.INDEX ((head + 1) % 4096) r
    if s.evFill r = 2048 then s.ringFlag r 2 else s

/-- Report flag `bitNo` of a page to both rings when PG_CTL.ENA and its enable bit are 1 (R457, R480). Flags of the EVT
pages are never reported. -/
def State.report (s : State) (page bitNo : Nat) (forced : Bool) : State :=
  if s.rdB HDR.PG_CTL.ENA page && bit (s.rd HDR.PG_EVT_EN page) bitNo && !(page == 0x070 || page == 0x071) then
    (s.ringPut 0 page bitNo forced).ringPut 1 page bitNo forced
  else s

/-- Event flag `bitNo` of a page rises (R457): PG_EVT and PG_BEAM_AT, and the event rings. -/
def State.event (s : State) (page bitNo : Nat) : State :=
  let s := s.wr HDR.PG_EVT (s.rd HDR.PG_EVT page ||| 2 ^ bitNo) page
  let s := s.wr HDR.PG_BEAM_AT.WC s.clk.wc.toNat page
  let s := s.wr HDR.PG_BEAM_AT.LINE s.clk.line.toNat page
  s.report page bitNo false

/-! ### Parameter store pages and counters -/

/-- COMMIT of a valid copy (R396). -/
def nvsCommit : Nat := 0xA55AC33C

/-- The first 504 bytes of a physical copy (R396). -/
def PageCopy.head (c : PageCopy) : List Byte := c.data ++ leBytes 2 c.lpage ++ zeros 2 ++ leBytes 4 c.seq.toNat

/-- Validity of a copy of logical page `p` (R396). -/
def PageCopy.valid (c : PageCopy) (p : Nat) : Bool :=
  c.lpage == p && c.commit == nvsCommit && c.check == rim c.head p

/-- A complete copy (R396). -/
def mkCopy (p : Nat) (data : List Byte) (seq : BitVec 32) : PageCopy :=
  { data := data, lpage := p, seq := seq, check := rim (data ++ leBytes 2 p ++ zeros 2 ++ leBytes 4 seq.toNat) p,
    commit := nvsCommit }

/-- A copy that no write completed. -/
def blankCopy : PageCopy := { data := List.replicate 496 0xFF, lpage := 0xFFFF, seq := 0xFFFFFFFF, check := 0xFFFFFFFF, commit := 0xFFFFFFFF }

/-- DATA of a logical page at delivery (log entry 13): the Identity, Config (below the security area) and Calibration
pages hold each module's own bytes, all others 0. -/
def deliveredData (p : Nat) : List Byte :=
  if p ≤ 15 ∨ (18 ≤ p ∧ p ≤ 169) ∨ (274 ≤ p ∧ p ≤ 529) then (List.range 496).map (fun o => Config.deliveredByte p o) else zeros 496

/-- Physical copy `k` (logical page k mod 4,096) at delivery: complete with SEQ 1 (R396), but for page 170, whose two
copies are invalid at delivery (R438). -/
def deliveredCopy (k : Nat) : PageCopy :=
  if k % 4096 = 170 then blankCopy else mkCopy (k % 4096) (deliveredData (k % 4096)) 1

/-- A physical copy. -/
def State.copy (s : State) (k : Nat) : PageCopy := tget deliveredCopy s.nvs.pages k

/-- Whether physical copy `k` of logical page `p` is valid (R396). A copy as delivered is, but for page 170's (R438). -/
def State.copyOk (s : State) (k p : Nat) : Bool :=
  match tfind s.nvs.pages k with
  | some c => c.valid p
  | none => p != 170

/-- The current copy of a logical page (R398): the valid one, the greater SEQ by signed difference when both are; `none`
when the page is lost. `some k` names the physical copy. -/
def State.curCopy (s : State) (p : Nat) : Option Nat :=
  let a := s.copyOk p p
  let b := s.copyOk (p + 4096) p
  if a && b then
    if sdiff32 (s.copy (p + 4096)).seq.toNat (s.copy p).seq.toNat > 0 then some (p + 4096) else some p
  else if a then some p else if b then some (p + 4096) else none

/-- DATA of a logical page as a read takes it (R398); `none` when the page is lost. -/
def State.pageData (s : State) (p : Nat) : Option (List Byte) := (s.curCopy p).map (fun k => (s.copy k).data)

/-- SEQ of the current copy; 0 when the page is lost. -/
def State.pageSeq (s : State) (p : Nat) : BitVec 32 :=
  match s.curCopy p with | some k => (s.copy k).seq | none => 0

/-- The physical copy a write programs: the one that is not current (R399). -/
def State.writeCopy (s : State) (p : Nat) : Nat :=
  match s.curCopy p with | some k => if k = p then p + 4096 else p | none => p

/-- Store a physical copy. -/
def State.putCopy (s : State) (k : Nat) (c : PageCopy) : State :=
  s.modNvs (fun n => { n with pages := tset deliveredCopy n.pages k c })

/-- A completed page write (R399): the copy that is not current takes DATA with SEQ + 1. -/
def State.nvsCommitPage (s : State) (p : Nat) (data : List Byte) : State :=
  s.putCopy (s.writeCopy p) (mkCopy p data (s.pageSeq p + 1))

/-- Cell `k` of counter `i` (R403); 0 where the page is lost. -/
def State.cell (s : State) (i k : Nat) : Nat :=
  match s.pageData (530 + k) with | some d => leAt d (4 * i) 4 | none => 0

/-- Value of counter `i` (R403): the largest cell of any valid copy's page. -/
def State.counter (s : State) (i : Nat) : Nat := (List.range 16).foldl (fun m k => max m (s.cell i k)) 0

/-- SYS.LIFE_S (R472): the LIFE_S counter plus the seconds since its last increment, saturating. A second is
1,600,000,000 weave cycles (R3). -/
def State.lifeS (s : State) : Nat := satAdd 32 (s.counter 1) ((s.clk.now - s.nvs.lifeAt) / 1600000000)

/-- The run marker: RUN_MARK odd (R62, R403). -/
def State.runMark (s : State) : Bool := s.counter 0 % 2 == 1

/-! ### Log records -/

/-- The codes whose records have FAULT = 1 (R478). -/
def faultCodes : List Nat :=
  [0x2A, 0x2C, 0x2D, 0x2E, 0x2F, 0x36, 0x50, 0x52, 0x54, 0x64, 0x67, 0x80, 0x86, 0xA9, 0xC4, 0xC8, 0xD1, 0xE1, 0xE2,
   0xE3, 0xE4, 0xEF, 0xF3, 0xF4, 0xF6]

/-- The 32 bytes of a log record (R476). -/
def LogRec.bytes (r : LogRec) : List Byte :=
  leBytes 4 r.seq.toNat ++ leBytes 8 r.beam ++ leBytes 4 r.life ++ leBytes 2 r.block ++ leBytes 1 r.inst ++
  leBytes 1 r.code ++ leBytes 1 r.cls ++ zeros 3 ++ leBytes 4 r.arg0 ++ leBytes 4 r.arg1

/-- The Log page of a key of `LogSt.wait`: ring entries on pages 546-1,638, first-fault entries on 1,639-1,656 (R404). -/
def logPage (k : Nat) : Nat := if k < 16384 then 546 + k / 15 else 1639 + (k - 16384) / 15

/-- The distinct Log pages under assembly (R404). -/
def State.asmPages (s : State) : List Nat := (s.log.wait.map (fun kv => logPage kv.1)).eraseDups

/-- Whether the 64-page buffer has no room for an entry (R404). -/
def State.logNoRoom (s : State) (k : Nat) : Bool :=
  decide (64 ≤ s.asmPages.length) && !(s.asmPages.contains (logPage k))

/-- Store a record in the buffer. -/
def State.logStore (s : State) (k : Nat) (r : LogRec) : State :=
  s.modLog (fun l => { l with wait := tset (fun _ => LogRec.empty) l.wait k r })

/-- The first-fault entry that a record takes, if it takes one (R404). -/
def State.firstFor (s : State) (r : LogRec) : Option Nat :=
  let n := s.rd NVS.LOG_STS.FF_COUNT
  if r.cls % 2 = 1 ∧ n < 256 ∧ s.logNoRoom (16384 + n) = false then some n else none

/-- The first-fault copy of a fault record (R404): the next free entry; FF_FULL once all 256 are used. -/
def State.logFirst (s : State) (r : LogRec) : State :=
  let n := s.rd NVS.LOG_STS.FF_COUNT
  if n < 256 then
    if s.logNoRoom (16384 + n) then s
    else
      let s := (s.logStore (16384 + n) { r with cls := r.cls + 2 }).wr NVS.LOG_STS.FF_COUNT (n + 1)
      if n = 255 then s.wrB NVS.LOG_STS.FF_FULL true else s
  else s.wrB NVS.LOG_STS.FF_FULL true

/-- Whether the log page budget is spent (R479): 7,200 page writes in the present 86,400 s of LIFE_S. -/
def State.budgetSpent (s : State) : Bool := s.log.budget == 7200 && s.log.budgetDay == s.lifeS / 86400

/-- PG_ERR_CNT and PG_ERR_FIRST count a record whether or not it entered the log (R489). -/
def State.countErr (s : State) (page code : Nat) (logged : Bool) (seq : Nat) : State :=
  let first := s.rd HDR.PG_ERR_CNT.COUNT page == 0
  let s := s.bump HDR.PG_ERR_CNT.COUNT 1 page
  if first then
    let s := s.wr HDR.PG_ERR_FIRST.CODE code page
    let s := s.wrB HDR.PG_ERR_FIRST.LOGGED logged page
    s.wr HDR.PG_ERR_FIRST.SEQ (if logged then seq else 0) page
  else s

/-- The record of a cause on a page, now (R476, R478). -/
def State.mkRec (s : State) (page code arg0 arg1 : Nat) : LogRec :=
  { seq := s.log.nextSeq, beam := s.stamp, life := s.lifeS, block := pageType page, inst := pageInst page % 256,
    code := code, cls := b2n (faultCodes.contains code), arg0 := arg0, arg1 := arg1 }

/-- One record of a page into ring entry HEAD, with its first-fault copy (R477, R404). -/
def State.logEnter (s : State) (page : Nat) (r : LogRec) : State :=
  let h := s.rd NVS.LOG_STS.HEAD
  let s := s.logStore h r
  let s := s.wr NVS.LOG_STS.HEAD ((h + 1) % 16384)
  let s := s.modLog (fun l => { l with
    nextSeq := nextSeq l.nextSeq, cyc := l.cyc ++ [⟨page, r.code, h, s.firstFor r⟩] })
  if r.cls % 2 = 1 then s.logFirst r else s

/-- Whether a record with this FAULT bit enters the log (R404, R479). -/
def State.logAdmits (s : State) (code : Nat) : Bool :=
  !(s.logNoRoom (s.rd NVS.LOG_STS.HEAD)) && (faultCodes.contains code || code == 0xD9 || !s.budgetSpent)

/-- One record without the follow-on records of R404. -/
def State.logRaw (s : State) (page code arg0 arg1 : Nat) : State :=
  if s.logAdmits code then
    (s.logEnter page (s.mkRec page code arg0 arg1)).countErr page code true (s.log.nextSeq.toNat % 2 ^ 16)
  else
    let s := s.bump NVS.LOG_DROP
    let s := if s.logNoRoom (s.rd NVS.LOG_STS.HEAD) then s.modLog (fun l => { l with full := true }) else s
    s.countErr page code false 0

/-- Log code `code` on a page (R476-R479, R404, R489); once all 256 first-fault entries are used, 0xD8
follows, once until the area is cleared, with event FF_FULL. -/
def State.logc (s : State) (page code : Nat) (arg0 : Nat := 0) (arg1 : Nat := 0) : State :=
  let s' := s.logRaw page code arg0 arg1
  if s'.rdB NVS.LOG_STS.FF_FULL && !s'.log.ffFullLogged then
    let s' := s'.modLog (fun l => { l with ffFullLogged := true })
    (s'.event NVS.PAGE 4).logRaw NVS.PAGE 0xD8 (s'.rd NVS.LOG_STS) 0
  else s'

/-- Log at most once per frame for a code and an item (R103, R181 and the once-per-frame codes). -/
def State.logOnce (s : State) (item page code : Nat) (arg0 : Nat := 0) (arg1 : Nat := 0) : State :=
  if s.log.frameKeys.contains (code, item) then s
  else (s.modLog (fun l => { l with frameKeys := (code, item) :: l.frameKeys })).logc page code arg0 arg1

/-! ### Page writes with their wear (R399, R403, R406) -/

/-- A page whose SEQ passes 100,000 (R406): STS.WEAR, event WEAR, and code 0xD6 once for that page. -/
def State.wearCheck (s : State) (p : Nat) : State :=
  if 100000 < (s.pageSeq p).toNat then
    let s := s.wrB NVS.STS.WEAR true
    if s.nvs.wearPages.contains p then s
    else ((s.modNvs (fun n => { n with wearPages := p :: n.wearPages })).event NVS.PAGE 2).logc NVS.PAGE 0xD6
      (s.rd NVS.STS) p
  else s

/-- A completed page write with its wear. -/
def State.commitPage (s : State) (p : Nat) (data : List Byte) : State := (s.nvsCommitPage p data).wearCheck p

/-- Counter `i` advances by `n` (R403): the new value into cell (v + n) mod 16, that page only, saturating. -/
def State.counterAdd (s : State) (i n : Nat) : State :=
  let v := satAdd 32 (s.counter i) n
  let p := 530 + v % 16
  let d := (s.pageData p).getD (zeros 496)
  s.commitPage p (splice d (4 * i) (leBytes 4 v))

/-- Counter `i` advances where the store may be written (R32, R400): with HOLD_RDY and before the power-fail warning, whose
journal has pages of its own (R401). -/
def State.count (s : State) (i n : Nat) : State :=
  if s.rdB SYS.PWR_STS.HOLD_RDY && !s.nvs.jrnlOn then s.counterAdd i n else s

/-- SEC.STS.PWR codes (R452). -/
def PowerState.code : PowerState → Nat
  | .sill => 0 | .full => 1 | .shutter => 2 | .standbyLeaf => 3 | .thermalStop => 4 | .discharge => 5

/-- SEC.STS.SEC codes (R452). -/
def SecState.code : SecState → Nat
  | .openS => 0 | .sealed => 1 | .quarantined => 2

/-- SEC.STS.DBG codes (R452). -/
def DbgLevel.code : DbgLevel → Nat
  | .detached => 0 | .observe => 1 | .intrusive => 2

/-- SEC.STS as a read shows it (R452). -/
def State.secSts (s : State) : Nat :=
  s.mode.sec.code + 4 * s.mode.dbg.code + 16 * s.mode.power.code + 128 * s.rd SEC.STS.KEYS_HIDDEN +
  256 * s.rd SEC.STS.INT_PEND + 512 * s.rd SEC.STS.KEYSTORE_OK + 1024 * s.rd SEC.STS.FW_OK +
  65536 * s.secu.trans + 2 ^ 25 * s.secu.owners.length

/-- DBG.STS as a read shows it (R453). -/
def State.dbgSts (s : State) : Nat :=
  setBits (setBits (s.rd DBG.STS) 1 0 s.mode.dbg.code) 7 7 (s.rd SEC.STS.INT_PEND)

end Sys2Proof.Machine
end

