-- ==== Sys2Proof/Machine/Access.lean ====
section
/-! DEFINITION. The checks that every register access passes before its register acts: path (R435, R445, R468), page lock
and forced events (R459), RWS fields (R11) and privileged registers (R362, R434); and the records of refused writes
(R465, R484). -/

namespace Sys2Proof.Machine

/-- What a register write answers: its status and the state it leaves. -/
abbrev WrRes := Status × State

/-- The write was done. -/
def okW (s : State) : WrRes := (.ok, s)

/-- The number of a path in the order of R462. -/
def Path.num : Path → Nat
  | .firmware => 0 | .mgmt => 1 | .jtag => 2 | .transom => 3 | .fabric => 4 | .flex => 5

/-- The paths that are privileged by themselves (R362, R468). -/
def Path.privileged : Path → Bool
  | .firmware | .mgmt => true
  | _ => false

/-- STATUS codes of R465. -/
def Status.code : Status → Nat
  | .ok => 0 | .locked => 1 | .unaligned => 2 | .unmapped => 3 | .ignored => 4 | .path => 5 | .memerr => 6

/-- ARG0 of the records 0x28 and 0x29 (R484): address [23:0], path [31:24]. -/
def wrArg0 (path : Path) (page off : Nat) : Nat := page * 4096 + off + path.num * 2 ^ 24

/-- An ignored write with its ignored-write record, code 0x28 (R465, R484). -/
def ign28 (path : Path) (page off v : Nat) (s : State) : WrRes :=
  (.ignored, s.logc SYS.PAGE 0x28 (wrArg0 path page off) v)

/-- An ignored write that the chapter logs with a code of its own, on the named page. -/
def ignCode (page code a0 a1 : Nat) (s : State) : WrRes := (.ignored, s.logc page code a0 a1)

/-- A locked write with its locked-write record, code 0x29 (R465, R484). -/
def lock29 (path : Path) (page off v : Nat) (s : State) : WrRes :=
  (.locked, s.logc SYS.PAGE 0x29 (wrArg0 path page off) v)

/-- Whether the path may make this access in this state: in Quarantined only firmware, management port and JTAG
(R435, R468); JTAG reads need Observe or Intrusive and JTAG writes Intrusive (R445). -/
def State.pathServed (s : State) (path : Path) (write : Bool) : Bool :=
  (match path with
   | .firmware | .mgmt | .jtag => true
   | .transom | .fabric | .flex => s.mode.sec != .quarantined) &&
  (match path, write, s.mode.dbg with
   | .jtag, true, .intrusive => true
   | .jtag, false, .observe => true
   | .jtag, false, .intrusive => true
   | .jtag, _, _ => false
   | _, _, _ => true)

/-- The registers whose name ends in _SEL (R464), WV.PROBE_SEL included for the page lock. -/
def isSel (page off : Nat) : Bool :=
  [(0x010, 0x108), (0x010, 0x150), (0x010, 0x158), (0x011, 0x108), (0x011, 0x130), (0x012, 0x130), (0x013, 0x110),
   (0x020, 0x134), (0x020, 0x140), (0x020, 0x160), (0x021, 0x134), (0x021, 0x140), (0x021, 0x160), (0x023, 0x108),
   (0x024, 0x108), (0x025, 0x10C), (0x026, 0x10C)].contains (page, off) ||
  [(0x031, 0x100), (0x031, 0x114), (0x032, 0x130), (0x032, 0x138), (0x040, 0x110), (0x041, 0x100), (0x041, 0x130),
   (0x050, 0x104), (0x050, 0x11C), (0x051, 0x104), (0x052, 0x100), (0x052, 0x110), (0x060, 0x114)].contains (page, off)

/-- The item that a register of a page refers to (R464): the path for a _SEL register, the selected item for a register of a
selected item, else 0. -/
def State.itemOf (s : State) (path : Path) (page off : Nat) : Nat :=
  let n := path.num
  if isSel page off then (if page = 0x020 ∨ page = 0x021 then (if off = 0x160 then 0 else n) else n)
  else if page = ING.PAGE then
    (if 0x10C ≤ off ∧ off ≤ 0x11C then s.rd ING.RING_SEL.RING 0 n else if off = 0x154 then s.rd ING.STREAM_SEL.STREAM 0 n else 0)
  else if page = COL.PAGE then (if 0x134 ≤ off ∧ off ≤ 0x154 then s.rd COL.ENC_SEL.LANE 0 n else 0)
  else if page = RIM.PAGE then (if off = 0x114 then s.rd RIM.RET_SEL.GROUP 0 n else 0)
  else if page = 0x023 ∨ page = 0x024 then
    (if 0x10C ≤ off ∧ off ≤ 0x120 then s.rd PLK.GRP_SEL.GROUP (page - 0x023) n else 0)
  else if page = LAN.PAGE then
    (if 0x104 ≤ off ∧ off ≤ 0x110 then s.rd LAN.LANE_SEL.LANE 0 n
     else if (0x118 ≤ off ∧ off ≤ 0x120) ∨ off = 0x12C ∨ off = 0x130 then s.rd LAN.PORT_SEL 0 n % 64 else 0)
  else if page = FAB.PAGE then
    (if off = 0x134 then s.rd FAB.RT_SEL.DST 0 n else if 0x13C ≤ off ∧ off ≤ 0x148 then s.rd FAB.PORT_SEL.PORT 0 n else 0)
  else if page = TIM.PAGE then (if off = 0x114 then s.rd TIM.ASYM_SEL.PORT 0 n else 0)
  else if page = LNT.PAGE then
    (if 0x104 ≤ off ∧ off ≤ 0x10C then s.rd LNT.SLOT_SEL.SLOT 0 n
     else if 0x134 ≤ off ∧ off ≤ 0x144 then s.rd LNT.CMP_SEL.CH 0 n else 0)
  else if page = THM.PAGE then
    (if 0x104 ≤ off ∧ off ≤ 0x10C then s.rd THM.ZONE_SEL.ZONE 0 n else if off = 0x114 then s.rd THM.SEN_SEL.SENSOR 0 n else 0)
  else 0

/-- Whether the page lock of R459 stops a write to this register: any RW or RWS register but PG_EVT, the _SEL registers
and WO action registers. -/
def lockStops (page off : Nat) (r : RegRow) : Bool := (r.acc == .rw || r.acc == .rws) && !isSel page off

/-- The checks before a register write and the write itself. `priv`: the access is privileged under R362. -/
def State.gate (s : State) (path : Path) (priv : Bool) (page off : Nat) (v : Nat) (act : State → WrRes) : WrRes :=
  match rowOf page off with
  | none => (.ok, s)
  | some r =>
    if !s.pathServed path true then (.path, s)
    else if off = 0x018 ∧ s.mode.sec ≠ .openS then lock29 path page off v s
    else if s.rdB HDR.PG_CTL.LOCK page && lockStops page off r then lock29 path page off v s
    else if r.acc = .rws ∧ s.mode.sec ≠ .openS then lock29 path page off v s
    else if r.priv && s.mode.sec != .openS && !priv then
      if page = SEC.PAGE then
        lock29 path page off v ((s.wr SEC.RESULT.CODE 4).logc SEC.PAGE 0xF8 s.secSts 0)
      else lock29 path page off v (s.logc page 0xBA (page * 4096 + off) v)
    else if 0x800 ≤ off ∧ page < 0x200 ∧ s.mode.sec ≠ .openS ∧ priv = false then lock29 path page off v s
    else act s

/-- The plain effect of a write by access code (R10): RW and RWS take the defined bits, W1C clears, the others nothing. -/
def State.plainWrite (s : State) (page off idx : Nat) (v : Nat) : State :=
  match rowOf page off with
  | none => s
  | some r =>
    let k := regKey idx page off
    let old := (s.reg k).toNat
    match r.acc with
    | .rw | .rws => s.setReg k (BitVec.ofNat 32 (v &&& r.mask))
    | .w1c => s.setReg k (BitVec.ofNat 32 (old - (old &&& v)))
    | .ro | .wo | .rc => s

end Sys2Proof.Machine
end

