-- ==== Sys2Proof/Machine/Operands.lean ====
section
/-! DEFINITION. Operand forms that several families share: pixel formats and their conversion (R71, R251), tile addresses
inside a plane (R71, R72), segment coordinates (R7) and the planes' and louvres' record forms (R70, R74). -/

namespace Sys2Proof.Machine

/-- The five packed formats and the two Plait formats of R71; other codes are illegal. -/
def fmtLegal (f : Nat) : Bool := [1, 2, 3, 4, 5, 0x10, 0x11].contains f

/-- Packed (pitch-linear) formats of R71. -/
def fmtPacked (f : Nat) : Bool := [1, 2, 3, 4, 5].contains f

/-- Plait formats of R71. -/
def fmtPlait (f : Nat) : Bool := f == 0x10 || f == 0x11

/-- Bytes per pixel of a packed format (R251). -/
def fmtBpp (f : Nat) : Nat := if f = 1 ∨ f = 2 then 2 else if f = 3 then 3 else 4

/-- Alignment of addresses and pitches of a format (R71, R255). -/
def fmtAlign (f : Nat) : Nat := if f = 3 then 192 else 64

/-- Bytes of one tile's expansion in a format (R71, R80). -/
def fmtTileBytes (f : Nat) : Nat := if fmtPlait f then 16448 else 4096 * fmtBpp f

/-- Channel layout of a format (R251, R127): (hi, lo) of A, R, G, B; A is absent as (0, 1). -/
def fmtLayout (f : Nat) : List (Nat × Nat) :=
  if f = 1 then [(0, 1), (15, 11), (10, 5), (4, 0)]
  else if f = 2 then [(15, 15), (14, 10), (9, 5), (4, 0)]
  else if f = 3 then [(0, 1), (23, 16), (15, 8), (7, 0)]
  else if f = 5 ∨ f = 0x11 then [(31, 30), (29, 20), (19, 10), (9, 0)]
  else [(31, 24), (23, 16), (15, 8), (7, 0)]

/-- Width of a channel. -/
def chanW (c : Nat × Nat) : Nat := c.1 + 1 - c.2

/-- A channel of `n` bits re-scaled to `m` bits (R251); a missing channel reads as all ones, a dropped one as 0. -/
def chanConv (n m v : Nat) : Nat :=
  if m = 0 then 0 else if n = 0 then 2 ^ m - 1 else (v * (2 ^ m - 1) + (2 ^ n - 1) / 2) / (2 ^ n - 1)

/-- The channel values A, R, G, B of a pixel value, each with its width. -/
def pixSplit (f px : Nat) : List (Nat × Nat) :=
  (fmtLayout f).map (fun c => if chanW c = 0 then (0, 0) else (chanW c, bits px c.1 c.2))

/-- A pixel value from channels with their widths, each re-scaled to the format (R251). -/
def pixBuild (f : Nat) (cs : List (Nat × Nat)) : Nat :=
  ((fmtLayout f).zip cs).foldl (fun a lc => a + chanConv lc.2.1 (chanW lc.1) lc.2.2 * 2 ^ lc.1.2) 0

/-- A pixel converted from one format to another (R251). -/
def pixConv (sf df px : Nat) : Nat := pixBuild df (pixSplit sf px)

/-- The bytes of a pixel in a packed format (R251). -/
def pixBytes (f px : Nat) : List Byte := leBytes (fmtBpp f) px

/-- Bytes of a plane's whole bank in its format (R71). -/
def planeBankMin (p : Plane) : Nat :=
  if fmtPlait p.format then 16448 * p.wt * p.ht else p.pitch * 64 * p.ht

/-- The HBM address of bank `b` of a plane (R70). -/
def planeBank (p : Plane) (b : Nat) : Nat := p.surf + b * p.stride

/-- The HBM address of pixel (x, y) of a packed plane's bank (R71). -/
def planePix (p : Plane) (b x y : Nat) : Nat := planeBank p b + y * p.pitch + x * fmtBpp p.format

/-- The HBM address of Plait tile slot n of a bank (R71). -/
def plaitSlot (p : Plane) (b n : Nat) : Nat := planeBank p b + 16448 * n

/-- Number of tiles of a plane (R72). -/
def planeTiles (p : Plane) : Nat := p.wt * p.ht

/-- Whether a plane owns a handle (R72). -/
def planeOwns (p : Plane) (h : Nat) : Bool := decide (p.tileBase ≤ h) && decide (h < p.tileBase + planeTiles p)

/-- The plane in force that owns a handle, with its index (R72). -/
def State.owner (s : State) (h : Nat) : Option (Nat × Plane) :=
  s.scene.planes.findSome? (fun kv => match kv.2 with
    | some p => if planeOwns p h then some (kv.1, p) else none
    | none => none)

/-- The plane in force at an index. -/
def State.plane (s : State) (i : Nat) : Option Plane := tget (fun _ => none) s.scene.planes i

/-- The louvre in force at an index. -/
def State.louvre (s : State) (i : Nat) : Option Louvre := tget (fun _ => none) s.scene.louvres i

/-- The epoch of a plane index (R101). -/
def State.epochOf (s : State) (i : Nat) : BitVec 4 := tget (fun _ => 0) s.scene.epoch i

/-- The freshness table entry of a handle as stored (R92). -/
def State.entryRaw (s : State) (h : Nat) : Entry := tget (fun _ => Entry.zero) s.scene.fresh h

/-- The entry as it reads: zero where its PLANE or EPOCH does not match its owning plane (R101). -/
def State.entry (s : State) (h : Nat) : Entry :=
  match s.owner h with
  | none => Entry.zero
  | some (i, _) =>
    let e := s.entryRaw h
    if e.plane = i ∧ e.epoch = s.epochOf i then e else Entry.zero

/-- Store an entry. -/
def State.putEntry (s : State) (h : Nat) (e : Entry) : State :=
  s.modScene (fun c => { c with fresh := tset (fun _ => Entry.zero) c.fresh h e })

/-- The STATE code of R92. -/
def TileState.code : TileState → Nat
  | .noData => 0 | .content => 1 | .fault => 2 | .withdrawn => 3

/-- Word `w` (0-3) of an entry (R92). -/
def Entry.word (e : Entry) (w : Nat) : Nat :=
  if w = 0 then e.stamp else if w = 1 then e.seq
  else if w = 2 then e.maxAge % 2 ^ 21 + e.state.code * 2 ^ 21 + b2n e.v * 2 ^ 23 + b2n e.tv * 2 ^ 24 +
    b2n e.slot * 2 ^ 25 + b2n e.t5 * 2 ^ 26
  else e.source % 2 ^ 16 + e.plane % 4096 * 2 ^ 16 + e.epoch.toNat * 2 ^ 28

/-- Set the dirty bit of a tile for the frame in progress (R233). -/
def State.setDirty (s : State) (h : Nat) : State :=
  let old := tget (fun _ => 0) s.scene.dirty h
  s.modScene (fun c => { c with dirty := tset (fun _ => 0) c.dirty h (old ||| BitVec.ofNat 2 (2 ^ (s.clk.frame.toNat % 2))) })

/-- The record bytes of a plane (R70), most significant byte first. -/
def planeRecord (i : Nat) (p : Plane) : List Byte :=
  [1, 0] ++ beBytes 2 i ++ beBytes 1 p.format ++ beBytes 1 p.order ++ beBytes 2 (b2n p.common) ++
  beBytes 4 (wrapI 32 p.x) ++ beBytes 4 (wrapI 32 p.y) ++ beBytes 2 p.wt ++ beBytes 2 p.ht ++ beBytes 4 p.tileBase ++
  beBytes 2 (wrapI 16 p.disp) ++ zeros 2 ++ beBytes 8 p.surf ++ beBytes 4 p.pitch ++ beBytes 8 p.stride ++ zeros 16

/-- The record bytes of a louvre (R74). -/
def louvreRecord (i : Nat) (l : Louvre) : List Byte :=
  [3, 0] ++ beBytes 2 i ++ beBytes 1 l.first ++ beBytes 1 l.last ++ beBytes 1 l.soft ++ beBytes 1 (wrapI 8 l.vshift) ++
  beBytes 2 l.centre ++ beBytes 1 l.list.length ++ [0] ++
  ((l.list ++ List.replicate (8 - l.list.length) 0).map (beBytes 2)).flatten ++ zeros 36

/-- Insert by a key, after equal keys. -/
def insertBy {α : Type} (key : α → Nat) (x : α) : List α → List α
  | [] => [x]
  | y :: ys => if key x < key y then x :: y :: ys else y :: insertBy key x ys

/-- Stable sort by a key. -/
def sortBy {α : Type} (key : α → Nat) (xs : List α) : List α := xs.foldl (fun acc x => insertBy key x acc) []

/-- The enabled planes of a plane table, in index order. -/
def enabledPlanes (t : Table (Option Plane)) : List (Nat × Plane) :=
  t.filterMap (fun kv => kv.2.map (fun p => (kv.1, p)))

/-- The enabled louvres of a louvre table, in index order. -/
def enabledLouvres (t : Table (Option Louvre)) : List (Nat × Louvre) :=
  t.filterMap (fun kv => kv.2.map (fun l => (kv.1, l)))

/-- The effective layer list of a LIST (R75): the named planes and every common plane, by ORDER, then index. With an
empty LIST, the common planes alone. -/
def effList (t : Table (Option Plane)) (list : List Nat) : List (Nat × Plane) :=
  sortBy (fun ip => ip.2.order) ((enabledPlanes t).filter (fun ip => ip.2.common || list.contains ip.1))

/-- One record of an edit set read from its 64 bytes (R70, R74); `none` when a field is outside R70, R71 or R74. -/
def parseRecord (bs : List Byte) : Option EditRec :=
  let ty := beAt bs 0 1
  let idx := beAt bs 2 2
  let rest0 (o : Nat) : Bool := (bs.drop o).all (· == 0)
  if beAt bs 1 1 ≠ 0 then none
  else if ty = 2 then if idx < 4096 ∧ rest0 4 then some (.planeClear idx) else none
  else if ty = 4 then if idx < 64 ∧ rest0 4 then some (.louvreClear idx) else none
  else if ty = 1 then
    let p : Plane := {
      format := beAt bs 4 1, order := beAt bs 5 1, common := bit (beAt bs 6 2) 0,
      x := sgn 32 (beAt bs 8 4), y := sgn 32 (beAt bs 12 4), wt := beAt bs 16 2, ht := beAt bs 18 2,
      tileBase := beAt bs 20 4, disp := sgn 16 (beAt bs 24 2), surf := beAt bs 28 8, pitch := beAt bs 36 4,
      stride := beAt bs 40 8 }
    if idx < 4096 ∧ fmtLegal p.format ∧ beAt bs 6 2 ≤ 1 ∧ -32768 ≤ p.x ∧ p.x ≤ 30719 ∧ -16384 ≤ p.y ∧ p.y ≤ 8639 ∧
        1 ≤ p.wt ∧ p.wt ≤ 512 ∧ 1 ≤ p.ht ∧ p.ht ≤ 256 ∧ p.tileBase ≤ 262143 ∧ beAt bs 26 2 = 0 ∧
        p.surf < 2 ^ 37 ∧ p.stride < 2 ^ 37 ∧ rest0 48 then
      some (.planeSet idx p)
    else none
  else if ty = 3 then
    let n := beAt bs 10 1
    let all := (List.range 8).map (fun k => beAt bs (12 + 2 * k) 2)
    let l : Louvre := {
      first := beAt bs 4 1, last := beAt bs 5 1, soft := beAt bs 6 1, vshift := sgn 8 (beAt bs 7 1),
      centre := beAt bs 8 2, list := all.take n }
    if idx < 64 ∧ l.first ≤ l.last ∧ l.soft ≤ 8 ∧ -7 ≤ l.vshift ∧ l.vshift ≤ 7 ∧ l.first * 256 ≤ l.centre ∧
        l.centre ≤ l.last * 256 + 255 ∧ n ≤ 8 ∧ beAt bs 11 1 = 0 ∧ (all.take n).all (· < 4096) ∧
        (all.drop n).all (· == 0) ∧ rest0 28 then
      some (.louvreSet idx l)
    else none
  else none

end Sys2Proof.Machine
end

