-- ==== Sys2Proof/Machine/Sweep.lean ====
section
/-! DEFINITION. The sweeps over the freshness table (R101, R167-R169), which visit one entry a weave cycle in ascending order, and
the clock that carries them. -/

namespace Sys2Proof.Machine

/-- Handles of the freshness table. -/
def handles : Nat := 262144

/-- Withdraw entry `h` (R167, R168). -/
def State.withdraw (s : State) (h : Nat) : State :=
  (s.putEntry h { s.entryRaw h with state := .withdrawn }).bump FRS.STAT_WITHDRAW

/-- An entry with content and valid time. -/
def Entry.timed (e : Entry) : Bool := e.state == .content && e.tv

/-- The handles from `lo` on and below `hi` whose stored entry satisfies `p`. -/
def State.handlesIn (s : State) (lo hi : Nat) (p : Entry → Bool) : List Nat :=
  (s.scene.fresh.map (·.1)).filter (fun h => decide (lo ≤ h) && decide (h < hi) && p (s.entryRaw h))

/-- The step sweep withdraws an entry (R167): its age across the step, in 64 bits, leaves 30 minutes. -/
def stepBad (d : Int) (told : Nat) (e : Entry) : Bool :=
  let a := sdiff32 told e.stamp + d
  e.timed && (decide (a > 1800000000) || decide (a < -1800000000))

/-- The step sweep visits `n` entries (R167). -/
def State.stepVisit (s : State) (n : Nat) : State :=
  match s.frs.stepSweep with
  | none => s
  | some (pos, d, told) =>
    let hi := min handles (pos + n)
    let bad := s.handlesIn pos hi (stepBad d told.toNat)
    (s.each bad State.withdraw).modFrs (fun r => { r with
      stepSweep := some (hi, d, told), stepCount := r.stepCount + bad.length })

/-- The verification sweep visits `n` entries (R169): it clears V. -/
def State.verVisit (s : State) (n : Nat) : State :=
  match s.frs.verSweep with
  | none => s
  | some pos =>
    let hi := min handles (pos + n)
    (s.each (s.handlesIn pos hi (·.v)) (fun s h => s.putEntry h { s.entryRaw h with v := false })).modFrs (fun r => { r with
      verSweep := some hi })

/-- The epoch sweep visits `n` entries (R101): one whose PLANE or EPOCH does not match its owning plane becomes zero. -/
def State.epochVisit (s : State) (n : Nat) : State :=
  match s.scene.sweepEpoch with
  | none => s
  | some pos =>
    let hi := min handles (pos + n)
    s.modScene (fun c => { c with
      fresh := tfilter (fun h _ => decide (h < pos) || decide (hi ≤ h) || s.entry h != Entry.zero) c.fresh
      sweepEpoch := some hi })

/-- The sweeps that run visit `n` entries each (R101, R167, R169). -/
def State.sweeps (s : State) (n : Nat) : State := ((s.epochVisit n).stepVisit n).verVisit n

/-! ### The count (R341, R348) -/

/-- Nanoseconds of the count since the PTP epoch. -/
def State.taiNs (s : State) : Int := s.clk.sec.toNat * 1000000000 + s.clk.ns.toNat

/-- The count set to a number of nanoseconds. -/
def State.setTai (s : State) (ns : Int) : State :=
  s.modClk (fun c => { c with
    sec := BitVec.ofNat 48 (ns / 1000000000).toNat, ns := BitVec.ofNat 30 (ns % 1000000000).toNat })

/-- The offset being slewed out leaves the count at 200 ppm, 1 ns in 8,000 weave cycles (R348). -/
def State.slewRun (s : State) : State :=
  if s.tim.slew = 0 then s
  else
    let n := (s.clk.now - s.tim.slewAt) / 8000
    let m := clampI (-n) n s.tim.slew
    (s.setTai (s.taiNs - m)).modTim (fun t => { t with slew := t.slew - m, slewAt := t.slewAt + 8000 * n })

/-! ### The order of a weave cycle's records -/

/-- A log record as it stands in an entry of the Log pages under assembly; `none` once its page was written. -/
def State.entryAt (s : State) (k : Nat) : Option LogRec := (s.log.wait.find? (fun kv => kv.1 == k)).map (·.2)

/-- PG_ERR_FIRST of a page describes the record with this sequence number (R457, R489). -/
def State.isFirst (s : State) (page : Nat) (seq : BitVec 32) : Bool :=
  s.rdB HDR.PG_ERR_FIRST.LOGGED page && s.rd HDR.PG_ERR_FIRST.SEQ page == seq.toNat % 65536

/-- The cycle's log records with the contents of their entries. -/
def State.cycRecs (s : State) : List (CycLog × LogRec) :=
  s.log.cyc.filterMap (fun c => (s.entryAt c.slot).map (fun r => (c, r)))

/-- The log records of a cycle in ascending page and code take its entries, sequence numbers and first-fault entries in order
(R477). PG_ERR_FIRST of a page it described follows its record (R489). -/
def State.orderLog (s : State) : State :=
  let old := s.cycRecs
  let new := sortBy (fun cr => cr.1.page * 256 + cr.1.code) old
  if new == old then s
  else
    let now := (old.zip new).map (fun x => ({ x.2.1 with slot := x.1.1.slot }, { x.2.2 with seq := x.1.2.seq }))
    let pages := ((old.filter (fun cr => s.isFirst cr.1.page cr.2.seq)).map (·.1.page)).eraseDups
    let firsts := (old.filterMap (·.1.first)).zip ((now.filter (fun cr => cr.1.first.isSome)).map (·.2))
    let s := s.each now (fun s cr => s.logStore cr.1.slot cr.2)
    let s := s.each firsts (fun s f =>
      if (s.entryAt (16384 + f.1)).isSome then s.logStore (16384 + f.1) { f.2 with cls := f.2.cls + 2 } else s)
    s.each pages (fun s p => match now.find? (fun cr => cr.1.page == p) with
      | some cr => (s.wr HDR.PG_ERR_FIRST.CODE cr.2.code p).wr HDR.PG_ERR_FIRST.SEQ (cr.2.seq.toNat % 65536) p
      | none => s)

/-- The records of a cycle in event ring `r` in ascending page and bit take its places and sequence numbers in order (R480). -/
def State.orderRing (s : State) (r : Fin 2) : State :=
  let old := s.log.cycEv[r]
  let new := sortBy (fun e => e.page * 32 + e.bitNo) old
  if new == old then s
  else s.each (old.zip new) (fun s x => match x.1.entry with
    | some k => s.sramWr (s.rd EVT.BASE.OFS r + 16 * (k % 4096)) (x.2.body.take 12 ++ leBytes 4 x.1.seq.toNat)
    | none => s)

/-- A weave cycle ends: its records stand in their order. -/
def State.endCycle (s : State) : State :=
  if s.log.cyc.isEmpty && s.log.cycEv[(0 : Fin 2)].isEmpty && s.log.cycEv[(1 : Fin 2)].isEmpty then s
  else
    (((s.orderLog.orderRing 0).orderRing 1)).modLog (fun l => { l with cyc := [], cycEv := Vector.replicate 2 [] })

/-- The clock runs on by `n` weave cycles, and with it the slew and the sweeps. -/
def State.run (s : State) (n : Nat) : State :=
  if n = 0 then s else (s.endCycle.advance n).slewRun.sweeps n

end Sys2Proof.Machine
end

