-- ==== Sys2Proof/Machine/Flags.lean ====
section
/-! DEFINITION. Status that is computed from other state wherever it is shown: the time inputs of the freshness unit
(R162), the verdict of a tile (R163, R164), the power, freshness, leaf and thermal faults and the alarm relay (R47). -/

namespace Sys2Proof.Machine

/-- T: microseconds of TAI modulo 2^32 (R162). -/
def State.tUs (s : State) : Nat := (s.clk.sec.toNat * 1000000 + s.clk.ns.toNat / 1000) % 2 ^ 32

/-- J of R162: the size of a refused time jump still pending, in microseconds. -/
def State.jumpUs (s : State) : Nat := s.rd TIM.JUMP.US

/-- The effective bound Be = B + J, saturating (R162). -/
def State.bE (s : State) : Nat := satAdd 32 (s.rd TIM.BOUND.US) s.jumpUs

/-- Time is valid for freshness (R162): TVAL = 1 and Be at most the limit in force. -/
def State.timeValid (s : State) : Bool := s.rdB TIM.STS.TVAL && decide (s.bE ≤ s.eff_ TIM.VALID_LIM.US)

/-- The signed age of a stamp (R163). -/
def ageOf (t be stamp : Nat) : Int := sgn 32 (t + 2 + be + 2 ^ 32 - stamp % 2 ^ 32)

/-- The freshness inequality (R163). -/
def freshPass (t be stamp maxAge : Nat) : Bool :=
  decide (ageOf t be stamp ≤ (1000 * maxAge : Nat)) && decide (sgn 32 (stamp + 2 ^ 32 - (t + 2) % 2 ^ 32) ≤ 1800000000)

/-- The row of R164 that decides a tile's verdict, 1 to 9. `e` is the entry as it reads under R101. -/
def verdictRow (refused : Bool) (e : Entry) (t be : Nat) (valid stepSweep intrusive verSweep : Bool) : Nat :=
  if refused then 1
  else if e.state = .noData then 2
  else if e.state = .fault then 3
  else if e.state = .withdrawn then 4
  else if !e.tv then 5
  else if !valid || stepSweep then 6
  else if !freshPass t be e.stamp e.maxAge then 7
  else if !e.v || intrusive || verSweep then 8
  else 9

/-- The row of R164 that decides a tile's verdict now. -/
def State.rowNow (s : State) (refused : Bool) (h : Nat) : Nat :=
  verdictRow refused (s.entry h) s.tUs s.bE s.timeValid s.frs.stepSweep.isSome (s.mode.dbg == .intrusive)
    s.frs.verSweep.isSome

/-- The age of a tile as TILE_AGE shows it (R174): 0 when STATE is not 1. -/
def State.ageNow (s : State) (h : Nat) : Int :=
  let e := s.entry h
  if e.state = .content then ageOf s.tUs s.bE e.stamp else 0

/-- A verdict sample taken in this weave cycle sees what changes after it in the same cycle (R161, R173): its rows, time inputs
and generations are taken again. -/
def State.resample (s : State) : State :=
  s.each [0, 1] (fun s h =>
    let smp := s.frs.sample[(h : Fin 2)]
    if smp.at_ != s.clk.now || smp.at_ == 0 then s
    else
      let row (k old : Nat) : Nat := if old = 1 then 1 else s.rowNow false k
      let new : SampleSt := { smp with
        t := s.tUs, be := s.bE, valid := s.timeValid, gen := s.rd ING.COMMIT_GEN, wg := s.weft.wg.toNat
        rows := smp.rows.map (fun kv => (kv.1, row kv.1 kv.2)) }
      let s' := s.modFrs (fun r => { r with
        sample := r.sample.set h new
        seen := new.rows.foldl (fun t kv => tset (fun _ => (0, 0)) t kv.1 (kv.2, s.ageNow kv.1)) r.seen })
      (s'.wr FRS.BOUND.BE new.be).wr FRS.NOW.T new.t)

/-- VERDICT code of a row (R164, R174): 0 Content, 1 No-data, 2 Stale, 3 Unverified, 4 Fault. -/
def rowVerdict (row : Nat) : Nat :=
  if row = 1 ∨ row = 3 then 4 else if row = 2 ∨ row = 5 then 1 else if row = 4 ∨ row = 6 ∨ row = 7 then 2
  else if row = 8 then 3 else 0

/-- A power fault is active (R30, R36, R39, R65). -/
def State.powerFault (s : State) : Bool :=
  s.pwr.pfFeed.toList.any id || s.pwr.pfOv.toList.any id || s.pwr.pfHold || s.pwr.pfStart ||
  s.panel.railFaultPf.toList.any id

/-- A freshness fault is active (R172). -/
def State.freshFault (s : State) : Bool := s.rdB FRS.ALM_STS.ACTIVE

/-- The leaf fault conditions that hold, by the bits of R390. "Port 23 down" is taken of a paired leaf only. -/
def State.leafFaults (s : State) : Nat :=
  let paired := s.eff_ LEF.CFG.PAIRED != 0
  let role := s.rd LEF.STS.ROLE
  b2n (paired && role == 2 && s.rd LEF.STS.PARTNER_ROLE != 4) + 2 * b2n (paired && !s.rdB LEF.STS.HINGE_UP) +
  4 * b2n (s.scan.underrunFault != 0) +
  8 * b2n (s.rd PLK.LINK_STS.FAILED 0 != 0 || s.rd PLK.LINK_STS.FAILED 1 != 0) +
  16 * b2n (s.scan.mullion != 0) + 32 * b2n (role == 2 && decide (s.rd LEF.THR.UNPROV < s.rim.unprovLast)) +
  64 * b2n (decide (3 ≤ role) && decide (s.eff_ LEF.CFG.DIG_THR < s.rim.digMisLast)) +
  128 * b2n (paired && (role == 0 || role == 1))

/-- A leaf fault is active (R390). -/
def State.leafFault (s : State) : Bool := s.leafFaults != 0

/-- LEF.STS.PARTNER_SEEN (R393): a HELLO or an ECHO answer has come within 10 ms. -/
def State.partnerSeen (s : State) : Bool :=
  match s.leaf.seenAt with
  | some t => decide (s.clk.now ≤ t + 16000000)
  | none => false

/-- LEF.STS as a read shows it (R390, R393): FAULT follows the conditions, PARTNER_SEEN the time. -/
def State.lefSts (s : State) : Nat :=
  setBits (setBits (s.rd LEF.STS) LEF.STS.FAULT.hi LEF.STS.FAULT.lo s.leafFaults)
    LEF.STS.PARTNER_SEEN.hi LEF.STS.PARTNER_SEEN.lo (b2n s.partnerSeen)

/-- A thermal fault is active (R419). -/
def State.thermalFault (s : State) : Bool := s.rd THM.FAULT != 0

/-- The module drives the alarm relay closed (R47). -/
def State.relayClosed (s : State) : Bool :=
  (s.mode.supply == .on) && (s.mode.power == .full || s.mode.power == .standbyLeaf || s.mode.power == .shutter) &&
  !s.freshFault && !s.leafFault && !s.thermalFault && !s.powerFault

/-- A half's column drivers of all eight groups report lock (R58). -/
def State.driversLocked (s : State) (h : Fin 2) : Bool := s.panel.driverLock[h] == 0xFF

/-- Any half's rails are up (R445). -/
def State.anyRailsUp (s : State) : Bool := s.rdB PDV.RAIL_STS.UP 0 || s.rdB PDV.RAIL_STS.UP 1

/-- The half of a panel group (R16). -/
def groupHalf (g : Nat) : Fin 2 := if g < 8 then 0 else 1

/-- Total lines of the raster that runs: 8,700 for the Sill raster (R60), else VTOTAL in force (R187). -/
def State.vtotal (s : State) : Nat := if s.mode.raster = .weaver then s.eff_ SCN.VTOTAL.LINES else 8700

/-- LINE_EFF of the raster that runs, in 1/256 wc: the Sill raster's 8,700 lines take 1/30 s (R60). -/
def State.lineEff (s : State) : Nat := if s.mode.raster = .weaver then s.rd SCN.LINE_EFF.PER else 1569348

/-- Weave cycles from the edge at which line 0 of the frame in progress started to the edge of line `l` (R5): a line starts at
the first edge at or after its exact start. A Weaver line takes LINE_EFF; a Sill line 1,600,000 / 261 wc, 8,700 of them 30 times
a second (R60). -/
def State.lineEdge (s : State) (l : Nat) : Nat :=
  if s.mode.raster = .weaver then (l * s.rd SCN.LINE_EFF.PER + 255 - s.clk.frac) / 256
  else ((8700 * s.clk.sillFrame + l) * 1600000 + 260) / 261 - (8700 * s.clk.sillFrame * 1600000 + 260) / 261

/-- Whole weave cycles of the line in progress (R5, R188): line VTOTAL - 1 of the Weaver raster takes the trim, and what a
re-phase adds to it (R357). -/
def State.lineLen (s : State) : Nat :=
  let l := s.clk.line.toNat
  let n := s.lineEdge (l + 1) - s.lineEdge l
  if s.mode.raster = .weaver ∧ l + 1 = s.vtotal then ((n : Int) + s.scan.trim + s.scan.stretch).toNat else n

/-- The clock is carried to the edge that ends the line in progress, if it has not come there (R5). -/
def State.toLineEnd (s : State) : State := s.run (s.lineLen - (s.clk.now - s.clk.lineAt))

/-- The clock is carried to weave cycle `n` of the line in progress, if it has not come there. -/
def State.toWc (s : State) (n : Nat) : State := s.run (n - (s.clk.now - s.clk.lineAt))

/-- The exact start of the next frame's line 0 before its edge, in 1/256 wc (R5): the frame's lines end on a fraction. -/
def State.fracNext (s : State) : Nat :=
  let x := s.vtotal * s.rd SCN.LINE_EFF.PER - s.clk.frac
  (x + 255) / 256 * 256 - x

/-- 1,000 or 1,001: the factor K in force (R187). -/
def State.kFactor (s : State) : Nat := if s.eff_ SCN.RATE_CTL.K1001 = 1 then 1001 else 1000

/-- Nanoseconds of TAI since 1958 (R190, R341). -/
def State.ns1958 (s : State) : Int := (s.clk.sec.toNat + 378691200) * 1000000000 + s.clk.ns.toNat

/-- The frame instants follow TAI (R190, R357, R486): under SRC 0 and 1, once the raster is aligned, by valid time at the lock or
by a re-phase. -/
def State.taiFrames (s : State) : Bool :=
  (s.eff_ SCN.RATE_CTL.SRC == 0 || s.eff_ SCN.RATE_CTL.SRC == 1) && s.scan.aligned

/-- t_n of R190, in ns after 1958. -/
def State.tn (s : State) (n : Nat) : Int :=
  s.effI SCN.PHASE.NS + (n * s.kFactor * 1000000 / max 1 (s.eff_ SCN.RATE_CTL.RATE) : Nat)

/-- The smallest n with t_n later than `x` ns after 1958 (R190). -/
def State.nAfter (s : State) (x : Int) : Nat :=
  let km := s.kFactor * 1000000
  (((x - s.effI SCN.PHASE.NS + 1).toNat * s.eff_ SCN.RATE_CTL.RATE) + km - 1) / km

/-- Weave cycles of a frame of the raster in force, in 1/256 (R187). -/
def State.frame256 (s : State) : Nat := max 1 (s.eff_ SCN.LINE_PER.PER * s.eff_ SCN.VTOTAL.LINES)

/-- The frame number under SRC = 2 at this instant (R190): counted from the last house edge in nominal frames, rounded to
the nearest (`half` = 1) or up to the next one (`half` = 0). -/
def State.houseFrame (s : State) (t : Nat) (half : Nat) : Nat :=
  let f := max 1 (1600 * s.kFactor * 1000 / max 1 (s.eff_ SCN.RATE_CTL.RATE))
  s.scan.houseN.toNat + (if half = 1 then (2 * (s.clk.now - t) + f) / (2 * f) else (s.clk.now - t) / f + 1)

/-- The number of the frame that starts at this instant (R190): the nearest t_n, else the count from the lock. -/
def State.frameNear (s : State) : Nat :=
  (if s.taiFrames then s.nAfter (s.ns1958 - (s.kFactor * 500000 / max 1 (s.eff_ SCN.RATE_CTL.RATE) : Nat))
   else if s.eff_ SCN.RATE_CTL.SRC = 2 ∧ s.scan.houseAt.isSome then s.houseFrame (s.scan.houseAt.getD 0) 1
   else ((s.clk.now - s.boot.lockAt) * 512 + s.frame256) / (2 * s.frame256)) % 2 ^ 32

/-- The number of the next frame to start (R190). -/
def State.frameNext (s : State) : Nat :=
  (if s.taiFrames then s.nAfter s.ns1958
   else if s.eff_ SCN.RATE_CTL.SRC = 2 ∧ s.scan.houseAt.isSome then s.houseFrame (s.scan.houseAt.getD 0) 0
   else (s.clk.now - s.boot.lockAt) * 256 / s.frame256 + 1) % 2 ^ 32

/-- The frame after the one in progress (R190); a re-phase under way gives it another number (R357). -/
def State.frameAfter (s : State) : Nat :=
  match s.scan.rephaseTo with
  | some n => n.toNat
  | none => (s.clk.frame.toNat + 1) % 2 ^ 32

/-- FS as it stands for frame `f` (R225): a frame that ends a Sill raster period is its own FS; a re-phase adds its change of
FRAME to FS (R357). -/
def State.fsFor (s : State) (f : Nat) : Nat :=
  if s.mode.raster ≠ .weaver then f
  else match s.scan.rephaseTo with
    | some n => if f = n.toNat then (s.clk.fs + (n - (s.clk.frame + 1))).toNat else s.clk.fs.toNat
    | none => s.clk.fs.toNat

/-- The waveform phase of frame `f` (R225). -/
def State.phaseOf (s : State) (f : Nat) : Nat := (f + 2 ^ 32 - s.fsFor f) % 4

/-- The phase of the frame in progress. -/
def State.phase (s : State) : Nat := s.phaseOf s.clk.frame.toNat

/-- The waveform band in force in a half (PDV.WV_STS.BAND). -/
def State.band (s : State) (h : Fin 2) : Nat := s.rd PDV.WV_STS.BAND h

/-- The power state runs the Weaver (R449): Full or Standby-leaf. -/
def PowerState.weaves : PowerState → Bool
  | .full | .standbyLeaf => true
  | _ => false

/-- The line the Weaver computes during the present beam line, with its frame (R157); `none` in blanking and while the
Weaver does not run. Line 0 of the first Weaver frame is computed before that frame starts: behind the Sill picture from
the Lintel lock on, and in a Shutter exit (R64, R214). -/
def State.nextLine (s : State) : Option (Nat × Nat) :=
  let l := s.clk.line.toNat
  let f1 := s.frameAfter
  match s.mode.raster with
  | .off => none
  | .sill => if s.mode.power = .sill ∧ s.boot.lockDone then some (0, s.frameNext) else none
  | .weaver =>
    if s.mode.power = .shutter then
      if s.scan.shutExit = some (BitVec.ofNat 32 f1) ∧ l + 1 = s.vtotal then some (0, f1) else none
    else if !s.mode.power.weaves then none
    else if l + 1 = s.vtotal then some (0, f1)
    else if l + 1 < 8640 then some (l + 1, s.clk.frame.toNat)
    else none

/-- Line 0 starts (R275): a pending SLICES value may take effect at the next round boundary. Before the Lintel lock, one written
together with a change of the line period waits for the lock. -/
def State.sliceLine (s : State) : State :=
  let wait := !s.boot.lockDone && s.eff_ SCN.LINE_PER.PER != s.rd SCN.LINE_PER.PER
  s.modMem (fun m => { m with sliceLine0 := m.sliceNext.isSome && !wait })

/-- What every frame of either raster shows of the frame that ended (R181, R185, R289): RET_STS and REF_STS.POST_MAX. -/
def State.frameShows (s : State) : State :=
  let s := (s.wr DMC.REF_STS.POST_MAX s.mem.postMaxNow).modMem (fun m => { m with badLogged := [], postMaxNow := 0 })
  (s.wr RIM.RET_STS s.rim.retNow.toNat).modRim (fun r => { r with
    retNow := 0, unprovLast := r.unprovNow, unprovNow := 0, digMisLast := r.digMisNow, digMisNow := 0 })

/-- The power state changes (R449): a self-test under way is cut short (R428, code 0xEE); calibration groups that Shutter or
Thermal-stop interrupts wait to run again (R424). -/
def State.setPower (s : State) (p : PowerState) : State :=
  if s.mode.power = p then s
  else
    let s := s.modMode (fun m => { m with power := p })
    let keep := if p = .thermalStop then 0 else if p = .shutter then 4 else 7
    let run := s.rd CLB.STS.RUNNING
    let s := (s.modThm (fun t => { t with waits := t.waits ||| BitVec.ofNat 3 (run &&& (7 - keep)) })).wr CLB.STS.RUNNING
      (run &&& keep)
    let s := s.wrB CLB.STS.WAITING (s.thm.waits != 0)
    if s.thm.selfTest.isSome then
      let s := (s.modThm (fun t => { t with selfTest := none })).wrB CLB.ST_STS.BUSY false
      let s := (s.wrB CLB.ST_STS.PASS false).wr CLB.ST_STS.RESULT 2
      (s.event CLB.PAGE 2).logc CLB.PAGE 0xEE (s.rd CLB.ST_STS) 0
    else s

end Sys2Proof.Machine
end

