-- ==== Sys2Proof/Machine/Mem.lean ====
section
/-! DEFINITION. The memory system (chapter 12): address map, calendar, service classes, refresh, row-disturbance
protection, ECC, scrub, training and self-refresh. -/

namespace Sys2Proof.Machine

/-! ### Address map and calendar -/

/-- Where an address lies (R267): pseudo-channel, bank, row, burst in the row. -/
structure HbmLoc where
  pc : Nat
  bank : Nat
  row : Nat
  col : Nat
  deriving DecidableEq, Repr

/-- The pseudo-channel of an address (R267). -/
def hbmPc (a : Nat) : Nat := bits a 17 11 ^^^ bits a 24 18 ^^^ bits a 31 25 ^^^ bits a 36 32

/-- The first bank of a block with index k: bank a of R267. -/
def bankOfBp (bp : Nat) : Nat := 8 * (bp / 4) + bp % 4

/-- The address map of R267. -/
def xlate (a : Nat) : HbmLoc :=
  let k := bits a 36 18
  { pc := hbmPc a, bank := bankOfBp (k % 24) + (if bits a 10 10 = 1 then 4 else 0), row := k / 24, col := bits a 9 0 / 32 }

/-- The address of block `k` of a pseudo-channel, the inverse of the map (R267). -/
def blockAddr (pc k : Nat) : Nat :=
  k * 2 ^ 18 + (pc ^^^ k % 128 ^^^ k / 128 % 128 ^^^ k / 2 ^ 14 % 32) * 2 ^ 11

/-- The kinds of calendar slices (R270). -/
inductive SliceKind where
  | maint | realTime | other
  deriving DecidableEq, Repr

/-- The kind of slice `k` of a round with `S` Real-time slices (R270). -/
def sliceKind (k S : Nat) : SliceKind :=
  if k % 32 = 31 then .maint
  else
    let j := k - k / 32
    if (j + 1) * S / 248 - j * S / 248 ≠ 0 then .realTime else .other

/-- SLICES in force (R275). -/
def State.slices (s : State) : Nat := s.eff_ DMC.RT_CTL.SLICES

/-- Weave cycles that the calendar has run since its last start; it stops at the seal (R286). -/
def State.calTime (s : State) : Nat := (if s.mem.sealed then s.mem.calStop else s.clk.now) - s.mem.calBase

/-- The kind of the slice that runs at calendar time `t` (R270). -/
def State.kindAt (s : State) (t : Nat) : SliceKind := sliceKind (t / 128 % 256) s.slices

/-- The kind of the slice that runs now. -/
def State.sliceKindNow (s : State) : SliceKind := s.kindAt s.calTime

/-- The round count since the controller's reset (R289). -/
def State.roundCount (s : State) : Nat := s.mem.calRound + s.calTime / 32768

/-- ROUND_POS (R289): the calendar's position. -/
def State.roundPos (s : State) : Nat :=
  let t := s.calTime
  t / 128 % 256 + t % 128 * 2 ^ 8 + b2n (s.sliceKindNow == .realTime) * 2 ^ 15 + s.roundCount % 2 ^ 16 * 2 ^ 16

/-! ### Uncorrectable results (R280, R281) -/

/-- The code of a class in ERR_ADDR_HI (R289). -/
def MemClass.code : MemClass → Nat
  | .realTime => 0 | .latency => 1 | .throughput => 2 | .background => 3

/-- The tile whose active bank holds an address, when a plane in force has it there (R281). -/
def State.tileAt (s : State) (a : Nat) : Option Nat :=
  s.scene.planes.findSome? (fun kv => match kv.2 with
    | none => none
    | some p => [0, 1].findSome? (fun b =>
        let o := a - planeBank p b
        if a < planeBank p b then none
        else
          let n := if fmtPlait p.format then (if o / 16448 < planeTiles p then some (o / 16448) else none)
            else if o / p.pitch < 64 * p.ht ∧ o % p.pitch / fmtBpp p.format < 64 * p.wt then
              some (o / p.pitch / 64 * p.wt + o % p.pitch / fmtBpp p.format / 64)
            else none
          match n with
          | none => none
          | some n => if b2n (s.entry (p.tileBase + n)).slot = b then some (p.tileBase + n) else none))

/-- An uncorrectable read of a tile's active bank sets its STATE to 2 (R281). -/
def State.tileFault (s : State) (a : Nat) : State :=
  match s.tileAt a with
  | none => s
  | some h =>
    let e := s.entryRaw h
    match s.owner h with
    | some (i, _) => if e.plane = i ∧ e.epoch = s.epochOf i then (s.putEntry h { e with state := .fault }).resample else s
    | none => s

/-- ERR_ADDR takes an address and a class (R289). -/
def State.errAddr (s : State) (a : Nat) (c : MemClass) : State :=
  ((s.wr DMC.ERR_ADDR_LO a).wr DMC.ERR_ADDR_HI.ADDR (a / 2 ^ 32)).wr DMC.ERR_ADDR_HI.CLASS c.code

/-- The memory error record 0x80, once per 2 KiB block and frame (R280). -/
def State.memRecord (s : State) (a : Nat) (ev : State → State) : State :=
  if s.mem.badLogged.contains (a / 2048) then s
  else
    let s := s.modMem (fun m => { m with badLogged := a / 2048 :: m.badLogged })
    (ev s).logc DMC.PAGE 0x80 (s.rd DMC.ERR_ADDR_LO) (s.rd DMC.ERR_ADDR_HI)

/-- An uncorrectable result (R280): the burst stays uncorrectable until it is written whole (log entry 16); counts,
ERR_ADDR, and the event and record 0x80 for the first one of its 2 KiB block in the frame; a tile's active bank turns to
Fault (R281). -/
def State.uncorrectable (s : State) (a : Nat) (c : MemClass) : State :=
  let s := s.spoil (a / 32)
  (((s.bump DMC.ECC_UNC).errAddr a c).tileFault a).memRecord a (fun s => s.event DMC.PAGE 0)

/-- The ADDR error: a request reaches at or beyond 96 GiB (R267). -/
def State.addrError (s : State) (a : Nat) : State := s.logc DMC.PAGE 0x89 (a % 2 ^ 32) (a / 2 ^ 32)

/-- What a read of `n` bytes by a requester outside the Real-time class gets in place of data, if anything (R267, R280, R281): the
ADDR error, or the UNCORR error of its first uncorrectable burst. -/
def State.readFault (s : State) (a n : Nat) (c : MemClass) : Option State :=
  if hbmSize < a + n then some (s.addrError a)
  else (s.firstBad a n).map (fun k => s.uncorrectable (32 * k) c)

/-- The uncorrectable bursts that a read of some HBM ranges meets. -/
def State.badBursts (s : State) (ranges : List (Nat × Nat)) : List Nat :=
  (s.ram.bad.filter (fun kb => kb.2 && ranges.any (fun an =>
    decide (an.1 / 32 ≤ kb.1) && decide (kb.1 ≤ (an.1 + an.2 - 1) / 32)))).map (·.1)

/-- What Real-time reads of some HBM ranges meet (R267, R280): the ADDR error of the first range that reaches beyond the memory,
and every uncorrectable burst's result. -/
def State.rtRead (s : State) (ranges : List (Nat × Nat)) : State :=
  let s := match ranges.find? (fun an => decide (hbmSize < an.1 + an.2)) with
    | some an => s.addrError an.1
    | none => s
  s.each (s.badBursts ranges) (fun s k => s.uncorrectable (32 * k) .realTime)

/-- A corrected error counts (R280), also for the rate check of its pseudo-channel (R282). -/
def State.corrected (s : State) (a : Nat) : State :=
  let pc := hbmPc a
  (s.bump DMC.ECC_COR).modMem (fun m => { m with corHour := tset (fun _ => 0) m.corHour pc (tget (fun _ => 0) m.corHour pc + 1) })

/-! ### The burst code (R280) -/

/-- Product in GF(2^8) with x^8 + x^4 + x^3 + x^2 + 1 (R280). -/
def gfMul (a b : Nat) : Nat :=
  (List.range 8).foldl (fun (acc : Nat × Nat) i =>
    (if bit b i then acc.1 ^^^ acc.2 else acc.1, if acc.2 ≥ 128 then acc.2 * 2 ^^^ 0x11D else acc.2 * 2)) (0, a) |>.1

/-- The power α^n of the field (R280). -/
def gfExp : Nat → Nat
  | 0 => 1
  | n + 1 => gfMul 2 (gfExp n)

/-- Syndrome j of an error pattern, given as (symbol position, value) pairs of the 36 symbols. -/
def syndrome (j : Nat) (errs : List (Nat × Nat)) : Nat :=
  errs.foldl (fun a e => a ^^^ gfMul e.2 (gfExp (j * e.1 % 255))) 0

/-- What the RS(36,32) check finds in a burst (R280). -/
inductive EccRes where
  | clean | corrected | uncorrectable
  deriving DecidableEq, Repr

/-- The check of a burst with an error pattern: all syndromes 0 reads as clean, the syndromes of one symbol error are
corrected, everything else is uncorrectable (R280). -/
def eccCheck (errs : List (Nat × Nat)) : EccRes :=
  let S := (List.range 4).map (fun j => syndrome j errs)
  let s0 := S.getD 0 0
  if S.all (· == 0) then .clean
  else if (List.range 36).any (fun p => (List.range 4).all (fun j => S.getD j 0 == gfMul s0 (gfExp (j * p % 255)))) then
    .corrected
  else .uncorrectable

/-! ### Row-disturbance protection (R278, R279) -/

/-- The key of a bank in the per-bank tables. -/
def bankKey (pc bank : Nat) : Nat := 48 * pc + bank

/-- Queue a neighbour refresh (R278): a full queue pushes its oldest entry into the next other slice. -/
def State.queueNr (s : State) (pc bank row : Nat) : State :=
  let q := tget (fun _ => []) s.mem.nrQ pc
  if q.length < 16 then
    s.modMem (fun m => { m with nrQ := tset (fun _ => []) m.nrQ pc (q ++ [(bank, row)]) })
  else
    let f := tget (fun _ => []) s.mem.nrFirst pc
    s.modMem (fun m => { m with
      nrQ := tset (fun _ => []) m.nrQ pc (q.drop 1 ++ [(bank, row)]),
      nrFirst := tset (fun _ => []) m.nrFirst pc (f ++ q.take 1) })

/-- PROB_LOG2 as it acts (R289). -/
def State.probLog2 (s : State) : Nat :=
  let p := s.rd DMC.RD_CTL.PROB_LOG2
  if 8 ≤ p then p else 11

/-- RD_CTL.THR as it acts (R289). -/
def State.rdThr (s : State) : Nat := max 256 (s.rd DMC.RD_CTL.THR)

/-- The entry with the lowest count, oldest first, as its index (R279). -/
def lowestIdx (es : List RdEntry) : Nat :=
  let m := es.foldl (fun m e => min m e.count) (2 ^ 16)
  es.findIdx (fun e => e.count == m)

/-- An ACT in a TL-5100 row-activation table (R279): the table after it and whether a neighbour refresh is due. -/
def rdAct (thr bank row : Nat) (es : List RdEntry) : List RdEntry × Bool :=
  let up := fun (i c : Nat) =>
    if c ≥ thr then (es.set i ⟨bank, row, 0⟩, true) else (es.set i ⟨bank, row, c⟩, false)
  match es.findIdx? (fun e => e.bank == bank && e.row == row) with
  | some i => up i ((es.getD i ⟨0, 0, 0⟩).count + 1)
  | none =>
    if es.length < 512 then (es ++ [⟨bank, row, 1⟩], false)
    else up (lowestIdx es) ((es.getD (lowestIdx es) ⟨0, 0, 0⟩).count + 1)

/-- The row-disturbance work of one ACT that serves a request (R278, R279). The drawn LFSR value is a free value. -/
def State.act (s : State) (pc bank row : Nat) : State :=
  if s.rd DMC.RD_CTL.MODE = 0 then
    let (v, s) := s.takeFree 32
    if v.toNat % 2 ^ s.probLog2 = 0 then s.queueNr pc bank row else s
  else
    let r := rdAct s.rdThr bank row (tget (fun _ => []) s.mem.rdTable pc)
    let s := s.modMem (fun m => { m with rdTable := tset (fun _ => []) m.rdTable pc r.1 })
    if r.2 then s.queueNr pc bank row else s

/-! ### Requests -/

/-- The class of a requester (R268). -/
def MemWho.cls : MemWho → MemClass
  | .prefill _ | .residual _ | .dc _ => .realTime
  | .ingest | .ring | .coil | .weft | .firmware | .window => .latency
  | .encode | .rim | .copy => .throughput
  | .scrub | .debug => .background

/-- The weave die of a Real-time requester, 0 for the others. -/
def MemWho.die : MemWho → Nat
  | .prefill d | .residual d | .dc d => d
  | _ => 0

/-- Only the DC unit of the Real-time requesters writes (R268). -/
def MemWho.mayWrite : MemWho → Bool
  | .prefill _ | .residual _ => false
  | _ => true

/-- The sizes of a class (R268). -/
def sizeOk (c : MemClass) (addr len : Nat) : Bool :=
  match c with
  | .realTime => addr % 2048 == 0 && len == 2048
  | .latency => decide (32 ≤ len) && decide (len ≤ 256)
  | _ => decide (32 ≤ len) && addr / 2048 == (addr + len - 1) / 2048

/-- A request arrives (R267, R269, R272, R286): after the seal it is held at its requester. -/
def State.memRequest (s : State) (r : MemReq) : State :=
  if hbmSize < r.addr + r.len then (s.addrError r.addr).modMem (fun m => { m with resp := .addr })
  else if s.mem.sealed then s.modMem (fun m => { m with held := m.held ++ [r] })
  else
    let r := { r with no := s.mem.reqNo, since := s.clk.now }
    let s := s.modMem (fun m => { m with reqNo := m.reqNo + 1 })
    if r.cls = .realTime then
      let pc := hbmPc r.addr
      s.modMem (fun m => { m with rtQ := tset (fun _ => []) m.rtQ pc (tget (fun _ => []) m.rtQ pc ++ [r]) })
    else s.modMem (fun m => { m with q := m.q ++ [r] })

/-- MEMORY_REQUEST (R268, R269): a request of `len` bytes at `addr` by a requester, a write of `data` when `write` is set. One of a
size its class does not have, or a write by a requester that only reads, is none the requester sends. -/
def execMemoryRequest (who : MemWho) (addr : BitVec 40) (len : BitVec 12) (write : Bool) (data : List Byte) (s : State) : Out :=
  if !sizeOk who.cls addr.toNat len.toNat || (write && !who.mayWrite) then .next s
  else .next (s.memRequest {
    no := 0, cls := who.cls, who := who, addr := addr.toNat, len := len.toNat
    write := if write then some data else none
    since := s.clk.now, head := false })

/-- The banks of a request's bursts, with their rows (R267). -/
def reqRows (r : MemReq) : List HbmLoc :=
  (((List.range ((r.addr + r.len + 31) / 32 - r.addr / 32)).map (fun i => { xlate (r.addr + 32 * i) with col := 0 }))).eraseDups

/-- The two banks of a 2 KiB block (R267). -/
def blockBanks (a : Nat) : List Nat :=
  let l := xlate (a / 2048 * 2048)
  [l.bank, l.bank + 4]

/-- A bank is free of refresh, forced refresh and neighbour refresh for a grant now (R272, R277). -/
def State.bankFree (s : State) (pc bank : Nat) : Bool :=
  let k := bankKey pc bank
  decide (tget (fun _ => 0) s.mem.refBusy k ≤ s.clk.now) && decide (tget (fun _ => 0) s.mem.nrBusy k ≤ s.clk.now) &&
  !tget (fun _ => false) s.mem.forced k

/-- The age limit of a class (R268, R289). -/
def State.ageLimit (s : State) : MemClass → Nat
  | .realTime => 0
  | .latency => max 256 (s.rd DMC.AGE_LAT.WC)
  | .throughput => max 256 (s.rd DMC.AGE_THR.WC)
  | .background => max 256 (s.rd DMC.AGE_BKG.WC)

/-- Every row of a request is open in its bank (R269). -/
def State.rowOpen (s : State) (r : MemReq) : Bool :=
  (reqRows r).all (fun l => tget (fun _ => none) s.mem.openRow (bankKey l.pc l.bank) == some l.row)

/-- Two requests share a 32-byte burst. -/
def MemReq.meets (a b : MemReq) : Bool :=
  decide (a.addr / 32 ≤ (b.addr + b.len - 1) / 32) && decide (b.addr / 32 ≤ (a.addr + a.len - 1) / 32)

/-- Request `r` would overtake `e` (R269): an earlier one of its class to the same burst, given by `same`, or, being a read, an
earlier write of the same requester. -/
def MemReq.overtakes (r e : MemReq) (same : Bool) : Bool :=
  r.meets e && (same || (r.write.isNone && e.write.isSome && e.who == r.who && decide (e.no < r.no)))

/-- The next request of a class on a pseudo-channel (R269): the head of the Latency order, then an open-row request not
older than half its limit, then the oldest; none overtakes one it must follow. -/
def State.nextOf (s : State) (pc : Nat) (c : MemClass) : Option MemReq :=
  let mine := s.mem.q.filter (fun r => hbmPc r.addr == pc)
  let cs := mine.filter (fun r => r.cls == c)
  let can := (cs.zipIdx.filter (fun ri =>
    !(cs.take ri.2).any (fun e => ri.1.overtakes e true) && !mine.any (fun e => ri.1.overtakes e false))).map (·.1)
  match can.find? (·.head) with
  | some r => some r
  | none =>
    match can.find? (fun r => s.rowOpen r && decide (2 * (s.clk.now - r.since) ≤ s.ageLimit c)) with
    | some r => some r
    | none => can.head?

/-- The Latency request that the running Real-time slice of a pseudo-channel is lent to (R271). -/
def State.lentReq (s : State) (pc : Nat) : Option MemReq :=
  match tget (fun _ => none) s.mem.lent pc with
  | some (n, t) => if s.clk.now < t ∧ t ≤ s.clk.now + 128 then s.mem.q.find? (fun r => r.no == n) else none
  | none => none

/-- The request the controller serves next on a pseudo-channel (R269, R271, R278): in a Real-time slice only one that it is lent to,
in a maintenance slice none, in another slice Latency, then Throughput, then Background, after a neighbour refresh pushed out of its
queue. During the drain only Latency requests are granted (R286). -/
def State.nextReq (s : State) (pc : Nat) : Option MemReq :=
  match s.sliceKindNow with
  | .maint => none
  | .realTime => s.lentReq pc
  | .other =>
    if tget (fun _ => []) s.mem.nrFirst pc ≠ [] then none
    else match s.nextOf pc .latency with
    | some r => some r
    | none =>
      if s.rd DMC.SR_STS.STATE = 1 then none
      else match s.nextOf pc .throughput with
        | some r => some r
        | none => s.nextOf pc .background

/-- Opening the rows of a request outside the Real-time class (R269, R278). -/
def State.openFor (s : State) (r : MemReq) : State :=
  s.each (reqRows r) (fun s l =>
    let k := bankKey l.pc l.bank
    if tget (fun _ => none) s.mem.openRow k = some l.row then s
    else (s.act l.pc l.bank l.row).modMem (fun m => { m with openRow := tset (fun _ => none) m.openRow k (some l.row) }))

/-- Blocks that one interposer link carries in one direction in a round: 8,192 bits a weave cycle (R17). -/
def linkBlocks : Nat := 16384

/-- The link that a block uses: the weave die, reads and writes apart (R17). -/
def linkKey (r : MemReq) : Nat := r.who.die + (if r.write.isSome then 2 else 0)

/-- A Real-time block is granted (R272): its banks open its row and are held for 224 wc. -/
def State.rtGrant (s : State) (pc : Nat) (r : MemReq) : State :=
  let k := linkKey r
  let s := s.modMem (fun m => { m with
    rtQ := tset (fun _ => []) m.rtQ pc ((tget (fun _ => []) m.rtQ pc).erase r),
    rtOut := tset (fun _ => []) m.rtOut pc (tget (fun _ => []) m.rtOut pc ++ [{ r with since := s.clk.now }]),
    linkUse := tset (fun _ => 0) m.linkUse k (tget (fun _ => 0) m.linkUse k + 1) })
  let s := s.each (blockBanks r.addr) (fun s b =>
    let s := s.act pc b (xlate r.addr).row
    s.modMem (fun m => { m with
      openRow := tset (fun _ => none) m.openRow (bankKey pc b) none,
      rtBusy := tset (fun _ => 0) m.rtBusy (bankKey pc b) (s.clk.now + 224) }))
  s.bump DMC.STAT_RT

/-- A Real-time slice without an eligible block (R271): its bus time goes to the oldest Latency request that uses neither bank of
the next Real-time grant. Any Latency request ends within the slice, being at most 256 bytes. -/
def State.lend (s : State) (pc : Nat) : State :=
  let next := match tget (fun _ => []) s.mem.rtQ pc with | r :: _ => blockBanks r.addr | [] => []
  match s.mem.q.find? (fun r => r.cls == .latency && hbmPc r.addr == pc && (reqRows r).all (fun l => !next.contains l.bank)) with
  | some r => s.modMem (fun m => { m with lent := tset (fun _ => none) m.lent pc (some (r.no, s.clk.now + 192)) })
  | none => s

/-- The count of blocks on the links starts anew with each round. -/
def State.linkTurn (s : State) (round : Nat) : State :=
  if s.mem.linkRound = round then s else s.modMem (fun m => { m with linkRound := round, linkUse := [] })

/-- A block of a pseudo-channel's queue of 32 can be granted now: its two banks are free, and its die's link has room in this round
(R272, R17). -/
def State.eligible (s : State) (pc : Nat) (r : MemReq) : Bool :=
  (blockBanks r.addr).all (fun b => s.bankFree pc b) && decide (tget (fun _ => 0) s.mem.linkUse (linkKey r) < linkBlocks)

/-- REALTIME_GRANT (R272, R271, R17): 64 wc before a Real-time slice the oldest block of the pseudo-channel that can be granted runs;
with none the slice is lent. -/
def execRealtimeGrant (pc : Fin 128) (s : State) : Out :=
  let t := s.calTime + 64
  if s.mem.sealed || t % 128 != 0 || s.kindAt t != .realTime then .next s
  else
    let s := s.linkTurn (s.mem.calRound + t / 32768)
    match ((tget (fun _ => []) s.mem.rtQ pc).take 32).find? (s.eligible pc) with
    | some r => .next (s.rtGrant pc r)
    | none => .next (s.lend pc)

/-- The bytes a read response carries. -/
def State.readBytes (s : State) (r : MemReq) : List Byte := s.hbmRd r.addr r.len

/-- What the check of a read finds, given that of burst `burst` of the request (R280): a stored uncorrectable burst comes first; the
address of the burst. -/
def State.readRes (s : State) (r : MemReq) (burst : Nat) (res : EccRes) : EccRes × Nat :=
  match s.firstBad r.addr r.len with
  | some k => (.uncorrectable, 32 * k)
  | none =>
    let a := r.addr / 32 * 32 + 32 * burst
    (if a < r.addr + r.len then res else .clean, a)

/-- The data of a read are returned. -/
def State.returnData (s : State) (r : MemReq) : State := s.modMem (fun m => { m with resp := .data (s.readBytes r) })

/-- A served request outside the Real-time class (R280): a write lands; a read is checked, and an uncorrectable one is retried once
in the same class after 64 wc. -/
def State.serve (s : State) (r : MemReq) (burst : Nat) (res : EccRes) : State :=
  let s := (s.openFor r).modMem (fun m => { m with q := m.q.erase r })
  match r.write with
  | some bs => s.hbmWr r.addr bs
  | none => match s.readRes r burst res with
    | (.clean, _) => s.returnData r
    | (.corrected, a) => (s.corrected a).returnData r
    | (.uncorrectable, _) => s.modMem (fun m => { m with retry := m.retry ++ [{ r with since := s.clk.now + 64 }] })

/-- A granted Real-time block ends (R272, R280): a write lands; a read is delivered, never retried, each uncorrectable burst
marked. -/
def State.rtDone (s : State) (pc : Nat) (r : MemReq) (burst : Nat) (res : EccRes) : State :=
  let s := s.modMem (fun m => { m with rtOut := tset (fun _ => []) m.rtOut pc ((tget (fun _ => []) m.rtOut pc).erase r) })
  match r.write with
  | some bs => s.hbmWr r.addr bs
  | none =>
    let k := r.addr / 32 + burst
    let stored := s.badBursts [(r.addr, r.len)]
    let bad := if res = .uncorrectable ∧ !stored.contains k then stored ++ [k] else stored
    let s := if res = .corrected ∧ !stored.contains k then s.corrected (32 * k) else s
    let s := s.modMem (fun m => { m with rtGot := some { who := r.who, addr := r.addr, bytes := s.readBytes r, bad := bad } })
    s.each bad (fun s k => s.uncorrectable (32 * k) .realTime)

/-- The error pattern of a burst as its check finds it. -/
def eccOf (errs : List (Fin 36 × BitVec 8)) : EccRes := eccCheck (errs.map (fun e => (e.1.val, e.2.toNat)))

/-- MEMORY_RESPONSE (R272, R280): a request of the pseudo-channel is served. `rt` names its oldest granted Real-time block, at the
block's end, else the request R269 serves next; `errs` is the error pattern of burst `burst`. -/
def execMemoryResponse (pc : Fin 128) (rt : Bool) (burst : Fin 64) (errs : List (Fin 36 × BitVec 8)) (s : State) : Out :=
  if rt then
    match tget (fun _ => []) s.mem.rtOut pc with
    | [] => .next s
    | r :: _ =>
      if s.clk.now < r.since + (if r.write.isSome then 208 else 218) then .next s
      else .next (s.rtDone pc r burst (eccOf errs))
  else if s.mem.sealed then .next s
  else
    match s.nextReq pc with
    | none => .next s
    | some r => .next (s.serve r burst (eccOf errs))

/-- A retried read ends (R280): a clean retry returns the data and counts as corrected, a failed one returns the UNCORR error. -/
def State.retryDone (s : State) (r : MemReq) (burst : Nat) (res : EccRes) : State :=
  let s := s.modMem (fun m => { m with retry := m.retry.erase r })
  match s.readRes r burst res with
  | (.uncorrectable, a) => (s.uncorrectable a r.cls).modMem (fun m => { m with resp := .uncorr })
  | (_, a) => (s.corrected a).returnData r

/-- ECC_RETRY (R280): the oldest waiting read runs again, 64 wc after its first run. -/
def execEccRetry (burst : Fin 64) (errs : List (Fin 36 × BitVec 8)) (s : State) : Out :=
  match s.mem.retry with
  | [] => .next s
  | r :: _ => if s.clk.now < r.since then .next s else .next (s.retryDone r burst (eccOf errs))

/-- The request one class up, with its age counting anew (R269); a Latency request goes to the head. -/
def promote (now : Nat) (r : MemReq) : MemReq :=
  match r.cls with
  | .background => { r with cls := .throughput, since := now }
  | .throughput => { r with cls := .latency, since := now }
  | .latency => { r with head := true }
  | .realTime => r

/-- AGE_PROMOTION (R269): queued request `k` has reached its age limit. In its new class it is the youngest. -/
def execAgePromotion (k : BitVec 16) (s : State) : Out :=
  match s.mem.q[k.toNat]? with
  | none => .next s
  | some r =>
    if r.head || decide (s.clk.now < r.since + s.ageLimit r.cls) then .next s
    else
      let r' := promote s.clk.now r
      let q := if r.cls = .latency then s.mem.q.set k.toNat r' else s.mem.q.eraseIdx k.toNat ++ [r']
      .next ((s.modMem (fun m => { m with q := q })).bump DMC.STAT_PROMO)

/-! ### Refresh (R276-R278) -/

/-- The refresh rotation of a pseudo-channel (R276). -/
def State.rotation (s : State) (pc : Nat) : List Nat := tget (fun _ => List.range 48) s.mem.refOrder pc

/-- A queued Real-time block needs a bank. -/
def State.bankNeeded (s : State) (pc bank : Nat) : Bool :=
  (tget (fun _ => []) s.mem.rtQ pc).any (fun r => (blockBanks r.addr).contains bank)

/-- A per-bank refresh: 384 wc from now, or from the end of the Real-time block or neighbour refresh that holds the bank; the bank
is then last in the rotation (R276, R277). -/
def State.refreshBank (s : State) (pc bank : Nat) : State :=
  let k := bankKey pc bank
  let at_ := max s.clk.now (max (tget (fun _ => 0) s.mem.rtBusy k) (tget (fun _ => 0) s.mem.nrBusy k))
  s.modMem (fun m => { m with
    refOrder := tset (fun _ => List.range 48) m.refOrder pc ((s.rotation pc).erase bank ++ [bank]),
    refBusy := tset (fun _ => 0) m.refBusy k (at_ + 384),
    openRow := tset (fun _ => none) m.openRow k none,
    postponed := tset (fun _ => 0) m.postponed k 0,
    forced := tset (fun _ => false) m.forced k false })

/-- A bank's refresh is postponed (R276, R277): it stays next in the rotation; the eighth time makes it forced. -/
def State.postpone (s : State) (pc bank : Nat) : State :=
  let k := bankKey pc bank
  let n := min 8 (tget (fun _ => 0) s.mem.postponed k + 1)
  s.modMem (fun m => { m with
    postponed := tset (fun _ => 0) m.postponed k n,
    postMaxNow := max m.postMaxNow n,
    forced := if n = 8 then tset (fun _ => false) m.forced k true else m.forced })

/-- BANK_REFRESH (R276, R277): the first bank in the rotation that no queued Real-time block needs is refreshed; those skipped
before it are postponed. Where every bank is needed, none can be skipped. A bank whose forced refresh is due waits for that. -/
def execBankRefresh (pc : Fin 128) (s : State) : Out :=
  if s.mem.sealed then .next s
  else
    let order := (s.rotation pc).filter (fun b => !tget (fun _ => false) s.mem.forced (bankKey pc b))
    match order.find? (fun b => !s.bankNeeded pc b) with
    | some b => .next ((s.each (order.takeWhile (s.bankNeeded pc)) (fun s k => s.postpone pc k)).refreshBank pc b)
    | none => match order with
      | b :: _ => .next (s.refreshBank pc b)
      | [] => .next s

/-- REFRESH_FORCED (R277): at the next slice boundary a bank postponed 8 times is refreshed. -/
def execRefreshForced (pc : Fin 128) (bank : Fin 48) (s : State) : Out :=
  if !s.mem.sealed && s.calTime % 128 == 0 && tget (fun _ => false) s.mem.forced (bankKey pc bank) then
    .next (((s.refreshBank pc bank).event DMC.PAGE 3).logc DMC.PAGE 0x84 (s.rd DMC.REF_STS) (bankKey pc bank))
  else .next s

/-- The rows a neighbour refresh of row `r` activates: r - 1 and r + 1 where they exist (R278). -/
def nrRows (r : Nat) : List Nat := (if r = 0 then [] else [r - 1]) ++ (if r < 16383 then [r + 1] else [])

/-- A neighbour refresh runs: its ACT and PRE pairs close the bank's row and hold the bank until the slice ends. Its ACTs draw no
value (R278). -/
def State.nrRun (s : State) (pc : Nat) (e : Nat × Nat) : State :=
  let k := bankKey pc e.1
  (s.modMem (fun m => { m with
    openRow := tset (fun _ => none) m.openRow k none,
    nrBusy := tset (fun _ => 0) m.nrBusy k (s.clk.now + 128 - s.calTime % 128),
    nrLast := tset (fun _ => (0, [])) m.nrLast pc (e.1, nrRows e.2) })).bump DMC.STAT_NR

/-- NEIGHBOUR_REFRESH (R278): the entry pushed out of a full queue, else the oldest queued one, runs, once its bank is free; never in
a Real-time slice, and, not pushed out, in another slice only in bank time that no Real-time block needs. -/
def execNeighbourRefresh (pc : Fin 128) (s : State) : Out :=
  let idle (b : Nat) : Bool :=
    decide (tget (fun _ => 0) s.mem.rtBusy (bankKey pc b) ≤ s.clk.now) &&
    decide (tget (fun _ => 0) s.mem.refBusy (bankKey pc b) ≤ s.clk.now)
  if s.mem.sealed || s.sliceKindNow == .realTime then .next s
  else match tget (fun _ => []) s.mem.nrFirst pc, tget (fun _ => []) s.mem.nrQ pc with
  | e :: t, _ =>
    if idle e.1 then .next ((s.modMem (fun m => { m with nrFirst := tset (fun _ => []) m.nrFirst pc t })).nrRun pc e) else .next s
  | [], e :: t =>
    if idle e.1 && (s.sliceKindNow == .maint || !s.bankNeeded pc e.1) then
      .next ((s.modMem (fun m => { m with nrQ := tset (fun _ => []) m.nrQ pc t })).nrRun pc e)
    else .next s
  | [], [] => .next s

/-- RD_TABLE_CLEAR (R279): every 32 ms every row-activation table is cleared. -/
def execRdTableClear (s : State) : Out := .next (s.modMem (fun m => { m with rdTable := [] }))

/-- ROUND_BOUNDARY (R275): a pending SLICES value takes effect once line 0 has started; a pending REF_CTL takes effect
(R290). -/
def execRoundBoundary (s : State) : Out :=
  if s.mem.sealed || s.calTime % 32768 != 0 then .next s
  else
  let s := s.latch DMC.REF_CTL
  match s.mem.sliceNext with
  | some v =>
    if s.mem.sliceLine0 then
      let s := s.modMem (fun m => { m with sliceNext := none, sliceLine0 := false })
      let s := s.wrEff DMC.RT_CTL.SLICES v
      .next ((s.wrB DMC.RT_CTL.PENDING false).wr DMC.RT_STS.CUR v)
    else .next s
  | none => .next s

/-! ### Scrub (R282) -/

/-- Hot-throttle makes patrol scrub wait (R420). -/
def State.hotThrottle (s : State) : Bool :=
  (List.range 7).any (fun z => [3, 4].contains (s.rd THM.ZONE_STS.LEVEL 0 z))

/-- SCRUB_READ (R282): the next block in the Background class, checked and, when uncorrectable, retried as any such read (R280).
`errs` is the error pattern of burst `burst`. The write-back of a corrected burst leaves its data as they are, so it changes
nothing here, skipped or not. -/
def execScrubRead (burst : Fin 64) (errs : List (Fin 36 × BitVec 8)) (s : State) : Out :=
  if !s.rdB DMC.SCRUB_CTL.ENA || s.mem.sealed || s.hotThrottle then .next s
  else
    let k := s.rd DMC.SCRUB_STS.BLOCK
    let s := s.serve {
      no := s.mem.reqNo, cls := .background, who := .scrub, addr := blockAddr s.mem.scrubPc k, len := 2048
      write := none, since := s.clk.now, head := false } burst (eccOf errs)
    let s := s.modMem (fun m => { m with reqNo := m.reqNo + 1 })
    if s.mem.scrubPc < 127 then .next (s.modMem (fun m => { m with scrubPc := m.scrubPc + 1 }))
    else
      let s := s.modMem (fun m => { m with scrubPc := 0 })
      if k + 1 < 393216 then .next (s.wr DMC.SCRUB_STS.BLOCK (k + 1))
      else .next (((s.wr DMC.SCRUB_STS.BLOCK 0).bump DMC.SCRUB_STS.PASSES).count 7 1)

/-- COR_RATE_CHECK (R282): at the end of an hour a pseudo-channel above COR_THR raises COR_RATE; its count starts anew. -/
def execCorRateCheck (pc : Fin 128) (s : State) : Out :=
  let n := tget (fun _ => 0) s.mem.corHour pc
  let s := s.modMem (fun m => { m with corHour := tset (fun _ => 0) m.corHour pc 0 })
  if n > s.rd DMC.COR_THR.COUNT then .next ((s.event DMC.PAGE 1).logc DMC.PAGE 0x81 pc n) else .next s

/-! ### Self-refresh (R286, R287) -/

/-- A request to enter self-refresh with its cause (R286): the drain begins; during an exit it waits for the exit's end. -/
def State.selfRefresh (s : State) (cause : Nat) : State :=
  if s.rd DMC.SR_STS.STATE = 0 then (s.wr DMC.SR_STS.STATE 1).wr DMC.SR_STS.CAUSE cause
  else if s.rd DMC.SR_STS.STATE = 3 then
    (s.wr DMC.SR_STS.CAUSE cause).modMem (fun m => { m with srAgain := true })
  else if cause = 1 then s.wr DMC.SR_STS.CAUSE 1
  else s

/-- SELF_REFRESH_ENTRY (R286): power-fail warning 1, Shutter 2, warm reset 3, Thermal-stop 4. -/
def execSelfRefreshEntry (cause : Fin 4) (s : State) : Out := .next (s.selfRefresh (cause.val + 1))

/-- The drain (R286): every queued Real-time block is granted and ends, every queued Latency request is served, and every read that
waits for its retry is retried. -/
def State.memDrain (s : State) : State :=
  let s := s.each (s.mem.rtQ.flatMap (fun kq => kq.2.map (fun r => (kq.1, r)))) (fun s kr => s.rtGrant kr.1 kr.2)
  let s := s.each (s.mem.rtOut.flatMap (fun kq => kq.2.map (fun r => (kq.1, r)))) (fun s kr => s.rtDone kr.1 kr.2 0 .clean)
  let s := s.each (s.mem.q.filter (fun r => r.cls == .latency)) (fun s r => s.serve r 0 .clean)
  s.each s.mem.retry (fun s r => s.retryDone r 0 .clean)

/-- The seal itself (R286): the drain is complete; Throughput and Background requests are held; the calendar stops and every
pseudo-channel, precharged, is in self-refresh. -/
def State.seal (s : State) : State :=
  let s := s.memDrain
  let s := s.modMem (fun m => { m with
    held := m.held ++ m.q, q := [], lent := [], openRow := [], sealed := true, calStop := s.clk.now })
  (s.wr DMC.SR_STS.STATE 2).event DMC.PAGE 6

/-- SELF_REFRESH_SEAL (R286). -/
def execSelfRefreshSeal (s : State) : Out :=
  if s.rd DMC.SR_STS.STATE = 1 then .next s.seal else .next s

/-- Leaving self-refresh (R287): the calendar restarts at a round boundary, and the requests held arrive. -/
def State.srExit (s : State) : State :=
  let held := s.mem.held
  let s := s.modMem (fun m => { m with
    sealed := false, held := [], calRound := s.roundCount + 1, calBase := s.clk.now, refBusy := [], rtBusy := [], nrBusy := [] })
  let s := s.each held State.memRequest
  (s.wr DMC.SR_STS.STATE 0).wr DMC.SR_STS.CAUSE 0

/-! ### Register writes (R275, R279, R290) -/

/-- RD_CTL (R279, R290): PROB_LOG2 and THR take effect at once; MODE changes only in the Sill power state, and outside it a
changed MODE is ignored with code 0x8B. -/
def wrRdCtl (path : Path) (v : Nat) (s : State) : WrRes :=
  let mode := bits v 0 0
  let s' := (s.wr DMC.RD_CTL.PROB_LOG2 (bits v 7 4)).wr DMC.RD_CTL.THR (bits v 31 16)
  if s.mode.power = .sill then okW (s'.wr DMC.RD_CTL.MODE mode)
  else if mode = s.rd DMC.RD_CTL.MODE then okW s'
  else ignCode DMC.PAGE 0x8B (wrArg0 path DMC.PAGE 0x114) v s'

/-- The word XLATE_OUT shows for an address (R266, R289). -/
def xlateWord (a : Nat) : Nat :=
  if a < hbmSize then
    let l := xlate a
    l.col % 32 + l.bank % 64 * 2 ^ 5 + l.row % 2 ^ 14 * 2 ^ 11 + l.pc % 128 * 2 ^ 25
  else 0xFFFFFFFF

/-- XLATE_LO or XLATE_HI (R290): XLATE_OUT follows. -/
def wrXlate (off v : Nat) (s : State) : WrRes :=
  let s := s.plainWrite DMC.PAGE off 0 v
  okW (s.wr DMC.XLATE_OUT (xlateWord (s.addr37 DMC.XLATE_LO DMC.XLATE_HI)))

/-- RT_CTL (R275): SLICES outside 64 to 160 is ignored with code 0x83; a legal value waits for its boundary, in the place
of an earlier one that waits. -/
def wrRtCtl (path : Path) (v : Nat) (s : State) : WrRes :=
  let n := bits v 7 0
  if 64 ≤ n ∧ n ≤ 160 then
    okW (((s.wr DMC.RT_CTL.SLICES n).wrB DMC.RT_CTL.PENDING true).modMem
      (fun m => { m with sliceNext := some n, sliceLine0 := false, sliceNew := true }))
  else ignCode DMC.PAGE 0x83 (wrArg0 path DMC.PAGE 0x100) v s

/-! ### Trims (R284, R287) -/

/-- A pseudo-channel's trims. -/
def State.trimsOf (s : State) (pc : Nat) : List Int := tget (fun _ => [0, 0, 0]) s.mem.trims pc

/-- At most one trim of a pseudo-channel moves by one step (R284): which one, and where, is what is measured. One at the end of its
range stays, with code 0x87, and a retrain is scheduled. -/
def State.hbmTrim (s : State) (pc : Nat) : State :=
  let (v, s) := s.takeFree 8
  let k := v.toNat / 4 % 3
  let way : Int := if v.toNat % 4 = 1 then 1 else if v.toNat % 4 = 2 then -1 else 0
  let new := (s.trimsOf pc).getD k 0 + way
  if way = 0 then s
  else if Sys2Proof.Config.hbmRange k < new.natAbs then
    (s.modMem (fun m => { m with retrain := true })).logc DMC.PAGE 0x87 (s.rd DMC.TRAIN_STS) pc
  else s.modMem (fun m => { m with
    trims := tset (fun _ => [0, 0, 0]) m.trims pc ((tget (fun _ => [0, 0, 0]) m.trims pc).set k new) })

/-- The step of every pseudo-channel. -/
def State.hbmStep (s : State) : State := s.each (List.range 128) State.hbmTrim

/-- The HBM group's step in the vertical blanking of a frame, while it runs (R284, R424). -/
def State.hbmTrims (s : State) : State := if bit (s.rd CLB.STS.RUNNING) 1 then s.hbmStep else s

end Sys2Proof.Machine
end

