-- ==== Sys2Proof/Machine/Plait.lean ====
section
/-! DEFINITION. The Plait surface format (R126-R129, R491): length codes, block decoding, well-formedness, the canonical
encoder and the slot of a fill (R80). -/

namespace Sys2Proof.Machine

/-- Bytes of a tile slot (R126). -/
def plaitSlotBytes : Nat := 16448

/-- Channel widths A, R, G, B of a Plait format (R127). -/
def plaitWidths (fmt : Nat) : List Nat := if fmt = 0x11 then [2, 10, 10, 10] else [8, 8, 8, 8]

/-- A pixel value from its channels A, R, G, B (R127). -/
def plaitPixel (fmt : Nat) (ch : List Nat) : Nat :=
  if fmt = 0x11 then ch.getD 0 0 * 2 ^ 30 + ch.getD 1 0 * 2 ^ 20 + ch.getD 2 0 * 2 ^ 10 + ch.getD 3 0
  else ch.getD 0 0 * 2 ^ 24 + ch.getD 1 0 * 2 ^ 16 + ch.getD 2 0 * 2 ^ 8 + ch.getD 3 0

/-- The channels A, R, G, B of a pixel value (R127). -/
def plaitChans (fmt px : Nat) : List Nat :=
  if fmt = 0x11 then [bits px 31 30, bits px 29 20, bits px 19 10, bits px 9 0]
  else [bits px 31 24, bits px 23 16, bits px 15 8, bits px 7 0]

/-- A residual from its zig-zag code (R128). -/
def unzig (u : Nat) : Int := if u % 2 = 1 then -((u + 1) / 2 : Nat) else (u / 2 : Nat)

/-- The zig-zag code of a residual (R129). -/
def zig (r : Int) : Nat := if r < 0 then (-2 * r - 1).toNat else (2 * r).toNat

/-- The residuals of pixel `i` (R128): channel widths `W`, read from bit `k` of `v`, least significant first. -/
def plaitResid (bc W pred : List Nat) (v k : Nat) : List Nat × Nat :=
  (List.range 4).foldl (fun (acc : List Nat × Nat) c =>
    let u := v / 2 ^ acc.2 % 2 ^ W.getD c 0
    let p := ((pred.getD c 0 : Nat) + unzig u) % (2 ^ bc.getD c 0 : Nat)
    (acc.1 ++ [p.toNat], acc.2 + W.getD c 0)) ([], k)

/-- Pixels 1 to 63 of a coded block, given those before (R128). -/
def plaitRun (bc W : List Nat) (v : Nat) : (n i k : Nat) → List (List Nat) → List (List Nat)
  | 0, _, _, ps => ps
  | n + 1, i, k, ps =>
    let pred := ps.getD (if i % 16 = 0 then i - 16 else i - 1) []
    let r := plaitResid bc W pred v k
    plaitRun bc W v n (i + 1) r.2 (ps ++ [r.1])

/-- The widths W of a coded block (R128). -/
def plaitW (v : Nat) : List Nat := (List.range 4).map (fun c => v / 2 ^ (4 * c) % 16)

/-- The coded length in bits (R128). -/
def plaitBits (W : List Nat) : Nat := 48 + 63 * W.foldl (· + ·) 0

/-- The 64 pixels of a coded block (R128). -/
def plaitCoded (fmt v : Nat) : List Nat :=
  let bc := plaitWidths fmt
  let W := plaitW v
  let p0 := (List.range 4).foldl (fun (acc : List Nat × Nat) c =>
    (acc.1 ++ [v / 2 ^ acc.2 % 2 ^ bc.getD c 0], acc.2 + bc.getD c 0)) ([], 16)
  (plaitRun bc W v 63 1 p0.2 [p0.1]).map (plaitPixel fmt)

/-- A legal length code (R126). -/
def plaitCodeOk (lc : Nat) : Bool :=
  let m := lc / 64
  let u := lc % 16
  bits lc 5 4 == 0 && ((m == 0 && decide (1 ≤ u) && decide (u ≤ 8)) || (m == 1 && u == 8) || (m == 2 && u == 1))

/-- Well-formedness of one block (R129): its length code and its 256-byte block space. -/
def plaitBlockOk (fmt lc : Nat) (blk : List Byte) : Bool :=
  plaitCodeOk lc &&
  (if lc / 64 = 2 then (slice blk 4 28).all (· == 0)
   else if lc / 64 = 0 then
     let v := leNat (blk.take (32 * (lc % 16)))
     let W := plaitW v
     ((W.zip (plaitWidths fmt)).all (fun p => decide (p.1 ≤ p.2))) &&
     (lc % 16 == (plaitBits W + 255) / 256) && decide (v < 2 ^ plaitBits W)
   else true)

/-- The 64 pixels of a well-formed block, row-major (R127, R128); `none` when it is not well formed. -/
def plaitDecode (fmt lc : Nat) (blk : List Byte) : Option (List Nat) :=
  if !plaitBlockOk fmt lc blk then none
  else if lc / 64 = 2 then some (List.replicate 64 (leAt blk 0 4))
  else if lc / 64 = 1 then some ((List.range 64).map (fun i => leAt blk (4 * i) 4))
  else some (plaitCoded fmt (leNat (blk.take (32 * (lc % 16)))))

/-- Well-formedness of a whole slot (R129). -/
def plaitSlotOk (fmt : Nat) (slot : List Byte) : Bool :=
  slot.length == plaitSlotBytes &&
  (List.range 64).all (fun b => plaitBlockOk fmt (leAt slot b 1) (slice slot (64 + 256 * b) 256))

/-- The slot of a fill (R80): 64 constant blocks of one colour. -/
def plaitFill (colour : Nat) : List Byte :=
  List.replicate 64 0x81 ++ (List.replicate 64 (leBytes 4 colour ++ zeros 252)).flatten

/-- The residual of a channel in range, modulo 2^bc (R129). -/
def plaitDiff (bc p pred : Nat) : Int := sgn bc (p + 2 ^ bc - pred % 2 ^ bc)

/-- Bits needed for a value. -/
def bitLen (n : Nat) : Nat := if n = 0 then 0 else Nat.log2 n + 1

/-- The canonical encoding of 64 pixels (R129): length code and block bytes of the declared units. -/
def plaitEncode (fmt : Nat) (px : List Nat) : Nat × List Byte :=
  if px.all (· == px.headD 0) then (0x81, leBytes 4 (px.headD 0) ++ zeros 28)
  else
    let bc := plaitWidths fmt
    let ch := px.map (plaitChans fmt)
    let resid (i c : Nat) : Nat :=
      zig (plaitDiff (bc.getD c 0) ((ch.getD i []).getD c 0) ((ch.getD (if i % 16 = 0 then i - 16 else i - 1) []).getD c 0))
    let W := (List.range 4).map (fun c => (List.range 63).foldl (fun m i => max m (bitLen (resid (i + 1) c))) 0)
    if plaitBits W > 2048 then (0x48, px.flatMap (leBytes 4))
    else
      let head := (List.range 4).foldl (fun (acc : Nat × Nat) c => (acc.1 + W.getD c 0 * 2 ^ acc.2, acc.2 + 4)) (0, 0)
      let p0 := (List.range 4).foldl (fun (acc : Nat × Nat) c =>
        (acc.1 + (ch.getD 0 []).getD c 0 * 2 ^ acc.2, acc.2 + bc.getD c 0)) head
      let all := (List.range 63).foldl (fun (acc : Nat × Nat) i =>
        (List.range 4).foldl (fun (a : Nat × Nat) c => (a.1 + resid (i + 1) c * 2 ^ a.2, a.2 + W.getD c 0)) acc) p0
      let units := (plaitBits W + 255) / 256
      (units, leBytes (32 * units) all.1)

end Sys2Proof.Machine
end

