-- ==== Sys2Proof/Machine/Ingest.lean ====
section
/-! DEFINITION. Scene transport (chapter 4): landing of packets, the checks of R88, staging, the ingest writer, commits and
edit sets. -/

namespace Sys2Proof.Machine

/-! ### Rings and landing (R77, R83-R85) -/

/-- The packets and place of a ring. -/
def State.ringQ (s : State) (ring : Nat) : RingQ := tget (fun _ => RingQ.empty) s.scene.ringQ ring

/-- Store a ring's packets and place. -/
def State.setRingQ (s : State) (ring : Nat) (q : RingQ) : State :=
  s.modScene (fun c => { c with ringQ := tset (fun _ => RingQ.empty) c.ringQ ring q })

/-- Entries in use (RING_FILL). -/
def RingQ.fill (q : RingQ) : Nat := q.pkts.foldl (fun a p => a + p.2) 0

/-- Entries a packet of `n` bytes occupies (R84). -/
def ringEntries (n : Nat) : Nat := (16 + n + 63) / 64

/-- Write one 64-byte entry of a ring. -/
def State.putEntryBytes (s : State) (q : RingQ) (k : Nat) (bs : List Byte) : State :=
  let a := q.base + 64 * (k % q.size)
  if q.inHbm then s.hbmWr a bs else s.sramWr a bs

/-- Read one 64-byte entry of a ring. -/
def State.getEntryBytes (s : State) (q : RingQ) (k : Nat) : List Byte :=
  let a := q.base + 64 * (k % q.size)
  if q.inHbm then s.hbmRd a 64 else s.sramRd a 64

/-- The landing record and the packet as `n` whole entries, the tail 0 (R84). `port` is the PORT byte. -/
def landBytes (beam port n : Nat) (bytes : List Byte) : List Byte :=
  let b := leBytes 8 beam ++ leBytes 1 port ++ [0] ++ leBytes 2 n ++ leBytes 4 bytes.length ++ bytes
  b ++ zeros (64 * n - b.length)

/-- Write `n` entries from entry `k`. -/
def State.putEntries (s : State) (q : RingQ) : (n k : Nat) → List Byte → State
  | 0, _, _ => s
  | n + 1, k, bs => (s.putEntryBytes q k (bs.take 64)).putEntries q n (k + 1) (bs.drop 64)

/-- Landing by R85 of a packet whose PORT byte is `port` and whose last byte arrived at the beam stamp `beam`: a landed
packet, a full ring's DROP or LAND_DROP. -/
def State.landIn (s : State) (beam port : Nat) (bytes : List Byte) : State :=
  let ver := bits (beAt bytes 2 1) 7 4
  let ring := beAt bytes 4 2
  let q := s.ringQ ring
  let n := ringEntries bytes.length
  if bytes.length < 6 ∨ beAt bytes 0 2 ≠ 0x5453 ∨ !(ver == 2 || (ver == 1 && s.rdB ING.T5_CTL.ENA)) ∨
      !s.rdB ING.RING_CFG.ENA 0 ring then s.bump ING.LAND_DROP
  else if q.fill + n > q.size then s.bump ING.RING_DROP.DROP 1 0 ring
  else
    let s := s.putEntries q n q.tail (landBytes beam port n bytes)
    s.setRingQ ring { q with tail := (q.tail + n) % q.size, pkts := q.pkts ++ [(q.tail, n)] }

/-- Bytes held in the landing buffer (R288). -/
def State.landHeld (s : State) : Nat := s.mem.landHold.foldl (fun a h => a + 64 * ringEntries h.bytes.length) 0

/-- A packet arrives (R85, R288): one for a ring in HBM during self-refresh waits in the 256 KiB landing buffer. -/
def State.land (s : State) (port : Nat) (bytes : List Byte) : State :=
  let ring := beAt bytes 4 2
  if s.rdB ING.RING_CFG.ENA 0 ring && (s.ringQ ring).inHbm && s.mem.sealed then
    if s.landHeld + 64 * ringEntries bytes.length ≤ 262144 then
      s.modMem (fun m => { m with landHold := m.landHold ++ [⟨s.stamp, ring, port, bytes⟩] })
    else s.bump ING.LAND_DROP
  else s.landIn s.stamp port bytes

/-- PACKET_LAND (R77, R85): a datagram or Tile message with its bytes arrives. IP fragments, a datagram with a failed UDP
checksum, and one without a checksum over IPv6 are dropped and counted; a datagram to another UDP port is no TST packet. -/
def State.packetLand (s : State) (via : Arrival) (bytes : List Byte) : State :=
  if s.mode.sec = .quarantined then s
  else match via with
  | .ethernet port udp fragment v6 sum =>
    if udp.toNat ≠ s.rd ING.UDP_PORT.PORT then s
    else if fragment || sum == .bad || (sum == .zero && v6) then s.bump ING.LAND_DROP
    else s.land port.toNat bytes
  | .flexCalnar port => s.land (port.toNat + 32) bytes
  | .fabric port => s.land (port.toNat + 64) bytes

/-! ### Packets (R78, R79, R102) -/

/-- A packet as the engine reads it. A TL-5100 packet has the fields R102 gives it. -/
structure Pkt where
  raw : List Byte
  path : Nat
  ver : Nat
  type : Nat
  flags : Nat
  plen : Nat
  tile : Nat
  seq : Nat
  stamp : Nat
  maxAge : Nat
  source : Nat
  keyslot : Nat
  fragIdx : Nat
  fragLast : Nat
  stream : Nat
  total : Nat
  zerosOk : Bool
  deriving DecidableEq, Repr

/-- FLAGS.TAG. -/
def Pkt.tag (p : Pkt) : Bool := bit p.flags 0
/-- FLAGS.ASAP. -/
def Pkt.asap (p : Pkt) : Bool := bit p.flags 1
/-- FLAGS.STRICT. -/
def Pkt.strict (p : Pkt) : Bool := bit p.flags 2
/-- FLAGS.ENC. -/
def Pkt.enc (p : Pkt) : Nat := bits p.flags 4 3

/-- The header length. -/
def Pkt.head (p : Pkt) : Nat := if p.ver = 1 then 32 else 48

/-- The payload. -/
def Pkt.payload (p : Pkt) : List Byte := slice p.raw p.head p.plen

/-- A TL-5100 packet (R102): TILE16 mapped to a handle, treated as an untagged stand-alone Coil TILE packet. -/
def pktT5 (base path : Nat) (r : List Byte) : Pkt :=
  { raw := r, path := path, ver := 1, type := bits (beAt r 2 1) 3 0, flags := 0, plen := beAt r 6 2,
    tile := (base + beAt r 8 2) % 262144, seq := beAt r 12 4, stamp := beAt r 16 4, maxAge := beAt r 20 4,
    source := beAt r 24 2, keyslot := 0, fragIdx := 0, fragLast := 0, stream := 0, total := beAt r 6 2,
    zerosOk := beAt r 3 1 == 0 && beAt r 10 2 == 0 && beAt r 26 6 == 0 }

/-- A packet from its bytes (R78, R102). -/
def pktOf (base path : Nat) (r : List Byte) : Pkt :=
  if bits (beAt r 2 1) 7 4 = 1 then pktT5 base path r
  else
    { raw := r, path := path, ver := bits (beAt r 2 1) 7 4, type := bits (beAt r 2 1) 3 0, flags := beAt r 3 1,
      plen := beAt r 6 2, tile := beAt r 8 4, seq := beAt r 12 4, stamp := beAt r 16 4, maxAge := beAt r 20 4,
      source := beAt r 24 2, keyslot := beAt r 26 2, fragIdx := beAt r 28 1, fragLast := beAt r 29 1,
      stream := beAt r 30 2, total := beAt r 32 4, zerosOk := beAt r 36 12 == 0 }

/-- Step 1 of R88. -/
def Pkt.lenOk (p : Pkt) : Bool := p.raw.length == p.head + p.plen + 12 * b2n p.tag + 4

/-- Step 2 of R88: the Rim check-value over everything before it, with the fold word of R178. -/
def Pkt.rimOk (p : Pkt) (wall addr : Nat) : Bool :=
  let n := p.raw.length - 4
  let fold := if p.ver = 1 then 0 else wall * 2 ^ 16 + (if p.path = 0 then 0 else addr)
  rim (p.raw.take n) fold == beAt p.raw n 4

/-- Step 4 of R88: every field within the legal values of R78 and R79. -/
def Pkt.fieldsOk (p : Pkt) : Bool :=
  p.zerosOk && decide (p.flags < 32) && decide (p.plen ≤ 8192) && decide (1 ≤ p.source) && decide (p.keyslot < 1024) &&
  decide (p.enc ≤ 2) && (p.type == 2 || (!p.asap && !p.strict)) &&
  (p.type == 0 || (p.enc == 0 && p.fragIdx == 0 && p.fragLast == 0 && p.stream == 0 && p.total == 0)) &&
  (if p.type = 0 then
     decide (p.tile < 262144) && decide (1 ≤ p.maxAge) && decide (p.maxAge ≤ 1800000) && decide (p.fragIdx ≤ p.fragLast) &&
     decide (p.fragLast ≤ 63) && decide (p.stream < 4096) && decide (1 ≤ p.total) && decide (p.total ≤ 65536) &&
     (p.enc != 2 || p.total == 4)
   else if p.type = 1 then p.stamp == 0 && p.maxAge == 0 && p.plen % 64 == 0
   else if p.type = 2 then decide (1 ≤ p.seq) && decide (p.seq ≤ 8192) && p.maxAge == 0 && p.plen == 0
   else if p.type = 3 then decide (p.tile < 262144) && decide (1 ≤ p.maxAge) && decide (p.maxAge ≤ 1800000) && p.plen == 0
   else decide (p.tile < 262144) && p.stamp == 0 && p.maxAge == 0 && p.plen == 0)

/-- The nonce of R82. -/
def Pkt.nonce (p : Pkt) : List Byte :=
  beBytes 4 p.tile ++ beBytes 4 p.seq ++ beBytes 1 p.fragIdx ++ beBytes 2 p.source ++ [0]

/-- A source key slot as the tag check sees it: empty while the keys are hidden (R446). -/
def State.keySlot (s : State) (n : Nat) : KeySlot :=
  if s.rdB SEC.STS.KEYS_HIDDEN then KeySlot.empty else tget (fun _ => KeySlot.empty) s.secu.keys n

/-- Intrusive attachment in Sealed (R447). -/
def State.intrusiveSealed (s : State) : Bool := s.mode.sec != .openS && s.mode.dbg == .intrusive

/-- Steps 5 to 7 of R88 (R89, R447): the reject code, or `none`. -/
def State.tagCheck (s : State) (p : Pkt) : Option Nat :=
  let edit := p.type == 1 || p.type == 2
  let k := s.keySlot p.keyslot
  if s.intrusiveSealed then (if edit then some 0x07 else none)
  else if p.tag then
    if !k.loaded || k.source != p.source then some 0x07
    else
      let n := 48 + p.plen
      if gmac96 k.key p.nonce (p.raw.take n) ≠ slice p.raw n 12 then some 0x06 else none
  else if edit && s.mode.sec != .openS then some 0x08
  else none

/-- The V bit that a packet's commit may set (R89, R447). -/
def State.verifies (s : State) (p : Pkt) : Bool :=
  s.mode.sec == .openS || (p.tag && !s.intrusiveSealed)

/-- The update of a ring. -/
def State.upd (s : State) (ring : Nat) : Option Update := tget (fun _ => none) s.scene.upd ring

/-- Store a ring's update. -/
def State.setUpd (s : State) (ring : Nat) (u : Option Update) : State :=
  s.modScene (fun c => { c with upd := tset (fun _ => none) c.upd ring u })

/-- A packet is the next fragment of a pending update (R81): ENC, TAG and KEYSLOT are not among the fields that have to agree
(log entry 181). -/
def Update.isNext (u : Update) (p : Pkt) (t5 : Bool) : Bool :=
  p.type == 0 && u.kind == .tile && t5 == u.t5 && p.fragIdx == u.nextFrag && p.tile == u.handle && p.seq == u.seq &&
  p.stamp == u.stamp && p.maxAge == u.maxAge && p.source == u.source && p.stream == u.stream && p.total == u.total

/-- Step 8 of R88: fragment order, count and lengths. `u` is the pending update the packet continues. -/
def fragOk (u : Option Update) (p : Pkt) : Bool :=
  let sum := (match u with | some u => u.payload.length | none => 0) + p.plen
  (match u with | some u => u.lastFrag == p.fragLast | none => p.fragIdx == 0) &&
  (if p.fragIdx = p.fragLast then sum == p.total else decide (sum ≤ p.total))

/-- Steps 1 to 9 of R88. -/
def State.checkPkt (s : State) (ring : Nat) (u : Option Update) (p : Pkt) : Option Nat :=
  if !p.lenOk then some 0x01
  else if !p.rimOk (s.rd RIM.WALL_ID.ID) (s.rd FAB.ADDR_STS.ADDR) then some 0x02
  else if p.ver ≠ 2 ∧ !(p.ver == 1 && s.rdB ING.T5_CTL.ENA) then some 0x03
  else if p.type > 4 ∨ (p.ver = 1 ∧ p.type ≠ 0) then some 0x04
  else if !p.fieldsOk then some 0x05
  else match s.tagCheck p with
    | some c => some c
    | none =>
      if p.type = 0 ∧ !fragOk u p then some 0x0E
      else if p.type = 0 ∧ p.stream ≠ 0 ∧
          !(s.rdB ING.STREAM_RING.BOUND 0 p.stream && s.rd ING.STREAM_RING.RING 0 p.stream == ring) then some 0x0F
      else none

/-- The sequence check of R91 against an entry. -/
def seqCheck (e : Entry) (seq source : Nat) : Option Nat :=
  if e.state = .noData then none
  else
    let d := sdiff32 seq e.seq
    if d > 0 then none else if d < 0 then some 0x0A else if source = e.source then some 0x0B else some 0x0C

/-- Steps 10 to 12 of R88: the owning plane, or the reject code. -/
def State.checkTile (s : State) (p : Pkt) : Except Nat (Nat × Plane) :=
  match s.owner p.tile with
  | none => .error 0x09
  | some ip =>
    if (p.type = 0 ∨ p.type = 3) ∧ s.timeValid ∧
        (sdiff32 p.stamp s.tUs > 1800000000 ∨ sdiff32 s.tUs p.stamp > 1800000000) then .error 0x0D
    else match seqCheck (s.entry p.tile) p.seq p.source with
      | some c => .error c
      | none => .ok ip

/-- A rejected packet or update counts (R103): codes 0x0A and 0x0B in STAT_SUPER only, every other one in STAT_REJ with
REJ_LAST and REJ_TILE and at most one record per ring and code in a frame. -/
def State.reject (s : State) (ring code tile : Nat) (arg1 : Nat := 0) : State :=
  if code = 0x0A ∨ code = 0x0B then s.bump ING.STAT_SUPER
  else
    let s := s.bump ING.STAT_REJ
    let s := (s.wr ING.REJ_LAST.CODE code).wr ING.REJ_LAST.RING ring
    let s := s.wr ING.REJ_TILE tile
    let s := if code = 0x02 then s.bump RIM.TST_ERR else s
    s.logOnce ring ING.PAGE code (s.rd ING.REJ_LAST) arg1

/-- ARG1 of a conflict: the update's source above the committed one (R104). -/
def State.conflictArg (s : State) (code tile source : Nat) : Nat :=
  if code = 0x0C then source * 2 ^ 16 + (s.entry tile).source else 0

/-- A packet with a failing tag (R441): TAG_FAIL and TAG_LAST. -/
def State.tagFail (s : State) (code : Nat) (p : Pkt) : State :=
  if code = 0x06 ∨ code = 0x07 then
    ((s.bump SEC.TAG_FAIL).wr SEC.TAG_LAST.SLOT p.keyslot).wr SEC.TAG_LAST.SOURCE p.source
  else s

/-- Free the first `n` packets of a ring. -/
def State.freePkts (s : State) (ring n : Nat) : State :=
  let q := s.ringQ ring
  s.setRingQ ring { q with pkts := q.pkts.drop n }

/-- The next packet of a ring for its engine (R86): none while an update of the ring is past its gathering. -/
def State.nextPkt (s : State) (ring : Nat) : Option (Nat × Nat) :=
  match s.upd ring with
  | none => (s.ringQ ring).pkts.head?
  | some u => if u.phase = .gathering then (s.ringQ ring).pkts[u.pkts]? else none

/-- The packets a ring has in one turn of the round robin (R86, R106): WEIGHT, where 0 means 16. -/
def State.ringWeight (s : State) (ring : Nat) : Nat :=
  let w := s.rd ING.RING_CFG.WEIGHT 0 ring
  if w = 0 then 16 else w

/-- A ring has packets left in its turn (R86; log entry 45). -/
def State.hasTurn (s : State) (ring : Nat) : Bool := decide (tget (fun _ => 0) s.scene.turns ring < s.ringWeight ring)

/-- Some ring with a packet for its engine has packets left in its turn. -/
def State.turnsLeft (s : State) : Bool := s.scene.ringQ.any (fun kv => (s.nextPkt kv.1).isSome && s.hasTurn kv.1)

/-- An engine may take the next packet of a ring (R86; log entry 45): the ring has its turn, or every ring with a packet has
had it and a new turn begins. -/
def State.mayServe (s : State) (ring : Nat) : Bool := s.hasTurn ring || !s.turnsLeft

/-- An engine takes a packet of a ring: it counts in the ring's turn. -/
def State.serveRing (s : State) (ring : Nat) : State :=
  let t := if s.hasTurn ring then s.scene.turns else []
  s.modScene (fun c => { c with turns := tset (fun _ => 0) t ring (tget (fun _ => 0) t ring + 1) })

/-- The bytes of `n` entries of a ring from entry `k`. -/
def State.entriesBytes (s : State) (q : RingQ) : (n k : Nat) → List Byte
  | 0, _ => []
  | n + 1, k => s.getEntryBytes q k ++ s.entriesBytes q n (k + 1)

/-- The packet of a ring at an entry (R84). -/
def State.pktAt (s : State) (ring first n : Nat) : Pkt :=
  let bs := s.entriesBytes (s.ringQ ring) n first
  pktOf (s.rd ING.T5_CTL.BASE) (bits (leAt bs 8 1) 6 5) (slice bs 16 (leAt bs 12 4))

/-- An uncorrectable burst in a packet's entries (R281). -/
def State.pktBad (s : State) (ring first n : Nat) : Bool :=
  let q := s.ringQ ring
  q.inHbm && (List.range n).any (fun i => s.hbmBad (q.base + 64 * ((first + i) % q.size)) 64)

/-- The uncorrectable results of a packet's entries (R280). -/
def State.pktFault (s : State) (ring first n : Nat) : State :=
  let q := s.ringQ ring
  s.each (s.badBursts ((List.range n).map (fun i => (q.base + 64 * ((first + i) % q.size), 64)))) (fun s k =>
    s.uncorrectable (32 * k) .latency)

/-! ### The checks of each packet type (R88) -/

/-- Fail the pending update of a ring with a code: its packets are freed (R81, R88). -/
def State.failGather (s : State) (ring code : Nat) : State :=
  match s.upd ring with
  | none => s
  | some u => ((s.freePkts ring u.pkts).setUpd ring none).reject ring code u.handle

/-- What an engine does with the next packet of a ring, in order: an entry with an uncorrectable burst is dropped; a
packet that is not the pending update's next fragment fails that update with 0x0E and is checked on its own (R81). `ok`
says whether the command is for this packet; `act` continues with the packet, the pending update it continues. A ring that
has had its turn waits for the others (R86). -/
def State.engine (s : State) (ring : Nat) (mine : Pkt → Bool) (act : State → Pkt → Option Update → State) : State :=
  if s.mode.sec = .quarantined || ((s.ringQ ring).inHbm && s.mem.sealed) then s
  else match s.nextPkt ring with
  | none => s
  | some (first, n) =>
    let p := s.pktAt ring first n
    if !mine p || !s.mayServe ring then s
    else
      let s := s.serveRing ring
      if s.pktBad ring first n then
        let s := (s.pktFault ring first n).failGather ring 0x0E
        (s.freePkts ring 1).bump ING.LAND_DROP
      else match s.upd ring with
      | none => act s p none
      | some u =>
        if u.isNext p (p.ver == 1) then act s p (some u)
        else act (s.failGather ring 0x0E) p none

/-- A packet fails a step: with a pending update the whole update fails (R88). REJ_TILE shows a TL-5100 packet's mapped handle
(log entry 184). -/
def State.failPkt (s : State) (ring : Nat) (p : Pkt) (u : Option Update) (code : Nat) : State :=
  let n := 1 + (match u with | some u => u.pkts | none => 0)
  let arg := s.conflictArg code p.tile p.source
  (((s.freePkts ring n).setUpd ring none).tagFail code p).reject ring code p.tile arg

/-- A new update from its first packet, all of whose checks passed. -/
def newUpdate (kind : UpdKind) (phase : UpdPhase) (p : Pkt) (ip : Nat × Plane) (epoch : BitVec 4) (v tv : Bool) : Update :=
  { kind := kind, phase := phase, pkts := 1, nextFrag := 1, lastFrag := p.fragLast, handle := p.tile, seq := p.seq,
    stamp := p.stamp, maxAge := p.maxAge, source := p.source, stream := p.stream, enc := p.enc, total := p.total,
    verified := v, timeOk := tv, t5 := p.ver == 1, plane := ip.1, epoch := epoch, fmt := ip.2.format,
    payload := p.payload, expansion := [], doneAt := 0 }

/-- A TILE packet or fragment (R80, R81, R88): fragment 0's ENC stands for the update, and V needs every fragment's (log entry
181). -/
def State.takeTile (ring : Nat) (s : State) (p : Pkt) (u : Option Update) : State :=
  match s.checkPkt ring u p with
  | some c => s.failPkt ring p u c
  | none =>
    let phase : UpdPhase := if p.fragIdx = p.fragLast then .passed else .gathering
    match u with
    | some u =>
      (s.bump ING.STAT_PKT).setUpd ring (some { u with
        phase := phase, pkts := u.pkts + 1, nextFrag := u.nextFrag + 1, verified := u.verified && s.verifies p,
        payload := u.payload ++ p.payload })
    | none => match s.checkTile p with
      | .error c => s.failPkt ring p none c
      | .ok ip =>
        (s.bump ING.STAT_PKT).setUpd ring
          (some (newUpdate .tile phase p ip (s.epochOf ip.1) (s.verifies p) s.timeValid))

/-- TST_TILE (R80): the engine takes the TILE packet, or a packet of an illegal TYPE, at the front of a ring. -/
def execTstTile (ring : BitVec 16) (s : State) : Out :=
  .next (s.engine ring.toNat (fun p => p.ver ≠ 1 ∧ (p.type = 0 ∨ p.type > 4)) (State.takeTile ring.toNat))

/-- T5_TILE (R102): the engine takes the TL-5100 packet at the front of a ring. -/
def execT5Tile (ring : BitVec 16) (s : State) : Out :=
  .next (s.engine ring.toNat (fun p => p.ver = 1) (State.takeTile ring.toNat))

/-- A RESTAMP or INVALIDATE packet (R88, R96): checked, it waits for the commit stage and its entries are free. -/
def State.takeMark (kind : UpdKind) (ring : Nat) (s : State) (p : Pkt) (u : Option Update) : State :=
  match s.checkPkt ring u p with
  | some c => s.failPkt ring p u c
  | none => match s.checkTile p with
    | .error c => s.failPkt ring p u c
    | .ok ip =>
      ((s.bump ING.STAT_PKT).freePkts ring 1).setUpd ring
        (some (newUpdate kind .written p ip (s.epochOf ip.1) (s.verifies p) s.timeValid))

/-- TST_RESTAMP (R96). -/
def execTstRestamp (ring : BitVec 16) (s : State) : Out :=
  .next (s.engine ring.toNat (fun p => p.ver ≠ 1 ∧ p.type = 3) (State.takeMark .restamp ring.toNat))

/-- TST_INVALIDATE (R96). -/
def execTstInvalidate (ring : BitVec 16) (s : State) : Out :=
  .next (s.engine ring.toNat (fun p => p.ver ≠ 1 ∧ p.type = 4) (State.takeMark .invalidate ring.toNat))

/-! ### Edit sets (R97-R101) -/

/-- EDIT_STS follows the edit sets and the epoch sweep (R106). -/
def State.editSts (s : State) : State :=
  ((s.wr ING.EDIT_STS.PENDING s.scene.closed.length).wrB ING.EDIT_STS.ASSEMBLING s.scene.edit.isSome).wrB
    ING.EDIT_STS.SWEEP s.scene.sweepEpoch.isSome

/-- The last edit-set code (R106). -/
def State.editErr (s : State) (code rec_ : Nat) : State :=
  (s.wr ING.EDIT_STS.ERR code).wr ING.EDIT_STS.ERR_REC rec_

/-- The reference ID (R97): the newest of the last applied ID and the IDs of the closed sets waiting. -/
def State.editRef (s : State) : Nat :=
  s.scene.closed.foldl (fun m e => if sdiff32 e.id m > 0 then e.id else m) (s.rd ING.EDIT_LAST)

/-- A new edit set. -/
def EditSet.fresh (id ring : Nat) : EditSet := ⟨id, [], 0, 0, false, false, ring, false, false, false⟩

/-- The set an EDIT or EDIT_CLOSE packet adds to (R97), or `none` for code 0x13; an older set being assembled is abandoned
and logged, and counts as no rejected packet (log entry 183). -/
def State.editFor (s : State) (ring id : Nat) : Option (State × EditSet) :=
  if sdiff32 id s.editRef ≤ 0 then none
  else match s.scene.edit with
    | none => some (s, EditSet.fresh id ring)
    | some a =>
      if id = a.id then some (s, a)
      else if sdiff32 id a.id < 0 then none
      else
        let s := s.editErr 0x13 0
        some (s.logOnce ring ING.PAGE 0x13 (s.rd ING.EDIT_STS), EditSet.fresh id ring)

/-- Records of a payload, 64 bytes each, written from index `k` (R97). -/
def putRecs (t : Table (List Byte)) : (n k : Nat) → List Byte → Table (List Byte)
  | 0, _, _ => t
  | n + 1, k, bs => putRecs (tset (fun _ => []) t k (bs.take 64)) n (k + 1) (bs.drop 64)

/-- An edit packet that fails after R88 (R97). -/
def State.failEdit (s : State) (ring : Nat) (p : Pkt) (code : Nat) : State :=
  (((s.freePkts ring 1).editErr code 0).reject ring code p.tile).editSts

/-- An EDIT packet (R97): records at indices from 8,192 on are kept though no close can ask for them (log entry 182). -/
def State.takeEdit (ring : Nat) (s : State) (p : Pkt) (u : Option Update) : State :=
  match s.checkPkt ring u p with
  | some c => s.failPkt ring p u c
  | none =>
    let s := s.bump ING.STAT_PKT
    if !s.rdB ING.RING_CFG.EDIT_OK 0 ring then s.failEdit ring p 0x12
    else match s.editFor ring p.tile with
      | none => s.failEdit ring p 0x13
      | some (s, e) =>
        ((s.freePkts ring 1).modScene (fun c => { c with
          edit := some { e with recs := putRecs e.recs (p.plen / 64) p.seq p.payload } })).editSts

/-- TST_EDIT (R97). -/
def execTstEdit (ring : BitVec 16) (s : State) : Out :=
  .next (s.engine ring.toNat (fun p => p.ver ≠ 1 ∧ p.type = 1) (State.takeEdit ring.toNat))

/-- The set that an EDIT_CLOSE packet closes (R97): its record count, frame and flags. -/
def EditSet.close (e : EditSet) (ring : Nat) (p : Pkt) : EditSet :=
  { e with count := p.seq, frame := p.stamp, asap := p.asap, strict := p.strict, ring := ring }

/-- An EDIT_CLOSE packet (R97, R99): one rejected with 0x19 leaves the set being assembled as it was (log entry 186). -/
def State.takeClose (ring : Nat) (s : State) (p : Pkt) (u : Option Update) : State :=
  match s.checkPkt ring u p with
  | some c => s.failPkt ring p u c
  | none =>
    let s := s.bump ING.STAT_PKT
    if !s.rdB ING.RING_CFG.EDIT_OK 0 ring then s.failEdit ring p 0x12
    else match s.editFor ring p.tile with
      | none => s.failEdit ring p 0x13
      | some (s', e) =>
        if 4 ≤ s.scene.closed.length then s.failEdit ring p 0x19
        else
          ((s'.freePkts ring 1).modScene (fun c => { c with edit := none, closed := c.closed ++ [e.close ring p] })).editSts

/-- TST_EDIT_CLOSE (R97). -/
def execTstEditClose (ring : BitVec 16) (s : State) : Out :=
  .next (s.engine ring.toNat (fun p => p.ver ≠ 1 ∧ p.type = 2) (State.takeClose ring.toNat))

/-- The legal records of a set with their indices, in index order. -/
def EditSet.legal (e : EditSet) : List (Nat × EditRec) :=
  (List.range e.count).filterMap (fun i => (parseRecord (tget (fun _ => []) e.recs i)).map (fun r => (i, r)))

/-- The plane and louvre tables together. -/
abbrev SceneTabs := Table (Option Plane) × Table (Option Louvre)

/-- One record applied to the tables. -/
def applyRec (t : SceneTabs) : EditRec → SceneTabs
  | .planeSet i p => (tset (fun _ => none) t.1 i (some p), t.2)
  | .planeClear i => (tset (fun _ => none) t.1 i none, t.2)
  | .louvreSet i l => (t.1, tset (fun _ => none) t.2 i (some l))
  | .louvreClear i => (t.1, tset (fun _ => none) t.2 i none)

/-- A set applied to the tables (R98). -/
def EditSet.apply (e : EditSet) (t : SceneTabs) : SceneTabs := e.legal.foldl (fun t ir => applyRec t ir.2) t

/-- The descriptor a record writes: planes by index, louvres from 4,096. -/
def EditRec.desc : EditRec → Nat
  | .planeSet i _ | .planeClear i => i
  | .louvreSet i _ | .louvreClear i => 4096 + i

/-- The responsible record of a condition over some descriptors (R98): the highest index that wrote one of them. -/
def EditSet.responsible (e : EditSet) (ds : List Nat) : List Nat :=
  match (e.legal.filter (fun ir => ds.contains ir.2.desc)).getLast? with
  | some ir => [ir.1]
  | none => []

/-- A plane's storage keeps the alignment and size rules of R71 and stays within 96 GiB. -/
def planeStoreOk (p : Plane) : Bool :=
  let a := fmtAlign p.format
  p.surf % a == 0 && p.pitch % a == 0 && p.stride % a == 0 &&
  (if fmtPlait p.format then p.pitch == 0 else decide (64 * p.wt * fmtBpp p.format ≤ p.pitch)) &&
  decide (planeBankMin p ≤ p.stride) && decide (p.surf + p.stride + planeBankMin p ≤ hbmSize)

/-- Two planes own a common handle. -/
def planesMeet (p q : Plane) : Bool :=
  decide (p.tileBase < q.tileBase + planeTiles q) && decide (q.tileBase < p.tileBase + planeTiles p)

/-- The unordered pairs of a list. -/
def pairs {α : Type} : List α → List (α × α)
  | [] => []
  | x :: xs => xs.map (fun y => (x, y)) ++ pairs xs

/-- The responsible records of every failing condition of R98, for a set over the tables it is checked against. -/
def EditSet.failures (e : EditSet) (t : SceneTabs) : List Nat :=
  let r := e.apply t
  let ps := enabledPlanes r.1
  let ls := enabledLouvres r.2
  (List.range e.count).filter (fun i => (parseRecord (tget (fun _ => []) e.recs i)).isNone) ++
  (pairs ps).flatMap (fun ab => if planesMeet ab.1.2 ab.2.2 then e.responsible [ab.1.1, ab.2.1] else []) ++
  ps.flatMap (fun ip =>
    if ip.2.tileBase + planeTiles ip.2 > 262144 ∨ !planeStoreOk ip.2 then e.responsible [ip.1] else []) ++
  ls.flatMap (fun il =>
    il.2.list.flatMap (fun k => if (ps.map (·.1)).contains k then [] else e.responsible [4096 + il.1, k]) ++
    (let eff := effList r.1 il.2.list
     if eff.length > 8 then e.responsible ((4096 + il.1) :: eff.map (·.1)) else [])) ++
  (pairs ls).flatMap (fun ab =>
    if ab.1.2.first ≤ ab.2.2.last ∧ ab.2.2.first ≤ ab.1.2.last then e.responsible [4096 + ab.1.1, 4096 + ab.2.1] else [])

/-- The tables in force. -/
def State.tabs (s : State) : SceneTabs := (s.scene.planes, s.scene.louvres)

/-- The shadow tables (R99): as they will stand once the next checked set waiting has applied. -/
def State.shadowTabs (s : State) : SceneTabs :=
  match s.scene.closed.find? (·.passed) with
  | some e => e.apply s.tabs
  | none => s.tabs

/-- EDIT_SET_CHECK (R98, R99): the first closed set that has not passed begins its check. -/
def execEditSetCheck (s : State) : Out :=
  if s.scene.closed.any (·.checking) then .next s
  else match s.scene.closed.findIdx? (fun e => !e.passed) with
    | none => .next s
    | some i => .next (s.modScene (fun c => { c with closed := c.closed.modify i (fun e => { e with checking := true }) }))

/-- Sets behind a discarded one are checked again (R100). -/
def recheck (es : List EditSet) : List EditSet := es.map (fun e => { e with checking := false, passed := false })

/-- A checked set is late (R100): its apply point has passed, or it comes before the frame of an earlier pending set. -/
def State.editLate (s : State) (e : EditSet) (earlier : List EditSet) : Bool :=
  !e.asap && ((match s.scene.lastApply with | some t => decide (sdiff32 e.frame t ≤ 0) | none => false) ||
    earlier.any (fun o => !o.asap && !o.late && decide (sdiff32 e.frame o.frame < 0)))

/-- EDIT_SET_CHECK_DONE (R98, R100): the outcome of the running check takes effect. A late STRICT set is discarded and logged,
and counts as no rejected packet (log entry 183). -/
def execEditSetCheckDone (s : State) : Out :=
  match s.scene.closed.findIdx? (·.checking) with
  | none => .next s
  | some i =>
    let es := s.scene.closed
    let earlier := es.take i
    let behind := es.drop (i + 1)
    match es[i]? with
    | none => .next s
    | some e =>
      match (e.failures (earlier.foldl (fun t o => o.apply t) s.tabs)).min? with
      | some r =>
        let s := s.modScene (fun c => { c with closed := earlier ++ recheck behind })
        .next (((s.editErr 0x14 r).reject e.ring 0x14 e.id).editSts)
      | none =>
        let e := { e with checking := false, passed := true }
        if s.editLate e earlier then
          let s := s.editErr 0x15 0
          let s := s.logOnce e.ring ING.PAGE 0x15 (s.rd ING.EDIT_STS)
          let s := s.modScene (fun c => { c with
            closed := if e.strict then earlier ++ recheck behind else earlier ++ { e with late := true } :: behind })
          .next s.editSts
        else .next ((s.modScene (fun c => { c with closed := earlier ++ e :: behind })).editSts)

/-- The geometry of a plane whose change advances its epoch (R101). -/
def planeGeom (p : Plane) : List Nat := [p.format, p.wt, p.ht, p.tileBase, p.surf, p.pitch, p.stride]

/-- Whether an apply advances the epoch of a plane index (R101). -/
def epochMoves (before after : Option Plane) : Bool :=
  match before, after with
  | none, none => false
  | some a, some b => planeGeom a != planeGeom b
  | _, _ => true

/-- The plane indices two tables list. -/
def planeIdx (a b : Table (Option Plane)) : List Nat := (a.map (·.1) ++ b.map (·.1)).eraseDups

/-- The epochs after an apply (R101). -/
def epochsAfter (ep : Table (BitVec 4)) (a b : Table (Option Plane)) : Table (BitVec 4) :=
  (planeIdx a b).foldl (fun ep i =>
    if epochMoves (tget (fun _ => none) a i) (tget (fun _ => none) b i) then
      tset (fun _ => 0) ep i (tget (fun _ => 0) ep i + 1) else ep) ep

/-- A message body for the partner (R371, R377). -/
def State.mirror (s : State) (body : List Byte) : State := s.modLeaf (fun l => { l with outBox := l.outBox ++ [⟨false, body⟩] })

/-- One edit set comes into force for frame `t` (R99, R101, R95); an active leaf sends EDIT_APPLY (R375). -/
def State.applySet (s : State) (t : Nat) (e : EditSet) : State :=
  let r := e.apply s.tabs
  let s := s.modScene (fun c => { c with
    epoch := epochsAfter c.epoch c.planes r.1, planes := r.1, louvres := r.2, tableChanged := true, sweepEpoch := some 0 })
  let s := s.wr ING.COMMIT_GEN ((s.rd ING.COMMIT_GEN + 1) % 2 ^ 32)
  let s := (s.wr ING.EDIT_LAST e.id).wr ING.EDIT_FRAME t
  if s.rd LEF.STS.ROLE = 2 then s.mirror ([0x04] ++ zeros 3 ++ beBytes 4 e.id ++ beBytes 4 t) else s

/-- Apply the due sets from the front (R99): never a set before an earlier one. -/
def State.applyDue (s : State) (t : Nat) : List EditSet → State
  | [] => s.modScene (fun c => { c with closed := [] })
  | e :: es =>
    if e.passed && (e.asap || e.late || decide (sdiff32 e.frame t ≤ 0)) then (s.applySet t e).applyDue t es
    else s.modScene (fun c => { c with closed := e :: es })

/-- The edit sets' part of the apply point for frame `t` (R99). -/
def State.applyEdits (s : State) (t : Nat) : State :=
  ((s.applyDue t s.scene.closed).modScene (fun c => { c with lastApply := some t })).editSts

/-- EPOCH_SWEEP_DONE (R101): every entry whose PLANE or EPOCH does not match its owning plane has been rewritten to zero. -/
def execEpochSweepDone (s : State) : Out :=
  if s.scene.sweepEpoch.isNone then .next s
  else
    .next (((s.epochVisit handles).modScene (fun c => { c with sweepEpoch := none })).editSts)

/-! ### Staging and the ingest writer (R87, R93, R145) -/

/-- 64-byte units of staging an update takes. -/
def Update.units (u : Update) : Nat := (u.payload.length + 63) / 64

/-- Units of the 4 MiB staging area (R87). -/
def stageUnits : Nat := 65536

/-- STAGE_UPDATE (R87): a passed update moves to staging when it has room, and its ring entries are freed. A Coil update
then waits for a decode lane (R122). -/
def execStageUpdate (ring : BitVec 16) (s : State) : Out :=
  match s.upd ring.toNat with
  | none => .next s
  | some u =>
    if u.phase ≠ .passed ∨ stageUnits < s.rd ING.STAGE_FILL.FILL + u.units then .next s
    else
      let s := (s.freePkts ring.toNat u.pkts).wr ING.STAGE_FILL.FILL (s.rd ING.STAGE_FILL.FILL + u.units)
      let s := s.setUpd ring.toNat (some { u with phase := .staged, pkts := 0 })
      .next (if u.enc = 0 then s.modScene (fun c => { c with readyOrder := c.readyOrder ++ [ring.toNat] }) else s)


/-- The key of a cell: die, plane, row group, column (R141). -/
def cellKey (die plane m k : Nat) : CellId := ((die * 4096 + plane) * 1024 + m) * 512 + k

/-- The die of a cell. -/
def cellDie (c : CellId) : Nat := c / (4096 * 1024 * 512)

/-- WV.RSV_STS.IN_USE follows the reserve (R159). -/
def State.reserveSts (s : State) : State :=
  s.each [0, 1] (fun s d => s.wr WV.RSV_STS.IN_USE ((s.wv.reserve.flatMap (·.2)).filter (fun c => cellDie c == d)).length d)

/-- An update holds staging (R87): from its move there to its commit or its failure (log entry 21). -/
def Update.held (u : Update) : Bool := u.kind == .tile && u.phase != .gathering && u.phase != .passed

/-- The update of a ring ends: its staging (log entry 21) and its reserve cells are free (R87, R145). -/
def State.endUpdate (s : State) (ring : Nat) : State :=
  match s.upd ring with
  | none => s
  | some u =>
    let s := if u.held then s.wr ING.STAGE_FILL.FILL (s.rd ING.STAGE_FILL.FILL - u.units) else s
    let s := s.modScene (fun c => { c with readyOrder := c.readyOrder.filter (· != ring) })
    ((s.setUpd ring none).modWv (fun w => { w with reserve := w.reserve.filter (·.1 != ring) })).reserveSts

/-- A failed update ends with a reject code (R93, R103). -/
def State.failUpdate (s : State) (ring code : Nat) : State :=
  match s.upd ring with
  | none => s
  | some u =>
    let arg := s.conflictArg code u.handle u.source
    (s.endUpdate ring).reject ring code u.handle arg

/-- The cache words of 16 rows of 64 pixels of a packed format (R141). -/
def packedWords (fmt : Nat) (rows : List Byte) : List (BitVec 32) :=
  (List.range 1024).map (fun i => BitVec.ofNat 32 (leAt rows (i * fmtBpp fmt) (fmtBpp fmt)))

/-- The cache words of row group `q` of a Plait slot (R141), and whether a block is not well formed (R491). -/
def plaitWords (fmt : Nat) (slot : List Byte) (q : Nat) : List (BitVec 32) × Bool :=
  let blk := (List.range 16).map (fun i =>
    let b := 16 * q + i
    plaitDecode fmt (leAt slot b 1) (slice slot (64 + 256 * b) 256))
  ((List.range 1024).map (fun i =>
     let x := i % 64
     let y := i / 64
     match blk.getD (4 * (y / 4) + x / 16) none with
     | some px => BitVec.ofNat 32 (px.getD (y % 4 * 16 + x % 16) 0)
     | none => 0), blk.any (·.isNone))

/-- The cache words of row group `q` of an expansion. -/
def expWords (fmt : Nat) (exp : List Byte) (q : Nat) : List (BitVec 32) :=
  if fmtPlait fmt then (plaitWords fmt exp q).1 else packedWords fmt (slice exp (1024 * fmtBpp fmt * q) (1024 * fmtBpp fmt))

/-- The tile column and row of a handle in its plane (R72). -/
def tileXY (p : Plane) (h : Nat) : Nat × Nat := ((h - p.tileBase) % p.wt, (h - p.tileBase) / p.wt)

/-- The resident or loading cells of both dies that lie in a tile, each with its row group in the tile (R145). -/
def State.tileCells (s : State) (i : Nat) (p : Plane) (h : Nat) : List (CellId × Nat) :=
  let xy := tileXY p h
  [0, 1].flatMap (fun d => (List.range 4).filterMap (fun q =>
    let k := cellKey d i (4 * xy.2 + q) xy.1
    if (tget (fun _ => Cell.absent) s.wv.cells k).resident || s.wv.wanted.contains k then some (k, q) else none))

/-- The bytes of the expansion of a raw or fill update (R80). -/
def rawExpansion (u : Update) : List Byte :=
  if u.enc = 1 then u.payload
  else
    let argb := beAt u.payload 0 4
    let px := pixConv 4 u.fmt argb
    if fmtPlait u.fmt then plaitFill px
    else (List.replicate 4096 (pixBytes u.fmt px)).flatten

/-- Write an expansion into a bank of a plane: the 64 rows of a packed tile, or the Plait slot (R71). -/
def State.writeTile (s : State) (p : Plane) (h bank : Nat) (exp : List Byte) : State :=
  if fmtPlait p.format then s.hbmWr (plaitSlot p bank (h - p.tileBase)) exp
  else
    let xy := tileXY p h
    let n := 64 * fmtBpp p.format
    s.each (List.range 64) (fun s r => s.hbmWr (planePix p bank (64 * xy.1) (64 * xy.2 + r)) (slice exp (n * r) n))

/-- The plane of an update as step 10 found it, while its index and epoch stand unchanged (R93 step 3). -/
def State.updPlane (s : State) (u : Update) : Option Plane :=
  match s.owner u.handle with
  | some (i, p) => if i = u.plane ∧ s.epochOf i = u.epoch then some p else none
  | none => none

/-- The first block of a Plait slot that is not well formed (R129). -/
def plaitFirstBad (fmt : Nat) (slot : List Byte) : Nat :=
  (List.range 64).findIdx (fun b => !plaitBlockOk fmt (leAt slot b 1) (slice slot (64 + 256 * b) 256))

/-- The ingest writer meets a Plait block that is not well formed (R118, R129, R490 item 6): the update fails with PLAIT; that
of a Coil update is a failed decode (R131), whose stream's context has advanced (R121; log entries 14 and 48). -/
def State.plaitFail (s : State) (ring : Nat) (u : Update) (blk : Nat) : State :=
  let s := (s.wr COL.FAIL_LAST.WHY 0x0D).wr COL.FAIL_LAST.STREAM u.stream
  let s := (s.wr COL.FAIL_RING.RING ring).wr COL.FAIL_RING.BLOCK blk
  (if u.enc = 0 then s.bump COL.STAT_FAIL else s).failUpdate ring 0x11

/-- INGEST_WRITE (R93 steps 1 and 2, R129, R145): the expansion of a ring's update is written into the inactive bank and
into replacement cells; a die whose reserve lacks the cells makes the writer wait. Two rings' updates of one tile share the
inactive bank in the order of their writes (log entry 185). -/
def execIngestWrite (ring : BitVec 16) (s : State) : Out :=
  match s.upd ring.toNat with
  | none => .next s
  | some u =>
    let ready := u.phase == .expanded || (u.phase == .staged && u.enc != 0)
    if !ready || u.kind != .tile || s.mem.sealed then .next s
    else
      let exp := if u.enc = 0 then u.expansion else rawExpansion u
      if exp.length ≠ fmtTileBytes u.fmt then .next (s.failUpdate ring.toNat 0x11)
      else if fmtPlait u.fmt && !plaitSlotOk u.fmt exp then .next (s.plaitFail ring.toNat u (plaitFirstBad u.fmt exp))
      else
        let u := { u with phase := .written, expansion := exp, doneAt := if u.enc = 0 then u.doneAt else s.clk.now }
        match s.updPlane u with
        | none => .next (s.setUpd ring.toNat (some u))
        | some p =>
          let cells := (s.tileCells u.plane p u.handle).map (·.1)
          let short := [0, 1].filter (fun d => decide
            (768 < s.rd WV.RSV_STS.IN_USE d + (cells.filter (fun c => cellDie c == d)).length))
          if short ≠ [] then .next (s.each short (fun s d => s.bump WV.RSV_STS.WAIT 1 d))
          else
            let s := s.writeTile p u.handle (1 - b2n (s.entry u.handle).slot) exp
            let s := s.modWv (fun w => { w with reserve := w.reserve ++ [(ring.toNat, cells)] })
            .next ((s.setUpd ring.toNat (some u)).reserveSts)

/-! ### Commits (R93-R96, R373, R377) -/

/-- Swap the replacement cells of a committed tile into both cell maps and remember, for 8 wc, what stood before (R94,
R145). A prefill in flight of such a cell is discarded. -/
def State.swapCells (s : State) (ring handle : Nat) (fmt : Nat) (exp : List Byte) (cells : List (CellId × Nat)) : State :=
  let s := s.modScene (fun c => { c with
    recent := { at_ := s.clk.now, commit := true, handle := handle, old := s.entry handle,
                cells := cells.map (fun kq =>
                  let o := tget (fun _ => Cell.absent) s.wv.cells kq.1
                  (kq.1, o.words, o.fault)) }
      :: c.recent.filter (fun r => decide (s.clk.now < r.at_ + 8)) })
  s.modWv (fun w => { w with
    cells := cells.foldl (fun t kq =>
      tset (fun _ => Cell.absent) t kq.1 { resident := true, words := expWords fmt exp kq.2, fault := false }) w.cells
    wanted := w.wanted.filter (fun k => !(cells.map (·.1)).contains k)
    reserve := w.reserve.filter (·.1 != ring) })

/-- The commit generation and count advance (R95, R106). -/
def State.commitCount (s : State) : State :=
  (s.wr ING.COMMIT_GEN ((s.rd ING.COMMIT_GEN + 1) % 2 ^ 32)).bump ING.STAT_COMMIT

/-- The COMMIT record an active leaf sends its partner (R377). -/
def State.mirrorCommit (s : State) (op ring handle : Nat) : State :=
  if s.rd LEF.STS.ROLE = 2 then
    let e := s.entryRaw handle
    s.mirror ([0x01] ++ beBytes 1 op ++ beBytes 2 ring ++ beBytes 8 s.stamp ++ beBytes 4 handle ++ beBytes 4 e.seq ++
      beBytes 4 e.stamp ++ beBytes 4 (e.word 2) ++ beBytes 2 e.source ++ zeros 2 ++ beBytes 4 (s.rd ING.COMMIT_GEN))
  else s

/-- The kind of commit a ready update makes; the lowest ring that is ready goes first, one commit in a weave cycle (R93). -/
def State.commitRing (s : State) : Option (Nat × Update) :=
  if s.scene.recent.any (fun r => r.commit && r.at_ == s.clk.now) then none
  else s.scene.upd.findSome? (fun kv => match kv.2 with
    | some u => if u.phase = .written then some (kv.1, u) else none
    | none => none)

/-- A Weft burst issued to a tile has not completed, so a commit of the tile waits (R258). -/
def State.weftWrites (s : State) (h : Nat) : Bool :=
  s.weft.bursts.any (fun b => match b.plane with | some p => p.handle == h | none => false)

/-- The final checks of a commit (R93 step 3): the plane, or the code the update is discarded with; a RESTAMP needs a matching
plane epoch (R96). -/
def State.commitCheck (s : State) (u : Update) : Except Nat Plane :=
  match s.updPlane u with
  | none => .error (if u.kind = .restamp then 0x18 else 0x16)
  | some p => match seqCheck (s.entry u.handle) u.seq u.source with
    | some c => .error c
    | none => .ok p

/-- The commit of a TILE update with an entry (R93 step 4): every cell of the tile that is in a cell map or on its way there is
swapped, so that no line reads the old bank under the new entry (R73, R145). -/
def State.commitTile (s : State) (ring : Nat) (u : Update) (p : Plane) (e : Entry) : State :=
  let s := s.swapCells ring u.handle u.fmt u.expansion (s.tileCells u.plane p u.handle)
  ((((s.putEntry u.handle e).setDirty u.handle).commitCount).endUpdate ring).resample

/-- The entry a TILE commit writes (R93 step 4). -/
def State.tileEntry (s : State) (u : Update) : Entry :=
  { stamp := u.stamp, seq := u.seq, maxAge := u.maxAge, state := .content, v := u.verified, tv := u.timeOk && s.timeValid,
    slot := !(s.entry u.handle).slot, t5 := u.t5, source := u.source, plane := u.plane, epoch := u.epoch }

/-- A commit stage step for one kind of update (R93, R96): the standby's stage never commits on its own decision (R373). -/
def State.commitStep (s : State) (kind : UpdKind) (act : State → Nat → Update → Plane → State) : State :=
  if s.mode.power = .standbyLeaf then s
  else if s.rd LEF.STS.ROLE = 2 ∧ s.rd LEF.REPAIR_MAX < s.rd LEF.REPAIR_Q then
    -- R381
    s.logOnce 0 LEF.PAGE 0xC6 (s.rd LEF.REPAIR_Q) 0
  else match s.commitRing with
  | none => s
  | some (ring, u) =>
    if u.kind ≠ kind ∨ s.weftWrites u.handle then s
    else match s.commitCheck u with
      | .error c => s.failUpdate ring c
      | .ok p => act s ring u p

/-- The commit stage's TILE commit (R93). -/
def State.tileCommit (s : State) : State :=
  s.commitStep .tile (fun s ring u p => (s.commitTile ring u p (s.tileEntry u)).mirrorCommit 0 ring u.handle)

/-- The entry a RESTAMP commit writes (R96). -/
def State.restampEntry (s : State) (u : Update) : Entry :=
  let e := s.entry u.handle
  { e with stamp := u.stamp, seq := u.seq, maxAge := u.maxAge, source := u.source, tv := u.timeOk && s.timeValid,
           v := e.v && u.verified }

/-- A commit that leaves the content alone: the entry, the hold-off, the counts. -/
def State.commitMark (s : State) (ring : Nat) (u : Update) (e : Entry) : State :=
  let s := s.swapCells ring u.handle u.fmt [] []
  (((s.putEntry u.handle e).commitCount).endUpdate ring).resample

/-- The commit stage's RESTAMP commit (R96): only to a tile with STATE = 1. -/
def State.restampCommit (s : State) : State :=
  s.commitStep .restamp (fun s ring u _ =>
    if (s.entry u.handle).state = .content then
      (s.commitMark ring u (s.restampEntry u)).mirrorCommit 1 ring u.handle
    else s.failUpdate ring 0x18)

/-- The entry an INVALIDATE commit writes (R96). -/
def State.invalidateEntry (s : State) (u : Update) : Entry :=
  { s.entry u.handle with seq := u.seq, source := u.source, state := .withdrawn, plane := u.plane, epoch := u.epoch }

/-- The commit stage's INVALIDATE commit (R96). -/
def State.invalidateCommit (s : State) : State :=
  s.commitStep .invalidate (fun s ring u _ =>
    (s.commitMark ring u (s.invalidateEntry u)).mirrorCommit 2 ring u.handle)

/-! ### Register writes of the ING page (R107) -/

/-- The ring the selector of a path names (R464). -/
def State.ringSel (s : State) (path : Path) : Nat := s.rd ING.RING_SEL.RING 0 path.num

/-- A write of RING_CFG by a path (R107): ENA and WEIGHT always, the other fields only while ENA = 0 and FILL = 0. ENA
rising takes the address and size, and stays 0 with an illegal SIZE_LOG2. -/
def State.wrRingCfg (path : Path) (v : Nat) (s : State) : WrRes :=
  let r := s.ringSel path
  let old := (s.reg (ING.RING_CFG.key 0 r)).toNat
  let q := s.ringQ r
  let ena := s.rdB ING.RING_CFG.ENA 0 r
  let new := if ena || q.fill != 0 then setBits (setBits old 0 0 v) 19 16 (v / 2 ^ 16) else v &&& 0xF1F07
  let up := bit v 0 && !ena
  if up && !(decide (4 ≤ bits new 12 8) && decide (bits new 12 8 ≤ 16)) then
    ign28 path ING.PAGE ING.RING_CFG.off v (s.wr ING.RING_CFG (new - new % 2) 0 r)
  else
    let s := s.wr ING.RING_CFG new 0 r
    if up && q.fill == 0 then
      let base := if bit new 1 then s.addr37 ING.RING_ADDR_LO ING.RING_ADDR_HI 0 r else s.rd ING.RING_ADDR_LO 0 r
      okW (s.setRingQ r { inHbm := bit new 1, base := base, size := 2 ^ bits new 12 8, tail := 0, pkts := [] })
    else okW s

/-- A write of RING_ADDR_LO or _HI (R107): without effect unless the ring is disabled and empty. -/
def State.wrRingAddr (path : Path) (off v : Nat) (s : State) : WrRes :=
  let r := s.ringSel path
  if s.rdB ING.RING_CFG.ENA 0 r || (s.ringQ r).fill != 0 then okW s else okW (s.plainWrite ING.PAGE off r v)

/-- An update of a stream is in staging or in decode (R107). -/
def State.streamBusy (s : State) (st : Nat) : Bool :=
  s.scene.upd.any (fun kv => match kv.2 with
    | some u => u.stream == st && u.held
    | none => false)

/-- A write of STREAM_RING (R107). -/
def State.wrStreamRing (path : Path) (v : Nat) (s : State) : WrRes :=
  let st := s.rd ING.STREAM_SEL.STREAM 0 path.num
  if s.streamBusy st then ign28 path ING.PAGE ING.STREAM_RING.off v s
  else okW (s.plainWrite ING.PAGE ING.STREAM_RING.off st v)

/-- Warm reset: what R488 keeps of ingest, and what it loses. -/
def State.ingestWarm (s : State) : State :=
  let s := s.modScene (fun c => { c with
    ringQ := [], turns := [], upd := [], edit := none, closed := [], readyOrder := [], recent := [] })
  let lose (k : Nat) : Bool :=
    (List.range 5).any (fun j => k % 2 ^ 24 == ING.PAGE * 4096 + 0x10C + 4 * j) || k % 2 ^ 24 == ING.PAGE * 4096 + 0x154
  let s := s.dropRegs lose
  let s := s.modWv (fun w => { w with reserve := [] })
  ((s.wr ING.STAGE_FILL.FILL 0).editSts).reserveSts

end Sys2Proof.Machine
end

