-- ==== Sys2Proof/Machine/Weaver.lean ====
section
/-! DEFINITION. The Weaver (chapter 6): the weave map, louvres, sample positions, windows and the slot plan, linear light,
filter, compositing, curves, uniformity and dither; and the register writes of the WV page. -/

namespace Sys2Proof.Machine

/-! ### Weave map and louvres (R134-R138) -/

/-- A node of the correction grid (R135). -/
def WeaveMap.node (m : WeaveMap) (i j : Nat) : Int := m.grid.getD (121 * j + i) 0

/-- The stake of subpixel colour `c` at segment pixel (x, y), 8.8 fixed point (R134). -/
def WeaveMap.stake (m : WeaveMap) (x y c : Nat) : Nat :=
  let i := x / 256
  let j := y / 256
  let fx := x % 256
  let fy := y % 256
  let corr : Int := m.node i j * ((256 - fx) * (256 - fy) : Nat) + m.node (i + 1) j * (fx * (256 - fy) : Nat) +
    m.node i (j + 1) * ((256 - fx) * fy : Nat) + m.node (i + 1) (j + 1) * (fx * fy : Nat)
  let p := ((3 * x + c) * m.ku + y * m.ky + m.p0 + wrapI 32 corr) % 2 ^ 32
  p * m.nstk / 2 ^ 24 % 2 ^ 16

/-- LVR_CTL.ENA in force on a die (R160). -/
def State.lvrEna (s : State) (die : Nat) : Bool := s.eff_ WV.LVR_CTL.ENA die == 1

/-- The weave map in force on a die. -/
def State.map (s : State) (die : Fin 2) : WeaveMap := s.wv.map[die]

/-- The louvres that hold rays on a die (R137): enabled, with at least one stake below NSTK, while ENA = 1. -/
def State.liveLouvres (s : State) (die : Fin 2) : List (Nat × Louvre) :=
  if s.lvrEna die then (enabledLouvres s.scene.louvres).filter (fun il => decide (il.2.first < (s.map die).nstk)) else []

/-- The louvre of a stake (R137). -/
def State.louvreAt (s : State) (die : Fin 2) (s88 : Nat) : Option (Nat × Louvre) :=
  if s.lvrEna die then
    (enabledLouvres s.scene.louvres).find? (fun il => decide (il.2.first ≤ s88 / 256) && decide (s88 / 256 ≤ il.2.last))
  else none

/-- The edge weight of a ray (R138). -/
def edgeWeight (l : Option (Nat × Louvre)) (s88 : Nat) : Nat :=
  match l with
  | none => 256
  | some (_, l) =>
    if l.soft = 0 then 256
    else min 256 (min (s88 - l.first * 256) (l.last * 256 + 255 - s88) / l.soft)

/-! ### Sample positions (R139, R140) -/

/-- The largest shift, 768 px in 1/65,536 px. -/
def shiftMax : Int := 50331648

/-- The unclamped shift of a plane in a ray (R139). -/
def rayShift (l : Option (Nat × Louvre)) (s88 : Nat) (p : Plane) : Int :=
  match l with | none => 0 | some (_, l) => p.disp * ((s88 : Int) - l.centre)

/-- Column, filter phase and row of a ray in a plane (R139). -/
def samplePos (l : Option (Nat × Louvre)) (s88 x y c : Nat) (p : Plane) : Int × Nat × Int :=
  let sh := clampI (-shiftMax) shiftMax (rayShift l s88 p)
  let off : Int := if c = 0 then -21845 else if c = 1 then 0 else 21845
  let q := ((x : Int) - p.x) * 65536 + off + sh
  let vs : Int := match l with | none => 0 | some (_, l) => l.vshift
  (q / 65536, wrapI 16 q / 1024, (y : Int) - p.y + vs)

/-! ### Windows and the slot plan (R142-R144) -/

/-- REACH of a plane on a die, in px (R142). -/
def State.reach (s : State) (die : Fin 2) (i : Nat) (p : Plane) : Nat :=
  let m := ((s.liveLouvres die).filter (fun il => p.common || il.2.list.contains i)).foldl (fun (m : Int) il =>
    let l := il.2
    let le : Int := min l.last ((s.map die).nstk - 1)
    max m (p.disp.natAbs * max ((l.centre : Int) - 256 * l.first) (256 * le + 255 - l.centre))) 0
  ((min m shiftMax).toNat + 65535) / 65536

/-- The first and last plane row of band `b`'s window, `none` when empty (R142). -/
def windowRows (p : Plane) (b : Nat) : Option (Nat × Nat) :=
  let lo := max 0 (16 * (b : Int) - p.y - 7)
  let hi := min (64 * p.ht - 1 : Int) (16 * (b : Int) - p.y + 22)
  if lo ≤ hi then some (lo.toNat, hi.toNat) else none

/-- The first and last plane column of a plane's window on a die, `none` when empty (R142). -/
def State.windowCols (s : State) (die : Fin 2) (i : Nat) (p : Plane) : Option (Nat × Nat) :=
  let xh : Int := 15360 * (die.val : Int)
  let r := (s.reach die i p : Int)
  let lo := max 0 (xh - p.x - r - 2)
  let hi := min (64 * p.wt - 1 : Int) (xh + 15359 - p.x + r + 2)
  if lo ≤ hi then some (lo.toNat, hi.toNat) else none

/-- The slot of a plane on a die: first cell column and width (R142), where it is not empty and a live louvre or COMMON
makes the plane active. -/
def State.slotOf (s : State) (die : Fin 2) (i : Nat) (p : Plane) : Option Slot :=
  if p.common || (s.liveLouvres die).any (fun il => il.2.list.contains i) then
    (s.windowCols die i p).map (fun c => { plane := i, col := c.1 / 64, w := c.2 / 64 - c.1 / 64 + 1 })
  else none

/-- The planes of a die that could be active, in the rank order of R143, with their slots. -/
def State.rankedSlots (s : State) (die : Fin 2) : List (Plane × Slot) :=
  (sortBy (fun ip => (if ip.2.common then 0 else 256) + ip.2.order) (enabledPlanes s.scene.planes)).filterMap
    (fun ip => (s.slotOf die ip.1 ip.2).map (fun sl => (ip.2, sl)))

/-- Cells in use while the band before is read (R143). -/
def planCells (prev adm : List Slot) : Nat :=
  (prev.map (fun t => 3 * t.w)).sum + (adm.map (fun t => if prev.any (·.plane == t.plane) then t.w else 3 * t.w)).sum

/-- One band of the plan (R143): the admitted slots and the refused planes. -/
def planBand (ranked : List (Plane × Slot)) (prev : List Slot) (b : Nat) : List Slot × List Nat :=
  ranked.foldl (fun acc ps =>
    if (windowRows ps.1 b).isNone then acc
    else
      let adm := acc.1 ++ [ps.2]
      if adm.length ≤ 64 ∧ planCells prev adm ≤ 11520 then (adm, acc.2) else (acc.1, acc.2 ++ [ps.2.plane])) ([], [])

/-- `n` bands of the plan from band `b` (R143). -/
def planFrom (ranked : List (Plane × Slot)) : (n b : Nat) → List Slot → List (List Slot × List Nat × Nat)
  | 0, _, _ => []
  | n + 1, b, prev =>
    let r := planBand ranked prev b
    (r.1, r.2, planCells prev r.1) :: planFrom ranked n (b + 1) r.1

/-- The slot planner of a die (R143): the plan under the tables of `v`, the refused pairs and its largest band. -/
def State.makePlan (s v : State) (die : Fin 2) : State :=
  let bands := planFrom (v.rankedSlots die) 540 0 []
  s.modWv (fun w => { w with
    plan := w.plan.set die (bands.map (·.1)),
    refused := w.refused.set die (bands.zipIdx.flatMap (fun rb => rb.1.2.1.map (fun i => (rb.2, i)))),
    planMax := w.planMax.set die
      ((bands.map (fun r => r.1.length)).foldl max 0, (bands.map (fun r => r.2.2)).foldl max 0) })

/-- At a frame start BAND_STS shows the plan of the frame that ended (R159). -/
def State.showPlan (s : State) (die : Fin 2) : State :=
  let m := s.wv.planWas[die]
  let s := (s.wr WV.BAND_STS.SLOTS_MAX m.1 die).wr WV.BAND_STS.CELLS_MAX m.2 die
  s.modWv (fun w => { w with planWas := w.planWas.set die w.planMax[die] })

/-- The admitted slots of a band (R143). -/
def State.slotsOf (s : State) (die : Fin 2) (b : Nat) : List Slot := s.wv.plan[die].getD b []

/-- A plane is refused for a band (R144). -/
def State.isRefused (s : State) (die : Fin 2) (b i : Nat) : Bool := s.wv.refused[die].contains (b, i)

/-- The tiles of a plane that a window of a band covers (R142, R72). -/
def windowTiles (p : Plane) (col w b : Nat) : List Nat :=
  match windowRows p b with
  | none => []
  | some (lo, hi) =>
    (List.range (hi / 64 - lo / 64 + 1)).flatMap (fun ty =>
      (List.range w).map (fun tx => p.tileBase + (lo / 64 + ty) * p.wt + col + tx))

/-- The cells of a slot in a band: row group by row group, left to right (R146). -/
def slotCells (die : Nat) (p : Plane) (sl : Slot) (b : Nat) : List CellId :=
  match windowRows p b with
  | none => []
  | some (lo, hi) =>
    (List.range (hi / 16 - lo / 16 + 1)).flatMap (fun m =>
      (List.range sl.w).map (fun k => cellKey die sl.plane (lo / 16 + m) (sl.col + k)))

/-! ### Linear light (R147, R148) -/

/-- A colour channel's index k (R147). -/
def lightIndex (w v : Nat) : Nat :=
  if w = 5 then v * 32 + v else if w = 6 then v * 16 + v / 4 else if w = 8 then v * 4 + v / 64 else v

/-- An alpha channel's value a (R147). -/
def lightAlpha (w v : Nat) : Nat :=
  if w = 0 then 65535 else if w = 1 then v * 65535 else if w = 2 then v * 21845 else v * 257

/-- The default input curve IN[k] (R148), by exact comparison of powers. -/
def inCurve (k : Nat) : Nat :=
  if 100000 * k ≤ 4045 * 1023 then (2 * 6553500 * k + 1023 * 1292) / (2 * 1023 * 1292)
  else largest (fun r => decide ((2 * r - 1) ^ 5 * (1055 * 1023) ^ 12 ≤ 131070 ^ 5 * (1000 * k + 56265) ^ 12)) 16 0

/-- The default output curve OUT_c[i] (R152). -/
def outCurve (i : Nat) : Nat :=
  largest (fun v => decide ((2 * v - 1) ^ 11 * 1024 ^ 5 ≤ 131070 ^ 11 * i ^ 5)) 16 0

/-- The default of curve entry `k`: table k / 2,048 (0 IN, 1-3 OUT), entry k mod 2,048. -/
def curveDefault (k : Nat) : BitVec 16 :=
  BitVec.ofNat 16 (if k / 2048 = 0 then inCurve (k % 2048) else outCurve (k % 2048))

/-- The last entry of a curve table (R159). -/
def curveLast (t : Nat) : Nat := if t = 0 then 1023 else 1024

/-- A curve entry in force. -/
def State.curve (s : State) (die : Fin 2) (t i : Nat) : Nat := (tget curveDefault s.wv.curves[die] (2048 * t + i)).toNat

/-- A tap's pair (a, cp) of a cache word, a format and a colour (R147, R148). -/
def State.tapLight (s : State) (die : Fin 2) (fmt c word : Nat) : Nat × Nat :=
  let ch := pixSplit fmt word
  let a := lightAlpha (ch.getD 0 (0, 0)).1 (ch.getD 0 (0, 0)).2
  let v := ch.getD (1 + c) (0, 0)
  let lin := s.curve die 0 (lightIndex v.1 v.2)
  let a1 := a + a / 2 ^ 15
  (a, (lin * a1 + 32768) / 65536 % 65536)

/-! ### Filter and compositing (R149, R151) -/

/-- The four tap weights of a phase (R149): cubic, or linear with MODE = 1. -/
def filterWeights (linear : Bool) (phi : Int) : Int × Int × Int × Int :=
  if linear then (0, 1024 - 16 * phi, 16 * phi, 0)
  else
    let km1 := (-phi * phi * phi + 128 * phi * phi - 4096 * phi + 256) / 512
    let kp1 := (-3 * phi * phi * phi + 256 * phi * phi + 4096 * phi + 256) / 512
    let kp2 := (phi * phi * phi - 64 * phi * phi + 256) / 512
    (km1, 1024 - km1 - kp1 - kp2, kp1, kp2)

/-- The filtered pair of four taps (R149). -/
def filterTaps (k : Int × Int × Int × Int) (t0 t1 t2 t3 : Nat × Nat) : Nat × Nat :=
  let f (a b c d : Nat) : Int := (k.1 * a + k.2.1 * b + k.2.2.1 * c + k.2.2.2 * d + 512) / 1024
  let fa := clampI 0 65535 (f t0.1 t1.1 t2.1 t3.1)
  let fc := clampI 0 fa (f t0.2 t1.2 t2.2 t3.2)
  (fa.toNat, fc.toNat)

/-- One plane composited under what stands before it (R151). `acc` is (A, C). -/
def composite (e : Nat) (acc : Nat × Nat) (common : Bool) (pa pc : Nat) : Nat × Nat :=
  let pa := if common then pa else (pa * e + 128) / 256
  let pc := if common then pc else (pc * e + 128) / 256
  let t := 65535 - acc.1
  let t1 := t + t / 2 ^ 15
  (min 65535 (acc.1 + (pa * t1 + 32768) / 65536), min 65535 (acc.2 + (pc * t1 + 32768) / 65536))

/-! ### From light to panel code (R152-R155) -/

/-- The drive level of composited light (R152). -/
def State.outLevel (s : State) (die : Fin 2) (c light : Nat) : Nat :=
  let i := light / 64
  let f := light % 64
  let a : Int := s.curve die (1 + c) i
  let b : Int := s.curve die (1 + c) (i + 1)
  (a + ((b - a) * f + 32) / 64).toNat

/-- Bytes of a row that prefill fetched for a band of a frame, and whether a burst of them is uncorrectable (R146); straight from
HBM where no prefill of the band was issued (log entry 187). -/
def State.rowBytes (s : State) (die : Fin 2) (b f a n : Nat) : List Byte × Bool :=
  match s.wv.rows[die].find? (fun r => r.band == b && r.frame == f) with
  | some r => (tgets memDefault r.bytes a n, r.bad.any (fun kb => kb.2 && decide (a / 32 ≤ kb.1) && decide (kb.1 ≤ (a + n - 1) / 32)))
  | none => (s.hbmRd a n, s.hbmBad a n)

/-- The HBM address of node (i, j) of a colour (R153). -/
def State.nodeAddr (s : State) (die : Fin 2) (c i j : Nat) : Nat :=
  s.eff_ WV.UNI_NODE_LO die + s.eff_ WV.UNI_NODE_HI.ADDR die * 2 ^ 32 + ((136 * c + j) * 481 + i) * 4

/-- Node (i, j) of a colour for a line of band `b` of frame `f` (R153): gain and offset; an uncorrectable burst reads as 1.0 and
0 (R281). -/
def State.uniNode (s : State) (die : Fin 2) (b f c i j : Nat) : Int × Int :=
  let (bs, bad) := s.rowBytes die b f (s.nodeAddr die c i j) 4
  if bad then (32768, 0) else (leAt bs 0 2, sgn 16 (leAt bs 2 2))

/-- The residual of a subpixel (R153); 0 for an uncorrectable burst (R281). -/
def State.uniResid (s : State) (die : Fin 2) (y col : Nat) : Int :=
  let base := s.eff_ WV.UNI_ADDR_LO die + s.eff_ WV.UNI_ADDR_HI.ADDR die * 2 ^ 32
  let a := base + (8640 * die.val + y) * 46080 + col
  if s.hbmBad a 1 then 0 else sgn 8 (leAt (s.hbmRd a 1) 0 1)

/-- The HBM ranges of a line's residual reads on a die (R153). -/
def State.residReads (s : State) (die : Fin 2) (y : Nat) : List (Nat × Nat) :=
  if s.eff_ WV.OUT_CTL.UNI die = 0 then []
  else [(s.eff_ WV.UNI_ADDR_LO die + s.eff_ WV.UNI_ADDR_HI.ADDR die * 2 ^ 32 + (8640 * die.val + y) * 46080, 46080)]

/-- Uniformity correction in frame `f` (R153). -/
def State.uniform (s : State) (die : Fin 2) (f x y c v : Nat) : Nat :=
  if s.eff_ WV.OUT_CTL.UNI die = 0 then v
  else
    let gx := x % 64
    let gy := y % 64
    let node := s.uniNode die (y / 16) f c
    let n00 := node (x / 64) (y / 64)
    let n10 := node (x / 64 + 1) (y / 64)
    let n01 := node (x / 64) (y / 64 + 1)
    let n11 := node (x / 64 + 1) (y / 64 + 1)
    let mix (a b d e : Int) : Int :=
      (a * ((64 - gx) * (64 - gy) : Nat) + b * (gx * (64 - gy) : Nat) + d * ((64 - gx) * gy : Nat) + e * (gx * gy : Nat)
        + 2048) / 4096
    let r := s.uniResid die y (3 * (x - 15360 * die.val) + c)
    let g := clampI 0 65535 (mix n00.1 n10.1 n01.1 n11.1 + 32 * r)
    let o := mix n00.2 n10.2 n01.2 n11.2
    (clampI 0 65535 (((v : Int) * g + 16384) / 32768 + o)).toNat

/-- The panel depth D (R154). -/
def State.depth (s : State) (die : Fin 2) : Nat := if s.rd WV.OUT_CTL.DEPTH die = 0 then 12 else 10

/-- The dither matrix (R155). -/
def dither8 : List Nat :=
  [0, 32, 8, 40, 2, 34, 10, 42, 48, 16, 56, 24, 50, 18, 58, 26,
   12, 44, 4, 36, 14, 46, 6, 38, 60, 28, 52, 20, 62, 30, 54, 22,
   3, 35, 11, 43, 1, 33, 9, 41, 51, 19, 59, 27, 49, 17, 57, 25,
   15, 47, 7, 39, 13, 45, 5, 37, 63, 31, 55, 23, 61, 29, 53, 21]

/-- The accounting pair index of frame `f` (R155). -/
def pairIndex (f fs wb : Nat) : Nat := ((f + 2 ^ 32 - fs) % 2 ^ 32 + wb % 2) / 2

/-- The panel code of a bled level (R154, R155). -/
def ditherCode (depth : Nat) (dither : Bool) (pi x y c ub : Nat) : Nat :=
  let sh := 16 - depth
  let ph := pi % 4
  let th := if dither then dither8.getD ((y + 5 * ph) % 8 * 8 + (3 * x + c + 3 * ph) % 8) 0 / 2 ^ (6 - sh) else 2 ^ (sh - 1)
  min (2 ^ depth - 1) ((ub + th) / 2 ^ sh)

/-! ### The Wicker patterns (R170) -/

/-- The level of a pattern at a segment pixel and colour; `v` is the verdict code of R174. -/
def wicker (v x y c : Nat) : Nat :=
  if v = 1 then (if (x + y) / 64 % 2 = 1 then 1024 else 2048)
  else if v = 2 then (if (x + 8640 - y) / 32 % 2 = 1 then 0 else [24576, 8192, 0].getD c 0)
  else if v = 3 then (if (x / 32 + y / 32) % 2 = 1 then 0 else [16384, 0, 16384].getD c 0)
  else if x % 64 < 8 ∨ y % 64 < 8 then [32768, 0, 0].getD c 0 else [4096, 0, 0].getD c 0

/-! ### Register writes of the WV pages (R136, R159, R160) -/

/-- A write of MAP_CTL (R136): SWAP begins the check of the image at MAP_ADDR; while one is pending it is ignored, code
0x25. -/
def State.wrMapCtl (die : Fin 2) (v : Nat) (s : State) : WrRes :=
  if !bit v 0 then okW s
  else if s.rdB WV.MAP_CTL.SWAP die then ignCode (WV.PAGE + die) 0x25 (s.rd WV.MAP_CTL die) 0 s
  else
    let s := (s.wrB WV.MAP_CTL.SWAP true die).wrB WV.MAP_CTL.ERR false die
    okW (s.modWv (fun w => { w with
      mapBusy := w.mapBusy.set die true,
      mapAddr := w.mapAddr.set die (s.addr37 WV.MAP_ADDR_LO WV.MAP_ADDR_HI die) }))

/-- A weave map image (R135), or `none` when a field is illegal or its CHECK differs. -/
def parseMap (bs : List Byte) : Option WeaveMap :=
  if leAt bs 0 4 = 0x50414D57 ∧ leAt bs 4 2 = 1 ∧ 1 ≤ leAt bs 6 2 ∧ leAt bs 6 2 ≤ 256 ∧ leAt bs 20 2 = 121 ∧
      leAt bs 22 2 = 35 ∧ leAt bs 24 8 = 0 ∧ leAt bs 8502 4 = rim (bs.take 8502) 0 then
    some { nstk := leAt bs 6 2, ku := leAt bs 8 4, ky := leAt bs 12 4, p0 := leAt bs 16 4,
           grid := (List.range 4235).map (fun n => sgn 16 (leAt bs (32 + 2 * n) 2)) }
  else none

/-- MAP_CHECK_DONE (R136): the image's map waits for the apply point, or is refused with code 0x24. -/
def execMapCheckDone (die : Fin 2) (s : State) : Out :=
  if !s.wv.mapBusy[die] || s.mem.sealed then .next s
  else
    let a := s.wv.mapAddr[die]
    let s := s.modWv (fun w => { w with mapBusy := w.mapBusy.set die false })
    let bs := s.hbmRd a 8506
    let refuse (s : State) : State :=
      let s := (s.wrB WV.MAP_CTL.SWAP false die).wrB WV.MAP_CTL.ERR true die
      s.logc (WV.PAGE + die) 0x24 (s.rd WV.MAP_CTL die) (leAt bs 8502 4)
    match s.readFault a 8506 .throughput with
    | some s => .next (refuse (s.bump RIM.LOAD_ERR))
    | none => match parseMap bs with
      | some m => .next (s.modWv (fun w => { w with mapNext := w.mapNext.set die (some m) }))
      | none => .next (refuse (if leAt bs 8502 4 = rim (bs.take 8502) 0 then s else s.bump RIM.LOAD_ERR))

/-- A checked map comes into force on a die (R136). -/
def State.applyMap (s : State) (die : Fin 2) : State :=
  match s.wv.mapNext[die] with
  | none => s
  | some m =>
    let s := s.modWv (fun w => { w with map := w.map.set die m, mapNext := w.mapNext.set die none })
    let s := (s.wrB WV.MAP_CTL.SWAP false die).wr WV.MAP_CTL.NSTK m.nstk die
    let s := ((s.wr WV.MAP_KU m.ku die).wr WV.MAP_KY m.ky die).wr WV.MAP_P0 m.p0 die
    s.modScene (fun c => { c with tableChanged := true })

/-- A write of LUT_CTL (R159): SWAP waits for the next apply point; while one is pending it is ignored, code 0x25. -/
def State.wrLutCtl (die : Fin 2) (v : Nat) (s : State) : WrRes :=
  if !bit v 0 then okW s
  else if s.rdB WV.LUT_CTL.PENDING die then ignCode (WV.PAGE + die) 0x25 (s.rd WV.LUT_CTL die) 0 s
  else okW (s.wrB WV.LUT_CTL.PENDING true die)

/-- The index after an access of LUT_DATA with AUTO (R159). -/
def lutNext (t i : Nat) : Nat := if curveLast t ≤ i then 0 else i + 1

/-- AUTO advances INDEX after an access by a path (R159). -/
def State.lutStep (s : State) (die : Fin 2) (path : Path) : State :=
  if s.rdB WV.LUT_SEL.AUTO die path.num then
    s.wr WV.LUT_SEL.INDEX (lutNext (s.rd WV.LUT_SEL.TABLE die path.num) (s.rd WV.LUT_SEL.INDEX die path.num)) die path.num
  else s

/-- A write of LUT_DATA (R159): the selected entry of the shadow table. -/
def State.wrLutData (die : Fin 2) (path : Path) (v : Nat) (s : State) : WrRes :=
  let t := s.rd WV.LUT_SEL.TABLE die path.num
  let i := s.rd WV.LUT_SEL.INDEX die path.num
  if curveLast t < i then
    ign28 path (WV.PAGE + die) WV.LUT_DATA.VALUE.off v (s.lutStep die path)
  else
    okW ((s.modWv (fun w => { w with
      shadow := w.shadow.set die (tset curveDefault w.shadow[die] (2048 * t + i) (BitVec.ofNat 16 v)) })).lutStep die path)

/-- A read of LUT_DATA (R159): the selected entry, 0 beyond the table. -/
def State.rdLutData (die : Fin 2) (path : Path) (s : State) : Nat × State :=
  let t := s.rd WV.LUT_SEL.TABLE die path.num
  let i := s.rd WV.LUT_SEL.INDEX die path.num
  let tab := if s.rdB WV.LUT_SEL.SHADOW die path.num then s.wv.shadow[die] else s.wv.curves[die]
  (if curveLast t < i then 0 else (tget curveDefault tab (2048 * t + i)).toNat, s.lutStep die path)

/-- A write of OUT_CTL (R160): DEPTH only in Sill; DITHER and UNI wait for the apply point. -/
def State.wrOutCtl (die : Fin 2) (v : Nat) (s : State) : WrRes :=
  let old := s.rd WV.OUT_CTL.DEPTH die
  let s := (s.wr WV.OUT_CTL.DITHER (bits v 1 1) die).wr WV.OUT_CTL.UNI (bits v 2 2) die
  if s.mode.power = .sill then okW (s.wr WV.OUT_CTL.DEPTH v die)
  else if v % 2 ≠ old then ignCode (WV.PAGE + die) 0x27 (s.rd WV.OUT_CTL die) v s
  else okW s

/-- A write of LVR_CTL (R160): ENA waits for the apply point, and PENDING shows it. -/
def State.wrLvrCtl (die : Fin 2) (v : Nat) (s : State) : WrRes :=
  okW ((s.wr WV.LVR_CTL.ENA v die).wrB WV.LVR_CTL.PENDING true die)

/-- Exchange of the curve tables of a die, when one is pending (R159). -/
def State.applyLut (s : State) (die : Fin 2) : State :=
  if s.rdB WV.LUT_CTL.PENDING die then
    ((s.modWv (fun w => { w with curves := w.curves.set die w.shadow[die], shadow := w.shadow.set die w.curves[die] })).wrB
      WV.LUT_CTL.PENDING false die).modScene (fun c => { c with tableChanged := true })
  else s

/-- The settings of R160 come into force on a die; a change touches every row of the next pair (R233). -/
def State.applySettings (s : State) (die : Fin 2) : State :=
  let ch := [WV.LVR_CTL.ENA, WV.FLT_CTL.MODE, WV.OUT_CTL.DITHER, WV.UNI_ADDR_LO.ADDR, WV.UNI_ADDR_HI.ADDR,
             WV.UNI_NODE_LO.ADDR, WV.UNI_NODE_HI.ADDR]
  let s := s.wrB WV.LVR_CTL.PENDING false die
  let changed := (WV.OUT_CTL.DEPTH :: WV.OUT_CTL.UNI :: ch).any (fun f => s.eff_ f die != s.rd f die)
  let s := s.each ch (fun s f => s.latch f die)
  if changed then s.modScene (fun c => { c with tableChanged := true }) else s

/-- What the Weaver reads tables and settings of (R136, R160): behind the Sill picture, those that come into force with the first
Weaver frame, whose line 0 it computes before the frame starts. -/
def State.view (s : State) : State :=
  if s.mode.raster = .sill then
    s.each [0, 1] (fun s h => ((s.applyMap h).applyLut h).applySettings h)
  else s

/-- Louvres in force that reach at or beyond NSTK: code 0x26 at each apply point at which it holds (R158). -/
def State.louvreWarn (s : State) (die : Fin 2) : State :=
  if (enabledLouvres s.scene.louvres).any (fun il => decide ((s.map die).nstk ≤ il.2.last)) then
    s.logc (WV.PAGE + die) 0x26 (s.rd WV.MAP_CTL die) 0
  else s

end Sys2Proof.Machine
end

