-- ==== Sys2Proof/Machine/Fresh.lean ====
section
/-! DEFINITION. The freshness unit (chapter 7): verdict samples, the sweeps over the freshness table, the frame's counts and
the freshness fault. -/

namespace Sys2Proof.Machine

/-- The tiles that a band's slots cover on a die, and those of its refused planes (R161, R164 row 1). -/
def State.covered (s : State) (die : Fin 2) (b : Nat) : List (Nat × Bool) :=
  (s.slotsOf die b).flatMap (fun sl => match s.plane sl.plane with
    | some p => (windowTiles p sl.col sl.w b).map (fun h => (h, false))
    | none => []) ++
  (s.wv.refused[die].filter (·.1 == b)).flatMap (fun bi => match s.plane bi.2 with
    | some p => match s.slotOf die bi.2 p with
      | some sl => (windowTiles p sl.col sl.w b).map (fun h => (h, true))
      | none => []
    | none => [])

/-! ### Sweeps (R167-R169) -/

/-- The wrap sweep withdraws an entry (R168): its stamp lies more than 30 minutes from T. -/
def wrapBad (t : Nat) (e : Entry) : Bool :=
  e.timed && (decide (sdiff32 t e.stamp > 1800000000) || decide (sdiff32 e.stamp t > 1800000000))

/-- A pass of the wrap sweep is over; the next one starts at handle 0, with code 0x34 when the pass withdrew an entry (R168). -/
def State.wrapEnd (s : State) (hit : Bool) : State :=
  let s := s.modFrs (fun r => { r with wrapPos := 0, wrapHit := false })
  if hit then s.logc FRS.PAGE 0x34 (s.rd FRS.TIME_STS) 0 else s

/-- WRAP_SWEEP_VISIT (R168): the next entry of the continuous sweep. -/
def execWrapSweepVisit (s : State) : Out :=
  if !s.frs.wrapOn || s.mode.power == .discharge || s.frs.fastPass then .next s
  else
    let h := s.frs.wrapPos
    let met := s.scene.recent.any (fun r => r.commit && r.handle == h && r.at_ == s.clk.now)
    let bad := wrapBad s.tUs (s.entryRaw h) && !met
    let s := if bad then (s.withdraw h).resample else s
    let hit := s.frs.wrapHit || bad
    .next (if h + 1 < handles then s.modFrs (fun r => { r with wrapPos := h + 1, wrapHit := hit }) else s.wrapEnd hit)

/-- The fast pass begins on entry to Full or Standby-leaf (R168); it cuts a pass of the continuous sweep short. -/
def State.startFastPass (s : State) : State := (s.wrapEnd s.frs.wrapHit).modFrs (fun r => { r with fastPass := true })

/-- The fast pass runs to its end, and the continuous sweep starts again at handle 0 (R168). -/
def State.fastPass (s : State) : State :=
  if !s.frs.fastPass then s
  else
    let bad := s.handlesIn 0 handles (wrapBad s.tUs)
    ((s.each bad State.withdraw).modFrs (fun r => { r with fastPass := false })).wrapEnd (!bad.isEmpty)

/-- FAST_PASS_DONE (R168): one whole pass is complete. -/
def execFastPassDone (s : State) : Out := .next s.fastPass.resample

/-- The step sweep starts, or restarts with the steps summed (R167, R173). `told` is T before the step. -/
def State.startStepSweep (s : State) (d : Int) (told : BitVec 32) : State :=
  let n := match s.frs.stepSweep with
    | some (_, d0, t0) => (0, d0 + d, t0)
    | none => (0, d, told)
  let s := if s.frs.stepSweep.isNone then s.modFrs (fun r => { r with stepCount := 0 }) else s
  (s.modFrs (fun r => { r with stepSweep := some n })).wrB FRS.TIME_STS.STEP_SWEEP true

/-- STEP_SWEEP_DONE (R167, R173): every entry has been visited; code 0x33 with the withdrawn count. -/
def execStepSweepDone (s : State) : Out :=
  match s.frs.stepSweep with
  | none => .next s
  | some _ =>
    let s := s.stepVisit handles
    let s := (s.modFrs (fun r => { r with stepSweep := none })).wrB FRS.TIME_STS.STEP_SWEEP false
    .next (s.logc FRS.PAGE 0x33 (s.rd FRS.TIME_STS) s.frs.stepCount).resample

/-- The verification sweep starts (R169), with its record 0x35. -/
def State.startVerSweep (s : State) : State :=
  let s := (s.modFrs (fun r => { r with verSweep := some 0 })).wrB FRS.TIME_STS.VER_SWEEP true
  (s.logc FRS.PAGE 0x35 (s.rd FRS.TIME_STS) 0).resample

/-- VERIFICATION_SWEEP (R169): the running sweep clears V in the next entry. -/
def execVerificationSweep (s : State) : Out := .next (s.verVisit 1).resample

/-- VERIFICATION_SWEEP_DONE (R169): every entry has been visited, and the sweep ends. -/
def execVerificationSweepDone (s : State) : Out :=
  match s.frs.verSweep with
  | none => .next s
  | some _ =>
    .next (((s.verVisit handles).modFrs (fun r => { r with verSweep := none })).wrB FRS.TIME_STS.VER_SWEEP false).resample

/-! ### Verdict samples (R161-R164) -/

/-- The weave cycle of a line at which a half takes its verdict sample: 8 before its band read (R157, R161), MUL_SKEW later in
half B (R189). -/
def State.sampleWc (s : State) (half : Fin 2) : Nat := 20 + if half = 0 then 0 else s.eff_ SCN.MUL_SKEW

/-- The beam has not passed a half's sample cycle; behind the Sill picture, whose lines the Weaver does not follow, it never has. -/
def State.beforeSample (s : State) (half : Fin 2) : Bool :=
  s.mode.raster != .weaver || decide (s.clk.now - s.clk.lineAt ≤ s.sampleWc half)

/-- The state that a half's verdict sample sees (R161): the clock carried to its cycle, a fast pass under way complete (R168). -/
def State.atSample (s : State) (half : Fin 2) : State :=
  (if s.mode.raster = .weaver then s.toWc (s.sampleWc half) else s).fastPass

/-- VERDICT_SAMPLE (R161): the verdict of every tile the slots of the next line's band cover, with the time inputs and the
commit generation as they stand in the sample cycle (R179). A fast pass under way completes before it (R168). -/
def execVerdictSample (half : Fin 2) (s : State) : Out :=
  match s.nextLine with
  | none => .next s
  | some (l, f) =>
    if !s.beforeSample half then .next s
    else
      let s := s.atSample half
      let cov := s.view.covered half (l / 16)
      let rows := cov.foldl (fun t hr => tset (fun _ => 0) t hr.1 (s.rowNow hr.2 hr.1)) []
      let smp : SampleSt := {
        at_ := s.clk.now, line := l, frame := f, t := s.tUs, be := s.bE, valid := s.timeValid
        gen := s.rd ING.COMMIT_GEN, wg := s.weft.wg.toNat, rows := rows }
      let s' := s.modFrs (fun r => { r with
        sample := r.sample.set half smp
        seen := cov.foldl (fun t hr => tset (fun _ => (0, 0)) t hr.1 (s.rowNow hr.2 hr.1, s.ageNow hr.1)) r.seen
        timeBad := r.timeBad || !s.timeValid })
      .next ((s'.wr FRS.BOUND.BE smp.be).wr FRS.NOW.T smp.t)

/-- The accounts of a band read (R171, R233): a changed verdict sets the tile's dirty bit, and so does the first read after a
Weaver frame begins behind a Sill raster period; the worst verdict of the frame and the first tile that became Stale are kept. -/
def State.countVerdict (s : State) (half : Fin 2) (h row : Nat) : State :=
  let k := 2 * h + half.val
  let old := tget (fun _ => 0) s.frs.lastVerdict k
  let changed := old == 0 || rowVerdict old != rowVerdict row
  let s := if changed || s.frs.again.contains k then s.setDirty h else s
  s.modFrs (fun r => { r with
    lastVerdict := tset (fun _ => 0) r.lastVerdict k row
    again := r.again.filter (· != k)
    worst := (let w := tget (fun _ => 0) r.worst h
              tset (fun _ => 0) r.worst h (if w = 0 then row else min w row))
    firstStale := if changed && rowVerdict row == 2 && r.firstStale.isNone then some h else r.firstStale })

/-! ### Time (R162, R166, R173) -/

/-- TIME_STS follows the time inputs; a change of validity is logged (R173). -/
def State.freshTimeSts (s : State) : State :=
  let v := s.timeValid
  let s := ((s.wrB FRS.TIME_STS.VALID v).wrB FRS.TIME_STS.TVAL (s.rdB TIM.STS.TVAL)).wrB FRS.TIME_STS.JUMP (s.jumpUs != 0)
  let s := if v = s.frs.wasValid then s
    else
      let s := s.modFrs (fun r => { r with wasValid := v })
      s.logc FRS.PAGE (if v then 0x31 else 0x30) (s.rd FRS.TIME_STS) 0
  s.resample

/-- A jump is refused (R173): code 0x32 with J. -/
def State.jumpRefused (s : State) : State := s.freshTimeSts.logc FRS.PAGE 0x32 (s.rd FRS.TIME_STS) s.jumpUs

/-! ### The frame's counts and the freshness fault (R171, R172) -/

/-- Tiles of the frame counted under a verdict. -/
def State.countOf (s : State) (v : Nat) : Nat := (s.frs.worst.filter (fun kv => rowVerdict kv.2 == v)).length

/-- The conditions of R172 that hold, in the bit order of ALM_CTL. -/
def State.almConds (s : State) : Nat :=
  b2n (s.countOf 2 != 0) + 2 * b2n (s.countOf 4 != 0) + 4 * b2n (s.countOf 3 != 0) + 8 * b2n (s.countOf 1 != 0) +
  16 * b2n s.frs.timeBad

/-- The freshness unit at the start of line 8,640 (R171, R172). -/
def State.freshFrameCount (s : State) : State :=
  let cause := s.almConds
  let s := (s.wr FRS.CNT_CONTENT.COUNT (s.countOf 0)).wr FRS.CNT_NODATA.COUNT (s.countOf 1)
  let s := ((s.wr FRS.CNT_STALE.COUNT (s.countOf 2)).wr FRS.CNT_UNVER.COUNT (s.countOf 3)).wr FRS.CNT_FAULT.COUNT (s.countOf 4)
  let s := (s.wr FRS.FIRST_STALE.HANDLE (s.frs.firstStale.getD 0)).wrB FRS.FIRST_STALE.VALID s.frs.firstStale.isSome
  let s := s.modFrs (fun r => { r with worst := [], firstStale := none, timeBad := false })
  let en := s.eff_ FRS.ALM_CTL % 32
  let hit := cause &&& en != 0
  let clean := if hit then 0 else min 255 (s.rd FRS.ALM_STS.CLEAN + 1)
  let was := s.rdB FRS.ALM_STS.ACTIVE
  let s := (s.wr FRS.ALM_STS.CAUSE cause).wr FRS.ALM_STS.CLEAN clean
  if hit then
    let s := s.wrB FRS.ALM_STS.ACTIVE true
    if was then s else s.logc FRS.PAGE 0x36 (s.rd FRS.ALM_STS) cause
  else if was && decide (max 1 (s.eff_ FRS.ALM_CTL.CLR_FR) ≤ clean) then
    let s := s.wrB FRS.ALM_STS.ACTIVE false
    s.logc FRS.PAGE 0x37 (s.rd FRS.ALM_STS) cause
  else s

end Sys2Proof.Machine
end

