-- ==== Sys2Proof/Machine/Drive.lean ====
section
/-! DEFINITION. Panel drive (chapter 10): waveform tables and their checks, bands, rails in force, gate timing, DC
bookkeeping and the register writes of the PDV pages. -/

namespace Sys2Proof.Machine

/-! ### Waveform tables (R224, R226, R227) -/

/-- A phase of a table image at offset `o` (R226), `none` when a field is illegal. -/
def parsePhase (bs : List Byte) (o : Nat) : Option WavePhase :=
  let p : WavePhase := {
    ofs := sgn 16 (leAt bs o 2), gon := leAt bs (o + 2) 2, goe := leAt bs (o + 4) 2,
    gma := (List.range 14).map (fun k => leAt bs (o + 8 + 2 * k) 2) }
  if -200 ≤ p.ofs ∧ p.ofs ≤ 200 ∧ 1 ≤ p.gon ∧ p.gon ≤ 4095 ∧ 1 ≤ p.goe ∧ p.goe ≤ 64 ∧ leAt bs (o + 6) 2 = 0 ∧
      p.gma.all (fun g => decide (25 ≤ g) && decide (g ≤ 3750)) ∧ leAt bs (o + 36) 4 = 0 then some p
  else none

/-- A band of a table image at offset `o` (R226), `none` when a field is illegal. -/
def parseBand (bs : List Byte) (o : Nat) : Option WaveBand :=
  match parsePhase bs (o + 16), parsePhase bs (o + 56), parsePhase bs (o + 96), parsePhase bs (o + 136) with
  | some p0, some p1, some p2, some p3 =>
    let b : WaveBand := {
      tUp := sgn 16 (leAt bs o 2), vgh := leAt bs (o + 2) 2, vgl := sgn 16 (leAt bs (o + 4) 2),
      vcom := leAt bs (o + 6) 2, ph := [p0, p1, p2, p3] }
    if 18000 ≤ b.vgh ∧ b.vgh ≤ 35000 ∧ b.vgh % 50 = 0 ∧ -15000 ≤ b.vgl ∧ b.vgl ≤ -4000 ∧ b.vgl % 50 = 0 ∧
        2000 ≤ b.vcom ∧ b.vcom ≤ 9000 ∧ leAt bs (o + 8) 8 = 0 then some b
    else none
  | _, _, _, _ => none

/-- A table image with every field legal but PANEL and CHECK (R226, R227 check 1). -/
def parseWave (bs : List Byte) : Option Waveform :=
  match parseBand bs 32, parseBand bs 208, parseBand bs 384, parseBand bs 560, parseBand bs 736 with
  | some b0, some b1, some b2, some b3, some b4 =>
    if leAt bs 0 4 = 0x4D524657 ∧ leAt bs 4 2 = 1 ∧ leAt bs 6 2 = 5 ∧ (slice bs 16 16).all (· == 0) ∧
        b0.tUp < b1.tUp ∧ b1.tUp < b2.tUp ∧ b2.tUp < b3.tUp then
      some { panel := leAt bs 8 8, band := [b0, b1, b2, b3, b4] }
    else none
  | _, _, _, _, _ => none

/-- Phase p of a band. -/
def WaveBand.phase (b : WaveBand) (p : Nat) : WavePhase := b.ph.getD (p % 4) ⟨0, 0, 0, []⟩

/-- Band k of a table. -/
def Waveform.bandAt (w : Waveform) (k : Nat) : WaveBand := w.band.getD k ⟨0, 0, 0, 0, []⟩

/-- Vc[p] of R227. -/
def WaveBand.vc (b : WaveBand) (p : Nat) : Int := b.vcom + (b.phase p).ofs

/-- The references of a phase in mV. -/
def WavePhase.mv (p : WavePhase) : List Int := p.gma.map (fun g => ((4 * g : Nat) : Int))

/-- a_k[p] of R227. -/
def WaveBand.amps (b : WaveBand) (p : Nat) : List Nat := (b.phase p).mv.map (fun g => (g - b.vc p).natAbs)

/-- Every pair of the two lists differs by at most `m`. -/
def within (m : Nat) (xs ys : List Nat) : Bool := (xs.zip ys).all (fun p => decide (p.1 ≤ p.2 + m) && decide (p.2 ≤ p.1 + m))

/-- A list that never falls. -/
def ascending : List Int → Bool
  | x :: y :: t => decide (x ≤ y) && ascending (y :: t)
  | _ => true

/-- R227 check 2. -/
def WaveBand.ordered (b : WaveBand) : Bool :=
  (List.range 4).all (fun p =>
    let l := b.vc p :: (b.phase p).mv
    if p % 2 = 0 then ascending l else ascending (l.map (fun v => -v)))

/-- R227 check 3. -/
def WaveBand.balanced (b : WaveBand) : Bool := (List.range 4).all (fun p => within 8 (b.amps p) (b.amps ((p + 1) % 4)))

/-- R227 check 4 for two adjacent bands. -/
def adjacentOk (a b : WaveBand) : Bool := within 20 (a.amps 3) (b.amps 0) && within 20 (b.amps 3) (a.amps 0)

/-- The gate timing of every phase is legal for a raster (R224). -/
def Waveform.gateOk (w : Waveform) (linePer gateDly : Nat) : Bool :=
  w.band.all (fun b => b.ph.all (fun p =>
    decide ((p.gon + p.goe) * 16 * 256 ≤ 5 * linePer) && decide (p.goe * 16 < gateDly)))

/-- The checks of R227 on an image: the first reason that applies, or the table. -/
def checkWave (bs : List Byte) (panelType linePer gateDly : Nat) : Nat × Option Waveform :=
  match parseWave bs with
  | none => (1, none)
  | some w =>
    if !w.band.all WaveBand.ordered then (2, none)
    else if !w.band.all WaveBand.balanced then (3, none)
    else if !(List.range 4).all (fun i => adjacentOk (w.bandAt i) (w.bandAt (i + 1))) then (4, none)
    else if !w.gateOk linePer gateDly then (5, none)
    else if w.panel ≠ panelType then (6, none)
    else if leAt bs 912 4 ≠ rim (bs.take 912) 0 then (7, none)
    else (0, some w)

/-- A write of WF_CTL (R228, R238): SWAP begins the check of the image at WF_ADDR; while one is pending it is ignored with
the ignored-write record. -/
def State.wrWfCtl (h : Fin 2) (path : Path) (v : Nat) (s : State) : WrRes :=
  if !bit v 0 then okW s
  else if s.rdB PDV.WF_CTL.SWAP h then ign28 path (PDV.PAGE + h) PDV.WF_CTL.SWAP.off v s
  else
    let s := ((s.wrB PDV.WF_CTL.SWAP true h).wrB PDV.WF_CTL.ERR false h).wr PDV.WF_CTL.WHY 0 h
    okW (s.modPanel (fun p => { p with waveBusy := p.waveBusy.set h true }))

/-- A write of WF_ADDR_LO or WF_ADDR_HI (R244). -/
def wrWfAddr (h : Fin 2) (path : Path) (off v : Nat) (s : State) : WrRes :=
  if s.rdB PDV.WF_CTL.SWAP h then ign28 path (PDV.PAGE + h) off v s else okW (s.plainWrite (PDV.PAGE + h) off 0 v)

/-- A waveform table is refused (R227, R228): SWAP clears, ERR and WHY, event WF_ERR and code 0x62. -/
def State.refuseWave (s : State) (h : Fin 2) (why : Nat) : State :=
  let s := ((s.wrB PDV.WF_CTL.SWAP false h).wrB PDV.WF_CTL.ERR true h).wr PDV.WF_CTL.WHY why h
  (s.event (PDV.PAGE + h) 4).logc (PDV.PAGE + h) 0x62 (s.rd PDV.WF_CTL h) 0

/-- WAVEFORM_CHECK_DONE (R227, R228): the table waits for the next cycle, or is refused. A failed check of the image, by its
CHECK or by an uncorrectable read, counts in RIM.LOAD_ERR (R184). -/
def execWaveformCheckDone (h : Fin 2) (s : State) : Out :=
  if !s.panel.waveBusy[h] || s.mem.sealed then .next s
  else
    let a := s.addr37 PDV.WF_ADDR_LO PDV.WF_ADDR_HI h
    let s := s.modPanel (fun p => { p with waveBusy := p.waveBusy.set h false })
    let bs := s.hbmRd a 916
    match s.readFault a 916 .throughput with
    | some s => .next ((s.bump RIM.LOAD_ERR).refuseWave h 7)
    | none =>
      match checkWave bs s.boot.cfg.panelType (s.eff_ SCN.LINE_PER) (s.rd PDV.GATE_CTL.GATE_DLY h) with
      | (_, some w) => .next (s.modPanel (fun p => { p with waveNext := p.waveNext.set h (some w) }))
      | (why, none) =>
        .next ((if leAt bs 912 4 = rim (bs.take 912) 0 then s else s.bump RIM.LOAD_ERR).refuseWave h why)

/-! ### Bands (R229, R230) -/

/-- The panel sensors of a half (R415). -/
def panelSensors (h : Fin 2) : List Nat := (List.range 4).map (fun k => 4 + 4 * h.val + k)

/-- Tp of a half (R229), in 0.1 °C: the mean of its sensors that are not broken; `none` when all are. -/
def State.tp (s : State) (h : Fin 2) : Option Int :=
  let ts := ((panelSensors h).filter (fun k => !s.rdB THM.SEN_STS.BROKEN 0 k)).map (fun k => s.rdI THM.SEN_STS.TEMP 0 k)
  if ts.isEmpty then none else some (fdiv ts.sum ts.length)

/-- The band after band `k` at Tp (R229). -/
def bandStep (w : Waveform) (k : Nat) (tp : Option Int) : Nat :=
  match tp with
  | none => 4
  | some t =>
    if k < 4 ∧ (w.bandAt k).tUp ≤ t then k + 1
    else if 0 < k ∧ t < (w.bandAt (k - 1)).tUp - 20 then k - 1
    else k

/-- The band of the first Weaver frame (R229). -/
def bandDirect (w : Waveform) (tp : Option Int) : Nat :=
  match tp with
  | none => 4
  | some t => ((List.range 4).find? (fun k => decide (t < (w.bandAt k).tUp))).getD 4

/-- WV_STS.TP and PENDING follow the sensors (R230, R243). -/
def State.showTp (s : State) (h : Fin 2) : State :=
  let s := match s.tp h with | some t => s.wrI PDV.WV_STS.TP t h | none => s
  match s.panel.wave[h] with
  | some w => if s.mode.raster = .weaver then s.wrB PDV.WV_STS.PENDING (bandStep w (s.band h) (s.tp h) != s.band h) h else s
  | none => s

/-- The band decision at (8,640, 0) of a phase-3 frame (R229). A standby leaf takes the band of the active leaf's LINE
messages instead (R381), which stands in BAND_NEXT already. -/
def State.decideBand (s : State) (h : Fin 2) : State :=
  if s.mode.power = .standbyLeaf then s
  else match s.panel.wave[h] with
  | some w => s.wr PDV.WV_STS.BAND_NEXT (bandStep w (s.band h) (s.tp h)) h
  | none => s

/-- One step of the VCOM calibration of a half (R424): 1 mV per cycle boundary. -/
def State.vcomStep (s : State) (h : Fin 2) : State :=
  let d := (s.thm.vcomLeft[h]).sign
  if bit (s.rd CLB.STS.RUNNING) 2 && d != 0 then
    (s.wrI PDV.VCOM_TRIM.MV (s.rdI PDV.VCOM_TRIM.MV h + d) h).modThm (fun t => { t with
      vcomLeft := t.vcomLeft.set h (t.vcomLeft[h] - d) })
  else s

/-- VCOM_TRIM at a cycle boundary (R222, R244, R424): the step of a calibration run, and the value in force for the cycle. The
rails of phase 0 are set before the boundary, so a value written behind their window waits for the next one (log entry 195). -/
def State.trimStart (s : State) (h : Fin 2) : State :=
  let next := s.panel.trimNext[h]
  let s := s.modPanel (fun p => { p with trimNext := p.trimNext.set h none })
  match next with
  | some (t, step) => (if step then s.vcomStep h else s).wrEff PDV.VCOM_TRIM.MV (wrapI PDV.VCOM_TRIM.MV.width t) h
  | none => (s.vcomStep h).latch PDV.VCOM_TRIM h

/-- A cycle begins (R228, R230, R244): the band of the cycle comes into force with event BAND_CHG and code 0x63, a checked
table replaces the one in force, and VCOM_TRIM and DC_CTL take effect. -/
def State.cycleStart (s : State) (h : Fin 2) : State :=
  let s := match s.panel.waveNext[h] with
    | some w =>
      (s.modPanel (fun p => { p with wave := p.wave.set h (some w), waveNext := p.waveNext.set h none })).wrB
        PDV.WF_CTL.SWAP false h
    | none => s
  let nb := s.rd PDV.WV_STS.BAND_NEXT h
  let s := if nb = s.band h then s
    else ((s.event (PDV.PAGE + h) 0).logc (PDV.PAGE + h) 0x63 (s.rd PDV.WV_STS h)
      (wrapI 16 (s.rdI PDV.WV_STS.TP h) * 2 ^ 16 + nb * 2 ^ 8 + s.band h)).wr PDV.WV_STS.BAND nb h
  ((s.wrB PDV.WV_STS.PENDING false h).trimStart h).latch PDV.DC_CTL.ENA h

/-! ### Rails in force (R220, R222) -/

/-- The Sill set's rails at a polarity (R220): the mirrored references in negative frames. -/
def sillRails (r : Rails) (negative : Bool) : Rails :=
  if negative then { r with gma := r.gma.map (fun g => 2 * r.vcom - g) } else r

/-- A Sill drive set whose mirrored references stay within 0.100 to 15.000 V (R220). -/
def sillSetOk (r : Rails) : Bool :=
  r.gma.all (fun g => decide (100 ≤ 2 * r.vcom - g) && decide (2 * r.vcom - g ≤ 15000))

/-- VCOM of a band and phase with a trim, before its clamp (R220). -/
def WaveBand.vcomRaw (b : WaveBand) (p : Nat) (trim : Int) : Int := b.vc p + trim

/-- The rails of a band and phase with a trim (R220). -/
def WaveBand.rails (b : WaveBand) (p : Nat) (trim : Int) : Rails :=
  { vgh := b.vgh, vgl := b.vgl, vcom := clampI 2000 9000 (b.vcomRaw p trim), gma := (b.phase p).mv }

/-- Set a half's rails for a phase (R220, R222): before phase 0 from the table, band and trim of the coming cycle. The
first VCOM clamp of a cycle is logged with code 0x69. -/
def State.setWaveRails (s : State) (h : Fin 2) (p : Nat) : State :=
  let first := p == 0
  let w := if first then s.panel.waveNext[h] <|> s.panel.wave[h] else s.panel.wave[h]
  match w with
  | none => s
  | some w =>
    let b := w.bandAt (if first then s.rd PDV.WV_STS.BAND_NEXT h else s.band h)
    let step := (s.vcomStep h).rdI PDV.VCOM_TRIM.MV h
    let trim := if first then step else s.effI PDV.VCOM_TRIM.MV h
    let s := s.modPanel (fun q => { q with
      rails := q.rails.set h (b.rails p trim)
      trimNext := if first then q.trimNext.set h (some (trim, trim != s.rdI PDV.VCOM_TRIM.MV h)) else q.trimNext })
    let s := if first then s.wrB PDV.RAIL_STS.VCOM_CLAMP false h else s
    if clampI 2000 9000 (b.vcomRaw p trim) ≠ b.vcomRaw p trim ∧ s.rdB PDV.RAIL_STS.VCOM_CLAMP h = false then
      let s := s.wrB PDV.RAIL_STS.VCOM_CLAMP true h
      s.logc (PDV.PAGE + h) 0x69 (s.rd PDV.RAIL_STS h) 0
    else s

/-- RAIL_CHANGE_WINDOW (R222): between (8,642, 0) and (VTOTAL - 6, 0) the next frame's rails are set in every half whose
rails are up. -/
def execRailChangeWindow (s : State) : Out :=
  let l := s.clk.line.toNat
  if s.mode.raster = .weaver ∧ 8642 ≤ l ∧ l < s.vtotal - 6 then
    -- both halves
    .next (s.each ([0, 1] : List (Fin 2)) (fun s h =>
      if s.rdB PDV.RAIL_STS.UP h then s.setWaveRails h (s.phaseOf s.frameAfter) else s))
  else .next s

/-! ### Gate clocks (R223, R224)

The gate clocks follow the beam: what they show is computed from it, from the phase's GON and GOE and from GATE_DLY. -/

/-- GON and GOE, in 10 ns, of the frame in progress or of the next one (R224): its waveform table's entry. The spec gives the Sill
raster's frames none (log entry 196). -/
def State.gateTiming (s : State) (h : Fin 2) (next : Bool) : Nat × Nat :=
  let p := s.phaseOf (if next then s.frameAfter else s.clk.frame.toNat)
  let start := next && p == 0
  match (if start then s.panel.waveNext[h] <|> s.panel.wave[h] else s.panel.wave[h]) with
  | some w =>
    if s.mode.raster = .weaver then
      let e := (w.bandAt (if start then s.rd PDV.WV_STS.BAND_NEXT h else s.band h)).phase p
      (e.gon, e.goe)
    else (Sys2Proof.Config.sillGate 0, Sys2Proof.Config.sillGate 1)
  | none => (Sys2Proof.Config.sillGate 0, Sys2Proof.Config.sillGate 1)

/-- Weave cycles from line 0 of the frame in progress to the start of line `l` of that frame or of the next (R5). -/
def State.lineFrom (s : State) (next : Bool) (l : Nat) : Int :=
  if !next then s.lineEdge l
  else if s.mode.raster = .weaver then
    s.lineEdge s.vtotal + s.scan.trim + s.scan.stretch + ((l * s.rd SCN.LINE_EFF.PER + 255 - s.fracNext) / 256 : Nat)
  else s.lineEdge (s.vtotal + l)

/-- The weave cycle, from line 0 of the frame in progress, at which the column drivers put row `l`'s codes on their outputs
(R224). -/
def State.codesAt (s : State) (h : Fin 2) (next : Bool) (l : Nat) : Int :=
  s.lineFrom next (l + 1) + 200 + s.rd PDV.GATE_CTL.GATE_DLY h

/-- When the gate of row `l` opens and closes, as `State.codesAt` counts (R224). -/
def State.gateEdges (s : State) (h : Fin 2) (next : Bool) (l : Nat) : Int × Int :=
  let (gon, goe) := s.gateTiming h next
  let close := s.codesAt h next (l + 1) - 16 * goe
  (close - 16 * gon, close)

/-- The beam's weave cycle, from line 0 of the frame in progress. -/
def State.beamAt (s : State) : Int := s.lineEdge s.clk.line.toNat + ((s.clk.now - s.clk.lineAt : Nat) : Int)

/-- The gate of row `l` is open now (R224). -/
def State.gateOpen (s : State) (h : Fin 2) (next : Bool) (l : Nat) : Bool :=
  let e := s.gateEdges h next l
  s.panel.gatesOn[h] && decide (e.1 ≤ s.beamAt) && decide (s.beamAt < e.2)

/-- GCK_k is high (R223): 0 to 5 while the gate of a row y with y mod 6 = k is open, 6 in the line period before row 0 opens, 7 for
all-gate-on. GCKB_k is its complement. A gate that is open belongs to a row within 12 of the beam's line. -/
def State.gck (s : State) (h : Fin 2) (k : Nat) : Bool :=
  let l := s.clk.line.toNat
  if k < 6 then
    (List.range 24).any (fun i =>
      (decide (12 ≤ l + i) && decide (l + i < 8652) && (l + i - 12) % 6 == k && s.gateOpen h false (l + i - 12)) ||
      (decide (s.vtotal ≤ l + i) && (l + i - s.vtotal) % 6 == k && s.gateOpen h true (l + i - s.vtotal)))
  else if k = 6 then
    s.panel.gatesOn[h] && [false, true].any (fun next =>
      let on := (s.gateEdges h next 0).1
      decide (on - (s.lineEff + 128) / 256 ≤ s.beamAt) && decide (s.beamAt < on))
  else s.panel.allGate[h]

/-! ### Register writes (R243, R244) -/

/-- A write of GATE_CTL (R244): only in Sill, and only when every phase of the table in force still meets R224. -/
def wrGateCtl (h : Fin 2) (path : Path) (v : Nat) (s : State) : WrRes :=
  if s.mode.power ≠ .sill then ign28 path (PDV.PAGE + h) PDV.GATE_CTL.GATE_DLY.off v s
  else match s.panel.wave[h] with
  | some w =>
    if w.gateOk (s.eff_ SCN.LINE_PER) (v % 4096) then okW (s.wr PDV.GATE_CTL.GATE_DLY v h)
    else ignCode (PDV.PAGE + h) 0x62 (s.rd PDV.WF_CTL h) v s
  | none => okW (s.wr PDV.GATE_CTL.GATE_DLY v h)

/-- A write of RES_ADDR (R244): only in Sill. -/
def wrResAddr (h : Fin 2) (path : Path) (off v : Nat) (s : State) : WrRes :=
  if s.mode.power ≠ .sill then ign28 path (PDV.PAGE + h) off v s else okW (s.plainWrite (PDV.PAGE + h) off 0 v)

/-! ### DC bookkeeping (R231-R237) -/

/-- Offset of a subpixel's byte in the R and H planes (R231). -/
def dcOfs (h line col : Nat) : Nat := (8640 * h + line) * 46080 + col

/-- The R plane's address as a half's page gives it (R231). -/
def State.resAddr (s : State) (h : Fin 2) : Nat := s.addr37 PDV.RES_ADDR_LO PDV.RES_ADDR_HI h

/-- Bytes from the R plane to the H plane (R231). -/
def pairOfs : Nat := 0x2F760000

/-- A residue byte as the DC unit reads it in frame `f`, from the row that the band's prefill fetched (R235): -128 reads as -127;
0 for an uncorrectable burst (R231, R281). -/
def State.residue (s : State) (h : Fin 2) (f line col : Nat) : Int :=
  let (bs, bad) := s.rowBytes h (line / 16) f (s.resAddr h + dcOfs h line col) 1
  if bad then 0 else max (-127) (sgn 8 (leNat bs))

/-- A residue whose burst is uncorrectable: its row counts as touched (R281). -/
def State.residueBad (s : State) (h : Fin 2) (f line : Nat) : Bool :=
  (s.rowBytes h (line / 16) f (s.resAddr h + dcOfs h line 0) 46080).2

/-- The pair store byte of a subpixel; `ho` for an uncorrectable burst (R281). -/
def State.pairByte (s : State) (h : Fin 2) (line col ho : Nat) : Nat :=
  let a := s.resAddr h + pairOfs + dcOfs h line col
  if s.hbmBad a 1 then ho else leNat (s.hbmRd a 1)

/-- Store a residue. -/
def State.putResidue (s : State) (h : Fin 2) (line col : Nat) (r : Int) : State :=
  s.hbmWr (s.resAddr h + dcOfs h line col) [BitVec.ofNat 8 (wrapI 8 r)]

/-- The bleed step n of a residue and whether a unit is due off it at this pair (R234). -/
def bleed (ena : Bool) (thr : Nat) (polS : Int) (depth pi : Nat) (r : Int) : Int × Bool :=
  let a := r.natAbs
  if ena && decide (thr ≤ a) then
    let b := if 2 * thr ≤ a then 2 else 1
    let sg : Int := if r < 0 then -1 else 1
    (sg * polS * b, pi % (2 ^ (depth - 8) / b) == 0)
  else (0, false)

/-- The new residue of a subpixel and whether it saturated (R234). `imb` is H - ho of a touched row, else 0. A unit taken off a
residue at the end of the range leaves it there: -128 is never written (R231; log entry 197). -/
def settle (polS imb r : Int) (n : Int) (unit : Bool) : Int × Bool :=
  let r1 := r + polS * imb
  let r2 := clampI (-127) 127 r1
  let sg : Int := if r < 0 then -1 else 1
  (if n ≠ 0 ∧ unit then clampI (-127) 127 (r2 - sg) else r2, r2 != r1)

/-- The settle polarity of a band (R232). -/
def polS (band : Nat) : Int := if band % 2 = 0 then 1 else -1

/-- Frame `f` is the first Weaver frame behind a Sill raster period: a pair that ends in it spans the handover (R238). -/
def State.firstFrame (s : State) (f : Nat) : Bool :=
  s.mode.raster != .weaver || (s.panel.firstWeaver && s.clk.frame.toNat == f)

/-- Whether frame `f` settles in band `b` (R232); a pair that spans a Sill handover is not counted (R238). -/
def State.settles (s : State) (f b : Nat) : Bool := s.phaseOf f % 2 != b % 2 && !s.firstFrame f

/-- Whether frame `f` is a store frame in band `b` (R232). -/
def State.stores (s : State) (f b : Nat) : Bool := s.phaseOf f % 2 == b % 2

/-- RES_STS.MAX over the last two frames (R237). -/
def State.noteResidue (s : State) (h : Fin 2) (m : Nat) : State :=
  let old := s.panel.resMax[h]
  let s := s.modPanel (fun p => { p with resMax := p.resMax.set h (old.1, max old.2 m) })
  s.wr PDV.RES_STS.MAX (max old.1 (max old.2 m)) h

/-- The accounts of saturated residues of a row (R236): STAT_SAT, and once per frame per half event DC_SAT and code 0x61
with the row. -/
def State.noteSat (s : State) (h : Fin 2) (line n : Nat) : State :=
  if n = 0 then s
  else
    let s := s.bump PDV.STAT_SAT n h
    if s.panel.satLogged[h] then s
    else
      let s := s.modPanel (fun p => { p with satLogged := p.satLogged.set h true })
      (s.event (PDV.PAGE + h) 3).logc (PDV.PAGE + h) 0x61 (s.rd PDV.RES_STS h) line

/-- One subpixel of a settle row with its imbalance: its residue is written when it changes (R234). -/
def State.settleOne (s : State) (h : Fin 2) (line : Nat) (pol imb : Int) (u : SettleSub) : State × Bool :=
  let (r1, sat) := settle pol imb u.r u.bleed u.unit
  let s := if r1 = u.r then s else s.putResidue h line u.col r1
  (s.noteResidue h (max u.r.natAbs r1.natAbs), sat)

/-- The subpixels of a settle row, written back in column order; the number that saturated. -/
def State.settleRow (s : State) (h : Fin 2) (line : Nat) (pol : Int) (imb : SettleSub → Int) :
    List SettleSub → State × Nat
  | [] => (s, 0)
  | u :: us =>
    let (s, sat) := s.settleOne h line pol (imb u) u
    let (s, n) := State.settleRow s h line pol imb us
    (s, n + b2n sat)

/-- The key of a row in `PanelSt.rowMark`. -/
def rowKey (h line : Nat) : Nat := 8640 * h + line

/-- The repair queue of an active leaf above REPAIR_MAX is recorded once per frame (R381). -/
def State.repairOver (s : State) : State :=
  if s.rd LEF.STS.ROLE = 2 ∧ s.rd LEF.REPAIR_MAX < s.rd LEF.REPAIR_Q then s.logOnce 0 LEF.PAGE 0xC6 (s.rd LEF.REPAIR_Q) 0
  else s

/-- LEF.REPAIR_Q follows the repairs queued or waiting for their row (R381). -/
def State.repairSts (s : State) : State :=
  (s.wr LEF.REPAIR_Q.BYTES (((s.leaf.repairQ ++ s.leaf.repairIn).map (fun r => r.bytes.length)).foldl (· + ·) 0)).repairOver

/-- The body of a REPAIR message (R377). -/
def RepairRec.body (r : RepairRec) : List Byte :=
  [0x05] ++ beBytes 1 r.half ++ beBytes 2 r.line ++ beBytes 2 r.col ++ beBytes 2 r.bytes.length ++ r.bytes

/-- The repair queue leaves on port 23 while it is Up (R380). -/
def State.flushRepairs (s : State) : State :=
  if s.rdB LEF.STS.HINGE_UP then
    (s.each s.leaf.repairQ (fun s r => s.mirror r.body)).modLeaf (fun l => { l with repairQ := [] })
  else s

/-- SYNC messages of a memory range (R377, R382): at most 8,192 bytes each. -/
def State.sendSync (s : State) (area a : Nat) : (n : Nat) → List Byte → State
  | 0, _ => s
  | n + 1, bs =>
    if bs.isEmpty then s
    else State.sendSync (s.mirror ([0x08] ++ beBytes 1 area ++ zeros 2 ++ beBytes 8 a ++ bs.take 8192)) area (a + 8192) n (bs.drop 8192)

/-- The residue row next due in the copy to a Syncing partner goes out after its settle write-back, or as its settle line passes
with none due; the rows of a half go in order (R382; log entry 226). -/
def State.copyRow (s : State) (h : Fin 2) (line row : Nat) : State :=
  if s.rd LEF.STS.ROLE = 2 ∧ s.rd LEF.STS.PARTNER_ROLE = 3 ∧ s.leaf.copyRow[h] = line then
    (s.sendSync 2 row 6 (s.hbmRd row 46080)).modLeaf (fun l => { l with copyRow := l.copyRow.set h (line + 1) })
  else s

/-- Repairs at a row's settle write-back (R380, R382, R387): the repairs received for the row are written; an active leaf queues
its residues of the row's divergent regions and copies the row to a Syncing partner. -/
def State.applyRepairs (s : State) (h : Fin 2) (line : Nat) : State :=
  let row := s.resAddr h + dcOfs h line 0
  let here (half l : Nat) : Bool := half == h.val && l == line
  let s := (s.each (s.leaf.repairIn.filter (fun r => here r.half r.line)) (fun s r => s.hbmWr (row + r.col) r.bytes)).modLeaf
    (fun l => { l with repairIn := l.repairIn.filter (fun r => !here r.half r.line) })
  if s.rd LEF.STS.ROLE = 2 then
    let mine := s.leaf.diverge.filter (fun r => here r.half r.line)
    let s := s.modLeaf (fun l => { l with
      diverge := l.diverge.filter (fun r => !here r.half r.line)
      repairQ := l.repairQ ++ mine.map (fun r => ⟨h, line, r.col, s.hbmRd (row + r.col) r.n⟩) })
    s.flushRepairs.repairSts.copyRow h line row
  else s.repairSts

/-- The write-back of a row rewrites each of its uncorrectable bursts, whose residues count as 0 (R281). -/
def State.healRow (s : State) (h : Fin 2) (line : Nat) : State :=
  let a := (s.resAddr h + dcOfs h line 0) / 32
  s.each ((s.ram.bad.filter (fun kb => kb.2 && decide (a ≤ kb.1) && decide (kb.1 < a + 1440))).map (·.1))
    (fun s k => s.hbmWr (32 * k) (zeros 32))

/-- The H row of a touched row has arrived (R235): its residues are written back. -/
def State.rowWriteback (s : State) (h : Fin 2) (line : Nat) : State :=
  match tget (fun _ => (⟨0, []⟩ : RowDc)) s.panel.rowMark (rowKey h line) with
  | ⟨_, []⟩ => s
  | ⟨pol, subs⟩ =>
    let s := s.rtRead [(s.resAddr h + pairOfs + dcOfs h line 0, 46080)]
    let (s', n) := (s.healRow h line).settleRow h line pol (fun u => (s.pairByte h line u.col u.ho : Int) - u.ho) subs
    let s' := s'.modPanel (fun p => { p with rowMark := tset (fun _ => (⟨0, []⟩ : RowDc)) p.rowMark (rowKey h line) ⟨0, []⟩ })
    (s'.noteSat h line n).applyRepairs h line

/-- RESIDUE_WRITEBACK (R235). -/
def execResidueWriteback (h : Fin 2) (line : Fin 8640) (s : State) : Out := .next (s.rowWriteback h line)

/-- RES_VAL_READ (R243): the residue and pair-store bytes of the selected subpixel, from HBM at the access. A selection
outside the segment, or an uncorrectable burst, gives a value the spec does not state. -/
def State.resVal (s : State) (h : Fin 2) (path : Path) : Nat × State :=
  let x := s.rd PDV.RES_SEL.X h path.num
  let y := s.rd PDV.RES_SEL.Y h path.num
  let c := s.rd PDV.RES_SEL.C h path.num
  let a := s.resAddr h + dcOfs (x / 15360) y (3 * (x % 15360) + c)
  if x < 30720 ∧ y < 8640 ∧ c < 3 ∧ s.hbmBad a 1 = false ∧ s.hbmBad (a + pairOfs) 1 = false then
    (leNat (s.hbmRd a 1) + 256 * leNat (s.hbmRd (a + pairOfs) 1), s)
  else
    let (v, s) := s.takeFree 16
    (v.toNat, s)

/-- The whole R plane set to 0 (R62, R63, R231). -/
def State.zeroResidues (s : State) : State :=
  let a := s.resAddr 0
  s.clearHbm (fun k => decide (a ≤ k) && decide (k < a + 796262400))
    (fun k => decide (a ≤ 32 * k) && decide (32 * k + 32 ≤ a + 796262400))

/-- A start with a clear run marker writes 0 to the whole R plane before anything of its first Weaver frame reads it (R231). -/
def State.startResidues (s : State) : State :=
  if s.panel.resZero then s.zeroResidues.modPanel (fun p => { p with resZero := false }) else s

end Sys2Proof.Machine
end

