-- ==== Sys2Proof/Machine/BandRead.lean ====
section
/-! DEFINITION. The band read (R133, R146): the rays of one line of one half from stake to panel code, with underruns
(R194), the probe (R159), DC accounts (R231-R237) and Weft watermarks (R261); and prefill (R193, R145, R491). -/

namespace Sys2Proof.Machine

/-! ### The band cache as a band read finds it (R145, R146) -/

/-- A cell as the snapshot at weave cycle `at_` has it: what stood before every commit or plane write after it (R94). -/
def State.cellAt (s : State) (at_ : Nat) (k : CellId) : Cell :=
  let now := tget (fun _ => Cell.absent) s.wv.cells k
  match s.scene.recent.reverse.findSome? (fun r => if at_ < r.at_ then r.cells.find? (·.1 == k) else none) with
  | some (_, ws, f) => { now with words := ws, fault := f || now.fault }
  | none => now

/-- What a band read of a half works with: die, line, frame, waveform band and FS of that frame, and its verdict
sample. -/
structure ReadCtx where
  die : Fin 2
  line : Nat
  frame : Nat
  band : Nat
  fs : Nat
  smp : SampleSt

/-- A tap: its pair (a, cp), and whether it lies in a cell that is not resident (R149, R150, R194). -/
structure Tap where
  pair : Nat × Nat
  late : Bool

/-- A tap of plane `i` at (col, row) for the ray of segment pixel x and colour c (R140, R144, R150, R194, R158). -/
def State.tap (s : State) (r : ReadCtx) (x c i : Nat) (p : Plane) (col row : Int) : Tap :=
  if col < 0 ∨ (64 * p.wt : Nat) ≤ col ∨ row < 0 ∨ (64 * p.ht : Nat) ≤ row then ⟨(0, 0), false⟩
  else if s.isRefused r.die (r.line / 16) i then ⟨(65535, wicker 4 x r.line c), false⟩
  else
    let m := col.toNat
    let n := row.toNat
    let cell := s.cellAt r.smp.at_ (cellKey r.die i (n / 16) (m / 64))
    let v := rowVerdict (tget (fun _ => 0) r.smp.rows (p.tileBase + n / 64 * p.wt + m / 64))
    if !cell.resident then ⟨(65535, wicker 4 x r.line c), true⟩
    else if cell.fault then ⟨(65535, wicker 4 x r.line c), false⟩
    else if v ≠ 0 then ⟨(65535, wicker v x r.line c), false⟩
    else ⟨s.tapLight r.die p.format c (cell.words.getD (n % 16 * 64 + m % 64) 0).toNat, false⟩

/-- What one ray gives: stake, louvre, edge weight, composited light, the planes whose shift was clamped, and whether it
met a cell that was not resident. -/
structure Ray where
  s88 : Nat
  louvre : Option (Nat × Louvre)
  e : Nat
  light : Nat
  clamped : List Nat
  late : Bool

/-- The four taps of a plane, filtered (R139, R149), and whether one was late. -/
def State.planeTaps (s : State) (r : ReadCtx) (x c s88 : Nat) (l : Option (Nat × Louvre)) (i : Nat) (p : Plane) :
    (Nat × Nat) × Bool :=
  let pos := samplePos l s88 x r.line c p
  let t (k : Int) := s.tap r x c i p (pos.1 + k) pos.2.2
  let w := filterWeights (s.eff_ WV.FLT_CTL.MODE r.die == 1) pos.2.1
  (filterTaps w (t (-1)).pair (t 0).pair (t 1).pair (t 2).pair,
    (t (-1)).late || (t 0).late || (t 1).late || (t 2).late)

/-- The planes of a list composited front to back (R151), with whether a tap was late. -/
def State.compositeAll (s : State) (r : ReadCtx) (x c s88 e : Nat) (l : Option (Nat × Louvre)) :
    List (Nat × Plane) → (Nat × Nat) × Bool → (Nat × Nat) × Bool
  | [], acc => acc
  | (i, p) :: ps, acc =>
    let f := s.planeTaps r x c s88 l i p
    State.compositeAll s r x c s88 e l ps (composite e acc.1 p.common f.1.1 f.1.2, acc.2 || f.2)

/-- The ray of subpixel colour `c` at segment pixel (x, line), up to its composited light (R133, steps 1 to 7). -/
def State.ray (s : State) (r : ReadCtx) (x c : Nat) : Ray :=
  let s88 := (s.map r.die).stake x r.line c
  let l := s.louvreAt r.die s88
  let e := edgeWeight l s88
  let list := effList s.scene.planes (match l with | some (_, v) => v.list | none => [])
  let out := s.compositeAll r x c s88 e l list ((0, 0), false)
  { s88 := s88, louvre := l, e := e, light := out.1.2, late := out.2
    clamped := (list.filter (fun ip => let d := rayShift l s88 ip.2; decide (d < -shiftMax) || decide (shiftMax < d))).map (·.1) }

/-- The drive level un of a ray (R152, R153). -/
def State.unOf (s : State) (r : ReadCtx) (x c light : Nat) : Nat :=
  s.uniform r.die r.frame x r.line c (s.outLevel r.die c light)

/-! ### The DC unit at a band read (R232-R235) -/

/-- A field of DC_CTL or VCOM_TRIM as it stands for a frame: line 0 of a phase-0 frame is read before the cycle boundary
that brings a written value into force (R244). -/
def State.cycRd (s : State) (r : ReadCtx) (f : Fld) : Nat :=
  if s.phaseOf r.frame = 0 ∧ s.clk.frame.toNat ≠ r.frame then s.rd f r.die else s.eff_ f r.die

/-- The waveform band of the frame of a read: BAND_NEXT where the frame begins a cycle that has not started yet (R230). -/
def State.bandFor (s : State) (h : Fin 2) (f : Nat) : Nat :=
  if s.phaseOf f = 0 ∧ s.clk.frame.toNat ≠ f then s.rd PDV.WV_STS.BAND_NEXT h else s.band h

/-- The row settles in this frame (R232). -/
def ReadCtx.settles (r : ReadCtx) (s : State) : Bool := s.settles r.frame r.band

/-- The bleed step of a subpixel, whether a unit is due, and its residue (R234); nothing in a store frame (R232). -/
def State.bleedOf (s : State) (r : ReadCtx) (col : Nat) : Int × Bool × Int :=
  if r.settles s then
    let rv := s.residue r.die r.frame r.line col
    let b := bleed (s.cycRd r PDV.DC_CTL.ENA == 1) (max 8 (s.cycRd r PDV.DC_CTL.THR)) (polS r.band) (s.depth r.die)
      (pairIndex r.frame r.fs r.band) rv
    (b.1, b.2, rv)
  else (0, false, 0)

/-- Whether the row is touched at its settle band read (R233, R238, R281). -/
def State.rowTouched (s : State) (r : ReadCtx) : Bool :=
  let key := 2 * rowKey r.die r.line
  (s.covered r.die (r.line / 16)).any (fun hr => !hr.2 && tget (fun _ => (0 : BitVec 2)) s.scene.dirty hr.1 != 0) ||
  tget (fun _ => false) s.panel.underrunRows key || tget (fun _ => false) s.panel.underrunRows (key + 1) ||
  s.panel.tableTouch != 0 || s.panel.freshPair[r.die] || s.residueBad r.die r.frame r.line

/-- One subpixel of the line, computed: half-local column, un, bleed step, unit, residue, panel code and ray. -/
structure SubPix where
  col : Nat
  un : Nat
  n : Int
  unit : Bool
  res : Int
  code : Nat
  ray : Ray

/-- Subpixel column `col` of the line (R133, R154, R155). -/
def State.subpix (s : State) (r : ReadCtx) (col : Nat) : SubPix :=
  let x := 15360 * r.die.val + col / 3
  let c := col % 3
  let ray := s.ray r x c
  let un := s.unOf r x c ray.light
  let b := s.bleedOf r col
  let d := s.depth r.die
  let ub := (clampI 0 65535 ((un : Int) + b.1 * (2 ^ (16 - d) : Nat))).toNat
  { col := col, un := un, n := b.1, unit := b.2.1, res := b.2.2, ray := ray
    code := ditherCode d (s.eff_ WV.OUT_CTL.DITHER r.die == 1) (pairIndex r.frame r.fs r.band) x r.line c ub }

/-- The whole line of a half: 46,080 subpixels. -/
def State.lineOf (s : State) (r : ReadCtx) : List SubPix := (List.range 46080).map (s.subpix r)

/-- Store frames write H = un >> 8 of every subpixel (R232), and so does the Shutter's capture frame (R238). -/
def State.storePairs (s : State) (r : ReadCtx) (px : List SubPix) : State :=
  s.hbmWr (s.resAddr r.die + pairOfs + dcOfs r.die r.line 0) (px.map (fun u => BitVec.ofNat 8 (u.un / 256)))

/-- The frame is the capture frame of a Shutter entry under way (R213). -/
def State.capturing (s : State) (f : Nat) : Bool :=
  (s.rd SCN.SHUT_STS.STATE == 2 || s.rd SCN.SHUT_STS.STATE == 3) && s.scan.shutC.toNat == f

/-- Group `k` of a half has failed, so its residues are frozen (R209, R238). -/
def State.groupFrozen (s : State) (h : Fin 2) (k : Nat) : Bool := bit (s.rd PLK.LINK_STS.FAILED h) k

/-- A settle row's subpixels whose residue is kept: those of a failed group are frozen (R238). -/
def State.settleSubs (s : State) (r : ReadCtx) (px : List SubPix) : List SettleSub :=
  (px.filter (fun u => !s.groupFrozen r.die (u.col / 5760))).map (fun u => ⟨u.col, u.res, u.un / 256, u.n, u.unit⟩)

/-- The DC unit's work on a line (R232-R235): a store frame stores; a settle frame bleeds at once where no pair byte is
needed, and keeps a touched row until its H row has arrived. -/
def State.dcLine (s : State) (r : ReadCtx) (px : List SubPix) : State :=
  if r.settles s then
    let subs := s.settleSubs r px
    let s := s.bump PDV.STAT_BLEED (subs.filter (·.bleed != 0)).length r.die
    let touched := s.rowTouched r
    let s := if touched then s.bump PDV.STAT_TOUCH 1 r.die else s
    let pol := polS r.band
    if touched && !s.capturing r.frame then
      s.modPanel (fun p => { p with
        rowMark := tset (fun _ => (⟨0, []⟩ : RowDc)) p.rowMark (rowKey r.die r.line) ⟨pol, subs⟩ })
    else
      let s' := if touched then s.healRow r.die r.line else s
      let (s', n) := s'.settleRow r.die r.line pol
        (fun u => if touched then (s.pairByte r.die r.line u.col u.ho : Int) - u.ho else 0) subs
      let s' := (s'.noteSat r.die r.line n).applyRepairs r.die r.line
      if s.capturing r.frame then s'.storePairs r px else s'
  else if s.stores r.frame r.band then s.storePairs r px
  else s

/-! ### The accounts of a band read -/

/-- The item of a record that is written once per frame of the lines being read (R140, R144): line 0 of a frame is read before the
frame starts. -/
def ReadCtx.once (r : ReadCtx) (item : Nat) : Nat := item * 2 ^ 32 + r.frame % 2 ^ 32

/-- Underrun (R194): the line counts; the frame's first one raises UNDERRUN, code 0x50 and the underrun fault. -/
def State.noteUnderrun (s : State) (r : ReadCtx) (late : Bool) : State :=
  let key := 2 * rowKey r.die r.line + r.frame % 2
  let s := s.modPanel (fun p => { p with underrunRows := tset (fun _ => false) p.underrunRows key late })
  if !late then s
  else
    let s := s.bump SCN.UNDR_CNT
    if s.scan.underrunIn = some (BitVec.ofNat 32 r.frame) then s
    else
      let s := (s.wr SCN.UNDR_FIRST.LINE r.line).wr SCN.UNDR_FIRST.HALF r.die
      let s := s.modScan (fun c => { c with underrunIn := some (BitVec.ofNat 32 r.frame), underrunFault := 240 })
      (s.event SCN.PAGE 3).logc SCN.PAGE 0x50 (s.rd SCN.UNDR_FIRST.LINE + 2 ^ 16 * s.rd SCN.UNDR_FIRST.HALF) 0

/-- Refused planes of the band, counted at its first line (R144). -/
def State.noteRefused (s : State) (r : ReadCtx) : State :=
  if r.line % 16 ≠ 0 then s
  else s.each (s.wv.refused[r.die].filter (·.1 == r.line / 16)) (fun s bi =>
    (s.bump WV.STAT_REFUSE 1 r.die).logOnce (r.once (2 * bi.2 + r.die)) (WV.PAGE + r.die) 0x21 (s.rd WV.STAT_REFUSE r.die + 1) bi.1)

/-- Clamped rays: one count a ray, one record a frame and plane (R140). -/
def State.noteClamps (s : State) (r : ReadCtx) (px : List SubPix) : State :=
  let n := (px.filter (fun u => !u.ray.clamped.isEmpty)).length
  if n = 0 then s
  else
    let s := s.bump WV.STAT_CLAMP n r.die
    s.each (px.flatMap (fun u => u.ray.clamped)).eraseDups
      (fun s i => s.logOnce (r.once (2 * i + r.die)) (WV.PAGE + r.die) 0x22 (s.rd WV.STAT_CLAMP r.die) i)

/-- The probe (R159, R160): an armed subpixel of the die's own half is captured in a frame after the one of its ARM. -/
def State.probe (s : State) (r : ReadCtx) (px : List SubPix) : State :=
  let d := r.die
  let x := s.rd WV.PROBE_SEL.X d
  let c := s.rd WV.PROBE_SEL.C d
  if s.rdB WV.PROBE_SEL.ARM d && x / 15360 == d.val && s.rd WV.PROBE_SEL.Y d == r.line && decide (c < 3) &&
      s.wv.probeArm[d].toNat != r.frame then
    match px[3 * (x % 15360) + c]? with
    | some u =>
      let s := s.wrB WV.PROBE_SEL.ARM false d
      let s := s.wr WV.PROBE_STAKE.S88 u.ray.s88 d
      let s := s.wr WV.PROBE_STAKE.LOUVRE ((u.ray.louvre.map (·.1)).getD 0) d
      let s := s.wrB WV.PROBE_STAKE.NONE u.ray.louvre.isNone d
      (s.wr WV.PROBE_CODE.CODE u.code d).wr WV.PROBE_CODE.E u.ray.e d
    | none => s
  else s

/-- A watermark is late (R261): WM_STS.LATE, STAT_LATE, event WM_LATE, code 0x78. -/
def State.markLate (s : State) (line frel : Nat) : State :=
  let s := (s.wrB WFT.WM_STS.LATE true).bump WFT.STAT_LATE
  (s.event WFT.PAGE 2).logc WFT.PAGE 0x78 (line + 2 ^ 14 + frel * 2 ^ 16) 0

/-- The watermark check (R261) at the band read of line `line` of frame `frame`: late when reached at or after the sample
cycle, 8 wc before this read, or not at all. -/
def State.checkMarks (s : State) (line frame : Nat) : State :=
  let due := s.weft.marks.filter (fun m => m.line == line && m.frame == frame)
  let s := s.modWeft (fun w => { w with marks := w.marks.filter (fun m => !(m.line == line && m.frame == frame)) })
  s.each due (fun s m =>
    let late := match m.reached with | some t => decide (s.clk.now ≤ t + 8) | none => true
    if late then s.markLate m.line m.frel else s)

/-- Uncorrectable band-cache ECC errors of this read (R158): each marks its cell and is logged with code 0x23. -/
def State.cacheErrors (s : State) (die : Fin 2) (bad : List CellId) : State :=
  s.each bad (fun s k =>
    let c := tget (fun _ => Cell.absent) s.wv.cells k
    if c.resident ∧ cellDie k = die then
      let s := s.modWv (fun w => { w with cells := tset (fun _ => Cell.absent) w.cells k { c with fault := true } })
      let s := s.bump WV.STAT_ECC_UNC 1 die
      s.logc (WV.PAGE + die) 0x23 (s.rd WV.STAT_ECC_UNC die) 0
    else s)

/-- The state that the band read of line `l` reads: 8 wc after the verdict sample, with the band-cache errors `bad` marked and
the row 16 lines before written back (R146, R235). -/
def State.beforeRead (s : State) (half : Fin 2) (l : Nat) (bad : List CellId) : State :=
  let s := (s.run (s.frs.sample[half].at_ + 8 - s.clk.now)).cacheErrors half bad
  let s := if s.mode.raster = .sill then s.startResidues else s
  if 16 ≤ l then s.rowWriteback half (l - 16) else s

/-- What the read of line `l` of frame `f` under the sample `smp` stands on. -/
def State.readCtx (s : State) (half : Fin 2) (l f : Nat) (smp : SampleSt) : ReadCtx :=
  { die := half, line := l, frame := f, band := s.bandFor half f, fs := s.fsFor f, smp := smp }

/-- BAND_READ (R146): the rays of the line that the last verdict sample was taken for, 8 wc after it (R161). `corrected` and
`bad` are the band-cache ECC errors met. The write-back of the row 16 lines before is complete by then (R235). -/
def execBandRead (half : Fin 2) (corrected : BitVec 16) (bad : List (BitVec 32)) (s : State) : Out :=
  match s.nextLine with
  | none => .next s
  | some (l, f) =>
    let smp := s.frs.sample[half]
    if smp.line ≠ l ∨ smp.frame ≠ f ∨ smp.at_ + 8 < s.clk.now then .next s
    else
      let s := s.beforeRead half l (bad.map (·.toNat))
      let r := s.readCtx half l f smp
      let px := s.view.lineOf r
      let s := s.rtRead (s.view.residReads half l)
      let s := (s.bump WV.STAT_ECC_COR corrected.toNat half).each smp.rows (fun s hr => s.countVerdict half hr.1 hr.2)
      let s := (s.noteUnderrun r (px.any (·.ray.late))).noteRefused r
      let s := ((s.noteClamps r px).probe r px).dcLine r px
      let s := s.modWv (fun w => { w with codes := w.codes.set half ⟨f, l, smp.gen, smp.wg, px.map (·.code)⟩ })
      .next (if half = 0 then s.checkMarks l f else s)

/-! ### Prefill (R193, R145, R491) -/

/-- The band whose prefill starts now: band 0 from the apply point, else the band after that of the line being read. -/
def State.prefillBand (s : State) : Nat :=
  if s.mode.raster ≠ .weaver ∨ s.mode.power = .shutter then 0
  else if 8640 ≤ s.clk.line.toNat then 0 else (s.clk.line.toNat + 1) / 16 + 1

/-- The cells of a band's slots on a die, in the order of R146. -/
def State.bandCells (s : State) (die : Fin 2) (b : Nat) : List CellId :=
  (s.slotsOf die b).flatMap (fun sl => match s.plane sl.plane with
    | some p => slotCells die p sl b
    | none => [])

/-- The Weaver of a die reads, or will read, band-cache cells. -/
def State.cacheRuns (s : State) : Bool :=
  (s.mode.raster == .weaver && (s.mode.power.weaves || (s.mode.power == .shutter && s.scan.shutExit.isSome))) ||
  (s.mode.raster == .sill && s.mode.power == .sill && s.boot.lockDone)

/-- The HBM ranges of a band's rows on a die (R146, R153, R193, R235): the node rows of its lines and, in a settle frame, its 16
residue rows. -/
def State.rowRanges (s : State) (die : Fin 2) (b : Nat) (settle : Bool) : List (Nat × Nat) :=
  (List.range 3).map (fun c => (s.nodeAddr die c 0 (b / 4), 3848)) ++
  if settle then [(s.resAddr die + dcOfs die (16 * b) 0, 737280)] else []

/-- The frame that a band's prefill serves. -/
def State.prefillFrame (s : State) (b : Nat) : Nat :=
  if s.mode.raster = .sill then s.frameNext else if b = 0 then s.frameAfter else s.clk.frame.toNat

/-- The rows of band `b` are fetched, first of its prefill (R146), once in its frame; uncorrectable bursts count (R280). -/
def State.fetchRows (s : State) (die : Fin 2) (b : Nat) : State :=
  let f := s.prefillFrame b
  if s.wv.rows[die].any (fun r => r.band == b && r.frame == f) then s
  else
    let rs := s.view.rowRanges die b (s.settles f (s.bandFor die f))
    let bad := s.badBursts rs
    let row : BandRows := {
      band := b, frame := f, bad := s.ram.bad.filter (fun kb => bad.contains kb.1)
      bytes := tfilter (fun a _ => rs.any (fun an => decide (an.1 ≤ a) && decide (a < an.1 + an.2))) s.ram.hbm }
    let s := s.modWv (fun w => { w with rows := w.rows.set die (row :: w.rows[die].take 1) })
    s.rtRead rs

/-- PREFILL_ISSUE (R193): the band's rows are read, and its cells that are not resident; cells outside the windows of the band
being read and of this one leave the cache (R491). Behind the Sill picture the slot plan is that of the first Weaver frame. -/
def execPrefillIssue (half : Fin 2) (s : State) : Out :=
  if !s.cacheRuns || s.mem.sealed || decide (540 ≤ s.prefillBand) then .next s
  else
    let b := s.prefillBand
    let s := if s.mode.raster = .sill then s.startResidues.makePlan s.view half else s
    let s := s.fetchRows half b
    let want := s.bandCells half b
    let keep := want ++ (if b = 0 then [] else s.bandCells half (b - 1))
    let mine := fun k => cellDie k == half.val
    let s := s.modWv (fun w => { w with
      cells := tfilter (fun k _ => !mine k || keep.contains k) w.cells
      wanted := w.wanted.filter (fun k => !mine k || keep.contains k) })
    let miss := want.filter (fun k => !(tget (fun _ => Cell.absent) s.wv.cells k).resident && !s.wv.wanted.contains k)
    .next (s.modWv (fun w => { w with wanted := w.wanted ++ miss }))

/-- The plane, row group and column of a cell (R141). -/
def cellPlane (k : CellId) : Nat × Nat × Nat := (k / (1024 * 512) % 4096, k / 512 % 1024, k % 512)

/-- The Plait blocks of row group `m` in their tile: 16 blocks, four rows of four (R126, R141). -/
def groupBlocks (m : Nat) : List Nat := (List.range 16).map (fun j => 16 * (m % 4) + j)

/-- The (address, length) ranges of HBM that a cell is filled from (R71, R126, R141): of a Plait slot the length codes of the
cell's blocks and each block's declared units, never the bytes beyond them. -/
def State.cellRanges (s : State) (p : Plane) (bank m k : Nat) : List (Nat × Nat) :=
  if fmtPlait p.format then
    let a := plaitSlot p bank (m / 4 * p.wt + k)
    (a + 16 * (m % 4), 16) :: (groupBlocks m).filterMap (fun b =>
      let lc := leAt (s.hbmRd (a + b) 1) 0 1
      if plaitCodeOk lc then some (a + 64 + 256 * b, 32 * (lc % 16)) else none)
  else (List.range 16).map (fun r => (planePix p bank (64 * k) (16 * m + r), 64 * fmtBpp p.format))


/-- A Plait block at `a` that is not well formed (R491): the address, the tile's STATE 2 and a memory error record. -/
def State.illBlock (s : State) (a : Nat) : State := ((s.errAddr a .realTime).tileFault a).memRecord a id

/-- PREFILL_CELL_ARRIVE (R141, R145, R491): a wanted cell fills from its tile's active bank. An uncorrectable burst or a
Plait block that is not well formed gives a cell whose taps take the Fault level, and the tile STATE 2 (R281, R491). -/
def execPrefillCellArrive (cell : BitVec 32) (s : State) : Out :=
  let k := cell.toNat
  if !s.wv.wanted.contains k then .next s
  else
    let s := s.modWv (fun w => { w with wanted := w.wanted.erase k })
    let (i, m, col) := cellPlane k
    match s.plane i with
    | none => .next s
    | some p =>
      let h := p.tileBase + m / 4 * p.wt + col
      let bank := b2n (s.entry h).slot
      let ranges := s.cellRanges p bank m col
      let put (s : State) (ws : List (BitVec 32)) (fault : Bool) : State :=
        s.modWv (fun w => { w with cells := tset (fun _ => Cell.absent) w.cells k ⟨true, ws, fault⟩ })
      let badB := s.badBursts ranges
      if !badB.isEmpty then .next (put (s.each badB (fun s b => s.uncorrectable (32 * b) .realTime)) [] true)
      else if fmtPlait p.format then
        let a := plaitSlot p bank (m / 4 * p.wt + col)
        let slot := s.hbmRd a plaitSlotBytes
        let ws := plaitWords p.format slot (m % 4)
        let ill := (groupBlocks m).filter (fun b => !plaitBlockOk p.format (leAt slot b 1) (slice slot (64 + 256 * b) 256))
        .next (put (s.each ill (fun s b => s.illBlock (a + 64 + 256 * b))) ws.1 (!ill.isEmpty))
      else .next (put s (packedWords p.format (ranges.flatMap (fun an => s.hbmRd an.1 an.2))) false)

end Sys2Proof.Machine
end

