-- ==== Sys2Proof/Machine/CoilLanes.lean ====
section
/-! DEFINITION. The Coil lanes (chapter 5): stream contexts and their slots in HBM, the choice of a decode lane, decoding,
the stream actions and the encode jobs. -/

namespace Sys2Proof.Machine

/-! ### Contexts (R119, R122) -/

/-- Bytes of a context slot (R119). -/
def ctxBytes : Nat := 266240

/-- The address of the slot of a stream (R119). -/
def State.ctxSlot (s : State) (st : Nat) : Nat := s.addr37 COL.CTX_BASE_LO COL.CTX_BASE_HI + ctxBytes * st

/-- The lane table's entry. -/
def State.decLane (s : State) (n : Nat) : DecLane := tget (fun _ => DecLane.free) s.coil.lanes n

/-- Store a lane, with LANE_BUSY (R131). -/
def State.setLane (s : State) (n : Nat) (l : DecLane) : State :=
  let s := s.modCoil (fun c => { c with lanes := tset (fun _ => DecLane.free) c.lanes n l })
  s.wr COL.LANE_BUSY (setBits (s.rd COL.LANE_BUSY) n n (b2n l.ring.isSome))

/-- The HBM ranges of the `n` history bytes below position `p` in a slot's WINDOW, oldest first (R119): they wrap from its last
byte to its first. -/
def winRanges (slot p n : Nat) : List (Nat × Nat) :=
  let start := (p + 2 ^ 32 - n) % coilWindow
  let first := min n (coilWindow - start)
  [(slot + start, first), (slot, n - first)]

/-- Bytes of a slot's header that a load reads (R119). -/
def ctxHeadBytes : Nat := 332

/-- The HBM ranges that a context load reads (R119, R122): the header, then the FILL bytes of WINDOW. -/
def State.ctxReads (s : State) (slot : Nat) : List (Nat × Nat) :=
  let hdr := s.hbmRd (slot + coilWindow) 8
  (slot + coilWindow, ctxHeadBytes) :: winRanges slot (leAt hdr 0 4) (min (leAt hdr 4 4) coilWindow)

/-- The error that a context load meets, if any (R267, R280). -/
def State.ctxFault (s : State) (slot : Nat) : Option State :=
  (s.ctxReads slot).findSome? (fun r => s.readFault r.1 r.2 .latency)

/-- The load of a context (R119, R122, R490): the header, then FILL bytes of WINDOW; MEM before CTX. -/
def State.ctxLoad (s : State) (st : Nat) : Except CoilWhy CoilCtx :=
  let a := s.ctxSlot st
  let hdr := s.hbmRd (a + coilWindow) ctxHeadBytes
  let pos := leAt hdr 0 4
  let fill := leAt hdr 4 4
  let flags := leAt hdr 8 4
  let ll := (slice hdr 16 278).map BitVec.toNat
  let d := (slice hdr 294 38).map BitVec.toNat
  if (s.ctxFault a).isSome then .error .mem
  else if fill > coilWindow ∨ flags > 1 ∨ leAt hdr 12 4 ≠ 0 ∨
      (flags = 1 ∧ !(tableLegal false ll && tableLegal true d)) then .error .ctx
  else
    let hist := (winRanges a pos fill).flatMap (fun r => s.hbmRd r.1 r.2)
    .ok { hist := hist.reverse, pos := pos, tabs := if flags = 1 then some { ll := ll, d := d } else none }

/-- The history, most recent byte first, written back to its window below position `p` in whole ranges. -/
def State.histStore (s : State) (slot p : Nat) (hist : List Byte) : State :=
  let bs := hist.reverse
  match winRanges slot p bs.length with
  | [r, q] => (s.hbmWr r.1 (bs.take r.2)).hbmWr q.1 (bs.drop r.2)
  | _ => s

/-- The header of a slot (R119), its unused bytes 0. -/
def ctxHeader (c : CoilCtx) : List Byte :=
  leBytes 4 c.pos ++ leBytes 4 c.hist.length ++ leBytes 4 (b2n c.tabs.isSome) ++ zeros 4 ++
  (match c.tabs with
   | some t => t.ll.map (BitVec.ofNat 8) ++ t.d.map (BitVec.ofNat 8)
   | none => zeros 316) ++ zeros 3764

/-- The write-back of a context (R122). -/
def State.ctxStore (s : State) (st : Nat) (c : CoilCtx) : State :=
  let a := s.ctxSlot st
  (s.histStore a c.pos c.hist).hbmWr (a + coilWindow) (ctxHeader c)

/-- The lane that holds a stream's context. -/
def State.laneOf (s : State) (st : Nat) : Option Nat :=
  (List.range 32).find? (fun n => match (s.decLane n).ctx with | some (t, _) => t == st | none => false)

/-- The free lane by the rule of R122: the lowest without a context, else the least recently used. -/
def State.freeLane (s : State) : Option Nat :=
  let free := (List.range 32).filter (fun n => (s.decLane n).ring.isNone)
  match free.find? (fun n => (s.decLane n).ctx.isNone) with
  | some n => some n
  | none => free.foldl (fun b n => match b with
      | none => some n
      | some m => if (s.decLane n).used < (s.decLane m).used then some n else some m) none

/-- Busy decode lanes. -/
def State.busyLanes (s : State) : Nat := ((List.range 32).filter (fun n => (s.decLane n).ring.isSome)).length

/-- The lane an update takes now (R122, R420), if any. A context load waits while the memory is in self-refresh. -/
def State.laneFor (s : State) (u : Update) : Option Nat :=
  if s.hotThrottle && decide (16 ≤ s.busyLanes) then none
  else if u.stream = 0 then s.freeLane
  else match s.laneOf u.stream with
    | some n => if (s.decLane n).ring.isNone then some n else none
    | none => if s.mem.sealed then none else s.freeLane

/-- The lane `n` begins the update of a ring (R122). -/
def State.startLane (s : State) (n ring : Nat) (u : Update) : State :=
  let l := s.decLane n
  if u.stream = 0 then s.setLane n { l with ring := some ring, bad := none }
  else
    let use := s.coil.useCtr + 1
    let s := s.modCoil (fun c => { c with useCtr := use })
    if s.laneOf u.stream = some n then s.setLane n { l with ring := some ring, used := use, bad := none }
    else
      let s := match l.ctx with | some (t, c) => s.ctxStore t c | none => s
      match s.ctxLoad u.stream with
      | .ok c => s.setLane n { ctx := some (u.stream, c), used := use, ring := some ring, bad := none }
      | .error w =>
        -- the memory's own error, if it is one (R267, R280); the context is emptied (R130)
        let s := (s.ctxFault (s.ctxSlot u.stream)).getD s
        s.setLane n { ctx := some (u.stream, CoilCtx.empty), used := use, ring := some ring, bad := some w }

/-- COIL_DECODE_START (R122): the first update in the order of readiness that can take a lane takes it. -/
def execCoilDecodeStart (s : State) : Out :=
  match s.scene.readyOrder.findSome? (fun r => match s.upd r with
      | some u => if u.phase = .staged then (s.laneFor u).map (fun n => (r, u, n)) else none
      | none => none) with
  | none => .next s
  | some (r, u, n) =>
    let s := s.modScene (fun c => { c with readyOrder := c.readyOrder.filter (· != r) })
    .next ((s.setUpd r (some { u with phase := .decoding })).startLane n r u)

/-- A failed decode (R118, R131): FAIL_LAST, FAIL_RING, STAT_FAIL and the reject code. -/
def State.decodeFail (s : State) (ring : Nat) (u : Update) (w : CoilWhy) (blk : Nat) : State :=
  let s := (s.wr COL.FAIL_LAST.WHY w.code).wr COL.FAIL_LAST.STREAM u.stream
  let s := (s.wr COL.FAIL_RING.RING ring).wr COL.FAIL_RING.BLOCK blk
  (s.bump COL.STAT_FAIL).failUpdate ring w.reject

/-- What a lane's decode of an update gives (R118, R120); a Plait expansion is checked by the ingest writer (R490 item 6). -/
def State.decodeRun (_s : State) (l : DecLane) (u : Update) : Except (CoilWhy × Nat) (List Byte × CoilCtx) :=
  match l.bad with
  | some w => .error (w, 0)
  | none =>
    let c := match l.ctx with | some (_, c) => c | none => CoilCtx.empty
    match coilDecode (fmtTileBytes u.fmt) (u.stream != 0) c u.payload with
    | .error e => .error e
    | .ok (out, c', _) => .ok (out, c')

/-- COIL_DECODE_DONE (R118, R120, R121): the decode of a lane ends; the stream's context advances only on success. -/
def execCoilDecodeDone (lane : Fin 32) (s : State) : Out :=
  let l := s.decLane lane
  match l.ring with
  | none => .next s
  | some r =>
    let s := s.setLane lane { l with ring := none, bad := none }
    match s.upd r with
    | none => .next s
    | some u => match s.decodeRun l u with
      | .error (w, blk) => .next (s.decodeFail r u w blk)
      | .ok (out, c) =>
        let s := if u.stream = 0 then s else s.setLane lane { l with ctx := some (u.stream, c), ring := none, bad := none }
        let s := s.bump COL.STAT_OUT (out.length / 64)
        .next (s.setUpd r (some { u with phase := .expanded, expansion := out, doneAt := s.clk.now }))

/-! ### Register writes of the COL page (R122, R124, R132) -/

/-- A stream decodes now (STRM_STS.BUSY). -/
def State.streamDecodes (s : State) (st : Nat) : Bool :=
  s.scene.upd.any (fun kv => match kv.2 with | some u => u.stream == st && u.phase == .decoding | none => false)

/-- CLEAR (R122): the context is empty (POS 0, FILL 0, TABLES 0). -/
def State.streamClear (s : State) (st : Nat) : State :=
  match s.laneOf st with
  | some n => s.setLane n { s.decLane n with ctx := some (st, CoilCtx.empty) }
  | none => s.hbmWr (s.ctxSlot st + coilWindow) (zeros 12)

/-- FLUSH (R122): a resident context is written back and released. -/
def State.streamFlush (s : State) (st : Nat) : State :=
  match s.laneOf st with
  | some n => match (s.decLane n).ctx with
    | some (_, c) => (s.ctxStore st c).setLane n { s.decLane n with ctx := none }
    | none => s
  | none => s

/-- A write of STRM_CTL (R122): CLEAR, then FLUSH; ignored while the stream is busy (R130). Stream 0 has no context. -/
def State.wrStrmCtl (path : Path) (v : Nat) (s : State) : WrRes :=
  let st := s.rd COL.STRM_SEL.STREAM 0 path.num
  if !bit v 0 && !bit v 1 then okW s
  else if s.streamDecodes st then ign28 path COL.PAGE COL.STRM_CTL.off v s
  else if st = 0 then okW s
  else
    let s := if bit v 0 then s.streamClear st else s
    okW (if bit v 1 then s.streamFlush st else s)

/-- A write of CTX_BASE_LO or _HI (R132). -/
def State.wrCtxBase (path : Path) (off v : Nat) (s : State) : WrRes :=
  if (List.range 32).any (fun n => (s.decLane n).ring.isSome || (s.decLane n).ctx.isSome) then ign28 path COL.PAGE off v s
  else okW (s.plainWrite COL.PAGE off 0 v)

/-- The encode lane a path selects. -/
def State.encSel (s : State) (path : Path) : Nat := s.rd COL.ENC_SEL.LANE 0 path.num

/-- A write of an encode lane's address, length or capacity (R132). -/
def State.wrEnc (path : Path) (off v : Nat) (s : State) : WrRes :=
  let n := s.encSel path
  if s.rdB COL.ENC_STS.BUSY 0 n then ign28 path COL.PAGE off v s else okW (s.plainWrite COL.PAGE off n v)

/-- The job an encode lane's registers describe (R124). -/
def State.encJob (s : State) (n : Nat) : EncJob :=
  let b := s.rd COL.ENC_CTL.BLK_LOG2 0 n
  { src := s.addr37 COL.ENC_SRC_LO COL.ENC_SRC_HI 0 n, len := s.rd COL.ENC_LEN.LEN 0 n,
    dst := s.addr37 COL.ENC_DST_LO COL.ENC_DST_HI 0 n, cap := s.rd COL.ENC_CAP.CAP 0 n,
    effort := s.rd COL.ENC_CTL.EFFORT 0 n, log := if 10 ≤ b ∧ b ≤ 16 then b else 16 }

/-- A write of ENC_CTL (R124, R132): GO starts the job; a busy lane ignores the write, and so does GO while the encode
lanes take no new job (R420, R435, log entry 17). -/
def State.wrEncCtl (path : Path) (v : Nat) (s : State) : WrRes :=
  let n := s.encSel path
  if s.rdB COL.ENC_STS.BUSY 0 n || (bit v 31 && (s.hotThrottle || s.mode.sec == .quarantined)) then
    ign28 path COL.PAGE COL.ENC_CTL.off v s
  else
    let s := (s.wr COL.ENC_CTL.EFFORT v 0 n).wr COL.ENC_CTL.BLK_LOG2 (bits v 12 8) 0 n
    if bit v 31 then
      let s := (s.wr COL.ENC_STS 1 0 n).wr COL.ENC_OUT.BYTES 0 0 n
      okW (s.modCoil (fun c => { c with enc := tset (fun _ => none) c.enc n (some (s.encJob n)) }))
    else okW s

/-- The blocks of a stream are ones that an encode lane emits (R124): at most 2^BLK_LOG2 output bytes each, no coded body longer
than its output, and only the kinds of its EFFORT: raw and static, from EFFORT 2 on dynamic too. -/
def encBlocksOk (effort log : Nat) : (fuel : Nat) → List Byte → Bool
  | 0, _ => false
  | f + 1, p =>
    let mode := bits (beAt p 0 1) 6 5
    let outN := beAt p 2 2 + 1
    let inN := beAt p 4 2 + 1
    decide (outN ≤ 2 ^ log) && decide (inN ≤ outN) && decide (mode ≤ if effort = 1 then 1 else 2) &&
    ((p.drop (6 + inN)).isEmpty || encBlocksOk effort log f (p.drop (6 + inN)))

/-- The stream of a job (R124): raw blocks at EFFORT 0; else the lane's own choice, any stream of such blocks within the bound
of R124 that decodes to the source. -/
def encStream (j : EncJob) (src : List Byte) : List Byte :=
  let c := Config.coilChoice j.effort j.log src
  if j.effort = 0 then coilRaw j.log src
  else if c.length ≤ coilBound j.log src.length && encBlocksOk j.effort j.log (c.length + 1) c then
    match coilDecode src.length false CoilCtx.empty c with
    | .ok (out, _, _) => if out = src then c else coilRaw j.log src
    | .error _ => coilRaw j.log src
  else coilRaw j.log src

/-- ENCODE_DONE (R124, R125): the job of a lane ends with DONE, or stops with ERR_MEM or ERR_CAP. How much of a stream that
passes the capacity was written is a free value up to ENC_CAP. A stream that reaches beyond the memory is a memory error (R267).
A job waits while the memory is in self-refresh (R286). -/
def execEncodeDone (lane : Fin 4) (s : State) : Out :=
  match tget (fun _ => none) s.coil.enc lane with
  | none => .next s
  | some j =>
    if s.mem.sealed then .next s
    else
    let s := s.modCoil (fun c => { c with enc := tset (fun _ => none) c.enc lane none })
    match s.readFault j.src j.len .throughput with
    | some s => .next (s.wr COL.ENC_STS 8 0 lane)
    | none =>
      let out := encStream j (s.hbmRd j.src j.len)
      let (f, s) := if out.length ≤ j.cap then ((0 : BitVec 28), s) else s.takeFree 28
      let n := if out.length ≤ j.cap then out.length else f.toNat % (j.cap + 1)
      if hbmSize < j.dst + n then .next ((s.addrError j.dst).wr COL.ENC_STS 8 0 lane)
      else
      let s := (s.hbmWr j.dst (out.take n)).wr COL.ENC_OUT.BYTES n 0 lane
      if out.length ≤ j.cap then .next (s.wr COL.ENC_STS 2 0 lane)
      else
        let s := s.wr COL.ENC_STS 4 0 lane
        .next (s.logc COL.PAGE 0x1A (s.rd COL.ENC_STS 0 lane) (s.rd COL.ENC_OUT 0 lane))

/-- Contexts at power-on and at a warm reset (R122): every slot and every lane is empty, and nothing decodes or encodes. -/
def State.coilWarm (s : State) : State :=
  let base := s.addr37 COL.CTX_BASE_LO COL.CTX_BASE_HI
  let s := s.clearHbm (fun a => decide (base ≤ a) && decide (a < base + ctxBytes * 4096) &&
      decide (coilWindow ≤ (a - base) % ctxBytes) && decide ((a - base) % ctxBytes < coilWindow + 12)) (fun _ => false)
  let s := s.modCoil (fun _ => { lanes := [], enc := [], useCtr := 0 })
  (s.wr COL.LANE_BUSY 0).each (List.range 4) (fun s n => s.wr COL.ENC_STS 0 0 n)

end Sys2Proof.Machine
end

