-- ==== Sys2Proof/Machine/Nvs.lean ====
section
/-! DEFINITION. The parameter store (R395-R406, R411, R412, R479) and the bulk map store (R407-R410, R413, R414): register
operations with their passwords, the write queue, counters, log pages, the scrub, and the two sides of flash. -/

namespace Sys2Proof.Machine

/-- The partitions of R397. -/
inductive Part where
  | identity | passwords | config | calibration | counters | log | reserved
  deriving DecidableEq, Repr

/-- The partition of a logical page (R397). -/
def partOf (p : Nat) : Part :=
  if p ≤ 15 then .identity else if p ≤ 17 then .passwords else if p ≤ 273 then .config else if p ≤ 529 then .calibration
  else if p ≤ 545 then .counters else if p ≤ 1656 then .log else .reserved

/-- The number of a partition in the password table. -/
def Part.num : Part → Nat
  | .identity => 0 | .passwords => 1 | .config => 2 | .calibration => 3 | .counters => 4 | .log => 5 | .reserved => 6

/-- A password at delivery (R402): every read password (key 2p) is 0; the write passwords (key 2p + 1) of Config,
Calibration and Log are the label's. -/
def deliveredPwd (k : Nat) : BitVec 64 := if k = 5 ∨ k = 7 ∨ k = 11 then Config.labelPassword (k / 2) else 0

/-- The password under a key. -/
def State.pwdOf (s : State) (k : Nat) : BitVec 64 := tget deliveredPwd s.nvs.pwds k

/-- STS.BUSY and QDEPTH (R412). -/
def State.nvsSts (s : State) : State :=
  (s.wrB NVS.STS.BUSY s.nvs.cur.isSome).wr NVS.STS.QDEPTH (min 16 s.nvs.q.length)

/-- RESULT of a register operation; 0 comes with event DONE (R412). -/
def State.nvsResult (s : State) (code : Nat) : State :=
  (s.wr NVS.RESULT.CODE code).when (code == 0) (fun s => s.event NVS.PAGE 0)

/-- A wrong password (R402): RESULT 1, code 0xD3; the eighth within 60 s starts the lockout, code 0xD4. -/
def State.wrongPassword (s : State) : State :=
  let s := (s.nvsResult 1).logc NVS.PAGE 0xD3 (s.rd NVS.STS) 0
  let recent := s.clk.now :: s.nvs.wrongAt.filter (fun t => decide (s.clk.now < t + 60 * 1600000000))
  if recent.length < 8 then s.modNvs (fun n => { n with wrongAt := recent })
  else
    let s := (s.modNvs (fun n => { n with wrongAt := [], lockAt := s.clk.now })).wrB NVS.STS.LOCKOUT true
    (s.event NVS.PAGE 3).logc NVS.PAGE 0xD4 (s.rd NVS.STS) 0

/-- Run `act` when the password presented is the one asked for (R402): 0 asks nothing; during a lockout every checked
operation is refused with RESULT 2. -/
def State.withPassword (s : State) (key presented : Nat) (act : State → State) : State :=
  if s.pwdOf key = 0 then act s
  else if s.rdB NVS.STS.LOCKOUT then s.nvsResult 2
  else if (s.pwdOf key).toNat = presented then act s
  else s.wrongPassword

/-- DATA0-123 as 496 bytes, least significant byte first (R412). -/
def State.nvsData (s : State) : List Byte :=
  ((List.range 124).map (fun k => leBytes 4 (s.reg (regKey 0 NVS.PAGE (0x200 + 4 * k))).toNat)).flatten

/-- 496 bytes into DATA0-123. -/
def State.setNvsData (s : State) (d : List Byte) : State :=
  s.each (List.range 124) (fun s k => s.setReg (regKey 0 NVS.PAGE (0x200 + 4 * k)) (BitVec.ofNat 32 (leAt d (4 * k) 4)))

/-- Put a page write at the end of the queue. -/
def State.enqueue (s : State) (w : NvsWrite) : State := (s.modNvs (fun n => { n with q := n.q ++ [w] })).nvsSts

/-- What a read of a page that has one valid copy or none leaves behind (R398): a rewrite of its content queued with code 0xD0,
or code 0xD1 with event PAGE_LOST. -/
def State.readTrouble (s : State) (p : Nat) : State :=
  match s.pageData p with
  | none => (s.event NVS.PAGE 1).logc NVS.PAGE 0xD1 (s.rd NVS.STS) p
  | some d =>
    if s.copyOk p p && s.copyOk (p + 4096) p then s
    else if (s.nvs.cur.toList ++ s.nvs.q).any (fun w => w.page == p) || decide (16 ≤ s.nvs.q.length) then s
    else
      let s := s.enqueue { page := p, data := d, by_ := WriteBy.scrub, pwd := none }
      s.logc NVS.PAGE 0xD0 (s.rd NVS.STS) p

/-- OP 1: read the page into DATA (R398). -/
def State.nvsRead (s : State) (c : NvsCmd) : State :=
  let p := c.page
  let doRead (s : State) : State :=
    match s.pageData p with
    | none => (s.readTrouble p).nvsResult 7
    | some d => ((s.readTrouble p).setNvsData d).nvsResult 0
  match partOf p with
  | .identity => doRead s
  | .reserved => (s.setNvsData (zeros 496)).nvsResult 0
  | .passwords | .counters => s.nvsResult 3
  | .config | .calibration | .log => s.withPassword (2 * (partOf p).num) c.pwd doRead

/-- Whether the store takes no write now (R400): before HOLD_RDY, or from the power-fail warning on. -/
def State.nvsNoWrite (s : State) : Bool := !s.rdB SYS.PWR_STS.HOLD_RDY || s.nvs.jrnlOn

/-- A write refused with its record, code 0xD5 (R411). -/
def State.nvsRefuse (s : State) (code : Nat) : State := (s.nvsResult code).logc NVS.PAGE 0xD5 (s.rd NVS.STS) code

/-- A register operation's write enters the queue with RESULT 8, or meets a full queue with RESULT 6 (R400, R412). -/
def State.nvsQueueReg (s : State) (w : NvsWrite) : State :=
  if 16 ≤ s.nvs.q.length then s.nvsResult 6
  else ((s.enqueue w).modNvs (fun n => { n with regOp := true })).nvsResult 8

/-- OP 2: write DATA to the page (R397, R400); never in the security area (R437). -/
def State.nvsWrite (s : State) (c : NvsCmd) : State :=
  match partOf c.page with
  | .config | .calibration =>
    if 170 ≤ c.page ∧ c.page ≤ 273 then s.nvsResult 3
    else if s.mode.sec ≠ .openS then s.nvsRefuse 5
    else if s.nvsNoWrite then s.nvsRefuse 4
    else s.withPassword (2 * (partOf c.page).num + 1) c.pwd (fun s =>
      s.nvsQueueReg { page := c.page, data := c.data, by_ := WriteBy.reg, pwd := none })
  | .identity | .passwords | .counters | .log | .reserved => s.nvsResult 3

/-- OP 3: change the read (KIND 0) or write (KIND 1) password of the partition that holds the selected page, in Open, with
the old write password presented and the new value in DATA0 and DATA1 (R402). The store has no password of its own for
its reserved pages. -/
def State.nvsSetPassword (s : State) (c : NvsCmd) : State :=
  let part := partOf c.page
  if s.mode.sec ≠ .openS then s.nvsRefuse 5
  else if part = .reserved ∨ part = .passwords then s.nvsResult 3
  else if s.nvsNoWrite then s.nvsRefuse 4
  else s.withPassword (2 * part.num + 1) c.pwd (fun s =>
    s.nvsQueueReg { page := 16, data := (s.pageData 16).getD (zeros 496), by_ := WriteBy.reg,
                    pwd := some (2 * part.num + c.kind, BitVec.ofNat 64 (leAt c.data 0 8)) })

/-- One register operation of the store (R412). -/
def State.nvsOp (s : State) (c : NvsCmd) : State :=
  if c.op = 1 then s.nvsRead c else if c.op = 2 then s.nvsWrite c else if c.op = 3 then s.nvsSetPassword c else s

/-- Run waiting register operations until one waits for its page write. -/
def State.nvsDrain (s : State) : List NvsCmd → State
  | [] => s.modNvs (fun n => { n with cmdQ := [] })
  | c :: cs =>
    let s := s.nvsOp c
    if s.nvs.regOp then s.modNvs (fun n => { n with cmdQ := cs }) else State.nvsDrain s cs

/-- The password presented in PWD_LO and PWD_HI; both clear at each operation (R402). -/
def State.takePwd (s : State) : Nat × State :=
  (s.rd NVS.PWD_LO + s.rd NVS.PWD_HI * 2 ^ 32, (s.wr NVS.PWD_LO 0).wr NVS.PWD_HI 0)

/-- A write of NVS.CMD with operation `op` (R412, R414). -/
def State.nvsCmd (s : State) (path : Path) (op kind : Nat) : State :=
  if op = 0 then s
  else
    let (pwd, s') := s.takePwd
    let c : NvsCmd := {
      op := op, kind := kind, page := s.rd NVS.PG_SEL.PAGE 0 path.num, pwd := pwd, data := s.nvsData }
    if s'.nvs.regOp then s'.modNvs (fun n => { n with cmdQ := n.cmdQ ++ [c] }) else s'.nvsOp c

/-- A write of NVS.CMD. -/
def wrNvsCmd (path : Path) (v : Nat) (s : State) : WrRes := okW (s.nvsCmd path (v % 4) (bits v 2 2))

/-- A write of PWD_LO or PWD_HI. -/
def wrNvsPwd (off v : Nat) (s : State) : WrRes :=
  okW (s.setReg (regKey 0 NVS.PAGE off) (BitVec.ofNat 32 v))

/-- The first-fault area cleared (R404): its pages read 0, its waiting entries go, FF_COUNT and FF_FULL are 0. -/
def State.clearFirstFault (s : State) : State :=
  let s := s.each (List.range 18) (fun s k => s.commitPage (1639 + k) (zeros 496))
  let s := s.modLog (fun l => { l with wait := tfilter (fun k _ => decide (k < 16384)) l.wait, ffFullLogged := false })
  (s.wr NVS.LOG_STS.FF_COUNT 0).wrB NVS.LOG_STS.FF_FULL false

/-- A write of LOG_CTL: FF_CLR needs the Log write password (R404, R412). -/
def wrNvsLogCtl (v : Nat) (s : State) : WrRes :=
  if !bit v 0 then okW s
  else
    let (pwd, s) := s.takePwd
    if s.nvsNoWrite then okW (s.nvsRefuse 4)
    else okW (s.withPassword 11 pwd (fun s => s.clearFirstFault.nvsResult 0))

/-- A Log page as it is written now: the stored page with its waiting entries (R404, R476). -/
def State.logPageData (s : State) (p : Nat) : List Byte :=
  s.log.wait.foldl (fun d kv =>
    if logPage kv.1 = p then
      splice d (32 * ((if kv.1 < 16384 then kv.1 else kv.1 - 16384) % 15)) kv.2.bytes
    else d) ((s.pageData p).getD (zeros 496))

/-- Whether a Log page holds its last entry already (R404). -/
def State.logPageFull (s : State) (p : Nat) : Bool :=
  s.log.wait.any (fun kv => logPage kv.1 == p && (if kv.1 < 16384 then kv.1 else kv.1 - 16384) % 15 == 14)

/-- Entries leave the buffer once the page in the store holds them (R404); code 0xD7 when room returns. -/
def State.logPageDone (s : State) (p : Nat) (d : List Byte) : State :=
  let s := s.modLog (fun l => { l with
    wait := tfilter (fun k r => !(logPage k == p &&
      slice d (32 * ((if k < 16384 then k else k - 16384) % 15)) 32 == r.bytes)) l.wait })
  if s.log.full && decide (s.asmPages.length < 64) then
    (s.modLog (fun l => { l with full := false })).logc NVS.PAGE 0xD7 (s.rd NVS.STS) (s.rd NVS.LOG_DROP)
  else s

/-- One log page write counts against the budget (R479); code 0xD9 when it is spent. -/
def State.spendBudget (s : State) : State :=
  let day := s.lifeS / 86400
  let s := if s.log.budgetDay = day then s
    else s.modLog (fun l => { l with budget := 0, budgetDay := day, budgetLogged := false })
  let s := s.modLog (fun l => { l with budget := l.budget + 1 })
  if s.budgetSpent && !s.log.budgetLogged then
    (s.modLog (fun l => { l with budgetLogged := true })).logc NVS.PAGE 0xD9 (s.rd NVS.STS) s.log.budget
  else s

/-- NVS_PAGE_WRITE (R399, R400): the head of the queue starts; the copy in use stays whole until its end. -/
def execNvsPageWrite (s : State) : Out :=
  match s.nvs.cur, s.nvs.q with
  | none, w :: q =>
    if s.nvsNoWrite then .next s
    else
      let d := match w.by_ with
        | .log => s.logPageData w.page
        | .scrub => (s.pageData w.page).getD (zeros 496)
        | .reg | .own => w.data
      .next (s.modNvs (fun n => { n with cur := some { w with data := d }, q := q })).nvsSts
  | _, _ => .next s

/-- NVS_WRITE_DONE (R399): COMMIT is programmed, the new copy is current; a register operation ends with RESULT 0 and the
next one that waited runs. A rewrite keeps the content the page then has. -/
def execNvsWriteDone (s : State) : Out :=
  match s.nvs.cur with
  | none => .next s
  | some w =>
    let d := if w.by_ = .scrub then (s.pageData w.page).getD w.data else w.data
    let s := (s.commitPage w.page d).modNvs (fun n => { n with cur := none })
    let s := match w.pwd with
      | some kv => s.modNvs (fun n => { n with pwds := tset deliveredPwd n.pwds kv.1 kv.2 })
      | none => s
    let s := s.nvsSts
    match w.by_ with
    | .reg => .next (((s.modNvs (fun n => { n with regOp := false })).nvsResult 0).nvsDrain s.nvs.cmdQ)
    | .log => .next (s.logPageDone w.page w.data)
    | .own | .scrub => .next s

/-- LIFE_S_TICK (R403): 3,600 s of operation have passed since LIFE_S last advanced, where the store may be written (R400). -/
def execLifeSTick (s : State) : Out :=
  .next (if !s.nvsNoWrite && decide (s.nvs.lifeAt + 3600 * 1600000000 ≤ s.clk.now) then
      (s.counterAdd 1 3600).modNvs (fun n => { n with lifeAt := n.lifeAt + 3600 * 1600000000 })
    else s)

/-- PASSWORD_LOCKOUT_END (R402): 600 s after the lockout began. -/
def execPasswordLockoutEnd (s : State) : Out :=
  .next (if s.nvs.lockAt + 600 * 1600000000 ≤ s.clk.now then s.wrB NVS.STS.LOCKOUT false else s)

/-- CNT_VAL (R397, R403, R412): the selected counter, for which the Counters read password is presented where it is not 0; the
registers it is presented in then clear (R402). What a refused read returns the spec does not state (log entry 232). -/
def State.cntVal (s : State) (path : Path) : Nat × State :=
  let v := s.counter (s.rd NVS.CNT_SEL.COUNTER 0 path.num)
  if s.pwdOf 8 = 0 then (v, s)
  else
    let (pwd, s) := s.takePwd
    if !s.rdB NVS.STS.LOCKOUT && (s.pwdOf 8).toNat == pwd then (v, s)
    else
      let (x, s) := s.takeFree 32
      (x.toNat, s.withPassword 8 pwd id)

/-- From the power-fail warning on the store takes only its journal (R400, R401, R410): queued writes are dropped, a register
operation among them ends with RESULT 4 and those behind it run, and programming of the bulk map store stops (log entry 233). -/
def State.nvsWarning (s : State) : State :=
  let hit := s.nvs.q.any (fun w => w.by_ == .reg)
  let s := s.modNvs (fun n => { n with q := [], jrnlOn := true, jrnl := 0, bmsJob := none })
  let s := s.nvsSts.wrB BMS.STS.BUSY false
  if hit then ((s.modNvs (fun n => { n with regOp := false })).nvsResult 4).nvsDrain s.nvs.cmdQ else s

/-- LOG_PAGE_WRITE (R404, R479): a page under assembly, full or 1 s old, joins the write queue; while the budget is spent,
only a full page does. -/
def execLogPageWrite (page : BitVec 11) (s : State) : Out :=
  let p := page.toNat
  if !s.asmPages.contains p || s.nvsNoWrite || decide (16 ≤ s.nvs.q.length) ||
      s.nvs.q.any (fun w => w.page == p) || (s.budgetSpent && !s.logPageFull p) then .next s
  else .next (s.enqueue { page := p, data := [], by_ := WriteBy.log, pwd := none }).spendBudget

/-- One log page of the journal (R401, R404), while fewer than 8 pages are written. -/
def State.journalPage (s : State) (p : Nat) : State :=
  if s.asmPages.contains p && decide (s.nvs.jrnl < 8) then
    let d := s.logPageData p
    ((s.commitPage p d).modNvs (fun n => { n with jrnl := n.jrnl + 1 })).logPageDone p d
  else s

/-- Log pages of the journal: the one under assembly first, then up to `n` others (R401). -/
def State.journalLogs (s : State) (n : Nat) : State :=
  let p := logPage ((s.rd NVS.LOG_STS.HEAD + 16383) % 16384)
  let others := (s.asmPages.filter (· != p)).take n
  (s.journalPage p).each others State.journalPage

/-- NVS_SCRUB_START (R405): 30 days of LIFE_S after the last pass began. -/
def execNvsScrubStart (s : State) : Out :=
  if s.nvs.scrubPos.isSome || decide (s.lifeS < s.nvs.scrubLife + 2592000) then .next s
  else
    let s := s.modNvs (fun n => { n with scrubPos := some 0, scrubDone := 0, scrubLife := s.lifeS })
    .next ((s.wrB NVS.STS.SCRUB true).wr NVS.SCRUB_STS.PAGE 0)

/-- NVS_SCRUB_PAGE (R405): the next page's margin read; a page with a copy that fails it, or that is invalid, is written
twice; one with no valid copy is lost (R398). After page 4,095 the pass ends with code 0xD2 and counts in SCRUB_PASS (R403). -/
def execNvsScrubPage (marginBad : Bool) (s : State) : Out :=
  match s.nvs.scrubPos with
  | none => .next s
  | some p =>
    if 14 < s.nvs.q.length ∨ s.nvsNoWrite then .next s
    else
      let bad := marginBad || !s.copyOk p p || !s.copyOk (p + 4096) p
      let w : NvsWrite := { page := p, data := [], by_ := WriteBy.scrub, pwd := none }
      let s := if bad && (s.pageData p).isSome then
          ((s.enqueue w).enqueue w).modNvs (fun n => { n with scrubDone := n.scrubDone + 1 })
        else if bad then s.readTrouble p
        else s
      if p < 4095 then .next ((s.modNvs (fun n => { n with scrubPos := some (p + 1) })).wr NVS.SCRUB_STS.PAGE (p + 1))
      else
        let s := ((s.modNvs (fun n => { n with scrubPos := none })).wrB NVS.STS.SCRUB false).count 7 1
        let s := s.wr NVS.SCRUB_STS.REWRITTEN (min (2 ^ 20 - 1) s.nvs.scrubDone)
        .next (s.logc NVS.PAGE 0xD2 (s.rd NVS.SCRUB_STS) s.nvs.scrubDone)

/-! ### Bulk map store -/

/-- Bytes of a side (R407). -/
def bmsSide : Nat := 4 * 2 ^ 30

/-- An erased byte. -/
def bmsErased : Nat → Byte := fun _ => 0xFF

/-- Read `n` bytes of a side. -/
def State.bmsRd (s : State) (side ofs n : Nat) : List Byte := tgets bmsErased s.nvs.bms (side * bmsSide + ofs) n

/-- An entry of a directory (R408): TYPE, VERSION, OFFSET and LENGTH. -/
structure BmsEntry where
  ty : Nat
  version : Nat
  ofs : Nat
  len : Nat
  deriving DecidableEq, Repr

/-- The entries of a legal directory with GEN; `none` when the side is not valid (R408). -/
def parseDir (d : List Byte) : Option (Nat × List BmsEntry) :=
  let n := leAt d 6 2
  let ents := (List.range n).map (fun e =>
    ({ ty := leAt d (32 + 32 * e) 1, version := leAt d (36 + 32 * e) 4, ofs := leAt d (40 + 32 * e) 8,
       len := leAt d (48 + 32 * e) 8 } : BmsEntry))
  let entOk (e : Nat) (b : BmsEntry) : Bool :=
    decide (1 ≤ b.ty ∧ b.ty ≤ 4 ∧ leAt d (33 + 32 * e) 3 = 0 ∧ b.ofs % 4096 = 0 ∧ 4096 ≤ b.ofs ∧
      b.ofs + b.len ≤ bmsSide ∧ leAt d (56 + 32 * e) 8 = 0)
  if leAt d 0 4 = 0x52444D42 ∧ leAt d 4 2 = 1 ∧ 1 ≤ n ∧ n ≤ 8 ∧ (slice d 12 20).all (· == 0) ∧
      (List.range n).all (fun e => match ents[e]? with | some b => entOk e b | none => false) ∧
      (ents.map BmsEntry.ty).eraseDups.length = n ∧ (slice d 288 3804).all (· == 0) ∧
      leAt d 4092 4 = rim (d.take 4092) 0 then
    some (leAt d 8 4, ents)
  else none

/-- The directory of a side. -/
def State.bmsDir (s : State) (side : Nat) : Option (Nat × List BmsEntry) := parseDir (s.bmsRd side 0 4096)

/-- A_VALID, B_VALID, GEN_A and GEN_B as the sides stand (R413). -/
def State.bmsSts (s : State) : State :=
  let a := s.bmsDir 0
  let b := s.bmsDir 1
  (((s.wrB BMS.STS.A_VALID a.isSome).wrB BMS.STS.B_VALID b.isSome).wr BMS.GEN_A ((a.map Prod.fst).getD 0)).wr BMS.GEN_B
    ((b.map Prod.fst).getD 0)

/-- The order in which the sides are tried for an image type (R409): valid sides, the greater GEN first. -/
def State.bmsOrder (s : State) : List Nat :=
  match s.bmsDir 0, s.bmsDir 1 with
  | some a, some b => if sdiff32 b.1 a.1 > 0 then [1, 0] else [0, 1]
  | some _, none => [0]
  | none, some _ => [1]
  | none, none => []

/-- The image of a type on a side (R408). -/
def State.bmsImage (s : State) (side ty : Nat) : Option BmsEntry :=
  match s.bmsDir side with
  | some d => d.2.find? (fun e => e.ty == ty)
  | none => none

/-- Program bytes; their pages are no longer erased. -/
def State.bmsWr (s : State) (side ofs : Nat) (bs : List Byte) : State :=
  s.modNvs (fun n => { n with
    bms := tsets bmsErased n.bms (side * bmsSide + ofs) bs,
    bmsProg := (List.range (bs.length / 4096)).foldl
      (fun t k => tset (fun _ => false) t ((side * bmsSide + ofs) / 4096 + k) true) n.bmsProg })

/-- Erase `n` bytes of a side. -/
def State.bmsErase (s : State) (side ofs n : Nat) : State :=
  let a := side * bmsSide + ofs
  s.modNvs (fun m => { m with
    bms := tfilter (fun k _ => !(decide (a ≤ k) && decide (k < a + n))) m.bms,
    bmsProg := tfilter (fun k _ => !(decide (a ≤ 4096 * k) && decide (4096 * k < a + n))) m.bmsProg })

/-- The job the registers describe. -/
def State.bmsJobOf (s : State) (path : Path) (op : Nat) : BmsJob where
  op := op
  side := s.rd BMS.SIDE_SEL.SIDE 0 path.num
  ofs := s.rd BMS.OFS.OFS * 4096
  hbm := s.rd BMS.HBM_LO.ADDR * 4096 + s.rd BMS.HBM_HI.ADDR * 2 ^ 32
  len := s.rd BMS.LEN.BYTES

/-- The image side of the running firmware (START_STS.FW_IMG, R409). -/
def State.fwSide (s : State) : Nat := s.rd SYS.START_STS.FW_IMG

/-- A BMS operation refused at once with its RESULT and event ERR. -/
def State.bmsFail (s : State) (code : Nat) : State := (s.wr BMS.RESULT.CODE code).event BMS.PAGE 1

/-- A flash block that fails is retired, with code 0xDD (R407, R411). -/
def State.retireBlock (s : State) : State :=
  let s := s.bump BMS.STS.RETIRED
  s.logc BMS.PAGE 0xDD (s.rd BMS.STS) 0

/-- A write of BMS.CTL with operation `op` (R410, R413, R414). -/
def State.bmsCtl (s : State) (path : Path) (priv : Bool) (op : Nat) : State :=
  let j := s.bmsJobOf path op
  if op = 0 then s
  else if s.mode.sec ≠ .openS ∧ priv = false then s.bmsFail 5
  else if op ≠ 1 ∧ (j.len % 4096 ≠ 0 ∨ bmsSide < j.ofs + j.len ∨ hbmSize < j.hbm + j.len) then s.bmsFail 1
  else if op ≠ 3 ∧ j.side = s.fwSide then (s.bmsFail 2).logc BMS.PAGE 0xDC (s.rd BMS.STS) j.side
  else if op = 2 ∧ (List.range (j.len / 4096)).any (fun k =>
      tget (fun _ => false) s.nvs.bmsProg ((j.side * bmsSide + j.ofs) / 4096 + k)) then s.bmsFail 3
  else
    let s := s.modNvs (fun n => { n with bmsJob := some j, bmsRetried := false })
    let s := (s.wrB BMS.STS.BUSY true).wr BMS.RESULT.CODE 8
    -- an erase clears the directory first (R410)
    if op = 1 then (s.bmsErase j.side 0 4096).bmsSts else s

/-- A write of BMS.CTL. -/
def wrBmsCtl (path : Path) (priv : Bool) (v : Nat) (s : State) : WrRes :=
  if s.rdB BMS.STS.BUSY then ign28 path BMS.PAGE BMS.CTL.off v s else okW (s.bmsCtl path priv (v % 4))

/-- A write of SIDE_SEL, OFS, HBM_LO, HBM_HI or LEN: ignored and logged while an operation runs (R414). -/
def wrBmsReg (path : Path) (off v : Nat) (s : State) : WrRes :=
  if s.rdB BMS.STS.BUSY then ign28 path BMS.PAGE off v s
  else okW (s.plainWrite BMS.PAGE off (if off = BMS.SIDE_SEL.SIDE.off then path.num else 0) v)

/-- The operation's effect on flash or HBM. A burst with an uncorrectable code word gives the store bytes the spec does
not state (log entry 1). -/
def State.bmsEffect (s : State) (j : BmsJob) : State :=
  if j.op = 1 then s.bmsErase j.side 0 bmsSide
  else if j.op = 2 then
    if s.hbmBad j.hbm j.len then
      let (v, s) := s.takeFree (8 * j.len)
      let s := s.each (s.badBursts [(j.hbm, j.len)]) (fun s k => s.uncorrectable (32 * k) .throughput)
      s.bmsWr j.side j.ofs (leBytes j.len v.toNat)
    else s.bmsWr j.side j.ofs (s.hbmRd j.hbm j.len)
  else s.hbmWr j.hbm (s.bmsRd j.side j.ofs j.len)

/-- BMS_DONE (R411, R413): the operation ends with RESULT 0 and event DONE; a flash failure retires the block (code 0xDD)
and is retried once, then ends with RESULT 4, event ERR and code 0xDE. Operations wait during Hot-throttle (R420), those that
use HBM during self-refresh (R286), and programming has stopped at the power-fail warning (R410). -/
def execBmsDone (fail : Bool) (s : State) : Out :=
  match s.nvs.bmsJob with
  | none => .next s
  | some j =>
    if s.hotThrottle || (j.op != 1 && s.mem.sealed) then .next s
    else if fail && j.op != 3 then
      let s := s.retireBlock
      if s.nvs.bmsRetried then
        let s := (s.modNvs (fun n => { n with bmsJob := none })).wrB BMS.STS.BUSY false
        .next (((s.bmsFail 4).logc BMS.PAGE 0xDE (s.rd BMS.STS) 0).bmsSts)
      else .next (s.modNvs (fun n => { n with bmsRetried := true }))
    else
      let s := ((s.bmsEffect j).modNvs (fun n => { n with bmsJob := none })).wrB BMS.STS.BUSY false
      .next (((s.wr BMS.RESULT.CODE 0).event BMS.PAGE 0).bmsSts)

/-- BMS_PATROL (R407): the 90-day read of every block; each block that fails is retired with code 0xDD. Blocks that only
move show nothing. -/
def execBmsPatrol (retired : BitVec 16) (s : State) : Out :=
  if s.hotThrottle then .next s
  else .next (s.each (List.range retired.toNat) (fun s _ => s.retireBlock))

end Sys2Proof.Machine
end

