-- ==== Sys2Proof/Machine/Coding.lean ====
section
/-! DEFINITION. The own lane coding as functions on bits and symbols: blocks and their scrambler (R292, R295), Gray levels
(R293), precoding (R294), how a flit lies on the lanes (R320, R334), the hop latency (R332) and the FEC parity (R323). No
command's effect on the registers depends on them: a command names what a receiver recovered. -/

namespace Sys2Proof.Machine

/-- The bits of a byte, most significant first. -/
def byteBits (b : Byte) : List Bool := (List.range 8).map (fun i => b.getMsbD i)

/-- The bits of a list of bytes, in transmission order (R292). -/
def bytesBits (bs : List Byte) : List Bool := bs.flatMap byteBits

/-- The scrambler x^58 + x^39 + 1 (R292): `hist` holds the last 58 scrambled bits, the latest first. -/
def scramble : List Bool → List Bool → List Bool × List Bool
  | hist, [] => ([], hist)
  | hist, b :: bs =>
    let o := xor b (xor (hist.getD 38 false) (hist.getD 57 false))
    let r := scramble ((o :: hist).take 58) bs
    (o :: r.1, r.2)

/-- The self-synchronous descrambler (R292): `hist` holds the last 58 received bits, the latest first. -/
def descramble : List Bool → List Bool → List Bool
  | _, [] => []
  | hist, b :: bs => xor b (xor (hist.getD 38 false) (hist.getD 57 false)) :: descramble ((b :: hist).take 58) bs

/-- The scrambler state at the start of a training run (R292). -/
def scrambleInit : List Bool := List.replicate 58 true

/-- A 66-bit block (R292): header 01 before a D block's payload, 10 before a K block's; the payload as scrambled. -/
def blockBits (k : Bool) (scrambled : List Bool) : List Bool := [k, !k] ++ scrambled

/-- A K block's payload: kind byte and 7 content bytes (R292, R295). -/
def kPayload (kind : Nat) (content : List Byte) : List Byte := BitVec.ofNat 8 kind :: (content ++ zeros 7).take 7

/-- Gray mapping of a bit pair to a level (R293). -/
def grayLevel : Bool → Bool → Nat
  | false, false => 0 | false, true => 1 | true, true => 2 | true, false => 3

/-- The bit pair of a level. -/
def levelPair (n : Nat) : Bool × Bool :=
  if n = 0 then (false, false) else if n = 1 then (false, true) else if n = 2 then (true, true) else (true, false)

/-- The levels of a bit string, pair by pair (R293). -/
def levels : List Bool → List Nat
  | a :: b :: t => grayLevel a b :: levels t
  | _ => []

/-- Precoding from y_(-1) = `y` (R294). -/
def precode : Nat → List Nat → List Nat
  | _, [] => []
  | y, x :: xs => (x + 4 - y % 4) % 4 :: precode ((x + 4 - y % 4) % 4) xs

/-- The receiver's recovery of precoded levels (R294). -/
def decodePre : Nat → List Nat → List Nat
  | _, [] => []
  | y, x :: xs => (x + y) % 4 :: decodePre x xs

/-- The logical lane and slot on which byte `b` of a flit travels at width `n` (R320). -/
def flitPlace (n b : Nat) : Nat × Nat := (b / 8 % n, b / 8 / n)

/-- The hop of R332 in weave cycles, at block time `tb` thousandths of a weave cycle: cut-through with `s` head slots, and
the FEC frame at rate codes 3 and 4. -/
def hopWc (tb rate width : Nat) : Nat :=
  let slots := (20 + 8 * width - 1) / (8 * width)
  (30000 + (4 + (slots - 1)) * tb + 999) / 1000 + (if 3 ≤ rate then (32 * tb + 48000 + 999) / 1000 else 0)

/-! ### FEC (R323) -/

/-- Multiply by alpha in GF(2^10) with x^10 + x^3 + 1. -/
def fecTwice (a : Nat) : Nat := if a < 512 then 2 * a else (2 * a) % 1024 ^^^ 9

/-- Product in GF(2^10), over the bits of the second factor from the top. -/
def fecMul (a b : Nat) : Nat := (List.range 10).foldl (fun r i => fecTwice r ^^^ (if bit b (9 - i) then a else 0)) 0

/-- alpha^i. -/
def fecPow : (i : Nat) → Nat
  | 0 => 1
  | i + 1 => fecTwice (fecPow i)

/-- The coefficients of (x - alpha^0) ... (x - alpha^(k-1)), highest power first. -/
def fecGen : (k : Nat) → List Nat
  | 0 => [1]
  | k + 1 =>
    let g := fecGen k
    List.zipWith (fun a b => a ^^^ b) (g ++ [0]) (0 :: g.map (fecMul (fecPow k)))

/-- The 12 parity symbols of a list of data symbols, highest power first (R323). -/
def fecRemainder (data : List Nat) : List Nat :=
  let g := (fecGen 12).drop 1
  data.foldl (fun r d =>
    let f := d ^^^ r.headD 0
    List.zipWith (fun a b => a ^^^ b) (r.drop 1 ++ [0]) (g.map (fecMul f))) (List.replicate 12 0)

/-- Ten-bit symbols of a bit string, most significant bit first. -/
def symbols10 (fuel : Nat) (bs : List Bool) : List Nat :=
  match fuel with
  | 0 => []
  | n + 1 => if bs.isEmpty then [] else (bs.take 10).foldl (fun a b => 2 * a + b2n b) 0 :: symbols10 n (bs.drop 10)

/-- The parity of an FEC frame's 1,980 line bits followed by 20 zero bits (R323). -/
def fecParity (line : List Bool) : List Nat := fecRemainder (symbols10 200 (line ++ List.replicate 20 false))

end Sys2Proof.Machine
end

