-- ==== Sys2Proof/Machine/LaneTx.lean ====
section
/-! DEFINITION. The transmitters of the lanes with the own coding (R196, R292-R295, R306): the blocks that a command sends, through
each lane's scrambler, as levels. How many IDLE or other blocks pass between two commands is no part of either, so the scrambler
of a lane stands at a free value as a command's first block goes out, but at the start of a training run (log entry 198). -/

namespace Sys2Proof.Machine

/-- A K block. -/
def kBlk (kind : Nat) (content : List Byte) : LaneBlk := ⟨true, kPayload kind content⟩

/-- A D block of 8 bytes. -/
def dBlk (bs : List Byte) : LaneBlk := ⟨false, (bs ++ zeros 8).take 8⟩

/-- IDLE (R197). -/
def idleBlk : LaneBlk := kBlk 0 []

/-- START (R197): PTYPE and the length in group words. -/
def startBlk (ptype words : Nat) : LaneBlk := kBlk 1 ([BitVec.ofNat 8 ptype] ++ beBytes 2 words)

/-- The history of a scrambler, the latest bit first. -/
def scrHist (r : BitVec 58) : List Bool := (List.range 58).map r.getLsbD

/-- A history as a scrambler state. -/
def scrOf (h : List Bool) : BitVec 58 := BitVec.ofNat 58 (h.foldr (fun b a => 2 * a + b2n b) 0)

/-- The bits of blocks through the scrambler (R292), and its history after them. -/
def blocksBits : List Bool → List LaneBlk → List Bool × List Bool
  | h, [] => (h, [])
  | h, b :: bs =>
    let p := scramble h (bytesBits b.bytes)
    let r := blocksBits p.1 bs
    (r.1, blockBits b.k p.2 ++ r.2)

/-- Blocks sent from a scrambler state; with `y` precoding runs from that level (R294), behind the first `plain` blocks. -/
def LaneTx.send (start : BitVec 58) (y : Option Nat) (plain : Nat) (bs : List LaneBlk) : LaneTx :=
  let r := blocksBits (scrHist start) bs
  let xs := Sys2Proof.Machine.levels r.2
  ⟨scrOf r.1, bs, match y with
    | some y => xs.take (33 * plain) ++ precode y (xs.drop (33 * plain))
    | none => xs⟩

/-- Lane `n` sends blocks while its transmitter is on. -/
def State.laneSend (s : State) (n : Nat) (bs : List LaneBlk) : State :=
  if tget (fun _ => false) s.lan.tx n then
    let (r, s) := s.takeFree 58
    let (y, s) := s.takeFree 2
    let pre := s.rdB LAN.LANE_STS.PRE_TX 0 n
    s.modLan (fun c => { c with
      out := tset (fun _ => LaneTx.init) c.out n (LaneTx.send r (if pre then some y.toNat else none) 0 bs) })
  else s

/-- A training run of lane `n` begins (R292, R294, R303): the scrambler at all ones, the first frame of 64 blocks; precoding runs
from the block behind its TRAIN block. -/
def State.laneTrain (s : State) (n : Nat) (train : List Byte) : State :=
  if tget (fun _ => false) s.lan.tx n then
    let pre := s.rdB LAN.LANE_STS.PRE_TX 0 n
    s.modLan (fun c => { c with
      out := tset (fun _ => LaneTx.init) c.out n (LaneTx.send (BitVec.allOnes 58) (if pre then some 0 else none) 1
        (kBlk 0xF1 train :: List.replicate 63 (dBlk []))) })
  else s

/-- The lane index of physical lane `p` of panel group `g` (R291). -/
def panelLane (g p : Nat) : Nat := 15 * g + p

/-- A K block on every lane of the groups of a half (R197). -/
def State.sendMarker (s : State) (h : Fin 2) (b : LaneBlk) : State :=
  s.each ((List.range 120).map (fun i => 120 * h.val + i)) (fun s n => s.laneSend n [b])

/-- The lane map in force of a group (R207): the logical lane of each physical lane, 15 for none. -/
def State.laneMap (s : State) (g : Nat) : List Nat :=
  tget (fun _ => [0, 1, 2, 3, 4, 5, 6, 7, 8, 9, 10, 11, 12, 13, 15]) s.scan.mapNow g

/-- Lanes in use by the map in force (R207). -/
def State.lanesNow (s : State) (g : Nat) : Nat := max 1 ((s.laneMap g).filter (fun l => l != 15)).length

/-- A START follows: a new map that a LOAD or FRAME has followed comes into force (R207). -/
def State.startMap (s : State) (g : Nat) : State :=
  match tget (fun _ => none) s.scan.mapSent g with
  | some (m, true) => s.modScan (fun c => { c with
      mapNow := tset (fun _ => [0, 1, 2, 3, 4, 5, 6, 7, 8, 9, 10, 11, 12, 13, 15]) c.mapNow g m
      mapSent := tset (fun _ => none) c.mapSent g none })
  | _ => s

/-- A LOAD or FRAME has gone out on a half (R207). -/
def State.markerMap (s : State) (h : Fin 2) : State :=
  s.each ((List.range 8).map (fun k => 8 * h.val + k)) (fun s g =>
    match tget (fun _ => none) s.scan.mapSent g with
    | some (m, _) => s.modScan (fun c => { c with mapSent := tset (fun _ => none) c.mapSent g (some (m, true)) })
    | none => s)

/-- The D block of group word `w` on logical lane `l` with `n` lanes in use (R198). -/
def wordBlk (n l w : Nat) (pkt : List Byte) : LaneBlk := dBlk ((pkt.drop (8 * n * w + 8 * l)).take 8)

/-- The blocks that physical lane `p` sends for a packet of whole group words (R197, R198): START and its D blocks; the spare lane
and a lane not in use copy the START and carry IDLE in place of D blocks. -/
def packetBlks (m : List Nat) (n p : Nat) (pkt : List Byte) : List LaneBlk :=
  let words := (pkt.length + 8 * n - 1) / (8 * n)
  let l := m.getD p 15
  startBlk (beAt pkt 0 1) words :: (List.range words).map (fun w => if l = 15 then idleBlk else wordBlk n l w pkt)

/-- A packet goes out on a group's 15 lanes (R198), padded to whole group words. -/
def State.sendPacket (s : State) (g : Nat) (pkt : List Byte) : State :=
  let n := s.lanesNow g
  let m := s.laneMap g
  s.each (List.range 15) (fun s p => s.laneSend (panelLane g p) (packetBlks m n p pkt))

/-- A panel lane's transmitter taps at a rate: one set per rate in the Config panel record (R301). -/
def State.panelTaps (s : State) (n rate : Nat) : State := s.wr LAN.LANE_EQ (s.boot.cfg.taps.getD rate 0 % 2 ^ 15) 0 n

/-! ### Receiver taps (R301, R302, R424) -/

/-- The DFE taps of a lane's receiver. -/
def State.dfeTaps (s : State) (n : Nat) : List Int := tget (fun _ => List.replicate 8 0) s.lan.dfe n

/-- Lane `n` is a fabric, panel return or flex lane with the own coding, and in lock (R291, R424). -/
def State.trimmed (s : State) (n : Nat) : Bool :=
  s.rdB LAN.LANE_STS.BLOCK 0 n && !(decide (448 ≤ n) && s.rd LAN.PORT_CFG.MODE 0 (32 + (n - 448) / 4) == 0)

/-- Calibration moves at most one tap of a lane's receiver by one step (R302): which one, and where, is what it measures. One at the
end of its range stays, with code 0x9C. -/
def State.laneTrim (s : State) (n : Nat) : State :=
  let (v, s) := s.takeFree 8
  let tap := v.toNat / 4 % 9
  let way : Int := if v.toNat % 4 = 1 then 1 else if v.toNat % 4 = 2 then -1 else 0
  let pos : Int := if tap = 0 then (s.rd LAN.LANE_EQ.CTLE 0 n : Int) else (s.dfeTaps n).getD (tap - 1) 0
  let new := pos + way
  let ok := if tap = 0 then decide (0 ≤ new) && decide (new ≤ 15) else decide (new.natAbs ≤ Sys2Proof.Config.dfeRange)
  if way = 0 then s
  else if !ok then s.logc LAN.PAGE 0x9C (s.rd LAN.LANE_STS 0 n) n
  else if tap = 0 then s.wr LAN.LANE_EQ.CTLE new.toNat 0 n
  else s.modLan (fun c => { c with
    dfe := tset (fun _ => List.replicate 8 0) c.dfe n ((tget (fun _ => List.replicate 8 0) c.dfe n).set (tap - 1) new) })

/-- The lanes' step at a boundary, the start of line 8,640 of either raster, while their group runs (R302, R424). -/
def State.laneTrims (s : State) : State :=
  if bit (s.rd CLB.STS.RUNNING) 0 then
    s.each (((List.range 272).map (· + 240)).filter s.trimmed) (fun s n => s.laneTrim n)
  else s

end Sys2Proof.Machine
end

