-- ==== Sys2Proof/Machine/Sill.lean ====
section
/-! DEFINITION. The Sill picture (R59-R61): its text, its pixels and the start's fail codes (R65). -/

namespace Sys2Proof.Machine

/-- A start failure (R65): its fail code in START_STS.FAIL, logged as ARG0 of code 0x2A (R483, R484). Of two failures in one
start the latest shows (log entry 177). -/
def State.startFail (s : State) (code : Nat) : State :=
  let s := s.wr SYS.START_STS.FAIL code
  s.logc SYS.PAGE 0x2A (s.rd SYS.START_STS) 0

/-- A start halted in Sill (R65): stage 13. -/
def State.haltStart (s : State) (code : Nat) : State :=
  let s := (s.wr SYS.START_STS.STAGE 13).modFab (fun f => { f with waitAddr := false })
  (s.modBoot (fun b => { b with starting := false, warm := false })).startFail code

/-- ASCII bytes of a text. -/
def ascii (t : String) : List (BitVec 8) := t.toList.map (fun c => BitVec.ofNat 8 c.toNat)

/-- A text row of 40 characters: cut or filled with blanks. -/
def row40 (t : List (BitVec 8)) : List (BitVec 8) := (t ++ List.replicate 40 0x20).take 40

/-- One hexadecimal digit in ASCII. -/
def hexDigit (n : Nat) : BitVec 8 := if n < 10 then BitVec.ofNat 8 (48 + n) else BitVec.ofNat 8 (55 + n)

/-- `k` hexadecimal digits of `n`. -/
def hexText : (k n : Nat) → List (BitVec 8)
  | 0, _ => []
  | k + 1, n => hexText k (n / 16) ++ [hexDigit (n % 16)]

/-- Decimal digits of a number below 10^k, leading zeros dropped. -/
def decDigits : (k n : Nat) → List (BitVec 8)
  | 0, _ => []
  | 1, n => [hexDigit (n % 10)]
  | k + 2, n => (if n < 10 then [] else decDigits (k + 1) (n / 10)) ++ [hexDigit (n % 10)]

/-- Decimal text. -/
def decText (n : Nat) : List (BitVec 8) := decDigits 20 n

/-- The stage names of the start table (R56, R69). -/
def stageName (n : Nat) : String :=
  ["ROM BOOT", "STORE READ", "PANEL CHECK", "RAILS", "SILL PICTURE", "FIRMWARE", "HBM TRAINING", "MAP LOAD", "LANE STEP-UP",
   "LINTEL LOCK", "LEAF NEGOTIATION", "BALANCE-RESTORE WAIT", "FULL", "HALTED IN SILL", "QUARANTINED"].getD n ""

/-- The fail code that row 5 shows (R61, R421): START_STS.FAIL, or 00E2 in Thermal-stop; 0 for none. -/
def State.shownFault (s : State) : Nat :=
  if s.mode.power = .thermalStop then 0xE2 else s.rd SYS.START_STS.FAIL

/-- The operator text of a half: the bytes of TEXT_A0-9 or TEXT_B0-9 (R61, R474). -/
def State.operatorText (s : State) (h : Nat) : List (BitVec 8) :=
  ((List.range 10).map (fun k => leBytes 4 (s.reg (regKey 0 SIL.PAGE ((if h = 0 then 0x200 else 0x240) + 4 * k))).toNat)).flatten

/-- The ten rows of a half's status block (R61). -/
def State.sillRows (s : State) (h : Nat) : List (List (BitVec 8)) :=
  let part := ascii (if s.rd SYS.MOD_ID.EXT = 0 then "TL-7250-C STEP B" else "TL-7250-E STEP B")
  let serial := hexText 16 (s.rd SYS.SERIAL_LO + s.rd SYS.SERIAL_HI * 2 ^ 32)
  let addr := if s.rd FAB.ADDR_STS.STATE = 2
    then decText (s.rd FAB.ADDR_STS.ADDR / 256) ++ [0x2C] ++ decText (s.rd FAB.ADDR_STS.ADDR % 256)
    else ascii "NO ADDRESS"
  let pwr := match s.mode.power with
    | .sill => "SILL" | .full => "FULL" | .shutter => "SHUTTER" | .standbyLeaf => "STANDBY-LEAF"
    | .thermalStop => "THERMAL-STOP" | .discharge => "DISCHARGE"
  let sec := match s.mode.sec with | .openS => " OPEN" | .sealed => " SEALED" | .quarantined => " QUARANTINED"
  let dbg := match s.mode.dbg with | .detached => " DETACHED" | .observe => " OBSERVE" | .intrusive => " INTRUSIVE"
  let stage := s.rd SYS.START_STS.STAGE
  let fault := if s.shownFault = 0 then ascii "NO FAULT" else ascii "FAULT " ++ hexText 4 s.shownFault
  let bal := if s.rdB SYS.START_STS.BAL_RST then ascii "BALANCE RESTORE " ++ decText ((300 - s.boot.balFrames + 29) / 30) else []
  let role := match s.rd LEF.STS.ROLE with
    | 0 => "NOT NEGOTIATED" | 1 => "SINGLE" | 2 => "ACTIVE" | _ => "STANDBY"
  [part, serial, addr ++ [0x20, if h = 0 then 0x41 else 0x42], ascii pwr ++ ascii sec ++ ascii dbg,
   decText stage ++ [0x20] ++ ascii (stageName stage), fault, bal, ascii role,
   if s.rdB SIL.TEXT_CTL.SHOW then s.operatorText h else [], ascii "NO SCENE DATA"].map row40

/-- The character buffer written from the present state (R61). -/
def State.writeText (s : State) : State := s.modBoot (fun b => { b with chars := s.sillRows 0 ++ s.sillRows 1 })

/-- Any fault is active: the fault line is amber (R59). -/
def State.anyFault (s : State) : Bool :=
  s.shownFault != 0 || s.powerFault || s.freshFault || s.leafFault || s.thermalFault

/-- A lower-case letter is shown as its capital (R60). -/
def capital (c : Nat) : Nat := if 0x61 ≤ c ∧ c ≤ 0x7A then c - 32 else c

/-- The 12-bit code of a subpixel of the Sill picture (R59, R63) at half-local column x, line y, colour c. -/
def State.sillCode (s : State) (h x y c : Nat) : Nat :=
  if 2560 ≤ x ∧ x ≤ 12799 ∧ 3040 ≤ y ∧ y ≤ 5599 then
    let row := (y - 3040) / 256
    let ch := capital ((s.boot.chars.getD (10 * h + row) []).getD ((x - 2560) / 256) 0x20).toNat
    if 0x20 ≤ ch ∧ ch ≤ 0x5F ∧ Config.glyphDot ch ((y - 3040) % 256 / 32) ((x - 2560) % 256 / 32) then
      (if row = 5 ∧ s.anyFault then [3072, 1536, 0].getD c 0 else 3072)
    else 0
  else if s.rdB SYS.START_STS.BAL_RST then 2048
  else if (x + y) / 64 % 2 = 0 then 512 else 256

/-- The panel codes of a line of the Sill picture, shifted to the panel depth (R59). -/
def State.sillLine (s : State) (h y : Nat) : List Nat :=
  let sh := if s.rd WV.OUT_CTL.DEPTH h = 0 then 1 else 4
  (List.range 46080).map (fun u => s.sillCode h (u / 3) y (u % 3) / sh)

end Sys2Proof.Machine
end

