-- ==== Sys2Proof/Machine/Link.lean ====
section
/-! DEFINITION. The panel link (R196-R211, R216, R219) and the Rim units (R178-R186): line packets and line checks, control
packets, markers, the column drivers' reports, lanes and their maps, and the Rim calculator. -/

namespace Sys2Proof.Machine

/-- The page of a half's link registers. -/
def plkPage (h : Fin 2) : Nat := PLK.PAGE + h.val

/-! ### Groups, lanes and maps (R202, R207, R209) -/

/-- Lanes of a fail set that work. -/
def workingLanes (fail : Nat) : List Nat := (List.range 15).filter (fun l => !bit fail l)

/-- The logical lane of each physical lane, 15 for none (R207). -/
def laneMapOf (fail : Nat) : List Nat :=
  let w := workingLanes fail
  if 14 ≤ w.length then
    (List.range 14).map (fun i => if bit fail i then 15 else i) ++
      [((List.range 14).find? (fun i => bit fail i)).getD 15]
  else (List.range 15).map (fun l => if bit fail l then 15 else (w.filter (fun k => decide (k < l))).length)

/-- N: lanes in use (R207). -/
def lanesInUse (fail : Nat) : Nat := min 14 (workingLanes fail).length

/-- Bytes of a line packet before padding: header, codes, check (R199). -/
def linePacketBytes (depth : Nat) : Nat := 16 + 5760 * depth / 8 + 4

/-- Group words per line packet (R198). -/
def groupWords (depth n : Nat) : Nat := if n = 0 then 0 else (linePacketBytes depth + 8 * n - 1) / (8 * n)

/-- Block time in 1/1,000 wc per rate code (R196). -/
def blockTime (rate : Nat) : Nat := [33792, 16896, 8448, 4224].getD rate 4224


/-- A configuration fits a group (R202). -/
def fits (depth n rate lineEff : Nat) : Bool :=
  decide ((groupWords depth n + 3) * blockTime rate * 256 ≤ 1000 * (lineEff - 40 * 256)) && decide (40 * 256 ≤ lineEff)

/-- A group has failed (R209). -/
def State.groupFailed (s : State) (g : Nat) : Bool := bit (s.rd PLK.LINK_STS.FAILED (groupHalf g)) (g % 8)

/-- Set or clear one bit of a field. -/
def State.wrBit (s : State) (f : Fld) (i : Nat) (v : Bool) (inst : Nat := 0) (idx : Nat := 0) : State :=
  let old := s.rd f inst idx
  s.wr f (if v then old ||| 2 ^ i else old - (if bit old i then 2 ^ i else 0)) inst idx

/-- A group fails (R209): no more line packets, code 0x54, event GROUP_FAIL; its residues freeze (R238). -/
def State.failGroup (s : State) (g : Nat) : State :=
  if s.groupFailed g then s
  else
    let h := groupHalf g
    let s := s.wrBit PLK.LINK_STS.FAILED (g % 8) true h
    let s := s.wrB PDV.RES_STS.FROZEN true h
    (s.event (plkPage h) 1).logc (plkPage h) 0x54 (s.rd PLK.LINK_STS h) g

/-! ### Control packets (R200, R201) -/

/-- The queue of a group. -/
def State.ctrlQ (s : State) (g : Nat) : List CtrlPkt := tget (fun _ => []) s.scan.ctrlQ g

/-- Queue a control packet for a group; DISCHARGE goes before everything queued (R201). -/
def State.queueCtrl (s : State) (g cmd arg0 : Nat) (body : List Nat := []) : State :=
  let p : CtrlPkt := { cmd := cmd, seq := 0, arg0 := arg0, arg1 := 0, body := body }
  s.modScan (fun c => { c with
    ctrlQ := tset (fun _ => []) c.ctrlQ g (if cmd = 7 then p :: s.ctrlQ g else s.ctrlQ g ++ [p]) })

/-- Queue a control packet for every group of both halves that has not failed; a leaf that does not drive the panel sends none
(R369). -/
def State.queueAll (s : State) (cmd arg0 : Nat) : State :=
  if s.leaf.driving then s.each (List.range 16) (fun s g => if s.groupFailed g then s else s.queueCtrl g cmd arg0) else s

/-- The 112 bytes of a control packet (R200), most significant byte first. -/
def CtrlPkt.bytes (p : CtrlPkt) (g : Nat) : List Byte :=
  let b := [0x43, BitVec.ofNat 8 p.cmd] ++ beBytes 2 p.seq ++ beBytes 4 p.arg0 ++ beBytes 1 g ++ zeros 3 ++
    beBytes 4 p.arg1 ++ p.body.map (BitVec.ofNat 8)
  let b := b ++ zeros (108 - b.length)
  b ++ beBytes 4 (rim b (0xFFFF0000 + g * 256))

/-- A packet of `bs` on group `g`: a START first, with which a new map may come into force (R197, R207). -/
def State.txPacket (s : State) (g : Nat) (bs : List Byte) : State :=
  ((s.startMap g).modScan (fun c => { c with txPkt := tset (fun _ => []) c.txPkt g bs })).sendPacket g bs

/-- A control packet goes out (R198, R200): its zero padding follows CCHK where its map has fewer than 14 lanes (log entry 201). A
LANE_MAP's map waits for the next LOAD or FRAME; the newer map wins (R207, R216). -/
def State.sendCtrl (s : State) (g : Nat) (p : CtrlPkt) : State :=
  let s := s.txPacket g (p.bytes g)
  if p.cmd = 1 then
    s.modScan (fun c => { c with
      mapSent := tset (fun _ => none) c.mapSent g (some (p.body.map (fun l => if l = 0xFF then 15 else l), false)) })
  else if p.cmd = 6 then s.modLeaf (fun l => { l with mute := false })
  else s

/-- CTRL_STS of a group (R218). -/
def State.ctrlSts (s : State) (g : Nat) (p : CtrlPkt) (result : Nat) : State :=
  let h := groupHalf g
  ((s.wr PLK.CTRL_STS.CMD p.cmd h g).wr PLK.CTRL_STS.SEQ p.seq h g).wr PLK.CTRL_STS.RESULT result h g

/-- CONTROL_PACKET_SEND (R201): the head of the group's queue goes out with the next SEQ, in the next gap between line packets;
DISCHARGE abandons a packet in progress. A failed group is sent DISCHARGE alone (R209, R239); a leaf that does not drive the
panel sends none (R369). -/
def execControlPacketSend (group : Fin 16) (s : State) : Out :=
  let g := group.val
  match s.ctrlQ g with
  | [] => .next s
  | p :: q =>
    if !s.leaf.driving || (s.groupFailed g && p.cmd != 7) || (s.leaf.mute && p.cmd != 6 && p.cmd != 7) then .next s
    else
      let seq := tget (fun _ => 0) s.scan.groupSeq g
      let p := { p with seq := seq.toNat }
      let s := s.modScan (fun c => { c with
        ctrlQ := tset (fun _ => []) c.ctrlQ g q
        ctrlSent := tset (fun _ => []) c.ctrlSent g (tget (fun _ => []) c.ctrlSent g ++ [(p, 1)])
        groupSeq := tset (fun _ => 0) c.groupSeq g (seq + 1) })
      .next ((s.sendCtrl g p).ctrlSts g p 1)

/-- CONTROL_PACKET_RESEND (R201): no acknowledgement of the group's oldest outstanding packet within 4 lines; the same SEQ again,
and after the third send the group fails. -/
def execControlPacketResend (group : Fin 16) (s : State) : Out :=
  let g := group.val
  match tget (fun _ => []) s.scan.ctrlSent g with
  | [] => .next s
  | (p, n) :: rest =>
    if n < 3 then
      .next ((s.modScan (fun c => { c with
        ctrlSent := tset (fun _ => []) c.ctrlSent g ((p, n + 1) :: rest) })).sendCtrl g p)
    else
      let s := s.modScan (fun c => { c with ctrlSent := tset (fun _ => []) c.ctrlSent g rest })
      .next (((s.ctrlSts g p 2).event (plkPage (groupHalf g)) 2).failGroup g)

/-- The group's lanes at its new count fit the rate and the raster (R202); else, or below MIN_LANES, the group fails (R209). -/
def State.fitGroup (s : State) (g : Nat) : State :=
  let h := groupHalf g
  let n := s.rd PLK.GRP_STS.N h g
  if n < s.rd PLK.LINK_CTL.MIN_LANES h ∨ fits (s.depth h) n (s.rd PLK.LINK_STS.RATE_CUR h) s.lineEff = false then
    s.failGroup g
  else s

/-- A new set of failed lanes (R207, R209): map, lanes in use, LANE_MAP queued; the group fails below MIN_LANES or when its
packets no longer fit. -/
def State.setLanes (s : State) (g fail : Nat) : State :=
  let h := groupHalf g
  let m := laneMapOf fail
  let n := lanesInUse fail
  let s := ((s.wr PLK.GRP_STS.FAIL fail h g).wr PLK.GRP_STS.N n h g).wrB PLK.GRP_STS.SPARE_USED (m.getD 14 15 != 15) h g
  let s := s.wr PLK.GRP_MAP0 ((List.range 8).foldl (fun a p => a + m.getD p 15 * 16 ^ p) 0) h g
  let s := s.wr PLK.GRP_MAP1 ((List.range 7).foldl (fun a p => a + m.getD (p + 8) 15 * 16 ^ p) 0) h g
  let s := s.wrBit PLK.LINK_STS.NARROW (g % 8) (m.getD 14 15 != 15 || decide (n < 14)) h
  ((s.queueCtrl g 1 0 (m.map (fun l => if l = 15 then 0xFF else l)))).fitGroup g

/-- The taps and the rate code of a half's panel lanes (R301, R312). -/
def State.panelRate (s : State) (h : Fin 2) (rate : Nat) : State :=
  s.each ((List.range 120).map (fun i => 120 * h.val + i)) (fun s n => (s.wr LAN.LANE_STS.RATE rate 0 n).panelTaps n rate)

/-- Every group on its 14 lanes, none failed (R196). -/
def State.initMaps (s : State) : State :=
  s.each (List.range 16) (fun s g =>
    let h := groupHalf g
    let s := ((s.wr PLK.GRP_STS.FAIL 0 h g).wr PLK.GRP_STS.N 14 h g).wrB PLK.GRP_STS.SPARE_USED false h g
    (s.wr PLK.GRP_MAP0 0x76543210 h g).wr PLK.GRP_MAP1 0x0FDCBA98 h g)

/-- Every group on its 14 lanes, and IDLE at 3.125 Gb/s with the scrambler from all ones on each lane that is not held out of
use, as at the first idle pattern of a start (R56, R196, R306). -/
def State.initLanes (s : State) : State :=
  let s := s.initMaps
  let s := s.each ((List.range 240).filter (fun n => !s.rdB LAN.LANE_CTL.DIS 0 n)) (fun s n => s.modLan (fun c => { c with
    tx := tset (fun _ => false) c.tx n true
    out := tset (fun _ => LaneTx.init) c.out n (LaneTx.send (BitVec.allOnes 58) none 0 [idleBlk]) }))
  (s.panelRate 0 0).panelRate 1 0

/-- Lock as a report gives it (R207): GRP_LOCK, and each lane that goes out of lock fails with event LANE_LOST and code 0x53; a
lane that has not yet come into lock since the start has not failed (log entry 202). A group whose driver shows lock on every
lane that has not failed joins the half's locked groups (R58). -/
def State.laneLocks (s : State) (g lock : Nat) : State :=
  let h := groupHalf g
  let was := s.rd PLK.GRP_LOCK.LOCK h g
  let s := s.wr PLK.GRP_LOCK.LOCK lock h g
  if s.scan.rateTrain[h] then s
  else
    let fail := s.rd PLK.GRP_STS.FAIL h g
    let new := (List.range 15).filter (fun l => bit was l && !bit lock l && !bit fail l)
    let s := if (lock ||| fail) = 0x7FFF ∧ fail < 0x7FFF then
        s.modPanel (fun p => { p with driverLock := p.driverLock.set h (p.driverLock[h] ||| BitVec.ofNat 8 (2 ^ (g % 8))) })
      else s
    if new.isEmpty then s
    else
      let fail' := new.foldl (fun a l => a + 2 ^ l) fail
      let s := s.event (plkPage h) 0
      let s := s.each new (fun s l => s.logc (plkPage h) 0x53 fail' (g * 16 + l))
      s.setLanes g fail'

/-- A write of GRP_READMIT (R208): lanes of the selected group that have failed and that its driver reports in lock come
back with a new map in the next blanking. -/
def wrReadmit (h : Fin 2) (path : Path) (v : Nat) (s : State) : WrRes :=
  let g := s.rd PLK.GRP_SEL.GROUP h path.num
  let lanes := v % 2 ^ 15 &&& s.rd PLK.GRP_STS.FAIL h g &&& s.rd PLK.GRP_LOCK.LOCK h g
  okW (s.modScan (fun c => { c with
    readmit := tset (fun _ => 0) c.readmit g (tget (fun _ => 0) c.readmit g ||| BitVec.ofNat 15 lanes) }))

/-- The maps of re-admitted lanes, in blanking (R208). -/
def State.readmitLanes (s : State) : State :=
  s.each (List.range 16) (fun s g =>
    let r := (tget (fun _ => 0) s.scan.readmit g).toNat
    if r = 0 then s
    else
      let fail := s.rd PLK.GRP_STS.FAIL (groupHalf g) g
      (s.setLanes g (fail - (fail &&& r))).modScan (fun c => { c with readmit := tset (fun _ => 0) c.readmit g 0 }))

/-- A write of LINK_CTL (R219): RATE is the target of the rate steps, and only in the Sill power state; elsewhere another RATE is
ignored with the ignored-write record. MIN_LANES takes effect at once, and a group now below it fails. -/
def State.wrLinkCtl (h : Fin 2) (path : Path) (v : Nat) (s : State) : WrRes :=
  let sill := s.mode.power == .sill
  let other := !sill && v % 8 != s.rd PLK.LINK_CTL.RATE h
  let s := (if sill then s.wr PLK.LINK_CTL.RATE (v % 8) h else s).wr PLK.LINK_CTL.MIN_LANES (bits v 11 8) h
  let s := s.each ((List.range 8).map (fun k => 8 * h.val + k)) (fun s g =>
    if s.rd PLK.GRP_STS.N h g < s.rd PLK.LINK_CTL.MIN_LANES h ∧ s.panel.driverLock[h].getLsbD (g % 8) then s.failGroup g
    else s)
  if other then ign28 path (plkPage h) PLK.LINK_CTL.RATE.off v s else okW s

/-! ### Rate steps (R210) -/

/-- The next rate code on the way to the target. -/
def rateNext (cur target : Nat) : Nat := if cur < target then cur + 1 else cur - 1

/-- The groups of a half. -/
def halfGroups (h : Fin 2) : List Nat := (List.range 8).map (fun k => 8 * h.val + k)

/-- The lanes of a half run at a rate (R210, R211): RATE_CUR, rate codes and taps, and the fit of every group that runs (R202). -/
def State.setRate (s : State) (h : Fin 2) (rate : Nat) : State :=
  let s := (s.wr PLK.LINK_STS.RATE_CUR rate h).panelRate h rate
  s.each (halfGroups h) (fun s g => if s.panel.driverLock[h].getLsbD (g % 8) then s.fitGroup g else s)

/-- RATE_STEP_TRAIN (R210, R306): in Sill blanking a RATE packet goes out on the half, and all its lanes send training frames at
the new rate. A half without a panel makes no step (R65, 0x0201). -/
def execRateStepTrain (h : Fin 2) (s : State) : Out :=
  let cur := s.rd PLK.LINK_STS.RATE_CUR h
  let target := min 3 (s.rd PLK.LINK_CTL.RATE h)
  if s.mode.raster ≠ .sill ∨ s.mode.power ≠ .sill ∨ cur = target ∨ s.scan.rateTrain[h] ∨ s.panel.presN[h] ∨
      s.rd SYS.START_STS.STAGE = 13 ∨ s.boot.done.getLsbD 7 = false then .next s
  else
    let new := rateNext cur target
    let s := s.each (halfGroups h) (fun s g => (s.wr PLK.GRP_LOCK.LOCK 0 h g).queueCtrl g 2 new)
    let s := s.panelRate h new
    let s := s.each (halfGroups h) (fun s g => s.each (List.range 15) (fun s p =>
      s.laneTrain (panelLane g p) [BitVec.ofNat 8 new, 0, BitVec.ofNat 8 p]))
    .next (s.modScan (fun c => { c with rateTrain := c.rateTrain.set h true, rateNew := c.rateNew.set h new }))

/-- RATE_STEP_DECIDE (R210): at (8,698, 0) the new rate stays when every group reports all 15 lanes in lock, else the lanes
return to the old one; the third failure of a step halts the start with fail code 0x0801 and code 0x5A. -/
def execRateStepDecide (h : Fin 2) (s : State) : Out :=
  if !s.scan.rateTrain[h] then .next s
  else
    let s := s.modScan (fun c => { c with rateTrain := c.rateTrain.set h false })
    if (List.range 8).all (fun k => s.rd PLK.GRP_LOCK.LOCK h (8 * h.val + k) == 0x7FFF) then
      let s := s.modScan (fun c => { c with rateTry := c.rateTry.set h 0 })
      .next (s.setRate h s.scan.rateNew[h])
    else if s.scan.rateTry[h] < 2 then
      let s := s.panelRate h (s.rd PLK.LINK_STS.RATE_CUR h)
      .next (s.modScan (fun c => { c with rateTry := c.rateTry.set h (c.rateTry[h] + 1) }))
    else
      let s := s.panelRate h (s.rd PLK.LINK_STS.RATE_CUR h)
      let s := s.modScan (fun c => { c with rateTry := c.rateTry.set h 0 })
      let s := (s.event (plkPage h) 4).logc (plkPage h) 0x5A (s.rd PLK.LINK_STS h) 0
      .next (s.haltStart 0x0801)

/-! ### Line packets and line checks (R179, R198, R199) -/

/-- Codes as the CODES field holds them (R199). -/
def packCodes (depth : Nat) (codes : List Nat) : List Byte :=
  if depth = 12 then
    (List.range (codes.length / 2)).flatMap (fun k => beBytes 3 (codes.getD (2 * k) 0 * 2 ^ 12 + codes.getD (2 * k + 1) 0))
  else
    (List.range (codes.length / 4)).flatMap (fun k => beBytes 5 (codes.getD (4 * k) 0 * 2 ^ 30 +
      codes.getD (4 * k + 1) 0 * 2 ^ 20 + codes.getD (4 * k + 2) 0 * 2 ^ 10 + codes.getD (4 * k + 3) 0))

/-- The line check's fold word (R179). -/
def lineFold (line g cg : Nat) : Nat := (line * 2 ^ 16 + g * 2 ^ 8) ^^^ cg

/-- A line packet (R198, R199) of a group: header, codes, padding to `n` lanes' whole group words, line check. -/
def linePacket (depth n : Nat) (sill : Bool) (line gen g frame : Nat) (codes : List Nat) : List Byte :=
  let b := [0x4C, BitVec.ofNat 8 (b2n (depth == 10) + 2 * b2n sill)] ++ beBytes 2 line ++ beBytes 4 gen ++ beBytes 1 g ++
    [0] ++ beBytes 2 5760 ++ beBytes 4 frame ++ packCodes depth codes
  let b := b ++ zeros (8 * n * groupWords depth n - 4 - b.length)
  b ++ beBytes 4 (rim b (lineFold line g gen))

/-- The line check a packet carries. -/
def lineCheckOf (pkt : List Byte) : Nat := beNat (pkt.drop (pkt.length - 4))

/-- The key of a line of a group. -/
def glKey (g line : Nat) : Nat := 16384 * g + line

/-- Every group of a line of a half is proven (R181, R183). -/
def State.lineProven (s : State) (h line : Nat) : Bool :=
  (List.range 8).all (fun k => !tget (fun _ => false) s.rim.unproven (glKey (8 * h + k) line))

/-- The LINE message of a line of a half (R377, R378), sent by a paired leaf whose role is agreed. -/
def State.sendLine (s : State) (h line frame cg wg dig : Nat) : State :=
  if s.eff_ LEF.CFG.PAIRED = 1 ∧ 2 ≤ s.rd LEF.STS.ROLE then
    let flags := h + 2 * b2n s.leaf.demoteReq + 4 * b2n (s.leafFaults == 0) + 8 * s.rd PDV.WV_STS.BAND_NEXT h
    s.mirror ([0x02] ++ beBytes 1 flags ++ beBytes 2 line ++ beBytes 4 frame ++ beBytes 4 cg ++ beBytes 4 wg ++
      beBytes 4 dig ++ beBytes 1 (b2n (s.lineProven h ((line + 8624) % 8640))) ++ zeros 3)
  else s

/-- The leaf digest of a line of a half (R182), once its last group's check is formed. -/
def State.formDigest (s : State) (h line frame cg wg : Nat) : State :=
  let bs := (List.range 8).flatMap (fun k => beBytes 4 (tget (fun _ => 0) s.rim.lchk (glKey (8 * h + k) line)).toNat)
  let d := Sys2Proof.Machine.rim bs 0
  (s.modRim (fun r => { r with dig := tset (fun _ => DigRec.none) r.dig (glKey h line) ⟨true, d, cg, wg⟩ })).sendLine h line frame cg wg d

/-- LINE_PACKET_SEND (R179, R182, R199): the packet of the line last computed leaves on a group with its line check; the
comparator keeps the checks of its last 16 lines. The last group's check completes the leaf digest. A standby leaf forms
the check and sends nothing (R369); a failed group gets no packet (R209); in Shutter none are sent, but those of the first Weaver
frame behind it (R214). -/
def execLinePacketSend (group : Fin 16) (s : State) : Out :=
  let g := group.val
  let h := groupHalf g
  let sill := s.mode.raster == .sill
  if s.mode.raster = .off ∨ s.mode.power = .discharge ∨
      (s.mode.power = .shutter ∧ s.scan.shutExit ≠ some (BitVec.ofNat 32 s.wv.codes[h].frame)) then .next s
  else
    let lc := s.wv.codes[h]
    let lc : LineCodes := if sill then
        { frame := (s.clk.frame.toNat + (s.clk.line.toNat + 1) / 8700) % 2 ^ 32, line := (s.clk.line.toNat + 1) % 8700, gen := 0, wg := 0,
          codes := s.sillLine h ((s.clk.line.toNat + 1) % 8700) }
      else lc
    if lc.codes.isEmpty ∨ 8640 ≤ lc.line then .next s
    else
      let live := s.leaf.driving && !s.groupFailed g && !s.leaf.mute
      let s := if live then s.startMap g else s
      let n := s.lanesNow g
      let pkt := linePacket (s.depth h) n sill lc.line lc.gen g lc.frame ((lc.codes.drop (5760 * (g % 8))).take 5760)
      let chk := BitVec.ofNat 32 (lineCheckOf pkt)
      let s := s.modRim (fun r => { r with
        lchk := tset (fun _ => 0) (tset (fun _ => 0) r.lchk (glKey g ((lc.line + 8640 - 16) % 8640)) 0) (glKey g lc.line) chk,
        unproven := tset (fun _ => false) r.unproven (glKey g lc.line) true })
      let s := if live then
          (s.txPacket g pkt).modRim (fun r => { r with
            sent := if r.sent.contains (g, lc.line) then r.sent else r.sent ++ [(g, lc.line)],
            held := (r.held.filter (fun x => !(x == (g, (lc.line + 8640 - 16) % 8640) || x == (g, lc.line)))) ++ [(g, lc.line)] })
        else s
      .next (if g % 8 = 7 then s.formDigest h lc.line lc.frame lc.gen lc.wg else s)

/-! ### Reports (R180, R181, R206) -/

/-- A report whose check is right (R206). -/
def reportOk (g : Nat) (bs : List Byte) : Bool := bs.length == 16 && beAt bs 12 4 == rim (bs.take 12) (g * 256)

/-- A report with a wrong check counts and raises REPORT_BAD (R206, R218). -/
def State.badReport (s : State) (g : Nat) : State := (s.bump PLK.REP_BAD 1 (groupHalf g)).event (plkPage (groupHalf g)) 3

/-- The flags every report carries: MARKER counts, with code 0x59 once per frame per group (R204, R216). -/
def State.markFlag (s : State) (g : Nat) (marker : Bool) : State :=
  let h := groupHalf g
  if marker then (s.bump PLK.MARK_DIS 1 h).logOnce g (plkPage h) 0x59 (s.rd PLK.LINK_STS h) g else s

/-- An unproven line of a group (R181): RET_MIS, RET_LAST, the frame's flag and the record 0x40 or 0x41. -/
def State.unprovenLine (s : State) (g line : Nat) (missing : Bool) (arg1 : Nat) : State :=
  let s := s.bump RIM.RET_MIS 1 0 g
  let s := ((s.wr RIM.RET_LAST.LINE line).wr RIM.RET_LAST.GROUP g).wrB RIM.RET_LAST.MISSING missing
  let s := s.modRim (fun r => { r with
    retNow := r.retNow ||| BitVec.ofNat 32 (2 ^ (g + 16 * b2n missing)),
    unprovNow := r.unprovNow + 1,
    unproven := tset (fun _ => false) r.unproven (glKey g line) true })
  s.logOnce g RIM.PAGE (if missing then 0x41 else 0x40) (s.rd RIM.RET_LAST) arg1

/-- The line is no longer outstanding. -/
def State.settleSent (s : State) (g line : Nat) : State :=
  s.modRim (fun r => { r with sent := r.sent.filter (fun x => !(x == (g, line))) })

/-- A LINE report (R180, R181, R206): each LINE report is compared with the line check of the line it names, while the
comparator holds it. Only a line whose packet this leaf sent is compared (R386). -/
def State.lineReport (s : State) (group : Fin 16) (bs : List Byte) : State :=
  let g := group.val
  let h := groupHalf g
  let s := s.bump PLK.REP_CNT 1 h
  if !reportOk g bs then s.badReport g
  else if beAt bs 0 1 ≠ 0x52 ∨ beAt bs 10 1 ≠ g then s
  else
    let line := beAt bs 2 2
    let incomplete := bit (beAt bs 1 1) 0
    let s := s.modLeaf (fun l => { l with reportMiss := 0 })
    let s := s.markFlag g (bit (beAt bs 1 1) 1)
    let s := if incomplete then s.logOnce g (PDV.PAGE + h.val) 0x66 (s.rd PDV.RES_STS h) line else s
    let s :=
      if s.rim.held.contains (g, line) then
        let s := s.settleSent g line
        if !incomplete && (tget (fun _ => 0) s.rim.lchk (glKey g line)).toNat == beAt bs 4 4 then
          s.modRim (fun r => { r with unproven := tset (fun _ => false) r.unproven (glKey g line) false })
        else s.unprovenLine g line false (beAt bs 4 4)
      else s
    s.laneLocks g (beAt bs 8 2 % 2 ^ 15)

/-- A missing report (R181): 16 lines after its packet a line's report has not arrived. -/
def State.reportMissing (s : State) (group : Fin 16) (line : Nat) : State :=
  let g := group.val
  if s.rim.sent.contains (g, line) then
    let s := (s.settleSent g line).modLeaf (fun l => { l with reportMiss := l.reportMiss + 1 })
    s.unprovenLine g line true 0
  else s

/-! ### Markers (R197) -/

/-- Whether this leaf's lanes carry markers now: a raster runs, it drives the panel, and no discharge has begun (R201). -/
def State.marks (s : State) (h : Fin 2) : Bool :=
  s.mode.raster != .off && s.leaf.driving && !s.leaf.mute && !s.panel.dis[h].run && s.mode.power != .discharge

/-- The FRAME block of a marker (R197). -/
def frameBlk (m : MarkerSt) : LaneBlk :=
  kBlk 3 (beBytes 4 m.frame ++ beBytes 1 (m.phase + 4 * m.band + 32 * b2n m.sill + 64 * b2n m.shutter))

/-- FRAME_MARKER (R197): at (VTOTAL - 1, 200) the FRAME block of the coming frame. In Sill its phase and band are not
stated. -/
def execFrameMarker (h : Fin 2) (s : State) : Out :=
  if !s.marks h || s.clk.line.toNat + 1 != s.vtotal then .next s
  else
    let f := s.frameAfter
    let sill := s.mode.raster == .sill
    let (v, s') := if sill then s.takeFree 5 else (0, s)
    let shut := s.rd SCN.SHUT_STS.STATE
    let phase := if sill then v.toNat % 4 else s.phaseOf f
    let m : MarkerSt := {
      load := s.scan.marker[h].load, frame := f, phase := phase,
      band := if sill then v.toNat / 4 else if phase = 0 then s.rd PDV.WV_STS.BAND_NEXT h else s.band h
      sill := sill,
      shutter := shut == 4 || (shut == 3 && s.scan.shutC + 1 == BitVec.ofNat 32 f) ||
        (shut == 5 && s.scan.shutExit != some (BitVec.ofNat 32 f)) }
    .next (((s'.modScan (fun c => { c with marker := c.marker.set h m })).sendMarker h (frameBlk m)).markerMap h)

/-! ### The Rim calculator (R185, R186) -/

/-- A write of CALC_CTL (R184, R185): GO starts a job; while one runs it is ignored. -/
def wrCalcCtl (path : Path) (v : Nat) (s : State) : WrRes :=
  if !bit v 31 then okW s
  else if s.rdB RIM.CALC_STS.BUSY then ign28 path RIM.PAGE RIM.CALC_CTL.GO.off v s
  else
    let j : CalcJob := {
      addr := s.addr37 RIM.CALC_ADDR_LO RIM.CALC_ADDR_HI, len := s.rd RIM.CALC_LEN, fold := s.rd RIM.CALC_FOLD }
    let s := s.modRim (fun r => { r with calcJob := some j })
    okW (((s.wrB RIM.CALC_STS.BUSY true).wrB RIM.CALC_STS.DONE false).wrB RIM.CALC_STS.ERR_MEM false)

/-- A write of another CALC register: ignored while a job runs (R186). -/
def wrCalcReg (path : Path) (off v : Nat) (s : State) : WrRes :=
  if s.rdB RIM.CALC_STS.BUSY then ign28 path RIM.PAGE off v s else okW (s.plainWrite RIM.PAGE off 0 v)

/-- RIM_CALC_DONE (R185): the result, or ERR_MEM with code 0x45; it waits while the memory is in self-refresh (R286). -/
def execRimCalcDone (s : State) : Out :=
  match s.rim.calcJob with
  | none => .next s
  | some j =>
    if s.mem.sealed then .next s
    else
    let s := (s.modRim (fun r => { r with calcJob := none })).wrB RIM.CALC_STS.BUSY false
    let err (s : State) : State :=
      let s := s.wrB RIM.CALC_STS.ERR_MEM true
      s.logc RIM.PAGE 0x45 (s.rd RIM.CALC_STS) j.addr
    match s.readFault j.addr j.len .throughput with
    | some s => .next (err s)
    | none => .next ((s.wr RIM.CALC_RES (rim (s.hbmRd j.addr j.len) j.fold)).wrB RIM.CALC_STS.DONE true)

end Sys2Proof.Machine
end

