-- ==== Sys2Proof/Machine/Shut.lean ====
section
/-! DEFINITION. Shutter (R212-R216): entry checks, capture, the steps into and out of the panel self-refresh state; and
leaving HBM self-refresh (R286-R288). -/

namespace Sys2Proof.Machine

/-! ### HBM self-refresh exit (R287, R288) -/

/-- Begin to leave self-refresh; after a power-fail warning HBM never leaves it (R287). -/
def State.srLeave (s : State) : State :=
  if s.rd DMC.SR_STS.CAUSE = 1 then s
  else
    let s := if s.rd DMC.SR_STS.STATE = 1 then s.seal else s
    if s.rd DMC.SR_STS.STATE = 2 then s.wr DMC.SR_STS.STATE 3 else s

/-- SELF_REFRESH_EXIT (R287, R288): the exit ends; requests and packets held meanwhile are served and land; a request to
enter that came during the exit is followed at once. The read-centre check moves trims by a step at most; `trimBad`: one would
have to move further, so a retrain is scheduled. -/
def execSelfRefreshExit (trimBad : Bool) (s : State) : Out :=
  if s.rd DMC.SR_STS.STATE ≠ 3 then .next s
  else
    let cause := s.rd DMC.SR_STS.CAUSE
    let again := s.mem.srAgain
    let held := s.mem.landHold
    let s := s.srExit.modMem (fun m => { m with landHold := [], srAgain := false, retrain := m.retrain || trimBad })
    let s := s.each held (fun s k => s.landIn k.beam k.port k.bytes)
    let s := s.hbmStep.event DMC.PAGE 6
    .next (if again then s.selfRefresh cause else s)

/-! ### The entry checks (R212) -/

/-- Handles of tiles with a Content verdict now (R164): row 9 of an in-force plane's tile. -/
def State.contentTiles (s : State) : List Nat :=
  (s.scene.fresh.filter (fun kv => (s.owner kv.1).isSome && s.rowNow false kv.1 == 9)).map (·.1)

/-- The tiles that the glass shows as Content (R212, R215): in Shutter those of the captured frame. -/
def State.shownTiles (s : State) : List Nat := if s.mode.power = .shutter then s.scan.shutTiles else s.contentTiles

/-- Microseconds until a tile fails R163 under the Be of now; 0 for one whose verdict is no longer Content. -/
def State.tileLeft (s : State) (h : Nat) : Nat :=
  let e := s.entry h
  if (s.owner h).isSome && s.rowNow false h == 9 then ((1000 * e.maxAge : Nat) - ageOf s.tUs s.bE e.stamp).toNat else 0

/-- Microseconds from now to E, the earliest expiry (R212); `none` when no tile shows Content. -/
def State.expiryUs (s : State) : Option Nat :=
  (s.shownTiles.map s.tileLeft).foldl (fun m x => match m with | none => some x | some y => some (min x y)) none

/-- A frame period in microseconds, rounded up (R187). -/
def State.frameUs (s : State) : Nat :=
  let k := if s.eff_ SCN.RATE_CTL.K1001 = 1 then 1001 else 1000
  (1000 * k + s.eff_ SCN.RATE_CTL.RATE - 1) / max 1 (s.eff_ SCN.RATE_CTL.RATE)

/-- The first frame after the one in progress at waveform phase 0 (R213). -/
def State.captureFrame (s : State) : Nat := (s.frameAfter + 3 - s.phase) % 2 ^ 32

/-- The power state from which a leaf enters Shutter (R212): Full; the standby of a pair enters together with its active leaf,
from Standby-leaf (log entry 203). -/
def State.shutPower (s : State) : Bool :=
  s.mode.power == .full || (s.mode.power == .standbyLeaf && s.eff_ LEF.CFG.PAIRED == 1)

/-- The WHY of the first check of R212 that fails, 0 for none. `c` is the capture frame; E is held against the start of
the entry frame c + 1. -/
def State.shutWhy (s : State) (c : Nat) : Nat :=
  let frames := (c + 2 ^ 32 - s.clk.frame.toNat) % 2 ^ 32
  let blankUs := (s.vtotal - 8640) * s.lineEff / (256 * 1600)
  let toEntry := blankUs + frames * s.frameUs
  let need := toEntry + 1000 * s.rd SCN.SHUT_MIN + 2 * s.frameUs
  if s.shutPower = false then 5
  else if (match s.expiryUs with | some e => decide (e < need) | none => false) then 1
  else if s.rd PDV.RES_STS.MAX 0 > 16 ∨ s.rd PDV.RES_STS.MAX 1 > 16 then 2
  else if s.scene.edit.isSome ∨ s.scene.closed.isEmpty = false ∨
      s.scene.upd.any (fun kv => match kv.2 with
        | some u => u.phase == .staged || u.phase == .decoding || u.phase == .expanded || u.phase == .written
        | none => false) ∨ s.weft.list.isSome then 3
  else if s.scan.underrunIn = some s.clk.frame ∨ s.rd PLK.LINK_STS.NARROW 0 ≠ 0 ∨ s.rd PLK.LINK_STS.NARROW 1 ≠ 0 ∨
      s.rd PLK.LINK_STS.FAILED 0 ≠ 0 ∨ s.rd PLK.LINK_STS.FAILED 1 ≠ 0 then 4
  else 0

/-- SHUTTER_ABORT (R216): the packet to every group, event SHUT_ABORT, code 0x55. -/
def State.shutAbort (s : State) (why : Nat) (keepReq : Bool) : State :=
  let s := s.queueAll 5 0
  let s := (s.wr SCN.SHUT_STS.STATE (b2n keepReq)).wr SCN.SHUT_STS.WHY why
  let s := if keepReq then s else s.wrB SCN.SHUT_CTL.REQ false
  (s.event SCN.PAGE 8).logc SCN.PAGE 0x55 (s.rd SCN.SHUT_STS) why

/-- Arming is under way (R213). -/
def State.shutArmed (s : State) : Bool := s.rd SCN.SHUT_STS.STATE == 2

/-- A frame in Shutter or in an entry: an abort for a link event before the final SHUTTER_ENTER (R216). -/
def State.shutLinkAbort (s : State) (why : Nat) : State := if s.shutArmed then s.shutAbort why true else s

/-- The Shutter exit begins (R214): HBM leaves self-refresh, the weave dies power up; the first Weaver frame is the one
after next, and the fast pass of its entry to Full comes before it (R168). A takeover decided in Shutter begins one too
(R388). -/
def State.startExit (s : State) : State :=
  let s := (s.wr SCN.SHUT_STS.STATE 5).srLeave.startFastPass
  s.modScan (fun c => { c with shutExit := some (BitVec.ofNat 32 (s.frameAfter + 1)), shutExitReq := false })

/-- A request to leave Shutter (R214, R216). -/
def State.exitRequest (s : State) : State :=
  let st := s.rd SCN.SHUT_STS.STATE
  if st = 1 then (s.wr SCN.SHUT_STS.STATE 0).wrB SCN.SHUT_CTL.REQ false
  else if st = 2 then s.shutAbort 0 false
  else if st = 3 then (s.wrB SCN.SHUT_CTL.REQ false).modScan (fun c => { c with shutExitReq := true })
  else if st = 4 then (s.wrB SCN.SHUT_CTL.REQ false).startExit
  else s.wrB SCN.SHUT_CTL.REQ false

/-- An exit the module starts by itself in Shutter or on its way in (R214): REQ stays as it is. -/
def State.autoExit (s : State) : State :=
  let st := s.rd SCN.SHUT_STS.STATE
  if st = 3 then s.modScan (fun c => { c with shutExitReq := true })
  else if st = 4 then s.startExit
  else s

/-- Time stopped being valid for freshness, or J is not 0: Shutter is left at once (R214). -/
def State.shutTimeCheck (s : State) : State := if !s.timeValid || s.jumpUs != 0 then s.autoExit else s

/-- At a frame's start in Shutter: the exit when E lies within 3 frame periods (R214). -/
def State.shutExpiryCheck (s : State) : State :=
  match s.expiryUs with
  | some e => if s.rd SCN.SHUT_STS.STATE = 4 ∧ e ≤ 3 * s.frameUs then s.autoExit else s
  | none => s

/-- A landing TILE or RESTAMP packet wakes the module while WAKE_DATA = 1 (R214). -/
def State.shutWake (s : State) (bytes : List Byte) : State :=
  let ty := bits (beAt bytes 2 1) 3 0
  if s.rdB SCN.SHUT_CTL.WAKE_DATA && s.mode.power == .shutter && beAt bytes 0 2 == 0x5453 && (ty == 0 || ty == 3) then
    s.autoExit
  else s

/-- PACKET_LAND (R77, R85, R214): a datagram or Tile message arrives and lands, or is dropped whole and counted; one that
lands in Shutter may wake the module. -/
def execPacketLand (via : Arrival) (bytes : List Byte) (s : State) : Out :=
  let s' := s.packetLand via bytes
  .next (if s'.scene.ringQ = s.scene.ringQ ∧ s'.mem.landHold = s.mem.landHold then s' else s'.shutWake bytes)

/-- A write of SHUT_CTL (R217): REQ asks, EXIT leaves and clears REQ. -/
def wrShutCtl (v : Nat) (s : State) : WrRes :=
  let was := s.rdB SCN.SHUT_CTL.REQ
  let s := (s.wr SCN.SHUT_CTL.WAKE_DATA (bits v 2 2))
  if bit v 1 then okW s.exitRequest
  else
    let s := s.wr SCN.SHUT_CTL.REQ v
    if bit v 0 && !was then okW ((s.wr SCN.SHUT_STS.WHY 0).modScan (fun c => { c with shutWhyLogged := false }))
    else okW s

/-- The Shutter checks at (8,640, 0) (R212, R213): arm, repeat, abort or refuse; in an exit, the packet that names the first
Weaver frame. -/
def State.shutterCheck (s : State) : State :=
  let st := s.rd SCN.SHUT_STS.STATE
  if st = 5 then
    match s.scan.shutExit with
    | some f => if s.frameAfter = f.toNat then s.queueAll 6 f.toNat else s
    | none => s
  else if st = 2 then
    let why := s.shutWhy s.scan.shutC.toNat
    if why = 0 then s else s.shutAbort why true
  else if st ≤ 1 ∧ s.rdB SCN.SHUT_CTL.REQ then
    if s.rd SCN.SHUT_STS.ENTRIES ≠ 0 ∧ s.clk.now < s.clk.waker + 1600000 * s.rd SCN.SHUT_MIN then s
    else
      let c := s.captureFrame
      let why := s.shutWhy c
      if why = 0 then
        let s := (s.wr SCN.SHUT_STS.STATE 2).wr SCN.SHUT_STS.WHY 0
        (s.queueAll 3 c).modScan (fun k => { k with shutC := BitVec.ofNat 32 c, stored := 0 })
      else
        let s := (s.wr SCN.SHUT_STS.STATE 1).wr SCN.SHUT_STS.WHY why
        if s.scan.shutWhyLogged then s
        else (s.modScan (fun k => { k with shutWhyLogged := true })).logc SCN.PAGE 0x56 (s.rd SCN.SHUT_STS) why
  else s

/-- Every group that runs has stored the captured frame. -/
def State.allStored (s : State) : Bool :=
  (List.range 16).all (fun g => s.groupFailed g || s.scan.stored.getLsbD g)

/-- STORED as a STATUS report gives it in capture frame c after its last LOAD (R213, R216): when every group has stored, the
final SHUTTER_ENTER naming c + 1 goes out and STATE is Entering; STORED = 0 aborts. -/
def State.shutStored (s : State) (g : Nat) (stored : Bool) : State :=
  let late := decide (8640 < s.clk.line.toNat) || (s.clk.line == 8640 && decide (200 ≤ s.clk.wc.toNat))
  if s.shutArmed && s.clk.frame == s.scan.shutC && late then
    if stored then
      let s := s.modScan (fun c => { c with stored := c.stored ||| BitVec.ofNat 16 (2 ^ g) })
      if s.allStored then (s.queueAll 4 (s.scan.shutC.toNat + 1)).wr SCN.SHUT_STS.STATE 3 else s
    else s.shutAbort 6 true
  else s

/-- SHUTTER_IN (R213): at the start of frame c + 1 the weave dies power down, HBM enters self-refresh, event SHUT_IN. An exit that
is due at this frame start is served at once (R214, R216). -/
def execShutterIn (s : State) : Out :=
  if s.rd SCN.SHUT_STS.STATE ≠ 3 ∨ s.clk.frame ≠ s.scan.shutC + 1 ∨ s.clk.line ≠ 0 then .next s
  else
    let s := s.modScan (fun c => { c with shutTiles := s.contentTiles })
    let s := s.setPower .shutter
    let s := (s.wr SCN.SHUT_STS.STATE 4).bump SCN.SHUT_STS.ENTRIES
    let s := s.modWv (fun w => { w with cells := [], wanted := [], reserve := [] })
    let s := (s.selfRefresh 2).event SCN.PAGE 6
    .next (if s.scan.shutExitReq then s.startExit else s.shutExpiryCheck)

/-- SHUTTER_STATUS_TIMEOUT (R216): no STATUS report of a group for 4 frames in Shutter; the exit starts and the group fails
once it completes. -/
def execShutterStatusTimeout (group : Fin 16) (s : State) : Out :=
  if s.mode.power ≠ .shutter then .next s
  else .next (s.modScan (fun c => { c with statusMiss := tset (fun _ => 0) c.statusMiss group 4 })).autoExit

/-- A group that ran has lost the lock of every lane (R211): its drivers go back to 3.125 Gb/s. The Weaver raster ends with its
cycle; the half's lanes go back too, and the start halts as for a group that cannot reach its rate. -/
def State.linkLost (s : State) (h : Fin 2) : State :=
  if s.mode.raster = .weaver then
    if s.panel.resetPend.isNone then s.modPanel (fun p => { p with resetPend := some .linkLost }) else s
  else if s.mode.raster = .sill then (s.setRate h 0).haltStart 0x0801
  else s

/-- STATUS_REPORT_RECEIVED (R201, R206, R207, R211): acknowledgement, STORED, and lock of the lanes; a group all of whose
lanes are out of lock takes the module back to the Sill picture. -/
def execStatusReportReceived (group : Fin 16) (bs : List Byte) (s : State) : Out :=
  let g := group.val
  let h := groupHalf g
  let s := s.bump PLK.REP_CNT 1 h
  if !reportOk g bs then .next (s.badReport g)
  else if beAt bs 0 1 ≠ 0x53 ∨ beAt bs 10 1 ≠ g then .next s
  else
    let flags := beAt bs 1 1
    let lock := beAt bs 8 2 % 2 ^ 15
    let s := s.modScan (fun c => { c with
      statusMiss := if tget (fun _ => 0) c.statusMiss g = 4 then c.statusMiss else tset (fun _ => 0) c.statusMiss g 0 })
    let s := match (tget (fun _ => []) s.scan.ctrlSent g).find? (fun pn => pn.1.seq == beAt bs 2 2 && pn.1.cmd == beAt bs 4 4 % 256) with
      | some pn =>
        (s.modScan (fun c => { c with
          ctrlSent := tset (fun _ => []) c.ctrlSent g ((tget (fun _ => []) c.ctrlSent g).erase pn) })).ctrlSts g pn.1
            (if bit flags 2 then 3 else 0)
      | none => s
    let ran := s.panel.driverLock[h].getLsbD (g % 8)
    let before := s.rd PLK.GRP_STS.FAIL h g
    let s := s.laneLocks g lock
    let s := if s.rd PLK.GRP_STS.FAIL h g = before then s else s.shutLinkAbort 4
    let s := s.shutStored g (bit flags 0)
    .next (if ran && lock == 0 && !s.scan.rateTrain[h] then s.linkLost h else s)

/-- LINE_REPORT_RECEIVED (R180, R181, R206, R216): a LINE report is compared, its lock bits judged; a lane or group that
fails while Shutter is armed aborts the entry. -/
def execLineReportReceived (group : Fin 16) (bs : List Byte) (s : State) : Out :=
  let f (s : State) : Nat := s.rd PLK.GRP_STS.FAIL (groupHalf group) group
  let s' := s.lineReport group bs
  .next (if f s' = f s then s' else s'.shutLinkAbort 4)

/-- LOAD_MARKER (R197, R214): at (L + 1, 200) a LOAD naming line L on every lane of the half. The LOAD of line 8,639 ends
the frame (event FRAME_DONE); that of line 0 of the first Weaver frame after Shutter ends the exit. -/
def execLoadMarker (h : Fin 2) (s : State) : Out :=
  let l := s.clk.line.toNat
  if !s.marks h || l == 0 || decide (8640 < l) then .next s
  else
    let s := s.modScan (fun c => { c with marker := c.marker.set h { c.marker[h] with load := some (l - 1) } })
    let s := (s.sendMarker h (kBlk 2 (beBytes 2 (l - 1)))).markerMap h
    if h ≠ 0 then .next s
    else
      let s := if l = 8640 then s.event SCN.PAGE 2 else s
      if l = 1 ∧ s.rd SCN.SHUT_STS.STATE = 5 ∧ s.scan.shutExit = some s.clk.frame then
        let s := (s.wr SCN.SHUT_STS.STATE 0).modScan (fun c => { c with shutExit := none })
        let s := s.modClk (fun c => { c with waker := c.now })
        let s := s.event SCN.PAGE 7
        let late := (List.range 16).filter (fun g => tget (fun _ => 0) s.scan.statusMiss g == 4)
        let s := s.modScan (fun c => { c with statusMiss := [] })
        .next (s.each late (fun s g => s.failGroup g))
      else .next s

end Sys2Proof.Machine
end

