-- ==== Sys2Proof/Machine/Leaf.lean ====
section
/-! DEFINITION. Leaf pairs (chapter 16): roles, HELLO, mirroring, digest comparison, residue repair, resynchronisation and
takeover; and the commit stage's commands, whose commits a pair mirrors. -/

namespace Sys2Proof.Machine

/-! ### Roles (R370-R372) -/

/-- CFG.PAIRED in force (R394). -/
def State.paired (s : State) : Bool := s.eff_ LEF.CFG.PAIRED == 1

/-- ROLE of this leaf (R370). -/
def State.role (s : State) : Nat := s.rd LEF.STS.ROLE

/-- This leaf is a standby (R370): Syncing, Ready or Deposed. -/
def State.isStandby (s : State) : Bool := decide (3 ≤ s.role)

/-- Stages 5 to 10 are complete or have ended under a fallback (R57); stage 10 ends when a paired leaf has its role. -/
def State.stagesDone (s : State) : Bool :=
  (List.range 5).all (fun i => s.boot.done.getLsbD (i + 5)) && (!s.paired || s.role != 0)

/-- START_STS.STAGE moves on to stage `k`, or to 11 once only balance-restore holds the start back (R57, R69); the later codes
stay. -/
def State.showStage (s : State) (k : Nat) : State :=
  let st := s.rd SYS.START_STS.STAGE
  if 12 ≤ st then s
  else s.wr SYS.START_STS.STAGE (if s.stagesDone && s.rdB SYS.START_STS.BAL_RST then 11 else max (if st = 11 then 10 else st) k)

/-- Stage `k` is complete, or has ended under a fallback (R57); stage `next` runs. -/
def State.stageDone (s : State) (k next : Nat) : State :=
  (s.modBoot (fun b => { b with done := b.done ||| BitVec.ofNat 16 (2 ^ k) })).showStage next

/-- The module ID (R371, R372). -/
def State.moduleId (s : State) : Nat := s.rd SYS.MODID_LO + 2 ^ 32 * s.rd SYS.MODID_HI

/-- The beam has come to a line of a frame. -/
def State.reached (s : State) (line frame : Nat) : Bool :=
  let d := sdiff32 s.clk.frame.toNat frame
  decide (0 < d) || (d == 0 && decide (line ≤ s.clk.line.toNat))

/-- The clock is carried to a weave cycle of a line that runs, or to the line's last one where it has fewer (R373). -/
def State.dueAt (s : State) (line frame wc : Nat) : State :=
  if s.clk.line.toNat = line ∧ s.clk.frame.toNat = frame then s.toWc (min wc (s.lineLen - 1)) else s

/-- A resynchronisation begins (R382). -/
def State.startSync (s : State) : State :=
  (s.modLeaf (fun l => { l with
    copyDone := false, clean := false, cleanWhole := false, syncPos := 0, pdig := [], demoteReq := false
    copied := [], rowsDone := Vector.replicate 2 false, diverge := [] })).wr LEF.SYNC_PROG.PERCENT 0

/-- This leaf takes a role (R370): event ROLE_CHG, the power state of the role while the Weaver runs, and who drives the
panel. A leaf that joins as Syncing clears its run marker without balance-restore (R372). -/
def State.setRole (s : State) (r : Nat) : State :=
  let old := s.role
  if old = r then s
  else
    let s := (s.wr LEF.STS.ROLE r).event LEF.PAGE 0
    let p : PowerState := if r < 3 then .full else .standbyLeaf
    let s := if s.mode.power.weaves && s.mode.power != p then (s.setPower p).startFastPass else s
    let s := if r = 0 then s else s.modLeaf (fun l => { l with driving := decide (r < 3) })
    let s := if 3 ≤ r then s else s.modLeaf (fun l => { l with sched := [], fetch := [], weftStart := [] })
    let s := if r = 2 then s.modLeaf (fun l => { l with swapAt := s.clk.now }) else s
    let s := if r = 4 then s.modLeaf (fun l => { l with readyAt := s.clk.now, silent := 0 }) else s
    let s := if r = 3 then s.startSync else s
    let s := if r = 3 ∧ old = 0 then
        let s := if s.runMark then s.count 0 1 else s
        s.wrB SYS.START_STS.BAL_RST false
      else s
    if r ≠ 0 ∧ old = 0 then s.showStage 10 else s

/-- This leaf takes FS from the active leaf as it joins (R381). -/
def State.joinAs (s : State) (fs : Nat) : State := (s.setRole 3).modClk (fun c => { c with fs := BitVec.ofNat 32 fs })

/-- The ARG bytes of HELLO (R372). -/
def State.helloBytes (s : State) : List Byte :=
  let flags := b2n s.leaf.driving + 2 * b2n (s.leafFaults == 0) + 4 * s.eff_ LEF.CFG.PREF + 8 * b2n (s.mode.dbg == .intrusive)
  [0x01] ++ beBytes 1 s.role ++ beBytes 1 flags ++ beBytes 8 s.moduleId ++ beBytes 4 s.clk.fs.toNat

/-- Send a Transom LEAF message on port 23 (R372). -/
def State.sendLeaf (s : State) (arg : List Byte) : State :=
  s.modLeaf (fun l => { l with outBox := l.outBox ++ [⟨true, arg⟩] })

/-- Stage 9 has ended, so the leaves negotiate (R371). -/
def State.negotiates (s : State) : Bool := s.paired && s.boot.done.getLsbD 9

/-- Rule 2 of R371: this leaf wins against a partner's flags and ID. -/
def State.winsOver (s : State) (p : PartnerSt) : Bool :=
  let mine := s.mode.dbg == .intrusive
  let myPref := s.eff_ LEF.CFG.PREF == 1
  let ok := s.leafFaults == 0
  if mine != p.intrusive then !mine
  else if ok != p.healthy then ok
  else if myPref != p.pref then myPref
  else decide (s.moduleId < p.id)

/-- The partner as a HELLO shows it (R372). -/
def helloOf (now : Nat) (arg : List Byte) : PartnerSt :=
  let fl := beAt arg 2 1
  { heard := true, at_ := now, role := beAt arg 1 1, driving := bit fl 0, healthy := bit fl 1, pref := bit fl 2,
    intrusive := bit fl 3, id := beAt arg 3 8, fs := beAt arg 11 4 }

/-- The first part of the copy that a Syncing partner gets (R382): the freshness table, by handle, and the active bank of
every tile of every in-force plane. -/
def State.sendCopy (s : State) : State :=
  let s := s.modLeaf (fun l => { l with copyRow := Vector.replicate 2 0, repairQ := [], diverge := [] })
  let s := s.each s.scene.fresh (fun s he =>
    s.sendSync 0 (16 * he.1) 1 ((List.range 4).flatMap (fun w => leBytes 4 (he.2.word w))))
  s.each (enabledPlanes s.scene.planes) (fun s ip =>
    s.each (List.range (planeTiles ip.2)) (fun s n =>
      let p := ip.2
      let b := b2n (s.entry (p.tileBase + n)).slot
      if fmtPlait p.format then s.sendSync 1 (plaitSlot p b n) 3 (s.hbmRd (plaitSlot p b n) plaitSlotBytes)
      else s.each (List.range 64) (fun s r =>
        let a := planePix p b (64 * (n % p.wt)) (64 * (n / p.wt) + r)
        s.sendSync 1 a 1 (s.hbmRd a (64 * fmtBpp p.format)))))

/-- LEAF_HELLO (R371, R372, R381, R382): the partner's HELLO arrives and the roles follow; a partner that is Syncing from now on, or
Syncing with its Intrusive debug ended (R448), gets the copy. -/
def execLeafHello (arg : List Byte) (s : State) : Out :=
  if !s.paired || arg.length != 15 || beAt arg 0 1 != 1 then .next s
  else
    let p := helloOf s.clk.now arg
    let anew := s.rd LEF.STS.PARTNER_ROLE != 3 || (s.leaf.partner.intrusive && !p.intrusive)
    let s := s.modLeaf (fun l => { l with partner := p, seenAt := some s.clk.now })
    let s := s.wr LEF.STS.PARTNER_ROLE p.role
    -- R372: both drive the Sill picture
    let s := if s.mode.raster == .sill && s.leaf.driving && p.driving && !s.winsOver p then
        (s.modLeaf (fun l => { l with driving := false })).logc LEF.PAGE 0xCB s.lefSts 0
      else s
    let s :=
      if s.role = 1 then s.setRole 2
      else if s.role = 5 ∧ (p.role = 1 ∨ p.role = 2) then s.joinAs p.fs
      else if s.role = 0 ∧ s.negotiates then
        if p.role = 1 ∨ p.role = 2 then s.joinAs p.fs
        else if p.role = 0 then (if s.winsOver p then s.setRole 2 else s.joinAs p.fs)
        else s.setRole 2
      else s
    .next (if s.role = 2 ∧ p.role = 3 ∧ anew then s.sendCopy else s)

/-- HINGE_PARTNER_TIMEOUT (R371, R65): no HELLO within 200 ms of stage 10; the leaf becomes Single with fail code 0x0A01. -/
def execHingePartnerTimeout (s : State) : Out :=
  if s.negotiates && s.role == 0 && !s.leaf.partner.heard then .next ((s.startFail 0x0A01).setRole 1) else .next s

/-! ### Takeover (R385-R389) -/

/-- This leaf can hand the panel over: it is Active, its partner is Ready, and port 23 is Up (R385). -/
def State.canHand (s : State) : Bool := s.role == 2 && s.rd LEF.STS.PARTNER_ROLE == 4 && s.rdB LEF.STS.HINGE_UP

/-- The active leaf wants to give the panel to a Ready partner (R385): DEMOTE goes out at wc 300 of the next line. -/
def State.wantDemote (s : State) (cause : Nat) : State :=
  if s.role = 2 ∧ s.rd LEF.STS.PARTNER_ROLE = 4 ∧ s.leaf.demoteCause = 0 ∧ s.leaf.tau.isNone then
    s.modLeaf (fun l => { l with demoteCause := cause })
  else s

/-- The line and frame that follow the present line. -/
def State.lineAfter (s : State) : Nat × Nat :=
  if s.clk.line.toNat + 1 < s.vtotal then (s.clk.line.toNat + 1, s.clk.frame.toNat)
  else (0, s.frameAfter)

/-- A takeover is decided (R386): at the next line start plus 64 wc. In Shutter both leaves begin to leave it, so that the first
Weaver frame starts at most 2 frame periods later (R388). -/
def State.decideTake (s : State) (cause : Nat) (giveUp : Bool) : State :=
  match s.leaf.tau with
  | some _ => s
  | none =>
    let lf := s.lineAfter
    let s := s.modLeaf (fun l => { l with tau := some { cause := cause, giveUp := giveUp, line := lf.1, frame := lf.2 } })
    if s.rd SCN.SHUT_STS.STATE = 4 then s.startExit else s

/-- The ARG bytes of DEMOTE (2) and TAKE (3) (R372). -/
def takeBytes (kind : Nat) (t : TakeSt) : List Byte :=
  beBytes 1 kind ++ beBytes 1 t.cause ++ beBytes 2 t.line ++ beBytes 4 t.frame

/-- DEMOTE or TAKE goes out, and is repeated every line (R372). -/
def State.sendRole (s : State) (arg : List Byte) : State := (s.sendLeaf arg).modLeaf (fun l => { l with repeats := arg })

/-- DEMOTE_SEND (R385, R372): at wc 300 of a line the active leaf sends DEMOTE, and will give the panel up at the instant it
names; it repeats it every line until the partner's next LINE message behind the takeover. -/
def execDemoteSend (s : State) : Out :=
  if s.rdB LEF.STS.HINGE_UP = false ∨ 300 < s.clk.now - s.clk.lineAt then .next s
  else if s.role = 2 ∧ s.leaf.demoteCause ≠ 0 ∧ s.rd LEF.STS.PARTNER_ROLE = 4 then
    let s := (s.toWc 300).decideTake s.leaf.demoteCause true
    match s.leaf.tau with
    | some t => .next (s.sendRole (takeBytes 2 t))
    | none => .next s
  else if beAt s.leaf.repeats 0 1 = 2 then
    let s := s.toWc 300
    .next (s.sendLeaf s.leaf.repeats)
  else .next s

/-- LEAF_DEMOTE (R385, R392): a Ready standby decides a takeover; any other keeps the roles and logs 0xC0. -/
def execLeafDemote (arg : List Byte) (s : State) : Out :=
  if !s.paired || arg.length < 8 || beAt arg 0 1 != 2 then .next s
  else if s.role = 4 then .next (s.decideTake (beAt arg 1 1) false)
  else if s.isStandby then .next (s.logc LEF.PAGE 0xC0 s.lefSts (beAt arg 1 1))
  else .next s

/-- This leaf loses the panel without a request (R386): it stops at once and becomes Deposed, code 0xC2. -/
def State.depose (s : State) : State :=
  let s := s.modLeaf (fun l => { l with tau := none, demoteCause := 0, diverge := [] })
  (s.setRole 5).logc LEF.PAGE 0xC2 (s.rd LEF.TAKE_CAUSE) 0

/-- LEAF_TAKE (R386). -/
def execLeafTake (arg : List Byte) (s : State) : Out :=
  if !s.paired || arg.length < 8 || beAt arg 0 1 != 3 then .next s
  else if s.role = 2 then .next s.depose
  else .next s

/-- A standby decides by itself (R385, R386): it sends TAKE naming the instant. -/
def State.takeSelf (s : State) (cause : Nat) : State :=
  let s := s.decideTake cause false
  match s.leaf.tau with
  | some t => s.sendRole (takeBytes 3 t)
  | none => s

/-- The due position (L, 500) of the fourth line in a row without a LINE message has passed (R378, R385). -/
def State.linesSilent (s : State) : Bool := decide (4 < s.leaf.silent) || (s.leaf.silent == 4 && decide (500 ≤ s.clk.now - s.clk.lineAt))

/-- ACTIVE_SILENT (R385): no LINE message on 4 consecutive lines, with port 23 Up; in Shutter none is due. -/
def execActiveSilent (s : State) : Out :=
  if s.role = 4 ∧ s.rdB LEF.STS.HINGE_UP ∧ s.mode.power ≠ .shutter ∧ s.linesSilent then .next (s.takeSelf 9) else .next s

/-- PARTNER_LOST_TIMEOUT (R385, R393): port 23 down and no answer for 10 ms; the partner's role is unknown. -/
def execPartnerLostTimeout (s : State) : Out :=
  if s.paired && !s.rdB LEF.STS.HINGE_UP && !s.partnerSeen then
    let s := (s.wr LEF.STS.PARTNER_ROLE 0).event LEF.PAGE 2
    .next (if s.role = 4 then s.takeSelf 10 else s)
  else .next s

/-- Causes of a planned takeover (R384, R385): SWAP, compare channel, SWAP_H, revertive return, swap reversal. -/
def plannedCause (c : Nat) : Bool := [1, 2, 3, 4, 11].contains c

/-- The records of a takeover (R393): TAKE_LO and TAKE_HI, cause and count, event TAKEOVER, code 0xC1. -/
def State.takeRecords (s : State) (t : TakeSt) : State :=
  let s := (s.wr LEF.TAKE_LO (t.line * 2 ^ 16 + 64)).wr LEF.TAKE_HI t.frame
  let s := (s.wr LEF.TAKE_CAUSE.CAUSE t.cause).bump LEF.TAKE_CAUSE.COUNT
  (s.event LEF.PAGE 1).logc LEF.PAGE 0xC1 (s.rd LEF.TAKE_CAUSE) 0

/-- The Thermal-stop power state (R421, R286, R430): HBM enters self-refresh, the role ends. -/
def State.enterThermalStop (s : State) : State :=
  let s := s.modPanel (fun p => { p with resetPend := none })
  let s := ((s.setPower .thermalStop).setRole 0).selfRefresh 4
  (s.modThm (fun t => { t with stopping := false })).wrB THM.FAULT.STOPPED true

/-- Weave cycles of a number of seconds. -/
def secWc (n : Nat) : Nat := 1600000000 * n

/-- PLANNED_SWAP (R384): every SWAP_H hours of pair operation, counted from the last takeover. -/
def execPlannedSwap (s : State) : Out :=
  if s.role = 2 ∧ s.eff_ LEF.CFG.SWAP_H ≠ 0 ∧ s.leaf.swapAt + secWc (3600 * s.eff_ LEF.CFG.SWAP_H) ≤ s.clk.now then
    .next ((s.modLeaf (fun l => { l with swapAt := s.clk.now })).wantDemote 3)
  else .next s

/-- REVERT (R389): a preferred leaf Ready for REVERT_S seconds asks for the panel. -/
def execRevert (s : State) : Out :=
  if s.role = 4 ∧ s.eff_ LEF.CFG.REVERT = 1 ∧ s.eff_ LEF.CFG.PREF = 1 ∧ s.rdB LEF.STS.BARRED = false ∧
      s.leaf.readyAt + secWc (s.rd LEF.REVERT_S.S) ≤ s.clk.now then
    .next (s.modLeaf (fun l => { l with demoteReq := true }))
  else .next s

/-- A standby resynchronises (R375, R376, R379); one that is Syncing goes on with its copy, and waits for a clean frame anew. -/
def State.toSyncing (s : State) : State :=
  if s.role = 3 then s.modLeaf (fun l => { l with clean := false, cleanWhole := false })
  else if s.isStandby then s.setRole 3 else s

/-- A write of LEF.CTL (R394). -/
def wrLefCtl (v : Nat) (s : State) : WrRes :=
  let s := if bit v 2 then s.wrB LEF.STS.BARRED false else s
  let r := if bit v 1 then
      (if s.isStandby then okW s.toSyncing else ignCode LEF.PAGE 0xC9 s.lefSts v s)
    else okW s
  if bit v 0 then
    if s.role = 2 ∧ s.rd LEF.STS.PARTNER_ROLE = 4 then (r.1, r.2.wantDemote 1)
    else ignCode LEF.PAGE 0xC9 s.lefSts v r.2
  else r

/-- REPORT_MISSING (R181, R386): a line's report has not arrived 16 lines after its packet. An active leaf that misses the
reports of every group for 16 lines is Deposed. -/
def execReportMissing (group : Fin 16) (line : Fin 8640) (s : State) : Out :=
  let s := s.reportMissing group line
  let run := ((List.range 16).filter (fun g => !s.groupFailed g)).length
  .next (if s.role = 2 ∧ 0 < run ∧ 16 * run ≤ s.leaf.reportMiss then s.depose else s)

/-! ### What a pair does at each line and frame -/

/-- At a line start of the Weaver raster: a LINE message of this line is due (R378); TAKE is repeated (R372); an active leaf with a
leaf fault of its own wants to give the panel up (R385), but a port 23 that is down carries no DEMOTE. -/
def State.leafLine (s : State) : State :=
  let s := if s.clk.line.toNat < 8640 ∧ s.mode.power ≠ .shutter then s.modLeaf (fun l => { l with silent := l.silent + 1 }) else s
  let s := if beAt s.leaf.repeats 0 1 = 3 then s.sendLeaf s.leaf.repeats else s
  if s.leafFaults / 4 ≠ 0 then s.wantDemote 5 else s

/-- At a frame start: the synchronisation's clean frame (R382), the first whole frame after a planned takeover (R384), the
frame's record of a long repair queue (R381). -/
def State.leafFrame (s : State) : State :=
  let s := s.repairOver
  let s := if s.leaf.firstWhole && decide (s.rim.unprovLast ≠ 0) && s.role == 2 && s.rd LEF.STS.PARTNER_ROLE == 4 then
      let s := s.wrB LEF.STS.BARRED true
      (s.logc LEF.PAGE 0xC8 s.lefSts s.rim.unprovLast).wantDemote 11
    else s
  s.modLeaf (fun l => { l with
    firstWhole := l.planned, planned := false, cleanWhole := l.cleanWhole || l.clean, clean := l.copyDone })

/-! ### Divergent lines (R380) -/

/-- The beam lines whose verdict samples lie in the 4 lines from the active instant + 8, as the lines they sample. The active
instant is now on the active leaf, and 4 lines ago on a standby, which follows it (R373). -/
def State.divergentLines (s : State) (h : Fin 2) : List Nat :=
  let skew := if h = 0 then 0 else s.eff_ SCN.MUL_SKEW
  let l0 := s.clk.line.toNat + (if s.clk.wc.toNat + 8 ≤ 20 + skew then 0 else 1)
  let back := if s.role = 2 then 0 else 4
  ((List.range 4).map (fun k => (l0 + k + 1 + s.vtotal - back) % s.vtotal)).filter (fun y => decide (y < 8640))

/-- Divergent lines matter: on an active leaf whose partner is Syncing or Ready, and on such a partner (R380, R387). -/
def State.repairs (s : State) : Bool :=
  s.role == 3 || s.role == 4 || (s.role == 2 && (s.rd LEF.STS.PARTNER_ROLE == 3 || s.rd LEF.STS.PARTNER_ROLE == 4))

/-- Mark the divergent region of a plane's pixels [x0, x1] × [r0, r1] on a leaf of a pair (R380). -/
def State.diverge (s : State) (i : Nat) (p : Plane) (x0 x1 r0 r1 : Nat) : State :=
  if !s.repairs then s
  else
    s.each ([0, 1] : List (Fin 2)) (fun s h =>
      let reach : Int := s.reach h i p
      let lo := max (15360 * (h.val : Int)) (p.x + x0 - reach - 2)
      let hi := min (15360 * (h.val : Int) + 15359) (p.x + x1 + reach + 2)
      if hi < lo then s
      else
        let col := (3 * (lo - 15360 * (h.val : Int))).toNat
        let n := (3 * (hi - lo + 1)).toNat
        let lines := (s.divergentLines h).filter (fun (y : Nat) =>
          decide (p.y + r0 - 7 ≤ y) && decide ((y : Int) ≤ p.y + r1 + 7))
        s.modLeaf (fun l => { l with diverge := l.diverge ++ lines.map (fun y => ⟨h, y, col, n⟩) }))

/-- The divergent lines of a commit (R380). -/
def State.divergeTile (s : State) (h : Nat) : State :=
  match s.owner h with
  | some (i, p) =>
    let xy := tileXY p h
    s.diverge i p (64 * xy.1) (64 * xy.1 + 63) (64 * xy.2) (64 * xy.2 + 63)
  | none => s

/-- A commit stage step with its divergent lines, when it commits. -/
def State.commitWith (s : State) (act : State → State) : State :=
  match s.commitRing with
  | some (_, u) =>
    let s' := act s
    if s'.rd ING.COMMIT_GEN = s.rd ING.COMMIT_GEN then s' else s'.divergeTile u.handle
  | none => act s

/-- TILE_COMMIT (R93). -/
def execTileCommit (s : State) : Out := .next (s.commitWith State.tileCommit)

/-- RESTAMP_COMMIT (R96). -/
def execRestampCommit (s : State) : Out := .next (s.commitWith State.restampCommit)

/-- INVALIDATE_COMMIT (R96). -/
def execInvalidateCommit (s : State) : Out := .next (s.commitWith State.invalidateCommit)

/-! ### Mirroring (R373-R377) -/

/-- The line and frame 4 lines behind the beam stamp of a COMMIT or WEFT_START record, counted on through blanking (R373, R376). -/
def State.fourLater (s : State) (bs : List Byte) : Nat × Nat :=
  let l := beAt bs 8 2 + 4
  if s.vtotal ≤ l then (l - s.vtotal, (beAt bs 4 4 + 1) % 2 ^ 32) else (l, beAt bs 4 4)

/-- MIRROR_COMMIT (R373): the standby schedules the commit 4 lines later. -/
def execMirrorCommit (bs : List Byte) (s : State) : Out :=
  if !s.isStandby || bs.length < 36 || beAt bs 0 1 != 1 then .next s
  else
    let lf := s.fourLater bs
    let r : MirrorRec := {
      op := beAt bs 1 1, ring := beAt bs 2 2, frame := lf.2, line := lf.1
      wc := beAt bs 10 2, tile := beAt bs 12 4, seq := beAt bs 16 4, stamp := beAt bs 20 4, word2 := beAt bs 24 4
      source := beAt bs 28 2, cg := beAt bs 32 4, fetching := false }
    .next (s.modLeaf (fun k => { k with sched := k.sched ++ [r] }))

/-- The update kind of a record's OP (R377). -/
def opKind (op : Nat) : UpdKind := if op = 0 then .tile else if op = 1 then .restamp else .invalidate

/-- The decoded update that matches a record by TILE, SEQ and SOURCE (R374). -/
def State.matching (s : State) (r : MirrorRec) : Option (Nat × Update) :=
  s.scene.upd.findSome? (fun kv => match kv.2 with
    | some u => if u.phase = .written ∧ u.handle = r.tile ∧ u.seq = r.seq ∧ u.source = r.source ∧ u.kind = opKind r.op then
        some (kv.1, u) else none
    | none => none)

/-- The entry a record gives (R373, R92), for plane `i`. -/
def State.recEntry (s : State) (r : MirrorRec) (i : Nat) : Entry where
  stamp := r.stamp
  seq := r.seq
  maxAge := r.word2 % 2 ^ 21
  state := match bits r.word2 22 21 with | 0 => .noData | 1 => .content | 2 => .fault | _ => .withdrawn
  v := bit r.word2 23
  tv := bit r.word2 24
  slot := bit r.word2 25
  t5 := bit r.word2 26
  source := r.source
  plane := i
  epoch := s.epochOf i

/-- The commit generation is the active leaf's (R373, R377). -/
def State.takeCg (s : State) (r : MirrorRec) : State := s.wr ING.COMMIT_GEN r.cg

/-- The same record is meant. -/
def MirrorRec.same (a b : MirrorRec) : Bool := a.tile == b.tile && a.seq == b.seq && a.op == b.op

/-- The fetched bank of a record is complete: the standby commits (R374). -/
def State.commitFetched (s : State) (r : MirrorRec) (f : FetchSt) : State :=
  let s := s.modLeaf (fun l => { l with fetch := l.fetch.erase f, sched := l.sched.erase r })
  match s.owner f.tile with
  | some (i, p) =>
    let e := s.recEntry r i
    let s := s.writeTile p r.tile (b2n e.slot) f.got
    let s := s.swapCells 65536 r.tile p.format f.got (s.tileCells i p r.tile)
    let s := if r.op = 0 then s.setDirty r.tile else s
    (((s.putEntry r.tile e).commitCount).takeCg r).resample
  | none => s

/-- A tile that a Syncing standby has not copied, or to which a Weft burst is on its way: its commit waits (R258, R382). -/
def State.commitWaits (s : State) (h : Nat) : Bool := s.weftWrites h || (s.role == 3 && !s.leaf.copied.contains h)

/-- The bank of a fetch is complete. -/
def State.fetched (s : State) (f : FetchSt) : Bool :=
  match s.owner f.tile with | some (_, p) => decide (fmtTileBytes p.format ≤ f.got.length) | none => false

/-- Records at the head of the schedule whose fetched banks are complete are committed, in the active leaf's order (R373, R374). -/
def State.commitReady (s : State) : State :=
  s.each s.leaf.sched (fun s r =>
    match s.leaf.fetch.find? (fun f => f.tile == r.tile && f.seq == r.seq) with
    | some f => if s.leaf.sched.head? = some r ∧ r.fetching ∧ s.fetched f ∧ !s.commitWaits r.tile then s.commitFetched r f else s
    | none => s)

/-- The record has no decoded update (R374). -/
def State.unmatched (s : State) (r : MirrorRec) : Bool := (s.matching r).isNone || (s.owner r.tile).isNone

/-- FETCH_REQ goes out for a record without an update (R374). -/
def State.fetchFor (s : State) (r : MirrorRec) : State :=
  let s := s.modLeaf (fun l => { l with
    sched := l.sched.map (fun x => if x = r then { r with fetching := true } else x)
    fetch := l.fetch ++ [⟨r.tile, r.seq, []⟩] })
  let s := s.mirror ([0x06] ++ zeros 11 ++ beBytes 4 r.tile ++ beBytes 4 r.seq)
  let s := s.bump LEF.MIRROR_LATE
  s.logc LEF.PAGE 0xC3 (s.rd LEF.MIRROR_LATE) r.tile

/-- MIRROR_COMMIT_APPLY (R373, R374): the position of the next scheduled record that is not being fetched has come. Without its
update the tile's bank is fetched; with it the standby commits, behind every earlier record (log entry 225). -/
def execMirrorCommitApply (s : State) : Out :=
  if !s.isStandby then .next s
  else match s.leaf.sched.find? (fun r => !r.fetching) with
  | none => .next s
  | some r =>
    if !s.reached r.line r.frame then .next s
    else
      let s := s.dueAt r.line r.frame r.wc
      if s.unmatched r then .next (s.fetchFor r)
      else if s.leaf.sched.head? ≠ some r ∨ s.commitWaits r.tile then .next s
      else match s.matching r, s.owner r.tile with
      | some (ring, u), some (i, p) =>
        let s := s.modLeaf (fun l => { l with sched := l.sched.erase r })
        let e := s.recEntry r i
        let s := (if r.op = 0 then s.commitTile ring u p e else s.commitMark ring u e).takeCg r
        .next ((s.divergeTile r.tile).commitReady).resample
      | _, _ => .next s

/-- MIRROR_UPDATE_EXPIRE (R374): a ring's decoded update without a record is discarded, without a log, one frame period plus 4
lines after its decode completed. -/
def execMirrorUpdateExpire (ring : BitVec 16) (s : State) : Out :=
  match s.upd ring.toNat with
  | some u =>
    if s.isStandby && u.phase == .written && decide (u.doneAt + (s.vtotal + 4) * s.rd SCN.LINE_EFF.PER / 256 ≤ s.clk.now) &&
        !s.leaf.sched.any (fun r => r.tile == u.handle && r.seq == u.seq && r.source == u.source) then
      .next (s.endUpdate ring.toNat)
    else .next s
  | none => .next s

/-- The bytes of a tile's bank, in the order of an expansion (R71, R80). -/
def State.bankBytes (s : State) (p : Plane) (h b : Nat) : List Byte :=
  let xy := tileXY p h
  if fmtPlait p.format then s.hbmRd (plaitSlot p b (h - p.tileBase)) plaitSlotBytes
  else (List.range 64).flatMap (fun r => s.hbmRd (planePix p b (64 * xy.1) (64 * xy.2 + r)) (64 * fmtBpp p.format))

/-- FETCH_DATA messages of a bank (R377). -/
def State.sendFetch (s : State) (tile seq ofs : Nat) : (n : Nat) → List Byte → State
  | 0, _ => s
  | n + 1, bs =>
    if bs.isEmpty then s
    else State.sendFetch (s.mirror ([0x07] ++ zeros 11 ++ beBytes 4 tile ++ beBytes 4 seq ++ beBytes 4 ofs ++ bs.take 8192))
      tile seq (ofs + 8192) n (bs.drop 8192)

/-- MIRROR_FETCH_REQ (R374): the active leaf returns the committed bank. -/
def execMirrorFetchReq (bs : List Byte) (s : State) : Out :=
  if s.role ≠ 2 ∨ bs.length < 20 ∨ beAt bs 0 1 ≠ 6 then .next s
  else match s.owner (beAt bs 12 4) with
  | some (_, p) =>
    let h := beAt bs 12 4
    .next (s.sendFetch h (beAt bs 16 4) 0 3 (s.bankBytes p h (b2n (s.entry h).slot)))
  | none => .next s


/-- MIRROR_FETCH_DATA (R374). -/
def execMirrorFetchData (bs : List Byte) (s : State) : Out :=
  if !s.isStandby || bs.length < 24 || beAt bs 0 1 != 7 then .next s
  else match s.leaf.fetch.find? (fun f => f.tile == beAt bs 12 4 && f.seq == beAt bs 16 4 && f.got.length == beAt bs 20 4),
      s.owner (beAt bs 12 4) with
  | some f, some _ =>
    let f' : FetchSt := { f with got := f.got ++ bs.drop 24 }
    .next (s.modLeaf (fun l => { l with fetch := l.fetch.map (fun x => if x = f then f' else x) })).commitReady
  | _, _ => .next s

/-- MIRROR_WEFT_START (R376): the standby starts its head list at the same position 4 lines later, with the active leaf's FS. -/
def execMirrorWeftStart (bs : List Byte) (s : State) : Out :=
  if !s.isStandby || bs.length < 20 || beAt bs 0 1 != 3 then .next s
  else
    let lf := s.fourLater bs
    .next (s.modLeaf (fun l => { l with weftStart := l.weftStart ++ [⟨beAt bs 12 4, beAt bs 16 4, lf.1, lf.2, beAt bs 10 2⟩] }))

/-- MIRROR_EDIT_APPLY (R375): a standby that applied another ID becomes Syncing. -/
def execMirrorEditApply (bs : List Byte) (s : State) : Out :=
  if !s.isStandby || bs.length < 12 || beAt bs 0 1 != 4 then .next s
  else if beAt bs 4 4 = s.rd ING.EDIT_LAST then .next s
  else .next ((s.logc LEF.PAGE 0xCA s.lefSts (beAt bs 4 4)).toSyncing)

/-! ### Digests (R378, R379, R183) -/

/-- A digest mismatch (R183, R379). -/
def State.digMismatch (s : State) (h line : Nat) : State :=
  let s := s.bump RIM.DIG_MIS
  let s := (s.wr RIM.DIG_LAST.LINE line).wr RIM.DIG_LAST.HALF h
  let s := s.logOnce h RIM.PAGE 0x43 (s.rd RIM.DIG_LAST.LINE + 2 ^ 16 * s.rd RIM.DIG_LAST.HALF) 0
  let s := s.modRim (fun r => { r with digMisNow := r.digMisNow + 1 })
  let s := s.modLeaf (fun l => { l with clean := false, cleanWhole := false })
  if s.role = 4 ∧ s.eff_ LEF.CFG.DIG_THR < s.rim.digMisNow then
    (s.logc LEF.PAGE 0xC4 s.lefSts s.rim.digMisNow).toSyncing
  else s

/-- The comparison of one line of one half (R183, R378). -/
def State.compareDig (s : State) (h line : Nat) (proven : Bool) : State :=
  let own := tget (fun _ => DigRec.none) s.rim.dig (glKey h line)
  let its := tget (fun _ => DigRec.none) s.leaf.pdig (glKey h line)
  if own.ok = false ∨ its.ok = false then s
  else
    let s := s.modLeaf (fun l => { l with pdig := tset (fun _ => DigRec.none) l.pdig (glKey h line) DigRec.none })
    if own.cg ≠ its.cg ∨ own.wg ≠ its.wg ∨ proven = false then s.bump RIM.DIG_SKIP
    else if own.dig = its.dig then s
    else s.digMismatch h line

/-- MIRROR_LINE (R378, R381, R389): the partner's digest is kept; the digests of line L - 16 are compared now that the
active leaf knows whether it is proven; a standby takes the band of the next cycle; DEMOTE_REQ asks for the panel. -/
def execMirrorLine (bs : List Byte) (s : State) : Out :=
  if !s.paired || bs.length < 24 || beAt bs 0 1 != 2 then .next s
  else
    let fl := beAt bs 1 1
    let h := fl % 2
    let line := beAt bs 2 2
    let s := s.modLeaf (fun l => { l with
      partner := { l.partner with healthy := bit fl 2, at_ := s.clk.now }
      silent := 0, repeats := if l.tau.isSome then l.repeats else []
      pdig := tset (fun _ => DigRec.none) l.pdig (glKey h line) ⟨true, beAt bs 16 4, beAt bs 8 4, beAt bs 12 4⟩ })
    let s := if s.isStandby then s.wr PDV.WV_STS.BAND_NEXT (bits fl 5 3) h else s
    let old := (line + 8624) % 8640
    let s := s.compareDig h old (if s.isStandby then bit (beAt bs 20 1) 0 else s.lineProven h old)
    .next (if bit fl 1 then s.wantDemote 4 else s)

/-! ### Repair and resynchronisation (R380, R382) -/

/-- This leaf takes repairs: a standby, and an Active leaf from the planned takeover that made it so (R387). -/
def State.takesRepairs (s : State) : Bool := s.isStandby || (s.role == 2 && plannedCause (s.rd LEF.TAKE_CAUSE.CAUSE))

/-- MIRROR_REPAIR (R380, R387): the residues are written after this leaf's own write-back of the row, at once when that is
done. -/
def execMirrorRepair (bs : List Byte) (s : State) : Out :=
  let n := beAt bs 6 2
  if !s.takesRepairs || beAt bs 0 1 != 5 || bs.length < 8 + n || decide (8640 ≤ beAt bs 2 2) ||
      decide (46080 < beAt bs 4 2 + n) || decide (1 < beAt bs 1 1) then .next s
  else
    let r : RepairRec := { half := beAt bs 1 1, line := beAt bs 2 2, col := beAt bs 4 2, bytes := slice bs 8 n }
    let s := if s.isStandby then s.modLeaf (fun l => { l with
      diverge := l.diverge.filter (fun d => !(d.half == r.half && d.line == r.line && d.col == r.col)) }) else s
    if (tget (fun _ => (⟨0, []⟩ : RowDc)) s.panel.rowMark (rowKey r.half r.line)).subs.isEmpty then
      .next (s.hbmWr (s.resAddr (if r.half = 0 then 0 else 1) + dcOfs r.half r.line r.col) r.bytes)
    else .next ((s.modLeaf (fun l => { l with repairIn := l.repairIn ++ [r] })).repairSts)

/-- An entry from the 16 bytes of a SYNC message (R92, R382). -/
def State.syncEntry (s : State) (handle : Nat) (bs : List Byte) : State :=
  let i := bits (leAt bs 12 4) 27 16
  let r : MirrorRec := {
    op := 0, ring := 0, line := 0, frame := 0, wc := 0, tile := handle, seq := leAt bs 4 4, stamp := leAt bs 0 4
    word2 := leAt bs 8 4, source := leAt bs 12 2, cg := 0, fetching := false }
  s.putEntry handle (s.recEntry r i)

/-- Bytes a whole copy moves: freshness table, banks, R plane (R382). -/
def State.syncTotal (s : State) : Nat :=
  4194304 + ((enabledPlanes s.scene.planes).map (fun ip => planeTiles ip.2 * fmtTileBytes ip.2.format)).sum + 796262400

/-- The end of a tile's active bank, as its copy sends it. -/
def State.bankEnd (s : State) (p : Plane) (h : Nat) : Nat :=
  let b := b2n (s.entry h).slot
  let n := h - p.tileBase
  if fmtPlait p.format then plaitSlot p b n + plaitSlotBytes
  else planePix p b (64 * (n % p.wt)) (64 * (n / p.wt) + 63) + 64 * fmtBpp p.format

/-- The tile whose copy ends at address `a` (R382). -/
def State.copyEnds (s : State) (a : Nat) : Option Nat :=
  (enabledPlanes s.scene.planes).findSome? (fun ip =>
    ((List.range (planeTiles ip.2)).map (fun n => ip.2.tileBase + n)).find? (fun h => s.bankEnd ip.2 h == a))

/-- The half whose last residue row ends at address `a`. -/
def State.rowsEnd (s : State) (h : Fin 2) (a : Nat) : Bool := a == s.resAddr h + dcOfs h 8639 0 + 46080

/-- Bytes of the copy have arrived: progress, the tile or the half's residues that end with them, and the whole copy with the
last row of both halves (R382). -/
def State.syncGot (s : State) (area a n : Nat) : State :=
  let l0 := s.leaf
  let rows : Vector Bool 2 := Vector.ofFn (fun (h : Fin 2) => l0.rowsDone[h] || (area == 2 && s.rowsEnd h (a + n)))
  let tile := if area = 1 then (s.copyEnds (a + n)).toList else []
  let s := s.modLeaf (fun l => { l with
    syncPos := l.syncPos + n, copied := l.copied ++ tile, rowsDone := rows, copyDone := l.copyDone || (rows[0] && rows[1]) })
  (s.wr LEF.SYNC_PROG.PERCENT (if s.leaf.copyDone then 100 else min 99 (100 * s.leaf.syncPos / s.syncTotal))).commitReady

/-- MIRROR_SYNC (R382): a record of the copy, of at most 8,192 bytes. -/
def execMirrorSync (bs : List Byte) (s : State) : Out :=
  if s.role ≠ 3 ∨ bs.length < 12 ∨ 8204 < bs.length ∨ beAt bs 0 1 ≠ 8 then .next s
  else
    let area := beAt bs 1 1
    let a := beAt bs 4 8
    let d := bs.drop 12
    if area = 0 then
      if a % 16 = 0 ∧ a + d.length ≤ 16 * handles ∧ d.length % 16 = 0 then
        .next ((s.each (List.range (d.length / 16)) (fun s k => s.syncEntry (a / 16 + k) (slice d (16 * k) 16))).syncGot 0 a d.length)
      else .next s
    else if (area = 1 ∨ area = 2) ∧ a + d.length ≤ hbmSize then .next ((s.startResidues.hbmWr a d).syncGot area a d.length)
    else .next s

/-- SYNC_COMPLETE (R382, R384): the copy is complete, no repair waits and one clean frame has passed: Ready; never while
Intrusive (R447). -/
def execSyncComplete (s : State) : Out :=
  if s.role = 3 ∧ s.leaf.copyDone ∧ s.leaf.cleanWhole ∧ s.leaf.repairIn = [] ∧ s.rdB LEF.STS.BARRED = false ∧
      s.mode.dbg ≠ .intrusive then
    .next (((s.setRole 4).event LEF.PAGE 3).logc LEF.PAGE 0xC5 s.lefSts 0)
  else .next s

end Sys2Proof.Machine
end

