-- ==== Sys2Proof/Machine/Lanes.lean ====
section
/-! DEFINITION. Serial lanes (chapter 13): lock and loss of each lane, rate matching, the bring-up machine of every own
port, flex ports in Ethernet mode and the lane registers. Ports are numbered as the fabric switch numbers them (R314):
0-23 fabric, 24-39 flex. -/

namespace Sys2Proof.Machine

/-! ### Numbers (R291, R312, R314) -/

/-- PORT_SEL of a port: 0-23 fabric, 32 + q for flex port q. -/
def portKey (p : Nat) : Nat := if p < 24 then p else p + 8

/-- The port a PORT_SEL value selects; none for a number no port has. -/
def portOfSel (sel : Nat) : Option Nat :=
  if sel % 64 < 24 then some (sel % 64) else if 32 ≤ sel % 64 ∧ sel % 64 < 48 then some (sel % 64 - 8) else none

/-- Lanes of a port: 8 for fabric, 4 for flex. -/
def portLanes (p : Nat) : Nat := if p < 24 then 8 else 4

/-- The global lane index of lane `l` of a port (R291). -/
def laneIdx (p l : Nat) : Nat := if p < 24 then 256 + 8 * p + l else 448 + 4 * (p - 24) + l

/-- The port and lane number of a fabric or flex lane (R291); none for panel lanes. -/
def laneHome (n : Nat) : Option (Nat × Nat) :=
  if n < 256 then none else if n < 448 then some ((n - 256) / 8, n % 8) else some (24 + (n - 448) / 4, n % 4)

/-- The lane numbers of a port. -/
def laneNums (p : Nat) : List Nat := List.range (portLanes p)

/-- The bring-up data of a port. -/
def State.portSt (s : State) (p : Nat) : PortSt := tget (fun _ => PortSt.init) s.lan.port p

/-- Change the bring-up data of a port. -/
def State.modPort (s : State) (p : Nat) (f : PortSt → PortSt) : State :=
  s.modLan (fun l => { l with port := tset (fun _ => PortSt.init) l.port p (f (tget (fun _ => PortSt.init) l.port p)) })

/-- PORT_STS.STATE of a port (R312). -/
def State.portState (s : State) (p : Nat) : Nat := s.rd LAN.PORT_STS.STATE 0 (portKey p)

/-- The port is Up (R303). -/
def State.portUp (s : State) (p : Nat) : Bool := s.portState p == 6

/-- The port is a flex port in Ethernet mode (R308, R312). -/
def State.portEth (s : State) (p : Nat) : Bool := decide (24 ≤ p) && s.rd LAN.PORT_CFG.MODE 0 (portKey p) == 0

/-- Lane `l` of a port takes part (R303, R304): in lock, not dropped and not held out of use. -/
def State.laneUsable (s : State) (p l : Nat) : Bool :=
  let n := laneIdx p l
  s.rdB LAN.LANE_STS.BLOCK 0 n && !s.rdB LAN.LANE_STS.FAILED 0 n && !s.rdB LAN.LANE_CTL.DIS 0 n

/-- A set of lanes as a mask. -/
def laneMask (p : Nat) (f : Nat → Bool) : Nat := (laneNums p).foldl (fun a l => if f l then a + 2 ^ l else a) 0

/-- The lanes of a mask, ascending. -/
def maskLanes (m : Nat) : List Nat := (List.range 8).filter (fun l => bit m l)

/-- Own RX_MASK (R322, R334): lanes that passed Check and are in lock. -/
def State.rxMask (s : State) (p : Nat) : Nat :=
  laneMask p (fun l => (s.portSt p).passed.getLsbD l && s.laneUsable p l)

/-- Change a field of every lane of a port. -/
def State.wrLanes (s : State) (p : Nat) (f : Fld) (v : Nat) : State :=
  s.each (laneNums p) (fun s l => s.wr f v 0 (laneIdx p l))

/-- Switch the transmitters of a port (R303, R313); a lane held by LANE_CTL.DIS stays off. -/
def State.portTx (s : State) (p : Nat) (on : Bool) : State :=
  s.each (laneNums p) (fun s l => s.modLan (fun c => { c with
    tx := tset (fun _ => false) c.tx (laneIdx p l) (on && !s.rdB LAN.LANE_CTL.DIS 0 (laneIdx p l)) }))

/-! ### Direction, width and routing fields of a port (R314, R334, R339) -/

/-- The direction of a port in force (R314): port 23 of a pair is the Hinge; 7 acts as 0. -/
def State.dir (s : State) (p : Nat) : Nat :=
  if p = 23 ∧ s.paired then 6
  else
    let d := bits (tget regReset s.eff (regKey 0 FAB.PAGE (FAB.PDIR.off + 4 * (p / 10)))).toNat (3 * (p % 10) + 2) (3 * (p % 10))
    if d = 7 then 0 else d

/-- Whether a port is quarantined (R337). -/
def State.quarantined (s : State) (p : Nat) : Bool := (tget (fun _ => QuarSt.none) s.fab.quar p).kind != .open_

/-- Whether a port is usable for routing (R327), apart from the Host rule. -/
def State.usable (s : State) (p : Nat) : Bool :=
  s.portUp p && !s.portEth p && !s.quarantined p &&
  (!(decide (1 ≤ s.dir p) && decide (s.dir p ≤ 4)) || (tget (fun _ => Neigh.none) s.fab.nbr p).ok)

/-- A port that data may leave by: usable, and neither of DIR 0, which carries Transom only, nor the Hinge (R314, R327). -/
def State.carries (s : State) (p : Nat) : Bool := s.usable p && s.dir p != 0 && s.dir p != 6

/-- FAB.PORT_STS of a port brought up to date (R339). -/
def State.showPort (s : State) (p : Nat) : State :=
  let s := s.wrB FAB.PORT_STS.QUAR (s.quarantined p) 0 p
  let s := s.wrB FAB.PORT_STS.NEIGH_OK ((tget (fun _ => Neigh.none) s.fab.nbr p).ok) 0 p
  let s := s.wrB FAB.PORT_STS.ROUTE (s.carries p) 0 p
  s.wr FAB.PORT_STS.DIR (s.dir p) 0 p

/-- The width for a COMMON mask (R334). -/
def widthOf (p common : Nat) : Nat :=
  let n := (maskLanes common).length
  if 8 ≤ n ∧ p < 24 then 8 else if 4 ≤ n then 4 else if 2 ≤ n then 2 else n

/-- The lanes in use at a width: the lowest-numbered lanes of COMMON (R334). -/
def lanesAt (common w : Nat) : Nat := ((maskLanes common).take w).foldl (fun a l => a + 2 ^ l) 0

/-- A new width of a port (R334, R339). -/
def State.setWidth (s : State) (p w lanes : Nat) : State :=
  (s.wr FAB.PORT_STS.WIDTH w 0 p).wr FAB.PORT_STS.LANES lanes 0 p

/-- Change the link layer of a port. -/
def State.modLink (s : State) (p : Nat) (f : LinkSt → LinkSt) : State :=
  s.modFab (fun c => { c with link := tset (fun _ => LinkSt.init) c.link p (f (tget (fun _ => LinkSt.init) c.link p)) })

/-- An input buffer place is free again: its credit is owed to the partner (R325). -/
def State.oweCredit (s : State) (p idx : Nat) : State :=
  s.modLink p (fun l => { l with owed := l.owed.set idx (l.owed.getD idx 0 + 1) })

/-- Everything above the lane layer that a port loses when it leaves Up (R303, R326, R339): its link layer and width; for
port 23 the Hinge (R371, R393). -/
def State.linkDown (s : State) (p : Nat) : State :=
  let s := s.each (tget (fun _ => LinkSt.init) s.fab.link p).txQ (fun s q => s.oweCredit q.src.1 q.src.2)
  let s := s.modFab (fun f => { f with
    link := tset (fun _ => LinkSt.init) f.link p LinkSt.init,
    wide := tset (fun _ => WidthSt.none) f.wide p WidthSt.none,
    nbr := tset (fun _ => Neigh.none) f.nbr p Neigh.none })
  let s := (s.setWidth p 0 0).showPort p
  let s := s.event LAN.PAGE 4
  if p = 23 then (s.wrB LEF.STS.HINGE_UP false).event LEF.PAGE 4 else s

/-- The lanes of a port back to 3.125 Gb/s without precoding (R303). -/
def State.lanesSlow (s : State) (p : Nat) : State :=
  ((s.wrLanes p LAN.LANE_STS.RATE 0).wrLanes p LAN.LANE_STS.PRE_TX 0).wrLanes p LAN.LANE_STS.PRE_RX 0

/-- Blocks go out on every lane of a port that has not been dropped (R303, R304). -/
def State.portSend (s : State) (p : Nat) (bs : Nat → List LaneBlk) : State :=
  s.each ((laneNums p).filter (fun l => !s.rdB LAN.LANE_STS.FAILED 0 (laneIdx p l))) (fun s l => s.laneSend (laneIdx p l) (bs l))

/-- Lanes of a port in use, its logical lanes in order (R334). -/
def State.lanesIn (s : State) (p : Nat) : List Nat := maskLanes (s.rd FAB.PORT_STS.LANES 0 p)

/-- CNOP (R322). -/
def cnopBlk : LaneBlk := kBlk 0x13 []

/-- LCTL (R322): ACK, NAK, and with `valid` the credits returned on a credit index. -/
def lctlBlk (ack : Nat) (nak valid : Bool) (idx credits : Nat) : LaneBlk :=
  kBlk 0x10 (beBytes 2 ack ++ beBytes 1 (b2n nak + 2 * idx + 16 * b2n valid) ++ beBytes 2 credits)

/-- The four TRANSOM blocks of a message (R322, R329). -/
def transomBlks (m : List Byte) : List LaneBlk :=
  (List.range 4).map (fun p => kBlk 0x11 (beBytes 1 p ++ slice m (6 * p) 6))

/-- Slots on a port's lanes (R320, R322): position n k + i of `bs` goes on logical lane i in slot k, at width n; CNOP fills what is
left and the lanes out of use. -/
def State.slotSend (s : State) (p : Nat) (bs : List LaneBlk) : State :=
  let m := s.lanesIn p
  let n := max 1 m.length
  s.portSend p (fun l => (List.range ((bs.length + n - 1) / n)).map (fun k => match m.idxOf? l with
    | some i => bs.getD (n * k + i) cnopBlk
    | none => cnopBlk))

/-- Flits on a port's lanes (R320): byte 8 k + i of each as byte i of the D block in position k. -/
def State.flitsSend (s : State) (p : Nat) (flits : List (List Byte)) : State :=
  if flits.isEmpty then s
  else s.slotSend p (flits.flatMap (fun f => (List.range 8).map (fun k => dBlk ((f.drop (8 * k)).take 8))))

/-- WIDTH as this end sends it (R322, R335): own RX_MASK, COMMON, the width of it, the frame at which it switches, at least 64 ahead
of its transmit frame count, which the spec does not place (a free value), and the answer to the partner's WIDTH. -/
def State.widthBlk (s : State) (p : Nat) (ack : Bool) : LaneBlk × State :=
  let common := s.rxMask p &&& (tget (fun _ => WidthSt.none) s.fab.wide p).partner.toNat
  let (f, s) := s.takeFree 16
  (kBlk 0x12 (beBytes 1 (s.rxMask p) ++ beBytes 1 common ++ beBytes 1 (widthOf p common) ++ beBytes 2 ((f.toNat + 64) % 2 ^ 16) ++
    beBytes 1 (b2n ack)), s)

/-- A WIDTH goes out on each lane of a control slot (R335). -/
def State.widthSend (s : State) (p : Nat) (ack : Bool) : State :=
  let (b, s) := s.widthBlk p ack
  s.slotSend p [b]

/-- CAP as a port sends it (R295, R303, R305). -/
def State.capBlk (s : State) (p : Nat) (ack : Bool) (l : Nat) : LaneBlk :=
  let k := portKey p
  kBlk 0xF2 (beBytes 1 1 ++ beBytes 1 (s.rd LAN.PORT_STS.CAP_RATE 0 k % 8 + 8 * b2n (s.rdB LAN.PORT_CFG.PRECODE_REQ 0 k) +
    16 * b2n (s.rdB LAN.PORT_STS.BACKOFF 0 k) + 32 * b2n ack) ++ beBytes 1 l ++ beBytes 1 k)

/-- TRAIN bytes 1 to 5 of lane `l` (R295): `flags` are byte 2; no request of its own, and its answer to the partner's last. -/
def State.trainBytes (s : State) (p flags l : Nat) : List Byte :=
  let n := laneIdx p l
  beBytes 1 (s.rd LAN.PORT_STS.RATE 0 (portKey p)) ++ beBytes 1 (flags + b2n (s.rdB LAN.LANE_STS.PRE_TX 0 n)) ++ beBytes 1 l ++
    [0, tget (fun _ => 0) s.lan.reply n]

/-- The port enters Down-Probing (R303), with or without a back-off under way; it sends CAP. -/
def State.toProbing (s : State) (p : Nat) (backoff : Bool) : State :=
  let up := s.portUp p
  let k := portKey p
  let s := (s.wr LAN.PORT_STS.STATE 1 0 k).wr LAN.PORT_STS.RATE 0 0 k
  let s := (s.wrB LAN.PORT_STS.BACKOFF backoff 0 k).wr LAN.PORT_STS.LANES_UP 0 0 k
  let s := (s.modPort p (fun c => { c with passed := 0, fills := 0 })).lanesSlow p
  let s := s.portSend p (fun l => [s.capBlk p false l])
  if up then s.linkDown p else s

/-- The back-off returns to 1 ms (R298, R305). -/
def State.resetBackoff (s : State) (p : Nat) : State :=
  (s.wr LAN.PORT_STS.BO_CUR 0 0 (portKey p)).wr LAN.PORT_FAIL.FAILS 0 0 (portKey p)

/-- A failure of the climb (R305) at a rate, with its log code. -/
def State.portFail (s : State) (p code rate : Nat) : State :=
  let k := portKey p
  let fails := s.rd LAN.PORT_FAIL.FAILS 0 k
  let boMax := s.rd LAN.PORT_CFG.BO_MAX 0 k
  let s := (s.wr LAN.PORT_FAIL.CODE code 0 k).wr LAN.PORT_FAIL.RATE rate 0 k
  let s := (s.bump LAN.PORT_FAIL.FAILS 1 0 k).wr LAN.PORT_STS.CAP_RATE (rate - 1) 0 k
  let s := (s.toProbing p true).wr LAN.PORT_STS.BO_CUR (min boMax fails) 0 k
  let s := (s.event LAN.PAGE 5).logc LAN.PAGE code (s.rd LAN.PORT_STS 0 k) k
  if fails = boMax then s.logc LAN.PAGE 0x98 (s.rd LAN.PORT_STS 0 k) k else s

/-- The port leaves Up without a failure of the climb (R298, R334, R335): Down-Probing with the back-off at 1 ms. -/
def State.portDrop (s : State) (p : Nat) : State := (s.resetBackoff p).toProbing p false

/-- The set of lanes in lock changed while the port is Up (R298, R335): the port sends WIDTH, or goes down with none left. -/
def State.lanesChanged (s : State) (p : Nat) : State :=
  if s.portUp p && !s.portEth p then
    let m := s.rxMask p
    let s := s.wr LAN.PORT_STS.LANES_UP m 0 (portKey p)
    if m = 0 then s.portDrop p
    else (s.modFab (fun f => { f with
      wide := tset (fun _ => WidthSt.none) f.wide p { tget (fun _ => WidthSt.none) f.wide p with sending := true } })).widthSend p false
  else s

/-! ### Lock and loss (R296-R298) -/

/-- An Ethernet port starts again (R298, R309). -/
def State.ethRestart (s : State) (p : Nat) : State :=
  let up := s.portUp p
  let s := s.wr LAN.PORT_STS.STATE (if s.rdB LAN.PORT_CFG.AN 0 (portKey p) then 7 else 8) 0 (portKey p)
  let s := s.wr LAN.PORT_STS.LANES_UP 0 0 (portKey p)
  if up then s.event LAN.PAGE 4 else s

/-- A lane loses block lock (R298). -/
def State.loseLock (s : State) (n : Nat) : State :=
  if s.rdB LAN.LANE_STS.BLOCK 0 n then
    let s := (s.wrB LAN.LANE_STS.BLOCK false 0 n).bump LAN.LANE_STS.LOSS_CNT 1 0 n
    let s := (s.event LAN.PAGE 1).logc LAN.PAGE 0x91 (s.rd LAN.LANE_STS 0 n) n
    match laneHome n with
    | none => s
    | some (p, _) =>
      if s.portEth p then (if 6 ≤ s.portState p then s.ethRestart p else s)
      else if s.portState p = 5 then s.wrB LAN.LANE_STS.FAILED true 0 n
      else s.lanesChanged p
  else s

/-- LOS_SET (R296): LOS rises, and block lock is lost with it. Panel transmit lanes have no receiver. -/
def execLosSet (lane : Fin 512) (s : State) : Out :=
  if 240 ≤ lane.val then
    .next (((s.wrB LAN.LANE_STS.LOS true 0 lane).event LAN.PAGE 0).loseLock lane)
  else .next s

/-- LOS_CLEAR (R296). -/
def execLosClear (lane : Fin 512) (s : State) : Out :=
  if 240 ≤ lane.val then .next (s.wrB LAN.LANE_STS.LOS false 0 lane) else .next s

/-- CDR_LOCK_GAIN (R296). -/
def execCdrLockGain (lane : Fin 512) (s : State) : Out :=
  if 240 ≤ lane.val then .next (s.wrB LAN.LANE_STS.CDR true 0 lane) else .next s

/-- CDR_LOCK_LOSS (R296): block lock is lost with it. -/
def execCdrLockLoss (lane : Fin 512) (s : State) : Out :=
  if 240 ≤ lane.val then .next ((s.wrB LAN.LANE_STS.CDR false 0 lane).loseLock lane) else .next s

/-- BLOCK_LOCK_GAIN (R296): needs CDR lock and no LOS. -/
def execBlockLockGain (lane : Fin 512) (s : State) : Out :=
  if 240 ≤ lane.val ∧ s.rdB LAN.LANE_STS.CDR 0 lane ∧ s.rdB LAN.LANE_STS.LOS 0 lane = false ∧
      s.rdB LAN.LANE_STS.BLOCK 0 lane = false then
    let s := s.wrB LAN.LANE_STS.BLOCK true 0 lane
    match laneHome lane with
    | some (p, _) => .next (s.lanesChanged p)
    | none => .next s
  else .next s

/-- BLOCK_LOCK_LOSS (R298). -/
def execBlockLockLoss (lane : Fin 512) (s : State) : Out :=
  if 240 ≤ lane.val then .next (s.loseLock lane) else .next s

/-- DEGRADED_CHECK (R295, R297): the end of a second in which a lane showed `headers` invalid headers and dropped `kinds` blocks of
an illegal kind, which are counted and logged with code 0x99. -/
def execDegradedCheck (lane : Fin 512) (headers kinds : BitVec 32) (s : State) : Out :=
  let s := s.bump LAN.LANE_ERR.SH_ERR (headers.toNat + kinds.toNat) 0 lane
  let s := if kinds = 0 then s else s.logOnce lane LAN.PAGE 0x99 (s.rd LAN.LANE_STS 0 lane) lane
  let thr := s.eff_ LAN.DEGR_THR.COUNT
  let s := s.latch LAN.DEGR_THR.COUNT
  if s.rdB LAN.LANE_STS.BLOCK 0 lane && decide (thr < headers.toNat) then
    let s := (s.wrB LAN.LANE_STS.DEGR true 0 lane).event LAN.PAGE 2
    let last := tget (fun _ => 0) s.lan.degrAt lane
    if last = 0 ∨ last - 1 + 5760000000000 ≤ s.clk.now then
      .next ((s.logc LAN.PAGE 0x92 (s.rd LAN.LANE_STS 0 lane) lane).modLan
        (fun l => { l with degrAt := tset (fun _ => 0) l.degrAt lane (s.clk.now + 1) }))
    else .next s
  else .next s

/-! ### Rate matching (R299, R300) -/

/-- FILL_INT as it acts (R312): 256 to 4,096, else 1,024. -/
def fillIntOf (v : Nat) : Nat := if 256 ≤ v ∧ v ≤ 4096 then v else 1024

/-- FILL_SEND (R299, R313): a FILL goes out on every lane of an Up port, and FILL_INT as it stands counts the next one. -/
def execFillSend (port : Fin 40) (s : State) : Out :=
  if s.portUp port && !s.portEth port then
    .next ((s.modPort port (fun c => { c with fills := c.fills + 1, fillInt := fillIntOf (s.rd LAN.FILL_INT.BLOCKS) })).portSend port
      (fun _ => [kBlk 0xF0 []]))
  else .next s

/-- FILL_RECEIVE (R300): a FILL arrives with the elastic buffers `fill` blocks above (or below) their centre; lanes of
`lost` show a skew above 4 blocks, an overflow or an empty buffer. -/
def execFillReceive (port : Fin 40) (fill : BitVec 8) (lost : BitVec 8) (s : State) : Out :=
  if s.portUp port && !s.portEth port then
    let e := sgn 8 fill.toNat
    let e' := if e > 1 then e - 1 else if e < -1 then e + 1 else e
    let s := s.each (laneNums port) (fun s l =>
      let n := laneIdx port l
      let s := s.modLan (fun c => { c with elastic := tset (fun _ => 0) c.elastic n e' })
      if e' = e then s else s.bump LAN.LANE_ERR.SLIP 1 0 n)
    .next (s.each (laneNums port) (fun s l =>
      if lost.getLsbD l then
        (s.logc LAN.PAGE 0x93 (s.rd LAN.LANE_STS 0 (laneIdx port l)) (laneIdx port l)).loseLock (laneIdx port l)
      else s))
  else .next s

/-! ### The own-port ladder (R303-R305) -/

/-- The port is disabled (R303, R313): transmitters off, back-off and cap reset. -/
def State.portOff (s : State) (p : Nat) : State :=
  let up := s.portUp p
  let k := portKey p
  let s := (s.wr LAN.PORT_STS.STATE 0 0 k).wr LAN.PORT_STS.RATE 0 0 k
  let s := (s.wrB LAN.PORT_STS.BACKOFF false 0 k).wr LAN.PORT_STS.LANES_UP 0 0 k
  let s := (s.resetBackoff p).wr LAN.PORT_STS.CAP_RATE (min 4 (s.rd LAN.PORT_CFG.MAX_RATE 0 k)) 0 k
  let s := ((s.modPort p (fun c => { c with passed := 0, fills := 0 })).lanesSlow p).portTx p false
  if up then (if s.portEth p then s.event LAN.PAGE 4 else s.linkDown p) else s

/-- The lanes of an Ethernet type (R308). -/
def ethLanes (t : Nat) : Nat := [1, 1, 3, 3, 15, 15].getD t 15

/-- Lane `l` of a port has a part in its mode (R308). -/
def State.laneInMode (s : State) (p l : Nat) : Bool :=
  !s.portEth p || bit (ethLanes (s.rd LAN.PORT_CFG.ETH_TYPE 0 (portKey p))) l

/-- The plug-in of a flex port's cage, as its CMIS data give it (R43): one that is not supported is held in low-power mode, so
both ports of the cage are off; it is reported in `plugBad` alone (log entry 205). -/
def State.plugIn (s : State) (p : Nat) (supported : Bool) : State :=
  if p < 24 then s
  else
    let c := (p - 24) / 2
    let m : BitVec 8 := BitVec.ofNat 8 (2 ^ c)
    let s := s.modLan (fun l => { l with plugBad := if supported then l.plugBad &&& ~~~m else l.plugBad ||| m })
    if supported then s
    else s.each ([24 + 2 * c, 25 + 2 * c].filter (fun q => s.portState q != 0)) (fun s q => s.portOff q)

/-- PORT_ENABLE (R303, R309, R43): a cable or plug-in is found present, and the port leaves Disabled with ENA = 1. -/
def execPortEnable (port : Fin 40) (supported : Bool) (s : State) : Out :=
  let k := portKey port
  let s := s.plugIn port supported
  if s.portState port = 0 ∧ s.rdB LAN.PORT_CFG.ENA 0 k ∧ s.pwr.lanesStopped = false ∧ (port.val < 24 ∨ supported = true) then
    let s := s.portTx port true
    if s.portEth port then
      let s := s.each (laneNums port) (fun s l =>
        if s.laneInMode port l then s.wr LAN.LANE_STS.RATE 4 0 (laneIdx port l)
        else s.modLan (fun c => { c with tx := tset (fun _ => false) c.tx (laneIdx port l) false }))
      .next (s.wr LAN.PORT_STS.STATE (if s.rdB LAN.PORT_CFG.AN 0 k then 7 else 8) 0 k)
    else
      let s := s.wr LAN.PORT_STS.CAP_RATE (min 4 (s.rd LAN.PORT_CFG.MAX_RATE 0 k)) 0 k
      .next (s.toProbing port false)
  else .next s

/-- BACKOFF_ELAPSED (R305). -/
def execBackoffElapsed (port : Fin 40) (s : State) : Out :=
  if s.portState port = 1 then .next (s.wrB LAN.PORT_STS.BACKOFF false 0 (portKey port)) else .next s

/-- The port enters Train at rate `r` (R303): precoding runs at rate codes 3 and 4 in a direction whose receiver asked for
it (R294); training frames go out. -/
def State.toTrain (s : State) (p r : Nat) : State :=
  let k := portKey p
  let s := (s.wr LAN.PORT_STS.STATE 3 0 k).wr LAN.PORT_STS.RATE r 0 k
  let s := s.wrLanes p LAN.LANE_STS.RATE r
  let s := s.wrLanes p LAN.LANE_STS.PRE_TX (b2n (decide (3 ≤ r) && (s.portSt p).partnerPre))
  let s := s.wrLanes p LAN.LANE_STS.PRE_RX (b2n (decide (3 ≤ r) && s.rdB LAN.PORT_CFG.PRECODE_REQ 0 k))
  let s := s.modLan (fun c => { c with reply := (laneNums p).foldl (fun t l => tset (fun _ => 0) t (laneIdx p l) 0) c.reply })
  s.each ((laneNums p).filter (fun l => !s.rdB LAN.LANE_STS.FAILED 0 (laneIdx p l))) (fun s l =>
    s.laneTrain (laneIdx p l) (s.trainBytes p 0 l))

/-- CAP_RECEIVE (R303, R305): partner CAP blocks with their lane-layer version, highest rate code, PRECODE_REQ and BACKOFF;
`ack`: every lane in lock shows ACK. -/
def execCapReceive (port : Fin 40) (version : BitVec 4) (rate : BitVec 3) (preReq backoff ack : Bool) (s : State) : Out :=
  let k := portKey port
  let st := s.portState port
  if s.portEth port ∨ ¬(st = 1 ∨ st = 2) ∨ (st = 1 ∧ s.rdB LAN.PORT_STS.BACKOFF 0 k) then .next s
  else if version ≠ 1 then .next (s.portFail port 0x9B 0)
  else if st = 1 then
    if backoff = false ∧ (laneNums port).any (fun l => s.rdB LAN.LANE_STS.BLOCK 0 (laneIdx port l) &&
        !s.rdB LAN.LANE_CTL.DIS 0 (laneIdx port l)) then
      let s := (s.wrLanes port LAN.LANE_STS.FAILED 0).wr LAN.PORT_STS.STATE 2 0 k
      let s := s.modPort port (fun c => { c with partnerPre := preReq })
      .next ((s.wr LAN.PORT_STS.PARTNER_MAX rate.toNat 0 k).portSend port (fun l => [s.capBlk port true l]))
    else .next s
  else if ack then
    let s := s.modPort port (fun c => { c with
      partnerPre := preReq, target := min 4 (min (s.rd LAN.PORT_STS.CAP_RATE 0 k) rate.toNat) })
    .next ((s.wr LAN.PORT_STS.PARTNER_MAX rate.toNat 0 k).toTrain port 0)
  else .next s

/-- Whether the transmitter taps of LANE_EQ keep the limit of R301. -/
def tapsOk (eq : Nat) : Bool := decide (bits eq 3 0 + bits eq 9 4 + bits eq 14 10 ≤ 63)

/-- The three taps of LANE_EQ: their lowest bit and their largest setting (R301, R312). -/
def tapFields : List (Nat × Nat) := [(0, 15), (4, 63), (10, 31)]

/-- One tap's answer to a request (R295, R301): the taps, and 0 not updated, 1 updated, 2 at minimum, 3 at maximum. -/
def tapAsk (eq lo most ask : Nat) : Nat × Nat :=
  let v := eq / 2 ^ lo % (most + 1)
  if ask = 1 then
    (if v < most ∧ tapsOk (eq + 2 ^ lo) then (eq + 2 ^ lo, 1) else (eq, 3))
  else if ask = 2 then (if 0 < v then (eq - 2 ^ lo, 1) else (eq, 2))
  else (eq, 0)

/-- The partner's request on a lane (TRAIN byte 4), and the answer in TRAIN byte 5 (R295, R301). -/
def tapRequest (eq : Nat) (req : Byte) : Nat × Nat :=
  if req.getLsbD 6 then (Sys2Proof.Config.presetTaps % 2 ^ 15, 0x15)
  else
    (tapFields.zipIdx).foldl (fun a f =>
      let r := tapAsk a.1 f.1.1 f.1.2 (bits req.toNat (2 * f.2 + 1) (2 * f.2))
      (r.1, a.2 + r.2 * 4 ^ f.2)) (eq, 0)

/-- The partner's requests on lane `n`, in order, and the lane's last answer. -/
def State.tapRequests (s : State) (n : Nat) (reqs : List Byte) : State :=
  s.each reqs (fun s r =>
    let x := tapRequest (s.rd LAN.LANE_EQ 0 n % 2 ^ 15) r
    (s.wr LAN.LANE_EQ (s.rd LAN.LANE_EQ.CTLE 0 n * 2 ^ 16 + x.1) 0 n).modLan (fun c => { c with
      reply := tset (fun _ => 0) c.reply n (BitVec.ofNat 8 x.2) }))

/-- TRAIN_DONE (R303, R301): both ends send RX_DONE on every lane in use. `reqs` are the requests that the partner made on each
lane, `rx` the CTLE setting and the DFE taps that each receiver has adapted to. The port sends frames with CHECK = 1. -/
def execTrainDone (port : Fin 40) (reqs : List (List (BitVec 8))) (rx : List (BitVec 4 × List Int)) (s : State) : Out :=
  if s.portState port = 3 ∧ s.portEth port = false then
    let s := s.each (laneNums port) (fun s l =>
      let n := laneIdx port l
      let s := s.tapRequests n (reqs.getD l [])
      match rx[l]? with
      | some e => (s.wr LAN.LANE_EQ.CTLE e.1.toNat 0 n).modLan (fun c => { c with
          dfe := tset (fun _ => List.replicate 8 0) c.dfe n ((e.2 ++ List.replicate 8 0).take 8) })
      | none => s)
    let s := s.portSend port (fun l => kBlk 0xF1 (s.trainBytes port 6 l) :: List.replicate 63 (dBlk []))
    .next (s.wr LAN.PORT_STS.STATE 4 0 (portKey port))
  else .next s

/-- The largest count of wrong bits that passes Check at a rate (R304). -/
def checkLimit (r : Nat) : Nat := [93, 187, 375, 750, 1593].getD r 1593

/-- The port comes Up (R303, R334) with the COMMON lanes of both ends. -/
def State.portRise (s : State) (p common : Nat) : State :=
  let k := portKey p
  let s := (s.wr LAN.PORT_STS.STATE 6 0 k).wr LAN.PORT_STS.LANES_UP (s.rxMask p) 0 k
  let s := s.modPort p (fun c => { c with fills := 0 })
  let w := widthOf p common
  let s := ((s.setWidth p w (lanesAt common w)).showPort p).event LAN.PAGE 3
  if p = 23 then (s.wrB LEF.STS.HINGE_UP true).flushRepairs.repairSts else s

/-- CHECK_DONE (R304): after 1 ms, lane `l` counted `counts[l]` wrong bits and those of `hdr` showed an invalid header;
`partner` is the partner's mask of passing lanes. -/
def execCheckDone (port : Fin 40) (counts : List (BitVec 32)) (hdr partner : BitVec 8) (s : State) : Out :=
  let k := portKey port
  if s.portState port = 4 ∧ s.portEth port = false then
    let r := s.rd LAN.PORT_STS.RATE 0 k
    let pass := laneMask port (fun l => s.laneUsable port l && !hdr.getLsbD l &&
      decide ((counts.getD l 0).toNat ≤ checkLimit r))
    let s := s.each (laneNums port) (fun s l => if bit pass l then s else s.wrB LAN.LANE_STS.FAILED true 0 (laneIdx port l))
    let s := s.modPort port (fun c => { c with passed := BitVec.ofNat 8 pass })
    let common := pass &&& partner.toNat
    if common = 0 then .next (s.portFail port 0x96 r)
    else if r < (s.portSt port).target then
      .next (((s.wr LAN.PORT_STS.STATE 5 0 k).wr LAN.PORT_STS.LANES_UP pass 0 k).portSend port (fun _ =>
        (List.range 16).map (fun i => kBlk 0xF3 (beBytes 1 (r + 1) ++ beBytes 1 (15 - i)))))
    else .next (s.portRise port common)
  else .next s

/-- STEP_DONE (R303, R311): the transmitter has switched after the countdown; the lanes of `relocked` are in lock at the
next rate, the others are dropped. -/
def execStepDone (port : Fin 40) (relocked : BitVec 8) (s : State) : Out :=
  let k := portKey port
  if s.portState port = 5 ∧ s.portEth port = false then
    let got := laneMask port (fun l => relocked.getLsbD l && !s.rdB LAN.LANE_STS.FAILED 0 (laneIdx port l) &&
      !s.rdB LAN.LANE_CTL.DIS 0 (laneIdx port l))
    if got = 0 then .next s
    else
      let s := s.each (laneNums port) (fun s l =>
        let n := laneIdx port l
        if bit got l then (s.wrB LAN.LANE_STS.BLOCK true 0 n).wrB LAN.LANE_STS.CDR true 0 n
        else (s.wrB LAN.LANE_STS.BLOCK false 0 n).wrB LAN.LANE_STS.FAILED true 0 n)
      .next (s.toTrain port (s.rd LAN.PORT_STS.RATE 0 k + 1))
  else .next s

/-- EXCHANGE_TIMEOUT (R305). -/
def execExchangeTimeout (port : Fin 40) (s : State) : Out :=
  if s.portState port = 2 then .next (s.portFail port 0x94 0) else .next s

/-- TRAIN_BLOCK_TIMEOUT (R305): no TRAIN block on any lane for 1 ms. -/
def execTrainBlockTimeout (port : Fin 40) (s : State) : Out :=
  if (s.portState port = 3 ∨ s.portState port = 4) then
    .next (s.portFail port 0x95 (s.rd LAN.PORT_STS.RATE 0 (portKey port)))
  else .next s

/-- TRAIN_TIMEOUT (R305): Train not complete in 20 ms. -/
def execTrainTimeout (port : Fin 40) (s : State) : Out :=
  if s.portState port = 3 then .next (s.portFail port 0x95 (s.rd LAN.PORT_STS.RATE 0 (portKey port))) else .next s

/-- STEP_RELOCK_TIMEOUT (R305): no lane relocked at the rate that the Step named. -/
def execStepRelockTimeout (port : Fin 40) (s : State) : Out :=
  if s.portState port = 5 then
    .next ((s.wrLanes port LAN.LANE_STS.FAILED 1).portFail port 0x97 (s.rd LAN.PORT_STS.RATE 0 (portKey port) + 1))
  else .next s

/-- CAP_RESTORE (R305): after 1 s Up the back-off returns to 1 ms; after an hour Up (`hour`) the cap to MAX_RATE. -/
def execCapRestore (port : Fin 40) (hour : Bool) (s : State) : Out :=
  let k := portKey port
  if s.portUp port && !s.portEth port then
    if hour then .next (s.wr LAN.PORT_STS.CAP_RATE (min 4 (s.rd LAN.PORT_CFG.MAX_RATE 0 k)) 0 k)
    else .next (s.resetBackoff port)
  else .next s

/-! ### Flex ports in Ethernet mode (R308-R310) -/

/-- ETH_PORT_BRINGUP (R309, R43): one event of an Ethernet port's bring-up. A failure restarts it, with code 0x9A at most
once a minute. -/
def execEthPortBringup (port : Fin 16) (ev : EthStep) (s : State) : Out :=
  let p := 24 + port.val
  let k := portKey p
  let st := s.portState p
  if s.portEth p = false ∨ st < 6 then .next s
  else match ev with
  | .negotiated => if st = 7 then .next (s.wr LAN.PORT_STS.STATE 8 0 k) else .next s
  | .trained =>
    if st = 8 then .next (((s.wr LAN.PORT_STS.STATE 6 0 k).wr LAN.PORT_STS.RATE 4 0 k).wr LAN.PORT_STS.LANES_UP
      (ethLanes (s.rd LAN.PORT_CFG.ETH_TYPE 0 k)) 0 k |>.event LAN.PAGE 3) else .next s
  | .activePlugIn =>
    if st = 6 then .next s
    else .next (((s.wr LAN.PORT_STS.STATE 6 0 k).wr LAN.PORT_STS.RATE 4 0 k).wr LAN.PORT_STS.LANES_UP
      (ethLanes (s.rd LAN.PORT_CFG.ETH_TYPE 0 k)) 0 k |>.event LAN.PAGE 3)
  | .failed =>
    if st = 6 then .next s
    else
      let s := (s.ethRestart p).event LAN.PAGE 5
      let s := ((s.wr LAN.PORT_FAIL.CODE 0x9A 0 k).wr LAN.PORT_FAIL.RATE 4 0 k).bump LAN.PORT_FAIL.FAILS 1 0 k
      match (s.portSt p).ethLogAt with
      | some t => if s.clk.now < t + 96000000000 then .next s
        else .next ((s.logc LAN.PAGE 0x9A (s.rd LAN.PORT_STS 0 k) k).modPort p (fun c => { c with ethLogAt := some s.clk.now }))
      | none => .next ((s.logc LAN.PAGE 0x9A (s.rd LAN.PORT_STS 0 k) k).modPort p (fun c => { c with ethLogAt := some s.clk.now }))
  | .codewords cor unc => .next ((s.bump LAN.ETH_FEC_COR.COUNT cor.toNat 0 k).bump LAN.ETH_FEC_UNC.COUNT unc.toNat 0 k)

/-- MANAGEMENT_LINK_CHANGE (R44, R472): the management port's link and speed. -/
def execManagementLinkChange (up : Bool) (speed : Fin 2) (s : State) : Out :=
  .next ((s.wrB SYS.MGMT_STS.LINK up).wr SYS.MGMT_STS.SPEED (if up then speed.val + 1 else 0))

/-! ### Register writes (R313) -/

/-- PORT_CFG (R313): fields other than ENA take effect only while ENA = 0, else they are ignored with an ignored-write
record; clearing ENA disables the port at once. A fabric port's MODE reads 1. -/
def wrPortCfg (path : Path) (v : Nat) (s : State) : WrRes :=
  match portOfSel (s.rd LAN.PORT_SEL 0 path.num) with
  | none => okW s
  | some p =>
    let k := portKey p
    let old := s.rd LAN.PORT_CFG 0 k
    let new := v % 2 ^ 14 ||| (if p < 24 then 2 else 0)
    if old % 2 = 0 then okW (s.wr LAN.PORT_CFG new 0 k)
    else
      let s := if new % 2 = 0 then (s.portOff p).wr LAN.PORT_CFG.ENA 0 0 k else s
      if new / 2 = old / 2 then okW s else ign28 path LAN.PAGE 0x118 v s

/-- LANE_CTL (R312, R313): DIS on a panel transmit lane marks it failed (R207); on a port's lane it switches the transmitter
off and takes the lane out of use; panel return lanes ignore the write. -/
def wrLaneCtl (path : Path) (v : Nat) (s : State) : WrRes :=
  let n := s.rd LAN.LANE_SEL.LANE 0 path.num
  if 240 ≤ n ∧ n < 256 then ign28 path LAN.PAGE 0x110 v s
  else
    let s := s.wr LAN.LANE_CTL (v % 4) 0 n
    let dis := v % 2 == 1
    match laneHome n with
    | none =>
      let g := n / 15
      let s := s.modLan (fun c => { c with tx := tset (fun _ => false) c.tx n (!dis && s.mode.supply == .on) })
      let fail := s.rd PLK.GRP_STS.FAIL (groupHalf g) g
      if dis && !bit fail (n % 15) then
        let fail' := fail + 2 ^ (n % 15)
        let pg := plkPage (groupHalf g)
        okW (((s.event pg 0).logc pg 0x53 fail' (g * 16 + n % 15)).setLanes g fail')
      else okW s
    | some (p, l) =>
      let on := !dis && s.portState p != 0 && s.laneInMode p l
      okW ((s.modLan (fun c => { c with tx := tset (fun _ => false) c.tx n on })).lanesChanged p)

end Sys2Proof.Machine
end

