-- ==== Sys2Proof/Machine/Fabric.lean ====
section
/-! DEFINITION. The Calnar fabric (chapter 14): links with replay and credits, routing, Transom output, root election and
addresses, neighbour checks, narrowing, NAKs, violations and quarantine. -/

namespace Sys2Proof.Machine

/-! ### Addresses and the grid (R315, R317) -/

/-- Columns of the grid in force. -/
def State.gridW (s : State) : Nat := s.eff_ FAB.GRID.W_M1 + 1

/-- Rows of the grid in force. -/
def State.gridH (s : State) : Nat := s.eff_ FAB.GRID.H_M1 + 1

/-- The module holds an address (R339). -/
def State.addressed (s : State) : Bool := s.rd FAB.ADDR_STS.STATE == 2

/-- The address in force. -/
def State.addr (s : State) : Nat := s.rd FAB.ADDR_STS.ADDR

/-- An address lies in the grid. -/
def State.inGrid (s : State) (a : Nat) : Bool := decide (a / 256 < s.gridW) && decide (a % 256 < s.gridH)

/-- The opposite of a direction 1 to 4. -/
def oppDir (d : Nat) : Nat := [0, 2, 1, 4, 3].getD d 0

/-- A coordinate stepped in a direction (R317, R318): modulo the grid in a wrapped dimension; none outside an open one. -/
def State.stepDir (s : State) (d col row : Nat) : Option (Nat × Nat) :=
  let w := s.gridW
  let h := s.gridH
  let inc (torus : Bool) (n v : Nat) : Option Nat :=
    if torus then some ((v + 1) % n) else if v + 1 < n then some (v + 1) else none
  let dec (torus : Bool) (n v : Nat) : Option Nat :=
    if torus then some ((v + n - 1) % n) else if 0 < v ∧ v - 1 < n then some (v - 1) else none
  let tx := s.eff_ FAB.GRID.TOR_X == 1
  let ty := s.eff_ FAB.GRID.TOR_Y == 1
  if d = 1 then (inc tx w col).map (fun c => (c, row)) else if d = 2 then (dec tx w col).map (fun c => (c, row))
  else if d = 3 then (inc ty h row).map (fun r => (col, r)) else if d = 4 then (dec ty h row).map (fun r => (col, r))
  else none

/-! ### Links (R324-R326) -/

/-- The link layer of a port. -/
def State.link (s : State) (p : Nat) : LinkSt := tget (fun _ => LinkSt.init) s.fab.link p

/-- The port carries the Calnar link layer and is Up. -/
def State.calnarUp (s : State) (p : Nat) : Bool := s.portUp p && !s.portEth p

/-- A flit with its LSEQ (R320). -/
def withLseq (n : Nat) (flit : List Byte) : List Byte := beBytes 2 n ++ flit.drop 2

/-- HEAD of a flit (R320). -/
def flitHead (f : List Byte) : Bool := bit (beAt f 2 1) 3

/-- TAIL of a flit (R320). -/
def flitTail (f : List Byte) : Bool := bit (beAt f 2 1) 4

/-- The next flit an output may send (R325): Time, then Tile, then Bulk, each against a credit of its VC and class; the
flits of one message on one VC and class stay together. -/
def LinkSt.pick (l : LinkSt) : Option QFlit :=
  (List.range 6).findSome? (fun i =>
    if l.credits.getD i 0 = 0 then none
    else match l.locked.getD i none with
      | some src => l.txQ.find? (fun q => q.idx == i && q.src == src)
      | none => l.txQ.find? (fun q => q.idx == i && flitHead q.bytes))

/-- Send what the credits and the replay buffer allow (R324, R325). Each flit sent frees its place at its input. -/
def State.drain (s : State) (p : Nat) : (fuel : Nat) → State
  | 0 => s
  | n + 1 =>
    let l := s.link p
    if !s.calnarUp p || s.quarantined p || decide (1024 ≤ l.replay.length) then s
    else match l.pick with
      | none => s
      | some q =>
        let s := s.modLink p (fun l => { l with
          txQ := l.txQ.erase q,
          credits := l.credits.set q.idx (l.credits.getD q.idx 0 - 1),
          locked := l.locked.set q.idx (if flitTail q.bytes then none else some q.src),
          replay := l.replay ++ [withLseq l.txNext.toNat q.bytes],
          progressAt := if l.replay.isEmpty then s.clk.now else l.progressAt,
          txNext := l.txNext + 1 })
        State.drain (s.oweCredit q.src.1 q.src.2) p n

/-- Drain an output completely; `replay`: the flits outstanding are sent again first (R324). -/
def State.drainAll (s : State) (p : Nat) (replay : Bool := false) : State :=
  let s' := s.drain p ((s.link p).txQ.length)
  if replay && !s.quarantined p then s'.flitsSend p (s'.link p).replay
  else s'.flitsSend p ((s'.link p).replay.drop (s.link p).replay.length)

/-! ### Transom messages (R329, R330) -/

/-- DST of a Transom message. -/
def TransomMsg.dst (m : TransomMsg) : Nat := beAt m.bytes 0 2
/-- SRC. -/
def TransomMsg.src (m : TransomMsg) : Nat := beAt m.bytes 2 2
/-- TYPE. -/
def TransomMsg.type (m : TransomMsg) : Nat := beAt m.bytes 4 1
/-- TTL. -/
def TransomMsg.ttl (m : TransomMsg) : Nat := beAt m.bytes 5 2 % 1024
/-- The NOADDR bit. -/
def TransomMsg.noAddr (m : TransomMsg) : Bool := bit (beAt m.bytes 5 2) 11
/-- TSEQ. -/
def TransomMsg.tseq (m : TransomMsg) : Nat := beAt m.bytes 7 2
/-- ARG. -/
def TransomMsg.arg (m : TransomMsg) : List Byte := slice m.bytes 9 15

/-- A message from its fields (R329). -/
def mkTransom (dst src type ttl : Nat) (flood noAddr : Bool) (tseq : Nat) (arg : List Byte) : TransomMsg :=
  ⟨beBytes 2 dst ++ beBytes 2 src ++ beBytes 1 type ++ beBytes 2 (ttl % 1024 + 2 ^ 10 * b2n flood + 2 ^ 11 * b2n noAddr) ++
    beBytes 2 tseq ++ (arg ++ zeros 15).take 15⟩

/-- DISC_CTL.TTL as it acts since the last announcement (R339, R340). -/
def State.ttl0 (s : State) : Nat := if s.eff_ FAB.DISC_CTL.TTL = 0 then 600 else s.eff_ FAB.DISC_CTL.TTL

/-- A message of this module's own. -/
def State.ownTransom (s : State) (dst type : Nat) (flood : Bool) (tseq : Nat) (arg : List Byte) : TransomMsg :=
  mkTransom dst (if s.addressed then s.addr else 0) type s.ttl0 flood (!s.addressed) tseq arg

/-- STOP, RELEASE and NAK go ahead of every other message (R330). -/
def urgent (m : TransomMsg) : Bool := [0x05, 0x06, 0x09].contains m.type

/-- Queue a message at a port's output (R330). Transom runs on every Up Calnar port, quarantined or not (R318, R337). -/
def State.transomOut (s : State) (p : Nat) (m : TransomMsg) : State :=
  if s.calnarUp p then
    s.modFab (fun f =>
      let q := tget (fun _ => []) f.trOut p
      let q' := if urgent m then q.filter urgent ++ [m] ++ q.filter (fun x => !urgent x) else q ++ [m]
      { f with trOut := tset (fun _ => []) f.trOut p q' })
  else s

/-! ### Routing (R327, R328) -/

/-- The routing entry of a DST as it applies now (R328): a write counts from 4 wc later. -/
def State.route (s : State) (dst : Nat) : Nat :=
  s.fab.rtPend.foldl (fun v e => if e.2.1 = dst ∧ e.1 + 4 ≤ s.clk.now then e.2.2.toNat else v)
    (tget regReset s.eff (FAB.RT_DATA.PORT.key 0 dst)).toNat

/-- Where a message goes. -/
inductive Way where
  | taken
  | port (p : Nat) (table alt : Bool)
  | noRoute
  deriving DecidableEq, Repr

/-- The direction dimension order takes (R327 step 3): column first, the shorter way on a wrapped dimension. -/
def State.dimDir (s : State) (dst : Nat) : Nat :=
  let pick (torus : Bool) (n a b up down : Nat) : Nat :=
    if torus then (if (b + n - a) % n ≤ (a + n - b) % n then up else down) else if a < b then up else down
  let c := s.addr / 256
  let r := s.addr % 256
  if dst / 256 ≠ c then pick (s.eff_ FAB.GRID.TOR_X == 1) s.gridW c (dst / 256) 1 2
  else pick (s.eff_ FAB.GRID.TOR_Y == 1) s.gridH r (dst % 256) 3 4

/-- The route of a head (R327). `ok`: which ports may be used. -/
def State.way (s : State) (src dst : Nat) (ok : Nat → Bool) : Way :=
  if s.addressed ∧ dst = s.addr then .taken
  else
    let e := s.route dst
    if s.rdB FAB.RT_CTL.ENA ∧ bit e 6 then
      if e % 64 < 40 ∧ ok (e % 64) then .port (e % 64) true false
      else if bit e 14 ∧ bits e 13 8 < 40 ∧ ok (bits e 13 8) then .port (bits e 13 8) true true
      else .noRoute
    else
      let d := s.dimDir dst
      let ps := (List.range 40).filter (fun p => s.dir p == d && ok p)
      match ps[(src ^^^ dst) % max 1 ps.length]? with
      | some p => .port p false false
      | none => .noRoute

/-- Whether the link of an output port in direction `d` wraps (R325). -/
def State.wraps (s : State) (d : Nat) : Bool :=
  let c := s.addr / 256
  let r := s.addr % 256
  (s.eff_ FAB.GRID.TOR_X == 1 && ((d == 1 && c + 1 == s.gridW) || (d == 2 && c == 0))) ||
  (s.eff_ FAB.GRID.TOR_Y == 1 && ((d == 3 && r + 1 == s.gridH) || (d == 4 && r == 0)))

/-- The torus class at the output (R325). -/
def State.outClass (s : State) (din dout cls : Nat) : Nat :=
  if s.wraps dout then 1
  else if (din == 1 || din == 2) && (dout == 3 || dout == 4) then 0
  else cls

/-! ### NAKs and violations (R336, R337) -/

/-- The NAK codes that are violations (R336). -/
def isViolation (code : Nat) : Bool := [3, 4, 5, 6, 7, 0x0A].contains code

/-- Whether an item of `at_` was last done less than `wc` ago. -/
def State.recent (s : State) (key wc : Nat) : Bool :=
  let t := tget (fun _ => 0) s.fab.at_ key
  decide (0 < t) && decide (s.clk.now < t - 1 + wc)

/-- Note that an item of `at_` is done now. -/
def State.stampAt (s : State) (key : Nat) : State :=
  s.modFab (fun f => { f with at_ := tset (fun _ => 0) f.at_ key (s.clk.now + 1) })

/-- Log a code at most once per second for a port (R330, R336). -/
def State.logSecond (s : State) (p slot code arg1 : Nat) : State :=
  if s.recent (64 * p + slot) 1600000000 then s
  else (s.stampAt (64 * p + slot)).logc FAB.PAGE code (s.rd FAB.PORT_STS 0 p) arg1

/-- A violation by the link partner (R337): PORT_VIOL, and the count of the second, which VIOL_CFG as it stands judges when
a new second begins (R340). -/
def State.violate (s : State) (p code : Nat) : State :=
  let s := (s.bump FAB.PORT_VIOL.COUNT 1 0 p).wr FAB.PORT_VIOL.CODE code 0 p
  let v := tget (fun _ => (0, 0)) s.fab.viol p
  if v.1 = 0 ∨ v.2 + 1600000000 ≤ s.clk.now then
    (s.latch FAB.VIOL_CFG.THR).modFab (fun f => { f with viol := tset (fun _ => (0, 0)) f.viol p (1, s.clk.now) })
  else s.modFab (fun f => { f with viol := tset (fun _ => (0, 0)) f.viol p (v.1 + 1, v.2) })

/-- The ARG bytes of a NAK (R329). -/
def nakArg (code p dst type tag lseq : Nat) : List Byte :=
  beBytes 1 code ++ beBytes 1 p ++ beBytes 2 dst ++ beBytes 1 type ++ beBytes 2 tag ++ beBytes 2 lseq

/-- A NAK sent one hop back, to the neighbour on the port (R336). -/
def State.nakHop (s : State) (p : Nat) (arg : List Byte) : State :=
  s.transomOut p (s.ownTransom (tget (fun _ => Neigh.none) s.fab.nbr p).addr.toNat 0x09 false 0 arg)

/-- A NAK on its way (R336): to the offender's SRC when it is known and can be reached, else one hop. -/
def State.nakOut (s : State) (p : Nat) (src : Option Nat) (arg : List Byte) : State :=
  match src with
  | some a => match s.way s.addr a s.calnarUp with
    | .port q _ _ => s.transomOut q (s.ownTransom a 0x09 false 0 arg)
    | _ => s.nakHop p arg
  | none => s.nakHop p arg

/-- Send a NAK for something that arrived on port `p` (R336), with its record: at most one per port and code per millisecond. -/
def State.nak (s : State) (p code : Nat) (src : Option Nat) (dst type tag lseq : Nat) : State :=
  let s := if isViolation code then s.violate p code else s
  let s := if code = 0x01 then (s.event FAB.PAGE 7).logSecond p 33 0xAB dst
    else if code = 0x02 then s.logc FAB.PAGE 0xAC (s.rd FAB.PORT_STS 0 p) dst
    else if code = 0x0B then s.logc FAB.PAGE 0xAE (s.rd FAB.PORT_STS 0 p) (src.getD 0)
    else s.logSecond p 32 0xA8 code
  if s.recent (64 * p + code) 1600000 then s
  else
    let s := s.stampAt (64 * p + code)
    let s := ((s.wr FAB.NAK_LAST.CODE code).wr FAB.NAK_LAST.PORT p).wr FAB.NAK_LAST.SRC (src.getD 0)
    s.nakOut p src (nakArg code p dst type tag lseq)

/-- Quarantine a port's data channels (R337). -/
def State.quarantine (s : State) (p : Nat) (k : QuarKind) (past : List Nat) : State :=
  let s := s.modFab (fun f => { f with quar := tset (fun _ => QuarSt.none) f.quar p ⟨k, past⟩ })
  let s := s.showPort p
  (s.event FAB.PAGE 4).logc FAB.PAGE 0xA9 (s.rd FAB.PORT_STS 0 p) p

/-- Quarantine as STOP does (R337): until RELEASE. -/
def State.quarHold (s : State) (p : Nat) : State :=
  let q := tget (fun _ => QuarSt.none) s.fab.quar p
  if q.kind = .held then s else s.quarantine p .held q.past

/-- Lift a quarantine (R337). -/
def State.release (s : State) (p : Nat) : State :=
  let q := tget (fun _ => QuarSt.none) s.fab.quar p
  if q.kind = .open_ then s
  else
    let s := s.modFab (fun f => { f with quar := tset (fun _ => QuarSt.none) f.quar p ⟨.open_, q.past⟩ })
    let s := s.showPort p
    (s.logc FAB.PAGE 0xAA (s.rd FAB.PORT_STS 0 p) p).drainAll p

/-- VIOL_CFG.THR in force (R339). -/
def State.violThr (s : State) : Nat := if s.eff_ FAB.VIOL_CFG.THR = 0 then 16 else s.eff_ FAB.VIOL_CFG.THR

/-- VIOL_CFG.QUAR_S in force, in weave cycles (R339). -/
def State.quarWc (s : State) : Nat := 1600000000 * (if s.eff_ FAB.VIOL_CFG.QUAR_S = 0 then 10 else s.eff_ FAB.VIOL_CFG.QUAR_S)

/-- VIOLATION_QUARANTINE (R337): more than THR violations in one second; the third quarantine within an hour holds. -/
def execViolationQuarantine (port : Fin 40) (s : State) : Out :=
  let q := tget (fun _ => QuarSt.none) s.fab.quar port
  if s.violThr < (tget (fun _ => (0, 0)) s.fab.viol port).1 ∧ q.kind = .open_ then
    let past := q.past.filter (fun t => decide (s.clk.now < t + 5760000000000)) ++ [s.clk.now]
    let s := s.modFab (fun f => { f with viol := tset (fun _ => (0, 0)) f.viol port (0, 0) })
    .next (s.quarantine port (if 3 ≤ past.length then .held else .timed) past)
  else .next s

/-- QUARANTINE_EXPIRE (R337): QUAR_S seconds have passed. -/
def execQuarantineExpire (port : Fin 40) (s : State) : Out :=
  let q := tget (fun _ => QuarSt.none) s.fab.quar port
  if q.kind = .timed ∧ q.past.getLastD 0 + s.quarWc ≤ s.clk.now then .next (s.release port) else .next s

/-! ### Flits (R320, R321, R324-R327) -/

/-- Number of flits of a message (R320). -/
def flitsOf (len : Nat) : Nat := 1 + (len - 44 + 59) / 60

/-- The legal TYPE values of a VC (R321). -/
def typeLegal (vc type : Nat) : Bool :=
  (vc == 1 && type == 0x10) || (vc == 2 && type == 0x01) || (vc == 3 && [0x20, 0x21, 0x22].contains type)

/-- Set the message under reception at an index. -/
def State.setCur (s : State) (p idx : Nat) (c : Option CurMsg) : State :=
  s.modLink p (fun l => { l with cur := l.cur.set idx c })

/-- What of a dropped message is still to come is dropped too (R336). -/
def CurMsg.dropping : CurMsg := ⟨0, none, true, 0, [], []⟩

/-- Put a flit at an output (R325), or drop it when the port has gone down. -/
def State.toOutput (s : State) (q : Nat) (f : QFlit) : State :=
  if s.calnarUp q then
    (s.modLink q (fun l => { l with txQ := l.txQ ++ [f] })).drainAll q
  else s.oweCredit f.src.1 f.src.2

/-- A message delivered to this module (R327 step 1). -/
def State.deliver (s : State) (vc p : Nat) (head body : List Byte) : State :=
  s.modFab (fun f => { f with inbox := f.inbox ++ [⟨vc, p, head, body⟩] })

/-- Drop a message at its head, with a NAK (R336). -/
def State.dropHead (s : State) (p idx code : Nat) (hdr : List Byte) (lseq : Nat) (tail : Bool) : State :=
  let s := (s.oweCredit p idx).bump FAB.STAT_DROP
  let s := s.setCur p idx (if tail then none else some CurMsg.dropping)
  s.nak p code (some (beAt hdr 2 2)) (beAt hdr 0 2) (beAt hdr 4 1) (beAt hdr 10 2) lseq

/-- The first check a head fails (R321, R336); none when it passes. A Quarantined module carries no data (R435). A Time-VC message may
give DST 0xFFFF (R344). -/
def State.headCheck (s : State) (p vc : Nat) (hdr : List Byte) (tail : Bool) : Option Nat :=
  let len := beAt hdr 8 2
  let type := beAt hdr 4 1
  if s.quarantined p || s.mode.sec == .quarantined then some 0x08
  else if beAt hdr 5 1 / 4 ≠ 0 ∨ beAt hdr 6 2 / 1024 ≠ 0 ∨ len / 16384 ≠ 0 ∨ beAt hdr 12 4 ≠ 0 then some 0x05
  else if typeLegal vc type = false ∨ s.dir p = 0 ∨ (s.dir p = 6) ≠ (type = 0x22) then some 0x03
  else if len = 0 ∨ 8320 < len ∨ (tail ≠ (flitsOf len == 1)) then some 0x04
  else if s.dir p ≠ 6 ∧ (s.addressed = false ∨
      (vc ≠ 1 ∧ (s.inGrid (beAt hdr 0 2) = false ∨ s.inGrid (beAt hdr 2 2) = false))) then some 0x09
  else none

/-- A head forwarded (R321, R325, R327): FLAGS, TTL and torus class as the switch sets them. -/
def forwardHead (flit : List Byte) (table alt : Bool) (cls : Nat) : List Byte :=
  let b2 := setBits (beAt flit 2 1) 2 2 cls
  let flags := beAt flit 9 1 ||| b2n table ||| 2 * b2n alt
  slice flit 0 2 ++ beBytes 1 b2 ++ slice flit 3 6 ++ beBytes 1 flags ++ beBytes 2 (beAt flit 10 2 - 1) ++ flit.drop 12

/-- A head flit (R327). A Time-VC message is never routed: the time unit consumes it at the receiving port (R344). -/
def State.headIn (s : State) (p vc cls : Nat) (flit : List Byte) : State :=
  let idx := 2 * (vc - 1) + cls
  let hdr := slice flit 4 16
  let tail := flitTail flit
  let lseq := beAt flit 0 2
  match s.headCheck p vc hdr tail with
  | some code => s.dropHead p idx code hdr lseq tail
  | none =>
    let n := flitsOf (beAt hdr 8 2)
    let take :=
      let s := s.oweCredit p idx
      if tail then s.deliver vc p hdr ((slice flit 20 44).take (beAt hdr 8 2))
      else s.setCur p idx (some ⟨n - 1, none, false, cls, hdr, slice flit 20 44⟩)
    if s.dir p = 6 ∨ vc = 1 then take
    else match s.way (beAt hdr 2 2) (beAt hdr 0 2) s.carries with
    | .taken => take
    | .noRoute => s.dropHead p idx 0x01 hdr lseq tail
    | .port q table alt =>
      if beAt hdr 6 2 % 1024 = 0 then s.dropHead p idx 0x02 hdr lseq tail
      else
        let c := s.outClass (s.dir p) (s.dir q) cls
        let s := s.setCur p idx (if tail then none else some ⟨n - 1, some q, false, c, hdr, []⟩)
        (s.bump FAB.STAT_FWD).toOutput q ⟨2 * (vc - 1) + c, (p, idx), forwardHead flit table alt c⟩

/-- A body flit of the message at index `idx` (R320). A tail out of place drops what is left of the message. -/
def State.bodyIn (s : State) (p vc idx : Nat) (c : CurMsg) (flit : List Byte) : State :=
  let tail := flitTail flit
  if c.drop then
    let s := s.oweCredit p idx
    if tail then s.setCur p idx none else s
  else if tail ≠ (c.left == 1) then
    let s := match c.out with
      | none => s
      | some q =>
        let s := s.each ((s.link q).txQ.filter (fun (f : QFlit) => f.src == (p, idx))) (fun s _ => s.oweCredit p idx)
        s.modLink q (fun l => { l with
          txQ := l.txQ.filter (fun f => f.src != (p, idx)),
          locked := l.locked.map (fun x => if x = some (p, idx) then none else x) })
    s.dropHead p idx 0x04 c.head (beAt flit 0 2) tail
  else
    let s := s.setCur p idx (if tail then none else some { c with left := c.left - 1, body := c.body ++ slice flit 4 60 })
    match c.out with
    | none =>
      let s := s.oweCredit p idx
      if tail then s.deliver vc p c.head ((c.body ++ slice flit 4 60).take (beAt c.head 8 2)) else s
    | some q =>
      let b2 := setBits (beAt flit 2 1) 2 2 c.cls
      s.toOutput q ⟨2 * (vc - 1) + c.cls, (p, idx), slice flit 0 2 ++ beBytes 1 b2 ++ flit.drop 3⟩

/-- An accepted flit: link header, credit, and the order of HEAD and TAIL (R320, R325, R336). -/
def State.flitIn (s : State) (p : Nat) (flit : List Byte) : State :=
  let b2 := beAt flit 2 1
  let vc := b2 % 4
  let cls := bits b2 2 2
  let idx := 2 * (vc - 1) + cls
  let lseq := beAt flit 0 2
  let hdr := if flitHead flit then slice flit 4 16 else []
  if vc = 0 ∨ b2 / 32 ≠ 0 ∨ beAt flit 3 1 ≠ 0 then
    (s.bump FAB.STAT_DROP).nak p 0x05 none 0 0 0 lseq
  else if (s.link p).granted.getD idx 0 = 0 then
    (s.bump FAB.STAT_DROP).nak p 0x06 none (beAt hdr 0 2) (beAt hdr 4 1) (beAt hdr 10 2) lseq
  else
    let s := s.modLink p (fun l => { l with granted := l.granted.set idx (l.granted.getD idx 0 - 1) })
    match (s.link p).cur.getD idx none, flitHead flit with
    | none, true => s.headIn p vc cls flit
    | some c, false =>
      if s.quarantined p then
        let s := s.oweCredit p idx
        s.setCur p idx (if flitTail flit then none else some CurMsg.dropping)
      else s.bodyIn p vc idx c flit
    | none, false => ((s.oweCredit p idx).bump FAB.STAT_DROP).nak p 0x05 none 0 0 0 lseq
    | some _, true => s.dropHead p idx 0x05 hdr lseq (flitTail flit)

/-- An LCTL with NAK asks for replay from the flit expected next (R322, R324). -/
def State.lctlNak (s : State) (p : Nat) : State :=
  let n := (s.link p).rxNext.toNat
  (s.modLink p (fun l => { l with lctl := some (n, true, 0, 0), sinceAck := 0 })).slotSend p [lctlBlk n true false 0 0]

/-- FLIT_RECEIVE (R324): the flit expected is accepted, one of the 1,024 before it is a duplicate, any other is answered with
NAK LSEQ; when flits are missing an LCTL NAK asks for them. -/
def execFlitReceive (port : Fin 40) (flit : List Byte) (s : State) : Out :=
  if s.calnarUp port = false ∨ flit.length ≠ 64 then .next s
  else
    let l := s.link port
    let lseq := BitVec.ofNat 16 (beAt flit 0 2)
    if lseq = l.rxNext then
      let s := s.modLink port (fun l => { l with rxNext := l.rxNext + 1, sinceAck := l.sinceAck + 1 })
      .next (s.flitIn port flit)
    else if (l.rxNext - lseq).toNat ≤ 1024 then .next s
    else
      .next ((s.nak port 0x07 none 0 0 0 lseq.toNat).lctlNak port)

/-- FEC_FRAME_RECEIVE (R323): up to 6 symbol errors of a lane's frame are corrected; more make it uncorrectable and an LCTL
NAK follows. Below rate code 3 there is no FEC. -/
def execFecFrameReceive (port : Fin 40) (errs : Fin 213) (s : State) : Out :=
  if s.calnarUp port && decide (3 ≤ s.rd LAN.PORT_STS.RATE 0 (portKey port)) && decide (6 < errs.val) then
    .next (s.lctlNak port)
  else .next s

/-- LCTL_RECEIVE (R322, R324): a K block of the link layer with its kind. Of an LCTL, ACK frees the replay buffer, credits return,
NAK replays from ACK. A block of an illegal kind is dropped and answered with NAK KIND (R336). -/
def execLctlReceive (port : Fin 40) (kind : BitVec 8) (ack : BitVec 16) (nak : Bool) (idx : BitVec 3) (valid : Bool)
    (credits : BitVec 16) (s : State) : Out :=
  if s.calnarUp port ∧ 4 ≤ kind.toNat ∧ kind.toNat ≤ 0xEF ∧ ¬(0x10 ≤ kind.toNat ∧ kind.toNat ≤ 0x13) then
    .next (s.nak port 0x0A none 0 0 0 0)
  else if s.calnarUp port ∧ kind = 0x10 then
    let l := s.link port
    let done := (ack - (l.txNext - BitVec.ofNat 16 l.replay.length)).toNat
    let progress := decide (0 < done) && decide (done ≤ l.replay.length)
    let s := s.modLink port (fun l => { l with
      replay := if progress then l.replay.drop done else l.replay,
      naks := (if progress then 0 else l.naks) + b2n nak,
      progressAt := if progress then s.clk.now else l.progressAt,
      credits := if valid ∧ idx.toNat < 6 then l.credits.set idx.toNat (l.credits.getD idx.toNat 0 + credits.toNat) else l.credits })
    let s := if nak then s.bump FAB.PORT_REPLAY 1 0 port else s
    .next (s.drainAll port nak)
  else .next s

/-- LCTL_ACK_SEND (R324, R322, R330): a control slot with ACK and the credits owed on one index, which carries the Transom
messages that wait and, until the partner answers it, WIDTH (R335). -/
def execLctlAckSend (port : Fin 40) (s : State) : Out :=
  if s.calnarUp port then
    let l := s.link port
    let i := ((List.range 6).find? (fun i => decide (0 < l.owed.getD i 0))).getD 0
    let n := l.owed.getD i 0
    let s := s.modLink port (fun l => { l with
      lctl := some (l.rxNext.toNat, false, i, n), sinceAck := 0, owed := l.owed.set i 0,
      granted := l.granted.set i (l.granted.getD i 0 + n) })
    let tr := tget (fun _ => []) s.fab.trOut port
    let s := s.modFab (fun f => { f with trSent := tset (fun _ => []) f.trSent port tr, trOut := tset (fun _ => []) f.trOut port [] })
    let (width, s) := if (tget (fun _ => WidthSt.none) s.fab.wide port).sending then
        (let r := s.widthBlk port false; ([r.1], r.2))
      else ([], s)
    .next (s.slotSend port (lctlBlk l.rxNext.toNat false (decide (0 < n)) i n :: width ++ tr.flatMap (fun m => transomBlks m.bytes)))
  else .next s

/-- REPLAY_TIMEOUT (R324): eight NAKs for one LSEQ, or flits outstanding without ACK progress for 100 us. -/
def execReplayTimeout (port : Fin 40) (s : State) : Out :=
  let l := s.link port
  if s.calnarUp port && !l.replay.isEmpty && (decide (8 ≤ l.naks) || decide (l.progressAt + 160000 ≤ s.clk.now)) then
    let s := s.portDrop port
    .next ((s.event FAB.PAGE 5).logc FAB.PAGE 0xA7 (s.rd FAB.PORT_STS 0 port) port)
  else .next s

/-! ### Width (R334, R335) -/

/-- The width negotiation of a port. -/
def State.wide (s : State) (p : Nat) : WidthSt := tget (fun _ => WidthSt.none) s.fab.wide p

/-- Change the width negotiation of a port. -/
def State.setWide (s : State) (p : Nat) (w : WidthSt) : State :=
  s.modFab (fun f => { f with wide := tset (fun _ => WidthSt.none) f.wide p w })

/-- WIDTH_RECEIVE (R335): the partner's RX_MASK, its SWITCH and ACK. This end answers with its own WIDTH and ACK. With no
common lane the port goes down. -/
def execWidthReceive (port : Fin 40) (mask : BitVec 8) (switch : BitVec 16) (ack : Bool) (s : State) : Out :=
  if s.calnarUp port then
    let common := s.rxMask port &&& mask.toNat
    if common = 0 then .next (s.portDrop port)
    else
      let w := min (s.rd FAB.PORT_STS.WIDTH 0 port) (widthOf port common)
      let s := s.setWide port {
        sending := !ack, partner := mask, switchAt := switch
        agreed := if ack then some (w, BitVec.ofNat 8 (lanesAt common w)) else (s.wide port).agreed }
      .next (s.widthSend port true)
  else .next s

/-- WIDTH_SWITCH (R335): the agreed width comes into force; a narrowing logs 0xA5; the receiver NAKs from the first flit it
lost. -/
def execWidthSwitch (port : Fin 40) (s : State) : Out :=
  match (s.wide port).agreed with
  | none => .next s
  | some (w, lanes) =>
    if s.calnarUp port then
      let old := s.rd FAB.PORT_STS.WIDTH 0 port
      let s := (s.setWide port { s.wide port with agreed := none }).setWidth port w lanes.toNat
      let s := (s.showPort port).lctlNak port
      if w < old then .next ((s.event FAB.PAGE 3).logc FAB.PAGE 0xA5 (s.rd FAB.PORT_STS 0 port) port) else .next s
    else .next s

/-- WIDTH_TIMEOUT (R335): no agreement within 20 us of the first WIDTH. -/
def execWidthTimeout (port : Fin 40) (s : State) : Out :=
  if s.calnarUp port && (s.wide port).sending then
    let s := s.portDrop port
    .next (s.logc FAB.PAGE 0xA6 (s.rd FAB.PORT_STS 0 port) port)
  else .next s

/-! ### Root election and addresses (R315-R319) -/

/-- The ports a PROBE floods to (R316). -/
def State.floodPorts (s : State) : List Nat := (List.range 40).filter (fun p => s.calnarUp p && [1, 2, 3, 4, 6].contains (s.dir p))

/-- The ARG bytes of a PROBE (R329). -/
def Probe.arg (b : Probe) : List Byte :=
  beBytes 8 b.id ++ beBytes 2 b.nonce ++ beBytes 1 b.col ++ beBytes 1 b.row ++ beBytes 2 b.hops ++ beBytes 1 b.epoch

/-- A PROBE goes out on every flood port but the one it came from (R316). -/
def State.flood (s : State) (m : TransomMsg) (except_ : Option Nat) : State :=
  s.each (s.floodPorts.filter (fun p => some p != except_)) (fun s p => s.transomOut p m)

/-- ROOT_ID, ROOT and HOPS follow the PROBE held (R339); event ROOT_CHG when the root changes. -/
def State.holdProbe (s : State) (b : Option Probe) (inGrid derived : Bool) : State :=
  let old := s.fab.root.best.map (fun x => x.id)
  let s := s.modFab (fun f => { f with root := { f.root with best := b, inGrid := inGrid, derived := derived } })
  let id := (b.map (fun x => x.id)).getD 0
  let s := (s.wr FAB.ROOT_ID_LO (id % 2 ^ 32)).wr FAB.ROOT_ID_HI (id / 2 ^ 32)
  let s := s.wrB FAB.ADDR_STS.ROOT (b.any (fun x => x.id == s.moduleId && x.hops == 0))
  let s := s.wr FAB.ADDR_STS.HOPS (min 1023 ((b.map (fun x => x.hops)).getD 0))
  if old = b.map (fun x => x.id) then s else s.event FAB.PAGE 2

/-- The address source in force (R315, R339): 3 acts as 2. -/
def State.addrSrc (s : State) : Nat := min 2 (s.eff_ FAB.ADDR_CFG.SRC)

/-- What a newly derived coordinate does (R317): outside the grid the module stays unaddressed with code 0xA2; a fixed
address is kept, and a differing derivation waits for the next start with code 0xA3. -/
def State.derive (s : State) (a : Option Nat) : State :=
  if s.addrSrc ≠ 1 then s
  else if s.fab.addrFixed then
    match a with
    | some x =>
      if x = s.addr ∨ s.fab.addrNext = some (BitVec.ofNat 16 x) then s
      else (s.modFab (fun f => { f with addrNext := some (BitVec.ofNat 16 x) })).logc FAB.PAGE 0xA3 (s.rd FAB.ADDR_STS) x
    | none => s
  else match a with
    | some _ => s.wr FAB.ADDR_STS.STATE 1
    | none =>
      let was := s.rd FAB.ADDR_STS.STATE
      let s := s.wr FAB.ADDR_STS.STATE 3
      if was = 3 then s else s.logc FAB.PAGE 0xA2 (s.rd FAB.ADDR_STS) 0

/-- This module names itself root (R316), with the coordinate of ROOT_CFG (R317). -/
def State.beRoot (s : State) (epoch : Nat) : State :=
  let s := s.latch FAB.DISC_CTL.TTL
  let col := s.eff_ FAB.ROOT_CFG.COL
  let row := s.eff_ FAB.ROOT_CFG.ROW
  let b : Probe := ⟨s.moduleId, s.fab.root.nonce.toNat, col, row, 0, epoch % 256⟩
  let a := 256 * col + row
  let ok := s.inGrid a
  let s := (s.holdProbe (some b) ok true).derive (if ok then some a else none)
  s.flood (s.ownTransom 0 0x01 true 0 b.arg) none

/-- PROBE_ANNOUNCE (R316): an eligible module that has heard no lower ID names itself root; the root advances its epoch. -/
def execProbeAnnounce (s : State) : Out :=
  if s.fab.root.elig then
    match s.fab.root.best with
    | none => .next (s.beRoot 0)
    | some b =>
      if b.id = s.moduleId then .next (s.beRoot (b.epoch + 1))
      else if s.moduleId < b.id then .next (s.beRoot 0)
      else .next s
  else .next s

/-- ROOT_LOST (R316): no new epoch for 3 x ANN_INT. -/
def execRootLost (s : State) : Out :=
  match s.fab.root.best with
  | none => .next s
  | some b =>
    if b.id = s.moduleId ∧ b.hops = 0 then .next s
    else
      let s := s.holdProbe none false false
      let s := if s.addrSrc = 1 ∧ s.fab.addrFixed = false then s.wr FAB.ADDR_STS.STATE 4 else s
      if s.fab.root.elig then .next (s.beRoot 0) else .next s

/-- A PROBE as its ARG spells it. -/
def probeOf (arg : List Byte) : Probe :=
  ⟨beAt arg 0 8, beAt arg 8 2, beAt arg 10 1, beAt arg 11 1, beAt arg 12 2, beAt arg 14 1⟩

/-- A PROBE improves what the module holds (R316). -/
def improves (held : Option Probe) (b : Probe) : Bool :=
  match held with
  | none => true
  | some h => decide (b.id < h.id) || (b.id == h.id && (decide (0 < sgn 8 (b.epoch + 256 - h.epoch)) ||
      (b.epoch == h.epoch && decide (b.hops + 1 < h.hops))))

/-- A PROBE arrives on port `p` (R316, R317). One that names this module's own ID with another nonce shows a duplicate; a module that
withdrew for it takes no PROBE of that ID. One that improves what the module holds is forwarded with its own coordinate and hops and
TTL - 1, unless its TTL is exhausted. -/
def State.probeIn (s : State) (p : Nat) (m : TransomMsg) : State :=
  let b := probeOf m.arg
  let own := s.moduleId
  let withdrew := s.eff_ FAB.ROOT_CFG.ELIG == 1 && !s.fab.root.elig
  if !([1, 2, 3, 4, 6].contains (s.dir p)) then s
  else if b.id = own ∧ b.nonce ≠ s.fab.root.nonce.toNat ∧ s.fab.root.elig then
    let s := s.modFab (fun f => { f with root := { f.root with elig := false } })
    let s := if s.fab.root.best.any (fun x => x.id == own) then s.holdProbe none false false else s
    s.logc FAB.PAGE 0xA4 (s.rd FAB.ADDR_STS) p
  else if b.id = own ∧ (b.nonce = s.fab.root.nonce.toNat ∨ withdrew) then s
  else if improves s.fab.root.best b then
    let cell := s.stepDir (oppDir (s.dir p)) b.col b.row
    let derived := s.dir p != 6
    let at_ := cell.getD (b.col, b.row)
    let mine : Probe := { b with col := at_.1, row := at_.2, hops := b.hops + 1 }
    let s := (s.latch FAB.DISC_CTL.TTL).holdProbe (some mine) cell.isSome derived
    let s := if derived then s.derive (cell.map (fun c => 256 * c.1 + c.2)) else s
    if m.ttl = 0 then s
    else
      let w := beAt m.bytes 5 2
      s.flood ⟨m.bytes.take 5 ++ beBytes 2 (w - 1) ++ slice m.bytes 7 2 ++ mine.arg⟩ (some p)
  else s

/-- The module has an address now (R317, R319): event ADDR_SET, code 0xA0, and a start that waited goes on from stage 9. -/
def State.setAddress (s : State) (a : Nat) : State :=
  let s := (s.wr FAB.ADDR_STS.ADDR a).wr FAB.ADDR_STS.STATE 2
  let s := s.modFab (fun f => { f with addrFixed := true })
  let s := (s.event FAB.PAGE 0).logc FAB.PAGE 0xA0 (s.rd FAB.ADDR_STS) a
  if s.fab.waitAddr then
    (s.modFab (fun f => { f with waitAddr := false })).wr SYS.START_STS.STAGE 9
  else s

/-- ADDRESS_FIX (R317): HOLD has passed with no improvement. -/
def execAddressFix (s : State) : Out :=
  match s.fab.root.best with
  | none => .next s
  | some b =>
    if s.addrSrc = 1 ∧ s.fab.addrFixed = false ∧ s.fab.root.derived ∧ s.fab.root.inGrid then
      .next (s.setAddress (256 * b.col + b.row))
    else .next s

/-- What the fabric does as a start begins (R315, R316, R340): settings come into force, a nonce is drawn, a static address
inside the grid is taken. -/
def State.fabricStart (s : State) : State :=
  let s := s.each [FAB.ADDR_CFG.SRC, FAB.ROOT_CFG.ELIG, FAB.GRID.W_M1] (fun s f => s.latch f)
  let s := s.each (List.range 4) (fun s k =>
    let key := regKey 0 FAB.PAGE (FAB.PDIR.off + 4 * k)
    s.effSet key (s.reg key))
  let elig := s.eff_ FAB.ROOT_CFG.ELIG == 1
  let (nonce, s) := if elig then s.takeFree 16 else (0, s)
  let s := s.modFab (fun f => { f with
    root := ⟨elig, nonce, none, false, false⟩, addrFixed := false, addrNext := none, waitAddr := false })
  let s := ((s.wr FAB.ADDR_STS 0).wr FAB.ROOT_ID_LO 0).wr FAB.ROOT_ID_HI 0
  let a := s.eff_ FAB.ADDR_CFG.STATIC
  if s.addrSrc = 0 then
    if s.inGrid a then
      ((s.wr FAB.ADDR_STS.ADDR a).wr FAB.ADDR_STS.STATE 2).modFab (fun f => { f with addrFixed := true })
    else s.wr FAB.ADDR_STS.STATE 5
  else if s.addrSrc = 1 then s.wr FAB.ADDR_STS.STATE 1
  else s

/-! ### Neighbours (R318) -/

/-- NEIGH_SEND (R318): every 10 ms on an Up port of DIR 1 to 4. -/
def execNeighSend (port : Fin 40) (s : State) : Out :=
  if s.calnarUp port && decide (1 ≤ s.dir port) && decide (s.dir port ≤ 4) then
    .next (s.transomOut port (s.ownTransom 0 0x02 false 0
      (beBytes 8 s.moduleId ++ beBytes 2 (if s.addressed then s.addr else 0) ++ beBytes 1 (s.dir port))))
  else .next s

/-- A NEIGH arrives (R318): the check of address and direction. A sender without an address passes no check. A failure is reported when
it begins or changes, not with each of the NEIGH that repeat it (log entry 218). -/
def State.neighIn (s : State) (p : Nat) (m : TransomMsg) : State :=
  let d := s.dir p
  if d = 0 ∨ 4 < d then s
  else
    let a := beAt m.arg 8 2
    let pd := beAt m.arg 10 1
    let want := (s.stepDir d (s.addr / 256) (s.addr % 256)).map (fun c => 256 * c.1 + c.2)
    let known := s.addressed && !m.noAddr
    let ok := known && want == some a && pd == oppDir d
    let new : Neigh := ⟨true, BitVec.ofNat 16 a, pd, ok, known && !ok⟩
    let same := decide (tget (fun _ => Neigh.none) s.fab.nbr p = new)
    let s := s.modFab (fun f => { f with nbr := tset (fun _ => Neigh.none) f.nbr p new })
    let s := s.showPort p
    if known && !ok && !same then (s.event FAB.PAGE 6).logc FAB.PAGE 0xA1 (s.rd FAB.PORT_STS 0 p) a else s

/-! ### Bulk copy, table and port writes (R321, R328, R337, R339, R340) -/

/-- BULK_COPY_MESSAGE (R321): the oldest delivered bulk copy is taken. The spec gives its body no meaning. -/
def execBulkCopyMessage (s : State) : Out :=
  .next (s.modFab (fun f => { f with inbox := f.inbox.eraseP (fun m => m.vc == 3 && beAt m.head 4 1 == 0x21) }))

/-- Entries written 4 wc ago or earlier come into force for good (R328). -/
def State.settleRoutes (s : State) : State :=
  let (done, wait) := s.fab.rtPend.partition (fun e => decide (e.1 + 4 ≤ s.clk.now))
  let s := s.each done (fun s e => s.effSet (FAB.RT_DATA.PORT.key 0 e.2.1) e.2.2)
  s.modFab (fun f => { f with rtPend := wait })

/-- RT_SEL.DST advances after an RT_DATA access when AUTO is set (R339). -/
def State.rtAdvance (path : Path) (s : State) : State :=
  if s.rdB FAB.RT_SEL.AUTO 0 path.num then s.wr FAB.RT_SEL.DST (s.rd FAB.RT_SEL.DST 0 path.num + 1) 0 path.num else s

/-- RT_DATA (R328): the selected entry, for head flits routed 4 wc later. -/
def wrRtData (path : Path) (v : Nat) (s : State) : WrRes :=
  let d := s.rd FAB.RT_SEL.DST 0 path.num
  let s := s.settleRoutes.plainWrite FAB.PAGE 0x134 d v
  let s := s.modFab (fun f => { f with rtPend := f.rtPend ++ [(s.clk.now, d, s.reg (FAB.RT_DATA.PORT.key 0 d))] })
  okW (State.rtAdvance path s)

/-- PORT_CTL (R337, R339, R340): RELEASE, QUAR and REWIDEN on an Up port; ignored and logged on another. -/
def wrFabPortCtl (path : Path) (v : Nat) (s : State) : WrRes :=
  let p := s.rd FAB.PORT_SEL.PORT 0 path.num
  if decide (p < 40) && s.calnarUp p then
    let s := if bit v 0 then s.release p else s
    let s := if bit v 1 then s.quarHold p else s
    okW (if bit v 2 then s.portDrop p else s)
  else ign28 path FAB.PAGE 0x140 v s

end Sys2Proof.Machine
end

