-- ==== Sys2Proof/Machine/Time.lean ====
section
/-! DEFINITION. The time unit and Lintel's slots and compare channels (chapter 15). -/

namespace Sys2Proof.Machine

/-! ### The count (R341, R342, R347) -/

/-- Raw ns (R341). -/
def State.rawNs (s : State) : Nat := (s.taiNs % 2 ^ 32).toNat

/-- STATE of the time unit (R347): 0 Free, 1 Acquire, 2 Locked, 3 Holdover. -/
def State.timState (s : State) : Nat := s.rd TIM.STS.STATE

/-! ### Compare channels (R360) -/

/-- The page of the compare channel registers. -/
def lntCmp (s : State) (ch : Nat) : Bool := s.rdB LNT.CMP_CTL.ARM 0 ch

/-- A channel's value has been reached (R360). -/
def State.cmpDue (s : State) (ch : Nat) : Bool := decide (0 ≤ sdiff32 s.rawNs (s.rd LNT.CMP_VAL 0 ch))

/-- A channel fires (R360). -/
def State.cmpFire (s : State) (ch : Nat) (late : Bool) : State :=
  let act := s.rd LNT.CMP_CTL.ACT 0 ch
  let s := (s.wrB LNT.CMP_CTL.ARM false 0 ch).wrB LNT.CMP_STS.FIRED true 0 ch
  let s := s.wrB LNT.CMP_STS.LATE late 0 ch
  let s := (s.wr LNT.CMP_BEAM_LO s.stamp 0 ch).wr LNT.CMP_BEAM_HI (s.stamp / 2 ^ 32) 0 ch
  let s := s.event LNT.PAGE 1
  let s := if late then s.logc LNT.PAGE 0xB9 (s.rd LNT.CMP_STS 0 ch) ch else s
  if act = 1 then s.exitRequest else if act = 2 then s.wantDemote 2 else s

/-- Every armed channel whose value a step of the count passed fires (R360). -/
def State.cmpPassed (s : State) : State :=
  s.each (List.range 16) (fun s ch => if lntCmp s ch && s.cmpDue ch then s.cmpFire ch false else s)

/-- A direct setting of the count clears every armed channel without firing (R360). -/
def State.cmpDisarm (s : State) : State :=
  s.each (List.range 16) (fun s ch =>
    if lntCmp s ch then (s.wrB LNT.CMP_CTL.ARM false 0 ch).wrB LNT.CMP_STS.DISARMED true 0 ch else s)

/-- COMPARE_FIRE (R360). -/
def execCompareFire (ch : Fin 16) (s : State) : Out :=
  if lntCmp s ch && s.cmpDue ch then .next (s.cmpFire ch false) else .next s

/-- A write of CMP_CTL (R360): an armed channel whose value lies behind fires at once. -/
def wrCmpCtl (path : Path) (v : Nat) (s : State) : WrRes :=
  let ch := s.rd LNT.CMP_SEL.CH 0 path.num
  let s := s.wr LNT.CMP_CTL (v % 8) 0 ch
  if bit v 0 then
    let s := s.wr LNT.CMP_STS 0 0 ch
    okW (if s.cmpDue ch then s.cmpFire ch true else s)
  else okW s

/-- A write of CMP_VAL (R366): ignored while the channel is armed, code 0xBF. -/
def wrCmpVal (path : Path) (v : Nat) (s : State) : WrRes :=
  let ch := s.rd LNT.CMP_SEL.CH 0 path.num
  if lntCmp s ch then ignCode LNT.PAGE 0xBF (s.rd LNT.CMP_STS 0 ch) v s else okW (s.wr LNT.CMP_VAL v 0 ch)

/-! ### Slots (R359, R366) -/

/-- What a slot holds as it acts in this weave cycle (R366): a write acts from the next one. -/
def State.slotNow (s : State) (n : Nat) : SlotOld :=
  match s.tim.slotOld.find? (fun o => o.slot == n && o.at_ == s.clk.now) with
  | some o => o
  | none => ⟨n, s.clk.now, s.rd LNT.SLOT_CFG 0 n, s.rd LNT.SLOT_WC 0 n, s.rd LNT.SLOT_FRAME 0 n⟩

/-- A slot is about to be written. -/
def State.noteSlot (s : State) (n : Nat) : State :=
  let o := s.slotNow n
  s.modTim (fun t => { t with slotOld := o :: t.slotOld.filter (fun x => x.at_ == s.clk.now && x.slot != n) })

/-- A write of a slot register (R359, R366): a SLOT_CFG with a LINE at or beyond VTOTAL is ignored, code 0xBE. -/
def wrSlot (path : Path) (off v : Nat) (s : State) : WrRes :=
  let n := s.rd LNT.SLOT_SEL.SLOT 0 path.num
  if off = LNT.SLOT_CFG.off ∧ s.eff_ SCN.VTOTAL.LINES ≤ bits v 29 16 then ignCode LNT.PAGE 0xBE (s.rd LNT.SLOT_CFG 0 n) v s
  else okW ((s.noteSlot n).plainWrite LNT.PAGE off n v)

/-- Set the FIRED bit of a slot (R359, R365). -/
def State.setFired (s : State) (n : Nat) : State :=
  let k := regKey 0 LNT.PAGE (LNT.FIRED.off + 4 * (n / 32))
  s.setReg k (s.reg k ||| BitVec.ofNat 32 (2 ^ (n % 32)))

/-- The Lintel raster runs (R359): in Full, Standby-leaf and Shutter. -/
def State.lintelRuns (s : State) : Bool :=
  s.mode.raster == .weaver && (s.mode.power.weaves || s.mode.power == .shutter)

/-- LINTEL_SLOT_FIRE (R359, R366): the beam is at a slot's position; a WC beyond the line's last weave cycle means that one. A MODE 2
slot for a frame already past is cleared with code 0xBB. -/
def execLintelSlotFire (slot : Fin 256) (s : State) : Out :=
  let n := slot.val
  let o := s.slotNow n
  let mode := o.cfg % 4
  let d := sdiff32 s.clk.frame.toNat o.frame
  if !s.lintelRuns || (mode != 1 && mode != 2) then .next s
  else if mode = 2 ∧ 0 < d then
    let s := s.wr LNT.SLOT_CFG.MODE 0 0 n
    .next (s.logc LNT.PAGE 0xBB (s.rd LNT.SLOT_CFG 0 n) n)
  else if bits o.cfg 29 16 ≠ s.clk.line.toNat ∨ min (o.wc % 8192) (s.lineLen - 1) ≠ s.clk.wc.toNat ∨ (mode = 2 ∧ d < 0) then .next s
  else
    let kept := s.tim.slotOld.all (fun x => x.slot != n || x.at_ != s.clk.now)
    let s' := (s.setFired n).event LNT.PAGE 0
    let s' := if bit o.cfg 2 then s'.logc LNT.PAGE 0xB8 (s'.rd LNT.SLOT_CFG 0 n) n else s'
    .next (if mode = 2 ∧ kept then s'.wr LNT.SLOT_CFG.MODE 0 0 n else s')

/-! ### What follows a change of the time inputs -/

/-- The frame-lock source is lost (R191): the raster runs on at its last LINE_EFF with a trim of 0. -/
def State.lockLost (s : State) : State :=
  if s.mode.raster = .weaver ∧ s.rd SCN.LOCK_STS.STATE ≠ 4 then
    let s := (s.wr SCN.LOCK_STS.STATE 4).modScan (fun c => { c with trim := 0, goodFrames := 0 })
    (s.event SCN.PAGE 4).logc SCN.PAGE 0x51 (s.rd SCN.LOCK_STS) 0
  else s

/-- The frame-lock source is back (R191). -/
def State.lockBack (s : State) : State :=
  if s.mode.raster = .weaver ∧ s.rd SCN.LOCK_STS.STATE = 4 then
    (s.wr SCN.LOCK_STS.STATE 2).modScan (fun c => { c with goodFrames := 0 })
  else s

/-- The status that follows the time inputs: TIM.STS.JUMP, FRS.TIME_STS and its records, the Shutter (R214), and the
re-phase of a start without valid time (R357). -/
def State.timeMoved (s : State) : State :=
  let s := s.wrB TIM.STS.JUMP (s.jumpUs != 0)
  let s := s.freshTimeSts.shutTimeCheck
  if s.rdB SYS.START_STS.LNT_FREE && s.timeValid && !s.scan.aligned && s.boot.lockDone &&
      (s.eff_ SCN.RATE_CTL.SRC == 0 || s.eff_ SCN.RATE_CTL.SRC == 1) then
    s.modScan (fun c => { c with rephase := true })
  else s

/-- The time unit's state changes (R347, R364, R191). -/
def State.timEnter (s : State) (st : Nat) : State :=
  let was := s.timState
  let s := s.wr TIM.STS.STATE st
  let s := if st = 2 ∧ was ≠ 2 then s.event TIM.PAGE 0 else if st = 3 ∧ was ≠ 3 then s.event TIM.PAGE 1 else s
  let s := if st = 2 then s.wrB TIM.STS.TVAL true else s
  let src0 := s.eff_ SCN.RATE_CTL.SRC == 0
  if src0 && was == 2 && st != 2 then s.lockLost
  else if src0 && was != 2 && st == 2 then s.lockBack
  else s

/-- The module-board sensors' readings (R350, R415). -/
def State.boardTemps (s : State) : List Int := (List.range 4).map (fun k => s.rdI THM.SEN_STS.TEMP 0 k)

/-- Enter Holdover (R350): the bound grows from its present value, or stays at the one PPS_IN gives. -/
def State.enterHoldover (s : State) : State :=
  let s := s.modTim (fun t => { t with b0 := s.rd TIM.BOUND.US, holdSec := 0, boardT0 := s.boardTemps, rateDouble := false })
  let s := (s.timEnter 3).wr TIM.HOLD_T 0
  if s.rdB TIM.STS.PPS_OK then s.wr TIM.BOUND.US (s.eff_ TIM.PPS_CFG.ACC + 1) else s

/-! ### Acquisition and samples (R343-R349) -/

/-- ACC_M of a clockAccuracy in picoseconds; `none` makes the master unusable (R349). -/
def accPs (acc unkUs : Nat) : Option Nat :=
  if acc = 0xFE then some (unkUs * 1000000)
  else if 0x17 ≤ acc ∧ acc ≤ 0x30 then
    [1, 3, 10, 25, 100, 250, 1000, 2500, 10000, 25000, 100000, 250000, 1000000, 2500000, 10000000, 25000000, 100000000,
     250000000, 1000000000, 2500000000, 10000000000, 25000000000, 100000000000, 250000000000, 1000000000000,
     10000000000000][acc - 0x17]?
  else none

/-- B in Locked (R349), in µs, for an offset in ns. -/
def State.lockedBound (s : State) (o : Int) : Nat :=
  let unc := s.eff_ TIM.ASYM.UNC 0 (s.rd TIM.STS.PORT)
  min (2 ^ 32 - 1) ((o.natAbs * 1000 + s.tim.accM + (unc + 4) * 1000 + 999999) / 1000000)

/-- The master is lost (R347, R363): Holdover from Locked, Free from Acquire, code 0xB4. -/
def State.masterLost (s : State) : State :=
  let s := s.modTim (fun t => { t with masterOk := false, good := 0, far := 0, near := 0 })
  let s := s.wr TIM.STS.PORT 0xFF
  let s := if s.timState = 2 then s.enterHoldover else if s.timState = 1 then s.timEnter 0 else s
  (s.logc TIM.PAGE 0xB4 (s.rd TIM.STS) 0).timeMoved

/-- ANNOUNCE_TIMEOUT (R347): no Sync for the announce receipt timeout. -/
def execAnnounceTimeout (s : State) : Out :=
  if s.timState = 0 ∨ s.rd TIM.STS.PORT = 0xFF then .next s else .next s.masterLost

/-- A message outside the domain or transport is dropped (R346): counted, code 0xBC at most once a minute. -/
def State.ptpDrop (s : State) : State :=
  let s := s.bump TIM.STAT_DROP
  let due := match s.tim.dropAt with | some t => decide (t + 96000000000 ≤ s.clk.now) | none => true
  if due then (s.modTim (fun t => { t with dropAt := some s.clk.now })).logc TIM.PAGE 0xBC (s.rd TIM.STAT_DROP) 0 else s

/-- Whether PTP runs on a port (R343): 0-23 fabric, 24-39 flex, 40 management. -/
def State.ptpPort (s : State) (p : Nat) : Bool :=
  if p < 24 then bit (s.eff_ TIM.PORT_ENA0.PORTS) p
  else if p < 40 then bit (s.eff_ TIM.PORT_ENA1.FLEX) (p - 24)
  else s.eff_ TIM.PORT_ENA1.MGMT == 1

/-- The code of a PTP message kind in `PtpPort`. -/
def PtpKind.num : PtpKind → Nat
  | .sync => 1 | .followUp => 2 | .delayResp => 3 | .pdelay => 4 | .announce => 5 | .management => 6

/-- The profile in force admits the transport (R343, R344): Calnar ports carry PTP on the Time VC alone, whatever the profile. -/
def State.ptpAdmits (s : State) (port : Nat) (via : PtpVia) : Bool :=
  if port < 24 ∨ (port < 40 ∧ s.portEth port = false) then via == .timeVc
  else if s.eff_ TIM.CTL.PROFILE = 2 then via == .ethernet true
  else via != .timeVc

/-- PTP_MESSAGE (R343-R346, R349): a message of the module's domain and of a transport that the profile admits is timestamped and
taken, on a Calnar port from the message delivered there; an Announce of the port that the best master clock algorithm chooses
(`best`) gives the grandmaster and its accuracy. -/
def execPtpMessage (port : Fin 41) (domain : BitVec 8) (via : PtpVia) (kind : PtpKind) (accuracy : BitVec 8)
    (gm : BitVec 64) (best : Bool) (s : State) : Out :=
  if !s.ptpPort port || s.mode.sec == .quarantined then .next s
  else
  let s := if via = .timeVc then
      s.modFab (fun f => { f with inbox := f.inbox.eraseP (fun m => m.vc == 1 && m.port == port.val) })
    else s
  if domain.toNat ≠ s.eff_ TIM.CTL.DOMAIN ∨ s.ptpAdmits port via = false then .next s.ptpDrop
  else
    let s := if kind = .sync ∨ kind = .delayResp ∨ kind = .pdelay then
        s.modTim (fun t => { t with ports := tset (fun _ => PtpPort.none) t.ports port ⟨kind.num, s.taiNs.toNat⟩ })
      else s
    if kind = .announce ∧ best = true then
      match accPs accuracy.toNat (s.eff_ TIM.ACC_UNK.US) with
      | none => .next (if s.tim.masterOk then s.masterLost else s.logc TIM.PAGE 0xB4 (s.rd TIM.STS) accuracy.toNat)
      | some ps =>
        let s := (s.wr TIM.GM_ID_LO gm.toNat).wr TIM.GM_ID_HI (gm.toNat / 2 ^ 32)
        let s := s.wr TIM.STS.PORT port
        .next (s.modTim (fun t => { t with accM := ps, masterOk := true }))
    else .next s

/-- TIME_ACQUIRE (R342, R347): a slave port carries Sync, or PPS_IN and a seconds value are present; the count is set. -/
def execTimeAcquire (sec : BitVec 48) (ns : BitVec 30) (s : State) : Out :=
  if s.timState ≠ 0 ∨ 1000000000 ≤ ns.toNat ∨ (s.tim.masterOk = false ∧ s.rdB TIM.STS.PPS_OK = false) then .next s
  else
    let s := s.cmpDisarm
    let s := s.modClk (fun c => { c with sec := sec, ns := ns, sub := 0 })
    let s := s.modTim (fun t => { t with first := true, good := 0, slew := 0, step := none })
    let s := s.modFrs (fun r => { r with wrapOn := true })
    .next (s.timEnter 1).timeMoved

/-- OFFSET follows the last sample (R364). -/
def State.noteOffset (s : State) (o : Int) : State :=
  (s.wrI TIM.OFFSET.NS (clampI (-0x7FFFFFFF) 0x7FFFFFFF o)).modTim (fun t => { t with lastOff := o })

/-- The slew of an offset begins (R348). -/
def State.slewTo (s : State) (o : Int) : State := s.modTim (fun t => { t with slew := o, slewAt := s.clk.now })

/-- A sample in Acquire (R347). -/
def State.sampleAcquire (s : State) (o : Int) : State :=
  if s.eff_ TIM.SLEW_LIM.US * 1000 < o.natAbs then
    ((s.cmpDisarm.setTai (s.taiNs - o)).modTim (fun t => { t with good := 0, slew := 0 }))
  else if 1000 < o.natAbs then (s.slewTo o).modTim (fun t => { t with good := 0 })
  else
    let s := (s.slewTo o).modTim (fun t => { t with good := t.good + 1 })
    if 8 ≤ s.tim.good then
      let s := s.modTim (fun t => { t with good := 0, far := 0, near := 0 })
      (s.timEnter 2).wr TIM.BOUND.US (s.lockedBound o)
    else s

/-- The count is to step by `-o` at the next µs boundary (R348, R354). -/
def State.askStep (s : State) (o : Int) (jump : Bool) : State :=
  s.modTim (fun t => { t with slew := 0, step := some { off := o, us := s.taiNs / 1000, jump := jump } })

/-- A slew or a step of an offset within JUMP_THR, in Locked (R348, R349). -/
def State.sampleLocked (s : State) (o : Int) : State :=
  let s := s.modTim (fun t => { t with far := 0 })
  let s := s.wr TIM.BOUND.US (s.lockedBound o)
  if o.natAbs ≤ s.eff_ TIM.SLEW_LIM.US * 1000 then s.slewTo o
  else
    s.askStep o false

/-- J takes the size of an offset (R348); code 0xB2 when J changes, at most once a second. -/
def State.setJump (s : State) (o : Int) (first : Bool) : State :=
  let j := (o.natAbs + 999) / 1000
  let changed := first || (s.tim.jLogged != j && decide (s.tim.jLogAt + 1600000000 ≤ s.clk.now))
  let s := s.wr TIM.JUMP.US (min (2 ^ 32 - 1) j)
  if changed then
    (s.modTim (fun t => { t with jLogged := j, jLogAt := s.clk.now })).logc TIM.PAGE 0xB2 (s.rd TIM.JUMP) 0
  else s

/-- A sample beyond JUMP_THR in Locked, or in Holdover without a pending jump (R348): the third refuses the jump. -/
def State.sampleFar (s : State) (o : Int) : State :=
  let s := s.modTim (fun t => { t with far := t.far + 1 })
  if s.tim.far < 3 then s
  else
    let s := s.modTim (fun t => { t with far := 0, near := 0 })
    let s := if s.timState = 2 then s.enterHoldover else s
    ((s.setJump o true).event TIM.PAGE 2).jumpRefused

/-- A sample while a refused jump is pending (R348). -/
def State.samplePending (s : State) (o : Int) : State :=
  if s.eff_ TIM.JUMP_THR.US * 1000 < o.natAbs then
    (s.setJump o false).modTim (fun t => { t with near := 0 })
  else
    let s := s.modTim (fun t => { t with near := t.near + 1 })
    if s.tim.near < 8 then s
    else
      let s := (s.modTim (fun t => { t with near := 0 })).wr TIM.JUMP.US 0
      (s.timEnter 2).sampleLocked o

/-- PTP_SAMPLE (R347, R348, R366): a filtered offset, the module's time minus the master's, in ns. -/
def execPtpSample (offset : BitVec 64) (s : State) : Out :=
  if !s.tim.masterOk || s.timState == 0 || s.mode.sec == .quarantined then .next s
  else
    let o := sgn 64 offset.toNat
    let s := s.each [TIM.LOG_INT, TIM.SLEW_LIM, TIM.HOLD_RATE, TIM.PPS_CFG, TIM.ACC_UNK] (fun s f => s.latch f)
    let s := s.latch TIM.ASYM 0 (s.rd TIM.STS.PORT)
    let s := s.noteOffset o
    let big := decide (s.eff_ TIM.JUMP_THR.US * 1000 < o.natAbs)
    let s :=
      if s.timState = 1 then s.sampleAcquire o
      else if s.jumpUs ≠ 0 then s.samplePending o
      else if big then s.sampleFar o
      else if s.timState = 2 then s.sampleLocked o
      else (s.timEnter 2).sampleLocked o
    .next s.timeMoved

/-! ### Holdover, PPS_IN, CLK10_IN (R350-R352) -/

/-- HOLDOVER_TICK (R350): a whole second of Holdover. -/
def execHoldoverTick (s : State) : Out :=
  if s.timState ≠ 3 then .next s
  else
    let moved := (s.boardTemps.zip s.tim.boardT0).any (fun p => decide (100 < (p.1 - p.2).natAbs))
    let s := s.modTim (fun t => { t with holdSec := t.holdSec + 1, rateDouble := t.rateDouble || moved })
    let s := s.bump TIM.HOLD_T
    let rate := (if s.rdB TIM.STS.CLK10_OK then s.eff_ TIM.HOLD_RATE.EXT else s.eff_ TIM.HOLD_RATE.INT) *
      (if s.tim.rateDouble then 2 else 1)
    let b := if s.rdB TIM.STS.PPS_OK then s.eff_ TIM.PPS_CFG.ACC + 1
      else s.tim.b0 + (s.tim.holdSec * rate + 999) / 1000
    .next (s.wr TIM.BOUND.US (min (2 ^ 32 - 1) b)).timeMoved

/-- PPS_IN becomes invalid (R350, R351): code 0xB5, event PPS_BAD; in Holdover the bound grows again from here. -/
def State.ppsBad (s : State) : State :=
  let was := s.rdB TIM.STS.PPS_OK
  let s := s.modTim (fun t => { t with ppsGood := 0 })
  if !was then s
  else
    let s := s.wrB TIM.STS.PPS_OK false
    let s := if s.timState = 3 then s.modTim (fun t => { t with b0 := s.eff_ TIM.PPS_CFG.ACC + 1, holdSec := 0 }) else s
    let s := if s.eff_ SCN.RATE_CTL.SRC = 1 then s.lockLost else s
    (s.event TIM.PAGE 4).logc TIM.PAGE 0xB5 (s.rd TIM.STS) 0

/-- PPS_EDGE (R351): a rising edge, `err` ns after the second boundary that the count predicts. -/
def execPpsEdge (err : BitVec 32) (s : State) : Out :=
  if s.rd TIM.PPS_CFG.ENA = 0 then .next s
  else
    let e := sgn 32 err.toNat
    if s.eff_ TIM.PPS_CFG.WIN * 1000 < e.natAbs then .next s.ppsBad.timeMoved
    else
      let s := s.modTim (fun t => { t with ppsGood := min 8 (t.ppsGood + 1) })
      let s := if s.tim.ppsGood = 8 ∧ s.rdB TIM.STS.PPS_OK = false then
          (let s := s.wrB TIM.STS.PPS_OK true
           if s.eff_ SCN.RATE_CTL.SRC = 1 then s.lockBack else s)
        else s
      if s.rdB TIM.STS.PPS_OK && s.timState == 3 then
        let s := (s.setTai (s.taiNs - e)).cmpPassed
        .next (s.wr TIM.BOUND.US (s.eff_ TIM.PPS_CFG.ACC + 1)).timeMoved
      else .next s

/-- PPS_TIMEOUT (R351): no edge for 1.5 s. -/
def execPpsTimeout (s : State) : Out := .next s.ppsBad.timeMoved

/-- A write of PPS_CFG (R351): ENA rising makes PPS_IN invalid. -/
def wrPpsCfg (v : Nat) (s : State) : WrRes :=
  let rise := bit v 0 && s.rd TIM.PPS_CFG.ENA == 0
  let s := s.plainWrite TIM.PAGE TIM.PPS_CFG.ENA.off 0 v
  okW (if rise then (s.modTim (fun t => { t with ppsGood := 0 })).wrB TIM.STS.PPS_OK false else s)

/-- CLK10_CHECK (R352): the judgement of CLK10_IN against R45 and the servo's measured rate. -/
def execClk10Check (ok : Bool) (s : State) : Out :=
  let was := s.rdB TIM.STS.CLK10_OK
  let s := (s.wrB TIM.STS.CLK10_OK ok).wrB CLB.STS.CLK10_OK ok
  .next (if was && !ok then s.logc TIM.PAGE 0xB6 (s.rd TIM.STS) 0 else s)

/-! ### Accepting a jump (R354) -/

/-- A write of JUMP_CTL (R354): ACCEPT has the count step by the pending jump at the next µs boundary. -/
def wrJumpCtl (v : Nat) (s : State) : WrRes :=
  if !bit v 0 then okW s
  else if s.jumpUs = 0 then ignCode TIM.PAGE 0xBD (s.rd TIM.STS) v s
  else
    okW (s.askStep s.tim.lastOff true)

/-- An accepted jump is taken (R354): J becomes 0, the state Locked, the step sweep begins, and the raster is re-phased at the next
line 0. -/
def State.jumpTaken (s : State) (told d : Int) : State :=
  let s := ((s.modTim (fun t => { t with near := 0, far := 0 })).wr TIM.JUMP.US 0).timEnter 2
  let s := (s.startStepSweep d (BitVec.ofInt 32 told)).cmpPassed
  let s := if s.eff_ SCN.RATE_CTL.SRC = 0 ∨ s.eff_ SCN.RATE_CTL.SRC = 1 then
      s.modScan (fun c => { c with rephase := true }) else s
  (s.event TIM.PAGE 3).logc TIM.PAGE 0xB3 (s.rd TIM.OFFSET) 0

/-- A step that waits is taken once the count has come to the next µs boundary (R348, R354). -/
def State.stepDue (s : State) : State :=
  match s.tim.step with
  | none => s
  | some p =>
    let told := s.taiNs / 1000
    if told = p.us then s
    else
      let s := (s.setTai (s.taiNs - p.off)).modTim (fun t => { t with step := none })
      let s := if p.jump then s.jumpTaken told (s.taiNs / 1000 - told)
        else (s.cmpPassed.bump TIM.STAT_STEP).logc TIM.PAGE 0xB1 (s.rd TIM.OFFSET) 0
      s.timeMoved

end Sys2Proof.Machine
end

