-- ==== Sys2Proof/Machine/Scan.lean ====
section
/-! DEFINITION. The raster (R187-R195, R355-R357): line and frame starts, the servo, the apply point (R99), the Lintel lock
(R486) and the first Weaver frame (R56, R57, R64). -/

namespace Sys2Proof.Machine

/-- Both halves. -/
def halves : List (Fin 2) := [0, 1]

/-! ### Raster settings (R187, R190, R219) -/

/-- LINE_PER × VTOTAL lies within 100 ppm of the nominal frame length (R187). -/
def lengthOk (linePer vtotal rate k : Nat) : Bool :=
  decide ((((linePer * vtotal * rate : Nat) : Int) - (409600000 * k : Nat)).natAbs * 10000 ≤ 409600000 * k)

/-- The house frame rate fits: the frame rate lies within 100 ppm of HS_MULT house frames (R190). -/
def State.houseOk (s : State) : Bool :=
  let m := s.rd SCN.RATE_CTL.HS_MULT
  let m := if m = 0 then 8 else m
  let k := if s.rdB SCN.RATE_CTL.K1001 then 1001 else 1000
  let a := s.rd SCN.RATE_CTL.RATE * 1000 * s.scan.housePer
  let b := m * 1600000000 * k
  decide (((a : Int) - b).natAbs * 10000 ≤ b)

/-- The written raster setting is legal (R187, R190). -/
def State.rasterOk (s : State) : Bool :=
  let rate := s.rd SCN.RATE_CTL.RATE
  let v := s.rd SCN.VTOTAL.LINES
  let p := s.rd SCN.LINE_PER.PER
  decide (24 ≤ rate) && decide (rate ≤ 240) && decide (8680 ≤ v) && decide (196160 ≤ p) &&
  lengthOk p v rate (if s.rdB SCN.RATE_CTL.K1001 then 1001 else 1000) &&
  (s.rd SCN.RATE_CTL.SRC != 2 || s.houseOk)

/-- A write of LINE_PER, VTOTAL, RATE_CTL, PHASE or HS_DELAY (R219): only in Sill, for the next Lintel lock. -/
def wrRaster (off v : Nat) (s : State) : WrRes :=
  if s.mode.power ≠ .sill then ignCode SCN.PAGE 0x5B (s.rd SCN.LOCK_STS) v s
  else okW (s.plainWrite SCN.PAGE off 0 v)

/-- HOUSE_SYNC_EDGE (R190): a house frame edge; under SRC = 2 the next frame number that HS_MULT divides starts HS_DELAY ns
after it. -/
def execHouseSyncEdge (s : State) : Out :=
  let per := match s.scan.houseEdge with | some t => s.clk.now - t | none => s.scan.housePer
  let m := s.eff_ SCN.RATE_CTL.HS_MULT
  let m := if m = 0 then 8 else m
  let s := s.modScan (fun c => { c with houseEdge := some s.clk.now, housePer := per })
  if s.eff_ SCN.RATE_CTL.SRC = 2 ∧ s.boot.lockDone then
    .next (s.lockBack.modScan (fun c => { c with
      houseN := (match c.houseAt with | some _ => c.houseN + BitVec.ofNat 32 m | none => 0)
      houseAt := some (s.clk.now + s.eff_ SCN.HS_DELAY.NS * 8 / 5) }))
  else .next s

/-! ### Real-time need (R274) -/

/-- Cells that the prefill of band `b` loads on a die: those of its slots that the band before does not hold. -/
def State.loadCells (s : State) (die : Fin 2) (b : Nat) : Nat :=
  let prev := if b = 0 then [] else s.bandCells die (b - 1)
  ((s.bandCells die b).filter (fun k => !prev.contains k)).length

/-- RT_NEED (R274). -/
def State.rtNeed (s : State) : Nat :=
  let pMax := ((List.range 540).map (fun b => 4096 * (s.loadCells 0 b + s.loadCells 1 b))).foldl max 0
  let d := 128 * max 1 s.lineEff
  ((pMax + 16 * 368640) * 256 + d - 1) / d

/-- The SLICES value the coming frame runs under. -/
def State.slicesNext (s : State) : Nat := s.mem.sliceNext.getD s.slices

/-- RT_NEED against S - 4 (R274): SHORT, event RT_SHORT, code 0x82 once per apply point. A SLICES value written since is compared
again at the start of line 0. -/
def State.compareNeed (s : State) : State :=
  let short := decide (s.slicesNext < s.mem.rtNeed + 4)
  let s := s.modMem (fun m => { m with sliceNew := false })
  let s := (s.wr DMC.RT_STS.NEED (min 255 s.mem.rtNeed)).wrB DMC.RT_STS.SHORT short
  if short then
    let s := s.event DMC.PAGE 2
    if s.mem.rtLogged then s
    else (s.modMem (fun m => { m with rtLogged := true })).logc DMC.PAGE 0x82 (s.rd DMC.RT_STS) 0
  else s

/-! ### The apply point (R99, R136, R159, R160, R193) -/

/-- The maps, curves and settings of both dies come into force, and the slot plan is computed anew. -/
def State.applyTables (s : State) : State :=
  let s := s.each halves (fun s h => ((s.applyMap h).applyLut h).applySettings h)
  s.each halves (fun s h => s.makePlan s h)

/-- What an apply point does beside the tables (R158, R274): louvres beyond NSTK, and RT_NEED of the coming frame. -/
def State.applyChecks (s : State) : State :=
  let s := s.each halves State.louvreWarn
  (s.modMem (fun m => { m with rtNeed := s.rtNeed, rtLogged := false })).compareNeed

/-- Frame `f` follows an apply point that did or did not change the tables (R233). -/
def State.touchTables (s : State) (f : Nat) : State :=
  let m : BitVec 2 := BitVec.ofNat 2 (2 ^ (f % 2))
  let ch := s.scene.tableChanged
  (s.modPanel (fun p => { p with tableTouch := (p.tableTouch &&& ~~~m) ||| (if ch then m else 0) })).modScene
    (fun c => { c with tableChanged := false })

/-- What the start of line 8,640 of either raster begins: the Shutter check (R212), lanes due for re-admission (R208), a calibration
step of the lanes (R302) and of HBM (R284). -/
def State.blanking (s : State) : State := s.shutterCheck.readmitLanes.laneTrims.hbmTrims

/-- APPLY_POINT (R99): the start of line 8,640 of a frame of the Weaver raster. Event VBLANK; edit sets, maps, curves and
settings that are due come into force for the next frame; the freshness counts (R171); in a phase-3 frame the band of the next
cycle (R229); and what blanking begins. -/
def execApplyPoint (s : State) : Out :=
  if s.mode.raster ≠ .weaver ∨ s.clk.line ≠ 8640 then .next s
  else
    let t := s.frameAfter
    let s := (s.event SCN.PAGE 1).applyEdits t
    let s := (s.applyTables.applyChecks.touchTables t).freshFrameCount
    let s := if s.phase = 3 then s.each halves State.decideBand else s
    .next s.blanking

/-! ### Line starts (R188, R189) -/

/-- The Mullion lock at a line start (R189): `skew` is the measured distance of half B's line start from half A's. -/
def State.mullionCheck (s : State) (skew : Nat) : State :=
  let want := s.eff_ SCN.MUL_SKEW
  let s := s.modClk (fun c => { c with lineErr := (skew : Int) - want })
  if skew = want then s
  else
    let s := s.modScan (fun c => { c with mullion := c.mullion ||| 1 })
    (s.event SCN.PAGE 5).logc SCN.PAGE 0x52 (s.rd SCN.LOCK_STS) skew

/-- The start of line `LINE + 1` of the raster that runs (R5, R188, R189), at the edge that ends the line in progress. -/
def State.lineStart (s : State) (skew : Nat) : State :=
  if s.mode.raster = .off ∨ s.vtotal ≤ s.clk.line.toNat + 1 then s
  else
    let s := s.toLineEnd.modClk (fun c => { c with line := c.line + 1, wc := 0 })
    let s := s.modClk (fun c => { c with lineAt := c.now })
    if s.mode.raster = .weaver then (s.mullionCheck skew).leafLine else if s.clk.line = 8640 then s.blanking else s

/-- LINE_START (R5, R188, R189). -/
def execLineStart (skew : BitVec 8) (s : State) : Out := .next (s.lineStart skew.toNat)

/-- LINE_MATCH (R195): the beam is at SCN.LM_POS. -/
def execLineMatch (s : State) : Out :=
  if s.mode.raster ≠ .off ∧ s.clk.line.toNat = s.rd SCN.LM_POS.LINE ∧ s.clk.wc.toNat = s.rd SCN.LM_POS.WC then
    .next (s.event SCN.PAGE 0)
  else .next s

/-! ### The raster servo (R188, R190, R191, R355, R357) -/

/-- The frame in progress as a number without its wrap, nearest to this instant (R190). -/
def State.frameTai (s : State) : Int :=
  let n := s.nAfter (s.ns1958 - (s.kFactor * 500000 / max 1 (s.eff_ SCN.RATE_CTL.RATE) : Nat))
  n + sdiff32 s.clk.frame.toNat n

/-- The phase error in 1/256 wc (R355): this instant minus t_n of the frame; a weave cycle is 5 eighths of a ns. -/
def State.phaseErr (s : State) : Int :=
  (8 * (s.ns1958 - s.tn s.frameTai.toNat) + s.clk.sub.toNat) * 256 / 5

/-- LINE_EFF of the next frame (R355, R188): `fl` is the TAI frame period in local 1/256 wc. -/
def servoEff (fl e : Int) (vtotal per : Nat) : Int :=
  let d : Int := (per * 300 / 1000000 : Nat)
  max (clampI (per - d) (per + d) (Int.tdiv (fl - Int.tdiv e 16) vtotal)) 196096

/-- The trim of line VTOTAL - 1 (R355), which is never shorter than 766 wc (R188). -/
def servoTrim (fl e eff : Int) (vtotal trimMax : Nat) : Int :=
  max (-((eff - 196096) / 256)) (clampI (-trimMax) trimMax ((fl - e - eff * vtotal + 128) / 256))

/-- LINE_EFF and the trim that the next frame runs on. -/
def State.setLine (s : State) (eff trim : Int) : State :=
  (s.wr SCN.LINE_EFF.PER eff.toNat).modScan (fun c => { c with trim := trim })

/-- The lock state after a frame with phase error `e` (R355). -/
def State.lockStep (s : State) (e : Int) : State :=
  let good := if e.natAbs ≤ 1024 then min 16 (s.scan.goodFrames + 1) else 0
  let s := (s.wrI SCN.LOCK_STS.PHASE_ERR (clampI (-32767) 32767 (Int.tdiv e 256))).modScan
    (fun c => { c with goodFrames := good })
  if good = 16 then (s.wr SCN.LOCK_STS.STATE 3).modScan (fun c => { c with pull := false })
  else if 4096 < e.natAbs ∧ s.rd SCN.LOCK_STS.STATE = 3 then s.wr SCN.LOCK_STS.STATE 2
  else s

/-- House sync is lost (R191; log entry 173): no house frame edge for two of the periods that the last edges measured. -/
def State.houseLost (s : State) : Bool :=
  match s.scan.houseEdge with
  | some t => decide (0 < s.scan.housePer) && decide (t + 2 * s.scan.housePer < s.clk.now)
  | none => false

/-- Under SRC = 1 and 2 the spec states no servo: LINE_EFF and the trim lie within the limits of R188, and the lock state is
Acquire or Locked; their values are free. -/
def State.servoFree (s : State) : State :=
  let per : Nat := s.eff_ SCN.LINE_PER.PER
  let (a, s) := s.takeFree 32
  let (b, s) := s.takeFree 32
  let (c, s) := s.takeFree 1
  let (d, s) := s.takeFree 16
  let eff := servoEff (a.toNat : Int) 0 1 per
  let s := s.setLine eff (servoTrim b.toInt 0 eff 0 (s.eff_ SCN.TRIM_MAX.WC))
  (s.wr SCN.LOCK_STS.STATE (2 + c.toNat)).wr SCN.LOCK_STS.PHASE_ERR d.toNat

/-- The raster servo at the start of line 0 (R355). Free-running, the lines take LINE_PER; with the source lost they keep
their last LINE_EFF with a trim of 0; with the source back the phase is pulled back through the trim alone (R191). -/
def State.servo (s : State) (fl : Nat) : State :=
  let src := s.eff_ SCN.RATE_CTL.SRC
  let per := s.eff_ SCN.LINE_PER.PER
  if src = 3 ∨ (src ≠ 2 ∧ s.scan.aligned = false) then (s.setLine per 0).wr SCN.LOCK_STS.STATE 1
  else if (src = 0 ∧ s.timState ≠ 2) ∨ (src = 1 ∧ s.rdB TIM.STS.PPS_OK = false) ∨ (src = 2 ∧ s.houseLost) then
    s.lockLost.modScan (fun c => { c with trim := 0, pull := true })
  else if src ≠ 0 then s.servoFree
  else
    let st := s.rd SCN.LOCK_STS.STATE
    let s := if st = 2 ∨ st = 3 then s else s.wr SCN.LOCK_STS.STATE 2
    let e := s.phaseErr
    let v := s.eff_ SCN.VTOTAL.LINES
    let eff := if s.scan.pull then (s.rd SCN.LINE_EFF.PER : Int) else servoEff fl e v per
    (s.setLine eff (servoTrim fl e eff v (s.eff_ SCN.TRIM_MAX.WC))).lockStep e

/-- A re-phase that is due at this start of line 0 (R357): the next frame takes the number of the next t_n that lies more
than one frame period ahead, and line VTOTAL - 1 of this frame is lengthened up to it. -/
def State.rephaseStart (s : State) : State :=
  if !s.scan.rephase then s
  else
    let n := s.nAfter (s.ns1958 + (s.kFactor * 1000000 / max 1 (s.eff_ SCN.RATE_CTL.RATE) : Nat))
    let wc := (8 * (s.tn n - s.ns1958) - s.clk.sub.toNat) / 5
    let len : Int := (s.rd SCN.LINE_EFF.PER * s.eff_ SCN.VTOTAL.LINES / 256 : Nat)
    let old := (s.clk.frame.toNat + 1) % 2 ^ 32
    let d := BitVec.ofNat 32 n - (s.clk.frame + 1)
    let s := s.modScan (fun c => { c with
      rephase := false, rephaseTo := some (BitVec.ofNat 32 n), stretch := (wc - len).toNat, trim := 0, aligned := true,
      goodFrames := 0, pull := false, shutExit := c.shutExit.map (· + d) })
    (s.wr SCN.LOCK_STS.STATE 2).logc SCN.PAGE 0xB7 old (n % 2 ^ 32)

/-! ### Frame starts -/

/-- What each frame of the Weaver raster begins with: the records kept once per frame (those of line 0, read before, stay), the
dirty bits of its parity (R233), the counts of the frame that `ended`, settings that take effect at the start of line 0 (R219,
R172), and the comparison of a SLICES value written since the apply point (R274). -/
def State.frameBegin (s : State) (ended : BitVec 32) : State :=
  let f := s.clk.frame
  let s := s.modLog (fun l => { l with
    frameKeys := l.frameKeys.filter (fun k => (k.1 == 0x21 || k.1 == 0x22) && k.2 % 2 ^ 32 == f.toNat) })
  let s := s.sliceLine.frameShows
  let keep : BitVec 2 := ~~~(BitVec.ofNat 2 (2 ^ (s.clk.frame.toNat % 2)))
  let s := s.modScene (fun c => { c with
    dirty := c.dirty.foldl (fun t kv => tset (fun _ => 0) t kv.1 (kv.2 &&& keep)) [] })
  let s := s.modScan (fun c => { c with
    underrunFault := if c.underrunIn = some f ∨ c.underrunIn = some ended then c.underrunFault else c.underrunFault - 1
    mullion := c.mullion <<< 1 })
  let s := s.each halves (fun s h =>
    let m := s.panel.resMax[h].2
    (s.modPanel (fun p => { p with resMax := p.resMax.set h (m, 0), satLogged := p.satLogged.set h false })).wr
      PDV.RES_STS.MAX m h)
  let s := s.each halves State.showPlan
  let s := ((s.latch SCN.MUL_SKEW).latch SCN.TRIM_MAX.WC).latch FRS.ALM_CTL
  if s.mem.sliceNew then s.compareNeed else s

/-- The first settle frame after a takeover or a Shutter exit has passed (R238); `f` is the frame that ended. -/
def State.freshRows (s : State) (f : Nat) : State :=
  s.each halves (fun s h =>
    let done := s.panel.freshWhole[h] && s.settles f (s.band h)
    s.modPanel (fun p => { p with
      freshPair := if done then p.freshPair.set h false else p.freshPair
      freshWhole := p.freshWhole.set h (p.freshPair[h] && !done) }))

/-- The power state of this leaf while the Weaver runs (R370). -/
def State.weavePower (s : State) : PowerState := if s.role < 3 then .full else .standbyLeaf

/-- The rows of a Shutter exit's first frame are touched (R238), and the Weaver's power state returns (R214). -/
def State.exitFrame (s : State) : State :=
  if s.mode.power = .shutter ∧ s.scan.shutExit = some s.clk.frame then
    (s.setPower s.weavePower).modPanel (fun p => { p with
      freshPair := Vector.replicate 2 true, freshWhole := Vector.replicate 2 true })
  else s

/-- Capture frame c has ended with a group that has not reported STORED: the Shutter entry is aborted (R213, R216). -/
def State.captureEnd (s : State) (ended : BitVec 32) : State :=
  if s.shutArmed && ended == s.scan.shutC then s.shutAbort 6 true else s

/-- The start of line 0 (R355), at the edge that ends line VTOTAL - 1. FRAME advances, or takes the number of a re-phase that adds its change to FS
(R357); a cycle begins at phase 0 (R228, R230); the servo sets the frame's lines. `fl` is the TAI frame period in local
1/256 wc, from the time unit's rate. -/
def State.frameStart (s : State) (fl skew : Nat) : State :=
  if s.mode.raster ≠ .weaver ∨ s.clk.line.toNat + 1 ≠ s.vtotal then s
  else
    let s := s.toLineEnd
    let f := s.frameAfter
    let ended := s.clk.frame
    let s := s.freshRows ended.toNat
    let fs := s.fsFor f
    let fr := s.fracNext
    let s := s.modClk (fun c => { c with
      frame := BitVec.ofNat 32 f, fs := BitVec.ofNat 32 fs, line := 0, wc := 0, lineAt := c.now, frac := fr })
    let s := s.modScan (fun c => { c with rephaseTo := none, stretch := 0 })
    let s := s.modPanel (fun p => { p with resetLate := false, firstWeaver := false })
    let s := ((((s.captureEnd ended).exitFrame).frameBegin ended).mullionCheck skew).leafFrame
    let s := if s.phase = 0 then s.each halves State.cycleStart else s
    ((s.servo fl).rephaseStart).shutExpiryCheck

/-- FRAME_START (R189, R355). -/
def execFrameStart (fl : BitVec 32) (skew : BitVec 8) (s : State) : Out := .next (s.frameStart fl.toNat skew.toNat)

/-! ### The Lintel lock (R486) -/

/-- Stage 9 runs (R56, R486): the Sill raster runs, stages 5 to 8 are done and nothing has halted the start. -/
def State.canLock (s : State) : Bool :=
  s.mode.raster == .sill && s.mode.power == .sill && !s.boot.lockDone && decide (s.rd SYS.START_STS.STAGE < 13) &&
  (List.range 4).all (fun i => s.boot.done.getLsbD (i + 5))

/-- The Lintel lock (R187, R486): the raster settings come into force, or a refused setting leaves the previous ones with
code 0x5B; the band of the first Weaver frame is picked (R229), and the fast pass of the entry to Full begins (R168). -/
def State.lintelLock (s : State) (valid : Bool) : State :=
  let s := if s.rasterOk then
      s.each [SCN.LINE_PER.PER, SCN.VTOTAL.LINES, SCN.RATE_CTL, SCN.PHASE.NS, SCN.HS_DELAY.NS] (fun s f => s.latch f)
    else s.logc SCN.PAGE 0x5B (s.rd SCN.LOCK_STS) 0
  let s := s.each [SCN.MUL_SKEW, SCN.TRIM_MAX.WC] (fun s f => s.latch f)
  let src := s.eff_ SCN.RATE_CTL.SRC
  let s := (s.wr SCN.LOCK_STS.SRC src).modScan (fun c => { c with
    aligned := valid && (src == 0 || src == 1), rephase := false, rephaseTo := none, stretch := 0, goodFrames := 0, pull := false,
    houseN := 0, houseAt := none })
  let s := s.setLine (s.eff_ SCN.LINE_PER.PER) 0
  let s := (s.modBoot (fun b => { b with lockDone := true, lockAt := s.clk.now })).sliceLine
  let s := s.each halves (fun s h => match (s.panel.waveNext[h]).or s.panel.wave[h] with
    | some w => s.wr PDV.WV_STS.BAND_NEXT (bandDirect w (s.tp h)) h
    | none => s)
  s.startFastPass.stageDone 9 10

/-- LINTEL_LOCK (R486): the first weave cycle of stage 9 with valid time. -/
def execLintelLock (s : State) : Out :=
  if s.canLock && s.timeValid then .next (s.lintelLock true) else .next s

/-- LINTEL_LOCK_TIMEOUT (R486, R65): no valid time within five seconds; the raster free-runs. -/
def execLintelLockTimeout (s : State) : Out :=
  if s.canLock && !s.timeValid then
    .next (((s.lintelLock false).wrB SYS.START_STS.LNT_FREE true).startFail 0x0901)
  else .next s

/-! ### The first Weaver frame (R56, R57, R64) -/

/-- Stages 5 to 10 are complete and no balance-restore is pending (R57). -/
def State.enterReady (s : State) : Bool :=
  s.mode.raster == .sill && s.mode.power == .sill && s.boot.lockDone && !s.rdB SYS.START_STS.BAL_RST &&
  decide (s.rd SYS.START_STS.STAGE < 12) && s.stagesDone

/-- The first Weaver frame may start now (R57, R64): behind an odd Sill frame, which is at its last line or which the panel
holds. -/
def State.mayEnter (s : State) : Bool :=
  s.enterReady && (s.boot.hold || (s.clk.sillFrame % 2 == 1 && s.clk.line == 8699))

/-- ENTER_FULL (R56, R57, R64, R69): the Sill raster ends after an odd Sill frame, and the first Weaver frame starts at this
instant, at phase 0. -/
def execEnterFull (fl : BitVec 32) (s : State) : Out :=
  if !s.mayEnter then .next s
  else
    let s := if s.boot.hold then s else s.toLineEnd
    let f := BitVec.ofNat 32 s.frameNear
    let s := s.startResidues.applyTables
    let s := s.modPanel (fun p => { p with firstWeaver := true })
    let s := s.modClk (fun c => { c with frame := f, fs := f, line := 0, wc := 0, lineAt := c.now, frac := 0 })
    let s := (s.modMode (fun m => { m with raster := .weaver })).setPower s.weavePower
    let s := if s.paired then s else s.setRole 1
    let s := s.modFrs (fun r => { r with again := r.lastVerdict.map (·.1) })
    let s := s.frameBegin s.clk.frame
    let s := s.each halves (fun s h =>
      let s := if s.rdB PDV.RAIL_STS.UP h then s.setWaveRails h 0 else s
      s.cycleStart h)
    let s := (s.servo fl.toNat).rephaseStart.fastPass
    let s := s.each (List.range 16) (fun s g => if s.panel.driverLock[groupHalf g].getLsbD (g % 8) then s.fitGroup g else s)
    let s := s.wr SYS.START_STS.STAGE 12
    let s := if s.boot.warm then s else s.wr SYS.START_T.FULL_MS (min 0xFFFF (s.clk.now / 1600000))
    .next (s.modBoot (fun b => { b with starting := false, warm := false, hold := false }))

end Sys2Proof.Machine
end

