-- ==== Sys2Proof/Machine/Weft.lean ====
section
/-! DEFINITION. The Weft 2D engine (chapter 11): the submission queue, the ten commands, write bursts and their completion. -/

namespace Sys2Proof.Machine

/-! ### The queue (R245-R247, R263) -/

/-- Descriptors of the queue (R245, R264). -/
def State.sqSize (s : State) : Nat :=
  let n := s.rd WFT.SQ_SIZE.SIZE_LOG2
  2 ^ (if 4 ≤ n ∧ n ≤ 12 then n else 4)

/-- SQ_HEAD advances past the descriptor (R245). -/
def State.sqPop (s : State) : State := s.wr WFT.SQ_HEAD.INDEX ((s.rd WFT.SQ_HEAD.INDEX + 1) % s.sqSize)

/-- The engine pauses for the repair queue (R381) or by CTL.PAUSE (R264), and waits while the memory is in self-refresh (R286). -/
def State.weftHeld (s : State) : Bool :=
  s.rdB WFT.CTL.PAUSE || s.mem.sealed || (s.role == 2 && decide (s.rd LEF.REPAIR_MAX < s.rd LEF.REPAIR_Q))

/-- STS.PAUSED: a list is held by PAUSE (R264). -/
def State.weftPaused (s : State) : State :=
  s.wrB WFT.STS.PAUSED (s.rdB WFT.CTL.PAUSE && s.weft.list.isSome && s.weft.wait.isNone && s.weft.wmark.isNone)

/-- The running list ends (R245, R246): SQ_HEAD advances, LIST_DONE, event DONE with EVT. -/
def State.endList (s : State) (l : WeftList) : State :=
  let s := s.modWeft (fun w => { w with list := none, wait := none, wmark := none, abort := false })
  let s := (((s.wr WFT.LIST_DONE.ID l.id).wrB WFT.STS.BUSY false).wrB WFT.STS.WAITING false).wr WFT.STS.CMD 0
  let s := s.sqPop.weftPaused
  if l.evt then s.event WFT.PAGE 0 else s

/-- ERR and its record (R263). -/
def State.weftErr (s : State) (code cmd id : Nat) : State :=
  let s := ((s.wr WFT.ERR.CODE code).wr WFT.ERR.CMD cmd).wr WFT.ERR_LIST.ID id
  (s.event WFT.PAGE 1).logc WFT.PAGE code (s.rd WFT.ERR) id

/-- A command fails and ends its list (R263). -/
def State.weftFail (s : State) (l : WeftList) (code : Nat) : State :=
  ((s.bump WFT.STAT_ERR).weftErr code l.cmd l.id).endList l

/-- A command completes: the next one, the end of the list, or an abort at this boundary (R263, R264). -/
def State.weftNext (s : State) (l : WeftList) : State :=
  let s := s.bump WFT.STAT_CMD
  let l := { l with cmd := l.cmd + 1 }
  let s := (s.modWeft (fun w => { w with list := some l })).wr WFT.STS.CMD l.cmd
  if l.count ≤ l.cmd then s.endList l
  else if s.weft.abort then (s.weftErr 0x7B l.cmd l.id).endList l
  else s.weftPaused

/-- The fields of a descriptor (R246), when they are legal: LIST, COUNT, ID, FRAME, TIMED, EVT. -/
structure WeftDesc where
  list : Nat
  count : Nat
  id : Nat
  frame : Nat
  timed : Bool
  evt : Bool
  deriving DecidableEq, Repr

/-- Read a descriptor. -/
def weftDesc (bs : List Byte) : WeftDesc × Bool :=
  let fl := leAt bs 20 4
  ({ list := leAt bs 0 8, count := leAt bs 8 2, id := leAt bs 12 4, frame := leAt bs 16 4, timed := bit fl 0, evt := bit fl 1 },
   leAt bs 0 8 < 2 ^ 37 ∧ leAt bs 0 8 % 64 = 0 ∧ leAt bs 8 2 ≠ 0 ∧ leAt bs 10 2 = 0 ∧ fl < 4 ∧ leAt bs 24 8 = 0)

/-- No list waits at the head for its frame: it started, was skipped, or was withdrawn. -/
def State.noWait (s : State) : State := (s.modWeft (fun w => { w with waitFrame := false })).wrB WFT.STS.WAITING false

/-- The list of a descriptor begins with start frame `fs` (R247); an active leaf tells its partner (R376). -/
def State.startList (s : State) (d : WeftDesc) (fs : Nat) : State :=
  let l : WeftList := { addr := d.list, count := d.count, id := d.id, fs := fs, evt := d.evt, cmd := 0, no := s.weft.listNo }
  let s := s.noWait.modWeft (fun w => { w with list := some l, listNo := w.listNo + 1, abort := false })
  let s := (s.wrB WFT.STS.BUSY true).wr WFT.STS.CMD 0
  let s := if s.role = 2 then
      s.mirror ([0x03] ++ zeros 3 ++ beBytes 8 s.stamp ++ beBytes 4 d.id ++ beBytes 4 fs)
    else s
  s.weftPaused

/-- The head descriptor of list `id` is skipped (R247, R263). -/
def State.skipList (s : State) (id code : Nat) : State := ((s.bump WFT.STAT_ERR).weftErr code 0 id).sqPop.noWait

/-- A list waits at the head for its frame. -/
def State.waitFrame (s : State) : State := (s.modWeft (fun w => { w with waitFrame := true })).wrB WFT.STS.WAITING true

/-- A standby's list of a descriptor starts at the instant of the active leaf's record, with its FS; a list of another identity
there is out of order (R376). -/
def State.startMirrored (s : State) (d : WeftDesc) : State :=
  match s.leaf.weftStart with
  | [] => s
  | g :: rest =>
    if !s.reached g.line g.frame then s
    else
      let s := (s.dueAt g.line g.frame g.wc).modLeaf (fun l => { l with weftStart := rest })
      if g.id = d.id then s.startList d g.fs else (s.logc LEF.PAGE 0xCA s.lefSts g.id).toSyncing

/-- An active leaf's list of a descriptor starts, at once or from the frame that it names (R247). -/
def State.startTimed (s : State) (d : WeftDesc) : State :=
  if !d.timed then s.startList d s.clk.frame.toNat
  else
    let late := sdiff32 s.clk.frame.toNat d.frame
    if late < 0 then s.waitFrame
    else if late = 0 ∨ s.weft.waitFrame then s.startList d d.frame
    else (s.startList d d.frame).logc WFT.PAGE 0x79 d.frame d.id

/-- The list of the head descriptor at `a` starts, waits for its frame, or is skipped (R247, R263). -/
def State.takeHead (s : State) (a : Nat) (d : WeftDesc) (ok : Bool) : State :=
  match s.readFault a 32 .latency with
  | some s => s.skipList d.id 0x77
  | none => if !ok then s.skipList d.id 0x7A else if s.isStandby then s.startMirrored d else s.startTimed d

/-- WEFT_LIST_START (R247, R376): the head descriptor's list starts, waits for its frame, or is skipped. The standby starts
it by the active leaf's record, with the active leaf's FS. -/
def execWeftListStart (s : State) : Out :=
  if !s.rdB WFT.CTL.ENA || !s.mode.power.weaves || s.weft.list.isSome || s.weftHeld ||
      s.rd WFT.SQ_HEAD.INDEX == s.rd WFT.SQ_TAIL.INDEX then .next s
  else
    let a := s.addr37 WFT.SQ_BASE_LO WFT.SQ_BASE_HI + 32 * s.rd WFT.SQ_HEAD.INDEX
    let d := weftDesc (s.hbmRd a 32)
    .next (s.takeHead a d.1 d.2)

/-! ### Commands (R248, R249, R255, R256) -/

/-- A command's fields (R248). -/
structure WeftCmd where
  op : Nat
  flags : Nat
  dfmt : Nat
  sfmt : Nat
  dpitch : Nat
  dbase : Nat
  spitch : Nat
  sbase : Nat
  dx : Nat
  dy : Nat
  w : Nat
  h : Nat
  sx : Nat
  sy : Nat
  c0 : Nat
  c1 : Nat
  arg : Nat
  pat : Nat
  rsv : Nat

/-- Read a command's 64 bytes (R248). -/
def weftCmd (b : List Byte) : WeftCmd where
  op := leAt b 0 1
  flags := leAt b 1 1
  dfmt := leAt b 2 1
  sfmt := leAt b 3 1
  dpitch := leAt b 4 4
  dbase := leAt b 8 8
  spitch := leAt b 16 4
  rsv := leAt b 20 4
  sbase := leAt b 24 8
  dx := leAt b 32 2
  dy := leAt b 34 2
  w := leAt b 36 2 + 1
  h := leAt b 38 2 + 1
  sx := leAt b 40 2
  sy := leAt b 42 2
  c0 := leAt b 44 4
  c1 := leAt b 48 4
  arg := leAt b 52 4
  pat := leAt b 56 8

/-- The operation has a destination (R249). -/
def WeftCmd.hasDst (c : WeftCmd) : Bool := decide (1 ≤ c.op) && decide (c.op ≤ 7)

/-- The operation has a source (R249). -/
def WeftCmd.hasSrc (c : WeftCmd) : Bool := [1, 5, 7].contains c.op

/-- The operation has a rectangle (R249). -/
def WeftCmd.hasRect (c : WeftCmd) : Bool := [1, 2, 3, 5, 6, 7].contains c.op

/-- DPLANE. -/
def WeftCmd.dplane (c : WeftCmd) : Bool := bit c.flags 0

/-- SPLANE. -/
def WeftCmd.splane (c : WeftCmd) : Bool := bit c.flags 1

/-- A surface's fields are legal: an unused one is 0; a plane has an index and no format or pitch (R248). -/
def surfFields (used plane : Bool) (fmt pitch base : Nat) : Bool :=
  if !used then !plane && fmt == 0 && pitch == 0 && base == 0
  else if plane then fmt == 0 && pitch == 0 && decide (base < 4096)
  else decide (base < 2 ^ 37)

/-- ARG carries only the bits the operation uses (R249). -/
def WeftCmd.argOk (c : WeftCmd) : Bool :=
  if c.op = 5 then decide (c.arg < 256)
  else if c.op = 6 then true
  else if 8 ≤ c.op then decide (c.arg < 2 ^ 24) && bits c.arg 15 14 == 0
  else c.arg == 0

/-- Reserved bits and unused fields are 0 (R248). -/
def WeftCmd.fieldsOk (c : WeftCmd) : Bool :=
  decide (c.flags < 8) && (c.op == 3 || !bit c.flags 2) && c.rsv == 0 &&
  surfFields c.hasDst c.dplane c.dfmt c.dpitch c.dbase && surfFields c.hasSrc c.splane c.sfmt c.spitch c.sbase &&
  (c.hasDst || (c.dx == 0 && c.dy == 0)) && (c.hasRect || (c.w == 1 && c.h == 1)) &&
  (c.hasSrc || c.op == 4 || (c.sx == 0 && c.sy == 0)) && ([2, 3, 4, 6].contains c.op || c.c0 == 0) &&
  (c.op == 3 || (c.c1 == 0 && c.pat == 0)) && c.argOk

/-- A surface (R255, R256): raw, or the in-force plane of an index. -/
structure Surf where
  base : Nat
  pitch : Nat
  fmt : Nat
  plane : Option (Nat × Plane)
  deriving DecidableEq, Repr

/-- The surface a command names; `none` for a plane that is not enabled. -/
def State.surf (s : State) (plane : Bool) (fmt pitch base : Nat) : Option Surf :=
  if plane then (s.plane base).map (fun p => { base := 0, pitch := p.pitch, fmt := p.format, plane := some (base, p) })
  else some { base := base, pitch := pitch, fmt := fmt, plane := none }

/-- A raw surface's address and pitch are aligned (R255). -/
def Surf.aligned (f : Surf) : Bool :=
  f.plane.isSome || (f.base % fmtAlign f.fmt == 0 && f.pitch % fmtAlign f.fmt == 0)

/-- The first byte past a raw rectangle (R255). -/
def Surf.lastByte (f : Surf) (x y w h : Nat) : Nat := f.base + (y + h - 1) * f.pitch + (x + w) * fmtBpp f.fmt

/-- A rectangle lies within the surface's bounds (R255, R256). -/
def Surf.inBounds (f : Surf) (x y w h : Nat) : Bool :=
  match f.plane with
  | some (_, p) => decide (x + w ≤ 64 * p.wt) && decide (y + h ≤ 64 * p.ht)
  | none =>
    decide (f.pitch ≤ 131072) && decide (x + w ≤ 32768) && decide (y + h ≤ 16384) &&
    decide ((x + w) * fmtBpp f.fmt ≤ f.pitch) && decide (f.lastByte x y w h ≤ hbmSize)

/-- The storage of a plane, both banks (R73, R98). -/
def planeRanges (p : Plane) : List (Nat × Nat) := [0, 1].map (fun b => (planeBank p b, planeBankMin p))

/-- The raw address range of a rectangle meets the storage of an in-force plane (R256). -/
def State.hitsPlane (s : State) (f : Surf) (x y w h : Nat) : Bool :=
  match f.plane with
  | some _ => false
  | none =>
    let lo := f.base + y * f.pitch + x * fmtBpp f.fmt
    let hi := f.lastByte x y w h
    (enabledPlanes s.scene.planes).any (fun ip => (planeRanges ip.2).any (fun r => decide (lo < r.1 + r.2) && decide (r.1 < hi)))

/-- The HBM address of a pixel: of a plane, in the active bank of its tile (R256). -/
def State.surfPix (s : State) (f : Surf) (x y : Nat) : Nat :=
  match f.plane with
  | none => f.base + y * f.pitch + x * fmtBpp f.fmt
  | some (_, p) => planePix p (b2n (s.entry (p.tileBase + y / 64 * p.wt + x / 64)).slot) x y

/-- The byte addresses of `w` pixels of a row. -/
def State.rowAddrs (s : State) (f : Surf) (x y w : Nat) : List Nat :=
  (List.range w).flatMap (fun i => (List.range (fmtBpp f.fmt)).map (fun b => s.surfPix f (x + i) y + b))

/-- The two surfaces are the same (R259). -/
def Surf.same (a b : Surf) : Bool :=
  match a.plane, b.plane with
  | some (i, _), some (j, _) => i == j
  | none, none => a.base == b.base && a.pitch == b.pitch && a.fmt == b.fmt
  | _, _ => false

/-- Two raw rectangles' rows share a byte, or two plane rectangles a pixel. -/
def meets (a b : Surf) (ax ay bx by_ w h : Nat) : Bool :=
  match a.plane, b.plane with
  | some (i, _), some (j, _) =>
    i == j && decide (ax < bx + w) && decide (bx < ax + w) && decide (ay < by_ + h) && decide (by_ < ay + h)
  | none, none => (List.range h).any (fun i =>
      let lo := a.base + (ay + i) * a.pitch + ax * fmtBpp a.fmt
      let hi := lo + w * fmtBpp a.fmt
      (List.range h).any (fun j =>
        let l2 := b.base + (by_ + j) * b.pitch + bx * fmtBpp b.fmt
        decide (lo < l2 + w * fmtBpp b.fmt) && decide (l2 < hi)))
  | _, _ => false

/-- The destination rectangle of a command: of a LINE, the box of its end points. -/
def WeftCmd.box (c : WeftCmd) : Nat × Nat × Nat × Nat :=
  if c.op = 4 then (min c.dx c.sx, min c.dy c.sy, max c.dx c.sx - min c.dx c.sx + 1, max c.dy c.sy - min c.dy c.sy + 1)
  else (c.dx, c.dy, c.w, c.h)

/-- The checks of a command before its first write (R255, R256, R259, R263): the code it fails with, or its surfaces. The
spec gives no order among them. -/
def State.weftCheck (s : State) (c : WeftCmd) : Except Nat (Surf × Surf) :=
  let (x, y, w, h) := c.box
  if 9 < c.op ∨ !c.fieldsOk then .error 0x70
  else if 8 ≤ c.op ∧ 8639 < bits c.arg 13 0 then .error 0x73
  else if !c.hasDst then .ok (⟨0, 0, 4, none⟩, ⟨0, 0, 4, none⟩)
  else match s.surf c.dplane c.dfmt c.dpitch c.dbase,
      (if c.hasSrc then s.surf c.splane c.sfmt c.spitch c.sbase else s.surf c.dplane c.dfmt c.dpitch c.dbase) with
    | some d, some r =>
      if !fmtPacked d.fmt || !fmtPacked r.fmt || (c.op == 1 && d.fmt != r.fmt) then .error 0x71
      else if !d.aligned || !r.aligned then .error 0x72
      else if !d.inBounds x y w h || (c.hasSrc && !r.inBounds c.sx c.sy c.w c.h) then .error 0x73
      else if (c.dplane && !s.rdB WFT.WR_CTL.PLANE_ENA) || s.hitsPlane d x y w h ||
          (c.hasSrc && s.hitsPlane r c.sx c.sy c.w c.h) then .error 0x75
      else if c.hasSrc && !(c.op == 1 && d.same r) && meets d r c.dx c.dy c.sx c.sy c.w c.h then .error 0x74
      else .ok (d, r)
    | _, _ => .error 0x75

/-! ### Rows and bursts (R250-R254, R257, R259) -/

/-- One destination row: first pixel, row, pixels; which of its pixels are written; the bytes read for `n` pixels from pixel
`i`; and the bytes of those pixels as the memory `m` stands. -/
structure RowOp where
  x : Nat
  y : Nat
  w : Nat
  mask : Nat → Bool
  reads : (i n : Nat) → List Nat
  data : (m : Table Byte) → (i n : Nat) → List Byte

/-- HBM with every burst that has been issued. -/
def State.weftView (s : State) : Table Byte :=
  s.weft.bursts.foldl (fun m b => tsets memDefault m b.addr b.bytes) s.ram.hbm

/-- Consecutive addresses of one 64-byte line (R257), in order. -/
def lineRuns : List (Nat × Nat) → List (List (Nat × Nat))
  | [] => []
  | p :: ps =>
    match lineRuns ps with
    | [] => [[p]]
    | [] :: rs => [p] :: rs
    | (q :: r) :: rs => if q.1 = p.1 + 1 ∧ q.1 / 64 = p.1 / 64 then (p :: q :: r) :: rs else [p] :: (q :: r) :: rs

/-- The bursts of a row: each the (address, offset in the row) pairs of its bytes. -/
def State.rowRuns (s : State) (f : Surf) (r : RowOp) : List (List (Nat × Nat)) :=
  let bpp := fmtBpp f.fmt
  lineRuns (((s.rowAddrs f r.x r.y r.w).zipIdx).filter (fun ao => r.mask (ao.2 / bpp)))

/-- The plane pixels of a burst (R257, R258). -/
def State.burstPlane (s : State) (f : Surf) (r : RowOp) (o n : Nat) : Option BurstPlane :=
  f.plane.map (fun ip =>
    let bpp := fmtBpp f.fmt
    let x0 := r.x + o / bpp
    { plane := ip.1, epoch := s.epochOf ip.1, handle := ip.2.tileBase + r.y / 64 * ip.2.wt + x0 / 64, x := x0, y := r.y,
      n := (o + n - 1) / bpp - o / bpp + 1 })

/-- Issue the bursts of rows in order (R257): the bursts, and the first uncorrectable burst read. -/
def State.runRows (s : State) (l : WeftList) (f : Surf) (rightLeft : Bool) (rows : List RowOp) :
    Table Byte × List Burst × Option Nat :=
  rows.foldl (fun acc r =>
    let runs := s.rowRuns f r
    (if rightLeft then runs.reverse else runs).foldl (fun acc run =>
      let (m, out, bad) := acc
      if bad.isSome then acc
      else match run with
      | [] => acc
      | (a, o) :: _ =>
        let bpp := fmtBpp f.fmt
        let n := run.length
        let i := o / bpp
        let cnt := (o + n - 1) / bpp - i + 1
        match (r.reads i cnt).findSome? (fun a => s.firstBad a 1) with
        | some k => (m, out, some k)
        | none =>
          let bs := slice (r.data m i cnt) (o - i * bpp) n
          (tsets memDefault m a bs,
           out ++ [{ addr := a, bytes := bs, no := l.no, id := l.id, cmd := l.cmd, plane := s.burstPlane f r o n }], none))
      acc) (s.weftView, [], none)

/-- The rows of a command issue their bursts, and the command completes or fails with code 0x77 (R263). -/
def State.issueRows (s : State) (l : WeftList) (parts : List (Surf × Bool × List RowOp)) : State :=
  let r := parts.foldl (fun (acc : State × Option Nat) p =>
    if acc.2.isSome then acc
    else
      let (_, out, bad) := acc.1.runRows l p.1 p.2.1 p.2.2
      (acc.1.modWeft (fun w => { w with bursts := w.bursts ++ out }), bad)) (s, none)
  match r.2 with
  | some k => (r.1.uncorrectable (32 * k) .latency).weftFail l 0x77
  | none => r.1.weftNext l

/-- The bytes at a list of addresses. -/
def readAt (m : Table Byte) (as : List Nat) : List Byte := as.map (tget memDefault m)

/-- Rows of a constant or patterned colour: `px` gives the pixel at destination (x, y), none where nothing is written. -/
def fillRows (fmt x y w h : Nat) (px : Nat → Nat → Option Nat) : List RowOp :=
  (List.range h).map (fun j => {
    x := x, y := y + j, w := w
    mask := fun i => (px (x + i) (y + j)).isSome
    reads := fun _ _ => []
    data := fun _ i n => (List.range n).flatMap (fun k => pixBytes fmt ((px (x + i + k) (y + j)).getD 0)) })

/-- Rows that copy bytes from the source surface (R259): rows from last to first when `up`. -/
def State.copyRows (s : State) (src : Surf) (dx dy sx sy w h : Nat) (up : Bool) : List RowOp :=
  let js := if up then (List.range h).reverse else List.range h
  js.map (fun j => {
    x := dx, y := dy + j, w := w, mask := fun _ => true
    reads := fun i n => s.rowAddrs src (sx + i) (sy + j) n
    data := fun m i n => readAt m (s.rowAddrs src (sx + i) (sy + j) n) })

/-- The pixel value of a pixel's bytes. -/
def State.pixAt (s : State) (m : Table Byte) (f : Surf) (x y : Nat) : Nat := leNat (readAt m (s.rowAddrs f x y 1))

/-- Rows of a pixel-wise operation on source and destination pixels. -/
def State.mapRows (s : State) (dst src : Surf) (c : WeftCmd) (readsDst : Bool) (f : Nat → Nat → Nat) : List RowOp :=
  (List.range c.h).map (fun j => {
    x := c.dx, y := c.dy + j, w := c.w, mask := fun _ => true
    reads := fun i n => s.rowAddrs src (c.sx + i) (c.sy + j) n ++
      (if readsDst then s.rowAddrs dst (c.dx + i) (c.dy + j) n else [])
    data := fun m i n => (List.range n).flatMap (fun k =>
      pixBytes dst.fmt (f (s.pixAt m src (c.sx + i + k) (c.sy + j)) (s.pixAt m dst (c.dx + i + k) (c.dy + j)))) })

/-- A channel widened to 16 bits (R252). -/
def wide16 (nv : Nat × Nat) : Nat := chanConv nv.1 16 nv.2

/-- BLEND of a source pixel over a destination pixel (R252). -/
def blendPix (sf df ga src dst : Nat) : Nat :=
  let a := (pixSplit sf src).map wide16
  let b := (pixSplit df dst).map wide16
  let as := (a.getD 0 0 * ga + 127) / 255
  let t := 65535 - as
  let col (k : Nat) : Nat := (a.getD k 0 * as + b.getD k 0 * t + 32767) / 65535
  pixBuild df [(16, as + (b.getD 0 0 * t + 32767) / 65535), (16, col 1), (16, col 2), (16, col 3)]

/-- The points of LINE (R254), in drawing order. -/
def linePoints (sx sy : Int) (steep : Bool) (maj mnr : Int) : (n : Nat) → (x y e : Int) → List (Nat × Nat)
  | 0, _, _, _ => []
  | n + 1, x, y, e =>
    let (x1, y1, e1) := if 0 ≤ e then (if steep then (x + sx, y, e - 2 * maj) else (x, y + sy, e - 2 * maj)) else (x, y, e)
    let (x2, y2) := if steep then (x1, y1 + sy) else (x1 + sx, y1)
    (x.toNat, y.toNat) :: linePoints sx sy steep maj mnr n x2 y2 (e1 + 2 * mnr)

/-- The points from (x0, y0) to (x1, y1) (R254). -/
def linePts (x0 y0 x1 y1 : Nat) : List (Nat × Nat) :=
  let dx : Int := (x1 : Int) - x0
  let dy : Int := (y1 : Int) - y0
  let ax : Int := dx.natAbs
  let ay : Int := dy.natAbs
  let maj := max ax ay
  let mnr := min ax ay
  linePoints (if dx < 0 then -1 else 1) (if dy < 0 then -1 else 1) (decide (ax < ay)) maj mnr (maj.toNat + 1) x0 y0
    (2 * mnr - maj)

/-! ### The ten operations -/

/-- The running list at a command boundary whose command has operation `p`, with the command; an uncorrectable read of the
command itself fails it. -/
def State.weftAt (s : State) (p : Nat → Bool) (act : State → WeftList → WeftCmd → State) : State :=
  match s.weft.list with
  | none => s
  | some l =>
    if s.weft.wait.isSome || s.weft.wmark.isSome || s.weftHeld || !s.mode.power.weaves then s
    else
      let a := l.addr + 64 * l.cmd
      let c := weftCmd (s.hbmRd a 64)
      match s.readFault a 64 .latency with
      | some s => s.weftFail l 0x77
      | none => if p c.op then act s l c else s

/-- A command that passes its checks acts on its surfaces; one that fails writes nothing (R255). -/
def State.weftRun (s : State) (op : Nat) (act : State → WeftList → WeftCmd → Surf → Surf → State) : State :=
  s.weftAt (· == op) (fun s l c => match s.weftCheck c with
    | .error code => s.weftFail l code
    | .ok (d, r) => act s l c d r)

/-- WEFT_NOP (R249). An OP value of 0x0A to 0xFF is no operation at all, and its command fails with code 0x70 (R263). -/
def execWeftNop (s : State) : Out :=
  .next (s.weftAt (fun op => op == 0 || decide (9 < op)) (fun s l c => match s.weftCheck c with
    | .error code => s.weftFail l code
    | .ok _ => s.weftNext l))

/-- WEFT_COPY (R249, R259). -/
def execWeftCopy (s : State) : Out :=
  .next (s.weftRun 1 (fun s l c d r =>
    let ov := d.same r
    s.issueRows l [(d, ov && decide (c.sx < c.dx),
      s.copyRows r c.dx c.dy c.sx c.sy c.w c.h (ov && decide (c.sy < c.dy)))]))

/-- WEFT_FILL (R249, R251). -/
def execWeftFill (s : State) : Out :=
  .next (s.weftRun 2 (fun s l c d _ =>
    s.issueRows l [(d, false, fillRows d.fmt c.dx c.dy c.w c.h (fun _ _ => some (pixConv 4 d.fmt c.c0)))]))

/-- WEFT_PFILL (R253). -/
def execWeftPfill (s : State) : Out :=
  .next (s.weftRun 3 (fun s l c d _ =>
    s.issueRows l [(d, false, fillRows d.fmt c.dx c.dy c.w c.h (fun x y =>
      if bit c.pat (8 * (y % 8) + x % 8) then some (pixConv 4 d.fmt c.c1)
      else if bit c.flags 2 then none else some (pixConv 4 d.fmt c.c0)))]))

/-- WEFT_LINE (R254). -/
def execWeftLine (s : State) : Out :=
  .next (s.weftRun 4 (fun s l c d _ =>
    s.issueRows l [(d, false, (linePts c.dx c.dy c.sx c.sy).flatMap (fun xy =>
      fillRows d.fmt xy.1 xy.2 1 1 (fun _ _ => some (pixConv 4 d.fmt c.c0))))]))

/-- WEFT_BLEND (R252). -/
def execWeftBlend (s : State) : Out :=
  .next (s.weftRun 5 (fun s l c d r =>
    s.issueRows l [(d, false, s.mapRows d r c true (blendPix r.fmt d.fmt c.arg))]))

/-- WEFT_SCROLL (R250): the copy within the destination, then the fill of what it did not write. -/
def execWeftScroll (s : State) : Out :=
  .next (s.weftRun 6 (fun s l c d _ =>
    let sdx := sgn 16 c.arg
    let sdy := sgn 16 (c.arg / 65536)
    let col := pixConv 4 d.fmt c.c0
    if c.w ≤ sdx.natAbs ∨ c.h ≤ sdy.natAbs then
      s.issueRows l [(d, false, fillRows d.fmt c.dx c.dy c.w c.h (fun _ _ => some col))]
    else
      let w := c.w - sdx.natAbs
      let h := c.h - sdy.natAbs
      let (sx, sy) := (c.dx + (-sdx).toNat, c.dy + (-sdy).toNat)
      let (dx, dy) := (c.dx + sdx.toNat, c.dy + sdy.toNat)
      s.issueRows l [
        (d, decide (sx < dx), s.copyRows d dx dy sx sy w h (decide (sy < dy))),
        (d, false, fillRows d.fmt c.dx c.dy c.w c.h (fun x y =>
          if dx ≤ x ∧ x < dx + w ∧ dy ≤ y ∧ y < dy + h then none else some col))]))

/-- WEFT_CONVERT (R251). -/
def execWeftConvert (s : State) : Out :=
  .next (s.weftRun 7 (fun s l c d r =>
    s.issueRows l [(d, false, s.mapRows d r c false (fun px _ => pixConv r.fmt d.fmt px))]))

/-! ### Racing the beam (R260, R261) -/

/-- The band read of line `line` of frame `frame` has started (R157, R260): it starts 28 wc into the line before it. -/
def State.bandReadPast (s : State) (line frame : Nat) : Bool :=
  let d := sdiff32 s.clk.frame.toNat frame
  let l := s.clk.line.toNat
  let wc := s.clk.wc.toNat
  if line = 0 then decide (0 ≤ d) || (d == -1 && l + 1 == s.vtotal && decide (28 ≤ wc))
  else decide (0 < d) || (d == 0 && (decide (line ≤ l) || (l + 1 == line && decide (28 ≤ wc))))

/-- The frame FS + FREL that a WAIT or WMARK names. -/
def WeftList.frameOf (l : WeftList) (c : WeftCmd) : Nat := (l.fs + bits c.arg 23 16) % 2 ^ 32

/-- WEFT_WAIT (R260). -/
def execWeftWait (s : State) : Out :=
  .next (s.weftRun 8 (fun s l c _ _ =>
    let line := bits c.arg 13 0
    if s.bandReadPast line (l.frameOf c) then s.weftNext l
    else
      (s.modWeft (fun w => { w with wait := some (line, BitVec.ofNat 32 (l.frameOf c)) })).wrB WFT.STS.WAITING true))

/-- WEFT_WAIT_END (R260): the awaited band read has started. -/
def execWeftWaitEnd (s : State) : Out :=
  match s.weft.wait, s.weft.list with
  | some (line, frame), some l =>
    if s.bandReadPast line frame.toNat then
      .next (((s.modWeft (fun w => { w with wait := none })).wrB WFT.STS.WAITING false).weftNext l)
    else .next s
  | _, _ => .next s

/-- WEFT_WMARK (R261): waits for every earlier burst; Lintel checks the mark at its band read. One issued after that band
read was not reached by it, and is late at once. -/
def execWeftWmark (s : State) : Out :=
  .next (s.weftRun 9 (fun s l c _ _ =>
    let line := bits c.arg 13 0
    let frel := bits c.arg 23 16
    let s := s.modWeft (fun w => { w with wmark := some (line, frel) })
    if s.bandReadPast line (l.frameOf c) then s.markLate line frel
    else s.modWeft (fun w => { w with marks := w.marks ++ [⟨line, l.frameOf c, frel, none⟩] })))

/-- WMARK_REACHED (R261): every earlier burst has completed; the mark is recorded in WM_STS. One whose band read has passed
already was late. -/
def execWmarkReached (s : State) : Out :=
  match s.weft.wmark, s.weft.list with
  | some (line, frel), some l =>
    if s.weft.bursts ≠ [] then .next s
    else
      let mine (m : WeftMark) : Bool :=
        m.line == line && m.frel == frel && m.frame == (l.fs + frel) % 2 ^ 32 && m.reached.isNone
      let late := !s.weft.marks.any mine
      let s := s.modWeft (fun w => { w with
        wmark := none, marks := w.marks.map (fun m => if mine m then { m with reached := some s.clk.now } else m) })
      let s := ((s.wr WFT.WM_STS.LINE line).wr WFT.WM_STS.FREL frel).wrB WFT.WM_STS.LATE late
      .next (s.weftNext l)
  | _, _ => .next s

/-! ### Burst completion (R257, R258) -/

/-- The cache words of `n` pixels from (x, y) as memory holds them now, put into a cell (R141, R257). -/
def State.patchCell (s : State) (p : Plane) (bank x y n : Nat) (c : Cell) : Cell :=
  { c with words := (List.range n).foldl (fun ws i =>
      ws.set (y % 16 * 64 + (x + i) % 64)
        (BitVec.ofNat 32 (leNat (s.hbmRd (planePix p bank (x + i) y) (fmtBpp p.format))))) c.words }

/-- A plane write is forwarded to each die's resident cell that covers it, under the hold-off of 8 wc (R257, R94). -/
def State.forward (s : State) (b : BurstPlane) (p : Plane) (bank : Nat) : State :=
  let keys := ([0, 1].map (fun die => cellKey die b.plane (b.y / 16) (b.x / 64))).filter
    (fun k => (tget (fun _ => Cell.absent) s.wv.cells k).resident)
  let cell (k : Nat) : Cell := tget (fun _ => Cell.absent) s.wv.cells k
  let s' := s.modScene (fun c => { c with
    recent := { at_ := s.clk.now, commit := false, handle := b.handle, old := s.entry b.handle,
                cells := keys.map (fun k => (k, (cell k).words, (cell k).fault)) }
      :: c.recent.filter (fun r => decide (s.clk.now < r.at_ + 8)) })
  s'.modWv (fun w => { w with
    cells := keys.foldl (fun t k => tset (fun _ => Cell.absent) t k (s.patchCell p bank b.x b.y b.n (cell k))) w.cells })

/-- A burst whose plane's epoch changed since its issue is never written, and its command fails with code 0x76 (R258); the
list ends when it still runs. -/
def State.dropBurst (s : State) (b : Burst) : State :=
  let more := s.weft.bursts.filter (fun x => !(x.no == b.no && x.cmd == b.cmd))
  let s := (s.modWeft (fun w => { w with bursts := more })).commitReady
  match s.weft.list with
  | some l =>
    if l.no = b.no then s.weftFail { l with cmd := b.cmd } 0x76 else (s.bump WFT.STAT_ERR).weftErr 0x76 b.cmd b.id
  | none => (s.bump WFT.STAT_ERR).weftErr 0x76 b.cmd b.id

/-- WEFT_BURST_COMPLETE (R257, R258, R233, R376): the oldest burst reaches memory. -/
def execWeftBurstComplete (s : State) : Out :=
  match s.weft.bursts with
  | [] => .next s
  | b :: rest =>
    if s.mem.sealed then .next s
    else
    let s := s.modWeft (fun w => { w with bursts := rest })
    match b.plane with
    | none => .next (s.hbmWr b.addr b.bytes)
    | some bp =>
      match s.plane bp.plane with
      | none => .next (s.dropBurst b)
      | some p =>
        if s.epochOf bp.plane ≠ bp.epoch then .next (s.dropBurst b)
        else
          let bank := b2n (s.entry bp.handle).slot
          let s := ((s.hbmWr b.addr b.bytes).forward bp p bank).setDirty bp.handle
          let s := s.modWeft (fun w => { w with wg := w.wg + 1 })
          .next (s.diverge bp.plane p bp.x (bp.x + bp.n - 1) bp.y bp.y).commitReady.resample

/-! ### Register writes (R264, R265) -/

/-- A write of SQ_TAIL (R245, R265): outside the queue's index range it is ignored and logged. One that withdraws the list
at the head leaves none waiting there. -/
def wrSqTail (path : Path) (v : Nat) (s : State) : WrRes :=
  if s.sqSize ≤ v % 4096 then ign28 path WFT.PAGE WFT.SQ_TAIL.INDEX.off v s
  else
    let s := s.wr WFT.SQ_TAIL.INDEX v
    okW (if s.weft.waitFrame ∧ s.rd WFT.SQ_HEAD.INDEX = s.rd WFT.SQ_TAIL.INDEX then s.noWait else s)

/-- A write of SQ_BASE or SQ_SIZE (R265): only with ENA = 0 and the queue empty. -/
def wrSqBase (path : Path) (off v : Nat) (s : State) : WrRes :=
  if s.rdB WFT.CTL.ENA || s.rd WFT.SQ_HEAD.INDEX != s.rd WFT.SQ_TAIL.INDEX then ign28 path WFT.PAGE off v s
  else okW (s.plainWrite WFT.PAGE off 0 v)

/-- A write of WFT.CTL (R263, R264): ABORT ends the current list at its next command boundary, with code 0x7B. -/
def wrWftCtl (v : Nat) (s : State) : WrRes :=
  let s := ((s.wr WFT.CTL.ENA v).wrB WFT.CTL.PAUSE (bit v 1)).weftPaused
  match s.weft.list with
  | some l =>
    if !bit v 2 then okW s
    else if s.weft.wait.isSome || s.weft.wmark.isSome then okW (s.modWeft (fun w => { w with abort := true }))
    else okW ((s.weftErr 0x7B l.cmd l.id).endList l)
  | none => okW s

/-- A warm reset, or the power-fail warning (R263, R33): the queue is lost. -/
def State.weftReset (s : State) : State :=
  let s := s.modWeft (fun w => { w with
    list := none, waitFrame := false, wait := none, wmark := none, marks := [], bursts := [], abort := false })
  ((s.wr WFT.SQ_HEAD.INDEX 0).wr WFT.SQ_TAIL.INDEX 0).wr WFT.STS 0

end Sys2Proof.Machine
end

