-- ==== Sys2Proof/Machine/Power.lean ====
section
/-! DEFINITION. Feeds and holdup (R30-R37), the power-fail warning (R33, R401), the panel's rails and the Sill raster (R56-R64,
R220, R221), the discharge (R239, R240), and warm and module resets as requests (R67, R68). -/

namespace Sys2Proof.Machine

/-! ### Feeds (R30, R31) -/

/-- FEED_A_OK or FEED_B_OK. -/
def feedOkBit (f : Fin 2) : Fld := if f = 0 then SYS.PWR_STS.FEED_A_OK else SYS.PWR_STS.FEED_B_OK

/-- FEED_A_OV or FEED_B_OV. -/
def feedOvBit (f : Fin 2) : Fld := if f = 0 then SYS.PWR_STS.FEED_A_OV else SYS.PWR_STS.FEED_B_OV

/-- SYS.PWR_STS as a read shows it, the relay drive among its bits (R55). -/
def State.pwrSts (s : State) : Nat := setBits (s.rd SYS.PWR_STS) 7 7 (b2n s.relayClosed)

/-- A power record (R484): ARG0 PWR_STS, ARG1 FEED_V, which is a measurement and so a free value. Nothing is logged while no
start has begun. -/
def State.powerLog (s : State) (code : Nat) : State :=
  if s.mode.supply = .on then
    let (v, s) := s.takeFree 32
    s.logc SYS.PAGE code s.pwrSts v.toNat
  else s

/-- FEED_OK (R30): the feed is at 40.0 V or more; its power fault ends. -/
def execFeedOk (feed : Fin 2) (s : State) : Out :=
  .next ((s.wrB (feedOkBit feed) true).modPwr (fun p => { p with pfFeed := p.pfFeed.set feed false }))

/-- A holdup measurement under way ends without a result: the two feeds no longer carry the load (R35; log entry 174). -/
def State.stopMeasure (s : State) : State := s.modPwr (fun p => { p with measuring := false })

/-- FEED_LOST (R30, R31): below 38.0 V for 1 ms, or reversed; a power fault, code 0x2C. -/
def execFeedLost (feed : Fin 2) (s : State) : Out :=
  if s.pwr.pfFeed[feed] ∧ s.rdB (feedOkBit feed) = false then .next s
  else
    let s := s.stopMeasure
    .next (((s.wrB (feedOkBit feed) false).modPwr (fun p => { p with pfFeed := p.pfFeed.set feed true })).powerLog 0x2C)

/-- FEED_OVERVOLTAGE (R30): above 62.0 V for 100 us; the path opens, a power fault, code 0x2D. -/
def execFeedOvervoltage (feed : Fin 2) (s : State) : Out :=
  let s := s.stopMeasure
  .next (((s.wrB (feedOvBit feed) true).modPwr (fun p => { p with pfOv := p.pfOv.set feed true })).powerLog 0x2D)

/-- OVERVOLTAGE_CLEARED (R30): below 60.5 V for 1 s; the path closes. -/
def execOvervoltageCleared (feed : Fin 2) (s : State) : Out :=
  .next ((s.wrB (feedOvBit feed) false).modPwr (fun p => { p with pfOv := p.pfOv.set feed false }))

/-- ALWAYS_ON_RAIL_UP (R56): the bus passes 20 V; the parameter store can be read. -/
def execAlwaysOnRailUp (s : State) : Out :=
  .next (if s.mode.supply = .off then s.modMode (fun m => { m with supply := .aon }) else s)

/-! ### Holdup (R32, R35, R36) -/

/-- The counters that stage 1 advances and that the store refused until now are written (R32, R403). -/
def State.payOwed (s : State) : State :=
  (s.each s.boot.owed (fun s i => s.counterAdd i 1)).modBoot (fun b => { b with owed := [] })

/-- HOLD_RDY (R32, R56): the bank has reached 79.0 V, and the store takes writes. -/
def execHoldRdy (s : State) : Out :=
  if s.mode.supply = .on ∧ s.pwr.charger ∧ s.mode.power ≠ .discharge then
    .next ((s.wrB SYS.PWR_STS.HOLD_RDY true).payOwed.showStage 3)
  else .next s

/-- HOLD_TIMEOUT (R65): no HOLD_RDY within 500 ms: no rails, a power fault, fail code 0x0301; the charge is retried every
10 s. -/
def execHoldTimeout (s : State) : Out :=
  if s.mode.supply = .on ∧ s.mode.power ≠ .discharge ∧ s.rdB SYS.PWR_STS.HOLD_RDY = false then
    .next ((s.modPwr (fun p => { p with pfStart := true, holdTries := p.holdTries + 1 })).startFail 0x0301)
  else .next s

/-- HOLDUP_MEASURE_START (R35): both feeds carry the load. -/
def execHoldupMeasureStart (s : State) : Out :=
  if s.rdB SYS.PWR_STS.HOLD_RDY ∧ s.rdB SYS.PWR_STS.FEED_A_OK ∧ s.rdB SYS.PWR_STS.FEED_B_OK ∧
      s.rdB SYS.PWR_STS.FEED_A_OV = false ∧ s.rdB SYS.PWR_STS.FEED_B_OV = false ∧ s.mode.power ≠ .discharge then
    .next (s.modPwr (fun p => { p with measuring := true }))
  else .next s

/-- Holdup at the 70 W load in 0.1 ms units, from the capacitance in microfarads (R35). -/
def holdMs (cUf : Nat) : Nat := (cUf * (6400 - 1296) / 2 * 9 / 10 - 53000) / 7000 + 2

/-- HOLDUP_MEASURE_DONE (R35, R36): HOLD_MS, and HOLD_DEGR with its power fault and code 0x2E against 250. DESIGN CHOICE (log
entries 174, 175): a result beyond the 16-bit field reads 0xFFFF, and code 0x2E is logged when the fault rises, not again at a
later measurement that still lies below 250. -/
def execHoldupMeasureDone (cUf : BitVec 32) (s : State) : Out :=
  if s.pwr.measuring then
    let ms := min 0xFFFF (holdMs cUf.toNat)
    let degr := decide (ms < 250)
    let was := s.pwr.pfHold
    let s := (s.wr SYS.PWR_STS.HOLD_MS ms).wrB SYS.PWR_STS.HOLD_DEGR degr
    let s := s.modPwr (fun p => { p with measuring := false, pfHold := degr })
    .next (if degr && !was then s.logc SYS.PAGE 0x2E s.pwrSts 0 else s)
  else .next s

/-! ### The power-fail warning (R33, R385, R401, R447) -/

/-- Every halt of a processor ends, and the watchdog runs again (R447, R448). -/
def State.releaseHalts (s : State) : State :=
  let s := s.modBoot (fun b => { b with halted := false, wdgMs := s.clk.now })
  ((s.wrB DBG.STS.HALTED false).wrB SIL.CPU_STS.HALTED false).wrB SIL.CPU_STS.WDG_PAUSED false

/-- The journal's entries that do not wait for the discharge (R401): the log page with the power-fail record, the LIFE_S cell,
and up to 4 further log pages. -/
def State.journalFirst (s : State) : State :=
  let p := logPage ((s.rd NVS.LOG_STS.HEAD + 16383) % 16384)
  let s := s.journalPage p
  let s := (s.counterAdd 1 ((s.clk.now - s.nvs.lifeAt) / 1600000000)).modNvs (fun n => { n with
    lifeAt := s.clk.now, jrnl := n.jrnl + 1 })
  s.each (s.asmPages.take 4) State.journalPage

/-- The ports that stop at once at a power-fail warning after which the panel is handed over (R33, R385): every port but the
Hinge port, which carries DEMOTE. -/
def State.stopPorts (s : State) : State :=
  s.each ((List.range 40).filter (fun p => p != 23 && s.portState p != 0)) (fun s p => s.portOff p)

/-- Fabric and flex ports, raster and Weft stop, and HBM enters self-refresh (R33). -/
def State.stopLoad (s : State) : State :=
  let s := s.each ((List.range 40).filter (fun p => s.portState p != 0)) (fun s p => s.portOff p)
  let s := (s.weftReset).modPwr (fun p => { p with lanesStopped := true })
  (s.modMode (fun m => { m with raster := .off })).selfRefresh 1

/-- POWER_FAIL_WARNING (R33): PF_WARN, the Discharge power state, code 0x2F; the store takes only its journal; halts are
released (R447). An active leaf whose partner is Ready hands the panel over in place of a discharge (R385); its raster runs
until then. -/
def execPowerFailWarning (s : State) : Out :=
  if s.mode.supply ≠ .on ∨ s.mode.power = .discharge then .next s
  else
    let hand := s.canHand
    let ready := s.rdB SYS.PWR_STS.HOLD_RDY
    let s := ((s.wrB SYS.PWR_STS.PF_WARN true).wantDemote 8).setPower .discharge
    let s := s.stopMeasure.modBoot (fun b => { b with starting := false, warm := false, modReset := false, hold := false })
    let s := s.modPanel (fun p => { p with resetPend := none, heaterOn := Vector.replicate 2 false })
    let s := s.nvsWarning
    let s := if ready then s.powerLog 0x2F else s
    let s := if s.boot.halted then s.releaseHalts.logc DBG.PAGE 0xF7 s.dbgSts 0 else s
    let s := if ready then s.journalFirst else s
    if hand then .next ((s.stopPorts.weftReset).modPwr (fun p => { p with lanesStopped := true }))
    else .next s.stopLoad

/-- A module reset waits for its discharge (R67, R239). -/
def State.modulePends (s : State) : Bool := s.panel.resetPend == some .module || s.panel.resetPend == some .trip

/-- TAKEOVER (R386, R387): at τ the roles change. The new active leaf drives the panel with its own FS, phase, band and
planes, and every row is touched in its first settle frame; the old one falls silent. Repairs still queued are lost unless
the takeover was planned, and the rows that lack theirs count in RES_GAP. An active leaf whose partner is no longer Ready at τ
keeps the panel (R392). A leaf whose supply fails stops its load once the panel is the partner's (R33); one that takes over in
Shutter sends nothing before its SHUTTER_EXIT (R388). -/
def execTakeover (s : State) : Out :=
  match s.leaf.tau with
  | none => .next s
  | some t =>
    if !s.reached t.line t.frame then .next s else
    let s := s.dueAt t.line t.frame 64
    let gap := (s.leaf.diverge.map (fun d => rowKey d.half d.line)).eraseDups.length
    let keep := t.giveUp && s.rd LEF.STS.PARTNER_ROLE != 4
    let s := s.modLeaf (fun l => { l with tau := none, demoteCause := 0 })
    let planned := plannedCause t.cause
    if keep then .next (if s.nvs.jrnlOn then s.stopLoad
      else if s.thm.stopping && !s.modulePends then s.modPanel (fun p => { p with resetPend := some .stop }) else s)
    else
    let s := s.modLeaf (fun l => { l with demoteReq := false, diverge := [] })
    if t.giveUp then
      let s := if planned then s.flushRepairs.repairSts
        else (s.modLeaf (fun l => { l with repairQ := [] })).repairSts
      let s := s.setRole (if planned && t.cause != 11 then 4 else 3)
      let s := (s.wr LEF.STS.PARTNER_ROLE 2).takeRecords t
      .next (if s.thm.stopping then (s.modMode (fun m => { m with raster := .off })).enterThermalStop
        else if s.nvs.jrnlOn then
          ((s.modPwr (fun p => { p with handed := true })).journalLogs 0).stopLoad
        else s)
    else
      let s := (s.setRole 2).modLeaf (fun l => { l with mute := s.mode.power == .shutter })
      let s := s.wr LEF.STS.PARTNER_ROLE (if planned && t.cause != 11 then 4 else if t.cause ≤ 8 then 3 else 5)
      let s := s.takeRecords t
      let s := s.modPanel (fun p => { p with freshPair := Vector.replicate 2 true })
      let s := s.modLeaf (fun l => { l with planned := planned && t.cause != 11, reportMiss := 0 })
      if planned then .next s
      else
        if gap = 0 then .next s
        else
          let s := s.bump LEF.RES_GAP gap
          .next (s.logc LEF.PAGE 0xC7 (s.rd LEF.RES_GAP) gap)

/-! ### Rails and faults (R39, R40, R58, R62, R221, R423) -/

/-- The limit bit of a rail: VGH, VGL, VCOM, GMA. -/
def railLim (r : Fin 4) : Fld := [PDV.RAIL_STS.VGH_LIM, PDV.RAIL_STS.VGL_LIM, PDV.RAIL_STS.VCOM_LIM, PDV.RAIL_STS.GMA_LIM].get r

/-- A rail fault of a half (R39): FAULT, a power fault, event RAIL_FAULT, code 0x67. -/
def State.railFault (s : State) (h : Fin 2) (arg1 : Nat) : State :=
  let s := (s.wrB PDV.RAIL_STS.FAULT true h).modPanel (fun p => { p with railFaultPf := p.railFaultPf.set h true })
  (s.event (PDV.PAGE + h) 1).logc (PDV.PAGE + h) 0x67 (s.rd PDV.RAIL_STS h) arg1

/-- RAIL_FAULT (R39): a rail in limit for 1 ms, or outside its tolerance, on a half whose rails are up. -/
def execRailFault (half : Fin 2) (rail : Fin 4) (limit : Bool) (s : State) : Out :=
  if s.rdB PDV.RAIL_STS.UP half ∧ s.rdB PDV.RAIL_STS.FAULT half = false then
    let s := if limit then s.wrB (railLim rail) true half else s
    .next (s.railFault half rail)
  else .next s

/-- PANEL_UNPLUGGED (R40): PNL_PRES_N goes high; a rail fault when the half's rails are up. The heater is released and the gate
clocks stop. -/
def execPanelUnplugged (half : Fin 2) (s : State) : Out :=
  let s := s.modPanel (fun p => { p with
    presN := p.presN.set half true, heaterOn := p.heaterOn.set half false
    gatesOn := p.gatesOn.set half false, allGate := p.allGate.set half false })
  .next (if s.rdB PDV.RAIL_STS.UP half then s.railFault half 0 else s)

/-- PANEL_LOCK_TIMEOUT (R65): a group's column drivers have not locked within 20 ms: fail code 0x0203. -/
def execPanelLockTimeout (half : Fin 2) (s : State) : Out :=
  if s.mode.supply = .on ∧ s.driversLocked half = false ∧ s.rdB PDV.RAIL_STS.UP half = false ∧ s.mode.power = .sill then
    .next (s.startFail 0x0203)
  else .next s

/-- The panel zone of a half is within its start limits (R423): above Cold-stop, below Hot-stop. -/
def State.zoneStartOk (s : State) (h : Fin 2) : Bool :=
  let z := 1 + h.val
  let t := s.rdI THM.ZONE_STS.TEMP 0 z
  decide (10 * s.rdI THM.ZONE_THR0.CSTOP 0 z < t) && decide (t < 10 * s.rdI THM.ZONE_THR1.HSTOP 0 z)

/-- The conditions of R58 for a half; a half whose rail failed in this start stays unpowered (R221). -/
def State.railsAllowed (s : State) (h : Fin 2) : Bool :=
  s.mode.supply == .on && s.mode.power == .sill && s.rdB SYS.PWR_STS.HOLD_RDY && !s.rdB SYS.START_STS.CFG_DEF &&
  !s.panel.presN[h] && s.panel.eepromOk[h] && s.driversLocked h && !s.rdB PDV.RAIL_STS.UP h &&
  !s.rdB PDV.RAIL_STS.FAULT h && s.panel.resetPend.isNone && s.boot.cfg.sill.isSome && !s.boot.romBad

/-- RAILS_ENABLE (R58, R62, R221, R423): with a half outside its thermal start limits the half stays unpowered, with code 0xE5
once per start. Otherwise the run marker is set and the rails rise to the Sill drive set; `missed` is a rail that does not
reach its tolerance. -/
def execRailsEnable (half : Fin 2) (missed : Option (Fin 4)) (s : State) : Out :=
  if !s.railsAllowed half then .next s
  else if !s.zoneStartOk half then
    if s.thm.startLogged then .next s
    else .next ((s.modThm (fun t => { t with startLogged := true })).logc THM.PAGE 0xE5 (s.rd THM.FAULT) (1 + half.val))
  else
    let s := if s.runMark then s else s.counterAdd 0 1
    match missed with
    | some r => .next (s.railFault half r)
    | none =>
      let neg := s.clk.sillFrame % 2 == 1 && s.mode.raster == .sill
      let run := s.mode.raster == .sill
      let s := s.modPanel (fun p => { p with
        rails := p.rails.set half (sillRails (s.boot.cfg.sill.getD Rails.down) neg),
        driven := p.driven.set half true, railFaultPf := p.railFaultPf.set half false,
        gatesOn := p.gatesOn.set half run, allGate := p.allGate.set half false })
      .next (((s.wrB PDV.RAIL_STS.UP true half).modBoot (fun b => { b with pinDrive := .none })).showStage 3)

/-! ### The Sill raster (R56, R60, R63, R64, R69, R372) -/

/-- Half `h` shows the rails of a Sill frame (R60, R220). -/
def State.sillPolarity (s : State) (negative : Bool) : State :=
  match s.boot.cfg.sill with
  | none => s
  | some r => s.each ([0, 1] : List (Fin 2)) (fun s h =>
      if s.rdB PDV.RAIL_STS.UP h then s.modPanel (fun p => { p with rails := p.rails.set h (sillRails r negative) }) else s)

/-- A Sill raster period begins with its frame 0 (R60): the text is written, the gate clocks run on every half that is up and has
its panel (R40). -/
def State.startSill (s : State) : State :=
  let s := s.modClk (fun c => { c with sillFrame := 0, frame := 0, line := 0, wc := 0, lineAt := c.now })
  let s := (s.modMode (fun m => { m with raster := .sill })).modBoot (fun b => { b with hold := false })
  let s := s.modPanel (fun p => { p with
    gatesOn := Vector.ofFn (fun (h : Fin 2) => s.rdB PDV.RAIL_STS.UP h.val && !p.presN[h])
    allGate := Vector.replicate 2 false })
  ((s.sillPolarity false).modLog (fun l => { l with frameKeys := [] })).sliceLine.frameShows.writeText

/-- Who drives the Sill picture (R372): a paired leaf drives only when no HELLO has been heard, or its Hinge port is up and
the partner does not drive. -/
def State.mayDriveSill (s : State) : Bool :=
  !s.paired || !s.leaf.partner.heard || (s.rdB LEF.STS.HINGE_UP && !s.leaf.partner.driving)

/-- SILL_PICTURE_START (R56): stage 4, the first Sill frame, which stays the stage until that frame is fully written. Without a
Config panel record there is no Sill picture (R65). -/
def execSillPictureStart (s : State) : Out :=
  if s.mode.supply = .on ∧ s.mode.power = .sill ∧ s.mode.raster = .off ∧ s.rdB SYS.START_STS.CFG_DEF = false ∧
      s.boot.romBad = false ∧ s.rd SYS.START_STS.STAGE < 13 then
    let s := s.showStage 4
    let s := s.modLeaf (fun l => { l with driving := s.mayDriveSill })
    .next (s.modBoot (fun b => { b with balFrames := 0 })).startSill
  else .next s

/-- The end of a Sill frame and the start of the next (R60, R61, R69): the other polarity and the text as it stands. Behind an odd
frame with everything ready the raster ends instead, and the panel holds the frame (R64). SILL_T is taken as the first frame
ends. -/
def State.sillFrameStart (s : State) : State :=
  if s.mode.raster ≠ .sill ∨ s.clk.line.toNat + 1 ≠ 8700 then s
  else
    let s := if s.boot.hold then s else s.toLineEnd
    let s := if s.boot.firstSill then s
      else (s.modBoot (fun b => { b with firstSill := true })).wr SYS.START_T.SILL_T
        (min 0xFFFF ((s.clk.now + 159999) / 160000))
    if s.enterReady && s.clk.sillFrame % 2 == 1 then s.modBoot (fun b => { b with hold := true })
    else
      let k := s.clk.sillFrame + 1
      let s := s.modClk (fun c => { c with
        sillFrame := k, frame := BitVec.ofNat 32 k, line := 0, wc := 0, lineAt := c.now })
      let s := s.modBoot (fun b => { b with
        hold := false, balFrames := if s.rdB SYS.START_STS.BAL_RST then b.balFrames + 1 else b.balFrames })
      let s := ((s.sillPolarity (k % 2 == 1)).modLog (fun l => { l with frameKeys := [] })).sliceLine.frameShows
      (s.latch SCN.MUL_SKEW).writeText

/-- SILL_FRAME_START (R60, R64). -/
def execSillFrameStart (s : State) : Out := .next s.sillFrameStart

/-- BALANCE_RESTORE_END (R63): at the end of Sill frame 299 every residue becomes 0 and BAL_RST clears. -/
def execBalanceRestoreEnd (s : State) : Out :=
  if s.rdB SYS.START_STS.BAL_RST ∧ s.mode.raster = .sill ∧
      (300 ≤ s.boot.balFrames ∨ (s.boot.balFrames = 299 ∧ s.clk.line.toNat + 1 = 8700)) then
    .next ((s.zeroResidues.wrB SYS.START_STS.BAL_RST false).showStage (min 10 (s.rd SYS.START_STS.STAGE)))
  else .next s

/-! ### Discharge (R239, R240, R401) -/

/-- The beam is behind (8,641, 400) of its frame (R239). -/
def State.pastGates (s : State) : Bool :=
  decide (8641 < s.clk.line.toNat) || (s.clk.line == 8641 && decide (400 < s.clk.wc.toNat))

/-- The cause for which a half must discharge now (R239): 1 the power-fail warning, 3 a rail fault of the half, 2 a module reset
from (8,641, 400) of the next phase-3 frame; 0 none. -/
def State.dischargeCause (s : State) (h : Fin 2) : Nat :=
  if s.rdB SYS.PWR_STS.PF_WARN ∧ s.pwr.handed = false ∧ s.leaf.demoteCause ≠ 8 ∧ s.leaf.tau.isNone then 1
  else if s.rdB PDV.RAIL_STS.FAULT h then 3
  else if s.modulePends ∧ (s.mode.raster = .weaver →
      s.phase = 3 ∧ s.panel.resetLate = false ∧ 8641 ≤ s.clk.line.toNat) then 2
  else 0

/-- DISCHARGE_START (R239): DISCHARGE on every group of the half, every column to VCOM, every gate open. -/
def execDischargeStart (half : Fin 2) (s : State) : Out :=
  let c := s.dischargeCause half
  if s.rdB PDV.RAIL_STS.UP half = false ∨ s.panel.dis[half].run ∨ c = 0 then .next s
  else
    let s := if c = 2 ∧ s.mode.raster = .weaver ∧ s.clk.line = 8641 then s.toWc 400 else s
    let s := s.wrB PDV.RAIL_STS.UP false half
    let s := s.each ((List.range 16).filter (fun g => groupHalf g == half)) (fun s g => s.queueCtrl g 7 0)
    let s := s.modPanel (fun p => { p with
      dis := p.dis.set half ⟨true, c, true⟩, gatesOn := p.gatesOn.set half false,
      allGate := p.allGate.set half (!p.presN[half]),
      rails := p.rails.set half { p.rails[half] with gma := p.rails[half].gma.map (fun _ => p.rails[half].vcom) } })
    .next ((s.wr PDV.DIS_STS 0 half).wr PDV.DIS_STS.CAUSE c half)

/-- DISCHARGE_SENSE_SAMPLE (R239, R240): a sample of DISCH_SENSE_IN in mV against DIS_CTL.THR. -/
def execDischargeSenseSample (half : Fin 2) (mv : BitVec 16) (s : State) : Out :=
  if s.panel.dis[half].run then
    let ok := decide (mv.toNat < 10 * s.rd PDV.DIS_CTL.THR half)
    let s := s.wr PDV.DIS_STS.SENSE_MV (max (s.rd PDV.DIS_STS.SENSE_MV half) mv.toNat) half
    .next (s.modPanel (fun p => { p with dis := p.dis.set half { p.dis[half] with samplesOk := p.dis[half].samplesOk && ok } }))
  else .next s

/-- No half's rails are up and no discharge runs. -/
def State.panelDown (s : State) : Bool := !s.anyRailsUp && !s.panel.dis[0].run && !s.panel.dis[1].run

/-- Every half driven in this start ended with a complete discharge (R240). -/
def State.allDischarged (s : State) : Bool :=
  ([0, 1] : List (Fin 2)).all (fun h => !s.panel.driven[h] || s.rd PDV.DIS_STS.RESULT h == 1)

/-- The end of a half's discharge at 13.05 ms (R239, R240, R401): the result, event DIS_DONE, code 0x65 or 0x64; DISCH_OK
counts it (R403); with the last half down, the journal takes the result, and the run marker clears when every driven half
completed. -/
def State.dischargeDone (s : State) (h : Fin 2) (stepsOk : Bool) : State :=
  let d := s.panel.dis[h]
  let res := if s.panel.presN[h] then 3 else if stepsOk && d.samplesOk then 1 else 2
  let s := s.wr PDV.DIS_STS.RESULT res h
  let s := s.modPanel (fun p => { p with
    dis := p.dis.set h DischargeSt.idle, rails := p.rails.set h Rails.down, allGate := p.allGate.set h false })
  let s := (s.event (PDV.PAGE + h) 2).logc (PDV.PAGE + h) (if res = 1 then 0x65 else 0x64) (s.rd PDV.DIS_STS h) 0
  let s := if res = 1 then s.count 3 1 else s
  let s := s.modNvs (fun n => { n with disRes := n.disRes.set h (BitVec.ofNat 32 (s.rd PDV.DIS_STS h)) })
  if s.panelDown then
    let s := if s.nvs.jrnlOn || s.modulePends then s.journalLogs 0 else s
    if s.allDischarged && s.runMark then s.counterAdd 0 1 else s
  else s

/-! ### Loss of power (R33, R37, R67, R477) -/

/-- The ring entries, newest first, that the log buffer still held when power went (R477). -/
def State.unstored (s : State) : Nat :=
  let h := s.rd NVS.LOG_STS.HEAD
  ((List.range (s.log.wait.length + 1)).find? (fun k =>
    (tfind s.log.wait ((h + 16383 - k % 16384) % 16384)).isNone)).getD 0

/-- First-fault entries, newest first, that the log buffer still held. -/
def State.unstoredFirst (s : State) : Nat :=
  let n := s.rd NVS.LOG_STS.FF_COUNT
  ((List.range (s.log.wait.length + 1)).find? (fun k => n ≤ k || (tfind s.log.wait (16384 + n - 1 - k)).isNone)).getD 0

/-- A log SEQ `n` records earlier (R477). -/
def seqBack (q : BitVec 32) (n : Nat) : BitVec 32 := BitVec.ofNat 32 ((q.toNat + 2 * (2 ^ 32 - 1) - 1 - n) % (2 ^ 32 - 1) + 1)

/-- What stays without power (R67): the stores, with a write cut short invalid (R399), the fuses, the pins and the feeds; of
the log, what had reached its store (`back` records less). -/
def State.cold (s : State) (back : Nat) : State :=
  { State.reset with
    pwr := { PowerSt.init with pfFeed := s.pwr.pfFeed, pfOv := s.pwr.pfOv }
    panel := { PanelSt.init with presN := s.panel.presN, eeprom := s.panel.eeprom }
    log := { LogSt.init with
      nextSeq := seqBack s.log.nextSeq back, budget := s.log.budget, budgetDay := s.log.budgetDay,
      budgetLogged := s.log.budgetLogged, ffFullLogged := s.log.ffFullLogged }
    nvs := { NvsSt.init with
      pages := s.nvs.pages, pwds := s.nvs.pwds, bms := s.nvs.bms, bmsProg := s.nvs.bmsProg, disRes := s.nvs.disRes,
      wearPages := s.nvs.wearPages, scrubLife := s.nvs.scrubLife }
    secu := { SecuSt.init with
      trans := s.secu.trans, owners := s.secu.owners, svnFuses := s.secu.svnFuses, key0Revoked := s.secu.key0Revoked,
      romKeys := s.secu.romKeys }
    thm := { ThermSt.init with vrefStored := s.thm.vrefStored }
    mode := { Modes.init with sec := s.mode.sec }
    freeCtr := s.freeCtr
    pending := s.pending }

/-- The module without power (R33, R67). -/
def State.unpower (s : State) : State :=
  let s := match s.nvs.cur with
    | some w => s.putCopy (s.writeCopy w.page) blankCopy
    | none => s
  let back := s.unstored
  let head := (s.rd NVS.LOG_STS.HEAD + 16384 - back % 16384) % 16384
  let ff := s.rd NVS.LOG_STS.FF_COUNT - s.unstoredFirst
  let r := (s.cold back).each ([0, 1] : List (Fin 2)) (fun r f =>
    (r.wrB (feedOkBit f) (s.rdB (feedOkBit f))).wrB (feedOvBit f) (s.rdB (feedOvBit f)))
  ((r.wr NVS.LOG_STS.HEAD head).wr NVS.LOG_STS.FF_COUNT ff).wrB NVS.LOG_STS.FF_FULL (decide (256 ≤ ff))

/-- MODULE_UNPOWERED (R33, R37): the bank has fallen to 36.0 V, or the bus was lost before HOLD_RDY. -/
def execModuleUnpowered (s : State) : Out := .next (if s.mode.supply = .off then s else s.unpower)

/-! ### Resets (R67, R68) -/

/-- Every page lock ends (R459). -/
def State.endLocks (s : State) : State :=
  s.each (s.regs.filter (fun kv => kv.1 % 4096 == HDR.PG_CTL.LOCK.off)) (fun s kv =>
    s.setReg kv.1 (BitVec.ofNat 32 (setBits kv.2.toNat HDR.PG_CTL.LOCK.hi HDR.PG_CTL.LOCK.lo 0)))

/-- The fabric settings that take effect when the block starts come into force as they stand; the address stays (R67, R487). A
module that becomes eligible draws its nonce (R316). -/
def State.fabricLatch (s : State) : State :=
  let s := s.each [FAB.ADDR_CFG.SRC, FAB.ROOT_CFG.ELIG, FAB.GRID.W_M1] (fun s f => s.latch f)
  let s := s.each (List.range 4) (fun s k =>
    let key := regKey 0 FAB.PAGE (FAB.PDIR.off + 4 * k)
    s.effSet key (s.reg key))
  let elig := s.eff_ FAB.ROOT_CFG.ELIG == 1
  let (nonce, s) := if elig && !s.fab.root.elig then s.takeFree 16 else (s.fab.root.nonce, s)
  s.modFab (fun f => { f with root := { f.root with elig := elig, nonce := nonce } })

/-- The warm reset itself (R67, R459, R448): firmware, Weaver, ingest, Weft, fabric and flex ports start anew; HBM, held in
self-refresh, residues, time, address and rails stay, and the time unit is Free unless it holds a lock (R347). Stages 6 and 7 stay done, unless a retrain is due (R284). -/
def State.warmReset (s : State) : State :=
  let s := s.endLocks.ingestWarm.coilWarm.weftReset
  let s := s.modWv (fun w => { w with cells := [], wanted := [], reserve := [] })
  let s := s.each ((List.range 40).filter (fun p => s.portState p != 0)) (fun s p => s.portOff p)
  let s := s.fabricLatch.latch LEF.CFG
  let d := if s.mode.raster = .weaver then s.mayDriveSill else s.leaf.driving
  let s := (s.setRole 0).modLeaf (fun _ => { LeafSt.init with driving := d })
  let s := if s.timState = 1 then s.timEnter 0 else s
  let s := (s.setPower .sill).selfRefresh 3
  let s := s.modMem (fun m => { m with landHold := [] })
  let s := (s.modScan (fun c => { c with shutExit := none, shutExitReq := false })).wr SCN.SHUT_STS.STATE 0
  let s := if s.mode.dbg = .intrusive then s else s.wrB SEC.STS.KEYS_HIDDEN false
  let s := s.modBoot (fun b => { b with
    warm := true, lockDone := false, done := b.done &&& (if s.mem.retrain then 0x80 else 0xC0) })
  let s := s.wrB SIL.CPU_STS.FW false
  let s := (s.wr SYS.RST_CAUSE.CAUSE 1).wrB SYS.START_STS.LNT_FREE false
  s.wr SYS.START_STS.STAGE 5

/-- A warm reset request that is taken: at once in Sill, else after the waveform cycle in progress (R67, R238). -/
def State.warmRequest (s : State) : State :=
  if s.mode.raster = .weaver then
    (s.modPanel (fun p => { p with resetPend := some .warm })).modBoot (fun b => { b with warm := true })
  else s.warmReset

/-- A module reset is due (R67); it wins over a warm reset that runs or waits (R68). -/
def State.moduleRequest (s : State) (k : ResetKind) : State :=
  let late := s.mode.raster == .weaver && s.phase == 3 && s.pastGates
  (s.modPanel (fun p => { p with resetPend := some k, resetLate := late })).modBoot (fun b => { b with
    modReset := true, warm := false })

/-- RST_CTL (R67-R69): a wrong KEY, and a warm reset while a reset, a start, a discharge or Thermal-stop runs, are ignored with
code 0x2B. A module reset starts once the discharge allows (`finishReset`). -/
def wrRstCtl (v : Nat) (s : State) : WrRes :=
  let ign := ignCode SYS.PAGE 0x2B v (s.rd SYS.RST_CAUSE) s
  if v / 2 ^ 16 ≠ 0xCA5E then ign
  else if v % 4 = 1 then
    if s.boot.warm || s.boot.modReset || s.boot.starting || s.mode.power == .discharge || s.mode.power == .thermalStop then ign
    else okW s.warmRequest
  else if v % 4 = 2 then
    if s.mode.power = .discharge then ign else if s.modulePends then okW s else okW (s.moduleRequest .module)
  else okW s

/-- The lanes of a half one of whose groups has lost the lock of every lane go back to 3.125 Gb/s (R211). -/
def State.rateLost (s : State) (h : Fin 2) : State :=
  if (halfGroups h).any (fun g => s.panel.driverLock[h].getLsbD (g % 8) && s.rd PLK.GRP_LOCK.LOCK h g == 0) then s.setRate h 0
  else s

/-- SILL_HANDOVER (R238, R421, R211): the end of a phase-3 frame hands the panel to the Sill raster, for a warm reset, for the
orderly stop, or because a group's drivers lost their link. -/
def execSillHandover (s : State) : Out :=
  if s.mode.raster ≠ .weaver ∨ s.phase ≠ 3 ∨ s.clk.line.toNat + 1 ≠ s.vtotal then .next s
  else
    let go (s : State) : State :=
      let s := s.toLineEnd.modPanel (fun p => { p with resetPend := none })
      let s := s.modWv (fun w => { w with cells := [], wanted := [] })
      let s := s.modFrs (fun f => { f with lastVerdict := [] })
      let s := s.modScan (fun c => { c with shutExit := none, shutExitReq := false, shutTiles := [] })
      (s.wr SCN.LOCK_STS.STATE 0).wr SCN.SHUT_STS.STATE 0
    match s.panel.resetPend with
    | some .warm => .next (go s).warmReset.startSill
    | some .stop => .next (go s).enterThermalStop.startSill
    | some .linkLost =>
      let s := (((go s).srLeave.setPower .sill).setRole 0).each ([0, 1] : List (Fin 2)) State.rateLost
      .next (s.haltStart 0x0801).startSill
    | some .module | some .trip | none => .next s

/-! ### The clock without a command -/

/-- The edge that ends the line in progress (R5, R60, R188) with no command for it: the next line or frame starts, with the skew
that the Mullion lock asks for and, where the servo measures one, a free frame period. -/
def State.lineTurn (s : State) : State :=
  let skew := s.eff_ SCN.MUL_SKEW
  if s.clk.line.toNat + 1 < s.vtotal then s.lineStart skew
  else if s.mode.raster = .sill then s.sillFrameStart
  else
    let (fl, s) := s.takeFree 32
    s.frameStart fl.toNat skew

/-- One weave cycle without a command (R3, R4, R341; log entry 7): the clock with the sweeps of the freshness table (R101, R167,
R169), a step of the count that is due (R348, R354), and the start of a line at its edge (R5). -/
def State.tick (s : State) : State :=
  if s.mode.supply = .on then
    let s := (s.run 1).stepDue
    if s.mode.raster = .off || s.boot.hold || decide (s.clk.now - s.clk.lineAt < s.lineLen) then s else s.lineTurn
  else s

end Sys2Proof.Machine
end

