-- ==== Sys2Proof/Machine/Therm.lean ====
section
/-! DEFINITION. Sensors, zones and the orderly stop (R415-R423), calibration (R424-R427) and self-tests (R428). -/

namespace Sys2Proof.Machine

/-! ### Sensors and zones (R415-R420, R242, R276) -/

/-- The zone of a sensor (R415). -/
def sensorZone (n : Nat) : Nat :=
  if n < 4 then 0 else if n < 8 then 1 else if n < 12 then 2 else if n < 16 then 3 else if n < 20 then 4
  else if n < 24 then 5 else 6

/-- The sensors of a zone. -/
def zoneSensors (z : Nat) : List Nat := (List.range 4).map (fun k => 4 * z + k)

/-- KIND of a sensor (R430). -/
def State.sensorKind (s : State) (n : Nat) : Nat :=
  if n < 12 then b2n (bit (s.rd THM.SEN_CFG.THERM) n) else if n < 24 then 2 else 3

/-- Threshold of a level in 0.1 °C (R418): 1 Cold-warn, 2 Hot-warn, 3 Hot-throttle, 4 Hot-stop, 5 Cold-stop, 6 Trip. -/
def State.zoneThr (s : State) (z level : Nat) : Int :=
  10 * (match level with
    | 1 => s.rdI THM.ZONE_THR0.CWARN 0 z
    | 2 => s.rdI THM.ZONE_THR0.HWARN 0 z
    | 3 => s.rdI THM.ZONE_THR0.HTHR 0 z
    | 4 => s.rdI THM.ZONE_THR1.HSTOP 0 z
    | 5 => s.rdI THM.ZONE_THR0.CSTOP 0 z
    | _ => s.rdI THM.ZONE_THR1.TRIP 0 z)

/-- A cold level is reached from above. -/
def coldLevel (level : Nat) : Bool := level == 1 || level == 5

/-- HYST in 0.1 °C; 0 acts as 3 °C (R430). -/
def State.hyst (s : State) : Int := 10 * (if s.rd THM.HYST.C = 0 then 3 else s.rd THM.HYST.C : Nat)

/-- A zone reading is at or beyond a level's threshold. -/
def State.beyond (s : State) (z level : Nat) (t : Int) : Bool :=
  if coldLevel level then decide (t ≤ s.zoneThr z level) else decide (s.zoneThr z level ≤ t)

/-- A zone reading is back from a level by more than HYST; Trip has no hysteresis. -/
def State.backFrom (s : State) (z level : Nat) (t : Int) : Bool :=
  let h := if level = 6 then 0 else s.hyst
  if coldLevel level then decide (s.zoneThr z level + h < t) else decide (t < s.zoneThr z level - h)

/-- The zone is in a level. -/
def State.inLevel (s : State) (z level : Nat) : Bool := tget (fun _ => false) s.thm.inLevel (8 * z + level)

/-- The temperature of a zone (R415, R417): the highest of its sensors, a broken one at Hot-throttle; with all broken, at
Hot-stop. -/
def State.zoneTemp (s : State) (z : Nat) : Int :=
  let ns := zoneSensors z
  if ns.all (fun n => s.rdB THM.SEN_STS.BROKEN 0 n) then s.zoneThr z 4
  else
    let ts := ns.map (fun n => if s.rdB THM.SEN_STS.BROKEN 0 n then s.zoneThr z 3 else s.rdI THM.SEN_STS.TEMP 0 n)
    ts.foldl max (ts.headD 0)

/-- ZONE_STS.LEVEL of a zone (R430): the gravest level it is in. -/
def State.levelOf (s : State) (z : Nat) : Nat :=
  if s.inLevel z 4 then 4 else if s.inLevel z 3 then 3 else if s.inLevel z 5 then 5 else if s.inLevel z 2 then 2
  else if s.inLevel z 1 then 1 else 0

/-- ZONE_STS.LEVEL and FAULT as the levels and sensors stand (R419, R430). -/
def State.thermSts (s : State) : State :=
  let s := s.each (List.range 7) (fun s z => s.wr THM.ZONE_STS.LEVEL (s.levelOf z) 0 z)
  let zones := (List.range 7).foldl (fun a z =>
    if s.inLevel z 3 || s.inLevel z 4 || s.inLevel z 5 then a + 2 ^ z else a) 0
  (s.wr THM.FAULT.ZONES zones).wrB THM.FAULT.BROKEN ((List.range 28).any (fun n => s.rdB THM.SEN_STS.BROKEN 0 n))

/-- The orderly stop begins (R421): an active leaf hands over to a Ready partner; otherwise the Weaver hands the panel to the
Sill raster after its cycle; a module that shows the Sill picture stops at once. -/
def State.orderlyStop (s : State) : State :=
  if s.thm.stopping ∨ s.mode.power = .thermalStop ∨ s.mode.power = .discharge then s
  else
    let s := s.modThm (fun t => { t with stopping := true })
    if s.canHand then s.wantDemote 7
    else if s.mode.raster = .weaver then
      if s.modulePends then s else s.modPanel (fun p => { p with resetPend := some .stop })
    else (s.modBoot (fun b => { b with starting := false, warm := false })).enterThermalStop

/-- What a zone does as it enters a level (R419). -/
def State.levelEntered (s : State) (z level : Nat) : State :=
  let sts := s.rd THM.ZONE_STS 0 z
  match level with
  | 1 | 2 => (s.event THM.PAGE 0).logc THM.PAGE 0xE0 sts z
  | 3 => (s.event THM.PAGE 1).logc THM.PAGE 0xE1 sts z
  | 4 => ((s.event THM.PAGE 2).logc THM.PAGE 0xE2 sts z).orderlyStop
  | 5 => if s.mode.power = .full ∨ s.mode.power = .standbyLeaf then s.logc THM.PAGE 0xEF sts z else s
  | _ =>
    let s := (s.logc THM.PAGE 0xE3 sts z).count 5 1
    if s.mode.supply = .on ∧ s.mode.power ≠ .discharge then s.moduleRequest .trip else s

/-- One reading of a zone against one level (R418): three readings in a row enter or leave it, two for Trip. -/
def State.zoneLevel (s : State) (z : Nat) (t : Int) (level : Nat) : State :=
  let k := 8 * z + level
  let need := if level = 6 then 2 else 3
  let get (m : Table Nat) : Nat := tget (fun _ => 0) m k
  if s.inLevel z level then
    let n := if s.backFrom z level t then get s.thm.zoneOut + 1 else 0
    if n < (if level = 6 then 1 else 3) then s.modThm (fun m => { m with zoneOut := tset (fun _ => 0) m.zoneOut k n })
    else s.modThm (fun m => { m with
      zoneOut := tset (fun _ => 0) m.zoneOut k 0, inLevel := tset (fun _ => false) m.inLevel k false })
  else
    let n := if s.beyond z level t then get s.thm.zoneIn + 1 else 0
    if n < need then s.modThm (fun m => { m with zoneIn := tset (fun _ => 0) m.zoneIn k n })
    else
      let s := s.modThm (fun m => { m with
        zoneIn := tset (fun _ => 0) m.zoneIn k 0, inLevel := tset (fun _ => false) m.inLevel k true })
      s.thermSts.levelEntered z level

/-- The zones a calibration group depends on (R424): lanes, HBM PHY, VCOM. -/
def groupZones (g : Nat) : List Nat := if g = 0 then [0, 3, 4, 5] else if g = 1 then [5, 6] else [1, 2]

/-- Calibration groups that are asked to run (R420, R424): a group that runs already takes the trigger into its run. -/
def State.askRun (s : State) (groups : Nat) : State :=
  let new := groups % 8 &&& (7 - s.rd CLB.STS.RUNNING)
  let s := s.modThm (fun t => { t with waits := t.waits ||| BitVec.ofNat 3 new })
  s.wrB CLB.STS.WAITING (s.thm.waits != 0)

/-- The groups whose zones have drifted by more than CLB.DRIFT (R424); a group that has never run has no baseline. -/
def State.drifted (s : State) : Nat :=
  let d : Int := (max 10 (s.rd CLB.DRIFT.T) : Nat)
  (List.range 3).foldl (fun a g =>
    if (groupZones g).any (fun z => match tfind s.thm.base (8 * g + z) with
        | some b => decide (d < ((s.rdI THM.ZONE_STS.TEMP 0 z - b).natAbs : Int))
        | none => false) then a + 2 ^ g else a) 0

/-- The panel heater of a half (R242, R423, R40). -/
def State.heater (s : State) (h : Fin 2) : State :=
  let on := match s.tp h with
    | none => s.panel.heaterOn[h]
    | some t =>
      if t < 10 * s.rdI PDV.HEAT_CTL.ON h then true
      else if 10 * s.rdI PDV.HEAT_CTL.OFF h ≤ t then false
      else s.panel.heaterOn[h]
  let on := on && !s.panel.presN[h] && s.mode.power != .discharge && s.mode.supply == .on
  s.modPanel (fun p => { p with heaterOn := p.heaterOn.set h on })

/-- A stack's readout (R276, R289): STK_TEMP, and REF_STS.HOT with event STK_HOT and code 0x8A while any stack reads above
85 °C. -/
def State.stackTemp (s : State) (k : Nat) (t : Int) : State :=
  let old := s.rd DMC.STK_TEMP
  let s := s.wr DMC.STK_TEMP (setBits old (8 * k + 7) (8 * k) (wrapI 8 (fdiv t 10)))
  let hot := (List.range 4).any (fun i => decide (850 < s.rdI THM.SEN_STS.TEMP 0 (24 + i)))
  let was := s.rdB DMC.REF_STS.HOT
  let s := s.wrB DMC.REF_STS.HOT hot
  if hot && !was then (s.event DMC.PAGE 4).logc DMC.PAGE 0x8A (s.rd DMC.REF_STS) (s.rd DMC.STK_TEMP) else s

/-- The sensor is or is no longer broken (R416): event BROKEN as it breaks, code 0xE4 at each change. -/
def State.sensorState (s : State) (n : Nat) (valid : Bool) : State :=
  let bad := tget (fun _ => 0) s.thm.senBad n
  let good := tget (fun _ => 0) s.thm.senGood n
  let set (s : State) (b g : Nat) : State := s.modThm (fun t => { t with
    senBad := tset (fun _ => 0) t.senBad n b, senGood := tset (fun _ => 0) t.senGood n g })
  if s.rdB THM.SEN_STS.BROKEN 0 n then
    if valid then
      if good < 99 then set s 0 (good + 1)
      else
        let s := (set s 0 0).wrB THM.SEN_STS.BROKEN false 0 n
        s.logc THM.PAGE 0xE4 (s.rd THM.SEN_STS 0 n) n
    else set s 0 0
  else if valid then set s 0 0
  else if bad < 2 then set s (bad + 1) 0
  else
    let s := ((set s 0 0).wrB THM.SEN_STS.BROKEN true 0 n).event THM.PAGE 3
    s.logc THM.PAGE 0xE4 (s.rd THM.SEN_STS 0 n) n

/-- Every zone lies above Cold-warn + HYST and below Hot-warn - HYST (R422). -/
def State.zonesClear (s : State) : Bool :=
  (List.range 7).all (fun z =>
    let t := s.rdI THM.ZONE_STS.TEMP 0 z
    decide (s.zoneThr z 1 + s.hyst < t) && decide (t < s.zoneThr z 2 - s.hyst))

/-- Since when every zone is clear (R422). -/
def State.noteClear (s : State) : State :=
  let c := s.zonesClear
  s.modThm (fun t => { t with clearSince := if c then some (t.clearSince.getD s.clk.now) else none })

/-- SENSOR_READ (R415-R419): a reading of a sensor in 0.1 °C, `valid` under R416; then its zone is judged. -/
def State.sensorRead (s : State) (n : Nat) (temp : Int) (valid : Bool) : State :=
  let z := sensorZone n
  let s := (s.wrI THM.SEN_STS.TEMP temp 0 n).wr THM.SEN_STS.KIND (s.sensorKind n) 0 n
  let s := s.sensorState n valid
  let s := if 24 ≤ n then s.stackTemp (n - 24) temp else s
  let t := s.zoneTemp z
  let s := (s.wrI THM.ZONE_STS.TEMP t 0 z).wrB THM.ZONE_STS.ALL_BROKEN
    ((zoneSensors z).all (fun n => s.rdB THM.SEN_STS.BROKEN 0 n)) 0 z
  let s := (s.each [1, 2, 5, 3, 4, 6] (fun s l => s.zoneLevel z t l)).thermSts.noteClear
  let s := if z = 1 then (s.heater 0).showTp 0 else if z = 2 then (s.heater 1).showTp 1 else s
  if s.rdB CLB.CTL.AUTO then s.askRun s.drifted else s

/-- THERMAL_RESTART (R422, R435): every zone has been clear for RESTART seconds; the module leaves Thermal-stop as a warm reset
does, or, Quarantined, back to Sill. -/
def execThermalRestart (s : State) : Out :=
  let clear : Bool := match s.thm.clearSince with
    | some t => s.zonesClear && decide (t + secWc (s.rd THM.RESTART.S) ≤ s.clk.now)
    | none => false
  if s.mode.power ≠ .thermalStop ∨ !clear then .next s
  else
    let drives := s.mayDriveSill
    let s := (s.wrB THM.FAULT.STOPPED false).event THM.PAGE 4
    let s := s.logc THM.PAGE 0xE6 (s.rd THM.FAULT) 0
    let s := if s.mode.sec = .quarantined then (s.setPower .sill).wr SYS.START_STS.STAGE 14 else s.warmReset
    .next (if s.mode.raster = .off then (s.modLeaf (fun l => { l with driving := drives })).startSill else s)

/-! ### Threshold registers (R418, R432) -/

/-- ZONE_THR0 and ZONE_THR1 (R418): a write that breaks the order of the thresholds is ignored with code 0xE7; TRIP is
read-only. -/
def wrZoneThr (path : Path) (off v : Nat) (s : State) : WrRes :=
  let z := s.rd THM.ZONE_SEL.ZONE 0 path.num
  let a := if off = 0x104 then v else s.rd THM.ZONE_THR0 0 z
  let b := if off = 0x108 then v else s.rd THM.ZONE_THR1 0 z
  let th := [sgn 8 (bits a 7 0), sgn 8 (bits a 15 8), sgn 8 (bits a 23 16), sgn 8 (bits a 31 24), sgn 8 (bits b 7 0),
    s.rdI THM.ZONE_THR1.TRIP 0 z]
  if (th.zip (th.drop 1)).all (fun p => decide (p.1 < p.2)) then
    okW (if off = 0x104 then s.wr THM.ZONE_THR0 v 0 z else s.wr THM.ZONE_THR1.HSTOP (bits v 7 0) 0 z)
  else ignCode THM.PAGE 0xE7 (wrArg0 path THM.PAGE off) v s

/-- SEN_CFG (R432): only in the Sill power state. -/
def wrSenCfg (path : Path) (v : Nat) (s : State) : WrRes :=
  if s.mode.power = .sill then okW (s.wr THM.SEN_CFG.THERM (v % 4096)) else ign28 path THM.PAGE 0x118 v s

/-! ### Calibration runs (R424-R427) -/

/-- The VCOM target of a half in mV at Tp (R425), clamped to ±500, and whether it was; `none` without a curve or a Tp. -/
def vcomTarget (curve : List (Int × Int)) (t : Int) : Int :=
  match curve.find? (fun p => decide (t ≤ p.1)) with
  | none => (curve.getLast?.map Prod.snd).getD 0
  | some hi =>
    match (curve.filter (fun p => decide (p.1 < t))).getLast? with
    | none => hi.2
    | some lo =>
      let den := hi.1 - lo.1
      let num := lo.2 * den + (hi.2 - lo.2) * (t - lo.1)
      -- nearest, halves away from zero
      if 0 ≤ num then (2 * num + den) / (2 * den) else -((2 * (-num) + den) / (2 * den))

/-- The VCOM curve of a half on Calibration page 274 (R425). -/
def vcomCurve (d : List Byte) (h : Nat) : List (Int × Int) :=
  (List.range 8).map (fun k => (sgn 16 (leAt d (32 * h + 4 * k) 2), sgn 16 (leAt d (32 * h + 4 * k + 2) 2)))

/-- The VCOM group of a half begins its run (R424, R425): its target, with code 0xEB when clamped, and the steps to make. -/
def State.vcomStart (s : State) (h : Fin 2) : State :=
  match s.pageData 274, s.tp h with
  | some d, some t =>
    let raw := vcomTarget (vcomCurve d h) t
    let tgt := clampI (-500) 500 raw
    let s := s.wrI (if h = 0 then CLB.VCOM_TGT.A else CLB.VCOM_TGT.B) tgt
    let s := if raw = tgt then s else s.logc CLB.PAGE 0xEB (s.rd CLB.VCOM_TGT) h
    s.modThm (fun m => { m with vcomLeft := m.vcomLeft.set h (tgt - s.rdI PDV.VCOM_TRIM.MV h) })
  | _, _ => s.modThm (fun m => { m with vcomLeft := m.vcomLeft.set h 0 })

/-- A waiting group may start now (R420, R424). -/
def State.mayRun (s : State) (g : Nat) : Bool :=
  s.mode.supply == .on && s.thm.waits.getLsbD g && !s.hotThrottle && s.mode.power != .thermalStop &&
  s.mode.power != .discharge && (s.mode.power != .shutter || g == 2)

/-- CALIBRATION_RUN (R424): a waiting group starts; the temperatures of its zones are kept for its baseline. -/
def execCalibrationRun (group : Fin 3) (s : State) : Out :=
  let g : Nat := group
  if !s.mayRun g then .next s
  else
    let s := s.modThm (fun t => { t with waits := t.waits &&& ~~~(BitVec.ofNat 3 (2 ^ g)) })
    let s := (s.wr CLB.STS.RUNNING (s.rd CLB.STS.RUNNING ||| 2 ^ g)).wrB CLB.STS.WAITING (s.thm.waits != 0)
    let s := s.each (groupZones g) (fun s z => s.modThm (fun t => { t with
      base := tset (fun _ => 0) t.base (64 + 8 * g + z) (s.rdI THM.ZONE_STS.TEMP 0 z) }))
    .next (if g = 2 then (s.vcomStart 0).vcomStart 1 else s)

/-- CLB.CMD (R424). -/
def wrClbCmd (v : Nat) (s : State) : WrRes := okW (s.askRun (v % 8))

/-- CALIBRATION_DONE (R424): no further step is due; the baseline moves, event RUN_DONE, code 0xE8. -/
def execCalibrationDone (group : Fin 3) (s : State) : Out :=
  let g : Nat := group
  if bit (s.rd CLB.STS.RUNNING) g = false ∨ (g = 2 ∧ (s.thm.vcomLeft[0] ≠ 0 ∨ s.thm.vcomLeft[1] ≠ 0)) then .next s
  else
    let s := s.each (groupZones g) (fun s z => s.modThm (fun t => { t with
      base := tput (8 * g + z) (tget (fun _ => 0) t.base (64 + 8 * g + z)) t.base }))
    let s := s.wr CLB.STS.RUNNING (s.rd CLB.STS.RUNNING - 2 ^ g)
    .next (((s.bump CLB.STAT_RUN).event CLB.PAGE 0).logc CLB.PAGE 0xE8 (s.rd CLB.STS) g)

/-- VREF_CALIBRATION (R426): a measurement of the converter against VREF_IN gives `gain` ppm; `inRange`: VREF_IN lies within
R45's range. An invalid VREF_IN keeps the stored correction: event REF_BAD, code 0xE9. -/
def execVrefCalibration (gain : BitVec 32) (inRange : Bool) (s : State) : Out :=
  let near := match s.thm.vrefStored with
    | some g => decide ((gain.toInt - g).natAbs ≤ 200)
    | none => true
  if s.mode.supply ≠ .on then .next s
  else if inRange && near then
    let s := (s.wrB CLB.STS.VREF_OK true).wr CLB.VREF_GAIN.PPM gain.toNat
    .next ((s.wrB CLB.STS.UNCAL false).modThm (fun t => { t with vrefStored := some gain.toInt }))
  else
    let s := (s.wrB CLB.STS.VREF_OK false).event CLB.PAGE 1
    .next (s.logc CLB.PAGE 0xE9 (s.rd CLB.STS) (s.rd CLB.VREF_GAIN))

/-- FREQ_MEASURE (R427): the reference oscillators' error in ppb; beyond 80 ppm code 0xEA. -/
def execFreqMeasure (ppb : BitVec 32) (s : State) : Out :=
  if s.rdB CLB.STS.CLK10_OK then
    let s := s.wr CLB.FREQ_ERR.PPB ppb.toNat
    .next (if 80000 < ppb.toInt.natAbs then s.logc CLB.PAGE 0xEA (s.rd CLB.STS) (s.rd CLB.FREQ_ERR) else s)
  else .next s

/-! ### Self-tests (R428, R432) -/

/-- A lane by its global index is out of use (R428): a spare or failed panel lane, or a dropped lane. -/
def State.laneIdle (s : State) (n : Nat) : Bool :=
  if n < 240 then
    let g := n / 15
    (laneMapOf (s.rd PLK.GRP_STS.FAIL (groupHalf g) g)).getD (n % 15) 15 == 15
  else s.rdB LAN.LANE_STS.FAILED 0 n

/-- The self-test may run now (R428). -/
def State.testAllowed (s : State) (test target : Nat) : Bool :=
  let sill := s.mode.power == .sill
  let quiet := sill || s.mode.power == .standbyLeaf
  if s.mode.power = .thermalStop ∨ s.mode.power = .discharge then false
  else if test = 1 then quiet || s.laneIdle target
  else if test = 2 ∨ test = 3 then true
  else if test = 4 then quiet
  else if test = 5 then sill
  else false

/-- ST_CTL (R428, R432): GO starts a self-test or refuses it with RESULT BUSY and code 0xEC; while one runs a GO is ignored and
logged. -/
def wrStCtl (path : Path) (v : Nat) (s : State) : WrRes :=
  let go := bit v 31
  if go && s.rdB CLB.ST_STS.BUSY then ign28 path CLB.PAGE 0x11C v s
  else
    let test := bits v 2 0
    let target := bits v 24 16
    let s := (s.wr CLB.ST_CTL.TEST test).wr CLB.ST_CTL.TARGET target
    if !go then okW s
    else if s.testAllowed test target then
      okW (((s.modThm (fun t => { t with selfTest := some ⟨test, target⟩ })).wrB CLB.ST_STS.BUSY true).wr
        CLB.ST_STS.RESULT 3)
    else
      let s := (s.wr CLB.ST_STS.RESULT 1).wrB CLB.ST_STS.PASS false
      okW (s.logc CLB.PAGE 0xEC (s.rd CLB.ST_STS) (s.rd CLB.ST_CTL))

/-- SELF_TEST_DONE (R428): PASS or code 0xED, event ST_DONE; a band-cache test leaves its die's cache empty and a standby leaf
Syncing. -/
def execSelfTestDone (pass : Bool) (s : State) : Out :=
  match s.thm.selfTest with
  | none => .next s
  | some t =>
    let s := (s.modThm (fun m => { m with selfTest := none })).wrB CLB.ST_STS.BUSY false
    let s := ((s.wrB CLB.ST_STS.PASS pass).wr CLB.ST_STS.RESULT 0).event CLB.PAGE 2
    let s := if pass then s else s.logc CLB.PAGE 0xED (s.rd CLB.ST_STS) (s.rd CLB.ST_CTL)
    .next (if t.test = 4 then
        (s.modWv (fun w => { w with cells := tfilter (fun k _ => cellDie k != t.target % 2) w.cells })).toSyncing
      else s)

end Sys2Proof.Machine
end

