-- ==== Sys2Proof/Machine/Secu.lean ====
section
/-! DEFINITION. The security unit: its key store and seal record (R436-R438), the operations of SEC.CTL (R439-R441) and the
debug port (R444-R448, R445's instructions). -/

namespace Sys2Proof.Machine

/-! ### Key store and seal record (R436, R437) -/

/-- The wrap key (R436). -/
def wrapKey : List Byte := (List.range 32).map (Config.deviceKey 0)

/-- The MAC key (R436). -/
def macKey : List Byte := (List.range 48).map (Config.deviceKey 1)

/-- The 48 bytes of a slot in the store (R437). -/
def slotBytes (k : KeySlot) : List Byte :=
  if k.loaded then kwWrap wrapKey k.key ++ leBytes 2 k.source ++ [1] ++ zeros 5 else zeros 48

/-- The slot that 48 bytes of the store hold (R437); `none` when its key does not unwrap (R438). -/
def slotOf (bs : List Byte) : Option KeySlot :=
  if leAt bs 42 1 % 2 = 1 then
    (kwUnwrap wrapKey (bs.take 40)).map (fun k => { loaded := true, source := leAt bs 40 2, key := k })
  else some KeySlot.empty

/-- DATA of pages 171 to 273; `none` when one of them is lost. -/
def State.ksPages (s : State) : Option (List Byte) :=
  ((List.range 103).mapM (fun k => s.pageData (171 + k))).map List.flatten

/-- KS_HASH of the store as it stands (R437). -/
def State.ksHash (s : State) : List Byte := sha384 (s.ksPages.getD [])

/-- A seal record with its MAC (R437). -/
def sealRecord (sealed : Bool) (gen : Nat) (hash : List Byte) : List Byte :=
  let r := leBytes 4 0x4C414553 ++ leBytes 1 (b2n sealed) ++ leBytes 2 gen ++ [0] ++ hash
  r ++ hmac384 macKey r

/-- The seal record written to page 170 over the store as it stands. -/
def State.writeSeal (s : State) (sealed : Bool) (gen : Nat) : State :=
  s.commitPage 170 (sealRecord sealed gen s.ksHash ++ zeros 392)

/-- The seal record keeps its STATE and GEN over a changed key store; before the first transition there is none. -/
def State.resealStore (s : State) : State :=
  match s.pageData 170 with
  | some d => s.writeSeal (leAt d 4 1 == 1) (leAt d 5 2)
  | none => s

/-- The source keys in use. -/
def State.setKeys (s : State) (keys : Table KeySlot) : State := s.modSecu (fun u => { u with keys := keys })

/-- A fuse of the transition count burns, while one is left (R436). -/
def State.burnTrans (s : State) : State :=
  s.modSecu (fun u => if u.trans < 256 then { u with trans := u.trans + 1 } else u)

/-- The next owner field takes the digest of a public key, while one is left (R436, R439, R440). -/
def State.burnOwner (s : State) (pub : List Byte) : State :=
  s.modSecu (fun u => if u.owners.length < 4 then { u with owners := u.owners ++ [sha384 pub] } else u)

/-- Thermometer fuses burn up to a security version (R436, R439). -/
def State.burnSvn (s : State) (v : Nat) : State := s.modSecu (fun u => { u with svnFuses := max u.svnFuses (min 64 v) })

/-- The failed signatures of the last 60 s, and the lockout with its beginning (R439). -/
def State.setSigs (s : State) (fails : List Nat) (lock : Bool) : State :=
  s.modSecu (fun u => { u with
    sigFails := fails, sigLock := lock, lockAt := if lock && !u.sigLock then s.clk.now else u.lockAt })

/-- A slot written to its page (R437) and taken into use. -/
def State.writeSlot (s : State) (n : Nat) (k : KeySlot) : State :=
  let p := 171 + n / 10
  let s := s.commitPage p (splice ((s.pageData p).getD (zeros 496)) (48 * (n % 10)) (slotBytes k))
  (s.setKeys (tset (fun _ => KeySlot.empty) s.secu.keys n k)).resealStore

/-- The security state changes, with event STATE_CHG (R433, R452). -/
def State.setSec (s : State) (st : SecState) : State :=
  if s.mode.sec = st then s else (s.modMode (fun m => { m with sec := st })).event SEC.PAGE 0

/-- The key store of a failed check (R438): Quarantined, every slot empty, KEYSTORE_OK 0, code 0xF4. -/
def State.keyStoreFailed (s : State) : State :=
  let s := (s.setKeys []).wrB SEC.STS.KEYSTORE_OK false
  (s.setSec .quarantined).logc SEC.PAGE 0xF4 s.secSts 0

/-- The slots of the store in use (R438); `none` when one does not unwrap. -/
def readSlots (store : List Byte) : Option (Table KeySlot) :=
  (List.range 1024).foldl (fun t n => match t with
    | none => none
    | some t => (slotOf (slice store (496 * (n / 10) + 48 * (n % 10)) 48)).map
        (fun k => tset (fun _ => KeySlot.empty) t n k)) (some [])

/-- The check of the seal record and the key store at stage 5 (R438). A transition that was cut short after its record is
completed: its fuse burns, and its code 0xF0 or 0xF1 is logged (R451). -/
def State.checkSeal (s : State) : State :=
  let n := s.secu.trans
  match s.pageData 170 with
  | none => if n = 0 then
      ((s.setKeys []).wrB SEC.STS.KEYSTORE_OK true).setSec .openS
    else s.keyStoreFailed
  | some d =>
    let gen := leAt d 5 2
    match s.ksPages with
    | none => s.keyStoreFailed
    | some store =>
      match readSlots store with
      | none => s.keyStoreFailed
      | some keys =>
        if d.take 104 = sealRecord (leAt d 4 1 == 1) gen (sha384 store) ∧ leAt d 4 1 ≤ 1 ∧ gen ≤ 256 ∧ (gen = n ∨ gen = n + 1) then
          let s := (s.setKeys keys).wrB SEC.STS.KEYSTORE_OK true
          let s := s.setSec (if leAt d 4 1 = 1 then .sealed else .openS)
          if gen = n + 1 then
            let s := s.burnTrans
            s.logc SEC.PAGE (if leAt d 4 1 = 1 then 0xF0 else 0xF1) s.secSts 0
          else s
        else s.keyStoreFailed

/-! ### Operations (R439-R441, R454) -/

/-- `n` WO registers of the SEC page as bytes, each word most significant byte first (R452). -/
def State.secBytes (s : State) (off n : Nat) : List Byte :=
  ((List.range n).map (fun k => beBytes 4 (s.reg (regKey 0 SEC.PAGE (off + 4 * k))).toNat)).flatten

/-- KEY_DATA0-7, SIG0-23 and PUB0-23 read 0 after an operation (R441, R454). -/
def State.clearSec (s : State) : State :=
  let z (s : State) (off n : Nat) : State :=
    s.each (List.range n) (fun s k => s.setReg (regKey 0 SEC.PAGE (off + 4 * k)) 0)
  z (z (z s 0x200 8) 0x300 24) 0x400 24

/-- An operation ends (R452): RESULT, event OP_DONE; one that is refused is logged with 0xF8, a failed key write with
0xF9 (R439, R451). -/
def State.secEnd (s : State) (code log : Nat) : State :=
  let s := ((s.wr SEC.RESULT.CODE code).clearSec).event SEC.PAGE 1
  s.logc SEC.PAGE log s.secSts 0

/-- An operation refused: nothing else changes (R439). -/
def State.secRefuse (s : State) (code : Nat) : State := s.secEnd code 0xF8

/-- The owner public key digest in force (R439, R440). -/
def State.ownerKey (s : State) : Option (List Byte) := s.secu.owners.getLast?

/-- SEC.NONCE. -/
def State.nonce (s : State) : Nat := s.rd SEC.NONCE_LO.NONCE + s.rd SEC.NONCE_HI.NONCE * 2 ^ 32

/-- SEC.NONCE takes a new value, which the spec leaves open (R439). -/
def State.renewNonce (s : State) : State :=
  let (v, s) := s.takeFree 64
  (s.wr SEC.NONCE_LO.NONCE (v.toNat % 2 ^ 32)).wr SEC.NONCE_HI.NONCE (v.toNat / 2 ^ 32)

/-- The 32 bytes of a signed message (R440). -/
def State.signedMsg (s : State) (name : List Byte) : List Byte :=
  (name ++ zeros 8).take 8 ++ beBytes 8 (s.rd SYS.MODID_LO + s.rd SYS.MODID_HI * 2 ^ 32) ++ beBytes 8 s.nonce ++
  beBytes 2 s.secu.trans ++ zeros 6

/-- SIG0-23 is the owner's signature over a message (R440). -/
def State.signed (s : State) (msg : List Byte) : Bool :=
  match s.ownerKey with
  | some k => ownerSigned k msg (s.secBytes 0x300 24)
  | none => false

/-- A failed signature (R439): RESULT 2; the fourth within 60 s starts the 600 s in which the three operations are refused. -/
def State.badSignature (s : State) : State :=
  let recent := s.clk.now :: s.secu.sigFails.filter (fun t => decide (s.clk.now < t + 60 * 1600000000))
  let s := if recent.length < 4 then s.setSigs recent s.secu.sigLock else s.setSigs [] true
  s.secRefuse 2

/-- UNSEAL, RECOVER and OWNER: the checks they share, in the order state, lockout, fuses, store, signature; every attempt
renews NONCE (R439). -/
def State.ownerOp (s : State) (allowed free store sigOk : Bool) (act : State → State) : State :=
  let s' := s.renewNonce
  if !allowed then s'.secRefuse 1
  else if s.secu.sigLock then s'.secRefuse 6
  else if !free then s'.secRefuse 3
  else if store && s.nvsNoWrite then s'.secRefuse 5
  else if !sigOk then s'.badSignature
  else act s'

/-- OP 1, SEAL (R439, R434, R451). -/
def State.opSeal (s : State) : State :=
  let pub := s.secBytes 0x400 24
  if s.mode.sec ≠ .openS ∨ s.mode.dbg = .intrusive ∨ s.mode.power = .discharge ∨ s.rdB SEC.STS.KEYSTORE_OK = false then
    s.secRefuse 1
  else if 256 ≤ s.secu.trans then s.secRefuse 3
  else if s.secu.owners = [] ∧ pub.all (· == 0) then s.secRefuse 2
  else if s.nvsNoWrite then s.secRefuse 5
  else
    let s := if s.secu.owners = [] then s.burnOwner pub else s
    let s := (s.writeSeal true (s.secu.trans + 1)).burnTrans
    ((s.setSec .sealed).startVerSweep).secEnd 0 0xF0

/-- OP 2, UNSEAL (R439). The path is judged where the write passes the gate (R362). -/
def State.opUnseal (s : State) : State :=
  s.ownerOp (s.mode.sec == .sealed) (decide (s.secu.trans < 256)) true
    (s.signed (s.signedMsg (ascii "UNSEAL"))) (fun s =>
      (((s.writeSeal false (s.secu.trans + 1)).burnTrans).setSec .openS).secEnd 0 0xF1)

/-- OP 3, RECOVER (R439, R433): every slot empties, and a module reset follows. -/
def State.opRecover (s : State) : State :=
  s.ownerOp (s.mode.sec == .quarantined && !s.rdB SEC.STS.KEYSTORE_OK) (decide (s.secu.trans < 256)) true
    (s.secu.owners.isEmpty || s.signed (s.signedMsg (ascii "RECOVER"))) (fun s =>
      let s := s.each (List.range 103) (fun s k => s.commitPage (171 + k) (zeros 496))
      let s := s.setKeys []
      let s := ((s.writeSeal false (s.secu.trans + 1)).burnTrans).wrB SEC.STS.KEYSTORE_OK true
      ((s.setSec .openS).secEnd 0 0xFD).moduleRequest .module)

/-- OP 4, OWNER (R439, R440): the current owner signs the new key. It has no code of its own. -/
def State.opOwner (s : State) : State :=
  let pub := s.secBytes 0x400 24
  s.ownerOp (s.mode.sec == .sealed) (decide (s.secu.owners.length < 4)) false
    (s.signed (s.signedMsg (ascii "OWNER") ++ pub)) (fun s =>
      (((s.burnOwner pub).wr SEC.RESULT.CODE 0).clearSec).event SEC.PAGE 1)

/-- OP 5, KEY_LOAD (R439, R441, R451). `readOk`: the page read back as written. -/
def State.opKeyLoad (s : State) (readOk : Bool) : State :=
  if s.mode.sec ≠ .openS ∨ s.rd SEC.KEY_BIND.SOURCE = 0 then s.secRefuse 1
  else if s.nvsNoWrite || !readOk then s.secEnd 5 0xF9
  else (s.writeSlot (s.rd SEC.KEY_SEL.SLOT)
    { loaded := true, source := s.rd SEC.KEY_BIND.SOURCE, key := s.secBytes 0x200 8 }).secEnd 0 0xF9

/-- OP 6, KEY_CLEAR (R439). -/
def State.opKeyClear (s : State) : State :=
  if s.mode.sec ≠ .openS then s.secRefuse 1
  else if s.nvsNoWrite then s.secEnd 5 0xF9
  else (s.writeSlot (s.rd SEC.KEY_SEL.SLOT) KeySlot.empty).secEnd 0 0xF9

/-- OP 7, SVN_COMMIT (R439): thermometer fuses up to the running image's SVN. -/
def State.opSvnCommit (s : State) : State :=
  if s.mode.sec = .quarantined ∨ s.rdB SEC.STS.FW_OK = false then s.secRefuse 1
  else
    let s := s.burnSvn (s.rd SEC.FW_STS.SVN)
    (s.wr SEC.FW_STS.SVN_MIN s.secu.svnFuses).secEnd 0 0xFC

/-- One operation by its OP code. -/
def State.secOp (s : State) (op : Nat) (readOk : Bool) : State :=
  if op = 1 then s.opSeal else if op = 2 then s.opUnseal else if op = 3 then s.opRecover
  else if op = 4 then s.opOwner else if op = 5 then s.opKeyLoad readOk else if op = 6 then s.opKeyClear
  else if op = 7 then s.opSvnCommit else s

/-- A write of SEC.CTL (R439, R454). -/
def wrSecCtl (readOk : Bool) (v : Nat) (s : State) : WrRes :=
  if s.rd SEC.RESULT.CODE = 8 then ignCode SEC.PAGE 0xF8 s.secSts 0 s else okW (s.secOp (v % 8) readOk)

/-- A write of KEY_DATA, SIG, PUB, KEY_SEL or KEY_BIND (R454). -/
def wrSecReg (path : Path) (off v : Nat) (s : State) : WrRes :=
  if s.rd SEC.RESULT.CODE = 8 then ign28 path SEC.PAGE off v s
  else if off = SEC.KEY_SEL.SLOT.off ∨ off = SEC.KEY_BIND.SOURCE.off then okW (s.plainWrite SEC.PAGE off 0 v)
  else okW (s.setReg (regKey 0 SEC.PAGE off) (BitVec.ofNat 32 v))

/-- SIGNATURE_LOCKOUT_END (R439): 600 s after the fourth failed signature. -/
def execSignatureLockoutEnd (s : State) : Out :=
  .next (if s.secu.lockAt + secWc 600 ≤ s.clk.now then s.setSigs s.secu.sigFails false else s)

end Sys2Proof.Machine
end

