-- ==== Sys2Proof/Machine/Debug.lean ====
section
/-! DEFINITION. The debug port (R444-R448, R450, R453): attachment, the Intrusive sequence and the instructions of the test
access port (R445). The register instructions stand with the register arbiter. -/

namespace Sys2Proof.Machine

/-! ### Attachment (R444, R446, R448) -/

/-- A beam stamp into a pair of registers. -/
def State.stampPair (s : State) (lo hi : Fld) : State := (s.wr lo (s.stamp % 2 ^ 32)).wr hi (s.stamp / 2 ^ 32)

/-- The attachment level changes. -/
def State.setDbg (s : State) (l : DbgLevel) : State := s.modMode (fun m => { m with dbg := l })

/-- A log page that commits at once, ahead of every queued write (R446). -/
def State.commitLogPage (s : State) (p : Nat) : State :=
  let d := s.logPageData p
  let s := (s.commitPage p d).logPageDone p d
  s.modNvs (fun n => { n with cur := n.cur.map (fun w => if w.page = p then { w with data := d } else w) })

/-- The Log page of the newest ring entry (R404). -/
def State.newestLogPage (s : State) : Nat := logPage ((s.rd NVS.LOG_STS.HEAD + 16383) % 16384)

/-- Intrusive ends (R448): code 0xF7, END and its event; a halted processor resumes and the watchdog restarts; a standby
leaf resynchronises. Keys stay withdrawn. -/
def State.endIntrusive (s : State) (level : DbgLevel) : State :=
  let s := ((s.setDbg level).releaseHalts).modBoot (fun b => { b with pinDrive := .none })
  let s := (s.stampPair DBG.END_LO.STAMP DBG.END_HI.STAMP).event DBG.PAGE 2
  let s := s.logc DBG.PAGE 0xF7 s.dbgSts 0
  (if s.role = 3 then s.startSync else s.toSyncing).resample

/-- DEBUG_ATTACH (R444, R450): DBG_PRES_N has been low for 10 ms: Observe, code 0xF5; in Discharge the record is dropped. -/
def execDebugAttach (s : State) : Out :=
  if s.mode.supply = .off then .next s
  else
    let s := s.wrB DBG.STS.PRESENT true
    if s.mode.dbg ≠ .detached then .next s
    else
      let s := (s.setDbg .observe).event DBG.PAGE 0
      .next (if s.mode.power = .discharge then s else s.logc DBG.PAGE 0xF5 s.dbgSts 0)

/-- DEBUG_DETACH (R444, R446, R448): DBG_PRES_N has been high for 10 ms; a pending request is cancelled. -/
def execDebugDetach (s : State) : Out :=
  let s := (s.wrB DBG.STS.PRESENT false).wrB SEC.STS.INT_PEND false
  .next (if s.mode.dbg = .intrusive then s.endIntrusive .detached else s.setDbg .detached)

/-- INTRUSIVE_GRANT (R446, R403, R169): the request's steps are done: the keys are withdrawn outside Open, the record 0xF6
and the INTRUSIVE counter commit, and the verification sweep starts. Never in Discharge; not before HOLD_RDY, the takeover
instant or SHUT_OUT. -/
def execIntrusiveGrant (s : State) : Out :=
  if s.rdB SEC.STS.INT_PEND = false ∨ s.rdB SYS.PWR_STS.HOLD_RDY = false ∨ s.mode.power = .discharge ∨
      s.mode.power = .shutter ∨ s.leaf.tau.isSome ∨ (s.role = 2 ∧ s.leaf.demoteCause ≠ 0 ∧ s.rd LEF.STS.PARTNER_ROLE = 4) then .next s
  else
    let s := (s.wrB SEC.STS.INT_PEND false).setDbg .intrusive
    let s := if s.mode.sec = .openS then s else s.wrB SEC.STS.KEYS_HIDDEN true
    let s := (s.bump DBG.CNT.COUNT).stampPair DBG.GRANT_LO.STAMP DBG.GRANT_HI.STAMP
    let s := ((s.event DBG.PAGE 1).logc DBG.PAGE 0xF6 s.dbgSts 0).count 6 1
    let s := s.commitLogPage s.newestLogPage
    .next (if s.role = 4 then s.startVerSweep.toSyncing else s.startVerSweep)

/-! ### Instructions of the test access port (R445) -/

/-- An instruction is loaded: its code, and no pins driven but by a pin-driving one. -/
def State.tapLoad (s : State) (code : BitVec 8) (dr : Nat) : State :=
  s.modBoot (fun b => { b with tapIr := code, tapDr := BitVec.ofNat 64 dr, pinDrive := .none })

/-- The attachment is Observe or Intrusive. -/
def State.attached (s : State) : Bool := s.mode.dbg != .detached

/-- IDCODE (0x01): the device identity, whose value the spec does not give. -/
def execIdcode (s : State) : Out :=
  let (v, s) := s.takeFree 32
  .next (s.tapLoad 0x01 v.toNat)

/-- SAMPLE/PRELOAD (0x02): the pins' values, which the block does not know, are captured, and the boundary scan register is
loaded with `cells`. -/
def execSamplePreload (cells : List Bool) (s : State) : Out :=
  let (v, s) := s.takeFree 64
  .next ((s.tapLoad 0x02 v.toNat).modBoot (fun b => { b with bsr := cells }))

/-- A pin-driving instruction: it drives the pins only while Intrusive with no half's rails up, and is otherwise a BYPASS
with SCAN_HELD, its event and code 0xFA. -/
def State.pinScan (s : State) (code : BitVec 8) (d : PinDrive) : State :=
  let s := s.tapLoad code 0
  if s.mode.dbg = .intrusive ∧ s.anyRailsUp = false then
    (s.modBoot (fun b => { b with pinDrive := d })).wrB DBG.STS.SCAN_HELD false
  else
    let s := (s.wrB DBG.STS.SCAN_HELD true).event DBG.PAGE 3
    s.logc DBG.PAGE 0xFA s.dbgSts code.toNat

/-- EXTEST (0x03). -/
def execExtest (s : State) : Out := .next (s.pinScan 0x03 .extest)

/-- CLAMP (0x04). -/
def execClamp (s : State) : Out := .next (s.pinScan 0x04 .clamp)

/-- HIGHZ (0x05). -/
def execHighz (s : State) : Out := .next (s.pinScan 0x05 .highz)

/-- EXTEST_PULSE (0x06). -/
def execExtestPulse (s : State) : Out := .next (s.pinScan 0x06 .pulse)

/-- EXTEST_TRAIN (0x07). -/
def execExtestTrain (s : State) : Out := .next (s.pinScan 0x07 .train)

/-- A request for Intrusive (R446, steps 1 to 3): INT_PEND; outside Open the keys are withdrawn; DEMOTE with cause 6 to a
Ready partner; the Shutter exit. -/
def State.askIntrusive (s : State) : State :=
  let s := s.wrB SEC.STS.INT_PEND true
  let s := if s.mode.sec = .openS then s else s.wrB SEC.STS.KEYS_HIDDEN true
  let s := s.wantDemote 6
  if s.mode.power = .shutter then s.exitRequest else s

/-- DBG_REQ (0x10; R445, R446, R448): 2 asks for Intrusive, 0 cancels the request or ends Intrusive; while Detached it acts as
BYPASS. -/
def execDbgReq (req : BitVec 2) (s : State) : Out :=
  let s := s.tapLoad 0x10 0
  if !s.attached then .next s
  else
    let s := s.wr DBG.STS.REQ req.toNat
    if req = 2 then
      .next (if s.mode.dbg = .observe ∧ s.rdB SEC.STS.INT_PEND = false then s.askIntrusive else s)
    else if req = 0 then
      let s := s.wrB SEC.STS.INT_PEND false
      .next (if s.mode.dbg = .intrusive then s.endIntrusive .observe else s)
    else .next s

/-- DBG_STS (0x11): SEC.STS. -/
def execDbgSts (s : State) : Out := .next (s.tapLoad 0x11 s.secSts)

/-- MEM_RD (0x14; R444, R445, R450): a 32-bit read of HBM in the Background class, whose data `MemSt.resp` returns; while
Detached it acts as BYPASS. -/
def execMemRd (addr : BitVec 37) (s : State) : Out :=
  let s := s.tapLoad 0x14 0
  .next (if s.attached then
    s.memRequest {
      no := 0, cls := .background, who := .debug, addr := addr.toNat / 4 * 4, len := 4, write := none, since := s.clk.now
      head := false }
  else s)

/-- MEM_WR (0x15): a 32-bit write of HBM, while Intrusive; else it acts as BYPASS. -/
def execMemWr (addr : BitVec 37) (data : BitVec 32) (s : State) : Out :=
  let s := s.tapLoad 0x15 0
  .next (if s.mode.dbg = .intrusive then
    s.memRequest {
      no := 0, cls := .background, who := .debug, addr := addr.toNat / 4 * 4, len := 4, write := some (leBytes 4 data.toNat)
      since := s.clk.now, head := false }
  else s)

/-- HALT (0x16; R447): the Sill controller and firmware stop and the watchdog pauses; not in Discharge, which never waits for
a probe. -/
def execHalt (s : State) : Out :=
  let s := s.tapLoad 0x16 0
  if s.mode.dbg = .intrusive ∧ s.mode.power ≠ .discharge ∧ s.boot.halted = false then
    let s := s.modBoot (fun b => { b with halted := true, wdgMs := s.clk.now - b.wdgMs })
    .next (((s.wrB DBG.STS.HALTED true).wrB SIL.CPU_STS.HALTED true).wrB SIL.CPU_STS.WDG_PAUSED true)
  else .next s

/-- RESUME (0x17; R445): a halted processor resumes, and its watchdog goes on from where it paused. -/
def execResume (s : State) : Out :=
  let s := s.tapLoad 0x17 0
  if s.mode.dbg = .intrusive ∧ s.boot.halted then
    let w := s.clk.now - s.boot.wdgMs
    .next (s.releaseHalts.modBoot (fun b => { b with wdgMs := w }))
  else .next s

/-- BYPASS (0xFF), or any code the table does not give. -/
def execBypass (s : State) : Out := .next (s.tapLoad 0xFF 0)

/-- TEST_RESET (R67): TRST_N low resets the test access port alone. -/
def execTestReset (s : State) : Out := .next (s.tapLoad 0x01 0)

/-- Weave cycles since the last watchdog service; still while a probe halts the processor (R447, R474). -/
def State.wdgCycles (s : State) : Nat := if s.boot.halted then s.boot.wdgMs else s.clk.now - s.boot.wdgMs

end Sys2Proof.Machine
end

