-- ==== Sys2Proof/Machine/Start.lean ====
section
/-! DEFINITION. Start stages 5 to 8 (R56, R57, R65): firmware verification (R409, R442, R443), HBM training (R283), the map load
(R136, R228, R241, R409), the end of the lane step-up (R210, R319), and the watchdog (R67, R474). -/

namespace Sys2Proof.Machine

/-- A start, or a warm reset's part of one, runs in Sill and has not halted. -/
def State.startRuns (s : State) : Bool :=
  s.mode.supply == .on && s.mode.power == .sill && decide (s.rd SYS.START_STS.STAGE < 13) && !s.boot.romBad

/-- Start stage `k` is done. -/
def State.stageIs (s : State) (k : Nat) : Bool := s.boot.done.getLsbD k

/-! ### Firmware (R442, R443) -/

/-- What a verified firmware image says: SVN, VERSION and the ROM key that signed it. -/
structure FwInfo where
  svn : Nat
  version : Nat
  key : Nat
  deriving DecidableEq, Repr

/-- The ROM key with a digest that may sign now (R443): key 0 unless revoked, or key 1. -/
def State.romKeyOf (s : State) (digest : List Byte) : Option Nat :=
  ([0, 1] : List Nat).find? (fun k => !(k == 0 && s.secu.key0Revoked) && s.secu.romKeys.getD k [] == digest)

/-- The check of the firmware image of a side (R442, R443): its facts when it verifies. -/
def State.fwCheck (s : State) (side : Nat) : Option FwInfo :=
  match s.bmsImage side 1 with
  | none => none
  | some e =>
    let h := s.bmsRd side e.ofs 512
    let len := leAt h 8 4
    let svn := leAt h 6 2
    match s.romKeyOf (sha384 (slice h 160 96)) with
    | none => none
    | some k =>
      if leAt h 0 4 = 0x57464C54 ∧ leAt h 4 2 = 1 ∧ svn ≤ 63 ∧ 1 ≤ len ∧ len ≤ 33554432 ∧ 512 + len ≤ e.len ∧
          (h.drop 256).all (· == 0) ∧ ecdsaOk (slice h 160 96) (h.take 64) (slice h 64 96) ∧
          slice h 16 48 = sha384 (s.bmsRd side (e.ofs + 512) len) ∧ s.secu.svnFuses ≤ svn then
        some { svn := svn, version := leAt h 12 4, key := k }
      else none

/-- One side's image failed (R409, R443): code 0xF3 for an image that does not verify. -/
def State.fwFailed (s : State) (side : Nat) : State :=
  if (s.bmsImage side 1).isSome then s.logc SEC.PAGE 0xF3 s.secSts side else s

/-- A fall-back to the other side (R409): code 0xDB with the image type. -/
def State.fallBack (s : State) (ty : Nat) : State := s.logc BMS.PAGE 0xDB (s.rd BMS.STS) ty

/-- A verified image takes control (R56, R443, R448, R452): its facts are shown, withdrawn keys return unless Intrusive holds,
and the watchdog runs. -/
def State.runFirmware (s : State) (side : Nat) (i : FwInfo) : State :=
  let s := (s.wr SYS.START_STS.FW_IMG side).wrB SEC.STS.FW_OK true
  let s := (s.wr SEC.FW_STS.SVN i.svn).wr SEC.FW_STS.SIDE side
  let s := (s.wr SEC.FW_STS.SVN_MIN s.secu.svnFuses).wr SEC.FW_STS.KEY_IDX i.key
  let s := (s.wrB SEC.FW_STS.KEY0_REVOKED s.secu.key0Revoked).wr SEC.FW_VER i.version
  let s := (s.wrB SIL.CPU_STS.FW true).modBoot (fun b => { b with wdgMs := s.clk.now })
  if s.mode.dbg = .intrusive then s else s.wrB SEC.STS.KEYS_HIDDEN false

/-- The module becomes Quarantined at stage 5 (R433, R435): stage 14. -/
def State.enterQuarantine (s : State) : State :=
  let s := (s.wrB SEC.STS.FW_OK false).setSec .quarantined
  (s.modBoot (fun b => { b with starting := false, warm := false })).wr SYS.START_STS.STAGE 14

/-- The stage that runs once stage 5 is done: a warm reset keeps stages 6 and 7 (R67). -/
def State.afterFirmware (s : State) : Nat := if !s.stageIs 6 then 6 else if !s.stageIs 7 then 7 else 8

/-- Stage 5 ends with firmware running; HBM, which a warm reset held in self-refresh, is left from it (R67). -/
def State.firmwareDone (s : State) : State :=
  let s := if s.boot.warm then s.srLeave else s
  s.stageDone 5 s.afterFirmware

/-- The images tried in the order of R409 (R65): the first that verifies runs; a fall-back is fail code 0x0501. -/
def State.tryFirmware (s : State) : List Nat → State
  | [] => (s.startFail 0x0502).enterQuarantine
  | side :: rest =>
    match s.fwCheck side with
    | some i => (s.runFirmware side i).firmwareDone
    | none =>
      let s := s.fwFailed side
      match rest with
      | [] => (s.startFail 0x0502).enterQuarantine
      | other :: _ =>
        let s := s.fallBack 1
        match s.fwCheck other with
        | some i => ((s.startFail 0x0501).runFirmware other i).firmwareDone
        | none => ((s.fwFailed other).startFail 0x0502).enterQuarantine

/-- FIRMWARE_VERIFY (R56, R438, R443): stage 5, behind the first complete Sill frame where there is a Sill picture (R65): the seal
record and the key store, then the firmware image. -/
def execFirmwareVerify (s : State) : Out :=
  if s.startRuns = false ∨ s.stageIs 5 ∨ (s.boot.firstSill = false ∧ s.rdB SYS.START_STS.CFG_DEF = false) then .next s
  else
    let s := (s.showStage 5).checkSeal
    .next (if s.rdB SEC.STS.KEYSTORE_OK then s.tryFirmware s.bmsOrder else s.enterQuarantine)

/-! ### HBM training (R283, R423) -/

/-- The stacks whose narrowest eye is below 16/64 UI (R283). -/
def failedStacks (eyes : List (BitVec 6)) : Nat :=
  (List.range 4).foldl (fun a k => if (eyes.getD k 0).toNat < 16 then a + 2 ^ k else a) 0

/-- HBM_TRAINING (R283, R423, R65): `first` is the narrowest eye of each stack, in 1/64 UI, `again` that of a failed stack's
one retrain. It does not begin while the Hub or HBM zone is at or below Cold-stop. -/
def execHbmTraining (first again : List (BitVec 6)) (s : State) : Out :=
  let cold (z : Nat) : Bool := decide (s.rdI THM.ZONE_STS.TEMP 0 z ≤ 10 * s.rdI THM.ZONE_THR0.CSTOP 0 z)
  if s.startRuns = false ∨ s.stageIs 6 ∨ cold 5 ∨ cold 6 then .next s
  else
    let s := s.showStage 6
    let eyes := (List.range 4).map (fun k =>
      if (first.getD k 0).toNat < 16 then again.getD k 0 else first.getD k 0)
    let bad := failedStacks eyes
    let s := (s.wr DMC.TRAIN_STS.PASS (15 - bad)).wr DMC.TRAIN_STS.FAIL bad
    let s := s.wr DMC.TRAIN_STS.MARGIN (eyes.foldl (fun m e => min m e.toNat) 63)
    let s := (s.modMem (fun m => { m with retrain := false, trims := [] })).event DMC.PAGE 5
    if bad = 0 then .next (s.stageDone 6 7)
    else .next ((s.logc DMC.PAGE 0x86 (s.rd DMC.TRAIN_STS) 0).haltStart 0x0601)

/-! ### Map load (R136, R228, R241) -/

/-- A map check's CHECK mismatch counts in RIM.LOAD_ERR (R178, R185). -/
def State.loadErr (s : State) (match_ : Bool) : State := if match_ then s else s.bump RIM.LOAD_ERR

/-- The weave map of a side comes to both dies, in force from the first Weaver frame (R136). -/
def State.loadWeave (s : State) (e : BmsEntry) (side : Nat) : Option State :=
  let bs := s.bmsRd side e.ofs 8506
  match parseMap bs with
  | some m => if 8506 ≤ e.len then
      some (s.each ([0, 1] : List (Fin 2)) (fun s d =>
        ((s.wrB WV.MAP_CTL.SWAP true d).wrB WV.MAP_CTL.ERR false d).modWv (fun w => { w with mapNext := w.mapNext.set d (some m) })))
    else none
  | none => none

/-- Why the waveform table of a side is refused by a half, 0 when it passes (R227). An entry shorter than the table's layout
has not every field: WHY 1 (DEDUCED, log entry 194). -/
def State.waveWhy (s : State) (e : BmsEntry) (side : Nat) (h : Fin 2) : Nat :=
  if e.len < 916 then 1
  else (checkWave (s.bmsRd side e.ofs 916) s.boot.cfg.panelType (s.rd SCN.LINE_PER) (s.rd PDV.GATE_CTL.GATE_DLY h)).1

/-- The waveform table of a side comes to both halves (R228). -/
def State.loadWave (s : State) (e : BmsEntry) (side : Nat) : Option State :=
  let bs := s.bmsRd side e.ofs 916
  if e.len < 916 then none
  else
    let put (s : State) (h : Fin 2) : Option State :=
      match checkWave bs s.boot.cfg.panelType (s.rd SCN.LINE_PER) (s.rd PDV.GATE_CTL.GATE_DLY h) with
      | (_, some w) => some ((((s.wrB PDV.WF_CTL.SWAP true h).wrB PDV.WF_CTL.ERR false h).wr PDV.WF_CTL.WHY 0 h).modPanel
          (fun p => { p with waveNext := p.waveNext.set h (some w) }))
      | (_, none) => none
    (put s 0).bind (fun s => put s 1)

/-- The serial number that the identity EEPROMs of the panels in place give (R241). -/
def State.panelSerOk (s : State) (ser : Nat) : Bool :=
  ([0, 1] : List (Fin 2)).all (fun h => s.panel.presN[h] || s.panel.eeprom[h].2 == ser)

/-- The uniformity image of a side (R241): NODES and RESID go to both dies' addresses. -/
def State.loadUniform (s : State) (e : BmsEntry) (side : Nat) : Option State :=
  let n := 797047456
  let bs := s.bmsRd side e.ofs (n + 4)
  if e.len < n + 4 ∨ leAt bs 0 4 ≠ 0x46494E55 ∨ leAt bs 4 2 ≠ 1 ∨ leAt bs 6 2 ≠ 0 ∨ !(slice bs 16 48).all (· == 0) ∨
      leAt bs n 4 ≠ Sys2Proof.Machine.rim (bs.take n) 0 ∨ s.panelSerOk (leAt bs 8 8) = false then none
  else
    some (s.each ([0, 1] : List (Fin 2)) (fun s d =>
      (s.hbmWr (s.addr37 WV.UNI_NODE_LO WV.UNI_NODE_HI.ADDR d) (slice bs 64 784992)).hbmWr
        (s.addr37 WV.UNI_ADDR_LO WV.UNI_ADDR_HI.ADDR d) (slice bs 785056 796262400)))

/-- The failure of one side's image of a type, reported as a load that software asked for is (R136, R184, R228, R241): a failed
check counts in LOAD_ERR; a weave map is code 0x24 on both dies, a waveform table code 0x62 on each half that refuses it; a
uniformity image for another panel counts as failing its check, code 0x68. -/
def State.mapFailed (s : State) (e : BmsEntry) (side ty : Nat) : State :=
  let n := if ty = 2 then 8502 else if ty = 3 then 912 else 797047456
  let bs := s.bmsRd side e.ofs (n + 4)
  let serOk := ty != 4 || s.panelSerOk (leAt bs 8 8)
  let s := s.loadErr (leAt bs n 4 == Sys2Proof.Machine.rim (bs.take n) 0 && serOk)
  if ty = 2 then
    s.each ([0, 1] : List (Fin 2)) (fun s d =>
      let s := (s.wrB WV.MAP_CTL.SWAP false d).wrB WV.MAP_CTL.ERR true d
      s.logc (WV.PAGE + d) 0x24 (s.rd WV.MAP_CTL d) (leAt bs 8502 4))
  else if ty = 3 then
    s.each ([0, 1] : List (Fin 2)) (fun s h =>
      if s.waveWhy e side h = 0 then s else s.refuseWave h (s.waveWhy e side h))
  else if serOk then s else s.logc PDV.PAGE 0x68 (s.rd PDV.WF_CTL 0) side

/-- One image type from the sides in order (R409): the first that passes is used, each fall-back is logged with 0xDB. -/
def State.loadType (s : State) (ty : Nat) : List Nat → Option State × State
  | [] => (none, s)
  | side :: rest =>
    match s.bmsImage side ty with
    | none => State.loadType (if rest.isEmpty then s else s.fallBack ty) ty rest
    | some e =>
      match (if ty = 2 then s.loadWeave e side else if ty = 3 then s.loadWave e side else s.loadUniform e side) with
      | some s' => (some s', s)
      | none =>
        let s := s.mapFailed e side ty
        State.loadType (if rest.isEmpty then s else s.fallBack ty) ty rest

/-- MAP_LOAD (R56, R65, R241): stage 7: the weave map, the waveform table and the uniformity map; one that fails on both sides
halts the start with fail code 0x0701. -/
def execMapLoad (s : State) : Out :=
  if s.startRuns = false ∨ s.stageIs 6 = false ∨ s.stageIs 7 then .next s
  else
    let s := s.showStage 7
    match s.loadType 2 s.bmsOrder with
    | (none, s) => .next (s.haltStart 0x0701)
    | (some s, _) => match s.loadType 3 s.bmsOrder with
      | (none, s) => .next (s.haltStart 0x0701)
      | (some s, _) => match s.loadType 4 s.bmsOrder with
        | (none, s) => .next (s.haltStart 0x0701)
        | (some s, _) => .next (s.stageDone 7 8)

/-! ### Lane step-up (R210, R319, R424) -/

/-- The panel lanes of every half with a panel run at the configured rate; a warm reset keeps the rate they have (R67). -/
def State.lanesAtRate (s : State) : Bool :=
  s.boot.warm || ([0, 1] : List (Fin 2)).all (fun h => s.panel.presN[h] ||
    (s.rd PLK.LINK_STS.RATE_CUR h == min 3 (s.rd PLK.LINK_CTL.RATE h) && !s.scan.rateTrain[h]))

/-- LANE_STEP_UP (R56, R210, R319, R424): stage 8 ends with the panel lanes at their rate; ports that stay down go on by
themselves (R65). An unaddressed module waits in Sill at stage 13; calibration starts when CLB.CTL.AUTO asks for it. -/
def execLaneStepUp (s : State) : Out :=
  if s.startRuns = false ∨ s.stageIs 5 = false ∨ s.stageIs 7 = false ∨ s.stageIs 8 ∨ s.lanesAtRate = false then .next s
  else
    let s := s.stageDone 8 9
    let s := if s.rdB CLB.CTL.AUTO then s.askRun 7 else s
    if s.addrSrc ≠ 2 ∧ s.addressed = false then
      .next ((s.modFab (fun f => { f with waitAddr := true })).wr SYS.START_STS.STAGE 13)
    else .next s

/-! ### The watchdog (R67, R447, R474) -/

/-- WATCHDOG_RESET (R67): 2 s without a service, while firmware runs unhalted: the Sill controller restarts from ROM, then
firmware; nothing else changes. -/
def execWatchdogReset (s : State) : Out :=
  if s.rdB SIL.CPU_STS.FW = false ∨ s.boot.halted ∨ s.wdgCycles < 2 * 1600000000 then .next s
  else
    let s := (s.bump SIL.WDG_STS.EXPIRIES).wr SYS.RST_CAUSE.CAUSE 4
    .next (s.modBoot (fun b => { b with wdgMs := s.clk.now }))

/-- A write of WDG_SVC (R474): only firmware's key services the watchdog. -/
def wrWdgSvc (path : Path) (v : Nat) (s : State) : WrRes :=
  if path = .firmware ∧ v = 0xA5C3 then
    okW (s.modBoot (fun b => { b with wdgMs := if b.halted then 0 else s.clk.now }))
  else ign28 path SIL.PAGE SIL.WDG_SVC.KEY.off v s

end Sys2Proof.Machine
end

