-- ==== Sys2Proof/Machine/RegRead.lean ====
section
/-! DEFINITION. What a register read returns and does (R10, R455-R457, R461, R464, R465): the stored value, the values
that are computed from other state, read-to-clear, and the latching of _HI registers. -/

namespace Sys2Proof.Machine

/-- PG_STS (R457). A soft reset is complete with its write, so SRST_BUSY reads 0. -/
def State.pgSts (s : State) (page : Nat) : Nat :=
  b2n (s.mode.supply == .on) + 4 * b2n (s.rdB HDR.PG_CTL.LOCK page) +
  8 * b2n ((s.rd HDR.PG_EVT page &&& s.rd HDR.PG_EVT_EN page) != 0)

/-- ALM_STS (R472). -/
def State.almSts (s : State) : Nat :=
  b2n s.relayClosed + 2 * b2n s.freshFault + 4 * b2n s.leafFault + 8 * b2n s.thermalFault + 16 * b2n s.powerFault

/-- The descriptor record that DESC_SEL of a path names (R99, R107); zeros for one that is not enabled. -/
def State.descRecord (s : State) (path : Path) : List Byte :=
  let i := s.rd ING.DESC_SEL.INDEX 0 path.num
  let t := if s.rdB ING.DESC_SEL.SHADOW 0 path.num then s.shadowTabs else s.tabs
  if i < 4096 then
    match tget (fun _ => none) t.1 i with | some p => planeRecord i p | none => zeros 64
  else
    match tget (fun _ => none) t.2 (i - 4096) with | some l => louvreRecord (i - 4096) l | none => zeros 64

/-- FILL, POS and whether the tables are valid, of a stream (R119, R131): from the lane that holds the context, else from
its slot's header. Stream 0 has no context. -/
def State.streamCtx (s : State) (st : Nat) : Nat × Nat × Bool :=
  if st = 0 then (0, 0, false)
  else match s.laneOf st with
    | some n => match (s.decLane n).ctx with
      | some (_, c) => (c.hist.length, c.pos, c.tabs.isSome)
      | none => (0, 0, false)
    | none =>
      let h := s.hbmRd (s.ctxSlot st + coilWindow) 12
      (leAt h 4 4 % 2 ^ 19, leAt h 0 4, leAt h 8 4 == 1)

/-- COL.STRM_STS of the selected stream (R131). -/
def State.strmSts (s : State) (st : Nat) : Nat :=
  let (fill, _, tabs) := s.streamCtx st
  b2n (s.laneOf st).isSome + 2 * (s.laneOf st).getD 0 + 64 * b2n tabs + 128 * b2n (s.streamDecodes st) + 256 * fill

/-- WV.SLOT_INFO (R159). -/
def State.slotInfo (s : State) (die : Fin 2) (path : Path) : Nat :=
  match (s.wv.plan[die].getD (s.rd WV.SLOT_SEL.BAND die path.num) [])[s.rd WV.SLOT_SEL.SLOT die path.num]? with
  | some t => t.plane % 4096 + 4096 * t.w + 2 ^ 31
  | none => 0

/-- FRS.TILE_VERDICT (R174, R175): the last sample's verdict and row, 0 before the first. -/
def State.tileVerdict (s : State) (h : Nat) : Nat :=
  let row := (tget (fun _ => (0, 0)) s.frs.seen h).1
  if row = 0 then 0 else rowVerdict row + 8 * row

/-- SEC.KEY_STS of the selected slot (R454). -/
def State.keySts (s : State) (path : Path) : Nat :=
  let k := s.keySlot (s.rd SEC.KEY_SEL.SLOT 0 path.num)
  if k.loaded then 1 + k.source % 2 ^ 16 * 2 ^ 16 else 0

/-- The RO registers of every block that are computed at the read, with what the read does; `none` where the register
reads as stored. -/
def State.computed (s : State) (path : Path) (page off : Nat) : Option (Nat × State) :=
  let n := path.num
  if off = HDR.PG_STS.off then some (s.pgSts page, s)
  else if page = SYS.PAGE then
    (if off = SYS.UPTIME.off then some (min 0xFFFFFFFF (s.clk.now / 1600000000), s)
     else if off = SYS.LIFE_S.off then some (s.lifeS, s)
     else if off = SYS.PWR_STS.off then some (s.pwrSts, s)
     else if off = SYS.FEED_V.off then (let (v, s) := s.takeFree 32; some (v.toNat, s))
     else if off = SYS.IN_PWR.off then (let (v, s) := s.takeFree 16; some (v.toNat, s))
     else if off = SYS.ALM_STS.off then some (s.almSts, s) else none)
  else if page = SIL.PAGE then
    (if off = SIL.CPU_STS.off then some (s.rd SIL.CPU_STS % 2 ^ 16 + Config.romVersion.toNat * 2 ^ 16, s)
     else if off = SIL.WDG_STS.off then
       some (min 0xFFFF (s.wdgCycles / 1600000) + s.rd SIL.WDG_STS.EXPIRIES * 2 ^ 16, s)
     else none)
  else if page = ING.PAGE then
    (if off = ING.RING_FILL.off then some ((s.ringQ (s.rd ING.RING_SEL.RING 0 n)).fill, s)
     else if ING.DESC_WIN.off ≤ off then some (leAt (s.descRecord path) (off - ING.DESC_WIN.off) 4, s) else none)
  else if page = COL.PAGE then
    (if off = COL.STRM_STS.off then some (s.strmSts (s.rd COL.STRM_SEL.STREAM 0 n), s)
     else if off = COL.STRM_POS.off then some ((s.streamCtx (s.rd COL.STRM_SEL.STREAM 0 n)).2.1, s) else none)
  else if page = FRS.PAGE then
    let h := s.rd FRS.TILE_SEL.HANDLE 0 n
    (if off = FRS.TILE_VERDICT.off then some (s.tileVerdict h, s)
     else if off = FRS.TILE_AGE.off then some (wrapI 32 (tget (fun _ => ((0 : Nat), (0 : Int))) s.frs.seen h).2, s)
     else if FRS.ENT.off ≤ off then some ((s.entryRaw h).word ((off - FRS.ENT.off) / 4), s) else none)
  else if page = 0x020 ∨ page = 0x021 then
    let d : Fin 2 := if page = 0x020 then 0 else 1
    (if off = WV.SLOT_INFO.off then some (s.slotInfo d path, s)
     else if off = WV.LUT_DATA.VALUE.off then some (s.rdLutData d path) else none)
  else if page = SCN.PAGE then
    (if off = SCN.BEAM_LO.off then some (s.clk.wc.toNat + 2 ^ 16 * s.clk.line.toNat, s)
     else if off = SCN.BEAM_HI.off then some (s.clk.frame.toNat, s)
     else if off = SCN.SHUT_E.off then
       some ((match s.expiryUs with | some e => min 0xFFFFFFFF (e / 1000) | none => 0xFFFFFFFF), s)
     else none)
  else if page = 0x025 ∨ page = 0x026 then
    let h : Fin 2 := if page = 0x025 then 0 else 1
    (if off = PDV.RES_VAL.off then some (s.resVal h path)
     else if off = PDV.WV_STS.off then some (setBits (s.rd PDV.WV_STS h) 1 0 s.phase, s) else none)
  else if page = DMC.PAGE then (if off = DMC.ROUND_POS.off then some (s.roundPos, s) else none)
  else if page = FAB.PAGE then
    (if off = FAB.RT_DATA.PORT.off then
       some ((s.reg (regKey (s.rd FAB.RT_SEL.DST 0 n) FAB.PAGE off)).toNat, State.rtAdvance path s)
     else none)
  else if page = TIM.PAGE then
    (if off = TIM.NSEC.off then
       some (s.clk.ns.toNat, (s.wr TIM.SEC_HI (s.clk.sec.toNat / 2 ^ 32)).wr TIM.SEC_LO (s.clk.sec.toNat % 2 ^ 32))
     else if off = TIM.NS_RAW.off then some (s.rawNs, s) else none)
  else if page = LEF.PAGE then (if off = LEF.STS.off then some (s.lefSts, s) else none)
  else if page = NVS.PAGE then
    (if off = NVS.STS.off then
       some (setBits (setBits (s.rd NVS.STS) 0 0 (b2n (s.mode.supply != .off))) 9 9 (b2n s.nvs.jrnlOn), s)
     else if off = NVS.PG_SEQ.off then some ((s.pageSeq (s.rd NVS.PG_SEL.PAGE 0 n)).toNat, s)
     else if off = NVS.CNT_VAL.off then some (s.cntVal path)
     else none)
  else if page = SEC.PAGE then
    (if off = SEC.STS.off then some (s.secSts, s) else if off = SEC.KEY_STS.off then some (s.keySts path, s) else none)
  else if page = DBG.PAGE then (if off = DBG.STS.off then some (s.dbgSts, s) else none)
  else if page = 0x070 ∨ page = 0x071 then
    (if off = EVT.STS.off then some (s.evFill (page - 0x070) + s.rd EVT.STS (page - 0x070) / 2 ^ 13 * 2 ^ 13, s) else none)
  else none

/-- The _LO registers of RO pairs and their _HI registers (R465): page and offsets. -/
def roPairs : List (Nat × Nat × Nat) :=
  [(0x000, 0x104, 0x108), (0x000, 0x10C, 0x110), (0x022, 0x120, 0x124), (0x030, 0x12C, 0x130), (0x032, 0x10C, 0x110),
   (0x040, 0x154, 0x158), (0x041, 0x140, 0x144), (0x042, 0x114, 0x118), (0x060, 0x10C, 0x110), (0x061, 0x104, 0x108),
   (0x061, 0x10C, 0x110)]

/-- The value of a register, before what the read does to it (R10): WO reads 0. -/
def State.readVal (s : State) (path : Path) (page off : Nat) (r : RegRow) : Nat × State :=
  if r.acc = .wo then (0, s)
  else match s.computed path page off with
    | some vs => vs
    | none => ((s.reg (regKey (s.itemOf path page off) page off)).toNat, s)

/-- What a read does to the register it reads (R10, R11, R457): an RC register clears but for what rose in the same weave cycle
(`same`), which is kept for the next read; a read of PG_ERR_CNT also opens PG_ERR_FIRST for the next record, unless every
record it counts rose in that cycle. -/
def State.readClear (s : State) (path : Path) (page off : Nat) (r : RegRow) (same : Nat) : State :=
  if r.acc = .rc then
    let k := regKey (s.itemOf path page off) page off
    let v := (s.reg k).toNat
    let s := s.setReg k (BitVec.ofNat 32 (min same v))
    if off = HDR.PG_ERR_CNT.COUNT.off ∧ ¬ (v ≤ same ∧ 0 < v) then s.setReg (regKey 0 page HDR.PG_ERR_FIRST.CODE.off) 0 else s
  else s

/-- The value that a read of an RC register returns (R11): without what rose in the same weave cycle. -/
def rcValue (r : RegRow) (same v : Nat) : Nat := if r.acc = .rc then v - same else v

/-- The latch of RO pairs (R465): a read of _LO latches _HI, and the next read of _HI returns that value. -/
def State.readLatch (s : State) (path : Path) (page off v : Nat) : Nat × State :=
  match roPairs.find? (fun p => p.1 == page && p.2.1 == off) with
  | some (_, _, hi) =>
    let hv := match s.computed path page hi with
      | some vs => vs.1
      | none => (s.reg (regKey (s.itemOf path page hi) page hi)).toNat
    (v, s.modBus (fun b => { b with latched := tput (regKey 0 page hi) (BitVec.ofNat 32 hv) b.latched }))
  | none =>
    if roPairs.any (fun p => p.1 == page && p.2.2 == off) then
      match tfind s.bus.latched (regKey 0 page off) with
      | some hv => (hv.toNat, s.modBus (fun b => { b with latched := tdel (regKey 0 page off) b.latched }))
      | none => (v, s)
    else (v, s)

/-- A read of a register outside the windows that passed the checks of its access: its value and the state after it
(R9-R11, R465). -/
def State.readReg (s : State) (path : Path) (page off : Nat) (same : Nat := 0) : Nat × State :=
  match rowOf page off with
  | none => (0, s)
  | some r =>
    let (v, s) := s.readVal path page off r
    (s.readClear path page off r same).readLatch path page off (rcValue r same v % 2 ^ 32)

end Sys2Proof.Machine
end

