-- ==== Sys2Proof/Machine/RegDisp.lean ====
section
/-! DEFINITION. Register writes by address: the common header (R457-R459), the event rings (R481, R482), the memory windows
(R473) and every block's own registers; and one whole access of a path (R455-R468, R474). -/

namespace Sys2Proof.Machine

/-! ### The common header (R457-R459) -/

/-- Pages whose soft reset is always refused (R458): SYS (its window pages too), SIL, SEC, DBG, NVS and EVT. -/
def softNever (page : Nat) : Bool :=
  [0x000, 0x001, 0x060, 0x061, 0x050, 0x070, 0x071].contains page || decide (0x100 ≤ page)

/-- Pages soft-reset only in the Sill power state (R458): WV, SCN, PLK, PDV, DMC, FRS and LNT. -/
def softInSill (page : Nat) : Bool :=
  [0x020, 0x021, 0x022, 0x023, 0x024, 0x025, 0x026, 0x030, 0x012, 0x041].contains page

/-- A soft reset of a page is refused now (R458). -/
def State.softRefused (s : State) (page : Nat) : Bool :=
  softNever page || (softInSill page && s.mode.power != .sill)

/-- A register that a soft reset of its page returns to its default (R458): the RW fields, the RC counters, PG_EVT and
PG_ERR_FIRST. -/
def softDrops (page key : Nat) : Bool :=
  key / 4096 % 4096 == page &&
  (match rowOf page (key % 4096) with
   | some r => r.acc == .rw || r.acc == .rc || key % 4096 == HDR.PG_EVT.off || key % 4096 == HDR.PG_ERR_FIRST.CODE.off
   | none => false)

/-- The machines of a block restart as a warm reset restarts them (R458, R67). A block that a warm reset does not restart
goes on, except that a Rim calculator job ends (log entry 22). -/
def State.softMachines (s : State) (page : Nat) : State :=
  if page = ING.PAGE then s.ingestWarm
  else if page = COL.PAGE then s.coilWarm
  else if page = RIM.PAGE then (s.modRim (fun r => { r with calcJob := none })).wrB RIM.CALC_STS.BUSY false
  else if page = WFT.PAGE then s.weftReset
  else if page = 0x020 ∨ page = 0x021 then
    let d := page - 0x020
    s.modWv (fun w => { w with
      cells := tfilter (fun k _ => cellDie k != d) w.cells, wanted := w.wanted.filter (fun c => cellDie c != d) })
  else if page = LAN.PAGE then s.each ((List.range 40).filter (fun p => s.portState p != 0)) (fun s p => s.portOff p)
  else if page = FAB.PAGE then
    let s := (s.modFab (fun f => { f with rtPend := [] })).dropEff
      (fun k => k % 2 ^ 24 == regKey 0 FAB.PAGE FAB.RT_DATA.PORT.off)
    s.each ((List.range 24).filter (fun p => s.portState p != 0)) (fun s p => s.portOff p)
  else if page = LEF.PAGE ∧ s.paired then
    let d := s.leaf.driving
    (s.setRole 0).modLeaf (fun _ => { LeafSt.init with driving := d })
  else s

/-- A weave map in force keeps its stake count in the register (R159). -/
def State.showMap (s : State) (page : Nat) : State :=
  if page = 0x020 then s.wr WV.MAP_CTL.NSTK (s.wv.map[0]).nstk 0
  else if page = 0x021 then s.wr WV.MAP_CTL.NSTK (s.wv.map[1]).nstk 1 else s

/-- The soft reset of a page (R458); a page lock stays (R459). -/
def State.softReset (s : State) (page : Nat) : State :=
  let lock := s.rdB HDR.PG_CTL.LOCK page
  let s := s.softMachines page
  let s := s.dropRegs (softDrops page)
  let s := (s.wrB HDR.PG_CTL.LOCK lock page).showMap page
  if page = FAB.PAGE then s.fabricLatch else s

/-- A write of PG_CTL (R457-R459). -/
def wrPgCtl (path : Path) (page v : Nat) (s : State) : WrRes :=
  if bit v 1 && s.softRefused page then ign28 path page HDR.PG_CTL.ENA.off v s
  else
    let s := s.wr HDR.PG_CTL.ENA v page
    let s := if bit v 2 then s.wrB HDR.PG_CTL.LOCK true page else s
    okW (if bit v 1 then s.softReset page else s)

/-- A write of PG_EVT_FORCE (R457, R480): each named flag is set and reported with FORCED = 1. -/
def State.forceEvents (s : State) (page v : Nat) : State :=
  s.each ((List.range 32).filter (fun b => bit (v &&& pageEvents page) b)) (fun s b =>
    let s := s.wr HDR.PG_EVT (s.rd HDR.PG_EVT page ||| 2 ^ b) page
    let s := (s.wr HDR.PG_BEAM_AT.WC s.clk.wc.toNat page).wr HDR.PG_BEAM_AT.LINE s.clk.line.toNat page
    s.report page b true)

/-- A write of a header register (R457); a reserved bit of PG_EVT_EN stays 0 (R9). -/
def wrHeader (path : Path) (page off v : Nat) (s : State) : WrRes :=
  if off = HDR.PG_CTL.ENA.off then wrPgCtl path page v s
  else if off = HDR.PG_EVT_EN.off then okW (s.wr HDR.PG_EVT_EN (v &&& pageEvents page) page)
  else if off = HDR.PG_EVT_FORCE.off then okW (s.forceEvents page v)
  else okW (s.plainWrite page off 0 v)

/-! ### The event rings (R481, R482) -/

/-- A write of EVT.TAIL: ring 0 from firmware only, an index within the filled span only. When it makes room after an
overflow, code 0x38 gives the number of records lost and OVF clears. -/
def wrEvtTail (r : Fin 2) (path : Path) (v : Nat) (s : State) : WrRes :=
  let t := v % 4096
  let old := s.rd EVT.TAIL.INDEX r
  if (r = 0 ∧ path ≠ .firmware) ∨ s.evFill r < (t + 4096 - old) % 4096 then
    ign28 path (EVT.PAGE + r) EVT.TAIL.INDEX.off v s
  else
    let s := s.wr EVT.TAIL.INDEX t r
    if t ≠ old ∧ s.rdB EVT.STS.OVF r then
      let sts := s.evFill r + 2 ^ 13
      let lost := s.log.evLost[r]
      let s := (s.wrB EVT.STS.OVF false r).modLog (fun l => { l with evLost := l.evLost.set r 0 })
      okW (s.logc (EVT.PAGE + r) 0x38 sts lost)
    else okW s

/-! ### Memory windows (R473) -/

/-- The page is an HBM window. -/
def isHbmWin (page : Nat) : Bool := decide (0x100 ≤ page) && decide (page < 0x200)

/-- The page is a window page. -/
def isWin (page : Nat) : Bool := decide (0x100 ≤ page)

/-- The memory address that offset `off` of a window page maps. -/
def State.winAddr (s : State) (page off : Nat) : Nat :=
  (s.reg (regKey 0 page 0x100)).toNat + (off - 0x800) + (if isHbmWin page then (s.reg (regKey 0 page 0x104)).toNat * 2 ^ 32 else 0)

/-- WIN_STS after a window access. -/
def State.winSts (s : State) (page : Nat) (mem addr : Bool) : State :=
  s.setReg (regKey 0 page 0x108) (BitVec.ofNat 32 (b2n mem + 2 * b2n addr))

/-- A write of WIN_ADDR: reserved bits stay 0, on an SRAM window all above bit 25 (R473). -/
def wrWinAddr (page off v : Nat) (s : State) : WrRes :=
  if isHbmWin page then okW (s.plainWrite page off 0 v)
  else if off = 0x100 then okW (s.plainWrite page off 0 (v % 2 ^ 26))
  else okW s

/-- A write of WIN_DATA: an HBM write beyond the memory is MEMERR; hub SRAM is written in Open and in the Sill power state
only. -/
def wrWinData (path : Path) (page off v : Nat) (s : State) : WrRes :=
  let a := s.winAddr page off
  if isHbmWin page then
    if hbmSize ≤ a then (.memerr, (s.addrError a).winSts page false true)
    else okW ((s.hbmWr a (leBytes 4 v)).winSts page false false)
  else if s.mode.sec = .openS ∧ s.mode.power = .sill then okW ((s.sramWr a (leBytes 4 v)).winSts page false false)
  else ign28 path page off v s

/-- A read of WIN_DATA: status, value and the state after it. -/
def State.rdWinData (s : State) (page off : Nat) : Status × Nat × State :=
  let a := s.winAddr page off
  if isHbmWin page then
    if hbmSize ≤ a then (.memerr, 0, (s.addrError a).winSts page false true)
    else match s.firstBad a 4 with
      | some k => (.memerr, 0, (s.uncorrectable (32 * k) .latency).winSts page true false)
      | none => (.ok, leNat (s.hbmRd a 4), s.winSts page false false)
  else (.ok, leNat (s.sramRd a 4), s.winSts page false false)

/-! ### Every block's registers -/

/-- PROBE_SEL (R160): ARM captures in the next frame. -/
def wrProbeSel (die : Fin 2) (v : Nat) (s : State) : WrRes :=
  let s := s.plainWrite (WV.PAGE + die) 0x160 0 v
  okW (if bit v 31 then s.modWv (fun w => { w with probeArm := w.probeArm.set die s.clk.frame }) else s)

/-- Writes of the ING, COL, RIM and WFT pages with an effect of their own. -/
def wrDataPages (path : Path) (page off v : Nat) (s : State) : Option WrRes :=
  if page = ING.PAGE then
    (if off = 0x10C then some (s.wrRingCfg path v)
     else if off = 0x110 ∨ off = 0x114 then some (s.wrRingAddr path off v)
     else if off = 0x154 then some (s.wrStreamRing path v) else none)
  else if page = COL.PAGE then
    (if off = 0x100 ∨ off = 0x104 then some (s.wrCtxBase path off v)
     else if off = 0x114 then some (s.wrStrmCtl path v)
     else if 0x134 ≤ off ∧ off ≤ 0x148 then some (s.wrEnc path off v)
     else if off = 0x14C then some (s.wrEncCtl path v) else none)
  else if page = RIM.PAGE then
    (if 0x128 ≤ off ∧ off ≤ 0x134 then some (wrCalcReg path off v s)
     else if off = 0x138 then some (wrCalcCtl path v s) else none)
  else if page = WFT.PAGE then
    (if 0x100 ≤ off ∧ off ≤ 0x108 then some (wrSqBase path off v s)
     else if off = 0x10C then some (wrSqTail path v s)
     else if off = 0x114 then some (wrWftCtl v s) else none)
  else none

/-- Writes of the WV pages with an effect of their own. -/
def wrWvPage (die : Fin 2) (path : Path) (off v : Nat) (s : State) : Option WrRes :=
  if off = 0x100 then some (s.wrLvrCtl die v)
  else if off = 0x104 then some (s.wrMapCtl die v)
  else if off = 0x120 then some (s.wrOutCtl die v)
  else if off = 0x138 then some (s.wrLutData die path v)
  else if off = 0x13C then some (s.wrLutCtl die v)
  else if off = 0x160 then some (wrProbeSel die v s)
  else none

/-- Writes of the PLK pages with an effect of their own. -/
def wrPlkPage (h : Fin 2) (path : Path) (off v : Nat) (s : State) : Option WrRes :=
  if off = 0x100 then some (s.wrLinkCtl h path v)
  else if off = 0x11C then some (wrReadmit h path v s)
  else none

/-- Writes of the PDV pages with an effect of their own. -/
def wrPdvPage (h : Fin 2) (path : Path) (off v : Nat) (s : State) : Option WrRes :=
  if off = 0x104 ∨ off = 0x108 then some (wrResAddr h path off v s)
  else if off = 0x124 ∨ off = 0x128 then some (wrWfAddr h path off v s)
  else if off = 0x12C then some (s.wrWfCtl h path v)
  else if off = 0x13C then some (wrGateCtl h path v s)
  else none

/-- Writes of the Weaver, raster and panel pages with an effect of their own. -/
def wrPanelPages (path : Path) (page off v : Nat) (s : State) : Option WrRes :=
  if page = 0x020 then wrWvPage 0 path off v s
  else if page = 0x021 then wrWvPage 1 path off v s
  else if page = SCN.PAGE then
    (if 0x100 ≤ off ∧ off ≤ 0x110 then some (wrRaster off v s)
     else if off = 0x134 then some (wrShutCtl v s) else none)
  else if page = 0x023 then wrPlkPage 0 path off v s
  else if page = 0x024 then wrPlkPage 1 path off v s
  else if page = 0x025 then wrPdvPage 0 path off v s
  else if page = 0x026 then wrPdvPage 1 path off v s
  else none

/-- Writes of the memory, lane, fabric and time pages with an effect of their own. -/
def wrLinkPages (path : Path) (page off v : Nat) (s : State) : Option WrRes :=
  if page = DMC.PAGE then
    (if off = 0x100 then some (wrRtCtl path v s)
     else if off = 0x114 then some (wrRdCtl path v s)
     else if off = 0x148 ∨ off = 0x14C then some (wrXlate off v s) else none)
  else if page = LAN.PAGE then
    (if off = 0x110 then some (wrLaneCtl path v s)
     else if off = 0x118 then some (wrPortCfg path v s) else none)
  else if page = FAB.PAGE then
    (if off = 0x134 then some (wrRtData path v s)
     else if off = 0x140 then some (wrFabPortCtl path v s) else none)
  else if page = TIM.PAGE then
    (if off = 0x128 then some (wrJumpCtl v s)
     else if off = 0x13C then some (wrPpsCfg v s) else none)
  else if page = LNT.PAGE then
    (if off = 0x104 ∨ off = 0x108 ∨ off = 0x10C then some (wrSlot path off v s)
     else if off = 0x134 then some (wrCmpVal path v s)
     else if off = 0x138 then some (wrCmpCtl path v s) else none)
  else if page = LEF.PAGE then (if off = 0x10C then some (wrLefCtl v s) else none)
  else none

/-- Writes of the store, thermal, security, SYS and SIL pages with an effect of their own. `readOk` is what KEY_LOAD finds
when it reads the key store back (R441). -/
def wrServicePages (path : Path) (priv readOk : Bool) (page off v : Nat) (s : State) : Option WrRes :=
  if page = NVS.PAGE then
    (if off = 0x108 ∨ off = 0x10C then some (wrNvsPwd off v s)
     else if off = 0x110 then some (wrNvsCmd path v s)
     else if off = 0x128 then some (wrNvsLogCtl v s) else none)
  else if page = BMS.PAGE then
    (if off = 0x118 then some (wrBmsCtl path priv v s)
     else if 0x104 ≤ off ∧ off ≤ 0x114 then some (wrBmsReg path off v s) else none)
  else if page = THM.PAGE then
    (if off = 0x104 ∨ off = 0x108 then some (wrZoneThr path off v s)
     else if off = 0x118 then some (wrSenCfg path v s) else none)
  else if page = CLB.PAGE then
    (if off = 0x108 then some (wrClbCmd v s)
     else if off = 0x11C then some (wrStCtl path v s) else none)
  else if page = SEC.PAGE then
    (if off = 0x100 then some (wrSecCtl readOk v s)
     else if off = 0x114 ∨ off = 0x118 ∨ 0x200 ≤ off then some (wrSecReg path off v s) else none)
  else if page = SYS.PAGE then (if off = 0x168 then some (wrRstCtl v s) else none)
  else if page = SIL.PAGE then (if off = 0x104 then some (wrWdgSvc path v s) else none)
  else if page = 0x070 then (if off = 0x108 then some (wrEvtTail 0 path v s) else none)
  else if page = 0x071 then (if off = 0x108 then some (wrEvtTail 1 path v s) else none)
  else none

/-- What a write does at its address, the checks of `State.gate` apart (R9, R10, R464). -/
def regAct (path : Path) (priv readOk : Bool) (page off v : Nat) (s : State) : WrRes :=
  if isWin page ∧ 0x100 ≤ off then
    (if 0x800 ≤ off then wrWinData path page off v s else wrWinAddr page off v s)
  else if off < 0x100 then wrHeader path page off v s
  else match wrDataPages path page off v s with
    | some r => r
    | none => match wrPanelPages path page off v s with
      | some r => r
      | none => match wrLinkPages path page off v s with
        | some r => r
        | none => match wrServicePages path priv readOk page off v s with
          | some r => r
          | none => okW (s.plainWrite page off (s.itemOf path page off) v)

/-! ### One access (R461-R465, R468) -/

/-- The value a write answers (R466): the register's value after it. -/
def State.valueAfter (s : State) (path : Path) (page off : Nat) : Nat × State :=
  if isWin page ∧ 0x800 ≤ off then
    let a := s.winAddr page off
    (if isHbmWin page then (if hbmSize ≤ a then 0 else leNat (s.hbmRd a 4)) else leNat (s.sramRd a 4), s)
  else match rowOf page off with
    | none => (0, s)
    | some r =>
      let (v, t) := s.readVal path page off r
      (v, s.modFreeCtr (fun _ => t.freeCtr))

/-- A write access: status, value and the state after it. -/
def State.writeAccess (s : State) (path : Path) (priv readOk : Bool) (addr v : Nat) : Status × Nat × State :=
  let page := addr / 4096
  let off := addr % 4096
  if addr % 4 ≠ 0 then (.unaligned, 0, s)
  else if pageRows page = none then (.unmapped, 0, s)
  else if !s.pathServed path true then (.path, 0, s)
  else
    let (st, s) := s.gate path priv page off v (regAct path priv readOk page off v)
    let (r, s) := s.valueAfter path page off
    (st, r, s)

/-- A read access: status, value and the state after it; `same` is what rose on an RC register in the same weave cycle (R11). -/
def State.readAccess (s : State) (path : Path) (addr : Nat) (same : Nat := 0) : Status × Nat × State :=
  let page := addr / 4096
  let off := addr % 4096
  if addr % 4 ≠ 0 then (.unaligned, 0, s)
  else if pageRows page = none then (.unmapped, 0, s)
  else if !s.pathServed path false then (.path, 0, s)
  else if isWin page ∧ 0x800 ≤ off then s.rdWinData page off
  else
    let (v, s) := s.readReg path page off same
    (.ok, v, s)

/-- The end of an access: its status and data are shown. -/
def State.answer (r : Status × Nat × State) : State :=
  r.2.2.modBus (fun b => { b with last := ⟨r.1, BitVec.ofNat 32 r.2.1⟩ })

end Sys2Proof.Machine
end

