-- ==== Sys2Proof/Machine/Restart.lean ====
section
/-! DEFINITION. Stages 0 to 2 of a start (R56, R58, R62, R65, R397, R403, R487): at 48 V valid, and after a module reset's
discharge (R67); and the commands at whose end a module reset that waits can begin. -/

namespace Sys2Proof.Machine

/-! ### What the stores say (R397, R398, R405, R410) -/

/-- The pages of a range that are lost (R398); a page as delivered never is (R396), so only listed copies count. -/
def State.lostIn (s : State) (lo hi : Nat) : List Nat :=
  (s.nvs.pages.map (fun kv => kv.1 % 4096)).eraseDups.filter (fun p =>
    decide (lo ≤ p) && decide (p ≤ hi) && (s.curCopy p).isNone)

/-- The listed pages of a range. -/
def State.listedIn (s : State) (lo hi : Nat) : List Nat :=
  (s.nvs.pages.map (fun kv => kv.1 % 4096)).eraseDups.filter (fun p => decide (lo ≤ p) && decide (p ≤ hi))

/-- What the Config pages hold (R397, R220; log entries 10 and 13). -/
def State.readConfig (s : State) : ConfigRec :=
  if (s.listedIn 18 169).isEmpty then ConfigRec.delivered
  else
    let ps := (List.range 152).map (fun k => (s.pageData (18 + k)).getD [])
    let (t, n, sill, regs) := Config.record ps
    { panelType := t, panelSer := n, sill := sill.map (fun r => ⟨r.1, r.2.1, r.2.2.1, r.2.2.2⟩), settings := regs
      taps := (List.range 4).map (Config.panelTaps ps) }

/-- The Identity pages as read. -/
def State.identityPages (s : State) : List (List Byte) := (List.range 16).map (fun p => (s.pageData p).getD [])

/-- Serial number, module ID and build come from Identity (R397, R472). -/
def State.readIdentity (s : State) : State :=
  let d := s.identityPages
  let ser := (Config.identity 0 d).toNat
  let mid := (Config.identity 1 d).toNat
  let s := (s.wr SYS.SERIAL_LO (ser % 2 ^ 32)).wr SYS.SERIAL_HI (ser / 2 ^ 32)
  let s := (s.wr SYS.MODID_LO (mid % 2 ^ 32)).wr SYS.MODID_HI (mid / 2 ^ 32)
  s.wrB SYS.MOD_ID.EXT (Config.identity 2 d == 1)

/-- The register settings of Config (R487): those of RW and RWS registers, in order. -/
def State.applyConfig (s : State) (xs : List (Nat × BitVec 32)) : State :=
  s.each xs (fun s x =>
    let page := x.1 / 4096 % 4096
    let off := x.1 % 4096
    match rowOf page off with
    | some r => if r.acc = .rw ∨ r.acc = .rws then (regAct .firmware true true page off x.2.toNat s).2 else s
    | none => s)

/-- Registers whose writes take effect later take what they hold as their blocks start (R487); the raster settings wait for the
Lintel lock (R219). -/
def State.startLatch (s : State) : State :=
  s.latchAll (fun k => k / 4096 % 4096 == SCN.PAGE)

/-! ### The stages (R56, R65) -/

/-- Stage 1, Config (R65): ROM defaults and fail code 0x0101 when a Config page is lost, else its settings. -/
def State.stageConfig (s : State) : State :=
  if !(s.lostIn 18 169).isEmpty then
    ((s.wrB SYS.START_STS.CFG_DEF true).modBoot (fun b => { b with mgmtDefault := true })).startFail 0x0101
  else
    let c := s.readConfig
    (s.modBoot (fun b => { b with cfg := c })).applyConfig c.settings

/-- Stage 1, Calibration (R65, R426): fail code 0x0102 when a page is lost; else the stored converter gain. -/
def State.stageCalibration (s : State) : State :=
  if !(s.lostIn 274 529).isEmpty then (s.wrB CLB.STS.UNCAL true).startFail 0x0102
  else match s.thm.vrefStored with
    | some g => s.wrI CLB.VREF_GAIN g
    | none =>
      let (v, s) := s.takeFree 32
      s.wr CLB.VREF_GAIN v.toNat

/-- A counter of stage 1 advances (R403): at once where the holdup bank is charged, else with HOLD_RDY, since the store refuses
every write until then (R32, R400; log entry 176). -/
def State.owe (s : State) (i : Nat) : State :=
  if s.rdB SYS.PWR_STS.HOLD_RDY then s.counterAdd i 1 else s.modBoot (fun b => { b with owed := b.owed ++ [i] })

/-- Stage 1, the run marker (R62, R403): a set one asks for balance-restore and counts in DISCH_INC; with a clear one every
residue is to be zero before the first Weaver frame (R231). -/
def State.stageMarker (s : State) : State :=
  let s := s.modPanel (fun p => { p with resZero := !s.runMark })
  if s.runMark then (s.wrB SYS.START_STS.BAL_RST true).owe 4 else s

/-- Stage 2 of a half (R40, R58, R65, R220): fail code 0x0201 for no panel, 0x0202 for one that the record does not match. -/
def State.stagePanel (s : State) (h : Fin 2) (p : PanelId) : State :=
  let c := s.boot.cfg
  let sillOk := match c.sill with | some r => sillSetOk r | none => false
  let ok := p.present && c.panelType != 0 && c.panelType == p.type.toNat && c.panelSer == p.serial.toNat && sillOk
  let s := s.modPanel (fun q => { q with
    presN := q.presN.set h (!p.present), eeprom := q.eeprom.set h (p.type.toNat, p.serial.toNat)
    eepromOk := q.eepromOk.set h ok })
  if !p.present then
    let s := (s.wrB PDV.RAIL_STS.FAULT true h).modPanel (fun q => { q with railFaultPf := q.railFaultPf.set h true })
    ((s.modPwr (fun w => { w with pfStart := true })).event (PDV.PAGE + h) 1).startFail 0x0201
  else if !ok then (s.modPwr (fun w => { w with pfStart := true })).startFail 0x0202
  else s

/-- The sides of the bulk map store without a valid directory: code 0xDF (R410). -/
def State.stageBms (s : State) : State :=
  let s := s.bmsSts
  s.each (([0, 1] : List Nat).filter (fun k => (s.bmsDir k).isNone)) (fun s k => s.logc BMS.PAGE 0xDF (s.rd BMS.STS) k)

/-- A start (R56): stage 0, and stages 1 and 2 as far as they need no other event. When the ROM check fails nothing runs
(R65). -/
def State.begin_ (s : State) (romOk : Bool) (a b : PanelId) : State :=
  if !romOk then s.modBoot (fun b => { b with romBad := true })
  else
    let s := (s.modPwr (fun p => { p with charger := true })).modBoot (fun b => { b with starting := true })
    let s := s.each ([0, 1] : List (Fin 2)) (fun s f =>
      let s := if s.pwr.pfFeed[f] then s.powerLog 0x2C else s
      if s.pwr.pfOv[f] then s.powerLog 0x2D else s)
    let s := (s.owe 2).readIdentity.showStage 1
    let s := s.each (s.listedIn 0 545) State.readTrouble
    let s := s.stageConfig.stageCalibration
    let s := s.startLatch.stageMarker
    let s := s.each ([0, 1] : List (Fin 2)) (fun s h => s.wr PDV.DIS_STS s.nvs.disRes[h].toNat h)
    let s := if s.nvs.wearPages.isEmpty then s else s.wrB NVS.STS.WEAR true
    let s := s.renewNonce.initLanes.fabricStart.stageBms
    ((s.showStage 2).stagePanel 0 a).stagePanel 1 b

/-- V48_VALID (R30, R37, R56): the bus has been at or above 40.0 V for 5 ms: a start from power-up; after a power-fail warning
only once the discharge has ended. -/
def execV48Valid (romOk : Bool) (panelA panelB : PanelId) (s : State) : Out :=
  if s.mode.supply = .aon ∨ (s.mode.supply = .on ∧ s.mode.power = .discharge ∧ (s.panelDown ∨ s.pwr.handed)) then
    .next ((s.unpower.modMode (fun m => { m with supply := .on })).begin_ romOk panelA panelB)
  else .next s

/-- What the module holds after a module reset (R67): as after a loss of power, but that the page write in progress and the
LIFE_S count are completed, the feeds, the charge of the holdup bank and the panels stay, and the watchdog's count goes on. No
measurement of the new start has been made (R36). The event rings are empty and their numbers go on (R480, R481). -/
def State.moduleBase (s : State) : State :=
  let s := match s.nvs.cur with
    | some w =>
      let s := (s.commitPage w.page w.data).modNvs (fun n => { n with cur := none })
      match w.pwd with
      | some kv => s.modNvs (fun n => { n with pwds := tset deliveredPwd n.pwds kv.1 kv.2 })
      | none => s
    | none => s
  let s := s.count 1 ((s.clk.now - s.nvs.lifeAt) / 1600000000)
  let r := (s.unpower).modMode (fun m => { m with supply := .on })
  let r := r.modPwr (fun p => { p with charger := true })
  let r := (r.wr SYS.PWR_STS (s.rd SYS.PWR_STS)).wr SIL.WDG_STS.EXPIRIES (s.rd SIL.WDG_STS.EXPIRIES)
  let r := (r.wr SYS.PWR_STS.HOLD_MS 0).wrB SYS.PWR_STS.HOLD_DEGR false
  let r := r.modLog (fun l => { l with evSeq := s.log.evSeq })
  r.modBus (fun b => { b with last := s.bus.last, out := s.bus.out })

/-- The panel at a connector as it stood at the last start. -/
def State.panelKept (s : State) (h : Fin 2) : PanelId :=
  ⟨!s.panel.presN[h], BitVec.ofNat 8 (s.panel.eeprom[h]).1, BitVec.ofNat 64 (s.panel.eeprom[h]).2⟩

/-- A module reset that waits begins its start once no rail is up and no discharge runs (R67, R239); RST_CAUSE 2, or 3 after a
Trip. -/
def State.finishReset (s : State) : State :=
  if s.modulePends ∧ s.panelDown ∧ s.mode.power ≠ .discharge then
    let cause := if s.panel.resetPend = some .trip then 3 else 2
    let a := s.panelKept 0
    let b := s.panelKept 1
    (s.moduleBase.wr SYS.RST_CAUSE.CAUSE cause).begin_ true a b
  else s

/-! ### Commands that end a discharge or ask for a Trip -/

/-- DISCHARGE_DONE (R240): the discharge of a half ends; `stepsOk`: every step was carried out. -/
def execDischargeDone (half : Fin 2) (stepsOk : Bool) (s : State) : Out :=
  if s.panel.dis[half].run then .next (s.dischargeDone half stepsOk).finishReset else .next s

/-- SENSOR_READ (R415-R419): a sensor's reading in 0.1 °C; a Trip resets the module (R419). -/
def execSensorRead (sensor : Fin 28) (temp : BitVec 16) (valid : Bool) (s : State) : Out :=
  .next (s.sensorRead sensor.val temp.toInt valid).finishReset

end Sys2Proof.Machine
end

