-- ==== Sys2Proof/Machine/RegCmds.lean ====
section
/-! DEFINITION. The commands that are one register access by a path (R10, R455-R475 and each block's own register rules), the
register access frame (R466-R468) and the port's REG_RD and REG_WR (R470). A path of these commands has the privilege it has
by itself (R362); a Transom source of FAB.MGR0 or MGR1 comes with TRANSOM_REG_REQ. -/

namespace Sys2Proof.Machine

/-- The path is open to register accesses at all: flex Ethernet while RAP_CFG.FLEX = 1 (R468), an unlisted Transom source not in
Sealed (R331). With the Sill controller held in reset after a failed ROM self-check only the test access port answers (R65). -/
def State.pathOpen (s : State) (path : Path) : Bool :=
  (!s.boot.romBad || path == .jtag) &&
  (match path with
   | .flex => s.rdB SYS.RAP_CFG.FLEX
   | .transom => s.mode.sec != .sealed
   | .firmware | .mgmt | .jtag | .fabric => true)

/-- One register write by a path: its answer, and a module reset that it starts (R67). -/
def State.cmdWrite (s : State) (path : Path) (page off v : Nat) (readOk : Bool := true) : State :=
  if s.pathOpen path then
    (State.answer (s.writeAccess path path.privileged readOk (page * 4096 + off) (v % 2 ^ 32))).finishReset
  else s

/-- One register read by a path. -/
def State.cmdRead (s : State) (path : Path) (page off : Nat) (same : Nat := 0) : State :=
  if s.pathOpen path then (State.answer (s.readAccess path (page * 4096 + off) same)).finishReset else s

/-- REGISTER_WRITE (R10, R461): a write of any address. -/
def execRegisterWrite (path : Path) (addr : BitVec 24) (v : BitVec 32) (s : State) : Out :=
  .next (s.cmdWrite path (addr.toNat / 4096) (addr.toNat % 4096) v.toNat)

/-- RC_READ (R10, R11): a read of a register, which clears an RC one. `same` is how much of its count rose in the weave cycle of
the read (0: nothing), which the queue of commands cannot show: the read leaves it for the next one. -/
def execRcRead (path : Path) (addr : BitVec 24) (same : BitVec 32) (s : State) : Out :=
  .next (s.cmdRead path (addr.toNat / 4096) (addr.toNat % 4096) same.toNat)

/-- WINDOW_READ (R473): WIN_DATA word `word` of a window page. -/
def execWindowRead (path : Path) (page : BitVec 12) (word : Fin 512) (s : State) : Out :=
  .next (s.cmdRead path page.toNat (0x800 + 4 * word.val))

/-- LUT_DATA_READ (R159): a read of LUT_DATA of a die. -/
def execLutDataRead (path : Path) (half : Fin 2) (s : State) : Out := .next (s.cmdRead path (WV.PAGE + half) 0x138)

/-- RES_VAL_READ (R243): a read of RES_VAL of a half. -/
def execResValRead (path : Path) (half : Fin 2) (s : State) : Out := .next (s.cmdRead path (PDV.PAGE + half) 0x110)

/-- KEY_LOAD (R439, R441): SEC.CTL OP 5; `readOk`: the slot's page reads back as written. -/
def execKeyLoad (path : Path) (readOk : Bool) (s : State) : Out := .next (s.cmdWrite path SEC.PAGE 0x100 5 readOk)

/-- WARM_RESET (R67, R68): SYS.RST_CTL with KEY 0xCA5E and TYPE 1. -/
def execWarmReset (path : Path) (s : State) : Out :=
  .next (s.cmdWrite path SYS.PAGE 0x168 0xCA5E0001)

/-- MODULE_RESET (R67): SYS.RST_CTL with KEY 0xCA5E and TYPE 2; with no rail up it restarts at once. -/
def execModuleReset (path : Path) (s : State) : Out :=
  .next (s.cmdWrite path SYS.PAGE 0x168 0xCA5E0002)

/-- WATCHDOG_SERVICE (R474): a write of SIL.WDG_SVC. -/
def execWatchdogService (path : Path) (v : BitVec 32) (s : State) : Out :=
  .next (s.cmdWrite path SIL.PAGE 0x104 v.toNat)

/-- SOFT_RESET (R458): PG_CTL with SRST of a page. -/
def execSoftReset (path : Path) (page : BitVec 12) (v : BitVec 32) (s : State) : Out :=
  .next (s.cmdWrite path page.toNat 0x008 (setBits v.toNat 1 1 1))

/-- PAGE_LOCK (R459): PG_CTL with LOCK, and without SRST. -/
def execPageLock (path : Path) (page : BitVec 12) (v : BitVec 32) (s : State) : Out :=
  .next (s.cmdWrite path page.toNat 0x008 (setBits v.toNat 2 1 2))

/-- PG_EVT_CLEAR (R457): a W1C write of PG_EVT. -/
def execPgEvtClear (path : Path) (page : BitVec 12) (v : BitVec 32) (s : State) : Out :=
  .next (s.cmdWrite path page.toNat 0x010 v.toNat)

/-- PG_EVT_FORCE (R457, R459, R480): a write of PG_EVT_FORCE. -/
def execPgEvtForce (path : Path) (page : BitVec 12) (v : BitVec 32) (s : State) : Out :=
  .next (s.cmdWrite path page.toNat 0x018 v.toNat)

/-- EVENT_RING_TAIL_WRITE (R481, R482): a write of EVT.TAIL. -/
def execEventRingTailWrite (path : Path) (ring : Fin 2) (v : BitVec 32) (s : State) : Out :=
  .next (s.cmdWrite path (EVT.PAGE + ring) 0x108 v.toNat)

/-- RING_ENABLE (R107): RING_CFG of the path's ring with ENA = 1. -/
def execRingEnable (path : Path) (v : BitVec 32) (s : State) : Out :=
  .next (s.cmdWrite path ING.PAGE 0x10C (setBits v.toNat 0 0 1))

/-- RING_DISABLE (R107): RING_CFG with ENA = 0. -/
def execRingDisable (path : Path) (v : BitVec 32) (s : State) : Out :=
  .next (s.cmdWrite path ING.PAGE 0x10C (setBits v.toNat 0 0 0))

/-- STREAM_RING_WRITE (R107): STREAM_RING of the path's stream. -/
def execStreamRingWrite (path : Path) (v : BitVec 32) (s : State) : Out :=
  .next (s.cmdWrite path ING.PAGE 0x154 v.toNat)

/-- STREAM_CLEAR (R122): STRM_CTL.CLEAR. -/
def execStreamClear (path : Path) (s : State) : Out :=
  .next (s.cmdWrite path COL.PAGE 0x114 1)

/-- STREAM_FLUSH (R122): STRM_CTL.FLUSH. -/
def execStreamFlush (path : Path) (s : State) : Out :=
  .next (s.cmdWrite path COL.PAGE 0x114 2)

/-- CTX_BASE_WRITE (R132): CTX_BASE_LO, or _HI. -/
def execCtxBaseWrite (path : Path) (hi : Bool) (v : BitVec 32) (s : State) : Out :=
  .next (s.cmdWrite path COL.PAGE (0x100 + 4 * b2n hi) v.toNat)

/-- ENCODE_START (R124): ENC_CTL with GO of the path's lane. -/
def execEncodeStart (path : Path) (v : BitVec 32) (s : State) : Out :=
  .next (s.cmdWrite path COL.PAGE 0x14C (setBits v.toNat 31 31 1))

/-- MAP_SWAP (R136): MAP_CTL.SWAP of a die. -/
def execMapSwap (path : Path) (half : Fin 2) (s : State) : Out :=
  .next (s.cmdWrite path (WV.PAGE + half) 0x104 1)

/-- LUT_DATA_WRITE (R159): LUT_DATA of a die. -/
def execLutDataWrite (path : Path) (half : Fin 2) (v : BitVec 32) (s : State) : Out :=
  .next (s.cmdWrite path (WV.PAGE + half) 0x138 v.toNat)

/-- LUT_SWAP (R159): LUT_CTL.SWAP of a die. -/
def execLutSwap (path : Path) (half : Fin 2) (s : State) : Out :=
  .next (s.cmdWrite path (WV.PAGE + half) 0x13C 1)

/-- OUT_CTL_WRITE (R160): OUT_CTL of a die. -/
def execOutCtlWrite (path : Path) (half : Fin 2) (v : BitVec 32) (s : State) : Out :=
  .next (s.cmdWrite path (WV.PAGE + half) 0x120 v.toNat)

/-- PROBE_ARM (R160): PROBE_SEL with ARM of a die. -/
def execProbeArm (path : Path) (half : Fin 2) (v : BitVec 32) (s : State) : Out :=
  .next (s.cmdWrite path (WV.PAGE + half) 0x160 (setBits v.toNat 31 31 1))

/-- LANE_READMIT (R208): GRP_READMIT of the path's group. -/
def execLaneReadmit (path : Path) (half : Fin 2) (lanes : BitVec 15) (s : State) : Out :=
  .next (s.cmdWrite path (PLK.PAGE + half) 0x11C lanes.toNat)

/-- MIN_LANES_WRITE (R219): LINK_CTL of a half. -/
def execMinLanesWrite (path : Path) (half : Fin 2) (v : BitVec 32) (s : State) : Out :=
  .next (s.cmdWrite path (PLK.PAGE + half) 0x100 v.toNat)

/-- RASTER_WRITE (R219): LINE_PER, VTOTAL, RATE_CTL, PHASE or HS_DELAY, by number. -/
def execRasterWrite (path : Path) (reg : Fin 5) (v : BitVec 32) (s : State) : Out :=
  .next (s.cmdWrite path SCN.PAGE (0x100 + 4 * reg.val) v.toNat)

/-- SHUTTER_REQUEST (R212): SHUT_CTL with REQ = 1. -/
def execShutterRequest (path : Path) (v : BitVec 32) (s : State) : Out :=
  .next (s.cmdWrite path SCN.PAGE 0x134 (setBits v.toNat 1 0 1))

/-- SHUTTER_EXIT_REQUEST (R214): SHUT_CTL with EXIT = 1. -/
def execShutterExitRequest (path : Path) (v : BitVec 32) (s : State) : Out :=
  .next (s.cmdWrite path SCN.PAGE 0x134 (setBits v.toNat 1 1 1))

/-- WAVEFORM_SWAP (R228): WF_CTL.SWAP of a half. -/
def execWaveformSwap (path : Path) (half : Fin 2) (s : State) : Out :=
  .next (s.cmdWrite path (PDV.PAGE + half) 0x12C 1)

/-- GATE_CTL_WRITE (R244): GATE_CTL of a half. -/
def execGateCtlWrite (path : Path) (half : Fin 2) (v : BitVec 32) (s : State) : Out :=
  .next (s.cmdWrite path (PDV.PAGE + half) 0x13C v.toNat)

/-- RES_ADDR_WRITE (R244): RES_ADDR_LO, or _HI, of a half. -/
def execResAddrWrite (path : Path) (half : Fin 2) (hi : Bool) (v : BitVec 32) (s : State) : Out :=
  .next (s.cmdWrite path (PDV.PAGE + half) (0x104 + 4 * b2n hi) v.toNat)

/-- WEFT_SUBMIT (R245, R265): SQ_TAIL. -/
def execWeftSubmit (path : Path) (v : BitVec 32) (s : State) : Out :=
  .next (s.cmdWrite path WFT.PAGE 0x10C v.toNat)

/-- WEFT_ABORT (R263): WFT.CTL with ABORT. -/
def execWeftAbort (path : Path) (v : BitVec 32) (s : State) : Out :=
  .next (s.cmdWrite path WFT.PAGE 0x114 (setBits v.toNat 2 2 1))

/-- WEFT_PAUSE (R264): WFT.CTL with PAUSE. -/
def execWeftPause (path : Path) (v : BitVec 32) (s : State) : Out :=
  .next (s.cmdWrite path WFT.PAGE 0x114 (setBits v.toNat 1 1 1))

/-- WEFT_QUEUE_WRITE (R265): SQ_BASE_LO, SQ_BASE_HI or SQ_SIZE, by number. -/
def execWeftQueueWrite (path : Path) (reg : Fin 3) (v : BitVec 32) (s : State) : Out :=
  .next (s.cmdWrite path WFT.PAGE (0x100 + 4 * reg.val) v.toNat)

/-- RIM_CALC_START (R185): CALC_CTL.GO. -/
def execRimCalcStart (path : Path) (s : State) : Out :=
  .next (s.cmdWrite path RIM.PAGE 0x138 (2 ^ 31))

/-- RD_CTL_WRITE (R279): RD_CTL. -/
def execRdCtlWrite (path : Path) (v : BitVec 32) (s : State) : Out :=
  .next (s.cmdWrite path DMC.PAGE 0x114 v.toNat)

/-- XLATE_WRITE (R290): XLATE_LO, or _HI. -/
def execXlateWrite (path : Path) (hi : Bool) (v : BitVec 32) (s : State) : Out :=
  .next (s.cmdWrite path DMC.PAGE (0x148 + 4 * b2n hi) v.toNat)

/-- PORT_DISABLE (R313): PORT_CFG of the path's port with ENA = 0. -/
def execPortDisable (path : Path) (v : BitVec 32) (s : State) : Out :=
  .next (s.cmdWrite path LAN.PAGE 0x118 (setBits v.toNat 0 0 0))

/-- PORT_CFG_WRITE (R313): PORT_CFG of the path's port. -/
def execPortCfgWrite (path : Path) (v : BitVec 32) (s : State) : Out :=
  .next (s.cmdWrite path LAN.PAGE 0x118 v.toNat)

/-- LANE_CTL_WRITE (R313): LANE_CTL of the path's lane. -/
def execLaneCtlWrite (path : Path) (v : BitVec 32) (s : State) : Out :=
  .next (s.cmdWrite path LAN.PAGE 0x110 v.toNat)

/-- ROUTE_TABLE_WRITE (R328, R339): RT_DATA of the path's DST. -/
def execRouteTableWrite (path : Path) (v : BitVec 32) (s : State) : Out :=
  .next (s.cmdWrite path FAB.PAGE 0x134 v.toNat)

/-- PORT_RELEASE (R337): PORT_CTL.RELEASE of the path's port. -/
def execPortRelease (path : Path) (s : State) : Out :=
  .next (s.cmdWrite path FAB.PAGE 0x140 1)

/-- PORT_QUARANTINE (R337, R339): PORT_CTL.QUAR. -/
def execPortQuarantine (path : Path) (s : State) : Out :=
  .next (s.cmdWrite path FAB.PAGE 0x140 2)

/-- PORT_REWIDEN (R335): PORT_CTL.REWIDEN. -/
def execPortRewiden (path : Path) (s : State) : Out :=
  .next (s.cmdWrite path FAB.PAGE 0x140 4)

/-- JUMP_ACCEPT (R354): JUMP_CTL.ACCEPT. -/
def execJumpAccept (path : Path) (s : State) : Out :=
  .next (s.cmdWrite path TIM.PAGE 0x128 1)

/-- LINTEL_SLOT_WRITE (R359, R366): SLOT_CFG, SLOT_WC or SLOT_FRAME of the path's slot, by number. -/
def execLintelSlotWrite (path : Path) (reg : Fin 3) (v : BitVec 32) (s : State) : Out :=
  .next (s.cmdWrite path LNT.PAGE (0x104 + 4 * reg.val) v.toNat)

/-- FIRED_CLEAR (R365): a W1C write of FIRED0 to FIRED7. -/
def execFiredClear (path : Path) (k : Fin 8) (v : BitVec 32) (s : State) : Out :=
  .next (s.cmdWrite path LNT.PAGE (0x110 + 4 * k.val) v.toNat)

/-- COMPARE_ARM (R360, R362): CMP_CTL with ARM of the path's channel. -/
def execCompareArm (path : Path) (v : BitVec 32) (s : State) : Out :=
  .next (s.cmdWrite path LNT.PAGE 0x138 (setBits v.toNat 0 0 1))

/-- LEAF_SWAP (R394): LEF.CTL.SWAP. -/
def execLeafSwap (path : Path) (s : State) : Out :=
  .next (s.cmdWrite path LEF.PAGE 0x10C 1)

/-- LEAF_RESYNC (R394): LEF.CTL.RESYNC. -/
def execLeafResync (path : Path) (s : State) : Out :=
  .next (s.cmdWrite path LEF.PAGE 0x10C 2)

/-- LEAF_REARM (R384, R394): LEF.CTL.REARM. -/
def execLeafRearm (path : Path) (s : State) : Out :=
  .next (s.cmdWrite path LEF.PAGE 0x10C 4)

/-- NVS_READ (R398): NVS.CMD OP 1. -/
def execNvsRead (path : Path) (kind : Bool) (s : State) : Out :=
  .next (s.cmdWrite path NVS.PAGE 0x110 (1 + 4 * b2n kind))

/-- NVS_WRITE (R400): NVS.CMD OP 2. -/
def execNvsWrite (path : Path) (kind : Bool) (s : State) : Out :=
  .next (s.cmdWrite path NVS.PAGE 0x110 (2 + 4 * b2n kind))

/-- NVS_SET_PASSWORD (R402): NVS.CMD OP 3, the read (`kind` = 0) or write password. -/
def execNvsSetPassword (path : Path) (kind : Bool) (s : State) : Out :=
  .next (s.cmdWrite path NVS.PAGE 0x110 (3 + 4 * b2n kind))

/-- FIRST_FAULT_CLEAR (R404): LOG_CTL.FF_CLR. -/
def execFirstFaultClear (path : Path) (s : State) : Out :=
  .next (s.cmdWrite path NVS.PAGE 0x128 1)

/-- BMS_ERASE (R410, R413): BMS.CTL OP 1. -/
def execBmsErase (path : Path) (s : State) : Out :=
  .next (s.cmdWrite path BMS.PAGE 0x118 1)

/-- BMS_WRITE (R410, R413): BMS.CTL OP 2. -/
def execBmsWrite (path : Path) (s : State) : Out :=
  .next (s.cmdWrite path BMS.PAGE 0x118 2)

/-- BMS_READ (R413): BMS.CTL OP 3. -/
def execBmsRead (path : Path) (s : State) : Out :=
  .next (s.cmdWrite path BMS.PAGE 0x118 3)

/-- CALIBRATION_COMMAND (R424): CLB.CMD with the groups to run. -/
def execCalibrationCommand (path : Path) (groups : BitVec 3) (s : State) : Out :=
  .next (s.cmdWrite path CLB.PAGE 0x108 groups.toNat)

/-- SELF_TEST_START (R428): ST_CTL with GO. -/
def execSelfTestStart (path : Path) (v : BitVec 32) (s : State) : Out :=
  .next (s.cmdWrite path CLB.PAGE 0x11C (setBits v.toNat 31 31 1))

/-- SEAL (R439): SEC.CTL OP 1. -/
def execSeal (path : Path) (s : State) : Out :=
  .next (s.cmdWrite path SEC.PAGE 0x100 1)

/-- UNSEAL (R439): SEC.CTL OP 2. -/
def execUnseal (path : Path) (s : State) : Out :=
  .next (s.cmdWrite path SEC.PAGE 0x100 2)

/-- RECOVER (R439): SEC.CTL OP 3; the module reset it ends in begins at once with no rail up. -/
def execRecover (path : Path) (s : State) : Out :=
  .next (s.cmdWrite path SEC.PAGE 0x100 3)

/-- OWNER (R439): SEC.CTL OP 4. -/
def execOwner (path : Path) (s : State) : Out :=
  .next (s.cmdWrite path SEC.PAGE 0x100 4)

/-- KEY_CLEAR (R439): SEC.CTL OP 6. -/
def execKeyClear (path : Path) (s : State) : Out :=
  .next (s.cmdWrite path SEC.PAGE 0x100 6)

/-- SVN_COMMIT (R439): SEC.CTL OP 7. -/
def execSvnCommit (path : Path) (s : State) : Out :=
  .next (s.cmdWrite path SEC.PAGE 0x100 7)

/-- WINDOW_WRITE (R473): WIN_DATA word `word` of a window page. -/
def execWindowWrite (path : Path) (page : BitVec 12) (word : Fin 512) (v : BitVec 32) (s : State) : Out :=
  .next (s.cmdWrite path page.toNat (0x800 + 4 * word.val) v.toNat)

/-! ### Register access frames (R466-R468) -/

/-- One operation of a frame, by OP (R466): 1 read, 2 write, others PATH without effect. -/
def State.runOp (s : State) (path : Path) (priv : Bool) (op addr v : Nat) : Status × Nat × State :=
  if op = 1 then s.readAccess path addr
  else if op = 2 then s.writeAccess path priv true addr v
  else (.path, 0, s)

/-- The operations of a frame in order, with the response's operation bytes (R463, R466). -/
def State.runOps (path : Path) (priv : Bool) : (n : Nat) → List Byte → State → List Byte × State
  | 0, _, s => ([], s)
  | n + 1, bs, s =>
    let r := s.runOp path priv (beAt bs 0 1) (beAt bs 1 3) (beAt bs 4 4)
    let (rest, s') := State.runOps path priv n (bs.drop 8) (State.answer r)
    (beBytes 1 r.1.code ++ slice bs 1 3 ++ beBytes 4 r.2.1 ++ rest, s')

/-- The header of a frame (R466). -/
def frameHead (kind count seq : Nat) : List Byte :=
  [0x52, 0x41] ++ beBytes 1 (16 + kind) ++ beBytes 1 count ++ beBytes 4 seq ++ zeros 8

/-- A well-formed request (R466). -/
def frameOk (bs : List Byte) : Bool :=
  let n := beAt bs 3 1
  decide (1 ≤ n) && decide (n ≤ 64) && bs.length == 20 + 8 * n && bs.take 16 == frameHead 0 n (beAt bs 4 4) &&
  beAt bs (16 + 8 * n) 4 == rim (bs.take (16 + 8 * n)) (beAt bs 4 4)

/-- The stored answer of a source, for its last SEQ (R467). -/
def State.cached (s : State) (src : Nat) : Option CacheLine := s.bus.cache.find? (fun c => c.src == src)

/-- A source's answer becomes its stored one, the entry used last; 256 entries stay (R467). -/
def State.remember (s : State) (c : CacheLine) : State :=
  s.modBus (fun b => { b with cache := (c :: b.cache.filter (fun o => o.src != c.src)).take 256 })

/-- The path of a frame. -/
def FramePath.path : FramePath → Path
  | .mgmt => .mgmt | .flex => .flex | .fabric => .fabric

/-- A response goes out and is stored for its source and SEQ (R467). -/
def State.frameSend (s : State) (who seq : Nat) (resp : List Byte) : State :=
  (s.remember ⟨who, seq, resp⟩).modBus (fun b => { b with out := resp })

/-- The operations of a frame run and their response goes out (R466). -/
def State.frameRun (s : State) (path : Path) (who : Nat) (frame : List Byte) : State :=
  let n := beAt frame 3 1
  let seq := beAt frame 4 4
  let (ops, s') := State.runOps path path.privileged n (frame.drop 16) s
  let body := frameHead 1 n seq ++ ops
  (s'.frameSend who seq (body ++ beBytes 4 (Machine.rim body seq))).finishReset

/-- REGISTER_FRAME (R463, R466-R468): a frame from a source, named by its IP address and UDP port or its fabric SRC. A malformed
one is dropped and counted; a repeated SEQ is answered from the cache; else its operations run. -/
def execRegisterFrame (via : FramePath) (src : BitVec 144) (frame : List Byte) (s : State) : Out :=
  let seq := beAt frame 4 4
  let who := via.path.num * 2 ^ 144 + src.toNat
  if !s.pathOpen via.path then .next s
  else if !frameOk frame then .next (s.bump SYS.RAP_BAD)
  else match (s.cached who).filter (fun c => c.seq == seq) with
    | some c => .next ((s.bump SYS.RAP_DUP).frameSend who seq c.resp)
    | none => .next (s.frameRun via.path who frame)

/-! ### The port's register instructions (R445, R470) -/

/-- DR after a register access: DATA, ADDR and STATUS. -/
def State.tapAnswer (code : BitVec 8) (addr : BitVec 24) (r : Status × Nat × State) : State :=
  (State.answer r).tapLoad code (r.2.1 % 2 ^ 32 + addr.toNat * 2 ^ 32 + r.1.code * 2 ^ 56)

/-- JTAG_REG_RD (0x12; R445, R468, R470). -/
def execJtagRegRd (addr : BitVec 24) (s : State) : Out :=
  .next (State.tapAnswer 0x12 addr (s.readAccess .jtag addr.toNat))

/-- JTAG_REG_WR (0x13; R445, R468, R470). -/
def execJtagRegWr (addr : BitVec 24) (v : BitVec 32) (s : State) : Out :=
  .next (State.tapAnswer 0x13 addr (s.writeAccess .jtag false true addr.toNat v.toNat)).finishReset

end Sys2Proof.Machine
end

