-- ==== Sys2Proof/Machine/Transom.lean ====
section
/-! DEFINITION. Transom messages as they arrive (R316, R318, R329-R331, R336, R337, R469): the input queue of each port, what
this module does with a message for it, and the forwarding of the others. -/

namespace Sys2Proof.Machine

/-! ### Sending -/

/-- A message of this module's own to an address, on the port its route takes (R327, R329). -/
def State.transomTo (s : State) (m : TransomMsg) : State :=
  match s.way s.addr m.dst s.calnarUp with
  | .port q _ _ => s.transomOut q m
  | _ => s

/-- An answer to a message that arrived on port `p`: by its route, or one hop back when its SRC is not valid. -/
def State.transomBack (s : State) (p : Nat) (m : TransomMsg) (type : Nat) (arg : List Byte) : State :=
  let r := s.ownTransom m.src type false m.tseq arg
  if m.noAddr then s.transomOut p r else s.transomTo r

/-- A NAK about a Transom message (R336); a NAK is never answered with one (log entry 60). -/
def State.transomNak (s : State) (p code : Nat) (m : TransomMsg) : State :=
  if m.type = 0x09 then s
  else s.nak p code (if m.noAddr then none else some m.src) m.dst m.type 0 0

/-! ### Acting on a message (R316, R318, R329, R331, R385, R469) -/

/-- The source is a manager: FAB.MGR0 or MGR1, valid (R331, R362). -/
def State.isManager (s : State) (m : TransomMsg) : Bool :=
  !m.noAddr &&
  ((s.rdB FAB.MGR0.VALID && s.rd FAB.MGR0.ADDR == m.src) || (s.rdB FAB.MGR1.VALID && s.rd FAB.MGR1.ADDR == m.src))

/-- Keep a message that this module took (R329). -/
def State.transomTake (s : State) (m : TransomMsg) : State :=
  s.modFab (fun f => { f with trTaken := f.trTaken ++ [m] })

/-- The ARG of a register message (R469): OP or STATUS, ADDR, DATA and CHK. -/
def regArg (code addr data tseq : Nat) : List Byte :=
  let a := beBytes 1 code ++ beBytes 3 addr ++ beBytes 4 data ++ zeros 3
  a ++ beBytes 4 (rim a tseq)

/-- A register message's CHK is right and its bytes 8 to 10 are 0 (R469). -/
def regArgOk (m : TransomMsg) : Bool :=
  (slice m.arg 8 3).all (· == 0) && beAt m.arg 11 4 == rim (m.arg.take 11) m.tseq

/-- REG_REQ (R331, R467-R469): a malformed one is dropped and counted; in Sealed an unlisted source is refused; a repeated TSEQ
is answered from the cache; else the operation runs. -/
def State.regReq (s : State) (p : Nat) (m : TransomMsg) : State :=
  if !regArgOk m then s.bump SYS.RAP_BAD
  else if s.mode.sec = .sealed ∧ s.isManager m = false then s.transomNak p 0x0B m
  else
    let who := Path.transom.num * 2 ^ 144 + m.src
    let run : State :=
      let r := s.runOp .transom (s.isManager m) (beAt m.arg 0 1) (beAt m.arg 1 3) (beAt m.arg 4 4)
      let arg := regArg r.1.code (beAt m.arg 1 3) (r.2.1 % 2 ^ 32) m.tseq
      (((State.answer r).remember ⟨who, m.tseq, arg⟩).transomBack p m 0x0B arg).finishReset
    match s.cached who with
    | some c => if c.seq = m.tseq then ((s.bump SYS.RAP_DUP).remember c).transomBack p m 0x0B c.resp else run
    | none => run

/-- STOP or RELEASE of a port (R329, R331, R337): outside Open from a manager only. -/
def State.stopPort (s : State) (p : Nat) (m : TransomMsg) (stop : Bool) : State :=
  let q := beAt m.arg 0 1
  if s.mode.sec ≠ .openS ∧ s.isManager m = false then s.transomNak p 0x0B m
  else if 40 ≤ q then s
  else if stop then s.quarHold q else s.release q

/-- ECHO_RSP (R329, R385): an answer of LEF.PARTNER to the outstanding ECHO shows the partner alive; with port 23 down the
standby then is Syncing. -/
def State.echoRsp (s : State) (m : TransomMsg) : State :=
  let s := s.transomTake m
  if s.paired ∧ m.src = s.rd LEF.PARTNER.ADDR ∧ s.fab.echoOut = some (BitVec.ofNat 16 m.tseq) then
    let s := (s.modFab (fun f => { f with echoOut := none })).modLeaf (fun l => { l with seenAt := some s.clk.now })
    if s.rdB LEF.STS.HINGE_UP = false ∧ s.role = 4 then s.toSyncing else s
  else s

/-- What this module does with a message for it (R329). -/
def State.transomAct (s : State) (p : Nat) (m : TransomMsg) : State :=
  if m.type = 0x05 then s.stopPort p m true
  else if m.type = 0x06 then s.stopPort p m false
  else if m.type = 0x07 then s.transomBack p m 0x08 m.arg
  else if m.type = 0x08 then s.echoRsp m
  else if m.type = 0x0A then s.regReq p m
  else s.transomTake m

/-- TYPE values that a Transom message may have here (R329): 0x0C only on the Hinge port. -/
def transomLegal (hinge : Bool) (type : Nat) : Bool :=
  [0x01, 0x02, 0x05, 0x06, 0x07, 0x08, 0x09, 0x0A, 0x0B].contains type || (hinge && type == 0x0C)

/-- A unicast message (R327-R330, R336): taken, forwarded with TTL - 1, or dropped with its NAK. A NAK for one hop reaches an
unaddressed module too. -/
def State.unicast (s : State) (p : Nat) (m : TransomMsg) : State :=
  if s.addressed = false then (if m.type = 0x09 then s.transomTake m else s.transomNak p 0x09 m)
  else if m.dst = s.addr then s.transomAct p m
  else if s.inGrid m.dst = false then s.transomNak p 0x09 m
  else match s.way m.src m.dst s.calnarUp with
    | .taken => s.transomAct p m
    | .noRoute => s.transomNak p 0x01 m
    | .port q _ _ =>
      if m.ttl = 0 then s.transomNak p 0x02 m
      else
        let w := beAt m.bytes 5 2
        s.transomOut q ⟨m.bytes.take 5 ++ beBytes 2 (w - 1) ++ m.bytes.drop 7⟩

/-- One message served (R329): an illegal TYPE and set reserved bits are NAKed; PROBE and NEIGH act here; the rest are
unicast. -/
def State.transomServe (s : State) (p : Nat) (m : TransomMsg) : State :=
  if !transomLegal (s.dir p == 6) m.type then s.transomNak p 0x03 m
  else if beAt m.bytes 5 2 / 2 ^ 12 ≠ 0 then s.transomNak p 0x05 m
  else if m.type = 0x01 then s.probeIn p m
  else if m.type = 0x02 then s.neighIn p m
  else if m.type = 0x0C then s
  else s.unicast p m

/-! ### The input queue (R330) -/

/-- The types that give way in a full queue (R330): PROBE, NEIGH, ECHO. -/
def lowType (m : TransomMsg) : Bool := [0x01, 0x02, 0x07].contains m.type

/-- The input queue of a port. -/
def State.trQueue (s : State) (p : Nat) : List TransomMsg := tget (fun _ => []) s.fab.trIn p

/-- Set the input queue of a port. -/
def State.setTrQueue (s : State) (p : Nat) (q : List TransomMsg) : State :=
  s.modFab (fun f => { f with trIn := tset (fun _ => []) f.trIn p q })

/-- A dropped message (R330): TR_DROP, and code 0xAD once per second and port. -/
def State.transomDrop (s : State) (p : Nat) : State :=
  let s := s.bump FAB.TR_DROP
  s.logSecond p 34 0xAD (s.rd FAB.TR_DROP)

/-- A message joins the input queue of a port (R330). -/
def State.transomIn (s : State) (p : Nat) (m : TransomMsg) : State :=
  let q := s.trQueue p
  if q.length < 64 then s.setTrQueue p (q ++ [m])
  else if !lowType m && q.any lowType then (s.setTrQueue p (q.eraseP lowType ++ [m])).transomDrop p
  else s.transomDrop p

/-- The queued messages of a port are served, oldest first. -/
def State.transomServeAll (s : State) (p : Nat) : State :=
  (s.setTrQueue p []).each (s.trQueue p) (fun s m => s.transomServe p m)

/-- A message of one of the named types arrives on an Up Calnar port; `serve`: the module serves the port's queue now. -/
def State.transomArrive (s : State) (types : Nat → Bool) (port : Nat) (bytes : List Byte) (serve : Bool) : State :=
  let m : TransomMsg := ⟨bytes⟩
  if s.calnarUp port ∧ bytes.length = 24 ∧ types m.type then
    let s := s.transomIn port m
    if serve then s.transomServeAll port else s
  else s

/-! ### The commands -/

/-- TRANSOM_PROBE (R316). -/
def execTransomProbe (port : Fin 40) (msg : List Byte) (serve : Bool) (s : State) : Out :=
  .next (s.transomArrive (· == 0x01) port msg serve)

/-- TRANSOM_NEIGH (R318). -/
def execTransomNeigh (port : Fin 40) (msg : List Byte) (serve : Bool) (s : State) : Out :=
  .next (s.transomArrive (· == 0x02) port msg serve)

/-- TRANSOM_STOP (R329, R331, R337). -/
def execTransomStop (port : Fin 40) (msg : List Byte) (serve : Bool) (s : State) : Out :=
  .next (s.transomArrive (· == 0x05) port msg serve)

/-- TRANSOM_RELEASE (R329, R331, R337). -/
def execTransomRelease (port : Fin 40) (msg : List Byte) (serve : Bool) (s : State) : Out :=
  .next (s.transomArrive (· == 0x06) port msg serve)

/-- TRANSOM_ECHO (R329). -/
def execTransomEcho (port : Fin 40) (msg : List Byte) (serve : Bool) (s : State) : Out :=
  .next (s.transomArrive (· == 0x07) port msg serve)

/-- TRANSOM_ECHO_RSP (R329, R385). -/
def execTransomEchoRsp (port : Fin 40) (msg : List Byte) (serve : Bool) (s : State) : Out :=
  .next (s.transomArrive (· == 0x08) port msg serve)

/-- TRANSOM_NAK (R336): a NAK that reports a dropped message. -/
def execTransomNak (port : Fin 40) (msg : List Byte) (serve : Bool) (s : State) : Out :=
  .next (s.transomArrive (· == 0x09) port msg serve)

/-- TRANSOM_REG_REQ (R331, R467-R469). -/
def execTransomRegReq (port : Fin 40) (msg : List Byte) (serve : Bool) (s : State) : Out :=
  .next (s.transomArrive (· == 0x0A) port msg serve)

/-- TRANSOM_REG_RSP (R329, R469). -/
def execTransomRegRsp (port : Fin 40) (msg : List Byte) (serve : Bool) (s : State) : Out :=
  .next (s.transomArrive (· == 0x0B) port msg serve)

/-- TRANSOM_ILLEGAL_TYPE (R329, R336): any other TYPE, or LEAF on a port that is not the Hinge port. -/
def execTransomIllegalType (port : Fin 40) (msg : List Byte) (serve : Bool) (s : State) : Out :=
  .next (s.transomArrive (fun t => !transomLegal (s.dir port == 6) t) port msg serve)

/-- LEAF_HELLO_SEND (R371, R385): every 10 ms from stage 10 a paired leaf sends HELLO on port 23; while that port is down it
sends an ECHO to LEF.PARTNER (log entry 61). -/
def execLeafHelloSend (s : State) : Out :=
  if s.negotiates then
    let s := s.sendLeaf s.helloBytes
    if s.rdB LEF.STS.HINGE_UP then .next s
    else
      let n := s.fab.trTseq
      let s := s.modFab (fun f => { f with trTseq := n + 1, echoOut := some n })
      .next (s.transomTo (s.ownTransom (s.rd LEF.PARTNER.ADDR) 0x07 false n.toNat []))
  else .next s

end Sys2Proof.Machine
end

