-- ==== Sys2Proof/Machine/Dispatch.lean ====
section
/-! DEFINITION. The effect of each command: one call of its own meaning per constructor of Instr. -/

namespace Sys2Proof.Machine

def exec (i : Instr) (s : State) : Host.Outcome State Fault Refusal :=
  match i with
  | .feedOk feed => Sys2Proof.Machine.execFeedOk feed s
  | .feedLost feed => Sys2Proof.Machine.execFeedLost feed s
  | .feedOvervoltage feed => Sys2Proof.Machine.execFeedOvervoltage feed s
  | .overvoltageCleared feed => Sys2Proof.Machine.execOvervoltageCleared feed s
  | .alwaysOnRailUp => Sys2Proof.Machine.execAlwaysOnRailUp s
  | .v48Valid romOk panelA panelB => Sys2Proof.Machine.execV48Valid romOk panelA panelB s
  | .powerFailWarning => Sys2Proof.Machine.execPowerFailWarning s
  | .holdRdy => Sys2Proof.Machine.execHoldRdy s
  | .holdTimeout => Sys2Proof.Machine.execHoldTimeout s
  | .holdupMeasureStart => Sys2Proof.Machine.execHoldupMeasureStart s
  | .holdupMeasureDone cUf => Sys2Proof.Machine.execHoldupMeasureDone cUf s
  | .railFault half rail limit => Sys2Proof.Machine.execRailFault half rail limit s
  | .panelUnplugged half => Sys2Proof.Machine.execPanelUnplugged half s
  | .panelLockTimeout half => Sys2Proof.Machine.execPanelLockTimeout half s
  | .railsEnable half missed => Sys2Proof.Machine.execRailsEnable half missed s
  | .sillPictureStart => Sys2Proof.Machine.execSillPictureStart s
  | .sillFrameStart => Sys2Proof.Machine.execSillFrameStart s
  | .balanceRestoreEnd => Sys2Proof.Machine.execBalanceRestoreEnd s
  | .firmwareVerify => Sys2Proof.Machine.execFirmwareVerify s
  | .hbmTraining first again => Sys2Proof.Machine.execHbmTraining first again s
  | .mapLoad => Sys2Proof.Machine.execMapLoad s
  | .laneStepUp => Sys2Proof.Machine.execLaneStepUp s
  | .lintelLock => Sys2Proof.Machine.execLintelLock s
  | .lintelLockTimeout => Sys2Proof.Machine.execLintelLockTimeout s
  | .enterFull fl => Sys2Proof.Machine.execEnterFull fl s
  | .fastPassDone => Sys2Proof.Machine.execFastPassDone s
  | .warmReset path => Sys2Proof.Machine.execWarmReset path s
  | .moduleReset path => Sys2Proof.Machine.execModuleReset path s
  | .watchdogReset => Sys2Proof.Machine.execWatchdogReset s
  | .watchdogService path v => Sys2Proof.Machine.execWatchdogService path v s
  | .testReset => Sys2Proof.Machine.execTestReset s
  | .softReset path page v => Sys2Proof.Machine.execSoftReset path page v s
  | .pageLock path page v => Sys2Proof.Machine.execPageLock path page v s
  | .pgEvtClear path page v => Sys2Proof.Machine.execPgEvtClear path page v s
  | .pgEvtForce path page v => Sys2Proof.Machine.execPgEvtForce path page v s
  | .eventRingTailWrite path ring v => Sys2Proof.Machine.execEventRingTailWrite path ring v s
  | .rcRead path addr same => Sys2Proof.Machine.execRcRead path addr same s
  | .registerWrite path addr v => Sys2Proof.Machine.execRegisterWrite path addr v s
  | .packetLand via bytes => Sys2Proof.Machine.execPacketLand via bytes s
  | .tstTile ring => Sys2Proof.Machine.execTstTile ring s
  | .t5Tile ring => Sys2Proof.Machine.execT5Tile ring s
  | .tstEdit ring => Sys2Proof.Machine.execTstEdit ring s
  | .tstEditClose ring => Sys2Proof.Machine.execTstEditClose ring s
  | .tstRestamp ring => Sys2Proof.Machine.execTstRestamp ring s
  | .tstInvalidate ring => Sys2Proof.Machine.execTstInvalidate ring s
  | .stageUpdate ring => Sys2Proof.Machine.execStageUpdate ring s
  | .coilDecodeStart => Sys2Proof.Machine.execCoilDecodeStart s
  | .coilDecodeDone lane => Sys2Proof.Machine.execCoilDecodeDone lane s
  | .ingestWrite ring => Sys2Proof.Machine.execIngestWrite ring s
  | .tileCommit => Sys2Proof.Machine.execTileCommit s
  | .restampCommit => Sys2Proof.Machine.execRestampCommit s
  | .invalidateCommit => Sys2Proof.Machine.execInvalidateCommit s
  | .editSetCheck => Sys2Proof.Machine.execEditSetCheck s
  | .editSetCheckDone => Sys2Proof.Machine.execEditSetCheckDone s
  | .applyPoint => Sys2Proof.Machine.execApplyPoint s
  | .epochSweepDone => Sys2Proof.Machine.execEpochSweepDone s
  | .ringEnable path v => Sys2Proof.Machine.execRingEnable path v s
  | .ringDisable path v => Sys2Proof.Machine.execRingDisable path v s
  | .streamRingWrite path v => Sys2Proof.Machine.execStreamRingWrite path v s
  | .streamClear path => Sys2Proof.Machine.execStreamClear path s
  | .streamFlush path => Sys2Proof.Machine.execStreamFlush path s
  | .ctxBaseWrite path hi v => Sys2Proof.Machine.execCtxBaseWrite path hi v s
  | .encodeStart path v => Sys2Proof.Machine.execEncodeStart path v s
  | .encodeDone lane => Sys2Proof.Machine.execEncodeDone lane s
  | .mapSwap path half => Sys2Proof.Machine.execMapSwap path half s
  | .mapCheckDone die => Sys2Proof.Machine.execMapCheckDone die s
  | .lutDataWrite path half v => Sys2Proof.Machine.execLutDataWrite path half v s
  | .lutDataRead path half => Sys2Proof.Machine.execLutDataRead path half s
  | .lutSwap path half => Sys2Proof.Machine.execLutSwap path half s
  | .outCtlWrite path half v => Sys2Proof.Machine.execOutCtlWrite path half v s
  | .probeArm path half v => Sys2Proof.Machine.execProbeArm path half v s
  | .lineStart skew => Sys2Proof.Machine.execLineStart skew s
  | .frameStart fl skew => Sys2Proof.Machine.execFrameStart fl skew s
  | .lineMatch => Sys2Proof.Machine.execLineMatch s
  | .verdictSample half => Sys2Proof.Machine.execVerdictSample half s
  | .bandRead half corrected bad => Sys2Proof.Machine.execBandRead half corrected bad s
  | .prefillIssue half => Sys2Proof.Machine.execPrefillIssue half s
  | .prefillCellArrive cell => Sys2Proof.Machine.execPrefillCellArrive cell s
  | .residueWriteback h line => Sys2Proof.Machine.execResidueWriteback h line s
  | .linePacketSend group => Sys2Proof.Machine.execLinePacketSend group s
  | .loadMarker h => Sys2Proof.Machine.execLoadMarker h s
  | .frameMarker h => Sys2Proof.Machine.execFrameMarker h s
  | .railChangeWindow => Sys2Proof.Machine.execRailChangeWindow s
  | .controlPacketSend group => Sys2Proof.Machine.execControlPacketSend group s
  | .controlPacketResend group => Sys2Proof.Machine.execControlPacketResend group s
  | .lineReportReceived group bs => Sys2Proof.Machine.execLineReportReceived group bs s
  | .reportMissing group line => Sys2Proof.Machine.execReportMissing group line s
  | .statusReportReceived group bs => Sys2Proof.Machine.execStatusReportReceived group bs s
  | .laneReadmit path half lanes => Sys2Proof.Machine.execLaneReadmit path half lanes s
  | .minLanesWrite path half v => Sys2Proof.Machine.execMinLanesWrite path half v s
  | .rasterWrite path reg v => Sys2Proof.Machine.execRasterWrite path reg v s
  | .rateStepTrain h => Sys2Proof.Machine.execRateStepTrain h s
  | .rateStepDecide h => Sys2Proof.Machine.execRateStepDecide h s
  | .shutterRequest path v => Sys2Proof.Machine.execShutterRequest path v s
  | .shutterIn => Sys2Proof.Machine.execShutterIn s
  | .shutterExitRequest path v => Sys2Proof.Machine.execShutterExitRequest path v s
  | .shutterStatusTimeout group => Sys2Proof.Machine.execShutterStatusTimeout group s
  | .waveformSwap path half => Sys2Proof.Machine.execWaveformSwap path half s
  | .waveformCheckDone h => Sys2Proof.Machine.execWaveformCheckDone h s
  | .gateCtlWrite path half v => Sys2Proof.Machine.execGateCtlWrite path half v s
  | .resAddrWrite path half hi v => Sys2Proof.Machine.execResAddrWrite path half hi v s
  | .resValRead path half => Sys2Proof.Machine.execResValRead path half s
  | .dischargeStart half => Sys2Proof.Machine.execDischargeStart half s
  | .dischargeSenseSample half mv => Sys2Proof.Machine.execDischargeSenseSample half mv s
  | .dischargeDone half stepsOk => Sys2Proof.Machine.execDischargeDone half stepsOk s
  | .sillHandover => Sys2Proof.Machine.execSillHandover s
  | .weftSubmit path v => Sys2Proof.Machine.execWeftSubmit path v s
  | .weftListStart => Sys2Proof.Machine.execWeftListStart s
  | .weftNop => Sys2Proof.Machine.execWeftNop s
  | .weftCopy => Sys2Proof.Machine.execWeftCopy s
  | .weftFill => Sys2Proof.Machine.execWeftFill s
  | .weftPfill => Sys2Proof.Machine.execWeftPfill s
  | .weftLine => Sys2Proof.Machine.execWeftLine s
  | .weftBlend => Sys2Proof.Machine.execWeftBlend s
  | .weftScroll => Sys2Proof.Machine.execWeftScroll s
  | .weftConvert => Sys2Proof.Machine.execWeftConvert s
  | .weftWait => Sys2Proof.Machine.execWeftWait s
  | .weftWaitEnd => Sys2Proof.Machine.execWeftWaitEnd s
  | .weftWmark => Sys2Proof.Machine.execWeftWmark s
  | .wmarkReached => Sys2Proof.Machine.execWmarkReached s
  | .weftBurstComplete => Sys2Proof.Machine.execWeftBurstComplete s
  | .weftAbort path v => Sys2Proof.Machine.execWeftAbort path v s
  | .weftPause path v => Sys2Proof.Machine.execWeftPause path v s
  | .weftQueueWrite path reg v => Sys2Proof.Machine.execWeftQueueWrite path reg v s
  | .rimCalcStart path => Sys2Proof.Machine.execRimCalcStart path s
  | .rimCalcDone => Sys2Proof.Machine.execRimCalcDone s
  | .realtimeGrant pc => Sys2Proof.Machine.execRealtimeGrant pc s
  | .roundBoundary => Sys2Proof.Machine.execRoundBoundary s
  | .memoryRequest who addr len write data => Sys2Proof.Machine.execMemoryRequest who addr len write data s
  | .memoryResponse pc rt burst errs => Sys2Proof.Machine.execMemoryResponse pc rt burst errs s
  | .eccRetry burst errs => Sys2Proof.Machine.execEccRetry burst errs s
  | .agePromotion k => Sys2Proof.Machine.execAgePromotion k s
  | .bankRefresh pc => Sys2Proof.Machine.execBankRefresh pc s
  | .refreshForced pc bank => Sys2Proof.Machine.execRefreshForced pc bank s
  | .neighbourRefresh pc => Sys2Proof.Machine.execNeighbourRefresh pc s
  | .rdTableClear => Sys2Proof.Machine.execRdTableClear s
  | .rdCtlWrite path v => Sys2Proof.Machine.execRdCtlWrite path v s
  | .scrubRead burst errs => Sys2Proof.Machine.execScrubRead burst errs s
  | .corRateCheck pc => Sys2Proof.Machine.execCorRateCheck pc s
  | .selfRefreshEntry cause => Sys2Proof.Machine.execSelfRefreshEntry cause s
  | .selfRefreshSeal => Sys2Proof.Machine.execSelfRefreshSeal s
  | .selfRefreshExit trimBad => Sys2Proof.Machine.execSelfRefreshExit trimBad s
  | .xlateWrite path hi v => Sys2Proof.Machine.execXlateWrite path hi v s
  | .losSet lane => Sys2Proof.Machine.execLosSet lane s
  | .losClear lane => Sys2Proof.Machine.execLosClear lane s
  | .blockLockGain lane => Sys2Proof.Machine.execBlockLockGain lane s
  | .blockLockLoss lane => Sys2Proof.Machine.execBlockLockLoss lane s
  | .degradedCheck lane headers kinds => Sys2Proof.Machine.execDegradedCheck lane headers kinds s
  | .fillSend port => Sys2Proof.Machine.execFillSend port s
  | .fillReceive port fill lost => Sys2Proof.Machine.execFillReceive port fill lost s
  | .portEnable port supported => Sys2Proof.Machine.execPortEnable port supported s
  | .portDisable path v => Sys2Proof.Machine.execPortDisable path v s
  | .portCfgWrite path v => Sys2Proof.Machine.execPortCfgWrite path v s
  | .laneCtlWrite path v => Sys2Proof.Machine.execLaneCtlWrite path v s
  | .backoffElapsed port => Sys2Proof.Machine.execBackoffElapsed port s
  | .capReceive port version rate preReq backoff ack => Sys2Proof.Machine.execCapReceive port version rate preReq backoff ack s
  | .trainDone port reqs rx => Sys2Proof.Machine.execTrainDone port reqs rx s
  | .checkDone port counts hdr partner => Sys2Proof.Machine.execCheckDone port counts hdr partner s
  | .stepDone port relocked => Sys2Proof.Machine.execStepDone port relocked s
  | .exchangeTimeout port => Sys2Proof.Machine.execExchangeTimeout port s
  | .trainBlockTimeout port => Sys2Proof.Machine.execTrainBlockTimeout port s
  | .trainTimeout port => Sys2Proof.Machine.execTrainTimeout port s
  | .stepRelockTimeout port => Sys2Proof.Machine.execStepRelockTimeout port s
  | .capRestore port hour => Sys2Proof.Machine.execCapRestore port hour s
  | .ethPortBringup port ev => Sys2Proof.Machine.execEthPortBringup port ev s
  | .flitReceive port flit => Sys2Proof.Machine.execFlitReceive port flit s
  | .fecFrameReceive port errs => Sys2Proof.Machine.execFecFrameReceive port errs s
  | .lctlReceive port kind ack nak idx valid credits => Sys2Proof.Machine.execLctlReceive port kind ack nak idx valid credits s
  | .lctlAckSend port => Sys2Proof.Machine.execLctlAckSend port s
  | .replayTimeout port => Sys2Proof.Machine.execReplayTimeout port s
  | .widthReceive port mask switch ack => Sys2Proof.Machine.execWidthReceive port mask switch ack s
  | .widthSwitch port => Sys2Proof.Machine.execWidthSwitch port s
  | .widthTimeout port => Sys2Proof.Machine.execWidthTimeout port s
  | .transomProbe port msg serve => Sys2Proof.Machine.execTransomProbe port msg serve s
  | .probeAnnounce => Sys2Proof.Machine.execProbeAnnounce s
  | .rootLost => Sys2Proof.Machine.execRootLost s
  | .addressFix => Sys2Proof.Machine.execAddressFix s
  | .neighSend port => Sys2Proof.Machine.execNeighSend port s
  | .transomNeigh port msg serve => Sys2Proof.Machine.execTransomNeigh port msg serve s
  | .transomStop port msg serve => Sys2Proof.Machine.execTransomStop port msg serve s
  | .transomRelease port msg serve => Sys2Proof.Machine.execTransomRelease port msg serve s
  | .transomEcho port msg serve => Sys2Proof.Machine.execTransomEcho port msg serve s
  | .transomEchoRsp port msg serve => Sys2Proof.Machine.execTransomEchoRsp port msg serve s
  | .transomNak port msg serve => Sys2Proof.Machine.execTransomNak port msg serve s
  | .transomRegReq port msg serve => Sys2Proof.Machine.execTransomRegReq port msg serve s
  | .transomRegRsp port msg serve => Sys2Proof.Machine.execTransomRegRsp port msg serve s
  | .transomIllegalType port msg serve => Sys2Proof.Machine.execTransomIllegalType port msg serve s
  | .violationQuarantine port => Sys2Proof.Machine.execViolationQuarantine port s
  | .quarantineExpire port => Sys2Proof.Machine.execQuarantineExpire port s
  | .routeTableWrite path v => Sys2Proof.Machine.execRouteTableWrite path v s
  | .portRelease path => Sys2Proof.Machine.execPortRelease path s
  | .portQuarantine path => Sys2Proof.Machine.execPortQuarantine path s
  | .portRewiden path => Sys2Proof.Machine.execPortRewiden path s
  | .registerFrame via src frame => Sys2Proof.Machine.execRegisterFrame via src frame s
  | .bulkCopyMessage => Sys2Proof.Machine.execBulkCopyMessage s
  | .ptpMessage port domain via kind accuracy gm best => Sys2Proof.Machine.execPtpMessage port domain via kind accuracy gm best s
  | .ptpSample offset => Sys2Proof.Machine.execPtpSample offset s
  | .timeAcquire sec ns => Sys2Proof.Machine.execTimeAcquire sec ns s
  | .announceTimeout => Sys2Proof.Machine.execAnnounceTimeout s
  | .holdoverTick => Sys2Proof.Machine.execHoldoverTick s
  | .ppsEdge err => Sys2Proof.Machine.execPpsEdge err s
  | .ppsTimeout => Sys2Proof.Machine.execPpsTimeout s
  | .clk10Check ok => Sys2Proof.Machine.execClk10Check ok s
  | .jumpAccept path => Sys2Proof.Machine.execJumpAccept path s
  | .stepSweepDone => Sys2Proof.Machine.execStepSweepDone s
  | .wrapSweepVisit => Sys2Proof.Machine.execWrapSweepVisit s
  | .verificationSweep => Sys2Proof.Machine.execVerificationSweep s
  | .verificationSweepDone => Sys2Proof.Machine.execVerificationSweepDone s
  | .lintelSlotWrite path reg v => Sys2Proof.Machine.execLintelSlotWrite path reg v s
  | .lintelSlotFire slot => Sys2Proof.Machine.execLintelSlotFire slot s
  | .firedClear path k v => Sys2Proof.Machine.execFiredClear path k v s
  | .compareArm path v => Sys2Proof.Machine.execCompareArm path v s
  | .compareFire ch => Sys2Proof.Machine.execCompareFire ch s
  | .leafHelloSend => Sys2Proof.Machine.execLeafHelloSend s
  | .hingePartnerTimeout => Sys2Proof.Machine.execHingePartnerTimeout s
  | .leafHello arg => Sys2Proof.Machine.execLeafHello arg s
  | .demoteSend => Sys2Proof.Machine.execDemoteSend s
  | .leafDemote arg => Sys2Proof.Machine.execLeafDemote arg s
  | .leafTake arg => Sys2Proof.Machine.execLeafTake arg s
  | .takeover => Sys2Proof.Machine.execTakeover s
  | .activeSilent => Sys2Proof.Machine.execActiveSilent s
  | .partnerLostTimeout => Sys2Proof.Machine.execPartnerLostTimeout s
  | .mirrorCommit bs => Sys2Proof.Machine.execMirrorCommit bs s
  | .mirrorCommitApply => Sys2Proof.Machine.execMirrorCommitApply s
  | .mirrorUpdateExpire ring => Sys2Proof.Machine.execMirrorUpdateExpire ring s
  | .mirrorFetchReq bs => Sys2Proof.Machine.execMirrorFetchReq bs s
  | .mirrorFetchData bs => Sys2Proof.Machine.execMirrorFetchData bs s
  | .mirrorLine bs => Sys2Proof.Machine.execMirrorLine bs s
  | .mirrorWeftStart bs => Sys2Proof.Machine.execMirrorWeftStart bs s
  | .mirrorEditApply bs => Sys2Proof.Machine.execMirrorEditApply bs s
  | .mirrorRepair bs => Sys2Proof.Machine.execMirrorRepair bs s
  | .mirrorSync bs => Sys2Proof.Machine.execMirrorSync bs s
  | .syncComplete => Sys2Proof.Machine.execSyncComplete s
  | .plannedSwap => Sys2Proof.Machine.execPlannedSwap s
  | .revert => Sys2Proof.Machine.execRevert s
  | .leafSwap path => Sys2Proof.Machine.execLeafSwap path s
  | .leafResync path => Sys2Proof.Machine.execLeafResync path s
  | .leafRearm path => Sys2Proof.Machine.execLeafRearm path s
  | .nvsRead path kind => Sys2Proof.Machine.execNvsRead path kind s
  | .nvsWrite path kind => Sys2Proof.Machine.execNvsWrite path kind s
  | .nvsSetPassword path kind => Sys2Proof.Machine.execNvsSetPassword path kind s
  | .nvsPageWrite => Sys2Proof.Machine.execNvsPageWrite s
  | .nvsWriteDone => Sys2Proof.Machine.execNvsWriteDone s
  | .lifeSTick => Sys2Proof.Machine.execLifeSTick s
  | .passwordLockoutEnd => Sys2Proof.Machine.execPasswordLockoutEnd s
  | .logPageWrite page => Sys2Proof.Machine.execLogPageWrite page s
  | .firstFaultClear path => Sys2Proof.Machine.execFirstFaultClear path s
  | .nvsScrubStart => Sys2Proof.Machine.execNvsScrubStart s
  | .nvsScrubPage marginBad => Sys2Proof.Machine.execNvsScrubPage marginBad s
  | .bmsErase path => Sys2Proof.Machine.execBmsErase path s
  | .bmsWrite path => Sys2Proof.Machine.execBmsWrite path s
  | .bmsRead path => Sys2Proof.Machine.execBmsRead path s
  | .bmsDone fail => Sys2Proof.Machine.execBmsDone fail s
  | .bmsPatrol retired => Sys2Proof.Machine.execBmsPatrol retired s
  | .sensorRead sensor temp valid => Sys2Proof.Machine.execSensorRead sensor temp valid s
  | .thermalRestart => Sys2Proof.Machine.execThermalRestart s
  | .calibrationRun group => Sys2Proof.Machine.execCalibrationRun group s
  | .calibrationCommand path groups => Sys2Proof.Machine.execCalibrationCommand path groups s
  | .calibrationDone group => Sys2Proof.Machine.execCalibrationDone group s
  | .vrefCalibration gain inRange => Sys2Proof.Machine.execVrefCalibration gain inRange s
  | .freqMeasure ppb => Sys2Proof.Machine.execFreqMeasure ppb s
  | .selfTestStart path v => Sys2Proof.Machine.execSelfTestStart path v s
  | .selfTestDone pass => Sys2Proof.Machine.execSelfTestDone pass s
  | .sealOp path => Sys2Proof.Machine.execSeal path s
  | .unsealOp path => Sys2Proof.Machine.execUnseal path s
  | .recover path => Sys2Proof.Machine.execRecover path s
  | .owner path => Sys2Proof.Machine.execOwner path s
  | .keyLoad path readOk => Sys2Proof.Machine.execKeyLoad path readOk s
  | .keyClear path => Sys2Proof.Machine.execKeyClear path s
  | .svnCommit path => Sys2Proof.Machine.execSvnCommit path s
  | .signatureLockoutEnd => Sys2Proof.Machine.execSignatureLockoutEnd s
  | .debugAttach => Sys2Proof.Machine.execDebugAttach s
  | .debugDetach => Sys2Proof.Machine.execDebugDetach s
  | .idcode => Sys2Proof.Machine.execIdcode s
  | .samplePreload cells => Sys2Proof.Machine.execSamplePreload cells s
  | .extest => Sys2Proof.Machine.execExtest s
  | .clamp => Sys2Proof.Machine.execClamp s
  | .highz => Sys2Proof.Machine.execHighz s
  | .extestPulse => Sys2Proof.Machine.execExtestPulse s
  | .extestTrain => Sys2Proof.Machine.execExtestTrain s
  | .dbgReq req => Sys2Proof.Machine.execDbgReq req s
  | .intrusiveGrant => Sys2Proof.Machine.execIntrusiveGrant s
  | .dbgSts => Sys2Proof.Machine.execDbgSts s
  | .jtagRegRd addr => Sys2Proof.Machine.execJtagRegRd addr s
  | .jtagRegWr addr v => Sys2Proof.Machine.execJtagRegWr addr v s
  | .memRd addr => Sys2Proof.Machine.execMemRd addr s
  | .memWr addr data => Sys2Proof.Machine.execMemWr addr data s
  | .halt => Sys2Proof.Machine.execHalt s
  | .resume => Sys2Proof.Machine.execResume s
  | .bypass => Sys2Proof.Machine.execBypass s
  | .windowRead path page word => Sys2Proof.Machine.execWindowRead path page word s
  | .windowWrite path page word v => Sys2Proof.Machine.execWindowWrite path page word v s
  | .moduleUnpowered => Sys2Proof.Machine.execModuleUnpowered s
  | .houseSyncEdge => Sys2Proof.Machine.execHouseSyncEdge s
  | .cdrLockGain lane => Sys2Proof.Machine.execCdrLockGain lane s
  | .cdrLockLoss lane => Sys2Proof.Machine.execCdrLockLoss lane s
  | .managementLinkChange up speed => Sys2Proof.Machine.execManagementLinkChange up speed s

end Sys2Proof.Machine
end

