-- ==== Sys2Proof/Safety.lean ====
section
/-! DEFINITION. What counts as a safe run, in the terms the statements use: the parts of the state and what it means that a
command leaves a part alone; what a command answers; the fuses, which only ever burn (R436); and the one canonical form of
every sparse store. -/

namespace Sys2Proof.Machine

/-- The areas of the state, for frames: the groups of State, with HBM (its bytes and its bad bursts) and hub SRAM apart. -/
inductive Area where
  | regs | eff | mode | clk | pwr | panel | boot | bus | log | mem | scene | coil | wv | frs | rim | scan | weft | lan | fab | tim | leaf | nvs | thm | secu | freeCtr | pending | hbm | sram
  deriving DecidableEq, Repr

/-- A part is the same in two states. -/
def Area.same : Area → State → State → Prop
  | .regs, s, t => t.regs = s.regs
  | .eff, s, t => t.eff = s.eff
  | .mode, s, t => t.mode = s.mode
  | .clk, s, t => t.clk = s.clk
  | .pwr, s, t => t.pwr = s.pwr
  | .panel, s, t => t.panel = s.panel
  | .boot, s, t => t.boot = s.boot
  | .bus, s, t => t.bus = s.bus
  | .log, s, t => t.log = s.log
  | .mem, s, t => t.mem = s.mem
  | .scene, s, t => t.scene = s.scene
  | .coil, s, t => t.coil = s.coil
  | .wv, s, t => t.wv = s.wv
  | .frs, s, t => t.frs = s.frs
  | .rim, s, t => t.rim = s.rim
  | .scan, s, t => t.scan = s.scan
  | .weft, s, t => t.weft = s.weft
  | .lan, s, t => t.lan = s.lan
  | .fab, s, t => t.fab = s.fab
  | .tim, s, t => t.tim = s.tim
  | .leaf, s, t => t.leaf = s.leaf
  | .nvs, s, t => t.nvs = s.nvs
  | .thm, s, t => t.thm = s.thm
  | .secu, s, t => t.secu = s.secu
  | .freeCtr, s, t => t.freeCtr = s.freeCtr
  | .pending, s, t => t.pending = s.pending
  | .hbm, s, t => t.ram.hbm = s.ram.hbm ∧ t.ram.bad = s.ram.bad
  | .sram, s, t => t.ram.sram = s.ram.sram

/-- Every part of `t` but the listed ones is as in `s`. -/
def State.keeps (s t : State) (changed : List Area) : Prop := ∀ p : Area, p ∉ changed → p.same s t

/-- Every register of `t` but those whose keys are listed reads as in `s`. -/
def State.keepsRegs (s t : State) (keys : List Nat) : Prop := ∀ k, k ∉ keys → t.reg k = s.reg k

/-- The command runs: it answers a next state, and that state has the property. -/
def gives (c : Instr) (s : State) (p : State → Prop) : Prop := ∃ t, exec c s = .next t ∧ p t

/-- The command runs and changes nothing. -/
def idle (c : Instr) (s : State) : Prop := exec c s = .next s

/-- The fields of the register with key `k` take the listed values and its other bits stay. -/
def State.fieldsTo (s t : State) (k : Nat) (fs : List (Fld × Nat)) : Prop :=
  t.reg k = BitVec.ofNat 32 (fs.foldl (fun n x => setBits n x.1.hi x.1.lo x.2) (s.reg k).toNat)

/-- The registers of the event rings, and the flags of their own pages (R481, R482). -/
def ringKeys : List Nat :=
  ([0, 1] : List Nat).flatMap (fun r =>
    [EVT.HEAD.INDEX.key r 0, EVT.DROP.key r 0, EVT.STS.OVF.key r 0, HDR.PG_EVT.key (EVT.PAGE + r) 0,
      HDR.PG_BEAM_AT.WC.key (EVT.PAGE + r) 0])

/-- The registers that a rising event flag of a page can change (R457, R481). -/
def eventKeys (page : Nat) : List Nat := [HDR.PG_EVT.key page 0, HDR.PG_BEAM_AT.WC.key page 0] ++ ringKeys

/-- The registers that a log record of a page can change (R404, R477, R479, R489). -/
def logKeys (page : Nat) : List Nat :=
  [NVS.LOG_STS.HEAD.key 0 0, NVS.LOG_DROP.key 0 0, HDR.PG_ERR_CNT.COUNT.key page 0, HDR.PG_ERR_FIRST.CODE.key page 0,
    HDR.PG_ERR_CNT.COUNT.key NVS.PAGE 0, HDR.PG_ERR_FIRST.CODE.key NVS.PAGE 0] ++ eventKeys NVS.PAGE

/-- The registers that can change as the weave clock runs on: the count of withdrawn entries (R167), and PG_ERR_FIRST of the pages
whose records of the ending cycle find their order (R477, R489). -/
def State.runKeys (s : State) : List Nat :=
  FRS.STAT_WITHDRAW.key 0 0 :: s.log.cyc.map (fun c => HDR.PG_ERR_FIRST.CODE.key c.page 0)

/-- The edge that ends the line in progress has not come, or none comes (R5). -/
def State.midLine (s : State) : Bool :=
  s.mode.raster == .off || s.boot.hold || decide (s.clk.now - s.clk.lineAt < s.lineLen)

/-- Byte `a` of hub SRAM belongs to an event ring (R15, R481). -/
def State.inRing (s : State) (a : Nat) : Prop :=
  ∃ r : Fin 2, s.rd EVT.BASE.OFS r ≤ a ∧ a < s.rd EVT.BASE.OFS r + 65536

/-- Every byte of hub SRAM outside the event rings, and where these rings lie, is as before. -/
def State.keepsHub (s t : State) : Prop :=
  (∀ r : Fin 2, t.rd EVT.BASE.OFS r = s.rd EVT.BASE.OFS r) ∧
  ∀ a, ¬ s.inRing a → tget memDefault t.ram.sram a = tget memDefault s.ram.sram a

/-- Outside the listed areas and registers, and in hub SRAM outside the event rings, `t` is as `s`. -/
def State.within (s t : State) (areas : List Area) (keys : List Nat) : Prop :=
  s.keeps t areas ∧ s.keepsRegs t keys ∧ s.keepsHub t

/-- Event flag `bitNo` of a page stands (R457). -/
def State.flag (s : State) (page bitNo : Nat) : Prop := bit (s.rd HDR.PG_EVT page) bitNo = true

/-- A cause of a page is in the log (R476, R477): its record stands in the entry that HEAD named, unless the log takes no such
record (R404, R479). -/
def State.logged (s t : State) (page code : Nat) (args : Nat → Nat → Prop) : Prop :=
  s.logAdmits code = true →
    let r := tget (fun _ => LogRec.empty) t.log.wait (s.rd NVS.LOG_STS.HEAD)
    r.block = pageType page ∧ r.inst = pageInst page % 256 ∧ r.code = code ∧ args r.arg0 r.arg1

/-- The last access ended with a status (R465). -/
def State.answered (t : State) (st : Status) : Prop := t.bus.last.status = st

/-- SEC.RESULT and the registers that read 0 after a security operation (R441, R454). -/
def secKeys : List Nat :=
  SEC.RESULT.CODE.key 0 0 :: ((List.range 8).map (fun k => regKey 0 SEC.PAGE (0x200 + 4 * k)) ++
    (List.range 24).map (fun k => regKey 0 SEC.PAGE (0x300 + 4 * k)) ++
    (List.range 24).map (fun k => regKey 0 SEC.PAGE (0x400 + 4 * k)))

/-- A security operation ended with a result, and holds no key, signature or public key any more (R441, R452, R454). -/
def State.secEnded (t : State) (code : Nat) : Prop :=
  t.answered .ok ∧ t.rd SEC.RESULT.CODE = code ∧ t.flag SEC.PAGE 1 ∧ ∀ k ∈ secKeys, k ≠ SEC.RESULT.CODE.key 0 0 → t.reg k = 0

/-- A write of a register by a path passes every check (R362, R435, R445, R459, R468), no reset being under way. -/
def State.takes (s : State) (path : Path) (page off : Nat) : Bool :=
  match rowOf page off with
  | none => false
  | some r =>
    s.pathOpen path && s.pathServed path true && !s.modulePends && off % 4 == 0 && decide (off < 4096) &&
    !(off == 0x018 && s.mode.sec != .openS) && !(s.rdB HDR.PG_CTL.LOCK page && lockStops page off r) &&
    !(r.acc == .rws && s.mode.sec != .openS) && !(r.priv && s.mode.sec != .openS && !path.privileged) &&
    !(decide (0x800 ≤ off) && decide (page < 0x200) && s.mode.sec != .openS && !path.privileged)

/-- A read by a path passes every check, no reset being under way. -/
def State.shows (s : State) (path : Path) : Bool := s.pathOpen path && s.pathServed path false && !s.modulePends

/-- What a computation fails with, if it fails. -/
def failureOf {ε α : Type} : Except ε α → Option ε
  | .error e => some e
  | .ok _ => none

/-- The packet at the front of a ring whose engine is free and which has its turn (R86, R281); none in Quarantined, nor of a ring
in HBM during self-refresh (R288). -/
def State.front (s : State) (ring : Nat) : Option Pkt :=
  if s.mode.sec == .quarantined || (s.upd ring).isSome || ((s.ringQ ring).inHbm && s.mem.sealed) || !s.mayServe ring then none
  else match (s.ringQ ring).pkts.head? with
    | none => none
    | some (first, n) => if s.pktBad ring first n then none else some (s.pktAt ring first n)

/-- The update that the commit stage takes next, free to commit: not in a standby, behind no Weft burst and not held for the
partner's repairs (R93, R258, R373, R381). -/
def State.commits (s : State) : Option (Nat × Update) :=
  if s.mode.power == .standbyLeaf || (s.rd LEF.STS.ROLE == 2 && decide (s.rd LEF.REPAIR_MAX < s.rd LEF.REPAIR_Q)) then none
  else s.commitRing.filter (fun x => !s.weftWrites x.2.handle)

/-- The address of the descriptor at the head of the Weft's queue (R245). -/
def State.headAddr (s : State) : Nat := s.addr37 WFT.SQ_BASE_LO WFT.SQ_BASE_HI + 32 * s.rd WFT.SQ_HEAD.INDEX

/-- The Weft takes its next list now (R247, R264): it is enabled, in Full or Standby-leaf, runs none, is not held, and one waits. -/
def State.queueFree (s : State) : Bool :=
  s.rdB WFT.CTL.ENA && s.mode.power.weaves && s.weft.list.isNone && !s.weftHeld && s.rd WFT.SQ_HEAD.INDEX != s.rd WFT.SQ_TAIL.INDEX

/-- The legal descriptor that is taken now (R246). -/
def State.headDesc (s : State) : Option WeftDesc :=
  if s.queueFree && decide (s.headAddr + 32 ≤ hbmSize) && (s.firstBad s.headAddr 32).isNone && (weftDesc (s.hbmRd s.headAddr 32)).2 then
    some (weftDesc (s.hbmRd s.headAddr 32)).1
  else none

/-- The running list of the Weft when it stands at a command boundary that nothing holds (R245, R260, R261, R264). -/
def State.weftDue (s : State) : Option WeftList :=
  if s.weft.wait.isSome || s.weft.wmark.isSome || s.weftHeld || !s.mode.power.weaves then none
  else s.weft.list.filter (fun l => decide (l.addr + 64 * l.cmd + 64 ≤ hbmSize) && (s.firstBad (l.addr + 64 * l.cmd) 64).isNone)

/-- The command that a list has come to (R248). -/
def State.cmdAt (s : State) (l : WeftList) : WeftCmd := weftCmd (s.hbmRd (l.addr + 64 * l.cmd) 64)

/-- The surfaces of a command that passes its checks, with none of the code words of HBM bad (R255, R263). -/
def State.weftReady (s : State) (c : WeftCmd) : Option (Surf × Surf) :=
  if s.ram.bad.isEmpty then (s.weftCheck c).toOption else none

/-- The bytes of pixel (x, y) of a raw surface in a memory (R255). -/
def rawPixel (m : Table Byte) (f : Surf) (x y : Nat) : List Byte :=
  tgets memDefault m (f.base + y * f.pitch + x * fmtBpp f.fmt) (fmtBpp f.fmt)

/-- Byte `a` belongs to one of the pixels of a raw surface that `p` picks. -/
def rawHits (f : Surf) (p : Nat → Nat → Prop) (a : Nat) : Prop :=
  ∃ x y k, p x y ∧ k < fmtBpp f.fmt ∧ a = f.base + y * f.pitch + x * fmtBpp f.fmt + k

/-- Pixel (x, y) lies in the rectangle of a command (R248). -/
def WeftCmd.inRect (c : WeftCmd) (x y : Nat) : Prop := c.dx ≤ x ∧ x < c.dx + c.w ∧ c.dy ≤ y ∧ y < c.dy + c.h

/-- In memory as every issued burst leaves it (R257), the pixels of `f` that `p` picks take the bytes `v` gives, and every other
byte is as before. -/
def State.draws (s t : State) (f : Surf) (p : Nat → Nat → Prop) (v : Nat → Nat → List Byte) : Prop :=
  (∀ x y, p x y → rawPixel t.weftView f x y = v x y) ∧
  ∀ a, ¬ rawHits f p a → tget memDefault t.weftView a = tget memDefault s.weftView a

/-- The fuses of R436 are within their number: 256 transition fuses, four owner-key fields, 64 security-version fuses. -/
def SecuSt.fusesOk (u : SecuSt) : Prop := u.trans ≤ 256 ∧ u.owners.length ≤ 4 ∧ u.svnFuses ≤ 64

/-- No fuse of `u` is unburned in `v` (R436): every count is as high, the owner-key fields burned stay first. -/
def SecuSt.burnedIn (u v : SecuSt) : Prop :=
  u.trans ≤ v.trans ∧ u.owners <+: v.owners ∧ u.svnFuses ≤ v.svnFuses ∧ (u.key0Revoked = true → v.key0Revoked = true)

/-- The registers, the values in force and the memories are in canonical form. -/
def State.canonical (s : State) : Prop :=
  twf regReset s.regs = true ∧ twf regReset s.eff = true ∧ Memory.wf 0 s.ram.hbm = true ∧ Memory.wf 0 s.ram.sram = true ∧
  twf (fun _ => false) s.ram.bad = true

/-- What every step keeps: the canonical forms and the number of fuses. -/
def State.sound (s : State) : Prop := s.canonical ∧ s.secu.fusesOk

end Sys2Proof.Machine
end

