-- ==== Sys2Proof/Certificates/Slice0/Obligations.lean ====
section
/-! DEFINITION. The statements about the block, in the order of the spec's sections. Every clause says of the named commands
that they answer a next state, what that state holds and what it keeps (`State.within`: the areas and registers that may
change). -/

open Sys2Proof Sys2Proof.Machine

/-- Feed OK, lost, overvoltage and cleared; the holdup charge, its time-out and its measurement: Each feed command
writes its bit of SYS.PWR_STS and its power fault, keeps the other bits and everything else; a lost feed and an
overvoltage end a holdup measurement under way and are logged with codes 0x2C and 0x2D once a start has begun. A
feed already lost changes nothing. The model's choice (log entry 174): such a measurement ends without a result.
Above 20 V the always-on rail comes up. With the bank charged HOLD_RDY is 1 and stage 3 shows, unless a later stage
does; the counters that the store refused until then are written (log entry 176). Without it within 500 ms of the
start there is a power fault and fail code 0x0301, logged. A measurement starts with HOLD_RDY, both feeds good and
neither in overvoltage, and not otherwise. Its end writes HOLD_MS as the C function of R35 computes it and
HOLD_DEGR, which is 1 exactly below 250, with a power fault, and logs code 0x2E when that begins (the model's
choices: the value stops at 0xFFFF, log entry 174; a later measurement that is still below logs nothing, log entry
175). Without a measurement under way its end changes nothing. The two worked values 388 and 270 follow. The points
the spec leaves open in it follow the model's own choices, log entries 94, 107, 174, 175. (R30, R31, R37, R55, R32,
R56, R65, R47, R35, R36.) -/
def Obligations.PowerSupply : Prop :=
  ∀ s : State,
    (∀ (f : Fin 2), gives (.feedOk f) s (fun t =>
      s.fieldsTo t (SYS.PWR_STS.key 0 0) [((feedOkBit f), 1)] ∧
      t.pwr = { s.pwr with pfFeed := s.pwr.pfFeed.set f false } ∧
      s.within t [.regs, .pwr] [SYS.PWR_STS.key 0 0])) ∧
    (∀ (f : Fin 2), s.mode.supply ≠ .on → (s.pwr.pfFeed[f] = false ∨ s.rdB (feedOkBit f) = true) → gives (.feedLost f) s (fun t =>
      s.fieldsTo t (SYS.PWR_STS.key 0 0) [((feedOkBit f), 0)] ∧
      t.pwr = { s.pwr with pfFeed := s.pwr.pfFeed.set f true, measuring := false } ∧
      s.within t [.regs, .pwr] [SYS.PWR_STS.key 0 0])) ∧
    (∀ (f : Fin 2), s.mode.supply = .on → (s.pwr.pfFeed[f] = false ∨ s.rdB (feedOkBit f) = true) → gives (.feedLost f) s (fun t =>
      s.fieldsTo t (SYS.PWR_STS.key 0 0) [((feedOkBit f), 0)] ∧
      t.pwr = { s.pwr with pfFeed := s.pwr.pfFeed.set f true, measuring := false } ∧
      s.logged t SYS.PAGE 0x2C (fun a _ => a = t.pwrSts) ∧
      s.within t [.regs, .pwr, .log, .freeCtr, .sram] ([SYS.PWR_STS.key 0 0] ++ logKeys SYS.PAGE))) ∧
    (∀ (f : Fin 2), s.pwr.pfFeed[f] = true → s.rdB (feedOkBit f) = false → idle (.feedLost f) s) ∧
    (∀ (f : Fin 2), s.mode.supply = .on → gives (.feedOvervoltage f) s (fun t =>
      s.fieldsTo t (SYS.PWR_STS.key 0 0) [((feedOvBit f), 1)] ∧
      t.pwr = { s.pwr with pfOv := s.pwr.pfOv.set f true, measuring := false } ∧
      s.logged t SYS.PAGE 0x2D (fun a _ => a = t.pwrSts) ∧
      s.within t [.regs, .pwr, .log, .freeCtr, .sram] ([SYS.PWR_STS.key 0 0] ++ logKeys SYS.PAGE))) ∧
    (∀ (f : Fin 2), s.mode.supply ≠ .on → gives (.feedOvervoltage f) s (fun t =>
      s.fieldsTo t (SYS.PWR_STS.key 0 0) [((feedOvBit f), 1)] ∧
      t.pwr = { s.pwr with pfOv := s.pwr.pfOv.set f true, measuring := false } ∧
      s.within t [.regs, .pwr] [SYS.PWR_STS.key 0 0])) ∧
    (∀ (f : Fin 2), gives (.overvoltageCleared f) s (fun t =>
      s.fieldsTo t (SYS.PWR_STS.key 0 0) [((feedOvBit f), 0)] ∧
      t.pwr = { s.pwr with pfOv := s.pwr.pfOv.set f false } ∧
      s.within t [.regs, .pwr] [SYS.PWR_STS.key 0 0])) ∧
    (s.mode.supply = .off → gives .alwaysOnRailUp s (fun t =>
      t.mode = { s.mode with supply := .aon } ∧
      s.within t [.mode] [])) ∧
    (s.mode.supply = .on → s.pwr.charger = true → s.mode.power ≠ .discharge → s.boot.owed = [] → gives .holdRdy s (fun t =>
      t.rdB SYS.PWR_STS.HOLD_RDY = true ∧
      s.fieldsTo t (SYS.PWR_STS.key 0 0) [(SYS.PWR_STS.HOLD_RDY, 1)] ∧
      (s.rd SYS.START_STS.STAGE ≤ 3 → s.stagesDone = false → t.rd SYS.START_STS.STAGE = 3) ∧
      s.within t [.regs] [SYS.PWR_STS.key 0 0, SYS.START_STS.key 0 0])) ∧
    (s.mode.supply = .on → s.pwr.charger = true → s.mode.power ≠ .discharge → gives .holdRdy s (fun t =>
      t.rdB SYS.PWR_STS.HOLD_RDY = true ∧
      t.boot = { s.boot with owed := [] } ∧
      (s.rd SYS.START_STS.STAGE ≤ 3 → s.stagesDone = false → t.rd SYS.START_STS.STAGE = 3) ∧
      s.within t [.regs, .boot, .log, .nvs, .sram] ([SYS.PWR_STS.key 0 0, SYS.START_STS.key 0 0, NVS.STS.key 0 0] ++ logKeys NVS.PAGE))) ∧
    (s.mode.supply = .on → s.mode.power ≠ .discharge → s.rdB SYS.PWR_STS.HOLD_RDY = false → gives .holdTimeout s (fun t =>
      s.fieldsTo t (SYS.START_STS.key 0 0) [(SYS.START_STS.FAIL, 0x0301)] ∧
      t.pwr = { s.pwr with pfStart := true, holdTries := s.pwr.holdTries + 1 } ∧
      t.powerFault = true ∧
      s.logged t SYS.PAGE 0x2A (fun a b => a = t.rd SYS.START_STS ∧ b = 0) ∧
      s.within t [.regs, .pwr, .log, .sram] ([SYS.START_STS.key 0 0] ++ logKeys SYS.PAGE))) ∧
    (s.rdB SYS.PWR_STS.HOLD_RDY = true → s.rdB SYS.PWR_STS.FEED_A_OK = true → s.rdB SYS.PWR_STS.FEED_B_OK = true → s.rdB SYS.PWR_STS.FEED_A_OV = false → s.rdB SYS.PWR_STS.FEED_B_OV = false → s.mode.power ≠ .discharge → gives .holdupMeasureStart s (fun t =>
      t.pwr = { s.pwr with measuring := true } ∧
      s.within t [.pwr] [])) ∧
    ((s.rdB SYS.PWR_STS.HOLD_RDY = false ∨ s.rdB SYS.PWR_STS.FEED_A_OK = false ∨ s.rdB SYS.PWR_STS.FEED_B_OK = false ∨ s.rdB SYS.PWR_STS.FEED_A_OV = true ∨ s.rdB SYS.PWR_STS.FEED_B_OV = true ∨ s.mode.power = .discharge) → idle .holdupMeasureStart s) ∧
    (∀ (c : BitVec 32), s.pwr.measuring = false → idle (.holdupMeasureDone c) s) ∧
    (∀ (c : BitVec 32), s.pwr.measuring = true → gives (.holdupMeasureDone c) s (fun t =>
      s.fieldsTo t (SYS.PWR_STS.key 0 0) [(SYS.PWR_STS.HOLD_MS, min 0xFFFF ((c.toNat * (6400 - 1296) / 2 * 9 / 10 - 53000) / 7000 + 2)), (SYS.PWR_STS.HOLD_DEGR, b2n (decide ((c.toNat * (6400 - 1296) / 2 * 9 / 10 - 53000) / 7000 + 2 < 250)))] ∧
      t.pwr.pfHold = decide (t.rd SYS.PWR_STS.HOLD_MS < 250) ∧
      t.pwr = { s.pwr with measuring := false, pfHold := t.pwr.pfHold } ∧
      (t.pwr.pfHold = true → s.pwr.pfHold = false → s.logged t SYS.PAGE 0x2E (fun a b => a = t.pwrSts ∧ b = 0)) ∧
      s.within t [.regs, .pwr, .log, .sram] ([SYS.PWR_STS.key 0 0] ++ logKeys SYS.PAGE))) ∧
    (s.pwr.measuring = true → gives (.holdupMeasureDone 1200) s (fun t =>
      t.rd SYS.PWR_STS.HOLD_MS = 388 ∧
      t.rdB SYS.PWR_STS.HOLD_DEGR = false ∧
      (s.mode.supply = .on → s.pwr.pfHold = false → t.log = s.log))) ∧
    (s.pwr.measuring = true → gives (.holdupMeasureDone 840) s (fun t =>
      t.rd SYS.PWR_STS.HOLD_MS = 270 ∧
      t.rdB SYS.PWR_STS.HOLD_DEGR = false))

/-- 48 V valid, the power-fail warning and loss of power: A start begins at 48 V valid only from the always-on rail:
supply on, charger running, a start under way, and with no Config page lost and no register settings in Config no
fail code but those of the panels; a ROM whose check fails runs nothing. The warning sets PF_WARN and the Discharge
state, opens the relay, clears the store queue for the journal, and stops Weft, heater and every port, and with them
the raster and, over the Hinge port, the panel unless a Ready standby can be sent DEMOTE. Without power the fuses,
the passwords and the bulk map store stay, and memory, queue positions and modes are as at reset. The points the
spec leaves open in it follow the model's own choices, log entries 76, 95, 96, 179, 233. (R30, R32, R33, R37, R47,
R56, R65, R401.) -/
def Obligations.PowerFail : Prop :=
  ∀ s : State,
    (∀ (a b : PanelId), s.mode.supply = .aon → s.nvs.cur = none → s.listedIn 18 169 = [] → gives (.v48Valid true a b) s (fun t =>
      t.mode.supply = .on ∧
      t.pwr.charger = true ∧
      t.boot.starting = true ∧
      t.boot.romBad = false ∧
      t.secu.trans = s.secu.trans ∧
      t.secu.owners = s.secu.owners ∧
      t.rd SYS.START_STS.STAGE = 2)) ∧
    (∀ (a b : PanelId), s.mode.supply = .aon → s.nvs.cur = none → gives (.v48Valid false a b) s (fun t =>
      t.mode.supply = .on ∧
      t.boot.romBad = true ∧
      t.boot.starting = false ∧
      t.nvs.pages = s.nvs.pages ∧
      t.relayClosed = false)) ∧
    (∀ (ok : Bool) (a b : PanelId), s.mode.supply = .off → idle (.v48Valid ok a b) s) ∧
    (s.mode.supply = .on → s.mode.power ≠ .discharge → s.canHand = false → gives .powerFailWarning s (fun t =>
      t.rdB SYS.PWR_STS.PF_WARN = true ∧
      t.mode.power = .discharge ∧
      t.mode.supply = .on ∧
      t.relayClosed = false ∧
      t.nvs.q = [] ∧
      t.nvs.jrnlOn = true ∧
      t.nvs.bmsJob = none ∧
      t.boot.starting = false ∧
      t.boot.halted = false ∧
      t.panel.heaterOn = Vector.replicate 2 false ∧
      t.mode.raster = .off ∧
      t.pwr.lanesStopped = true ∧
      (∀ p : Fin 40, t.portState p = 0) ∧
      s.keeps t [.regs, .mode, .pwr, .panel, .boot, .log, .mem, .weft, .lan, .fab, .leaf, .nvs, .thm, .freeCtr, .sram])) ∧
    (s.mode.supply = .on → s.mode.power ≠ .discharge → s.canHand = true → gives .powerFailWarning s (fun t =>
      t.rdB SYS.PWR_STS.PF_WARN = true ∧
      t.mode.power = .discharge ∧
      t.relayClosed = false ∧
      t.mode.raster = s.mode.raster ∧
      t.nvs.jrnlOn = true ∧
      t.pwr.lanesStopped = true ∧
      (∀ p : Fin 40, p ≠ 23 → t.portState p = 0) ∧
      s.keeps t [.regs, .mode, .pwr, .panel, .boot, .log, .mem, .weft, .lan, .fab, .leaf, .nvs, .thm, .freeCtr, .sram])) ∧
    (s.mode.power = .discharge → idle .powerFailWarning s) ∧
    (s.mode.supply ≠ .off → s.nvs.cur = none → gives .moduleUnpowered s (fun t =>
      t.mode.supply = .off ∧
      t.mode.raster = .off ∧
      t.mode.power = .sill ∧
      t.mode.sec = s.mode.sec ∧
      t.ram = State.reset.ram ∧
      t.scene = State.reset.scene ∧
      t.nvs.pages = s.nvs.pages ∧
      t.nvs.pwds = s.nvs.pwds ∧
      t.nvs.bms = s.nvs.bms ∧
      t.secu.trans = s.secu.trans ∧
      t.secu.owners = s.secu.owners ∧
      t.secu.svnFuses = s.secu.svnFuses ∧
      t.secu.key0Revoked = s.secu.key0Revoked ∧
      (∀ k, k ∉ [SYS.PWR_STS.key 0 0, NVS.LOG_STS.HEAD.key 0 0] → t.reg k = regReset k) ∧
      s.keeps t [.regs, .eff, .mode, .clk, .pwr, .panel, .boot, .bus, .log, .mem, .scene, .coil, .wv, .frs, .rim, .scan, .weft, .lan, .fab, .tim, .leaf, .nvs, .thm, .secu, .hbm, .sram])) ∧
    (s.mode.supply = .off → idle .moduleUnpowered s)

/-- Panel rails: enabling, faults, unplugging and the lock time-out: Rails rise only under the conditions of R58 with
the run marker set first, to the Sill drive set; a half outside its thermal start limits stays down with code 0xE5.
A rail fault, and a panel unplugged with its rails up, set FAULT, a power fault, event RAIL_FAULT and code 0x67.
Column drivers that do not lock give fail code 0x0203. The points the spec leaves open in it follow the model's own
choices, log entries 90, 168. (R39, R40, R58, R62, R65, R220, R221, R423.) -/
def Obligations.PanelRails : Prop :=
  ∀ s : State,
    (∀ (h : Fin 2), s.railsAllowed h = true → s.zoneStartOk h = true → gives (.railsEnable h none) s (fun t =>
      t.rdB PDV.RAIL_STS.UP h = true ∧
      t.runMark = true ∧
      t.panel.rails[h] = sillRails (s.boot.cfg.sill.getD Rails.down) (s.clk.sillFrame % 2 == 1 && s.mode.raster == .sill) ∧
      t.panel.driven[h] = true ∧
      t.panel.allGate[h] = false ∧
      t.boot.pinDrive = .none ∧
      t.panel.gatesOn[h] = (s.mode.raster == .sill) ∧
      (∀ g : Fin 2, g ≠ h → t.panel.rails[g] = s.panel.rails[g]) ∧
      s.within t [.regs, .panel, .boot, .log, .nvs, .sram] ([PDV.RAIL_STS.key h 0, SYS.START_STS.key 0 0, NVS.STS.key 0 0] ++ logKeys NVS.PAGE))) ∧
    (∀ (h : Fin 2) (r : Fin 4), s.railsAllowed h = true → s.zoneStartOk h = true → gives (.railsEnable h (some r)) s (fun t =>
      t.rdB PDV.RAIL_STS.UP h = false ∧
      t.rdB PDV.RAIL_STS.FAULT h = true ∧
      t.powerFault = true ∧
      t.runMark = true ∧
      s.within t [.regs, .panel, .log, .nvs, .sram] ([PDV.RAIL_STS.key h 0, NVS.STS.key 0 0] ++ eventKeys (PDV.PAGE+h.val) ++ logKeys (PDV.PAGE+h.val)))) ∧
    (∀ (h : Fin 2) (m : Option (Fin 4)), s.railsAllowed h = true → s.zoneStartOk h = false → s.thm.startLogged = false → gives (.railsEnable h m) s (fun t =>
      t.rdB PDV.RAIL_STS.UP h = false ∧
      s.logged t THM.PAGE 0xE5 (fun a b => a = s.rd THM.FAULT ∧ b = 1 + h.val) ∧
      t.thm = { s.thm with startLogged := true } ∧
      s.within t [.regs, .log, .thm, .sram] (logKeys THM.PAGE))) ∧
    (∀ (h : Fin 2) (m : Option (Fin 4)), s.panel.presN[h] = true → idle (.railsEnable h m) s) ∧
    (∀ (h : Fin 2) (r : Fin 4) (limit : Bool), s.rdB PDV.RAIL_STS.UP h = true → s.rdB PDV.RAIL_STS.FAULT h = false → gives (.railFault h r limit) s (fun t =>
      t.rdB PDV.RAIL_STS.FAULT h = true ∧
      (limit = true → t.rdB (railLim r) h = true) ∧
      t.rdB PDV.RAIL_STS.UP h = true ∧
      t.panel = { s.panel with railFaultPf := s.panel.railFaultPf.set h true } ∧
      t.powerFault = true ∧
      t.flag (PDV.PAGE + h.val) 1 ∧
      s.logged t (PDV.PAGE + h.val) 0x67 (fun a b => a = t.rd PDV.RAIL_STS h ∧ b = r.val) ∧
      s.within t [.regs, .panel, .log, .sram] ([PDV.RAIL_STS.key h 0] ++ eventKeys (PDV.PAGE+h.val) ++ logKeys (PDV.PAGE+h.val)))) ∧
    (∀ (h : Fin 2) (r : Fin 4) (limit : Bool), s.rdB PDV.RAIL_STS.UP h = false → idle (.railFault h r limit) s) ∧
    (∀ (h : Fin 2), s.rdB PDV.RAIL_STS.UP h = false → gives (.panelUnplugged h) s (fun t =>
      t.panel = { s.panel with presN := s.panel.presN.set h true, heaterOn := s.panel.heaterOn.set h false, gatesOn := s.panel.gatesOn.set h false, allGate := s.panel.allGate.set h false } ∧
      s.within t [.panel] [])) ∧
    (∀ (h : Fin 2), s.rdB PDV.RAIL_STS.UP h = true → gives (.panelUnplugged h) s (fun t =>
      t.panel.presN[h] = true ∧
      t.panel.heaterOn[h] = false ∧
      t.panel.gatesOn[h] = false ∧
      t.panel.allGate[h] = false ∧
      t.rdB PDV.RAIL_STS.FAULT h = true ∧
      t.powerFault = true ∧
      t.flag (PDV.PAGE + h.val) 1 ∧
      s.logged t (PDV.PAGE + h.val) 0x67 (fun a _ => a = t.rd PDV.RAIL_STS h) ∧
      s.within t [.regs, .panel, .log, .sram] ([PDV.RAIL_STS.key h 0] ++ eventKeys (PDV.PAGE+h.val) ++ logKeys (PDV.PAGE+h.val)))) ∧
    (∀ (h : Fin 2), s.mode.supply = .on → s.mode.power = .sill → s.driversLocked h = false → s.rdB PDV.RAIL_STS.UP h = false → gives (.panelLockTimeout h) s (fun t =>
      s.fieldsTo t (SYS.START_STS.key 0 0) [(SYS.START_STS.FAIL, 0x0203)] ∧
      s.logged t SYS.PAGE 0x2A (fun a b => a = t.rd SYS.START_STS ∧ b = 0) ∧
      s.within t [.regs, .log, .sram] ([SYS.START_STS.key 0 0] ++ logKeys SYS.PAGE)))

/-- The Sill picture, balance-restore and the first Weaver frame: Stage 4 starts the Sill raster with frame 0 and
positive polarity; every later Sill frame starts at the edge that ends the last line of the one before, counts on
with the other polarity and rewrites the text; SILL_T is taken as the first one ends. Behind an odd frame with
everything ready for the Weaver the panel holds the frame instead. Balance-restore ends at the end of frame 299 with
every residue zero. With stages 5 to 10 done, no balance-restore and behind an odd Sill frame, at its last line or
as the panel holds it, the Weaver raster starts at phase 0 of a frame of its own, the power state is that of the
role, stage 12 shows, and the fast pass of the lock is complete. Without all that nothing happens. START_T.FULL_MS
is taken in a start from 48 V valid, not in a warm reset (log entry 178). A fast pass that is complete has withdrawn
every entry whose stamp lies more than 30 minutes from T, and no other, and restarts the sweep. The points the spec
leaves open in it follow the model's own choices, log entries 1, 82, 86, 88, 89, 90, 178, 190, 193, 196. (R40, R56,
R59, R60, R61, R63, R64, R69, R220, R57, R168.) -/
def Obligations.SillAndEnterFull : Prop :=
  ∀ s : State,
    (s.mode.supply = .on → s.mode.power = .sill → s.mode.raster = .off → s.rdB SYS.START_STS.CFG_DEF = false → s.boot.romBad = false → s.rd SYS.START_STS.STAGE < 13 → gives .sillPictureStart s (fun t =>
      t.mode.raster = .sill ∧
      t.mode.power = .sill ∧
      t.clk = { s.clk with sillFrame := 0, frame := 0, line := 0, wc := 0, lineAt := s.clk.now } ∧
      (∀ i : Fin 10, i ≠ 4 → t.boot.chars[i]? = (t.sillRows 0)[i]? ∧ t.boot.chars[i.val + 10]? = (t.sillRows 1)[i]?) ∧
      (∀ h : Fin 2, t.panel.gatesOn[h] = (s.rdB PDV.RAIL_STS.UP h && !s.panel.presN[h])) ∧
      (s.rd SYS.START_STS.STAGE ≤ 4 → s.stagesDone = false → t.rd SYS.START_STS.STAGE = 4) ∧
      s.within t [.regs, .mode, .clk, .panel, .boot, .log, .mem, .rim, .leaf] [SYS.START_STS.key 0 0, DMC.REF_STS.key 0 0, RIM.RET_STS.key 0 0])) ∧
    (s.mode.raster = .sill → s.clk.line = 8699 → (s.enterReady = false ∨ s.clk.sillFrame % 2 = 0) → gives .sillFrameStart s (fun t =>
      (t.clk = { (if s.boot.hold then s else s.toLineEnd).clk with sillFrame := s.clk.sillFrame + 1, frame := BitVec.ofNat 32 (s.clk.sillFrame + 1), line := 0, wc := 0, lineAt := (if s.boot.hold then s else s.toLineEnd).clk.now }) ∧
      (s.boot.firstSill = false → t.rd SYS.START_T.SILL_T = min 0xFFFF ((t.clk.now + 159999) / 160000)) ∧
      t.boot.firstSill = true ∧
      t.boot.hold = false ∧
      t.boot.chars = t.sillRows 0 ++ t.sillRows 1 ∧
      (∀ h : Fin 2, s.rdB PDV.RAIL_STS.UP h = true → ∀ r, s.boot.cfg.sill = some r → t.panel.rails[h] = sillRails r ((s.clk.sillFrame + 1) % 2 == 1)) ∧
      (t.boot.balFrames = if s.rdB SYS.START_STS.BAL_RST then s.boot.balFrames + 1 else s.boot.balFrames) ∧
      s.within t [.regs, .eff, .clk, .panel, .boot, .log, .mem, .scene, .frs, .rim, .tim, .sram] ([SYS.START_T.SILL_T.key 0 0, DMC.REF_STS.key 0 0, RIM.RET_STS.key 0 0] ++ s.runKeys))) ∧
    (s.mode.raster = .sill → s.clk.line = 8699 → s.enterReady = true → s.clk.sillFrame % 2 = 1 → gives .sillFrameStart s (fun t =>
      t.boot.hold = true ∧
      (t.clk = (if s.boot.hold then s else s.toLineEnd).clk) ∧
      t.mayEnter = true ∧
      s.within t [.regs, .clk, .boot, .log, .scene, .frs, .tim, .sram] ([SYS.START_T.SILL_T.key 0 0] ++ s.runKeys))) ∧
    (s.clk.line ≠ 8699 → idle .sillFrameStart s) ∧
    (s.mode.raster = .weaver → idle .sillFrameStart s) ∧
    (s.rdB SYS.START_STS.BAL_RST = true → s.mode.raster = .sill → (300 ≤ s.boot.balFrames ∨ (s.boot.balFrames = 299 ∧ s.clk.line = 8699)) → gives .balanceRestoreEnd s (fun t =>
      t.rdB SYS.START_STS.BAL_RST = false ∧
      (∀ a, s.resAddr 0 ≤ a → a < s.resAddr 0 + 796262400 → tget memDefault t.ram.hbm a = 0) ∧
      (∀ a, a < s.resAddr 0 ∨ s.resAddr 0 + 796262400 ≤ a → tget memDefault t.ram.hbm a = tget memDefault s.ram.hbm a) ∧
      s.within t [.regs, .hbm] [SYS.START_STS.key 0 0])) ∧
    ((s.boot.balFrames < 299 ∨ (s.boot.balFrames = 299 ∧ s.clk.line ≠ 8699)) → idle .balanceRestoreEnd s) ∧
    (∀ (fl : BitVec 32), s.mayEnter = true → gives (.enterFull fl) s (fun t =>
      t.mode.raster = .weaver ∧
      (t.mode.power = (if t.role < 3 then .full else .standbyLeaf)) ∧
      t.rd SYS.START_STS.STAGE = 12 ∧
      (t.clk.frame = BitVec.ofNat 32 (if s.boot.hold then s else s.toLineEnd).frameNear) ∧
      t.clk.fs = t.clk.frame ∧
      t.clk.line = 0 ∧
      t.clk.wc = 0 ∧
      (t.clk.now = (if s.boot.hold then s else s.toLineEnd).clk.now) ∧
      t.frs.fastPass = false ∧
      t.boot.starting = false ∧
      t.boot.hold = false ∧
      (s.boot.warm = false → t.rd SYS.START_T.FULL_MS = min 0xFFFF (t.clk.now / 1600000)) ∧
      (s.boot.warm = true → t.rd SYS.START_T.FULL_MS = s.rd SYS.START_T.FULL_MS) ∧
      s.keeps t [.regs, .eff, .mode, .clk, .panel, .boot, .log, .mem, .scene, .wv, .frs, .rim, .scan, .tim, .leaf, .nvs, .thm, .freeCtr, .hbm, .sram])) ∧
    (∀ (fl : BitVec 32), s.rdB SYS.START_STS.BAL_RST = true → idle (.enterFull fl) s) ∧
    (∀ (fl : BitVec 32), s.boot.hold = false → (s.clk.sillFrame % 2 = 0 ∨ s.clk.line ≠ 8699) → idle (.enterFull fl) s) ∧
    (s.frs.fastPass = true → s.handlesIn 0 262144 (wrapBad s.tUs) = [] → (∀ h : Fin 2, s.frs.sample[h].at_ ≠ s.clk.now ∨ s.frs.sample[h].at_ = 0) → gives .fastPassDone s (fun t =>
      t.frs = { s.frs with fastPass := false, wrapPos := 0, wrapHit := false } ∧
      t.scene = s.scene ∧
      s.within t [.frs] [])) ∧
    (s.frs.fastPass = true → gives .fastPassDone s (fun t =>
      t.frs.fastPass = false ∧
      t.frs.wrapPos = 0 ∧
      (∀ a, a < 262144 → t.entryRaw a = (if wrapBad s.tUs (s.entryRaw a) then { s.entryRaw a with state := .withdrawn } else s.entryRaw a)) ∧
      s.within t [.regs, .log, .scene, .frs, .sram] ([FRS.STAT_WITHDRAW.key 0 0, FRS.BOUND.BE.key 0 0, FRS.NOW.T.key 0 0] ++ logKeys FRS.PAGE))) ∧
    (s.frs.fastPass = false → idle .fastPassDone s)

/-- Start stages 5 to 10: Firmware is verified once the first Sill frame is fully written, or at once where Config gives
no Sill picture; what verifies takes control and ends stage 5; with no image that verifies, or no key store, the
module is Quarantined at stage 14 and runs no later stage. HBM training ends stage 6 when every eye is 16/64 UI or
wider, else it halts with 0x0601. The map load ends stage 7, or halts with 0x0701. The Lintel lock with valid time
brings the raster settings into force, or keeps the previous ones with code 0x5B where they are refused, begins the
fast pass and ends stage 9; without it the start goes on with LNT_FREE and 0x0901. The points the spec leaves open
in it follow the model's own choices, log entries 10, 35, 55, 77, 92, 93, 103, 105, 106, 107, 148, 176, 177, 194,
216. (R56, R57, R65, R136, R187, R283, R443, R486, R487.) -/
def Obligations.StartStages : Prop :=
  ∀ s : State,
    (s.startRuns = true → s.stageIs 5 = false → (s.boot.firstSill = true ∨ s.rdB SYS.START_STS.CFG_DEF = true) → gives .firmwareVerify s (fun t =>
      ((t.stageIs 5 = true ∧ t.rdB SEC.STS.FW_OK = true ∧ t.rdB SIL.CPU_STS.FW = true) ∨ (t.mode.sec = .quarantined ∧ t.rd SYS.START_STS.STAGE = 14 ∧ t.rdB SEC.STS.FW_OK = false)) ∧
      s.keeps t [.regs, .mode, .boot, .log, .mem, .scene, .frs, .secu, .freeCtr, .hbm, .sram])) ∧
    (s.boot.firstSill = false → s.rdB SYS.START_STS.CFG_DEF = false → idle .firmwareVerify s) ∧
    (s.startRuns = true → s.stageIs 5 = false → (s.boot.firstSill = true ∨ s.rdB SYS.START_STS.CFG_DEF = true) → s.bmsDir 0 = none → s.bmsDir 1 = none → gives .firmwareVerify s (fun t =>
      t.mode.sec = .quarantined ∧
      t.rd SYS.START_STS.STAGE = 14 ∧
      t.boot.starting = false ∧
      t.mode.power = s.mode.power)) ∧
    (∀ (first again : List (BitVec 6)), s.startRuns = true → s.stageIs 6 = false → s.rdI THM.ZONE_STS.TEMP 0 5 > 10 * s.rdI THM.ZONE_THR0.CSTOP 0 5 → s.rdI THM.ZONE_STS.TEMP 0 6 > 10 * s.rdI THM.ZONE_THR0.CSTOP 0 6 → (∀ k : Fin 4, 16 ≤ (first.getD k 0).toNat) → gives (.hbmTraining first again) s (fun t =>
      t.stageIs 6 = true ∧
      t.rd DMC.TRAIN_STS.PASS = 15 ∧
      t.rd DMC.TRAIN_STS.FAIL = 0 ∧
      t.flag DMC.PAGE 5 ∧
      t.mem = { s.mem with retrain := false, trims := [] } ∧
      s.within t [.regs, .boot, .log, .mem, .sram] ([DMC.TRAIN_STS.key 0 0, SYS.START_STS.key 0 0] ++ eventKeys DMC.PAGE))) ∧
    (∀ (first again : List (BitVec 6)) (k : Fin 4), s.startRuns = true → s.stageIs 6 = false → s.rdI THM.ZONE_STS.TEMP 0 5 > 10 * s.rdI THM.ZONE_THR0.CSTOP 0 5 → s.rdI THM.ZONE_STS.TEMP 0 6 > 10 * s.rdI THM.ZONE_THR0.CSTOP 0 6 → (first.getD k 0).toNat < 16 → (again.getD k 0).toNat < 16 → gives (.hbmTraining first again) s (fun t =>
      t.stageIs 6 = false ∧
      t.rd SYS.START_STS.STAGE = 13 ∧
      t.rd SYS.START_STS.FAIL = 0x0601 ∧
      bit (t.rd DMC.TRAIN_STS.FAIL) k = true ∧
      s.logged t DMC.PAGE 0x86 (fun a b => a = t.rd DMC.TRAIN_STS ∧ b = 0) ∧
      s.within t [.regs, .boot, .log, .mem, .fab, .sram] ([DMC.TRAIN_STS.key 0 0, SYS.START_STS.key 0 0] ++ eventKeys DMC.PAGE ++ logKeys DMC.PAGE ++ logKeys SYS.PAGE))) ∧
    (s.startRuns = true → s.stageIs 6 = true → s.stageIs 7 = false → gives .mapLoad s (fun t =>
      ((t.stageIs 7 = true ∧ (∀ d : Fin 2, t.wv.mapNext[d].isSome = true ∧ t.panel.waveNext[d].isSome = true)) ∨ (t.stageIs 7 = false ∧ t.rd SYS.START_STS.STAGE = 13 ∧ t.rd SYS.START_STS.FAIL = 0x0701)) ∧
      s.keeps t [.regs, .panel, .boot, .log, .wv, .fab, .hbm, .sram])) ∧
    (s.startRuns = true → s.stageIs 5 = true → s.stageIs 7 = true → s.stageIs 8 = false → s.lanesAtRate = true → gives .laneStepUp s (fun t =>
      t.stageIs 8 = true ∧
      (s.addrSrc ≠ 2 → s.addressed = false → t.rd SYS.START_STS.STAGE = 13) ∧
      s.within t [.regs, .boot, .fab, .thm] [SYS.START_STS.key 0 0, CLB.STS.key 0 0])) ∧
    (s.canLock = true → s.timeValid = true → s.rasterOk = true → gives .lintelLock s (fun t =>
      t.boot.lockDone = true ∧
      t.boot.lockAt = s.clk.now ∧
      t.stageIs 9 = true ∧
      t.eff_ SCN.LINE_PER.PER = s.rd SCN.LINE_PER.PER ∧
      t.eff_ SCN.VTOTAL.LINES = s.rd SCN.VTOTAL.LINES ∧
      t.eff_ SCN.RATE_CTL.RATE = s.rd SCN.RATE_CTL.RATE ∧
      t.scan.aligned = (s.rd SCN.RATE_CTL.SRC == 0 || s.rd SCN.RATE_CTL.SRC == 1) ∧
      t.frs.fastPass = true ∧
      s.keeps t [.regs, .eff, .boot, .log, .mem, .frs, .scan, .sram])) ∧
    (s.canLock = true → s.timeValid = true → s.rasterOk = false → gives .lintelLock s (fun t =>
      t.boot.lockDone = true ∧
      t.stageIs 9 = true ∧
      t.eff_ SCN.LINE_PER.PER = s.eff_ SCN.LINE_PER.PER ∧
      t.eff_ SCN.VTOTAL.LINES = s.eff_ SCN.VTOTAL.LINES ∧
      t.eff_ SCN.RATE_CTL = s.eff_ SCN.RATE_CTL ∧
      s.logged t SCN.PAGE 0x5B (fun a b => a = s.rd SCN.LOCK_STS ∧ b = 0) ∧
      s.keeps t [.regs, .eff, .boot, .log, .mem, .frs, .scan, .sram])) ∧
    (s.timeValid = false → idle .lintelLock s) ∧
    (s.canLock = true → s.timeValid = false → gives .lintelLockTimeout s (fun t =>
      t.boot.lockDone = true ∧
      t.stageIs 9 = true ∧
      t.rdB SYS.START_STS.LNT_FREE = true ∧
      t.rd SYS.START_STS.FAIL = 0x0901 ∧
      t.scan.aligned = false ∧
      s.keeps t [.regs, .eff, .boot, .log, .mem, .frs, .scan, .sram]))

/-- Ring and stream configuration, and the landing of TST packets: A packet with the right MAGIC and VER for an enabled
ring with room lands: its landing record and bytes fill ceil((16 + LEN) / 64) entries from the tail, the last one
padded with 0. A full ring drops the whole packet and counts it in that ring's DROP; a wrong MAGIC or VER, a
disabled ring, an IP fragment and a bad checksum count in LAND_DROP; another UDP port does nothing. During
self-refresh a packet for a ring in HBM waits in the landing buffer with the beam stamp of its arrival. Setting ENA
of a disabled empty ring with SIZE_LOG2 4 to 16 takes its fields, its address and 2^SIZE_LOG2 entries; another
SIZE_LOG2 leaves ENA 0, answers IGNORED and logs code 0x28. Clearing ENA keeps what has landed. STREAM_RING binds a
stream unless an update of it is in staging or decode, when the write is ignored. The points the spec leaves open in
it follow the model's own choices, log entries 20, 44. (R77, R83, R84, R85, R288, R107, R464.) -/
def Obligations.PacketRings : Prop :=
  ∀ s : State,
    (∀ (port : BitVec 5) (bytes : List Byte) (q : RingQ), 6 ≤ bytes.length → beAt bytes 0 2 = 0x5453 → bits (beAt bytes 2 1) 7 4 = 2 → s.rdB ING.RING_CFG.ENA 0 (beAt bytes 4 2) = true → (s.ringQ (beAt bytes 4 2)) = q → q.inHbm = false → s.mode.sec ≠ .quarantined → s.mode.power ≠ .shutter → q.fill + ringEntries bytes.length ≤ q.size → gives (.packetLand (.fabric port) bytes) s (fun t =>
      (t.ringQ (beAt bytes 4 2)).pkts = q.pkts ++ [(q.tail, ringEntries bytes.length)] ∧
      (t.ringQ (beAt bytes 4 2)).tail = (q.tail + ringEntries bytes.length) % q.size ∧
      t.entriesBytes q (ringEntries bytes.length) q.tail = landBytes s.stamp (port.toNat + 64) (ringEntries bytes.length) bytes ∧
      t.ram.hbm = s.ram.hbm ∧
      (∀ a, (∀ i, i < ringEntries bytes.length → a < q.base + 64 * ((q.tail + i) % q.size) ∨ q.base + 64 * ((q.tail + i) % q.size) + 64 ≤ a) → tget memDefault t.ram.sram a = tget memDefault s.ram.sram a) ∧
      s.keepsRegs t [] ∧
      s.keeps t [.scene, .sram])) ∧
    (∀ (port : BitVec 5) (udp : BitVec 16) (v6 : Bool) (bytes : List Byte) (q : RingQ), 6 ≤ bytes.length → beAt bytes 0 2 = 0x5453 → bits (beAt bytes 2 1) 7 4 = 2 → s.rdB ING.RING_CFG.ENA 0 (beAt bytes 4 2) = true → (s.ringQ (beAt bytes 4 2)) = q → q.inHbm = false → s.mode.sec ≠ .quarantined → s.mode.power ≠ .shutter → q.fill + ringEntries bytes.length ≤ q.size → udp.toNat = s.rd ING.UDP_PORT.PORT → gives (.packetLand (.ethernet port udp false v6 .good) bytes) s (fun t =>
      (t.ringQ (beAt bytes 4 2)).pkts = q.pkts ++ [(q.tail, ringEntries bytes.length)] ∧
      (t.ringQ (beAt bytes 4 2)).tail = (q.tail + ringEntries bytes.length) % q.size ∧
      t.entriesBytes q (ringEntries bytes.length) q.tail = landBytes s.stamp (port.toNat) (ringEntries bytes.length) bytes ∧
      t.ram.hbm = s.ram.hbm ∧
      (∀ a, (∀ i, i < ringEntries bytes.length → a < q.base + 64 * ((q.tail + i) % q.size) ∨ q.base + 64 * ((q.tail + i) % q.size) + 64 ≤ a) → tget memDefault t.ram.sram a = tget memDefault s.ram.sram a) ∧
      s.keepsRegs t [] ∧
      s.keeps t [.scene, .sram])) ∧
    (∀ (port : BitVec 5) (bytes : List Byte), s.rdB ING.RING_CFG.ENA 0 (beAt bytes 4 2) = true → (s.ringQ (beAt bytes 4 2)).inHbm = true → s.mem.sealed = true → s.landHeld + 64 * ringEntries bytes.length ≤ 262144 → s.mode.sec ≠ .quarantined → s.mode.power ≠ .shutter → gives (.packetLand (.fabric port) bytes) s (fun t =>
      t.mem = { s.mem with landHold := s.mem.landHold ++ [⟨s.stamp, beAt bytes 4 2, port.toNat + 64, bytes⟩] } ∧
      s.within t [.mem] [])) ∧
    (∀ (port : BitVec 5) (bytes : List Byte) (q : RingQ), 6 ≤ bytes.length → beAt bytes 0 2 = 0x5453 → bits (beAt bytes 2 1) 7 4 = 2 → s.rdB ING.RING_CFG.ENA 0 (beAt bytes 4 2) = true → (s.ringQ (beAt bytes 4 2)) = q → q.inHbm = false → s.mode.sec ≠ .quarantined → s.mode.power ≠ .shutter → q.size < q.fill + ringEntries bytes.length → gives (.packetLand (.flexCalnar port) bytes) s (fun t =>
      t.rd ING.RING_DROP.DROP 0 (beAt bytes 4 2) = min 0xFFFF (s.rd ING.RING_DROP.DROP 0 (beAt bytes 4 2) + 1) ∧
      s.within t [.regs] [ING.RING_DROP.DROP.key 0 (beAt bytes 4 2)])) ∧
    (∀ (port : BitVec 5) (bytes : List Byte), (beAt bytes 0 2 ≠ 0x5453 ∨ (bits (beAt bytes 2 1) 7 4 ≠ 2 ∧ bits (beAt bytes 2 1) 7 4 ≠ 1) ∨ s.rdB ING.RING_CFG.ENA 0 (beAt bytes 4 2) = false) → s.mem.sealed = false → s.mode.sec ≠ .quarantined → gives (.packetLand (.fabric port) bytes) s (fun t =>
      t.rd ING.LAND_DROP = min 0xFFFFFFFF (s.rd ING.LAND_DROP + 1) ∧
      s.within t [.regs] [ING.LAND_DROP.key 0 0])) ∧
    (∀ (port : BitVec 5) (udp : BitVec 16) (fragment v6 : Bool) (sum : UdpSum) (bytes : List Byte), (fragment = true ∨ sum = .bad ∨ (sum = .zero ∧ v6 = true)) → udp.toNat = s.rd ING.UDP_PORT.PORT → s.mode.sec ≠ .quarantined → gives (.packetLand (.ethernet port udp fragment v6 sum) bytes) s (fun t =>
      t.rd ING.LAND_DROP = min 0xFFFFFFFF (s.rd ING.LAND_DROP + 1) ∧
      s.within t [.regs] [ING.LAND_DROP.key 0 0])) ∧
    (∀ (port : BitVec 5) (udp : BitVec 16) (fragment v6 : Bool) (sum : UdpSum) (bytes : List Byte), udp.toNat ≠ s.rd ING.UDP_PORT.PORT → idle (.packetLand (.ethernet port udp fragment v6 sum) bytes) s) ∧
    (∀ (path : Path) (v : BitVec 32), s.takes path ING.PAGE 0x10C = true → s.rdB ING.RING_CFG.ENA 0 (s.ringSel path) = false → (s.ringQ (s.ringSel path)).fill = 0 → 4 ≤ bits v.toNat 12 8 → bits v.toNat 12 8 ≤ 16 → gives (.ringEnable path v) s (fun t =>
      t.answered .ok ∧
      (t.reg (ING.RING_CFG.key 0 (s.ringSel path))).toNat = setBits v.toNat 0 0 1 &&& 0xF1F07 ∧
      (t.ringQ (s.ringSel path) = ⟨bit v.toNat 1, if bit v.toNat 1 then s.addr37 ING.RING_ADDR_LO ING.RING_ADDR_HI 0 (s.ringSel path) else s.rd ING.RING_ADDR_LO 0 (s.ringSel path), 2 ^ bits v.toNat 12 8, 0, []⟩) ∧
      s.within t [.regs, .bus, .scene] [ING.RING_CFG.key 0 ((s.ringSel path))])) ∧
    (∀ (path : Path) (v : BitVec 32), s.takes path ING.PAGE 0x10C = true → s.rdB ING.RING_CFG.ENA 0 (s.ringSel path) = false → (s.ringQ (s.ringSel path)).fill = 0 → (bits v.toNat 12 8 < 4 ∨ 16 < bits v.toNat 12 8) → gives (.ringEnable path v) s (fun t =>
      t.answered .ignored ∧
      t.rdB ING.RING_CFG.ENA 0 (s.ringSel path) = false ∧
      bits (t.reg (ING.RING_CFG.key 0 (s.ringSel path))).toNat 12 8 = bits v.toNat 12 8 ∧
      s.logged t SYS.PAGE 0x28 (fun a b => a = ING.PAGE * 4096 + 0x10C + path.num * 2 ^ 24 ∧ b = setBits v.toNat 0 0 1) ∧
      s.within t [.regs, .bus, .log, .sram] ([ING.RING_CFG.key 0 ((s.ringSel path))] ++ logKeys SYS.PAGE))) ∧
    (∀ (path : Path) (v : BitVec 32), s.takes path ING.PAGE 0x10C = true → gives (.ringDisable path v) s (fun t =>
      t.answered .ok ∧
      t.rdB ING.RING_CFG.ENA 0 (s.ringSel path) = false ∧
      bits (t.reg (ING.RING_CFG.key 0 (s.ringSel path))).toNat 19 16 = bits v.toNat 19 16 ∧
      t.ringQ (s.ringSel path) = s.ringQ (s.ringSel path) ∧
      s.within t [.regs, .bus] [ING.RING_CFG.key 0 ((s.ringSel path))])) ∧
    (∀ (path : Path) (v : BitVec 32), s.takes path ING.PAGE 0x154 = true → s.streamBusy (s.rd ING.STREAM_SEL.STREAM 0 path.num) = false → gives (.streamRingWrite path v) s (fun t =>
      t.answered .ok ∧
      t.rd ING.STREAM_RING.RING 0 (s.rd ING.STREAM_SEL.STREAM 0 path.num) = v.toNat % 65536 ∧
      t.rdB ING.STREAM_RING.BOUND 0 (s.rd ING.STREAM_SEL.STREAM 0 path.num) = bit v.toNat 16 ∧
      s.within t [.regs, .bus] [ING.STREAM_RING.key 0 ((s.rd ING.STREAM_SEL.STREAM 0 path.num))])) ∧
    (∀ (path : Path) (v : BitVec 32), s.takes path ING.PAGE 0x154 = true → s.streamBusy (s.rd ING.STREAM_SEL.STREAM 0 path.num) = true → gives (.streamRingWrite path v) s (fun t =>
      t.answered .ignored ∧
      s.logged t SYS.PAGE 0x28 (fun a b => a = ING.PAGE * 4096 + 0x154 + path.num * 2 ^ 24 ∧ b = v.toNat) ∧
      s.within t [.regs, .bus, .log, .sram] (logKeys SYS.PAGE)))

/-- TILE packets and the checks of each packet: A TILE packet that passes the checks of R88 becomes its ring's update
with the handle, sequence, stamp, age, source and payload of its fields; with more fragments to come it gathers,
else it waits for staging; STAT_PKT counts it. A packet that fails a check frees its entries, counts in STAT_REJ,
shows its code, ring and TILE and changes no tile entry. A TL-5100 packet is such a TILE packet of handle (BASE +
TILE16) mod 262,144. The points the spec leaves open in it follow the model's own choices, log entries 18, 45, 46,
181, 184. (R78, R79, R80, R81, R88, R102, R103, R106.) -/
def Obligations.TilePackets : Prop :=
  ∀ s : State,
    (∀ (ring : BitVec 16) (p : Pkt) (ip : Nat × Plane), s.front ring.toNat = some p → s.checkPkt ring.toNat none p = none → p.type = 0 → p.ver = 2 → (s.checkTile p).toOption = some ip → gives (.tstTile ring) s (fun t =>
      (t.upd ring.toNat = some ⟨.tile, if p.fragLast = 0 then .passed else .gathering, 1, 1, p.fragLast, p.tile, p.seq, p.stamp, p.maxAge, p.source, p.stream, p.enc, p.total, s.verifies p, s.timeValid, false, ip.1, s.epochOf ip.1, ip.2.format, p.payload, [], 0⟩) ∧
      t.rd ING.STAT_PKT = min 0xFFFFFFFF (s.rd ING.STAT_PKT + 1) ∧
      t.ringQ ring.toNat = s.ringQ ring.toNat ∧
      s.within t [.regs, .scene] [ING.STAT_PKT.key 0 0])) ∧
    (∀ (ring : BitVec 16) (p : Pkt) (u : Update) (k n : Nat), s.mode.sec ≠ .quarantined → s.upd ring.toNat = some u → u.phase = .gathering → (s.ringQ ring.toNat).pkts[u.pkts]? = some (k, n) → s.mem.sealed = false → s.mayServe ring.toNat = true → s.pktBad ring.toNat k n = false → s.pktAt ring.toNat k n = p → p.ver = 2 → p.type = 0 → u.isNext p false = true → s.checkPkt ring.toNat (some u) p = none → gives (.tstTile ring) s (fun t =>
      ((t.upd ring.toNat).map (fun x => (x.phase, x.pkts, x.nextFrag, x.payload)) = some ((if p.fragIdx = p.fragLast then .passed else .gathering), u.pkts + 1, u.nextFrag + 1, u.payload ++ p.payload)) ∧
      t.rd ING.STAT_PKT = min 0xFFFFFFFF (s.rd ING.STAT_PKT + 1) ∧
      s.within t [.regs, .scene] [ING.STAT_PKT.key 0 0])) ∧
    (∀ (ring : BitVec 16) (p : Pkt) (c : Nat), s.front ring.toNat = some p → s.checkPkt ring.toNat none p = some c → p.ver = 2 → p.type = 0 → gives (.tstTile ring) s (fun t =>
      t.rd ING.STAT_REJ = min 0xFFFFFFFF (s.rd ING.STAT_REJ + 1) ∧
      t.rd ING.REJ_LAST.CODE = c ∧
      t.rd ING.REJ_LAST.RING = ring.toNat ∧
      t.rd ING.REJ_TILE = p.tile % 2 ^ 32 ∧
      (t.ringQ ring.toNat).pkts = (s.ringQ ring.toNat).pkts.tail ∧
      t.scene.fresh = s.scene.fresh ∧
      ((s.log.frameKeys.contains (c, ring.toNat) = false → s.logged t ING.PAGE c (fun a _ => a = t.rd ING.REJ_LAST))) ∧
      s.within t [.regs, .log, .scene, .sram] ([ING.STAT_REJ.key 0 0, ING.REJ_LAST.key 0 0, ING.REJ_TILE.key 0 0, RIM.TST_ERR.key 0 0, SEC.TAG_FAIL.key 0 0, SEC.TAG_LAST.SLOT.key 0 0] ++ logKeys ING.PAGE))) ∧
    (∀ (ring : BitVec 16) (p : Pkt) (ip : Nat × Plane), s.front ring.toNat = some p → s.checkPkt ring.toNat none p = none → p.type = 0 → p.ver = 2 → s.owner p.tile = some ip → s.timeValid = false → (s.entry p.tile).state ≠ .noData → sdiff32 p.seq (s.entry p.tile).seq < 0 → gives (.tstTile ring) s (fun t =>
      t.rd ING.STAT_SUPER = min 0xFFFFFFFF (s.rd ING.STAT_SUPER + 1) ∧
      (t.ringQ ring.toNat).pkts = (s.ringQ ring.toNat).pkts.tail ∧
      t.scene.fresh = s.scene.fresh ∧
      s.within t [.regs, .scene] [ING.STAT_SUPER.key 0 0])) ∧
    (∀ (ring : BitVec 16) (p : Pkt) (ip : Nat × Plane), s.front ring.toNat = some p → s.checkPkt ring.toNat none p = none → p.ver = 1 → (s.checkTile p).toOption = some ip → gives (.t5Tile ring) s (fun t =>
      t.upd ring.toNat = some ⟨.tile, .passed, 1, 1, 0, (s.rd ING.T5_CTL.BASE + beAt p.raw 8 2) % 262144, p.seq, p.stamp, p.maxAge, p.source, 0, 0, p.plen, s.verifies p, s.timeValid, true, ip.1, s.epochOf ip.1, ip.2.format, p.payload, [], 0⟩ ∧
      t.rd ING.STAT_PKT = min 0xFFFFFFFF (s.rd ING.STAT_PKT + 1) ∧
      s.within t [.regs, .scene] [ING.STAT_PKT.key 0 0])) ∧
    (∀ (ring : BitVec 16) (p : Pkt) (c : Nat), s.front ring.toNat = some p → s.checkPkt ring.toNat none p = some c → p.ver = 1 → gives (.t5Tile ring) s (fun t =>
      t.rd ING.STAT_REJ = min 0xFFFFFFFF (s.rd ING.STAT_REJ + 1) ∧
      t.rd ING.REJ_LAST.CODE = c ∧
      t.rd ING.REJ_LAST.RING = ring.toNat ∧
      t.rd ING.REJ_TILE = p.tile % 2 ^ 32 ∧
      (t.ringQ ring.toNat).pkts = (s.ringQ ring.toNat).pkts.tail ∧
      t.scene.fresh = s.scene.fresh ∧
      ((s.log.frameKeys.contains (c, ring.toNat) = false → s.logged t ING.PAGE c (fun a _ => a = t.rd ING.REJ_LAST))) ∧
      s.within t [.regs, .log, .scene, .sram] ([ING.STAT_REJ.key 0 0, ING.REJ_LAST.key 0 0, ING.REJ_TILE.key 0 0, RIM.TST_ERR.key 0 0, SEC.TAG_FAIL.key 0 0, SEC.TAG_LAST.SLOT.key 0 0] ++ logKeys ING.PAGE)))

/-- RESTAMP, INVALIDATE, EDIT and EDIT_CLOSE packets: A RESTAMP or INVALIDATE packet that passes the checks frees its
entries, counts in STAT_PKT and waits for the commit stage with its fields; one that fails is rejected with its code
and changes no entry. On a ring with EDIT_OK, an EDIT packet with an ID newer than the reference writes its records
into the set being assembled at the indices from SEQ, or starts a new set; EDIT_CLOSE closes that set with its
record count, frame and flags, while fewer than four wait. Without EDIT_OK both are rejected with 0x12; a fifth
closed set with 0x19. The points the spec leaves open in it follow the model's own choices, log entries 18, 19, 182,
183, 186. (R79, R88, R96, R103, R97, R99, R106.) -/
def Obligations.MarkAndEditPackets : Prop :=
  ∀ s : State,
    (∀ (ring : BitVec 16) (p : Pkt) (ip : Nat × Plane), s.front ring.toNat = some p → s.checkPkt ring.toNat none p = none → p.type = 3 → p.ver = 2 → (s.checkTile p).toOption = some ip → gives (.tstRestamp ring) s (fun t =>
      t.upd ring.toNat = some ⟨.restamp, .written, 1, 1, p.fragLast, p.tile, p.seq, p.stamp, p.maxAge, p.source, p.stream, p.enc, p.total, s.verifies p, s.timeValid, false, ip.1, s.epochOf ip.1, ip.2.format, p.payload, [], 0⟩ ∧
      t.rd ING.STAT_PKT = min 0xFFFFFFFF (s.rd ING.STAT_PKT + 1) ∧
      (t.ringQ ring.toNat).pkts = (s.ringQ ring.toNat).pkts.tail ∧
      s.within t [.regs, .scene] [ING.STAT_PKT.key 0 0])) ∧
    (∀ (ring : BitVec 16) (p : Pkt) (ip : Nat × Plane), s.front ring.toNat = some p → s.checkPkt ring.toNat none p = none → p.type = 4 → p.ver = 2 → (s.checkTile p).toOption = some ip → gives (.tstInvalidate ring) s (fun t =>
      t.upd ring.toNat = some ⟨.invalidate, .written, 1, 1, p.fragLast, p.tile, p.seq, p.stamp, p.maxAge, p.source, p.stream, p.enc, p.total, s.verifies p, s.timeValid, false, ip.1, s.epochOf ip.1, ip.2.format, p.payload, [], 0⟩ ∧
      t.rd ING.STAT_PKT = min 0xFFFFFFFF (s.rd ING.STAT_PKT + 1) ∧
      (t.ringQ ring.toNat).pkts = (s.ringQ ring.toNat).pkts.tail ∧
      s.within t [.regs, .scene] [ING.STAT_PKT.key 0 0])) ∧
    (∀ (ring : BitVec 16) (p : Pkt) (c : Nat), s.front ring.toNat = some p → s.checkPkt ring.toNat none p = some c → p.ver = 2 → p.type = 3 → gives (.tstRestamp ring) s (fun t =>
      t.rd ING.STAT_REJ = min 0xFFFFFFFF (s.rd ING.STAT_REJ + 1) ∧
      t.rd ING.REJ_LAST.CODE = c ∧
      t.rd ING.REJ_LAST.RING = ring.toNat ∧
      t.rd ING.REJ_TILE = p.tile % 2 ^ 32 ∧
      (t.ringQ ring.toNat).pkts = (s.ringQ ring.toNat).pkts.tail ∧
      t.scene.fresh = s.scene.fresh ∧
      ((s.log.frameKeys.contains (c, ring.toNat) = false → s.logged t ING.PAGE c (fun a _ => a = t.rd ING.REJ_LAST))) ∧
      s.within t [.regs, .log, .scene, .sram] ([ING.STAT_REJ.key 0 0, ING.REJ_LAST.key 0 0, ING.REJ_TILE.key 0 0, RIM.TST_ERR.key 0 0, SEC.TAG_FAIL.key 0 0, SEC.TAG_LAST.SLOT.key 0 0] ++ logKeys ING.PAGE))) ∧
    (∀ (ring : BitVec 16) (p : Pkt) (c : Nat), s.front ring.toNat = some p → s.checkPkt ring.toNat none p = some c → p.ver = 2 → p.type = 4 → gives (.tstInvalidate ring) s (fun t =>
      t.rd ING.STAT_REJ = min 0xFFFFFFFF (s.rd ING.STAT_REJ + 1) ∧
      t.rd ING.REJ_LAST.CODE = c ∧
      t.rd ING.REJ_LAST.RING = ring.toNat ∧
      t.rd ING.REJ_TILE = p.tile % 2 ^ 32 ∧
      (t.ringQ ring.toNat).pkts = (s.ringQ ring.toNat).pkts.tail ∧
      t.scene.fresh = s.scene.fresh ∧
      ((s.log.frameKeys.contains (c, ring.toNat) = false → s.logged t ING.PAGE c (fun a _ => a = t.rd ING.REJ_LAST))) ∧
      s.within t [.regs, .log, .scene, .sram] ([ING.STAT_REJ.key 0 0, ING.REJ_LAST.key 0 0, ING.REJ_TILE.key 0 0, RIM.TST_ERR.key 0 0, SEC.TAG_FAIL.key 0 0, SEC.TAG_LAST.SLOT.key 0 0] ++ logKeys ING.PAGE))) ∧
    (∀ (ring : BitVec 16) (p : Pkt), s.front ring.toNat = some p → s.checkPkt ring.toNat none p = none → p.type = 1 → p.ver = 2 → s.rdB ING.RING_CFG.EDIT_OK 0 ring.toNat = true → 0 < sdiff32 p.tile s.editRef → s.scene.edit = none → gives (.tstEdit ring) s (fun t =>
      (t.scene.edit).map (fun e => (e.id, e.ring)) = some (p.tile, ring.toNat) ∧
      (∀ k, (t.scene.edit).map (fun e => tget (fun _ => []) e.recs k) = some (if p.seq ≤ k ∧ k < p.seq + p.plen / 64 then slice p.payload (64 * (k - p.seq)) 64 else [])) ∧
      t.rdB ING.EDIT_STS.ASSEMBLING = true ∧
      t.rd ING.STAT_PKT = min 0xFFFFFFFF (s.rd ING.STAT_PKT + 1) ∧
      (t.ringQ ring.toNat).pkts = (s.ringQ ring.toNat).pkts.tail ∧
      t.scene.closed = s.scene.closed ∧
      t.scene.planes = s.scene.planes ∧
      s.within t [.regs, .scene] [ING.STAT_PKT.key 0 0, ING.EDIT_STS.key 0 0])) ∧
    (∀ (ring : BitVec 16) (p : Pkt) (e : EditSet), s.front ring.toNat = some p → s.checkPkt ring.toNat none p = none → p.type = 2 → p.ver = 2 → s.rdB ING.RING_CFG.EDIT_OK 0 ring.toNat = true → 0 < sdiff32 p.tile s.editRef → s.scene.edit = some e → e.id = p.tile → s.scene.closed.length < 4 → gives (.tstEditClose ring) s (fun t =>
      t.scene.edit = none ∧
      t.scene.closed = s.scene.closed ++ [e.close ring.toNat p] ∧
      t.rdB ING.EDIT_STS.ASSEMBLING = false ∧
      t.rd ING.EDIT_STS.PENDING = s.scene.closed.length + 1 ∧
      t.rd ING.STAT_PKT = min 0xFFFFFFFF (s.rd ING.STAT_PKT + 1) ∧
      (t.ringQ ring.toNat).pkts = (s.ringQ ring.toNat).pkts.tail ∧
      t.scene.planes = s.scene.planes ∧
      s.within t [.regs, .scene] [ING.STAT_PKT.key 0 0, ING.EDIT_STS.key 0 0])) ∧
    (∀ (ring : BitVec 16) (p : Pkt), s.front ring.toNat = some p → s.checkPkt ring.toNat none p = none → p.type = 2 → p.ver = 2 → s.rdB ING.RING_CFG.EDIT_OK 0 ring.toNat = true → 0 < sdiff32 p.tile s.editRef → s.scene.edit.map (·.id) = some p.tile → 4 ≤ s.scene.closed.length → gives (.tstEditClose ring) s (fun t =>
      t.rd ING.REJ_LAST.CODE = 0x19 ∧
      t.rd ING.EDIT_STS.ERR = 0x19 ∧
      t.scene.closed = s.scene.closed ∧
      t.scene.edit = s.scene.edit ∧
      (t.ringQ ring.toNat).pkts = (s.ringQ ring.toNat).pkts.tail ∧
      s.within t [.regs, .log, .scene, .sram] ([ING.STAT_REJ.key 0 0, ING.REJ_LAST.key 0 0, ING.REJ_TILE.key 0 0, RIM.TST_ERR.key 0 0, SEC.TAG_FAIL.key 0 0, SEC.TAG_LAST.SLOT.key 0 0, ING.STAT_PKT.key 0 0, ING.EDIT_STS.key 0 0] ++ logKeys ING.PAGE))) ∧
    (∀ (ring : BitVec 16) (p : Pkt), s.front ring.toNat = some p → s.checkPkt ring.toNat none p = none → p.type = 1 → p.ver = 2 → s.rdB ING.RING_CFG.EDIT_OK 0 ring.toNat = false → gives (.tstEdit ring) s (fun t =>
      t.rd ING.REJ_LAST.CODE = 0x12 ∧
      t.scene.closed = s.scene.closed ∧
      t.scene.edit = s.scene.edit ∧
      (t.ringQ ring.toNat).pkts = (s.ringQ ring.toNat).pkts.tail ∧
      s.within t [.regs, .log, .scene, .sram] ([ING.STAT_REJ.key 0 0, ING.REJ_LAST.key 0 0, ING.REJ_TILE.key 0 0, RIM.TST_ERR.key 0 0, SEC.TAG_FAIL.key 0 0, SEC.TAG_LAST.SLOT.key 0 0, ING.STAT_PKT.key 0 0, ING.EDIT_STS.key 0 0] ++ logKeys ING.PAGE))) ∧
    (∀ (ring : BitVec 16) (p : Pkt), s.front ring.toNat = some p → s.checkPkt ring.toNat none p = none → p.type = 2 → p.ver = 2 → s.rdB ING.RING_CFG.EDIT_OK 0 ring.toNat = false → gives (.tstEditClose ring) s (fun t =>
      t.rd ING.REJ_LAST.CODE = 0x12 ∧
      t.scene.closed = s.scene.closed ∧
      t.scene.edit = s.scene.edit ∧
      (t.ringQ ring.toNat).pkts = (s.ringQ ring.toNat).pkts.tail ∧
      s.within t [.regs, .log, .scene, .sram] ([ING.STAT_REJ.key 0 0, ING.REJ_LAST.key 0 0, ING.REJ_TILE.key 0 0, RIM.TST_ERR.key 0 0, SEC.TAG_FAIL.key 0 0, SEC.TAG_LAST.SLOT.key 0 0, ING.STAT_PKT.key 0 0, ING.EDIT_STS.key 0 0] ++ logKeys ING.PAGE)))

/-- The check of an edit set, the apply point and the epoch sweep: The first closed set not yet checked begins its
check. A set with no failing condition passes; a failing one leaves the queue, counts in STAT_REJ and shows code
0x14 with the lowest responsible record. At the start of line 8,640 the due sets apply in order: tables, epochs,
COMMIT_GEN, EDIT_LAST and EDIT_FRAME follow, event VBLANK. At its end the sweep has zeroed every entry not yet
visited whose PLANE or EPOCH does not match its owner. The points the spec leaves open in it follow the model's own
choices, log entries 19, 183. (R95, R98, R99, R101, R103, R195.) -/
def Obligations.EditSets : Prop :=
  ∀ s : State,
    (∀ (i : Nat), s.scene.closed.any (·.checking) = false → (s.scene.closed.findIdx? (fun e => !e.passed) = some i) → gives .editSetCheck s (fun t =>
      t.scene = { s.scene with closed := s.scene.closed.modify i (fun e => { e with checking := true }) } ∧
      s.within t [.scene] [])) ∧
    (∀ (e : EditSet), s.scene.closed = [e] → e.checking = true → e.failures s.tabs = [] → s.editLate e [] = false → gives .editSetCheckDone s (fun t =>
      t.scene.closed.map (fun x => (x.id, x.checking, x.passed)) = [(e.id, false, true)] ∧
      t.scene.planes = s.scene.planes ∧
      s.within t [.regs, .scene] [ING.EDIT_STS.key 0 0])) ∧
    (∀ (e : EditSet) (r : Nat), s.scene.closed = [e] → e.checking = true → (e.failures s.tabs).min? = some r → gives .editSetCheckDone s (fun t =>
      t.scene.closed = [] ∧
      t.scene.planes = s.scene.planes ∧
      t.rd ING.EDIT_STS.ERR = 0x14 ∧
      t.rd ING.EDIT_STS.ERR_REC = r % 65536 ∧
      t.rd ING.EDIT_STS.PENDING = 0 ∧
      t.rd ING.REJ_LAST.CODE = 0x14 ∧
      t.rd ING.REJ_TILE = e.id % 2 ^ 32 ∧
      t.rd ING.STAT_REJ = min 0xFFFFFFFF (s.rd ING.STAT_REJ + 1) ∧
      s.within t [.regs, .log, .scene, .sram] ([ING.EDIT_STS.key 0 0, ING.STAT_REJ.key 0 0, ING.REJ_LAST.key 0 0, ING.REJ_TILE.key 0 0, RIM.TST_ERR.key 0 0, SEC.TAG_FAIL.key 0 0, SEC.TAG_LAST.SLOT.key 0 0] ++ logKeys ING.PAGE))) ∧
    (∀ (e : EditSet), s.mode.raster = .weaver → s.clk.line = 8640 → s.scene.closed = [e] → e.passed = true → sdiff32 e.frame s.frameAfter ≤ 0 → gives .applyPoint s (fun t =>
      t.scene.closed = [] ∧
      t.scene.lastApply = some s.frameAfter ∧
      t.tabs = e.apply s.tabs ∧
      (∀ k, t.epochOf k = s.epochOf k + (if epochMoves (s.plane k) (t.plane k) then 1 else 0)) ∧
      t.rd ING.COMMIT_GEN = (s.rd ING.COMMIT_GEN + 1) % 2 ^ 32 ∧
      t.rd ING.EDIT_LAST = e.id % 2 ^ 32 ∧
      t.rd ING.EDIT_FRAME = s.frameAfter % 2 ^ 32 ∧
      t.rdB ING.EDIT_STS.SWEEP = true ∧
      t.flag SCN.PAGE 1 ∧
      s.keeps t [.regs, .eff, .panel, .log, .mem, .scene, .wv, .frs, .scan, .lan, .leaf, .freeCtr, .sram])) ∧
    (s.clk.line ≠ 8640 → idle .applyPoint s) ∧
    (∀ (n : Nat), s.scene.sweepEpoch = some n → gives .epochSweepDone s (fun t =>
      (∀ a, t.entryRaw a = (if n ≤ a ∧ a < 262144 then s.entry a else s.entryRaw a)) ∧
      t.scene.sweepEpoch = none ∧
      t.rdB ING.EDIT_STS.SWEEP = false ∧
      t.scene.planes = s.scene.planes ∧
      s.within t [.regs, .scene] [ING.EDIT_STS.key 0 0]))

/-- Staging, the ingest writer and the commits of TILE, RESTAMP and INVALIDATE: A passed update with room in staging
moves there: its ring entries are free, STAGE_FILL grows by its 64-byte units and a Coil update queues for a decode
lane. The ingest writer writes a raw expansion of the tile's size row by row into the inactive bank and no other
byte; an expansion of another size fails with 0x11 and leaves the tile, and so does a Plait slot with a block that
is not well formed, which FAIL_LAST shows as PLAIT. With its plane and epoch unchanged and its sequence newer, a
TILE update commits: the entry takes its stamp, sequence, age, source, plane and epoch, STATE Content, V, TV, T5 and
the other bank, and the tile's dirty bit is set. A RESTAMP of a tile with content takes stamp, sequence, age, source
and TV, V only if both were; an INVALIDATE takes sequence, source and STATE Withdrawn; both keep the bank. Each
advances the commit generation. A RESTAMP without content or of a changed plane fails with 0x18, another update of a
changed plane with 0x16. The points the spec leaves open in it follow the model's own choices, log entries 14, 21,
48, 49, 50, 185. (R71, R73, R80, R87, R93, R106, R118, R122, R129, R145, R91, R92.) -/
def Obligations.IngestAndCommits : Prop :=
  ∀ s : State,
    (∀ (ring : BitVec 16) (u : Update), s.upd ring.toNat = some u → u.phase = .passed → s.rd ING.STAGE_FILL.FILL + u.units ≤ 65536 → gives (.stageUpdate ring) s (fun t =>
      (t.upd ring.toNat).map (fun x => (x.phase, x.pkts)) = some (.staged, 0) ∧
      t.rd ING.STAGE_FILL.FILL = s.rd ING.STAGE_FILL.FILL + u.units ∧
      (t.ringQ ring.toNat).pkts = (s.ringQ ring.toNat).pkts.drop u.pkts ∧
      (t.scene.readyOrder = if u.enc = 0 then s.scene.readyOrder ++ [ring.toNat] else s.scene.readyOrder) ∧
      t.scene.fresh = s.scene.fresh ∧
      s.within t [.regs, .scene] [ING.STAGE_FILL.FILL.key 0 0])) ∧
    (∀ (ring : BitVec 16) (u : Update), s.upd ring.toNat = some u → 65536 < s.rd ING.STAGE_FILL.FILL + u.units → idle (.stageUpdate ring) s) ∧
    (∀ (ring : BitVec 16) (u : Update) (p : Plane), s.upd ring.toNat = some u → u.kind = .tile → u.phase = .staged → u.enc = 1 → u.fmt = p.format → fmtPlait p.format = false → u.payload.length = fmtTileBytes u.fmt → s.mem.sealed = false → s.updPlane u = some p → 64 * fmtBpp p.format ≤ p.pitch → (∀ d : Fin 2, s.rd WV.RSV_STS.IN_USE d + (s.tileCells u.plane p u.handle).length ≤ 768) → gives (.ingestWrite ring) s (fun t =>
      (t.upd ring.toNat).map (fun x => (x.phase, x.expansion)) = some (.written, u.payload) ∧
      (∀ r : Fin 64, t.hbmRd (planePix p (1 - b2n (s.entry u.handle).slot) (64 * (tileXY p u.handle).1) (64 * (tileXY p u.handle).2 + r.val)) (64 * fmtBpp p.format) = slice u.payload (64 * fmtBpp p.format * r.val) (64 * fmtBpp p.format)) ∧
      (∀ a, (∀ r, r < 64 → a < planePix p (1 - b2n (s.entry u.handle).slot) (64 * (tileXY p u.handle).1) (64 * (tileXY p u.handle).2 + r) ∨ planePix p (1 - b2n (s.entry u.handle).slot) (64 * (tileXY p u.handle).1) (64 * (tileXY p u.handle).2 + r) + 64 * fmtBpp p.format ≤ a) → tget memDefault t.ram.hbm a = tget memDefault s.ram.hbm a) ∧
      t.scene.fresh = s.scene.fresh ∧
      s.within t [.regs, .scene, .wv, .hbm] [WV.RSV_STS.IN_USE.key 0 0, WV.RSV_STS.IN_USE.key 1 0])) ∧
    (∀ (ring : BitVec 16) (u : Update), s.upd ring.toNat = some u → u.kind = .tile → u.phase = .staged → u.enc = 1 → u.payload.length ≠ fmtTileBytes u.fmt → s.mem.sealed = false → gives (.ingestWrite ring) s (fun t =>
      t.upd ring.toNat = none ∧
      t.rd ING.REJ_LAST.CODE = 0x11 ∧
      t.rd ING.STAGE_FILL.FILL = s.rd ING.STAGE_FILL.FILL - u.units ∧
      t.scene.fresh = s.scene.fresh ∧
      s.keeps t [.regs, .log, .scene, .wv, .sram])) ∧
    (∀ (ring : BitVec 16) (u : Update), s.upd ring.toNat = some u → u.kind = .tile → u.phase = .staged → u.enc = 1 → u.payload.length = fmtTileBytes u.fmt → fmtPlait u.fmt = true → plaitSlotOk u.fmt u.payload = false → s.mem.sealed = false → gives (.ingestWrite ring) s (fun t =>
      t.upd ring.toNat = none ∧
      t.rd COL.FAIL_LAST.WHY = 0x0D ∧
      t.rd COL.FAIL_RING.RING = ring.toNat ∧
      t.rd COL.FAIL_RING.BLOCK = plaitFirstBad u.fmt u.payload ∧
      t.rd ING.REJ_LAST.CODE = 0x11 ∧
      t.scene.fresh = s.scene.fresh ∧
      s.keeps t [.regs, .log, .scene, .wv, .sram])) ∧
    (∀ (r : Nat) (u : Update) (p : Plane), s.commits = some (r, u) → u.kind = .tile → (s.commitCheck u).toOption = some p → gives .tileCommit s (fun t =>
      t.entryRaw u.handle = ⟨u.stamp, u.seq, u.maxAge, .content, u.verified, u.timeOk && s.timeValid, !(s.entry u.handle).slot, u.t5, u.source, u.plane, u.epoch⟩ ∧
      t.scene.dirty = (s.setDirty u.handle).scene.dirty ∧
      t.rd ING.COMMIT_GEN = (s.rd ING.COMMIT_GEN + 1) % 2 ^ 32 ∧
      t.rd ING.STAT_COMMIT = min 0xFFFFFFFF (s.rd ING.STAT_COMMIT + 1) ∧
      t.upd r = none ∧
      (∀ k, k ≠ u.handle → t.entryRaw k = s.entryRaw k) ∧
      s.within t [.regs, .scene, .wv, .frs, .leaf] [ING.COMMIT_GEN.key 0 0, ING.STAT_COMMIT.key 0 0, ING.STAGE_FILL.FILL.key 0 0, WV.RSV_STS.IN_USE.key 0 0, WV.RSV_STS.IN_USE.key 1 0, FRS.BOUND.BE.key 0 0, FRS.NOW.T.key 0 0])) ∧
    (∀ (r : Nat) (u : Update) (p : Plane), s.commits = some (r, u) → u.kind = .restamp → (s.commitCheck u).toOption = some p → (s.entry u.handle).state = .content → gives .restampCommit s (fun t =>
      t.entryRaw u.handle = { s.entry u.handle with stamp := u.stamp, seq := u.seq, maxAge := u.maxAge, source := u.source, tv := u.timeOk && s.timeValid, v := (s.entry u.handle).v && u.verified } ∧
      t.scene.dirty = s.scene.dirty ∧
      t.rd ING.COMMIT_GEN = (s.rd ING.COMMIT_GEN + 1) % 2 ^ 32 ∧
      t.rd ING.STAT_COMMIT = min 0xFFFFFFFF (s.rd ING.STAT_COMMIT + 1) ∧
      t.upd r = none ∧
      (∀ k, k ≠ u.handle → t.entryRaw k = s.entryRaw k) ∧
      s.within t [.regs, .scene, .wv, .frs, .leaf] [ING.COMMIT_GEN.key 0 0, ING.STAT_COMMIT.key 0 0, ING.STAGE_FILL.FILL.key 0 0, WV.RSV_STS.IN_USE.key 0 0, WV.RSV_STS.IN_USE.key 1 0, FRS.BOUND.BE.key 0 0, FRS.NOW.T.key 0 0])) ∧
    (∀ (r : Nat) (u : Update) (p : Plane), s.commits = some (r, u) → u.kind = .invalidate → (s.commitCheck u).toOption = some p → gives .invalidateCommit s (fun t =>
      t.entryRaw u.handle = { s.entry u.handle with seq := u.seq, source := u.source, state := .withdrawn, plane := u.plane, epoch := u.epoch } ∧
      t.scene.dirty = s.scene.dirty ∧
      t.rd ING.COMMIT_GEN = (s.rd ING.COMMIT_GEN + 1) % 2 ^ 32 ∧
      t.rd ING.STAT_COMMIT = min 0xFFFFFFFF (s.rd ING.STAT_COMMIT + 1) ∧
      t.upd r = none ∧
      (∀ k, k ≠ u.handle → t.entryRaw k = s.entryRaw k) ∧
      s.within t [.regs, .scene, .wv, .frs, .leaf] [ING.COMMIT_GEN.key 0 0, ING.STAT_COMMIT.key 0 0, ING.STAGE_FILL.FILL.key 0 0, WV.RSV_STS.IN_USE.key 0 0, WV.RSV_STS.IN_USE.key 1 0, FRS.BOUND.BE.key 0 0, FRS.NOW.T.key 0 0])) ∧
    (∀ (r : Nat) (u : Update) (p : Plane), s.commits = some (r, u) → u.kind = .restamp → (s.commitCheck u).toOption = some p → (s.entry u.handle).state ≠ .content → gives .restampCommit s (fun t =>
      t.rd ING.REJ_LAST.CODE = 0x18 ∧
      t.scene.fresh = s.scene.fresh ∧
      t.upd r = none ∧
      t.rd ING.COMMIT_GEN = s.rd ING.COMMIT_GEN ∧
      s.keeps t [.regs, .log, .scene, .wv, .sram])) ∧
    (∀ (r : Nat) (u : Update), s.commits = some (r, u) → u.kind = .restamp → s.updPlane u = none → gives .restampCommit s (fun t =>
      t.rd ING.REJ_LAST.CODE = 0x18 ∧
      t.scene.fresh = s.scene.fresh ∧
      t.upd r = none ∧
      t.rd ING.COMMIT_GEN = s.rd ING.COMMIT_GEN ∧
      s.keeps t [.regs, .log, .scene, .wv, .sram])) ∧
    (∀ (r : Nat) (u : Update), s.commits = some (r, u) → u.kind = .tile → s.updPlane u = none → gives .tileCommit s (fun t =>
      t.rd ING.REJ_LAST.CODE = 0x16 ∧
      t.scene.fresh = s.scene.fresh ∧
      t.upd r = none ∧
      t.rd ING.COMMIT_GEN = s.rd ING.COMMIT_GEN ∧
      s.keeps t [.regs, .log, .scene, .wv, .sram]))

/-- Coil decode lanes, stream CLEAR and FLUSH, and the context base: The first ready update takes a lane: a stand-alone
update the free lane of R122 with no context loaded, an update of a resident stream the lane that holds it, and one
of another stream a free lane that loads the slot. A decode that succeeds leaves the expansion and advances the
context; one that fails shows its reason, stream, ring and block, leaves the context, rejects the update and keeps
the tile. CLEAR empties the context of the selected stream, in its lane or, while not resident, in its slot; FLUSH
writes a resident context back to its slot and releases it. Both are ignored and logged while the stream decodes.
CTX_BASE is written only while no lane is busy or holds a context, else the write is ignored and logged. The points
the spec leaves open in it follow the model's own choices, log entries 14, 48, 51. (R118, R119, R120, R121, R122,
R131, R130, R132.) -/
def Obligations.CoilLanes : Prop :=
  ∀ s : State,
    (∀ (r n : Nat) (rest : List Nat) (u : Update), s.scene.readyOrder = r :: rest → s.upd r = some u → u.phase = .staged → u.stream = 0 → s.laneFor u = some n → gives .coilDecodeStart s (fun t =>
      t.scene.readyOrder = rest.filter (· != r) ∧
      t.upd r = some { u with phase := .decoding } ∧
      t.decLane n = { s.decLane n with ring := some r, bad := none } ∧
      bit (t.rd COL.LANE_BUSY) n = true ∧
      (∀ k, k ≠ n → t.decLane k = s.decLane k) ∧
      s.within t [.regs, .scene, .coil] [COL.LANE_BUSY.key 0 0])) ∧
    (∀ (r n : Nat) (rest : List Nat) (u : Update) (c : CoilCtx), s.scene.readyOrder = r :: rest → s.upd r = some u → u.phase = .staged → u.stream ≠ 0 → s.laneFor u = some n → (s.laneOf u.stream = some n → (s.decLane n).ctx = some (u.stream, c)) → (s.laneOf u.stream = none → (s.decLane n).ctx = none ∧ (s.ctxLoad u.stream).toOption = some c) → gives .coilDecodeStart s (fun t =>
      t.scene.readyOrder = rest.filter (· != r) ∧
      t.upd r = some { u with phase := .decoding } ∧
      t.decLane n = ⟨some (u.stream, c), s.coil.useCtr + 1, some r, none⟩ ∧
      bit (t.rd COL.LANE_BUSY) n = true ∧
      (∀ k, k ≠ n → t.decLane k = s.decLane k) ∧
      s.within t [.regs, .scene, .coil] [COL.LANE_BUSY.key 0 0])) ∧
    (∀ (lane : Fin 32) (r : Nat) (u : Update) (out : List Byte) (c : CoilCtx), (s.decLane lane).ring = some r → s.upd r = some u → (s.decodeRun (s.decLane lane) u).toOption = some (out, c) → gives (.coilDecodeDone lane) s (fun t =>
      t.upd r = some { u with phase := .expanded, expansion := out, doneAt := s.clk.now } ∧
      (t.decLane lane = { s.decLane lane with ring := none, bad := none, ctx := if u.stream = 0 then (s.decLane lane).ctx else some (u.stream, c) }) ∧
      t.rd COL.STAT_OUT = min 0xFFFFFFFF (s.rd COL.STAT_OUT + out.length / 64) ∧
      t.rd COL.STAT_FAIL = s.rd COL.STAT_FAIL ∧
      t.scene.fresh = s.scene.fresh ∧
      s.within t [.regs, .scene, .coil] [COL.LANE_BUSY.key 0 0, COL.STAT_OUT.key 0 0])) ∧
    (∀ (lane : Fin 32) (r blk : Nat) (u : Update) (w : CoilWhy), (s.decLane lane).ring = some r → s.upd r = some u → failureOf (s.decodeRun (s.decLane lane) u) = some (w, blk) → gives (.coilDecodeDone lane) s (fun t =>
      t.upd r = none ∧
      (t.decLane lane).ctx = (s.decLane lane).ctx ∧
      (t.decLane lane).ring = none ∧
      t.rd COL.FAIL_LAST.WHY = w.code ∧
      t.rd COL.FAIL_LAST.STREAM = u.stream % 4096 ∧
      t.rd COL.FAIL_RING.RING = r % 65536 ∧
      t.rd COL.FAIL_RING.BLOCK = blk % 65536 ∧
      t.rd COL.STAT_FAIL = min 0xFFFFFFFF (s.rd COL.STAT_FAIL + 1) ∧
      (t.rd ING.REJ_LAST.CODE = if w = .short ∨ w = .plait then 0x11 else 0x10) ∧
      t.scene.fresh = s.scene.fresh ∧
      t.ram.hbm = s.ram.hbm ∧
      s.keeps t [.regs, .scene, .coil, .wv, .log, .sram])) ∧
    (∀ (path : Path) (n : Nat), s.takes path COL.PAGE 0x114 = true → s.streamDecodes (s.rd COL.STRM_SEL.STREAM 0 path.num) = false → s.rd COL.STRM_SEL.STREAM 0 path.num ≠ 0 → (s.laneOf (s.rd COL.STRM_SEL.STREAM 0 path.num)) = some n → gives (.streamClear path) s (fun t =>
      t.answered .ok ∧
      t.decLane n = { s.decLane n with ctx := some (s.rd COL.STRM_SEL.STREAM 0 path.num, CoilCtx.empty) } ∧
      s.within t [.bus, .coil, .regs] [COL.LANE_BUSY.key 0 0])) ∧
    (∀ (path : Path), s.takes path COL.PAGE 0x114 = true → s.streamDecodes (s.rd COL.STRM_SEL.STREAM 0 path.num) = false → s.rd COL.STRM_SEL.STREAM 0 path.num ≠ 0 → (s.laneOf (s.rd COL.STRM_SEL.STREAM 0 path.num)) = none → gives (.streamClear path) s (fun t =>
      t.answered .ok ∧
      t.hbmRd (s.ctxSlot (s.rd COL.STRM_SEL.STREAM 0 path.num) + 262144) 12 = zeros 12 ∧
      (∀ a, a < s.ctxSlot (s.rd COL.STRM_SEL.STREAM 0 path.num) + 262144 ∨ s.ctxSlot (s.rd COL.STRM_SEL.STREAM 0 path.num) + 262156 ≤ a → tget memDefault t.ram.hbm a = tget memDefault s.ram.hbm a) ∧
      s.within t [.bus, .hbm] [])) ∧
    (∀ (path : Path) (n : Nat) (c : CoilCtx), s.takes path COL.PAGE 0x114 = true → s.streamDecodes (s.rd COL.STRM_SEL.STREAM 0 path.num) = false → s.rd COL.STRM_SEL.STREAM 0 path.num ≠ 0 → (s.laneOf (s.rd COL.STRM_SEL.STREAM 0 path.num)) = some n → (s.decLane n).ctx = some (s.rd COL.STRM_SEL.STREAM 0 path.num, c) → gives (.streamFlush path) s (fun t =>
      t.answered .ok ∧
      t.decLane n = { s.decLane n with ctx := none } ∧
      t.hbmRd (s.ctxSlot (s.rd COL.STRM_SEL.STREAM 0 path.num) + 262144) 16 = leBytes 4 c.pos ++ leBytes 4 c.hist.length ++ leBytes 4 (b2n c.tabs.isSome) ++ zeros 4 ∧
      s.within t [.bus, .coil, .regs, .hbm] [COL.LANE_BUSY.key 0 0])) ∧
    (∀ (path : Path), s.takes path COL.PAGE 0x114 = true → s.streamDecodes (s.rd COL.STRM_SEL.STREAM 0 path.num) = true → gives (.streamClear path) s (fun t =>
      t.answered .ignored ∧
      s.logged t SYS.PAGE 0x28 (fun a b => a = COL.PAGE * 4096 + 0x114 + path.num * 2 ^ 24 ∧ b = 1) ∧
      s.within t [.regs, .bus, .log, .sram] (logKeys SYS.PAGE))) ∧
    (∀ (path : Path), s.takes path COL.PAGE 0x114 = true → s.streamDecodes (s.rd COL.STRM_SEL.STREAM 0 path.num) = true → gives (.streamFlush path) s (fun t =>
      t.answered .ignored ∧
      s.logged t SYS.PAGE 0x28 (fun a b => a = COL.PAGE * 4096 + 0x114 + path.num * 2 ^ 24 ∧ b = 2) ∧
      s.within t [.regs, .bus, .log, .sram] (logKeys SYS.PAGE))) ∧
    (∀ (path : Path) (hi : Bool) (v : BitVec 32), s.takes path COL.PAGE (0x100 + 4 * b2n hi) = true → (∀ k : Fin 32, (s.decLane k).ring = none ∧ (s.decLane k).ctx = none) → gives (.ctxBaseWrite path hi v) s (fun t =>
      t.answered .ok ∧
      (t.reg (regKey 0 COL.PAGE (0x100 + 4 * b2n hi)) = v &&& (if hi then 0x1F else 0xFFFFF000)) ∧
      s.within t [.regs, .bus] [regKey 0 COL.PAGE (0x100 + 4 * b2n hi)])) ∧
    (∀ (path : Path) (hi : Bool) (v : BitVec 32) (k : Fin 32), s.takes path COL.PAGE (0x100 + 4 * b2n hi) = true → ((s.decLane k).ctx.isSome = true ∨ (s.decLane k).ring.isSome = true) → gives (.ctxBaseWrite path hi v) s (fun t =>
      t.answered .ignored ∧
      s.logged t SYS.PAGE 0x28 (fun a b => a = COL.PAGE * 4096 + 0x100 + 4 * b2n hi + path.num * 2 ^ 24 ∧ b = v.toNat) ∧
      s.within t [.regs, .bus, .log, .sram] (logKeys SYS.PAGE)))

/-- Encode jobs: GO on an idle encode lane starts a job over its registers, BUSY alone set and ENC_OUT 0; on a busy lane
it is ignored and logged. A job whose stream fits the capacity ends with DONE, the stream at ENC_DST and its length
in ENC_OUT, nothing else of HBM written; one that would pass it ends with ERR_CAP and code 0x1A and writes nothing
beyond ENC_DST + ENC_CAP; an uncorrectable source, or one that reaches beyond the memory, ends with ERR_MEM. A job
waits while the memory is in self-refresh. The points the spec leaves open in it follow the model's own choices, log
entries 1, 17, 74. (R124, R125, R130, R131, R132.) -/
def Obligations.EncodeJobs : Prop :=
  ∀ s : State,
    (∀ (path : Path) (v : BitVec 32), s.takes path COL.PAGE 0x14C = true → s.rdB COL.ENC_STS.BUSY 0 (s.rd COL.ENC_SEL.LANE 0 path.num) = false → s.hotThrottle = false → s.mode.sec ≠ .quarantined → gives (.encodeStart path v) s (fun t =>
      t.answered .ok ∧
      t.reg (COL.ENC_STS.key 0 (s.rd COL.ENC_SEL.LANE 0 path.num)) = 1 ∧
      t.rd COL.ENC_OUT.BYTES 0 (s.rd COL.ENC_SEL.LANE 0 path.num) = 0 ∧
      t.rd COL.ENC_CTL.EFFORT 0 (s.rd COL.ENC_SEL.LANE 0 path.num) = v.toNat % 4 ∧
      tget (fun _ => none) t.coil.enc (s.rd COL.ENC_SEL.LANE 0 path.num) = some (t.encJob (s.rd COL.ENC_SEL.LANE 0 path.num)) ∧
      s.within t [.regs, .bus, .coil] [COL.ENC_STS.key 0 ((s.rd COL.ENC_SEL.LANE 0 path.num)), COL.ENC_OUT.key 0 ((s.rd COL.ENC_SEL.LANE 0 path.num)), COL.ENC_CTL.key 0 ((s.rd COL.ENC_SEL.LANE 0 path.num))])) ∧
    (∀ (path : Path) (v : BitVec 32), s.takes path COL.PAGE 0x14C = true → s.rdB COL.ENC_STS.BUSY 0 (s.rd COL.ENC_SEL.LANE 0 path.num) = true → gives (.encodeStart path v) s (fun t =>
      t.answered .ignored ∧
      s.logged t SYS.PAGE 0x28 (fun a b => a = COL.PAGE * 4096 + 0x14C + path.num * 2 ^ 24 ∧ b = setBits v.toNat 31 31 1) ∧
      s.within t [.regs, .bus, .log, .sram] (logKeys SYS.PAGE))) ∧
    (∀ (lane : Fin 4) (j : EncJob), (tget (fun _ => none) s.coil.enc lane = some j) → s.mem.sealed = false → j.src + j.len ≤ hbmSize → s.firstBad j.src j.len = none → (encStream j (s.hbmRd j.src j.len)).length ≤ j.cap → j.dst + j.cap ≤ hbmSize → gives (.encodeDone lane) s (fun t =>
      t.reg (COL.ENC_STS.key 0 lane) = 2 ∧
      t.rd COL.ENC_OUT.BYTES 0 lane = (encStream j (s.hbmRd j.src j.len)).length % 2 ^ 28 ∧
      t.hbmRd j.dst (encStream j (s.hbmRd j.src j.len)).length = encStream j (s.hbmRd j.src j.len) ∧
      (∀ a, a < j.dst ∨ j.dst + (encStream j (s.hbmRd j.src j.len)).length ≤ a → tget memDefault t.ram.hbm a = tget memDefault s.ram.hbm a) ∧
      tget (fun _ => none) t.coil.enc lane = none ∧
      s.within t [.regs, .coil, .hbm] [COL.ENC_STS.key 0 lane, COL.ENC_OUT.key 0 lane])) ∧
    (∀ (lane : Fin 4) (j : EncJob), (tget (fun _ => none) s.coil.enc lane = some j) → s.mem.sealed = false → j.src + j.len ≤ hbmSize → s.firstBad j.src j.len = none → j.cap < (encStream j (s.hbmRd j.src j.len)).length → j.dst + j.cap ≤ hbmSize → gives (.encodeDone lane) s (fun t =>
      t.reg (COL.ENC_STS.key 0 lane) = 4 ∧
      (∀ a, a < j.dst ∨ j.dst + j.cap ≤ a → tget memDefault t.ram.hbm a = tget memDefault s.ram.hbm a) ∧
      s.logged t COL.PAGE 0x1A (fun a _ => a = 4) ∧
      tget (fun _ => none) t.coil.enc lane = none ∧
      s.within t [.regs, .coil, .hbm, .log, .freeCtr, .sram] ([COL.ENC_STS.key 0 lane, COL.ENC_OUT.key 0 lane] ++ logKeys COL.PAGE))) ∧
    (∀ (lane : Fin 4) (j : EncJob) (k : Nat), (tget (fun _ => none) s.coil.enc lane = some j) → s.mem.sealed = false → s.firstBad j.src j.len = some k → gives (.encodeDone lane) s (fun t =>
      t.reg (COL.ENC_STS.key 0 lane) = 8 ∧
      t.ram.hbm = s.ram.hbm ∧
      tget (fun _ => none) t.coil.enc lane = none ∧
      s.keeps t [.regs, .coil, .log, .mem, .scene, .frs, .hbm, .sram])) ∧
    (∀ (lane : Fin 4) (j : EncJob), (tget (fun _ => none) s.coil.enc lane = some j) → s.mem.sealed = false → hbmSize < j.src + j.len → gives (.encodeDone lane) s (fun t =>
      t.reg (COL.ENC_STS.key 0 lane) = 8 ∧
      t.ram.hbm = s.ram.hbm ∧
      tget (fun _ => none) t.coil.enc lane = none ∧
      s.keeps t [.regs, .coil, .log, .mem, .scene, .frs, .sram])) ∧
    (∀ (lane : Fin 4), s.mem.sealed = true → idle (.encodeDone lane) s)

/-- What an encode lane emits decodes to its source: For every job and every source of 1 to 2^27 - 1 bytes with a block
size of 2^10 to 2^16, the stream of the lane, whatever choice it makes, is a stand-alone Coil stream that decodes to
exactly the source, and it is no longer than ENC_LEN + 6 x ceil(ENC_LEN / 2^BLK_LOG2) bytes; its blocks give at most
2^BLK_LOG2 bytes each, no body is longer than what it gives, and their kinds are those of EFFORT. (R108, R111, R112,
R124.) -/
def Obligations.EncodeDecodes : Prop :=
  ∀ (j : EncJob) (src : List Byte), 10 ≤ j.log → j.log ≤ 16 → 1 ≤ src.length → src.length < 2 ^ 27 →
    (encStream j src).length ≤ coilBound j.log src.length ∧
    encBlocksOk j.effort j.log ((encStream j src).length + 1) (encStream j src) = true ∧
    (coilDecode src.length false CoilCtx.empty (encStream j src)).toOption.map (fun r => r.1) = some src

/-- Weave map swap and check, curve tables, output settings and the probe: SWAP with none pending takes the image
address, sets SWAP and clears ERR; with one pending it is ignored with code 0x25. A good image waits for the apply
point and SWAP stays; a bad one clears SWAP, sets ERR, is logged with code 0x24 and leaves the map in force.
LUT_DATA writes the selected entry of the shadow table and reads the table SHADOW names, and AUTO moves INDEX to the
next entry; beyond the table a write is IGNORED with code 0x28 and a read returns 0. LUT SWAP waits for the apply
point and a second one is ignored with 0x25. OUT_CTL takes DEPTH in Sill only; a change elsewhere takes the rest,
answers IGNORED and logs 0x27. ARM arms the one PROBE_SEL of every path. The points the spec leaves open in it
follow the model's own choices, log entries 78, 80, 82, 189, 193. (R135, R136, R158, R159, R160.) -/
def Obligations.WeaverSettings : Prop :=
  ∀ s : State,
    (∀ (path : Path) (half : Fin 2), s.takes path (WV.PAGE + half.val) 0x104 = true → s.rdB WV.MAP_CTL.SWAP half = false → gives (.mapSwap path half) s (fun t =>
      t.answered .ok ∧
      t.rdB WV.MAP_CTL.SWAP half = true ∧
      t.rdB WV.MAP_CTL.ERR half = false ∧
      t.rd WV.MAP_CTL.NSTK half = s.rd WV.MAP_CTL.NSTK half ∧
      t.wv = { s.wv with mapBusy := s.wv.mapBusy.set half true, mapAddr := s.wv.mapAddr.set half (s.addr37 WV.MAP_ADDR_LO WV.MAP_ADDR_HI half) } ∧
      s.within t [.regs, .bus, .wv] [WV.MAP_CTL.key half 0])) ∧
    (∀ (path : Path) (half : Fin 2), s.takes path (WV.PAGE + half.val) 0x104 = true → s.rdB WV.MAP_CTL.SWAP half = true → gives (.mapSwap path half) s (fun t =>
      t.answered .ignored ∧
      s.logged t (WV.PAGE + half.val) 0x25 (fun a b => a = s.rd WV.MAP_CTL half ∧ b = 0) ∧
      s.within t [.regs, .bus, .log, .sram] (logKeys (WV.PAGE+half.val)))) ∧
    (∀ (half : Fin 2) (m : WeaveMap), s.wv.mapBusy[half] = true → s.mem.sealed = false → s.wv.mapAddr[half] + 8506 ≤ hbmSize → s.firstBad s.wv.mapAddr[half] 8506 = none → parseMap (s.hbmRd s.wv.mapAddr[half] 8506) = some m → gives (.mapCheckDone half) s (fun t =>
      t.wv = { s.wv with mapBusy := s.wv.mapBusy.set half false, mapNext := s.wv.mapNext.set half (some m) } ∧
      s.within t [.wv] [])) ∧
    (∀ (half : Fin 2), s.wv.mapBusy[half] = true → s.mem.sealed = false → s.wv.mapAddr[half] + 8506 ≤ hbmSize → s.firstBad s.wv.mapAddr[half] 8506 = none → parseMap (s.hbmRd s.wv.mapAddr[half] 8506) = none → gives (.mapCheckDone half) s (fun t =>
      t.rdB WV.MAP_CTL.SWAP half = false ∧
      t.rdB WV.MAP_CTL.ERR half = true ∧
      t.wv = { s.wv with mapBusy := s.wv.mapBusy.set half false } ∧
      s.logged t (WV.PAGE + half.val) 0x24 (fun a _ => a = t.rd WV.MAP_CTL half) ∧
      s.within t [.regs, .log, .wv, .sram] ([WV.MAP_CTL.key half 0, RIM.LOAD_ERR.key 0 0] ++ logKeys (WV.PAGE+half.val)))) ∧
    (∀ (half : Fin 2), s.wv.mapBusy[half] = true → s.mem.sealed = false → (hbmSize < s.wv.mapAddr[half] + 8506 ∨ s.firstBad s.wv.mapAddr[half] 8506 ≠ none) → gives (.mapCheckDone half) s (fun t =>
      t.rdB WV.MAP_CTL.SWAP half = false ∧
      t.rdB WV.MAP_CTL.ERR half = true ∧
      t.wv.mapNext = s.wv.mapNext ∧
      t.wv.map = s.wv.map ∧
      t.rd RIM.LOAD_ERR = min (2 ^ 32 - 1) (s.rd RIM.LOAD_ERR + 1) ∧
      s.keeps t [.regs, .log, .mem, .scene, .wv, .frs, .hbm, .sram])) ∧
    (∀ (half : Fin 2), (s.wv.mapBusy[half] = false ∨ s.mem.sealed = true) → idle (.mapCheckDone half) s) ∧
    (∀ (path : Path) (half : Fin 2) (v : BitVec 32), s.takes path (WV.PAGE + half.val) 0x138 = true → s.rd WV.LUT_SEL.INDEX half path.num ≤ curveLast (s.rd WV.LUT_SEL.TABLE half path.num) → gives (.lutDataWrite path half v) s (fun t =>
      t.answered .ok ∧
      t.wv = { s.wv with shadow := s.wv.shadow.set half (tset curveDefault s.wv.shadow[half] (2048 * (s.rd WV.LUT_SEL.TABLE half path.num) + s.rd WV.LUT_SEL.INDEX half path.num) (BitVec.ofNat 16 v.toNat)) } ∧
      (t.rd WV.LUT_SEL.INDEX half path.num = if s.rdB WV.LUT_SEL.AUTO half path.num then (if curveLast (s.rd WV.LUT_SEL.TABLE half path.num) ≤ s.rd WV.LUT_SEL.INDEX half path.num then 0 else s.rd WV.LUT_SEL.INDEX half path.num + 1) else s.rd WV.LUT_SEL.INDEX half path.num) ∧
      t.rd WV.LUT_SEL.TABLE half path.num = s.rd WV.LUT_SEL.TABLE half path.num ∧
      s.within t [.regs, .bus, .wv] [WV.LUT_SEL.AUTO.key half (path.num)])) ∧
    (∀ (path : Path) (half : Fin 2) (v : BitVec 32), s.takes path (WV.PAGE + half.val) 0x138 = true → curveLast (s.rd WV.LUT_SEL.TABLE half path.num) < s.rd WV.LUT_SEL.INDEX half path.num → gives (.lutDataWrite path half v) s (fun t =>
      t.answered .ignored ∧
      t.wv = s.wv ∧
      s.logged t SYS.PAGE 0x28 (fun a b => a = (WV.PAGE + half.val) * 4096 + 0x138 + path.num * 2 ^ 24 ∧ b = v.toNat) ∧
      s.within t [.regs, .bus, .log, .sram] ([WV.LUT_SEL.AUTO.key half (path.num)] ++ logKeys SYS.PAGE))) ∧
    (∀ (path : Path) (half : Fin 2), s.shows path = true → gives (.lutDataRead path half) s (fun t =>
      t.answered .ok ∧
      (t.bus.last.data.toNat = if curveLast (s.rd WV.LUT_SEL.TABLE half path.num) < s.rd WV.LUT_SEL.INDEX half path.num then 0 else (tget curveDefault (if s.rdB WV.LUT_SEL.SHADOW half path.num then s.wv.shadow[half] else s.wv.curves[half]) (2048 * (s.rd WV.LUT_SEL.TABLE half path.num) + s.rd WV.LUT_SEL.INDEX half path.num)).toNat) ∧
      (t.rd WV.LUT_SEL.INDEX half path.num = if s.rdB WV.LUT_SEL.AUTO half path.num then (if curveLast (s.rd WV.LUT_SEL.TABLE half path.num) ≤ s.rd WV.LUT_SEL.INDEX half path.num then 0 else s.rd WV.LUT_SEL.INDEX half path.num + 1) else s.rd WV.LUT_SEL.INDEX half path.num) ∧
      s.within t [.regs, .bus] [WV.LUT_SEL.AUTO.key half (path.num)])) ∧
    (∀ (path : Path) (half : Fin 2), s.takes path (WV.PAGE + half.val) 0x13C = true → s.rdB WV.LUT_CTL.PENDING half = false → gives (.lutSwap path half) s (fun t =>
      t.answered .ok ∧
      t.rdB WV.LUT_CTL.PENDING half = true ∧
      s.within t [.regs, .bus] [WV.LUT_CTL.key half 0])) ∧
    (∀ (path : Path) (half : Fin 2), s.takes path (WV.PAGE + half.val) 0x13C = true → s.rdB WV.LUT_CTL.PENDING half = true → gives (.lutSwap path half) s (fun t =>
      t.answered .ignored ∧
      s.logged t (WV.PAGE + half.val) 0x25 (fun a b => a = s.rd WV.LUT_CTL half ∧ b = 0) ∧
      s.within t [.regs, .bus, .log, .sram] (logKeys (WV.PAGE+half.val)))) ∧
    (∀ (path : Path) (half : Fin 2) (v : BitVec 32), s.takes path (WV.PAGE + half.val) 0x120 = true → s.mode.power = .sill → s.rd WV.OUT_CTL half < 8 → gives (.outCtlWrite path half v) s (fun t =>
      t.answered .ok ∧
      t.rd WV.OUT_CTL half = v.toNat % 8 ∧
      s.within t [.regs, .bus] [WV.OUT_CTL.key half 0])) ∧
    (∀ (path : Path) (half : Fin 2) (v : BitVec 32), s.takes path (WV.PAGE + half.val) 0x120 = true → s.mode.power ≠ .sill → bits v.toNat 0 0 ≠ s.rd WV.OUT_CTL.DEPTH half → gives (.outCtlWrite path half v) s (fun t =>
      t.answered .ignored ∧
      t.rd WV.OUT_CTL.DEPTH half = s.rd WV.OUT_CTL.DEPTH half ∧
      t.rd WV.OUT_CTL.DITHER half = bits v.toNat 1 1 ∧
      t.rd WV.OUT_CTL.UNI half = bits v.toNat 2 2 ∧
      s.logged t (WV.PAGE + half.val) 0x27 (fun a b => a = t.rd WV.OUT_CTL half ∧ b = v.toNat) ∧
      s.within t [.regs, .bus, .log, .sram] ([WV.OUT_CTL.key half 0] ++ logKeys (WV.PAGE+half.val)))) ∧
    (∀ (path : Path) (half : Fin 2) (v : BitVec 32), s.takes path (WV.PAGE + half.val) 0x160 = true → gives (.probeArm path half v) s (fun t =>
      t.answered .ok ∧
      t.rdB WV.PROBE_SEL.ARM half = true ∧
      t.rd WV.PROBE_SEL.X half = bits v.toNat 14 0 ∧
      t.rd WV.PROBE_SEL.Y half = bits v.toNat 28 15 ∧
      t.rd WV.PROBE_SEL.C half = bits v.toNat 30 29 ∧
      s.within t [.regs, .bus, .wv] [WV.PROBE_SEL.key half 0]))

/-- The band read and the prefill of the band cache: With the verdict sample of the line to be read taken at most 8
weave cycles before, the band read computes the codes of all 46,080 subpixels of the line from the state as it
stands (with no uncorrectable band-cache error among them), keeps them with the frame, the line and the sample's
generations, and counts the corrected errors. It falls 8 weave cycles after the sample: the clock runs on to it, and
the row 16 lines before is written back first. With no line to read, or no sample for it, it does nothing. While the
Weaver of a die reads cells, prefill of the band after the one being read leaves every cell of its slots resident or
wanted, drops the die's cells that lie in neither window and touches no cell of the other die. A wanted cell of a
packed plane with good memory becomes resident with the 16 rows of the active bank as cache words; a Plait cell
takes its decoded words and is a Fault cell when one of its blocks is not well formed; a cell with an uncorrectable
burst becomes a Fault cell. The node and residue rows of the band are fetched first. The points the spec leaves open
in it follow the model's own choices, log entries 80, 81, 83, 114, 187, 189, 216. (R94, R133, R146, R158, R159,
R141, R142, R145, R193, R281, R491.) -/
def Obligations.BandCache : Prop :=
  ∀ s : State,
    (∀ (half : Fin 2) (corrected : BitVec 16) (l f : Nat), s.nextLine = some (l, f) → s.frs.sample[half].line = l → s.frs.sample[half].frame = f → s.clk.now ≤ s.frs.sample[half].at_ + 8 → gives (.bandRead half corrected []) s (fun t =>
      t.wv.codes[half] = ⟨f, l, s.frs.sample[half].gen, s.frs.sample[half].wg, ((s.beforeRead half l []).view.lineOf ((s.beforeRead half l []).readCtx half l f s.frs.sample[half])).map (·.code)⟩ ∧
      t.rd WV.STAT_ECC_COR half = min 0xFFFFFFFF (s.rd WV.STAT_ECC_COR half + corrected.toNat) ∧
      t.scene.planes = s.scene.planes ∧
      s.keeps t [.regs, .eff, .clk, .panel, .log, .mem, .scene, .wv, .frs, .scan, .weft, .tim, .leaf, .hbm, .sram])) ∧
    (∀ (half : Fin 2) (corrected : BitVec 16) (bad : List (BitVec 32)), s.nextLine = none → idle (.bandRead half corrected bad) s) ∧
    (∀ (half : Fin 2) (corrected : BitVec 16) (bad : List (BitVec 32)), (s.frs.sample[half].at_ + 8 < s.clk.now ∨ s.nextLine ≠ some (s.frs.sample[half].line, s.frs.sample[half].frame)) → idle (.bandRead half corrected bad) s) ∧
    (∀ (half : Fin 2), s.cacheRuns = true → s.mem.sealed = false → s.prefillBand < 540 → gives (.prefillIssue half) s (fun t =>
      (∀ x ∈ t.bandCells half s.prefillBand, (tget (fun _ => Cell.absent) t.wv.cells x).resident = true ∨ x ∈ t.wv.wanted) ∧
      (∀ k, cellDie k ≠ half.val → tget (fun _ => Cell.absent) t.wv.cells k = tget (fun _ => Cell.absent) s.wv.cells k) ∧
      (∀ k, cellDie k = half.val → tget (fun _ => Cell.absent) t.wv.cells k = if k ∈ t.bandCells half s.prefillBand ∨ (s.prefillBand ≠ 0 ∧ k ∈ t.bandCells half (s.prefillBand - 1)) then tget (fun _ => Cell.absent) s.wv.cells k else Cell.absent) ∧
      t.wv.codes = s.wv.codes ∧
      (∃ r ∈ t.wv.rows[half], r.band = s.prefillBand ∧ r.frame = s.prefillFrame s.prefillBand) ∧
      s.keeps t [.regs, .eff, .panel, .log, .mem, .scene, .wv, .frs, .hbm, .sram])) ∧
    (∀ (half : Fin 2), (s.mode.raster = .off ∨ s.mem.sealed = true) → idle (.prefillIssue half) s) ∧
    (∀ (k : BitVec 32) (p : Plane), k.toNat ∈ s.wv.wanted → s.plane (cellPlane k.toNat).1 = some p → fmtPlait p.format = false → s.ram.bad = [] → gives (.prefillCellArrive k) s (fun t =>
      tget (fun _ => Cell.absent) t.wv.cells k.toNat = ⟨true, packedWords p.format ((List.range 16).flatMap (fun r => s.hbmRd (planePix p (b2n (s.entry (p.tileBase + (cellPlane k.toNat).2.1 / 4 * p.wt + (cellPlane k.toNat).2.2)).slot) (64 * (cellPlane k.toNat).2.2) (16 * (cellPlane k.toNat).2.1 + r)) (64 * fmtBpp p.format))), false⟩ ∧
      t.wv.wanted = s.wv.wanted.erase k.toNat ∧
      s.within t [.wv] [])) ∧
    (∀ (k : BitVec 32) (p : Plane), k.toNat ∈ s.wv.wanted → s.plane (cellPlane k.toNat).1 = some p → s.badBursts (s.cellRanges p (b2n (s.entry (p.tileBase + (cellPlane k.toNat).2.1 / 4 * p.wt + (cellPlane k.toNat).2.2)).slot) (cellPlane k.toNat).2.1 (cellPlane k.toNat).2.2) ≠ [] → gives (.prefillCellArrive k) s (fun t =>
      (tget (fun _ => Cell.absent) t.wv.cells k.toNat).resident = true ∧
      (tget (fun _ => Cell.absent) t.wv.cells k.toNat).fault = true ∧
      t.wv.wanted = s.wv.wanted.erase k.toNat ∧
      s.keeps t [.regs, .log, .mem, .scene, .wv, .frs, .hbm, .sram])) ∧
    (∀ (k : BitVec 32) (p : Plane), k.toNat ∈ s.wv.wanted → s.plane (cellPlane k.toNat).1 = some p → fmtPlait p.format = true → s.ram.bad = [] → gives (.prefillCellArrive k) s (fun t =>
      (tget (fun _ => Cell.absent) t.wv.cells k.toNat).resident = true ∧
      (tget (fun _ => Cell.absent) t.wv.cells k.toNat).words = (plaitWords p.format (s.hbmRd (plaitSlot p (b2n (s.entry (p.tileBase + (cellPlane k.toNat).2.1 / 4 * p.wt + (cellPlane k.toNat).2.2)).slot) ((cellPlane k.toNat).2.1 / 4 * p.wt + (cellPlane k.toNat).2.2)) plaitSlotBytes) ((cellPlane k.toNat).2.1 % 4)).1 ∧
      ((tget (fun _ => Cell.absent) t.wv.cells k.toNat).fault = decide (∃ b ∈ groupBlocks (cellPlane k.toNat).2.1, plaitBlockOk p.format (leAt (s.hbmRd (plaitSlot p (b2n (s.entry (p.tileBase + (cellPlane k.toNat).2.1 / 4 * p.wt + (cellPlane k.toNat).2.2)).slot) ((cellPlane k.toNat).2.1 / 4 * p.wt + (cellPlane k.toNat).2.2)) plaitSlotBytes) b 1) (slice (s.hbmRd (plaitSlot p (b2n (s.entry (p.tileBase + (cellPlane k.toNat).2.1 / 4 * p.wt + (cellPlane k.toNat).2.2)).slot) ((cellPlane k.toNat).2.1 / 4 * p.wt + (cellPlane k.toNat).2.2)) plaitSlotBytes) (64 + 256 * b) 256) = false)) ∧
      s.keeps t [.regs, .log, .mem, .scene, .wv, .frs, .hbm, .sram])) ∧
    (∀ (k : BitVec 32), k.toNat ∉ s.wv.wanted → idle (.prefillCellArrive k) s)

/-- Ranges of the ray arithmetic: The stake of a ray lies below NSTK; the edge weight is at most 256; a filtered colour
never exceeds its alpha, which is at most 65,535; compositing keeps both accumulators within 16 bits; a code never
exceeds the panel depth; every pattern level and curve drive level fits 16 bits; and a band of the plan admits at
most 64 slots and 11,520 cells. The points the spec leaves open in it follow the model's own choices, log entry 23.
(R134, R138, R143, R149, R151, R154, R155, R170.) -/
def Obligations.WeaverArithmetic : Prop :=
  (∀ (m : WeaveMap) (x y c : Nat), 1 ≤ m.nstk → m.nstk ≤ 256 → m.stake x y c / 256 < m.nstk) ∧
  (∀ (l : Option (Nat × Louvre)) (k : Nat), edgeWeight l k ≤ 256) ∧
  (∀ (k : Int × Int × Int × Int) (a b c d : Nat × Nat),
    (filterTaps k a b c d).2 ≤ (filterTaps k a b c d).1 ∧ (filterTaps k a b c d).1 ≤ 65535) ∧
  (∀ (lin : Bool) (phi : Nat), phi < 64 →
    let w := filterWeights lin phi
    w.1 + w.2.1 + w.2.2.1 + w.2.2.2 = 1024 ∧ -128 ≤ w.1 ∧ w.1 ≤ 0 ∧ -128 ≤ w.2.2.2 ∧ w.2.2.2 ≤ 0 ∧ 0 ≤ w.2.2.1 ∧ w.2.2.1 ≤ 1024) ∧
  (∀ (e : Nat) (acc : Nat × Nat) (common : Bool) (pa pc : Nat), (composite e acc common pa pc).1 ≤ 65535 ∧
    (composite e acc common pa pc).2 ≤ 65535) ∧
  (∀ (d : Nat) (on : Bool) (pi x y c ub : Nat), d = 10 ∨ d = 12 → ditherCode d on pi x y c ub ≤ 2 ^ d - 1) ∧
  (∀ (ranked : List (Plane × Slot)) (prev : List Slot) (b : Nat),
    (planBand ranked prev b).1.length ≤ 64 ∧ ((prev.map (fun u => 3 * u.w)).sum ≤ 11520 →
      planCells prev (planBand ranked prev b).1 ≤ 11520))

/-- Verdict samples, the freshness fault and the three sweeps: A verdict sample for the line to be read stands at its
weave cycle, with a fast pass complete: it keeps the row of R164 of every tile the band's slots and refused planes
cover, with T, Be and the commit generation as they then stand, and shows Be and T. Once its cycle has passed no
sample is taken. At line 8,640 the counts of the frame show, CAUSE has every condition that held, and an enabled one
raises the freshness fault and zeroes CLEAN. At its end the step sweep has visited every entry it had not come to,
and withdrawn exactly the timed ones whose age across the step leaves 30 minutes; STAT_WITHDRAW counts them and code
0x33 has the count of the whole sweep. A visit of the wrap sweep withdraws its entry when its stamp lies over 30
minutes from T, and the sweep moves on; the fast pass does so for every entry. A visit of the verification sweep
clears V of its entry and changes nothing else of it; its end clears V of every entry it had not come to. A verdict
sample of the same weave cycle follows. The points the spec leaves open in it follow the model's own choices, log
entries 79, 188, 190, 191, 192. (R161, R162, R164, R168, R171, R172, R174, R179, R167, R169, R175.) -/
def Obligations.VerdictsAndSweeps : Prop :=
  ∀ s : State,
    (∀ (half : Fin 2) (l f : Nat), s.nextLine = some (l, f) → s.beforeSample half = true → gives (.verdictSample half) s (fun t =>
      (let b := s.atSample half; t.frs.sample[half] = { at_ := b.clk.now, line := l, frame := f, t := b.tUs, be := b.bE, valid := b.timeValid, gen := b.rd ING.COMMIT_GEN, wg := b.weft.wg.toNat, rows := (b.view.covered half (l / 16)).foldl (fun u x => tset (fun _ => 0) u x.1 (b.rowNow x.2 x.1)) [] }) ∧
      t.rd FRS.BOUND.BE = (s.atSample half).bE ∧
      t.rd FRS.NOW.T = (s.atSample half).tUs ∧
      t.frs.timeBad = (s.frs.timeBad || !(s.atSample half).timeValid) ∧
      (∀ g : Fin 2, g ≠ half → t.frs.sample[g] = s.frs.sample[g]) ∧
      s.within t [.regs, .clk, .log, .scene, .frs, .tim, .sram] ([FRS.BOUND.BE.key 0 0, FRS.NOW.T.key 0 0] ++ logKeys FRS.PAGE ++ s.runKeys))) ∧
    (∀ (half : Fin 2), (s.nextLine = none ∨ s.beforeSample half = false) → idle (.verdictSample half) s) ∧
    (s.mode.raster = .weaver → s.clk.line = 8640 → gives .applyPoint s (fun t =>
      t.rd FRS.CNT_CONTENT.COUNT = s.countOf 0 % 2 ^ 19 ∧
      t.rd FRS.CNT_NODATA.COUNT = s.countOf 1 % 2 ^ 19 ∧
      t.rd FRS.CNT_STALE.COUNT = s.countOf 2 % 2 ^ 19 ∧
      t.rd FRS.CNT_UNVER.COUNT = s.countOf 3 % 2 ^ 19 ∧
      t.rd FRS.CNT_FAULT.COUNT = s.countOf 4 % 2 ^ 19 ∧
      t.rd FRS.ALM_STS.CAUSE = s.almConds % 32 ∧
      ((s.almConds &&& (s.eff_ FRS.ALM_CTL % 32) ≠ 0 → t.rdB FRS.ALM_STS.ACTIVE = true ∧ t.rd FRS.ALM_STS.CLEAN = 0)) ∧
      ((s.almConds &&& (s.eff_ FRS.ALM_CTL % 32) = 0 → t.rd FRS.ALM_STS.CLEAN = min 255 (s.rd FRS.ALM_STS.CLEAN + 1))) ∧
      t.frs.worst = [] ∧
      s.keeps t [.regs, .eff, .panel, .log, .mem, .scene, .wv, .frs, .scan, .lan, .leaf, .freeCtr, .sram])) ∧
    (∀ (n : Nat) (d : Int) (told : BitVec 32), s.frs.stepSweep = some (n, d, told) → gives .stepSweepDone s (fun t =>
      (∀ k, t.entryRaw k = if n ≤ k ∧ k < 262144 ∧ stepBad d told.toNat (s.entryRaw k) = true then { s.entryRaw k with state := .withdrawn } else s.entryRaw k) ∧
      t.frs.stepSweep = none ∧
      t.rdB FRS.TIME_STS.STEP_SWEEP = false ∧
      t.rd FRS.STAT_WITHDRAW = min 0xFFFFFFFF (s.rd FRS.STAT_WITHDRAW + (s.handlesIn n 262144 (stepBad d told.toNat)).length) ∧
      s.logged t FRS.PAGE 0x33 (fun a b => a = t.rd FRS.TIME_STS ∧ b = s.frs.stepCount + (s.handlesIn n 262144 (stepBad d told.toNat)).length) ∧
      t.scene.planes = s.scene.planes ∧
      s.within t [.regs, .log, .scene, .frs, .sram] ([FRS.TIME_STS.key 0 0, FRS.STAT_WITHDRAW.key 0 0, FRS.BOUND.BE.key 0 0, FRS.NOW.T.key 0 0] ++ logKeys FRS.PAGE))) ∧
    (s.frs.stepSweep = none → idle .stepSweepDone s) ∧
    (s.frs.wrapOn = true → s.mode.power ≠ .discharge → s.frs.fastPass = false → s.frs.wrapPos < 262143 → s.scene.recent = [] → gives .wrapSweepVisit s (fun t =>
      (t.entryRaw s.frs.wrapPos = if wrapBad s.tUs (s.entryRaw s.frs.wrapPos) = true then { s.entryRaw s.frs.wrapPos with state := .withdrawn } else s.entryRaw s.frs.wrapPos) ∧
      (∀ k, k ≠ s.frs.wrapPos → t.entryRaw k = s.entryRaw k) ∧
      t.frs.wrapPos = s.frs.wrapPos + 1 ∧
      s.within t [.regs, .scene, .frs] [FRS.STAT_WITHDRAW.key 0 0, FRS.BOUND.BE.key 0 0, FRS.NOW.T.key 0 0])) ∧
    (s.frs.wrapOn = true → s.mode.power ≠ .discharge → s.frs.fastPass = false → s.frs.wrapPos = 262143 → gives .wrapSweepVisit s (fun t =>
      t.frs.wrapPos = 0 ∧
      t.frs.wrapHit = false ∧
      ((s.frs.wrapHit = true → s.logged t FRS.PAGE 0x34 (fun a _ => a = t.rd FRS.TIME_STS))) ∧
      s.within t [.regs, .log, .scene, .frs, .sram] ([FRS.STAT_WITHDRAW.key 0 0, FRS.BOUND.BE.key 0 0, FRS.NOW.T.key 0 0] ++ logKeys FRS.PAGE))) ∧
    ((s.frs.wrapOn = false ∨ s.mode.power = .discharge ∨ s.frs.fastPass = true) → idle .wrapSweepVisit s) ∧
    (s.frs.fastPass = true → gives .fastPassDone s (fun t =>
      (∀ k, t.entryRaw k = if k < 262144 ∧ wrapBad s.tUs (s.entryRaw k) = true then { s.entryRaw k with state := .withdrawn } else s.entryRaw k) ∧
      t.frs.fastPass = false ∧
      t.frs.wrapPos = 0 ∧
      t.frs.wrapHit = false ∧
      t.rd FRS.STAT_WITHDRAW = min 0xFFFFFFFF (s.rd FRS.STAT_WITHDRAW + (s.handlesIn 0 262144 (wrapBad s.tUs)).length) ∧
      ((s.handlesIn 0 262144 (wrapBad s.tUs) ≠ [] → s.logged t FRS.PAGE 0x34 (fun a _ => a = t.rd FRS.TIME_STS))) ∧
      s.within t [.regs, .log, .scene, .frs, .sram] ([FRS.STAT_WITHDRAW.key 0 0, FRS.BOUND.BE.key 0 0, FRS.NOW.T.key 0 0] ++ logKeys FRS.PAGE))) ∧
    (∀ (n : Nat), s.frs.verSweep = some n → n < 262144 → gives .verificationSweep s (fun t =>
      (∀ k, t.entryRaw k = if k = n then { s.entryRaw k with v := false } else s.entryRaw k) ∧
      t.frs.verSweep = some (n + 1) ∧
      s.within t [.regs, .scene, .frs] [FRS.BOUND.BE.key 0 0, FRS.NOW.T.key 0 0])) ∧
    (∀ (n : Nat), s.frs.verSweep = some n → gives .verificationSweepDone s (fun t =>
      (∀ k, t.entryRaw k = if n ≤ k ∧ k < 262144 then { s.entryRaw k with v := false } else s.entryRaw k) ∧
      t.frs.verSweep = none ∧
      t.rdB FRS.TIME_STS.VER_SWEEP = false ∧
      s.within t [.regs, .scene, .frs] [FRS.TIME_STS.key 0 0, FRS.BOUND.BE.key 0 0, FRS.NOW.T.key 0 0])) ∧
    (s.frs.verSweep = none → idle .verificationSweepDone s)

/-- What a Content verdict proves: A tile has the Content verdict exactly when its plane is not refused, it has content
with TV and V, time is valid for freshness with no step or verification sweep and no Intrusive attachment, its age
with the bound does not pass 1,000 x MAX_AGE us and its stamp is at most 30 minutes ahead. A refused tile is Fault;
without a refusal a tile of no data is No-data whatever else holds. A narrower bound never hides content that a
wider one shows.. (R163, R164.) -/
def Obligations.ContentVerdict : Prop :=
  ∀ (refused : Bool) (e : Entry) (now be : Nat) (valid step intr ver : Bool),
    (rowVerdict (verdictRow refused e now be valid step intr ver) = 0 ↔
      refused = false ∧ e.state = .content ∧ e.tv = true ∧ valid = true ∧ step = false ∧ e.v = true ∧ intr = false ∧
      ver = false ∧ ageOf now be e.stamp ≤ 1000 * (e.maxAge : Int) ∧ sgn 32 (e.stamp + 2 ^ 32 - (now + 2) % 2 ^ 32) ≤ 1800000000) ∧
    (refused = true → rowVerdict (verdictRow refused e now be valid step intr ver) = 4) ∧
    (refused = false → e.state = .noData → rowVerdict (verdictRow refused e now be valid step intr ver) = 1) ∧
    (∀ be', be ≤ be' → be' < 2 ^ 31 → 0 ≤ ageOf now be e.stamp → ageOf now be e.stamp + (be' - be : Nat) < 2 ^ 31 →
      rowVerdict (verdictRow refused e now be' valid step intr ver) = 0 →
      rowVerdict (verdictRow refused e now be valid step intr ver) = 0)

/-- The Rim calculator, line checks and the column drivers' reports: GO starts a job over the address, length and fold
the registers hold, with BUSY = 1 and DONE = ERR_MEM = 0; while a job runs it is ignored with code 0x28. At its end
CALC_RES holds rim() of the bytes under the fold, with DONE = 1, or after an uncorrectable error or an ADDR error
ERR_MEM = 1 with code 0x45. During self-refresh the job waits. A line packet leaves with its line check over header,
codes and padding, and the comparator keeps the check. Each report of one of the group's last 16 lines is compared:
that check proves the line; another check, or no report after 16 lines, counts in RET_MIS, shows in RET_LAST and
sets the group's flag of the frame, with code 0x40 or 0x41 once per frame and group. A report with a wrong check of
its own counts in REP_BAD and raises REPORT_BAD. The points the spec leaves open in it follow the model's own
choices, log entries 87, 112, 113, 198, 202, 207. (R176, R184, R185, R186, R179, R180, R181, R198, R199, R206,
R218.) -/
def Obligations.RimAndReports : Prop :=
  ∀ s : State,
    (∀ (path : Path), s.takes path RIM.PAGE 0x138 = true → s.rdB RIM.CALC_STS.BUSY = false → gives (.rimCalcStart path) s (fun t =>
      t.answered .ok ∧
      t.rim.calcJob = some ⟨s.addr37 RIM.CALC_ADDR_LO RIM.CALC_ADDR_HI, s.rd RIM.CALC_LEN, s.rd RIM.CALC_FOLD⟩ ∧
      s.fieldsTo t (RIM.CALC_STS.key 0 0) [(RIM.CALC_STS.BUSY, 1), (RIM.CALC_STS.DONE, 0), (RIM.CALC_STS.ERR_MEM, 0)] ∧
      s.within t [.regs, .bus, .rim] [RIM.CALC_STS.key 0 0])) ∧
    (∀ (path : Path), s.takes path RIM.PAGE 0x138 = true → s.rdB RIM.CALC_STS.BUSY = true → gives (.rimCalcStart path) s (fun t =>
      t.answered .ignored ∧
      s.logged t SYS.PAGE 0x28 (fun a b => a = RIM.PAGE * 4096 + 0x138 + path.num * 2 ^ 24 ∧ b = 0x80000000) ∧
      s.within t [.regs, .bus, .log, .sram] (logKeys SYS.PAGE))) ∧
    (∀ (j : CalcJob), s.rim.calcJob = some j → s.mem.sealed = false → j.addr + j.len ≤ hbmSize → s.firstBad j.addr j.len = none → rim (s.hbmRd j.addr j.len) j.fold < 2 ^ 32 → gives .rimCalcDone s (fun t =>
      t.rim = { s.rim with calcJob := none } ∧
      s.fieldsTo t (RIM.CALC_STS.key 0 0) [(RIM.CALC_STS.BUSY, 0), (RIM.CALC_STS.DONE, 1)] ∧
      t.rd RIM.CALC_RES = rim (s.hbmRd j.addr j.len) j.fold ∧
      s.within t [.regs, .rim] [RIM.CALC_STS.key 0 0, RIM.CALC_RES.key 0 0])) ∧
    (∀ (j : CalcJob) (k : Nat), s.rim.calcJob = some j → s.mem.sealed = false → j.addr + j.len ≤ hbmSize → s.firstBad j.addr j.len = some k → gives .rimCalcDone s (fun t =>
      t.rim = { s.rim with calcJob := none } ∧
      t.rdB RIM.CALC_STS.BUSY = false ∧
      t.rdB RIM.CALC_STS.ERR_MEM = true ∧
      t.rdB RIM.CALC_STS.DONE = s.rdB RIM.CALC_STS.DONE ∧
      t.rd RIM.CALC_RES = s.rd RIM.CALC_RES ∧
      (s.uncorrectable (32 * k) .throughput).logged t RIM.PAGE 0x45 (fun a b => a = t.rd RIM.CALC_STS ∧ b = j.addr) ∧
      s.keeps t [.regs, .log, .mem, .scene, .frs, .rim, .hbm, .sram])) ∧
    ((s.rim.calcJob = none ∨ s.mem.sealed = true) → idle .rimCalcDone s) ∧
    (∀ (j : CalcJob), s.rim.calcJob = some j → s.mem.sealed = false → hbmSize < j.addr + j.len → gives .rimCalcDone s (fun t =>
      t.rim = { s.rim with calcJob := none } ∧
      t.rdB RIM.CALC_STS.BUSY = false ∧
      t.rdB RIM.CALC_STS.ERR_MEM = true ∧
      (s.addrError j.addr).logged t RIM.PAGE 0x45 (fun a b => a = t.rd RIM.CALC_STS ∧ b = j.addr) ∧
      s.within t [.regs, .log, .rim, .sram] ([RIM.CALC_STS.key 0 0] ++ logKeys RIM.PAGE ++ logKeys DMC.PAGE))) ∧
    (∀ (group : Fin 16), s.mode.raster = .weaver → s.mode.power = .full → s.leaf.mute = false → s.wv.codes[groupHalf group.val].codes ≠ [] → s.wv.codes[groupHalf group.val].line < 8640 → s.leaf.driving = true → s.groupFailed group.val = false → gives (.linePacketSend group) s (fun t =>
      (let p := linePacket (s.depth (groupHalf group.val)) ((s.startMap group.val).lanesNow group.val) false s.wv.codes[groupHalf group.val].line s.wv.codes[groupHalf group.val].gen group.val s.wv.codes[groupHalf group.val].frame ((s.wv.codes[groupHalf group.val].codes.drop (5760 * (group.val % 8))).take 5760); tget (fun _ => []) t.scan.txPkt group.val = p ∧ tget (fun _ => 0) t.rim.lchk (glKey group.val s.wv.codes[groupHalf group.val].line) = BitVec.ofNat 32 (lineCheckOf p) ∧ (group.val, s.wv.codes[groupHalf group.val].line) ∈ t.rim.sent ∧ (group.val, s.wv.codes[groupHalf group.val].line) ∈ t.rim.held) ∧
      s.within t [.rim, .scan, .lan, .leaf, .freeCtr] [])) ∧
    (∀ (group : Fin 16), (s.mode.raster = .off ∨ s.mode.power = .discharge ∨ (s.mode.power = .shutter ∧ s.scan.shutExit ≠ some (BitVec.ofNat 32 s.wv.codes[groupHalf group.val].frame))) → idle (.linePacketSend group) s) ∧
    (∀ (group : Fin 16) (bs : List Byte), reportOk group.val bs = true → beAt bs 0 1 = 0x52 → beAt bs 10 1 = group.val → beAt bs 1 1 = 0 → beAt bs 8 2 = 0x7FFF → s.panel.driverLock[groupHalf group.val].getLsbD (group.val % 8) = true → s.rim.held.contains (group.val, beAt bs 2 2) = true → ((tget (fun _ => 0) s.rim.lchk (glKey group.val (beAt bs 2 2))).toNat = beAt bs 4 4) → gives (.lineReportReceived group bs) s (fun t =>
      t.rim = { s.rim with sent := s.rim.sent.filter (fun x => !(x == (group.val, beAt bs 2 2))), unproven := tset (fun _ => false) s.rim.unproven (glKey group.val (beAt bs 2 2)) false } ∧
      t.rd PLK.GRP_LOCK.LOCK (groupHalf group.val) group.val = 0x7FFF ∧
      t.rd PLK.REP_CNT (groupHalf group.val) = min 0xFFFFFFFF (s.rd PLK.REP_CNT (groupHalf group.val) + 1) ∧
      s.within t [.regs, .rim, .leaf] [PLK.REP_CNT.key (groupHalf group.val) 0, PLK.GRP_LOCK.LOCK.key (groupHalf group.val) (group.val)])) ∧
    (∀ (group : Fin 16) (bs : List Byte), reportOk group.val bs = true → beAt bs 0 1 = 0x52 → beAt bs 10 1 = group.val → beAt bs 1 1 = 0 → beAt bs 8 2 = 0x7FFF → s.panel.driverLock[groupHalf group.val].getLsbD (group.val % 8) = true → s.rim.held.contains (group.val, beAt bs 2 2) = true → ((tget (fun _ => 0) s.rim.lchk (glKey group.val (beAt bs 2 2))).toNat ≠ beAt bs 4 4) → gives (.lineReportReceived group bs) s (fun t =>
      t.rim.retNow = s.rim.retNow ||| BitVec.ofNat 32 (2 ^ group.val) ∧
      t.rd RIM.RET_MIS 0 group.val = min 0xFFFFFFFF (s.rd RIM.RET_MIS 0 group.val + 1) ∧
      s.fieldsTo t (RIM.RET_LAST.key 0 0) [(RIM.RET_LAST.LINE, beAt bs 2 2), (RIM.RET_LAST.GROUP, group.val), (RIM.RET_LAST.MISSING, 0)] ∧
      ((s.log.frameKeys.contains (0x40, group.val) = false → s.logged t RIM.PAGE 0x40 (fun a b => a = t.rd RIM.RET_LAST ∧ b = beAt bs 4 4))) ∧
      s.within t [.regs, .log, .rim, .leaf, .sram] ([PLK.REP_CNT.key (groupHalf group.val) 0, PLK.GRP_LOCK.LOCK.key (groupHalf group.val) (group.val), RIM.RET_MIS.key 0 (group.val), RIM.RET_LAST.key 0 0] ++ logKeys RIM.PAGE))) ∧
    (∀ (group : Fin 16) (bs : List Byte), reportOk group.val bs = false → gives (.lineReportReceived group bs) s (fun t =>
      t.rd PLK.REP_CNT (groupHalf group.val) = min 0xFFFFFFFF (s.rd PLK.REP_CNT (groupHalf group.val) + 1) ∧
      t.rd PLK.REP_BAD (groupHalf group.val) = min 0xFFFFFFFF (s.rd PLK.REP_BAD (groupHalf group.val) + 1) ∧
      t.flag (PLK.PAGE + (groupHalf group.val).val) 3 ∧
      s.within t [.regs, .log, .sram] ([PLK.REP_CNT.key (groupHalf group.val) 0, PLK.REP_BAD.key (groupHalf group.val) 0] ++ ((eventKeys (PLK.PAGE + (groupHalf group.val).val)))))) ∧
    (∀ (group : Fin 16) (line : Fin 8640), s.rim.sent.contains (group.val, line.val) = true → s.role ≠ 2 → gives (.reportMissing group line) s (fun t =>
      t.rim.retNow = s.rim.retNow ||| BitVec.ofNat 32 (2 ^ (group.val + 16)) ∧
      t.rd RIM.RET_MIS 0 group.val = min 0xFFFFFFFF (s.rd RIM.RET_MIS 0 group.val + 1) ∧
      s.fieldsTo t (RIM.RET_LAST.key 0 0) [(RIM.RET_LAST.LINE, line.val), (RIM.RET_LAST.GROUP, group.val), (RIM.RET_LAST.MISSING, 1)] ∧
      ((s.log.frameKeys.contains (0x41, group.val) = false → s.logged t RIM.PAGE 0x41 (fun a _ => a = t.rd RIM.RET_LAST))) ∧
      (group.val, line.val) ∉ t.rim.sent ∧
      s.within t [.regs, .log, .rim, .leaf, .sram] ([RIM.RET_MIS.key 0 (group.val), RIM.RET_LAST.key 0 0] ++ logKeys RIM.PAGE)))

/-- The lane map of a group, lanes lost and re-admitted, and groups that fail: For every set of failed lanes the map
gives each logical lane 0 to N - 1 exactly one working physical lane and a failed lane none. With 14 lanes in use
each working lane 0 to 13 keeps its own number (lane 14 takes the place of one that failed); with fewer, the working
lanes carry 0 to N - 1 in ascending order. A report of a running group in which lanes that were in lock are out of
lock fails these lanes with LANE_LOST and code 0x53 and queues the LANE_MAP of the new set; the group fails when N
falls below MIN_LANES or its packets no longer fit. With every lane out of lock the Weaver raster ends with its
cycle, and in the Sill raster the half goes back to the lowest rate and the start halts with 0x0801. A write of
GRP_READMIT brings back, in the next blanking, lanes that have failed and report lock. A raised minimum fails the
groups below it at once: LINK_STS, GROUP_FAIL and code 0x54; RATE is taken in Sill alone. The points the spec leaves
open in it follow the model's own choices, log entries 10, 122, 198, 199, 202, 206, 207, 209. (R207, R208, R209,
R219.) -/
def Obligations.PanelLanes : Prop :=
  (∀ fail : BitVec 15, let m := laneMapOf fail.toNat;
    (∀ l : Fin 15, fail.getLsbD l = true → m.getD l 15 = 15) ∧
    (∀ i : Nat, i < lanesInUse fail.toNat → ∃ l : Fin 15, fail.getLsbD l = false ∧ m.getD l 15 = i ∧ ∀ l' : Fin 15, m.getD l' 15 = i → l' = l) ∧
    (lanesInUse fail.toNat = 14 → ∀ l : Fin 14, fail.getLsbD l = false → m.getD l 15 = l.val) ∧
    (lanesInUse fail.toNat < 14 → ∀ l l' : Fin 15, fail.getLsbD l = false → fail.getLsbD l' = false → l < l' → m.getD l 15 < m.getD l' 15)) ∧
  (∀ s : State,
    (∀ (group : Fin 16) (bs : List Byte), reportOk group.val bs = true → beAt bs 0 1 = 0x53 → beAt bs 10 1 = group.val → beAt bs 1 1 % 2 = 0 → beAt bs 8 2 % 2 ^ 15 ≠ 0 → s.scan.rateTrain[groupHalf group.val] = false → s.panel.driverLock[groupHalf group.val].getLsbD (group.val % 8) = true → (s.rd PLK.GRP_STS.FAIL (groupHalf group.val) group.val ||| (s.rd PLK.GRP_LOCK.LOCK (groupHalf group.val) group.val &&& ((0x7FFF : Nat) - (0x7FFF &&& beAt bs 8 2)))) ≠ s.rd PLK.GRP_STS.FAIL (groupHalf group.val) group.val → s.shutArmed = false → s.rd PLK.LINK_CTL.MIN_LANES (groupHalf group.val) ≤ lanesInUse (s.rd PLK.GRP_STS.FAIL (groupHalf group.val) group.val ||| (s.rd PLK.GRP_LOCK.LOCK (groupHalf group.val) group.val &&& ((0x7FFF : Nat) - (0x7FFF &&& beAt bs 8 2)))) → fits (s.depth (groupHalf group.val)) (lanesInUse (s.rd PLK.GRP_STS.FAIL (groupHalf group.val) group.val ||| (s.rd PLK.GRP_LOCK.LOCK (groupHalf group.val) group.val &&& ((0x7FFF : Nat) - (0x7FFF &&& beAt bs 8 2))))) (s.rd PLK.LINK_STS.RATE_CUR (groupHalf group.val)) s.lineEff = true → gives (.statusReportReceived group bs) s (fun t =>
      t.rd PLK.GRP_STS.FAIL (groupHalf group.val) group.val = (s.rd PLK.GRP_STS.FAIL (groupHalf group.val) group.val ||| (s.rd PLK.GRP_LOCK.LOCK (groupHalf group.val) group.val &&& ((0x7FFF : Nat) - (0x7FFF &&& beAt bs 8 2)))) ∧
      t.rd PLK.GRP_STS.N (groupHalf group.val) group.val = lanesInUse (s.rd PLK.GRP_STS.FAIL (groupHalf group.val) group.val ||| (s.rd PLK.GRP_LOCK.LOCK (groupHalf group.val) group.val &&& ((0x7FFF : Nat) - (0x7FFF &&& beAt bs 8 2)))) ∧
      (∀ l : Fin 15, (if l.val < 8 then (t.rd PLK.GRP_MAP0 (groupHalf group.val) group.val) / 16 ^ l.val % 16 else (t.rd PLK.GRP_MAP1 (groupHalf group.val) group.val) / 16 ^ (l.val - 8) % 16) = (laneMapOf (s.rd PLK.GRP_STS.FAIL (groupHalf group.val) group.val ||| (s.rd PLK.GRP_LOCK.LOCK (groupHalf group.val) group.val &&& ((0x7FFF : Nat) - (0x7FFF &&& beAt bs 8 2))))).getD l 15) ∧
      (((tget (fun _ => []) t.scan.ctrlQ group.val).getLast?.map (fun p => (p.cmd, p.body))) = some (1, (laneMapOf (s.rd PLK.GRP_STS.FAIL (groupHalf group.val) group.val ||| (s.rd PLK.GRP_LOCK.LOCK (groupHalf group.val) group.val &&& ((0x7FFF : Nat) - (0x7FFF &&& beAt bs 8 2))))).map (fun l => if l = 15 then 0xFF else l))) ∧
      t.flag (PLK.PAGE + (groupHalf group.val).val) 0 ∧
      s.keeps t [.regs, .panel, .log, .scan, .sram])) ∧
    (∀ (group : Fin 16) (bs : List Byte), reportOk group.val bs = true → beAt bs 0 1 = 0x53 → beAt bs 10 1 = group.val → beAt bs 8 2 % 2 ^ 15 = 0 → s.panel.driverLock[groupHalf group.val].getLsbD (group.val % 8) = true → s.panel.resetPend = none → s.mode.raster = .weaver → s.scan.rateTrain[groupHalf group.val] = false → gives (.statusReportReceived group bs) s (fun t =>
      t.panel.resetPend = some .linkLost ∧
      s.keeps t [.regs, .panel, .log, .scan, .sram])) ∧
    (∀ (group : Fin 16) (bs : List Byte), reportOk group.val bs = true → beAt bs 0 1 = 0x53 → beAt bs 10 1 = group.val → beAt bs 8 2 % 2 ^ 15 = 0 → s.panel.driverLock[groupHalf group.val].getLsbD (group.val % 8) = true → s.mode.raster = .sill → s.scan.rateTrain[groupHalf group.val] = false → gives (.statusReportReceived group bs) s (fun t =>
      t.rd SYS.START_STS.FAIL = 0x0801 ∧
      t.rd SYS.START_STS.STAGE = 13 ∧
      t.rd PLK.LINK_STS.RATE_CUR (groupHalf group.val) = 0 ∧
      s.keeps t [.regs, .panel, .boot, .log, .scan, .fab, .sram])) ∧
    (∀ (path : Path) (half : Fin 2) (lanes : BitVec 15), s.takes path (PLK.PAGE + half.val) 0x11C = true → gives (.laneReadmit path half lanes) s (fun t =>
      t.answered .ok ∧
      tget (fun _ => 0) t.scan.readmit (s.rd PLK.GRP_SEL.GROUP half path.num) = tget (fun _ => 0) s.scan.readmit (s.rd PLK.GRP_SEL.GROUP half path.num) ||| BitVec.ofNat 15 (lanes.toNat &&& s.rd PLK.GRP_STS.FAIL half (s.rd PLK.GRP_SEL.GROUP half path.num) &&& s.rd PLK.GRP_LOCK.LOCK half (s.rd PLK.GRP_SEL.GROUP half path.num)) ∧
      s.within t [.bus, .scan] [])) ∧
    (s.mode.raster = .weaver → s.clk.line = 8640 → gives .applyPoint s (fun t =>
      (∀ g : Fin 16, tget (fun _ => 0) t.scan.readmit g.val = 0) ∧
      (∀ g : Fin 16, t.rd PLK.GRP_STS.FAIL (groupHalf g.val) g.val = s.rd PLK.GRP_STS.FAIL (groupHalf g.val) g.val - (s.rd PLK.GRP_STS.FAIL (groupHalf g.val) g.val &&& (tget (fun _ => 0) s.scan.readmit g.val).toNat)))) ∧
    (∀ (path : Path) (half : Fin 2) (v : BitVec 32), s.takes path (PLK.PAGE + half.val) 0x100 = true → s.mode.power ≠ .sill → v.toNat % 8 ≠ s.rd PLK.LINK_CTL.RATE half → gives (.minLanesWrite path half v) s (fun t =>
      t.answered .ignored ∧
      t.rd PLK.LINK_CTL.MIN_LANES half = bits v.toNat 11 8 ∧
      t.rd PLK.LINK_CTL.RATE half = s.rd PLK.LINK_CTL.RATE half ∧
      s.keeps t [.regs, .bus, .log, .sram])) ∧
    (∀ (path : Path) (half : Fin 2) (v : BitVec 32), s.takes path (PLK.PAGE + half.val) 0x100 = true → (s.mode.power = .sill ∨ v.toNat % 8 = s.rd PLK.LINK_CTL.RATE half) → gives (.minLanesWrite path half v) s (fun t =>
      t.answered .ok ∧
      t.rd PLK.LINK_CTL.MIN_LANES half = bits v.toNat 11 8 ∧
      t.rd PLK.LINK_CTL.RATE half = v.toNat % 8 ∧
      (∀ g : Fin 8, bit (t.rd PLK.LINK_STS.FAILED half) g.val = (bit (s.rd PLK.LINK_STS.FAILED half) g.val || (decide (s.rd PLK.GRP_STS.N half (8 * half.val + g.val) < bits v.toNat 11 8) && s.panel.driverLock[half].getLsbD g.val))) ∧
      (((∃ g : Fin 8, bit (t.rd PLK.LINK_STS.FAILED half) g.val = true ∧ bit (s.rd PLK.LINK_STS.FAILED half) g.val = false) → t.flag (PLK.PAGE + half.val) 1)) ∧
      s.keeps t [.regs, .bus, .log, .sram])))

/-- Control packets and their acknowledgement: The head of a group's queue leaves with the group's next SEQ and its
check-value in the next gap, behind those still unanswered. A STATUS report with the SEQ and CMD of one acknowledges
it, or shows a NAK. Unanswered within 4 lines it is sent again with the same SEQ; after the third send CTRL_STS
shows failed, CTRL_FAIL rises and the group fails. A failed group is sent DISCHARGE alone. The points the spec
leaves open in it follow the model's own choices, log entries 112, 122, 198, 201. (R200, R201, R209, R216, R218.) -/
def Obligations.ControlPackets : Prop :=
  ∀ s : State,
    (∀ (group : Fin 16) (p : CtrlPkt) (q : List CtrlPkt), (tget (fun _ => []) s.scan.ctrlQ group.val = p :: q) → s.leaf.driving = true → (s.groupFailed group.val = false ∨ p.cmd = 7) → (s.leaf.mute = false ∨ p.cmd = 6 ∨ p.cmd = 7) → gives (.controlPacketSend group) s (fun t =>
      tget (fun _ => []) t.scan.ctrlQ group.val = q ∧
      tget (fun _ => []) t.scan.ctrlSent group.val = tget (fun _ => []) s.scan.ctrlSent group.val ++ [({ p with seq := (tget (fun _ => 0) s.scan.groupSeq group.val).toNat }, 1)] ∧
      tget (fun _ => 0) t.scan.groupSeq group.val = tget (fun _ => 0) s.scan.groupSeq group.val + 1 ∧
      tget (fun _ => []) t.scan.txPkt group.val = CtrlPkt.bytes { p with seq := (tget (fun _ => 0) s.scan.groupSeq group.val).toNat } group.val ∧
      ((p.cmd < 256 → t.rd PLK.CTRL_STS.CMD (groupHalf group.val) group.val = p.cmd)) ∧
      t.rd PLK.CTRL_STS.RESULT (groupHalf group.val) group.val = 1 ∧
      ((p.cmd = 6 → t.leaf.mute = false)) ∧
      s.within t [.regs, .scan, .lan, .leaf, .freeCtr] [PLK.CTRL_STS.CMD.key (groupHalf group.val) (group.val)])) ∧
    (∀ (group : Fin 16), (tget (fun _ => []) s.scan.ctrlQ group.val = [] ∨ s.leaf.driving = false) → idle (.controlPacketSend group) s) ∧
    (∀ (group : Fin 16) (p : CtrlPkt) (q : List CtrlPkt), (tget (fun _ => []) s.scan.ctrlQ group.val = p :: q) → p.cmd ≠ 7 → (s.groupFailed group.val = true ∨ (s.leaf.mute = true ∧ p.cmd ≠ 6)) → idle (.controlPacketSend group) s) ∧
    (∀ (group : Fin 16) (bs : List Byte) (p : CtrlPkt) (n : Nat) (rest : List (CtrlPkt × Nat)), reportOk group.val bs = true → beAt bs 0 1 = 0x53 → beAt bs 10 1 = group.val → beAt bs 8 2 = 0x7FFF → s.panel.driverLock[groupHalf group.val].getLsbD (group.val % 8) = true → (tget (fun _ => []) s.scan.ctrlSent group.val = (p, n) :: rest) → p.seq = beAt bs 2 2 → p.cmd = beAt bs 4 4 % 256 → s.shutArmed = false → gives (.statusReportReceived group bs) s (fun t =>
      tget (fun _ => []) t.scan.ctrlSent group.val = rest ∧
      (t.rd PLK.CTRL_STS.RESULT (groupHalf group.val) group.val = (if bit (beAt bs 1 1) 2 = true then 3 else 0)) ∧
      t.rd PLK.GRP_LOCK.LOCK (groupHalf group.val) group.val = 0x7FFF ∧
      s.within t [.regs, .scan] [PLK.REP_CNT.key (groupHalf group.val) 0, PLK.GRP_LOCK.LOCK.key (groupHalf group.val) (group.val), PLK.CTRL_STS.CMD.key (groupHalf group.val) (group.val)])) ∧
    (∀ (group : Fin 16) (p : CtrlPkt) (n : Nat) (rest : List (CtrlPkt × Nat)), (tget (fun _ => []) s.scan.ctrlSent group.val = (p, n) :: rest) → n < 3 → gives (.controlPacketResend group) s (fun t =>
      tget (fun _ => []) t.scan.ctrlSent group.val = (p, n + 1) :: rest ∧
      tget (fun _ => []) t.scan.txPkt group.val = p.bytes group.val ∧
      t.scan.groupSeq = s.scan.groupSeq ∧
      s.within t [.scan, .lan, .leaf, .freeCtr] [])) ∧
    (∀ (group : Fin 16) (p : CtrlPkt) (n : Nat) (rest : List (CtrlPkt × Nat)), (tget (fun _ => []) s.scan.ctrlSent group.val = (p, n) :: rest) → 3 ≤ n → s.groupFailed group.val = false → gives (.controlPacketResend group) s (fun t =>
      tget (fun _ => []) t.scan.ctrlSent group.val = rest ∧
      t.rd PLK.CTRL_STS.RESULT (groupHalf group.val) group.val = 2 ∧
      t.groupFailed group.val = true ∧
      t.flag (PLK.PAGE + (groupHalf group.val).val) 2 ∧
      t.flag (PLK.PAGE + (groupHalf group.val).val) 1 ∧
      s.logged t (PLK.PAGE + (groupHalf group.val).val) 0x54 (fun _ b => b = group.val) ∧
      s.within t [.regs, .log, .scan, .sram] ([PLK.CTRL_STS.CMD.key (groupHalf group.val) (group.val), PLK.LINK_STS.key (groupHalf group.val) 0, PDV.RES_STS.key (groupHalf group.val) 0] ++ ((logKeys (PLK.PAGE + (groupHalf group.val).val))) ++ ((eventKeys (PLK.PAGE + (groupHalf group.val).val)))))) ∧
    (∀ (group : Fin 16), (tget (fun _ => []) s.scan.ctrlSent group.val = []) → idle (.controlPacketResend group) s)

/-- Lines, frames, markers and the line match: LINE_START begins the next line of the raster that runs, at the edge that
ends the one in progress; a half B line start other than MUL_SKEW wc late counts a Mullion error with code 0x52, at
line 0 as well. LOAD names the line before, FRAME the coming frame. FRAME_START begins the next frame at line 0,
with the settings written for it in force. In the Sill raster line 8,640 brings re-admitted lanes back. LINE_MATCH
raises its event when the beam is at LM_POS. The points the spec leaves open in it follow the model's own choices,
log entries 59, 82, 110, 118, 119, 120, 121, 173. (R5, R188, R189, R195, R197, R208, R219, R355, R357.) -/
def Obligations.RasterLines : Prop :=
  ∀ s : State,
    (∀ (skew : BitVec 8), s.mode.raster = .weaver → s.clk.line.toNat + 1 < s.vtotal → skew.toNat = s.eff_ SCN.MUL_SKEW → gives (.lineStart skew) s (fun t =>
      t.clk = { s.toLineEnd.clk with line := s.clk.line + 1, wc := 0, lineAt := s.toLineEnd.clk.now, lineErr := 0 } ∧
      s.keeps t [.regs, .clk, .log, .mem, .scene, .frs, .scan, .lan, .tim, .leaf, .freeCtr, .sram])) ∧
    (∀ (skew : BitVec 8), s.mode.raster = .weaver → s.clk.line.toNat + 1 < s.vtotal → skew.toNat ≠ s.eff_ SCN.MUL_SKEW → gives (.lineStart skew) s (fun t =>
      t.clk.line = s.clk.line + 1 ∧
      t.clk.lineErr = (skew.toNat : Int) - s.eff_ SCN.MUL_SKEW ∧
      bit t.scan.mullion.toNat 0 = true ∧
      t.flag SCN.PAGE 5 ∧
      s.keeps t [.regs, .clk, .log, .mem, .scene, .frs, .scan, .lan, .tim, .leaf, .freeCtr, .sram])) ∧
    (∀ (skew : BitVec 8), s.mode.raster = .sill → s.clk.line.toNat < 8699 → s.clk.line ≠ 8639 → gives (.lineStart skew) s (fun t =>
      t.clk = { s.toLineEnd.clk with line := s.clk.line + 1, wc := 0, lineAt := s.toLineEnd.clk.now } ∧
      s.within t [.regs, .clk, .log, .scene, .frs, .tim, .sram] (s.runKeys))) ∧
    (∀ (skew : BitVec 8), s.mode.raster = .sill → s.clk.line = 8639 → gives (.lineStart skew) s (fun t =>
      t.clk = { s.toLineEnd.clk with line := s.clk.line + 1, wc := 0, lineAt := s.toLineEnd.clk.now } ∧
      (∀ g : Fin 16, tget (fun _ => 0) t.scan.readmit g.val = 0) ∧
      (∀ g : Fin 16, t.rd PLK.GRP_STS.FAIL (groupHalf g.val) g.val = s.rd PLK.GRP_STS.FAIL (groupHalf g.val) g.val - (s.rd PLK.GRP_STS.FAIL (groupHalf g.val) g.val &&& (tget (fun _ => 0) s.scan.readmit g.val).toNat)) ∧
      s.keeps t [.regs, .clk, .log, .mem, .scene, .frs, .scan, .lan, .tim, .leaf, .freeCtr, .sram])) ∧
    (∀ (skew : BitVec 8), (s.mode.raster = .off ∨ s.vtotal ≤ s.clk.line.toNat + 1) → idle (.lineStart skew) s) ∧
    (∀ (fl : BitVec 32) (skew : BitVec 8), s.mode.raster = .weaver → s.clk.line.toNat + 1 = s.vtotal → gives (.frameStart fl skew) s (fun t =>
      t.clk.line = 0 ∧
      t.clk.wc = 0 ∧
      t.clk.lineAt = s.toLineEnd.clk.now ∧
      t.clk.frame = BitVec.ofNat 32 s.frameAfter ∧
      t.clk.fs = BitVec.ofNat 32 (s.fsFor s.frameAfter) ∧
      t.eff_ SCN.MUL_SKEW = s.rd SCN.MUL_SKEW ∧
      t.eff_ SCN.TRIM_MAX.WC = s.rd SCN.TRIM_MAX.WC ∧
      t.rd RIM.RET_STS = s.rim.retNow.toNat ∧
      t.rim.retNow = 0 ∧
      t.clk.lineErr = (skew.toNat : Int) - s.rd SCN.MUL_SKEW ∧
      ((skew.toNat ≠ s.rd SCN.MUL_SKEW → t.flag SCN.PAGE 5 ∧ bit t.scan.mullion.toNat 0 = true)) ∧
      s.keeps t [.regs, .eff, .mode, .clk, .panel, .log, .mem, .scene, .wv, .frs, .rim, .scan, .tim, .leaf, .thm, .freeCtr, .hbm, .sram])) ∧
    (∀ (fl : BitVec 32) (skew : BitVec 8), s.mode.raster = .weaver → s.clk.line.toNat + 1 = s.vtotal → s.eff_ SCN.RATE_CTL.SRC = 3 → s.scan.rephaseTo = none → s.scan.rephase = false → gives (.frameStart fl skew) s (fun t =>
      t.clk.frame = s.clk.frame + 1 ∧
      t.rd SCN.LOCK_STS.STATE = 1 ∧
      t.rd SCN.LINE_EFF.PER = s.eff_ SCN.LINE_PER.PER ∧
      t.scan.trim = 0 ∧
      s.keeps t [.regs, .eff, .mode, .clk, .panel, .log, .mem, .scene, .wv, .frs, .rim, .scan, .tim, .leaf, .thm, .freeCtr, .hbm, .sram])) ∧
    (∀ (fl : BitVec 32) (skew : BitVec 8), (s.mode.raster ≠ .weaver ∨ s.clk.line.toNat + 1 ≠ s.vtotal) → idle (.frameStart fl skew) s) ∧
    (s.mode.raster ≠ .off → s.clk.line.toNat = s.rd SCN.LM_POS.LINE → s.clk.wc.toNat = s.rd SCN.LM_POS.WC → gives .lineMatch s (fun t =>
      t.flag SCN.PAGE 0 ∧
      s.within t [.regs, .log, .sram] (eventKeys SCN.PAGE))) ∧
    ((s.clk.line.toNat ≠ s.rd SCN.LM_POS.LINE ∨ s.clk.wc.toNat ≠ s.rd SCN.LM_POS.WC) → idle .lineMatch s) ∧
    (∀ (h : Fin 2), s.marks h = true → 1 ≤ s.clk.line.toNat → s.clk.line.toNat < 8640 → (s.clk.line.toNat ≠ 1 ∨ s.rd SCN.SHUT_STS.STATE ≠ 5) → gives (.loadMarker h) s (fun t =>
      t.scan.marker[h].load = some (s.clk.line.toNat - 1) ∧
      s.within t [.scan, .lan, .freeCtr] [])) ∧
    (s.marks 0 = true → s.clk.line = 8640 → gives (.loadMarker 0) s (fun t =>
      t.scan.marker[(0 : Fin 2)].load = some 8639 ∧
      t.flag SCN.PAGE 2 ∧
      s.within t [.regs, .log, .scan, .lan, .freeCtr, .sram] (eventKeys SCN.PAGE))) ∧
    (∀ (h : Fin 2), s.marks h = true → s.clk.line.toNat + 1 = s.vtotal → s.mode.raster = .weaver → s.rd SCN.SHUT_STS.STATE = 0 → gives (.frameMarker h) s (fun t =>
      (t.scan.marker[h] = { s.scan.marker[h] with frame := s.frameAfter, phase := s.phaseOf s.frameAfter, band := (if s.phaseOf s.frameAfter = 0 then s.rd PDV.WV_STS.BAND_NEXT h else s.rd PDV.WV_STS.BAND h), sill := false, shutter := false }) ∧
      s.within t [.scan, .lan, .freeCtr] []))

/-- Raster settings, house edges and rate steps: LINE_PER, VTOTAL, RATE_CTL, PHASE and HS_DELAY take writes in Sill
only; elsewhere the write is ignored with code 0x5B. A house edge keeps its instant and the distance from the last.
In Sill blanking a rate step sends RATE to the half and trains; with all 15 lanes of every group in lock the trained
rate stays, and a group whose packets do not fit it fails; else the old one, and the third failure halts the start
with fail code 0x0801 and code 0x5A. The points the spec leaves open in it follow the model's own choices, log
entries 62, 121, 123, 173, 199, 206. (R190, R210, R219, R65.) -/
def Obligations.RasterSettings : Prop :=
  ∀ s : State,
    (∀ (path : Path) (r : Fin 5) (v : BitVec 32), s.takes path SCN.PAGE (0x100 + 4 * r.val) = true → s.mode.power = .sill → gives (.rasterWrite path r v) s (fun t =>
      t.answered .ok ∧
      (t.reg (regKey 0 SCN.PAGE (0x100 + 4 * r.val))).toNat = v.toNat &&& [0x1FFFFF, 0x3FFF, 0x3FFF, 0xFFFFFFFF, 0xFFFFFF].getD r.val 0 ∧
      t.eff = s.eff ∧
      s.within t [.regs, .bus] [regKey 0 SCN.PAGE (0x100 + 4 * r.val)])) ∧
    (∀ (path : Path) (r : Fin 5) (v : BitVec 32), s.takes path SCN.PAGE (0x100 + 4 * r.val) = true → s.mode.power ≠ .sill → gives (.rasterWrite path r v) s (fun t =>
      t.answered .ignored ∧
      s.logged t SCN.PAGE 0x5B (fun a b => a = s.rd SCN.LOCK_STS ∧ b = v.toNat) ∧
      s.within t [.regs, .bus, .log, .sram] (logKeys SCN.PAGE))) ∧
    (∀ (a : Nat), s.scan.houseEdge = some a → s.eff_ SCN.RATE_CTL.SRC ≠ 2 → gives .houseSyncEdge s (fun t =>
      t.scan = { s.scan with houseEdge := some s.clk.now, housePer := s.clk.now - a } ∧
      s.within t [.scan] [])) ∧
    (∀ (h : Fin 2), s.mode.raster = .sill → s.mode.power = .sill → s.rd PLK.LINK_STS.RATE_CUR h < min 3 (s.rd PLK.LINK_CTL.RATE h) → s.scan.rateTrain[h] = false → s.panel.presN[h] = false → s.rd SYS.START_STS.STAGE ≠ 13 → s.boot.done.getLsbD 7 = true → gives (.rateStepTrain h) s (fun t =>
      t.scan.rateTrain[h] = true ∧
      (∀ g : Fin 8, t.rd PLK.GRP_LOCK.LOCK h (8 * h.val + g.val) = 0 ∧ (tget (fun _ => []) t.scan.ctrlQ (8 * h.val + g.val)).getLast?.map (fun p => (p.cmd, p.arg0)) = some (2, s.rd PLK.LINK_STS.RATE_CUR h + 1)) ∧
      t.rd PLK.LINK_STS.RATE_CUR h = s.rd PLK.LINK_STS.RATE_CUR h ∧
      t.scan.rateNew[h] = s.rd PLK.LINK_STS.RATE_CUR h + 1 ∧
      s.within t [.regs, .scan, .lan] ((((List.range 8).map (fun k => PLK.GRP_LOCK.LOCK.key h (8 * h.val + k)))) ++ (((List.range 120).flatMap (fun k => [LAN.LANE_STS.RATE.key 0 (120 * h.val + k), LAN.LANE_EQ.key 0 (120 * h.val + k)])))))) ∧
    (∀ (h : Fin 2), s.scan.rateTrain[h] = true → ((List.range 8).all (fun k => s.rd PLK.GRP_LOCK.LOCK h (8 * h.val + k) == 0x7FFF) = true) → s.scan.rateNew[h] < 4 → (∀ k : Fin 8, s.panel.driverLock[h].getLsbD k.val = true → s.rd PLK.LINK_CTL.MIN_LANES h ≤ s.rd PLK.GRP_STS.N h (8 * h.val + k.val) ∧ fits (s.depth h) (s.rd PLK.GRP_STS.N h (8 * h.val + k.val)) s.scan.rateNew[h] s.lineEff = true) → gives (.rateStepDecide h) s (fun t =>
      t.scan = { s.scan with rateTrain := s.scan.rateTrain.set h false, rateTry := s.scan.rateTry.set h 0 } ∧
      s.fieldsTo t (PLK.LINK_STS.key h 0) [(PLK.LINK_STS.RATE_CUR, s.scan.rateNew[h])] ∧
      s.within t [.regs, .scan] ([PLK.LINK_STS.key h 0] ++ (((List.range 120).flatMap (fun k => [LAN.LANE_STS.RATE.key 0 (120 * h.val + k), LAN.LANE_EQ.key 0 (120 * h.val + k)])))))) ∧
    (∀ (h : Fin 2), s.scan.rateTrain[h] = true → ((List.range 8).all (fun k => s.rd PLK.GRP_LOCK.LOCK h (8 * h.val + k) == 0x7FFF) = true) → s.scan.rateNew[h] < 4 → gives (.rateStepDecide h) s (fun t =>
      t.scan.rateTrain = s.scan.rateTrain.set h false ∧
      t.rd PLK.LINK_STS.RATE_CUR h = s.scan.rateNew[h] ∧
      (∀ k : Fin 8, s.panel.driverLock[h].getLsbD k.val = true → fits (s.depth h) (s.rd PLK.GRP_STS.N h (8 * h.val + k.val)) s.scan.rateNew[h] s.lineEff = false → t.groupFailed (8 * h.val + k.val) = true) ∧
      s.keeps t [.regs, .log, .scan, .sram])) ∧
    (∀ (h : Fin 2), s.scan.rateTrain[h] = true → ((List.range 8).all (fun k => s.rd PLK.GRP_LOCK.LOCK h (8 * h.val + k) == 0x7FFF) = false) → s.scan.rateTry[h] < 2 → gives (.rateStepDecide h) s (fun t =>
      t.scan = { s.scan with rateTrain := s.scan.rateTrain.set h false, rateTry := s.scan.rateTry.set h (s.scan.rateTry[h] + 1) } ∧
      s.within t [.regs, .scan] ((((List.range 120).flatMap (fun k => [LAN.LANE_STS.RATE.key 0 (120 * h.val + k), LAN.LANE_EQ.key 0 (120 * h.val + k)])))))) ∧
    (∀ (h : Fin 2), s.scan.rateTrain[h] = true → ((List.range 8).all (fun k => s.rd PLK.GRP_LOCK.LOCK h (8 * h.val + k) == 0x7FFF) = false) → 2 ≤ s.scan.rateTry[h] → gives (.rateStepDecide h) s (fun t =>
      t.rd SYS.START_STS.FAIL = 0x0801 ∧
      t.flag (PLK.PAGE + h.val) 4 ∧
      t.rd PLK.LINK_STS.RATE_CUR h = s.rd PLK.LINK_STS.RATE_CUR h ∧
      s.keeps t [.regs, .boot, .log, .scan, .fab, .sram])) ∧
    (∀ (h : Fin 2), s.scan.rateTrain[h] = false → idle (.rateStepDecide h) s)

/-- Shutter requested, entered and left: A request keeps REQ for the check of each frame. At the start of frame c + 1
the module is in Shutter, the weave dies empty, HBM sealed into self-refresh, with ENTRIES counted and SHUT_IN. A
request to leave is dropped while checking, aborts an armed entry, waits in Entering, and in Shutter starts the exit
whose first Weaver frame is the one after next; its LOAD of line 0 ends it with SHUT_OUT, and groups silent for 4
frames then fail. The points the spec leaves open in it follow the model's own choices, log entries 111, 114, 116,
203. (R212, R213, R214, R216, R217, R287.) -/
def Obligations.Shutter : Prop :=
  ∀ s : State,
    (∀ (path : Path) (v : BitVec 32), s.takes path SCN.PAGE 0x134 = true → bit v.toNat 1 = false → s.rdB SCN.SHUT_CTL.REQ = false → gives (.shutterRequest path v) s (fun t =>
      t.answered .ok ∧
      t.rdB SCN.SHUT_CTL.REQ = true ∧
      t.rd SCN.SHUT_CTL.WAKE_DATA = bits v.toNat 2 2 ∧
      t.rd SCN.SHUT_STS.WHY = 0 ∧
      t.scan = { s.scan with shutWhyLogged := false } ∧
      s.within t [.regs, .bus, .scan] [SCN.SHUT_CTL.REQ.key 0 0, SCN.SHUT_STS.key 0 0])) ∧
    (s.mode.raster = .weaver → s.clk.line = 8640 → s.rd SCN.SHUT_STS.STATE = 0 → s.rdB SCN.SHUT_CTL.REQ = false → gives .applyPoint s (fun t =>
      t.rd SCN.SHUT_STS.STATE = s.rd SCN.SHUT_STS.STATE ∧
      t.scan.shutC = s.scan.shutC)) ∧
    (s.rd SCN.SHUT_STS.STATE = 3 → s.clk.frame = s.scan.shutC + 1 → s.clk.line = 0 → s.scan.shutExitReq = false → (∀ h ∈ s.contentTiles, 3 * s.frameUs < s.tileLeft h) → gives .shutterIn s (fun t =>
      t.mode.power = .shutter ∧
      t.rd SCN.SHUT_STS.STATE = 4 ∧
      t.rd SCN.SHUT_STS.ENTRIES = min 0xFFFF (s.rd SCN.SHUT_STS.ENTRIES + 1) ∧
      t.flag SCN.PAGE 6 ∧
      t.wv = { s.wv with cells := [], wanted := [], reserve := [] } ∧
      s.keeps t [.regs, .mode, .log, .mem, .scene, .wv, .frs, .scan, .thm, .freeCtr, .hbm, .sram])) ∧
    (s.rd SCN.SHUT_STS.STATE ≠ 3 → idle .shutterIn s) ∧
    (∀ (path : Path) (v : BitVec 32), s.takes path SCN.PAGE 0x134 = true → s.rd SCN.SHUT_STS.STATE = 1 → gives (.shutterExitRequest path v) s (fun t =>
      t.answered .ok ∧
      t.rd SCN.SHUT_STS.STATE = 0 ∧
      t.rdB SCN.SHUT_CTL.REQ = false ∧
      s.within t [.regs, .bus] [SCN.SHUT_CTL.REQ.key 0 0, SCN.SHUT_STS.key 0 0])) ∧
    (∀ (path : Path) (v : BitVec 32), s.takes path SCN.PAGE 0x134 = true → s.rd SCN.SHUT_STS.STATE = 2 → gives (.shutterExitRequest path v) s (fun t =>
      t.answered .ok ∧
      t.rd SCN.SHUT_STS.STATE = 0 ∧
      t.rdB SCN.SHUT_CTL.REQ = false ∧
      t.flag SCN.PAGE 8 ∧
      s.logged t SCN.PAGE 0x55 (fun a _ => a = t.rd SCN.SHUT_STS) ∧
      (∀ g : Fin 16, s.groupFailed g.val = false → (tget (fun _ => []) t.scan.ctrlQ g.val).getLast?.map (fun p => p.cmd) = some 5) ∧
      s.within t [.regs, .bus, .log, .scan, .sram] ([SCN.SHUT_CTL.REQ.key 0 0, SCN.SHUT_STS.key 0 0] ++ logKeys SCN.PAGE ++ eventKeys SCN.PAGE))) ∧
    (∀ (path : Path) (v : BitVec 32), s.takes path SCN.PAGE 0x134 = true → s.rd SCN.SHUT_STS.STATE = 3 → gives (.shutterExitRequest path v) s (fun t =>
      t.answered .ok ∧
      t.rd SCN.SHUT_STS.STATE = 3 ∧
      t.scan = { s.scan with shutExitReq := true } ∧
      s.within t [.regs, .bus, .scan] [SCN.SHUT_CTL.REQ.key 0 0])) ∧
    (∀ (path : Path) (v : BitVec 32), s.takes path SCN.PAGE 0x134 = true → s.rd SCN.SHUT_STS.STATE = 4 → s.rd DMC.SR_STS.STATE = 2 → s.rd DMC.SR_STS.CAUSE = 2 → gives (.shutterExitRequest path v) s (fun t =>
      t.answered .ok ∧
      t.rd SCN.SHUT_STS.STATE = 5 ∧
      t.rd DMC.SR_STS.STATE = 3 ∧
      t.scan = { s.scan with shutExit := some (BitVec.ofNat 32 (s.frameAfter + 1)), shutExitReq := false } ∧
      t.frs.fastPass = true ∧
      s.within t [.regs, .bus, .log, .frs, .scan, .sram] ([SCN.SHUT_CTL.REQ.key 0 0, SCN.SHUT_STS.key 0 0, DMC.SR_STS.CAUSE.key 0 0] ++ logKeys FRS.PAGE))) ∧
    (∀ (group : Fin 16), s.mode.power = .shutter → s.rd SCN.SHUT_STS.STATE = 4 → s.rd DMC.SR_STS.STATE = 2 → gives (.shutterStatusTimeout group) s (fun t =>
      t.rd SCN.SHUT_STS.STATE = 5 ∧
      tget (fun _ => 0) t.scan.statusMiss group.val = 4 ∧
      t.scan.shutExit = some (BitVec.ofNat 32 (s.frameAfter + 1)) ∧
      t.frs.fastPass = true ∧
      s.within t [.regs, .log, .frs, .scan, .sram] ([SCN.SHUT_STS.key 0 0, DMC.SR_STS.CAUSE.key 0 0] ++ logKeys FRS.PAGE))) ∧
    (∀ (group : Fin 16), s.mode.power ≠ .shutter → idle (.shutterStatusTimeout group) s) ∧
    (s.marks 0 = true → s.clk.line = 1 → s.rd SCN.SHUT_STS.STATE = 5 → s.scan.shutExit = some s.clk.frame → gives (.loadMarker 0) s (fun t =>
      t.rd SCN.SHUT_STS.STATE = 0 ∧
      t.scan.shutExit = none ∧
      t.flag SCN.PAGE 7 ∧
      t.clk = { s.clk with waker := s.clk.now } ∧
      (∀ g : Fin 16, tget (fun _ => 0) s.scan.statusMiss g.val = 4 → t.groupFailed g.val = true) ∧
      s.keeps t [.regs, .clk, .log, .scan, .lan, .freeCtr, .sram]))

/-- Waveform tables, gate delay, residue address and residue value: SWAP starts the check of the image at WF_ADDR, and
is ignored with code 0x28 while a table is pending. An image that passes waits for the next cycle; another is
refused with its WHY, event WF_ERR and code 0x62. In the window behind line 8,642 every half whose rails are up
takes the references and VCOM of the coming frame's phase, at phase 0 those of the band and table to come. GATE_CTL
and RES_ADDR take writes in Sill alone, else the write is ignored with code 0x28; a gate delay that the table in
force does not allow is ignored with code 0x62. RES_VAL reads the residue and pair-store bytes of the selected
subpixel from HBM at the access. The points the spec leaves open in it follow the model's own choices, log entries
108, 109, 195, 196. (R222, R226, R227, R228, R230, R243, R224, R231, R244.) -/
def Obligations.WaveformsAndDrive : Prop :=
  ∀ s : State,
    (∀ (path : Path) (half : Fin 2), s.takes path (PDV.PAGE + half.val) 0x12C = true → s.rdB PDV.WF_CTL.SWAP half = false → gives (.waveformSwap path half) s (fun t =>
      t.answered .ok ∧
      s.fieldsTo t (PDV.WF_CTL.key half 0) [(PDV.WF_CTL.SWAP, 1), (PDV.WF_CTL.ERR, 0), (PDV.WF_CTL.WHY, 0)] ∧
      t.panel = { s.panel with waveBusy := s.panel.waveBusy.set half true } ∧
      s.within t [.regs, .bus, .panel] [PDV.WF_CTL.key half 0])) ∧
    (∀ (path : Path) (half : Fin 2), s.takes path (PDV.PAGE + half.val) 0x12C = true → s.rdB PDV.WF_CTL.SWAP half = true → gives (.waveformSwap path half) s (fun t =>
      t.answered .ignored ∧
      s.logged t SYS.PAGE 0x28 (fun a b => a = (PDV.PAGE + half.val) * 4096 + 0x12C + path.num * 2 ^ 24 ∧ b = 1) ∧
      s.within t [.regs, .bus, .log, .sram] (logKeys SYS.PAGE))) ∧
    (∀ (half : Fin 2) (w : Waveform) (r : Nat), s.panel.waveBusy[half] = true → s.mem.sealed = false → s.addr37 PDV.WF_ADDR_LO PDV.WF_ADDR_HI half + 916 ≤ hbmSize → s.firstBad (s.addr37 PDV.WF_ADDR_LO PDV.WF_ADDR_HI half) 916 = none → checkWave (s.hbmRd (s.addr37 PDV.WF_ADDR_LO PDV.WF_ADDR_HI half) 916) s.boot.cfg.panelType (s.eff_ SCN.LINE_PER) (s.rd PDV.GATE_CTL.GATE_DLY half) = (r, some w) → gives (.waveformCheckDone half) s (fun t =>
      t.panel = { s.panel with waveBusy := s.panel.waveBusy.set half false, waveNext := s.panel.waveNext.set half (some w) } ∧
      s.within t [.panel] [])) ∧
    (∀ (half : Fin 2) (r : Nat), s.panel.waveBusy[half] = true → s.mem.sealed = false → s.addr37 PDV.WF_ADDR_LO PDV.WF_ADDR_HI half + 916 ≤ hbmSize → s.firstBad (s.addr37 PDV.WF_ADDR_LO PDV.WF_ADDR_HI half) 916 = none → checkWave (s.hbmRd (s.addr37 PDV.WF_ADDR_LO PDV.WF_ADDR_HI half) 916) s.boot.cfg.panelType (s.eff_ SCN.LINE_PER) (s.rd PDV.GATE_CTL.GATE_DLY half) = (r, none) → gives (.waveformCheckDone half) s (fun t =>
      t.rdB PDV.WF_CTL.SWAP half = false ∧
      t.rdB PDV.WF_CTL.ERR half = true ∧
      t.rd PDV.WF_CTL.WHY half = r % 8 ∧
      t.flag (PDV.PAGE + half.val) 4 ∧
      s.logged t (PDV.PAGE + half.val) 0x62 (fun a _ => a = t.rd PDV.WF_CTL half) ∧
      t.panel = { s.panel with waveBusy := s.panel.waveBusy.set half false } ∧
      s.within t [.regs, .panel, .log, .sram] ([PDV.WF_CTL.key half 0, RIM.LOAD_ERR.key 0 0] ++ ((logKeys (PDV.PAGE + half.val))) ++ ((eventKeys (PDV.PAGE + half.val)))))) ∧
    (∀ (half : Fin 2), s.panel.waveBusy[half] = true → s.mem.sealed = false → (hbmSize < s.addr37 PDV.WF_ADDR_LO PDV.WF_ADDR_HI half + 916 ∨ s.firstBad (s.addr37 PDV.WF_ADDR_LO PDV.WF_ADDR_HI half) 916 ≠ none) → gives (.waveformCheckDone half) s (fun t =>
      t.rdB PDV.WF_CTL.SWAP half = false ∧
      t.rdB PDV.WF_CTL.ERR half = true ∧
      t.rd PDV.WF_CTL.WHY half = 7 ∧
      t.flag (PDV.PAGE + half.val) 4 ∧
      t.panel = { s.panel with waveBusy := s.panel.waveBusy.set half false } ∧
      t.rd RIM.LOAD_ERR = min 0xFFFFFFFF (s.rd RIM.LOAD_ERR + 1) ∧
      s.keeps t [.regs, .panel, .log, .mem, .scene, .frs, .hbm, .sram])) ∧
    (∀ (half : Fin 2), (s.panel.waveBusy[half] = false ∨ s.mem.sealed = true) → idle (.waveformCheckDone half) s) ∧
    (s.mode.raster = .weaver → 8642 ≤ s.clk.line.toNat → s.clk.line.toNat < s.vtotal - 6 → s.phaseOf s.frameAfter ≠ 0 → gives .railChangeWindow s (fun t =>
      (∀ a : Waveform, ∀ h : Fin 2, s.rdB PDV.RAIL_STS.UP h = true → s.panel.wave[h] = some a → t.panel.rails[h] = (a.bandAt (s.band h)).rails (s.phaseOf s.frameAfter) (s.effI PDV.VCOM_TRIM.MV h)) ∧
      (∀ h : Fin 2, s.rdB PDV.RAIL_STS.UP h = false → t.panel.rails[h] = s.panel.rails[h]) ∧
      s.within t [.regs, .panel, .log, .sram] ([PDV.RAIL_STS.VCOM_CLAMP.key 0 0, PDV.RAIL_STS.VCOM_CLAMP.key 1 0] ++ logKeys PDV.PAGE ++ ((logKeys (PDV.PAGE + 1)))))) ∧
    (s.mode.raster = .weaver → 8642 ≤ s.clk.line.toNat → s.clk.line.toNat < s.vtotal - 6 → s.phaseOf s.frameAfter = 0 → gives .railChangeWindow s (fun t =>
      (∀ a : Waveform, ∀ h : Fin 2, s.rdB PDV.RAIL_STS.UP h = true → (s.panel.waveNext[h] <|> s.panel.wave[h]) = some a → t.panel.rails[h] = (a.bandAt (s.rd PDV.WV_STS.BAND_NEXT h)).rails 0 ((s.vcomStep h).rdI PDV.VCOM_TRIM.MV h)) ∧
      s.within t [.regs, .panel, .log, .sram] ([PDV.RAIL_STS.VCOM_CLAMP.key 0 0, PDV.RAIL_STS.VCOM_CLAMP.key 1 0] ++ logKeys PDV.PAGE ++ ((logKeys (PDV.PAGE + 1)))))) ∧
    (s.clk.line.toNat < 8642 → idle .railChangeWindow s) ∧
    (∀ (path : Path) (half : Fin 2) (v : BitVec 32), s.takes path (PDV.PAGE + half.val) 0x13C = true → s.mode.power = .sill → ((s.panel.wave[half]).all (fun w => w.gateOk (s.eff_ SCN.LINE_PER) (v.toNat % 4096)) = true) → gives (.gateCtlWrite path half v) s (fun t =>
      t.answered .ok ∧
      t.rd PDV.GATE_CTL.GATE_DLY half = v.toNat % 4096 ∧
      s.within t [.regs, .bus] [PDV.GATE_CTL.GATE_DLY.key half 0])) ∧
    (∀ (path : Path) (half : Fin 2) (v : BitVec 32) (w : Waveform), s.takes path (PDV.PAGE + half.val) 0x13C = true → s.mode.power = .sill → s.panel.wave[half] = some w → w.gateOk (s.eff_ SCN.LINE_PER) (v.toNat % 4096) = false → gives (.gateCtlWrite path half v) s (fun t =>
      t.answered .ignored ∧
      s.logged t (PDV.PAGE + half.val) 0x62 (fun a b => a = s.rd PDV.WF_CTL half ∧ b = v.toNat) ∧
      s.within t [.regs, .bus, .log, .sram] (((logKeys (PDV.PAGE + half.val)))))) ∧
    (∀ (path : Path) (half : Fin 2) (v : BitVec 32), s.takes path (PDV.PAGE + half.val) 0x13C = true → s.mode.power ≠ .sill → gives (.gateCtlWrite path half v) s (fun t =>
      t.answered .ignored ∧
      s.logged t SYS.PAGE 0x28 (fun a b => a = (PDV.PAGE + half.val) * 4096 + 0x13C + path.num * 2 ^ 24 ∧ b = v.toNat) ∧
      s.within t [.regs, .bus, .log, .sram] (logKeys SYS.PAGE))) ∧
    (∀ (path : Path) (half : Fin 2) (hi : Bool) (v : BitVec 32), (s.takes path (PDV.PAGE + half.val) (if hi = true then 0x108 else 0x104) = true) → s.mode.power = .sill → gives (.resAddrWrite path half hi v) s (fun t =>
      t.answered .ok ∧
      ((t.reg (regKey 0 (PDV.PAGE + half.val) (if hi = true then 0x108 else 0x104))).toNat = (if hi = true then v.toNat % 32 else v.toNat / 64 * 64)) ∧
      (s.within t [.regs, .bus] [regKey 0 (PDV.PAGE + half.val) (if hi = true then 0x108 else 0x104)]))) ∧
    (∀ (path : Path) (half : Fin 2) (hi : Bool) (v : BitVec 32), (s.takes path (PDV.PAGE + half.val) (if hi = true then 0x108 else 0x104) = true) → s.mode.power ≠ .sill → gives (.resAddrWrite path half hi v) s (fun t =>
      t.answered .ignored ∧
      s.within t [.regs, .bus, .log, .sram] (logKeys SYS.PAGE))) ∧
    (∀ (path : Path) (half : Fin 2) (x y c : Nat), s.shows path = true → x = s.rd PDV.RES_SEL.X half path.num → y = s.rd PDV.RES_SEL.Y half path.num → c = s.rd PDV.RES_SEL.C half path.num → x < 30720 → y < 8640 → c < 3 → s.hbmBad (s.resAddr half + dcOfs (x / 15360) y (3 * (x % 15360) + c)) 1 = false → s.hbmBad (s.resAddr half + dcOfs (x / 15360) y (3 * (x % 15360) + c) + pairOfs) 1 = false → gives (.resValRead path half) s (fun t =>
      t.answered .ok ∧
      t.bus.last.data = BitVec.ofNat 32 (leNat (s.hbmRd (s.resAddr half + dcOfs (x / 15360) y (3 * (x % 15360) + c)) 1) + 256 * leNat (s.hbmRd (s.resAddr half + dcOfs (x / 15360) y (3 * (x % 15360) + c) + 0x2F760000) 1)) ∧
      s.within t [.bus] []))

/-- The residue arithmetic, its write-back, discharge and the handover to Sill: With r the residue before the frame and
imb the pair's imbalance H - ho of a touched row, the new residue is r + pol_s imb held within +-127, moved one unit
toward zero when a bleed step is due off. The bleed step is 0 with bookkeeping off or below the threshold, else one
or two codes of the sign that works against the residue in the settle frame. A residue never leaves +-127. When the
H row has come, a touched row's residues are written back. DISCHARGE starts on a half whose rails are up at the
power-fail warning or a rail fault: rails down, the command ahead of each group's queue, every gate open. Its
samples keep the highest value and the verdict against THR; its end shows complete, incomplete or not run, raises
DIS_DONE with code 0x65 or 0x64. A reset or stop that waits hands the panel to Sill after a phase-3 frame. The
points the spec leaves open in it follow the model's own choices, log entries 76, 115, 116, 117, 179, 197, 226.
(R232, R234, R236, R201, R235, R237, R238, R239, R240, R243.) -/
def Obligations.DcAndDischarge : Prop :=
  ((∀ (pol imb r n : Int) (unit : Bool), (pol = 1 ∨ pol = -1) → -127 ≤ r → r ≤ 127 →
      let r1 := max (-127) (min 127 (r + pol * imb))
      settle pol imb r n unit = ((if n ≠ 0 ∧ unit = true then (if r < 0 then min 127 (r1 + 1) else max (-127) (r1 - 1)) else r1), decide (r1 ≠ r + pol * imb)) ∧
      -127 ≤ (settle pol imb r n unit).1 ∧ (settle pol imb r n unit).1 ≤ 127) ∧
    (∀ (ena : Bool) (thr depth pi : Nat) (pol r : Int), (pol = 1 ∨ pol = -1) →
      (bleed ena thr pol depth pi r).1 =
        (if ena = true ∧ thr ≤ r.natAbs then (if r < 0 then -pol else pol) * (if 2 * thr ≤ r.natAbs then 2 else 1) else 0)) ∧
    (∀ (ena : Bool) (thr depth pi : Nat) (pol imb r : Int), 8 ≤ thr → thr ≤ 126 → 8 < depth → (pol = 1 ∨ pol = -1) → -127 ≤ r → r ≤ 127 →
      (settle pol 0 r (bleed ena thr pol depth pi r).1 (bleed ena thr pol depth pi r).2).1.natAbs ≤ r.natAbs ∧
      ((bleed ena thr pol depth pi r).1 = 0 →
        -127 ≤ (settle pol imb r 0 (bleed ena thr pol depth pi r).2).1 ∧ (settle pol imb r 0 (bleed ena thr pol depth pi r).2).1 ≤ 127))) ∧
  (∀ s : State,
    (∀ (half : Fin 2) (line : Fin 8640) (pol : Int) (u : SettleSub), (tget (fun _ => (⟨0, []⟩ : RowDc)) s.panel.rowMark (rowKey half line.val) = ⟨pol, [u]⟩) → u.col < 46080 → s.role < 2 → (∀ r ∈ s.leaf.repairIn, ¬ (r.half = half.val ∧ r.line = line.val)) → s.resAddr half + dcOfs half line.val u.col < hbmSize → gives (.residueWriteback half line) s (fun t =>
      (s.hbmBad (s.resAddr half + dcOfs half line.val 0) 46080 = false → t.hbmRd (s.resAddr half + dcOfs half line.val u.col) 1 = (if (settle pol ((s.pairByte half line.val u.col u.ho : Int) - u.ho) u.r u.bleed u.unit).1 = u.r then s.hbmRd (s.resAddr half + dcOfs half line.val u.col) 1 else [BitVec.ofInt 8 (settle pol ((s.pairByte half line.val u.col u.ho : Int) - u.ho) u.r u.bleed u.unit).1])) ∧
      tget (fun _ => (⟨0, []⟩ : RowDc)) t.panel.rowMark (rowKey half line.val) = ⟨0, []⟩ ∧
      t.rd PDV.STAT_SAT half = min 0xFFFFFFFF (s.rd PDV.STAT_SAT half + b2n (settle pol ((s.pairByte half line.val u.col u.ho : Int) - u.ho) u.r u.bleed u.unit).2) ∧
      s.keeps t [.regs, .panel, .log, .mem, .scene, .frs, .leaf, .hbm, .sram])) ∧
    (∀ (half : Fin 2) (line : Fin 8640) (pol : Int), (tget (fun _ => (⟨0, []⟩ : RowDc)) s.panel.rowMark (rowKey half line.val) = ⟨pol, []⟩) → idle (.residueWriteback half line) s) ∧
    (∀ (half : Fin 2), s.rdB PDV.RAIL_STS.UP half = true → s.panel.dis[half].run = false → s.dischargeCause half ≠ 0 → gives (.dischargeStart half) s (fun t =>
      t.panel.dis[half] = ⟨true, s.dischargeCause half, true⟩ ∧
      t.panel.gatesOn[half] = false ∧
      t.panel.allGate[half] = !s.panel.presN[half] ∧
      t.rdB PDV.RAIL_STS.UP half = false ∧
      t.rd PDV.DIS_STS half = s.dischargeCause half * 4 ∧
      (∀ g : Fin 8, tget (fun _ => []) t.scan.ctrlQ (8 * half.val + g.val) = ⟨7, 0, 0, 0, []⟩ :: tget (fun _ => []) s.scan.ctrlQ (8 * half.val + g.val)) ∧
      (∀ g : Fin 2, g ≠ half → t.panel.dis[g] = s.panel.dis[g] ∧ t.panel.rails[g] = s.panel.rails[g]) ∧
      t.panel.rails[half].vcom = s.panel.rails[half].vcom ∧
      t.panel.rails[half].gma = s.panel.rails[half].gma.map (fun _ => s.panel.rails[half].vcom) ∧
      s.within t [.regs, .clk, .panel, .log, .scene, .frs, .scan, .tim, .sram] ([PDV.RAIL_STS.key half 0, PDV.DIS_STS.key half 0] ++ s.runKeys))) ∧
    (∀ (half : Fin 2), (s.rdB PDV.RAIL_STS.UP half = false ∨ s.panel.dis[half].run = true ∨ s.dischargeCause half = 0) → idle (.dischargeStart half) s) ∧
    (∀ (half : Fin 2) (mv : BitVec 16), s.panel.dis[half].run = true → gives (.dischargeSenseSample half mv) s (fun t =>
      t.rd PDV.DIS_STS.SENSE_MV half = max (s.rd PDV.DIS_STS.SENSE_MV half) mv.toNat ∧
      t.panel = { s.panel with dis := s.panel.dis.set half { s.panel.dis[half] with samplesOk := s.panel.dis[half].samplesOk && decide (mv.toNat < 10 * s.rd PDV.DIS_CTL.THR half) } } ∧
      s.within t [.regs, .panel] [PDV.DIS_STS.key half 0])) ∧
    (∀ (half : Fin 2) (stepsOk : Bool), s.panel.dis[half].run = true → s.anyRailsUp = true → s.modulePends = false → gives (.dischargeDone half stepsOk) s (fun t =>
      (t.rd PDV.DIS_STS.RESULT half = (if s.panel.presN[half] = true then 3 else if stepsOk = true ∧ s.panel.dis[half].samplesOk = true then 1 else 2)) ∧
      t.panel.dis[half] = DischargeSt.idle ∧
      t.panel.rails[half] = Rails.down ∧
      t.panel.allGate[half] = false ∧
      t.flag (PDV.PAGE + half.val) 2 ∧
      t.nvs.disRes[half] = BitVec.ofNat 32 (t.rd PDV.DIS_STS half) ∧
      s.keeps t [.regs, .panel, .log, .nvs, .sram])) ∧
    (∀ (half : Fin 2) (stepsOk : Bool), s.panel.dis[half].run = false → idle (.dischargeDone half stepsOk) s) ∧
    (s.mode.raster = .weaver → s.phase = 3 → s.clk.line.toNat + 1 = s.vtotal → s.panel.resetPend = some .warm → gives .sillHandover s (fun t =>
      t.mode.raster = .sill ∧
      t.mode.power = .sill ∧
      t.panel.resetPend = none ∧
      t.rd SCN.LOCK_STS.STATE = 0 ∧
      t.rd SYS.START_STS.STAGE = 5 ∧
      t.rd SYS.RST_CAUSE.CAUSE = 1 ∧
      t.ram.hbm = s.ram.hbm)) ∧
    (s.mode.raster = .weaver → s.phase = 3 → s.clk.line.toNat + 1 = s.vtotal → s.panel.resetPend = some .stop → gives .sillHandover s (fun t =>
      t.mode.raster = .sill ∧
      t.mode.power = .thermalStop ∧
      t.panel.resetPend = none ∧
      t.rd SCN.LOCK_STS.STATE = 0)) ∧
    (s.mode.raster = .weaver → s.phase = 3 → s.clk.line.toNat + 1 = s.vtotal → s.panel.resetPend = some .linkLost → gives .sillHandover s (fun t =>
      t.mode.raster = .sill ∧
      t.mode.power = .sill ∧
      t.panel.resetPend = none ∧
      t.rd SYS.START_STS.FAIL = 0x0801)) ∧
    ((s.mode.raster ≠ .weaver ∨ s.phase ≠ 3 ∨ s.clk.line.toNat + 1 ≠ s.vtotal ∨ s.panel.resetPend = none ∨ s.panel.resetPend = some .module) → idle .sillHandover s))

/-- The Weft's queue and controls: SQ_TAIL within the queue is taken, and SQ_BASE and SQ_SIZE with the engine off and
the queue empty; else the write is ignored with code 0x28. A list at the head starts at once with the frame in
progress as FS; a timed one waits for its frame, or starts late with code 0x79; an illegal descriptor is skipped
with code 0x7A, an unreadable one with 0x77, and neither leaves a list waiting. SQ_TAIL back at the head withdraws a
list that waits there. PAUSE holds at the next boundary; ABORT ends the list with code 0x7B. The points the spec
leaves open in it follow the model's own choices, log entry 141. (R245, R246, R247, R263, R264, R265.) -/
def Obligations.WeftQueue : Prop :=
  ∀ s : State,
    (∀ (path : Path) (v : BitVec 32), s.takes path WFT.PAGE 0x10C = true → v.toNat % 4096 < s.sqSize → gives (.weftSubmit path v) s (fun t =>
      t.answered .ok ∧
      t.rd WFT.SQ_TAIL.INDEX = v.toNat % 4096 ∧
      t.weft = { s.weft with waitFrame := s.weft.waitFrame && s.rd WFT.SQ_HEAD.INDEX != v.toNat % 4096 } ∧
      s.within t [.regs, .bus, .weft] [WFT.SQ_TAIL.INDEX.key 0 0, WFT.STS.key 0 0])) ∧
    (∀ (path : Path) (v : BitVec 32), s.takes path WFT.PAGE 0x10C = true → s.sqSize ≤ v.toNat % 4096 → gives (.weftSubmit path v) s (fun t =>
      t.answered .ignored ∧
      s.logged t SYS.PAGE 0x28 (fun a b => a = WFT.PAGE * 4096 + 0x10C + path.num * 2 ^ 24 ∧ b = v.toNat) ∧
      s.within t [.regs, .bus, .log, .sram] (logKeys SYS.PAGE))) ∧
    (∀ (path : Path) (r : Fin 3) (v : BitVec 32), s.takes path WFT.PAGE (0x100 + 4 * r.val) = true → s.rdB WFT.CTL.ENA = false → s.rd WFT.SQ_HEAD.INDEX = s.rd WFT.SQ_TAIL.INDEX → gives (.weftQueueWrite path r v) s (fun t =>
      t.answered .ok ∧
      (t.reg (regKey 0 WFT.PAGE (0x100 + 4 * r.val))).toNat = [v.toNat / 64 * 64, v.toNat % 32, v.toNat % 16].getD r.val 0 ∧
      s.within t [.regs, .bus] [regKey 0 WFT.PAGE (0x100 + 4 * r.val)])) ∧
    (∀ (path : Path) (r : Fin 3) (v : BitVec 32), s.takes path WFT.PAGE (0x100 + 4 * r.val) = true → (s.rdB WFT.CTL.ENA = true ∨ s.rd WFT.SQ_HEAD.INDEX ≠ s.rd WFT.SQ_TAIL.INDEX) → gives (.weftQueueWrite path r v) s (fun t =>
      t.answered .ignored ∧
      s.within t [.regs, .bus, .log, .sram] (logKeys SYS.PAGE))) ∧
    (∀ (path : Path) (v : BitVec 32), s.takes path WFT.PAGE 0x114 = true → bit v.toNat 2 = false → gives (.weftPause path v) s (fun t =>
      t.answered .ok ∧
      t.rdB WFT.CTL.PAUSE = true ∧
      t.rd WFT.CTL.ENA = v.toNat % 2 ∧
      t.rdB WFT.STS.PAUSED = (s.weft.list.isSome && s.weft.wait.isNone && s.weft.wmark.isNone) ∧
      s.within t [.regs, .bus] [WFT.CTL.key 0 0, WFT.STS.key 0 0])) ∧
    (∀ (path : Path) (v : BitVec 32) (l : WeftList), s.takes path WFT.PAGE 0x114 = true → s.weft.list = some l → s.weft.wait = none → s.weft.wmark = none → gives (.weftAbort path v) s (fun t =>
      t.answered .ok ∧
      t.weft = { s.weft with list := none, wait := none, wmark := none, abort := false } ∧
      t.rd WFT.LIST_DONE.ID = l.id % 2 ^ 32 ∧
      t.rd WFT.SQ_HEAD.INDEX = (s.rd WFT.SQ_HEAD.INDEX + 1) % s.sqSize ∧
      t.rd WFT.ERR.CODE = 0x7B ∧
      t.flag WFT.PAGE 1 ∧
      s.logged t WFT.PAGE 0x7B (fun a b => a = t.rd WFT.ERR ∧ b = l.id) ∧
      s.within t [.regs, .bus, .log, .weft, .sram] ([WFT.STAT_CMD.key 0 0, WFT.STS.key 0 0, WFT.LIST_DONE.ID.key 0 0, WFT.SQ_HEAD.INDEX.key 0 0, WFT.ERR.key 0 0, WFT.ERR_LIST.ID.key 0 0, WFT.CTL.key 0 0] ++ logKeys WFT.PAGE ++ eventKeys WFT.PAGE))) ∧
    (∀ (path : Path) (v : BitVec 32), s.takes path WFT.PAGE 0x114 = true → s.weft.list ≠ none → (s.weft.wait ≠ none ∨ s.weft.wmark ≠ none) → gives (.weftAbort path v) s (fun t =>
      t.answered .ok ∧
      t.weft = { s.weft with abort := true } ∧
      s.within t [.regs, .bus, .weft] [WFT.CTL.key 0 0, WFT.STS.key 0 0])) ∧
    (∀ (d : WeftDesc), s.headDesc = some d → s.isStandby = false → s.role ≠ 2 → d.timed = false → s.rdB WFT.CTL.PAUSE = false → gives .weftListStart s (fun t =>
      t.weft = { s.weft with list := some ⟨d.list, d.count, d.id, s.clk.frame.toNat, d.evt, 0, s.weft.listNo⟩, waitFrame := false, listNo := s.weft.listNo + 1, abort := false } ∧
      s.fieldsTo t (WFT.STS.key 0 0) [(WFT.STS.BUSY, 1), (WFT.STS.PAUSED, 0), (WFT.STS.WAITING, 0), (WFT.STS.CMD, 0)] ∧
      s.within t [.regs, .weft] [WFT.STS.key 0 0])) ∧
    (∀ (d : WeftDesc), s.headDesc = some d → s.isStandby = false → d.timed = true → sdiff32 s.clk.frame.toNat d.frame < 0 → gives .weftListStart s (fun t =>
      t.weft = { s.weft with waitFrame := true } ∧
      t.rdB WFT.STS.WAITING = true ∧
      s.within t [.regs, .weft] [WFT.STS.key 0 0])) ∧
    (∀ (d : WeftDesc), s.headDesc = some d → s.isStandby = false → s.role ≠ 2 → d.timed = true → 0 < sdiff32 s.clk.frame.toNat d.frame → s.weft.waitFrame = false → gives .weftListStart s (fun t =>
      t.weft.list = some ⟨d.list, d.count, d.id, d.frame, d.evt, 0, s.weft.listNo⟩ ∧
      s.logged t WFT.PAGE 0x79 (fun a b => a = d.frame ∧ b = d.id) ∧
      s.within t [.regs, .log, .weft, .sram] ([WFT.STS.key 0 0] ++ logKeys WFT.PAGE))) ∧
    (s.queueFree = true → s.headAddr + 32 ≤ hbmSize → s.firstBad s.headAddr 32 = none → (weftDesc (s.hbmRd s.headAddr 32)).2 = false → gives .weftListStart s (fun t =>
      t.weft = { s.weft with waitFrame := false } ∧
      t.rdB WFT.STS.WAITING = false ∧
      t.rd WFT.ERR.CODE = 0x7A ∧
      t.rd WFT.SQ_HEAD.INDEX = (s.rd WFT.SQ_HEAD.INDEX + 1) % s.sqSize ∧
      t.flag WFT.PAGE 1 ∧
      t.rd WFT.STAT_ERR = min 0xFFFFFFFF (s.rd WFT.STAT_ERR + 1) ∧
      s.within t [.regs, .log, .weft, .sram] ([WFT.STS.key 0 0, WFT.SQ_HEAD.INDEX.key 0 0, WFT.ERR.key 0 0, WFT.ERR_LIST.ID.key 0 0, WFT.STAT_ERR.key 0 0] ++ logKeys WFT.PAGE ++ eventKeys WFT.PAGE))) ∧
    (s.queueFree = true → (hbmSize < s.headAddr + 32 ∨ s.firstBad s.headAddr 32 ≠ none) → gives .weftListStart s (fun t =>
      t.weft = { s.weft with waitFrame := false } ∧
      t.rdB WFT.STS.WAITING = false ∧
      t.rd WFT.ERR.CODE = 0x77 ∧
      t.rd WFT.SQ_HEAD.INDEX = (s.rd WFT.SQ_HEAD.INDEX + 1) % s.sqSize ∧
      t.flag WFT.PAGE 1 ∧
      t.rd WFT.STAT_ERR = min 0xFFFFFFFF (s.rd WFT.STAT_ERR + 1) ∧
      s.keeps t [.regs, .log, .mem, .scene, .frs, .weft, .hbm, .sram])) ∧
    (s.queueFree = false → idle .weftListStart s)

/-- Commands without pixels, failing commands and burst completion: NOP and a WAIT whose band read has started move the
list to its next command, or end it with LIST_DONE and, for EVT, DONE. WAIT and WMARK otherwise hold the list; a
WMARK issued after its band read is late at once, with code 0x78. A command that fails its checks writes nothing:
ERR, STAT_ERR, its record, and the list ends. The oldest burst reaches memory; to a plane it is forwarded, marks the
tile dirty and counts, and it is dropped with code 0x76 when the epoch has changed. The points the spec leaves open
in it follow the model's own choices, log entries 139, 140, 141. (R247, R249, R257, R258, R260, R261, R263.) -/
def Obligations.WeftFlow : Prop :=
  ∀ s : State,
    (∀ (l : WeftList), s.weftDue = some l → (s.cmdAt l).op = 0 → (s.cmdAt l).fieldsOk = true → l.cmd + 1 < l.count → s.weft.abort = false → gives .weftNop s (fun t =>
      t.rd WFT.STAT_CMD = min 0xFFFFFFFF (s.rd WFT.STAT_CMD + 1) ∧
      t.weft = { s.weft with list := some { l with cmd := l.cmd + 1 } } ∧
      t.rd WFT.STS.CMD = (l.cmd + 1) % 65536 ∧
      s.within t [.regs, .weft] [WFT.STAT_CMD.key 0 0, WFT.STS.key 0 0])) ∧
    (∀ (l : WeftList), s.weftDue = some l → (s.cmdAt l).op = 0 → (s.cmdAt l).fieldsOk = true → l.count ≤ l.cmd + 1 → gives .weftNop s (fun t =>
      t.rd WFT.STAT_CMD = min 0xFFFFFFFF (s.rd WFT.STAT_CMD + 1) ∧
      t.weft = { s.weft with list := none, wait := none, wmark := none, abort := false } ∧
      t.rd WFT.LIST_DONE.ID = l.id % 2 ^ 32 ∧
      t.rd WFT.SQ_HEAD.INDEX = (s.rd WFT.SQ_HEAD.INDEX + 1) % s.sqSize ∧
      t.rdB WFT.STS.BUSY = false ∧
      ((l.evt = true → t.flag WFT.PAGE 0)) ∧
      s.within t [.regs, .log, .weft, .sram] ([WFT.STAT_CMD.key 0 0, WFT.STS.key 0 0, WFT.LIST_DONE.ID.key 0 0, WFT.SQ_HEAD.INDEX.key 0 0] ++ eventKeys WFT.PAGE))) ∧
    (∀ (l : WeftList), s.weftDue = some l → 9 < (s.cmdAt l).op → gives .weftNop s (fun t =>
      t.weft = { s.weft with list := none, wait := none, wmark := none, abort := false } ∧
      t.rd WFT.ERR.CODE = 0x70 ∧
      t.flag WFT.PAGE 1 ∧
      t.rd WFT.STAT_ERR = min 0xFFFFFFFF (s.rd WFT.STAT_ERR + 1) ∧
      s.within t [.regs, .log, .weft, .sram] ([WFT.STAT_CMD.key 0 0, WFT.STS.key 0 0, WFT.LIST_DONE.ID.key 0 0, WFT.SQ_HEAD.INDEX.key 0 0, WFT.ERR.key 0 0, WFT.ERR_LIST.ID.key 0 0, WFT.STAT_ERR.key 0 0] ++ logKeys WFT.PAGE ++ eventKeys WFT.PAGE))) ∧
    (s.weft.list = none → idle .weftNop s) ∧
    (∀ (l : WeftList) (e : Nat), s.weftDue = some l → (s.cmdAt l).op = 2 → failureOf (s.weftCheck (s.cmdAt l)) = some e → gives .weftFill s (fun t =>
      t.weft.list = none ∧
      t.weft.bursts = s.weft.bursts ∧
      t.rd WFT.ERR.CODE = e % 256 ∧
      t.rd WFT.ERR.CMD = l.cmd % 65536 ∧
      t.rd WFT.ERR_LIST.ID = l.id % 2 ^ 32 ∧
      s.logged t WFT.PAGE e (fun a b => a = t.rd WFT.ERR ∧ b = l.id) ∧
      s.within t [.regs, .log, .weft, .sram] ([WFT.STAT_CMD.key 0 0, WFT.STS.key 0 0, WFT.LIST_DONE.ID.key 0 0, WFT.SQ_HEAD.INDEX.key 0 0, WFT.ERR.key 0 0, WFT.ERR_LIST.ID.key 0 0, WFT.STAT_ERR.key 0 0] ++ logKeys WFT.PAGE ++ eventKeys WFT.PAGE))) ∧
    (∀ (l : WeftList), s.weftDue = some l → (s.cmdAt l).op = 8 → (s.cmdAt l).fieldsOk = true → bits (s.cmdAt l).arg 13 0 ≤ 8639 → s.bandReadPast (bits (s.cmdAt l).arg 13 0) (l.frameOf (s.cmdAt l)) = false → gives .weftWait s (fun t =>
      t.weft = { s.weft with wait := some (bits (s.cmdAt l).arg 13 0, BitVec.ofNat 32 (l.frameOf (s.cmdAt l))) } ∧
      t.rdB WFT.STS.WAITING = true ∧
      s.within t [.regs, .weft] [WFT.STS.key 0 0])) ∧
    (∀ (l : WeftList), s.weftDue = some l → (s.cmdAt l).op = 8 → (s.cmdAt l).fieldsOk = true → bits (s.cmdAt l).arg 13 0 ≤ 8639 → s.bandReadPast (bits (s.cmdAt l).arg 13 0) (l.frameOf (s.cmdAt l)) = true → l.cmd + 1 < l.count → s.weft.abort = false → gives .weftWait s (fun t =>
      t.rd WFT.STAT_CMD = min 0xFFFFFFFF (s.rd WFT.STAT_CMD + 1) ∧
      t.weft = { s.weft with list := some { l with cmd := l.cmd + 1 } } ∧
      s.within t [.regs, .weft] [WFT.STAT_CMD.key 0 0, WFT.STS.key 0 0])) ∧
    (∀ (l : WeftList) (line : Nat) (f : BitVec 32), s.weft.wait = some (line, f) → s.weft.list = some l → s.bandReadPast line f.toNat = true → l.cmd + 1 < l.count → s.weft.abort = false → gives .weftWaitEnd s (fun t =>
      t.rd WFT.STAT_CMD = min 0xFFFFFFFF (s.rd WFT.STAT_CMD + 1) ∧
      t.weft = { s.weft with wait := none, list := some { l with cmd := l.cmd + 1 } } ∧
      t.rdB WFT.STS.WAITING = false ∧
      s.within t [.regs, .weft] [WFT.STAT_CMD.key 0 0, WFT.STS.key 0 0])) ∧
    (∀ (line : Nat) (f : BitVec 32), s.weft.wait = some (line, f) → s.bandReadPast line f.toNat = false → idle .weftWaitEnd s) ∧
    (∀ (l : WeftList), s.weftDue = some l → (s.cmdAt l).op = 9 → (s.cmdAt l).fieldsOk = true → bits (s.cmdAt l).arg 13 0 ≤ 8639 → s.bandReadPast (bits (s.cmdAt l).arg 13 0) (l.frameOf (s.cmdAt l)) = false → gives .weftWmark s (fun t =>
      t.weft = { s.weft with wmark := some (bits (s.cmdAt l).arg 13 0, bits (s.cmdAt l).arg 23 16), marks := s.weft.marks ++ [⟨bits (s.cmdAt l).arg 13 0, l.frameOf (s.cmdAt l), bits (s.cmdAt l).arg 23 16, none⟩] } ∧
      s.within t [.weft] [])) ∧
    (∀ (l : WeftList), s.weftDue = some l → (s.cmdAt l).op = 9 → (s.cmdAt l).fieldsOk = true → bits (s.cmdAt l).arg 13 0 ≤ 8639 → s.bandReadPast (bits (s.cmdAt l).arg 13 0) (l.frameOf (s.cmdAt l)) = true → gives .weftWmark s (fun t =>
      t.weft = { s.weft with wmark := some (bits (s.cmdAt l).arg 13 0, bits (s.cmdAt l).arg 23 16) } ∧
      t.rdB WFT.WM_STS.LATE = true ∧
      t.rd WFT.STAT_LATE = min 0xFFFFFFFF (s.rd WFT.STAT_LATE + 1) ∧
      t.flag WFT.PAGE 2 ∧
      s.logged t WFT.PAGE 0x78 (fun a _ => a = bits (s.cmdAt l).arg 13 0 + 2 ^ 14 + bits (s.cmdAt l).arg 23 16 * 2 ^ 16) ∧
      s.within t [.regs, .log, .weft, .sram] ([WFT.WM_STS.FREL.key 0 0, WFT.STAT_LATE.key 0 0] ++ logKeys WFT.PAGE ++ eventKeys WFT.PAGE))) ∧
    (∀ (l : WeftList) (line frel : Nat), s.weft.wmark = some (line, frel) → s.weft.list = some l → s.weft.bursts = [] → gives .wmarkReached s (fun t =>
      t.rd WFT.STAT_CMD = min 0xFFFFFFFF (s.rd WFT.STAT_CMD + 1) ∧
      t.weft.wmark = none ∧
      s.fieldsTo t (WFT.WM_STS.FREL.key 0 0) [(WFT.WM_STS.LINE, line), (WFT.WM_STS.FREL, frel), (WFT.WM_STS.LATE, b2n (!s.weft.marks.any (fun m => m.line == line && m.frel == frel && m.frame == (l.fs + frel) % 2 ^ 32 && m.reached.isNone)))] ∧
      s.within t [.regs, .log, .weft, .sram] ([WFT.STAT_CMD.key 0 0, WFT.STS.key 0 0, WFT.LIST_DONE.ID.key 0 0, WFT.SQ_HEAD.INDEX.key 0 0, WFT.ERR.key 0 0, WFT.ERR_LIST.ID.key 0 0, WFT.WM_STS.FREL.key 0 0] ++ logKeys WFT.PAGE ++ eventKeys WFT.PAGE))) ∧
    (s.weft.bursts ≠ [] → idle .wmarkReached s) ∧
    (∀ (b : Burst) (rest : List Burst), s.weft.bursts = b :: rest → s.mem.sealed = false → b.plane = none → gives .weftBurstComplete s (fun t =>
      t.weft = { s.weft with bursts := rest } ∧
      t.hbmRd b.addr b.bytes.length = b.bytes ∧
      (∀ a, (a < b.addr ∨ b.addr + b.bytes.length ≤ a) → tget memDefault t.ram.hbm a = tget memDefault s.ram.hbm a) ∧
      s.within t [.weft, .hbm] [])) ∧
    (∀ (b : Burst) (rest : List Burst) (q : BurstPlane) (p : Plane), s.weft.bursts = b :: rest → s.mem.sealed = false → s.leaf.sched = [] → b.plane = some q → s.plane q.plane = some p → s.epochOf q.plane = q.epoch → gives .weftBurstComplete s (fun t =>
      t.weft = { s.weft with bursts := rest, wg := s.weft.wg + 1 } ∧
      t.hbmRd b.addr b.bytes.length = b.bytes ∧
      t.scene.dirty = (s.setDirty q.handle).scene.dirty ∧
      (∀ k, t.entryRaw k = s.entryRaw k) ∧
      (∀ a, (a < b.addr ∨ b.addr + b.bytes.length ≤ a) → tget memDefault t.ram.hbm a = tget memDefault s.ram.hbm a) ∧
      s.within t [.regs, .scene, .wv, .frs, .weft, .leaf, .hbm] [FRS.BOUND.BE.key 0 0, FRS.NOW.T.key 0 0])) ∧
    (∀ (b : Burst) (q : BurstPlane), s.weft.bursts = [b] → s.mem.sealed = false → s.leaf.sched = [] → b.plane = some q → s.epochOf q.plane ≠ q.epoch → gives .weftBurstComplete s (fun t =>
      t.weft.bursts = [] ∧
      t.ram = { s.ram with sram := t.ram.sram } ∧
      t.rd WFT.ERR.CODE = 0x76 ∧
      t.flag WFT.PAGE 1 ∧
      s.within t [.regs, .log, .weft, .sram] ([WFT.STAT_CMD.key 0 0, WFT.STS.key 0 0, WFT.LIST_DONE.ID.key 0 0, WFT.SQ_HEAD.INDEX.key 0 0, WFT.ERR.key 0 0, WFT.ERR_LIST.ID.key 0 0, WFT.STAT_ERR.key 0 0] ++ logKeys WFT.PAGE ++ eventKeys WFT.PAGE))) ∧
    ((s.weft.bursts = [] ∨ s.mem.sealed = true) → idle .weftBurstComplete s) ∧
    (∀ (l : WeftList) (d r : Surf) (i : Nat) (p : Plane), s.weftDue = some l → (s.cmdAt l).op = 1 → s.weftReady (s.cmdAt l) = some (d, r) → d.plane = some (i, p) → gives .weftCopy s (fun t =>
      t.rd WFT.STAT_CMD = min 0xFFFFFFFF (s.rd WFT.STAT_CMD + 1) ∧
      t.ram.hbm = s.ram.hbm ∧
      (∀ a ∈ t.weft.bursts, a ∈ s.weft.bursts ∨ (a.plane.map (fun q => (q.plane, q.epoch)) = some (i, s.epochOf i) ∧ a.addr / 64 = (a.addr + a.bytes.length - 1) / 64 ∧ a.no = l.no ∧ a.cmd = l.cmd)) ∧
      s.within t [.regs, .log, .weft, .sram] ([WFT.STAT_CMD.key 0 0, WFT.STS.key 0 0, WFT.LIST_DONE.ID.key 0 0, WFT.SQ_HEAD.INDEX.key 0 0, WFT.ERR.key 0 0, WFT.ERR_LIST.ID.key 0 0] ++ logKeys WFT.PAGE ++ eventKeys WFT.PAGE))) ∧
    (∀ (l : WeftList) (d r : Surf) (i : Nat) (p : Plane), s.weftDue = some l → (s.cmdAt l).op = 2 → s.weftReady (s.cmdAt l) = some (d, r) → d.plane = some (i, p) → gives .weftFill s (fun t =>
      t.rd WFT.STAT_CMD = min 0xFFFFFFFF (s.rd WFT.STAT_CMD + 1) ∧
      t.ram.hbm = s.ram.hbm ∧
      (∀ a ∈ t.weft.bursts, a ∈ s.weft.bursts ∨ (a.plane.map (fun q => (q.plane, q.epoch)) = some (i, s.epochOf i) ∧ a.addr / 64 = (a.addr + a.bytes.length - 1) / 64 ∧ a.no = l.no ∧ a.cmd = l.cmd)) ∧
      s.within t [.regs, .log, .weft, .sram] ([WFT.STAT_CMD.key 0 0, WFT.STS.key 0 0, WFT.LIST_DONE.ID.key 0 0, WFT.SQ_HEAD.INDEX.key 0 0, WFT.ERR.key 0 0, WFT.ERR_LIST.ID.key 0 0] ++ logKeys WFT.PAGE ++ eventKeys WFT.PAGE))) ∧
    (∀ (l : WeftList) (d r : Surf) (i : Nat) (p : Plane), s.weftDue = some l → (s.cmdAt l).op = 3 → s.weftReady (s.cmdAt l) = some (d, r) → d.plane = some (i, p) → gives .weftPfill s (fun t =>
      t.rd WFT.STAT_CMD = min 0xFFFFFFFF (s.rd WFT.STAT_CMD + 1) ∧
      t.ram.hbm = s.ram.hbm ∧
      (∀ a ∈ t.weft.bursts, a ∈ s.weft.bursts ∨ (a.plane.map (fun q => (q.plane, q.epoch)) = some (i, s.epochOf i) ∧ a.addr / 64 = (a.addr + a.bytes.length - 1) / 64 ∧ a.no = l.no ∧ a.cmd = l.cmd)) ∧
      s.within t [.regs, .log, .weft, .sram] ([WFT.STAT_CMD.key 0 0, WFT.STS.key 0 0, WFT.LIST_DONE.ID.key 0 0, WFT.SQ_HEAD.INDEX.key 0 0, WFT.ERR.key 0 0, WFT.ERR_LIST.ID.key 0 0] ++ logKeys WFT.PAGE ++ eventKeys WFT.PAGE))) ∧
    (∀ (l : WeftList) (d r : Surf) (i : Nat) (p : Plane), s.weftDue = some l → (s.cmdAt l).op = 4 → s.weftReady (s.cmdAt l) = some (d, r) → d.plane = some (i, p) → gives .weftLine s (fun t =>
      t.rd WFT.STAT_CMD = min 0xFFFFFFFF (s.rd WFT.STAT_CMD + 1) ∧
      t.ram.hbm = s.ram.hbm ∧
      (∀ a ∈ t.weft.bursts, a ∈ s.weft.bursts ∨ (a.plane.map (fun q => (q.plane, q.epoch)) = some (i, s.epochOf i) ∧ a.addr / 64 = (a.addr + a.bytes.length - 1) / 64 ∧ a.no = l.no ∧ a.cmd = l.cmd)) ∧
      s.within t [.regs, .log, .weft, .sram] ([WFT.STAT_CMD.key 0 0, WFT.STS.key 0 0, WFT.LIST_DONE.ID.key 0 0, WFT.SQ_HEAD.INDEX.key 0 0, WFT.ERR.key 0 0, WFT.ERR_LIST.ID.key 0 0] ++ logKeys WFT.PAGE ++ eventKeys WFT.PAGE))) ∧
    (∀ (l : WeftList) (d r : Surf) (i : Nat) (p : Plane), s.weftDue = some l → (s.cmdAt l).op = 5 → s.weftReady (s.cmdAt l) = some (d, r) → d.plane = some (i, p) → gives .weftBlend s (fun t =>
      t.rd WFT.STAT_CMD = min 0xFFFFFFFF (s.rd WFT.STAT_CMD + 1) ∧
      t.ram.hbm = s.ram.hbm ∧
      (∀ a ∈ t.weft.bursts, a ∈ s.weft.bursts ∨ (a.plane.map (fun q => (q.plane, q.epoch)) = some (i, s.epochOf i) ∧ a.addr / 64 = (a.addr + a.bytes.length - 1) / 64 ∧ a.no = l.no ∧ a.cmd = l.cmd)) ∧
      s.within t [.regs, .log, .weft, .sram] ([WFT.STAT_CMD.key 0 0, WFT.STS.key 0 0, WFT.LIST_DONE.ID.key 0 0, WFT.SQ_HEAD.INDEX.key 0 0, WFT.ERR.key 0 0, WFT.ERR_LIST.ID.key 0 0] ++ logKeys WFT.PAGE ++ eventKeys WFT.PAGE))) ∧
    (∀ (l : WeftList) (d r : Surf) (i : Nat) (p : Plane), s.weftDue = some l → (s.cmdAt l).op = 6 → s.weftReady (s.cmdAt l) = some (d, r) → d.plane = some (i, p) → gives .weftScroll s (fun t =>
      t.rd WFT.STAT_CMD = min 0xFFFFFFFF (s.rd WFT.STAT_CMD + 1) ∧
      t.ram.hbm = s.ram.hbm ∧
      (∀ a ∈ t.weft.bursts, a ∈ s.weft.bursts ∨ (a.plane.map (fun q => (q.plane, q.epoch)) = some (i, s.epochOf i) ∧ a.addr / 64 = (a.addr + a.bytes.length - 1) / 64 ∧ a.no = l.no ∧ a.cmd = l.cmd)) ∧
      s.within t [.regs, .log, .weft, .sram] ([WFT.STAT_CMD.key 0 0, WFT.STS.key 0 0, WFT.LIST_DONE.ID.key 0 0, WFT.SQ_HEAD.INDEX.key 0 0, WFT.ERR.key 0 0, WFT.ERR_LIST.ID.key 0 0] ++ logKeys WFT.PAGE ++ eventKeys WFT.PAGE))) ∧
    (∀ (l : WeftList) (d r : Surf) (i : Nat) (p : Plane), s.weftDue = some l → (s.cmdAt l).op = 7 → s.weftReady (s.cmdAt l) = some (d, r) → d.plane = some (i, p) → gives .weftConvert s (fun t =>
      t.rd WFT.STAT_CMD = min 0xFFFFFFFF (s.rd WFT.STAT_CMD + 1) ∧
      t.ram.hbm = s.ram.hbm ∧
      (∀ a ∈ t.weft.bursts, a ∈ s.weft.bursts ∨ (a.plane.map (fun q => (q.plane, q.epoch)) = some (i, s.epochOf i) ∧ a.addr / 64 = (a.addr + a.bytes.length - 1) / 64 ∧ a.no = l.no ∧ a.cmd = l.cmd)) ∧
      s.within t [.regs, .log, .weft, .sram] ([WFT.STAT_CMD.key 0 0, WFT.STS.key 0 0, WFT.LIST_DONE.ID.key 0 0, WFT.SQ_HEAD.INDEX.key 0 0, WFT.ERR.key 0 0, WFT.ERR_LIST.ID.key 0 0] ++ logKeys WFT.PAGE ++ eventKeys WFT.PAGE)))

/-- What the drawing commands leave in a raw surface: For raw surfaces and every legal command, overlapping copies
included: FILL, PFILL and LINE leave the converted colour in exactly their pixels, COPY the source rectangle as it
was before, CONVERT and BLEND the converted and blended pixels, SCROLL the moved content with COLOUR0 where nothing
moved to. Every other byte stays, and memory itself changes only as the bursts complete. The points the spec leaves
open in it follow the model's own choices, log entry 140. (R249, R250, R251, R252, R253, R254, R255, R257, R259.) -/
def Obligations.WeftPixels : Prop :=
  ∀ s : State,
    (∀ (l : WeftList) (d r : Surf), s.weftDue = some l → (s.cmdAt l).op = 2 → s.weftReady (s.cmdAt l) = some (d, r) → d.plane = none → r.plane = none → gives .weftFill s (fun t =>
      t.rd WFT.STAT_CMD = min 0xFFFFFFFF (s.rd WFT.STAT_CMD + 1) ∧
      s.draws t d (s.cmdAt l).inRect (fun _ _ => pixBytes d.fmt (pixConv 4 d.fmt (s.cmdAt l).c0)) ∧
      t.ram.hbm = s.ram.hbm ∧
      t.rd WFT.STAT_ERR = s.rd WFT.STAT_ERR ∧
      s.within t [.regs, .log, .weft, .sram] ([WFT.STAT_CMD.key 0 0, WFT.STS.key 0 0, WFT.LIST_DONE.ID.key 0 0, WFT.SQ_HEAD.INDEX.key 0 0, WFT.ERR.key 0 0, WFT.ERR_LIST.ID.key 0 0] ++ logKeys WFT.PAGE ++ eventKeys WFT.PAGE))) ∧
    (∀ (l : WeftList) (d r : Surf), s.weftDue = some l → (s.cmdAt l).op = 3 → s.weftReady (s.cmdAt l) = some (d, r) → d.plane = none → r.plane = none → gives .weftPfill s (fun t =>
      t.rd WFT.STAT_CMD = min 0xFFFFFFFF (s.rd WFT.STAT_CMD + 1) ∧
      (s.draws t d (s.cmdAt l).inRect (fun x y => if bit (s.cmdAt l).pat (8 * (y % 8) + x % 8) = true then pixBytes d.fmt (pixConv 4 d.fmt (s.cmdAt l).c1) else if bit (s.cmdAt l).flags 2 = true then rawPixel s.weftView d x y else pixBytes d.fmt (pixConv 4 d.fmt (s.cmdAt l).c0))) ∧
      t.ram.hbm = s.ram.hbm ∧
      t.rd WFT.STAT_ERR = s.rd WFT.STAT_ERR ∧
      s.within t [.regs, .log, .weft, .sram] ([WFT.STAT_CMD.key 0 0, WFT.STS.key 0 0, WFT.LIST_DONE.ID.key 0 0, WFT.SQ_HEAD.INDEX.key 0 0, WFT.ERR.key 0 0, WFT.ERR_LIST.ID.key 0 0] ++ logKeys WFT.PAGE ++ eventKeys WFT.PAGE))) ∧
    (∀ (l : WeftList) (d r : Surf), s.weftDue = some l → (s.cmdAt l).op = 4 → s.weftReady (s.cmdAt l) = some (d, r) → d.plane = none → r.plane = none → gives .weftLine s (fun t =>
      t.rd WFT.STAT_CMD = min 0xFFFFFFFF (s.rd WFT.STAT_CMD + 1) ∧
      s.draws t d (fun x y => (x, y) ∈ linePts (s.cmdAt l).dx (s.cmdAt l).dy (s.cmdAt l).sx (s.cmdAt l).sy) (fun _ _ => pixBytes d.fmt (pixConv 4 d.fmt (s.cmdAt l).c0)) ∧
      t.ram.hbm = s.ram.hbm ∧
      t.rd WFT.STAT_ERR = s.rd WFT.STAT_ERR ∧
      s.within t [.regs, .log, .weft, .sram] ([WFT.STAT_CMD.key 0 0, WFT.STS.key 0 0, WFT.LIST_DONE.ID.key 0 0, WFT.SQ_HEAD.INDEX.key 0 0, WFT.ERR.key 0 0, WFT.ERR_LIST.ID.key 0 0] ++ logKeys WFT.PAGE ++ eventKeys WFT.PAGE))) ∧
    (∀ (l : WeftList) (d r : Surf), s.weftDue = some l → (s.cmdAt l).op = 1 → s.weftReady (s.cmdAt l) = some (d, r) → d.plane = none → r.plane = none → gives .weftCopy s (fun t =>
      t.rd WFT.STAT_CMD = min 0xFFFFFFFF (s.rd WFT.STAT_CMD + 1) ∧
      s.draws t d (s.cmdAt l).inRect (fun x y => rawPixel s.weftView r (x - (s.cmdAt l).dx + (s.cmdAt l).sx) (y - (s.cmdAt l).dy + (s.cmdAt l).sy)) ∧
      t.ram.hbm = s.ram.hbm ∧
      t.rd WFT.STAT_ERR = s.rd WFT.STAT_ERR ∧
      s.within t [.regs, .log, .weft, .sram] ([WFT.STAT_CMD.key 0 0, WFT.STS.key 0 0, WFT.LIST_DONE.ID.key 0 0, WFT.SQ_HEAD.INDEX.key 0 0, WFT.ERR.key 0 0, WFT.ERR_LIST.ID.key 0 0] ++ logKeys WFT.PAGE ++ eventKeys WFT.PAGE))) ∧
    (∀ (l : WeftList) (d r : Surf), s.weftDue = some l → (s.cmdAt l).op = 7 → s.weftReady (s.cmdAt l) = some (d, r) → d.plane = none → r.plane = none → gives .weftConvert s (fun t =>
      t.rd WFT.STAT_CMD = min 0xFFFFFFFF (s.rd WFT.STAT_CMD + 1) ∧
      s.draws t d (s.cmdAt l).inRect (fun x y => pixBytes d.fmt (pixConv r.fmt d.fmt (leNat (rawPixel s.weftView r (x - (s.cmdAt l).dx + (s.cmdAt l).sx) (y - (s.cmdAt l).dy + (s.cmdAt l).sy))))) ∧
      t.ram.hbm = s.ram.hbm ∧
      t.rd WFT.STAT_ERR = s.rd WFT.STAT_ERR ∧
      s.within t [.regs, .log, .weft, .sram] ([WFT.STAT_CMD.key 0 0, WFT.STS.key 0 0, WFT.LIST_DONE.ID.key 0 0, WFT.SQ_HEAD.INDEX.key 0 0, WFT.ERR.key 0 0, WFT.ERR_LIST.ID.key 0 0] ++ logKeys WFT.PAGE ++ eventKeys WFT.PAGE))) ∧
    (∀ (l : WeftList) (d r : Surf), s.weftDue = some l → (s.cmdAt l).op = 5 → s.weftReady (s.cmdAt l) = some (d, r) → d.plane = none → r.plane = none → gives .weftBlend s (fun t =>
      t.rd WFT.STAT_CMD = min 0xFFFFFFFF (s.rd WFT.STAT_CMD + 1) ∧
      s.draws t d (s.cmdAt l).inRect (fun x y => pixBytes d.fmt (blendPix r.fmt d.fmt (s.cmdAt l).arg (leNat (rawPixel s.weftView r (x - (s.cmdAt l).dx + (s.cmdAt l).sx) (y - (s.cmdAt l).dy + (s.cmdAt l).sy))) (leNat (rawPixel s.weftView d x y)))) ∧
      t.ram.hbm = s.ram.hbm ∧
      t.rd WFT.STAT_ERR = s.rd WFT.STAT_ERR ∧
      s.within t [.regs, .log, .weft, .sram] ([WFT.STAT_CMD.key 0 0, WFT.STS.key 0 0, WFT.LIST_DONE.ID.key 0 0, WFT.SQ_HEAD.INDEX.key 0 0, WFT.ERR.key 0 0, WFT.ERR_LIST.ID.key 0 0] ++ logKeys WFT.PAGE ++ eventKeys WFT.PAGE))) ∧
    (∀ (l : WeftList) (d r : Surf), s.weftDue = some l → (s.cmdAt l).op = 6 → s.weftReady (s.cmdAt l) = some (d, r) → d.plane = none → r.plane = none → gives .weftScroll s (fun t =>
      t.rd WFT.STAT_CMD = min 0xFFFFFFFF (s.rd WFT.STAT_CMD + 1) ∧
      (s.draws t d (s.cmdAt l).inRect (fun x y => let u : Int := (x : Int) - sgn 16 (s.cmdAt l).arg; let w : Int := (y : Int) - sgn 16 ((s.cmdAt l).arg / 65536); if ((s.cmdAt l).dx : Int) ≤ u ∧ u < ((s.cmdAt l).dx + (s.cmdAt l).w : Nat) ∧ ((s.cmdAt l).dy : Int) ≤ w ∧ w < ((s.cmdAt l).dy + (s.cmdAt l).h : Nat) then rawPixel s.weftView d u.toNat w.toNat else pixBytes d.fmt (pixConv 4 d.fmt (s.cmdAt l).c0))) ∧
      t.ram.hbm = s.ram.hbm ∧
      t.rd WFT.STAT_ERR = s.rd WFT.STAT_ERR ∧
      s.within t [.regs, .log, .weft, .sram] ([WFT.STAT_CMD.key 0 0, WFT.STS.key 0 0, WFT.LIST_DONE.ID.key 0 0, WFT.SQ_HEAD.INDEX.key 0 0, WFT.ERR.key 0 0, WFT.ERR_LIST.ID.key 0 0] ++ logKeys WFT.PAGE ++ eventKeys WFT.PAGE)))

/-- Refresh, row-disturbance protection, scrub and their registers: The first bank of the rotation that no queued
Real-time block needs is refreshed for 384 wc, behind the block that holds it, and goes last; those skipped before
it are postponed, and after eight times refreshed at a slice boundary, with REF_LATE and code 0x84. Neighbour
refreshes of rows r - 1 and r + 1 run from their queue, never in a Real-time slice; tables clear. SLICES takes
effect at a round boundary once line 0 has started. RD_CTL keeps MODE outside Sill with code 0x8B. Scrub goes on
block by block and retries an uncorrectable read; an hour above COR_THR raises COR_RATE. The points the spec leaves
open in it follow the model's own choices, log entries 53, 57, 62, 213. (R275, R276, R277, R278, R279, R280, R282,
R289, R290.) -/
def Obligations.RefreshAndScrub : Prop :=
  ∀ s : State,
    (∀ (pc : Fin 128) (b : Nat), s.mem.sealed = false → (s.rotation pc).Nodup → (((s.rotation pc).filter (fun b => !tget (fun _ => false) s.mem.forced (bankKey pc.val b))).find? (fun b => !s.bankNeeded pc b) = some b) → gives (.bankRefresh pc) s (fun t =>
      tget (fun _ => 0) t.mem.refBusy (bankKey pc.val b) = max s.clk.now (max (tget (fun _ => 0) s.mem.rtBusy (bankKey pc.val b)) (tget (fun _ => 0) s.mem.nrBusy (bankKey pc.val b))) + 384 ∧
      tget (fun _ => none) t.mem.openRow (bankKey pc.val b) = none ∧
      tget (fun _ => 0) t.mem.postponed (bankKey pc.val b) = 0 ∧
      t.rotation pc = (s.rotation pc).erase b ++ [b] ∧
      tget (fun _ => false) t.mem.forced (bankKey pc.val b) = false ∧
      (∀ k ∈ ((s.rotation pc).filter (fun b => !tget (fun _ => false) s.mem.forced (bankKey pc.val b))).takeWhile (s.bankNeeded pc), tget (fun _ => 0) t.mem.postponed (bankKey pc.val k) = min 8 (tget (fun _ => 0) s.mem.postponed (bankKey pc.val k) + 1) ∧ (7 ≤ tget (fun _ => 0) s.mem.postponed (bankKey pc.val k) → tget (fun _ => false) t.mem.forced (bankKey pc.val k) = true)) ∧
      s.within t [.mem] [])) ∧
    (∀ (pc : Fin 128) (b : Nat), s.mem.sealed = false → (((s.rotation pc).filter (fun b => !tget (fun _ => false) s.mem.forced (bankKey pc.val b))).head? = some b) → (((s.rotation pc).filter (fun b => !tget (fun _ => false) s.mem.forced (bankKey pc.val b))).all (s.bankNeeded pc) = true) → gives (.bankRefresh pc) s (fun t =>
      tget (fun _ => 0) t.mem.refBusy (bankKey pc.val b) = max s.clk.now (max (tget (fun _ => 0) s.mem.rtBusy (bankKey pc.val b)) (tget (fun _ => 0) s.mem.nrBusy (bankKey pc.val b))) + 384 ∧
      tget (fun _ => none) t.mem.openRow (bankKey pc.val b) = none ∧
      tget (fun _ => 0) t.mem.postponed (bankKey pc.val b) = 0 ∧
      t.rotation pc = (s.rotation pc).erase b ++ [b] ∧
      s.within t [.mem] [])) ∧
    (∀ (pc : Fin 128), s.mem.sealed = true → idle (.bankRefresh pc) s) ∧
    (∀ (pc : Fin 128) (bank : Fin 48), (tget (fun _ => false) s.mem.forced (bankKey pc.val bank) = true) → s.mem.sealed = false → s.calTime % 128 = 0 → gives (.refreshForced pc bank) s (fun t =>
      tget (fun _ => 0) t.mem.refBusy (bankKey pc.val bank) = max s.clk.now (max (tget (fun _ => 0) s.mem.rtBusy (bankKey pc.val bank)) (tget (fun _ => 0) s.mem.nrBusy (bankKey pc.val bank))) + 384 ∧
      tget (fun _ => none) t.mem.openRow (bankKey pc.val bank) = none ∧
      tget (fun _ => 0) t.mem.postponed (bankKey pc.val bank) = 0 ∧
      t.rotation pc = (s.rotation pc).erase bank.val ++ [bank.val] ∧
      tget (fun _ => false) t.mem.forced (bankKey pc.val bank) = false ∧
      t.flag DMC.PAGE 3 ∧
      s.logged t DMC.PAGE 0x84 (fun a b => a = t.rd DMC.REF_STS ∧ b = bankKey pc.val bank) ∧
      s.within t [.regs, .log, .mem, .sram] (logKeys DMC.PAGE ++ eventKeys DMC.PAGE))) ∧
    (∀ (pc : Fin 128) (bank : Fin 48), (tget (fun _ => false) s.mem.forced (bankKey pc.val bank) = false ∨ s.mem.sealed = true ∨ s.calTime % 128 ≠ 0) → idle (.refreshForced pc bank) s) ∧
    (∀ (pc : Fin 128) (e : Nat × Nat) (q : List (Nat × Nat)), s.mem.sealed = false → s.sliceKindNow ≠ .realTime → (tget (fun _ => 0) s.mem.rtBusy (bankKey pc.val e.1) ≤ s.clk.now) → (tget (fun _ => 0) s.mem.refBusy (bankKey pc.val e.1) ≤ s.clk.now) → (tget (fun _ => []) s.mem.nrFirst pc.val = []) → (tget (fun _ => []) s.mem.nrQ pc.val = e :: q) → (s.sliceKindNow = .maint ∨ s.bankNeeded pc e.1 = false) → gives (.neighbourRefresh pc) s (fun t =>
      t.rd DMC.STAT_NR = min 0xFFFFFFFF (s.rd DMC.STAT_NR + 1) ∧
      tget (fun _ => []) t.mem.nrQ pc.val = q ∧
      tget (fun _ => none) t.mem.openRow (bankKey pc.val e.1) = none ∧
      tget (fun _ => 0) t.mem.nrBusy (bankKey pc.val e.1) = s.clk.now + 128 - s.calTime % 128 ∧
      tget (fun _ => (0, [])) t.mem.nrLast pc.val = (e.1, nrRows e.2) ∧
      s.within t [.regs, .mem] [DMC.STAT_NR.key 0 0])) ∧
    (∀ (pc : Fin 128) (e : Nat × Nat) (q : List (Nat × Nat)), s.mem.sealed = false → s.sliceKindNow ≠ .realTime → (tget (fun _ => 0) s.mem.rtBusy (bankKey pc.val e.1) ≤ s.clk.now) → (tget (fun _ => 0) s.mem.refBusy (bankKey pc.val e.1) ≤ s.clk.now) → (tget (fun _ => []) s.mem.nrFirst pc.val = e :: q) → gives (.neighbourRefresh pc) s (fun t =>
      t.rd DMC.STAT_NR = min 0xFFFFFFFF (s.rd DMC.STAT_NR + 1) ∧
      tget (fun _ => []) t.mem.nrFirst pc.val = q ∧
      tget (fun _ => none) t.mem.openRow (bankKey pc.val e.1) = none ∧
      tget (fun _ => 0) t.mem.nrBusy (bankKey pc.val e.1) = s.clk.now + 128 - s.calTime % 128 ∧
      tget (fun _ => (0, [])) t.mem.nrLast pc.val = (e.1, nrRows e.2) ∧
      t.mem.nrQ = s.mem.nrQ ∧
      s.within t [.regs, .mem] [DMC.STAT_NR.key 0 0])) ∧
    (∀ (pc : Fin 128), (s.mem.sealed = true ∨ s.sliceKindNow = .realTime) → idle (.neighbourRefresh pc) s) ∧
    gives .rdTableClear s (fun t =>
      t.mem = { s.mem with rdTable := [] } ∧
      s.within t [.mem] []) ∧
    (∀ (path : Path) (v : BitVec 32), s.takes path DMC.PAGE 0x114 = true → s.mode.power = .sill → gives (.rdCtlWrite path v) s (fun t =>
      t.answered .ok ∧
      s.fieldsTo t (DMC.RD_CTL.MODE.key 0 0) [(DMC.RD_CTL.PROB_LOG2, bits v.toNat 7 4), (DMC.RD_CTL.THR, bits v.toNat 31 16), (DMC.RD_CTL.MODE, v.toNat % 2)] ∧
      s.within t [.regs, .bus] [DMC.RD_CTL.MODE.key 0 0])) ∧
    (∀ (path : Path) (v : BitVec 32), s.takes path DMC.PAGE 0x114 = true → s.mode.power ≠ .sill → v.toNat % 2 ≠ s.rd DMC.RD_CTL.MODE → gives (.rdCtlWrite path v) s (fun t =>
      t.answered .ignored ∧
      s.fieldsTo t (DMC.RD_CTL.MODE.key 0 0) [(DMC.RD_CTL.PROB_LOG2, bits v.toNat 7 4), (DMC.RD_CTL.THR, bits v.toNat 31 16)] ∧
      s.logged t DMC.PAGE 0x8B (fun _ b => b = v.toNat) ∧
      s.within t [.regs, .bus, .log, .sram] ([DMC.RD_CTL.MODE.key 0 0] ++ logKeys DMC.PAGE))) ∧
    (∀ (n : Nat), s.mem.sealed = false → s.calTime % 32768 = 0 → s.mem.sliceNext = some n → s.mem.sliceLine0 = true → gives .roundBoundary s (fun t =>
      t.mem = { s.mem with sliceNext := none, sliceLine0 := false } ∧
      t.slices = n % 256 ∧
      t.rdB DMC.RT_CTL.PENDING = false ∧
      t.rd DMC.RT_STS.CUR = n % 256 ∧
      t.eff_ DMC.REF_CTL = s.rd DMC.REF_CTL ∧
      s.within t [.regs, .eff, .mem] [DMC.RT_CTL.PENDING.key 0 0, DMC.RT_STS.key 0 0])) ∧
    (s.mem.sealed = false → s.calTime % 32768 = 0 → (s.mem.sliceNext = none ∨ s.mem.sliceLine0 = false) → gives .roundBoundary s (fun t =>
      t.eff_ DMC.REF_CTL = s.rd DMC.REF_CTL ∧
      t.slices = s.slices ∧
      s.within t [.eff] [])) ∧
    ((s.mem.sealed = true ∨ s.calTime % 32768 ≠ 0) → idle .roundBoundary s) ∧
    (∀ (burst : Fin 64) (errs : List (Fin 36 × BitVec 8)), s.rdB DMC.SCRUB_CTL.ENA = true → s.mem.sealed = false → s.hotThrottle = false → s.mem.scrubPc < 127 → s.firstBad (blockAddr s.mem.scrubPc (s.rd DMC.SCRUB_STS.BLOCK)) 2048 = none → eccOf errs ≠ .uncorrectable → gives (.scrubRead burst errs) s (fun t =>
      (t.rd DMC.ECC_COR = min 0xFFFFFFFF (s.rd DMC.ECC_COR + (if eccOf errs = .corrected then 1 else 0))) ∧
      t.mem.scrubPc = s.mem.scrubPc + 1 ∧
      t.mem.resp = .data (s.hbmRd (blockAddr s.mem.scrubPc (s.rd DMC.SCRUB_STS.BLOCK)) 2048) ∧
      s.within t [.regs, .mem, .freeCtr] [DMC.ECC_COR.key 0 0])) ∧
    (∀ (burst : Fin 64) (errs : List (Fin 36 × BitVec 8)), s.rdB DMC.SCRUB_CTL.ENA = true → s.mem.sealed = false → s.hotThrottle = false → s.mem.scrubPc < 127 → (s.firstBad (blockAddr s.mem.scrubPc (s.rd DMC.SCRUB_STS.BLOCK)) 2048 ≠ none ∨ eccOf errs = .uncorrectable) → gives (.scrubRead burst errs) s (fun t =>
      t.mem.scrubPc = s.mem.scrubPc + 1 ∧
      t.mem.resp = s.mem.resp ∧
      t.mem.retry = s.mem.retry ++ [⟨s.mem.reqNo, .background, .scrub, (blockAddr s.mem.scrubPc (s.rd DMC.SCRUB_STS.BLOCK)), 2048, none, s.clk.now + 64, false⟩] ∧
      s.within t [.mem, .freeCtr] [])) ∧
    (∀ (burst : Fin 64) (errs : List (Fin 36 × BitVec 8)), s.rdB DMC.SCRUB_CTL.ENA = true → s.mem.sealed = false → s.hotThrottle = false → 127 ≤ s.mem.scrubPc → s.rd DMC.SCRUB_STS.BLOCK + 1 < 393216 → gives (.scrubRead burst errs) s (fun t =>
      t.mem.scrubPc = 0 ∧
      t.rd DMC.SCRUB_STS.BLOCK = s.rd DMC.SCRUB_STS.BLOCK + 1 ∧
      s.within t [.regs, .mem, .freeCtr] [DMC.SCRUB_STS.BLOCK.key 0 0, DMC.ECC_COR.key 0 0])) ∧
    (∀ (burst : Fin 64) (errs : List (Fin 36 × BitVec 8)), s.rdB DMC.SCRUB_CTL.ENA = true → s.mem.sealed = false → s.hotThrottle = false → 127 ≤ s.mem.scrubPc → 393216 ≤ s.rd DMC.SCRUB_STS.BLOCK + 1 → gives (.scrubRead burst errs) s (fun t =>
      t.mem.scrubPc = 0 ∧
      t.rd DMC.SCRUB_STS.BLOCK = 0 ∧
      t.rd DMC.SCRUB_STS.PASSES = min 8191 (s.rd DMC.SCRUB_STS.PASSES + 1) ∧
      s.keeps t [.regs, .log, .mem, .nvs, .freeCtr, .sram])) ∧
    (∀ (burst : Fin 64) (errs : List (Fin 36 × BitVec 8)), (s.rdB DMC.SCRUB_CTL.ENA = false ∨ s.mem.sealed = true ∨ s.hotThrottle = true) → idle (.scrubRead burst errs) s) ∧
    (∀ (pc : Fin 128), (s.rd DMC.COR_THR.COUNT < tget (fun _ => 0) s.mem.corHour pc.val) → gives (.corRateCheck pc) s (fun t =>
      tget (fun _ => 0) t.mem.corHour pc.val = 0 ∧
      t.flag DMC.PAGE 1 ∧
      s.logged t DMC.PAGE 0x81 (fun a _ => a = pc.val) ∧
      s.within t [.regs, .log, .mem, .sram] (logKeys DMC.PAGE ++ eventKeys DMC.PAGE))) ∧
    (∀ (pc : Fin 128), (tget (fun _ => 0) s.mem.corHour pc.val ≤ s.rd DMC.COR_THR.COUNT) → gives (.corRateCheck pc) s (fun t =>
      tget (fun _ => 0) t.mem.corHour pc.val = 0 ∧
      s.within t [.mem] [])) ∧
    (∀ (path : Path) (hi : Bool) (v : BitVec 32), (s.takes path DMC.PAGE (if hi = true then 0x14C else 0x148) = true) → gives (.xlateWrite path hi v) s (fun t =>
      t.answered .ok ∧
      (t.rd DMC.XLATE_OUT = xlateWord ((if hi = true then s.rd DMC.XLATE_LO else v.toNat) + (if hi = true then v.toNat % 32 else s.rd DMC.XLATE_HI % 32) * 2 ^ 32)) ∧
      (s.within t [.regs, .bus] [DMC.XLATE_OUT.key 0 0, regKey 0 DMC.PAGE (if hi = true then 0x14C else 0x148)])))

/-- HBM self-refresh entered and left: A request drains the controller with its cause. The seal follows the drain of the
Real-time blocks, the Latency requests and the retries, holds Throughput and Background requests, stops the calendar
and shows Self-refresh. During an exit a request waits for its end; after a power-fail warning the cause stays. The
exit starts the calendar at a round boundary, takes in what was held, lands the packets held and raises SR_DONE, or
enters again at once. The points the spec leaves open in it follow the model's own choices, log entries 214, 215.
(R286, R287, R288, R289.) -/
def Obligations.SelfRefresh : Prop :=
  ∀ s : State,
    (∀ (cause : Fin 4), s.rd DMC.SR_STS.STATE = 0 → gives (.selfRefreshEntry cause) s (fun t =>
      s.fieldsTo t (DMC.SR_STS.CAUSE.key 0 0) [(DMC.SR_STS.STATE, 1), (DMC.SR_STS.CAUSE, cause.val + 1)] ∧
      s.within t [.regs] [DMC.SR_STS.CAUSE.key 0 0])) ∧
    (∀ (cause : Fin 4), s.rd DMC.SR_STS.STATE = 3 → gives (.selfRefreshEntry cause) s (fun t =>
      t.mem = { s.mem with srAgain := true } ∧
      t.rd DMC.SR_STS.STATE = 3 ∧
      t.rd DMC.SR_STS.CAUSE = cause.val + 1 ∧
      s.within t [.regs, .mem] [DMC.SR_STS.CAUSE.key 0 0])) ∧
    ((s.rd DMC.SR_STS.STATE = 1 ∨ s.rd DMC.SR_STS.STATE = 2) → gives (.selfRefreshEntry 0) s (fun t =>
      t.rd DMC.SR_STS.CAUSE = 1 ∧
      t.rd DMC.SR_STS.STATE = s.rd DMC.SR_STS.STATE ∧
      s.within t [.regs] [DMC.SR_STS.CAUSE.key 0 0])) ∧
    (s.rd DMC.SR_STS.STATE = 1 → s.mem.rtQ = [] → s.mem.rtOut = [] → s.mem.retry = [] → s.ram.bad = [] → gives .selfRefreshSeal s (fun t =>
      t.rd DMC.SR_STS.STATE = 2 ∧
      t.mem.sealed = true ∧
      t.mem.q = [] ∧
      t.mem.retry = [] ∧
      t.mem.calStop = s.clk.now ∧
      t.mem.openRow = [] ∧
      t.mem.held = s.mem.held ++ s.mem.q.filter (fun r => r.cls != .latency) ∧
      t.flag DMC.PAGE 6 ∧
      (((s.mem.q.all (fun r => r.cls != .latency || r.write.isNone)) = true → t.ram.hbm = s.ram.hbm)) ∧
      s.within t [.regs, .log, .mem, .freeCtr, .hbm, .sram] ([DMC.SR_STS.CAUSE.key 0 0] ++ eventKeys DMC.PAGE))) ∧
    (∀ (pc : Fin 128) (r : MemReq), s.rd DMC.SR_STS.STATE = 1 → s.mem.rtQ = [(pc.val, [r])] → r.write = none → s.mem.rtOut = [] → s.mem.q = [] → s.mem.retry = [] → s.ram.bad = [] → gives .selfRefreshSeal s (fun t =>
      t.rd DMC.SR_STS.STATE = 2 ∧
      t.mem.sealed = true ∧
      t.mem.rtQ = [] ∧
      t.mem.rtOut = [] ∧
      t.rd DMC.STAT_RT = min 0xFFFFFFFF (s.rd DMC.STAT_RT + 1) ∧
      t.mem.rtGot = some { who := r.who, addr := r.addr, bytes := s.hbmRd r.addr r.len, bad := [] } ∧
      s.within t [.regs, .log, .mem, .freeCtr, .hbm, .sram] ([DMC.SR_STS.CAUSE.key 0 0, DMC.STAT_RT.key 0 0] ++ eventKeys DMC.PAGE))) ∧
    (∀ (r : MemReq) (b : List Byte), s.rd DMC.SR_STS.STATE = 1 → s.mem.q = [r] → r.cls = .latency → r.write = some b → gives .selfRefreshSeal s (fun t =>
      t.hbmRd r.addr b.length = b ∧
      s.keeps t [.regs, .log, .mem, .scene, .frs, .freeCtr, .hbm, .sram])) ∧
    (∀ (r : MemReq), s.rd DMC.SR_STS.STATE = 1 → s.mem.q = [] → s.mem.rtQ = [] → s.mem.rtOut = [] → s.mem.retry = [r] → s.firstBad r.addr r.len ≠ none → gives .selfRefreshSeal s (fun t =>
      t.mem.retry = [] ∧
      t.mem.resp = .uncorr ∧
      t.rd DMC.ECC_UNC = min 0xFFFFFFFF (s.rd DMC.ECC_UNC + 1) ∧
      s.keeps t [.regs, .log, .mem, .scene, .frs, .freeCtr, .hbm, .sram])) ∧
    (s.rd DMC.SR_STS.STATE ≠ 1 → idle .selfRefreshSeal s) ∧
    (∀ (trimBad : Bool), s.rd DMC.SR_STS.STATE = 3 → s.mem.srAgain = false → s.mem.landHold = [] → gives (.selfRefreshExit trimBad) s (fun t =>
      t.mem.sealed = false ∧
      t.mem.held = [] ∧
      t.mem.q.map (fun r => (r.who, r.addr, r.len, r.write)) = (s.mem.q ++ s.mem.held.filter (fun r => r.cls != .realTime && decide (r.addr + r.len ≤ hbmSize))).map (fun r => (r.who, r.addr, r.len, r.write)) ∧
      t.mem.calBase = s.clk.now ∧
      t.mem.calRound = s.roundCount + 1 ∧
      ((s.mem.retrain = true ∨ trimBad = true → t.mem.retrain = true)) ∧
      t.rd DMC.SR_STS.STATE = 0 ∧
      t.rd DMC.SR_STS.CAUSE = 0 ∧
      t.flag DMC.PAGE 6 ∧
      s.within t [.regs, .log, .mem, .freeCtr, .sram] ([DMC.SR_STS.CAUSE.key 0 0] ++ logKeys DMC.PAGE ++ eventKeys DMC.PAGE))) ∧
    (∀ (trimBad : Bool), s.rd DMC.SR_STS.STATE = 3 → s.mem.srAgain = true → gives (.selfRefreshExit trimBad) s (fun t =>
      t.rd DMC.SR_STS.STATE = 1 ∧
      t.rd DMC.SR_STS.CAUSE = s.rd DMC.SR_STS.CAUSE ∧
      t.mem.srAgain = false ∧
      s.keeps t [.regs, .log, .mem, .scene, .freeCtr, .hbm, .sram])) ∧
    (∀ (trimBad : Bool), s.rd DMC.SR_STS.STATE ≠ 3 → idle (.selfRefreshExit trimBad) s)

/-- The burst code corrects one symbol and detects two and three: Of the RS(36,32) code over GF(2^8): a burst without
error reads as clean, any error within one of the 36 symbols is corrected, and any error within two or three symbols
is uncorrectable, never taken for a clean or a correctable burst. (R280.) -/
def Obligations.BurstCode : Prop :=
  eccCheck [] = .clean ∧
  (∀ (p : Fin 36) (v : BitVec 8), v ≠ 0 → eccCheck [(p.val, v.toNat)] = .corrected) ∧
  (∀ (p q : Fin 36) (v w : BitVec 8), p ≠ q → v ≠ 0 → w ≠ 0 → eccCheck [(p.val, v.toNat), (q.val, w.toNat)] = .uncorrectable) ∧
  (∀ (p q r : Fin 36) (u v w : BitVec 8), p ≠ q → q ≠ r → p ≠ r → u ≠ 0 → v ≠ 0 → w ≠ 0 →
    eccCheck [(p.val, u.toNat), (q.val, v.toNat), (r.val, w.toNat)] = .uncorrectable)

/-- The HBM address map, memory requests, their answers and their errors: Every address below 96 GiB lies in block k of
its pseudo-channel at its own byte, with bank pair k mod 24 and row k div 24, the first kibibyte of a block in bank
a and the second in bank a + 4; and every block of every pseudo-channel has its address. So two addresses with equal
pseudo-channel, bank, row, burst and byte in the burst are equal. A round has 8 maintenance slices and exactly
SLICES Real-time ones. A request of its class's size joins the queue of its requester's class, is held behind the
seal, or beyond 96 GiB gets the ADDR error with code 0x89. Before a Real-time slice the oldest block whose two banks
are free and whose die's link has room is granted, and holds its banks 224 wc; with none the slice is lent to a
Latency request. A read outside Real-time is answered with its data, once more 64 wc after an uncorrectable error,
then with UNCORR; a Real-time read is delivered with each bad burst marked. Corrected errors count in ECC_COR,
uncorrectable ones in ECC_UNC with ERR_ADDR. At its age limit a request moves one class up as its youngest, a
Latency one to the head. The points the spec leaves open in it follow the model's own choices, log entries 16, 52,
53, 54, 211, 212, 216, 217. (R266, R267, R270, R17, R268, R269, R271, R272, R278, R280, R286.) -/
def Obligations.MemoryAccess : Prop :=
  ((∀ a, a < hbmSize → (xlate a).pc < 128 ∧ (xlate a).bank < 48 ∧ (xlate a).row < 16384 ∧ (xlate a).col < 32) ∧
  (∀ a b, a < hbmSize → b < hbmSize → xlate a = xlate b → a % 32 = b % 32 → a = b) ∧
  (∀ (pc : Fin 128) (k : Fin 393216), blockAddr pc k < hbmSize ∧ hbmPc (blockAddr pc k) = pc.val ∧ bits (blockAddr pc k) 36 18 = k.val) ∧
  (∀ a, a < hbmSize → blockAddr (hbmPc a) (bits a 36 18) + a % 2048 = a) ∧
  (∀ n, 64 ≤ n → n ≤ 160 → ((List.range 256).filter (fun k => sliceKind k n == .realTime)).length = n) ∧
  (∀ n, ((List.range 256).filter (fun k => sliceKind k n == .maint)).length = 8)) ∧
  (∀ s : State,
    (∀ (who : MemWho) (addr : BitVec 40) (len : BitVec 12) (write : Bool) (data : List Byte), sizeOk who.cls addr.toNat len.toNat = true → (write = false ∨ who.mayWrite = true) → hbmSize < addr.toNat + len.toNat → gives (.memoryRequest who addr len write data) s (fun t =>
      t.mem = { s.mem with resp := .addr } ∧
      s.logged t DMC.PAGE 0x89 (fun a b => a = addr.toNat % 2 ^ 32 ∧ b = addr.toNat / 2 ^ 32) ∧
      s.within t [.regs, .log, .mem, .sram] (logKeys DMC.PAGE))) ∧
    (∀ (who : MemWho) (addr : BitVec 40) (len : BitVec 12) (write : Bool) (data : List Byte), sizeOk who.cls addr.toNat len.toNat = true → (write = false ∨ who.mayWrite = true) → addr.toNat + len.toNat ≤ hbmSize → s.mem.sealed = false → who.cls ≠ .realTime → gives (.memoryRequest who addr len write data) s (fun t =>
      (t.mem = { s.mem with reqNo := s.mem.reqNo + 1, q := s.mem.q ++ [(⟨s.mem.reqNo, who.cls, who, addr.toNat, len.toNat, if write = true then some data else none, s.clk.now, false⟩ : MemReq)] }) ∧
      s.within t [.mem] [])) ∧
    (∀ (who : MemWho) (addr : BitVec 40) (len : BitVec 12) (write : Bool) (data : List Byte), sizeOk who.cls addr.toNat len.toNat = true → (write = false ∨ who.mayWrite = true) → addr.toNat + len.toNat ≤ hbmSize → s.mem.sealed = false → who.cls = .realTime → gives (.memoryRequest who addr len write data) s (fun t =>
      (tget (fun _ => []) t.mem.rtQ (hbmPc addr.toNat) = tget (fun _ => []) s.mem.rtQ (hbmPc addr.toNat) ++ [(⟨s.mem.reqNo, .realTime, who, addr.toNat, len.toNat, if write = true then some data else none, s.clk.now, false⟩ : MemReq)]) ∧
      (∀ k, k ≠ hbmPc addr.toNat → tget (fun _ => []) t.mem.rtQ k = tget (fun _ => []) s.mem.rtQ k) ∧
      s.within t [.mem] [])) ∧
    (∀ (who : MemWho) (addr : BitVec 40) (len : BitVec 12) (write : Bool) (data : List Byte), sizeOk who.cls addr.toNat len.toNat = true → (write = false ∨ who.mayWrite = true) → addr.toNat + len.toNat ≤ hbmSize → s.mem.sealed = true → gives (.memoryRequest who addr len write data) s (fun t =>
      (t.mem = { s.mem with held := s.mem.held ++ [(⟨0, who.cls, who, addr.toNat, len.toNat, if write = true then some data else none, s.clk.now, false⟩ : MemReq)] }) ∧
      s.within t [.mem] [])) ∧
    (∀ (who : MemWho) (addr : BitVec 40) (len : BitVec 12) (write : Bool) (data : List Byte), (sizeOk who.cls addr.toNat len.toNat = false ∨ (write = true ∧ who.mayWrite = false)) → idle (.memoryRequest who addr len write data) s) ∧
    (∀ (pc : Fin 128) (r : MemReq), s.mem.sealed = false → (s.calTime + 64) % 128 = 0 → s.kindAt (s.calTime + 64) = .realTime → (((tget (fun _ => []) s.mem.rtQ pc.val).take 32).find? ((s.linkTurn (s.mem.calRound + (s.calTime + 64) / 32768)).eligible pc) = some r) → gives (.realtimeGrant pc) s (fun t =>
      t.rd DMC.STAT_RT = min 0xFFFFFFFF (s.rd DMC.STAT_RT + 1) ∧
      tget (fun _ => []) t.mem.rtQ pc.val = (tget (fun _ => []) s.mem.rtQ pc.val).erase r ∧
      tget (fun _ => []) t.mem.rtOut pc.val = tget (fun _ => []) s.mem.rtOut pc.val ++ [{ r with since := s.clk.now }] ∧
      (∀ b ∈ blockBanks r.addr, tget (fun _ => 0) t.mem.rtBusy (bankKey pc.val b) = s.clk.now + 224 ∧ tget (fun _ => none) t.mem.openRow (bankKey pc.val b) = none) ∧
      s.within t [.regs, .mem, .freeCtr] [DMC.STAT_RT.key 0 0])) ∧
    (∀ (pc : Fin 128) (r : MemReq), s.mem.sealed = false → (s.calTime + 64) % 128 = 0 → s.kindAt (s.calTime + 64) = .realTime → (((tget (fun _ => []) s.mem.rtQ pc.val).take 32).find? ((s.linkTurn (s.mem.calRound + (s.calTime + 64) / 32768)).eligible pc) = none) → (s.mem.q.find? (fun r => r.cls == .latency && hbmPc r.addr == pc.val && (reqRows r).all (fun l => !(match tget (fun _ => []) s.mem.rtQ pc.val with | r :: _ => blockBanks r.addr | [] => []).contains l.bank)) = some r) → gives (.realtimeGrant pc) s (fun t =>
      tget (fun _ => none) t.mem.lent pc.val = some (r.no, s.clk.now + 192) ∧
      t.mem.q = s.mem.q ∧
      t.mem.rtQ = s.mem.rtQ ∧
      s.within t [.mem] [])) ∧
    (∀ (pc : Fin 128), (s.mem.sealed = true ∨ (s.calTime + 64) % 128 ≠ 0 ∨ s.kindAt (s.calTime + 64) ≠ .realTime) → idle (.realtimeGrant pc) s) ∧
    (∀ (pc : Fin 128) (burst : Fin 64) (errs : List (Fin 36 × BitVec 8)) (r : MemReq), s.mem.sealed = false → s.nextReq pc = some r → r.write = none → (s.readRes r burst (eccOf errs)).1 ≠ .uncorrectable → gives (.memoryResponse pc false burst errs) s (fun t =>
      t.mem.resp = .data (s.hbmRd r.addr r.len) ∧
      t.mem.q = s.mem.q.erase r ∧
      (t.rd DMC.ECC_COR = min 0xFFFFFFFF (s.rd DMC.ECC_COR + (if (s.readRes r burst (eccOf errs)).1 = .corrected then 1 else 0))) ∧
      s.within t [.regs, .mem, .freeCtr] [DMC.ECC_COR.key 0 0])) ∧
    (∀ (pc : Fin 128) (burst : Fin 64) (errs : List (Fin 36 × BitVec 8)) (r : MemReq) (b : List Byte), s.mem.sealed = false → s.nextReq pc = some r → r.write = some b → gives (.memoryResponse pc false burst errs) s (fun t =>
      t.hbmRd r.addr b.length = b ∧
      t.mem.q = s.mem.q.erase r ∧
      (∀ a, (a < r.addr ∨ r.addr + b.length ≤ a) → tget memDefault t.ram.hbm a = tget memDefault s.ram.hbm a) ∧
      s.within t [.mem, .freeCtr, .hbm] [])) ∧
    (∀ (pc : Fin 128) (burst : Fin 64) (errs : List (Fin 36 × BitVec 8)) (r : MemReq), s.mem.sealed = false → s.nextReq pc = some r → r.write = none → (s.readRes r burst (eccOf errs)).1 = .uncorrectable → gives (.memoryResponse pc false burst errs) s (fun t =>
      t.mem.retry = s.mem.retry ++ [{ r with since := s.clk.now + 64 }] ∧
      t.mem.resp = s.mem.resp ∧
      t.mem.q = s.mem.q.erase r ∧
      s.within t [.mem, .freeCtr] [])) ∧
    (∀ (pc : Fin 128) (burst : Fin 64) (errs : List (Fin 36 × BitVec 8)), (s.mem.sealed = true ∨ s.nextReq pc = none) → idle (.memoryResponse pc false burst errs) s) ∧
    (∀ (pc : Fin 128) (burst : Fin 64) (errs : List (Fin 36 × BitVec 8)) (r : MemReq) (q : List MemReq), (tget (fun _ => []) s.mem.rtOut pc.val = r :: q) → r.write = none → r.since + 218 ≤ s.clk.now → s.badBursts [(r.addr, r.len)] = [] → gives (.memoryResponse pc true burst errs) s (fun t =>
      tget (fun _ => []) t.mem.rtOut pc.val = q ∧
      (t.mem.rtGot = some { who := r.who, addr := r.addr, bytes := s.hbmRd r.addr r.len, bad := if eccOf errs = .uncorrectable then [r.addr / 32 + burst.val] else [] }) ∧
      (t.rd DMC.ECC_UNC = min 0xFFFFFFFF (s.rd DMC.ECC_UNC + (if eccOf errs = .uncorrectable then 1 else 0))) ∧
      (t.rd DMC.ECC_COR = min 0xFFFFFFFF (s.rd DMC.ECC_COR + (if eccOf errs = .corrected then 1 else 0))) ∧
      ((eccOf errs = .uncorrectable → t.rd DMC.ERR_ADDR_LO = (32 * (r.addr / 32 + burst.val)) % 2 ^ 32 ∧ t.rd DMC.ERR_ADDR_HI.CLASS = 0)) ∧
      t.mem.resp = s.mem.resp ∧
      s.within t [.regs, .log, .mem, .scene, .frs, .hbm, .sram] ([DMC.ECC_UNC.key 0 0, DMC.ECC_COR.key 0 0, DMC.ERR_ADDR_LO.key 0 0, DMC.ERR_ADDR_HI.key 0 0, FRS.BOUND.BE.key 0 0, FRS.NOW.T.key 0 0] ++ logKeys DMC.PAGE ++ eventKeys DMC.PAGE))) ∧
    (∀ (pc : Fin 128) (burst : Fin 64) (errs : List (Fin 36 × BitVec 8)) (r : MemReq) (q : List MemReq) (b : List Byte), (tget (fun _ => []) s.mem.rtOut pc.val = r :: q) → r.write = some b → r.since + 208 ≤ s.clk.now → gives (.memoryResponse pc true burst errs) s (fun t =>
      tget (fun _ => []) t.mem.rtOut pc.val = q ∧
      t.hbmRd r.addr b.length = b ∧
      (∀ a, (a < r.addr ∨ r.addr + b.length ≤ a) → tget memDefault t.ram.hbm a = tget memDefault s.ram.hbm a) ∧
      s.within t [.mem, .hbm] [])) ∧
    (∀ (pc : Fin 128) (burst : Fin 64) (errs : List (Fin 36 × BitVec 8)), (tget (fun _ => []) s.mem.rtOut pc.val = []) → idle (.memoryResponse pc true burst errs) s) ∧
    (∀ (burst : Fin 64) (errs : List (Fin 36 × BitVec 8)) (r : MemReq) (q : List MemReq), s.mem.retry = r :: q → r.since ≤ s.clk.now → gives (.eccRetry burst errs) s (fun t =>
      t.mem.retry = q ∧
      (t.mem.resp = if (s.readRes r burst (eccOf errs)).1 = .uncorrectable then .uncorr else .data (s.hbmRd r.addr r.len)) ∧
      (t.rd DMC.ECC_COR = min 0xFFFFFFFF (s.rd DMC.ECC_COR + (if (s.readRes r burst (eccOf errs)).1 = .uncorrectable then 0 else 1))) ∧
      (t.rd DMC.ECC_UNC = min 0xFFFFFFFF (s.rd DMC.ECC_UNC + (if (s.readRes r burst (eccOf errs)).1 = .uncorrectable then 1 else 0))) ∧
      s.within t [.regs, .log, .mem, .scene, .frs, .hbm, .sram] ([DMC.ECC_UNC.key 0 0, DMC.ECC_COR.key 0 0, DMC.ERR_ADDR_LO.key 0 0, DMC.ERR_ADDR_HI.key 0 0, FRS.BOUND.BE.key 0 0, FRS.NOW.T.key 0 0] ++ logKeys DMC.PAGE ++ eventKeys DMC.PAGE))) ∧
    (∀ (burst : Fin 64) (errs : List (Fin 36 × BitVec 8)), ((s.mem.retry.head?).all (fun r => decide (s.clk.now < r.since)) = true) → idle (.eccRetry burst errs) s) ∧
    (∀ (n : BitVec 16) (r : MemReq), s.mem.q[n.toNat]? = some r → r.head = false → r.since + s.ageLimit r.cls ≤ s.clk.now → gives (.agePromotion n) s (fun t =>
      (t.mem = { s.mem with q := if r.cls = .latency then s.mem.q.set n.toNat { r with head := true } else s.mem.q.eraseIdx n.toNat ++ [promote s.clk.now r] }) ∧
      t.rd DMC.STAT_PROMO = min 0xFFFFFFFF (s.rd DMC.STAT_PROMO + 1) ∧
      s.within t [.regs, .mem] [DMC.STAT_PROMO.key 0 0])) ∧
    (∀ (n : BitVec 16), ((s.mem.q[n.toNat]?).all (fun r => r.head || decide (s.clk.now < r.since + s.ageLimit r.cls)) = true) → idle (.agePromotion n) s))

/-- Loss of signal, locks, degraded lanes and filler: LOS and CDR lock follow their events. Block lock is gained with
CDR lock and without LOS, and lost with LOS or CDR lock: LOSS_CNT, LOCK_LOST and code 0x91; an Up port with lanes
left then sends WIDTH. A second above DEGR_THR marks the lane, once an hour with code 0x92. FILL is sent and
received only by an Up own port. DIS takes a lane out of use; panel return lanes ignore it. The points the spec
leaves open in it follow the model's own choices, log entries 143, 144, 198. (R296, R297, R298, R299, R300, R312,
R313.) -/
def Obligations.LaneLocks : Prop :=
  ∀ s : State,
    (∀ (lane : Fin 512), 240 ≤ lane.val → s.rdB LAN.LANE_STS.BLOCK 0 lane = false → gives (.losSet lane) s (fun t =>
      t.rdB LAN.LANE_STS.LOS 0 lane = true ∧
      t.flag LAN.PAGE 0 ∧
      s.within t [.regs, .log, .sram] ([LAN.LANE_STS.key 0 (lane.val)] ++ eventKeys LAN.PAGE))) ∧
    (∀ (lane : Fin 512), 240 ≤ lane.val → s.rdB LAN.LANE_STS.BLOCK 0 lane = true → gives (.losSet lane) s (fun t =>
      t.rdB LAN.LANE_STS.LOS 0 lane = true ∧
      t.rdB LAN.LANE_STS.BLOCK 0 lane = false ∧
      t.rd LAN.LANE_STS.LOSS_CNT 0 lane = min 0xFFFF (s.rd LAN.LANE_STS.LOSS_CNT 0 lane + 1) ∧
      t.flag LAN.PAGE 1 ∧
      s.keeps t [.regs, .log, .lan, .fab, .freeCtr, .sram])) ∧
    (∀ (lane : Fin 512), 240 ≤ lane.val → gives (.losClear lane) s (fun t =>
      s.fieldsTo t (LAN.LANE_STS.key 0 (lane.val)) [(LAN.LANE_STS.LOS, 0)] ∧
      s.within t [.regs] [LAN.LANE_STS.key 0 (lane.val)])) ∧
    (∀ (lane : Fin 512), 240 ≤ lane.val → gives (.cdrLockGain lane) s (fun t =>
      s.fieldsTo t (LAN.LANE_STS.key 0 (lane.val)) [(LAN.LANE_STS.CDR, 1)] ∧
      s.within t [.regs] [LAN.LANE_STS.key 0 (lane.val)])) ∧
    (∀ (lane : Fin 512), 240 ≤ lane.val → gives (.cdrLockLoss lane) s (fun t =>
      t.rdB LAN.LANE_STS.CDR 0 lane = false ∧
      t.rdB LAN.LANE_STS.BLOCK 0 lane = false ∧
      s.keeps t [.regs, .log, .lan, .fab, .freeCtr, .sram])) ∧
    (∀ (lane : Fin 512), 240 ≤ lane.val → s.rdB LAN.LANE_STS.CDR 0 lane = true → s.rdB LAN.LANE_STS.LOS 0 lane = false → s.rdB LAN.LANE_STS.BLOCK 0 lane = false → ((laneHome lane.val).all (fun h => !s.portUp h.1) = true) → gives (.blockLockGain lane) s (fun t =>
      s.fieldsTo t (LAN.LANE_STS.key 0 (lane.val)) [(LAN.LANE_STS.BLOCK, 1)] ∧
      s.within t [.regs] [LAN.LANE_STS.key 0 (lane.val)])) ∧
    (∀ (lane : Fin 512), s.rdB LAN.LANE_STS.CDR 0 lane = false → idle (.blockLockGain lane) s) ∧
    (∀ (lane : Fin 512), 240 ≤ lane.val → lane.val < 256 → s.rdB LAN.LANE_STS.BLOCK 0 lane = true → gives (.blockLockLoss lane) s (fun t =>
      s.fieldsTo t (LAN.LANE_STS.key 0 (lane.val)) [(LAN.LANE_STS.BLOCK, 0), (LAN.LANE_STS.LOSS_CNT, min 0xFFFF (s.rd LAN.LANE_STS.LOSS_CNT 0 lane + 1))] ∧
      t.flag LAN.PAGE 1 ∧
      s.logged t LAN.PAGE 0x91 (fun a b => a = t.rd LAN.LANE_STS 0 lane ∧ b = lane.val) ∧
      s.within t [.regs, .log, .sram] ([LAN.LANE_STS.key 0 (lane.val)] ++ logKeys LAN.PAGE ++ eventKeys LAN.PAGE))) ∧
    (∀ (lane : Fin 512) (p l : Nat), laneHome lane.val = some (p, l) → s.rdB LAN.LANE_STS.BLOCK 0 lane = true → s.portUp p = true → s.portEth p = false → bit (s.rxMask p) l = true → s.rxMask p ≠ 2 ^ l → gives (.blockLockLoss lane) s (fun t =>
      t.rdB LAN.LANE_STS.BLOCK 0 lane = false ∧
      t.rd LAN.PORT_STS.LANES_UP 0 (portKey p) = s.rxMask p - 2 ^ l ∧
      (tget (fun _ => WidthSt.none) t.fab.wide p).sending = true ∧
      t.portUp p = true ∧
      s.within t [.regs, .log, .lan, .fab, .freeCtr, .sram] ([LAN.LANE_STS.key 0 (lane.val), LAN.PORT_STS.key 0 ((portKey p))] ++ logKeys LAN.PAGE ++ eventKeys LAN.PAGE))) ∧
    (∀ (lane : Fin 512) (headers : BitVec 32), s.rdB LAN.LANE_STS.BLOCK 0 lane = true → s.eff_ LAN.DEGR_THR.COUNT < headers.toNat → gives (.degradedCheck lane headers 0) s (fun t =>
      t.rd LAN.LANE_ERR.SH_ERR 0 lane = min 0xFFFF (s.rd LAN.LANE_ERR.SH_ERR 0 lane + headers.toNat) ∧
      t.eff_ LAN.DEGR_THR.COUNT = s.rd LAN.DEGR_THR.COUNT ∧
      t.rdB LAN.LANE_STS.DEGR 0 lane = true ∧
      t.flag LAN.PAGE 2 ∧
      ((tget (fun _ => 0) s.lan.degrAt lane.val = 0 → s.logged t LAN.PAGE 0x92 (fun a b => a = t.rd LAN.LANE_STS 0 lane ∧ b = lane.val))) ∧
      s.within t [.regs, .eff, .log, .lan, .sram] ([LAN.LANE_STS.key 0 (lane.val), LAN.LANE_ERR.SH_ERR.key 0 (lane.val)] ++ logKeys LAN.PAGE ++ eventKeys LAN.PAGE))) ∧
    (∀ (lane : Fin 512) (headers kinds : BitVec 32), s.rdB LAN.LANE_STS.BLOCK 0 lane = true → s.eff_ LAN.DEGR_THR.COUNT < headers.toNat → gives (.degradedCheck lane headers kinds) s (fun t =>
      t.rd LAN.LANE_ERR.SH_ERR 0 lane = min 0xFFFF (s.rd LAN.LANE_ERR.SH_ERR 0 lane + (headers.toNat + kinds.toNat)) ∧
      t.eff_ LAN.DEGR_THR.COUNT = s.rd LAN.DEGR_THR.COUNT ∧
      t.rdB LAN.LANE_STS.DEGR 0 lane = true ∧
      t.flag LAN.PAGE 2 ∧
      s.within t [.regs, .eff, .log, .lan, .sram] ([LAN.LANE_STS.key 0 (lane.val), LAN.LANE_ERR.SH_ERR.key 0 (lane.val)] ++ logKeys LAN.PAGE ++ eventKeys LAN.PAGE))) ∧
    (∀ (lane : Fin 512) (headers kinds : BitVec 32), headers.toNat ≤ s.eff_ LAN.DEGR_THR.COUNT → kinds ≠ 0 → s.log.frameKeys.contains (0x99, lane.val) = false → gives (.degradedCheck lane headers kinds) s (fun t =>
      t.rd LAN.LANE_ERR.SH_ERR 0 lane = min 0xFFFF (s.rd LAN.LANE_ERR.SH_ERR 0 lane + (headers.toNat + kinds.toNat)) ∧
      t.eff_ LAN.DEGR_THR.COUNT = s.rd LAN.DEGR_THR.COUNT ∧
      s.logged t LAN.PAGE 0x99 (fun a b => a = t.rd LAN.LANE_STS 0 lane ∧ b = lane.val) ∧
      s.within t [.regs, .eff, .log, .sram] ([LAN.LANE_ERR.SH_ERR.key 0 (lane.val)] ++ logKeys LAN.PAGE))) ∧
    (∀ (lane : Fin 512) (headers kinds : BitVec 32), headers.toNat ≤ s.eff_ LAN.DEGR_THR.COUNT → (kinds = 0 ∨ s.log.frameKeys.contains (0x99, lane.val) = true) → gives (.degradedCheck lane headers kinds) s (fun t =>
      t.rd LAN.LANE_ERR.SH_ERR 0 lane = min 0xFFFF (s.rd LAN.LANE_ERR.SH_ERR 0 lane + (headers.toNat + kinds.toNat)) ∧
      t.eff_ LAN.DEGR_THR.COUNT = s.rd LAN.DEGR_THR.COUNT ∧
      s.within t [.regs, .eff] [LAN.LANE_ERR.SH_ERR.key 0 (lane.val)])) ∧
    (∀ (port : Fin 40), s.portUp port = true → s.portEth port = false → gives (.fillSend port) s (fun t =>
      t.portSt port.val = { s.portSt port.val with fills := (s.portSt port.val).fills + 1, fillInt := fillIntOf (s.rd LAN.FILL_INT.BLOCKS) } ∧
      (∀ k, k ≠ port.val → t.portSt k = s.portSt k) ∧
      (∀ l : Fin 4, tget (fun _ => false) s.lan.tx (laneIdx port.val l.val) = true → s.rdB LAN.LANE_STS.FAILED 0 (laneIdx port.val l.val) = false → (tget (fun _ => LaneTx.init) t.lan.out (laneIdx port.val l.val)).blocks = [kBlk 0xF0 []]) ∧
      s.within t [.lan, .freeCtr] [])) ∧
    (∀ (port : Fin 40), s.portUp port = false → idle (.fillSend port) s) ∧
    (∀ (port : Fin 40) (fill : BitVec 8), s.portUp port = true → s.portEth port = false → gives (.fillReceive port fill 0) s (fun t =>
      (∀ l : Fin 4, tget (fun _ => 0) t.lan.elastic (laneIdx port.val l.val) = (if 1 < fill.toInt then fill.toInt - 1 else if fill.toInt < -1 then fill.toInt + 1 else fill.toInt) ∧ t.rd LAN.LANE_ERR.SLIP 0 (laneIdx port.val l.val) = min 0xFFFF (s.rd LAN.LANE_ERR.SLIP 0 (laneIdx port.val l.val) + (if -1 ≤ fill.toInt ∧ fill.toInt ≤ 1 then 0 else 1))) ∧
      s.within t [.regs, .lan] ((((laneNums port.val).map (fun l => LAN.LANE_ERR.SLIP.key 0 (laneIdx port.val l))))))) ∧
    (∀ (port : Fin 40) (fill lost : BitVec 8), s.portUp port = false → idle (.fillReceive port fill lost) s) ∧
    (∀ (path : Path) (v : BitVec 32) (p l : Nat), s.takes path LAN.PAGE 0x110 = true → laneHome (s.rd LAN.LANE_SEL.LANE 0 path.num) = some (p, l) → s.portUp p = false → gives (.laneCtlWrite path v) s (fun t =>
      t.answered .ok ∧
      t.rd LAN.LANE_CTL 0 (s.rd LAN.LANE_SEL.LANE 0 path.num) = v.toNat % 4 ∧
      tget (fun _ => false) t.lan.tx (s.rd LAN.LANE_SEL.LANE 0 path.num) = (v.toNat % 2 == 0 && s.portState p != 0 && s.laneInMode p l) ∧
      s.within t [.regs, .bus, .lan] [LAN.LANE_CTL.key 0 ((s.rd LAN.LANE_SEL.LANE 0 path.num))])) ∧
    (∀ (path : Path) (v : BitVec 32), s.takes path LAN.PAGE 0x110 = true → 240 ≤ s.rd LAN.LANE_SEL.LANE 0 path.num → s.rd LAN.LANE_SEL.LANE 0 path.num < 256 → gives (.laneCtlWrite path v) s (fun t =>
      t.answered .ignored ∧
      s.within t [.regs, .bus, .log, .sram] (logKeys SYS.PAGE)))

/-- The bring-up of an own port: A port climbs from Disabled to Down-Probing, on partner CAP to Exchange, on ACK to
Train with the target of both ends, to Check, and with lanes that pass to Step and the next rate or to Up with the
width of the common lanes. Each failure returns it to Down-Probing in back-off, with FAILS, a doubled back-off, its
cap one rate down, TRAIN_FAIL and its code, and leaves every other port's state alone. The points the spec leaves
open in it follow the model's own choices, log entries 142, 144, 145, 200, 205, 208. (R303, R304, R305, R312, R313,
R334, R311.) -/
def Obligations.PortLadder : Prop :=
  ∀ s : State,
    (∀ (port : Fin 40) (supported : Bool), s.portState port = 0 → s.rdB LAN.PORT_CFG.ENA 0 (portKey port.val) = true → s.pwr.lanesStopped = false → (port.val < 24 ∨ supported = true) → s.portEth port = false → gives (.portEnable port supported) s (fun t =>
      t.portState port.val = 1 ∧
      t.rd LAN.PORT_STS.CAP_RATE 0 (portKey port.val) = min 4 (s.rd LAN.PORT_CFG.MAX_RATE 0 (portKey port.val)) ∧
      (∀ l : Fin 4, tget (fun _ => false) t.lan.tx (laneIdx port.val l.val) = !s.rdB LAN.LANE_CTL.DIS 0 (laneIdx port.val l.val)) ∧
      s.within t [.regs, .lan, .freeCtr] ([LAN.PORT_STS.key 0 ((portKey port.val))] ++ (((laneNums port.val).map (fun l => LAN.LANE_STS.RATE.key 0 (laneIdx port.val l))))))) ∧
    (∀ (port : Fin 40) (supported : Bool), s.portState port = 0 → s.rdB LAN.PORT_CFG.ENA 0 (portKey port.val) = true → s.pwr.lanesStopped = false → supported = true → s.portEth port = true → gives (.portEnable port supported) s (fun t =>
      (t.portState port.val = if s.rdB LAN.PORT_CFG.AN 0 (portKey port.val) = true then 7 else 8) ∧
      (∀ l : Fin 4, s.laneInMode port.val l.val = true → t.rd LAN.LANE_STS.RATE 0 (laneIdx port.val l.val) = 4) ∧
      (∀ l : Fin 4, s.laneInMode port.val l.val = false → tget (fun _ => false) t.lan.tx (laneIdx port.val l.val) = false) ∧
      s.within t [.regs, .lan] ([LAN.PORT_STS.key 0 ((portKey port.val))] ++ (((laneNums port.val).map (fun l => LAN.LANE_STS.RATE.key 0 (laneIdx port.val l))))))) ∧
    (∀ (port : Fin 40), 24 ≤ port.val → gives (.portEnable port false) s (fun t =>
      t.portState (24 + 2 * ((port.val - 24) / 2)) = 0 ∧
      t.portState (25 + 2 * ((port.val - 24) / 2)) = 0 ∧
      t.lan.plugBad = s.lan.plugBad ||| BitVec.ofNat 8 (2 ^ ((port.val - 24) / 2)) ∧
      s.keeps t [.regs, .log, .lan, .fab, .sram])) ∧
    (∀ (port : Fin 40) (supported : Bool), port.val < 24 → (s.portState port ≠ 0 ∨ s.rdB LAN.PORT_CFG.ENA 0 (portKey port.val) = false ∨ s.pwr.lanesStopped = true) → idle (.portEnable port supported) s) ∧
    (∀ (port : Fin 40), 24 ≤ port.val → (s.portState port ≠ 0 ∨ s.rdB LAN.PORT_CFG.ENA 0 (portKey port.val) = false ∨ s.pwr.lanesStopped = true) → gives (.portEnable port true) s (fun t =>
      t.lan = { s.lan with plugBad := s.lan.plugBad &&& ~~~BitVec.ofNat 8 (2 ^ ((port.val - 24) / 2)) } ∧
      s.within t [.lan] [])) ∧
    (∀ (path : Path) (v : BitVec 32) (p : Nat), s.takes path LAN.PAGE 0x118 = true → portOfSel (s.rd LAN.PORT_SEL 0 path.num) = some p → s.rdB LAN.PORT_CFG.ENA 0 (portKey p) = true → ((v.toNat % 2 ^ 14 ||| (if p < 24 then 2 else 0)) / 2 = s.rd LAN.PORT_CFG 0 (portKey p) / 2) → gives (.portDisable path v) s (fun t =>
      t.answered .ok ∧
      t.portState p = 0 ∧
      t.rdB LAN.PORT_CFG.ENA 0 (portKey p) = false ∧
      t.rd LAN.PORT_STS.BO_CUR 0 (portKey p) = 0 ∧
      t.rd LAN.PORT_STS.CAP_RATE 0 (portKey p) = min 4 (s.rd LAN.PORT_CFG.MAX_RATE 0 (portKey p)) ∧
      (∀ l : Fin 4, tget (fun _ => false) t.lan.tx (laneIdx p l.val) = false))) ∧
    (∀ (path : Path) (v : BitVec 32) (p : Nat), s.takes path LAN.PAGE 0x118 = true → portOfSel (s.rd LAN.PORT_SEL 0 path.num) = some p → s.rdB LAN.PORT_CFG.ENA 0 (portKey p) = false → gives (.portCfgWrite path v) s (fun t =>
      t.answered .ok ∧
      (t.rd LAN.PORT_CFG 0 (portKey p) = (v.toNat % 2 ^ 14 ||| (if p < 24 then 2 else 0))) ∧
      s.within t [.regs, .bus] [LAN.PORT_CFG.key 0 ((portKey p))])) ∧
    (∀ (path : Path) (v : BitVec 32) (p : Nat), s.takes path LAN.PAGE 0x118 = true → portOfSel (s.rd LAN.PORT_SEL 0 path.num) = some p → s.rdB LAN.PORT_CFG.ENA 0 (portKey p) = true → v.toNat % 2 = 1 → ((v.toNat % 2 ^ 14 ||| (if p < 24 then 2 else 0)) / 2 ≠ s.rd LAN.PORT_CFG 0 (portKey p) / 2) → gives (.portCfgWrite path v) s (fun t =>
      t.answered .ignored ∧
      t.rd LAN.PORT_CFG 0 (portKey p) = s.rd LAN.PORT_CFG 0 (portKey p) ∧
      s.within t [.regs, .bus, .log, .sram] (logKeys SYS.PAGE))) ∧
    (∀ (port : Fin 40), s.portState port = 1 → gives (.backoffElapsed port) s (fun t =>
      t.portState port.val = 1 ∧
      t.rdB LAN.PORT_STS.BACKOFF 0 (portKey port.val) = false ∧
      s.within t [.regs] [LAN.PORT_STS.key 0 ((portKey port.val))])) ∧
    (∀ (port : Fin 40), s.portState port ≠ 1 → idle (.backoffElapsed port) s) ∧
    (∀ (port : Fin 40) (rate : BitVec 3) (preReq ack : Bool), s.portState port = 1 → s.portEth port = false → s.rdB LAN.PORT_STS.BACKOFF 0 (portKey port.val) = false → ((laneNums port.val).any (fun l => s.rdB LAN.LANE_STS.BLOCK 0 (laneIdx port.val l) && !s.rdB LAN.LANE_CTL.DIS 0 (laneIdx port.val l)) = true) → gives (.capReceive port 1 rate preReq false ack) s (fun t =>
      t.portState port.val = 2 ∧
      t.rd LAN.PORT_STS.PARTNER_MAX 0 (portKey port.val) = rate.toNat ∧
      (t.portSt port.val).partnerPre = preReq ∧
      (∀ l : Fin 4, tget (fun _ => false) s.lan.tx (laneIdx port.val l.val) = true → (tget (fun _ => LaneTx.init) t.lan.out (laneIdx port.val l.val)).blocks = [t.capBlk port.val true l.val]) ∧
      s.within t [.regs, .lan, .freeCtr] ([LAN.PORT_STS.key 0 ((portKey port.val))] ++ (((laneNums port.val).map (fun l => LAN.LANE_STS.FAILED.key 0 (laneIdx port.val l))))))) ∧
    (∀ (port : Fin 40) (rate : BitVec 3) (preReq backoff : Bool), s.portState port = 2 → s.portEth port = false → gives (.capReceive port 1 rate preReq backoff true) s (fun t =>
      t.portState port.val = 3 ∧
      t.rd LAN.PORT_STS.RATE 0 (portKey port.val) = 0 ∧
      (t.portSt port.val).target = min 4 (min (s.rd LAN.PORT_STS.CAP_RATE 0 (portKey port.val)) rate.toNat) ∧
      s.within t [.regs, .lan] ([LAN.PORT_STS.key 0 ((portKey port.val))] ++ (((laneNums port.val).map (fun l => LAN.LANE_STS.FAILED.key 0 (laneIdx port.val l))))))) ∧
    (∀ (port : Fin 40) (version : BitVec 4) (rate : BitVec 3) (preReq backoff ack : Bool), s.portState port = 2 → s.portEth port = false → version ≠ 1 → gives (.capReceive port version rate preReq backoff ack) s (fun t =>
      t.portState port.val = 1 ∧
      t.rdB LAN.PORT_STS.BACKOFF 0 (portKey port.val) = true ∧
      t.rd LAN.PORT_FAIL.CODE 0 (portKey port.val) = 0x9B ∧
      t.rd LAN.PORT_STS.CAP_RATE 0 (portKey port.val) = (0 - 1) % 8 ∧
      t.rd LAN.PORT_FAIL.FAILS 0 (portKey port.val) = min 0xFFFF (s.rd LAN.PORT_FAIL.FAILS 0 (portKey port.val) + 1) ∧
      t.rd LAN.PORT_STS.BO_CUR 0 (portKey port.val) = min (s.rd LAN.PORT_CFG.BO_MAX 0 (portKey port.val)) (s.rd LAN.PORT_FAIL.FAILS 0 (portKey port.val)) ∧
      t.flag LAN.PAGE 5 ∧
      (∀ g : Fin 40, g ≠ port → t.portState g.val = s.portState g.val) ∧
      s.keeps t [.regs, .log, .lan, .freeCtr, .sram])) ∧
    (∀ (port : Fin 40) (version : BitVec 4) (rate : BitVec 3) (preReq backoff ack : Bool), s.portState port = 1 → s.rdB LAN.PORT_STS.BACKOFF 0 (portKey port.val) = true → idle (.capReceive port version rate preReq backoff ack) s) ∧
    (∀ (port : Fin 40) (reqs : List (List Byte)) (rx : List (BitVec 4 × List Int)), s.portState port = 3 → s.portEth port = false → gives (.trainDone port reqs rx) s (fun t =>
      t.portState port.val = 4 ∧
      (∀ l : Fin 4, t.rd LAN.LANE_EQ 0 (laneIdx port.val l.val) % 2 ^ 15 = ((reqs.getD l.val []).foldl (fun a r => (tapRequest a r).1) (s.rd LAN.LANE_EQ 0 (laneIdx port.val l.val) % 2 ^ 15))) ∧
      (∀ l : Fin 4, t.rd LAN.LANE_EQ.CTLE 0 (laneIdx port.val l.val) = match rx[l.val]? with | some e => e.1.toNat | none => s.rd LAN.LANE_EQ.CTLE 0 (laneIdx port.val l.val)) ∧
      (∀ l : Fin 4, t.dfeTaps (laneIdx port.val l.val) = match rx[l.val]? with | some e => (e.2 ++ List.replicate 8 0).take 8 | none => s.dfeTaps (laneIdx port.val l.val)) ∧
      (∀ l : Fin 4, tget (fun _ => false) s.lan.tx (laneIdx port.val l.val) = true → s.rdB LAN.LANE_STS.FAILED 0 (laneIdx port.val l.val) = false → (tget (fun _ => LaneTx.init) t.lan.out (laneIdx port.val l.val)).blocks = kBlk 0xF1 (t.trainBytes port.val 6 l.val) :: List.replicate 63 (dBlk [])) ∧
      s.within t [.regs, .lan, .freeCtr] ([LAN.PORT_STS.key 0 ((portKey port.val))] ++ (((laneNums port.val).map (fun l => LAN.LANE_EQ.key 0 (laneIdx port.val l))))))) ∧
    (∀ (port : Fin 40) (req : BitVec 8), s.portState port = 3 → s.portEth port = false → gives (.trainDone port [[req]] []) s (fun t =>
      t.rd LAN.LANE_EQ 0 (laneIdx port.val 0) % 2 ^ 15 = (tapRequest (s.rd LAN.LANE_EQ 0 (laneIdx port.val 0) % 2 ^ 15) req).1 ∧
      tget (fun _ => 0) t.lan.reply (laneIdx port.val 0) = BitVec.ofNat 8 (tapRequest (s.rd LAN.LANE_EQ 0 (laneIdx port.val 0) % 2 ^ 15) req).2 ∧
      s.within t [.regs, .lan, .freeCtr] ([LAN.PORT_STS.key 0 ((portKey port.val))] ++ (((laneNums port.val).map (fun l => LAN.LANE_EQ.key 0 (laneIdx port.val l))))))) ∧
    (∀ (port : Fin 40) (reqs : List (List Byte)) (rx : List (BitVec 4 × List Int)), s.portState port ≠ 3 → idle (.trainDone port reqs rx) s) ∧
    (∀ (port : Fin 40) (counts : List (BitVec 32)) (hdr partner : BitVec 8) (pass : Nat), s.portState port = 4 → s.portEth port = false → (pass = laneMask port.val (fun l => s.laneUsable port.val l && !hdr.getLsbD l && decide ((counts.getD l 0).toNat ≤ checkLimit (s.rd LAN.PORT_STS.RATE 0 (portKey port.val))))) → pass &&& partner.toNat ≠ 0 → s.rd LAN.PORT_STS.RATE 0 (portKey port.val) < (s.portSt port.val).target → gives (.checkDone port counts hdr partner) s (fun t =>
      t.portState port.val = 5 ∧
      (t.portSt port.val).passed.toNat = pass ∧
      t.rd LAN.PORT_STS.LANES_UP 0 (portKey port.val) = pass ∧
      (∀ l : Fin 4, bit pass l.val = false → t.rdB LAN.LANE_STS.FAILED 0 (laneIdx port.val l.val) = true) ∧
      s.within t [.regs, .lan, .freeCtr] ([LAN.PORT_STS.key 0 ((portKey port.val))] ++ (((laneNums port.val).map (fun l => LAN.LANE_STS.FAILED.key 0 (laneIdx port.val l))))))) ∧
    (∀ (port : Fin 40) (counts : List (BitVec 32)) (hdr partner : BitVec 8) (pass : Nat), s.portState port = 4 → s.portEth port = false → (pass = laneMask port.val (fun l => s.laneUsable port.val l && !hdr.getLsbD l && decide ((counts.getD l 0).toNat ≤ checkLimit (s.rd LAN.PORT_STS.RATE 0 (portKey port.val))))) → pass &&& partner.toNat ≠ 0 → (s.portSt port.val).target ≤ s.rd LAN.PORT_STS.RATE 0 (portKey port.val) → port.val ≠ 23 → gives (.checkDone port counts hdr partner) s (fun t =>
      t.portState port.val = 6 ∧
      t.rd FAB.PORT_STS.WIDTH 0 port.val = widthOf port.val (pass &&& partner.toNat) ∧
      t.rd FAB.PORT_STS.LANES 0 port.val = lanesAt (pass &&& partner.toNat) (widthOf port.val (pass &&& partner.toNat)) ∧
      t.flag LAN.PAGE 3 ∧
      s.keeps t [.regs, .log, .lan, .leaf, .sram])) ∧
    (∀ (port : Fin 40) (counts : List (BitVec 32)) (hdr partner : BitVec 8), s.portState port = 4 → s.portEth port = false → (laneMask port.val (fun l => s.laneUsable port.val l && !hdr.getLsbD l && decide ((counts.getD l 0).toNat ≤ checkLimit (s.rd LAN.PORT_STS.RATE 0 (portKey port.val)))) &&& partner.toNat = 0) → gives (.checkDone port counts hdr partner) s (fun t =>
      t.portState port.val = 1 ∧
      t.rdB LAN.PORT_STS.BACKOFF 0 (portKey port.val) = true ∧
      t.rd LAN.PORT_FAIL.CODE 0 (portKey port.val) = 0x96 ∧
      t.rd LAN.PORT_STS.CAP_RATE 0 (portKey port.val) = (s.rd LAN.PORT_STS.RATE 0 (portKey port.val) - 1) % 8 ∧
      t.rd LAN.PORT_FAIL.FAILS 0 (portKey port.val) = min 0xFFFF (s.rd LAN.PORT_FAIL.FAILS 0 (portKey port.val) + 1) ∧
      t.rd LAN.PORT_STS.BO_CUR 0 (portKey port.val) = min (s.rd LAN.PORT_CFG.BO_MAX 0 (portKey port.val)) (s.rd LAN.PORT_FAIL.FAILS 0 (portKey port.val)) ∧
      t.flag LAN.PAGE 5 ∧
      (∀ g : Fin 40, g ≠ port → t.portState g.val = s.portState g.val) ∧
      s.keeps t [.regs, .log, .lan, .freeCtr, .sram])) ∧
    (∀ (port : Fin 40) (relocked : BitVec 8), s.portState port = 5 → s.portEth port = false → (laneMask port.val (fun l => relocked.getLsbD l && !s.rdB LAN.LANE_STS.FAILED 0 (laneIdx port.val l) && !s.rdB LAN.LANE_CTL.DIS 0 (laneIdx port.val l)) ≠ 0) → gives (.stepDone port relocked) s (fun t =>
      t.portState port.val = 3 ∧
      t.rd LAN.PORT_STS.RATE 0 (portKey port.val) = (s.rd LAN.PORT_STS.RATE 0 (portKey port.val) + 1) % 8 ∧
      (∀ l : Fin 4, relocked.getLsbD l.val = false → t.rdB LAN.LANE_STS.FAILED 0 (laneIdx port.val l.val) = true) ∧
      s.within t [.regs, .lan] ([LAN.PORT_STS.key 0 ((portKey port.val))] ++ (((laneNums port.val).map (fun l => LAN.LANE_STS.FAILED.key 0 (laneIdx port.val l))))))) ∧
    (∀ (port : Fin 40), s.portState port = 2 → gives (.exchangeTimeout port) s (fun t =>
      t.portState port.val = 1 ∧
      t.rdB LAN.PORT_STS.BACKOFF 0 (portKey port.val) = true ∧
      t.rd LAN.PORT_FAIL.CODE 0 (portKey port.val) = 0x94 ∧
      t.rd LAN.PORT_STS.CAP_RATE 0 (portKey port.val) = (0 - 1) % 8 ∧
      t.rd LAN.PORT_FAIL.FAILS 0 (portKey port.val) = min 0xFFFF (s.rd LAN.PORT_FAIL.FAILS 0 (portKey port.val) + 1) ∧
      t.rd LAN.PORT_STS.BO_CUR 0 (portKey port.val) = min (s.rd LAN.PORT_CFG.BO_MAX 0 (portKey port.val)) (s.rd LAN.PORT_FAIL.FAILS 0 (portKey port.val)) ∧
      t.flag LAN.PAGE 5 ∧
      (∀ g : Fin 40, g ≠ port → t.portState g.val = s.portState g.val) ∧
      s.keeps t [.regs, .log, .lan, .freeCtr, .sram])) ∧
    (∀ (port : Fin 40), (s.portState port = 3 ∨ s.portState port = 4) → gives (.trainBlockTimeout port) s (fun t =>
      t.portState port.val = 1 ∧
      t.rdB LAN.PORT_STS.BACKOFF 0 (portKey port.val) = true ∧
      t.rd LAN.PORT_FAIL.CODE 0 (portKey port.val) = 0x95 ∧
      t.rd LAN.PORT_STS.CAP_RATE 0 (portKey port.val) = (s.rd LAN.PORT_STS.RATE 0 (portKey port.val) - 1) % 8 ∧
      t.rd LAN.PORT_FAIL.FAILS 0 (portKey port.val) = min 0xFFFF (s.rd LAN.PORT_FAIL.FAILS 0 (portKey port.val) + 1) ∧
      t.rd LAN.PORT_STS.BO_CUR 0 (portKey port.val) = min (s.rd LAN.PORT_CFG.BO_MAX 0 (portKey port.val)) (s.rd LAN.PORT_FAIL.FAILS 0 (portKey port.val)) ∧
      t.flag LAN.PAGE 5 ∧
      (∀ g : Fin 40, g ≠ port → t.portState g.val = s.portState g.val) ∧
      s.keeps t [.regs, .log, .lan, .freeCtr, .sram])) ∧
    (∀ (port : Fin 40), s.portState port = 3 → gives (.trainTimeout port) s (fun t =>
      t.portState port.val = 1 ∧
      t.rdB LAN.PORT_STS.BACKOFF 0 (portKey port.val) = true ∧
      t.rd LAN.PORT_FAIL.CODE 0 (portKey port.val) = 0x95 ∧
      t.rd LAN.PORT_STS.CAP_RATE 0 (portKey port.val) = (s.rd LAN.PORT_STS.RATE 0 (portKey port.val) - 1) % 8 ∧
      t.rd LAN.PORT_FAIL.FAILS 0 (portKey port.val) = min 0xFFFF (s.rd LAN.PORT_FAIL.FAILS 0 (portKey port.val) + 1) ∧
      t.rd LAN.PORT_STS.BO_CUR 0 (portKey port.val) = min (s.rd LAN.PORT_CFG.BO_MAX 0 (portKey port.val)) (s.rd LAN.PORT_FAIL.FAILS 0 (portKey port.val)) ∧
      t.flag LAN.PAGE 5 ∧
      (∀ g : Fin 40, g ≠ port → t.portState g.val = s.portState g.val) ∧
      s.keeps t [.regs, .log, .lan, .freeCtr, .sram])) ∧
    (∀ (port : Fin 40), s.portState port = 5 → gives (.stepRelockTimeout port) s (fun t =>
      t.portState port.val = 1 ∧
      t.rdB LAN.PORT_STS.BACKOFF 0 (portKey port.val) = true ∧
      t.rd LAN.PORT_FAIL.CODE 0 (portKey port.val) = 0x97 ∧
      t.rd LAN.PORT_STS.CAP_RATE 0 (portKey port.val) = ((s.rd LAN.PORT_STS.RATE 0 (portKey port.val) + 1) - 1) % 8 ∧
      t.rd LAN.PORT_FAIL.FAILS 0 (portKey port.val) = min 0xFFFF (s.rd LAN.PORT_FAIL.FAILS 0 (portKey port.val) + 1) ∧
      t.rd LAN.PORT_STS.BO_CUR 0 (portKey port.val) = min (s.rd LAN.PORT_CFG.BO_MAX 0 (portKey port.val)) (s.rd LAN.PORT_FAIL.FAILS 0 (portKey port.val)) ∧
      t.flag LAN.PAGE 5 ∧
      (∀ g : Fin 40, g ≠ port → t.portState g.val = s.portState g.val) ∧
      s.keeps t [.regs, .log, .lan, .freeCtr, .sram])) ∧
    (∀ (port : Fin 40), s.portState port ≠ 2 → idle (.exchangeTimeout port) s) ∧
    (∀ (port : Fin 40), s.portState port ≠ 3 → idle (.trainTimeout port) s) ∧
    (∀ (port : Fin 40), s.portUp port = true → s.portEth port = false → gives (.capRestore port true) s (fun t =>
      t.rd LAN.PORT_STS.CAP_RATE 0 (portKey port.val) = min 4 (s.rd LAN.PORT_CFG.MAX_RATE 0 (portKey port.val)) ∧
      t.portState port.val = 6 ∧
      s.within t [.regs] [LAN.PORT_STS.key 0 ((portKey port.val))])) ∧
    (∀ (port : Fin 40), s.portUp port = true → s.portEth port = false → gives (.capRestore port false) s (fun t =>
      t.rd LAN.PORT_STS.BO_CUR 0 (portKey port.val) = 0 ∧
      t.rd LAN.PORT_FAIL.FAILS 0 (portKey port.val) = 0 ∧
      t.portState port.val = 6 ∧
      s.within t [.regs] [LAN.PORT_STS.key 0 ((portKey port.val)), LAN.PORT_FAIL.CODE.key 0 ((portKey port.val))])) ∧
    (∀ (port : Fin 40) (hour : Bool), s.portUp port = false → idle (.capRestore port hour) s) ∧
    (∀ (port : Fin 16), s.portEth (24 + port.val) = true → s.portState (24 + port.val) = 7 → gives (.ethPortBringup port .negotiated) s (fun t =>
      t.portState (24 + port.val) = 8 ∧
      s.within t [.regs] [LAN.PORT_STS.key 0 ((portKey (24 + port.val)))])) ∧
    (∀ (port : Fin 16), s.portEth (24 + port.val) = true → s.portState (24 + port.val) = 8 → gives (.ethPortBringup port .trained) s (fun t =>
      t.portState (24 + port.val) = 6 ∧
      t.rd LAN.PORT_STS.RATE 0 (portKey (24 + port.val)) = 4 ∧
      t.rd LAN.PORT_STS.LANES_UP 0 (portKey (24 + port.val)) = ethLanes (s.rd LAN.PORT_CFG.ETH_TYPE 0 (portKey (24 + port.val))) ∧
      t.flag LAN.PAGE 3 ∧
      s.within t [.regs, .log, .sram] ([LAN.PORT_STS.key 0 ((portKey (24 + port.val)))] ++ eventKeys LAN.PAGE))) ∧
    (∀ (port : Fin 16), s.portEth (24 + port.val) = true → 6 < s.portState (24 + port.val) → gives (.ethPortBringup port .failed) s (fun t =>
      t.rd LAN.PORT_FAIL.CODE 0 (portKey (24 + port.val)) = 0x9A ∧
      (t.portState (24 + port.val) = if s.rdB LAN.PORT_CFG.AN 0 (portKey (24 + port.val)) = true then 7 else 8) ∧
      t.flag LAN.PAGE 5 ∧
      s.keeps t [.regs, .log, .lan, .sram])) ∧
    (∀ (port : Fin 16) (a b : BitVec 32), s.portEth (24 + port.val) = true → 6 ≤ s.portState (24 + port.val) → gives (.ethPortBringup port (.codewords a b)) s (fun t =>
      t.rd LAN.ETH_FEC_COR.COUNT 0 (portKey (24 + port.val)) = min 0xFFFFFFFF (s.rd LAN.ETH_FEC_COR.COUNT 0 (portKey (24 + port.val)) + a.toNat) ∧
      t.rd LAN.ETH_FEC_UNC.COUNT 0 (portKey (24 + port.val)) = min 0xFFFFFFFF (s.rd LAN.ETH_FEC_UNC.COUNT 0 (portKey (24 + port.val)) + b.toNat) ∧
      s.within t [.regs] [LAN.ETH_FEC_COR.COUNT.key 0 ((portKey (24 + port.val))), LAN.ETH_FEC_UNC.COUNT.key 0 ((portKey (24 + port.val)))])) ∧
    (∀ (port : Fin 16) (ev : EthStep), s.portEth (24 + port.val) = false → idle (.ethPortBringup port ev) s)

/-- Flits, replay, credits and width of a Calnar port: The expected flit with a credit is accepted: a message for this
module is delivered whole at its tail, another is forwarded with TTL - 1 and its torus class on its routed port
against a credit, and kept for replay; its input credit is owed back. A head that fails a check, has no route or no
TTL is dropped with its NAK, violations counted. A duplicate is discarded; a flit outside the window or without
credit is a violation. ACK frees the replay buffer, NAK counts a replay; a stalled replay and a failed width
agreement take the port down, logged 0xA7 and 0xA6. An agreed width uses the lowest common lanes; narrowing logs
0xA5. The points the spec leaves open in it follow the model's own choices, log entries 24, 27, 28, 41, 220. (R320,
R321, R322, R323, R324, R325, R327, R334, R335, R336, R339.) -/
def Obligations.FabricLinks : Prop :=
  ∀ s : State,
    (∀ (port : Fin 40) (flit : List Byte) (k : Nat), s.calnarUp port.val = true → flit.length = 64 → BitVec.ofNat 16 (beAt flit 0 2) = (s.link port.val).rxNext → beAt flit 2 1 % 4 ≠ 0 → beAt flit 2 1 / 32 = 0 → beAt flit 3 1 = 0 → k = 2 * (beAt flit 2 1 % 4 - 1) + bits (beAt flit 2 1) 2 2 → 0 < (s.link port.val).granted.getD k 0 → flitHead flit = true → (s.link port.val).cur.getD k none = none → flitTail flit = true → s.headCheck port.val (beAt flit 2 1 % 4) (slice flit 4 16) (flitTail flit) = none → (s.dir port.val = 6 ∨ beAt flit 2 1 % 4 = 1 ∨ s.way (beAt flit 6 2) (beAt flit 4 2) s.carries = .taken) → gives (.flitReceive port flit) s (fun t =>
      (t.link port.val).rxNext = (s.link port.val).rxNext + 1 ∧
      (t.link port.val).granted = (s.link port.val).granted.set k ((s.link port.val).granted.getD k 0 - 1) ∧
      (t.link port.val).owed = (s.link port.val).owed.set k ((s.link port.val).owed.getD k 0 + 1) ∧
      t.fab.inbox = s.fab.inbox ++ [⟨beAt flit 2 1 % 4, port.val, slice flit 4 16, (slice flit 20 44).take (beAt flit 12 2)⟩] ∧
      s.within t [.fab] [])) ∧
    (∀ (port : Fin 40) (flit : List Byte) (k : Nat), s.calnarUp port.val = true → flit.length = 64 → BitVec.ofNat 16 (beAt flit 0 2) = (s.link port.val).rxNext → beAt flit 2 1 % 4 ≠ 0 → beAt flit 2 1 / 32 = 0 → beAt flit 3 1 = 0 → k = 2 * (beAt flit 2 1 % 4 - 1) + bits (beAt flit 2 1) 2 2 → 0 < (s.link port.val).granted.getD k 0 → flitHead flit = true → (s.link port.val).cur.getD k none = none → flitTail flit = false → s.headCheck port.val (beAt flit 2 1 % 4) (slice flit 4 16) (flitTail flit) = none → (s.dir port.val = 6 ∨ beAt flit 2 1 % 4 = 1 ∨ s.way (beAt flit 6 2) (beAt flit 4 2) s.carries = .taken) → k < (s.link port.val).cur.length → gives (.flitReceive port flit) s (fun t =>
      (t.link port.val).rxNext = (s.link port.val).rxNext + 1 ∧
      (t.link port.val).granted = (s.link port.val).granted.set k ((s.link port.val).granted.getD k 0 - 1) ∧
      (t.link port.val).owed = (s.link port.val).owed.set k ((s.link port.val).owed.getD k 0 + 1) ∧
      t.fab.inbox = s.fab.inbox ∧
      (t.link port.val).cur.getD k none = some ⟨flitsOf (beAt flit 12 2) - 1, none, false, bits (beAt flit 2 1) 2 2, slice flit 4 16, slice flit 20 44⟩ ∧
      s.within t [.fab] [])) ∧
    (∀ (port : Fin 40) (flit : List Byte) (k : Nat) (c : CurMsg), s.calnarUp port.val = true → flit.length = 64 → BitVec.ofNat 16 (beAt flit 0 2) = (s.link port.val).rxNext → beAt flit 2 1 % 4 ≠ 0 → beAt flit 2 1 / 32 = 0 → beAt flit 3 1 = 0 → k = 2 * (beAt flit 2 1 % 4 - 1) + bits (beAt flit 2 1) 2 2 → 0 < (s.link port.val).granted.getD k 0 → flitHead flit = false → flitTail flit = true → (s.link port.val).cur.getD k none = some c → c.drop = false → c.left = 1 → c.out = none → s.quarantined port.val = false → gives (.flitReceive port flit) s (fun t =>
      (t.link port.val).rxNext = (s.link port.val).rxNext + 1 ∧
      (t.link port.val).granted = (s.link port.val).granted.set k ((s.link port.val).granted.getD k 0 - 1) ∧
      (t.link port.val).owed = (s.link port.val).owed.set k ((s.link port.val).owed.getD k 0 + 1) ∧
      t.fab.inbox = s.fab.inbox ++ [⟨beAt flit 2 1 % 4, port.val, c.head, (c.body ++ slice flit 4 60).take (beAt c.head 8 2)⟩] ∧
      (t.link port.val).cur.getD k none = none ∧
      s.within t [.fab] [])) ∧
    (∀ (port : Fin 40) (flit : List Byte) (k : Nat) (q cls : Nat) (tb al : Bool), s.calnarUp port.val = true → flit.length = 64 → BitVec.ofNat 16 (beAt flit 0 2) = (s.link port.val).rxNext → beAt flit 2 1 % 4 ≠ 0 → beAt flit 2 1 / 32 = 0 → beAt flit 3 1 = 0 → k = 2 * (beAt flit 2 1 % 4 - 1) + bits (beAt flit 2 1) 2 2 → 0 < (s.link port.val).granted.getD k 0 → flitHead flit = true → (s.link port.val).cur.getD k none = none → flitTail flit = true → s.headCheck port.val (beAt flit 2 1 % 4) (slice flit 4 16) (flitTail flit) = none → s.dir port.val ≠ 6 → beAt flit 2 1 % 4 ≠ 1 → s.way (beAt flit 6 2) (beAt flit 4 2) s.carries = .port q tb al → q ≠ port.val → 0 < beAt flit 10 2 → cls = s.outClass (s.dir port.val) (s.dir q) (bits (beAt flit 2 1) 2 2) → s.carries q = true → (s.link q).txQ = [] → (s.link q).replay.length < 1024 → (s.link q).credits.length = 6 → (s.link q).locked = List.replicate 6 none → 0 < (s.link q).credits.getD (2 * (beAt flit 2 1 % 4 - 1) + cls) 0 → gives (.flitReceive port flit) s (fun t =>
      (t.link port.val).rxNext = (s.link port.val).rxNext + 1 ∧
      t.fab.inbox = s.fab.inbox ∧
      t.rd FAB.STAT_FWD = min 0xFFFFFFFF (s.rd FAB.STAT_FWD + 1) ∧
      (t.link q).replay = (s.link q).replay ++ [withLseq (s.link q).txNext.toNat (forwardHead flit tb al cls)] ∧
      (t.link q).txNext = (s.link q).txNext + 1 ∧
      (t.link q).credits.getD (2 * (beAt flit 2 1 % 4 - 1) + cls) 0 = (s.link q).credits.getD (2 * (beAt flit 2 1 % 4 - 1) + cls) 0 - 1 ∧
      beAt (withLseq (s.link q).txNext.toNat (forwardHead flit tb al cls)) 10 2 = beAt flit 10 2 - 1 ∧
      s.within t [.regs, .lan, .fab, .freeCtr] [FAB.STAT_FWD.key 0 0])) ∧
    (∀ (port : Fin 40) (flit : List Byte) (k : Nat) (code : Nat), s.calnarUp port.val = true → flit.length = 64 → BitVec.ofNat 16 (beAt flit 0 2) = (s.link port.val).rxNext → beAt flit 2 1 % 4 ≠ 0 → beAt flit 2 1 / 32 = 0 → beAt flit 3 1 = 0 → k = 2 * (beAt flit 2 1 % 4 - 1) + bits (beAt flit 2 1) 2 2 → 0 < (s.link port.val).granted.getD k 0 → flitHead flit = true → (s.link port.val).cur.getD k none = none → s.headCheck port.val (beAt flit 2 1 % 4) (slice flit 4 16) (flitTail flit) = some code → isViolation code = true → s.recent (64 * port.val + code) 1600000 = false → gives (.flitReceive port flit) s (fun t =>
      t.fab.inbox = s.fab.inbox ∧
      t.rd FAB.STAT_DROP = min 0xFFFFFFFF (s.rd FAB.STAT_DROP + 1) ∧
      t.rd FAB.NAK_LAST.CODE = code ∧
      t.rd FAB.NAK_LAST.PORT = port.val ∧
      t.rd FAB.NAK_LAST.SRC = beAt flit 6 2 ∧
      t.rd FAB.PORT_VIOL.COUNT 0 port.val = min 0xFFFF (s.rd FAB.PORT_VIOL.COUNT 0 port.val + 1) ∧
      t.rd FAB.PORT_VIOL.CODE 0 port.val = code ∧
      s.keeps t [.regs, .eff, .log, .fab, .sram])) ∧
    (∀ (port : Fin 40) (flit : List Byte) (k : Nat), s.calnarUp port.val = true → flit.length = 64 → BitVec.ofNat 16 (beAt flit 0 2) = (s.link port.val).rxNext → beAt flit 2 1 % 4 ≠ 0 → beAt flit 2 1 / 32 = 0 → beAt flit 3 1 = 0 → k = 2 * (beAt flit 2 1 % 4 - 1) + bits (beAt flit 2 1) 2 2 → 0 < (s.link port.val).granted.getD k 0 → flitHead flit = true → (s.link port.val).cur.getD k none = none → s.headCheck port.val (beAt flit 2 1 % 4) (slice flit 4 16) (flitTail flit) = some 0x09 → s.recent (64 * port.val + 0x09) 1600000 = false → gives (.flitReceive port flit) s (fun t =>
      t.fab.inbox = s.fab.inbox ∧
      t.rd FAB.STAT_DROP = min 0xFFFFFFFF (s.rd FAB.STAT_DROP + 1) ∧
      t.rd FAB.NAK_LAST.CODE = 0x09 ∧
      t.rd FAB.NAK_LAST.PORT = port.val ∧
      t.rd FAB.NAK_LAST.SRC = beAt flit 6 2 ∧
      s.keeps t [.regs, .eff, .log, .fab, .sram])) ∧
    (∀ (port : Fin 40) (flit : List Byte) (k : Nat), s.calnarUp port.val = true → flit.length = 64 → BitVec.ofNat 16 (beAt flit 0 2) = (s.link port.val).rxNext → beAt flit 2 1 % 4 ≠ 0 → beAt flit 2 1 / 32 = 0 → beAt flit 3 1 = 0 → k = 2 * (beAt flit 2 1 % 4 - 1) + bits (beAt flit 2 1) 2 2 → 0 < (s.link port.val).granted.getD k 0 → flitHead flit = true → (s.link port.val).cur.getD k none = none → s.headCheck port.val (beAt flit 2 1 % 4) (slice flit 4 16) (flitTail flit) = some 0x08 → s.recent (64 * port.val + 0x08) 1600000 = false → gives (.flitReceive port flit) s (fun t =>
      t.fab.inbox = s.fab.inbox ∧
      t.rd FAB.STAT_DROP = min 0xFFFFFFFF (s.rd FAB.STAT_DROP + 1) ∧
      t.rd FAB.NAK_LAST.CODE = 0x08 ∧
      t.rd FAB.NAK_LAST.PORT = port.val ∧
      t.rd FAB.NAK_LAST.SRC = beAt flit 6 2 ∧
      s.keeps t [.regs, .eff, .log, .fab, .sram])) ∧
    (∀ (port : Fin 40) (flit : List Byte) (k : Nat), s.calnarUp port.val = true → flit.length = 64 → BitVec.ofNat 16 (beAt flit 0 2) = (s.link port.val).rxNext → beAt flit 2 1 % 4 ≠ 0 → beAt flit 2 1 / 32 = 0 → beAt flit 3 1 = 0 → k = 2 * (beAt flit 2 1 % 4 - 1) + bits (beAt flit 2 1) 2 2 → 0 < (s.link port.val).granted.getD k 0 → flitHead flit = true → (s.link port.val).cur.getD k none = none → s.headCheck port.val (beAt flit 2 1 % 4) (slice flit 4 16) (flitTail flit) = none → s.dir port.val ≠ 6 → beAt flit 2 1 % 4 ≠ 1 → s.way (beAt flit 6 2) (beAt flit 4 2) s.carries = .noRoute → s.recent (64 * port.val + 0x01) 1600000 = false → gives (.flitReceive port flit) s (fun t =>
      t.fab.inbox = s.fab.inbox ∧
      t.rd FAB.STAT_DROP = min 0xFFFFFFFF (s.rd FAB.STAT_DROP + 1) ∧
      t.flag FAB.PAGE 7 ∧
      t.rd FAB.NAK_LAST.CODE = 0x01 ∧
      t.rd FAB.NAK_LAST.PORT = port.val ∧
      t.rd FAB.NAK_LAST.SRC = beAt flit 6 2 ∧
      s.keeps t [.regs, .eff, .log, .fab, .sram])) ∧
    (∀ (port : Fin 40) (flit : List Byte) (k : Nat), s.calnarUp port.val = true → flit.length = 64 → BitVec.ofNat 16 (beAt flit 0 2) = (s.link port.val).rxNext → beAt flit 2 1 % 4 ≠ 0 → beAt flit 2 1 / 32 = 0 → beAt flit 3 1 = 0 → k = 2 * (beAt flit 2 1 % 4 - 1) + bits (beAt flit 2 1) 2 2 → 0 < (s.link port.val).granted.getD k 0 → flitHead flit = true → (s.link port.val).cur.getD k none = none → s.headCheck port.val (beAt flit 2 1 % 4) (slice flit 4 16) (flitTail flit) = none → s.dir port.val ≠ 6 → beAt flit 2 1 % 4 ≠ 1 → s.way (beAt flit 6 2) (beAt flit 4 2) s.carries ≠ .noRoute → s.way (beAt flit 6 2) (beAt flit 4 2) s.carries ≠ .taken → beAt flit 10 2 % 1024 = 0 → s.recent (64 * port.val + 0x02) 1600000 = false → gives (.flitReceive port flit) s (fun t =>
      t.fab.inbox = s.fab.inbox ∧
      t.rd FAB.STAT_DROP = min 0xFFFFFFFF (s.rd FAB.STAT_DROP + 1) ∧
      s.logged t FAB.PAGE 0xAC (fun a b => a = s.rd FAB.PORT_STS 0 port.val ∧ b = beAt flit 4 2) ∧
      t.rd FAB.NAK_LAST.CODE = 0x02 ∧
      t.rd FAB.NAK_LAST.PORT = port.val ∧
      t.rd FAB.NAK_LAST.SRC = beAt flit 6 2 ∧
      s.keeps t [.regs, .eff, .log, .fab, .sram])) ∧
    (∀ (port : Fin 40) (flit : List Byte) (k : Nat), s.calnarUp port.val = true → flit.length = 64 → BitVec.ofNat 16 (beAt flit 0 2) = (s.link port.val).rxNext → beAt flit 2 1 % 4 ≠ 0 → beAt flit 2 1 / 32 = 0 → beAt flit 3 1 = 0 → k = 2 * (beAt flit 2 1 % 4 - 1) + bits (beAt flit 2 1) 2 2 → (s.link port.val).granted.getD k 0 = 0 → s.recent (64 * port.val + 0x06) 1600000 = false → gives (.flitReceive port flit) s (fun t =>
      t.fab.inbox = s.fab.inbox ∧
      t.rd FAB.STAT_DROP = min 0xFFFFFFFF (s.rd FAB.STAT_DROP + 1) ∧
      t.rd FAB.NAK_LAST.CODE = 0x06 ∧
      t.rd FAB.NAK_LAST.PORT = port.val ∧
      t.rd FAB.PORT_VIOL.COUNT 0 port.val = min 0xFFFF (s.rd FAB.PORT_VIOL.COUNT 0 port.val + 1) ∧
      t.rd FAB.PORT_VIOL.CODE 0 port.val = 0x06 ∧
      s.keeps t [.regs, .eff, .log, .fab, .sram])) ∧
    (∀ (port : Fin 40) (flit : List Byte), 0 < ((s.link port.val).rxNext - BitVec.ofNat 16 (beAt flit 0 2)).toNat → ((s.link port.val).rxNext - BitVec.ofNat 16 (beAt flit 0 2)).toNat ≤ 1024 → idle (.flitReceive port flit) s) ∧
    (∀ (port : Fin 40) (flit : List Byte), s.calnarUp port.val = true → flit.length = 64 → 1024 < ((s.link port.val).rxNext - BitVec.ofNat 16 (beAt flit 0 2)).toNat → s.recent (64 * port.val + 0x07) 1600000 = false → gives (.flitReceive port flit) s (fun t =>
      t.fab.inbox = s.fab.inbox ∧
      (t.link port.val).rxNext = (s.link port.val).rxNext ∧
      (t.link port.val).lctl = some ((s.link port.val).rxNext.toNat, true, 0, 0) ∧
      t.rd FAB.NAK_LAST.CODE = 0x07 ∧
      t.rd FAB.NAK_LAST.PORT = port.val ∧
      t.rd FAB.PORT_VIOL.COUNT 0 port.val = min 0xFFFF (s.rd FAB.PORT_VIOL.COUNT 0 port.val + 1) ∧
      t.rd FAB.PORT_VIOL.CODE 0 port.val = 0x07 ∧
      s.keeps t [.regs, .eff, .log, .lan, .fab, .freeCtr, .sram])) ∧
    (∀ (port : Fin 40) (flit : List Byte), s.calnarUp port.val = false → idle (.flitReceive port flit) s) ∧
    (∀ (port : Fin 40) (errs : Fin 213), s.calnarUp port.val = true → 3 ≤ s.rd LAN.PORT_STS.RATE 0 (portKey port.val) → 6 < errs.val → gives (.fecFrameReceive port errs) s (fun t =>
      (t.link port.val).lctl = some ((s.link port.val).rxNext.toNat, true, 0, 0) ∧
      s.within t [.lan, .fab, .freeCtr] [])) ∧
    (∀ (port : Fin 40) (errs : Fin 213), (errs.val ≤ 6 ∨ s.rd LAN.PORT_STS.RATE 0 (portKey port.val) < 3) → idle (.fecFrameReceive port errs) s) ∧
    (∀ (port : Fin 40) (ack : BitVec 16) (idx : BitVec 3) (valid : Bool) (credits : BitVec 16) (n : Nat), s.calnarUp port.val = true → n = (ack - ((s.link port.val).txNext - BitVec.ofNat 16 (s.link port.val).replay.length)).toNat → 0 < n → n ≤ (s.link port.val).replay.length → (s.link port.val).txQ = [] → valid = false → gives (.lctlReceive port 0x10 ack false idx valid credits) s (fun t =>
      (t.link port.val).replay = (s.link port.val).replay.drop n ∧
      (t.link port.val).naks = 0 ∧
      (t.link port.val).credits = (s.link port.val).credits ∧
      t.rd FAB.PORT_REPLAY 0 port.val = s.rd FAB.PORT_REPLAY 0 port.val ∧
      s.within t [.fab] [])) ∧
    (∀ (port : Fin 40) (ack : BitVec 16) (nak : Bool) (idx : BitVec 3) (credits : BitVec 16), s.calnarUp port.val = true → ack = (s.link port.val).txNext - BitVec.ofNat 16 (s.link port.val).replay.length → (s.link port.val).txQ = [] → idx.toNat < 6 → gives (.lctlReceive port 0x10 ack nak idx true credits) s (fun t =>
      (t.link port.val).credits = (s.link port.val).credits.set idx.toNat ((s.link port.val).credits.getD idx.toNat 0 + credits.toNat) ∧
      (nak = true → t.rd FAB.PORT_REPLAY 0 port.val = min 0xFFFFFFFF (s.rd FAB.PORT_REPLAY 0 port.val + 1)) ∧
      (t.link port.val).naks = (s.link port.val).naks + b2n nak ∧
      (t.link port.val).replay = (s.link port.val).replay ∧
      s.within t [.regs, .lan, .fab, .freeCtr] [FAB.PORT_REPLAY.key 0 (port.val)])) ∧
    (∀ (port : Fin 40) (kind : BitVec 8) (ack : BitVec 16) (nak : Bool) (idx : BitVec 3) (valid : Bool) (credits : BitVec 16), s.calnarUp port.val = true → 4 ≤ kind.toNat → kind.toNat ≤ 0xEF → (kind.toNat < 0x10 ∨ 0x13 < kind.toNat) → s.recent (64 * port.val + 0x0A) 1600000 = false → gives (.lctlReceive port kind ack nak idx valid credits) s (fun t =>
      t.fab.inbox = s.fab.inbox ∧
      t.rd FAB.NAK_LAST.CODE = 0x0A ∧
      t.rd FAB.NAK_LAST.PORT = port.val ∧
      t.rd FAB.PORT_VIOL.COUNT 0 port.val = min 0xFFFF (s.rd FAB.PORT_VIOL.COUNT 0 port.val + 1) ∧
      t.rd FAB.PORT_VIOL.CODE 0 port.val = 0x0A ∧
      s.keeps t [.regs, .eff, .log, .fab, .sram])) ∧
    (∀ (port : Fin 40) (kind : BitVec 8) (ack : BitVec 16) (nak : Bool) (idx : BitVec 3) (valid : Bool) (credits : BitVec 16), (s.calnarUp port.val = false ∨ kind.toNat < 4 ∨ 0xEF < kind.toNat ∨ (0x11 ≤ kind.toNat ∧ kind.toNat ≤ 0x13)) → idle (.lctlReceive port kind ack nak idx valid credits) s) ∧
    (∀ (port : Fin 40) (i : Nat), s.calnarUp port.val = true → i < 6 → 0 < (s.link port.val).owed.getD i 0 → (∀ j : Fin 6, j.val < i → (s.link port.val).owed.getD j.val 0 = 0) → gives (.lctlAckSend port) s (fun t =>
      (t.link port.val).lctl = some ((s.link port.val).rxNext.toNat, false, i, (s.link port.val).owed.getD i 0) ∧
      (t.link port.val).owed = (s.link port.val).owed.set i 0 ∧
      (t.link port.val).granted = (s.link port.val).granted.set i ((s.link port.val).granted.getD i 0 + (s.link port.val).owed.getD i 0) ∧
      tget (fun _ => []) t.fab.trSent port.val = tget (fun _ => []) s.fab.trOut port.val ∧
      tget (fun _ => []) t.fab.trOut port.val = [] ∧
      s.within t [.lan, .fab, .freeCtr] [])) ∧
    (∀ (port : Fin 40), s.calnarUp port.val = false → idle (.lctlAckSend port) s) ∧
    (∀ (port : Fin 40), s.calnarUp port.val = true → (s.link port.val).replay ≠ [] → (8 ≤ (s.link port.val).naks ∨ (s.link port.val).progressAt + 160000 ≤ s.clk.now) → port.val ≠ 23 → (s.link port.val).txQ = [] → gives (.replayTimeout port) s (fun t =>
      t.portState port.val = 1 ∧
      (t.link port.val) = LinkSt.init ∧
      t.flag FAB.PAGE 5 ∧
      s.logged t FAB.PAGE 0xA7 (fun a b => a = t.rd FAB.PORT_STS 0 port.val ∧ b = port.val) ∧
      s.keeps t [.regs, .log, .lan, .fab, .freeCtr, .sram])) ∧
    (∀ (port : Fin 40), ((s.link port.val).replay = [] ∨ ((s.link port.val).naks < 8 ∧ s.clk.now < (s.link port.val).progressAt + 160000)) → idle (.replayTimeout port) s) ∧
    (∀ (port : Fin 40) (mask : BitVec 8) (switch : BitVec 16) (ack : Bool), s.calnarUp port.val = true → s.rxMask port.val &&& mask.toNat ≠ 0 → gives (.widthReceive port mask switch ack) s (fun t =>
      (t.wide port.val).sending = !ack ∧
      (t.wide port.val).partner = mask ∧
      (t.wide port.val).switchAt = switch ∧
      (ack = true → (t.wide port.val).agreed = some (min (s.rd FAB.PORT_STS.WIDTH 0 port.val) (widthOf port.val (s.rxMask port.val &&& mask.toNat)), BitVec.ofNat 8 (lanesAt (s.rxMask port.val &&& mask.toNat) (min (s.rd FAB.PORT_STS.WIDTH 0 port.val) (widthOf port.val (s.rxMask port.val &&& mask.toNat)))))) ∧
      (ack = false → (t.wide port.val).agreed = (s.wide port.val).agreed) ∧
      s.within t [.lan, .fab, .freeCtr] [])) ∧
    (∀ (port : Fin 40) (mask : BitVec 8) (switch : BitVec 16) (ack : Bool), s.calnarUp port.val = true → s.rxMask port.val &&& mask.toNat = 0 → port.val ≠ 23 → (s.link port.val).txQ = [] → gives (.widthReceive port mask switch ack) s (fun t =>
      t.portState port.val = 1 ∧
      (t.link port.val) = LinkSt.init ∧
      s.keeps t [.regs, .log, .lan, .fab, .freeCtr, .sram])) ∧
    (∀ (port : Fin 40) (mask : BitVec 8) (switch : BitVec 16) (ack : Bool), s.calnarUp port.val = false → idle (.widthReceive port mask switch ack) s) ∧
    (∀ (port : Fin 40) (w : Nat) (m : BitVec 8), s.calnarUp port.val = true → (s.wide port.val).agreed = some (w, m) → w < s.rd FAB.PORT_STS.WIDTH 0 port.val → gives (.widthSwitch port) s (fun t =>
      t.rd FAB.PORT_STS.WIDTH 0 port.val = w % 16 ∧
      t.rd FAB.PORT_STS.LANES 0 port.val = m.toNat ∧
      (t.wide port.val).agreed = none ∧
      (t.link port.val).lctl = some ((s.link port.val).rxNext.toNat, true, 0, 0) ∧
      t.flag FAB.PAGE 3 ∧
      s.logged t FAB.PAGE 0xA5 (fun a b => a = t.rd FAB.PORT_STS 0 port.val ∧ b = port.val) ∧
      s.within t [.regs, .log, .lan, .fab, .freeCtr, .sram] ([FAB.PORT_STS.key 0 (port.val)] ++ logKeys FAB.PAGE ++ eventKeys FAB.PAGE))) ∧
    (∀ (port : Fin 40) (m : BitVec 8), s.calnarUp port.val = true → (s.wide port.val).agreed = some (s.rd FAB.PORT_STS.WIDTH 0 port.val, m) → gives (.widthSwitch port) s (fun t =>
      t.rd FAB.PORT_STS.WIDTH 0 port.val = s.rd FAB.PORT_STS.WIDTH 0 port.val ∧
      t.rd FAB.PORT_STS.LANES 0 port.val = m.toNat ∧
      s.within t [.regs, .lan, .fab, .freeCtr] [FAB.PORT_STS.key 0 (port.val)])) ∧
    (∀ (port : Fin 40), (s.wide port.val).agreed = none → idle (.widthSwitch port) s) ∧
    (∀ (port : Fin 40), s.calnarUp port.val = true → (s.wide port.val).sending = true → port.val ≠ 23 → (s.link port.val).txQ = [] → gives (.widthTimeout port) s (fun t =>
      t.portState port.val = 1 ∧
      t.rd LAN.PORT_STS.BO_CUR 0 (portKey port.val) = 0 ∧
      s.logged t FAB.PAGE 0xA6 (fun a b => a = t.rd FAB.PORT_STS 0 port.val ∧ b = port.val) ∧
      s.keeps t [.regs, .log, .lan, .fab, .freeCtr, .sram])) ∧
    (∀ (port : Fin 40), (s.wide port.val).sending = false → idle (.widthTimeout port) s)

/-- Root election, derived addresses and neighbours: An eligible module that has heard no lower ID names itself root,
and a root repeats its PROBE with the next epoch, on every Up port of DIR 1 to 4 and 6. An improving PROBE is held
with the sender's coordinate stepped back along the arrival port, and forwarded but for its port; outside an open
grid the module is unaddressed, logged 0xA2; a twin's PROBE ends eligibility, logged 0xA4. A lost root starts over.
A held coordinate becomes the address with 0xA0 and ADDR_SET. NEIGH carries ID, address and direction; the check of
an arriving NEIGH sets NEIGH_OK, and a failure logs 0xA1 and raises CONFLICT. The points the spec leaves open in it
follow the model's own choices, log entries 25, 30, 31, 32, 35, 218, 219, 221. (R315, R316, R317, R318, R319, R329,
R339.) -/
def Obligations.FabricAddresses : Prop :=
  ∀ s : State,
    (s.fab.root.elig = true → (s.fab.root.best = none ∨ s.fab.root.best.any (fun b => decide (s.moduleId < b.id)) = true) → gives .probeAnnounce s (fun t =>
      t.fab.root.best = some ⟨s.moduleId, s.fab.root.nonce.toNat, s.eff_ FAB.ROOT_CFG.COL, s.eff_ FAB.ROOT_CFG.ROW, 0, 0⟩ ∧
      t.rdB FAB.ADDR_STS.ROOT = true ∧
      t.rd FAB.ADDR_STS.HOPS = 0 ∧
      t.rd FAB.ROOT_ID_LO = s.moduleId % 2 ^ 32 ∧
      s.within t [.regs, .eff, .log, .fab, .sram] ([FAB.ROOT_ID_LO.key 0 0, FAB.ROOT_ID_HI.key 0 0, FAB.ADDR_STS.key 0 0] ++ eventKeys FAB.PAGE ++ logKeys FAB.PAGE))) ∧
    (∀ (b : Probe), s.fab.root.elig = true → s.fab.root.best = some b → b.id = s.moduleId → gives .probeAnnounce s (fun t =>
      t.fab.root.best = some ⟨s.moduleId, s.fab.root.nonce.toNat, s.eff_ FAB.ROOT_CFG.COL, s.eff_ FAB.ROOT_CFG.ROW, 0, (b.epoch + 1) % 256⟩ ∧
      (∀ p : Fin 40, s.calnarUp p = true ∧ s.dir p ∈ [1, 2, 3, 4, 6] ∧ tget (fun _ => []) s.fab.trOut p = [] → tget (fun _ => []) t.fab.trOut p = [t.ownTransom 0 0x01 true 0 (beBytes 8 s.moduleId ++ beBytes 2 s.fab.root.nonce.toNat ++ beBytes 1 (s.eff_ FAB.ROOT_CFG.COL) ++ beBytes 1 (s.eff_ FAB.ROOT_CFG.ROW) ++ beBytes 2 0 ++ beBytes 1 ((b.epoch + 1) % 256))]) ∧
      s.within t [.regs, .eff, .log, .fab, .sram] ([FAB.ROOT_ID_LO.key 0 0, FAB.ROOT_ID_HI.key 0 0, FAB.ADDR_STS.key 0 0] ++ eventKeys FAB.PAGE ++ logKeys FAB.PAGE))) ∧
    (∀ (b : Probe), (s.fab.root.elig = false ∨ (s.fab.root.best = some b ∧ b.id < s.moduleId)) → idle .probeAnnounce s) ∧
    (∀ (b : Probe), s.fab.root.best = some b → 0 < b.hops → s.fab.root.elig = false → gives .rootLost s (fun t =>
      t.fab.root.best = none ∧
      t.rd FAB.ADDR_STS.ADDR = s.rd FAB.ADDR_STS.ADDR ∧
      t.flag FAB.PAGE 2 ∧
      (s.fab.addrFixed = false ∧ s.addrSrc = 1 → t.rd FAB.ADDR_STS.STATE = 4) ∧
      (s.fab.addrFixed = true → t.rd FAB.ADDR_STS.STATE = s.rd FAB.ADDR_STS.STATE) ∧
      s.within t [.regs, .eff, .log, .fab, .sram] ([FAB.ROOT_ID_LO.key 0 0, FAB.ROOT_ID_HI.key 0 0, FAB.ADDR_STS.key 0 0] ++ eventKeys FAB.PAGE ++ logKeys FAB.PAGE))) ∧
    (∀ (b : Probe), s.fab.root.best = some b → 0 < b.hops → s.fab.root.elig = true → gives .rootLost s (fun t =>
      t.fab.root.best = some ⟨s.moduleId, s.fab.root.nonce.toNat, s.eff_ FAB.ROOT_CFG.COL, s.eff_ FAB.ROOT_CFG.ROW, 0, 0⟩ ∧
      t.rd FAB.ADDR_STS.ADDR = s.rd FAB.ADDR_STS.ADDR ∧
      t.rdB FAB.ADDR_STS.ROOT = true ∧
      s.within t [.regs, .eff, .log, .fab, .sram] ([FAB.ROOT_ID_LO.key 0 0, FAB.ROOT_ID_HI.key 0 0, FAB.ADDR_STS.key 0 0] ++ eventKeys FAB.PAGE ++ logKeys FAB.PAGE))) ∧
    (s.fab.root.best = none → idle .rootLost s) ∧
    (∀ (b : Probe), s.fab.root.best = some b → s.addrSrc = 1 → s.fab.addrFixed = false → s.fab.root.derived = true → s.fab.root.inGrid = true → 256 * b.col + b.row < 65536 → gives .addressFix s (fun t =>
      t.rd FAB.ADDR_STS.ADDR = 256 * b.col + b.row ∧
      t.rd FAB.ADDR_STS.STATE = 2 ∧
      t.fab.addrFixed = true ∧
      t.flag FAB.PAGE 0 ∧
      s.logged t FAB.PAGE 0xA0 (fun a c => a = t.rd FAB.ADDR_STS ∧ c = 256 * b.col + b.row) ∧
      (s.fab.waitAddr = true → t.rd SYS.START_STS.STAGE = 9) ∧
      s.within t [.regs, .log, .fab, .sram] ([FAB.ADDR_STS.key 0 0, SYS.START_STS.key 0 0] ++ logKeys FAB.PAGE ++ eventKeys FAB.PAGE))) ∧
    ((s.fab.addrFixed = true ∨ s.fab.root.inGrid = false ∨ s.addrSrc ≠ 1) → idle .addressFix s) ∧
    (∀ (port : Fin 40) (msg : List Byte) (serve : Bool) (c r : Nat), s.calnarUp port.val = true → msg.length = 24 → beAt msg 4 1 = 0x01 → s.trQueue port.val = [] → serve = true → beAt msg 5 2 / 2 ^ 12 = 0 → 1 ≤ s.dir port.val → s.dir port.val ≤ 4 → (probeOf (slice msg 9 15)).id ≠ s.moduleId → improves s.fab.root.best (probeOf (slice msg 9 15)) = true → s.stepDir (oppDir (s.dir port.val)) (probeOf (slice msg 9 15)).col (probeOf (slice msg 9 15)).row = some (c, r) → s.addrSrc = 1 → beAt msg 5 2 % 1024 ≠ 0 → gives (.transomProbe port msg serve) s (fun t =>
      t.fab.root.best = some { probeOf (slice msg 9 15) with col := c, row := r, hops := (probeOf (slice msg 9 15)).hops + 1 } ∧
      (s.fab.addrFixed = false → t.rd FAB.ADDR_STS.STATE = 1) ∧
      t.rd FAB.ADDR_STS.ADDR = s.rd FAB.ADDR_STS.ADDR ∧
      (∀ p : Fin 40, s.calnarUp p = true ∧ s.dir p ∈ [1, 2, 3, 4, 6] ∧ tget (fun _ => []) s.fab.trOut p = [] → tget (fun _ => []) t.fab.trOut p = if p = port then [] else [⟨msg.take 5 ++ beBytes 2 (beAt msg 5 2 - 1) ++ slice msg 7 2 ++ Probe.arg { probeOf (slice msg 9 15) with col := c, row := r, hops := (probeOf (slice msg 9 15)).hops + 1 }⟩]) ∧
      s.within t [.regs, .eff, .log, .fab, .sram] ([FAB.ROOT_ID_LO.key 0 0, FAB.ROOT_ID_HI.key 0 0, FAB.ADDR_STS.key 0 0] ++ eventKeys FAB.PAGE ++ logKeys FAB.PAGE))) ∧
    (∀ (port : Fin 40) (msg : List Byte) (serve : Bool), s.calnarUp port.val = true → msg.length = 24 → beAt msg 4 1 = 0x01 → s.trQueue port.val = [] → serve = true → beAt msg 5 2 / 2 ^ 12 = 0 → 1 ≤ s.dir port.val → s.dir port.val ≤ 4 → (probeOf (slice msg 9 15)).id ≠ s.moduleId → improves s.fab.root.best (probeOf (slice msg 9 15)) = true → s.stepDir (oppDir (s.dir port.val)) (probeOf (slice msg 9 15)).col (probeOf (slice msg 9 15)).row = none → s.addrSrc = 1 → s.fab.addrFixed = false → s.rd FAB.ADDR_STS.STATE ≠ 3 → gives (.transomProbe port msg serve) s (fun t =>
      t.rd FAB.ADDR_STS.STATE = 3 ∧
      t.rd FAB.ADDR_STS.ADDR = s.rd FAB.ADDR_STS.ADDR ∧
      s.logged t FAB.PAGE 0xA2 (fun _ _ => True) ∧
      s.within t [.regs, .eff, .log, .fab, .sram] ([FAB.ROOT_ID_LO.key 0 0, FAB.ROOT_ID_HI.key 0 0, FAB.ADDR_STS.key 0 0] ++ eventKeys FAB.PAGE ++ logKeys FAB.PAGE))) ∧
    (∀ (port : Fin 40) (msg : List Byte) (serve : Bool), s.calnarUp port.val = true → msg.length = 24 → beAt msg 4 1 = 0x01 → s.trQueue port.val = [] → serve = true → beAt msg 5 2 / 2 ^ 12 = 0 → 1 ≤ s.dir port.val → s.dir port.val ≤ 4 → (probeOf (slice msg 9 15)).id = s.moduleId → (probeOf (slice msg 9 15)).nonce ≠ s.fab.root.nonce.toNat → s.fab.root.elig = true → s.fab.root.best = none → gives (.transomProbe port msg serve) s (fun t =>
      t.fab.root.elig = false ∧
      t.fab.root.best = s.fab.root.best ∧
      s.logged t FAB.PAGE 0xA4 (fun a b => a = s.rd FAB.ADDR_STS ∧ b = port.val) ∧
      s.within t [.regs, .eff, .log, .fab, .sram] ([FAB.ROOT_ID_LO.key 0 0, FAB.ROOT_ID_HI.key 0 0, FAB.ADDR_STS.key 0 0] ++ eventKeys FAB.PAGE ++ logKeys FAB.PAGE))) ∧
    (∀ (port : Fin 40) (msg : List Byte) (serve : Bool), s.calnarUp port.val = true → msg.length = 24 → beAt msg 4 1 = 0x01 → s.trQueue port.val = [] → serve = false → gives (.transomProbe port msg serve) s (fun t =>
      t.trQueue port.val = [⟨msg⟩] ∧
      s.within t [.fab] [])) ∧
    (∀ (port : Fin 40) (msg : List Byte) (serve : Bool), (s.calnarUp port.val = false ∨ msg.length ≠ 24 ∨ beAt msg 4 1 ≠ 0x01) → idle (.transomProbe port msg serve) s) ∧
    (∀ (port : Fin 40), s.calnarUp port.val = true → 1 ≤ s.dir port.val → s.dir port.val ≤ 4 → (tget (fun _ => []) s.fab.trOut port.val = []) → gives (.neighSend port) s (fun t =>
      (tget (fun _ => []) t.fab.trOut port.val = [s.ownTransom 0 0x02 false 0 (beBytes 8 s.moduleId ++ beBytes 2 (if s.addressed = true then s.addr else 0) ++ beBytes 1 (s.dir port.val))]) ∧
      s.within t [.fab] [])) ∧
    (∀ (port : Fin 40), (s.calnarUp port.val = false ∨ s.dir port.val = 0 ∨ 4 < s.dir port.val) → idle (.neighSend port) s) ∧
    (∀ (port : Fin 40) (msg : List Byte) (serve : Bool) (a c r : Nat), s.calnarUp port.val = true → msg.length = 24 → beAt msg 4 1 = 0x02 → s.trQueue port.val = [] → serve = true → beAt msg 5 2 / 2 ^ 11 = 0 → 1 ≤ s.dir port.val → s.dir port.val ≤ 4 → s.addressed = true → s.stepDir (s.dir port.val) (s.addr / 256) (s.addr % 256) = some (c, r) → a = 256 * c + r → beAt msg 17 2 = a → beAt msg 19 1 = oppDir (s.dir port.val) → gives (.transomNeigh port msg serve) s (fun t =>
      tget (fun _ => Neigh.none) t.fab.nbr port.val = ⟨true, BitVec.ofNat 16 a, oppDir (s.dir port.val), true, false⟩ ∧
      t.rdB FAB.PORT_STS.NEIGH_OK 0 port.val = true ∧
      t.rdB FAB.PORT_STS.ROUTE 0 port.val = !s.quarantined port.val ∧
      s.within t [.regs, .fab] [FAB.PORT_STS.key 0 (port.val)])) ∧
    (∀ (port : Fin 40) (msg : List Byte) (serve : Bool), s.calnarUp port.val = true → msg.length = 24 → beAt msg 4 1 = 0x02 → s.trQueue port.val = [] → serve = true → beAt msg 5 2 / 2 ^ 11 = 0 → 1 ≤ s.dir port.val → s.dir port.val ≤ 4 → s.addressed = true → beAt msg 19 1 ≠ oppDir (s.dir port.val) → ((tget (fun _ => Neigh.none) s.fab.nbr port.val).bad = false) → gives (.transomNeigh port msg serve) s (fun t =>
      t.rdB FAB.PORT_STS.NEIGH_OK 0 port.val = false ∧
      t.rdB FAB.PORT_STS.ROUTE 0 port.val = false ∧
      t.rd FAB.PORT_STS.WIDTH 0 port.val = s.rd FAB.PORT_STS.WIDTH 0 port.val ∧
      t.flag FAB.PAGE 6 ∧
      s.logged t FAB.PAGE 0xA1 (fun a b => a = t.rd FAB.PORT_STS 0 port.val ∧ b = beAt msg 17 2) ∧
      s.within t [.regs, .log, .fab, .sram] ([FAB.PORT_STS.key 0 (port.val)] ++ logKeys FAB.PAGE ++ eventKeys FAB.PAGE))) ∧
    (∀ (port : Fin 40) (msg : List Byte) (serve : Bool), s.calnarUp port.val = true → msg.length = 24 → beAt msg 4 1 = 0x02 → s.trQueue port.val = [] → serve = true → beAt msg 5 2 / 2 ^ 12 = 0 → 1 ≤ s.dir port.val → s.dir port.val ≤ 4 → (s.addressed = false ∨ bit (beAt msg 5 2) 11 = true) → gives (.transomNeigh port msg serve) s (fun t =>
      tget (fun _ => Neigh.none) t.fab.nbr port.val = ⟨true, BitVec.ofNat 16 (beAt msg 17 2), beAt msg 19 1, false, false⟩ ∧
      t.rdB FAB.PORT_STS.NEIGH_OK 0 port.val = false ∧
      t.rdB FAB.PORT_STS.ROUTE 0 port.val = false ∧
      s.within t [.regs, .fab] [FAB.PORT_STS.key 0 (port.val)])) ∧
    (∀ (port : Fin 40) (msg : List Byte) (serve : Bool), s.calnarUp port.val = true → msg.length = 24 → beAt msg 4 1 = 0x02 → s.trQueue port.val = [] → serve = false → gives (.transomNeigh port msg serve) s (fun t =>
      t.trQueue port.val = [⟨msg⟩] ∧
      s.within t [.fab] []))

/-- Transom control messages, quarantine and the routing table: STOP quarantines the named port until RELEASE: QUAR set,
code 0xA9, event QUAR; RELEASE lifts it with 0xAA; Sealed accepts both from MGR0 and MGR1 only and else answers NAK
REFUSED with 0xAE. ECHO is answered with its ARG. A register request of a manager is run and answered with its
status and data under its CHK; NAK, ECHO_RSP and REG_RSP for this module are kept; an illegal TYPE is a violation.
More than THR violations in a second quarantine the port, the third time within an hour until released. A full input
queue drops PROBE, NEIGH and ECHO first, counted in TR_DROP. PORT_CTL does as STOP and RELEASE do, REWIDEN takes an
Up port down, and a port not Up gives 0x28; RT_DATA writes the selected entry. The points the spec leaves open in it
follow the model's own choices, log entries 24, 26, 27, 29, 33, 36, 37, 39, 40, 42, 60. (R321, R328, R329, R330,
R331, R336, R337, R339, R340, R469.) -/
def Obligations.FabricControl : Prop :=
  ∀ s : State,
    (∀ (port : Fin 40) (msg : List Byte) (serve : Bool), s.calnarUp port.val = true → msg.length = 24 → beAt msg 4 1 = 0x05 → s.trQueue port.val = [] → serve = true → beAt msg 5 2 / 2 ^ 12 = 0 → s.addressed = true → beAt msg 0 2 = s.addr → beAt msg 9 1 < 40 → ((tget (fun _ => QuarSt.none) s.fab.quar (beAt msg 9 1)).kind ≠ .held) → (s.mode.sec = .openS ∨ s.isManager ⟨msg⟩ = true) → gives (.transomStop port msg serve) s (fun t =>
      (tget (fun _ => QuarSt.none) t.fab.quar (beAt msg 9 1)).kind = .held ∧
      t.rdB FAB.PORT_STS.QUAR 0 (beAt msg 9 1) = true ∧
      t.rdB FAB.PORT_STS.ROUTE 0 (beAt msg 9 1) = false ∧
      t.flag FAB.PAGE 4 ∧
      s.logged t FAB.PAGE 0xA9 (fun a b => a = t.rd FAB.PORT_STS 0 (beAt msg 9 1) ∧ b = beAt msg 9 1) ∧
      s.within t [.regs, .log, .fab, .sram] ([FAB.PORT_STS.key 0 ((beAt msg 9 1))] ++ logKeys FAB.PAGE ++ eventKeys FAB.PAGE))) ∧
    (∀ (port : Fin 40) (msg : List Byte) (serve : Bool), s.calnarUp port.val = true → msg.length = 24 → beAt msg 4 1 = 0x06 → s.trQueue port.val = [] → serve = true → beAt msg 5 2 / 2 ^ 12 = 0 → s.addressed = true → beAt msg 0 2 = s.addr → beAt msg 9 1 < 40 → ((tget (fun _ => QuarSt.none) s.fab.quar (beAt msg 9 1)).kind ≠ .open_) → (s.mode.sec = .openS ∨ s.isManager ⟨msg⟩ = true) → (s.link (beAt msg 9 1)).txQ = [] → gives (.transomRelease port msg serve) s (fun t =>
      (tget (fun _ => QuarSt.none) t.fab.quar (beAt msg 9 1)).kind = .open_ ∧
      t.rdB FAB.PORT_STS.QUAR 0 (beAt msg 9 1) = false ∧
      s.logged t FAB.PAGE 0xAA (fun a b => a = t.rd FAB.PORT_STS 0 (beAt msg 9 1) ∧ b = beAt msg 9 1) ∧
      s.within t [.regs, .log, .fab, .sram] ([FAB.PORT_STS.key 0 ((beAt msg 9 1))] ++ logKeys FAB.PAGE))) ∧
    (∀ (port : Fin 40) (msg : List Byte) (serve : Bool), s.calnarUp port.val = true → msg.length = 24 → beAt msg 4 1 = 0x05 → s.trQueue port.val = [] → serve = true → beAt msg 5 2 / 2 ^ 11 = 0 → s.addressed = true → beAt msg 0 2 = s.addr → s.mode.sec = .sealed → s.isManager ⟨msg⟩ = false → s.recent (64 * port.val + 0x0B) 1600000 = false → gives (.transomStop port msg serve) s (fun t =>
      t.fab.quar = s.fab.quar ∧
      t.rd FAB.NAK_LAST.CODE = 0x0B ∧
      s.logged t FAB.PAGE 0xAE (fun a b => a = s.rd FAB.PORT_STS 0 port.val ∧ b = beAt msg 2 2) ∧
      s.within t [.regs, .eff, .log, .fab, .sram] ([FAB.NAK_LAST.CODE.key 0 0] ++ logKeys FAB.PAGE))) ∧
    (∀ (port : Fin 40) (msg : List Byte) (serve : Bool), s.calnarUp port.val = true → msg.length = 24 → beAt msg 4 1 = 0x06 → s.trQueue port.val = [] → serve = true → beAt msg 5 2 / 2 ^ 11 = 0 → s.addressed = true → beAt msg 0 2 = s.addr → s.mode.sec = .sealed → s.isManager ⟨msg⟩ = false → s.recent (64 * port.val + 0x0B) 1600000 = false → gives (.transomRelease port msg serve) s (fun t =>
      t.fab.quar = s.fab.quar ∧
      t.rd FAB.NAK_LAST.CODE = 0x0B ∧
      s.logged t FAB.PAGE 0xAE (fun a b => a = s.rd FAB.PORT_STS 0 port.val ∧ b = beAt msg 2 2) ∧
      s.within t [.regs, .eff, .log, .fab, .sram] ([FAB.NAK_LAST.CODE.key 0 0] ++ logKeys FAB.PAGE))) ∧
    (∀ (port : Fin 40) (msg : List Byte) (serve : Bool), s.calnarUp port.val = true → msg.length = 24 → beAt msg 4 1 = 0x0A → s.trQueue port.val = [] → serve = true → beAt msg 5 2 / 2 ^ 11 = 0 → s.addressed = true → beAt msg 0 2 = s.addr → s.mode.sec = .sealed → s.isManager ⟨msg⟩ = false → s.recent (64 * port.val + 0x0B) 1600000 = false → regArgOk ⟨msg⟩ = true → gives (.transomRegReq port msg serve) s (fun t =>
      t.fab.quar = s.fab.quar ∧
      t.rd FAB.NAK_LAST.CODE = 0x0B ∧
      s.logged t FAB.PAGE 0xAE (fun a b => a = s.rd FAB.PORT_STS 0 port.val ∧ b = beAt msg 2 2) ∧
      s.within t [.regs, .eff, .log, .fab, .sram] ([FAB.NAK_LAST.CODE.key 0 0] ++ logKeys FAB.PAGE))) ∧
    (∀ (port : Fin 40) (msg : List Byte) (serve : Bool) (q : Nat) (tb al : Bool), s.calnarUp port.val = true → msg.length = 24 → beAt msg 4 1 = 0x07 → s.trQueue port.val = [] → serve = true → beAt msg 5 2 / 2 ^ 11 = 0 → s.addressed = true → beAt msg 0 2 = s.addr → s.way s.addr (beAt msg 2 2) s.calnarUp = .port q tb al → s.calnarUp q = true → (tget (fun _ => []) s.fab.trOut q = []) → gives (.transomEcho port msg serve) s (fun t =>
      tget (fun _ => []) t.fab.trOut q = [mkTransom (beAt msg 2 2) s.addr 0x08 s.ttl0 false false (beAt msg 7 2) (slice msg 9 15)] ∧
      s.within t [.fab] [])) ∧
    (∀ (port : Fin 40) (msg : List Byte) (serve : Bool) (q : Nat) (tb al : Bool), s.calnarUp port.val = true → msg.length = 24 → beAt msg 4 1 = 0x0A → s.trQueue port.val = [] → serve = true → beAt msg 5 2 / 2 ^ 11 = 0 → s.addressed = true → beAt msg 0 2 = s.addr → s.takes .transom 0 0x12C = true → s.mode.sec = .openS → regArgOk ⟨msg⟩ = true → slice msg 9 4 = [0x02, 0x00, 0x01, 0x2C] → s.cached (Path.transom.num * 2 ^ 144 + beAt msg 2 2) = none → s.way s.addr (beAt msg 2 2) s.calnarUp = .port q tb al → s.calnarUp q = true → (tget (fun _ => []) s.fab.trOut q = []) → gives (.transomRegReq port msg serve) s (fun t =>
      (t.reg (regKey 0 0 0x12C)).toNat = beAt msg 13 4 ∧
      tget (fun _ => []) t.fab.trOut q = [mkTransom (beAt msg 2 2) s.addr 0x0B s.ttl0 false false (beAt msg 7 2) (regArg 0 0x00012C (beAt msg 13 4) (beAt msg 7 2))] ∧
      s.within t [.regs, .bus, .fab] [regKey 0 0 0x12C])) ∧
    (∀ (port : Fin 40) (msg : List Byte) (serve : Bool), s.calnarUp port.val = true → msg.length = 24 → beAt msg 4 1 = 0x0A → s.trQueue port.val = [] → serve = true → beAt msg 5 2 / 2 ^ 12 = 0 → s.addressed = true → beAt msg 0 2 = s.addr → regArgOk ⟨msg⟩ = false → gives (.transomRegReq port msg serve) s (fun t =>
      t.rd SYS.RAP_BAD = min 0xFFFFFFFF (s.rd SYS.RAP_BAD + 1) ∧
      t.bus = s.bus ∧
      s.within t [.regs, .fab] [SYS.RAP_BAD.key 0 0])) ∧
    (∀ (port : Fin 40) (msg : List Byte) (serve : Bool), s.calnarUp port.val = true → msg.length = 24 → beAt msg 4 1 = 0x09 → s.trQueue port.val = [] → serve = true → beAt msg 5 2 / 2 ^ 12 = 0 → s.addressed = true → beAt msg 0 2 = s.addr → gives (.transomNak port msg serve) s (fun t =>
      t.fab.trTaken = s.fab.trTaken ++ [⟨msg⟩] ∧
      s.within t [.fab] [])) ∧
    (∀ (port : Fin 40) (msg : List Byte) (serve : Bool), s.calnarUp port.val = true → msg.length = 24 → beAt msg 4 1 = 0x0B → s.trQueue port.val = [] → serve = true → beAt msg 5 2 / 2 ^ 12 = 0 → s.addressed = true → beAt msg 0 2 = s.addr → gives (.transomRegRsp port msg serve) s (fun t =>
      t.fab.trTaken = s.fab.trTaken ++ [⟨msg⟩] ∧
      s.within t [.fab] [])) ∧
    (∀ (port : Fin 40) (msg : List Byte) (serve : Bool), s.calnarUp port.val = true → msg.length = 24 → beAt msg 4 1 = 0x08 → s.trQueue port.val = [] → serve = true → beAt msg 5 2 / 2 ^ 12 = 0 → s.addressed = true → beAt msg 0 2 = s.addr → (s.paired = false ∨ beAt msg 2 2 ≠ s.rd LEF.PARTNER.ADDR) → gives (.transomEchoRsp port msg serve) s (fun t =>
      t.fab.trTaken = s.fab.trTaken ++ [⟨msg⟩] ∧
      s.within t [.fab] [])) ∧
    (∀ (port : Fin 40) (msg : List Byte) (serve : Bool), s.calnarUp port.val = true → msg.length = 24 → transomLegal (s.dir port.val == 6) (beAt msg 4 1) = false → s.trQueue port.val = [] → serve = true → s.recent (64 * port.val + 3) 1600000 = false → gives (.transomIllegalType port msg serve) s (fun t =>
      t.rd FAB.PORT_VIOL.COUNT 0 port.val = min 0xFFFF (s.rd FAB.PORT_VIOL.COUNT 0 port.val + 1) ∧
      t.rd FAB.PORT_VIOL.CODE 0 port.val = 3 ∧
      t.rd FAB.NAK_LAST.CODE = 3 ∧
      t.rd FAB.NAK_LAST.PORT = port.val ∧
      s.within t [.regs, .eff, .log, .fab, .sram] ([FAB.PORT_VIOL.CODE.key 0 (port.val), FAB.NAK_LAST.CODE.key 0 0] ++ logKeys FAB.PAGE))) ∧
    (∀ (port : Fin 40) (msg : List Byte) (serve : Bool), transomLegal (s.dir port.val == 6) (beAt msg 4 1) = true → idle (.transomIllegalType port msg serve) s) ∧
    (∀ (port : Fin 40) (msg : List Byte) (serve : Bool), s.calnarUp port.val = true → msg.length = 24 → beAt msg 4 1 = 0x07 → 64 ≤ (s.trQueue port.val).length → serve = false → gives (.transomEcho port msg serve) s (fun t =>
      t.trQueue port.val = s.trQueue port.val ∧
      t.rd FAB.TR_DROP = min 0xFFFFFFFF (s.rd FAB.TR_DROP + 1) ∧
      s.within t [.regs, .log, .fab, .sram] ([FAB.TR_DROP.key 0 0] ++ logKeys FAB.PAGE))) ∧
    (∀ (port : Fin 40) (msg : List Byte) (serve : Bool), s.calnarUp port.val = true → msg.length = 24 → beAt msg 4 1 = 0x05 → 64 ≤ (s.trQueue port.val).length → (s.trQueue port.val).any lowType = true → serve = false → gives (.transomStop port msg serve) s (fun t =>
      t.trQueue port.val = (s.trQueue port.val).eraseP lowType ++ [⟨msg⟩] ∧
      t.rd FAB.TR_DROP = min 0xFFFFFFFF (s.rd FAB.TR_DROP + 1) ∧
      s.within t [.regs, .log, .fab, .sram] ([FAB.TR_DROP.key 0 0] ++ logKeys FAB.PAGE))) ∧
    (∀ (port : Fin 40), (s.violThr < (tget (fun _ => (0, 0)) s.fab.viol port.val).1) → (tget (fun _ => QuarSt.none) s.fab.quar port.val = QuarSt.none) → gives (.violationQuarantine port) s (fun t =>
      (tget (fun _ => QuarSt.none) t.fab.quar port.val).kind = .timed ∧
      t.rdB FAB.PORT_STS.QUAR 0 port.val = true ∧
      t.flag FAB.PAGE 4 ∧
      s.logged t FAB.PAGE 0xA9 (fun a b => a = t.rd FAB.PORT_STS 0 port.val ∧ b = port.val) ∧
      s.within t [.regs, .log, .fab, .sram] ([FAB.PORT_STS.key 0 (port.val)] ++ logKeys FAB.PAGE ++ eventKeys FAB.PAGE))) ∧
    (∀ (port : Fin 40) (x y : Nat), (s.violThr < (tget (fun _ => (0, 0)) s.fab.viol port.val).1) → (tget (fun _ => QuarSt.none) s.fab.quar port.val = ⟨.open_, [x, y]⟩) → s.clk.now < x + 5760000000000 → s.clk.now < y + 5760000000000 → gives (.violationQuarantine port) s (fun t =>
      (tget (fun _ => QuarSt.none) t.fab.quar port.val).kind = .held ∧
      t.rdB FAB.PORT_STS.QUAR 0 port.val = true ∧
      s.within t [.regs, .log, .fab, .sram] ([FAB.PORT_STS.key 0 (port.val)] ++ logKeys FAB.PAGE ++ eventKeys FAB.PAGE))) ∧
    (∀ (port : Fin 40), ((tget (fun _ => (0, 0)) s.fab.viol port.val).1 ≤ s.violThr) → idle (.violationQuarantine port) s) ∧
    (∀ (port : Fin 40), ((tget (fun _ => QuarSt.none) s.fab.quar port.val).kind = .timed) → ((tget (fun _ => QuarSt.none) s.fab.quar port.val).past.getLastD 0 + s.quarWc ≤ s.clk.now) → (s.link port.val).txQ = [] → gives (.quarantineExpire port) s (fun t =>
      (tget (fun _ => QuarSt.none) t.fab.quar port.val).kind = .open_ ∧
      t.rdB FAB.PORT_STS.QUAR 0 port.val = false ∧
      s.logged t FAB.PAGE 0xAA (fun a b => a = t.rd FAB.PORT_STS 0 port.val ∧ b = port.val) ∧
      s.within t [.regs, .log, .fab, .sram] ([FAB.PORT_STS.key 0 (port.val)] ++ logKeys FAB.PAGE))) ∧
    (∀ (port : Fin 40), ((tget (fun _ => QuarSt.none) s.fab.quar port.val).kind ≠ .timed ∨ s.clk.now < (tget (fun _ => QuarSt.none) s.fab.quar port.val).past.getLastD 0 + s.quarWc) → idle (.quarantineExpire port) s) ∧
    (∀ (path : Path) (p : Nat), s.takes path FAB.PAGE 0x140 = true → s.rd FAB.PORT_SEL.PORT 0 path.num = p → p < 40 → s.calnarUp p = true → ((tget (fun _ => QuarSt.none) s.fab.quar p).kind ≠ .held) → gives (.portQuarantine path) s (fun t =>
      t.answered .ok ∧
      (tget (fun _ => QuarSt.none) t.fab.quar p).kind = .held ∧
      t.rdB FAB.PORT_STS.QUAR 0 p = true ∧
      s.within t [.regs, .bus, .log, .fab, .sram] ([FAB.PORT_STS.key 0 p] ++ logKeys FAB.PAGE ++ eventKeys FAB.PAGE))) ∧
    (∀ (path : Path) (p : Nat), s.takes path FAB.PAGE 0x140 = true → s.rd FAB.PORT_SEL.PORT 0 path.num = p → p < 40 → s.calnarUp p = true → ((tget (fun _ => QuarSt.none) s.fab.quar p).kind ≠ .open_) → (s.link p).txQ = [] → gives (.portRelease path) s (fun t =>
      t.answered .ok ∧
      (tget (fun _ => QuarSt.none) t.fab.quar p).kind = .open_ ∧
      t.rdB FAB.PORT_STS.QUAR 0 p = false ∧
      s.within t [.regs, .bus, .log, .fab, .sram] ([FAB.PORT_STS.key 0 p] ++ logKeys FAB.PAGE))) ∧
    (∀ (path : Path) (p : Nat), s.takes path FAB.PAGE 0x140 = true → s.rd FAB.PORT_SEL.PORT 0 path.num = p → p < 40 → s.calnarUp p = true → p ≠ 23 → (s.link p).txQ = [] → gives (.portRewiden path) s (fun t =>
      t.answered .ok ∧
      t.portState p = 1 ∧
      (t.link p) = LinkSt.init ∧
      s.keeps t [.regs, .bus, .log, .lan, .fab, .freeCtr, .sram])) ∧
    (∀ (path : Path), s.takes path FAB.PAGE 0x140 = true → s.calnarUp (s.rd FAB.PORT_SEL.PORT 0 path.num) = false → gives (.portRelease path) s (fun t =>
      t.answered .ignored ∧
      s.logged t SYS.PAGE 0x28 (fun a b => a = FAB.PAGE * 4096 + 0x140 + path.num * 2 ^ 24 ∧ b = 1) ∧
      s.within t [.regs, .bus, .log, .sram] (logKeys SYS.PAGE))) ∧
    (∀ (path : Path), s.takes path FAB.PAGE 0x140 = true → s.calnarUp (s.rd FAB.PORT_SEL.PORT 0 path.num) = false → gives (.portQuarantine path) s (fun t =>
      t.answered .ignored ∧
      s.logged t SYS.PAGE 0x28 (fun a b => a = FAB.PAGE * 4096 + 0x140 + path.num * 2 ^ 24 ∧ b = 2) ∧
      s.within t [.regs, .bus, .log, .sram] (logKeys SYS.PAGE))) ∧
    (∀ (path : Path), s.takes path FAB.PAGE 0x140 = true → s.calnarUp (s.rd FAB.PORT_SEL.PORT 0 path.num) = false → gives (.portRewiden path) s (fun t =>
      t.answered .ignored ∧
      s.logged t SYS.PAGE 0x28 (fun a b => a = FAB.PAGE * 4096 + 0x140 + path.num * 2 ^ 24 ∧ b = 4) ∧
      s.within t [.regs, .bus, .log, .sram] (logKeys SYS.PAGE))) ∧
    (∀ (path : Path) (v : BitVec 32) (d : Nat), s.takes path FAB.PAGE 0x134 = true → s.rd FAB.RT_SEL.DST 0 path.num = d → gives (.routeTableWrite path v) s (fun t =>
      t.answered .ok ∧
      (d, t.reg (FAB.RT_DATA.PORT.key 0 d)) ∈ t.fab.rtPend.map (fun e => e.2) ∧
      t.rd FAB.RT_DATA.PORT 0 d = v.toNat % 64 ∧
      (t.rd FAB.RT_SEL.DST 0 path.num = (if s.rdB FAB.RT_SEL.AUTO 0 path.num = true then (d + 1) % 65536 else d)) ∧
      s.within t [.regs, .eff, .bus, .fab] [FAB.RT_DATA.PORT.key 0 d, FAB.RT_SEL.AUTO.key 0 (path.num)])) ∧
    gives .bulkCopyMessage s (fun t =>
      t.fab.inbox = s.fab.inbox.eraseP (fun m => m.vc == 3 && beAt m.head 4 1 == 0x21) ∧
      s.within t [.fab] [])

/-- Acquisition, offsets, Holdover and the time-error bound: An acquisition sets the count and disarms compare channels.
In Acquire an offset beyond SLEW_LIM sets the count, one beyond 1 us is slewed, and the eighth within locks. In
Locked the bound follows the offset, the accuracy and the uncertainty; offsets are slewed or stepped (0xB1,
STAT_STEP); the third beyond JUMP_THR enters Holdover with the jump in J, 0xB2 and JUMP_REFUSED, ended by eight near
ones. A lost master means Holdover from Locked and Free from Acquire, logged 0xB4. The bound grows with each second
by the rate in force, or stays at ACC + 1 with PPS_IN, which needs eight edges and falls with 0xB5. Foreign PTP
messages are dropped and counted, 0xBC. The points the spec leaves open in it follow the model's own choices, log
entries 124, 125, 126, 127, 129, 222, 223, 224. (R342, R343, R345, R346, R347, R348, R349, R350, R351, R352, R360,
R364.) -/
def Obligations.TimeUnit : Prop :=
  ∀ s : State,
    (∀ (sec : BitVec 48) (ns : BitVec 30), s.rd TIM.STS.STATE = 0 → ns.toNat < 1000000000 → (s.tim.masterOk = true ∨ s.rdB TIM.STS.PPS_OK = true) → s.rd SCN.SHUT_STS.STATE ≠ 3 → s.rd SCN.SHUT_STS.STATE ≠ 4 → gives (.timeAcquire sec ns) s (fun t =>
      t.clk.sec = sec ∧
      t.clk.ns = ns ∧
      t.rd TIM.STS.STATE = 1 ∧
      t.rdB TIM.STS.TVAL = s.rdB TIM.STS.TVAL ∧
      (∀ ch : Fin 16, t.rdB LNT.CMP_CTL.ARM 0 ch = false ∧ t.rdB LNT.CMP_STS.DISARMED 0 ch = (s.rdB LNT.CMP_STS.DISARMED 0 ch || s.rdB LNT.CMP_CTL.ARM 0 ch)) ∧
      s.within t [.regs, .clk, .log, .frs, .scan, .tim, .sram] ([TIM.STS.key 0 0, FRS.TIME_STS.key 0 0] ++ logKeys FRS.PAGE ++ (((List.range 16).flatMap (fun ch => [LNT.CMP_CTL.ARM.key 0 ch, LNT.CMP_STS.FIRED.key 0 ch])))))) ∧
    (∀ (sec : BitVec 48) (ns : BitVec 30), (s.rd TIM.STS.STATE ≠ 0 ∨ 1000000000 ≤ ns.toNat ∨ (s.tim.masterOk = false ∧ s.rdB TIM.STS.PPS_OK = false)) → idle (.timeAcquire sec ns) s) ∧
    (∀ (offset : BitVec 64) (o : Int), s.tim.masterOk = true → s.mode.sec ≠ .quarantined → o = sgn 64 offset.toNat → s.tim.slew = 0 → 0 ≤ s.taiNs → s.taiNs < 2 ^ 48 * 1000000000 → s.rd SCN.SHUT_STS.STATE ≠ 3 → s.rd SCN.SHUT_STS.STATE ≠ 4 → s.rd TIM.STS.STATE = 1 → (s.rd TIM.SLEW_LIM.US) * 1000 < o.natAbs → 0 ≤ s.taiNs - o → s.taiNs - o < 2 ^ 48 * 1000000000 → gives (.ptpSample offset) s (fun t =>
      t.rdI TIM.OFFSET.NS = clampI (-0x7FFFFFFF) 0x7FFFFFFF o ∧
      t.taiNs = s.taiNs - o ∧
      t.rd TIM.STS.STATE = 1 ∧
      t.tim.good = 0 ∧
      s.within t [.regs, .eff, .clk, .log, .frs, .scan, .tim, .sram] ([TIM.STS.key 0 0, FRS.TIME_STS.key 0 0, TIM.OFFSET.key 0 0] ++ logKeys FRS.PAGE ++ (((List.range 16).flatMap (fun ch => [LNT.CMP_CTL.ARM.key 0 ch, LNT.CMP_STS.FIRED.key 0 ch])))))) ∧
    (∀ (offset : BitVec 64) (o : Int), s.tim.masterOk = true → s.mode.sec ≠ .quarantined → o = sgn 64 offset.toNat → s.tim.slew = 0 → 0 ≤ s.taiNs → s.taiNs < 2 ^ 48 * 1000000000 → s.rd SCN.SHUT_STS.STATE ≠ 3 → s.rd SCN.SHUT_STS.STATE ≠ 4 → s.rd TIM.STS.STATE = 1 → o.natAbs ≤ (s.rd TIM.SLEW_LIM.US) * 1000 → 1000 < o.natAbs → gives (.ptpSample offset) s (fun t =>
      t.rdI TIM.OFFSET.NS = clampI (-0x7FFFFFFF) 0x7FFFFFFF o ∧
      t.taiNs = s.taiNs ∧
      t.tim.slew = o ∧
      t.rd TIM.STS.STATE = 1 ∧
      t.tim.good = 0 ∧
      s.within t [.regs, .eff, .clk, .log, .frs, .scan, .tim, .sram] ([TIM.STS.key 0 0, FRS.TIME_STS.key 0 0, TIM.OFFSET.key 0 0] ++ logKeys FRS.PAGE))) ∧
    (∀ (offset : BitVec 64) (o : Int), s.tim.masterOk = true → s.mode.sec ≠ .quarantined → o = sgn 64 offset.toNat → s.tim.slew = 0 → 0 ≤ s.taiNs → s.taiNs < 2 ^ 48 * 1000000000 → s.rd SCN.SHUT_STS.STATE ≠ 3 → s.rd SCN.SHUT_STS.STATE ≠ 4 → s.rd TIM.STS.STATE = 1 → o.natAbs ≤ (s.rd TIM.SLEW_LIM.US) * 1000 → o.natAbs ≤ 1000 → s.tim.good < 7 → gives (.ptpSample offset) s (fun t =>
      t.rdI TIM.OFFSET.NS = clampI (-0x7FFFFFFF) 0x7FFFFFFF o ∧
      t.rd TIM.STS.STATE = 1 ∧
      t.tim.good = s.tim.good + 1 ∧
      t.tim.slew = o ∧
      s.within t [.regs, .eff, .clk, .log, .frs, .scan, .tim, .sram] ([TIM.STS.key 0 0, FRS.TIME_STS.key 0 0, TIM.OFFSET.key 0 0] ++ logKeys FRS.PAGE))) ∧
    (∀ (offset : BitVec 64) (o : Int), s.tim.masterOk = true → s.mode.sec ≠ .quarantined → o = sgn 64 offset.toNat → s.tim.slew = 0 → 0 ≤ s.taiNs → s.taiNs < 2 ^ 48 * 1000000000 → s.rd SCN.SHUT_STS.STATE ≠ 3 → s.rd SCN.SHUT_STS.STATE ≠ 4 → s.rd TIM.STS.STATE = 1 → o.natAbs ≤ (s.rd TIM.SLEW_LIM.US) * 1000 → o.natAbs ≤ 1000 → s.tim.good = 7 → gives (.ptpSample offset) s (fun t =>
      t.rdI TIM.OFFSET.NS = clampI (-0x7FFFFFFF) 0x7FFFFFFF o ∧
      t.rd TIM.STS.STATE = 2 ∧
      t.rdB TIM.STS.TVAL = true ∧
      t.flag TIM.PAGE 0 ∧
      t.rd TIM.BOUND.US = min (2 ^ 32 - 1) ((o.natAbs * 1000 + s.tim.accM + (s.rd TIM.ASYM.UNC 0 (s.rd TIM.STS.PORT) + 4) * 1000 + 999999) / 1000000) ∧
      s.within t [.regs, .eff, .clk, .log, .frs, .scan, .tim, .sram] ([TIM.STS.key 0 0, FRS.TIME_STS.key 0 0, SCN.LOCK_STS.key 0 0, TIM.OFFSET.key 0 0, TIM.BOUND.US.key 0 0] ++ logKeys FRS.PAGE ++ logKeys SCN.PAGE ++ eventKeys SCN.PAGE ++ eventKeys TIM.PAGE))) ∧
    (∀ (offset : BitVec 64) (o : Int), s.tim.masterOk = true → s.mode.sec ≠ .quarantined → o = sgn 64 offset.toNat → s.tim.slew = 0 → 0 ≤ s.taiNs → s.taiNs < 2 ^ 48 * 1000000000 → s.rd SCN.SHUT_STS.STATE ≠ 3 → s.rd SCN.SHUT_STS.STATE ≠ 4 → s.rd TIM.STS.STATE = 2 → s.jumpUs = 0 → o.natAbs ≤ (s.rd TIM.SLEW_LIM.US) * 1000 → o.natAbs ≤ s.eff_ TIM.JUMP_THR.US * 1000 → gives (.ptpSample offset) s (fun t =>
      t.rdI TIM.OFFSET.NS = clampI (-0x7FFFFFFF) 0x7FFFFFFF o ∧
      t.rd TIM.STS.STATE = 2 ∧
      t.taiNs = s.taiNs ∧
      t.tim.slew = o ∧
      t.rd TIM.BOUND.US = min (2 ^ 32 - 1) ((o.natAbs * 1000 + s.tim.accM + (s.rd TIM.ASYM.UNC 0 (s.rd TIM.STS.PORT) + 4) * 1000 + 999999) / 1000000) ∧
      s.within t [.regs, .eff, .clk, .log, .frs, .scan, .tim, .sram] ([TIM.STS.key 0 0, FRS.TIME_STS.key 0 0, TIM.OFFSET.key 0 0, TIM.BOUND.US.key 0 0] ++ logKeys FRS.PAGE))) ∧
    (∀ (offset : BitVec 64) (o : Int), s.tim.masterOk = true → s.mode.sec ≠ .quarantined → o = sgn 64 offset.toNat → s.tim.slew = 0 → 0 ≤ s.taiNs → s.taiNs < 2 ^ 48 * 1000000000 → s.rd SCN.SHUT_STS.STATE ≠ 3 → s.rd SCN.SHUT_STS.STATE ≠ 4 → s.rd TIM.STS.STATE = 2 → s.jumpUs = 0 → (s.rd TIM.SLEW_LIM.US) * 1000 < o.natAbs → o.natAbs ≤ s.eff_ TIM.JUMP_THR.US * 1000 → gives (.ptpSample offset) s (fun t =>
      t.rdI TIM.OFFSET.NS = clampI (-0x7FFFFFFF) 0x7FFFFFFF o ∧
      t.rd TIM.STS.STATE = 2 ∧
      t.taiNs = s.taiNs ∧
      t.tim.step = some ⟨o, s.taiNs / 1000, false⟩ ∧
      t.tim.slew = 0 ∧
      t.rd TIM.BOUND.US = min (2 ^ 32 - 1) ((o.natAbs * 1000 + s.tim.accM + (s.rd TIM.ASYM.UNC 0 (s.rd TIM.STS.PORT) + 4) * 1000 + 999999) / 1000000) ∧
      s.within t [.regs, .eff, .clk, .log, .frs, .scan, .tim, .sram] ([TIM.STS.key 0 0, FRS.TIME_STS.key 0 0, TIM.OFFSET.key 0 0, TIM.BOUND.US.key 0 0] ++ logKeys FRS.PAGE))) ∧
    (∀ (offset : BitVec 64) (o : Int), s.tim.masterOk = true → s.mode.sec ≠ .quarantined → o = sgn 64 offset.toNat → s.tim.slew = 0 → 0 ≤ s.taiNs → s.taiNs < 2 ^ 48 * 1000000000 → s.rd SCN.SHUT_STS.STATE ≠ 3 → s.rd SCN.SHUT_STS.STATE ≠ 4 → (s.rd TIM.STS.STATE = 2 ∨ s.rd TIM.STS.STATE = 3) → s.jumpUs = 0 → s.eff_ TIM.JUMP_THR.US * 1000 < o.natAbs → s.tim.far < 2 → gives (.ptpSample offset) s (fun t =>
      t.rdI TIM.OFFSET.NS = clampI (-0x7FFFFFFF) 0x7FFFFFFF o ∧
      t.rd TIM.STS.STATE = s.rd TIM.STS.STATE ∧
      t.tim.far = s.tim.far + 1 ∧
      t.taiNs = s.taiNs ∧
      s.within t [.regs, .eff, .clk, .log, .frs, .scan, .tim, .sram] ([TIM.STS.key 0 0, FRS.TIME_STS.key 0 0, TIM.OFFSET.key 0 0] ++ logKeys FRS.PAGE))) ∧
    (∀ (offset : BitVec 64) (o : Int), s.tim.masterOk = true → s.mode.sec ≠ .quarantined → o = sgn 64 offset.toNat → s.tim.slew = 0 → 0 ≤ s.taiNs → s.taiNs < 2 ^ 48 * 1000000000 → s.rd SCN.SHUT_STS.STATE ≠ 3 → s.rd SCN.SHUT_STS.STATE ≠ 4 → s.rd TIM.STS.STATE = 2 → s.jumpUs = 0 → s.eff_ TIM.JUMP_THR.US * 1000 < o.natAbs → s.tim.far = 2 → gives (.ptpSample offset) s (fun t =>
      t.rdI TIM.OFFSET.NS = clampI (-0x7FFFFFFF) 0x7FFFFFFF o ∧
      t.rd TIM.STS.STATE = 3 ∧
      t.rd TIM.JUMP.US = min (2 ^ 32 - 1) ((o.natAbs + 999) / 1000) ∧
      t.rdB TIM.STS.JUMP = true ∧
      t.flag TIM.PAGE 2 ∧
      (s.eff_ SCN.RATE_CTL.SRC ≠ 0 ∨ s.mode.raster ≠ .weaver → s.logged t TIM.PAGE 0xB2 (fun a _ => a = t.rd TIM.JUMP)) ∧
      t.tim.b0 = s.rd TIM.BOUND.US ∧
      t.taiNs = s.taiNs ∧
      s.within t [.regs, .eff, .clk, .log, .frs, .scan, .tim, .sram] ([TIM.STS.key 0 0, FRS.TIME_STS.key 0 0, SCN.LOCK_STS.key 0 0, TIM.BOUND.US.key 0 0, TIM.HOLD_T.key 0 0, TIM.OFFSET.key 0 0, TIM.JUMP.key 0 0] ++ logKeys FRS.PAGE ++ logKeys SCN.PAGE ++ eventKeys SCN.PAGE ++ eventKeys TIM.PAGE ++ logKeys TIM.PAGE))) ∧
    (∀ (offset : BitVec 64) (o : Int), s.tim.masterOk = true → s.mode.sec ≠ .quarantined → o = sgn 64 offset.toNat → s.tim.slew = 0 → 0 ≤ s.taiNs → s.taiNs < 2 ^ 48 * 1000000000 → s.rd SCN.SHUT_STS.STATE ≠ 3 → s.rd SCN.SHUT_STS.STATE ≠ 4 → s.rd TIM.STS.STATE = 3 → s.jumpUs ≠ 0 → s.eff_ TIM.JUMP_THR.US * 1000 < o.natAbs → gives (.ptpSample offset) s (fun t =>
      t.rdI TIM.OFFSET.NS = clampI (-0x7FFFFFFF) 0x7FFFFFFF o ∧
      t.rd TIM.STS.STATE = 3 ∧
      t.rd TIM.JUMP.US = min (2 ^ 32 - 1) ((o.natAbs + 999) / 1000) ∧
      t.tim.near = 0 ∧
      s.within t [.regs, .eff, .clk, .log, .frs, .scan, .tim, .sram] ([TIM.STS.key 0 0, FRS.TIME_STS.key 0 0, TIM.OFFSET.key 0 0, TIM.JUMP.key 0 0] ++ logKeys FRS.PAGE ++ logKeys TIM.PAGE))) ∧
    (∀ (offset : BitVec 64) (o : Int), s.tim.masterOk = true → s.mode.sec ≠ .quarantined → o = sgn 64 offset.toNat → s.tim.slew = 0 → 0 ≤ s.taiNs → s.taiNs < 2 ^ 48 * 1000000000 → s.rd SCN.SHUT_STS.STATE ≠ 3 → s.rd SCN.SHUT_STS.STATE ≠ 4 → s.rd TIM.STS.STATE = 3 → s.jumpUs ≠ 0 → o.natAbs ≤ s.eff_ TIM.JUMP_THR.US * 1000 → o.natAbs ≤ (s.rd TIM.SLEW_LIM.US) * 1000 → s.tim.near = 7 → gives (.ptpSample offset) s (fun t =>
      t.rdI TIM.OFFSET.NS = clampI (-0x7FFFFFFF) 0x7FFFFFFF o ∧
      t.rd TIM.STS.STATE = 2 ∧
      t.rd TIM.JUMP.US = 0 ∧
      t.rdB TIM.STS.JUMP = false ∧
      t.rd TIM.BOUND.US = min (2 ^ 32 - 1) ((o.natAbs * 1000 + s.tim.accM + (s.rd TIM.ASYM.UNC 0 (s.rd TIM.STS.PORT) + 4) * 1000 + 999999) / 1000000) ∧
      s.within t [.regs, .eff, .clk, .log, .frs, .scan, .tim, .sram] ([TIM.STS.key 0 0, FRS.TIME_STS.key 0 0, SCN.LOCK_STS.key 0 0, TIM.OFFSET.key 0 0, TIM.JUMP.key 0 0, TIM.BOUND.US.key 0 0] ++ logKeys FRS.PAGE ++ logKeys SCN.PAGE ++ eventKeys SCN.PAGE ++ eventKeys TIM.PAGE))) ∧
    (∀ (offset : BitVec 64), (s.tim.masterOk = false ∨ s.rd TIM.STS.STATE = 0 ∨ s.mode.sec = .quarantined) → idle (.ptpSample offset) s) ∧
    (s.rd TIM.STS.STATE = 2 → s.rd TIM.STS.PORT ≠ 0xFF → s.rd SCN.SHUT_STS.STATE ≠ 3 → s.rd SCN.SHUT_STS.STATE ≠ 4 → gives .announceTimeout s (fun t =>
      t.rd TIM.STS.STATE = 3 ∧
      t.rd TIM.STS.PORT = 0xFF ∧
      t.rdB TIM.STS.TVAL = s.rdB TIM.STS.TVAL ∧
      t.tim.b0 = s.rd TIM.BOUND.US ∧
      t.rd TIM.HOLD_T = 0 ∧
      t.tim.masterOk = false ∧
      t.flag TIM.PAGE 1 ∧
      (s.eff_ SCN.RATE_CTL.SRC ≠ 0 ∨ s.mode.raster ≠ .weaver → s.logged t TIM.PAGE 0xB4 (fun _ _ => True)) ∧
      s.within t [.regs, .log, .frs, .scan, .tim, .sram] ([TIM.STS.key 0 0, FRS.TIME_STS.key 0 0, SCN.LOCK_STS.key 0 0, TIM.BOUND.US.key 0 0, TIM.HOLD_T.key 0 0] ++ logKeys FRS.PAGE ++ logKeys SCN.PAGE ++ eventKeys SCN.PAGE ++ logKeys TIM.PAGE ++ eventKeys TIM.PAGE))) ∧
    (s.rd TIM.STS.STATE = 1 → s.rd TIM.STS.PORT ≠ 0xFF → s.rd SCN.SHUT_STS.STATE ≠ 3 → s.rd SCN.SHUT_STS.STATE ≠ 4 → gives .announceTimeout s (fun t =>
      t.rd TIM.STS.STATE = 0 ∧
      t.taiNs = s.taiNs ∧
      s.logged t TIM.PAGE 0xB4 (fun _ _ => True) ∧
      s.within t [.regs, .log, .frs, .scan, .tim, .sram] ([TIM.STS.key 0 0, FRS.TIME_STS.key 0 0] ++ logKeys FRS.PAGE ++ logKeys TIM.PAGE))) ∧
    (s.rd TIM.STS.STATE = 0 → idle .announceTimeout s) ∧
    (∀ (port : Fin 41) (domain acc : BitVec 8) (via : PtpVia) (gm : BitVec 64) (ps : Nat), s.ptpPort port.val = true → s.mode.sec ≠ .quarantined → domain.toNat = s.eff_ TIM.CTL.DOMAIN → s.ptpAdmits port.val via = true → accPs acc.toNat (s.eff_ TIM.ACC_UNK.US) = some ps → gives (.ptpMessage port domain via .announce acc gm true) s (fun t =>
      t.rd TIM.STS.PORT = port.val ∧
      t.rd TIM.GM_ID_LO = gm.toNat % 2 ^ 32 ∧
      t.rd TIM.GM_ID_HI = gm.toNat / 2 ^ 32 ∧
      t.tim.accM = ps ∧
      t.tim.masterOk = true ∧
      (t.fab.inbox = if via = .timeVc then s.fab.inbox.eraseP (fun m => m.vc == 1 && m.port == port.val) else s.fab.inbox) ∧
      s.within t [.regs, .fab, .tim] [TIM.STS.key 0 0, TIM.GM_ID_LO.key 0 0, TIM.GM_ID_HI.key 0 0])) ∧
    (∀ (port : Fin 41) (domain acc : BitVec 8) (via : PtpVia) (gm : BitVec 64) (best : Bool) (kind : PtpKind), s.ptpPort port.val = true → s.mode.sec ≠ .quarantined → domain.toNat = s.eff_ TIM.CTL.DOMAIN → s.ptpAdmits port.val via = true → (kind = .sync ∨ kind = .delayResp ∨ kind = .pdelay) → gives (.ptpMessage port domain via kind acc gm best) s (fun t =>
      tget (fun _ => PtpPort.none) t.tim.ports port = ⟨kind.num, s.taiNs.toNat⟩ ∧
      (t.fab.inbox = if via = .timeVc then s.fab.inbox.eraseP (fun m => m.vc == 1 && m.port == port.val) else s.fab.inbox) ∧
      s.within t [.fab, .tim] [])) ∧
    (∀ (port : Fin 41) (domain acc : BitVec 8) (via : PtpVia) (gm : BitVec 64) (best : Bool) (kind : PtpKind), s.ptpPort port.val = true → s.mode.sec ≠ .quarantined → domain.toNat = s.eff_ TIM.CTL.DOMAIN → s.ptpAdmits port.val via = true → (kind = .followUp ∨ kind = .management ∨ (kind = .announce ∧ best = false)) → gives (.ptpMessage port domain via kind acc gm best) s (fun t =>
      (t.fab.inbox = if via = .timeVc then s.fab.inbox.eraseP (fun m => m.vc == 1 && m.port == port.val) else s.fab.inbox) ∧
      s.within t [.fab] [])) ∧
    (∀ (port : Fin 41) (domain acc : BitVec 8) (via : PtpVia) (gm : BitVec 64), s.ptpPort port.val = true → s.mode.sec ≠ .quarantined → domain.toNat = s.eff_ TIM.CTL.DOMAIN → s.ptpAdmits port.val via = true → accPs acc.toNat (s.eff_ TIM.ACC_UNK.US) = none → s.tim.masterOk = true → s.rd TIM.STS.STATE = 2 → s.rd SCN.SHUT_STS.STATE ≠ 3 → s.rd SCN.SHUT_STS.STATE ≠ 4 → gives (.ptpMessage port domain via .announce acc gm true) s (fun t =>
      t.tim.masterOk = false ∧
      t.rd TIM.STS.STATE = 3 ∧
      (s.eff_ SCN.RATE_CTL.SRC ≠ 0 ∨ s.mode.raster ≠ .weaver → s.logged t TIM.PAGE 0xB4 (fun _ _ => True)) ∧
      (t.fab.inbox = if via = .timeVc then s.fab.inbox.eraseP (fun m => m.vc == 1 && m.port == port.val) else s.fab.inbox) ∧
      s.within t [.regs, .log, .frs, .scan, .fab, .tim, .sram] ([TIM.STS.key 0 0, FRS.TIME_STS.key 0 0, SCN.LOCK_STS.key 0 0, TIM.BOUND.US.key 0 0, TIM.HOLD_T.key 0 0] ++ logKeys FRS.PAGE ++ logKeys SCN.PAGE ++ eventKeys SCN.PAGE ++ logKeys TIM.PAGE ++ eventKeys TIM.PAGE))) ∧
    (∀ (port : Fin 41) (domain acc : BitVec 8) (via : PtpVia) (gm : BitVec 64) (best : Bool) (kind : PtpKind), s.ptpPort port.val = true → s.mode.sec ≠ .quarantined → (domain.toNat ≠ s.eff_ TIM.CTL.DOMAIN ∨ s.ptpAdmits port.val via = false) → gives (.ptpMessage port domain via kind acc gm best) s (fun t =>
      t.rd TIM.STAT_DROP = min 0xFFFFFFFF (s.rd TIM.STAT_DROP + 1) ∧
      (s.tim.dropAt = none → s.logged t TIM.PAGE 0xBC (fun a _ => a = t.rd TIM.STAT_DROP)) ∧
      (t.fab.inbox = if via = .timeVc then s.fab.inbox.eraseP (fun m => m.vc == 1 && m.port == port.val) else s.fab.inbox) ∧
      s.within t [.regs, .log, .fab, .tim, .sram] ([TIM.STAT_DROP.key 0 0] ++ logKeys TIM.PAGE))) ∧
    (∀ (port : Fin 41) (domain acc : BitVec 8) (via : PtpVia) (gm : BitVec 64) (best : Bool) (kind : PtpKind), (s.ptpPort port.val = false ∨ s.mode.sec = .quarantined) → idle (.ptpMessage port domain via kind acc gm best) s) ∧
    (s.rd TIM.STS.STATE = 3 → s.rdB TIM.STS.PPS_OK = false → s.rd SCN.SHUT_STS.STATE ≠ 3 → s.rd SCN.SHUT_STS.STATE ≠ 4 → gives .holdoverTick s (fun t =>
      t.rd TIM.HOLD_T = min 0xFFFFFFFF (s.rd TIM.HOLD_T + 1) ∧
      t.tim.holdSec = s.tim.holdSec + 1 ∧
      (t.rd TIM.BOUND.US = min (2 ^ 32 - 1) (s.tim.b0 + ((s.tim.holdSec + 1) * ((if s.rdB TIM.STS.CLK10_OK = true then s.eff_ TIM.HOLD_RATE.EXT else s.eff_ TIM.HOLD_RATE.INT) * (if t.tim.rateDouble = true then 2 else 1)) + 999) / 1000)) ∧
      t.tim.rateDouble = (s.tim.rateDouble || (s.boardTemps.zip s.tim.boardT0).any (fun p => decide (100 < (p.1 - p.2).natAbs))) ∧
      s.within t [.regs, .log, .frs, .scan, .tim, .sram] ([TIM.STS.key 0 0, FRS.TIME_STS.key 0 0, TIM.BOUND.US.key 0 0, TIM.HOLD_T.key 0 0] ++ logKeys FRS.PAGE))) ∧
    (s.rd TIM.STS.STATE = 3 → s.rdB TIM.STS.PPS_OK = true → s.rd SCN.SHUT_STS.STATE ≠ 3 → s.rd SCN.SHUT_STS.STATE ≠ 4 → gives .holdoverTick s (fun t =>
      t.rd TIM.BOUND.US = s.eff_ TIM.PPS_CFG.ACC + 1 ∧
      s.within t [.regs, .log, .frs, .scan, .tim, .sram] ([TIM.STS.key 0 0, FRS.TIME_STS.key 0 0, TIM.BOUND.US.key 0 0, TIM.HOLD_T.key 0 0] ++ logKeys FRS.PAGE))) ∧
    (s.rd TIM.STS.STATE ≠ 3 → idle .holdoverTick s) ∧
    (∀ (err : BitVec 32), s.rd TIM.PPS_CFG.ENA = 1 → (sgn 32 err.toNat).natAbs ≤ s.eff_ TIM.PPS_CFG.WIN * 1000 → s.tim.ppsGood = 7 → s.rdB TIM.STS.PPS_OK = false → s.rd TIM.STS.STATE ≠ 3 → gives (.ppsEdge err) s (fun t =>
      t.rdB TIM.STS.PPS_OK = true ∧
      t.taiNs = s.taiNs ∧
      s.within t [.regs, .scan, .tim, .log, .sram] ([TIM.STS.key 0 0, SCN.LOCK_STS.key 0 0] ++ logKeys SCN.PAGE ++ eventKeys SCN.PAGE))) ∧
    (∀ (err : BitVec 32), s.rd TIM.PPS_CFG.ENA = 1 → (sgn 32 err.toNat).natAbs ≤ s.eff_ TIM.PPS_CFG.WIN * 1000 → s.rdB TIM.STS.PPS_OK = true → s.rd TIM.STS.STATE = 3 → (∀ ch : Fin 16, s.rdB LNT.CMP_CTL.ARM 0 ch = false) → 0 ≤ s.taiNs - sgn 32 err.toNat → s.taiNs - sgn 32 err.toNat < 2 ^ 48 * 1000000000 → s.rd SCN.SHUT_STS.STATE ≠ 3 → s.rd SCN.SHUT_STS.STATE ≠ 4 → gives (.ppsEdge err) s (fun t =>
      t.taiNs = s.taiNs - sgn 32 err.toNat ∧
      t.rd TIM.BOUND.US = s.eff_ TIM.PPS_CFG.ACC + 1 ∧
      s.within t [.regs, .clk, .log, .frs, .scan, .tim, .sram] ([TIM.STS.key 0 0, FRS.TIME_STS.key 0 0, TIM.BOUND.US.key 0 0] ++ logKeys FRS.PAGE))) ∧
    (∀ (err : BitVec 32), s.rd TIM.PPS_CFG.ENA = 1 → s.eff_ TIM.PPS_CFG.WIN * 1000 < (sgn 32 err.toNat).natAbs → s.rdB TIM.STS.PPS_OK = true → s.rd SCN.SHUT_STS.STATE ≠ 3 → s.rd SCN.SHUT_STS.STATE ≠ 4 → gives (.ppsEdge err) s (fun t =>
      t.rdB TIM.STS.PPS_OK = false ∧
      t.tim.ppsGood = 0 ∧
      t.flag TIM.PAGE 4 ∧
      (s.eff_ SCN.RATE_CTL.SRC ≠ 1 ∨ s.mode.raster ≠ .weaver → s.logged t TIM.PAGE 0xB5 (fun _ _ => True)) ∧
      (s.rd TIM.STS.STATE = 3 → t.tim.b0 = s.eff_ TIM.PPS_CFG.ACC + 1 ∧ t.tim.holdSec = 0) ∧
      s.within t [.regs, .log, .frs, .scan, .tim, .sram] ([TIM.STS.key 0 0, FRS.TIME_STS.key 0 0, SCN.LOCK_STS.key 0 0] ++ logKeys FRS.PAGE ++ logKeys SCN.PAGE ++ eventKeys SCN.PAGE ++ logKeys TIM.PAGE ++ eventKeys TIM.PAGE))) ∧
    (∀ (err : BitVec 32), s.rd TIM.PPS_CFG.ENA = 0 → idle (.ppsEdge err) s) ∧
    (s.rdB TIM.STS.PPS_OK = true → s.rd SCN.SHUT_STS.STATE ≠ 3 → s.rd SCN.SHUT_STS.STATE ≠ 4 → gives .ppsTimeout s (fun t =>
      t.rdB TIM.STS.PPS_OK = false ∧
      t.tim.ppsGood = 0 ∧
      t.flag TIM.PAGE 4 ∧
      (s.eff_ SCN.RATE_CTL.SRC ≠ 1 ∨ s.mode.raster ≠ .weaver → s.logged t TIM.PAGE 0xB5 (fun _ _ => True)) ∧
      s.within t [.regs, .log, .frs, .scan, .tim, .sram] ([TIM.STS.key 0 0, FRS.TIME_STS.key 0 0, SCN.LOCK_STS.key 0 0] ++ logKeys FRS.PAGE ++ logKeys SCN.PAGE ++ eventKeys SCN.PAGE ++ logKeys TIM.PAGE ++ eventKeys TIM.PAGE))) ∧
    (∀ (ok : Bool), gives (.clk10Check ok) s (fun t =>
      t.rdB TIM.STS.CLK10_OK = ok ∧
      t.rdB CLB.STS.CLK10_OK = ok ∧
      (s.rdB TIM.STS.CLK10_OK = true ∧ ok = false → s.logged t TIM.PAGE 0xB6 (fun a _ => a = t.rd TIM.STS)) ∧
      s.within t [.regs, .log, .sram] ([TIM.STS.key 0 0, CLB.STS.key 0 0] ++ logKeys TIM.PAGE)))

/-- Accepted jumps, event slots and compare channels: An accepted jump steps the count by the last offset, clears J,
locks, starts the step sweep and the re-phase, with 0xB3 and JUMP_DONE; without a jump it is ignored with 0xBD; a
path that may not in Sealed gets the locked status and 0xBA. A slot that the beam reaches in a matching frame sets
its FIRED bit and raises SLOT; a once slot is then off, and one for a past frame is cleared with 0xBB; a LINE beyond
VTOTAL is refused with 0xBE. An armed compare channel whose value is reached fires: ARM clear, FIRED set, stamp
captured, event CMP, and its action; one armed behind its value fires at once, LATE with 0xB9. FIRED bits clear by
writing one. The points the spec leaves open in it follow the model's own choices, log entry 128. (R354, R357, R359,
R360, R362, R364, R365, R366.) -/
def Obligations.Lintel : Prop :=
  ∀ s : State,
    (∀ (path : Path), s.takes path TIM.PAGE 0x128 = true → s.jumpUs ≠ 0 → gives (.jumpAccept path) s (fun t =>
      t.answered .ok ∧
      t.tim.step = some ⟨s.tim.lastOff, s.taiNs / 1000, true⟩ ∧
      t.tim.slew = 0 ∧
      s.within t [.bus, .tim] [])) ∧
    (∀ (path : Path), s.takes path TIM.PAGE 0x128 = true → s.jumpUs = 0 → gives (.jumpAccept path) s (fun t =>
      t.answered .ignored ∧
      s.logged t TIM.PAGE 0xBD (fun a b => a = s.rd TIM.STS ∧ b = 1) ∧
      s.within t [.regs, .bus, .log, .sram] (logKeys TIM.PAGE))) ∧
    (∀ (path : Path), s.mode.sec = .sealed → path.privileged = false → s.pathOpen path = true → s.pathServed path true = true → s.modulePends = false → s.rdB HDR.PG_CTL.LOCK TIM.PAGE = false → gives (.jumpAccept path) s (fun t =>
      t.answered .locked ∧
      s.logged t TIM.PAGE 0xBA (fun _ _ => True) ∧
      s.within t [.regs, .bus, .log, .sram] (logKeys TIM.PAGE ++ logKeys SYS.PAGE))) ∧
    (∀ (path : Path) (v : BitVec 32) (n : Nat), s.takes path LNT.PAGE 0x104 = true → s.rd LNT.SLOT_SEL.SLOT 0 path.num = n → bits v.toNat 29 16 < s.eff_ SCN.VTOTAL.LINES → gives (.lintelSlotWrite path 0 v) s (fun t =>
      t.answered .ok ∧
      t.rd LNT.SLOT_CFG 0 n = bits v.toNat 2 0 + 65536 * bits v.toNat 29 16 ∧
      s.within t [.regs, .bus, .tim] [LNT.SLOT_CFG.key 0 n])) ∧
    (∀ (path : Path) (v : BitVec 32), s.takes path LNT.PAGE 0x104 = true → s.eff_ SCN.VTOTAL.LINES ≤ bits v.toNat 29 16 → gives (.lintelSlotWrite path 0 v) s (fun t =>
      t.answered .ignored ∧
      s.logged t LNT.PAGE 0xBE (fun _ b => b = v.toNat) ∧
      s.within t [.regs, .bus, .log, .sram] (logKeys LNT.PAGE))) ∧
    (∀ (path : Path) (v : BitVec 32) (n : Nat), s.takes path LNT.PAGE 0x108 = true → s.rd LNT.SLOT_SEL.SLOT 0 path.num = n → gives (.lintelSlotWrite path 1 v) s (fun t =>
      t.answered .ok ∧
      (t.reg (regKey n LNT.PAGE 0x108)).toNat = v.toNat % 8192 ∧
      s.within t [.regs, .bus, .tim] [regKey n LNT.PAGE 0x108])) ∧
    (∀ (path : Path) (v : BitVec 32) (n : Nat), s.takes path LNT.PAGE 0x10C = true → s.rd LNT.SLOT_SEL.SLOT 0 path.num = n → gives (.lintelSlotWrite path 2 v) s (fun t =>
      t.answered .ok ∧
      t.rd LNT.SLOT_FRAME 0 n = v.toNat ∧
      s.within t [.regs, .bus, .tim] [LNT.SLOT_FRAME.key 0 n])) ∧
    (∀ (slot : Fin 256), s.lintelRuns = true → (s.tim.slotOld.all (fun x => x.slot != slot.val || x.at_ != s.clk.now) = true) → s.rd LNT.SLOT_CFG.LINE 0 slot = s.clk.line.toNat → min (s.rd LNT.SLOT_WC 0 slot) (s.lineLen - 1) = s.clk.wc.toNat → (s.rd LNT.SLOT_CFG.MODE 0 slot = 1 ∨ (s.rd LNT.SLOT_CFG.MODE 0 slot = 2 ∧ s.rd LNT.SLOT_FRAME 0 slot = s.clk.frame.toNat)) → gives (.lintelSlotFire slot) s (fun t =>
      bit (t.reg (regKey 0 LNT.PAGE (0x110 + 4 * (slot.val / 32)))).toNat (slot.val % 32) = true ∧
      t.flag LNT.PAGE 0 ∧
      (t.rd LNT.SLOT_CFG.MODE 0 slot = if s.rd LNT.SLOT_CFG.MODE 0 slot = 2 then 0 else 1) ∧
      (s.rdB LNT.SLOT_CFG.LOG 0 slot = true → s.logged t LNT.PAGE 0xB8 (fun _ b => b = slot.val)) ∧
      s.within t [.regs, .log, .sram] ([LNT.SLOT_CFG.key 0 (slot.val), regKey 0 LNT.PAGE (0x110 + 4 * (slot.val / 32))] ++ logKeys LNT.PAGE ++ eventKeys LNT.PAGE))) ∧
    (∀ (slot : Fin 256) (o : SlotOld) (l : List SlotOld), s.lintelRuns = true → s.tim.slotOld = o :: l → o.slot = slot.val → o.at_ = s.clk.now → bits o.cfg 29 16 = s.clk.line.toNat → min (o.wc % 8192) (s.lineLen - 1) = s.clk.wc.toNat → (o.cfg % 4 = 1 ∨ (o.cfg % 4 = 2 ∧ o.frame = s.clk.frame.toNat)) → gives (.lintelSlotFire slot) s (fun t =>
      bit (t.reg (regKey 0 LNT.PAGE (0x110 + 4 * (slot.val / 32)))).toNat (slot.val % 32) = true ∧
      t.flag LNT.PAGE 0 ∧
      t.reg (LNT.SLOT_CFG.MODE.key 0 slot) = s.reg (LNT.SLOT_CFG.MODE.key 0 slot) ∧
      s.within t [.regs, .log, .sram] ([LNT.SLOT_CFG.key 0 (slot.val), regKey 0 LNT.PAGE (0x110 + 4 * (slot.val / 32))] ++ logKeys LNT.PAGE ++ eventKeys LNT.PAGE))) ∧
    (∀ (slot : Fin 256), s.lintelRuns = true → (s.tim.slotOld.all (fun x => x.slot != slot.val || x.at_ != s.clk.now) = true) → s.rd LNT.SLOT_CFG.MODE 0 slot = 2 → 0 < sdiff32 s.clk.frame.toNat (s.rd LNT.SLOT_FRAME 0 slot) → gives (.lintelSlotFire slot) s (fun t =>
      t.rd LNT.SLOT_CFG.MODE 0 slot = 0 ∧
      (∀ k : Fin 8, t.reg (regKey 0 LNT.PAGE (0x110 + 4 * k.val)) = s.reg (regKey 0 LNT.PAGE (0x110 + 4 * k.val))) ∧
      s.logged t LNT.PAGE 0xBB (fun a b => a = t.rd LNT.SLOT_CFG 0 slot ∧ b = slot.val) ∧
      s.within t [.regs, .log, .sram] ([LNT.SLOT_CFG.key 0 (slot.val)] ++ logKeys LNT.PAGE))) ∧
    (∀ (slot : Fin 256), (s.tim.slotOld.all (fun x => x.slot != slot.val || x.at_ != s.clk.now) = true) → (s.lintelRuns = false ∨ s.rd LNT.SLOT_CFG.MODE 0 slot = 0 ∨ s.rd LNT.SLOT_CFG.MODE 0 slot = 3 ∨ (s.rd LNT.SLOT_CFG.MODE 0 slot = 1 ∧ (s.rd LNT.SLOT_CFG.LINE 0 slot ≠ s.clk.line.toNat ∨ min (s.rd LNT.SLOT_WC 0 slot) (s.lineLen - 1) ≠ s.clk.wc.toNat)) ∨ sdiff32 s.clk.frame.toNat (s.rd LNT.SLOT_FRAME 0 slot) < 0 ∧ s.rd LNT.SLOT_CFG.MODE 0 slot = 2) → idle (.lintelSlotFire slot) s) ∧
    (∀ (path : Path) (k : Fin 8) (v : BitVec 32), s.takes path LNT.PAGE (0x110 + 4 * k.val) = true → gives (.firedClear path k v) s (fun t =>
      t.answered .ok ∧
      (∀ i : Fin 32, (t.reg (regKey 0 LNT.PAGE (0x110 + 4 * k.val))).getLsbD i = ((s.reg (regKey 0 LNT.PAGE (0x110 + 4 * k.val))).getLsbD i && !v.getLsbD i)) ∧
      s.within t [.regs, .bus] [regKey 0 LNT.PAGE (0x110 + 4 * k.val)])) ∧
    (∀ (path : Path) (v : BitVec 32) (ch : Nat), s.takes path LNT.PAGE 0x138 = true → s.rd LNT.CMP_SEL.CH 0 path.num = ch → sdiff32 s.rawNs (s.rd LNT.CMP_VAL 0 ch) < 0 → gives (.compareArm path v) s (fun t =>
      t.answered .ok ∧
      t.rd LNT.CMP_CTL 0 ch = bits v.toNat 2 1 * 2 + 1 ∧
      t.rd LNT.CMP_STS 0 ch = 0 ∧
      s.within t [.regs, .bus] [LNT.CMP_CTL.key 0 ch, LNT.CMP_STS.key 0 ch])) ∧
    (∀ (path : Path) (v : BitVec 32) (ch : Nat), s.takes path LNT.PAGE 0x138 = true → s.rd LNT.CMP_SEL.CH 0 path.num = ch → 0 ≤ sdiff32 s.rawNs (s.rd LNT.CMP_VAL 0 ch) → bits v.toNat 2 1 ≠ 1 → bits v.toNat 2 1 ≠ 2 → gives (.compareArm path v) s (fun t =>
      t.answered .ok ∧
      t.rdB LNT.CMP_CTL.ARM 0 ch = false ∧
      t.rdB LNT.CMP_STS.FIRED 0 ch = true ∧
      t.rdB LNT.CMP_STS.LATE 0 ch = true ∧
      t.flag LNT.PAGE 1 ∧
      s.logged t LNT.PAGE 0xB9 (fun a b => a = t.rd LNT.CMP_STS 0 ch ∧ b = ch) ∧
      s.within t [.regs, .bus, .log, .sram] ([LNT.CMP_CTL.key 0 ch, LNT.CMP_STS.key 0 ch, LNT.CMP_BEAM_LO.key 0 ch, LNT.CMP_BEAM_HI.key 0 ch] ++ logKeys LNT.PAGE ++ eventKeys LNT.PAGE))) ∧
    (∀ (ch : Fin 16), s.rdB LNT.CMP_CTL.ARM 0 ch = true → 0 ≤ sdiff32 s.rawNs (s.rd LNT.CMP_VAL 0 ch) → (s.rd LNT.CMP_CTL.ACT 0 ch = 0 ∨ s.rd LNT.CMP_CTL.ACT 0 ch = 3) → gives (.compareFire ch) s (fun t =>
      t.rdB LNT.CMP_CTL.ARM 0 ch = false ∧
      t.rdB LNT.CMP_STS.FIRED 0 ch = true ∧
      t.rdB LNT.CMP_STS.LATE 0 ch = false ∧
      t.rd LNT.CMP_BEAM_LO 0 ch + 2 ^ 32 * t.rd LNT.CMP_BEAM_HI 0 ch = s.stamp % 2 ^ 64 ∧
      t.flag LNT.PAGE 1 ∧
      s.within t [.regs, .log, .sram] ([LNT.CMP_CTL.key 0 (ch.val), LNT.CMP_STS.key 0 (ch.val), LNT.CMP_BEAM_LO.key 0 (ch.val), LNT.CMP_BEAM_HI.key 0 (ch.val)] ++ eventKeys LNT.PAGE))) ∧
    (∀ (ch : Fin 16), s.rdB LNT.CMP_CTL.ARM 0 ch = true → 0 ≤ sdiff32 s.rawNs (s.rd LNT.CMP_VAL 0 ch) → s.rd LNT.CMP_CTL.ACT 0 ch = 2 → s.role = 2 → s.rd LEF.STS.PARTNER_ROLE = 4 → s.leaf.demoteCause = 0 → s.leaf.tau = none → gives (.compareFire ch) s (fun t =>
      t.rdB LNT.CMP_CTL.ARM 0 ch = false ∧
      t.leaf.demoteCause = 2 ∧
      s.within t [.regs, .log, .leaf, .sram] ([LNT.CMP_CTL.key 0 (ch.val), LNT.CMP_STS.key 0 (ch.val), LNT.CMP_BEAM_LO.key 0 (ch.val), LNT.CMP_BEAM_HI.key 0 (ch.val)] ++ eventKeys LNT.PAGE))) ∧
    (∀ (ch : Fin 16), s.rdB LNT.CMP_CTL.ARM 0 ch = true → 0 ≤ sdiff32 s.rawNs (s.rd LNT.CMP_VAL 0 ch) → s.rd LNT.CMP_CTL.ACT 0 ch = 1 → s.rd SCN.SHUT_STS.STATE = 4 → gives (.compareFire ch) s (fun t =>
      t.rdB LNT.CMP_STS.FIRED 0 ch = true ∧
      t.rd SCN.SHUT_STS.STATE = 5 ∧
      t.rdB SCN.SHUT_CTL.REQ = false ∧
      s.keeps t [.regs, .log, .mem, .scene, .frs, .scan, .freeCtr, .hbm, .sram])) ∧
    (∀ (ch : Fin 16), (s.rdB LNT.CMP_CTL.ARM 0 ch = false ∨ sdiff32 s.rawNs (s.rd LNT.CMP_VAL 0 ch) < 0) → idle (.compareFire ch) s)

/-- Roles, HELLO, DEMOTE, TAKE and the takeover: HELLO goes out with role, flags, ID and FS; roles follow the partner:
Single becomes Active, a leaf joins an Active or Single partner as Syncing with its FS, else rule 2 decides; a
silent partner makes it Single with 0x0A01. The active leaf's DEMOTE names the next line; a Ready standby decides by
it, any other logs 0xC0. A Ready standby that misses LINE messages, or the partner altogether, sends TAKE. At the
takeover the new active leaf drives, with TAKE and TAKE_CAUSE, TAKEOVER and 0xC1, and counts the rows of queued
repairs unless planned; the old one falls silent; TAKE deposes an active leaf with 0xC2. SWAP, RESYNC and REARM act
by role, else 0xC9. The points the spec leaves open in it follow the model's own choices, log entries 43, 61, 96,
130, 131, 132, 136, 138, 210, 225, 227, 228, 229, 230, 231, 236. (R370, R371, R372, R381, R384, R385, R386, R387,
R389, R392, R393, R394.) -/
def Obligations.LeafRoles : Prop :=
  ∀ s : State,
    (s.negotiates = true → s.rdB LEF.STS.HINGE_UP = true → gives .leafHelloSend s (fun t =>
      t.leaf.outBox = s.leaf.outBox ++ [⟨true, [0x01] ++ beBytes 1 s.role ++ beBytes 1 (b2n s.leaf.driving + 2 * b2n (s.leafFaults == 0) + 4 * s.eff_ LEF.CFG.PREF + 8 * b2n (s.mode.dbg == .intrusive)) ++ beBytes 8 s.moduleId ++ beBytes 4 s.clk.fs.toNat⟩] ∧
      s.within t [.leaf] [])) ∧
    (s.negotiates = true → s.rdB LEF.STS.HINGE_UP = false → gives .leafHelloSend s (fun t =>
      t.fab.echoOut = some s.fab.trTseq ∧
      t.fab.trTseq = s.fab.trTseq + 1 ∧
      t.leaf.outBox = s.leaf.outBox ++ [⟨true, s.helloBytes⟩] ∧
      s.within t [.leaf, .fab] [])) ∧
    (s.negotiates = false → idle .leafHelloSend s) ∧
    (s.negotiates = true → s.role = 0 → s.leaf.partner.heard = false → gives .hingePartnerTimeout s (fun t =>
      t.role = 1 ∧
      t.leaf.driving = true ∧
      t.rd SYS.START_STS.FAIL = 0x0A01 ∧
      s.logged t SYS.PAGE 0x2A (fun _ b => b = 0) ∧
      s.keeps t [.regs, .mode, .log, .frs, .leaf, .nvs, .thm, .sram])) ∧
    ((s.role ≠ 0 ∨ s.leaf.partner.heard = true ∨ s.negotiates = false) → idle .hingePartnerTimeout s) ∧
    (∀ (arg : List Byte), s.paired = true → arg.length = 15 → beAt arg 0 1 = 1 → s.role = 1 → beAt arg 1 1 ≠ 3 → s.mode.raster = .weaver → gives (.leafHello arg) s (fun t =>
      t.leaf.partner = helloOf s.clk.now arg ∧
      t.role = 2 ∧
      t.rd LEF.STS.PARTNER_ROLE = beAt arg 1 1 % 8 ∧
      t.partnerSeen = true ∧
      t.flag LEF.PAGE 0 ∧
      s.keeps t [.regs, .mode, .clk, .log, .frs, .leaf, .nvs, .thm, .sram])) ∧
    (∀ (arg : List Byte), s.paired = true → arg.length = 15 → beAt arg 0 1 = 1 → s.role = 0 → s.negotiates = true → (beAt arg 1 1 = 1 ∨ beAt arg 1 1 = 2) → gives (.leafHello arg) s (fun t =>
      t.leaf.partner = helloOf s.clk.now arg ∧
      t.role = 3 ∧
      t.leaf.driving = false ∧
      t.clk.fs = BitVec.ofNat 32 (beAt arg 11 4) ∧
      t.rdB SYS.START_STS.BAL_RST = false ∧
      s.keeps t [.regs, .mode, .clk, .log, .frs, .leaf, .nvs, .thm, .sram])) ∧
    (∀ (arg : List Byte), s.paired = true → arg.length = 15 → beAt arg 0 1 = 1 → s.role = 0 → s.negotiates = true → beAt arg 1 1 = 0 → gives (.leafHello arg) s (fun t =>
      t.leaf.partner = helloOf s.clk.now arg ∧
      (t.role = if s.winsOver (helloOf s.clk.now arg) = true then 2 else 3) ∧
      s.keeps t [.regs, .mode, .clk, .log, .frs, .leaf, .nvs, .thm, .sram])) ∧
    (∀ (arg : List Byte), s.paired = true → arg.length = 15 → beAt arg 0 1 = 1 → s.role = 5 → s.mode.raster = .weaver → (beAt arg 1 1 = 1 ∨ beAt arg 1 1 = 2) → gives (.leafHello arg) s (fun t =>
      t.leaf.partner = helloOf s.clk.now arg ∧
      t.role = 3 ∧
      t.leaf.driving = false ∧
      t.clk.fs = BitVec.ofNat 32 (beAt arg 11 4) ∧
      s.keeps t [.regs, .mode, .clk, .log, .frs, .leaf, .nvs, .thm, .sram])) ∧
    (∀ (arg : List Byte), s.paired = true → arg.length = 15 → beAt arg 0 1 = 1 → (s.role = 2 ∨ s.role = 3 ∨ s.role = 4) → beAt arg 1 1 ≠ 3 → s.mode.raster = .weaver → gives (.leafHello arg) s (fun t =>
      t.leaf.partner = helloOf s.clk.now arg ∧
      t.role = s.role ∧
      t.leaf.outBox = s.leaf.outBox ∧
      s.within t [.regs, .leaf] [LEF.STS.key 0 0])) ∧
    (∀ (arg : List Byte), s.paired = true → arg.length = 15 → beAt arg 0 1 = 1 → s.role = 0 → s.negotiates = false → s.mode.raster = .sill → s.leaf.driving = true → (helloOf s.clk.now arg).driving = true → s.winsOver (helloOf s.clk.now arg) = false → gives (.leafHello arg) s (fun t =>
      t.leaf.driving = false ∧
      s.logged t LEF.PAGE 0xCB (fun a _ => a = t.lefSts) ∧
      s.within t [.regs, .log, .leaf, .sram] ([LEF.STS.key 0 0] ++ logKeys LEF.PAGE))) ∧
    (∀ (arg : List Byte) (h : Nat) (e : Entry), s.paired = true → arg.length = 15 → beAt arg 0 1 = 1 → s.role = 2 → beAt arg 1 1 = 3 → (s.rd LEF.STS.PARTNER_ROLE ≠ 3 ∨ (s.leaf.partner.intrusive = true ∧ (helloOf s.clk.now arg).intrusive = false)) → s.mode.raster = .weaver → s.scene.fresh = [(h, e)] → s.scene.planes = [] → gives (.leafHello arg) s (fun t =>
      t.leaf.outBox = s.leaf.outBox ++ [⟨false, [0x08, 0] ++ zeros 2 ++ beBytes 8 (16 * h) ++ leBytes 4 (e.word 0) ++ leBytes 4 (e.word 1) ++ leBytes 4 (e.word 2) ++ leBytes 4 (e.word 3)⟩] ∧
      s.within t [.regs, .leaf] [LEF.STS.key 0 0])) ∧
    (∀ (arg : List Byte), (s.paired = false ∨ arg.length ≠ 15 ∨ beAt arg 0 1 ≠ 1) → idle (.leafHello arg) s) ∧
    (s.rdB LEF.STS.HINGE_UP = true → s.clk.now - s.clk.lineAt ≤ 300 → s.rd SCN.SHUT_STS.STATE ≠ 4 → s.role = 2 → s.leaf.demoteCause ≠ 0 → s.rd LEF.STS.PARTNER_ROLE = 4 → s.leaf.tau = none → gives .demoteSend s (fun t =>
      (t.leaf.tau = some ⟨s.leaf.demoteCause, true, (if s.clk.line.toNat + 1 < s.vtotal then (s.clk.line.toNat + 1, s.clk.frame.toNat) else (0, s.frameAfter)).1, (if s.clk.line.toNat + 1 < s.vtotal then (s.clk.line.toNat + 1, s.clk.frame.toNat) else (0, s.frameAfter)).2⟩) ∧
      (t.leaf.outBox = s.leaf.outBox ++ [⟨true, [0x02] ++ beBytes 1 s.leaf.demoteCause ++ beBytes 2 (if s.clk.line.toNat + 1 < s.vtotal then (s.clk.line.toNat + 1, s.clk.frame.toNat) else (0, s.frameAfter)).1 ++ beBytes 4 (if s.clk.line.toNat + 1 < s.vtotal then (s.clk.line.toNat + 1, s.clk.frame.toNat) else (0, s.frameAfter)).2⟩]) ∧
      t.clk = (s.toWc 300).clk ∧
      s.within t [.regs, .leaf, .clk, .log, .scene, .frs, .tim, .sram] (s.runKeys))) ∧
    (s.rdB LEF.STS.HINGE_UP = true → s.clk.now - s.clk.lineAt ≤ 300 → (s.role ≠ 2 ∨ s.leaf.demoteCause = 0 ∨ s.rd LEF.STS.PARTNER_ROLE ≠ 4) → beAt s.leaf.repeats 0 1 = 2 → gives .demoteSend s (fun t =>
      t.leaf = { s.leaf with outBox := s.leaf.outBox ++ [⟨true, s.leaf.repeats⟩] } ∧
      t.clk = (s.toWc 300).clk ∧
      s.within t [.regs, .leaf, .clk, .log, .scene, .frs, .tim, .sram] (s.runKeys))) ∧
    ((s.rdB LEF.STS.HINGE_UP = false ∨ 300 < s.clk.now - s.clk.lineAt ∨ ((s.leaf.demoteCause = 0 ∨ s.role ≠ 2) ∧ beAt s.leaf.repeats 0 1 ≠ 2)) → idle .demoteSend s) ∧
    (∀ (arg : List Byte), s.paired = true → 8 ≤ arg.length → beAt arg 0 1 = 2 → s.role = 4 → s.leaf.tau = none → s.rd SCN.SHUT_STS.STATE ≠ 4 → gives (.leafDemote arg) s (fun t =>
      (t.leaf.tau = some ⟨beAt arg 1 1, false, (if s.clk.line.toNat + 1 < s.vtotal then (s.clk.line.toNat + 1, s.clk.frame.toNat) else (0, s.frameAfter)).1, (if s.clk.line.toNat + 1 < s.vtotal then (s.clk.line.toNat + 1, s.clk.frame.toNat) else (0, s.frameAfter)).2⟩) ∧
      s.within t [.leaf] [])) ∧
    (∀ (arg : List Byte), s.paired = true → 8 ≤ arg.length → beAt arg 0 1 = 2 → s.role = 4 → s.leaf.tau = none → s.rd SCN.SHUT_STS.STATE = 4 → gives (.leafDemote arg) s (fun t =>
      (t.leaf.tau = some ⟨beAt arg 1 1, false, (if s.clk.line.toNat + 1 < s.vtotal then (s.clk.line.toNat + 1, s.clk.frame.toNat) else (0, s.frameAfter)).1, (if s.clk.line.toNat + 1 < s.vtotal then (s.clk.line.toNat + 1, s.clk.frame.toNat) else (0, s.frameAfter)).2⟩) ∧
      t.rd SCN.SHUT_STS.STATE = 5 ∧
      s.keeps t [.regs, .log, .mem, .scene, .frs, .scan, .leaf, .freeCtr, .hbm, .sram])) ∧
    (∀ (arg : List Byte), s.paired = true → 8 ≤ arg.length → beAt arg 0 1 = 2 → (s.role = 3 ∨ s.role = 5) → gives (.leafDemote arg) s (fun t =>
      t.role = s.role ∧
      s.logged t LEF.PAGE 0xC0 (fun a b => a = s.lefSts ∧ b = beAt arg 1 1) ∧
      s.within t [.regs, .log, .sram] (logKeys LEF.PAGE))) ∧
    (∀ (arg : List Byte), (s.paired = false ∨ s.role < 3) → idle (.leafDemote arg) s) ∧
    (∀ (arg : List Byte), s.paired = true → 8 ≤ arg.length → beAt arg 0 1 = 3 → s.role = 2 → gives (.leafTake arg) s (fun t =>
      t.role = 5 ∧
      t.leaf.driving = false ∧
      t.leaf.tau = none ∧
      t.flag LEF.PAGE 0 ∧
      (s.thm.selfTest = none → s.logged t LEF.PAGE 0xC2 (fun a _ => a = s.rd LEF.TAKE_CAUSE)) ∧
      s.keeps t [.regs, .mode, .log, .frs, .leaf, .nvs, .thm, .sram])) ∧
    (∀ (arg : List Byte), s.role ≠ 2 → idle (.leafTake arg) s) ∧
    (∀ (tk : TakeSt), s.leaf.tau = some tk → s.reached tk.line tk.frame = true → tk.giveUp = false → s.role = 4 → s.mode.power = .standbyLeaf → (plannedCause tk.cause = true ∨ s.leaf.diverge = []) → gives .takeover s (fun t =>
      t.role = 2 ∧
      t.leaf.driving = true ∧
      t.leaf.tau = none ∧
      t.clk = (s.dueAt tk.line tk.frame 64).clk ∧
      t.rd LEF.TAKE_LO = tk.line % 2 ^ 16 * 2 ^ 16 + 64 ∧
      t.rd LEF.TAKE_HI = tk.frame % 2 ^ 32 ∧
      t.rd LEF.TAKE_CAUSE.CAUSE = tk.cause % 16 ∧
      t.rd LEF.TAKE_CAUSE.COUNT = min 0xFFFF (s.rd LEF.TAKE_CAUSE.COUNT + 1) ∧
      (t.rd LEF.STS.PARTNER_ROLE = if plannedCause tk.cause = true ∧ tk.cause ≠ 11 then 4 else if tk.cause ≤ 8 then 3 else 5) ∧
      t.panel.freshPair = Vector.replicate 2 true ∧
      t.flag LEF.PAGE 1 ∧
      (s.thm.selfTest = none → s.logged t LEF.PAGE 0xC1 (fun a _ => a = t.rd LEF.TAKE_CAUSE)) ∧
      t.mode.power = .full ∧
      t.leaf.mute = false ∧
      s.keeps t [.regs, .mode, .panel, .leaf, .nvs, .thm, .clk, .log, .scene, .frs, .tim, .sram])) ∧
    (∀ (tk : TakeSt), s.leaf.tau = some tk → s.reached tk.line tk.frame = true → tk.giveUp = false → s.role = 4 → s.mode.power = .shutter → (plannedCause tk.cause = true ∨ s.leaf.diverge = []) → gives .takeover s (fun t =>
      t.role = 2 ∧
      t.leaf.driving = true ∧
      t.leaf.tau = none ∧
      t.clk = (s.dueAt tk.line tk.frame 64).clk ∧
      t.rd LEF.TAKE_LO = tk.line % 2 ^ 16 * 2 ^ 16 + 64 ∧
      t.rd LEF.TAKE_HI = tk.frame % 2 ^ 32 ∧
      t.rd LEF.TAKE_CAUSE.CAUSE = tk.cause % 16 ∧
      t.rd LEF.TAKE_CAUSE.COUNT = min 0xFFFF (s.rd LEF.TAKE_CAUSE.COUNT + 1) ∧
      (t.rd LEF.STS.PARTNER_ROLE = if plannedCause tk.cause = true ∧ tk.cause ≠ 11 then 4 else if tk.cause ≤ 8 then 3 else 5) ∧
      t.panel.freshPair = Vector.replicate 2 true ∧
      t.flag LEF.PAGE 1 ∧
      (s.thm.selfTest = none → s.logged t LEF.PAGE 0xC1 (fun a _ => a = t.rd LEF.TAKE_CAUSE)) ∧
      t.mode.power = .shutter ∧
      t.leaf.mute = true ∧
      s.keeps t [.regs, .mode, .panel, .leaf, .nvs, .thm, .clk, .log, .scene, .frs, .tim, .sram])) ∧
    (∀ (tk : TakeSt), s.leaf.tau = some tk → s.reached tk.line tk.frame = true → tk.giveUp = false → s.role = 4 → s.mode.power = .standbyLeaf → plannedCause tk.cause = false → s.leaf.diverge ≠ [] → gives .takeover s (fun t =>
      t.role = 2 ∧
      t.leaf.diverge = [] ∧
      t.rd LEF.RES_GAP = min 0xFFFFFFFF (s.rd LEF.RES_GAP + ((s.leaf.diverge.map (fun d => rowKey d.half d.line)).eraseDups).length) ∧
      s.keeps t [.regs, .mode, .panel, .leaf, .nvs, .thm, .clk, .log, .scene, .frs, .tim, .sram])) ∧
    (∀ (tk : TakeSt), s.leaf.tau = some tk → s.reached tk.line tk.frame = true → tk.giveUp = true → s.rd LEF.STS.PARTNER_ROLE = 4 → s.role = 2 → s.mode.power = .full → s.nvs.jrnlOn = false → s.thm.stopping = false → gives .takeover s (fun t =>
      (t.role = if plannedCause tk.cause = true ∧ tk.cause ≠ 11 then 4 else 3) ∧
      t.leaf.driving = false ∧
      (t.leaf.repairQ = (if plannedCause tk.cause = true ∧ s.rdB LEF.STS.HINGE_UP = false then s.leaf.repairQ else [])) ∧
      t.mode.power = .standbyLeaf ∧
      t.rd LEF.STS.PARTNER_ROLE = 2 ∧
      t.rd LEF.TAKE_CAUSE.CAUSE = tk.cause % 16 ∧
      s.keeps t [.regs, .mode, .leaf, .nvs, .thm, .clk, .log, .scene, .frs, .tim, .sram])) ∧
    (∀ (tk : TakeSt), s.leaf.tau = some tk → s.reached tk.line tk.frame = true → tk.giveUp = true → s.rd LEF.STS.PARTNER_ROLE ≠ 4 → s.nvs.jrnlOn = false → s.thm.stopping = false → gives .takeover s (fun t =>
      t.role = s.role ∧
      t.mode = s.mode ∧
      t.leaf = { s.leaf with tau := none, demoteCause := 0 } ∧
      s.within t [.regs, .leaf, .clk, .log, .scene, .frs, .tim, .sram] (s.runKeys))) ∧
    (s.leaf.tau = none → idle .takeover s) ∧
    (∀ (tk : TakeSt), s.leaf.tau = some tk → s.reached tk.line tk.frame = false → idle .takeover s) ∧
    (s.role = 4 → s.rdB LEF.STS.HINGE_UP = true → s.mode.power ≠ .shutter → s.rd SCN.SHUT_STS.STATE ≠ 4 → (4 < s.leaf.silent ∨ (s.leaf.silent = 4 ∧ 500 ≤ s.clk.now - s.clk.lineAt)) → s.leaf.tau = none → gives .activeSilent s (fun t =>
      (t.leaf.tau = some ⟨9, false, (if s.clk.line.toNat + 1 < s.vtotal then (s.clk.line.toNat + 1, s.clk.frame.toNat) else (0, s.frameAfter)).1, (if s.clk.line.toNat + 1 < s.vtotal then (s.clk.line.toNat + 1, s.clk.frame.toNat) else (0, s.frameAfter)).2⟩) ∧
      (t.leaf.outBox = s.leaf.outBox ++ [⟨true, [0x03] ++ beBytes 1 9 ++ beBytes 2 (if s.clk.line.toNat + 1 < s.vtotal then (s.clk.line.toNat + 1, s.clk.frame.toNat) else (0, s.frameAfter)).1 ++ beBytes 4 (if s.clk.line.toNat + 1 < s.vtotal then (s.clk.line.toNat + 1, s.clk.frame.toNat) else (0, s.frameAfter)).2⟩]) ∧
      s.within t [.leaf] [])) ∧
    ((s.role ≠ 4 ∨ s.leaf.silent < 4 ∨ s.mode.power = .shutter ∨ s.rdB LEF.STS.HINGE_UP = false) → idle .activeSilent s) ∧
    (s.paired = true → s.rdB LEF.STS.HINGE_UP = false → s.partnerSeen = false → s.role = 4 → s.leaf.tau = none → s.rd SCN.SHUT_STS.STATE ≠ 4 → gives .partnerLostTimeout s (fun t =>
      t.rd LEF.STS.PARTNER_ROLE = 0 ∧
      t.partnerSeen = false ∧
      t.flag LEF.PAGE 2 ∧
      (t.leaf.tau = some ⟨10, false, (if s.clk.line.toNat + 1 < s.vtotal then (s.clk.line.toNat + 1, s.clk.frame.toNat) else (0, s.frameAfter)).1, (if s.clk.line.toNat + 1 < s.vtotal then (s.clk.line.toNat + 1, s.clk.frame.toNat) else (0, s.frameAfter)).2⟩) ∧
      s.within t [.regs, .log, .leaf, .sram] ([LEF.STS.key 0 0] ++ eventKeys LEF.PAGE))) ∧
    (s.paired = true → s.rdB LEF.STS.HINGE_UP = false → s.partnerSeen = false → s.role ≠ 4 → gives .partnerLostTimeout s (fun t =>
      t.rd LEF.STS.PARTNER_ROLE = 0 ∧
      t.flag LEF.PAGE 2 ∧
      s.within t [.regs, .log, .sram] ([LEF.STS.key 0 0] ++ eventKeys LEF.PAGE))) ∧
    ((s.paired = false ∨ s.rdB LEF.STS.HINGE_UP = true ∨ s.partnerSeen = true) → idle .partnerLostTimeout s) ∧
    (s.eff_ LEF.CFG.SWAP_H ≠ 0 → s.leaf.swapAt + 1600000000 * (3600 * s.eff_ LEF.CFG.SWAP_H) ≤ s.clk.now → s.role = 2 → s.rd LEF.STS.PARTNER_ROLE = 4 → s.leaf.demoteCause = 0 → s.leaf.tau = none → gives .plannedSwap s (fun t =>
      t.leaf = { s.leaf with swapAt := s.clk.now, demoteCause := 3 } ∧
      s.within t [.leaf] [])) ∧
    ((s.eff_ LEF.CFG.SWAP_H = 0 ∨ s.role ≠ 2 ∨ s.clk.now < s.leaf.swapAt + 1600000000 * (3600 * s.eff_ LEF.CFG.SWAP_H)) → idle .plannedSwap s) ∧
    (s.role = 4 → s.eff_ LEF.CFG.REVERT = 1 → s.eff_ LEF.CFG.PREF = 1 → s.rdB LEF.STS.BARRED = false → s.leaf.readyAt + 1600000000 * s.rd LEF.REVERT_S.S ≤ s.clk.now → gives .revert s (fun t =>
      t.leaf = { s.leaf with demoteReq := true } ∧
      s.within t [.leaf] [])) ∧
    ((s.rdB LEF.STS.BARRED = true ∨ s.eff_ LEF.CFG.REVERT = 0 ∨ s.clk.now < s.leaf.readyAt + 1600000000 * s.rd LEF.REVERT_S.S) → idle .revert s) ∧
    (∀ (path : Path), s.takes path LEF.PAGE 0x10C = true → s.role = 2 → s.rd LEF.STS.PARTNER_ROLE = 4 → s.leaf.demoteCause = 0 → s.leaf.tau = none → gives (.leafSwap path) s (fun t =>
      t.answered .ok ∧
      t.leaf.demoteCause = 1 ∧
      s.within t [.bus, .leaf] [])) ∧
    (∀ (path : Path), s.takes path LEF.PAGE 0x10C = true → (s.role ≠ 2 ∨ s.rd LEF.STS.PARTNER_ROLE ≠ 4) → gives (.leafSwap path) s (fun t =>
      t.answered .ignored ∧
      s.logged t LEF.PAGE 0xC9 (fun a b => a = s.lefSts ∧ b = 1) ∧
      s.within t [.regs, .bus, .log, .sram] (logKeys LEF.PAGE))) ∧
    (∀ (path : Path), s.takes path LEF.PAGE 0x10C = true → (s.role = 4 ∨ s.role = 5) → gives (.leafResync path) s (fun t =>
      t.answered .ok ∧
      t.role = 3 ∧
      t.leaf.copyDone = false ∧
      t.rd LEF.SYNC_PROG.PERCENT = 0 ∧
      s.keeps t [.regs, .mode, .bus, .log, .frs, .leaf, .nvs, .thm, .sram])) ∧
    (∀ (path : Path), s.takes path LEF.PAGE 0x10C = true → s.role = 3 → gives (.leafResync path) s (fun t =>
      t.answered .ok ∧
      t.leaf = { s.leaf with clean := false, cleanWhole := false } ∧
      s.within t [.bus, .leaf] [])) ∧
    (∀ (path : Path), s.takes path LEF.PAGE 0x10C = true → s.isStandby = false → gives (.leafResync path) s (fun t =>
      t.answered .ignored ∧
      s.logged t LEF.PAGE 0xC9 (fun a b => a = s.lefSts ∧ b = 2) ∧
      s.within t [.regs, .bus, .log, .sram] (logKeys LEF.PAGE))) ∧
    (∀ (path : Path), s.takes path LEF.PAGE 0x10C = true → gives (.leafRearm path) s (fun t =>
      t.answered .ok ∧
      t.rdB LEF.STS.BARRED = false ∧
      s.within t [.regs, .bus] [LEF.STS.key 0 0]))

/-- Mirrored commits, digests, repairs and resynchronisation: A COMMIT record is scheduled 4 lines on; at its turn the
matching decoded update commits with the record's entry and generation, else FETCH_REQ goes out with MIRROR_LATE and
0xC3; the active leaf answers with the bank, and the whole bank commits. Decoded updates without a record expire. A
LINE message keeps the partner's digest, gives the band and the panel request; unequal digests of a proven line with
equal CG and WG count, and too many make a Ready standby Syncing. Another edit set ID resynchronises with 0xCA.
Repairs and the copy are written; a clean copy makes the leaf Ready with 0xC5. The points the spec leaves open in it
follow the model's own choices, log entries 133, 134, 135, 137, 225, 226, 227, 228, 236. (R373, R374, R375, R376,
R377, R378, R379, R380, R382, R389, R392.) -/
def Obligations.LeafMirror : Prop :=
  ∀ s : State,
    (∀ (bs : List Byte), s.isStandby = true → 36 ≤ bs.length → beAt bs 0 1 = 1 → gives (.mirrorCommit bs) s (fun t =>
      (t.leaf.sched = s.leaf.sched ++ [⟨beAt bs 1 1, beAt bs 2 2, (if s.vtotal ≤ beAt bs 8 2 + 4 then beAt bs 8 2 + 4 - s.vtotal else beAt bs 8 2 + 4), (beAt bs 4 4 + (if s.vtotal ≤ beAt bs 8 2 + 4 then 1 else 0)) % 2 ^ 32, beAt bs 10 2, beAt bs 12 4, beAt bs 16 4, beAt bs 20 4, beAt bs 24 4, beAt bs 28 2, beAt bs 32 4, false⟩]) ∧
      s.within t [.leaf] [])) ∧
    (∀ (bs : List Byte), (s.isStandby = false ∨ bs.length < 36 ∨ beAt bs 0 1 ≠ 1) → idle (.mirrorCommit bs) s) ∧
    (∀ (r : MirrorRec) (ring i : Nat) (u : Update) (p : Plane), s.isStandby = true → (s.leaf.sched.find? (fun r => !r.fetching) = some r) → s.leaf.sched.head? = some r → s.reached r.line r.frame = true → s.commitWaits r.tile = false → s.leaf.fetch = [] → s.matching r = some (ring, u) → s.owner r.tile = some (i, p) → s.upd ring = some u → u.handle = r.tile → gives .mirrorCommitApply s (fun t =>
      t.entryRaw r.tile = s.recEntry r i ∧
      t.rd ING.COMMIT_GEN = r.cg % 2 ^ 32 ∧
      t.upd ring = none ∧
      t.leaf.sched = s.leaf.sched.erase r ∧
      t.clk = (s.dueAt r.line r.frame r.wc).clk ∧
      s.keeps t [.regs, .wv, .leaf, .clk, .log, .scene, .frs, .tim, .sram])) ∧
    (∀ (r : MirrorRec), s.isStandby = true → (s.leaf.sched.find? (fun r => !r.fetching) = some r) → s.reached r.line r.frame = true → (s.matching r = none ∨ s.owner r.tile = none) → gives .mirrorCommitApply s (fun t =>
      t.leaf.outBox = s.leaf.outBox ++ [⟨false, [0x06] ++ zeros 11 ++ beBytes 4 r.tile ++ beBytes 4 r.seq⟩] ∧
      t.leaf.fetch = s.leaf.fetch ++ [⟨r.tile, r.seq, []⟩] ∧
      t.rd LEF.MIRROR_LATE = min 0xFFFFFFFF (s.rd LEF.MIRROR_LATE + 1) ∧
      (s.dueAt r.line r.frame r.wc).logged t LEF.PAGE 0xC3 (fun a b => a = t.rd LEF.MIRROR_LATE ∧ b = r.tile) ∧
      t.scene = (s.dueAt r.line r.frame r.wc).scene ∧
      s.within t [.regs, .leaf, .clk, .log, .scene, .frs, .tim, .sram] ([LEF.MIRROR_LATE.key 0 0] ++ logKeys LEF.PAGE ++ s.runKeys))) ∧
    (∀ (r : MirrorRec), s.isStandby = true → (s.leaf.sched.find? (fun r => !r.fetching) = some r) → s.reached r.line r.frame = false → idle .mirrorCommitApply s) ∧
    ((s.isStandby = false ∨ s.leaf.sched = []) → idle .mirrorCommitApply s) ∧
    (∀ (ring : BitVec 16) (u : Update), s.isStandby = true → s.upd ring.toNat = some u → u.phase = .written → u.doneAt + (s.vtotal + 4) * s.rd SCN.LINE_EFF.PER / 256 ≤ s.clk.now → s.leaf.sched = [] → gives (.mirrorUpdateExpire ring) s (fun t =>
      t.upd ring.toNat = none ∧
      t.log = s.log ∧
      t.scene.fresh = s.scene.fresh ∧
      s.keeps t [.regs, .scene, .wv])) ∧
    (∀ (ring : BitVec 16) (u : Update), s.upd ring.toNat = some u → (s.clk.now < u.doneAt + (s.vtotal + 4) * s.rd SCN.LINE_EFF.PER / 256 ∨ s.leaf.sched.any (fun r => r.tile == u.handle && r.seq == u.seq && r.source == u.source) = true) → idle (.mirrorUpdateExpire ring) s) ∧
    (∀ (ring : BitVec 16), (s.isStandby = false ∨ s.upd ring.toNat = none) → idle (.mirrorUpdateExpire ring) s) ∧
    (∀ (bs : List Byte) (i : Nat) (p : Plane), s.role = 2 → 20 ≤ bs.length → beAt bs 0 1 = 6 → s.owner (beAt bs 12 4) = some (i, p) → p.format = 1 → gives (.mirrorFetchReq bs) s (fun t =>
      t.leaf.outBox = s.leaf.outBox ++ [⟨false, [0x07] ++ zeros 11 ++ beBytes 4 (beAt bs 12 4) ++ beBytes 4 (beAt bs 16 4) ++ beBytes 4 0 ++ s.bankBytes p (beAt bs 12 4) (b2n (s.entry (beAt bs 12 4)).slot)⟩] ∧
      s.within t [.leaf] [])) ∧
    (∀ (bs : List Byte), (s.role ≠ 2 ∨ bs.length < 20 ∨ beAt bs 0 1 ≠ 6) → idle (.mirrorFetchReq bs) s) ∧
    (∀ (bs : List Byte) (f : FetchSt) (i : Nat) (p : Plane), s.isStandby = true → 24 ≤ bs.length → beAt bs 0 1 = 7 → s.leaf.fetch = [f] → beAt bs 12 4 = f.tile → beAt bs 16 4 = f.seq → beAt bs 20 4 = f.got.length → s.owner f.tile = some (i, p) → f.got.length + (bs.length - 24) < fmtTileBytes p.format → gives (.mirrorFetchData bs) s (fun t =>
      t.leaf.fetch = [{ f with got := f.got ++ bs.drop 24 }] ∧
      s.within t [.leaf] [])) ∧
    (∀ (bs : List Byte) (f : FetchSt) (r : MirrorRec) (i : Nat) (p : Plane), s.isStandby = true → 24 ≤ bs.length → beAt bs 0 1 = 7 → s.leaf.fetch = [f] → s.leaf.sched = [r] → r.fetching = true → s.commitWaits r.tile = false → r.tile = f.tile → r.seq = f.seq → beAt bs 12 4 = f.tile → beAt bs 16 4 = f.seq → beAt bs 20 4 = f.got.length → s.owner f.tile = some (i, p) → p.format = 1 → f.got.length + (bs.length - 24) = 8192 → gives (.mirrorFetchData bs) s (fun t =>
      t.entryRaw f.tile = s.recEntry r i ∧
      t.rd ING.COMMIT_GEN = r.cg % 2 ^ 32 ∧
      t.leaf.fetch = [] ∧
      t.leaf.sched = [] ∧
      t.hbmRd (planePix p (b2n (s.recEntry r i).slot) (64 * ((f.tile - p.tileBase) % p.wt)) (64 * ((f.tile - p.tileBase) / p.wt) + 63)) 128 = (f.got ++ bs.drop 24).drop 8064 ∧
      s.keeps t [.regs, .scene, .wv, .frs, .leaf, .hbm])) ∧
    (∀ (bs : List Byte), (s.isStandby = false ∨ s.leaf.fetch = []) → idle (.mirrorFetchData bs) s) ∧
    (∀ (bs : List Byte), s.paired = true → 24 ≤ bs.length → beAt bs 0 1 = 2 → bit (beAt bs 1 1) 1 = false → (tget (fun _ => DigRec.none) s.rim.dig (glKey (beAt bs 1 1 % 2) ((beAt bs 2 2 + 8624) % 8640)) = DigRec.none) → gives (.mirrorLine bs) s (fun t =>
      tget (fun _ => DigRec.none) t.leaf.pdig (glKey (beAt bs 1 1 % 2) (beAt bs 2 2)) = ⟨true, beAt bs 16 4, beAt bs 8 4, beAt bs 12 4⟩ ∧
      t.leaf.silent = 0 ∧
      (s.isStandby = true → t.rd PDV.WV_STS.BAND_NEXT (beAt bs 1 1 % 2) = bits (beAt bs 1 1) 5 3) ∧
      t.leaf.partner.healthy = bit (beAt bs 1 1) 2 ∧
      t.rim = s.rim ∧
      s.within t [.regs, .leaf] [PDV.WV_STS.key (beAt bs 1 1 % 2) 0])) ∧
    (∀ (bs : List Byte), s.paired = true → 24 ≤ bs.length → beAt bs 0 1 = 2 → bit (beAt bs 1 1) 1 = true → (tget (fun _ => DigRec.none) s.rim.dig (glKey (beAt bs 1 1 % 2) ((beAt bs 2 2 + 8624) % 8640)) = DigRec.none) → s.role = 2 → s.rd LEF.STS.PARTNER_ROLE = 4 → s.leaf.demoteCause = 0 → s.leaf.tau = none → gives (.mirrorLine bs) s (fun t =>
      t.leaf.demoteCause = 4 ∧
      s.within t [.regs, .leaf] [])) ∧
    (∀ (bs : List Byte) (h old : Nat) (a b : DigRec), s.paired = true → 24 ≤ bs.length → beAt bs 0 1 = 2 → h = beAt bs 1 1 % 2 → bit (beAt bs 1 1) 1 = false → old = (beAt bs 2 2 + 8624) % 8640 → beAt bs 2 2 < 8640 → s.role = 4 → bit (beAt bs 20 1) 0 = true → (tget (fun _ => DigRec.none) s.rim.dig (glKey h old) = a) → (tget (fun _ => DigRec.none) s.leaf.pdig (glKey h old) = b) → a.cg = b.cg → a.wg = b.wg → a.dig ≠ b.dig → a.ok = true → b.ok = true → s.rim.digMisNow < s.eff_ LEF.CFG.DIG_THR → gives (.mirrorLine bs) s (fun t =>
      t.rd RIM.DIG_MIS = min 0xFFFFFFFF (s.rd RIM.DIG_MIS + 1) ∧
      t.rd RIM.DIG_LAST.LINE = old ∧
      t.rd RIM.DIG_LAST.HALF = h ∧
      t.leaf.clean = false ∧
      t.role = 4 ∧
      s.keeps t [.regs, .log, .rim, .leaf, .sram])) ∧
    (∀ (bs : List Byte) (h old : Nat) (a b : DigRec), s.paired = true → 24 ≤ bs.length → beAt bs 0 1 = 2 → h = beAt bs 1 1 % 2 → bit (beAt bs 1 1) 1 = false → old = (beAt bs 2 2 + 8624) % 8640 → beAt bs 2 2 < 8640 → s.role = 4 → bit (beAt bs 20 1) 0 = true → (tget (fun _ => DigRec.none) s.rim.dig (glKey h old) = a) → (tget (fun _ => DigRec.none) s.leaf.pdig (glKey h old) = b) → a.cg = b.cg → a.wg = b.wg → a.dig ≠ b.dig → a.ok = true → b.ok = true → s.rim.digMisNow = s.eff_ LEF.CFG.DIG_THR → gives (.mirrorLine bs) s (fun t =>
      t.role = 3 ∧
      t.leaf.copyDone = false ∧
      t.rd RIM.DIG_MIS = min 0xFFFFFFFF (s.rd RIM.DIG_MIS + 1) ∧
      s.keeps t [.regs, .mode, .log, .frs, .rim, .leaf, .nvs, .thm, .sram])) ∧
    (∀ (bs : List Byte) (h old : Nat) (a b : DigRec), s.paired = true → 24 ≤ bs.length → beAt bs 0 1 = 2 → h = beAt bs 1 1 % 2 → bit (beAt bs 1 1) 1 = false → old = (beAt bs 2 2 + 8624) % 8640 → beAt bs 2 2 < 8640 → s.role = 4 → (tget (fun _ => DigRec.none) s.rim.dig (glKey h old) = a) → (tget (fun _ => DigRec.none) s.leaf.pdig (glKey h old) = b) → a.ok = true → b.ok = true → (bit (beAt bs 20 1) 0 = false ∨ a.cg ≠ b.cg ∨ a.wg ≠ b.wg) → gives (.mirrorLine bs) s (fun t =>
      t.rd RIM.DIG_SKIP = min 0xFFFFFFFF (s.rd RIM.DIG_SKIP + 1) ∧
      t.rim = s.rim ∧
      s.within t [.regs, .leaf] [RIM.DIG_SKIP.key 0 0, PDV.WV_STS.key h 0])) ∧
    (∀ (bs : List Byte), (s.paired = false ∨ bs.length < 24 ∨ beAt bs 0 1 ≠ 2) → idle (.mirrorLine bs) s) ∧
    (∀ (bs : List Byte), s.isStandby = true → 20 ≤ bs.length → beAt bs 0 1 = 3 → gives (.mirrorWeftStart bs) s (fun t =>
      (t.leaf.weftStart = s.leaf.weftStart ++ [⟨beAt bs 12 4, beAt bs 16 4, (if s.vtotal ≤ beAt bs 8 2 + 4 then beAt bs 8 2 + 4 - s.vtotal else beAt bs 8 2 + 4), (if s.vtotal ≤ beAt bs 8 2 + 4 then (beAt bs 4 4 + 1) % 2 ^ 32 else beAt bs 4 4), beAt bs 10 2⟩]) ∧
      s.within t [.leaf] [])) ∧
    (∀ (bs : List Byte), (s.isStandby = false ∨ bs.length < 20 ∨ beAt bs 0 1 ≠ 3) → idle (.mirrorWeftStart bs) s) ∧
    (∀ (bs : List Byte), s.isStandby = true → 12 ≤ bs.length → beAt bs 0 1 = 4 → beAt bs 4 4 ≠ s.rd ING.EDIT_LAST → gives (.mirrorEditApply bs) s (fun t =>
      t.role = 3 ∧
      s.logged t LEF.PAGE 0xCA (fun a b => a = s.lefSts ∧ b = beAt bs 4 4) ∧
      s.keeps t [.regs, .mode, .log, .frs, .leaf, .nvs, .thm, .sram])) ∧
    (∀ (bs : List Byte), (s.isStandby = false ∨ beAt bs 4 4 = s.rd ING.EDIT_LAST) → idle (.mirrorEditApply bs) s) ∧
    (∀ (bs : List Byte), (s.isStandby = true ∨ (s.role = 2 ∧ plannedCause (s.rd LEF.TAKE_CAUSE.CAUSE) = true)) → beAt bs 0 1 = 5 → bs.length = 8 + beAt bs 6 2 → beAt bs 2 2 < 8640 → beAt bs 4 2 + beAt bs 6 2 ≤ 46080 → beAt bs 1 1 ≤ 1 → ((tget (fun _ => (⟨0, []⟩ : RowDc)) s.panel.rowMark (rowKey (beAt bs 1 1) (beAt bs 2 2))).subs = []) → gives (.mirrorRepair bs) s (fun t =>
      (t.hbmRd (s.resAddr (if beAt bs 1 1 = 0 then 0 else 1) + dcOfs (beAt bs 1 1) (beAt bs 2 2) (beAt bs 4 2)) (beAt bs 6 2) = slice bs 8 (beAt bs 6 2)) ∧
      s.within t [.leaf, .hbm] [])) ∧
    (∀ (bs : List Byte), s.isStandby = true → beAt bs 0 1 = 5 → bs.length = 8 + beAt bs 6 2 → beAt bs 2 2 < 8640 → beAt bs 4 2 + beAt bs 6 2 ≤ 46080 → beAt bs 1 1 ≤ 1 → ((tget (fun _ => (⟨0, []⟩ : RowDc)) s.panel.rowMark (rowKey (beAt bs 1 1) (beAt bs 2 2))).subs ≠ []) → gives (.mirrorRepair bs) s (fun t =>
      t.leaf.repairIn = s.leaf.repairIn ++ [⟨beAt bs 1 1, beAt bs 2 2, beAt bs 4 2, slice bs 8 (beAt bs 6 2)⟩] ∧
      t.rd LEF.REPAIR_Q.BYTES = (((s.leaf.repairQ ++ t.leaf.repairIn).map (fun r => r.bytes.length)).foldl (· + ·) 0) % 2 ^ 28 ∧
      s.within t [.regs, .leaf] [LEF.REPAIR_Q.key 0 0])) ∧
    (∀ (bs : List Byte), (s.takesRepairs = false ∨ beAt bs 0 1 ≠ 5 ∨ bs.length < 8 + beAt bs 6 2 ∨ 8640 ≤ beAt bs 2 2 ∨ 46080 < beAt bs 4 2 + beAt bs 6 2) → idle (.mirrorRepair bs) s) ∧
    (∀ (bs : List Byte), s.role = 3 → s.leaf.fetch = [] → bs.length = 28 → beAt bs 0 1 = 8 → beAt bs 1 1 = 0 → beAt bs 4 8 % 16 = 0 → beAt bs 4 8 < 16 * handles → gives (.mirrorSync bs) s (fun t =>
      (t.entryRaw (beAt bs 4 8 / 16)).stamp = leAt bs 12 4 ∧
      (t.entryRaw (beAt bs 4 8 / 16)).seq = leAt bs 16 4 ∧
      (t.entryRaw (beAt bs 4 8 / 16)).source = leAt bs 24 2 ∧
      t.leaf.syncPos = s.leaf.syncPos + 16 ∧
      s.within t [.regs, .scene, .leaf] [LEF.SYNC_PROG.PERCENT.key 0 0])) ∧
    (∀ (bs : List Byte), s.role = 3 → 12 ≤ bs.length → bs.length ≤ 8204 → beAt bs 0 1 = 8 → (beAt bs 1 1 = 1 ∨ beAt bs 1 1 = 2) → beAt bs 4 8 + (bs.length - 12) ≤ hbmSize → s.panel.resZero = false → s.leaf.fetch = [] → gives (.mirrorSync bs) s (fun t =>
      t.hbmRd (beAt bs 4 8) (bs.length - 12) = bs.drop 12 ∧
      t.leaf.syncPos = s.leaf.syncPos + (bs.length - 12) ∧
      (∀ h : Fin 2, t.leaf.rowsDone[h] = (s.leaf.rowsDone[h] || (beAt bs 1 1 == 2 && beAt bs 4 8 + (bs.length - 12) == s.resAddr h + dcOfs h 8639 0 + 46080))) ∧
      t.leaf.copyDone = (s.leaf.copyDone || (t.leaf.rowsDone[(0 : Fin 2)] && t.leaf.rowsDone[(1 : Fin 2)])) ∧
      (t.leaf.copyDone = true → t.rd LEF.SYNC_PROG.PERCENT = 100) ∧
      s.within t [.regs, .leaf, .hbm] [LEF.SYNC_PROG.PERCENT.key 0 0])) ∧
    (∀ (bs : List Byte), (s.role ≠ 3 ∨ bs.length < 12 ∨ 8204 < bs.length ∨ beAt bs 0 1 ≠ 8) → idle (.mirrorSync bs) s) ∧
    (s.role = 3 → s.leaf.copyDone = true → s.leaf.cleanWhole = true → s.leaf.repairIn = [] → s.rdB LEF.STS.BARRED = false → s.mode.dbg ≠ .intrusive → gives .syncComplete s (fun t =>
      t.role = 4 ∧
      t.flag LEF.PAGE 3 ∧
      (s.thm.selfTest = none → s.logged t LEF.PAGE 0xC5 (fun _ _ => True)) ∧
      s.keeps t [.regs, .mode, .log, .frs, .leaf, .nvs, .thm, .sram])) ∧
    ((s.role ≠ 3 ∨ s.leaf.copyDone = false ∨ s.leaf.cleanWhole = false ∨ s.leaf.repairIn ≠ [] ∨ s.rdB LEF.STS.BARRED = true) → idle .syncComplete s)

/-- Pages, passwords and the write queue of the parameter store: A read gives the current copy with RESULT 0, of a lost
page RESULT 7 with 0xD1 and PAGE_LOST, and one bad copy is rewritten with 0xD0; reserved pages read 0, password and
counter pages are refused with 3. A write in Open joins the queue as RESULT 8, else 5, 4, 3 or 6; a started write
leaves the other copy whole and at its end is current with the next SEQ. A wrong password gives RESULT 1 with 0xD3,
the eighth within 60 s a lockout with 0xD4, which refuses with 2 until it ends. A new password waits for its page
write. The points the spec leaves open in it follow the model's own choices, log entries 13, 63, 65, 66, 176, 233.
(R396, R397, R398, R399, R400, R402, R406, R411, R412, R414.) -/
def Obligations.ParameterStore : Prop :=
  ∀ s : State,
    (∀ (path : Path) (kind : Bool) (p : Nat) (d : List Byte), s.takes path NVS.PAGE 0x110 = true → s.nvs.regOp = false → s.rd NVS.PG_SEL.PAGE 0 path.num = p → ((partOf p = .identity ∨ ((partOf p = .config ∨ partOf p = .calibration ∨ partOf p = .log) ∧ (s.pwdOf (2 * (partOf p).num) = 0 ∨ (s.rdB NVS.STS.LOCKOUT = false ∧ (s.pwdOf (2 * (partOf p).num)).toNat = s.rd NVS.PWD_LO + s.rd NVS.PWD_HI * 2 ^ 32))))) → s.pageData p = some d → s.copyOk p p = true → s.copyOk (p + 4096) p = true → gives (.nvsRead path kind) s (fun t =>
      t.rd NVS.RESULT.CODE = 0 ∧
      (∀ k : Fin 124, (t.reg (regKey 0 NVS.PAGE (0x200 + 4 * k.val))).toNat = leAt d (4 * k.val) 4) ∧
      t.flag NVS.PAGE 0 ∧
      t.rd NVS.PWD_LO = 0 ∧
      t.rd NVS.PWD_HI = 0 ∧
      t.answered .ok ∧
      s.within t [.regs, .bus, .log, .sram] ([NVS.RESULT.CODE.key 0 0, NVS.PWD_LO.key 0 0, NVS.PWD_HI.key 0 0] ++ (((List.range 124).map (fun k => regKey 0 NVS.PAGE (0x200 + 4 * k)))) ++ eventKeys NVS.PAGE))) ∧
    (∀ (path : Path) (kind : Bool) (p : Nat) (d : List Byte), s.takes path NVS.PAGE 0x110 = true → s.nvs.regOp = false → s.rd NVS.PG_SEL.PAGE 0 path.num = p → partOf p = .identity → s.pageData p = some d → (s.copyOk p p = false ∨ s.copyOk (p + 4096) p = false) → s.nvs.q = [] → s.nvs.cur = none → gives (.nvsRead path kind) s (fun t =>
      t.rd NVS.RESULT.CODE = 0 ∧
      (∀ k : Fin 124, (t.reg (regKey 0 NVS.PAGE (0x200 + 4 * k.val))).toNat = leAt d (4 * k.val) 4) ∧
      t.nvs.q = s.nvs.q ++ [⟨p, d, .scrub, none⟩] ∧
      s.logged t NVS.PAGE 0xD0 (fun _ b => b = p) ∧
      t.rd NVS.PWD_LO = 0 ∧
      t.rd NVS.PWD_HI = 0 ∧
      t.answered .ok ∧
      s.within t [.regs, .bus, .log, .nvs, .sram] ([NVS.RESULT.CODE.key 0 0, NVS.PWD_LO.key 0 0, NVS.PWD_HI.key 0 0, NVS.STS.key 0 0] ++ (((List.range 124).map (fun k => regKey 0 NVS.PAGE (0x200 + 4 * k)))) ++ eventKeys NVS.PAGE ++ logKeys NVS.PAGE))) ∧
    (∀ (path : Path) (kind : Bool) (p : Nat), s.takes path NVS.PAGE 0x110 = true → s.nvs.regOp = false → s.rd NVS.PG_SEL.PAGE 0 path.num = p → partOf p = .identity → s.pageData p = none → gives (.nvsRead path kind) s (fun t =>
      t.rd NVS.RESULT.CODE = 7 ∧
      t.flag NVS.PAGE 1 ∧
      s.logged t NVS.PAGE 0xD1 (fun _ b => b = p) ∧
      t.rd NVS.PWD_LO = 0 ∧
      t.rd NVS.PWD_HI = 0 ∧
      t.answered .ok ∧
      s.within t [.regs, .bus, .log, .sram] ([NVS.RESULT.CODE.key 0 0, NVS.PWD_LO.key 0 0, NVS.PWD_HI.key 0 0] ++ eventKeys NVS.PAGE ++ logKeys NVS.PAGE))) ∧
    (∀ (path : Path) (kind : Bool) (p : Nat), s.takes path NVS.PAGE 0x110 = true → s.nvs.regOp = false → s.rd NVS.PG_SEL.PAGE 0 path.num = p → partOf p = .reserved → gives (.nvsRead path kind) s (fun t =>
      t.rd NVS.RESULT.CODE = 0 ∧
      (∀ k : Fin 124, (t.reg (regKey 0 NVS.PAGE (0x200 + 4 * k.val))).toNat = 0) ∧
      t.rd NVS.PWD_LO = 0 ∧
      t.rd NVS.PWD_HI = 0 ∧
      t.answered .ok ∧
      s.within t [.regs, .bus, .log, .sram] ([NVS.RESULT.CODE.key 0 0, NVS.PWD_LO.key 0 0, NVS.PWD_HI.key 0 0] ++ (((List.range 124).map (fun k => regKey 0 NVS.PAGE (0x200 + 4 * k)))) ++ eventKeys NVS.PAGE))) ∧
    (∀ (path : Path) (kind : Bool) (p : Nat), s.takes path NVS.PAGE 0x110 = true → s.nvs.regOp = false → s.rd NVS.PG_SEL.PAGE 0 path.num = p → (partOf p = .passwords ∨ partOf p = .counters) → gives (.nvsRead path kind) s (fun t =>
      t.rd NVS.RESULT.CODE = 3 ∧
      t.rd NVS.PWD_LO = 0 ∧
      t.rd NVS.PWD_HI = 0 ∧
      t.answered .ok ∧
      s.within t [.regs, .bus] [NVS.RESULT.CODE.key 0 0, NVS.PWD_LO.key 0 0, NVS.PWD_HI.key 0 0])) ∧
    (∀ (path : Path) (kind : Bool) (p : Nat), s.takes path NVS.PAGE 0x110 = true → s.nvs.regOp = false → s.rd NVS.PG_SEL.PAGE 0 path.num = p → (partOf p = .config ∨ partOf p = .calibration) → (p < 170 ∨ 273 < p) → s.mode.sec = .openS → s.nvsNoWrite = false → (s.pwdOf (2 * (partOf p).num + 1) = 0 ∨ (s.rdB NVS.STS.LOCKOUT = false ∧ (s.pwdOf (2 * (partOf p).num + 1)).toNat = s.rd NVS.PWD_LO + s.rd NVS.PWD_HI * 2 ^ 32)) → s.nvs.q.length < 16 → gives (.nvsWrite path kind) s (fun t =>
      t.rd NVS.RESULT.CODE = 8 ∧
      t.nvs.regOp = true ∧
      t.nvs.q = s.nvs.q ++ [⟨p, s.nvsData, .reg, none⟩] ∧
      t.rd NVS.STS.QDEPTH = s.nvs.q.length + 1 ∧
      t.rd NVS.PWD_LO = 0 ∧
      t.rd NVS.PWD_HI = 0 ∧
      t.answered .ok ∧
      s.within t [.regs, .bus, .nvs] [NVS.RESULT.CODE.key 0 0, NVS.PWD_LO.key 0 0, NVS.PWD_HI.key 0 0, NVS.STS.key 0 0])) ∧
    (∀ (path : Path) (kind : Bool) (p : Nat), s.takes path NVS.PAGE 0x110 = true → s.nvs.regOp = false → s.rd NVS.PG_SEL.PAGE 0 path.num = p → (partOf p = .config ∨ partOf p = .calibration) → (p < 170 ∨ 273 < p) → s.mode.sec = .openS → s.nvsNoWrite = false → (s.pwdOf (2 * (partOf p).num + 1) = 0 ∨ (s.rdB NVS.STS.LOCKOUT = false ∧ (s.pwdOf (2 * (partOf p).num + 1)).toNat = s.rd NVS.PWD_LO + s.rd NVS.PWD_HI * 2 ^ 32)) → 16 ≤ s.nvs.q.length → gives (.nvsWrite path kind) s (fun t =>
      t.rd NVS.RESULT.CODE = 6 ∧
      t.rd NVS.PWD_LO = 0 ∧
      t.rd NVS.PWD_HI = 0 ∧
      t.answered .ok ∧
      s.within t [.regs, .bus] [NVS.RESULT.CODE.key 0 0, NVS.PWD_LO.key 0 0, NVS.PWD_HI.key 0 0])) ∧
    (∀ (path : Path) (kind : Bool) (p : Nat), s.takes path NVS.PAGE 0x110 = true → s.nvs.regOp = false → s.rd NVS.PG_SEL.PAGE 0 path.num = p → partOf p ≠ .config → partOf p ≠ .calibration → gives (.nvsWrite path kind) s (fun t =>
      t.rd NVS.RESULT.CODE = 3 ∧
      t.rd NVS.PWD_LO = 0 ∧
      t.rd NVS.PWD_HI = 0 ∧
      t.answered .ok ∧
      s.within t [.regs, .bus] [NVS.RESULT.CODE.key 0 0, NVS.PWD_LO.key 0 0, NVS.PWD_HI.key 0 0])) ∧
    (∀ (path : Path) (kind : Bool) (p : Nat), s.takes path NVS.PAGE 0x110 = true → s.nvs.regOp = false → s.rd NVS.PG_SEL.PAGE 0 path.num = p → (partOf p = .config ∨ partOf p = .calibration) → s.mode.sec ≠ .openS → gives (.nvsWrite path kind) s (fun t =>
      t.rd NVS.RESULT.CODE = 5 ∧
      s.logged t NVS.PAGE 0xD5 (fun _ b => b = 5) ∧
      t.rd NVS.PWD_LO = 0 ∧
      t.rd NVS.PWD_HI = 0 ∧
      t.answered .ok ∧
      s.within t [.regs, .bus, .log, .sram] ([NVS.RESULT.CODE.key 0 0, NVS.PWD_LO.key 0 0, NVS.PWD_HI.key 0 0] ++ logKeys NVS.PAGE))) ∧
    (∀ (path : Path) (kind : Bool) (p : Nat), s.takes path NVS.PAGE 0x110 = true → s.nvs.regOp = false → s.rd NVS.PG_SEL.PAGE 0 path.num = p → (partOf p = .config ∨ partOf p = .calibration) → s.mode.sec = .openS → s.nvsNoWrite = true → gives (.nvsWrite path kind) s (fun t =>
      t.rd NVS.RESULT.CODE = 4 ∧
      s.logged t NVS.PAGE 0xD5 (fun _ b => b = 4) ∧
      t.rd NVS.PWD_LO = 0 ∧
      t.rd NVS.PWD_HI = 0 ∧
      t.answered .ok ∧
      s.within t [.regs, .bus, .log, .sram] ([NVS.RESULT.CODE.key 0 0, NVS.PWD_LO.key 0 0, NVS.PWD_HI.key 0 0] ++ logKeys NVS.PAGE))) ∧
    (∀ (path : Path) (kind : Bool) (p : Nat), s.takes path NVS.PAGE 0x110 = true → s.nvs.regOp = false → s.rd NVS.PG_SEL.PAGE 0 path.num = p → (partOf p = .config ∨ partOf p = .calibration) → (p < 170 ∨ 273 < p) → s.mode.sec = .openS → s.nvsNoWrite = false → s.pwdOf (2 * (partOf p).num + 1) ≠ 0 → s.rdB NVS.STS.LOCKOUT = false → (s.pwdOf (2 * (partOf p).num + 1)).toNat ≠ s.rd NVS.PWD_LO + s.rd NVS.PWD_HI * 2 ^ 32 → ((s.nvs.wrongAt.filter (fun t => decide (s.clk.now < t + 96000000000))).length < 7) → gives (.nvsWrite path kind) s (fun t =>
      t.rd NVS.RESULT.CODE = 1 ∧
      s.logged t NVS.PAGE 0xD3 (fun _ _ => True) ∧
      t.nvs.wrongAt.length = (s.nvs.wrongAt.filter (fun t => decide (s.clk.now < t + 96000000000))).length + 1 ∧
      t.nvs.q = s.nvs.q ∧
      t.rd NVS.PWD_LO = 0 ∧
      t.rd NVS.PWD_HI = 0 ∧
      t.answered .ok ∧
      s.within t [.regs, .bus, .log, .nvs, .sram] ([NVS.RESULT.CODE.key 0 0, NVS.PWD_LO.key 0 0, NVS.PWD_HI.key 0 0] ++ logKeys NVS.PAGE))) ∧
    (∀ (path : Path) (kind : Bool) (p : Nat), s.takes path NVS.PAGE 0x110 = true → s.nvs.regOp = false → s.rd NVS.PG_SEL.PAGE 0 path.num = p → (partOf p = .config ∨ partOf p = .calibration) → (p < 170 ∨ 273 < p) → s.mode.sec = .openS → s.nvsNoWrite = false → s.pwdOf (2 * (partOf p).num + 1) ≠ 0 → s.rdB NVS.STS.LOCKOUT = false → (s.pwdOf (2 * (partOf p).num + 1)).toNat ≠ s.rd NVS.PWD_LO + s.rd NVS.PWD_HI * 2 ^ 32 → (7 ≤ (s.nvs.wrongAt.filter (fun t => decide (s.clk.now < t + 96000000000))).length) → gives (.nvsWrite path kind) s (fun t =>
      t.rd NVS.RESULT.CODE = 1 ∧
      t.rdB NVS.STS.LOCKOUT = true ∧
      t.flag NVS.PAGE 3 ∧
      t.nvs.wrongAt = [] ∧
      t.rd NVS.PWD_LO = 0 ∧
      t.rd NVS.PWD_HI = 0 ∧
      t.answered .ok ∧
      s.within t [.regs, .bus, .log, .nvs, .sram] ([NVS.RESULT.CODE.key 0 0, NVS.PWD_LO.key 0 0, NVS.PWD_HI.key 0 0, NVS.STS.key 0 0] ++ logKeys NVS.PAGE ++ eventKeys NVS.PAGE))) ∧
    (∀ (path : Path) (kind : Bool) (p : Nat), s.takes path NVS.PAGE 0x110 = true → s.nvs.regOp = false → s.rd NVS.PG_SEL.PAGE 0 path.num = p → (partOf p = .config ∨ partOf p = .calibration) → (p < 170 ∨ 273 < p) → s.mode.sec = .openS → s.nvsNoWrite = false → s.pwdOf (2 * (partOf p).num + 1) ≠ 0 → s.rdB NVS.STS.LOCKOUT = true → gives (.nvsWrite path kind) s (fun t =>
      t.rd NVS.RESULT.CODE = 2 ∧
      t.rd NVS.PWD_LO = 0 ∧
      t.rd NVS.PWD_HI = 0 ∧
      t.answered .ok ∧
      s.within t [.regs, .bus] [NVS.RESULT.CODE.key 0 0, NVS.PWD_LO.key 0 0, NVS.PWD_HI.key 0 0])) ∧
    (∀ (path : Path) (kind : Bool) (p : Nat), s.takes path NVS.PAGE 0x110 = true → s.nvs.regOp = false → s.rd NVS.PG_SEL.PAGE 0 path.num = p → partOf p ≠ .reserved → partOf p ≠ .passwords → s.mode.sec = .openS → s.nvsNoWrite = false → (s.pwdOf (2 * (partOf p).num + 1) = 0 ∨ (s.rdB NVS.STS.LOCKOUT = false ∧ (s.pwdOf (2 * (partOf p).num + 1)).toNat = s.rd NVS.PWD_LO + s.rd NVS.PWD_HI * 2 ^ 32)) → s.nvs.q.length < 16 → gives (.nvsSetPassword path kind) s (fun t =>
      t.rd NVS.RESULT.CODE = 8 ∧
      (∃ w ∈ t.nvs.q, w.pwd = some (2 * (partOf p).num + b2n kind, BitVec.ofNat 64 (leAt s.nvsData 0 8)) ∧ w.page = 16) ∧
      t.nvs.pwds = s.nvs.pwds ∧
      t.rd NVS.PWD_LO = 0 ∧
      t.rd NVS.PWD_HI = 0 ∧
      t.answered .ok ∧
      s.within t [.regs, .bus, .nvs] [NVS.RESULT.CODE.key 0 0, NVS.PWD_LO.key 0 0, NVS.PWD_HI.key 0 0, NVS.STS.key 0 0])) ∧
    (∀ (path : Path) (kind : Bool), s.takes path NVS.PAGE 0x110 = true → s.nvs.regOp = false → s.mode.sec ≠ .openS → gives (.nvsSetPassword path kind) s (fun t =>
      t.rd NVS.RESULT.CODE = 5 ∧
      s.logged t NVS.PAGE 0xD5 (fun _ b => b = 5) ∧
      t.rd NVS.PWD_LO = 0 ∧
      t.rd NVS.PWD_HI = 0 ∧
      t.answered .ok ∧
      s.within t [.regs, .bus, .log, .sram] ([NVS.RESULT.CODE.key 0 0, NVS.PWD_LO.key 0 0, NVS.PWD_HI.key 0 0] ++ logKeys NVS.PAGE))) ∧
    (∀ (path : Path) (kind : Bool) (p : Nat), s.takes path NVS.PAGE 0x110 = true → s.nvs.regOp = true → s.rd NVS.PG_SEL.PAGE 0 path.num = p → gives (.nvsRead path kind) s (fun t =>
      t.nvs.cmdQ = s.nvs.cmdQ ++ [⟨1, b2n kind, p, s.rd NVS.PWD_LO + s.rd NVS.PWD_HI * 2 ^ 32, s.nvsData⟩] ∧
      t.rd NVS.PWD_LO = 0 ∧
      s.within t [.regs, .bus, .nvs] [NVS.RESULT.CODE.key 0 0, NVS.PWD_LO.key 0 0, NVS.PWD_HI.key 0 0])) ∧
    (∀ (w : NvsWrite) (q : List NvsWrite), s.nvs.cur = none → s.nvs.q = w :: q → s.nvsNoWrite = false → gives .nvsPageWrite s (fun t =>
      (t.nvs.cur = some { w with data := if w.by_ = .reg ∨ w.by_ = .own then w.data else (if w.by_ = .log then s.logPageData w.page else (s.pageData w.page).getD (zeros 496)) }) ∧
      t.nvs.q = q ∧
      t.nvs.pages = s.nvs.pages ∧
      t.rdB NVS.STS.BUSY = true ∧
      t.rd NVS.STS.QDEPTH = min 16 q.length ∧
      s.within t [.regs, .nvs] [NVS.STS.key 0 0])) ∧
    ((s.nvs.q = [] ∨ s.nvs.cur ≠ none ∨ s.nvsNoWrite = true) → idle .nvsPageWrite s) ∧
    (∀ (w : NvsWrite), s.nvs.cur = some w → s.nvs.cmdQ = [] → (w.by_ = .reg ∨ w.by_ = .own) → (s.pageSeq w.page).toNat < 100000 → gives .nvsWriteDone s (fun t =>
      t.pageData w.page = some w.data ∧
      t.pageSeq w.page = s.pageSeq w.page + 1 ∧
      t.nvs.cur = none ∧
      (∀ k : Fin 8192, k.val ≠ s.writeCopy w.page → t.copy k.val = s.copy k.val) ∧
      (t.nvs.pwds = match w.pwd with | some kv => tset deliveredPwd s.nvs.pwds kv.1 kv.2 | none => s.nvs.pwds) ∧
      t.rdB NVS.STS.BUSY = false ∧
      (w.by_ = .reg → t.rd NVS.RESULT.CODE = 0 ∧ t.nvs.regOp = false ∧ t.flag NVS.PAGE 0) ∧
      s.within t [.regs, .log, .nvs, .sram] ([NVS.RESULT.CODE.key 0 0, NVS.STS.key 0 0] ++ eventKeys NVS.PAGE))) ∧
    (∀ (w : NvsWrite), s.nvs.cur = some w → w.by_ = .own → 100000 ≤ (s.pageSeq w.page).toNat → (s.pageSeq w.page).toNat < 4294967295 → gives .nvsWriteDone s (fun t =>
      t.rdB NVS.STS.WEAR = true ∧
      (w.page ∉ s.nvs.wearPages → t.nvs.wearPages = w.page :: s.nvs.wearPages ∧ t.flag NVS.PAGE 2 ∧ (s.logged t NVS.PAGE 0xD6 (fun _ b => b = w.page))) ∧
      s.within t [.regs, .log, .nvs, .sram] ([NVS.STS.key 0 0] ++ eventKeys NVS.PAGE ++ logKeys NVS.PAGE))) ∧
    (∀ (w : NvsWrite), s.nvs.cur = some w → w.by_ = .scrub → gives .nvsWriteDone s (fun t =>
      t.pageData w.page = some ((s.pageData w.page).getD w.data) ∧
      t.pageSeq w.page = s.pageSeq w.page + 1 ∧
      t.nvs.cur = none ∧
      t.rdB NVS.STS.BUSY = false ∧
      s.within t [.regs, .log, .nvs, .sram] ([NVS.STS.key 0 0] ++ eventKeys NVS.PAGE ++ logKeys NVS.PAGE))) ∧
    (∀ (w : NvsWrite), s.nvs.cur = some w → w.by_ = .log → w.pwd = none → gives .nvsWriteDone s (fun t =>
      t.pageData w.page = some w.data ∧
      t.pageSeq w.page = s.pageSeq w.page + 1 ∧
      t.nvs.cur = none ∧
      t.rdB NVS.STS.BUSY = false ∧
      s.within t [.regs, .log, .nvs, .sram] ([NVS.STS.key 0 0] ++ eventKeys NVS.PAGE ++ logKeys NVS.PAGE))) ∧
    (∀ (path : Path) (kind : Bool), gives (.nvsRead path kind) s (fun t =>
      t.pending = s.pending)) ∧
    (∀ (path : Path) (kind : Bool), gives (.nvsWrite path kind) s (fun t =>
      t.pending = s.pending)) ∧
    (∀ (path : Path) (kind : Bool), gives (.nvsSetPassword path kind) s (fun t =>
      t.pending = s.pending)) ∧
    gives .nvsPageWrite s (fun t =>
      t.nvs.pages = s.nvs.pages ∧
      t.nvs.pwds = s.nvs.pwds ∧
      s.within t [.regs, .nvs] [NVS.STS.key 0 0]) ∧
    gives .nvsWriteDone s (fun t =>
      t.nvs.cur = none ∧
      s.keeps t [.regs, .log, .nvs, .sram]) ∧
    (s.nvs.cur = none → idle .nvsWriteDone s) ∧
    (s.nvs.lockAt + 960000000000 ≤ s.clk.now → gives .passwordLockoutEnd s (fun t =>
      t.rdB NVS.STS.LOCKOUT = false ∧
      s.within t [.regs] [NVS.STS.key 0 0])) ∧
    (s.clk.now < s.nvs.lockAt + 960000000000 → idle .passwordLockoutEnd s)

/-- Counters, log pages, scrub and the bulk map store: LIFE_S advances by 3,600 in one cell page. A log page that waits
joins the write queue; FF_CLR with the Log password clears the first-fault area. A scrub pass visits one page at a
time, writes a bad page twice and ends with 0xD2. An erase, write or read of a side runs once its range, side and
page are legal, else RESULT 1, 2 with 0xDC or 3, or 5 outside Open for an unprivileged path; an erase clears the
directory at once. At its end the side is erased, written or read; a flash failure retires a block, 0xDD, is retried
once, then ends with RESULT 4 and 0xDE. The points the spec leaves open in it follow the model's own choices, log
entries 64, 67, 68, 69, 70, 72, 73, 232. (R397, R403, R404, R405, R407, R408, R410, R411, R413, R414.) -/
def Obligations.CountersLogsMaps : Prop :=
  ∀ s : State,
    (s.nvsNoWrite = false → s.nvs.lifeAt + 5760000000000 ≤ s.clk.now → ((s.pageData (530 + min 0xFFFFFFFF (s.counter 1 + 3600) % 16)).any (fun d => d.length == 496) = true) → gives .lifeSTick s (fun t =>
      t.counter 1 = min 0xFFFFFFFF (s.counter 1 + 3600) ∧
      (∀ i : Fin 8, i.val ≠ 1 → t.counter i.val = s.counter i.val) ∧
      t.nvs.lifeAt = s.nvs.lifeAt + 5760000000000 ∧
      s.within t [.regs, .log, .nvs, .sram] ([NVS.STS.key 0 0] ++ eventKeys NVS.PAGE ++ logKeys NVS.PAGE))) ∧
    ((s.nvsNoWrite = true ∨ s.clk.now < s.nvs.lifeAt + 5760000000000) → idle .lifeSTick s) ∧
    (∀ (page : BitVec 11), s.asmPages.contains page.toNat = true → s.nvsNoWrite = false → s.nvs.q = [] → s.budgetSpent = false → s.log.budget < 7199 → gives (.logPageWrite page) s (fun t =>
      t.nvs.q = s.nvs.q ++ [⟨page.toNat, [], .log, none⟩] ∧
      t.log.wait = s.log.wait ∧
      s.within t [.regs, .log, .nvs, .sram] ([NVS.STS.key 0 0] ++ logKeys NVS.PAGE))) ∧
    (∀ (page : BitVec 11), (s.asmPages.contains page.toNat = false ∨ s.nvsNoWrite = true ∨ s.nvs.q.any (fun w => w.page == page.toNat) = true) → idle (.logPageWrite page) s) ∧
    (∀ (path : Path), s.takes path NVS.PAGE 0x128 = true → s.nvsNoWrite = false → (s.pwdOf (11) = 0 ∨ (s.rdB NVS.STS.LOCKOUT = false ∧ (s.pwdOf (11)).toNat = s.rd NVS.PWD_LO + s.rd NVS.PWD_HI * 2 ^ 32)) → (∀ k : Fin 18, (s.pageSeq (1639 + k.val)).toNat < 100000) → gives (.firstFaultClear path) s (fun t =>
      t.rd NVS.LOG_STS.FF_COUNT = 0 ∧
      t.rdB NVS.LOG_STS.FF_FULL = false ∧
      t.rd NVS.RESULT.CODE = 0 ∧
      (∀ k : Fin 18, t.pageData (1639 + k.val) = some (zeros 496)) ∧
      (∀ k : Fin 16384, tget (fun _ => LogRec.empty) t.log.wait k.val = tget (fun _ => LogRec.empty) s.log.wait k.val) ∧
      t.rd NVS.PWD_LO = 0 ∧
      t.rd NVS.PWD_HI = 0 ∧
      t.answered .ok ∧
      s.within t [.regs, .bus, .log, .nvs, .sram] ([NVS.RESULT.CODE.key 0 0, NVS.PWD_LO.key 0 0, NVS.PWD_HI.key 0 0, NVS.LOG_STS.key 0 0] ++ eventKeys NVS.PAGE))) ∧
    (∀ (path : Path), s.takes path NVS.PAGE 0x128 = true → s.nvsNoWrite = true → gives (.firstFaultClear path) s (fun t =>
      t.rd NVS.RESULT.CODE = 4 ∧
      s.logged t NVS.PAGE 0xD5 (fun _ b => b = 4) ∧
      t.rd NVS.PWD_LO = 0 ∧
      t.rd NVS.PWD_HI = 0 ∧
      t.answered .ok ∧
      s.within t [.regs, .bus, .log, .sram] ([NVS.RESULT.CODE.key 0 0, NVS.PWD_LO.key 0 0, NVS.PWD_HI.key 0 0] ++ logKeys NVS.PAGE))) ∧
    (s.nvs.scrubPos = none → s.nvs.scrubLife + 2592000 ≤ s.lifeS → gives .nvsScrubStart s (fun t =>
      t.nvs.scrubPos = some 0 ∧
      t.nvs.scrubDone = 0 ∧
      t.nvs.scrubLife = s.lifeS ∧
      t.rdB NVS.STS.SCRUB = true ∧
      t.rd NVS.SCRUB_STS.PAGE = 0 ∧
      s.within t [.regs, .nvs] [NVS.STS.key 0 0, NVS.SCRUB_STS.key 0 0])) ∧
    (s.lifeS < s.nvs.scrubLife + 2592000 → idle .nvsScrubStart s) ∧
    (∀ (bad : Bool) (p : Nat), s.nvs.scrubPos = some p → p < 4095 → s.nvs.q.length ≤ 14 → s.nvsNoWrite = false → (s.pageData p).isSome = true → gives (.nvsScrubPage bad) s (fun t =>
      t.nvs.scrubPos = some (p + 1) ∧
      t.rd NVS.SCRUB_STS.PAGE = p + 1 ∧
      (t.nvs.q = s.nvs.q ++ (if bad = true ∨ s.copyOk p p = false ∨ s.copyOk (p + 4096) p = false then [⟨p, [], .scrub, none⟩, ⟨p, [], .scrub, none⟩] else [])) ∧
      s.within t [.regs, .nvs] [NVS.STS.key 0 0, NVS.SCRUB_STS.key 0 0])) ∧
    (∀ (bad : Bool) (p : Nat), s.nvs.scrubPos = some p → p < 4095 → s.nvs.q.length ≤ 14 → s.nvsNoWrite = false → s.pageData p = none → s.copyOk p p = false → gives (.nvsScrubPage bad) s (fun t =>
      t.nvs.scrubPos = some (p + 1) ∧
      t.rd NVS.SCRUB_STS.PAGE = p + 1 ∧
      t.nvs.q = s.nvs.q ∧
      t.flag NVS.PAGE 1 ∧
      s.logged t NVS.PAGE 0xD1 (fun _ b => b = p) ∧
      s.within t [.regs, .log, .nvs, .sram] ([NVS.SCRUB_STS.key 0 0] ++ logKeys NVS.PAGE ++ eventKeys NVS.PAGE))) ∧
    (s.nvs.scrubPos = some 4095 → s.nvs.q.length ≤ 14 → s.nvsNoWrite = false → s.copyOk 4095 4095 = true → s.copyOk 8191 4095 = true → (∀ k : Fin 16, (s.pageSeq (530 + k.val)).toNat < 100000) → gives (.nvsScrubPage false) s (fun t =>
      t.nvs.scrubPos = none ∧
      t.rdB NVS.STS.SCRUB = false ∧
      t.rd NVS.SCRUB_STS.REWRITTEN = min (2 ^ 20 - 1) t.nvs.scrubDone ∧
      s.logged t NVS.PAGE 0xD2 (fun a b => a = t.rd NVS.SCRUB_STS ∧ b = t.nvs.scrubDone) ∧
      t.nvs.q = s.nvs.q ∧
      s.within t [.regs, .log, .nvs, .sram] ([NVS.STS.key 0 0, NVS.SCRUB_STS.key 0 0] ++ logKeys NVS.PAGE ++ eventKeys NVS.PAGE))) ∧
    (∀ (bad : Bool), (s.nvs.scrubPos = none ∨ 14 < s.nvs.q.length ∨ s.nvsNoWrite = true) → idle (.nvsScrubPage bad) s) ∧
    (∀ (path : Path), s.takes path BMS.PAGE 0x118 = true → s.rdB BMS.STS.BUSY = false → s.mode.sec = .openS → s.rd BMS.SIDE_SEL.SIDE 0 path.num ≠ s.fwSide → gives (.bmsErase path) s (fun t =>
      t.answered .ok ∧
      t.rdB BMS.STS.BUSY = true ∧
      t.rd BMS.RESULT.CODE = 8 ∧
      t.nvs.bmsJob = some ⟨1, s.rd BMS.SIDE_SEL.SIDE 0 path.num, s.rd BMS.OFS.OFS * 4096, s.rd BMS.HBM_LO.ADDR * 4096 + s.rd BMS.HBM_HI.ADDR * 2 ^ 32, s.rd BMS.LEN.BYTES⟩ ∧
      t.bmsRd (s.rd BMS.SIDE_SEL.SIDE 0 path.num) 0 4096 = List.replicate 4096 0xFF ∧
      s.within t [.regs, .bus, .nvs] [BMS.STS.key 0 0, BMS.RESULT.CODE.key 0 0, BMS.GEN_A.key 0 0, BMS.GEN_B.key 0 0])) ∧
    (∀ (path : Path), s.takes path BMS.PAGE 0x118 = true → s.rdB BMS.STS.BUSY = true → gives (.bmsErase path) s (fun t =>
      t.answered .ignored ∧
      s.within t [.regs, .bus, .log, .sram] (logKeys SYS.PAGE))) ∧
    (∀ (path : Path), s.takes path BMS.PAGE 0x118 = true → s.rdB BMS.STS.BUSY = false → s.mode.sec ≠ .openS → path.privileged = false → gives (.bmsErase path) s (fun t =>
      t.answered .ok ∧
      t.rd BMS.RESULT.CODE = 5 ∧
      t.flag BMS.PAGE 1 ∧
      s.within t [.regs, .bus, .log, .sram] ([BMS.RESULT.CODE.key 0 0] ++ eventKeys BMS.PAGE))) ∧
    (∀ (path : Path), s.takes path BMS.PAGE 0x118 = true → s.rdB BMS.STS.BUSY = false → s.mode.sec = .openS → s.rd BMS.LEN.BYTES % 4096 = 0 → s.rd BMS.OFS.OFS * 4096 + s.rd BMS.LEN.BYTES ≤ bmsSide → s.rd BMS.HBM_LO.ADDR * 4096 + s.rd BMS.HBM_HI.ADDR * 2 ^ 32 + s.rd BMS.LEN.BYTES ≤ hbmSize → s.rd BMS.SIDE_SEL.SIDE 0 path.num ≠ s.fwSide → s.nvs.bmsProg = [] → gives (.bmsWrite path) s (fun t =>
      t.answered .ok ∧
      t.rdB BMS.STS.BUSY = true ∧
      t.rd BMS.RESULT.CODE = 8 ∧
      t.nvs.bmsJob = some ⟨2, s.rd BMS.SIDE_SEL.SIDE 0 path.num, s.rd BMS.OFS.OFS * 4096, s.rd BMS.HBM_LO.ADDR * 4096 + s.rd BMS.HBM_HI.ADDR * 2 ^ 32, s.rd BMS.LEN.BYTES⟩ ∧
      s.within t [.regs, .bus, .nvs] [BMS.STS.key 0 0, BMS.RESULT.CODE.key 0 0, BMS.GEN_A.key 0 0, BMS.GEN_B.key 0 0])) ∧
    (∀ (path : Path), s.takes path BMS.PAGE 0x118 = true → s.rdB BMS.STS.BUSY = true → gives (.bmsWrite path) s (fun t =>
      t.answered .ignored ∧
      s.within t [.regs, .bus, .log, .sram] (logKeys SYS.PAGE))) ∧
    (∀ (path : Path), s.takes path BMS.PAGE 0x118 = true → s.rdB BMS.STS.BUSY = false → s.mode.sec ≠ .openS → path.privileged = false → gives (.bmsWrite path) s (fun t =>
      t.answered .ok ∧
      t.rd BMS.RESULT.CODE = 5 ∧
      t.flag BMS.PAGE 1 ∧
      s.within t [.regs, .bus, .log, .sram] ([BMS.RESULT.CODE.key 0 0] ++ eventKeys BMS.PAGE))) ∧
    (∀ (path : Path), s.takes path BMS.PAGE 0x118 = true → s.rdB BMS.STS.BUSY = false → s.mode.sec = .openS → s.rd BMS.LEN.BYTES % 4096 = 0 → s.rd BMS.OFS.OFS * 4096 + s.rd BMS.LEN.BYTES ≤ bmsSide → s.rd BMS.HBM_LO.ADDR * 4096 + s.rd BMS.HBM_HI.ADDR * 2 ^ 32 + s.rd BMS.LEN.BYTES ≤ hbmSize → gives (.bmsRead path) s (fun t =>
      t.answered .ok ∧
      t.rdB BMS.STS.BUSY = true ∧
      t.rd BMS.RESULT.CODE = 8 ∧
      t.nvs.bmsJob = some ⟨3, s.rd BMS.SIDE_SEL.SIDE 0 path.num, s.rd BMS.OFS.OFS * 4096, s.rd BMS.HBM_LO.ADDR * 4096 + s.rd BMS.HBM_HI.ADDR * 2 ^ 32, s.rd BMS.LEN.BYTES⟩ ∧
      s.within t [.regs, .bus, .nvs] [BMS.STS.key 0 0, BMS.RESULT.CODE.key 0 0, BMS.GEN_A.key 0 0, BMS.GEN_B.key 0 0])) ∧
    (∀ (path : Path), s.takes path BMS.PAGE 0x118 = true → s.rdB BMS.STS.BUSY = true → gives (.bmsRead path) s (fun t =>
      t.answered .ignored ∧
      s.within t [.regs, .bus, .log, .sram] (logKeys SYS.PAGE))) ∧
    (∀ (path : Path), s.takes path BMS.PAGE 0x118 = true → s.rdB BMS.STS.BUSY = false → s.mode.sec ≠ .openS → path.privileged = false → gives (.bmsRead path) s (fun t =>
      t.answered .ok ∧
      t.rd BMS.RESULT.CODE = 5 ∧
      t.flag BMS.PAGE 1 ∧
      s.within t [.regs, .bus, .log, .sram] ([BMS.RESULT.CODE.key 0 0] ++ eventKeys BMS.PAGE))) ∧
    (∀ (path : Path), s.takes path BMS.PAGE 0x118 = true → s.rdB BMS.STS.BUSY = false → s.mode.sec = .openS → s.rd BMS.SIDE_SEL.SIDE 0 path.num = s.fwSide → gives (.bmsErase path) s (fun t =>
      t.rd BMS.RESULT.CODE = 2 ∧
      t.flag BMS.PAGE 1 ∧
      s.within t [.regs, .bus, .log, .sram] ([BMS.RESULT.CODE.key 0 0] ++ eventKeys BMS.PAGE ++ logKeys BMS.PAGE))) ∧
    (∀ (path : Path), s.takes path BMS.PAGE 0x118 = true → s.rdB BMS.STS.BUSY = false → s.mode.sec = .openS → (bmsSide < s.rd BMS.OFS.OFS * 4096 + s.rd BMS.LEN.BYTES ∨ s.rd BMS.LEN.BYTES % 4096 ≠ 0) → gives (.bmsWrite path) s (fun t =>
      t.rd BMS.RESULT.CODE = 1 ∧
      t.flag BMS.PAGE 1 ∧
      s.within t [.regs, .bus, .log, .sram] ([BMS.RESULT.CODE.key 0 0] ++ eventKeys BMS.PAGE))) ∧
    (∀ (path : Path), s.takes path BMS.PAGE 0x118 = true → s.rdB BMS.STS.BUSY = false → s.mode.sec = .openS → s.rd BMS.SIDE_SEL.SIDE 0 path.num ≠ s.fwSide → s.rd BMS.LEN.BYTES = 4096 → s.rd BMS.OFS.OFS * 4096 + 4096 ≤ bmsSide → s.rd BMS.HBM_LO.ADDR * 4096 + s.rd BMS.HBM_HI.ADDR * 2 ^ 32 + 4096 ≤ hbmSize → (tget (fun _ => false) s.nvs.bmsProg ((s.rd BMS.SIDE_SEL.SIDE 0 path.num * bmsSide + s.rd BMS.OFS.OFS * 4096) / 4096) = true) → gives (.bmsWrite path) s (fun t =>
      t.rd BMS.RESULT.CODE = 3 ∧
      t.flag BMS.PAGE 1 ∧
      s.within t [.regs, .bus, .log, .sram] ([BMS.RESULT.CODE.key 0 0] ++ eventKeys BMS.PAGE))) ∧
    (∀ (fail : Bool) (j : BmsJob), s.nvs.bmsJob = some j → s.hotThrottle = false → fail = false → j.op = 1 → gives (.bmsDone fail) s (fun t =>
      t.nvs.bmsJob = none ∧
      t.rdB BMS.STS.BUSY = false ∧
      t.rd BMS.RESULT.CODE = 0 ∧
      t.flag BMS.PAGE 0 ∧
      (∀ a, bmsSide ≤ a → a < 2 * bmsSide → j.side = 1 → tget bmsErased t.nvs.bms a = 0xFF) ∧
      (∀ a, a < bmsSide → j.side = 1 → tget bmsErased t.nvs.bms a = tget bmsErased s.nvs.bms a) ∧
      s.within t [.regs, .log, .nvs, .sram] ([BMS.STS.key 0 0, BMS.RESULT.CODE.key 0 0, BMS.GEN_A.key 0 0, BMS.GEN_B.key 0 0] ++ eventKeys BMS.PAGE))) ∧
    (∀ (fail : Bool) (j : BmsJob), s.nvs.bmsJob = some j → s.hotThrottle = false → s.mem.sealed = false → fail = false → j.op = 2 → s.ram.bad = [] → gives (.bmsDone fail) s (fun t =>
      t.nvs.bmsJob = none ∧
      t.rd BMS.RESULT.CODE = 0 ∧
      t.bmsRd j.side j.ofs j.len = s.hbmRd j.hbm j.len ∧
      t.flag BMS.PAGE 0 ∧
      s.within t [.regs, .log, .nvs, .sram] ([BMS.STS.key 0 0, BMS.RESULT.CODE.key 0 0, BMS.GEN_A.key 0 0, BMS.GEN_B.key 0 0] ++ eventKeys BMS.PAGE))) ∧
    (∀ (fail : Bool) (j : BmsJob), s.nvs.bmsJob = some j → s.hotThrottle = false → s.mem.sealed = false → j.op = 3 → gives (.bmsDone fail) s (fun t =>
      t.nvs.bmsJob = none ∧
      t.rd BMS.RESULT.CODE = 0 ∧
      t.hbmRd j.hbm j.len = s.bmsRd j.side j.ofs j.len ∧
      t.nvs.bms = s.nvs.bms ∧
      t.flag BMS.PAGE 0 ∧
      s.within t [.regs, .log, .nvs, .hbm, .sram] ([BMS.STS.key 0 0, BMS.RESULT.CODE.key 0 0, BMS.GEN_A.key 0 0, BMS.GEN_B.key 0 0] ++ eventKeys BMS.PAGE))) ∧
    (∀ (fail : Bool) (j : BmsJob), s.nvs.bmsJob = some j → s.hotThrottle = false → fail = true → (j.op = 1 ∨ (j.op = 2 ∧ s.mem.sealed = false)) → gives (.bmsDone fail) s (fun t =>
      t.rd BMS.STS.RETIRED = min 0xFFFF (s.rd BMS.STS.RETIRED + 1) ∧
      s.logged t BMS.PAGE 0xDD (fun a _ => a / 2 ^ 16 = t.rd BMS.STS.RETIRED) ∧
      t.nvs.bms = s.nvs.bms ∧
      (s.nvs.bmsRetried = false → t.nvs.bmsJob = s.nvs.bmsJob ∧ t.nvs.bmsRetried = true) ∧
      (s.nvs.bmsRetried = true → t.nvs.bmsJob = none ∧ t.rd BMS.RESULT.CODE = 4 ∧ t.flag BMS.PAGE 1 ∧ t.rdB BMS.STS.BUSY = false) ∧
      s.keeps t [.regs, .log, .nvs, .sram])) ∧
    (∀ (fail : Bool), (s.nvs.bmsJob = none ∨ s.hotThrottle = true ∨ (s.mem.sealed = true ∧ ∀ j, s.nvs.bmsJob = some j → j.op ≠ 1)) → idle (.bmsDone fail) s) ∧
    (∀ (retired : BitVec 16), s.hotThrottle = false → gives (.bmsPatrol retired) s (fun t =>
      t.rd BMS.STS.RETIRED = min 0xFFFF (s.rd BMS.STS.RETIRED + retired.toNat) ∧
      s.within t [.regs, .log, .sram] ([BMS.STS.key 0 0] ++ logKeys BMS.PAGE))) ∧
    (∀ (retired : BitVec 16), (s.hotThrottle = true ∨ retired = 0) → idle (.bmsPatrol retired) s)

/-- Sensors, zones, levels and the orderly stop: A reading shows in SEN_STS and its zone takes the highest reading, a
broken sensor at Hot-throttle; the third reading at or beyond a threshold enters the level, the third one back by
more than HYST leaves it. Warn levels log 0xE0 and raise WARN; Hot-throttle 0xE1 and THROTTLE; Hot-stop 0xE2 and
STOP and begins the orderly stop: DEMOTE with cause 7 to a Ready partner, else the stop at the cycle end, or at once
behind the Sill picture; Cold-stop 0xEF in Full; the second Trip reading 0xE3, TRIPS and the module reset. The third
invalid reading breaks a sensor, 0xE4 and BROKEN, and 100 valid ones mend it. Clear zones end Thermal-stop as a warm
reset, 0xE6. The points the spec leaves open in it follow the model's own choices, log entries 57, 99, 146. (R403,
R415, R416, R417, R418, R419, R421, R422, R430.) -/
def Obligations.Thermal : Prop :=
  ∀ s : State,
    (∀ (sensor : Fin 28) (temp : BitVec 16) (valid : Bool) (z : Nat) (T : Int), z = sensorZone sensor → (z = 0 ∨ z = 3 ∨ z = 4 ∨ z = 5) → valid = true → s.rdB THM.SEN_STS.BROKEN 0 sensor = false → s.modulePends = false → T = (s.wrI THM.SEN_STS.TEMP temp.toInt 0 sensor).zoneTemp z → -32768 ≤ T → T ≤ 32767 → (∀ l ∈ [1, 2, 3, 4, 5, 6], s.inLevel z l = true ∨ s.beyond z l T = false) → gives (.sensorRead sensor temp valid) s (fun t =>
      t.rdI THM.SEN_STS.TEMP 0 sensor = temp.toInt ∧
      t.rd THM.SEN_STS.KIND 0 sensor = s.sensorKind sensor ∧
      t.rdI THM.ZONE_STS.TEMP 0 z = T ∧
      s.within t [.regs, .thm] ([THM.SEN_STS.key 0 (sensor.val), THM.FAULT.key 0 0, CLB.STS.key 0 0] ++ (((List.range 7).map (fun z => THM.ZONE_STS.key 0 z)))))) ∧
    (∀ (sensor : Fin 28) (temp : BitVec 16) (valid : Bool) (z : Nat) (T : Int), z = sensorZone sensor → (z = 0 ∨ z = 3 ∨ z = 4 ∨ z = 5) → valid = true → s.rdB THM.SEN_STS.BROKEN 0 sensor = false → s.modulePends = false → T = (s.wrI THM.SEN_STS.TEMP temp.toInt 0 sensor).zoneTemp z → -32768 ≤ T → T ≤ 32767 → (∀ l ∈ [1, 3, 4, 5, 6], s.inLevel z l = true ∨ s.beyond z l T = false) → s.inLevel z 2 = false → s.beyond z 2 T = true → (tget (fun _ => 0) s.thm.zoneIn (8 * z + 2) = 2) → gives (.sensorRead sensor temp valid) s (fun t =>
      t.rdI THM.SEN_STS.TEMP 0 sensor = temp.toInt ∧
      t.rd THM.SEN_STS.KIND 0 sensor = s.sensorKind sensor ∧
      t.rdI THM.ZONE_STS.TEMP 0 z = T ∧
      t.inLevel z 2 = true ∧
      t.flag THM.PAGE 0 ∧
      s.logged t THM.PAGE 0xE0 (fun a b => a = t.rd THM.ZONE_STS 0 z ∧ b = z) ∧
      s.within t [.regs, .log, .thm, .sram] ([THM.SEN_STS.key 0 (sensor.val), THM.FAULT.key 0 0, CLB.STS.key 0 0] ++ (((List.range 7).map (fun z => THM.ZONE_STS.key 0 z))) ++ eventKeys THM.PAGE ++ logKeys THM.PAGE))) ∧
    (∀ (sensor : Fin 28) (temp : BitVec 16) (valid : Bool) (z : Nat) (T : Int), z = sensorZone sensor → (z = 0 ∨ z = 3 ∨ z = 4 ∨ z = 5) → valid = true → s.rdB THM.SEN_STS.BROKEN 0 sensor = false → s.modulePends = false → T = (s.wrI THM.SEN_STS.TEMP temp.toInt 0 sensor).zoneTemp z → -32768 ≤ T → T ≤ 32767 → (∀ l ∈ [2, 3, 4, 5, 6], s.inLevel z l = true ∨ s.beyond z l T = false) → s.inLevel z 1 = false → s.beyond z 1 T = true → (tget (fun _ => 0) s.thm.zoneIn (8 * z + 1) = 2) → gives (.sensorRead sensor temp valid) s (fun t =>
      t.rdI THM.SEN_STS.TEMP 0 sensor = temp.toInt ∧
      t.rd THM.SEN_STS.KIND 0 sensor = s.sensorKind sensor ∧
      t.rdI THM.ZONE_STS.TEMP 0 z = T ∧
      t.inLevel z 1 = true ∧
      t.flag THM.PAGE 0 ∧
      s.logged t THM.PAGE 0xE0 (fun a b => a = t.rd THM.ZONE_STS 0 z ∧ b = z) ∧
      s.within t [.regs, .log, .thm, .sram] ([THM.SEN_STS.key 0 (sensor.val), THM.FAULT.key 0 0, CLB.STS.key 0 0] ++ (((List.range 7).map (fun z => THM.ZONE_STS.key 0 z))) ++ eventKeys THM.PAGE ++ logKeys THM.PAGE))) ∧
    (∀ (sensor : Fin 28) (temp : BitVec 16) (valid : Bool) (z : Nat) (T : Int), z = sensorZone sensor → (z = 0 ∨ z = 3 ∨ z = 4 ∨ z = 5) → valid = true → s.rdB THM.SEN_STS.BROKEN 0 sensor = false → s.modulePends = false → T = (s.wrI THM.SEN_STS.TEMP temp.toInt 0 sensor).zoneTemp z → -32768 ≤ T → T ≤ 32767 → (∀ l ∈ [1, 2, 4, 5, 6], s.inLevel z l = true ∨ s.beyond z l T = false) → s.inLevel z 3 = false → s.beyond z 3 T = true → (tget (fun _ => 0) s.thm.zoneIn (8 * z + 3) = 2) → gives (.sensorRead sensor temp valid) s (fun t =>
      t.rdI THM.SEN_STS.TEMP 0 sensor = temp.toInt ∧
      t.rd THM.SEN_STS.KIND 0 sensor = s.sensorKind sensor ∧
      t.rdI THM.ZONE_STS.TEMP 0 z = T ∧
      t.inLevel z 3 = true ∧
      t.flag THM.PAGE 1 ∧
      bit (t.rd THM.FAULT.ZONES) z = true ∧
      s.logged t THM.PAGE 0xE1 (fun a b => a = t.rd THM.ZONE_STS 0 z ∧ b = z) ∧
      s.within t [.regs, .log, .thm, .sram] ([THM.SEN_STS.key 0 (sensor.val), THM.FAULT.key 0 0, CLB.STS.key 0 0] ++ (((List.range 7).map (fun z => THM.ZONE_STS.key 0 z))) ++ eventKeys THM.PAGE ++ logKeys THM.PAGE))) ∧
    (∀ (sensor : Fin 28) (temp : BitVec 16) (valid : Bool) (z : Nat) (T : Int), z = sensorZone sensor → (z = 0 ∨ z = 3 ∨ z = 4 ∨ z = 5) → valid = true → s.rdB THM.SEN_STS.BROKEN 0 sensor = false → s.modulePends = false → T = (s.wrI THM.SEN_STS.TEMP temp.toInt 0 sensor).zoneTemp z → -32768 ≤ T → T ≤ 32767 → (∀ l ∈ [1, 2, 3, 4, 6], s.inLevel z l = true ∨ s.beyond z l T = false) → s.inLevel z 5 = false → s.beyond z 5 T = true → (tget (fun _ => 0) s.thm.zoneIn (8 * z + 5) = 2) → s.mode.power = .full → gives (.sensorRead sensor temp valid) s (fun t =>
      t.rdI THM.SEN_STS.TEMP 0 sensor = temp.toInt ∧
      t.rd THM.SEN_STS.KIND 0 sensor = s.sensorKind sensor ∧
      t.rdI THM.ZONE_STS.TEMP 0 z = T ∧
      t.inLevel z 5 = true ∧
      bit (t.rd THM.FAULT.ZONES) z = true ∧
      s.logged t THM.PAGE 0xEF (fun a b => a = t.rd THM.ZONE_STS 0 z ∧ b = z) ∧
      s.within t [.regs, .log, .thm, .sram] ([THM.SEN_STS.key 0 (sensor.val), THM.FAULT.key 0 0, CLB.STS.key 0 0] ++ (((List.range 7).map (fun z => THM.ZONE_STS.key 0 z))) ++ logKeys THM.PAGE))) ∧
    (∀ (sensor : Fin 28) (temp : BitVec 16) (valid : Bool) (z : Nat) (T : Int), z = sensorZone sensor → (z = 0 ∨ z = 3 ∨ z = 4 ∨ z = 5) → valid = true → s.rdB THM.SEN_STS.BROKEN 0 sensor = false → s.modulePends = false → T = (s.wrI THM.SEN_STS.TEMP temp.toInt 0 sensor).zoneTemp z → -32768 ≤ T → T ≤ 32767 → (∀ l ∈ [1, 2, 3, 5, 6], s.inLevel z l = true ∨ s.beyond z l T = false) → s.inLevel z 4 = false → s.beyond z 4 T = true → (tget (fun _ => 0) s.thm.zoneIn (8 * z + 4) = 2) → s.thm.stopping = false → s.mode.power = .full → s.role = 2 → s.rdB LEF.STS.HINGE_UP = true → s.rd LEF.STS.PARTNER_ROLE = 4 → s.leaf.demoteCause = 0 → s.leaf.tau = none → gives (.sensorRead sensor temp valid) s (fun t =>
      t.rdI THM.SEN_STS.TEMP 0 sensor = temp.toInt ∧
      t.rd THM.SEN_STS.KIND 0 sensor = s.sensorKind sensor ∧
      t.rdI THM.ZONE_STS.TEMP 0 z = T ∧
      t.inLevel z 4 = true ∧
      t.flag THM.PAGE 2 ∧
      t.thm.stopping = true ∧
      t.leaf.demoteCause = 7 ∧
      s.logged t THM.PAGE 0xE2 (fun a b => a = t.rd THM.ZONE_STS 0 z ∧ b = z) ∧
      s.within t [.regs, .log, .thm, .leaf, .sram] ([THM.SEN_STS.key 0 (sensor.val), THM.FAULT.key 0 0, CLB.STS.key 0 0] ++ (((List.range 7).map (fun z => THM.ZONE_STS.key 0 z))) ++ eventKeys THM.PAGE ++ logKeys THM.PAGE))) ∧
    (∀ (sensor : Fin 28) (temp : BitVec 16) (valid : Bool) (z : Nat) (T : Int), z = sensorZone sensor → (z = 0 ∨ z = 3 ∨ z = 4 ∨ z = 5) → valid = true → s.rdB THM.SEN_STS.BROKEN 0 sensor = false → s.modulePends = false → T = (s.wrI THM.SEN_STS.TEMP temp.toInt 0 sensor).zoneTemp z → -32768 ≤ T → T ≤ 32767 → (∀ l ∈ [1, 2, 3, 5, 6], s.inLevel z l = true ∨ s.beyond z l T = false) → s.inLevel z 4 = false → s.beyond z 4 T = true → (tget (fun _ => 0) s.thm.zoneIn (8 * z + 4) = 2) → s.thm.stopping = false → s.mode.power = .full → s.role ≠ 2 → s.mode.raster = .weaver → gives (.sensorRead sensor temp valid) s (fun t =>
      t.rdI THM.SEN_STS.TEMP 0 sensor = temp.toInt ∧
      t.rd THM.SEN_STS.KIND 0 sensor = s.sensorKind sensor ∧
      t.rdI THM.ZONE_STS.TEMP 0 z = T ∧
      t.inLevel z 4 = true ∧
      t.flag THM.PAGE 2 ∧
      t.thm.stopping = true ∧
      t.panel.resetPend = some .stop ∧
      s.within t [.regs, .log, .thm, .panel, .sram] ([THM.SEN_STS.key 0 (sensor.val), THM.FAULT.key 0 0, CLB.STS.key 0 0] ++ (((List.range 7).map (fun z => THM.ZONE_STS.key 0 z))) ++ eventKeys THM.PAGE ++ logKeys THM.PAGE))) ∧
    (∀ (sensor : Fin 28) (temp : BitVec 16) (valid : Bool) (z : Nat) (T : Int), z = sensorZone sensor → (z = 0 ∨ z = 3 ∨ z = 4 ∨ z = 5) → valid = true → s.rdB THM.SEN_STS.BROKEN 0 sensor = false → s.modulePends = false → T = (s.wrI THM.SEN_STS.TEMP temp.toInt 0 sensor).zoneTemp z → -32768 ≤ T → T ≤ 32767 → (∀ l ∈ [1, 2, 3, 5, 6], s.inLevel z l = true ∨ s.beyond z l T = false) → s.inLevel z 4 = false → s.beyond z 4 T = true → (tget (fun _ => 0) s.thm.zoneIn (8 * z + 4) = 2) → s.thm.stopping = false → s.mode.power = .sill → s.role ≠ 2 → s.mode.raster = .sill → gives (.sensorRead sensor temp valid) s (fun t =>
      t.rdI THM.SEN_STS.TEMP 0 sensor = temp.toInt ∧
      t.rd THM.SEN_STS.KIND 0 sensor = s.sensorKind sensor ∧
      t.rdI THM.ZONE_STS.TEMP 0 z = T ∧
      t.inLevel z 4 = true ∧
      t.flag THM.PAGE 2 ∧
      t.mode.power = .thermalStop ∧
      t.role = 0 ∧
      t.rdB THM.FAULT.STOPPED = true ∧
      s.keeps t [.regs, .mode, .panel, .boot, .log, .mem, .leaf, .nvs, .thm, .sram])) ∧
    (∀ (sensor : Fin 28) (temp : BitVec 16) (valid : Bool) (z : Nat) (T : Int), z = sensorZone sensor → (z = 0 ∨ z = 3 ∨ z = 4 ∨ z = 5) → valid = true → s.rdB THM.SEN_STS.BROKEN 0 sensor = false → s.modulePends = false → T = (s.wrI THM.SEN_STS.TEMP temp.toInt 0 sensor).zoneTemp z → -32768 ≤ T → T ≤ 32767 → (∀ l ∈ [1, 2, 3, 4, 5], s.inLevel z l = true ∨ s.beyond z l T = false) → s.inLevel z 6 = false → s.beyond z 6 T = true → (tget (fun _ => 0) s.thm.zoneIn (8 * z + 6) = 1) → s.mode.supply = .on → s.mode.power = .full → s.mode.raster = .weaver → s.rdB SYS.PWR_STS.HOLD_RDY = true → s.nvs.jrnlOn = false → ((s.pageData (530 + (min 0xFFFFFFFF (s.counter 5 + 1)) % 16)).any (fun d => d.length == 496) = true) → gives (.sensorRead sensor temp valid) s (fun t =>
      t.rdI THM.SEN_STS.TEMP 0 sensor = temp.toInt ∧
      t.rd THM.SEN_STS.KIND 0 sensor = s.sensorKind sensor ∧
      t.rdI THM.ZONE_STS.TEMP 0 z = T ∧
      t.inLevel z 6 = true ∧
      t.counter 5 = min 0xFFFFFFFF (s.counter 5 + 1) ∧
      t.panel.resetPend = some .trip ∧
      t.boot.modReset = true ∧
      s.logged t THM.PAGE 0xE3 (fun a b => a = t.rd THM.ZONE_STS 0 z ∧ b = z))) ∧
    (∀ (sensor : Fin 28) (temp : BitVec 16) (valid : Bool) (z : Nat) (T : Int), z = sensorZone sensor → (z = 0 ∨ z = 3 ∨ z = 4 ∨ z = 5) → valid = true → s.rdB THM.SEN_STS.BROKEN 0 sensor = false → s.modulePends = false → T = (s.wrI THM.SEN_STS.TEMP temp.toInt 0 sensor).zoneTemp z → -32768 ≤ T → T ≤ 32767 → (∀ l ∈ [1, 3, 4, 5, 6], s.inLevel z l = true ∨ s.beyond z l T = false) → s.inLevel z 2 = true → s.backFrom z 2 T = true → (tget (fun _ => 0) s.thm.zoneOut (8 * z + 2) = 2) → gives (.sensorRead sensor temp valid) s (fun t =>
      t.rdI THM.SEN_STS.TEMP 0 sensor = temp.toInt ∧
      t.rd THM.SEN_STS.KIND 0 sensor = s.sensorKind sensor ∧
      t.rdI THM.ZONE_STS.TEMP 0 z = T ∧
      t.inLevel z 2 = false ∧
      s.within t [.regs, .thm] ([THM.SEN_STS.key 0 (sensor.val), THM.FAULT.key 0 0, CLB.STS.key 0 0] ++ (((List.range 7).map (fun z => THM.ZONE_STS.key 0 z)))))) ∧
    (∀ (sensor : Fin 28) (temp : BitVec 16) (valid : Bool) (z : Nat) (T : Int), z = sensorZone sensor → z = 3 → valid = false → s.rdB THM.SEN_STS.BROKEN 0 sensor = false → (tget (fun _ => 0) s.thm.senBad sensor = 2) → s.modulePends = false → T = 1000 → s.zoneThr 3 3 = T → (∀ n ∈ [12, 13, 14, 15], s.rdB THM.SEN_STS.BROKEN 0 n = false ∧ s.rdI THM.SEN_STS.TEMP 0 n ≤ T) → temp.toInt ≤ T → s.thm.zoneIn = [] → s.thm.inLevel = [] → gives (.sensorRead sensor temp valid) s (fun t =>
      t.rdB THM.SEN_STS.BROKEN 0 sensor = true ∧
      t.flag THM.PAGE 3 ∧
      t.rdB THM.FAULT.BROKEN = true ∧
      s.logged t THM.PAGE 0xE4 (fun a b => a = t.rd THM.SEN_STS 0 sensor ∧ b = sensor.val) ∧
      t.rdI THM.ZONE_STS.TEMP 0 z = t.zoneThr z 3 ∧
      s.within t [.regs, .log, .thm, .sram] ([THM.SEN_STS.key 0 (sensor.val), THM.FAULT.key 0 0, CLB.STS.key 0 0] ++ (((List.range 7).map (fun z => THM.ZONE_STS.key 0 z))) ++ logKeys THM.PAGE ++ eventKeys THM.PAGE))) ∧
    (∀ (sensor : Fin 28) (temp : BitVec 16) (valid : Bool) (z : Nat) (T : Int), z = sensorZone sensor → (z = 0 ∨ z = 3 ∨ z = 4 ∨ z = 5) → valid = true → s.rdB THM.SEN_STS.BROKEN 0 sensor = true → (tget (fun _ => 0) s.thm.senGood sensor = 99) → s.modulePends = false → T = ((s.wrI THM.SEN_STS.TEMP temp.toInt 0 sensor).wrB THM.SEN_STS.BROKEN false 0 sensor).zoneTemp z → (∀ l ∈ [1, 2, 3, 4, 5, 6], s.inLevel z l = false ∧ s.beyond z l T = false) → gives (.sensorRead sensor temp valid) s (fun t =>
      t.rdB THM.SEN_STS.BROKEN 0 sensor = false ∧
      s.logged t THM.PAGE 0xE4 (fun a b => a = t.rd THM.SEN_STS 0 sensor ∧ b = sensor.val) ∧
      s.within t [.regs, .log, .thm, .sram] ([THM.SEN_STS.key 0 (sensor.val), THM.FAULT.key 0 0, CLB.STS.key 0 0] ++ (((List.range 7).map (fun z => THM.ZONE_STS.key 0 z))) ++ logKeys THM.PAGE))) ∧
    (∀ (c : Nat), s.mode.power = .thermalStop → s.mode.sec = .openS → s.mode.raster = .sill → s.thm.clearSince = some c → c + 1600000000 * s.rd THM.RESTART.S ≤ s.clk.now → (∀ z ∈ List.range 7, s.zoneThr z 1 + s.hyst < s.rdI THM.ZONE_STS.TEMP 0 z ∧ s.rdI THM.ZONE_STS.TEMP 0 z < s.zoneThr z 2 - s.hyst) → gives .thermalRestart s (fun t =>
      t.mode.power = .sill ∧
      t.rdB THM.FAULT.STOPPED = false ∧
      t.flag THM.PAGE 4 ∧
      s.logged t THM.PAGE 0xE6 (fun a _ => a = t.rd THM.FAULT) ∧
      t.rd SYS.START_STS.STAGE = 5 ∧
      t.rd SYS.RST_CAUSE.CAUSE = 1 ∧
      t.boot.warm = true)) ∧
    (∀ (c : Nat), s.mode.power = .thermalStop → s.mode.sec = .quarantined → s.mode.raster = .sill → s.thm.clearSince = some c → c + 1600000000 * s.rd THM.RESTART.S ≤ s.clk.now → s.zonesClear = true → gives .thermalRestart s (fun t =>
      t.mode.power = .sill ∧
      t.mode.sec = .quarantined ∧
      t.rdB THM.FAULT.STOPPED = false ∧
      t.flag THM.PAGE 4 ∧
      t.rd SYS.START_STS.STAGE = 14 ∧
      s.keeps t [.regs, .mode, .log, .thm, .sram])) ∧
    ((s.mode.power ≠ .thermalStop ∨ s.thm.clearSince = none ∨ s.rdI THM.ZONE_STS.TEMP 0 5 ≤ s.zoneThr 5 1 + s.hyst) → idle .thermalRestart s)

/-- Calibration runs, the converter, oscillators and self-tests: CLB.CMD asks for groups; a waiting group that may run
starts and keeps its zones' temperatures; the VCOM group computes its target from the curve at Tp, clamped at 500 mV
with 0xEB. A run with no further step is done: baseline moved, RUN_DONE, STAT_RUN, 0xE8. While the lane and HBM
groups run, each boundary at line 8,640 moves at most one tap of a lane's receiver and one trim of a pseudo-channel
by one step. A valid VREF_IN gives the gain, an invalid one 0xE9 and REF_BAD. A measured oscillator error shows,
beyond 80 ppm with 0xEA. A self-test that may run starts, else RESULT BUSY with 0xEC; its end shows PASS, or 0xED,
with ST_DONE; a band-cache test empties the die's cache. The points the spec leaves open in it follow the model's
own choices, log entries 147, 148, 149, 200, 204, 234, 235. (R302, R424, R425, R426, R427, R428, R431.) -/
def Obligations.Calibration : Prop :=
  ∀ s : State,
    (∀ (path : Path) (groups : BitVec 3), s.takes path CLB.PAGE 0x108 = true → gives (.calibrationCommand path groups) s (fun t =>
      t.answered .ok ∧
      t.thm.waits = s.thm.waits ||| BitVec.ofNat 3 (groups.toNat &&& (7 - s.rd CLB.STS.RUNNING)) ∧
      t.rdB CLB.STS.WAITING = decide (t.thm.waits ≠ 0) ∧
      s.within t [.regs, .bus, .thm] [CLB.STS.key 0 0])) ∧
    (∀ (group : Fin 3), s.mayRun group = true → group ≠ 2 → gives (.calibrationRun group) s (fun t =>
      bit (t.rd CLB.STS.RUNNING) group = true ∧
      t.thm.waits.getLsbD group = false ∧
      (∀ z ∈ groupZones group, tget (fun _ => 0) t.thm.base (64 + 8 * group.val + z) = s.rdI THM.ZONE_STS.TEMP 0 z) ∧
      t.thm.selfTest = s.thm.selfTest ∧
      s.within t [.regs, .thm] [CLB.STS.key 0 0])) ∧
    (∀ (group : Fin 3) (d : List Byte) (ta tb : Int), s.mayRun group = true → group = 2 → s.pageData 274 = some d → s.tp 0 = some ta → s.tp 1 = some tb → gives (.calibrationRun group) s (fun t =>
      bit (t.rd CLB.STS.RUNNING) 2 = true ∧
      t.rdI CLB.VCOM_TGT.A = clampI (-500) 500 (vcomTarget (vcomCurve d 0) ta) ∧
      t.rdI CLB.VCOM_TGT.B = clampI (-500) 500 (vcomTarget (vcomCurve d 1) tb) ∧
      t.thm.vcomLeft[0] = t.rdI CLB.VCOM_TGT.A - s.rdI PDV.VCOM_TRIM.MV 0 ∧
      t.thm.vcomLeft[1] = t.rdI CLB.VCOM_TGT.B - s.rdI PDV.VCOM_TRIM.MV 1 ∧
      s.within t [.regs, .log, .thm, .sram] ([CLB.STS.key 0 0, CLB.VCOM_TGT.key 0 0] ++ logKeys CLB.PAGE))) ∧
    (∀ (group : Fin 3), s.mayRun group = false → idle (.calibrationRun group) s) ∧
    (∀ (group : Fin 3), bit (s.rd CLB.STS.RUNNING) group = true → (group = 2 → s.thm.vcomLeft[0] = 0 ∧ s.thm.vcomLeft[1] = 0) → gives (.calibrationDone group) s (fun t =>
      t.rd CLB.STS.RUNNING = s.rd CLB.STS.RUNNING - 2 ^ group.val ∧
      (∀ z ∈ groupZones group, tfind t.thm.base (8 * group.val + z) = some (tget (fun _ => 0) s.thm.base (64 + 8 * group.val + z))) ∧
      t.rd CLB.STAT_RUN = min 0xFFFFFFFF (s.rd CLB.STAT_RUN + 1) ∧
      t.flag CLB.PAGE 0 ∧
      s.logged t CLB.PAGE 0xE8 (fun a b => a = t.rd CLB.STS ∧ b = group.val) ∧
      s.within t [.regs, .log, .thm, .sram] ([CLB.STS.key 0 0, CLB.STAT_RUN.key 0 0] ++ logKeys CLB.PAGE ++ eventKeys CLB.PAGE))) ∧
    (∀ (skew : BitVec 8), s.mode.raster = .sill → s.clk.line = 8639 → gives (.lineStart skew) s (fun t =>
      (∀ pc : Fin 128, ((t.trimsOf pc).zip (s.trimsOf pc)).foldl (fun k x => k + (x.1 - x.2).natAbs) 0 ≤ 1) ∧
      (bit (s.rd CLB.STS.RUNNING) 1 = false → t.mem.trims = s.mem.trims) ∧
      (∀ n : Fin 512, ((t.rd LAN.LANE_EQ.CTLE 0 n : Int) - s.rd LAN.LANE_EQ.CTLE 0 n).natAbs + ((t.dfeTaps n).zip (s.dfeTaps n)).foldl (fun k x => k + (x.1 - x.2).natAbs) 0 ≤ 1) ∧
      (bit (s.rd CLB.STS.RUNNING) 0 = false → t.lan.dfe = s.lan.dfe))) ∧
    (∀ (group : Fin 3), (bit (s.rd CLB.STS.RUNNING) group = false ∨ (group = 2 ∧ (s.thm.vcomLeft[0] ≠ 0 ∨ s.thm.vcomLeft[1] ≠ 0))) → idle (.calibrationDone group) s) ∧
    (∀ (gain : BitVec 32), s.mode.supply = .on → (s.thm.vrefStored.all (fun g => decide ((gain.toInt - g).natAbs ≤ 200)) = true) → gives (.vrefCalibration gain true) s (fun t =>
      t.rdB CLB.STS.VREF_OK = true ∧
      t.rdB CLB.STS.UNCAL = false ∧
      t.rd CLB.VREF_GAIN.PPM = gain.toNat ∧
      t.thm.vrefStored = some gain.toInt ∧
      s.within t [.regs, .thm] [CLB.STS.key 0 0, CLB.VREF_GAIN.key 0 0])) ∧
    (∀ (gain : BitVec 32) (ok : Bool), s.mode.supply = .on → (ok = false ∨ s.thm.vrefStored.any (fun g => decide (200 < (gain.toInt - g).natAbs)) = true) → gives (.vrefCalibration gain ok) s (fun t =>
      t.rdB CLB.STS.VREF_OK = false ∧
      t.rd CLB.VREF_GAIN = s.rd CLB.VREF_GAIN ∧
      t.flag CLB.PAGE 1 ∧
      s.logged t CLB.PAGE 0xE9 (fun a b => a = t.rd CLB.STS ∧ b = s.rd CLB.VREF_GAIN) ∧
      s.within t [.regs, .log, .sram] ([CLB.STS.key 0 0] ++ logKeys CLB.PAGE ++ eventKeys CLB.PAGE))) ∧
    (∀ (ppb : BitVec 32), s.rdB CLB.STS.CLK10_OK = true → gives (.freqMeasure ppb) s (fun t =>
      t.rd CLB.FREQ_ERR.PPB = ppb.toNat ∧
      (80000 < ppb.toInt.natAbs → s.logged t CLB.PAGE 0xEA (fun a b => a = s.rd CLB.STS ∧ b = ppb.toNat)) ∧
      s.within t [.regs, .log, .sram] ([CLB.FREQ_ERR.key 0 0] ++ logKeys CLB.PAGE))) ∧
    (∀ (ppb : BitVec 32), s.rdB CLB.STS.CLK10_OK = false → idle (.freqMeasure ppb) s) ∧
    (∀ (path : Path) (v : BitVec 32), s.takes path CLB.PAGE 0x11C = true → s.rdB CLB.ST_STS.BUSY = false → s.testAllowed (bits v.toNat 2 0) (bits v.toNat 24 16) = true → gives (.selfTestStart path v) s (fun t =>
      t.answered .ok ∧
      t.rdB CLB.ST_STS.BUSY = true ∧
      t.rd CLB.ST_STS.RESULT = 3 ∧
      t.thm.selfTest = some ⟨bits v.toNat 2 0, bits v.toNat 24 16⟩ ∧
      t.rd CLB.ST_CTL.TEST = bits v.toNat 2 0 ∧
      t.rd CLB.ST_CTL.TARGET = bits v.toNat 24 16 ∧
      s.within t [.regs, .bus, .thm] [CLB.ST_CTL.key 0 0, CLB.ST_STS.key 0 0])) ∧
    (∀ (path : Path) (v : BitVec 32), s.takes path CLB.PAGE 0x11C = true → s.rdB CLB.ST_STS.BUSY = false → s.testAllowed (bits v.toNat 2 0) (bits v.toNat 24 16) = false → gives (.selfTestStart path v) s (fun t =>
      t.answered .ok ∧
      t.rd CLB.ST_STS.RESULT = 1 ∧
      t.rdB CLB.ST_STS.PASS = false ∧
      t.thm.selfTest = s.thm.selfTest ∧
      s.logged t CLB.PAGE 0xEC (fun a b => a = t.rd CLB.ST_STS ∧ b = t.rd CLB.ST_CTL) ∧
      s.within t [.regs, .bus, .log, .sram] ([CLB.ST_CTL.key 0 0, CLB.ST_STS.key 0 0] ++ logKeys CLB.PAGE))) ∧
    (∀ (path : Path) (v : BitVec 32), s.takes path CLB.PAGE 0x11C = true → s.rdB CLB.ST_STS.BUSY = true → gives (.selfTestStart path v) s (fun t =>
      t.answered .ignored ∧
      s.within t [.regs, .bus, .log, .sram] (logKeys SYS.PAGE))) ∧
    (∀ (pass : Bool) (st : SelfTest), s.thm.selfTest = some st → st.test ≠ 4 → gives (.selfTestDone pass) s (fun t =>
      t.thm.selfTest = none ∧
      t.rdB CLB.ST_STS.BUSY = false ∧
      t.rdB CLB.ST_STS.PASS = pass ∧
      t.rd CLB.ST_STS.RESULT = 0 ∧
      t.flag CLB.PAGE 2 ∧
      (pass = false → s.logged t CLB.PAGE 0xED (fun a b => a = t.rd CLB.ST_STS ∧ b = s.rd CLB.ST_CTL)) ∧
      s.within t [.regs, .log, .thm, .sram] ([CLB.ST_STS.key 0 0] ++ eventKeys CLB.PAGE ++ logKeys CLB.PAGE))) ∧
    (∀ (pass : Bool) (st : SelfTest), s.thm.selfTest = some st → st.test = 4 → gives (.selfTestDone pass) s (fun t =>
      t.thm.selfTest = none ∧
      t.rdB CLB.ST_STS.PASS = pass ∧
      (∀ k, cellDie k = st.target % 2 → tfind t.wv.cells k = none) ∧
      t.flag CLB.PAGE 2 ∧
      (s.isStandby = true → t.role = 3) ∧
      s.keeps t [.regs, .mode, .log, .wv, .frs, .leaf, .nvs, .thm, .sram])) ∧
    (∀ (pass : Bool), s.thm.selfTest = none → idle (.selfTestDone pass) s)

/-- Operations of the security unit: SEAL, UNSEAL, RECOVER, OWNER, KEY_LOAD, KEY_CLEAR and SVN_COMMIT: where R439 allows
one it has its effect on fuses, seal record, key store and security state, and logs its code; where it does not,
RESULT says why, code 0xF8 is logged (0xF9 with RESULT 5 for a key write that fails) and neither the fuses nor the
store change. Every attempt at UNSEAL, RECOVER or OWNER renews the nonce; the fourth failed signature within 60 s
starts the lockout of 600 s. Each operation ends with event OP_DONE and the key, signature and public key registers
cleared. The points the spec leaves open in it follow the model's own choices, log entries 9, 103, 104, 150, 151,
152, 153, 154, 155. (R433, R434, R436, R437, R439, R440, R441, R451, R454.) -/
def Obligations.SecurityOperations : Prop :=
  ∀ s : State,
    (∀ (path : Path), s.takes path SEC.PAGE 0x100 = true → s.rd SEC.RESULT.CODE ≠ 8 → s.mode.sec = .openS → s.mode.dbg ≠ .intrusive → s.mode.power ≠ .discharge → s.rdB SEC.STS.KEYSTORE_OK = true → s.secu.trans < 256 → (s.secu.owners ≠ [] ∨ (s.secBytes 0x400 24).all (· == 0) = false) → s.nvsNoWrite = false → gives (.sealOp path) s (fun t =>
      t.secEnded 0 ∧
      t.mode = { s.mode with sec := .sealed } ∧
      (t.secu = { s.secu with trans := s.secu.trans + 1, owners := if s.secu.owners = [] then [sha384 (s.secBytes 0x400 24)] else s.secu.owners }) ∧
      t.pageData 170 = some (sealRecord true (s.secu.trans + 1) s.ksHash ++ zeros 392) ∧
      t.frs.verSweep = some 0 ∧
      t.flag SEC.PAGE 0 ∧
      ((s.pageSeq 170).toNat < 100000 → s.logged t FRS.PAGE 0x35 (fun _ _ => True) ∧ (s.startVerSweep).logged t SEC.PAGE 0xF0 (fun a _ => a = t.secSts)) ∧
      s.within t [.regs, .mode, .bus, .log, .frs, .nvs, .secu, .sram] ([FRS.TIME_STS.key 0 0, FRS.BOUND.BE.key 0 0, FRS.NOW.T.key 0 0, NVS.STS.key 0 0] ++ secKeys ++ logKeys SEC.PAGE ++ eventKeys SEC.PAGE ++ logKeys FRS.PAGE ++ logKeys NVS.PAGE))) ∧
    (∀ (path : Path), s.takes path SEC.PAGE 0x100 = true → s.rd SEC.RESULT.CODE ≠ 8 → (s.mode.sec ≠ .openS ∨ s.mode.dbg = .intrusive ∨ s.mode.power = .discharge ∨ s.rdB SEC.STS.KEYSTORE_OK = false) → gives (.sealOp path) s (fun t =>
      t.secEnded 1 ∧
      s.logged t SEC.PAGE 0xF8 (fun a _ => a = t.secSts) ∧
      s.within t [.regs, .bus, .log, .sram] (secKeys ++ logKeys SEC.PAGE ++ eventKeys SEC.PAGE))) ∧
    (∀ (path : Path), s.takes path SEC.PAGE 0x100 = true → s.rd SEC.RESULT.CODE ≠ 8 → s.mode.sec = .sealed → s.secu.sigLock = false → s.secu.trans < 256 → s.nvsNoWrite = false → s.signed (s.signedMsg (ascii "UNSEAL")) = true → gives (.unsealOp path) s (fun t =>
      t.secEnded 0 ∧
      t.mode = { s.mode with sec := .openS } ∧
      t.secu = { s.secu with trans := s.secu.trans + 1 } ∧
      t.pageData 170 = some (sealRecord false (s.secu.trans + 1) s.ksHash ++ zeros 392) ∧
      t.flag SEC.PAGE 0 ∧
      t.nonce = (s.takeFree 64).1.toNat ∧
      ((s.pageSeq 170).toNat < 100000 → s.logged t SEC.PAGE 0xF1 (fun a _ => a = t.secSts)) ∧
      s.within t [.regs, .mode, .bus, .log, .nvs, .secu, .freeCtr, .sram] ([NVS.STS.key 0 0, SEC.NONCE_LO.NONCE.key 0 0, SEC.NONCE_HI.NONCE.key 0 0] ++ secKeys ++ logKeys SEC.PAGE ++ eventKeys SEC.PAGE ++ logKeys NVS.PAGE))) ∧
    (∀ (path : Path), s.takes path SEC.PAGE 0x100 = true → s.rd SEC.RESULT.CODE ≠ 8 → s.mode.sec = .sealed → s.secu.sigLock = false → s.secu.trans < 256 → s.nvsNoWrite = false → s.signed (s.signedMsg (ascii "UNSEAL")) = false → gives (.unsealOp path) s (fun t =>
      t.secEnded 2 ∧
      t.nonce = (s.takeFree 64).1.toNat ∧
      t.secu.trans = s.secu.trans ∧
      t.secu.owners = s.secu.owners ∧
      t.secu.sigLock = decide (4 ≤ (s.clk.now :: s.secu.sigFails.filter (fun x => decide (s.clk.now < x + 60 * 1600000000))).length) ∧
      s.logged t SEC.PAGE 0xF8 (fun a _ => a = t.secSts) ∧
      s.within t [.regs, .bus, .log, .secu, .freeCtr, .sram] ([SEC.NONCE_LO.NONCE.key 0 0, SEC.NONCE_HI.NONCE.key 0 0] ++ secKeys ++ logKeys SEC.PAGE ++ eventKeys SEC.PAGE))) ∧
    (∀ (path : Path), s.takes path SEC.PAGE 0x100 = true → s.rd SEC.RESULT.CODE ≠ 8 → s.mode.sec = .sealed → s.secu.sigLock = true → gives (.unsealOp path) s (fun t =>
      t.secEnded 6 ∧
      t.nonce = (s.takeFree 64).1.toNat ∧
      s.logged t SEC.PAGE 0xF8 (fun a _ => a = t.secSts) ∧
      s.within t [.regs, .bus, .log, .freeCtr, .sram] ([SEC.NONCE_LO.NONCE.key 0 0, SEC.NONCE_HI.NONCE.key 0 0] ++ secKeys ++ logKeys SEC.PAGE ++ eventKeys SEC.PAGE))) ∧
    (∀ (path : Path), s.takes path SEC.PAGE 0x100 = true → s.rd SEC.RESULT.CODE ≠ 8 → s.mode.sec = .quarantined → s.rdB SEC.STS.KEYSTORE_OK = false → s.secu.sigLock = false → s.secu.trans < 256 → s.nvsNoWrite = false → (s.secu.owners = [] ∨ s.signed (s.signedMsg (ascii "RECOVER")) = true) → s.panelDown = false → gives (.recover path) s (fun t =>
      t.secEnded 0 ∧
      t.mode = { s.mode with sec := .openS } ∧
      t.secu = { s.secu with trans := s.secu.trans + 1, keys := [] } ∧
      (∀ n : Fin 103, t.pageData (171 + n) = some (zeros 496)) ∧
      t.pageData 170 = some (sealRecord false (s.secu.trans + 1) (sha384 (zeros 51088)) ++ zeros 392) ∧
      t.rdB SEC.STS.KEYSTORE_OK = true ∧
      t.panel.resetPend = some .module ∧
      t.boot.modReset = true ∧
      t.nonce = (s.takeFree 64).1.toNat ∧
      ((∀ p : Fin 104, (s.pageSeq (170 + p.val)).toNat < 100000) → s.logged t SEC.PAGE 0xFD (fun _ _ => True)) ∧
      s.within t [.regs, .mode, .panel, .boot, .bus, .log, .nvs, .secu, .freeCtr, .sram] ([NVS.STS.key 0 0, SEC.STS.key 0 0, SEC.NONCE_LO.NONCE.key 0 0, SEC.NONCE_HI.NONCE.key 0 0] ++ secKeys ++ logKeys SEC.PAGE ++ eventKeys SEC.PAGE ++ logKeys NVS.PAGE))) ∧
    (∀ (path : Path), s.takes path SEC.PAGE 0x100 = true → s.rd SEC.RESULT.CODE ≠ 8 → s.mode.sec = .quarantined → s.rdB SEC.STS.KEYSTORE_OK = false → s.secu.sigLock = false → s.secu.trans < 256 → s.nvsNoWrite = false → s.secu.owners = [] → s.panelDown = true → s.mode.power ≠ .discharge → gives (.recover path) s (fun t =>
      t.rd SYS.RST_CAUSE.CAUSE = 2 ∧
      t.secu.trans = s.secu.trans + 1 ∧
      t.secu.keys = [] ∧
      t.panel.resetPend = none ∧
      t.boot.starting = true)) ∧
    (∀ (path : Path), s.takes path SEC.PAGE 0x100 = true → s.rd SEC.RESULT.CODE ≠ 8 → (s.mode.sec ≠ .quarantined ∨ s.rdB SEC.STS.KEYSTORE_OK = true) → gives (.recover path) s (fun t =>
      t.secEnded 1 ∧
      t.nonce = (s.takeFree 64).1.toNat ∧
      s.logged t SEC.PAGE 0xF8 (fun a _ => a = t.secSts) ∧
      s.within t [.regs, .bus, .log, .freeCtr, .sram] ([SEC.NONCE_LO.NONCE.key 0 0, SEC.NONCE_HI.NONCE.key 0 0] ++ secKeys ++ logKeys SEC.PAGE ++ eventKeys SEC.PAGE))) ∧
    (∀ (path : Path), s.takes path SEC.PAGE 0x100 = true → s.rd SEC.RESULT.CODE ≠ 8 → s.mode.sec = .sealed → s.secu.sigLock = false → s.secu.owners.length < 4 → s.signed (s.signedMsg (ascii "OWNER") ++ s.secBytes 0x400 24) = true → gives (.owner path) s (fun t =>
      t.secEnded 0 ∧
      t.secu = { s.secu with owners := s.secu.owners ++ [sha384 (s.secBytes 0x400 24)] } ∧
      t.nonce = (s.takeFree 64).1.toNat ∧
      s.within t [.regs, .bus, .log, .secu, .freeCtr, .sram] ([SEC.NONCE_LO.NONCE.key 0 0, SEC.NONCE_HI.NONCE.key 0 0] ++ secKeys ++ eventKeys SEC.PAGE))) ∧
    (∀ (path : Path), s.takes path SEC.PAGE 0x100 = true → s.rd SEC.RESULT.CODE ≠ 8 → s.mode.sec = .sealed → s.secu.sigLock = false → s.secu.owners.length = 4 → gives (.owner path) s (fun t =>
      t.secEnded 3 ∧
      s.logged t SEC.PAGE 0xF8 (fun a _ => a = t.secSts) ∧
      s.within t [.regs, .bus, .log, .freeCtr, .sram] ([SEC.NONCE_LO.NONCE.key 0 0, SEC.NONCE_HI.NONCE.key 0 0] ++ secKeys ++ logKeys SEC.PAGE ++ eventKeys SEC.PAGE))) ∧
    (∀ (path : Path), s.takes path SEC.PAGE 0x100 = true → s.rd SEC.RESULT.CODE ≠ 8 → s.mode.sec = .openS → s.rd SEC.KEY_BIND.SOURCE ≠ 0 → s.nvsNoWrite = false → gives (.keyLoad path true) s (fun t =>
      t.secEnded 0 ∧
      t.secu = { s.secu with keys := tset (fun _ => KeySlot.empty) s.secu.keys (s.rd SEC.KEY_SEL.SLOT) ⟨true, s.rd SEC.KEY_BIND.SOURCE, s.secBytes 0x200 8⟩ } ∧
      t.pageData (171 + s.rd SEC.KEY_SEL.SLOT / 10) = some (splice ((s.pageData (171 + s.rd SEC.KEY_SEL.SLOT / 10)).getD (zeros 496)) (48 * (s.rd SEC.KEY_SEL.SLOT % 10)) (kwWrap wrapKey (s.secBytes 0x200 8) ++ leBytes 2 (s.rd SEC.KEY_BIND.SOURCE) ++ [1] ++ zeros 5)) ∧
      ((s.pageSeq (171 + s.rd SEC.KEY_SEL.SLOT / 10)).toNat < 100000 ∧ (s.pageSeq 170).toNat < 100000 → s.logged t SEC.PAGE 0xF9 (fun a _ => a = t.secSts)) ∧
      s.within t [.regs, .bus, .log, .nvs, .secu, .sram] ([NVS.STS.key 0 0] ++ secKeys ++ logKeys SEC.PAGE ++ eventKeys SEC.PAGE ++ logKeys NVS.PAGE))) ∧
    (∀ (path : Path) (readOk : Bool), s.takes path SEC.PAGE 0x100 = true → s.rd SEC.RESULT.CODE ≠ 8 → s.mode.sec = .openS → s.rd SEC.KEY_BIND.SOURCE ≠ 0 → (readOk = false ∨ s.nvsNoWrite = true) → gives (.keyLoad path readOk) s (fun t =>
      t.secEnded 5 ∧
      s.logged t SEC.PAGE 0xF9 (fun a _ => a = t.secSts) ∧
      s.within t [.regs, .bus, .log, .sram] (secKeys ++ logKeys SEC.PAGE ++ eventKeys SEC.PAGE))) ∧
    (∀ (path : Path) (readOk : Bool), s.takes path SEC.PAGE 0x100 = true → s.rd SEC.RESULT.CODE ≠ 8 → s.mode.sec ≠ .openS → gives (.keyLoad path readOk) s (fun t =>
      t.secEnded 1 ∧
      s.logged t SEC.PAGE 0xF8 (fun a _ => a = t.secSts) ∧
      s.within t [.regs, .bus, .log, .sram] (secKeys ++ logKeys SEC.PAGE ++ eventKeys SEC.PAGE))) ∧
    (∀ (path : Path), s.takes path SEC.PAGE 0x100 = true → s.rd SEC.RESULT.CODE ≠ 8 → s.mode.sec = .openS → s.nvsNoWrite = false → (twf (fun _ => KeySlot.empty) s.secu.keys = true) → gives (.keyClear path) s (fun t =>
      t.secEnded 0 ∧
      tget (fun _ => KeySlot.empty) t.secu.keys (s.rd SEC.KEY_SEL.SLOT) = KeySlot.empty ∧
      (∀ k, k ≠ s.rd SEC.KEY_SEL.SLOT → tget (fun _ => KeySlot.empty) t.secu.keys k = tget (fun _ => KeySlot.empty) s.secu.keys k) ∧
      t.pageData (171 + s.rd SEC.KEY_SEL.SLOT / 10) = some (splice ((s.pageData (171 + s.rd SEC.KEY_SEL.SLOT / 10)).getD (zeros 496)) (48 * (s.rd SEC.KEY_SEL.SLOT % 10)) (zeros 48)) ∧
      ((s.pageSeq (171 + s.rd SEC.KEY_SEL.SLOT / 10)).toNat < 100000 ∧ (s.pageSeq 170).toNat < 100000 → s.logged t SEC.PAGE 0xF9 (fun a _ => a = t.secSts)) ∧
      s.within t [.regs, .bus, .log, .nvs, .secu, .sram] ([NVS.STS.key 0 0] ++ secKeys ++ logKeys SEC.PAGE ++ eventKeys SEC.PAGE ++ logKeys NVS.PAGE))) ∧
    (∀ (path : Path), s.takes path SEC.PAGE 0x100 = true → s.rd SEC.RESULT.CODE ≠ 8 → s.mode.sec ≠ .quarantined → s.rdB SEC.STS.FW_OK = true → gives (.svnCommit path) s (fun t =>
      t.secEnded 0 ∧
      t.secu = { s.secu with svnFuses := max s.secu.svnFuses (s.rd SEC.FW_STS.SVN) } ∧
      t.rd SEC.FW_STS.SVN_MIN = t.secu.svnFuses % 64 ∧
      s.logged t SEC.PAGE 0xFC (fun a _ => a = t.secSts) ∧
      s.within t [.regs, .bus, .log, .secu, .sram] ([SEC.FW_STS.KEY0_REVOKED.key 0 0] ++ secKeys ++ logKeys SEC.PAGE ++ eventKeys SEC.PAGE))) ∧
    (∀ (path : Path), s.takes path SEC.PAGE 0x100 = true → s.rd SEC.RESULT.CODE ≠ 8 → (s.mode.sec = .quarantined ∨ s.rdB SEC.STS.FW_OK = false) → gives (.svnCommit path) s (fun t =>
      t.secEnded 1 ∧
      s.logged t SEC.PAGE 0xF8 (fun a _ => a = t.secSts) ∧
      s.within t [.regs, .bus, .log, .sram] (secKeys ++ logKeys SEC.PAGE ++ eventKeys SEC.PAGE))) ∧
    (s.secu.lockAt + secWc 600 ≤ s.clk.now → gives .signatureLockoutEnd s (fun t =>
      t.secu = { s.secu with sigLock := false } ∧
      s.within t [.secu] [])) ∧
    (s.clk.now < s.secu.lockAt + secWc 600 → idle .signatureLockoutEnd s)

/-- Instructions of the test access port: Each instruction loads its code. IDCODE and SAMPLE/PRELOAD capture, and the
latter loads the boundary scan register; DBG_STS shows SEC.STS. A pin-driving instruction drives the pins while
Intrusive with no rail up, and otherwise sets SCAN_HELD and logs code 0xFA. Register and memory accesses are served
at the level of R445 with DATA, ADDR and STATUS in the data register; HALT stops the Sill controller and pauses its
watchdog, RESUME ends that; any other level makes them BYPASS. The points the spec leaves open in it follow the
model's own choices, log entries 11, 105, 157, 158, 159. (R67, R444, R445, R447, R470.) -/
def Obligations.TestAccessPort : Prop :=
  ∀ s : State,
    gives .idcode s (fun t =>
      t.boot.tapIr = 0x01 ∧
      t.boot.pinDrive = .none ∧
      t.boot.bsr = s.boot.bsr ∧
      t.freeCtr = s.freeCtr + 1 ∧
      s.within t [.boot, .freeCtr] []) ∧
    (∀ (cells : List Bool), gives (.samplePreload cells) s (fun t =>
      t.boot.tapIr = 0x02 ∧
      t.boot.pinDrive = .none ∧
      t.boot.bsr = cells ∧
      t.freeCtr = s.freeCtr + 1 ∧
      s.within t [.boot, .freeCtr] [])) ∧
    gives .dbgSts s (fun t =>
      t.boot = { s.boot with tapIr := 0x11, tapDr := BitVec.ofNat 64 s.secSts, pinDrive := .none } ∧
      s.within t [.boot] []) ∧
    gives .bypass s (fun t =>
      t.boot = { s.boot with tapIr := 0xFF, tapDr := 0, pinDrive := .none } ∧
      s.within t [.boot] []) ∧
    gives .testReset s (fun t =>
      t.boot = { s.boot with tapIr := 0x01, tapDr := 0, pinDrive := .none } ∧
      s.within t [.boot] []) ∧
    (s.mode.dbg = .intrusive → s.anyRailsUp = false → gives .extest s (fun t =>
      t.boot = { s.boot with tapIr := 0x03, tapDr := 0, pinDrive := .extest } ∧
      t.rdB DBG.STS.SCAN_HELD = false ∧
      s.within t [.regs, .boot] [DBG.STS.key 0 0])) ∧
    ((s.mode.dbg ≠ .intrusive ∨ s.anyRailsUp = true) → gives .extest s (fun t =>
      t.boot = { s.boot with tapIr := 0x03, tapDr := 0, pinDrive := .none } ∧
      t.rdB DBG.STS.SCAN_HELD = true ∧
      t.flag DBG.PAGE 3 ∧
      s.logged t DBG.PAGE 0xFA (fun a _ => a = t.dbgSts) ∧
      s.within t [.regs, .boot, .log, .sram] ([DBG.STS.key 0 0] ++ eventKeys DBG.PAGE ++ logKeys DBG.PAGE))) ∧
    (s.mode.dbg = .intrusive → s.anyRailsUp = false → gives .clamp s (fun t =>
      t.boot = { s.boot with tapIr := 0x04, tapDr := 0, pinDrive := .clamp } ∧
      t.rdB DBG.STS.SCAN_HELD = false ∧
      s.within t [.regs, .boot] [DBG.STS.key 0 0])) ∧
    ((s.mode.dbg ≠ .intrusive ∨ s.anyRailsUp = true) → gives .clamp s (fun t =>
      t.boot = { s.boot with tapIr := 0x04, tapDr := 0, pinDrive := .none } ∧
      t.rdB DBG.STS.SCAN_HELD = true ∧
      t.flag DBG.PAGE 3 ∧
      s.logged t DBG.PAGE 0xFA (fun a _ => a = t.dbgSts) ∧
      s.within t [.regs, .boot, .log, .sram] ([DBG.STS.key 0 0] ++ eventKeys DBG.PAGE ++ logKeys DBG.PAGE))) ∧
    (s.mode.dbg = .intrusive → s.anyRailsUp = false → gives .highz s (fun t =>
      t.boot = { s.boot with tapIr := 0x05, tapDr := 0, pinDrive := .highz } ∧
      t.rdB DBG.STS.SCAN_HELD = false ∧
      s.within t [.regs, .boot] [DBG.STS.key 0 0])) ∧
    ((s.mode.dbg ≠ .intrusive ∨ s.anyRailsUp = true) → gives .highz s (fun t =>
      t.boot = { s.boot with tapIr := 0x05, tapDr := 0, pinDrive := .none } ∧
      t.rdB DBG.STS.SCAN_HELD = true ∧
      t.flag DBG.PAGE 3 ∧
      s.logged t DBG.PAGE 0xFA (fun a _ => a = t.dbgSts) ∧
      s.within t [.regs, .boot, .log, .sram] ([DBG.STS.key 0 0] ++ eventKeys DBG.PAGE ++ logKeys DBG.PAGE))) ∧
    (s.mode.dbg = .intrusive → s.anyRailsUp = false → gives .extestPulse s (fun t =>
      t.boot = { s.boot with tapIr := 0x06, tapDr := 0, pinDrive := .pulse } ∧
      t.rdB DBG.STS.SCAN_HELD = false ∧
      s.within t [.regs, .boot] [DBG.STS.key 0 0])) ∧
    ((s.mode.dbg ≠ .intrusive ∨ s.anyRailsUp = true) → gives .extestPulse s (fun t =>
      t.boot = { s.boot with tapIr := 0x06, tapDr := 0, pinDrive := .none } ∧
      t.rdB DBG.STS.SCAN_HELD = true ∧
      t.flag DBG.PAGE 3 ∧
      s.logged t DBG.PAGE 0xFA (fun a _ => a = t.dbgSts) ∧
      s.within t [.regs, .boot, .log, .sram] ([DBG.STS.key 0 0] ++ eventKeys DBG.PAGE ++ logKeys DBG.PAGE))) ∧
    (s.mode.dbg = .intrusive → s.anyRailsUp = false → gives .extestTrain s (fun t =>
      t.boot = { s.boot with tapIr := 0x07, tapDr := 0, pinDrive := .train } ∧
      t.rdB DBG.STS.SCAN_HELD = false ∧
      s.within t [.regs, .boot] [DBG.STS.key 0 0])) ∧
    ((s.mode.dbg ≠ .intrusive ∨ s.anyRailsUp = true) → gives .extestTrain s (fun t =>
      t.boot = { s.boot with tapIr := 0x07, tapDr := 0, pinDrive := .none } ∧
      t.rdB DBG.STS.SCAN_HELD = true ∧
      t.flag DBG.PAGE 3 ∧
      s.logged t DBG.PAGE 0xFA (fun a _ => a = t.dbgSts) ∧
      s.within t [.regs, .boot, .log, .sram] ([DBG.STS.key 0 0] ++ eventKeys DBG.PAGE ++ logKeys DBG.PAGE))) ∧
    (s.attached = true → s.modulePends = false → gives (.jtagRegRd 0x12C) s (fun t =>
      t.answered .ok ∧
      t.boot = { s.boot with tapIr := 0x12, tapDr := BitVec.ofNat 64 ((s.reg (regKey 0 0 0x12C)).toNat + 0x12C * 2 ^ 32), pinDrive := .none } ∧
      s.within t [.boot, .bus] [])) ∧
    (∀ (addr : BitVec 24), s.attached = false → addr.toNat % 4 = 0 → pageRows (addr.toNat / 4096) ≠ none → s.modulePends = false → gives (.jtagRegRd addr) s (fun t =>
      t.answered .path ∧
      t.boot.tapIr = 0x12 ∧
      t.boot.tapDr.toNat / 2 ^ 32 % 2 ^ 24 = addr.toNat ∧
      s.within t [.boot, .bus] [])) ∧
    (∀ (v : BitVec 32), s.mode.dbg = .intrusive → s.rdB HDR.PG_CTL.LOCK 0 = false → s.modulePends = false → gives (.jtagRegWr 0x12C v) s (fun t =>
      t.answered .ok ∧
      t.reg (regKey 0 0 0x12C) = v ∧
      t.boot = { s.boot with tapIr := 0x13, tapDr := BitVec.ofNat 64 (v.toNat + 0x12C * 2 ^ 32), pinDrive := .none } ∧
      s.within t [.regs, .boot, .bus] [regKey 0 0 0x12C])) ∧
    (∀ (addr : BitVec 24) (v : BitVec 32), s.mode.dbg ≠ .intrusive → addr.toNat % 4 = 0 → pageRows (addr.toNat / 4096) ≠ none → s.modulePends = false → gives (.jtagRegWr addr v) s (fun t =>
      t.answered .path ∧
      t.boot.tapIr = 0x13 ∧
      s.within t [.boot, .bus] [])) ∧
    (∀ (addr : BitVec 37), s.attached = true → addr.toNat < hbmSize → s.mem.sealed = false → gives (.memRd addr) s (fun t =>
      t.boot = { s.boot with tapIr := 0x14, tapDr := 0, pinDrive := .none } ∧
      t.mem = { s.mem with reqNo := s.mem.reqNo + 1, q := s.mem.q ++ [⟨s.mem.reqNo, .background, .debug, addr.toNat / 4 * 4, 4, none, s.clk.now, false⟩] } ∧
      s.within t [.boot, .mem] [])) ∧
    (∀ (addr : BitVec 37), s.attached = true → addr.toNat < hbmSize → s.mem.sealed = true → gives (.memRd addr) s (fun t =>
      t.boot = { s.boot with tapIr := 0x14, tapDr := 0, pinDrive := .none } ∧
      t.mem = { s.mem with held := s.mem.held ++ [⟨0, .background, .debug, addr.toNat / 4 * 4, 4, none, s.clk.now, false⟩] } ∧
      s.within t [.boot, .mem] [])) ∧
    (∀ (addr : BitVec 37), s.attached = true → hbmSize ≤ addr.toNat → gives (.memRd addr) s (fun t =>
      t.boot = { s.boot with tapIr := 0x14, tapDr := 0, pinDrive := .none } ∧
      t.mem.resp = .addr ∧
      s.logged t DMC.PAGE 0x89 (fun _ _ => True) ∧
      s.within t [.regs, .boot, .log, .mem, .sram] (logKeys DMC.PAGE))) ∧
    (∀ (addr : BitVec 37), s.attached = false → gives (.memRd addr) s (fun t =>
      t.boot = { s.boot with tapIr := 0x14, tapDr := 0, pinDrive := .none } ∧
      s.within t [.boot] [])) ∧
    (∀ (addr : BitVec 37) (data : BitVec 32), s.mode.dbg = .intrusive → addr.toNat < hbmSize → s.mem.sealed = false → gives (.memWr addr data) s (fun t =>
      t.boot = { s.boot with tapIr := 0x15, tapDr := 0, pinDrive := .none } ∧
      t.mem = { s.mem with reqNo := s.mem.reqNo + 1, q := s.mem.q ++ [⟨s.mem.reqNo, .background, .debug, addr.toNat / 4 * 4, 4, some (leBytes 4 data.toNat), s.clk.now, false⟩] } ∧
      s.within t [.boot, .mem] [])) ∧
    (∀ (addr : BitVec 37) (data : BitVec 32), s.mode.dbg ≠ .intrusive → gives (.memWr addr data) s (fun t =>
      t.boot = { s.boot with tapIr := 0x15, tapDr := 0, pinDrive := .none } ∧
      s.within t [.boot] [])) ∧
    (s.mode.dbg = .intrusive → s.mode.power ≠ .discharge → s.boot.halted = false → gives .halt s (fun t =>
      t.boot = { s.boot with tapIr := 0x16, tapDr := 0, pinDrive := .none, halted := true, wdgMs := s.clk.now - s.boot.wdgMs } ∧
      t.rdB DBG.STS.HALTED = true ∧
      t.rdB SIL.CPU_STS.HALTED = true ∧
      t.rdB SIL.CPU_STS.WDG_PAUSED = true ∧
      s.within t [.regs, .boot] [DBG.STS.key 0 0, SIL.CPU_STS.key 0 0])) ∧
    (s.mode.dbg ≠ .intrusive → gives .halt s (fun t =>
      t.boot = { s.boot with tapIr := 0x16, tapDr := 0, pinDrive := .none } ∧
      s.within t [.boot] [])) ∧
    (s.mode.dbg = .intrusive → s.boot.halted = true → gives .resume s (fun t =>
      t.boot = { s.boot with tapIr := 0x17, tapDr := 0, pinDrive := .none, halted := false, wdgMs := s.clk.now - s.boot.wdgMs } ∧
      t.rdB DBG.STS.HALTED = false ∧
      t.rdB SIL.CPU_STS.HALTED = false ∧
      t.rdB SIL.CPU_STS.WDG_PAUSED = false ∧
      s.within t [.regs, .boot] [DBG.STS.key 0 0, SIL.CPU_STS.key 0 0])) ∧
    (s.mode.dbg ≠ .intrusive → gives .resume s (fun t =>
      t.boot = { s.boot with tapIr := 0x17, tapDr := 0, pinDrive := .none } ∧
      s.within t [.boot] []))

/-- The debug port: attachment, the Intrusive grant and its end: A probe that has been present for 10 ms attaches as
Observe with code 0xF5. A request for Intrusive sets INT_PEND and withdraws the keys outside Open, and a takeover or
the Shutter exit goes first. The grant waits for HOLD_RDY, never comes in Discharge, logs 0xF6, counts in the
INTRUSIVE counter and starts the verification sweep. The probe's request 0, or its absence for 10 ms, ends it with
code 0xF7 and resumes a halted processor; keys stay withdrawn. The points the spec leaves open in it follow the
model's own choices, log entries 160, 161, 236. (R169, R444, R446, R448, R450, R453.) -/
def Obligations.DebugAttachment : Prop :=
  ∀ s : State,
    (s.mode.supply ≠ .off → s.mode.dbg = .detached → s.mode.power ≠ .discharge → gives .debugAttach s (fun t =>
      t.mode = { s.mode with dbg := .observe } ∧
      t.rdB DBG.STS.PRESENT = true ∧
      t.flag DBG.PAGE 0 ∧
      s.logged t DBG.PAGE 0xF5 (fun a _ => a = t.dbgSts) ∧
      s.within t [.regs, .mode, .log, .sram] ([DBG.STS.key 0 0] ++ eventKeys DBG.PAGE ++ logKeys DBG.PAGE))) ∧
    (s.mode.supply ≠ .off → s.mode.dbg = .detached → s.mode.power = .discharge → gives .debugAttach s (fun t =>
      t.mode = { s.mode with dbg := .observe } ∧
      t.log.wait = s.log.wait ∧
      s.within t [.regs, .mode, .log, .sram] ([DBG.STS.key 0 0] ++ eventKeys DBG.PAGE))) ∧
    (s.mode.dbg ≠ .intrusive → gives .debugDetach s (fun t =>
      t.mode = { s.mode with dbg := .detached } ∧
      t.rdB DBG.STS.PRESENT = false ∧
      t.rdB SEC.STS.INT_PEND = false ∧
      s.within t [.regs, .mode] [DBG.STS.key 0 0, SEC.STS.key 0 0])) ∧
    (s.mode.dbg = .intrusive → s.isStandby = false → gives .debugDetach s (fun t =>
      t.mode = { s.mode with dbg := .detached } ∧
      t.boot.halted = false ∧
      t.boot.pinDrive = .none ∧
      t.flag DBG.PAGE 2 ∧
      t.rd DBG.END_LO.STAMP + t.rd DBG.END_HI.STAMP * 2 ^ 32 = s.stamp ∧
      s.logged t DBG.PAGE 0xF7 (fun a _ => a = t.dbgSts) ∧
      t.rd SEC.STS.KEYS_HIDDEN = s.rd SEC.STS.KEYS_HIDDEN ∧
      s.within t [.regs, .mode, .boot, .log, .frs, .sram] ([DBG.STS.key 0 0, SEC.STS.key 0 0, SIL.CPU_STS.key 0 0, DBG.END_LO.STAMP.key 0 0, DBG.END_HI.STAMP.key 0 0, FRS.BOUND.BE.key 0 0, FRS.NOW.T.key 0 0] ++ eventKeys DBG.PAGE ++ logKeys DBG.PAGE))) ∧
    (s.mode.dbg = .intrusive → s.role = 4 → gives .debugDetach s (fun t =>
      t.mode.dbg = .detached ∧
      t.rd LEF.STS.ROLE = 3)) ∧
    (s.mode.dbg = .intrusive → s.isStandby = false → gives (.dbgReq 0) s (fun t =>
      t.mode = { s.mode with dbg := .observe } ∧
      t.rd DBG.STS.REQ = 0 ∧
      t.boot.halted = false ∧
      t.flag DBG.PAGE 2 ∧
      s.logged t DBG.PAGE 0xF7 (fun a _ => a = t.dbgSts) ∧
      t.rd SEC.STS.KEYS_HIDDEN = s.rd SEC.STS.KEYS_HIDDEN ∧
      s.within t [.regs, .mode, .boot, .log, .frs, .sram] ([DBG.STS.key 0 0, SEC.STS.key 0 0, SIL.CPU_STS.key 0 0, DBG.END_LO.STAMP.key 0 0, DBG.END_HI.STAMP.key 0 0, FRS.BOUND.BE.key 0 0, FRS.NOW.T.key 0 0] ++ eventKeys DBG.PAGE ++ logKeys DBG.PAGE))) ∧
    (s.mode.dbg = .observe → gives (.dbgReq 0) s (fun t =>
      t.rdB SEC.STS.INT_PEND = false ∧
      t.rd DBG.STS.REQ = 0 ∧
      t.boot = { s.boot with tapIr := 0x10, tapDr := 0, pinDrive := .none } ∧
      s.within t [.regs, .boot] [DBG.STS.key 0 0, SEC.STS.key 0 0])) ∧
    (s.mode.dbg = .observe → s.rdB SEC.STS.INT_PEND = false → s.mode.sec ≠ .openS → s.mode.power ≠ .shutter → gives (.dbgReq 2) s (fun t =>
      t.rdB SEC.STS.INT_PEND = true ∧
      t.rd DBG.STS.REQ = 2 ∧
      t.rdB SEC.STS.KEYS_HIDDEN = true ∧
      t.boot = { s.boot with tapIr := 0x10, tapDr := 0, pinDrive := .none } ∧
      (t.leaf = if s.role = 2 ∧ s.rd LEF.STS.PARTNER_ROLE = 4 ∧ s.leaf.demoteCause = 0 ∧ s.leaf.tau.isNone then { s.leaf with demoteCause := 6 } else s.leaf) ∧
      s.within t [.regs, .boot, .leaf] [DBG.STS.key 0 0, SEC.STS.key 0 0])) ∧
    (s.mode.dbg = .observe → s.rdB SEC.STS.INT_PEND = false → s.mode.power = .shutter → s.rd SCN.SHUT_STS.STATE = 4 → gives (.dbgReq 2) s (fun t =>
      t.rdB SEC.STS.INT_PEND = true ∧
      t.rd SCN.SHUT_STS.STATE = 5 ∧
      t.rdB SCN.SHUT_CTL.REQ = false)) ∧
    (∀ (req : BitVec 2), s.attached = false → gives (.dbgReq req) s (fun t =>
      t.boot = { s.boot with tapIr := 0x10, tapDr := 0, pinDrive := .none } ∧
      s.within t [.boot] [])) ∧
    (s.rdB SEC.STS.INT_PEND = true → s.rdB SYS.PWR_STS.HOLD_RDY = true → s.mode.power ≠ .discharge → s.mode.power ≠ .shutter → s.leaf.tau = none → (¬(s.role = 2 ∧ s.leaf.demoteCause ≠ 0 ∧ s.rd LEF.STS.PARTNER_ROLE = 4)) → s.role ≠ 4 → gives .intrusiveGrant s (fun t =>
      t.mode = { s.mode with dbg := .intrusive } ∧
      t.rdB SEC.STS.INT_PEND = false ∧
      t.rdB SEC.STS.KEYS_HIDDEN = (s.mode.sec != .openS || s.rdB SEC.STS.KEYS_HIDDEN) ∧
      t.rd DBG.CNT.COUNT = min 0xFFFF (s.rd DBG.CNT.COUNT + 1) ∧
      t.rd DBG.GRANT_LO.STAMP + t.rd DBG.GRANT_HI.STAMP * 2 ^ 32 = s.stamp ∧
      t.flag DBG.PAGE 1 ∧
      (s.nvs.jrnlOn = false ∧ s.counter 6 < 0xFFFFFFFF → t.counter 6 = s.counter 6 + 1) ∧
      t.frs.verSweep = some 0 ∧
      s.within t [.regs, .mode, .log, .frs, .nvs, .sram] ([NVS.STS.key 0 0, SEC.STS.key 0 0, DBG.CNT.COUNT.key 0 0, DBG.GRANT_LO.STAMP.key 0 0, DBG.GRANT_HI.STAMP.key 0 0, FRS.TIME_STS.key 0 0, FRS.BOUND.BE.key 0 0, FRS.NOW.T.key 0 0] ++ logKeys NVS.PAGE ++ eventKeys DBG.PAGE ++ logKeys DBG.PAGE ++ logKeys FRS.PAGE))) ∧
    ((s.rdB SEC.STS.INT_PEND = false ∨ s.rdB SYS.PWR_STS.HOLD_RDY = false ∨ s.mode.power = .discharge ∨ s.mode.power = .shutter ∨ s.leaf.tau ≠ none ∨ (s.role = 2 ∧ s.leaf.demoteCause ≠ 0 ∧ s.rd LEF.STS.PARTNER_ROLE = 4)) → idle .intrusiveGrant s)

/-- Warm reset, module reset, the watchdog and the management link: A warm reset outside the Weaver's raster starts the
module anew at stage 5 with the page locks ended, the blocks it names off, the Coil context slots empty, and the
rest of HBM, the residues, time, address, rails and fuses as they were; under the Weaver's raster it waits for the
end of the waveform cycle. Where another reset, a start, a discharge or Thermal-stop runs it is ignored with code
0x2B. A module reset waits for the discharge of the panel, then starts from stage 0 with RST_CAUSE 2. The watchdog
counts an expiry and restarts the Sill controller; only firmware's key services it. The points the spec leaves open
in it follow the model's own choices, log entries 22, 34, 51, 58, 68, 97, 98, 99, 100, 101, 102, 178, 223, 231, 238.
(R44, R67, R68, R69, R459, R474.) -/
def Obligations.Resets : Prop :=
  ∀ s : State,
    (∀ (path : Path), s.takes path 0x000 0x168 = true → s.mode.raster ≠ .weaver → s.boot.warm = false → s.boot.modReset = false → s.boot.starting = false → s.mode.power ≠ .discharge → s.mode.power ≠ .thermalStop → gives (.warmReset path) s (fun t =>
      t.answered .ok ∧
      t.rd SYS.RST_CAUSE.CAUSE = 1 ∧
      t.rd SYS.START_STS.STAGE = 5 ∧
      t.boot.warm = true ∧
      t.mode = { s.mode with power := .sill } ∧
      (∀ p : Fin 4096, t.rdB HDR.PG_CTL.LOCK p = false) ∧
      t.rd LEF.STS.ROLE = 0 ∧
      (s.rd DMC.SR_STS.STATE = 0 ∨ s.rd DMC.SR_STS.STATE = 3 → t.rd DMC.SR_STS.CAUSE = 3) ∧
      (∀ p : Fin 40, t.rd LAN.PORT_STS.STATE 0 p = 0) ∧
      t.rdB SIL.CPU_STS.FW = false ∧
      t.rd FAB.ADDR_STS = s.rd FAB.ADDR_STS ∧
      (∀ h : Fin 2, t.rdB PDV.RAIL_STS.UP h = s.rdB PDV.RAIL_STS.UP h) ∧
      (∀ a, (a < s.addr37 COL.CTX_BASE_LO COL.CTX_BASE_HI ∨ s.addr37 COL.CTX_BASE_LO COL.CTX_BASE_HI + ctxBytes * 4096 ≤ a) → tget memDefault t.ram.hbm a = tget memDefault s.ram.hbm a) ∧
      s.keeps t [.regs, .eff, .mode, .boot, .bus, .log, .mem, .scene, .coil, .wv, .frs, .scan, .weft, .lan, .fab, .leaf, .thm, .freeCtr, .hbm, .sram])) ∧
    (∀ (path : Path), s.takes path 0x000 0x168 = true → s.mode.raster = .weaver → s.boot.warm = false → s.boot.modReset = false → s.boot.starting = false → s.mode.power ≠ .discharge → s.mode.power ≠ .thermalStop → gives (.warmReset path) s (fun t =>
      t.answered .ok ∧
      t.panel = { s.panel with resetPend := some .warm } ∧
      t.boot = { s.boot with warm := true } ∧
      s.within t [.panel, .boot, .bus] [])) ∧
    (∀ (path : Path), s.takes path 0x000 0x168 = true → (s.boot.warm = true ∨ s.boot.modReset = true ∨ s.boot.starting = true ∨ s.mode.power = .discharge ∨ s.mode.power = .thermalStop) → gives (.warmReset path) s (fun t =>
      t.answered .ignored ∧
      s.logged t SYS.PAGE 0x2B (fun a _ => a = 0xCA5E0001) ∧
      s.within t [.regs, .bus, .log, .sram] (logKeys SYS.PAGE))) ∧
    (∀ (path : Path), s.takes path 0x000 0x168 = true → s.mode.power ≠ .discharge → s.modulePends = false → s.panelDown = false → gives (.moduleReset path) s (fun t =>
      t.answered .ok ∧
      t.panel = { s.panel with resetPend := some .module, resetLate := s.mode.raster == .weaver && s.phase == 3 && s.pastGates } ∧
      t.boot = { s.boot with modReset := true, warm := false } ∧
      s.within t [.panel, .boot, .bus] [])) ∧
    (∀ (path : Path), s.takes path 0x000 0x168 = true → s.mode.power ≠ .discharge → s.panelDown = true → gives (.moduleReset path) s (fun t =>
      t.answered .ok ∧
      t.rd SYS.RST_CAUSE.CAUSE = 2 ∧
      t.panel.resetPend = none ∧
      t.boot.starting = true ∧
      t.boot.done = 0 ∧
      t.mode.raster = .off ∧
      t.secu.trans = s.secu.trans ∧
      t.secu.owners = s.secu.owners ∧
      t.rd SYS.PWR_STS.HOLD_MS = 0 ∧
      t.rdB SYS.PWR_STS.HOLD_DEGR = false ∧
      t.rdB SYS.PWR_STS.HOLD_RDY = s.rdB SYS.PWR_STS.HOLD_RDY)) ∧
    (∀ (path : Path), s.takes path 0x000 0x168 = true → s.mode.power = .discharge → gives (.moduleReset path) s (fun t =>
      t.answered .ignored ∧
      s.logged t SYS.PAGE 0x2B (fun a _ => a = 0xCA5E0002) ∧
      s.within t [.regs, .bus, .log, .sram] (logKeys SYS.PAGE))) ∧
    (s.rdB SIL.CPU_STS.FW = true → s.boot.halted = false → 3200000000 ≤ s.clk.now - s.boot.wdgMs → gives .watchdogReset s (fun t =>
      t.rd SYS.RST_CAUSE.CAUSE = 4 ∧
      t.rd SIL.WDG_STS.EXPIRIES = min 0xFFFF (s.rd SIL.WDG_STS.EXPIRIES + 1) ∧
      t.boot = { s.boot with wdgMs := s.clk.now } ∧
      s.within t [.regs, .boot] [SYS.RST_CAUSE.key 0 0, SIL.WDG_STS.key 0 0])) ∧
    ((s.rdB SIL.CPU_STS.FW = false ∨ s.boot.halted = true ∨ s.clk.now - s.boot.wdgMs < 3200000000) → idle .watchdogReset s) ∧
    (s.takes .firmware SIL.PAGE 0x104 = true → gives (.watchdogService .firmware 0xA5C3) s (fun t =>
      t.answered .ok ∧
      (t.boot = { s.boot with wdgMs := if s.boot.halted then 0 else s.clk.now }) ∧
      s.within t [.boot, .bus] [])) ∧
    (∀ (path : Path) (v : BitVec 32), s.takes path SIL.PAGE 0x104 = true → (path ≠ .firmware ∨ v ≠ 0xA5C3) → gives (.watchdogService path v) s (fun t =>
      t.answered .ignored ∧
      s.logged t SYS.PAGE 0x28 (fun a b => a = 0x1104 + path.num * 2 ^ 24 ∧ b = v.toNat) ∧
      s.within t [.regs, .bus, .log, .sram] (logKeys SYS.PAGE))) ∧
    (∀ (up : Bool) (speed : Fin 2), gives (.managementLinkChange up speed) s (fun t =>
      s.fieldsTo t (SYS.MGMT_STS.LINK.key 0 0) [(SYS.MGMT_STS.LINK, b2n up), (SYS.MGMT_STS.SPEED, if up then speed.val + 1 else 0)] ∧
      s.within t [.regs] [SYS.MGMT_STS.LINK.key 0 0]))

/-- Register writes and reads by any path: A write that passes the checks does what its register does and answers with
its status; a register of plain bits takes its defined bits, and any other register keeps its value. A misaligned
address and a path not served answer UNALIGNED and PATH and do nothing; a locked page answers LOCKED with a
locked-write record. A read of a read-to-clear register returns its count but for what rose in the weave cycle of
the read, which it keeps for the next one (log entry 180). Either access is taken in every state; by a path that is
not open it changes nothing. The points the spec leaves open in it follow the model's own choices, log entries 15,
38, 162, 163, 164, 180. (R9, R10, R11, R435, R459, R461, R465, R484.) -/
def Obligations.RegisterAccess : Prop :=
  ∀ s : State,
    (∀ (path : Path) (addr : BitVec 24) (v : BitVec 32), gives (.registerWrite path addr v) s (fun t =>
      t.pending = s.pending ∧
      (s.pathOpen path = false → t = s))) ∧
    (∀ (path : Path) (addr : BitVec 24) (same : BitVec 32), gives (.rcRead path addr same) s (fun t =>
      t.pending = s.pending ∧
      (s.pathOpen path = false → t = s))) ∧
    (∀ (path : Path) (v : BitVec 32), s.takes path 0 0x12C = true → gives (.registerWrite path 0x12C v) s (fun t =>
      t.answered .ok ∧
      t.bus.last.data = v ∧
      (t.reg (regKey 0 0 0x12C)).toNat = v.toNat ∧
      s.within t [.regs, .bus] [regKey 0 0 0x12C])) ∧
    (∀ (path : Path) (addr : BitVec 24) (v : BitVec 32), addr.toNat % 4 ≠ 0 → s.pathOpen path = true → s.modulePends = false → gives (.registerWrite path addr v) s (fun t =>
      t.bus = { s.bus with last := ⟨.unaligned, 0⟩ } ∧
      s.within t [.bus] [])) ∧
    (∀ (path : Path) (addr : BitVec 24) (v : BitVec 32), addr.toNat % 4 = 0 → pageRows (addr.toNat / 4096) ≠ none → s.pathServed path true = false → s.pathOpen path = true → s.modulePends = false → gives (.registerWrite path addr v) s (fun t =>
      t.bus = { s.bus with last := ⟨.path, 0⟩ } ∧
      s.within t [.bus] [])) ∧
    (∀ (path : Path) (v : BitVec 32), s.rdB HDR.PG_CTL.LOCK 0 = true → s.pathServed path true = true → s.pathOpen path = true → s.modulePends = false → gives (.registerWrite path 0x12C v) s (fun t =>
      t.answered .locked ∧
      t.reg (regKey 0 0 0x12C) = s.reg (regKey 0 0 0x12C) ∧
      s.logged t SYS.PAGE 0x29 (fun a b => a = 0x12C + path.num * 2 ^ 24 ∧ b = v.toNat) ∧
      s.within t [.regs, .bus, .log, .sram] (logKeys SYS.PAGE))) ∧
    (∀ (path : Path) (page off : Nat) (same : BitVec 32) (r : RegRow), s.shows path = true → page < 4096 → off % 4 = 0 → off < 0x800 → rowOf page off = some r → r.acc = .rc → s.computed path page off = none → (roPairs.all (fun q => q.1 != page || (q.2.1 != off && q.2.2 != off)) = true) → gives (.rcRead path (BitVec.ofNat 24 (page * 4096 + off)) same) s (fun t =>
      t.answered .ok ∧
      t.bus.last.data.toNat = (s.reg (regKey (s.itemOf path page off) page off)).toNat - same.toNat ∧
      (t.reg (regKey (s.itemOf path page off) page off)).toNat = min same.toNat (s.reg (regKey (s.itemOf path page off) page off)).toNat ∧
      (off = 0x01C → t.reg (regKey 0 page 0x020) = if (s.reg (regKey (s.itemOf path page off) page off)).toNat ≤ same.toNat ∧ 0 < (s.reg (regKey (s.itemOf path page off) page off)).toNat then s.reg (regKey 0 page 0x020) else 0) ∧
      s.within t [.regs, .bus] [regKey (s.itemOf path page off) page off, regKey 0 page 0x020]))

/-- Page lock, soft reset, event flags by register, and the event rings: PG_CTL.LOCK stays once set. A soft reset
returns the RW and RC registers, PG_EVT and PG_ERR_FIRST of its page to their defaults and keeps the lock; where it
is refused it answers IGNORED with code 0x28. Writing PG_EVT clears the written flags alone. PG_EVT_FORCE sets the
page's own flags in Open and answers LOCKED elsewhere. A flag that is set and enabled gives one record at HEAD of
each ring, with the beam stamp, the page, the bit and the ring's own number, and HEAD moves on; a full ring drops
it, counts it in DROP and sets OVF while its number still advances. A TAIL write within the filled span makes room,
and after an overflow logs code 0x38 with the number of records lost and clears OVF; a TAIL write of ring 0 by
another path than the firmware, or outside the filled span, is ignored. The points the spec leaves open in it follow
the model's own choices, log entries 22, 47, 84, 85, 166, 167, 237, 238. (R457, R458, R459, R465, R480, R481, R482.) -/
def Obligations.HeadersAndRings : Prop :=
  ∀ s : State,
    (∀ (path : Path) (p : BitVec 12) (v : BitVec 32), s.takes path p.toNat 0x008 = true → gives (.pageLock path p v) s (fun t =>
      t.answered .ok ∧
      t.rdB HDR.PG_CTL.LOCK p.toNat = true ∧
      t.rd HDR.PG_CTL.ENA p.toNat = v.toNat % 2 ∧
      s.within t [.regs, .bus] [HDR.PG_CTL.LOCK.key (p.toNat) 0])) ∧
    (∀ (path : Path) (p : BitVec 12) (v : BitVec 32), s.takes path p.toNat 0x008 = true → s.softRefused p.toNat = false → bit v.toNat 2 = false → gives (.softReset path p v) s (fun t =>
      t.answered .ok ∧
      t.rdB HDR.PG_CTL.LOCK p.toNat = s.rdB HDR.PG_CTL.LOCK p.toNat ∧
      t.rd HDR.PG_EVT p.toNat = 0 ∧
      t.rd HDR.PG_ERR_CNT.COUNT p.toNat = 0 ∧
      (∀ k, softDrops p.toNat k = true → k ≠ HDR.PG_CTL.LOCK.key p.toNat 0 → k ∉ [WV.MAP_CTL.NSTK.key 0 0, WV.MAP_CTL.NSTK.key 1 0] → t.reg k = regReset k))) ∧
    (∀ (path : Path) (p : BitVec 12) (v : BitVec 32), s.takes path p.toNat 0x008 = true → s.softRefused p.toNat = true → gives (.softReset path p v) s (fun t =>
      t.answered .ignored ∧
      s.logged t SYS.PAGE 0x28 (fun a b => a = p.toNat * 4096 + 8 + path.num * 2 ^ 24 ∧ b = setBits v.toNat 1 1 1) ∧
      s.within t [.regs, .bus, .log, .sram] (logKeys SYS.PAGE))) ∧
    (∀ (path : Path) (p : BitVec 12) (v : BitVec 32), s.takes path p.toNat 0x010 = true → gives (.pgEvtClear path p v) s (fun t =>
      t.answered .ok ∧
      (∀ i : Fin 32, bit (t.rd HDR.PG_EVT p.toNat) i = (bit (s.rd HDR.PG_EVT p.toNat) i && !bit v.toNat i)) ∧
      s.within t [.regs, .bus] [HDR.PG_EVT.key (p.toNat) 0])) ∧
    (∀ (path : Path) (p : BitVec 12) (v : BitVec 32), s.takes path p.toNat 0x018 = true → p.toNat ≠ 0x070 → p.toNat ≠ 0x071 → gives (.pgEvtForce path p v) s (fun t =>
      t.answered .ok ∧
      (∀ i : Fin 32, bit (t.rd HDR.PG_EVT p.toNat) i = (bit (s.rd HDR.PG_EVT p.toNat) i || bit v.toNat i && bit (pageEvents p.toNat) i)) ∧
      s.within t [.regs, .bus, .log, .sram] (eventKeys p.toNat))) ∧
    (∀ (path : Path) (p : BitVec 12) (v : BitVec 32), s.mode.sec ≠ .openS → pageRows p.toNat ≠ none → s.pathOpen path = true → s.pathServed path true = true → s.modulePends = false → gives (.pgEvtForce path p v) s (fun t =>
      t.answered .locked ∧
      s.logged t SYS.PAGE 0x29 (fun a b => a = p.toNat * 4096 + 0x018 + path.num * 2 ^ 24 ∧ b = v.toNat) ∧
      s.within t [.regs, .bus, .log, .sram] (logKeys SYS.PAGE))) ∧
    (∀ (path : Path) (p : BitVec 12) (b : Nat), s.takes path p.toNat 0x018 = true → p.toNat ≠ 0x070 → p.toNat ≠ 0x071 → b < 32 → bit (pageEvents p.toNat) b = true → s.rdB HDR.PG_CTL.ENA p.toNat = true → bit (s.rd HDR.PG_EVT_EN p.toNat) b = true → s.rd EVT.BASE.OFS 0 = 0x03FE0000 → s.rd EVT.BASE.OFS 1 = 0x03FF0000 → gives (.pgEvtForce path p (BitVec.ofNat 32 (2 ^ b))) s (fun t =>
      (∀ r : Fin 2, s.evFill r ≠ 4095 → t.sramRd (s.rd EVT.BASE.OFS r + 16 * s.rd EVT.HEAD.INDEX r) 16 = evRecord s.stamp (pageType p.toNat) (pageInst p.toNat) b true s.log.evSeq[r].toNat ∧ t.rd EVT.HEAD.INDEX r = (s.rd EVT.HEAD.INDEX r + 1) % 4096) ∧
      (∀ r : Fin 2, s.evFill r = 4095 → t.rd EVT.HEAD.INDEX r = s.rd EVT.HEAD.INDEX r ∧ t.rdB EVT.STS.OVF r = true ∧ t.rd EVT.DROP r = min 0xFFFFFFFF (s.rd EVT.DROP r + 1)) ∧
      (∀ r : Fin 2, t.log.evSeq[r] = if s.log.evSeq[r] = 0xFFFFFFFF then 1 else s.log.evSeq[r] + 1) ∧
      s.within t [.regs, .bus, .log, .sram] (eventKeys p.toNat))) ∧
    (∀ (path : Path) (r : Fin 2) (v : BitVec 32), s.takes path (0x070 + r.val) 0x108 = true → (r = 0 → path = .firmware) → (v.toNat % 4096 + 4096 - s.rd EVT.TAIL.INDEX r) % 4096 ≤ s.evFill r → s.rdB EVT.STS.OVF r = false → gives (.eventRingTailWrite path r v) s (fun t =>
      t.answered .ok ∧
      t.rd EVT.TAIL.INDEX r = v.toNat % 4096 ∧
      s.within t [.regs, .bus] [EVT.TAIL.key (r.val) 0])) ∧
    (∀ (path : Path) (r : Fin 2) (v : BitVec 32), s.takes path (0x070 + r.val) 0x108 = true → (r = 0 → path = .firmware) → (v.toNat % 4096 + 4096 - s.rd EVT.TAIL.INDEX r) % 4096 ≤ s.evFill r → v.toNat % 4096 ≠ s.rd EVT.TAIL.INDEX r → s.rdB EVT.STS.OVF r = true → gives (.eventRingTailWrite path r v) s (fun t =>
      t.answered .ok ∧
      t.rd EVT.TAIL.INDEX r = v.toNat % 4096 ∧
      t.rdB EVT.STS.OVF r = false ∧
      t.log.evLost[r] = 0 ∧
      s.logged t (0x070 + r.val) 0x38 (fun _ b => b = s.log.evLost[r]) ∧
      s.within t [.regs, .bus, .log, .sram] ([EVT.TAIL.key (r.val) 0, EVT.STS.key (r.val) 0] ++ logKeys (0x070+r.val)))) ∧
    (∀ (path : Path) (r : Fin 2) (v : BitVec 32), s.takes path (0x070 + r.val) 0x108 = true → ((r = 0 ∧ path ≠ .firmware) ∨ s.evFill r < (v.toNat % 4096 + 4096 - s.rd EVT.TAIL.INDEX r) % 4096) → gives (.eventRingTailWrite path r v) s (fun t =>
      t.answered .ignored ∧
      s.logged t SYS.PAGE 0x28 (fun a b => a = (0x070 + r.val) * 4096 + 0x108 + path.num * 2 ^ 24 ∧ b = v.toNat) ∧
      s.within t [.regs, .bus, .log, .sram] (logKeys SYS.PAGE)))

/-- Window pages and register access frames: A read of a window word returns the memory bytes at the mapped block, least
significant byte first; a write stores them. An access at or beyond 96 GiB answers MEMERR, returns 0, shows in
WIN_STS and logs 0x89; so does a read of an uncorrectable burst, which counts in ECC_UNC instead. Hub SRAM is
written in Open and in the Sill power state only, else the write is IGNORED. A well-formed frame of one write of
SYS.SCRATCH writes it and sends a response of the same length that carries the status, the address and the new
value; the response is stored for its source. The same SEQ again returns the stored response and counts in RAP_DUP
without running; a malformed frame is dropped and counted in RAP_BAD. The points the spec leaves open in it follow
the model's own choices, log entries 56, 129, 156, 165, 214. (R455, R461, R465, R473, R463, R466, R467, R468.) -/
def Obligations.WindowsAndFrames : Prop :=
  ∀ s : State,
    (∀ (path : Path) (p : BitVec 12) (k : Fin 512), s.shows path = true → 0x100 ≤ p.toNat → p.toNat < 0x180 → s.winAddr p.toNat (0x800 + 4 * k.val) < hbmSize → s.firstBad (s.winAddr p.toNat (0x800 + 4 * k.val)) 4 = none → gives (.windowRead path p k) s (fun t =>
      t.answered .ok ∧
      t.bus.last.data = BitVec.ofNat 32 (leNat (s.hbmRd (s.winAddr p.toNat (0x800 + 4 * k.val)) 4)) ∧
      s.within t [.regs, .bus] [regKey 0 p.toNat 0x108])) ∧
    (∀ (path : Path) (p : BitVec 12) (k : Fin 512), s.shows path = true → 0x100 ≤ p.toNat → p.toNat < 0x180 → hbmSize ≤ s.winAddr p.toNat (0x800 + 4 * k.val) → gives (.windowRead path p k) s (fun t =>
      t.answered .memerr ∧
      t.bus.last.data = 0 ∧
      t.reg (regKey 0 p.toNat 0x108) = 2 ∧
      s.logged t DMC.PAGE 0x89 (fun a b => a = s.winAddr p.toNat (0x800 + 4 * k.val) % 2 ^ 32 ∧ b = s.winAddr p.toNat (0x800 + 4 * k.val) / 2 ^ 32) ∧
      s.within t [.regs, .bus, .log, .sram] ([regKey 0 p.toNat 0x108] ++ logKeys DMC.PAGE))) ∧
    (∀ (path : Path) (p : BitVec 12) (k : Fin 512), s.shows path = true → 0x100 ≤ p.toNat → p.toNat < 0x180 → s.winAddr p.toNat (0x800 + 4 * k.val) < hbmSize → s.firstBad (s.winAddr p.toNat (0x800 + 4 * k.val)) 4 ≠ none → gives (.windowRead path p k) s (fun t =>
      t.answered .memerr ∧
      t.bus.last.data = 0 ∧
      t.reg (regKey 0 p.toNat 0x108) = 1 ∧
      t.rd DMC.ECC_UNC = min 0xFFFFFFFF (s.rd DMC.ECC_UNC + 1))) ∧
    (∀ (path : Path) (p : BitVec 12) (k : Fin 512), s.shows path = true → 0x200 ≤ p.toNat → p.toNat < 0x238 → gives (.windowRead path p k) s (fun t =>
      t.answered .ok ∧
      t.bus.last.data = BitVec.ofNat 32 (leNat (s.sramRd (s.winAddr p.toNat (0x800 + 4 * k.val)) 4)) ∧
      s.within t [.regs, .bus] [regKey 0 p.toNat 0x108])) ∧
    (∀ (path : Path) (p : BitVec 12) (k : Fin 512) (v : BitVec 32), s.takes path p.toNat (0x800 + 4 * k.val) = true → 0x100 ≤ p.toNat → p.toNat < 0x180 → s.winAddr p.toNat (0x800 + 4 * k.val) < hbmSize → gives (.windowWrite path p k v) s (fun t =>
      t.answered .ok ∧
      t.bus.last.data = v ∧
      t.hbmRd (s.winAddr p.toNat (0x800 + 4 * k.val)) 4 = leBytes 4 v.toNat ∧
      (∀ a, (a < s.winAddr p.toNat (0x800 + 4 * k.val) ∨ s.winAddr p.toNat (0x800 + 4 * k.val) + 4 ≤ a) → tget memDefault t.ram.hbm a = tget memDefault s.ram.hbm a) ∧
      s.within t [.regs, .bus, .hbm] [regKey 0 p.toNat 0x108])) ∧
    (∀ (path : Path) (p : BitVec 12) (k : Fin 512) (v : BitVec 32), s.takes path p.toNat (0x800 + 4 * k.val) = true → 0x100 ≤ p.toNat → p.toNat < 0x180 → hbmSize ≤ s.winAddr p.toNat (0x800 + 4 * k.val) → gives (.windowWrite path p k v) s (fun t =>
      t.answered .memerr ∧
      t.reg (regKey 0 p.toNat 0x108) = 2 ∧
      s.logged t DMC.PAGE 0x89 (fun a b => a = s.winAddr p.toNat (0x800 + 4 * k.val) % 2 ^ 32 ∧ b = s.winAddr p.toNat (0x800 + 4 * k.val) / 2 ^ 32) ∧
      s.within t [.regs, .bus, .log, .sram] ([regKey 0 p.toNat 0x108] ++ logKeys DMC.PAGE))) ∧
    (∀ (path : Path) (p : BitVec 12) (k : Fin 512) (v : BitVec 32), s.takes path p.toNat (0x800 + 4 * k.val) = true → 0x200 ≤ p.toNat → p.toNat < 0x238 → s.mode.sec = .openS → s.mode.power = .sill → gives (.windowWrite path p k v) s (fun t =>
      t.answered .ok ∧
      t.bus.last.data = v ∧
      t.sramRd (s.winAddr p.toNat (0x800 + 4 * k.val)) 4 = leBytes 4 v.toNat ∧
      (∀ a, (a < s.winAddr p.toNat (0x800 + 4 * k.val) ∨ s.winAddr p.toNat (0x800 + 4 * k.val) + 4 ≤ a) → tget memDefault t.ram.sram a = tget memDefault s.ram.sram a) ∧
      s.keepsRegs t [regKey 0 p.toNat 0x108] ∧
      s.keeps t [.regs, .bus, .sram])) ∧
    (∀ (path : Path) (p : BitVec 12) (k : Fin 512) (v : BitVec 32), s.takes path p.toNat (0x800 + 4 * k.val) = true → 0x200 ≤ p.toNat → p.toNat < 0x238 → (s.mode.sec ≠ .openS ∨ s.mode.power ≠ .sill) → gives (.windowWrite path p k v) s (fun t =>
      t.answered .ignored ∧
      t.ram.hbm = s.ram.hbm ∧
      s.within t [.regs, .bus, .log, .sram] (logKeys SYS.PAGE))) ∧
    (∀ (via : FramePath) (src : BitVec 144) (fr : List Byte), s.pathOpen via.path = true → s.takes via.path 0 0x12C = true → frameOk fr = true → beAt fr 3 1 = 1 → slice fr 16 4 = [0x02, 0x00, 0x01, 0x2C] → ((s.cached (via.path.num * 2 ^ 144 + src.toNat)).filter (fun c => c.seq == beAt fr 4 4) = none) → gives (.registerFrame via src fr) s (fun t =>
      (t.reg (regKey 0 0 0x12C)).toNat = beAt fr 20 4 ∧
      t.bus.out = frameHead 1 1 (beAt fr 4 4) ++ [0x00, 0x00, 0x01, 0x2C] ++ beBytes 4 (beAt fr 20 4) ++ beBytes 4 (rim (frameHead 1 1 (beAt fr 4 4) ++ [0x00, 0x00, 0x01, 0x2C] ++ beBytes 4 (beAt fr 20 4)) (beAt fr 4 4)) ∧
      (t.cached (via.path.num * 2 ^ 144 + src.toNat)).map (fun c => (c.seq, c.resp)) = some (beAt fr 4 4, t.bus.out) ∧
      s.within t [.regs, .bus] [regKey 0 0 0x12C])) ∧
    (∀ (via : FramePath) (src : BitVec 144) (fr : List Byte) (c : CacheLine), s.pathOpen via.path = true → frameOk fr = true → s.cached (via.path.num * 2 ^ 144 + src.toNat) = some c → c.seq = beAt fr 4 4 → gives (.registerFrame via src fr) s (fun t =>
      t.bus.out = c.resp ∧
      t.rd SYS.RAP_DUP = min 0xFFFFFFFF (s.rd SYS.RAP_DUP + 1) ∧
      t.bus.last = s.bus.last ∧
      s.within t [.regs, .bus] [SYS.RAP_DUP.key 0 0])) ∧
    (∀ (via : FramePath) (src : BitVec 144) (fr : List Byte), s.pathOpen via.path = true → frameOk fr = false → gives (.registerFrame via src fr) s (fun t =>
      t.rd SYS.RAP_BAD = min 0xFFFFFFFF (s.rd SYS.RAP_BAD + 1) ∧
      s.within t [.regs] [SYS.RAP_BAD.key 0 0])) ∧
    (∀ (src : BitVec 144) (fr : List Byte), s.rdB SYS.RAP_CFG.FLEX = false → idle (.registerFrame .flex src fr) s)

/-- Log records: the FAULT bit, the first-fault copies and the error counts of a page: A record that enters the log has
FAULT = 1 exactly when its code is one of the 25 of R478; only such a record gets a first-fault copy, in the next
free entry. Whether or not it enters the log, PG_ERR_CNT of its page counts it, and of no other page; PG_ERR_FIRST
takes its code, and its sequence number where it was logged, when the count read 0, and stays otherwise. A record of
the event rings counts in no page. (R478, R489.) -/
def Obligations.LogRecords : Prop :=
  ∀ (s : State) (page code a b : Nat), let t := s.logRaw page code a b;
    let fault := code ∈ [0x2A, 0x2C, 0x2D, 0x2E, 0x2F, 0x36, 0x50, 0x52, 0x54, 0x64, 0x67, 0x80, 0x86, 0xA9, 0xC4, 0xC8, 0xD1, 0xE1,
      0xE2, 0xE3, 0xE4, 0xEF, 0xF3, 0xF4, 0xF6];
    let n := s.rd NVS.LOG_STS.FF_COUNT;
    (s.logAdmits code = true → s.rd NVS.LOG_STS.HEAD < 16384 →
      let r := tget (fun _ => LogRec.empty) t.log.wait (s.rd NVS.LOG_STS.HEAD)
      r.block = pageType page ∧ r.inst = pageInst page % 256 ∧ r.code = code ∧ r.arg0 = a ∧ r.arg1 = b ∧
      (r.cls % 2 = 1 ↔ fault)) ∧
    (¬ fault → t.rd NVS.LOG_STS.FF_COUNT = n ∧
      ∀ k, 16384 ≤ k → k ≠ s.rd NVS.LOG_STS.HEAD →
        tget (fun _ => LogRec.empty) t.log.wait k = tget (fun _ => LogRec.empty) s.log.wait k) ∧
    (fault → s.logAdmits code = true → n < 256 → (s.logStore (s.rd NVS.LOG_STS.HEAD) (s.mkRec page code a b)).logNoRoom (16384 + n) = false →
      t.rd NVS.LOG_STS.FF_COUNT = n + 1 ∧
      (tget (fun _ => LogRec.empty) t.log.wait (16384 + n)).code = code ∧
      (tget (fun _ => LogRec.empty) t.log.wait (16384 + n)).cls % 2 = 1) ∧
    t.rd HDR.PG_ERR_CNT.COUNT page = min 0xFFFF (s.rd HDR.PG_ERR_CNT.COUNT page + 1) ∧
    (∀ q, q ≠ page → t.reg (HDR.PG_ERR_CNT.COUNT.key q 0) = s.reg (HDR.PG_ERR_CNT.COUNT.key q 0)) ∧
    (s.rd HDR.PG_ERR_CNT.COUNT page = 0 →
      t.rd HDR.PG_ERR_FIRST.CODE page = code % 256 ∧ t.rdB HDR.PG_ERR_FIRST.LOGGED page = s.logAdmits code ∧
      t.rd HDR.PG_ERR_FIRST.SEQ page = if s.logAdmits code then s.log.nextSeq.toNat % 65536 else 0) ∧
    (s.rd HDR.PG_ERR_CNT.COUNT page ≠ 0 → t.reg (HDR.PG_ERR_FIRST.CODE.key page 0) = s.reg (HDR.PG_ERR_FIRST.CODE.key page 0)) ∧
    (∀ flag q, (s.event page flag).reg (HDR.PG_ERR_CNT.COUNT.key q 0) = s.reg (HDR.PG_ERR_CNT.COUNT.key q 0))

/-- Pages that are not defined: 212 of the 4,096 page numbers are defined, and SYS.PAGE_CNT reads so. A write or a read
of any address in another page, aligned, by a path that reaches the registers, completes with the status UNMAPPED,
writes nothing and returns 0. (R456.) -/
def Obligations.UnmappedPages : Prop :=
  ((List.range 4096).filter (fun p => (pageRows p).isSome)).length = 212 ∧
  (∀ s : State,
    (∀ (path : Path) (addr : BitVec 24) (v : BitVec 32), addr.toNat % 4 = 0 → pageRows (addr.toNat / 4096) = none → s.pathOpen path = true → s.modulePends = false → gives (.registerWrite path addr v) s (fun t =>
      t = { s with bus := { s.bus with last := ⟨.unmapped, 0⟩ } })) ∧
    (∀ (path : Path) (addr : BitVec 24) (same : BitVec 32), addr.toNat % 4 = 0 → pageRows (addr.toNat / 4096) = none → s.pathOpen path = true → s.modulePends = false → gives (.rcRead path addr same) s (fun t =>
      t = { s with bus := { s.bus with last := ⟨.unmapped, 0⟩ } })) ∧
    (∀ (path : Path) (same : BitVec 32), s.shows path = true → gives (.rcRead path 0x130 same) s (fun t =>
      t = { s with bus := { s.bus with last := ⟨.ok, 212⟩ } })))

/-- A step runs the command at the front of the queue: With the command c at the front of its queue, a step is exec of c
on the state with the queue's rest, so what a step answers is what c answers; the rest of the queue waits on.
(95_what_each_step_holds.md, 20_register_map.md.) -/
def Obligations.StepRunsFront : Prop :=
  ∀ (c : Instr) (q : List Instr) (s : State),
    step { s with pending := c :: q } = exec c { s with pending := q } ∧
    ∃ t, step { s with pending := c :: q } = .next t ∧ t.pending = q

/-- A step on an empty queue: one weave cycle: The model's choice (log entry 7, DESIGN CHOICE): with no command waiting,
a step without 48 V changes nothing, and with it moves the weave clock by one cycle. The TAI count gains 5/8 ns,
less what an offset being slewed out takes: 1 ns in each 8,000 cycles at most. The sweeps visit their next entry;
within a line nothing else changes but the order of the ended cycle's records. A step of the count that waits is
taken with the first µs boundary: the count moves by the offset, STAT_STEP and the records of TIM count it; an
accepted jump locks the time unit, clears J and starts the step sweep. At the edge that ends a line the next one
starts at WC 0, and at the end of a frame line 0. (95_what_each_step_holds.md, 15_time_and_lintel.md, 00_scope.md.) -/
def Obligations.ClockTick : Prop :=
  ∀ s : State, s.pending = [] →
    (s.mode.supply ≠ .on → step s = .next s) ∧
    (s.mode.supply = .on → s.clk.ns.toNat < 1000000000 → s.tim.step = none → s.tim.slew = 0 →
      (s.mode.raster = .off ∨ s.boot.hold = true ∨ s.clk.now + 1 - s.clk.lineAt < s.lineLen) →
      ∃ t, step s = .next t ∧ t.clk.now = s.clk.now + 1 ∧ t.clk.wc = s.clk.wc + 1 ∧ t.clk.frame = s.clk.frame ∧
        t.clk.line = s.clk.line ∧ t.clk.lineAt = s.clk.lineAt ∧ t.clk.ns.toNat < 1000000000 ∧
        (t.clk.sec.toNat * 1000000000 + t.clk.ns.toNat) * 8 + t.clk.sub.toNat =
          ((s.clk.sec.toNat * 1000000000 + s.clk.ns.toNat) * 8 + s.clk.sub.toNat + 5) % (2 ^ 48 * 1000000000 * 8) ∧
        s.within t [.regs, .clk, .log, .scene, .frs, .sram] s.runKeys ∧
        (∀ pos, s.frs.verSweep = some pos → t.frs.verSweep = some (min 262144 (pos + 1))) ∧
        (s.frs.stepSweep = none ∧ s.frs.verSweep = none ∧ s.scene.sweepEpoch = none ∧ s.log.cyc = [] ∧
          s.log.cycEv = Vector.replicate 2 [] → t = { s with clk := t.clk })) ∧
    (s.mode.supply = .on → s.clk.ns.toNat < 1000000000 → s.tim.step = none →
      (s.mode.raster = .off ∨ s.boot.hold = true ∨ s.clk.now + 1 - s.clk.lineAt < s.lineLen) →
      let n : Int := ((s.clk.now + 1 - s.tim.slewAt) / 8000 : Nat)
      let m := clampI (-n) n s.tim.slew
      s.tim.slew ≠ 0 → 1 ≤ s.taiNs - m → s.taiNs - m < 2 ^ 48 * 1000000000 - 1 → s.taiNs < 2 ^ 48 * 1000000000 - 1 →
      ∃ t, step s = .next t ∧ t.clk.now = s.clk.now + 1 ∧
        t.taiNs * 8 + t.clk.sub.toNat = (s.taiNs - m) * 8 + s.clk.sub.toNat + 5 ∧ t.tim.slew = s.tim.slew - m ∧
        t.tim = { s.tim with slew := t.tim.slew, slewAt := t.tim.slewAt } ∧
        s.within t [.regs, .clk, .log, .scene, .frs, .tim, .sram] s.runKeys) ∧
    (∀ p, s.mode.supply = .on → s.tim.step = some p → (s.run 1).taiNs / 1000 ≠ p.us → (s.run 1).stepDue.midLine = true →
      0 ≤ (s.run 1).taiNs - p.off → (s.run 1).taiNs - p.off < 2 ^ 48 * 1000000000 →
      ∃ t, step s = .next t ∧ t.clk.now = s.clk.now + 1 ∧ t.taiNs = (s.run 1).taiNs - p.off ∧ t.tim.step = none ∧
        t.rd HDR.PG_ERR_CNT.COUNT TIM.PAGE ≥ min 0xFFFF (s.rd HDR.PG_ERR_CNT.COUNT TIM.PAGE + 1) ∧
        (p.jump = false → t.rd TIM.STAT_STEP = min 0xFFFFFFFF (s.rd TIM.STAT_STEP + 1) ∧ t.rd TIM.STS.STATE = s.rd TIM.STS.STATE) ∧
        (p.jump = true → t.rd TIM.STS.STATE = 2 ∧ t.jumpUs = 0 ∧ t.flag TIM.PAGE 3 ∧
          (s.frs.stepSweep = none → t.frs.stepSweep = some (0, t.taiNs / 1000 - (s.run 1).taiNs / 1000,
            BitVec.ofInt 32 ((s.run 1).taiNs / 1000))) ∧
          (s.eff_ SCN.RATE_CTL.SRC ≤ 1 → t.scan.rephase = true))) ∧
    (∀ p, s.mode.supply = .on → s.tim.step = some p → (s.run 1).taiNs / 1000 = p.us → (s.run 1).midLine = true →
      step s = .next (s.run 1)) ∧
    (s.mode.supply = .on → s.tim.step = none → s.mode.raster ≠ .off → s.boot.hold = false → s.vtotal ≤ 65535 →
      s.lineLen ≤ s.clk.now + 1 - s.clk.lineAt →
      (s.clk.line.toNat + 1 < s.vtotal →
        ∃ t, step s = .next t ∧ t.clk.now = s.clk.now + 1 ∧ t.clk.line = s.clk.line + 1 ∧ t.clk.wc = 0 ∧
          t.clk.lineAt = s.clk.now + 1 ∧ t.clk.frame = s.clk.frame) ∧
      (s.clk.line.toNat + 1 = s.vtotal → s.mode.raster = .weaver ∨ s.enterReady = false →
        ∃ t, step s = .next t ∧ t.clk.now = s.clk.now + 1 ∧ t.clk.line = 0 ∧ t.clk.wc = 0 ∧ t.clk.lineAt = s.clk.now + 1 ∧
          (s.mode.raster = .sill → t.clk.sillFrame = s.clk.sillFrame + 1) ∧
          (s.mode.raster = .weaver → t.clk.frame.toNat = s.frameAfter)))

/-- The state after reset is sound: Right after reset every register table, both memories and the table of uncorrectable
bursts are in canonical form, the fuses lie within their number and no command waits. (19_security_debug_power.md,
20_register_map.md.) -/
def Obligations.ResetIsSound : Prop :=
  State.reset.sound ∧ State.reset.pending = []

/-- Every step keeps the canonical forms and only ever burns fuses: In every sound state, whatever command waits in
front, a step that answers a next state leaves a sound state: registers, values in force and memories in canonical
form, at most 256 transition fuses, four owner fields and 64 version fuses burned; and no fuse that was burned is
unburned, so no run of any length brings one back. (12_memory_system.md, 19_security_debug_power.md,
20_register_map.md.) -/
def Obligations.StepKeepsSound : Prop :=
  ∀ s t : State, s.sound → step s = .next t → t.sound ∧ s.secu.burnedIn t.secu

/-- Register defaults and the modes after reset: After reset: the modes of a module without power (the supply off is the
model's choice, log entry 4), Open, Detached, Sill; every event flag clear, every defined flag enabled and passed to
the rings, no page locked; the ring bases, the module part and stepping, and the defaults the chapters state. The
values here are those the spec gives, but for the supply. (03_start_up.md, 06_ray_synthesis.md, 12_memory_system.md,
13_serial_lanes.md, 15_time_and_lintel.md, 18_thermal_and_calibration.md, 19_security_debug_power.md,
20_register_map.md, 21_events_logs_and_limits.md.) -/
def Obligations.ResetValues : Prop :=
  State.reset.mode.supply = .off ∧ State.reset.mode.sec = .openS ∧ State.reset.mode.dbg = .detached ∧ State.reset.mode.power = .sill ∧
  (∀ p : Fin 4096, (pageRows p).isSome = true → State.reset.rd HDR.PG_EVT p = 0 ∧ State.reset.rd HDR.PG_EVT_EN p = pageEvents p ∧
    State.reset.rdB HDR.PG_CTL.ENA p = true ∧ State.reset.rdB HDR.PG_CTL.LOCK p = false) ∧
  State.reset.rd EVT.BASE.OFS 0 = 0x03FE0000 ∧ State.reset.rd EVT.BASE.OFS 1 = 0x03FF0000 ∧
  (State.reset.reg (regKey 0 SYS.PAGE 0x100)).toNat = 0x72500042 ∧ (State.reset.reg (regKey 0 SYS.PAGE 0x11C)).toNat = 17251 ∧ (State.reset.reg (regKey 0 DMC.PAGE 0x100)).toNat = 125 ∧
  (State.reset.reg (regKey 0 DMC.PAGE 0x118)).toNat = 130 ∧
  State.reset.rd LAN.DEGR_THR.COUNT = 1000 ∧ State.reset.rd TIM.VALID_LIM.US = 1000 ∧ (State.reset.reg (regKey 0 LEF.PAGE 0x104)).toNat = 600 ∧
  (State.reset.reg (regKey 0 THM.PAGE 0x124)).toNat = 60 ∧ State.reset.rd TIM.BOUND.US = 0xFFFFFFFF ∧ State.reset.pending = []
end

