-- ==== Sys2Proof/Laws/State.lean ====
section
/-! SUPPORT. Each field of State after each named update, true by rfl. -/

namespace Sys2Proof.Machine

variable (s : State)

@[simp] theorem State.modRegs_regs (f : Table (BitVec 32) → Table (BitVec 32)) : (s.modRegs f).regs = f s.regs := rfl
@[simp] theorem State.modRegs_eff (f : Table (BitVec 32) → Table (BitVec 32)) : (s.modRegs f).eff = s.eff := rfl
@[simp] theorem State.modRegs_mode (f : Table (BitVec 32) → Table (BitVec 32)) : (s.modRegs f).mode = s.mode := rfl
@[simp] theorem State.modRegs_clk (f : Table (BitVec 32) → Table (BitVec 32)) : (s.modRegs f).clk = s.clk := rfl
@[simp] theorem State.modRegs_pwr (f : Table (BitVec 32) → Table (BitVec 32)) : (s.modRegs f).pwr = s.pwr := rfl
@[simp] theorem State.modRegs_panel (f : Table (BitVec 32) → Table (BitVec 32)) : (s.modRegs f).panel = s.panel := rfl
@[simp] theorem State.modRegs_boot (f : Table (BitVec 32) → Table (BitVec 32)) : (s.modRegs f).boot = s.boot := rfl
@[simp] theorem State.modRegs_bus (f : Table (BitVec 32) → Table (BitVec 32)) : (s.modRegs f).bus = s.bus := rfl
@[simp] theorem State.modRegs_log (f : Table (BitVec 32) → Table (BitVec 32)) : (s.modRegs f).log = s.log := rfl
@[simp] theorem State.modRegs_ram (f : Table (BitVec 32) → Table (BitVec 32)) : (s.modRegs f).ram = s.ram := rfl
@[simp] theorem State.modRegs_mem (f : Table (BitVec 32) → Table (BitVec 32)) : (s.modRegs f).mem = s.mem := rfl
@[simp] theorem State.modRegs_scene (f : Table (BitVec 32) → Table (BitVec 32)) : (s.modRegs f).scene = s.scene := rfl
@[simp] theorem State.modRegs_coil (f : Table (BitVec 32) → Table (BitVec 32)) : (s.modRegs f).coil = s.coil := rfl
@[simp] theorem State.modRegs_wv (f : Table (BitVec 32) → Table (BitVec 32)) : (s.modRegs f).wv = s.wv := rfl
@[simp] theorem State.modRegs_frs (f : Table (BitVec 32) → Table (BitVec 32)) : (s.modRegs f).frs = s.frs := rfl
@[simp] theorem State.modRegs_rim (f : Table (BitVec 32) → Table (BitVec 32)) : (s.modRegs f).rim = s.rim := rfl
@[simp] theorem State.modRegs_scan (f : Table (BitVec 32) → Table (BitVec 32)) : (s.modRegs f).scan = s.scan := rfl
@[simp] theorem State.modRegs_weft (f : Table (BitVec 32) → Table (BitVec 32)) : (s.modRegs f).weft = s.weft := rfl
@[simp] theorem State.modRegs_lan (f : Table (BitVec 32) → Table (BitVec 32)) : (s.modRegs f).lan = s.lan := rfl
@[simp] theorem State.modRegs_fab (f : Table (BitVec 32) → Table (BitVec 32)) : (s.modRegs f).fab = s.fab := rfl
@[simp] theorem State.modRegs_tim (f : Table (BitVec 32) → Table (BitVec 32)) : (s.modRegs f).tim = s.tim := rfl
@[simp] theorem State.modRegs_leaf (f : Table (BitVec 32) → Table (BitVec 32)) : (s.modRegs f).leaf = s.leaf := rfl
@[simp] theorem State.modRegs_nvs (f : Table (BitVec 32) → Table (BitVec 32)) : (s.modRegs f).nvs = s.nvs := rfl
@[simp] theorem State.modRegs_thm (f : Table (BitVec 32) → Table (BitVec 32)) : (s.modRegs f).thm = s.thm := rfl
@[simp] theorem State.modRegs_secu (f : Table (BitVec 32) → Table (BitVec 32)) : (s.modRegs f).secu = s.secu := rfl
@[simp] theorem State.modRegs_freeCtr (f : Table (BitVec 32) → Table (BitVec 32)) : (s.modRegs f).freeCtr = s.freeCtr := rfl
@[simp] theorem State.modRegs_pending (f : Table (BitVec 32) → Table (BitVec 32)) : (s.modRegs f).pending = s.pending := rfl
@[simp] theorem State.modEff_regs (f : Table (BitVec 32) → Table (BitVec 32)) : (s.modEff f).regs = s.regs := rfl
@[simp] theorem State.modEff_eff (f : Table (BitVec 32) → Table (BitVec 32)) : (s.modEff f).eff = f s.eff := rfl
@[simp] theorem State.modEff_mode (f : Table (BitVec 32) → Table (BitVec 32)) : (s.modEff f).mode = s.mode := rfl
@[simp] theorem State.modEff_clk (f : Table (BitVec 32) → Table (BitVec 32)) : (s.modEff f).clk = s.clk := rfl
@[simp] theorem State.modEff_pwr (f : Table (BitVec 32) → Table (BitVec 32)) : (s.modEff f).pwr = s.pwr := rfl
@[simp] theorem State.modEff_panel (f : Table (BitVec 32) → Table (BitVec 32)) : (s.modEff f).panel = s.panel := rfl
@[simp] theorem State.modEff_boot (f : Table (BitVec 32) → Table (BitVec 32)) : (s.modEff f).boot = s.boot := rfl
@[simp] theorem State.modEff_bus (f : Table (BitVec 32) → Table (BitVec 32)) : (s.modEff f).bus = s.bus := rfl
@[simp] theorem State.modEff_log (f : Table (BitVec 32) → Table (BitVec 32)) : (s.modEff f).log = s.log := rfl
@[simp] theorem State.modEff_ram (f : Table (BitVec 32) → Table (BitVec 32)) : (s.modEff f).ram = s.ram := rfl
@[simp] theorem State.modEff_mem (f : Table (BitVec 32) → Table (BitVec 32)) : (s.modEff f).mem = s.mem := rfl
@[simp] theorem State.modEff_scene (f : Table (BitVec 32) → Table (BitVec 32)) : (s.modEff f).scene = s.scene := rfl
@[simp] theorem State.modEff_coil (f : Table (BitVec 32) → Table (BitVec 32)) : (s.modEff f).coil = s.coil := rfl
@[simp] theorem State.modEff_wv (f : Table (BitVec 32) → Table (BitVec 32)) : (s.modEff f).wv = s.wv := rfl
@[simp] theorem State.modEff_frs (f : Table (BitVec 32) → Table (BitVec 32)) : (s.modEff f).frs = s.frs := rfl
@[simp] theorem State.modEff_rim (f : Table (BitVec 32) → Table (BitVec 32)) : (s.modEff f).rim = s.rim := rfl
@[simp] theorem State.modEff_scan (f : Table (BitVec 32) → Table (BitVec 32)) : (s.modEff f).scan = s.scan := rfl
@[simp] theorem State.modEff_weft (f : Table (BitVec 32) → Table (BitVec 32)) : (s.modEff f).weft = s.weft := rfl
@[simp] theorem State.modEff_lan (f : Table (BitVec 32) → Table (BitVec 32)) : (s.modEff f).lan = s.lan := rfl
@[simp] theorem State.modEff_fab (f : Table (BitVec 32) → Table (BitVec 32)) : (s.modEff f).fab = s.fab := rfl
@[simp] theorem State.modEff_tim (f : Table (BitVec 32) → Table (BitVec 32)) : (s.modEff f).tim = s.tim := rfl
@[simp] theorem State.modEff_leaf (f : Table (BitVec 32) → Table (BitVec 32)) : (s.modEff f).leaf = s.leaf := rfl
@[simp] theorem State.modEff_nvs (f : Table (BitVec 32) → Table (BitVec 32)) : (s.modEff f).nvs = s.nvs := rfl
@[simp] theorem State.modEff_thm (f : Table (BitVec 32) → Table (BitVec 32)) : (s.modEff f).thm = s.thm := rfl
@[simp] theorem State.modEff_secu (f : Table (BitVec 32) → Table (BitVec 32)) : (s.modEff f).secu = s.secu := rfl
@[simp] theorem State.modEff_freeCtr (f : Table (BitVec 32) → Table (BitVec 32)) : (s.modEff f).freeCtr = s.freeCtr := rfl
@[simp] theorem State.modEff_pending (f : Table (BitVec 32) → Table (BitVec 32)) : (s.modEff f).pending = s.pending := rfl
@[simp] theorem State.modMode_regs (f : Modes → Modes) : (s.modMode f).regs = s.regs := rfl
@[simp] theorem State.modMode_eff (f : Modes → Modes) : (s.modMode f).eff = s.eff := rfl
@[simp] theorem State.modMode_mode (f : Modes → Modes) : (s.modMode f).mode = f s.mode := rfl
@[simp] theorem State.modMode_clk (f : Modes → Modes) : (s.modMode f).clk = s.clk := rfl
@[simp] theorem State.modMode_pwr (f : Modes → Modes) : (s.modMode f).pwr = s.pwr := rfl
@[simp] theorem State.modMode_panel (f : Modes → Modes) : (s.modMode f).panel = s.panel := rfl
@[simp] theorem State.modMode_boot (f : Modes → Modes) : (s.modMode f).boot = s.boot := rfl
@[simp] theorem State.modMode_bus (f : Modes → Modes) : (s.modMode f).bus = s.bus := rfl
@[simp] theorem State.modMode_log (f : Modes → Modes) : (s.modMode f).log = s.log := rfl
@[simp] theorem State.modMode_ram (f : Modes → Modes) : (s.modMode f).ram = s.ram := rfl
@[simp] theorem State.modMode_mem (f : Modes → Modes) : (s.modMode f).mem = s.mem := rfl
@[simp] theorem State.modMode_scene (f : Modes → Modes) : (s.modMode f).scene = s.scene := rfl
@[simp] theorem State.modMode_coil (f : Modes → Modes) : (s.modMode f).coil = s.coil := rfl
@[simp] theorem State.modMode_wv (f : Modes → Modes) : (s.modMode f).wv = s.wv := rfl
@[simp] theorem State.modMode_frs (f : Modes → Modes) : (s.modMode f).frs = s.frs := rfl
@[simp] theorem State.modMode_rim (f : Modes → Modes) : (s.modMode f).rim = s.rim := rfl
@[simp] theorem State.modMode_scan (f : Modes → Modes) : (s.modMode f).scan = s.scan := rfl
@[simp] theorem State.modMode_weft (f : Modes → Modes) : (s.modMode f).weft = s.weft := rfl
@[simp] theorem State.modMode_lan (f : Modes → Modes) : (s.modMode f).lan = s.lan := rfl
@[simp] theorem State.modMode_fab (f : Modes → Modes) : (s.modMode f).fab = s.fab := rfl
@[simp] theorem State.modMode_tim (f : Modes → Modes) : (s.modMode f).tim = s.tim := rfl
@[simp] theorem State.modMode_leaf (f : Modes → Modes) : (s.modMode f).leaf = s.leaf := rfl
@[simp] theorem State.modMode_nvs (f : Modes → Modes) : (s.modMode f).nvs = s.nvs := rfl
@[simp] theorem State.modMode_thm (f : Modes → Modes) : (s.modMode f).thm = s.thm := rfl
@[simp] theorem State.modMode_secu (f : Modes → Modes) : (s.modMode f).secu = s.secu := rfl
@[simp] theorem State.modMode_freeCtr (f : Modes → Modes) : (s.modMode f).freeCtr = s.freeCtr := rfl
@[simp] theorem State.modMode_pending (f : Modes → Modes) : (s.modMode f).pending = s.pending := rfl
@[simp] theorem State.modClk_regs (f : Clock → Clock) : (s.modClk f).regs = s.regs := rfl
@[simp] theorem State.modClk_eff (f : Clock → Clock) : (s.modClk f).eff = s.eff := rfl
@[simp] theorem State.modClk_mode (f : Clock → Clock) : (s.modClk f).mode = s.mode := rfl
@[simp] theorem State.modClk_clk (f : Clock → Clock) : (s.modClk f).clk = f s.clk := rfl
@[simp] theorem State.modClk_pwr (f : Clock → Clock) : (s.modClk f).pwr = s.pwr := rfl
@[simp] theorem State.modClk_panel (f : Clock → Clock) : (s.modClk f).panel = s.panel := rfl
@[simp] theorem State.modClk_boot (f : Clock → Clock) : (s.modClk f).boot = s.boot := rfl
@[simp] theorem State.modClk_bus (f : Clock → Clock) : (s.modClk f).bus = s.bus := rfl
@[simp] theorem State.modClk_log (f : Clock → Clock) : (s.modClk f).log = s.log := rfl
@[simp] theorem State.modClk_ram (f : Clock → Clock) : (s.modClk f).ram = s.ram := rfl
@[simp] theorem State.modClk_mem (f : Clock → Clock) : (s.modClk f).mem = s.mem := rfl
@[simp] theorem State.modClk_scene (f : Clock → Clock) : (s.modClk f).scene = s.scene := rfl
@[simp] theorem State.modClk_coil (f : Clock → Clock) : (s.modClk f).coil = s.coil := rfl
@[simp] theorem State.modClk_wv (f : Clock → Clock) : (s.modClk f).wv = s.wv := rfl
@[simp] theorem State.modClk_frs (f : Clock → Clock) : (s.modClk f).frs = s.frs := rfl
@[simp] theorem State.modClk_rim (f : Clock → Clock) : (s.modClk f).rim = s.rim := rfl
@[simp] theorem State.modClk_scan (f : Clock → Clock) : (s.modClk f).scan = s.scan := rfl
@[simp] theorem State.modClk_weft (f : Clock → Clock) : (s.modClk f).weft = s.weft := rfl
@[simp] theorem State.modClk_lan (f : Clock → Clock) : (s.modClk f).lan = s.lan := rfl
@[simp] theorem State.modClk_fab (f : Clock → Clock) : (s.modClk f).fab = s.fab := rfl
@[simp] theorem State.modClk_tim (f : Clock → Clock) : (s.modClk f).tim = s.tim := rfl
@[simp] theorem State.modClk_leaf (f : Clock → Clock) : (s.modClk f).leaf = s.leaf := rfl
@[simp] theorem State.modClk_nvs (f : Clock → Clock) : (s.modClk f).nvs = s.nvs := rfl
@[simp] theorem State.modClk_thm (f : Clock → Clock) : (s.modClk f).thm = s.thm := rfl
@[simp] theorem State.modClk_secu (f : Clock → Clock) : (s.modClk f).secu = s.secu := rfl
@[simp] theorem State.modClk_freeCtr (f : Clock → Clock) : (s.modClk f).freeCtr = s.freeCtr := rfl
@[simp] theorem State.modClk_pending (f : Clock → Clock) : (s.modClk f).pending = s.pending := rfl
@[simp] theorem State.modPwr_regs (f : PowerSt → PowerSt) : (s.modPwr f).regs = s.regs := rfl
@[simp] theorem State.modPwr_eff (f : PowerSt → PowerSt) : (s.modPwr f).eff = s.eff := rfl
@[simp] theorem State.modPwr_mode (f : PowerSt → PowerSt) : (s.modPwr f).mode = s.mode := rfl
@[simp] theorem State.modPwr_clk (f : PowerSt → PowerSt) : (s.modPwr f).clk = s.clk := rfl
@[simp] theorem State.modPwr_pwr (f : PowerSt → PowerSt) : (s.modPwr f).pwr = f s.pwr := rfl
@[simp] theorem State.modPwr_panel (f : PowerSt → PowerSt) : (s.modPwr f).panel = s.panel := rfl
@[simp] theorem State.modPwr_boot (f : PowerSt → PowerSt) : (s.modPwr f).boot = s.boot := rfl
@[simp] theorem State.modPwr_bus (f : PowerSt → PowerSt) : (s.modPwr f).bus = s.bus := rfl
@[simp] theorem State.modPwr_log (f : PowerSt → PowerSt) : (s.modPwr f).log = s.log := rfl
@[simp] theorem State.modPwr_ram (f : PowerSt → PowerSt) : (s.modPwr f).ram = s.ram := rfl
@[simp] theorem State.modPwr_mem (f : PowerSt → PowerSt) : (s.modPwr f).mem = s.mem := rfl
@[simp] theorem State.modPwr_scene (f : PowerSt → PowerSt) : (s.modPwr f).scene = s.scene := rfl
@[simp] theorem State.modPwr_coil (f : PowerSt → PowerSt) : (s.modPwr f).coil = s.coil := rfl
@[simp] theorem State.modPwr_wv (f : PowerSt → PowerSt) : (s.modPwr f).wv = s.wv := rfl
@[simp] theorem State.modPwr_frs (f : PowerSt → PowerSt) : (s.modPwr f).frs = s.frs := rfl
@[simp] theorem State.modPwr_rim (f : PowerSt → PowerSt) : (s.modPwr f).rim = s.rim := rfl
@[simp] theorem State.modPwr_scan (f : PowerSt → PowerSt) : (s.modPwr f).scan = s.scan := rfl
@[simp] theorem State.modPwr_weft (f : PowerSt → PowerSt) : (s.modPwr f).weft = s.weft := rfl
@[simp] theorem State.modPwr_lan (f : PowerSt → PowerSt) : (s.modPwr f).lan = s.lan := rfl
@[simp] theorem State.modPwr_fab (f : PowerSt → PowerSt) : (s.modPwr f).fab = s.fab := rfl
@[simp] theorem State.modPwr_tim (f : PowerSt → PowerSt) : (s.modPwr f).tim = s.tim := rfl
@[simp] theorem State.modPwr_leaf (f : PowerSt → PowerSt) : (s.modPwr f).leaf = s.leaf := rfl
@[simp] theorem State.modPwr_nvs (f : PowerSt → PowerSt) : (s.modPwr f).nvs = s.nvs := rfl
@[simp] theorem State.modPwr_thm (f : PowerSt → PowerSt) : (s.modPwr f).thm = s.thm := rfl
@[simp] theorem State.modPwr_secu (f : PowerSt → PowerSt) : (s.modPwr f).secu = s.secu := rfl
@[simp] theorem State.modPwr_freeCtr (f : PowerSt → PowerSt) : (s.modPwr f).freeCtr = s.freeCtr := rfl
@[simp] theorem State.modPwr_pending (f : PowerSt → PowerSt) : (s.modPwr f).pending = s.pending := rfl
@[simp] theorem State.modPanel_regs (f : PanelSt → PanelSt) : (s.modPanel f).regs = s.regs := rfl
@[simp] theorem State.modPanel_eff (f : PanelSt → PanelSt) : (s.modPanel f).eff = s.eff := rfl
@[simp] theorem State.modPanel_mode (f : PanelSt → PanelSt) : (s.modPanel f).mode = s.mode := rfl
@[simp] theorem State.modPanel_clk (f : PanelSt → PanelSt) : (s.modPanel f).clk = s.clk := rfl
@[simp] theorem State.modPanel_pwr (f : PanelSt → PanelSt) : (s.modPanel f).pwr = s.pwr := rfl
@[simp] theorem State.modPanel_panel (f : PanelSt → PanelSt) : (s.modPanel f).panel = f s.panel := rfl
@[simp] theorem State.modPanel_boot (f : PanelSt → PanelSt) : (s.modPanel f).boot = s.boot := rfl
@[simp] theorem State.modPanel_bus (f : PanelSt → PanelSt) : (s.modPanel f).bus = s.bus := rfl
@[simp] theorem State.modPanel_log (f : PanelSt → PanelSt) : (s.modPanel f).log = s.log := rfl
@[simp] theorem State.modPanel_ram (f : PanelSt → PanelSt) : (s.modPanel f).ram = s.ram := rfl
@[simp] theorem State.modPanel_mem (f : PanelSt → PanelSt) : (s.modPanel f).mem = s.mem := rfl
@[simp] theorem State.modPanel_scene (f : PanelSt → PanelSt) : (s.modPanel f).scene = s.scene := rfl
@[simp] theorem State.modPanel_coil (f : PanelSt → PanelSt) : (s.modPanel f).coil = s.coil := rfl
@[simp] theorem State.modPanel_wv (f : PanelSt → PanelSt) : (s.modPanel f).wv = s.wv := rfl
@[simp] theorem State.modPanel_frs (f : PanelSt → PanelSt) : (s.modPanel f).frs = s.frs := rfl
@[simp] theorem State.modPanel_rim (f : PanelSt → PanelSt) : (s.modPanel f).rim = s.rim := rfl
@[simp] theorem State.modPanel_scan (f : PanelSt → PanelSt) : (s.modPanel f).scan = s.scan := rfl
@[simp] theorem State.modPanel_weft (f : PanelSt → PanelSt) : (s.modPanel f).weft = s.weft := rfl
@[simp] theorem State.modPanel_lan (f : PanelSt → PanelSt) : (s.modPanel f).lan = s.lan := rfl
@[simp] theorem State.modPanel_fab (f : PanelSt → PanelSt) : (s.modPanel f).fab = s.fab := rfl
@[simp] theorem State.modPanel_tim (f : PanelSt → PanelSt) : (s.modPanel f).tim = s.tim := rfl
@[simp] theorem State.modPanel_leaf (f : PanelSt → PanelSt) : (s.modPanel f).leaf = s.leaf := rfl
@[simp] theorem State.modPanel_nvs (f : PanelSt → PanelSt) : (s.modPanel f).nvs = s.nvs := rfl
@[simp] theorem State.modPanel_thm (f : PanelSt → PanelSt) : (s.modPanel f).thm = s.thm := rfl
@[simp] theorem State.modPanel_secu (f : PanelSt → PanelSt) : (s.modPanel f).secu = s.secu := rfl
@[simp] theorem State.modPanel_freeCtr (f : PanelSt → PanelSt) : (s.modPanel f).freeCtr = s.freeCtr := rfl
@[simp] theorem State.modPanel_pending (f : PanelSt → PanelSt) : (s.modPanel f).pending = s.pending := rfl
@[simp] theorem State.modBoot_regs (f : StartSt → StartSt) : (s.modBoot f).regs = s.regs := rfl
@[simp] theorem State.modBoot_eff (f : StartSt → StartSt) : (s.modBoot f).eff = s.eff := rfl
@[simp] theorem State.modBoot_mode (f : StartSt → StartSt) : (s.modBoot f).mode = s.mode := rfl
@[simp] theorem State.modBoot_clk (f : StartSt → StartSt) : (s.modBoot f).clk = s.clk := rfl
@[simp] theorem State.modBoot_pwr (f : StartSt → StartSt) : (s.modBoot f).pwr = s.pwr := rfl
@[simp] theorem State.modBoot_panel (f : StartSt → StartSt) : (s.modBoot f).panel = s.panel := rfl
@[simp] theorem State.modBoot_boot (f : StartSt → StartSt) : (s.modBoot f).boot = f s.boot := rfl
@[simp] theorem State.modBoot_bus (f : StartSt → StartSt) : (s.modBoot f).bus = s.bus := rfl
@[simp] theorem State.modBoot_log (f : StartSt → StartSt) : (s.modBoot f).log = s.log := rfl
@[simp] theorem State.modBoot_ram (f : StartSt → StartSt) : (s.modBoot f).ram = s.ram := rfl
@[simp] theorem State.modBoot_mem (f : StartSt → StartSt) : (s.modBoot f).mem = s.mem := rfl
@[simp] theorem State.modBoot_scene (f : StartSt → StartSt) : (s.modBoot f).scene = s.scene := rfl
@[simp] theorem State.modBoot_coil (f : StartSt → StartSt) : (s.modBoot f).coil = s.coil := rfl
@[simp] theorem State.modBoot_wv (f : StartSt → StartSt) : (s.modBoot f).wv = s.wv := rfl
@[simp] theorem State.modBoot_frs (f : StartSt → StartSt) : (s.modBoot f).frs = s.frs := rfl
@[simp] theorem State.modBoot_rim (f : StartSt → StartSt) : (s.modBoot f).rim = s.rim := rfl
@[simp] theorem State.modBoot_scan (f : StartSt → StartSt) : (s.modBoot f).scan = s.scan := rfl
@[simp] theorem State.modBoot_weft (f : StartSt → StartSt) : (s.modBoot f).weft = s.weft := rfl
@[simp] theorem State.modBoot_lan (f : StartSt → StartSt) : (s.modBoot f).lan = s.lan := rfl
@[simp] theorem State.modBoot_fab (f : StartSt → StartSt) : (s.modBoot f).fab = s.fab := rfl
@[simp] theorem State.modBoot_tim (f : StartSt → StartSt) : (s.modBoot f).tim = s.tim := rfl
@[simp] theorem State.modBoot_leaf (f : StartSt → StartSt) : (s.modBoot f).leaf = s.leaf := rfl
@[simp] theorem State.modBoot_nvs (f : StartSt → StartSt) : (s.modBoot f).nvs = s.nvs := rfl
@[simp] theorem State.modBoot_thm (f : StartSt → StartSt) : (s.modBoot f).thm = s.thm := rfl
@[simp] theorem State.modBoot_secu (f : StartSt → StartSt) : (s.modBoot f).secu = s.secu := rfl
@[simp] theorem State.modBoot_freeCtr (f : StartSt → StartSt) : (s.modBoot f).freeCtr = s.freeCtr := rfl
@[simp] theorem State.modBoot_pending (f : StartSt → StartSt) : (s.modBoot f).pending = s.pending := rfl
@[simp] theorem State.modBus_regs (f : BusSt → BusSt) : (s.modBus f).regs = s.regs := rfl
@[simp] theorem State.modBus_eff (f : BusSt → BusSt) : (s.modBus f).eff = s.eff := rfl
@[simp] theorem State.modBus_mode (f : BusSt → BusSt) : (s.modBus f).mode = s.mode := rfl
@[simp] theorem State.modBus_clk (f : BusSt → BusSt) : (s.modBus f).clk = s.clk := rfl
@[simp] theorem State.modBus_pwr (f : BusSt → BusSt) : (s.modBus f).pwr = s.pwr := rfl
@[simp] theorem State.modBus_panel (f : BusSt → BusSt) : (s.modBus f).panel = s.panel := rfl
@[simp] theorem State.modBus_boot (f : BusSt → BusSt) : (s.modBus f).boot = s.boot := rfl
@[simp] theorem State.modBus_bus (f : BusSt → BusSt) : (s.modBus f).bus = f s.bus := rfl
@[simp] theorem State.modBus_log (f : BusSt → BusSt) : (s.modBus f).log = s.log := rfl
@[simp] theorem State.modBus_ram (f : BusSt → BusSt) : (s.modBus f).ram = s.ram := rfl
@[simp] theorem State.modBus_mem (f : BusSt → BusSt) : (s.modBus f).mem = s.mem := rfl
@[simp] theorem State.modBus_scene (f : BusSt → BusSt) : (s.modBus f).scene = s.scene := rfl
@[simp] theorem State.modBus_coil (f : BusSt → BusSt) : (s.modBus f).coil = s.coil := rfl
@[simp] theorem State.modBus_wv (f : BusSt → BusSt) : (s.modBus f).wv = s.wv := rfl
@[simp] theorem State.modBus_frs (f : BusSt → BusSt) : (s.modBus f).frs = s.frs := rfl
@[simp] theorem State.modBus_rim (f : BusSt → BusSt) : (s.modBus f).rim = s.rim := rfl
@[simp] theorem State.modBus_scan (f : BusSt → BusSt) : (s.modBus f).scan = s.scan := rfl
@[simp] theorem State.modBus_weft (f : BusSt → BusSt) : (s.modBus f).weft = s.weft := rfl
@[simp] theorem State.modBus_lan (f : BusSt → BusSt) : (s.modBus f).lan = s.lan := rfl
@[simp] theorem State.modBus_fab (f : BusSt → BusSt) : (s.modBus f).fab = s.fab := rfl
@[simp] theorem State.modBus_tim (f : BusSt → BusSt) : (s.modBus f).tim = s.tim := rfl
@[simp] theorem State.modBus_leaf (f : BusSt → BusSt) : (s.modBus f).leaf = s.leaf := rfl
@[simp] theorem State.modBus_nvs (f : BusSt → BusSt) : (s.modBus f).nvs = s.nvs := rfl
@[simp] theorem State.modBus_thm (f : BusSt → BusSt) : (s.modBus f).thm = s.thm := rfl
@[simp] theorem State.modBus_secu (f : BusSt → BusSt) : (s.modBus f).secu = s.secu := rfl
@[simp] theorem State.modBus_freeCtr (f : BusSt → BusSt) : (s.modBus f).freeCtr = s.freeCtr := rfl
@[simp] theorem State.modBus_pending (f : BusSt → BusSt) : (s.modBus f).pending = s.pending := rfl
@[simp] theorem State.modLog_regs (f : LogSt → LogSt) : (s.modLog f).regs = s.regs := rfl
@[simp] theorem State.modLog_eff (f : LogSt → LogSt) : (s.modLog f).eff = s.eff := rfl
@[simp] theorem State.modLog_mode (f : LogSt → LogSt) : (s.modLog f).mode = s.mode := rfl
@[simp] theorem State.modLog_clk (f : LogSt → LogSt) : (s.modLog f).clk = s.clk := rfl
@[simp] theorem State.modLog_pwr (f : LogSt → LogSt) : (s.modLog f).pwr = s.pwr := rfl
@[simp] theorem State.modLog_panel (f : LogSt → LogSt) : (s.modLog f).panel = s.panel := rfl
@[simp] theorem State.modLog_boot (f : LogSt → LogSt) : (s.modLog f).boot = s.boot := rfl
@[simp] theorem State.modLog_bus (f : LogSt → LogSt) : (s.modLog f).bus = s.bus := rfl
@[simp] theorem State.modLog_log (f : LogSt → LogSt) : (s.modLog f).log = f s.log := rfl
@[simp] theorem State.modLog_ram (f : LogSt → LogSt) : (s.modLog f).ram = s.ram := rfl
@[simp] theorem State.modLog_mem (f : LogSt → LogSt) : (s.modLog f).mem = s.mem := rfl
@[simp] theorem State.modLog_scene (f : LogSt → LogSt) : (s.modLog f).scene = s.scene := rfl
@[simp] theorem State.modLog_coil (f : LogSt → LogSt) : (s.modLog f).coil = s.coil := rfl
@[simp] theorem State.modLog_wv (f : LogSt → LogSt) : (s.modLog f).wv = s.wv := rfl
@[simp] theorem State.modLog_frs (f : LogSt → LogSt) : (s.modLog f).frs = s.frs := rfl
@[simp] theorem State.modLog_rim (f : LogSt → LogSt) : (s.modLog f).rim = s.rim := rfl
@[simp] theorem State.modLog_scan (f : LogSt → LogSt) : (s.modLog f).scan = s.scan := rfl
@[simp] theorem State.modLog_weft (f : LogSt → LogSt) : (s.modLog f).weft = s.weft := rfl
@[simp] theorem State.modLog_lan (f : LogSt → LogSt) : (s.modLog f).lan = s.lan := rfl
@[simp] theorem State.modLog_fab (f : LogSt → LogSt) : (s.modLog f).fab = s.fab := rfl
@[simp] theorem State.modLog_tim (f : LogSt → LogSt) : (s.modLog f).tim = s.tim := rfl
@[simp] theorem State.modLog_leaf (f : LogSt → LogSt) : (s.modLog f).leaf = s.leaf := rfl
@[simp] theorem State.modLog_nvs (f : LogSt → LogSt) : (s.modLog f).nvs = s.nvs := rfl
@[simp] theorem State.modLog_thm (f : LogSt → LogSt) : (s.modLog f).thm = s.thm := rfl
@[simp] theorem State.modLog_secu (f : LogSt → LogSt) : (s.modLog f).secu = s.secu := rfl
@[simp] theorem State.modLog_freeCtr (f : LogSt → LogSt) : (s.modLog f).freeCtr = s.freeCtr := rfl
@[simp] theorem State.modLog_pending (f : LogSt → LogSt) : (s.modLog f).pending = s.pending := rfl
@[simp] theorem State.modRam_regs (f : RamSt → RamSt) : (s.modRam f).regs = s.regs := rfl
@[simp] theorem State.modRam_eff (f : RamSt → RamSt) : (s.modRam f).eff = s.eff := rfl
@[simp] theorem State.modRam_mode (f : RamSt → RamSt) : (s.modRam f).mode = s.mode := rfl
@[simp] theorem State.modRam_clk (f : RamSt → RamSt) : (s.modRam f).clk = s.clk := rfl
@[simp] theorem State.modRam_pwr (f : RamSt → RamSt) : (s.modRam f).pwr = s.pwr := rfl
@[simp] theorem State.modRam_panel (f : RamSt → RamSt) : (s.modRam f).panel = s.panel := rfl
@[simp] theorem State.modRam_boot (f : RamSt → RamSt) : (s.modRam f).boot = s.boot := rfl
@[simp] theorem State.modRam_bus (f : RamSt → RamSt) : (s.modRam f).bus = s.bus := rfl
@[simp] theorem State.modRam_log (f : RamSt → RamSt) : (s.modRam f).log = s.log := rfl
@[simp] theorem State.modRam_ram (f : RamSt → RamSt) : (s.modRam f).ram = f s.ram := rfl
@[simp] theorem State.modRam_mem (f : RamSt → RamSt) : (s.modRam f).mem = s.mem := rfl
@[simp] theorem State.modRam_scene (f : RamSt → RamSt) : (s.modRam f).scene = s.scene := rfl
@[simp] theorem State.modRam_coil (f : RamSt → RamSt) : (s.modRam f).coil = s.coil := rfl
@[simp] theorem State.modRam_wv (f : RamSt → RamSt) : (s.modRam f).wv = s.wv := rfl
@[simp] theorem State.modRam_frs (f : RamSt → RamSt) : (s.modRam f).frs = s.frs := rfl
@[simp] theorem State.modRam_rim (f : RamSt → RamSt) : (s.modRam f).rim = s.rim := rfl
@[simp] theorem State.modRam_scan (f : RamSt → RamSt) : (s.modRam f).scan = s.scan := rfl
@[simp] theorem State.modRam_weft (f : RamSt → RamSt) : (s.modRam f).weft = s.weft := rfl
@[simp] theorem State.modRam_lan (f : RamSt → RamSt) : (s.modRam f).lan = s.lan := rfl
@[simp] theorem State.modRam_fab (f : RamSt → RamSt) : (s.modRam f).fab = s.fab := rfl
@[simp] theorem State.modRam_tim (f : RamSt → RamSt) : (s.modRam f).tim = s.tim := rfl
@[simp] theorem State.modRam_leaf (f : RamSt → RamSt) : (s.modRam f).leaf = s.leaf := rfl
@[simp] theorem State.modRam_nvs (f : RamSt → RamSt) : (s.modRam f).nvs = s.nvs := rfl
@[simp] theorem State.modRam_thm (f : RamSt → RamSt) : (s.modRam f).thm = s.thm := rfl
@[simp] theorem State.modRam_secu (f : RamSt → RamSt) : (s.modRam f).secu = s.secu := rfl
@[simp] theorem State.modRam_freeCtr (f : RamSt → RamSt) : (s.modRam f).freeCtr = s.freeCtr := rfl
@[simp] theorem State.modRam_pending (f : RamSt → RamSt) : (s.modRam f).pending = s.pending := rfl
@[simp] theorem State.modMem_regs (f : MemSt → MemSt) : (s.modMem f).regs = s.regs := rfl
@[simp] theorem State.modMem_eff (f : MemSt → MemSt) : (s.modMem f).eff = s.eff := rfl
@[simp] theorem State.modMem_mode (f : MemSt → MemSt) : (s.modMem f).mode = s.mode := rfl
@[simp] theorem State.modMem_clk (f : MemSt → MemSt) : (s.modMem f).clk = s.clk := rfl
@[simp] theorem State.modMem_pwr (f : MemSt → MemSt) : (s.modMem f).pwr = s.pwr := rfl
@[simp] theorem State.modMem_panel (f : MemSt → MemSt) : (s.modMem f).panel = s.panel := rfl
@[simp] theorem State.modMem_boot (f : MemSt → MemSt) : (s.modMem f).boot = s.boot := rfl
@[simp] theorem State.modMem_bus (f : MemSt → MemSt) : (s.modMem f).bus = s.bus := rfl
@[simp] theorem State.modMem_log (f : MemSt → MemSt) : (s.modMem f).log = s.log := rfl
@[simp] theorem State.modMem_ram (f : MemSt → MemSt) : (s.modMem f).ram = s.ram := rfl
@[simp] theorem State.modMem_mem (f : MemSt → MemSt) : (s.modMem f).mem = f s.mem := rfl
@[simp] theorem State.modMem_scene (f : MemSt → MemSt) : (s.modMem f).scene = s.scene := rfl
@[simp] theorem State.modMem_coil (f : MemSt → MemSt) : (s.modMem f).coil = s.coil := rfl
@[simp] theorem State.modMem_wv (f : MemSt → MemSt) : (s.modMem f).wv = s.wv := rfl
@[simp] theorem State.modMem_frs (f : MemSt → MemSt) : (s.modMem f).frs = s.frs := rfl
@[simp] theorem State.modMem_rim (f : MemSt → MemSt) : (s.modMem f).rim = s.rim := rfl
@[simp] theorem State.modMem_scan (f : MemSt → MemSt) : (s.modMem f).scan = s.scan := rfl
@[simp] theorem State.modMem_weft (f : MemSt → MemSt) : (s.modMem f).weft = s.weft := rfl
@[simp] theorem State.modMem_lan (f : MemSt → MemSt) : (s.modMem f).lan = s.lan := rfl
@[simp] theorem State.modMem_fab (f : MemSt → MemSt) : (s.modMem f).fab = s.fab := rfl
@[simp] theorem State.modMem_tim (f : MemSt → MemSt) : (s.modMem f).tim = s.tim := rfl
@[simp] theorem State.modMem_leaf (f : MemSt → MemSt) : (s.modMem f).leaf = s.leaf := rfl
@[simp] theorem State.modMem_nvs (f : MemSt → MemSt) : (s.modMem f).nvs = s.nvs := rfl
@[simp] theorem State.modMem_thm (f : MemSt → MemSt) : (s.modMem f).thm = s.thm := rfl
@[simp] theorem State.modMem_secu (f : MemSt → MemSt) : (s.modMem f).secu = s.secu := rfl
@[simp] theorem State.modMem_freeCtr (f : MemSt → MemSt) : (s.modMem f).freeCtr = s.freeCtr := rfl
@[simp] theorem State.modMem_pending (f : MemSt → MemSt) : (s.modMem f).pending = s.pending := rfl
@[simp] theorem State.modScene_regs (f : SceneSt → SceneSt) : (s.modScene f).regs = s.regs := rfl
@[simp] theorem State.modScene_eff (f : SceneSt → SceneSt) : (s.modScene f).eff = s.eff := rfl
@[simp] theorem State.modScene_mode (f : SceneSt → SceneSt) : (s.modScene f).mode = s.mode := rfl
@[simp] theorem State.modScene_clk (f : SceneSt → SceneSt) : (s.modScene f).clk = s.clk := rfl
@[simp] theorem State.modScene_pwr (f : SceneSt → SceneSt) : (s.modScene f).pwr = s.pwr := rfl
@[simp] theorem State.modScene_panel (f : SceneSt → SceneSt) : (s.modScene f).panel = s.panel := rfl
@[simp] theorem State.modScene_boot (f : SceneSt → SceneSt) : (s.modScene f).boot = s.boot := rfl
@[simp] theorem State.modScene_bus (f : SceneSt → SceneSt) : (s.modScene f).bus = s.bus := rfl
@[simp] theorem State.modScene_log (f : SceneSt → SceneSt) : (s.modScene f).log = s.log := rfl
@[simp] theorem State.modScene_ram (f : SceneSt → SceneSt) : (s.modScene f).ram = s.ram := rfl
@[simp] theorem State.modScene_mem (f : SceneSt → SceneSt) : (s.modScene f).mem = s.mem := rfl
@[simp] theorem State.modScene_scene (f : SceneSt → SceneSt) : (s.modScene f).scene = f s.scene := rfl
@[simp] theorem State.modScene_coil (f : SceneSt → SceneSt) : (s.modScene f).coil = s.coil := rfl
@[simp] theorem State.modScene_wv (f : SceneSt → SceneSt) : (s.modScene f).wv = s.wv := rfl
@[simp] theorem State.modScene_frs (f : SceneSt → SceneSt) : (s.modScene f).frs = s.frs := rfl
@[simp] theorem State.modScene_rim (f : SceneSt → SceneSt) : (s.modScene f).rim = s.rim := rfl
@[simp] theorem State.modScene_scan (f : SceneSt → SceneSt) : (s.modScene f).scan = s.scan := rfl
@[simp] theorem State.modScene_weft (f : SceneSt → SceneSt) : (s.modScene f).weft = s.weft := rfl
@[simp] theorem State.modScene_lan (f : SceneSt → SceneSt) : (s.modScene f).lan = s.lan := rfl
@[simp] theorem State.modScene_fab (f : SceneSt → SceneSt) : (s.modScene f).fab = s.fab := rfl
@[simp] theorem State.modScene_tim (f : SceneSt → SceneSt) : (s.modScene f).tim = s.tim := rfl
@[simp] theorem State.modScene_leaf (f : SceneSt → SceneSt) : (s.modScene f).leaf = s.leaf := rfl
@[simp] theorem State.modScene_nvs (f : SceneSt → SceneSt) : (s.modScene f).nvs = s.nvs := rfl
@[simp] theorem State.modScene_thm (f : SceneSt → SceneSt) : (s.modScene f).thm = s.thm := rfl
@[simp] theorem State.modScene_secu (f : SceneSt → SceneSt) : (s.modScene f).secu = s.secu := rfl
@[simp] theorem State.modScene_freeCtr (f : SceneSt → SceneSt) : (s.modScene f).freeCtr = s.freeCtr := rfl
@[simp] theorem State.modScene_pending (f : SceneSt → SceneSt) : (s.modScene f).pending = s.pending := rfl
@[simp] theorem State.modCoil_regs (f : CoilSt → CoilSt) : (s.modCoil f).regs = s.regs := rfl
@[simp] theorem State.modCoil_eff (f : CoilSt → CoilSt) : (s.modCoil f).eff = s.eff := rfl
@[simp] theorem State.modCoil_mode (f : CoilSt → CoilSt) : (s.modCoil f).mode = s.mode := rfl
@[simp] theorem State.modCoil_clk (f : CoilSt → CoilSt) : (s.modCoil f).clk = s.clk := rfl
@[simp] theorem State.modCoil_pwr (f : CoilSt → CoilSt) : (s.modCoil f).pwr = s.pwr := rfl
@[simp] theorem State.modCoil_panel (f : CoilSt → CoilSt) : (s.modCoil f).panel = s.panel := rfl
@[simp] theorem State.modCoil_boot (f : CoilSt → CoilSt) : (s.modCoil f).boot = s.boot := rfl
@[simp] theorem State.modCoil_bus (f : CoilSt → CoilSt) : (s.modCoil f).bus = s.bus := rfl
@[simp] theorem State.modCoil_log (f : CoilSt → CoilSt) : (s.modCoil f).log = s.log := rfl
@[simp] theorem State.modCoil_ram (f : CoilSt → CoilSt) : (s.modCoil f).ram = s.ram := rfl
@[simp] theorem State.modCoil_mem (f : CoilSt → CoilSt) : (s.modCoil f).mem = s.mem := rfl
@[simp] theorem State.modCoil_scene (f : CoilSt → CoilSt) : (s.modCoil f).scene = s.scene := rfl
@[simp] theorem State.modCoil_coil (f : CoilSt → CoilSt) : (s.modCoil f).coil = f s.coil := rfl
@[simp] theorem State.modCoil_wv (f : CoilSt → CoilSt) : (s.modCoil f).wv = s.wv := rfl
@[simp] theorem State.modCoil_frs (f : CoilSt → CoilSt) : (s.modCoil f).frs = s.frs := rfl
@[simp] theorem State.modCoil_rim (f : CoilSt → CoilSt) : (s.modCoil f).rim = s.rim := rfl
@[simp] theorem State.modCoil_scan (f : CoilSt → CoilSt) : (s.modCoil f).scan = s.scan := rfl
@[simp] theorem State.modCoil_weft (f : CoilSt → CoilSt) : (s.modCoil f).weft = s.weft := rfl
@[simp] theorem State.modCoil_lan (f : CoilSt → CoilSt) : (s.modCoil f).lan = s.lan := rfl
@[simp] theorem State.modCoil_fab (f : CoilSt → CoilSt) : (s.modCoil f).fab = s.fab := rfl
@[simp] theorem State.modCoil_tim (f : CoilSt → CoilSt) : (s.modCoil f).tim = s.tim := rfl
@[simp] theorem State.modCoil_leaf (f : CoilSt → CoilSt) : (s.modCoil f).leaf = s.leaf := rfl
@[simp] theorem State.modCoil_nvs (f : CoilSt → CoilSt) : (s.modCoil f).nvs = s.nvs := rfl
@[simp] theorem State.modCoil_thm (f : CoilSt → CoilSt) : (s.modCoil f).thm = s.thm := rfl
@[simp] theorem State.modCoil_secu (f : CoilSt → CoilSt) : (s.modCoil f).secu = s.secu := rfl
@[simp] theorem State.modCoil_freeCtr (f : CoilSt → CoilSt) : (s.modCoil f).freeCtr = s.freeCtr := rfl
@[simp] theorem State.modCoil_pending (f : CoilSt → CoilSt) : (s.modCoil f).pending = s.pending := rfl
@[simp] theorem State.modWv_regs (f : WeaverSt → WeaverSt) : (s.modWv f).regs = s.regs := rfl
@[simp] theorem State.modWv_eff (f : WeaverSt → WeaverSt) : (s.modWv f).eff = s.eff := rfl
@[simp] theorem State.modWv_mode (f : WeaverSt → WeaverSt) : (s.modWv f).mode = s.mode := rfl
@[simp] theorem State.modWv_clk (f : WeaverSt → WeaverSt) : (s.modWv f).clk = s.clk := rfl
@[simp] theorem State.modWv_pwr (f : WeaverSt → WeaverSt) : (s.modWv f).pwr = s.pwr := rfl
@[simp] theorem State.modWv_panel (f : WeaverSt → WeaverSt) : (s.modWv f).panel = s.panel := rfl
@[simp] theorem State.modWv_boot (f : WeaverSt → WeaverSt) : (s.modWv f).boot = s.boot := rfl
@[simp] theorem State.modWv_bus (f : WeaverSt → WeaverSt) : (s.modWv f).bus = s.bus := rfl
@[simp] theorem State.modWv_log (f : WeaverSt → WeaverSt) : (s.modWv f).log = s.log := rfl
@[simp] theorem State.modWv_ram (f : WeaverSt → WeaverSt) : (s.modWv f).ram = s.ram := rfl
@[simp] theorem State.modWv_mem (f : WeaverSt → WeaverSt) : (s.modWv f).mem = s.mem := rfl
@[simp] theorem State.modWv_scene (f : WeaverSt → WeaverSt) : (s.modWv f).scene = s.scene := rfl
@[simp] theorem State.modWv_coil (f : WeaverSt → WeaverSt) : (s.modWv f).coil = s.coil := rfl
@[simp] theorem State.modWv_wv (f : WeaverSt → WeaverSt) : (s.modWv f).wv = f s.wv := rfl
@[simp] theorem State.modWv_frs (f : WeaverSt → WeaverSt) : (s.modWv f).frs = s.frs := rfl
@[simp] theorem State.modWv_rim (f : WeaverSt → WeaverSt) : (s.modWv f).rim = s.rim := rfl
@[simp] theorem State.modWv_scan (f : WeaverSt → WeaverSt) : (s.modWv f).scan = s.scan := rfl
@[simp] theorem State.modWv_weft (f : WeaverSt → WeaverSt) : (s.modWv f).weft = s.weft := rfl
@[simp] theorem State.modWv_lan (f : WeaverSt → WeaverSt) : (s.modWv f).lan = s.lan := rfl
@[simp] theorem State.modWv_fab (f : WeaverSt → WeaverSt) : (s.modWv f).fab = s.fab := rfl
@[simp] theorem State.modWv_tim (f : WeaverSt → WeaverSt) : (s.modWv f).tim = s.tim := rfl
@[simp] theorem State.modWv_leaf (f : WeaverSt → WeaverSt) : (s.modWv f).leaf = s.leaf := rfl
@[simp] theorem State.modWv_nvs (f : WeaverSt → WeaverSt) : (s.modWv f).nvs = s.nvs := rfl
@[simp] theorem State.modWv_thm (f : WeaverSt → WeaverSt) : (s.modWv f).thm = s.thm := rfl
@[simp] theorem State.modWv_secu (f : WeaverSt → WeaverSt) : (s.modWv f).secu = s.secu := rfl
@[simp] theorem State.modWv_freeCtr (f : WeaverSt → WeaverSt) : (s.modWv f).freeCtr = s.freeCtr := rfl
@[simp] theorem State.modWv_pending (f : WeaverSt → WeaverSt) : (s.modWv f).pending = s.pending := rfl
@[simp] theorem State.modFrs_regs (f : FreshSt → FreshSt) : (s.modFrs f).regs = s.regs := rfl
@[simp] theorem State.modFrs_eff (f : FreshSt → FreshSt) : (s.modFrs f).eff = s.eff := rfl
@[simp] theorem State.modFrs_mode (f : FreshSt → FreshSt) : (s.modFrs f).mode = s.mode := rfl
@[simp] theorem State.modFrs_clk (f : FreshSt → FreshSt) : (s.modFrs f).clk = s.clk := rfl
@[simp] theorem State.modFrs_pwr (f : FreshSt → FreshSt) : (s.modFrs f).pwr = s.pwr := rfl
@[simp] theorem State.modFrs_panel (f : FreshSt → FreshSt) : (s.modFrs f).panel = s.panel := rfl
@[simp] theorem State.modFrs_boot (f : FreshSt → FreshSt) : (s.modFrs f).boot = s.boot := rfl
@[simp] theorem State.modFrs_bus (f : FreshSt → FreshSt) : (s.modFrs f).bus = s.bus := rfl
@[simp] theorem State.modFrs_log (f : FreshSt → FreshSt) : (s.modFrs f).log = s.log := rfl
@[simp] theorem State.modFrs_ram (f : FreshSt → FreshSt) : (s.modFrs f).ram = s.ram := rfl
@[simp] theorem State.modFrs_mem (f : FreshSt → FreshSt) : (s.modFrs f).mem = s.mem := rfl
@[simp] theorem State.modFrs_scene (f : FreshSt → FreshSt) : (s.modFrs f).scene = s.scene := rfl
@[simp] theorem State.modFrs_coil (f : FreshSt → FreshSt) : (s.modFrs f).coil = s.coil := rfl
@[simp] theorem State.modFrs_wv (f : FreshSt → FreshSt) : (s.modFrs f).wv = s.wv := rfl
@[simp] theorem State.modFrs_frs (f : FreshSt → FreshSt) : (s.modFrs f).frs = f s.frs := rfl
@[simp] theorem State.modFrs_rim (f : FreshSt → FreshSt) : (s.modFrs f).rim = s.rim := rfl
@[simp] theorem State.modFrs_scan (f : FreshSt → FreshSt) : (s.modFrs f).scan = s.scan := rfl
@[simp] theorem State.modFrs_weft (f : FreshSt → FreshSt) : (s.modFrs f).weft = s.weft := rfl
@[simp] theorem State.modFrs_lan (f : FreshSt → FreshSt) : (s.modFrs f).lan = s.lan := rfl
@[simp] theorem State.modFrs_fab (f : FreshSt → FreshSt) : (s.modFrs f).fab = s.fab := rfl
@[simp] theorem State.modFrs_tim (f : FreshSt → FreshSt) : (s.modFrs f).tim = s.tim := rfl
@[simp] theorem State.modFrs_leaf (f : FreshSt → FreshSt) : (s.modFrs f).leaf = s.leaf := rfl
@[simp] theorem State.modFrs_nvs (f : FreshSt → FreshSt) : (s.modFrs f).nvs = s.nvs := rfl
@[simp] theorem State.modFrs_thm (f : FreshSt → FreshSt) : (s.modFrs f).thm = s.thm := rfl
@[simp] theorem State.modFrs_secu (f : FreshSt → FreshSt) : (s.modFrs f).secu = s.secu := rfl
@[simp] theorem State.modFrs_freeCtr (f : FreshSt → FreshSt) : (s.modFrs f).freeCtr = s.freeCtr := rfl
@[simp] theorem State.modFrs_pending (f : FreshSt → FreshSt) : (s.modFrs f).pending = s.pending := rfl
@[simp] theorem State.modRim_regs (f : RimSt → RimSt) : (s.modRim f).regs = s.regs := rfl
@[simp] theorem State.modRim_eff (f : RimSt → RimSt) : (s.modRim f).eff = s.eff := rfl
@[simp] theorem State.modRim_mode (f : RimSt → RimSt) : (s.modRim f).mode = s.mode := rfl
@[simp] theorem State.modRim_clk (f : RimSt → RimSt) : (s.modRim f).clk = s.clk := rfl
@[simp] theorem State.modRim_pwr (f : RimSt → RimSt) : (s.modRim f).pwr = s.pwr := rfl
@[simp] theorem State.modRim_panel (f : RimSt → RimSt) : (s.modRim f).panel = s.panel := rfl
@[simp] theorem State.modRim_boot (f : RimSt → RimSt) : (s.modRim f).boot = s.boot := rfl
@[simp] theorem State.modRim_bus (f : RimSt → RimSt) : (s.modRim f).bus = s.bus := rfl
@[simp] theorem State.modRim_log (f : RimSt → RimSt) : (s.modRim f).log = s.log := rfl
@[simp] theorem State.modRim_ram (f : RimSt → RimSt) : (s.modRim f).ram = s.ram := rfl
@[simp] theorem State.modRim_mem (f : RimSt → RimSt) : (s.modRim f).mem = s.mem := rfl
@[simp] theorem State.modRim_scene (f : RimSt → RimSt) : (s.modRim f).scene = s.scene := rfl
@[simp] theorem State.modRim_coil (f : RimSt → RimSt) : (s.modRim f).coil = s.coil := rfl
@[simp] theorem State.modRim_wv (f : RimSt → RimSt) : (s.modRim f).wv = s.wv := rfl
@[simp] theorem State.modRim_frs (f : RimSt → RimSt) : (s.modRim f).frs = s.frs := rfl
@[simp] theorem State.modRim_rim (f : RimSt → RimSt) : (s.modRim f).rim = f s.rim := rfl
@[simp] theorem State.modRim_scan (f : RimSt → RimSt) : (s.modRim f).scan = s.scan := rfl
@[simp] theorem State.modRim_weft (f : RimSt → RimSt) : (s.modRim f).weft = s.weft := rfl
@[simp] theorem State.modRim_lan (f : RimSt → RimSt) : (s.modRim f).lan = s.lan := rfl
@[simp] theorem State.modRim_fab (f : RimSt → RimSt) : (s.modRim f).fab = s.fab := rfl
@[simp] theorem State.modRim_tim (f : RimSt → RimSt) : (s.modRim f).tim = s.tim := rfl
@[simp] theorem State.modRim_leaf (f : RimSt → RimSt) : (s.modRim f).leaf = s.leaf := rfl
@[simp] theorem State.modRim_nvs (f : RimSt → RimSt) : (s.modRim f).nvs = s.nvs := rfl
@[simp] theorem State.modRim_thm (f : RimSt → RimSt) : (s.modRim f).thm = s.thm := rfl
@[simp] theorem State.modRim_secu (f : RimSt → RimSt) : (s.modRim f).secu = s.secu := rfl
@[simp] theorem State.modRim_freeCtr (f : RimSt → RimSt) : (s.modRim f).freeCtr = s.freeCtr := rfl
@[simp] theorem State.modRim_pending (f : RimSt → RimSt) : (s.modRim f).pending = s.pending := rfl
@[simp] theorem State.modScan_regs (f : ScanSt → ScanSt) : (s.modScan f).regs = s.regs := rfl
@[simp] theorem State.modScan_eff (f : ScanSt → ScanSt) : (s.modScan f).eff = s.eff := rfl
@[simp] theorem State.modScan_mode (f : ScanSt → ScanSt) : (s.modScan f).mode = s.mode := rfl
@[simp] theorem State.modScan_clk (f : ScanSt → ScanSt) : (s.modScan f).clk = s.clk := rfl
@[simp] theorem State.modScan_pwr (f : ScanSt → ScanSt) : (s.modScan f).pwr = s.pwr := rfl
@[simp] theorem State.modScan_panel (f : ScanSt → ScanSt) : (s.modScan f).panel = s.panel := rfl
@[simp] theorem State.modScan_boot (f : ScanSt → ScanSt) : (s.modScan f).boot = s.boot := rfl
@[simp] theorem State.modScan_bus (f : ScanSt → ScanSt) : (s.modScan f).bus = s.bus := rfl
@[simp] theorem State.modScan_log (f : ScanSt → ScanSt) : (s.modScan f).log = s.log := rfl
@[simp] theorem State.modScan_ram (f : ScanSt → ScanSt) : (s.modScan f).ram = s.ram := rfl
@[simp] theorem State.modScan_mem (f : ScanSt → ScanSt) : (s.modScan f).mem = s.mem := rfl
@[simp] theorem State.modScan_scene (f : ScanSt → ScanSt) : (s.modScan f).scene = s.scene := rfl
@[simp] theorem State.modScan_coil (f : ScanSt → ScanSt) : (s.modScan f).coil = s.coil := rfl
@[simp] theorem State.modScan_wv (f : ScanSt → ScanSt) : (s.modScan f).wv = s.wv := rfl
@[simp] theorem State.modScan_frs (f : ScanSt → ScanSt) : (s.modScan f).frs = s.frs := rfl
@[simp] theorem State.modScan_rim (f : ScanSt → ScanSt) : (s.modScan f).rim = s.rim := rfl
@[simp] theorem State.modScan_scan (f : ScanSt → ScanSt) : (s.modScan f).scan = f s.scan := rfl
@[simp] theorem State.modScan_weft (f : ScanSt → ScanSt) : (s.modScan f).weft = s.weft := rfl
@[simp] theorem State.modScan_lan (f : ScanSt → ScanSt) : (s.modScan f).lan = s.lan := rfl
@[simp] theorem State.modScan_fab (f : ScanSt → ScanSt) : (s.modScan f).fab = s.fab := rfl
@[simp] theorem State.modScan_tim (f : ScanSt → ScanSt) : (s.modScan f).tim = s.tim := rfl
@[simp] theorem State.modScan_leaf (f : ScanSt → ScanSt) : (s.modScan f).leaf = s.leaf := rfl
@[simp] theorem State.modScan_nvs (f : ScanSt → ScanSt) : (s.modScan f).nvs = s.nvs := rfl
@[simp] theorem State.modScan_thm (f : ScanSt → ScanSt) : (s.modScan f).thm = s.thm := rfl
@[simp] theorem State.modScan_secu (f : ScanSt → ScanSt) : (s.modScan f).secu = s.secu := rfl
@[simp] theorem State.modScan_freeCtr (f : ScanSt → ScanSt) : (s.modScan f).freeCtr = s.freeCtr := rfl
@[simp] theorem State.modScan_pending (f : ScanSt → ScanSt) : (s.modScan f).pending = s.pending := rfl
@[simp] theorem State.modWeft_regs (f : WeftSt → WeftSt) : (s.modWeft f).regs = s.regs := rfl
@[simp] theorem State.modWeft_eff (f : WeftSt → WeftSt) : (s.modWeft f).eff = s.eff := rfl
@[simp] theorem State.modWeft_mode (f : WeftSt → WeftSt) : (s.modWeft f).mode = s.mode := rfl
@[simp] theorem State.modWeft_clk (f : WeftSt → WeftSt) : (s.modWeft f).clk = s.clk := rfl
@[simp] theorem State.modWeft_pwr (f : WeftSt → WeftSt) : (s.modWeft f).pwr = s.pwr := rfl
@[simp] theorem State.modWeft_panel (f : WeftSt → WeftSt) : (s.modWeft f).panel = s.panel := rfl
@[simp] theorem State.modWeft_boot (f : WeftSt → WeftSt) : (s.modWeft f).boot = s.boot := rfl
@[simp] theorem State.modWeft_bus (f : WeftSt → WeftSt) : (s.modWeft f).bus = s.bus := rfl
@[simp] theorem State.modWeft_log (f : WeftSt → WeftSt) : (s.modWeft f).log = s.log := rfl
@[simp] theorem State.modWeft_ram (f : WeftSt → WeftSt) : (s.modWeft f).ram = s.ram := rfl
@[simp] theorem State.modWeft_mem (f : WeftSt → WeftSt) : (s.modWeft f).mem = s.mem := rfl
@[simp] theorem State.modWeft_scene (f : WeftSt → WeftSt) : (s.modWeft f).scene = s.scene := rfl
@[simp] theorem State.modWeft_coil (f : WeftSt → WeftSt) : (s.modWeft f).coil = s.coil := rfl
@[simp] theorem State.modWeft_wv (f : WeftSt → WeftSt) : (s.modWeft f).wv = s.wv := rfl
@[simp] theorem State.modWeft_frs (f : WeftSt → WeftSt) : (s.modWeft f).frs = s.frs := rfl
@[simp] theorem State.modWeft_rim (f : WeftSt → WeftSt) : (s.modWeft f).rim = s.rim := rfl
@[simp] theorem State.modWeft_scan (f : WeftSt → WeftSt) : (s.modWeft f).scan = s.scan := rfl
@[simp] theorem State.modWeft_weft (f : WeftSt → WeftSt) : (s.modWeft f).weft = f s.weft := rfl
@[simp] theorem State.modWeft_lan (f : WeftSt → WeftSt) : (s.modWeft f).lan = s.lan := rfl
@[simp] theorem State.modWeft_fab (f : WeftSt → WeftSt) : (s.modWeft f).fab = s.fab := rfl
@[simp] theorem State.modWeft_tim (f : WeftSt → WeftSt) : (s.modWeft f).tim = s.tim := rfl
@[simp] theorem State.modWeft_leaf (f : WeftSt → WeftSt) : (s.modWeft f).leaf = s.leaf := rfl
@[simp] theorem State.modWeft_nvs (f : WeftSt → WeftSt) : (s.modWeft f).nvs = s.nvs := rfl
@[simp] theorem State.modWeft_thm (f : WeftSt → WeftSt) : (s.modWeft f).thm = s.thm := rfl
@[simp] theorem State.modWeft_secu (f : WeftSt → WeftSt) : (s.modWeft f).secu = s.secu := rfl
@[simp] theorem State.modWeft_freeCtr (f : WeftSt → WeftSt) : (s.modWeft f).freeCtr = s.freeCtr := rfl
@[simp] theorem State.modWeft_pending (f : WeftSt → WeftSt) : (s.modWeft f).pending = s.pending := rfl
@[simp] theorem State.modLan_regs (f : LaneSt → LaneSt) : (s.modLan f).regs = s.regs := rfl
@[simp] theorem State.modLan_eff (f : LaneSt → LaneSt) : (s.modLan f).eff = s.eff := rfl
@[simp] theorem State.modLan_mode (f : LaneSt → LaneSt) : (s.modLan f).mode = s.mode := rfl
@[simp] theorem State.modLan_clk (f : LaneSt → LaneSt) : (s.modLan f).clk = s.clk := rfl
@[simp] theorem State.modLan_pwr (f : LaneSt → LaneSt) : (s.modLan f).pwr = s.pwr := rfl
@[simp] theorem State.modLan_panel (f : LaneSt → LaneSt) : (s.modLan f).panel = s.panel := rfl
@[simp] theorem State.modLan_boot (f : LaneSt → LaneSt) : (s.modLan f).boot = s.boot := rfl
@[simp] theorem State.modLan_bus (f : LaneSt → LaneSt) : (s.modLan f).bus = s.bus := rfl
@[simp] theorem State.modLan_log (f : LaneSt → LaneSt) : (s.modLan f).log = s.log := rfl
@[simp] theorem State.modLan_ram (f : LaneSt → LaneSt) : (s.modLan f).ram = s.ram := rfl
@[simp] theorem State.modLan_mem (f : LaneSt → LaneSt) : (s.modLan f).mem = s.mem := rfl
@[simp] theorem State.modLan_scene (f : LaneSt → LaneSt) : (s.modLan f).scene = s.scene := rfl
@[simp] theorem State.modLan_coil (f : LaneSt → LaneSt) : (s.modLan f).coil = s.coil := rfl
@[simp] theorem State.modLan_wv (f : LaneSt → LaneSt) : (s.modLan f).wv = s.wv := rfl
@[simp] theorem State.modLan_frs (f : LaneSt → LaneSt) : (s.modLan f).frs = s.frs := rfl
@[simp] theorem State.modLan_rim (f : LaneSt → LaneSt) : (s.modLan f).rim = s.rim := rfl
@[simp] theorem State.modLan_scan (f : LaneSt → LaneSt) : (s.modLan f).scan = s.scan := rfl
@[simp] theorem State.modLan_weft (f : LaneSt → LaneSt) : (s.modLan f).weft = s.weft := rfl
@[simp] theorem State.modLan_lan (f : LaneSt → LaneSt) : (s.modLan f).lan = f s.lan := rfl
@[simp] theorem State.modLan_fab (f : LaneSt → LaneSt) : (s.modLan f).fab = s.fab := rfl
@[simp] theorem State.modLan_tim (f : LaneSt → LaneSt) : (s.modLan f).tim = s.tim := rfl
@[simp] theorem State.modLan_leaf (f : LaneSt → LaneSt) : (s.modLan f).leaf = s.leaf := rfl
@[simp] theorem State.modLan_nvs (f : LaneSt → LaneSt) : (s.modLan f).nvs = s.nvs := rfl
@[simp] theorem State.modLan_thm (f : LaneSt → LaneSt) : (s.modLan f).thm = s.thm := rfl
@[simp] theorem State.modLan_secu (f : LaneSt → LaneSt) : (s.modLan f).secu = s.secu := rfl
@[simp] theorem State.modLan_freeCtr (f : LaneSt → LaneSt) : (s.modLan f).freeCtr = s.freeCtr := rfl
@[simp] theorem State.modLan_pending (f : LaneSt → LaneSt) : (s.modLan f).pending = s.pending := rfl
@[simp] theorem State.modFab_regs (f : FabSt → FabSt) : (s.modFab f).regs = s.regs := rfl
@[simp] theorem State.modFab_eff (f : FabSt → FabSt) : (s.modFab f).eff = s.eff := rfl
@[simp] theorem State.modFab_mode (f : FabSt → FabSt) : (s.modFab f).mode = s.mode := rfl
@[simp] theorem State.modFab_clk (f : FabSt → FabSt) : (s.modFab f).clk = s.clk := rfl
@[simp] theorem State.modFab_pwr (f : FabSt → FabSt) : (s.modFab f).pwr = s.pwr := rfl
@[simp] theorem State.modFab_panel (f : FabSt → FabSt) : (s.modFab f).panel = s.panel := rfl
@[simp] theorem State.modFab_boot (f : FabSt → FabSt) : (s.modFab f).boot = s.boot := rfl
@[simp] theorem State.modFab_bus (f : FabSt → FabSt) : (s.modFab f).bus = s.bus := rfl
@[simp] theorem State.modFab_log (f : FabSt → FabSt) : (s.modFab f).log = s.log := rfl
@[simp] theorem State.modFab_ram (f : FabSt → FabSt) : (s.modFab f).ram = s.ram := rfl
@[simp] theorem State.modFab_mem (f : FabSt → FabSt) : (s.modFab f).mem = s.mem := rfl
@[simp] theorem State.modFab_scene (f : FabSt → FabSt) : (s.modFab f).scene = s.scene := rfl
@[simp] theorem State.modFab_coil (f : FabSt → FabSt) : (s.modFab f).coil = s.coil := rfl
@[simp] theorem State.modFab_wv (f : FabSt → FabSt) : (s.modFab f).wv = s.wv := rfl
@[simp] theorem State.modFab_frs (f : FabSt → FabSt) : (s.modFab f).frs = s.frs := rfl
@[simp] theorem State.modFab_rim (f : FabSt → FabSt) : (s.modFab f).rim = s.rim := rfl
@[simp] theorem State.modFab_scan (f : FabSt → FabSt) : (s.modFab f).scan = s.scan := rfl
@[simp] theorem State.modFab_weft (f : FabSt → FabSt) : (s.modFab f).weft = s.weft := rfl
@[simp] theorem State.modFab_lan (f : FabSt → FabSt) : (s.modFab f).lan = s.lan := rfl
@[simp] theorem State.modFab_fab (f : FabSt → FabSt) : (s.modFab f).fab = f s.fab := rfl
@[simp] theorem State.modFab_tim (f : FabSt → FabSt) : (s.modFab f).tim = s.tim := rfl
@[simp] theorem State.modFab_leaf (f : FabSt → FabSt) : (s.modFab f).leaf = s.leaf := rfl
@[simp] theorem State.modFab_nvs (f : FabSt → FabSt) : (s.modFab f).nvs = s.nvs := rfl
@[simp] theorem State.modFab_thm (f : FabSt → FabSt) : (s.modFab f).thm = s.thm := rfl
@[simp] theorem State.modFab_secu (f : FabSt → FabSt) : (s.modFab f).secu = s.secu := rfl
@[simp] theorem State.modFab_freeCtr (f : FabSt → FabSt) : (s.modFab f).freeCtr = s.freeCtr := rfl
@[simp] theorem State.modFab_pending (f : FabSt → FabSt) : (s.modFab f).pending = s.pending := rfl
@[simp] theorem State.modTim_regs (f : TimeSt → TimeSt) : (s.modTim f).regs = s.regs := rfl
@[simp] theorem State.modTim_eff (f : TimeSt → TimeSt) : (s.modTim f).eff = s.eff := rfl
@[simp] theorem State.modTim_mode (f : TimeSt → TimeSt) : (s.modTim f).mode = s.mode := rfl
@[simp] theorem State.modTim_clk (f : TimeSt → TimeSt) : (s.modTim f).clk = s.clk := rfl
@[simp] theorem State.modTim_pwr (f : TimeSt → TimeSt) : (s.modTim f).pwr = s.pwr := rfl
@[simp] theorem State.modTim_panel (f : TimeSt → TimeSt) : (s.modTim f).panel = s.panel := rfl
@[simp] theorem State.modTim_boot (f : TimeSt → TimeSt) : (s.modTim f).boot = s.boot := rfl
@[simp] theorem State.modTim_bus (f : TimeSt → TimeSt) : (s.modTim f).bus = s.bus := rfl
@[simp] theorem State.modTim_log (f : TimeSt → TimeSt) : (s.modTim f).log = s.log := rfl
@[simp] theorem State.modTim_ram (f : TimeSt → TimeSt) : (s.modTim f).ram = s.ram := rfl
@[simp] theorem State.modTim_mem (f : TimeSt → TimeSt) : (s.modTim f).mem = s.mem := rfl
@[simp] theorem State.modTim_scene (f : TimeSt → TimeSt) : (s.modTim f).scene = s.scene := rfl
@[simp] theorem State.modTim_coil (f : TimeSt → TimeSt) : (s.modTim f).coil = s.coil := rfl
@[simp] theorem State.modTim_wv (f : TimeSt → TimeSt) : (s.modTim f).wv = s.wv := rfl
@[simp] theorem State.modTim_frs (f : TimeSt → TimeSt) : (s.modTim f).frs = s.frs := rfl
@[simp] theorem State.modTim_rim (f : TimeSt → TimeSt) : (s.modTim f).rim = s.rim := rfl
@[simp] theorem State.modTim_scan (f : TimeSt → TimeSt) : (s.modTim f).scan = s.scan := rfl
@[simp] theorem State.modTim_weft (f : TimeSt → TimeSt) : (s.modTim f).weft = s.weft := rfl
@[simp] theorem State.modTim_lan (f : TimeSt → TimeSt) : (s.modTim f).lan = s.lan := rfl
@[simp] theorem State.modTim_fab (f : TimeSt → TimeSt) : (s.modTim f).fab = s.fab := rfl
@[simp] theorem State.modTim_tim (f : TimeSt → TimeSt) : (s.modTim f).tim = f s.tim := rfl
@[simp] theorem State.modTim_leaf (f : TimeSt → TimeSt) : (s.modTim f).leaf = s.leaf := rfl
@[simp] theorem State.modTim_nvs (f : TimeSt → TimeSt) : (s.modTim f).nvs = s.nvs := rfl
@[simp] theorem State.modTim_thm (f : TimeSt → TimeSt) : (s.modTim f).thm = s.thm := rfl
@[simp] theorem State.modTim_secu (f : TimeSt → TimeSt) : (s.modTim f).secu = s.secu := rfl
@[simp] theorem State.modTim_freeCtr (f : TimeSt → TimeSt) : (s.modTim f).freeCtr = s.freeCtr := rfl
@[simp] theorem State.modTim_pending (f : TimeSt → TimeSt) : (s.modTim f).pending = s.pending := rfl
@[simp] theorem State.modLeaf_regs (f : LeafSt → LeafSt) : (s.modLeaf f).regs = s.regs := rfl
@[simp] theorem State.modLeaf_eff (f : LeafSt → LeafSt) : (s.modLeaf f).eff = s.eff := rfl
@[simp] theorem State.modLeaf_mode (f : LeafSt → LeafSt) : (s.modLeaf f).mode = s.mode := rfl
@[simp] theorem State.modLeaf_clk (f : LeafSt → LeafSt) : (s.modLeaf f).clk = s.clk := rfl
@[simp] theorem State.modLeaf_pwr (f : LeafSt → LeafSt) : (s.modLeaf f).pwr = s.pwr := rfl
@[simp] theorem State.modLeaf_panel (f : LeafSt → LeafSt) : (s.modLeaf f).panel = s.panel := rfl
@[simp] theorem State.modLeaf_boot (f : LeafSt → LeafSt) : (s.modLeaf f).boot = s.boot := rfl
@[simp] theorem State.modLeaf_bus (f : LeafSt → LeafSt) : (s.modLeaf f).bus = s.bus := rfl
@[simp] theorem State.modLeaf_log (f : LeafSt → LeafSt) : (s.modLeaf f).log = s.log := rfl
@[simp] theorem State.modLeaf_ram (f : LeafSt → LeafSt) : (s.modLeaf f).ram = s.ram := rfl
@[simp] theorem State.modLeaf_mem (f : LeafSt → LeafSt) : (s.modLeaf f).mem = s.mem := rfl
@[simp] theorem State.modLeaf_scene (f : LeafSt → LeafSt) : (s.modLeaf f).scene = s.scene := rfl
@[simp] theorem State.modLeaf_coil (f : LeafSt → LeafSt) : (s.modLeaf f).coil = s.coil := rfl
@[simp] theorem State.modLeaf_wv (f : LeafSt → LeafSt) : (s.modLeaf f).wv = s.wv := rfl
@[simp] theorem State.modLeaf_frs (f : LeafSt → LeafSt) : (s.modLeaf f).frs = s.frs := rfl
@[simp] theorem State.modLeaf_rim (f : LeafSt → LeafSt) : (s.modLeaf f).rim = s.rim := rfl
@[simp] theorem State.modLeaf_scan (f : LeafSt → LeafSt) : (s.modLeaf f).scan = s.scan := rfl
@[simp] theorem State.modLeaf_weft (f : LeafSt → LeafSt) : (s.modLeaf f).weft = s.weft := rfl
@[simp] theorem State.modLeaf_lan (f : LeafSt → LeafSt) : (s.modLeaf f).lan = s.lan := rfl
@[simp] theorem State.modLeaf_fab (f : LeafSt → LeafSt) : (s.modLeaf f).fab = s.fab := rfl
@[simp] theorem State.modLeaf_tim (f : LeafSt → LeafSt) : (s.modLeaf f).tim = s.tim := rfl
@[simp] theorem State.modLeaf_leaf (f : LeafSt → LeafSt) : (s.modLeaf f).leaf = f s.leaf := rfl
@[simp] theorem State.modLeaf_nvs (f : LeafSt → LeafSt) : (s.modLeaf f).nvs = s.nvs := rfl
@[simp] theorem State.modLeaf_thm (f : LeafSt → LeafSt) : (s.modLeaf f).thm = s.thm := rfl
@[simp] theorem State.modLeaf_secu (f : LeafSt → LeafSt) : (s.modLeaf f).secu = s.secu := rfl
@[simp] theorem State.modLeaf_freeCtr (f : LeafSt → LeafSt) : (s.modLeaf f).freeCtr = s.freeCtr := rfl
@[simp] theorem State.modLeaf_pending (f : LeafSt → LeafSt) : (s.modLeaf f).pending = s.pending := rfl
@[simp] theorem State.modNvs_regs (f : NvsSt → NvsSt) : (s.modNvs f).regs = s.regs := rfl
@[simp] theorem State.modNvs_eff (f : NvsSt → NvsSt) : (s.modNvs f).eff = s.eff := rfl
@[simp] theorem State.modNvs_mode (f : NvsSt → NvsSt) : (s.modNvs f).mode = s.mode := rfl
@[simp] theorem State.modNvs_clk (f : NvsSt → NvsSt) : (s.modNvs f).clk = s.clk := rfl
@[simp] theorem State.modNvs_pwr (f : NvsSt → NvsSt) : (s.modNvs f).pwr = s.pwr := rfl
@[simp] theorem State.modNvs_panel (f : NvsSt → NvsSt) : (s.modNvs f).panel = s.panel := rfl
@[simp] theorem State.modNvs_boot (f : NvsSt → NvsSt) : (s.modNvs f).boot = s.boot := rfl
@[simp] theorem State.modNvs_bus (f : NvsSt → NvsSt) : (s.modNvs f).bus = s.bus := rfl
@[simp] theorem State.modNvs_log (f : NvsSt → NvsSt) : (s.modNvs f).log = s.log := rfl
@[simp] theorem State.modNvs_ram (f : NvsSt → NvsSt) : (s.modNvs f).ram = s.ram := rfl
@[simp] theorem State.modNvs_mem (f : NvsSt → NvsSt) : (s.modNvs f).mem = s.mem := rfl
@[simp] theorem State.modNvs_scene (f : NvsSt → NvsSt) : (s.modNvs f).scene = s.scene := rfl
@[simp] theorem State.modNvs_coil (f : NvsSt → NvsSt) : (s.modNvs f).coil = s.coil := rfl
@[simp] theorem State.modNvs_wv (f : NvsSt → NvsSt) : (s.modNvs f).wv = s.wv := rfl
@[simp] theorem State.modNvs_frs (f : NvsSt → NvsSt) : (s.modNvs f).frs = s.frs := rfl
@[simp] theorem State.modNvs_rim (f : NvsSt → NvsSt) : (s.modNvs f).rim = s.rim := rfl
@[simp] theorem State.modNvs_scan (f : NvsSt → NvsSt) : (s.modNvs f).scan = s.scan := rfl
@[simp] theorem State.modNvs_weft (f : NvsSt → NvsSt) : (s.modNvs f).weft = s.weft := rfl
@[simp] theorem State.modNvs_lan (f : NvsSt → NvsSt) : (s.modNvs f).lan = s.lan := rfl
@[simp] theorem State.modNvs_fab (f : NvsSt → NvsSt) : (s.modNvs f).fab = s.fab := rfl
@[simp] theorem State.modNvs_tim (f : NvsSt → NvsSt) : (s.modNvs f).tim = s.tim := rfl
@[simp] theorem State.modNvs_leaf (f : NvsSt → NvsSt) : (s.modNvs f).leaf = s.leaf := rfl
@[simp] theorem State.modNvs_nvs (f : NvsSt → NvsSt) : (s.modNvs f).nvs = f s.nvs := rfl
@[simp] theorem State.modNvs_thm (f : NvsSt → NvsSt) : (s.modNvs f).thm = s.thm := rfl
@[simp] theorem State.modNvs_secu (f : NvsSt → NvsSt) : (s.modNvs f).secu = s.secu := rfl
@[simp] theorem State.modNvs_freeCtr (f : NvsSt → NvsSt) : (s.modNvs f).freeCtr = s.freeCtr := rfl
@[simp] theorem State.modNvs_pending (f : NvsSt → NvsSt) : (s.modNvs f).pending = s.pending := rfl
@[simp] theorem State.modThm_regs (f : ThermSt → ThermSt) : (s.modThm f).regs = s.regs := rfl
@[simp] theorem State.modThm_eff (f : ThermSt → ThermSt) : (s.modThm f).eff = s.eff := rfl
@[simp] theorem State.modThm_mode (f : ThermSt → ThermSt) : (s.modThm f).mode = s.mode := rfl
@[simp] theorem State.modThm_clk (f : ThermSt → ThermSt) : (s.modThm f).clk = s.clk := rfl
@[simp] theorem State.modThm_pwr (f : ThermSt → ThermSt) : (s.modThm f).pwr = s.pwr := rfl
@[simp] theorem State.modThm_panel (f : ThermSt → ThermSt) : (s.modThm f).panel = s.panel := rfl
@[simp] theorem State.modThm_boot (f : ThermSt → ThermSt) : (s.modThm f).boot = s.boot := rfl
@[simp] theorem State.modThm_bus (f : ThermSt → ThermSt) : (s.modThm f).bus = s.bus := rfl
@[simp] theorem State.modThm_log (f : ThermSt → ThermSt) : (s.modThm f).log = s.log := rfl
@[simp] theorem State.modThm_ram (f : ThermSt → ThermSt) : (s.modThm f).ram = s.ram := rfl
@[simp] theorem State.modThm_mem (f : ThermSt → ThermSt) : (s.modThm f).mem = s.mem := rfl
@[simp] theorem State.modThm_scene (f : ThermSt → ThermSt) : (s.modThm f).scene = s.scene := rfl
@[simp] theorem State.modThm_coil (f : ThermSt → ThermSt) : (s.modThm f).coil = s.coil := rfl
@[simp] theorem State.modThm_wv (f : ThermSt → ThermSt) : (s.modThm f).wv = s.wv := rfl
@[simp] theorem State.modThm_frs (f : ThermSt → ThermSt) : (s.modThm f).frs = s.frs := rfl
@[simp] theorem State.modThm_rim (f : ThermSt → ThermSt) : (s.modThm f).rim = s.rim := rfl
@[simp] theorem State.modThm_scan (f : ThermSt → ThermSt) : (s.modThm f).scan = s.scan := rfl
@[simp] theorem State.modThm_weft (f : ThermSt → ThermSt) : (s.modThm f).weft = s.weft := rfl
@[simp] theorem State.modThm_lan (f : ThermSt → ThermSt) : (s.modThm f).lan = s.lan := rfl
@[simp] theorem State.modThm_fab (f : ThermSt → ThermSt) : (s.modThm f).fab = s.fab := rfl
@[simp] theorem State.modThm_tim (f : ThermSt → ThermSt) : (s.modThm f).tim = s.tim := rfl
@[simp] theorem State.modThm_leaf (f : ThermSt → ThermSt) : (s.modThm f).leaf = s.leaf := rfl
@[simp] theorem State.modThm_nvs (f : ThermSt → ThermSt) : (s.modThm f).nvs = s.nvs := rfl
@[simp] theorem State.modThm_thm (f : ThermSt → ThermSt) : (s.modThm f).thm = f s.thm := rfl
@[simp] theorem State.modThm_secu (f : ThermSt → ThermSt) : (s.modThm f).secu = s.secu := rfl
@[simp] theorem State.modThm_freeCtr (f : ThermSt → ThermSt) : (s.modThm f).freeCtr = s.freeCtr := rfl
@[simp] theorem State.modThm_pending (f : ThermSt → ThermSt) : (s.modThm f).pending = s.pending := rfl
@[simp] theorem State.modSecu_regs (f : SecuSt → SecuSt) : (s.modSecu f).regs = s.regs := rfl
@[simp] theorem State.modSecu_eff (f : SecuSt → SecuSt) : (s.modSecu f).eff = s.eff := rfl
@[simp] theorem State.modSecu_mode (f : SecuSt → SecuSt) : (s.modSecu f).mode = s.mode := rfl
@[simp] theorem State.modSecu_clk (f : SecuSt → SecuSt) : (s.modSecu f).clk = s.clk := rfl
@[simp] theorem State.modSecu_pwr (f : SecuSt → SecuSt) : (s.modSecu f).pwr = s.pwr := rfl
@[simp] theorem State.modSecu_panel (f : SecuSt → SecuSt) : (s.modSecu f).panel = s.panel := rfl
@[simp] theorem State.modSecu_boot (f : SecuSt → SecuSt) : (s.modSecu f).boot = s.boot := rfl
@[simp] theorem State.modSecu_bus (f : SecuSt → SecuSt) : (s.modSecu f).bus = s.bus := rfl
@[simp] theorem State.modSecu_log (f : SecuSt → SecuSt) : (s.modSecu f).log = s.log := rfl
@[simp] theorem State.modSecu_ram (f : SecuSt → SecuSt) : (s.modSecu f).ram = s.ram := rfl
@[simp] theorem State.modSecu_mem (f : SecuSt → SecuSt) : (s.modSecu f).mem = s.mem := rfl
@[simp] theorem State.modSecu_scene (f : SecuSt → SecuSt) : (s.modSecu f).scene = s.scene := rfl
@[simp] theorem State.modSecu_coil (f : SecuSt → SecuSt) : (s.modSecu f).coil = s.coil := rfl
@[simp] theorem State.modSecu_wv (f : SecuSt → SecuSt) : (s.modSecu f).wv = s.wv := rfl
@[simp] theorem State.modSecu_frs (f : SecuSt → SecuSt) : (s.modSecu f).frs = s.frs := rfl
@[simp] theorem State.modSecu_rim (f : SecuSt → SecuSt) : (s.modSecu f).rim = s.rim := rfl
@[simp] theorem State.modSecu_scan (f : SecuSt → SecuSt) : (s.modSecu f).scan = s.scan := rfl
@[simp] theorem State.modSecu_weft (f : SecuSt → SecuSt) : (s.modSecu f).weft = s.weft := rfl
@[simp] theorem State.modSecu_lan (f : SecuSt → SecuSt) : (s.modSecu f).lan = s.lan := rfl
@[simp] theorem State.modSecu_fab (f : SecuSt → SecuSt) : (s.modSecu f).fab = s.fab := rfl
@[simp] theorem State.modSecu_tim (f : SecuSt → SecuSt) : (s.modSecu f).tim = s.tim := rfl
@[simp] theorem State.modSecu_leaf (f : SecuSt → SecuSt) : (s.modSecu f).leaf = s.leaf := rfl
@[simp] theorem State.modSecu_nvs (f : SecuSt → SecuSt) : (s.modSecu f).nvs = s.nvs := rfl
@[simp] theorem State.modSecu_thm (f : SecuSt → SecuSt) : (s.modSecu f).thm = s.thm := rfl
@[simp] theorem State.modSecu_secu (f : SecuSt → SecuSt) : (s.modSecu f).secu = f s.secu := rfl
@[simp] theorem State.modSecu_freeCtr (f : SecuSt → SecuSt) : (s.modSecu f).freeCtr = s.freeCtr := rfl
@[simp] theorem State.modSecu_pending (f : SecuSt → SecuSt) : (s.modSecu f).pending = s.pending := rfl
@[simp] theorem State.modFreeCtr_regs (f : Nat → Nat) : (s.modFreeCtr f).regs = s.regs := rfl
@[simp] theorem State.modFreeCtr_eff (f : Nat → Nat) : (s.modFreeCtr f).eff = s.eff := rfl
@[simp] theorem State.modFreeCtr_mode (f : Nat → Nat) : (s.modFreeCtr f).mode = s.mode := rfl
@[simp] theorem State.modFreeCtr_clk (f : Nat → Nat) : (s.modFreeCtr f).clk = s.clk := rfl
@[simp] theorem State.modFreeCtr_pwr (f : Nat → Nat) : (s.modFreeCtr f).pwr = s.pwr := rfl
@[simp] theorem State.modFreeCtr_panel (f : Nat → Nat) : (s.modFreeCtr f).panel = s.panel := rfl
@[simp] theorem State.modFreeCtr_boot (f : Nat → Nat) : (s.modFreeCtr f).boot = s.boot := rfl
@[simp] theorem State.modFreeCtr_bus (f : Nat → Nat) : (s.modFreeCtr f).bus = s.bus := rfl
@[simp] theorem State.modFreeCtr_log (f : Nat → Nat) : (s.modFreeCtr f).log = s.log := rfl
@[simp] theorem State.modFreeCtr_ram (f : Nat → Nat) : (s.modFreeCtr f).ram = s.ram := rfl
@[simp] theorem State.modFreeCtr_mem (f : Nat → Nat) : (s.modFreeCtr f).mem = s.mem := rfl
@[simp] theorem State.modFreeCtr_scene (f : Nat → Nat) : (s.modFreeCtr f).scene = s.scene := rfl
@[simp] theorem State.modFreeCtr_coil (f : Nat → Nat) : (s.modFreeCtr f).coil = s.coil := rfl
@[simp] theorem State.modFreeCtr_wv (f : Nat → Nat) : (s.modFreeCtr f).wv = s.wv := rfl
@[simp] theorem State.modFreeCtr_frs (f : Nat → Nat) : (s.modFreeCtr f).frs = s.frs := rfl
@[simp] theorem State.modFreeCtr_rim (f : Nat → Nat) : (s.modFreeCtr f).rim = s.rim := rfl
@[simp] theorem State.modFreeCtr_scan (f : Nat → Nat) : (s.modFreeCtr f).scan = s.scan := rfl
@[simp] theorem State.modFreeCtr_weft (f : Nat → Nat) : (s.modFreeCtr f).weft = s.weft := rfl
@[simp] theorem State.modFreeCtr_lan (f : Nat → Nat) : (s.modFreeCtr f).lan = s.lan := rfl
@[simp] theorem State.modFreeCtr_fab (f : Nat → Nat) : (s.modFreeCtr f).fab = s.fab := rfl
@[simp] theorem State.modFreeCtr_tim (f : Nat → Nat) : (s.modFreeCtr f).tim = s.tim := rfl
@[simp] theorem State.modFreeCtr_leaf (f : Nat → Nat) : (s.modFreeCtr f).leaf = s.leaf := rfl
@[simp] theorem State.modFreeCtr_nvs (f : Nat → Nat) : (s.modFreeCtr f).nvs = s.nvs := rfl
@[simp] theorem State.modFreeCtr_thm (f : Nat → Nat) : (s.modFreeCtr f).thm = s.thm := rfl
@[simp] theorem State.modFreeCtr_secu (f : Nat → Nat) : (s.modFreeCtr f).secu = s.secu := rfl
@[simp] theorem State.modFreeCtr_freeCtr (f : Nat → Nat) : (s.modFreeCtr f).freeCtr = f s.freeCtr := rfl
@[simp] theorem State.modFreeCtr_pending (f : Nat → Nat) : (s.modFreeCtr f).pending = s.pending := rfl
@[simp] theorem State.modPending_regs (f : List Instr → List Instr) : (s.modPending f).regs = s.regs := rfl
@[simp] theorem State.modPending_eff (f : List Instr → List Instr) : (s.modPending f).eff = s.eff := rfl
@[simp] theorem State.modPending_mode (f : List Instr → List Instr) : (s.modPending f).mode = s.mode := rfl
@[simp] theorem State.modPending_clk (f : List Instr → List Instr) : (s.modPending f).clk = s.clk := rfl
@[simp] theorem State.modPending_pwr (f : List Instr → List Instr) : (s.modPending f).pwr = s.pwr := rfl
@[simp] theorem State.modPending_panel (f : List Instr → List Instr) : (s.modPending f).panel = s.panel := rfl
@[simp] theorem State.modPending_boot (f : List Instr → List Instr) : (s.modPending f).boot = s.boot := rfl
@[simp] theorem State.modPending_bus (f : List Instr → List Instr) : (s.modPending f).bus = s.bus := rfl
@[simp] theorem State.modPending_log (f : List Instr → List Instr) : (s.modPending f).log = s.log := rfl
@[simp] theorem State.modPending_ram (f : List Instr → List Instr) : (s.modPending f).ram = s.ram := rfl
@[simp] theorem State.modPending_mem (f : List Instr → List Instr) : (s.modPending f).mem = s.mem := rfl
@[simp] theorem State.modPending_scene (f : List Instr → List Instr) : (s.modPending f).scene = s.scene := rfl
@[simp] theorem State.modPending_coil (f : List Instr → List Instr) : (s.modPending f).coil = s.coil := rfl
@[simp] theorem State.modPending_wv (f : List Instr → List Instr) : (s.modPending f).wv = s.wv := rfl
@[simp] theorem State.modPending_frs (f : List Instr → List Instr) : (s.modPending f).frs = s.frs := rfl
@[simp] theorem State.modPending_rim (f : List Instr → List Instr) : (s.modPending f).rim = s.rim := rfl
@[simp] theorem State.modPending_scan (f : List Instr → List Instr) : (s.modPending f).scan = s.scan := rfl
@[simp] theorem State.modPending_weft (f : List Instr → List Instr) : (s.modPending f).weft = s.weft := rfl
@[simp] theorem State.modPending_lan (f : List Instr → List Instr) : (s.modPending f).lan = s.lan := rfl
@[simp] theorem State.modPending_fab (f : List Instr → List Instr) : (s.modPending f).fab = s.fab := rfl
@[simp] theorem State.modPending_tim (f : List Instr → List Instr) : (s.modPending f).tim = s.tim := rfl
@[simp] theorem State.modPending_leaf (f : List Instr → List Instr) : (s.modPending f).leaf = s.leaf := rfl
@[simp] theorem State.modPending_nvs (f : List Instr → List Instr) : (s.modPending f).nvs = s.nvs := rfl
@[simp] theorem State.modPending_thm (f : List Instr → List Instr) : (s.modPending f).thm = s.thm := rfl
@[simp] theorem State.modPending_secu (f : List Instr → List Instr) : (s.modPending f).secu = s.secu := rfl
@[simp] theorem State.modPending_freeCtr (f : List Instr → List Instr) : (s.modPending f).freeCtr = s.freeCtr := rfl
@[simp] theorem State.modPending_pending (f : List Instr → List Instr) : (s.modPending f).pending = f s.pending := rfl

end Sys2Proof.Machine
end

