-- ==== Sys2Proof/Laws/Table.lean ====
section
/-! SUPPORT. The laws of the sparse tables: what a read gives after a write, and that every operation keeps the canonical
form. -/

namespace Sys2Proof.Machine

variable {α : Type} (d : Nat → α)

theorem tget_tput (t : Table α) (k k' : Nat) (v : α) : tget d (tput k v t) k' = if k' = k then v else tget d t k' := by
  induction t with
  | nil => simp [tput, tget]
  | cons h t ih =>
    obtain ⟨a, w⟩ := h
    unfold tput
    split
    · simp [tget]
    · split
      · subst_vars
        by_cases e : k' = a <;> simp [tget, e]
      · by_cases e : k' = a
        · subst e
          simp [tget, Ne.symm ‹_›]
        · simp [tget, e, ih]

theorem tget_tdel (t : Table α) (k k' : Nat) : tget d (tdel k t) k' = if k' = k then d k' else tget d t k' := by
  induction t with
  | nil => simp [tdel, tget]
  | cons h t ih =>
    obtain ⟨a, w⟩ := h
    unfold tdel
    split
    · subst_vars
      by_cases e : k' = a
      · simp [e] at ih ⊢
        exact ih
      · simp [tget, e, ih]
    · by_cases e : k' = a
      · subst e
        simp [tget, Ne.symm ‹_›]
      · simp [tget, e, ih]

/-- A read after a write. -/
theorem tget_tset [DecidableEq α] (t : Table α) (k k' : Nat) (v : α) :
    tget d (tset d t k v) k' = if k' = k then v else tget d t k' := by
  unfold tset
  split
  · rw [tget_tdel]
    split
    · subst_vars
      simp_all
    · rfl
  · exact tget_tput d t k k' v

theorem tget_tfilter (p : Nat → Bool) (t : Table α) (k : Nat) :
    tget d (tfilter (fun k _ => p k) t) k = if p k then tget d t k else d k := by
  induction t with
  | nil => simp [tfilter, tget]
  | cons h t ih =>
    obtain ⟨a, w⟩ := h
    simp only [tfilter] at ih
    by_cases e : k = a
    · subst e
      cases hp : p k <;> simp [tfilter, tget, hp, ih]
    · cases hp : p a <;> simp [tfilter, tget, hp, ih, e]

variable [DecidableEq α]

theorem tabove_of_twf {a : Nat} {v : α} {t : Table α} (h : twf d ((a, v) :: t) = true) : tabove a t = true := by
  simp [twf] at h
  exact h.1.2

theorem twf_tail {x : Nat × α} {t : Table α} (h : twf d (x :: t) = true) : twf d t = true := by
  simp [twf] at h
  exact h.2

omit [DecidableEq α] in
theorem tabove_mono {a b : Nat} {t : Table α} (h : tabove b t = true) (hab : a ≤ b) : tabove a t = true := by
  cases t with
  | nil => rfl
  | cons x t => simp [tabove] at *; omega

/-- Every key of a canonical table above `k` is above `k`. -/
theorem tabove_filter {k : Nat} {t : Table α} (p : Nat × α → Bool) (hw : twf d t = true) (h : tabove k t = true) :
    tabove k (t.filter p) = true := by
  induction t with
  | nil => rfl
  | cons x t ih =>
    have ha := tabove_of_twf d (v := x.2) (a := x.1) hw
    simp only [List.filter]
    have hk : k < x.1 := by simpa [tabove] using h
    cases p x
    · exact ih (twf_tail d hw) (tabove_mono ha (by omega))
    · simpa [tabove] using hk

theorem twf_filter {t : Table α} (p : Nat × α → Bool) (h : twf d t = true) : twf d (t.filter p) = true := by
  induction t with
  | nil => rfl
  | cons x t ih =>
    have hx := h
    simp [twf] at hx
    simp only [List.filter]
    cases p x
    · exact ih hx.2
    · simp [twf, hx.1.1, ih hx.2, tabove_filter d p hx.2 hx.1.2]

theorem twf_tfilter {t : Table α} (p : Nat → α → Bool) (h : twf d t = true) : twf d (tfilter p t) = true :=
  twf_filter d _ h

omit [DecidableEq α] in
theorem tdel_eq_filter (k : Nat) (t : Table α) : tdel k t = t.filter (fun x => decide (k ≠ x.1)) := by
  induction t with
  | nil => rfl
  | cons x t ih => by_cases e : k = x.1 <;> simp [tdel, e] <;> simpa [e] using ih

omit [DecidableEq α] in
theorem tabove_tput {a k : Nat} {v : α} {t : Table α} (hak : a < k) (h : tabove a t = true) :
    tabove a (tput k v t) = true := by
  cases t with
  | nil => simpa [tput, tabove] using hak
  | cons x t =>
    unfold tput
    split
    · simpa [tabove] using hak
    · split
      · simpa [tabove] using hak
      · simpa [tabove] using h

theorem twf_tput {k : Nat} {v : α} {t : Table α} (hv : v ≠ d k) (h : twf d t = true) : twf d (tput k v t) = true := by
  induction t with
  | nil => simp [tput, twf, tabove, hv]
  | cons x t ih =>
    have hx := h
    simp [twf] at hx
    unfold tput
    split
    · have ht : tabove x.1 t = true := hx.1.2
      simp [twf, hv, hx.1.1, hx.2, ht]
      simpa [tabove] using ‹k < x.1›
    · split
      · subst_vars
        simp [twf, hv, hx]
      · have hlt : x.1 < k := by omega
        simp [twf, hx.1.1, ih hx.2, tabove_tput hlt hx.1.2]

/-- Every write keeps the canonical form. -/
theorem twf_tset {t : Table α} (k : Nat) (v : α) (h : twf d t = true) : twf d (tset d t k v) = true := by
  unfold tset
  split
  · rw [tdel_eq_filter]
    exact twf_filter d _ h
  · exact twf_tput d ‹_› h

theorem twf_tsets {t : Table α} (k : Nat) (vs : List α) (h : twf d t = true) : twf d (tsets d t k vs) = true := by
  induction vs generalizing t k with
  | nil => exact h
  | cons v vs ih => exact ih (k + 1) (twf_tset d k v h)

/-- A write of consecutive keys, read at one key. -/
theorem tget_tsets (t : Table α) (k : Nat) (vs : List α) (k' : Nat) :
    tget d (tsets d t k vs) k' = if h : k ≤ k' ∧ k' < k + vs.length then vs[k' - k]'(by omega) else tget d t k' := by
  induction vs generalizing t k with
  | nil => simp [tsets]
  | cons v vs ih =>
    simp only [tsets, ih, tget_tset]
    by_cases e : k' = k
    · subst e
      simp [show ¬ (k' + 1 ≤ k') by omega]
    · by_cases h : k + 1 ≤ k' ∧ k' < k + 1 + vs.length
      · have : k' - k = k' - (k + 1) + 1 := by omega
        simp [h, this, show k ≤ k' by omega, show k' < k + (vs.length + 1) by omega]
      · rw [dif_neg h, if_neg e, dif_neg (by simp only [List.length_cons]; omega)]

/-- Consecutive writes leave the other keys. -/
theorem tget_tsets_out (t : Table α) {k : Nat} {vs : List α} {k' : Nat} (h : ¬ (k ≤ k' ∧ k' < k + vs.length)) :
    tget d (tsets d t k vs) k' = tget d t k' := by
  rw [tget_tsets, dif_neg h]

end Sys2Proof.Machine
end

