-- ==== Sys2Proof/Laws/Frame.lean ====
section
/-! SUPPORT. Frames as one preorder: `Fr m s t` says that every area whose bit in the mask `m` is 0 is the same in both states,
that the canonical forms and the number of fuses are kept, and that no fuse is unburned. The files Laws/Frame<Family>.lean
hold one lemma per operation: the mask of the areas it can change. `Fr.keeps` turns a mask into the list of areas that the
statements name. -/

namespace Sys2Proof.Machine

/-- What every operation keeps, beside its frame. -/
structure State.Follows (s t : State) : Prop where
  canon : s.canonical → t.canonical
  fuses : s.secu.fusesOk → t.secu.fusesOk
  burned : s.secu.burnedIn t.secu

/-- Every area whose bit in `m` is 0 is the same in both states, and `t` follows `s`. -/
def Fr (m : Nat) (s t : State) : Prop := (∀ p : Area, m.testBit p.ctorIdx = false → p.same s t) ∧ s.Follows t

theorem SecuSt.burnedIn_refl (u : SecuSt) : u.burnedIn u := ⟨Nat.le_refl _, List.prefix_refl _, Nat.le_refl _, id⟩

theorem SecuSt.burnedIn_trans {u v w : SecuSt} (h : u.burnedIn v) (k : v.burnedIn w) : u.burnedIn w :=
  ⟨Nat.le_trans h.1 k.1, h.2.1.trans k.2.1, Nat.le_trans h.2.2.1 k.2.2.1, fun e => k.2.2.2 (h.2.2.2 e)⟩

theorem State.Follows.refl (s : State) : s.Follows s := ⟨id, id, s.secu.burnedIn_refl⟩

theorem State.Follows.trans {s t u : State} (h : s.Follows t) (k : t.Follows u) : s.Follows u :=
  ⟨fun x => k.canon (h.canon x), fun x => k.fuses (h.fuses x), SecuSt.burnedIn_trans h.burned k.burned⟩

theorem Area.same_refl (p : Area) (s : State) : p.same s s := by cases p <;> simp [Area.same]

theorem Area.same_trans {p : Area} {s t u : State} (h : p.same s t) (k : p.same t u) : p.same s u := by
  cases p <;> simp_all [Area.same]

theorem Fr.refl {m : Nat} {s : State} : Fr m s s := ⟨fun p _ => p.same_refl s, .refl s⟩

theorem Fr.trans {m : Nat} {s t u : State} (h : Fr m s t) (k : Fr m t u) : Fr m s u :=
  ⟨fun p hp => Area.same_trans (h.1 p hp) (k.1 p hp), h.2.trans k.2⟩

/-- A frame under a smaller mask is one under a greater. -/
theorem Fr.mono {m n : Nat} {s t : State} (h : Fr m s t) (hm : m &&& n = m) : Fr n s t := by
  refine ⟨fun p hp => h.1 p ?_, h.2⟩
  rw [← hm, Nat.testBit_and, hp, Bool.and_false]

/-- Chain a frame after another, its mask within the greater one. -/
theorem Fr.next {m n : Nat} {s t u : State} (k : Fr m t u) (h : Fr n s t) (hm : m &&& n = m) : Fr n s u := h.trans (k.mono hm)

theorem Fr.ite {m : Nat} {s a b : State} {c : Prop} [Decidable c] (ha : Fr m s a) (hb : Fr m s b) :
    Fr m s (if c then a else b) := by split <;> assumption

theorem Fr.ite2 {m : Nat} {s : State} {α : Type} {a b : α × State} {c : Prop} [Decidable c] (ha : Fr m s a.2)
    (hb : Fr m s b.2) : Fr m s (if c then a else b).2 := by split <;> assumption

theorem Fr.mk2 {m : Nat} {s t : State} {α : Type} {a : α} (h : Fr m s t) : Fr m s (a, t).2 := h

/-- The state of a pair that a local equation names. -/
theorem Fr.snd {m : Nat} {s t : State} {α : Type} {a : α} {p : α × State} (e : p = (a, t)) (h : Fr m s p.2) : Fr m s t := by
  rw [e] at h
  exact h

theorem Fr.fst {m : Nat} {s t : State} {α : Type} {a : α} {p : State × α} (e : p = (t, a)) (h : Fr m s p.1) : Fr m s t := by
  rw [e] at h
  exact h

theorem Fr.snd2 {m : Nat} {s t : State} {α β : Type} {a : α} {b : β} {p : α × β × State} (e : p = (a, b, t))
    (h : Fr m s p.2.2) : Fr m s t := by
  rw [e] at h
  exact h

/-- A frame through a local function. -/
theorem Fr.via {m : Nat} {s t : State} {f : State → State} (hf : ∀ s, Fr m s (f s)) (h : Fr m s t) : Fr m s (f t) :=
  h.trans (hf t)

/-- Masks within one another. -/
theorem Fr.sub {a b m : Nat} (h : a &&& b = a) (k : b &&& m = b) : a &&& m = a := by
  rw [← h, Nat.and_assoc, k]

theorem Fr.foldl {m : Nat} {α : Type} {f : State → α → State} (hf : ∀ s x, Fr m s (f s x)) (xs : List α) {s0 s : State}
    (h : Fr m s0 s) : Fr m s0 (xs.foldl f s) := by
  induction xs generalizing s with
  | nil => exact h
  | cons x xs ih => exact ih (h.trans (hf s x))

theorem Fr.foldl1 {m : Nat} {α β : Type} {f : State × β → α → State × β} (hf : ∀ p x, Fr m p.1 (f p x).1) (xs : List α)
    {s0 : State} {p : State × β} (h : Fr m s0 p.1) : Fr m s0 (xs.foldl f p).1 := by
  induction xs generalizing p with
  | nil => exact h
  | cons x xs ih => exact ih (h.trans (hf p x))

theorem Fr.each {m : Nat} {α : Type} {f : State → α → State} {xs : List α} {s0 s : State} (h : Fr m s0 s)
    (hf : ∀ s x, Fr m s (f s x)) : Fr m s0 (s.each xs f) := Fr.foldl hf xs h

theorem Fr.when {m : Nat} {c : Bool} {f : State → State} {s0 s : State} (h : Fr m s0 s) (hf : ∀ s, Fr m s (f s)) :
    Fr m s0 (s.when c f) := by
  unfold State.when
  split
  · exact h.trans (hf s)
  · exact h

/-- A frame names the areas it keeps. -/
theorem Fr.keeps {m : Nat} {s t : State} {ps : List Area} (h : Fr m s t)
    (hm : ∀ p : Area, p ∉ ps → m.testBit p.ctorIdx = false) : s.keeps t ps := fun p hp => h.1 p (hm p hp)

theorem Fr.sound {m : Nat} {s t : State} (h : Fr m s t) (k : s.sound) : t.sound := ⟨h.2.canon k.1, h.2.fuses k.2⟩

/-- The state of an optional answer is within a frame. -/
def FrI {α : Type} (m : Nat) (s : State) (o : Option (α × State)) : Prop := ∀ v, o = some v → Fr m s v.2

theorem FrI.ite {α : Type} {m : Nat} {s : State} {a b : Option (α × State)} {c : Prop} [Decidable c] (ha : FrI m s a)
    (hb : FrI m s b) : FrI m s (if c then a else b) := by split <;> assumption

theorem FrI.none {α : Type} {m : Nat} {s : State} : FrI m s (Option.none : Option (α × State)) := fun _ h => by cases h

theorem FrI.some {α : Type} {m : Nat} {s : State} {v : α × State} (h : Fr m s v.2) : FrI m s (Option.some v) :=
  fun _ e => Option.some.inj e ▸ h

theorem FrI.mono {α : Type} {m n : Nat} {s : State} {o : Option (α × State)} (h : FrI m s o) (hm : m &&& n = m) : FrI n s o :=
  fun v e => (h v e).mono hm

/-- What a command answers is a next state within a frame. -/
def FrO (m : Nat) (s : State) (o : Out) : Prop := ∃ t, o = .next t ∧ Fr m s t

theorem FrO.next {m : Nat} {s t : State} (h : Fr m s t) : FrO m s (.next t) := ⟨t, rfl, h⟩

theorem FrO.ite {m : Nat} {s : State} {a b : Out} {c : Prop} [Decidable c] (ha : FrO m s a) (hb : FrO m s b) :
    FrO m s (if c then a else b) := by split <;> assumption

theorem FrO.mono {m n : Nat} {s : State} {o : Out} (h : FrO m s o) (hm : m &&& n = m) : FrO n s o := by
  obtain ⟨t, e, h⟩ := h
  exact ⟨t, e, h.mono hm⟩

theorem FrO.trans {m : Nat} {s t : State} {o : Out} (h : Fr m s t) (k : FrO m t o) : FrO m s o := by
  obtain ⟨u, e, k⟩ := k
  exact ⟨u, e, h.trans k⟩

/-! ### The updates of single areas -/

theorem State.modMode_fr {s f} : Fr 4 s (State.modMode s f) :=
  ⟨fun p hp => by cases p <;> first | rfl | exact ⟨rfl, rfl⟩ | exact absurd hp (by decide), id, id, s.secu.burnedIn_refl⟩

theorem State.modClk_fr {s f} : Fr 8 s (State.modClk s f) :=
  ⟨fun p hp => by cases p <;> first | rfl | exact ⟨rfl, rfl⟩ | exact absurd hp (by decide), id, id, s.secu.burnedIn_refl⟩

theorem State.modPwr_fr {s f} : Fr 16 s (State.modPwr s f) :=
  ⟨fun p hp => by cases p <;> first | rfl | exact ⟨rfl, rfl⟩ | exact absurd hp (by decide), id, id, s.secu.burnedIn_refl⟩

theorem State.modPanel_fr {s f} : Fr 32 s (State.modPanel s f) :=
  ⟨fun p hp => by cases p <;> first | rfl | exact ⟨rfl, rfl⟩ | exact absurd hp (by decide), id, id, s.secu.burnedIn_refl⟩

theorem State.modBoot_fr {s f} : Fr 64 s (State.modBoot s f) :=
  ⟨fun p hp => by cases p <;> first | rfl | exact ⟨rfl, rfl⟩ | exact absurd hp (by decide), id, id, s.secu.burnedIn_refl⟩

theorem State.modBus_fr {s f} : Fr 128 s (State.modBus s f) :=
  ⟨fun p hp => by cases p <;> first | rfl | exact ⟨rfl, rfl⟩ | exact absurd hp (by decide), id, id, s.secu.burnedIn_refl⟩

theorem State.modLog_fr {s f} : Fr 256 s (State.modLog s f) :=
  ⟨fun p hp => by cases p <;> first | rfl | exact ⟨rfl, rfl⟩ | exact absurd hp (by decide), id, id, s.secu.burnedIn_refl⟩

theorem State.modMem_fr {s f} : Fr 512 s (State.modMem s f) :=
  ⟨fun p hp => by cases p <;> first | rfl | exact ⟨rfl, rfl⟩ | exact absurd hp (by decide), id, id, s.secu.burnedIn_refl⟩

theorem State.modScene_fr {s f} : Fr 1024 s (State.modScene s f) :=
  ⟨fun p hp => by cases p <;> first | rfl | exact ⟨rfl, rfl⟩ | exact absurd hp (by decide), id, id, s.secu.burnedIn_refl⟩

theorem State.modCoil_fr {s f} : Fr 2048 s (State.modCoil s f) :=
  ⟨fun p hp => by cases p <;> first | rfl | exact ⟨rfl, rfl⟩ | exact absurd hp (by decide), id, id, s.secu.burnedIn_refl⟩

theorem State.modWv_fr {s f} : Fr 4096 s (State.modWv s f) :=
  ⟨fun p hp => by cases p <;> first | rfl | exact ⟨rfl, rfl⟩ | exact absurd hp (by decide), id, id, s.secu.burnedIn_refl⟩

theorem State.modFrs_fr {s f} : Fr 8192 s (State.modFrs s f) :=
  ⟨fun p hp => by cases p <;> first | rfl | exact ⟨rfl, rfl⟩ | exact absurd hp (by decide), id, id, s.secu.burnedIn_refl⟩

theorem State.modRim_fr {s f} : Fr 16384 s (State.modRim s f) :=
  ⟨fun p hp => by cases p <;> first | rfl | exact ⟨rfl, rfl⟩ | exact absurd hp (by decide), id, id, s.secu.burnedIn_refl⟩

theorem State.modScan_fr {s f} : Fr 32768 s (State.modScan s f) :=
  ⟨fun p hp => by cases p <;> first | rfl | exact ⟨rfl, rfl⟩ | exact absurd hp (by decide), id, id, s.secu.burnedIn_refl⟩

theorem State.modWeft_fr {s f} : Fr 65536 s (State.modWeft s f) :=
  ⟨fun p hp => by cases p <;> first | rfl | exact ⟨rfl, rfl⟩ | exact absurd hp (by decide), id, id, s.secu.burnedIn_refl⟩

theorem State.modLan_fr {s f} : Fr 131072 s (State.modLan s f) :=
  ⟨fun p hp => by cases p <;> first | rfl | exact ⟨rfl, rfl⟩ | exact absurd hp (by decide), id, id, s.secu.burnedIn_refl⟩

theorem State.modFab_fr {s f} : Fr 262144 s (State.modFab s f) :=
  ⟨fun p hp => by cases p <;> first | rfl | exact ⟨rfl, rfl⟩ | exact absurd hp (by decide), id, id, s.secu.burnedIn_refl⟩

theorem State.modTim_fr {s f} : Fr 524288 s (State.modTim s f) :=
  ⟨fun p hp => by cases p <;> first | rfl | exact ⟨rfl, rfl⟩ | exact absurd hp (by decide), id, id, s.secu.burnedIn_refl⟩

theorem State.modLeaf_fr {s f} : Fr 1048576 s (State.modLeaf s f) :=
  ⟨fun p hp => by cases p <;> first | rfl | exact ⟨rfl, rfl⟩ | exact absurd hp (by decide), id, id, s.secu.burnedIn_refl⟩

theorem State.modNvs_fr {s f} : Fr 2097152 s (State.modNvs s f) :=
  ⟨fun p hp => by cases p <;> first | rfl | exact ⟨rfl, rfl⟩ | exact absurd hp (by decide), id, id, s.secu.burnedIn_refl⟩

theorem State.modThm_fr {s f} : Fr 4194304 s (State.modThm s f) :=
  ⟨fun p hp => by cases p <;> first | rfl | exact ⟨rfl, rfl⟩ | exact absurd hp (by decide), id, id, s.secu.burnedIn_refl⟩

theorem State.modFreeCtr_fr {s f} : Fr 16777216 s (State.modFreeCtr s f) :=
  ⟨fun p hp => by cases p <;> first | rfl | exact ⟨rfl, rfl⟩ | exact absurd hp (by decide), id, id, s.secu.burnedIn_refl⟩

theorem State.setReg_fr {s k v} : Fr 1 s (State.setReg s k v) :=
  ⟨fun p hp => by cases p <;> first | rfl | exact ⟨rfl, rfl⟩ | exact absurd hp (by decide), fun h => ⟨twf_tset _ _ _ h.1, h.2⟩, id,
   s.secu.burnedIn_refl⟩

theorem State.dropRegs_fr {s p} : Fr 1 s (State.dropRegs s p) :=
  ⟨fun p hp => by cases p <;> first | rfl | exact ⟨rfl, rfl⟩ | exact absurd hp (by decide), fun h => ⟨twf_tfilter _ (fun k _ => !p k) h.1, h.2⟩, id,
   s.secu.burnedIn_refl⟩

theorem State.effSet_fr {s k v} : Fr 2 s (State.effSet s k v) :=
  ⟨fun p hp => by cases p <;> first | rfl | exact ⟨rfl, rfl⟩ | exact absurd hp (by decide), fun h => ⟨h.1, twf_tset _ _ _ h.2.1, h.2.2⟩, id,
   s.secu.burnedIn_refl⟩

theorem State.dropEff_fr {s p} : Fr 2 s (State.dropEff s p) :=
  ⟨fun p hp => by cases p <;> first | rfl | exact ⟨rfl, rfl⟩ | exact absurd hp (by decide), fun h => ⟨h.1, twf_tfilter _ (fun k _ => !p k) h.2.1, h.2.2⟩, id,
   s.secu.burnedIn_refl⟩

theorem State.latchAll_fr {s p} : Fr 2 s (State.latchAll s p) :=
  ⟨fun p hp => by cases p <;> first | rfl | exact ⟨rfl, rfl⟩ | exact absurd hp (by decide), fun h => ⟨h.1, twf_tfilter _ (fun k _ => !p k) h.1, h.2.2⟩, id,
   s.secu.burnedIn_refl⟩

theorem State.hbmWr_fr {s a bs} : Fr 67108864 s (State.hbmWr s a bs) :=
  ⟨fun p hp => by cases p <;> first | rfl | exact ⟨rfl, rfl⟩ | exact absurd hp (by decide), fun h => ⟨h.1, h.2.1, twf_tsets _ _ _ h.2.2.1, h.2.2.2.1, twf_tfilter _ (fun k _ => !(decide (a ≤ 32 * k) && decide (32 * k + 32 ≤ a + bs.length))) h.2.2.2.2⟩, id,
   s.secu.burnedIn_refl⟩

theorem State.sramWr_fr {s a bs} : Fr 134217728 s (State.sramWr s a bs) :=
  ⟨fun p hp => by cases p <;> first | rfl | exact ⟨rfl, rfl⟩ | exact absurd hp (by decide), fun h => ⟨h.1, h.2.1, h.2.2.1, twf_tsets _ _ _ h.2.2.2.1, h.2.2.2.2⟩, id,
   s.secu.burnedIn_refl⟩

theorem State.clearHbm_fr {s p q} : Fr 67108864 s (State.clearHbm s p q) :=
  ⟨fun p hp => by cases p <;> first | rfl | exact ⟨rfl, rfl⟩ | exact absurd hp (by decide), fun h => ⟨h.1, h.2.1, twf_tfilter _ (fun k _ => !p k) h.2.2.1, h.2.2.2.1, twf_tfilter _ (fun k _ => !q k) h.2.2.2.2⟩, id,
   s.secu.burnedIn_refl⟩

theorem State.spoil_fr {s b} : Fr 67108864 s (State.spoil s b) :=
  ⟨fun p hp => by cases p <;> first | rfl | exact ⟨rfl, rfl⟩ | exact absurd hp (by decide), fun h => ⟨h.1, h.2.1, h.2.2.1, h.2.2.2.1, twf_tset _ b true h.2.2.2.2⟩, id,
   s.secu.burnedIn_refl⟩

theorem State.setKeys_fr {s ks} : Fr 8388608 s (State.setKeys s ks) :=
  ⟨fun p hp => by cases p <;> first | rfl | exact ⟨rfl, rfl⟩ | exact absurd hp (by decide), id, id, s.secu.burnedIn_refl⟩

theorem State.setSigs_fr {s fs l} : Fr 8388608 s (State.setSigs s fs l) :=
  ⟨fun p hp => by cases p <;> first | rfl | exact ⟨rfl, rfl⟩ | exact absurd hp (by decide), id, id, s.secu.burnedIn_refl⟩

theorem State.burnTrans_fr {s} : Fr 8388608 s (State.burnTrans s) :=
  ⟨fun p hp => by cases p <;> first | rfl | exact ⟨rfl, rfl⟩ | exact absurd hp (by decide), id, fun h => by
    unfold State.burnTrans State.modSecu
    dsimp only
    split
    · exact ⟨by dsimp only; omega, h.2⟩
    · exact h, by
    unfold State.burnTrans State.modSecu
    dsimp only
    split
    · exact ⟨by dsimp only; omega, List.prefix_refl _, Nat.le_refl _, id⟩
    · exact s.secu.burnedIn_refl⟩

theorem State.burnOwner_fr {s pub} : Fr 8388608 s (State.burnOwner s pub) :=
  ⟨fun p hp => by cases p <;> first | rfl | exact ⟨rfl, rfl⟩ | exact absurd hp (by decide), id, fun h => by
    unfold State.burnOwner State.modSecu
    dsimp only
    split
    · exact ⟨h.1, by simp; omega, h.2.2⟩
    · exact h, by
    unfold State.burnOwner State.modSecu
    dsimp only
    split
    · exact ⟨Nat.le_refl _, List.prefix_append _ _, Nat.le_refl _, id⟩
    · exact s.secu.burnedIn_refl⟩

theorem State.burnSvn_fr {s v} : Fr 8388608 s (State.burnSvn s v) :=
  ⟨fun p hp => by cases p <;> first | rfl | exact ⟨rfl, rfl⟩ | exact absurd hp (by decide), id, fun h => ⟨h.1, h.2.1, Nat.max_le.2 ⟨h.2.2, Nat.min_le_left _ _⟩⟩, ⟨Nat.le_refl _, List.prefix_refl _, Nat.le_max_left _ _, id⟩⟩

end Sys2Proof.Machine
end

