-- ==== Sys2Proof/Laws/FrameOps.lean ====
section
/-! SUPPORT. The frame of every operation of Machine/Ops.lean. -/

namespace Sys2Proof.Machine

set_option linter.unusedTactic false
set_option linter.unreachableTactic false

theorem State.advance_fr {s a1} : Fr 8 s (State.advance s a1) := by
  unfold State.advance
  with_reducible
    repeat' first | apply Fr.refl | assumption | ((try lift_lets -underBinder); intro x; clear_value x) | apply Fr.ite | apply Fr.next State.modClk_fr | refine Fr.snd ‹_ = (_, _)› ?_ | refine Fr.fst ‹_ = (_, _)› ?_ | refine Fr.snd2 ‹_ = (_, _, _)› ?_ | refine Fr.via (by assumption) ?_ | split
  all_goals first | rfl | exact Fr.refl

theorem State.wr_fr {s a1 a2 a3 a4} : Fr 1 s (State.wr s a1 a2 a3 a4) := by
  unfold State.wr
  with_reducible
    repeat' first | apply Fr.refl | assumption | apply Fr.ite | apply Fr.next State.setReg_fr | refine Fr.snd ‹_ = (_, _)› ?_ | refine Fr.fst ‹_ = (_, _)› ?_ | refine Fr.snd2 ‹_ = (_, _, _)› ?_ | refine Fr.via (by assumption) ?_ | split
  all_goals first | rfl | exact Fr.refl

theorem State.bump_fr {s a1 a2 a3 a4} : Fr 1 s (State.bump s a1 a2 a3 a4) := by
  unfold State.bump
  with_reducible
    repeat' first | apply Fr.refl | assumption | apply Fr.ite | apply Fr.next State.wr_fr | refine Fr.snd ‹_ = (_, _)› ?_ | refine Fr.fst ‹_ = (_, _)› ?_ | refine Fr.snd2 ‹_ = (_, _, _)› ?_ | refine Fr.via (by assumption) ?_ | split
  all_goals first | rfl | exact Fr.refl

theorem State.wrB_fr {s a1 a2 a3 a4} : Fr 1 s (State.wrB s a1 a2 a3 a4) := by
  unfold State.wrB
  with_reducible
    repeat' first | apply Fr.refl | assumption | apply Fr.ite | apply Fr.next State.wr_fr | refine Fr.snd ‹_ = (_, _)› ?_ | refine Fr.fst ‹_ = (_, _)› ?_ | refine Fr.snd2 ‹_ = (_, _, _)› ?_ | refine Fr.via (by assumption) ?_ | split
  all_goals first | rfl | exact Fr.refl

theorem State.countErr_fr {s a1 a2 a3 a4} : Fr 1 s (State.countErr s a1 a2 a3 a4) := by
  unfold State.countErr
  with_reducible
    repeat' first | apply Fr.refl | assumption | ((try lift_lets -underBinder); intro (x : State); refine (fun h => ?_ : Fr 1 s x → _) ?_; clear_value x; rotate_left; subst x) | ((try lift_lets -underBinder); intro x; clear_value x) | apply Fr.ite | apply Fr.next State.bump_fr | apply Fr.next State.wr_fr | apply Fr.next State.wrB_fr | refine Fr.snd ‹_ = (_, _)› ?_ | refine Fr.fst ‹_ = (_, _)› ?_ | refine Fr.snd2 ‹_ = (_, _, _)› ?_ | refine Fr.via (by assumption) ?_ | split
  all_goals first | rfl | exact Fr.refl

theorem State.logStore_fr {s a1 a2} : Fr 256 s (State.logStore s a1 a2) := by
  unfold State.logStore
  with_reducible
    repeat' first | apply Fr.refl | assumption | apply Fr.ite | apply Fr.next State.modLog_fr | refine Fr.snd ‹_ = (_, _)› ?_ | refine Fr.fst ‹_ = (_, _)› ?_ | refine Fr.snd2 ‹_ = (_, _, _)› ?_ | refine Fr.via (by assumption) ?_ | split
  all_goals first | rfl | exact Fr.refl

theorem State.logFirst_fr {s a1} : Fr 257 s (State.logFirst s a1) := by
  unfold State.logFirst
  with_reducible
    repeat' first | apply Fr.refl | assumption | ((try lift_lets -underBinder); intro (x : State); refine (fun h => ?_ : Fr 257 s x → _) ?_; clear_value x; rotate_left; subst x) | ((try lift_lets -underBinder); intro x; clear_value x) | apply Fr.ite | apply Fr.next State.wr_fr | apply Fr.next State.logStore_fr | apply Fr.next State.wrB_fr | refine Fr.snd ‹_ = (_, _)› ?_ | refine Fr.fst ‹_ = (_, _)› ?_ | refine Fr.snd2 ‹_ = (_, _, _)› ?_ | refine Fr.via (by assumption) ?_ | split
  all_goals first | rfl | exact Fr.refl

theorem State.logEnter_fr {s a1 a2} : Fr 257 s (State.logEnter s a1 a2) := by
  unfold State.logEnter
  with_reducible
    repeat' first | apply Fr.refl | assumption | ((try lift_lets -underBinder); intro (x : State); refine (fun h => ?_ : Fr 257 s x → _) ?_; clear_value x; rotate_left; subst x) | ((try lift_lets -underBinder); intro x; clear_value x) | apply Fr.ite | apply Fr.next State.logStore_fr | apply Fr.next State.wr_fr | apply Fr.next State.modLog_fr | apply Fr.next State.logFirst_fr | refine Fr.snd ‹_ = (_, _)› ?_ | refine Fr.fst ‹_ = (_, _)› ?_ | refine Fr.snd2 ‹_ = (_, _, _)› ?_ | refine Fr.via (by assumption) ?_ | split
  all_goals first | rfl | exact Fr.refl

theorem State.logRaw_fr {s a1 a2 a3 a4} : Fr 257 s (State.logRaw s a1 a2 a3 a4) := by
  unfold State.logRaw
  with_reducible
    repeat' first | apply Fr.refl | assumption | ((try lift_lets -underBinder); intro (x : State); refine (fun h => ?_ : Fr 257 s x → _) ?_; clear_value x; rotate_left; subst x) | apply Fr.ite | apply Fr.next State.countErr_fr | apply Fr.next State.logEnter_fr | apply Fr.next State.bump_fr | apply Fr.next State.modLog_fr | refine Fr.snd ‹_ = (_, _)› ?_ | refine Fr.fst ‹_ = (_, _)› ?_ | refine Fr.snd2 ‹_ = (_, _, _)› ?_ | refine Fr.via (by assumption) ?_ | split
  all_goals first | rfl | exact Fr.refl

theorem State.noteEv_fr {s a1 a2} : Fr 256 s (State.noteEv s a1 a2) := by
  unfold State.noteEv
  with_reducible
    repeat' first | apply Fr.refl | assumption | apply Fr.ite | apply Fr.next State.modLog_fr | refine Fr.snd ‹_ = (_, _)› ?_ | refine Fr.fst ‹_ = (_, _)› ?_ | refine Fr.snd2 ‹_ = (_, _, _)› ?_ | refine Fr.via (by assumption) ?_ | split
  all_goals first | rfl | exact Fr.refl

theorem State.ringFlag_fr {s a1 a2} : Fr 1 s (State.ringFlag s a1 a2) := by
  unfold State.ringFlag
  with_reducible
    repeat' first | apply Fr.refl | assumption | ((try lift_lets -underBinder); intro (x : State); refine (fun h => ?_ : Fr 1 s x → _) ?_; clear_value x; rotate_left; subst x) | apply Fr.ite | apply Fr.next State.wr_fr | refine Fr.snd ‹_ = (_, _)› ?_ | refine Fr.fst ‹_ = (_, _)› ?_ | refine Fr.snd2 ‹_ = (_, _, _)› ?_ | refine Fr.via (by assumption) ?_ | split
  all_goals first | rfl | exact Fr.refl

theorem State.ringPut_fr {s a1 a2 a3 a4} : Fr 134217985 s (State.ringPut s a1 a2 a3 a4) := by
  unfold State.ringPut
  with_reducible
    repeat' first | apply Fr.refl | assumption | ((try lift_lets -underBinder); intro (x : State); refine (fun h => ?_ : Fr 134217985 s x → _) ?_; clear_value x; rotate_left; subst x) | ((try lift_lets -underBinder); intro x; clear_value x) | apply Fr.ite | apply Fr.next State.noteEv_fr | apply Fr.next State.modLog_fr | apply Fr.next State.bump_fr | apply Fr.next State.ringFlag_fr | apply Fr.next State.wrB_fr | apply Fr.next State.sramWr_fr | apply Fr.next State.wr_fr | refine Fr.snd ‹_ = (_, _)› ?_ | refine Fr.fst ‹_ = (_, _)› ?_ | refine Fr.snd2 ‹_ = (_, _, _)› ?_ | refine Fr.via (by assumption) ?_ | split
  all_goals first | rfl | exact Fr.refl

theorem State.report_fr {s a1 a2 a3} : Fr 134217985 s (State.report s a1 a2 a3) := by
  unfold State.report
  with_reducible
    repeat' first | apply Fr.refl | assumption | apply Fr.ite | apply Fr.next State.ringPut_fr | refine Fr.snd ‹_ = (_, _)› ?_ | refine Fr.fst ‹_ = (_, _)› ?_ | refine Fr.snd2 ‹_ = (_, _, _)› ?_ | refine Fr.via (by assumption) ?_ | split
  all_goals first | rfl | exact Fr.refl

theorem State.event_fr {s a1 a2} : Fr 134217985 s (State.event s a1 a2) := by
  unfold State.event
  with_reducible
    repeat' first | apply Fr.refl | assumption | ((try lift_lets -underBinder); intro (x : State); refine (fun h => ?_ : Fr 134217985 s x → _) ?_; clear_value x; rotate_left; subst x) | apply Fr.ite | apply Fr.next State.wr_fr | apply Fr.next State.report_fr | refine Fr.snd ‹_ = (_, _)› ?_ | refine Fr.fst ‹_ = (_, _)› ?_ | refine Fr.snd2 ‹_ = (_, _, _)› ?_ | refine Fr.via (by assumption) ?_ | split
  all_goals first | rfl | exact Fr.refl

theorem State.logc_fr {s a1 a2 a3 a4} : Fr 134217985 s (State.logc s a1 a2 a3 a4) := by
  unfold State.logc
  with_reducible
    repeat' first | apply Fr.refl | assumption | ((try lift_lets -underBinder); intro (x : State); refine (fun h => ?_ : Fr 134217985 s x → _) ?_; clear_value x; rotate_left; subst x) | apply Fr.ite | apply Fr.next State.logRaw_fr | apply Fr.next State.modLog_fr | apply Fr.next State.event_fr | refine Fr.snd ‹_ = (_, _)› ?_ | refine Fr.fst ‹_ = (_, _)› ?_ | refine Fr.snd2 ‹_ = (_, _, _)› ?_ | refine Fr.via (by assumption) ?_ | split
  all_goals first | rfl | exact Fr.refl

theorem State.wearCheck_fr {s a1} : Fr 136315137 s (State.wearCheck s a1) := by
  unfold State.wearCheck
  with_reducible
    repeat' first | apply Fr.refl | assumption | ((try lift_lets -underBinder); intro (x : State); refine (fun h => ?_ : Fr 136315137 s x → _) ?_; clear_value x; rotate_left; subst x) | apply Fr.ite | apply Fr.next State.wrB_fr | apply Fr.next State.logc_fr | apply Fr.next State.event_fr | apply Fr.next State.modNvs_fr | refine Fr.snd ‹_ = (_, _)› ?_ | refine Fr.fst ‹_ = (_, _)› ?_ | refine Fr.snd2 ‹_ = (_, _, _)› ?_ | refine Fr.via (by assumption) ?_ | split
  all_goals first | rfl | exact Fr.refl

theorem State.putCopy_fr {s a1 a2} : Fr 2097152 s (State.putCopy s a1 a2) := by
  unfold State.putCopy
  with_reducible
    repeat' first | apply Fr.refl | assumption | apply Fr.ite | apply Fr.next State.modNvs_fr | refine Fr.snd ‹_ = (_, _)› ?_ | refine Fr.fst ‹_ = (_, _)› ?_ | refine Fr.snd2 ‹_ = (_, _, _)› ?_ | refine Fr.via (by assumption) ?_ | split
  all_goals first | rfl | exact Fr.refl

theorem State.nvsCommitPage_fr {s a1 a2} : Fr 2097152 s (State.nvsCommitPage s a1 a2) := by
  unfold State.nvsCommitPage
  with_reducible
    repeat' first | apply Fr.refl | assumption | apply Fr.ite | apply Fr.next State.putCopy_fr | refine Fr.snd ‹_ = (_, _)› ?_ | refine Fr.fst ‹_ = (_, _)› ?_ | refine Fr.snd2 ‹_ = (_, _, _)› ?_ | refine Fr.via (by assumption) ?_ | split
  all_goals first | rfl | exact Fr.refl

theorem State.commitPage_fr {s a1 a2} : Fr 136315137 s (State.commitPage s a1 a2) := by
  unfold State.commitPage
  with_reducible
    repeat' first | apply Fr.refl | assumption | apply Fr.ite | apply Fr.next State.wearCheck_fr | apply Fr.next State.nvsCommitPage_fr | refine Fr.snd ‹_ = (_, _)› ?_ | refine Fr.fst ‹_ = (_, _)› ?_ | refine Fr.snd2 ‹_ = (_, _, _)› ?_ | refine Fr.via (by assumption) ?_ | split
  all_goals first | rfl | exact Fr.refl

theorem State.counterAdd_fr {s a1 a2} : Fr 136315137 s (State.counterAdd s a1 a2) := by
  unfold State.counterAdd
  with_reducible
    repeat' first | apply Fr.refl | assumption | ((try lift_lets -underBinder); intro x; clear_value x) | apply Fr.ite | apply Fr.next State.commitPage_fr | refine Fr.snd ‹_ = (_, _)› ?_ | refine Fr.fst ‹_ = (_, _)› ?_ | refine Fr.snd2 ‹_ = (_, _, _)› ?_ | refine Fr.via (by assumption) ?_ | split
  all_goals first | rfl | exact Fr.refl

theorem State.count_fr {s a1 a2} : Fr 136315137 s (State.count s a1 a2) := by
  unfold State.count
  with_reducible
    repeat' first | apply Fr.refl | assumption | apply Fr.ite | apply Fr.next State.counterAdd_fr | refine Fr.snd ‹_ = (_, _)› ?_ | refine Fr.fst ‹_ = (_, _)› ?_ | refine Fr.snd2 ‹_ = (_, _, _)› ?_ | refine Fr.via (by assumption) ?_ | split
  all_goals first | rfl | exact Fr.refl

theorem State.latch_fr {s a1 a2 a3} : Fr 2 s (State.latch s a1 a2 a3) := by
  unfold State.latch
  with_reducible
    repeat' first | apply Fr.refl | assumption | apply Fr.ite | apply Fr.next State.effSet_fr | refine Fr.snd ‹_ = (_, _)› ?_ | refine Fr.fst ‹_ = (_, _)› ?_ | refine Fr.snd2 ‹_ = (_, _, _)› ?_ | refine Fr.via (by assumption) ?_ | split
  all_goals first | rfl | exact Fr.refl

theorem State.logOnce_fr {s a1 a2 a3 a4 a5} : Fr 134217985 s (State.logOnce s a1 a2 a3 a4 a5) := by
  unfold State.logOnce
  with_reducible
    repeat' first | apply Fr.refl | assumption | apply Fr.ite | apply Fr.next State.logc_fr | apply Fr.next State.modLog_fr | refine Fr.snd ‹_ = (_, _)› ?_ | refine Fr.fst ‹_ = (_, _)› ?_ | refine Fr.snd2 ‹_ = (_, _, _)› ?_ | refine Fr.via (by assumption) ?_ | split
  all_goals first | rfl | exact Fr.refl

theorem State.takeFree_fr {s a1} : Fr 16777216 s (State.takeFree s a1).2 := by
  unfold State.takeFree
  with_reducible
    repeat' first | apply Fr.refl | assumption | apply Fr.ite | apply Fr.ite2 | apply Fr.next State.modFreeCtr_fr | refine Fr.snd ‹_ = (_, _)› ?_ | refine Fr.fst ‹_ = (_, _)› ?_ | refine Fr.snd2 ‹_ = (_, _, _)› ?_ | refine Fr.via (by assumption) ?_ | split
  all_goals first | rfl | exact Fr.refl

theorem State.wrEff_fr {s a1 a2 a3 a4} : Fr 2 s (State.wrEff s a1 a2 a3 a4) := by
  unfold State.wrEff
  with_reducible
    repeat' first | apply Fr.refl | assumption | apply Fr.ite | apply Fr.next State.effSet_fr | refine Fr.snd ‹_ = (_, _)› ?_ | refine Fr.fst ‹_ = (_, _)› ?_ | refine Fr.snd2 ‹_ = (_, _, _)› ?_ | refine Fr.via (by assumption) ?_ | split
  all_goals first | rfl | exact Fr.refl

theorem State.wrI_fr {s a1 a2 a3 a4} : Fr 1 s (State.wrI s a1 a2 a3 a4) := by
  unfold State.wrI
  with_reducible
    repeat' first | apply Fr.refl | assumption | apply Fr.ite | apply Fr.next State.wr_fr | refine Fr.snd ‹_ = (_, _)› ?_ | refine Fr.fst ‹_ = (_, _)› ?_ | refine Fr.snd2 ‹_ = (_, _, _)› ?_ | refine Fr.via (by assumption) ?_ | split
  all_goals first | rfl | exact Fr.refl

end Sys2Proof.Machine
end

