-- ==== Sys2Proof/Laws/Regs.lean ====
section
/-! SUPPORT. Reading registers and fields after writing them, and what events and log records leave alone. -/

namespace Sys2Proof.Machine

variable (s : State)

@[simp] theorem State.modEff_reg (f) (k : Nat) : (s.modEff f).reg k = s.reg k := rfl
@[simp] theorem State.modMode_reg (f) (k : Nat) : (s.modMode f).reg k = s.reg k := rfl
@[simp] theorem State.modClk_reg (f) (k : Nat) : (s.modClk f).reg k = s.reg k := rfl
@[simp] theorem State.modPwr_reg (f) (k : Nat) : (s.modPwr f).reg k = s.reg k := rfl
@[simp] theorem State.modPanel_reg (f) (k : Nat) : (s.modPanel f).reg k = s.reg k := rfl
@[simp] theorem State.modBoot_reg (f) (k : Nat) : (s.modBoot f).reg k = s.reg k := rfl
@[simp] theorem State.modBus_reg (f) (k : Nat) : (s.modBus f).reg k = s.reg k := rfl
@[simp] theorem State.modLog_reg (f) (k : Nat) : (s.modLog f).reg k = s.reg k := rfl
@[simp] theorem State.modRam_reg (f) (k : Nat) : (s.modRam f).reg k = s.reg k := rfl
@[simp] theorem State.modMem_reg (f) (k : Nat) : (s.modMem f).reg k = s.reg k := rfl
@[simp] theorem State.modScene_reg (f) (k : Nat) : (s.modScene f).reg k = s.reg k := rfl
@[simp] theorem State.modCoil_reg (f) (k : Nat) : (s.modCoil f).reg k = s.reg k := rfl
@[simp] theorem State.modWv_reg (f) (k : Nat) : (s.modWv f).reg k = s.reg k := rfl
@[simp] theorem State.modFrs_reg (f) (k : Nat) : (s.modFrs f).reg k = s.reg k := rfl
@[simp] theorem State.modRim_reg (f) (k : Nat) : (s.modRim f).reg k = s.reg k := rfl
@[simp] theorem State.modScan_reg (f) (k : Nat) : (s.modScan f).reg k = s.reg k := rfl
@[simp] theorem State.modWeft_reg (f) (k : Nat) : (s.modWeft f).reg k = s.reg k := rfl
@[simp] theorem State.modLan_reg (f) (k : Nat) : (s.modLan f).reg k = s.reg k := rfl
@[simp] theorem State.modFab_reg (f) (k : Nat) : (s.modFab f).reg k = s.reg k := rfl
@[simp] theorem State.modTim_reg (f) (k : Nat) : (s.modTim f).reg k = s.reg k := rfl
@[simp] theorem State.modLeaf_reg (f) (k : Nat) : (s.modLeaf f).reg k = s.reg k := rfl
@[simp] theorem State.modNvs_reg (f) (k : Nat) : (s.modNvs f).reg k = s.reg k := rfl
@[simp] theorem State.modThm_reg (f) (k : Nat) : (s.modThm f).reg k = s.reg k := rfl
@[simp] theorem State.modSecu_reg (f) (k : Nat) : (s.modSecu f).reg k = s.reg k := rfl
@[simp] theorem State.modFreeCtr_reg (f) (k : Nat) : (s.modFreeCtr f).reg k = s.reg k := rfl
@[simp] theorem State.modPending_reg (f) (k : Nat) : (s.modPending f).reg k = s.reg k := rfl

@[simp] theorem State.effSet_reg (k : Nat) (v : BitVec 32) (k' : Nat) : (s.effSet k v).reg k' = s.reg k' := rfl
@[simp] theorem State.dropEff_reg (p : Nat → Bool) (k : Nat) : (s.dropEff p).reg k = s.reg k := rfl
@[simp] theorem State.latchAll_reg (p : Nat → Bool) (k : Nat) : (s.latchAll p).reg k = s.reg k := rfl
@[simp] theorem State.hbmWr_reg (a : Nat) (bs : List Byte) (k : Nat) : (s.hbmWr a bs).reg k = s.reg k := rfl
@[simp] theorem State.sramWr_reg (a : Nat) (bs : List Byte) (k : Nat) : (s.sramWr a bs).reg k = s.reg k := rfl

@[simp] theorem State.modEff_rd (f) (g : Fld) (i x : Nat) : (s.modEff f).rd g i x = s.rd g i x := rfl
@[simp] theorem State.modMode_rd (f) (g : Fld) (i x : Nat) : (s.modMode f).rd g i x = s.rd g i x := rfl
@[simp] theorem State.modClk_rd (f) (g : Fld) (i x : Nat) : (s.modClk f).rd g i x = s.rd g i x := rfl
@[simp] theorem State.modPwr_rd (f) (g : Fld) (i x : Nat) : (s.modPwr f).rd g i x = s.rd g i x := rfl
@[simp] theorem State.modPanel_rd (f) (g : Fld) (i x : Nat) : (s.modPanel f).rd g i x = s.rd g i x := rfl
@[simp] theorem State.modBoot_rd (f) (g : Fld) (i x : Nat) : (s.modBoot f).rd g i x = s.rd g i x := rfl
@[simp] theorem State.modBus_rd (f) (g : Fld) (i x : Nat) : (s.modBus f).rd g i x = s.rd g i x := rfl
@[simp] theorem State.modLog_rd (f) (g : Fld) (i x : Nat) : (s.modLog f).rd g i x = s.rd g i x := rfl
@[simp] theorem State.modRam_rd (f) (g : Fld) (i x : Nat) : (s.modRam f).rd g i x = s.rd g i x := rfl
@[simp] theorem State.modMem_rd (f) (g : Fld) (i x : Nat) : (s.modMem f).rd g i x = s.rd g i x := rfl
@[simp] theorem State.modScene_rd (f) (g : Fld) (i x : Nat) : (s.modScene f).rd g i x = s.rd g i x := rfl
@[simp] theorem State.modCoil_rd (f) (g : Fld) (i x : Nat) : (s.modCoil f).rd g i x = s.rd g i x := rfl
@[simp] theorem State.modWv_rd (f) (g : Fld) (i x : Nat) : (s.modWv f).rd g i x = s.rd g i x := rfl
@[simp] theorem State.modFrs_rd (f) (g : Fld) (i x : Nat) : (s.modFrs f).rd g i x = s.rd g i x := rfl
@[simp] theorem State.modRim_rd (f) (g : Fld) (i x : Nat) : (s.modRim f).rd g i x = s.rd g i x := rfl
@[simp] theorem State.modScan_rd (f) (g : Fld) (i x : Nat) : (s.modScan f).rd g i x = s.rd g i x := rfl
@[simp] theorem State.modWeft_rd (f) (g : Fld) (i x : Nat) : (s.modWeft f).rd g i x = s.rd g i x := rfl
@[simp] theorem State.modLan_rd (f) (g : Fld) (i x : Nat) : (s.modLan f).rd g i x = s.rd g i x := rfl
@[simp] theorem State.modFab_rd (f) (g : Fld) (i x : Nat) : (s.modFab f).rd g i x = s.rd g i x := rfl
@[simp] theorem State.modTim_rd (f) (g : Fld) (i x : Nat) : (s.modTim f).rd g i x = s.rd g i x := rfl
@[simp] theorem State.modLeaf_rd (f) (g : Fld) (i x : Nat) : (s.modLeaf f).rd g i x = s.rd g i x := rfl
@[simp] theorem State.modNvs_rd (f) (g : Fld) (i x : Nat) : (s.modNvs f).rd g i x = s.rd g i x := rfl
@[simp] theorem State.modThm_rd (f) (g : Fld) (i x : Nat) : (s.modThm f).rd g i x = s.rd g i x := rfl
@[simp] theorem State.modSecu_rd (f) (g : Fld) (i x : Nat) : (s.modSecu f).rd g i x = s.rd g i x := rfl
@[simp] theorem State.modFreeCtr_rd (f) (g : Fld) (i x : Nat) : (s.modFreeCtr f).rd g i x = s.rd g i x := rfl
@[simp] theorem State.modPending_rd (f) (g : Fld) (i x : Nat) : (s.modPending f).rd g i x = s.rd g i x := rfl
@[simp] theorem State.effSet_rd (k : Nat) (v : BitVec 32) (g : Fld) (i x : Nat) : (s.effSet k v).rd g i x = s.rd g i x := rfl
@[simp] theorem State.dropEff_rd (p : Nat → Bool) (g : Fld) (i x : Nat) : (s.dropEff p).rd g i x = s.rd g i x := rfl
@[simp] theorem State.latchAll_rd (p : Nat → Bool) (g : Fld) (i x : Nat) : (s.latchAll p).rd g i x = s.rd g i x := rfl
@[simp] theorem State.hbmWr_rd (a : Nat) (b : List Byte) (g : Fld) (i x : Nat) : (s.hbmWr a b).rd g i x = s.rd g i x := rfl
@[simp] theorem State.sramWr_rd (a : Nat) (b : List Byte) (g : Fld) (i x : Nat) : (s.sramWr a b).rd g i x = s.rd g i x := rfl
@[simp] theorem State.setReg_ram (k : Nat) (v : BitVec 32) : (s.setReg k v).ram = s.ram := s.modRegs_ram _
@[simp] theorem State.wr_ram (f : Fld) (v i x : Nat) : (s.wr f v i x).ram = s.ram := s.setReg_ram _ _
@[simp] theorem State.wrB_ram (f : Fld) (v : Bool) (i x : Nat) : (s.wrB f v i x).ram = s.ram := s.setReg_ram _ _
@[simp] theorem State.bump_ram (f : Fld) (n i x : Nat) : (s.bump f n i x).ram = s.ram := s.setReg_ram _ _

theorem State.setReg_reg (k : Nat) (v : BitVec 32) (k' : Nat) : (s.setReg k v).reg k' = if k' = k then v else s.reg k' :=
  tget_tset _ s.regs k k' v

theorem State.wr_reg (f : Fld) (v i x k : Nat) :
    (s.wr f v i x).reg k =
      if k = f.key i x then BitVec.ofNat 32 (setBits (s.reg (f.key i x)).toNat f.hi f.lo v) else s.reg k :=
  s.setReg_reg _ _ _

theorem State.dropRegs_reg (p : Nat → Bool) (k : Nat) : (s.dropRegs p).reg k = if p k then regReset k else s.reg k := by
  unfold State.dropRegs State.reg
  rw [State.modRegs_regs, tget_tfilter]
  cases p k <;> rfl

/-- A field reads as written. -/
theorem bits_setBits (n hi lo v : Nat) : bits (setBits n hi lo v) hi lo = v % 2 ^ (hi + 1 - lo) := by
  unfold bits setBits
  by_cases h : lo ≤ hi + 1
  · have e : (2 : Nat) ^ (hi + 1) = 2 ^ (hi + 1 - lo) * 2 ^ lo := by rw [← Nat.pow_add, Nat.sub_add_cancel h]
    have hp : 0 < 2 ^ lo := Nat.two_pow_pos lo
    rw [e, ← Nat.mul_assoc, ← Nat.add_mul, Nat.add_comm, Nat.add_mul_div_right _ _ hp, Nat.div_eq_of_lt (Nat.mod_lt _ hp),
      Nat.zero_add, Nat.add_comm, Nat.add_mul_mod_self_right, Nat.mod_mod]
  · have e : hi + 1 - lo = 0 := by omega
    rw [e]
    simp [Nat.mod_one]

theorem setBits_lt {n hi lo v w : Nat} (hn : n < 2 ^ w) (h : hi < w) (hl : lo ≤ hi) : setBits n hi lo v < 2 ^ w := by
  unfold setBits
  have e : (2 : Nat) ^ (hi + 1) = 2 ^ (hi + 1 - lo) * 2 ^ lo := by rw [← Nat.pow_add, Nat.sub_add_cancel (by omega)]
  have ew : (2 : Nat) ^ w = 2 ^ (w - (hi + 1)) * 2 ^ (hi + 1) := by rw [← Nat.pow_add, Nat.sub_add_cancel (by omega)]
  have h1 : v % 2 ^ (hi + 1 - lo) * 2 ^ lo + n % 2 ^ lo < 2 ^ (hi + 1) := by
    have a := Nat.mod_lt v (Nat.two_pow_pos (hi + 1 - lo))
    have b := Nat.mod_lt n (Nat.two_pow_pos lo)
    calc _ < v % 2 ^ (hi + 1 - lo) * 2 ^ lo + 2 ^ lo := by omega
      _ = (v % 2 ^ (hi + 1 - lo) + 1) * 2 ^ lo := by rw [Nat.add_mul, Nat.one_mul]
      _ ≤ 2 ^ (hi + 1 - lo) * 2 ^ lo := Nat.mul_le_mul_right _ a
      _ = _ := e.symm
  have h2 : n / 2 ^ (hi + 1) + 1 ≤ 2 ^ (w - (hi + 1)) := Nat.div_lt_of_lt_mul (by rw [Nat.mul_comm, ← ew]; exact hn)
  rw [Nat.add_assoc, ew]
  calc _ < n / 2 ^ (hi + 1) * 2 ^ (hi + 1) + 2 ^ (hi + 1) := by omega
    _ = (n / 2 ^ (hi + 1) + 1) * 2 ^ (hi + 1) := by rw [Nat.add_mul, Nat.one_mul]
    _ ≤ _ := Nat.mul_le_mul_right _ h2

/-- A field that lies above or below a written one reads as before. -/
theorem bits_setBits_ne {n hi lo v a b : Nat} (hl : lo ≤ hi) (hb : b ≤ a) (h : a < lo ∨ hi < b) :
    bits (setBits n hi lo v) a b = bits n a b := by
  have key : ∀ m i : Nat, (bits m a b).testBit i = (decide (i < a + 1 - b) && m.testBit (b + i)) := by
    intro m i
    unfold bits
    rw [Nat.testBit_mod_two_pow, Nat.testBit_div_two_pow, Nat.add_comm i b]
  apply Nat.eq_of_testBit_eq
  intro i
  rw [key, key]
  by_cases hi' : i < a + 1 - b
  · simp only [hi', decide_true, Bool.true_and]
    unfold setBits
    have e : (2 : Nat) ^ (hi + 1) = 2 ^ (hi + 1 - lo) * 2 ^ lo := by rw [← Nat.pow_add, Nat.sub_add_cancel (by omega)]
    have l1 : n % 2 ^ lo < 2 ^ lo := Nat.mod_lt _ (Nat.two_pow_pos _)
    have l2 : v % 2 ^ (hi + 1 - lo) * 2 ^ lo + n % 2 ^ lo < 2 ^ (hi + 1) := by
      have a := Nat.mod_lt v (Nat.two_pow_pos (hi + 1 - lo))
      calc _ < v % 2 ^ (hi + 1 - lo) * 2 ^ lo + 2 ^ lo := by omega
        _ = (v % 2 ^ (hi + 1 - lo) + 1) * 2 ^ lo := by rw [Nat.add_mul, Nat.one_mul]
        _ ≤ 2 ^ (hi + 1 - lo) * 2 ^ lo := Nat.mul_le_mul_right _ a
        _ = _ := e.symm
    rw [Nat.add_assoc, Nat.mul_comm (n / 2 ^ (hi + 1)), Nat.testBit_two_pow_mul_add _ l2]
    split
    · rw [Nat.mul_comm, Nat.testBit_two_pow_mul_add _ l1]
      split
      · rw [Nat.testBit_mod_two_pow]
        rename_i q
        simp [q]
      · omega
    · rw [Nat.testBit_div_two_pow, Nat.sub_add_cancel (by omega)]
  · simp [hi']

variable {s}

/-- A field of a register that a write does not touch. -/
theorem State.rd_wr_ne {f g : Fld} {v i x j y : Nat} (h : g.key j y ≠ f.key i x) : (s.wr f v i x).rd g j y = s.rd g j y := by
  unfold State.rd
  rw [State.wr_reg, if_neg h]

/-- A field reads as written. -/
theorem State.rd_wr {f : Fld} {v i x : Nat} (h : f.hi < 32) (hl : f.lo ≤ f.hi) : (s.wr f v i x).rd f i x = v % 2 ^ f.width := by
  unfold State.rd
  rw [State.wr_reg, if_pos rfl, BitVec.toNat_ofNat, Nat.mod_eq_of_lt (setBits_lt (BitVec.isLt _) h hl), bits_setBits]
  rfl

/-- Another field of the written register reads as before. -/
theorem State.rd_wr_field {f g : Fld} {v i x j y : Nat} (hk : g.key j y = f.key i x) (h : f.hi < 32) (hl : f.lo ≤ f.hi)
    (hg : g.lo ≤ g.hi) (hd : g.hi < f.lo ∨ f.hi < g.lo) : (s.wr f v i x).rd g j y = s.rd g j y := by
  unfold State.rd
  rw [State.wr_reg, hk, if_pos rfl, BitVec.toNat_ofNat, Nat.mod_eq_of_lt (setBits_lt (BitVec.isLt _) h hl),
    bits_setBits_ne hl hg hd]

/-! ### Which registers change -/

theorem State.keepsRegs_refl {ks : List Nat} : s.keepsRegs s ks := fun _ _ => rfl

theorem State.keepsRegs_of_regs {t : State} {ks : List Nat} (h : t.regs = s.regs) : s.keepsRegs t ks := by
  intro k _
  unfold State.reg
  rw [h]

theorem State.keepsRegs.next {t u : State} {ks js : List Nat} (k : t.keepsRegs u js) (h : s.keepsRegs t ks)
    (hs : ∀ x, x ∈ js → x ∈ ks) : s.keepsRegs u ks :=
  fun x hx => (k x (fun hj => hx (hs x hj))).trans (h x hx)

theorem State.setReg_keepsRegs {k : Nat} {v : BitVec 32} : s.keepsRegs (s.setReg k v) [k] := by
  intro x hx
  rw [s.setReg_reg, if_neg (by simpa using hx)]

theorem State.wr_keepsRegs {f : Fld} {v i x : Nat} : s.keepsRegs (s.wr f v i x) [f.key i x] := State.setReg_keepsRegs
theorem State.wrB_keepsRegs {f : Fld} {v : Bool} {i x : Nat} : s.keepsRegs (s.wrB f v i x) [f.key i x] := State.setReg_keepsRegs
theorem State.wrI_keepsRegs {f : Fld} {v : Int} {i x : Nat} : s.keepsRegs (s.wrI f v i x) [f.key i x] := State.setReg_keepsRegs
theorem State.bump_keepsRegs {f : Fld} {n i x : Nat} : s.keepsRegs (s.bump f n i x) [f.key i x] := State.setReg_keepsRegs

/-! The same, as steps of a chain: each asks only that the register written is among the listed ones. -/

theorem State.keepsRegs.regs {t u : State} {ks : List Nat} (e : u.regs = t.regs) (h : s.keepsRegs t ks) : s.keepsRegs u ks :=
  fun k hk => (State.keepsRegs_of_regs (ks := ks) e k hk).trans (h k hk)

theorem State.keepsRegs.setReg {t : State} {ks : List Nat} {k : Nat} {v : BitVec 32} (h : s.keepsRegs t ks) (hk : k ∈ ks) :
    s.keepsRegs (t.setReg k v) ks :=
  State.setReg_keepsRegs.next h (fun _ hx => List.mem_singleton.1 hx ▸ hk)

theorem State.keepsRegs.wr {t : State} {ks : List Nat} {f : Fld} {v i x : Nat} (h : s.keepsRegs t ks) (hk : f.key i x ∈ ks) :
    s.keepsRegs (t.wr f v i x) ks := h.setReg hk

theorem State.keepsRegs.wrB {t : State} {ks : List Nat} {f : Fld} {v : Bool} {i x : Nat} (h : s.keepsRegs t ks)
    (hk : f.key i x ∈ ks) : s.keepsRegs (t.wrB f v i x) ks := h.setReg hk

theorem State.keepsRegs.wrI {t : State} {ks : List Nat} {f : Fld} {v : Int} {i x : Nat} (h : s.keepsRegs t ks)
    (hk : f.key i x ∈ ks) : s.keepsRegs (t.wrI f v i x) ks := h.setReg hk

theorem State.keepsRegs.bump {t : State} {ks : List Nat} {f : Fld} {n i x : Nat} (h : s.keepsRegs t ks)
    (hk : f.key i x ∈ ks) : s.keepsRegs (t.bump f n i x) ks := h.setReg hk

theorem State.keepsRegs.modEff {t : State} {ks : List Nat} {f} (h : s.keepsRegs t ks) : s.keepsRegs (t.modEff f) ks := h.regs rfl
theorem State.keepsRegs.modMode {t : State} {ks : List Nat} {f} (h : s.keepsRegs t ks) : s.keepsRegs (t.modMode f) ks := h.regs rfl
theorem State.keepsRegs.modClk {t : State} {ks : List Nat} {f} (h : s.keepsRegs t ks) : s.keepsRegs (t.modClk f) ks := h.regs rfl
theorem State.keepsRegs.modPwr {t : State} {ks : List Nat} {f} (h : s.keepsRegs t ks) : s.keepsRegs (t.modPwr f) ks := h.regs rfl
theorem State.keepsRegs.modPanel {t : State} {ks : List Nat} {f} (h : s.keepsRegs t ks) : s.keepsRegs (t.modPanel f) ks := h.regs rfl
theorem State.keepsRegs.modBoot {t : State} {ks : List Nat} {f} (h : s.keepsRegs t ks) : s.keepsRegs (t.modBoot f) ks := h.regs rfl
theorem State.keepsRegs.modBus {t : State} {ks : List Nat} {f} (h : s.keepsRegs t ks) : s.keepsRegs (t.modBus f) ks := h.regs rfl
theorem State.keepsRegs.modLog {t : State} {ks : List Nat} {f} (h : s.keepsRegs t ks) : s.keepsRegs (t.modLog f) ks := h.regs rfl
theorem State.keepsRegs.modRam {t : State} {ks : List Nat} {f} (h : s.keepsRegs t ks) : s.keepsRegs (t.modRam f) ks := h.regs rfl
theorem State.keepsRegs.modMem {t : State} {ks : List Nat} {f} (h : s.keepsRegs t ks) : s.keepsRegs (t.modMem f) ks := h.regs rfl
theorem State.keepsRegs.modScene {t : State} {ks : List Nat} {f} (h : s.keepsRegs t ks) : s.keepsRegs (t.modScene f) ks := h.regs rfl
theorem State.keepsRegs.modCoil {t : State} {ks : List Nat} {f} (h : s.keepsRegs t ks) : s.keepsRegs (t.modCoil f) ks := h.regs rfl
theorem State.keepsRegs.modWv {t : State} {ks : List Nat} {f} (h : s.keepsRegs t ks) : s.keepsRegs (t.modWv f) ks := h.regs rfl
theorem State.keepsRegs.modFrs {t : State} {ks : List Nat} {f} (h : s.keepsRegs t ks) : s.keepsRegs (t.modFrs f) ks := h.regs rfl
theorem State.keepsRegs.modRim {t : State} {ks : List Nat} {f} (h : s.keepsRegs t ks) : s.keepsRegs (t.modRim f) ks := h.regs rfl
theorem State.keepsRegs.modScan {t : State} {ks : List Nat} {f} (h : s.keepsRegs t ks) : s.keepsRegs (t.modScan f) ks := h.regs rfl
theorem State.keepsRegs.modWeft {t : State} {ks : List Nat} {f} (h : s.keepsRegs t ks) : s.keepsRegs (t.modWeft f) ks := h.regs rfl
theorem State.keepsRegs.modLan {t : State} {ks : List Nat} {f} (h : s.keepsRegs t ks) : s.keepsRegs (t.modLan f) ks := h.regs rfl
theorem State.keepsRegs.modFab {t : State} {ks : List Nat} {f} (h : s.keepsRegs t ks) : s.keepsRegs (t.modFab f) ks := h.regs rfl
theorem State.keepsRegs.modTim {t : State} {ks : List Nat} {f} (h : s.keepsRegs t ks) : s.keepsRegs (t.modTim f) ks := h.regs rfl
theorem State.keepsRegs.modLeaf {t : State} {ks : List Nat} {f} (h : s.keepsRegs t ks) : s.keepsRegs (t.modLeaf f) ks := h.regs rfl
theorem State.keepsRegs.modNvs {t : State} {ks : List Nat} {f} (h : s.keepsRegs t ks) : s.keepsRegs (t.modNvs f) ks := h.regs rfl
theorem State.keepsRegs.modThm {t : State} {ks : List Nat} {f} (h : s.keepsRegs t ks) : s.keepsRegs (t.modThm f) ks := h.regs rfl
theorem State.keepsRegs.modSecu {t : State} {ks : List Nat} {f} (h : s.keepsRegs t ks) : s.keepsRegs (t.modSecu f) ks := h.regs rfl
theorem State.keepsRegs.modFreeCtr {t : State} {ks : List Nat} {f} (h : s.keepsRegs t ks) : s.keepsRegs (t.modFreeCtr f) ks := h.regs rfl
theorem State.keepsRegs.modPending {t : State} {ks : List Nat} {f} (h : s.keepsRegs t ks) : s.keepsRegs (t.modPending f) ks := h.regs rfl
theorem State.keepsRegs.effSet {t : State} {ks : List Nat} {k v} (h : s.keepsRegs t ks) : s.keepsRegs (t.effSet k v) ks := h.regs rfl
theorem State.keepsRegs.dropEff {t : State} {ks : List Nat} {p} (h : s.keepsRegs t ks) : s.keepsRegs (t.dropEff p) ks := h.regs rfl
theorem State.keepsRegs.latchAll {t : State} {ks : List Nat} {p} (h : s.keepsRegs t ks) : s.keepsRegs (t.latchAll p) ks := h.regs rfl
theorem State.keepsRegs.hbmWr {t : State} {ks : List Nat} {a b} (h : s.keepsRegs t ks) : s.keepsRegs (t.hbmWr a b) ks := h.regs rfl
theorem State.keepsRegs.sramWr {t : State} {ks : List Nat} {a b} (h : s.keepsRegs t ks) : s.keepsRegs (t.sramWr a b) ks := h.regs rfl
theorem State.keepsRegs.clearHbm {t : State} {ks : List Nat} {p q} (h : s.keepsRegs t ks) : s.keepsRegs (t.clearHbm p q) ks := h.regs rfl
theorem State.keepsRegs.spoil {t : State} {ks : List Nat} {b} (h : s.keepsRegs t ks) : s.keepsRegs (t.spoil b) ks := h.regs rfl
theorem State.keepsRegs.latch {t : State} {ks : List Nat} {f i x} (h : s.keepsRegs t ks) : s.keepsRegs (t.latch f i x) ks := h.effSet

theorem State.keepsRegs.ite {a b : State} {c : Prop} [Decidable c] {ks : List Nat} (ha : s.keepsRegs a ks)
    (hb : s.keepsRegs b ks) : s.keepsRegs (if c then a else b) ks := by split <;> assumption

theorem State.keepsRegs.each {α : Type} {f : State → α → State} {t : State} {xs : List α} {ks : List Nat}
    (h : s.keepsRegs t ks) (hf : ∀ u x, s.keepsRegs u ks → s.keepsRegs (f u x) ks) : s.keepsRegs (t.each xs f) ks := by
  unfold State.each
  induction xs generalizing t with
  | nil => exact h
  | cons x xs ih => exact ih (hf t x h)

/-! ### Hub SRAM -/

theorem State.keepsHub_refl : s.keepsHub s := ⟨fun _ => rfl, fun _ _ => rfl⟩

theorem State.keepsHub.trans {t u : State} (h : s.keepsHub t) (k : t.keepsHub u) : s.keepsHub u := by
  refine ⟨fun r => (k.1 r).trans (h.1 r), fun a ha => (k.2 a ?_).trans (h.2 a ha)⟩
  rintro ⟨r, hr⟩
  rw [h.1 r] at hr
  exact ha ⟨r, hr⟩

/-- Where the event rings lie, after a change that writes no EVT.BASE. -/
theorem State.keepsRegs.base {t : State} {ks : List Nat} (h : s.keepsRegs t ks)
    (hk : EVT.BASE.OFS.key 0 0 ∉ ks ∧ EVT.BASE.OFS.key 1 0 ∉ ks) (r : Fin 2) : t.rd EVT.BASE.OFS r = s.rd EVT.BASE.OFS r := by
  have hr : r = 0 ∨ r = 1 := by omega
  obtain rfl | rfl := hr
  · exact congrArg (fun v : BitVec 32 => bits v.toNat 25 0) (h _ hk.1)
  · exact congrArg (fun v : BitVec 32 => bits v.toNat 25 0) (h _ hk.2)

/-- A change that writes no hub SRAM and no EVT.BASE. -/
theorem State.keepsHub_of {t : State} {ks : List Nat} (h : s.keepsRegs t ks) (hm : t.ram.sram = s.ram.sram)
    (hk : EVT.BASE.OFS.key 0 0 ∉ ks ∧ EVT.BASE.OFS.key 1 0 ∉ ks) : s.keepsHub t :=
  ⟨h.base hk, fun a _ => by rw [hm]⟩

/-- A further change that writes no hub SRAM and no EVT.BASE. -/
theorem State.keepsHub.step {t u : State} {ks : List Nat} (h : s.keepsHub t) (hr : t.keepsRegs u ks)
    (hm : u.ram.sram = t.ram.sram) (hk : EVT.BASE.OFS.key 0 0 ∉ ks ∧ EVT.BASE.OFS.key 1 0 ∉ ks) : s.keepsHub u :=
  h.trans (State.keepsHub_of hr hm hk)

/-- A write of hub SRAM inside the event rings. -/
theorem State.keepsHub.sramWr {t : State} {a : Nat} {bs : List Byte} (h : s.keepsHub t)
    (hin : ∀ x, a ≤ x → x < a + bs.length → t.inRing x) : s.keepsHub (t.sramWr a bs) := by
  refine h.trans ⟨fun _ => rfl, fun x hx => ?_⟩
  exact tget_tsets_out _ _ (fun hc => hx (hin x hc.1 hc.2))

end Sys2Proof.Machine
end

