-- ==== Sys2Proof/Laws/Events.lean ====
section
/-! SUPPORT. What a rising event flag and a log record change: the registers that `eventKeys` and `logKeys` name, and in hub
SRAM the event rings alone. -/

namespace Sys2Proof.Machine

/-! ### Event flags -/

theorem State.noteEv_keepsRegs {s : State} {r : Fin 2} {e : CycEv} {ks : List Nat} : s.keepsRegs (s.noteEv r e) ks :=
  State.keepsRegs_refl.modLog

theorem State.keepsRegs.noteEv {s t : State} {ks : List Nat} {r : Fin 2} {e : CycEv} (h : s.keepsRegs t ks) :
    s.keepsRegs (t.noteEv r e) ks := h.modLog

theorem State.keepsRegs.ringFlag {s t : State} {ks : List Nat} {r : Fin 2} {b : Nat} (h : s.keepsRegs t ks)
    (hk : ∀ k ∈ ringKeys, k ∈ ks) : s.keepsRegs (t.ringFlag r b) ks := by
  have hr : r = 0 ∨ r = 1 := by omega
  unfold State.ringFlag
  dsimp only
  obtain rfl | rfl := hr
  all_goals refine ((h.wr (hk _ ?_)).wr (hk _ ?_)).wr (hk _ ?_) <;> decide

theorem State.keepsRegs.ringPut {s t : State} {ks : List Nat} {r : Fin 2} {p n : Nat} {f : Bool} (h : s.keepsRegs t ks)
    (hk : ∀ k ∈ ringKeys, k ∈ ks) : s.keepsRegs (t.ringPut r p n f) ks := by
  have hr : r = 0 ∨ r = 1 := by omega
  unfold State.ringPut
  dsimp only
  obtain rfl | rfl := hr
  all_goals
    split
    · refine State.keepsRegs.ringFlag (State.keepsRegs.wrB (State.keepsRegs.bump ?_ (hk _ ?_)) (hk _ ?_)) hk
      · exact h.noteEv.modLog
      · decide
      · decide
    · split
      · refine State.keepsRegs.ringFlag (State.keepsRegs.wr ?_ (hk _ ?_)) hk
        · exact h.noteEv.sramWr
        · decide
      · refine State.keepsRegs.wr ?_ (hk _ ?_)
        · exact h.noteEv.sramWr
        · decide

theorem State.keepsRegs.report {s t : State} {ks : List Nat} {p b : Nat} {f : Bool} (h : s.keepsRegs t ks)
    (hk : ∀ k ∈ ringKeys, k ∈ ks) : s.keepsRegs (t.report p b f) ks := by
  unfold State.report
  exact State.keepsRegs.ite ((h.ringPut hk).ringPut hk) h

theorem State.keepsRegs.event {s t : State} {ks : List Nat} {p b : Nat} (h : s.keepsRegs t ks)
    (hk : ∀ k ∈ eventKeys p, k ∈ ks) : s.keepsRegs (t.event p b) ks := by
  unfold State.event
  refine State.keepsRegs.report (((h.wr (hk _ ?_)).wr (hk _ ?_)).wr (hk _ ?_)) (fun k hx => hk k ?_)
  · exact List.mem_append_left _ (List.mem_cons_self ..)
  · exact List.mem_append_left _ (List.mem_cons_of_mem _ (List.mem_cons_self ..))
  · exact List.mem_append_left _ (List.mem_cons_of_mem _ (List.mem_cons_self ..))
  · exact List.mem_append_right _ hx

theorem leBytes_length (n v : Nat) : (leBytes n v).length = n := by
  induction n generalizing v with
  | zero => rfl
  | succ n ih => simp [leBytes, ih]

theorem evBody_length (beam b i n : Nat) (f : Bool) : (evBody beam b i n f).length = 12 := by
  simp [evBody, leBytes_length]

theorem evRecord_length (beam b i n : Nat) (f : Bool) (q : Nat) : (evRecord beam b i n f q).length = 16 := by
  simp [evRecord, evBody_length, leBytes_length]

@[simp] theorem State.noteEv_ram (s : State) (r : Fin 2) (e : CycEv) : (s.noteEv r e).ram = s.ram := s.modLog_ram _

@[simp] theorem State.noteEv_rd (s : State) (r : Fin 2) (e : CycEv) (f : Fld) (i x : Nat) : (s.noteEv r e).rd f i x = s.rd f i x :=
  s.modLog_rd _ _ _ _

@[simp] theorem State.ringFlag_ram (s : State) (r : Fin 2) (b : Nat) : (s.ringFlag r b).ram = s.ram := by
  simp [State.ringFlag]

theorem State.rd_lt (s : State) (f : Fld) (i x : Nat) : s.rd f i x < 2 ^ f.width := Nat.mod_lt _ (Nat.two_pow_pos _)

/-- An event record stays in its ring. -/
theorem State.keepsHub.ringPut {s t : State} {r : Fin 2} {p n : Nat} {f : Bool} (h : s.keepsHub t) :
    s.keepsHub (t.ringPut r p n f) := by
  refine h.trans ?_
  clear h s
  have hk : EVT.BASE.OFS.key 0 0 ∉ ringKeys ∧ EVT.BASE.OFS.key 1 0 ∉ ringKeys := by decide
  have k : t.keepsRegs (t.ringPut r p n f) ringKeys := State.keepsRegs_refl.ringPut (fun _ h => h)
  refine ⟨k.base hk, fun a ha => ?_⟩
  have hh := t.rd_lt EVT.HEAD.INDEX r 0
  unfold State.ringPut
  dsimp only
  have hw : ∀ (u : State) (o : Nat) (bs : List Byte) (x : Nat), ¬ (o ≤ x ∧ x < o + bs.length) →
      tget memDefault (u.sramWr o bs).ram.sram x = tget memDefault u.ram.sram x :=
    fun _ _ _ _ hx => tget_tsets_out _ _ hx
  have e : ¬ (t.rd EVT.BASE.OFS r + 16 * t.rd EVT.HEAD.INDEX r ≤ a ∧
      a < t.rd EVT.BASE.OFS r + 16 * t.rd EVT.HEAD.INDEX r + 16) := by
    rintro ⟨h1, h2⟩
    refine ha ⟨r, ?_, ?_⟩
    · omega
    · change t.rd EVT.HEAD.INDEX r < 4096 at hh
      omega
  split
  · simp only [State.ringFlag_ram, State.wrB_ram, State.bump_ram, State.modLog_ram, State.noteEv_ram]
  · split
    all_goals
      simp only [State.ringFlag_ram, State.wr_ram]
      rw [hw]
      · rw [State.noteEv_ram]
      · rw [List.length_append, evBody_length, leBytes_length]
        simpa only [State.noteEv_rd] using e

theorem State.keepsHub.wr {s t : State} {f : Fld} {v i x : Nat} (h : s.keepsHub t)
    (hk : EVT.BASE.OFS.key 0 0 ≠ f.key i x ∧ EVT.BASE.OFS.key 1 0 ≠ f.key i x) : s.keepsHub (t.wr f v i x) :=
  h.step State.wr_keepsRegs (by rw [State.wr_ram]) (by simpa using hk)

theorem State.keepsHub.event {s t : State} {p b : Nat} (h : s.keepsHub t) : s.keepsHub (t.event p b) := by
  unfold State.event State.report
  dsimp only
  have k1 : EVT.BASE.OFS.key 0 0 ≠ HDR.PG_EVT.key p 0 ∧ EVT.BASE.OFS.key 1 0 ≠ HDR.PG_EVT.key p 0 := by
    simp [Fld.key, regKey, EVT.BASE.OFS, HDR.PG_EVT]; omega
  have k2 : EVT.BASE.OFS.key 0 0 ≠ HDR.PG_BEAM_AT.WC.key p 0 ∧ EVT.BASE.OFS.key 1 0 ≠ HDR.PG_BEAM_AT.WC.key p 0 := by
    simp [Fld.key, regKey, EVT.BASE.OFS, HDR.PG_BEAM_AT.WC]; omega
  have k3 : EVT.BASE.OFS.key 0 0 ≠ HDR.PG_BEAM_AT.LINE.key p 0 ∧ EVT.BASE.OFS.key 1 0 ≠ HDR.PG_BEAM_AT.LINE.key p 0 := by
    simp [Fld.key, regKey, EVT.BASE.OFS, HDR.PG_BEAM_AT.LINE]; omega
  split
  · exact (((h.wr k1).wr k2).wr k3).ringPut.ringPut
  · exact ((h.wr k1).wr k2).wr k3

/-! ### Log records -/

theorem State.keepsRegs.logStore {s t : State} {ks : List Nat} {k : Nat} {r : LogRec} (h : s.keepsRegs t ks) :
    s.keepsRegs (t.logStore k r) ks := h.modLog

theorem State.keepsRegs.logFirst {s t : State} {ks : List Nat} {r : LogRec} (h : s.keepsRegs t ks)
    (hk : NVS.LOG_STS.HEAD.key 0 0 ∈ ks) : s.keepsRegs (t.logFirst r) ks := by
  have e0 : NVS.LOG_STS.FF_COUNT.key 0 0 = NVS.LOG_STS.HEAD.key 0 0 := by decide
  have f0 : NVS.LOG_STS.FF_FULL.key 0 0 = NVS.LOG_STS.HEAD.key 0 0 := by decide
  have e : NVS.LOG_STS.FF_COUNT.key 0 0 ∈ ks := (congrArg (· ∈ ks) e0).mpr hk
  have f : NVS.LOG_STS.FF_FULL.key 0 0 ∈ ks := (congrArg (· ∈ ks) f0).mpr hk
  unfold State.logFirst
  dsimp only
  apply State.keepsRegs.ite
  · apply State.keepsRegs.ite h
    apply State.keepsRegs.ite
    · exact (h.logStore.wr e).wrB f
    · exact h.logStore.wr e
  · exact h.wrB f

theorem State.keepsRegs.countErr {s t : State} {ks : List Nat} {p c q : Nat} {l : Bool} (h : s.keepsRegs t ks)
    (h1 : HDR.PG_ERR_CNT.COUNT.key p 0 ∈ ks) (h2 : HDR.PG_ERR_FIRST.CODE.key p 0 ∈ ks) :
    s.keepsRegs (t.countErr p c l q) ks := by
  unfold State.countErr
  dsimp only
  apply State.keepsRegs.ite
  · exact (((h.bump h1).wr h2).wrB (f := HDR.PG_ERR_FIRST.LOGGED) h2).wr (f := HDR.PG_ERR_FIRST.SEQ) h2
  · exact h.bump h1

theorem State.keepsRegs.logRaw {s t : State} {ks : List Nat} {p c a b : Nat} (h : s.keepsRegs t ks)
    (hh : NVS.LOG_STS.HEAD.key 0 0 ∈ ks) (hd : NVS.LOG_DROP.key 0 0 ∈ ks) (h1 : HDR.PG_ERR_CNT.COUNT.key p 0 ∈ ks)
    (h2 : HDR.PG_ERR_FIRST.CODE.key p 0 ∈ ks) : s.keepsRegs (t.logRaw p c a b) ks := by
  unfold State.logRaw State.logEnter
  dsimp only
  have e := (h.logStore (k := t.rd NVS.LOG_STS.HEAD) (r := t.mkRec p c a b)).wr (v := (t.rd NVS.LOG_STS.HEAD + 1) % 16384) hh
  split
  · refine State.keepsRegs.countErr ?_ h1 h2
    apply State.keepsRegs.ite
    · exact (e.modLog).logFirst hh
    · exact e.modLog
  · refine State.keepsRegs.countErr ?_ h1 h2
    apply State.keepsRegs.ite
    · exact (h.bump hd).modLog
    · exact h.bump hd

theorem State.keepsRegs.logc {s t : State} {ks : List Nat} {p c a b : Nat} (h : s.keepsRegs t ks)
    (hk : ∀ k ∈ logKeys p, k ∈ ks) : s.keepsRegs (t.logc p c a b) ks := by
  have m : ∀ k ∈ [NVS.LOG_STS.HEAD.key 0 0, NVS.LOG_DROP.key 0 0, HDR.PG_ERR_CNT.COUNT.key p 0, HDR.PG_ERR_FIRST.CODE.key p 0,
      HDR.PG_ERR_CNT.COUNT.key NVS.PAGE 0, HDR.PG_ERR_FIRST.CODE.key NVS.PAGE 0], k ∈ ks :=
    fun k hx => hk k (List.mem_append_left _ hx)
  have n : ∀ k ∈ eventKeys NVS.PAGE, k ∈ ks := fun k hx => hk k (List.mem_append_right _ hx)
  simp only [List.forall_mem_cons] at m
  obtain ⟨m1, m2, m3, m4, m5, m6, -⟩ := m
  have h1 := h.logRaw (c := c) (a := a) (b := b) m1 m2 m3 m4
  unfold State.logc
  dsimp only
  apply State.keepsRegs.ite
  · exact (h1.modLog.event n).logRaw m1 m2 m5 m6
  · exact h1

@[simp] theorem State.logStore_ram (s : State) (k : Nat) (r : LogRec) : (s.logStore k r).ram = s.ram := s.modLog_ram _

@[simp] theorem State.logFirst_ram (s : State) (r : LogRec) : (s.logFirst r).ram = s.ram := by
  unfold State.logFirst
  dsimp only
  repeat' split
  all_goals simp only [State.wr_ram, State.wrB_ram, State.logStore_ram]

@[simp] theorem State.logEnter_ram (s : State) (p : Nat) (r : LogRec) : (s.logEnter p r).ram = s.ram := by
  unfold State.logEnter
  extract_lets h a b c
  have hc : c.ram = s.ram := by rw [State.modLog_ram, State.wr_ram, State.logStore_ram]
  split
  · rw [State.logFirst_ram, hc]
  · exact hc

@[simp] theorem State.countErr_ram (s : State) (p c : Nat) (l : Bool) (q : Nat) : (s.countErr p c l q).ram = s.ram := by
  unfold State.countErr
  extract_lets f a b d
  have ha : a.ram = s.ram := State.bump_ram _ _ _ _ _
  split
  · rw [State.wr_ram, State.wrB_ram, State.wr_ram, ha]
  · exact ha

/-- Only its event of the NVS page writes hub SRAM for a log record. -/
@[simp] theorem State.logRaw_ram (s : State) (p c a b : Nat) : (s.logRaw p c a b).ram = s.ram := by
  unfold State.logRaw
  split
  · rw [State.countErr_ram, State.logEnter_ram]
  · extract_lets u v
    rw [State.countErr_ram]
    have hu : u.ram = s.ram := State.bump_ram _ _ _ _ _
    have : v.ram = u.ram := by
      unfold v
      split
      · rw [State.modLog_ram]
      · rfl
    rw [this, hu]

theorem State.keepsHub.logRaw {s t : State} {p c a b : Nat} (h : s.keepsHub t) : s.keepsHub (t.logRaw p c a b) := by
  refine h.step (ks := [NVS.LOG_STS.HEAD.key 0 0, NVS.LOG_DROP.key 0 0, HDR.PG_ERR_CNT.COUNT.key p 0,
    HDR.PG_ERR_FIRST.CODE.key p 0]) (State.keepsRegs_refl.logRaw ?_ ?_ ?_ ?_) (by rw [State.logRaw_ram]) ?_
  · simp
  · simp
  · simp
  · simp
  · simp [Fld.key, regKey, EVT.BASE.OFS, HDR.PG_ERR_CNT.COUNT, HDR.PG_ERR_FIRST.CODE, NVS.LOG_STS.HEAD, NVS.LOG_DROP]
    omega

theorem State.keepsHub.logc {s t : State} {p c a b : Nat} (h : s.keepsHub t) : s.keepsHub (t.logc p c a b) := by
  unfold State.logc
  dsimp only
  split
  · refine State.keepsHub.logRaw (State.keepsHub.event ?_)
    exact h.logRaw.step (State.keepsRegs_refl (ks := []).modLog) rfl (by simp)
  · exact h.logRaw

/-! ### The record itself -/

@[simp] theorem State.setReg_log (s : State) (k : Nat) (v : BitVec 32) : (s.setReg k v).log = s.log := s.modRegs_log _
@[simp] theorem State.wr_log (s : State) (f : Fld) (v i x : Nat) : (s.wr f v i x).log = s.log := s.setReg_log _ _
@[simp] theorem State.wrB_log (s : State) (f : Fld) (v : Bool) (i x : Nat) : (s.wrB f v i x).log = s.log := s.setReg_log _ _
@[simp] theorem State.bump_log (s : State) (f : Fld) (n i x : Nat) : (s.bump f n i x).log = s.log := s.setReg_log _ _

theorem State.logStore_wait (s : State) (k : Nat) (r : LogRec) (k' : Nat) :
    tget (fun _ => LogRec.empty) (s.logStore k r).log.wait k' =
      if k' = k then r else tget (fun _ => LogRec.empty) s.log.wait k' := tget_tset _ _ _ _ _

theorem State.logFirst_wait (s : State) (r : LogRec) (k : Nat) (h : k < 16384) :
    tget (fun _ => LogRec.empty) (s.logFirst r).log.wait k = tget (fun _ => LogRec.empty) s.log.wait k := by
  unfold State.logFirst
  dsimp only
  repeat' split
  all_goals simp only [State.wr_log, State.wrB_log]
  all_goals rw [State.logStore_wait, if_neg (by omega)]

theorem State.countErr_log (s : State) (p c : Nat) (l : Bool) (q : Nat) : (s.countErr p c l q).log = s.log := by
  unfold State.countErr
  dsimp only
  split
  all_goals simp only [State.wr_log, State.wrB_log, State.bump_log]

theorem State.logEnter_wait (s : State) (p : Nat) (r : LogRec) (k : Nat) (h : k < 16384) :
    tget (fun _ => LogRec.empty) (s.logEnter p r).log.wait k =
      if k = s.rd NVS.LOG_STS.HEAD then r else tget (fun _ => LogRec.empty) s.log.wait k := by
  unfold State.logEnter
  extract_lets h' a b c
  have e : tget (fun _ => LogRec.empty) c.log.wait k =
      if k = s.rd NVS.LOG_STS.HEAD then r else tget (fun _ => LogRec.empty) s.log.wait k := by
    rw [← State.logStore_wait, State.modLog_log, State.wr_log]
  split
  · rw [State.logFirst_wait _ _ _ h, e]
  · exact e

theorem State.logRaw_wait (s : State) (p c a b k : Nat) (h : k < 16384) :
    tget (fun _ => LogRec.empty) (s.logRaw p c a b).log.wait k =
      if s.logAdmits c = true ∧ k = s.rd NVS.LOG_STS.HEAD then s.mkRec p c a b
      else tget (fun _ => LogRec.empty) s.log.wait k := by
  unfold State.logRaw
  split
  · rename_i hc
    rw [State.countErr_log, State.logEnter_wait _ _ _ _ h]
    simp only [hc, true_and]
  · rename_i hc
    simp only [hc, Bool.false_eq_true, false_and, if_false]
    rw [State.countErr_log]
    split
    · rw [State.modLog_log, State.bump_log]
    · rw [State.bump_log]

/-- HEAD is not touched by the first-fault fields of its register. -/
theorem State.logFirst_head (s : State) (r : LogRec) : (s.logFirst r).rd NVS.LOG_STS.HEAD = s.rd NVS.LOG_STS.HEAD := by
  have hc : ∀ (t : State) (v : Nat), (t.wr NVS.LOG_STS.FF_COUNT v).rd NVS.LOG_STS.HEAD = t.rd NVS.LOG_STS.HEAD :=
    fun t v => State.rd_wr_field (by decide) (by decide) (by decide) (by decide) (by decide)
  have hf : ∀ (t : State) (v : Bool), (t.wrB NVS.LOG_STS.FF_FULL v).rd NVS.LOG_STS.HEAD = t.rd NVS.LOG_STS.HEAD :=
    fun t v => State.rd_wr_field (by decide) (by decide) (by decide) (by decide) (by decide)
  unfold State.logFirst
  dsimp only
  repeat' split
  · rfl
  · rw [hf, hc, State.logStore, State.modLog_rd]
  · rw [hc, State.logStore, State.modLog_rd]
  · rw [hf]

theorem State.keepsRegs.rd {s t : State} {ks : List Nat} {f : Fld} {i x : Nat} (h : s.keepsRegs t ks) (hk : f.key i x ∉ ks) :
    t.rd f i x = s.rd f i x := by
  unfold State.rd
  rw [h _ hk]

/-- HEAD after a record (R477). -/
theorem State.logRaw_head (s : State) (p c a b : Nat) :
    (s.logRaw p c a b).rd NVS.LOG_STS.HEAD =
      if s.logAdmits c then (s.rd NVS.LOG_STS.HEAD + 1) % 16384 else s.rd NVS.LOG_STS.HEAD := by
  have hh : ∀ (t : State) (l : Bool) (q : Nat), (t.countErr p c l q).rd NVS.LOG_STS.HEAD = t.rd NVS.LOG_STS.HEAD := by
    intro t l q
    refine (State.keepsRegs_refl.countErr (ks := [HDR.PG_ERR_CNT.COUNT.key p 0, HDR.PG_ERR_FIRST.CODE.key p 0]) ?_ ?_).rd ?_
    · simp
    · simp
    · simp [Fld.key, regKey, HDR.PG_ERR_CNT.COUNT, HDR.PG_ERR_FIRST.CODE, NVS.LOG_STS.HEAD]
      omega
  unfold State.logRaw State.logEnter
  dsimp only
  split
  · rw [hh]
    have e : ∀ t : State, (t.wr NVS.LOG_STS.HEAD ((s.rd NVS.LOG_STS.HEAD + 1) % 16384)).rd NVS.LOG_STS.HEAD =
        (s.rd NVS.LOG_STS.HEAD + 1) % 16384 := by
      intro t
      rw [State.rd_wr (by decide) (by decide)]
      exact Nat.mod_mod _ _
    split
    · rw [State.logFirst_head, State.modLog_rd, e]
    · rw [State.modLog_rd, e]
  · rw [hh]
    have e : ∀ t : State, (t.bump NVS.LOG_DROP).rd NVS.LOG_STS.HEAD = t.rd NVS.LOG_STS.HEAD :=
      fun t => State.bump_keepsRegs.rd (by decide)
    split
    · rw [State.modLog_rd, e]
    · rw [e]

@[simp] theorem State.ringPut_wait (s : State) (r : Fin 2) (p n : Nat) (f : Bool) : (s.ringPut r p n f).log.wait = s.log.wait := by
  unfold State.ringPut State.ringFlag State.noteEv
  dsimp only
  repeat' split
  all_goals simp only [State.wr_log, State.wrB_log, State.bump_log, State.modLog_log, State.sramWr, State.modRam_log]

@[simp] theorem State.report_wait (s : State) (p b : Nat) (f : Bool) : (s.report p b f).log.wait = s.log.wait := by
  unfold State.report
  split
  · rw [State.ringPut_wait, State.ringPut_wait]
  · rfl

@[simp] theorem State.event_wait (s : State) (p b : Nat) : (s.event p b).log.wait = s.log.wait := by
  unfold State.event
  extract_lets t u v
  rw [State.report_wait, State.wr_log, State.wr_log, State.wr_log]

theorem State.event_head (s : State) (p b : Nat) : (s.event p b).rd NVS.LOG_STS.HEAD = s.rd NVS.LOG_STS.HEAD := by
  refine (State.keepsRegs_refl.event (ks := eventKeys p) (fun _ h => h)).rd ?_
  simp [eventKeys, ringKeys, Fld.key, regKey, HDR.PG_EVT, HDR.PG_BEAM_AT.WC, NVS.LOG_STS.HEAD, EVT.HEAD.INDEX, EVT.DROP,
    EVT.STS.OVF, EVT.PAGE]
  omega

/-- A logged cause is in the log. -/
theorem State.logged_logc (s : State) (p c a b : Nat) : s.logged (s.logc p c a b) p c (fun x y => x = a ∧ y = b) := by
  intro hc
  have hlt : s.rd NVS.LOG_STS.HEAD < 16384 := s.rd_lt _ _ _
  have e : tget (fun _ => LogRec.empty) (s.logc p c a b).log.wait (s.rd NVS.LOG_STS.HEAD) = s.mkRec p c a b := by
    have e1 : tget (fun _ => LogRec.empty) (s.logRaw p c a b).log.wait (s.rd NVS.LOG_STS.HEAD) = s.mkRec p c a b := by
      rw [State.logRaw_wait _ _ _ _ _ _ hlt, if_pos ⟨hc, rfl⟩]
    unfold State.logc
    dsimp only
    split
    · rw [State.logRaw_wait _ _ _ _ _ _ hlt, if_neg]
      · rw [State.event_wait, State.modLog_log]
        exact e1
      · rw [State.event_head, State.modLog_rd, State.logRaw_head, if_pos hc]
        omega
    · exact e1
  dsimp only
  rw [e]
  exact ⟨rfl, rfl, rfl, rfl, rfl⟩

end Sys2Proof.Machine
end

