-- ==== Sys2Proof/Laws/FrameAccess.lean ====
section
/-! SUPPORT. The frame of every operation of Machine/Access.lean. -/

namespace Sys2Proof.Machine

set_option linter.unusedTactic false
set_option linter.unreachableTactic false

theorem lock29_fr {a0 a1 a2 a3 s} : Fr 134217985 s (lock29 a0 a1 a2 a3 s).2 := by
  unfold lock29
  with_reducible
    repeat' first | apply Fr.refl | assumption | apply Fr.ite | apply Fr.ite2 | apply Fr.next State.logc_fr | refine Fr.snd ‹_ = (_, _)› ?_ | refine Fr.fst ‹_ = (_, _)› ?_ | refine Fr.snd2 ‹_ = (_, _, _)› ?_ | refine Fr.via (by assumption) ?_ | split
  all_goals first | rfl | exact Fr.refl

theorem State.gate_fr {m s0 s a1 a2 a3 a4 a5 k} (hk : ∀ s, Fr m s (k s).2) (h : Fr m s0 s) (hm : 134217985 &&& m = 134217985) :
    Fr m s0 (State.gate s a1 a2 a3 a4 a5 k).2 := by
  unfold State.gate
  with_reducible
    repeat' first | apply Fr.refl | assumption | apply Fr.ite | apply Fr.ite2 | apply Fr.next lock29_fr | apply Fr.next State.logc_fr | apply Fr.next State.wr_fr | refine Fr.trans ?_ (hk _) | split
  all_goals exact Fr.sub rfl hm

theorem State.plainWrite_fr {s a1 a2 a3 a4} : Fr 1 s (State.plainWrite s a1 a2 a3 a4) := by
  unfold State.plainWrite
  with_reducible
    repeat' first | apply Fr.refl | assumption | ((try lift_lets -underBinder); intro x; clear_value x) | apply Fr.ite | apply Fr.next State.setReg_fr | refine Fr.snd ‹_ = (_, _)› ?_ | refine Fr.fst ‹_ = (_, _)› ?_ | refine Fr.snd2 ‹_ = (_, _, _)› ?_ | refine Fr.via (by assumption) ?_ | split
  all_goals first | rfl | exact Fr.refl

theorem ign28_fr {a0 a1 a2 a3 s} : Fr 134217985 s (ign28 a0 a1 a2 a3 s).2 := by
  unfold ign28
  with_reducible
    repeat' first | apply Fr.refl | assumption | apply Fr.ite | apply Fr.ite2 | apply Fr.next State.logc_fr | refine Fr.snd ‹_ = (_, _)› ?_ | refine Fr.fst ‹_ = (_, _)› ?_ | refine Fr.snd2 ‹_ = (_, _, _)› ?_ | refine Fr.via (by assumption) ?_ | split
  all_goals first | rfl | exact Fr.refl

theorem ignCode_fr {a0 a1 a2 a3 s} : Fr 134217985 s (ignCode a0 a1 a2 a3 s).2 := by
  unfold ignCode
  with_reducible
    repeat' first | apply Fr.refl | assumption | apply Fr.ite | apply Fr.ite2 | apply Fr.next State.logc_fr | refine Fr.snd ‹_ = (_, _)› ?_ | refine Fr.fst ‹_ = (_, _)› ?_ | refine Fr.snd2 ‹_ = (_, _, _)› ?_ | refine Fr.via (by assumption) ?_ | split
  all_goals first | rfl | exact Fr.refl

theorem okW_fr {s} : Fr 0 s (okW s).2 := by
  unfold okW
  with_reducible
    repeat' first | apply Fr.refl | ((try lift_lets -underBinder); intro (x : State); refine (fun h => ?_ : Fr 0 s x → _) ?_; clear_value x; rotate_left; subst x) | ((try lift_lets -underBinder); intro (x : _ × _ × State); refine (fun h => ?_ : Fr 0 s x.2.2 → _) ?_; clear_value x; rotate_left; subst x) | ((try lift_lets -underBinder); intro (x : _ × State); refine (fun h => ?_ : Fr 0 s x.2 → _) ?_; clear_value x; rotate_left; subst x) | ((try lift_lets -underBinder); intro (x : State × _); refine (fun h => ?_ : Fr 0 s x.1 → _) ?_; clear_value x; rotate_left; subst x) | ((try lift_lets -underBinder); intro (x : State → State); refine (fun h => ?_ : (∀ s, Fr 0 s (x s)) → _) ?_; clear_value x; rotate_left; subst x; intro s; (try simp only [])) | ((try lift_lets -underBinder); intro x; have : ∀ s, x s = x s := fun _ => rfl; clear this; subst x) | ((try lift_lets -underBinder); intro x; clear_value x)
  all_goals first | rfl | exact Fr.refl

end Sys2Proof.Machine
end

