-- ==== Sys2Proof/Laws/FrameOperands.lean ====
section
/-! SUPPORT. The frame of every operation of Machine/Operands.lean. -/

namespace Sys2Proof.Machine

set_option linter.unusedTactic false
set_option linter.unreachableTactic false

theorem State.putEntry_fr {s a1 a2} : Fr 1024 s (State.putEntry s a1 a2) := by
  unfold State.putEntry
  with_reducible
    repeat' first | apply Fr.refl | assumption | apply Fr.ite | apply Fr.next State.modScene_fr | refine Fr.snd ‹_ = (_, _)› ?_ | refine Fr.fst ‹_ = (_, _)› ?_ | refine Fr.snd2 ‹_ = (_, _, _)› ?_ | refine Fr.via (by assumption) ?_ | split
  all_goals first | rfl | exact Fr.refl

theorem State.setDirty_fr {s a1} : Fr 1024 s (State.setDirty s a1) := by
  unfold State.setDirty
  with_reducible
    repeat' first | apply Fr.refl | assumption | ((try lift_lets -underBinder); intro x; clear_value x) | apply Fr.ite | apply Fr.next State.modScene_fr | refine Fr.snd ‹_ = (_, _)› ?_ | refine Fr.fst ‹_ = (_, _)› ?_ | refine Fr.snd2 ‹_ = (_, _, _)› ?_ | refine Fr.via (by assumption) ?_ | split
  all_goals first | rfl | exact Fr.refl

end Sys2Proof.Machine
end

