-- ==== Sys2Proof/Laws/FrameSweep.lean ====
section
/-! SUPPORT. The frame of every operation of Machine/Sweep.lean. -/

namespace Sys2Proof.Machine

set_option linter.unusedTactic false
set_option linter.unreachableTactic false

theorem State.orderRing_fr {s a1} : Fr 134217728 s (State.orderRing s a1) := by
  unfold State.orderRing
  with_reducible
    repeat' first | apply Fr.refl | assumption | ((try lift_lets -underBinder); intro x; clear_value x) | apply Fr.ite | refine Fr.each ?_ (fun s _ => ?_) | apply Fr.next State.sramWr_fr | refine Fr.snd ‹_ = (_, _)› ?_ | refine Fr.fst ‹_ = (_, _)› ?_ | refine Fr.snd2 ‹_ = (_, _, _)› ?_ | refine Fr.via (by assumption) ?_ | split
  all_goals first | rfl | exact Fr.refl

theorem State.orderLog_fr {s} : Fr 257 s (State.orderLog s) := by
  unfold State.orderLog
  with_reducible
    repeat' first | apply Fr.refl | assumption | ((try lift_lets -underBinder); intro (x : State); refine (fun h => ?_ : Fr 257 s x → _) ?_; clear_value x; rotate_left; subst x) | ((try lift_lets -underBinder); intro x; clear_value x) | apply Fr.ite | refine Fr.each ?_ (fun s _ => ?_) | apply Fr.next State.logStore_fr | apply Fr.next State.wr_fr | refine Fr.snd ‹_ = (_, _)› ?_ | refine Fr.fst ‹_ = (_, _)› ?_ | refine Fr.snd2 ‹_ = (_, _, _)› ?_ | refine Fr.via (by assumption) ?_ | split
  all_goals first | rfl | exact Fr.refl

theorem State.endCycle_fr {s} : Fr 134217985 s (State.endCycle s) := by
  unfold State.endCycle
  with_reducible
    repeat' first | apply Fr.refl | assumption | apply Fr.ite | apply Fr.next State.modLog_fr | apply Fr.next State.orderRing_fr | apply Fr.next State.orderLog_fr | refine Fr.snd ‹_ = (_, _)› ?_ | refine Fr.fst ‹_ = (_, _)› ?_ | refine Fr.snd2 ‹_ = (_, _, _)› ?_ | refine Fr.via (by assumption) ?_ | split
  all_goals first | rfl | exact Fr.refl

theorem State.epochVisit_fr {s a1} : Fr 1024 s (State.epochVisit s a1) := by
  unfold State.epochVisit
  with_reducible
    repeat' first | apply Fr.refl | assumption | ((try lift_lets -underBinder); intro x; clear_value x) | apply Fr.ite | apply Fr.next State.modScene_fr | refine Fr.snd ‹_ = (_, _)› ?_ | refine Fr.fst ‹_ = (_, _)› ?_ | refine Fr.snd2 ‹_ = (_, _, _)› ?_ | refine Fr.via (by assumption) ?_ | split
  all_goals first | rfl | exact Fr.refl

theorem State.verVisit_fr {s a1} : Fr 9216 s (State.verVisit s a1) := by
  unfold State.verVisit
  with_reducible
    repeat' first | apply Fr.refl | assumption | ((try lift_lets -underBinder); intro x; clear_value x) | apply Fr.ite | apply Fr.next State.modFrs_fr | refine Fr.each ?_ (fun s _ => ?_) | apply Fr.next State.putEntry_fr | refine Fr.snd ‹_ = (_, _)› ?_ | refine Fr.fst ‹_ = (_, _)› ?_ | refine Fr.snd2 ‹_ = (_, _, _)› ?_ | refine Fr.via (by assumption) ?_ | split
  all_goals first | rfl | exact Fr.refl

theorem State.withdraw_fr {s a1} : Fr 1025 s (State.withdraw s a1) := by
  unfold State.withdraw
  with_reducible
    repeat' first | apply Fr.refl | assumption | ((try lift_lets -underBinder); intro x; clear_value x) | apply Fr.ite | apply Fr.next State.bump_fr | apply Fr.next State.putEntry_fr | refine Fr.snd ‹_ = (_, _)› ?_ | refine Fr.fst ‹_ = (_, _)› ?_ | refine Fr.snd2 ‹_ = (_, _, _)› ?_ | refine Fr.via (by assumption) ?_ | split
  all_goals first | rfl | exact Fr.refl

theorem State.stepVisit_fr {s a1} : Fr 9217 s (State.stepVisit s a1) := by
  unfold State.stepVisit
  with_reducible
    repeat' first | apply Fr.refl | assumption | ((try lift_lets -underBinder); intro x; clear_value x) | apply Fr.ite | apply Fr.next State.modFrs_fr | refine Fr.each ?_ (fun s _ => ?_) | apply Fr.next State.withdraw_fr | refine Fr.snd ‹_ = (_, _)› ?_ | refine Fr.fst ‹_ = (_, _)› ?_ | refine Fr.snd2 ‹_ = (_, _, _)› ?_ | refine Fr.via (by assumption) ?_ | split
  all_goals first | rfl | exact Fr.refl

theorem State.sweeps_fr {s a1} : Fr 9217 s (State.sweeps s a1) := by
  unfold State.sweeps
  with_reducible
    repeat' first | apply Fr.refl | assumption | apply Fr.ite | apply Fr.next State.verVisit_fr | apply Fr.next State.stepVisit_fr | apply Fr.next State.epochVisit_fr | refine Fr.snd ‹_ = (_, _)› ?_ | refine Fr.fst ‹_ = (_, _)› ?_ | refine Fr.snd2 ‹_ = (_, _, _)› ?_ | refine Fr.via (by assumption) ?_ | split
  all_goals first | rfl | exact Fr.refl

theorem State.setTai_fr {s a1} : Fr 8 s (State.setTai s a1) := by
  unfold State.setTai
  with_reducible
    repeat' first | apply Fr.refl | assumption | apply Fr.ite | apply Fr.next State.modClk_fr | refine Fr.snd ‹_ = (_, _)› ?_ | refine Fr.fst ‹_ = (_, _)› ?_ | refine Fr.snd2 ‹_ = (_, _, _)› ?_ | refine Fr.via (by assumption) ?_ | split
  all_goals first | rfl | exact Fr.refl

theorem State.slewRun_fr {s} : Fr 524296 s (State.slewRun s) := by
  unfold State.slewRun
  with_reducible
    repeat' first | apply Fr.refl | assumption | ((try lift_lets -underBinder); intro x; clear_value x) | apply Fr.ite | apply Fr.next State.modTim_fr | apply Fr.next State.setTai_fr | refine Fr.snd ‹_ = (_, _)› ?_ | refine Fr.fst ‹_ = (_, _)› ?_ | refine Fr.snd2 ‹_ = (_, _, _)› ?_ | refine Fr.via (by assumption) ?_ | split
  all_goals first | rfl | exact Fr.refl

theorem State.run_fr {s a1} : Fr 134751497 s (State.run s a1) := by
  unfold State.run
  with_reducible
    repeat' first | apply Fr.refl | assumption | apply Fr.ite | apply Fr.next State.sweeps_fr | apply Fr.next State.slewRun_fr | apply Fr.next State.advance_fr | apply Fr.next State.endCycle_fr | refine Fr.snd ‹_ = (_, _)› ?_ | refine Fr.fst ‹_ = (_, _)› ?_ | refine Fr.snd2 ‹_ = (_, _, _)› ?_ | refine Fr.via (by assumption) ?_ | split
  all_goals first | rfl | exact Fr.refl

end Sys2Proof.Machine
end

