-- ==== Sys2Proof/Laws/FrameFlags.lean ====
section
/-! SUPPORT. The frame of every operation of Machine/Flags.lean. -/

namespace Sys2Proof.Machine

set_option linter.unusedTactic false
set_option linter.unreachableTactic false

theorem State.frameShows_fr {s} : Fr 16897 s (State.frameShows s) := by
  unfold State.frameShows
  with_reducible
    repeat' first | apply Fr.refl | assumption | ((try lift_lets -underBinder); intro (x : State); refine (fun h => ?_ : Fr 16897 s x → _) ?_; clear_value x; rotate_left; subst x) | apply Fr.ite | apply Fr.next State.modMem_fr | apply Fr.next State.wr_fr | apply Fr.next State.modRim_fr | refine Fr.snd ‹_ = (_, _)› ?_ | refine Fr.fst ‹_ = (_, _)› ?_ | refine Fr.snd2 ‹_ = (_, _, _)› ?_ | refine Fr.via (by assumption) ?_ | split
  all_goals first | rfl | exact Fr.refl

theorem State.resample_fr {s} : Fr 8193 s (State.resample s) := by
  unfold State.resample
  with_reducible
    repeat' first | apply Fr.refl | assumption | ((try lift_lets -underBinder); intro (x : State); refine (fun h => ?_ : Fr 8193 s x → _) ?_; clear_value x; rotate_left; subst x) | ((try lift_lets -underBinder); intro x; have : ∀ s, x s = x s := fun _ => rfl; clear this; subst x) | ((try lift_lets -underBinder); intro x; clear_value x) | apply Fr.ite | refine Fr.each ?_ (fun s _ => ?_) | apply Fr.next State.modFrs_fr | refine Fr.foldl (fun s _ => ?_) _ ?_ | apply Fr.next State.wr_fr | refine Fr.snd ‹_ = (_, _)› ?_ | refine Fr.fst ‹_ = (_, _)› ?_ | refine Fr.snd2 ‹_ = (_, _, _)› ?_ | refine Fr.via (by assumption) ?_ | split
  all_goals first | rfl | exact Fr.refl

theorem State.setPower_fr {s a1} : Fr 138412293 s (State.setPower s a1) := by
  unfold State.setPower
  with_reducible
    repeat' first | apply Fr.refl | assumption | ((try lift_lets -underBinder); intro (x : State); refine (fun h => ?_ : Fr 138412293 s x → _) ?_; clear_value x; rotate_left; subst x) | ((try lift_lets -underBinder); intro x; clear_value x) | apply Fr.ite | apply Fr.next State.modMode_fr | apply Fr.next State.wr_fr | apply Fr.next State.modThm_fr | apply Fr.next State.wrB_fr | apply Fr.next State.logc_fr | apply Fr.next State.event_fr | refine Fr.snd ‹_ = (_, _)› ?_ | refine Fr.fst ‹_ = (_, _)› ?_ | refine Fr.snd2 ‹_ = (_, _, _)› ?_ | refine Fr.via (by assumption) ?_ | split
  all_goals first | rfl | exact Fr.refl

theorem State.sliceLine_fr {s} : Fr 512 s (State.sliceLine s) := by
  unfold State.sliceLine
  with_reducible
    repeat' first | apply Fr.refl | assumption | ((try lift_lets -underBinder); intro x; clear_value x) | apply Fr.ite | apply Fr.next State.modMem_fr | refine Fr.snd ‹_ = (_, _)› ?_ | refine Fr.fst ‹_ = (_, _)› ?_ | refine Fr.snd2 ‹_ = (_, _, _)› ?_ | refine Fr.via (by assumption) ?_ | split
  all_goals first | rfl | exact Fr.refl

theorem State.toLineEnd_fr {s} : Fr 134751497 s (State.toLineEnd s) := by
  unfold State.toLineEnd
  with_reducible
    repeat' first | apply Fr.refl | assumption | apply Fr.ite | apply Fr.next State.run_fr | refine Fr.snd ‹_ = (_, _)› ?_ | refine Fr.fst ‹_ = (_, _)› ?_ | refine Fr.snd2 ‹_ = (_, _, _)› ?_ | refine Fr.via (by assumption) ?_ | split
  all_goals first | rfl | exact Fr.refl

theorem State.toWc_fr {s a1} : Fr 134751497 s (State.toWc s a1) := by
  unfold State.toWc
  with_reducible
    repeat' first | apply Fr.refl | assumption | apply Fr.ite | apply Fr.next State.run_fr | refine Fr.snd ‹_ = (_, _)› ?_ | refine Fr.fst ‹_ = (_, _)› ?_ | refine Fr.snd2 ‹_ = (_, _, _)› ?_ | refine Fr.via (by assumption) ?_ | split
  all_goals first | rfl | exact Fr.refl

end Sys2Proof.Machine
end

