-- ==== Sys2Proof/Laws/FrameLaneTx.lean ====
section
/-! SUPPORT. The frame of every operation of Machine/LaneTx.lean. -/

namespace Sys2Proof.Machine

set_option linter.unusedTactic false
set_option linter.unreachableTactic false

theorem State.laneSend_fr {s a1 a2} : Fr 16908288 s (State.laneSend s a1 a2) := by
  unfold State.laneSend
  with_reducible
    repeat' first | apply Fr.refl | assumption | apply Fr.ite | apply Fr.next State.takeFree_fr | apply Fr.next State.modLan_fr | refine Fr.snd ‹_ = (_, _)› ?_ | refine Fr.fst ‹_ = (_, _)› ?_ | refine Fr.snd2 ‹_ = (_, _, _)› ?_ | refine Fr.via (by assumption) ?_ | split
  all_goals first | rfl | exact Fr.refl

theorem State.laneTrain_fr {s a1 a2} : Fr 131072 s (State.laneTrain s a1 a2) := by
  unfold State.laneTrain
  with_reducible
    repeat' first | apply Fr.refl | assumption | ((try lift_lets -underBinder); intro x; clear_value x) | apply Fr.ite | apply Fr.next State.modLan_fr | refine Fr.snd ‹_ = (_, _)› ?_ | refine Fr.fst ‹_ = (_, _)› ?_ | refine Fr.snd2 ‹_ = (_, _, _)› ?_ | refine Fr.via (by assumption) ?_ | split
  all_goals first | rfl | exact Fr.refl

theorem State.laneTrim_fr {s a1} : Fr 151126273 s (State.laneTrim s a1) := by
  unfold State.laneTrim
  with_reducible
    repeat' first | apply Fr.refl | assumption | apply Fr.ite | apply Fr.next State.takeFree_fr | apply Fr.next State.logc_fr | apply Fr.next State.wr_fr | apply Fr.next State.modLan_fr | refine Fr.snd ‹_ = (_, _)› ?_ | refine Fr.fst ‹_ = (_, _)› ?_ | refine Fr.snd2 ‹_ = (_, _, _)› ?_ | refine Fr.via (by assumption) ?_ | split
  all_goals first | rfl | exact Fr.refl

theorem State.laneTrims_fr {s} : Fr 151126273 s (State.laneTrims s) := by
  unfold State.laneTrims
  with_reducible
    repeat' first | apply Fr.refl | assumption | apply Fr.ite | refine Fr.each ?_ (fun s _ => ?_) | apply Fr.next State.laneTrim_fr | refine Fr.snd ‹_ = (_, _)› ?_ | refine Fr.fst ‹_ = (_, _)› ?_ | refine Fr.snd2 ‹_ = (_, _, _)› ?_ | refine Fr.via (by assumption) ?_ | split
  all_goals first | rfl | exact Fr.refl

theorem State.markerMap_fr {s a1} : Fr 32768 s (State.markerMap s a1) := by
  unfold State.markerMap
  with_reducible
    repeat' first | apply Fr.refl | assumption | apply Fr.ite | refine Fr.each ?_ (fun s _ => ?_) | apply Fr.next State.modScan_fr | refine Fr.snd ‹_ = (_, _)› ?_ | refine Fr.fst ‹_ = (_, _)› ?_ | refine Fr.snd2 ‹_ = (_, _, _)› ?_ | refine Fr.via (by assumption) ?_ | split
  all_goals first | rfl | exact Fr.refl

theorem State.panelTaps_fr {s a1 a2} : Fr 1 s (State.panelTaps s a1 a2) := by
  unfold State.panelTaps
  with_reducible
    repeat' first | apply Fr.refl | assumption | apply Fr.ite | apply Fr.next State.wr_fr | refine Fr.snd ‹_ = (_, _)› ?_ | refine Fr.fst ‹_ = (_, _)› ?_ | refine Fr.snd2 ‹_ = (_, _, _)› ?_ | refine Fr.via (by assumption) ?_ | split
  all_goals first | rfl | exact Fr.refl

theorem State.sendMarker_fr {s a1 a2} : Fr 16908288 s (State.sendMarker s a1 a2) := by
  unfold State.sendMarker
  with_reducible
    repeat' first | apply Fr.refl | assumption | apply Fr.ite | refine Fr.each ?_ (fun s _ => ?_) | apply Fr.next State.laneSend_fr | refine Fr.snd ‹_ = (_, _)› ?_ | refine Fr.fst ‹_ = (_, _)› ?_ | refine Fr.snd2 ‹_ = (_, _, _)› ?_ | refine Fr.via (by assumption) ?_ | split
  all_goals first | rfl | exact Fr.refl

theorem State.sendPacket_fr {s a1 a2} : Fr 16908288 s (State.sendPacket s a1 a2) := by
  unfold State.sendPacket
  with_reducible
    repeat' first | apply Fr.refl | assumption | ((try lift_lets -underBinder); intro x; clear_value x) | apply Fr.ite | refine Fr.each ?_ (fun s _ => ?_) | apply Fr.next State.laneSend_fr | refine Fr.snd ‹_ = (_, _)› ?_ | refine Fr.fst ‹_ = (_, _)› ?_ | refine Fr.snd2 ‹_ = (_, _, _)› ?_ | refine Fr.via (by assumption) ?_ | split
  all_goals first | rfl | exact Fr.refl

theorem State.startMap_fr {s a1} : Fr 32768 s (State.startMap s a1) := by
  unfold State.startMap
  with_reducible
    repeat' first | apply Fr.refl | assumption | apply Fr.ite | apply Fr.next State.modScan_fr | refine Fr.snd ‹_ = (_, _)› ?_ | refine Fr.fst ‹_ = (_, _)› ?_ | refine Fr.snd2 ‹_ = (_, _, _)› ?_ | refine Fr.via (by assumption) ?_ | split
  all_goals first | rfl | exact Fr.refl

end Sys2Proof.Machine
end

