-- ==== Sys2Proof/Laws/FrameMem.lean ====
section
/-! SUPPORT. The frame of every operation of Machine/Mem.lean. -/

namespace Sys2Proof.Machine

set_option linter.unusedTactic false
set_option linter.unreachableTactic false

theorem State.queueNr_fr {s a1 a2 a3} : Fr 512 s (State.queueNr s a1 a2 a3) := by
  unfold State.queueNr
  with_reducible
    repeat' first | apply Fr.refl | assumption | ((try lift_lets -underBinder); intro x; clear_value x) | apply Fr.ite | apply Fr.next State.modMem_fr | refine Fr.snd ‹_ = (_, _)› ?_ | refine Fr.fst ‹_ = (_, _)› ?_ | refine Fr.snd2 ‹_ = (_, _, _)› ?_ | refine Fr.via (by assumption) ?_ | split
  all_goals first | rfl | exact Fr.refl

theorem State.act_fr {s a1 a2 a3} : Fr 16777728 s (State.act s a1 a2 a3) := by
  unfold State.act
  with_reducible
    repeat' first | apply Fr.refl | assumption | ((try lift_lets -underBinder); intro (x : State); refine (fun h => ?_ : Fr 16777728 s x → _) ?_; clear_value x; rotate_left; subst x) | ((try lift_lets -underBinder); intro x; clear_value x) | apply Fr.ite | apply Fr.next State.takeFree_fr | apply Fr.next State.queueNr_fr | apply Fr.next State.modMem_fr | refine Fr.snd ‹_ = (_, _)› ?_ | refine Fr.fst ‹_ = (_, _)› ?_ | refine Fr.snd2 ‹_ = (_, _, _)› ?_ | refine Fr.via (by assumption) ?_ | split
  all_goals first | rfl | exact Fr.refl

theorem State.addrError_fr {s a1} : Fr 134217985 s (State.addrError s a1) := by
  unfold State.addrError
  with_reducible
    repeat' first | apply Fr.refl | assumption | apply Fr.ite | apply Fr.next State.logc_fr | refine Fr.snd ‹_ = (_, _)› ?_ | refine Fr.fst ‹_ = (_, _)› ?_ | refine Fr.snd2 ‹_ = (_, _, _)› ?_ | refine Fr.via (by assumption) ?_ | split
  all_goals first | rfl | exact Fr.refl

theorem State.corrected_fr {s a1} : Fr 513 s (State.corrected s a1) := by
  unfold State.corrected
  with_reducible
    repeat' first | apply Fr.refl | assumption | ((try lift_lets -underBinder); intro x; clear_value x) | apply Fr.ite | apply Fr.next State.modMem_fr | apply Fr.next State.bump_fr | refine Fr.snd ‹_ = (_, _)› ?_ | refine Fr.fst ‹_ = (_, _)› ?_ | refine Fr.snd2 ‹_ = (_, _, _)› ?_ | refine Fr.via (by assumption) ?_ | split
  all_goals first | rfl | exact Fr.refl

theorem State.errAddr_fr {s a1 a2} : Fr 1 s (State.errAddr s a1 a2) := by
  unfold State.errAddr
  with_reducible
    repeat' first | apply Fr.refl | assumption | apply Fr.ite | apply Fr.next State.wr_fr | refine Fr.snd ‹_ = (_, _)› ?_ | refine Fr.fst ‹_ = (_, _)› ?_ | refine Fr.snd2 ‹_ = (_, _, _)› ?_ | refine Fr.via (by assumption) ?_ | split
  all_goals first | rfl | exact Fr.refl

theorem State.hbmTrim_fr {s a1} : Fr 150995713 s (State.hbmTrim s a1) := by
  unfold State.hbmTrim
  with_reducible
    repeat' first | apply Fr.refl | assumption | apply Fr.ite | apply Fr.next State.takeFree_fr | apply Fr.next State.logc_fr | apply Fr.next State.modMem_fr | refine Fr.snd ‹_ = (_, _)› ?_ | refine Fr.fst ‹_ = (_, _)› ?_ | refine Fr.snd2 ‹_ = (_, _, _)› ?_ | refine Fr.via (by assumption) ?_ | split
  all_goals first | rfl | exact Fr.refl

theorem State.hbmStep_fr {s} : Fr 150995713 s (State.hbmStep s) := by
  unfold State.hbmStep
  with_reducible
    repeat' first | apply Fr.refl | assumption | apply Fr.ite | refine Fr.each ?_ (fun s _ => ?_) | apply Fr.next State.hbmTrim_fr | refine Fr.snd ‹_ = (_, _)› ?_ | refine Fr.fst ‹_ = (_, _)› ?_ | refine Fr.snd2 ‹_ = (_, _, _)› ?_ | refine Fr.via (by assumption) ?_ | split
  all_goals first | rfl | exact Fr.refl

theorem State.hbmTrims_fr {s} : Fr 150995713 s (State.hbmTrims s) := by
  unfold State.hbmTrims
  with_reducible
    repeat' first | apply Fr.refl | assumption | apply Fr.ite | apply Fr.next State.hbmStep_fr | refine Fr.snd ‹_ = (_, _)› ?_ | refine Fr.fst ‹_ = (_, _)› ?_ | refine Fr.snd2 ‹_ = (_, _, _)› ?_ | refine Fr.via (by assumption) ?_ | split
  all_goals first | rfl | exact Fr.refl

theorem State.lend_fr {s a1} : Fr 512 s (State.lend s a1) := by
  unfold State.lend
  with_reducible
    repeat' first | apply Fr.refl | assumption | ((try lift_lets -underBinder); intro x; clear_value x) | apply Fr.ite | apply Fr.next State.modMem_fr | refine Fr.snd ‹_ = (_, _)› ?_ | refine Fr.fst ‹_ = (_, _)› ?_ | refine Fr.snd2 ‹_ = (_, _, _)› ?_ | refine Fr.via (by assumption) ?_ | split
  all_goals first | rfl | exact Fr.refl

theorem State.linkTurn_fr {s a1} : Fr 512 s (State.linkTurn s a1) := by
  unfold State.linkTurn
  with_reducible
    repeat' first | apply Fr.refl | assumption | apply Fr.ite | apply Fr.next State.modMem_fr | refine Fr.snd ‹_ = (_, _)› ?_ | refine Fr.fst ‹_ = (_, _)› ?_ | refine Fr.snd2 ‹_ = (_, _, _)› ?_ | refine Fr.via (by assumption) ?_ | split
  all_goals first | rfl | exact Fr.refl

theorem State.rtGrant_fr {s a1 a2} : Fr 16777729 s (State.rtGrant s a1 a2) := by
  unfold State.rtGrant
  with_reducible
    repeat' first | apply Fr.refl | assumption | ((try lift_lets -underBinder); intro (x : State); refine (fun h => ?_ : Fr 16777729 s x → _) ?_; clear_value x; rotate_left; subst x) | ((try lift_lets -underBinder); intro x; clear_value x) | apply Fr.ite | apply Fr.next State.modMem_fr | refine Fr.each ?_ (fun s _ => ?_) | apply Fr.next State.act_fr | apply Fr.next State.bump_fr | refine Fr.snd ‹_ = (_, _)› ?_ | refine Fr.fst ‹_ = (_, _)› ?_ | refine Fr.snd2 ‹_ = (_, _, _)› ?_ | refine Fr.via (by assumption) ?_ | split
  all_goals first | rfl | exact Fr.refl

theorem State.memRecord_fr {m s0 s a1 k} (hk : ∀ s, Fr m s (k s)) (h : Fr m s0 s) (hm : 134218497 &&& m = 134218497) :
    Fr m s0 (State.memRecord s a1 k) := by
  unfold State.memRecord
  with_reducible
    repeat' first | apply Fr.refl | assumption | ((try lift_lets -underBinder); intro (x : State); refine (fun h => ?_ : Fr m s0 x → _) ?_; clear_value x; rotate_left; subst x) | apply Fr.ite | apply Fr.next State.modMem_fr | apply Fr.next State.logc_fr | refine Fr.trans ?_ (hk _) | split
  all_goals exact Fr.sub rfl hm

theorem State.tileFault_fr {s a1} : Fr 9217 s (State.tileFault s a1) := by
  unfold State.tileFault
  with_reducible
    repeat' first | apply Fr.refl | assumption | ((try lift_lets -underBinder); intro x; clear_value x) | apply Fr.ite | apply Fr.next State.resample_fr | apply Fr.next State.putEntry_fr | refine Fr.snd ‹_ = (_, _)› ?_ | refine Fr.fst ‹_ = (_, _)› ?_ | refine Fr.snd2 ‹_ = (_, _, _)› ?_ | refine Fr.via (by assumption) ?_ | split
  all_goals first | rfl | exact Fr.refl

theorem State.uncorrectable_fr {s a1 a2} : Fr 201336577 s (State.uncorrectable s a1 a2) := by
  unfold State.uncorrectable
  with_reducible
    repeat' first | apply Fr.refl | assumption | ((try lift_lets -underBinder); intro (x : State); refine (fun h => ?_ : Fr 201336577 s x → _) ?_; clear_value x; rotate_left; subst x) | apply Fr.ite | apply Fr.next State.spoil_fr | refine State.memRecord_fr (hk := fun s => ?_) ?_ ?_ | apply Fr.next State.tileFault_fr | apply Fr.next State.errAddr_fr | apply Fr.next State.bump_fr | apply Fr.next State.event_fr | refine Fr.snd ‹_ = (_, _)› ?_ | refine Fr.fst ‹_ = (_, _)› ?_ | refine Fr.snd2 ‹_ = (_, _, _)› ?_ | refine Fr.via (by assumption) ?_ | split
  all_goals first | rfl | exact Fr.refl

theorem State.rtDone_fr {s a1 a2 a3 a4} : Fr 201336577 s (State.rtDone s a1 a2 a3 a4) := by
  unfold State.rtDone
  with_reducible
    repeat' first | apply Fr.refl | assumption | ((try lift_lets -underBinder); intro (x : State); refine (fun h => ?_ : Fr 201336577 s x → _) ?_; clear_value x; rotate_left; subst x) | ((try lift_lets -underBinder); intro x; clear_value x) | apply Fr.ite | apply Fr.next State.modMem_fr | apply Fr.next State.hbmWr_fr | apply Fr.next State.corrected_fr | refine Fr.each ?_ (fun s _ => ?_) | apply Fr.next State.uncorrectable_fr | refine Fr.snd ‹_ = (_, _)› ?_ | refine Fr.fst ‹_ = (_, _)› ?_ | refine Fr.snd2 ‹_ = (_, _, _)› ?_ | refine Fr.via (by assumption) ?_ | split
  all_goals first | rfl | exact Fr.refl

theorem State.openFor_fr {s a1} : Fr 16777728 s (State.openFor s a1) := by
  unfold State.openFor
  with_reducible
    repeat' first | apply Fr.refl | assumption | ((try lift_lets -underBinder); intro x; clear_value x) | apply Fr.ite | refine Fr.each ?_ (fun s _ => ?_) | apply Fr.next State.modMem_fr | apply Fr.next State.act_fr | refine Fr.snd ‹_ = (_, _)› ?_ | refine Fr.fst ‹_ = (_, _)› ?_ | refine Fr.snd2 ‹_ = (_, _, _)› ?_ | refine Fr.via (by assumption) ?_ | split
  all_goals first | rfl | exact Fr.refl

theorem State.returnData_fr {s a1} : Fr 512 s (State.returnData s a1) := by
  unfold State.returnData
  with_reducible
    repeat' first | apply Fr.refl | assumption | apply Fr.ite | apply Fr.next State.modMem_fr | refine Fr.snd ‹_ = (_, _)› ?_ | refine Fr.fst ‹_ = (_, _)› ?_ | refine Fr.snd2 ‹_ = (_, _, _)› ?_ | refine Fr.via (by assumption) ?_ | split
  all_goals first | rfl | exact Fr.refl

theorem State.serve_fr {s a1 a2 a3} : Fr 83886593 s (State.serve s a1 a2 a3) := by
  unfold State.serve
  with_reducible
    repeat' first | apply Fr.refl | assumption | ((try lift_lets -underBinder); intro (x : State); refine (fun h => ?_ : Fr 83886593 s x → _) ?_; clear_value x; rotate_left; subst x) | apply Fr.ite | apply Fr.next State.modMem_fr | apply Fr.next State.openFor_fr | apply Fr.next State.hbmWr_fr | apply Fr.next State.returnData_fr | apply Fr.next State.corrected_fr | refine Fr.snd ‹_ = (_, _)› ?_ | refine Fr.fst ‹_ = (_, _)› ?_ | refine Fr.snd2 ‹_ = (_, _, _)› ?_ | refine Fr.via (by assumption) ?_ | split
  all_goals first | rfl | exact Fr.refl

theorem State.retryDone_fr {s a1 a2 a3} : Fr 201336577 s (State.retryDone s a1 a2 a3) := by
  unfold State.retryDone
  with_reducible
    repeat' first | apply Fr.refl | assumption | ((try lift_lets -underBinder); intro (x : State); refine (fun h => ?_ : Fr 201336577 s x → _) ?_; clear_value x; rotate_left; subst x) | apply Fr.ite | apply Fr.next State.modMem_fr | apply Fr.next State.uncorrectable_fr | apply Fr.next State.returnData_fr | apply Fr.next State.corrected_fr | refine Fr.snd ‹_ = (_, _)› ?_ | refine Fr.fst ‹_ = (_, _)› ?_ | refine Fr.snd2 ‹_ = (_, _, _)› ?_ | refine Fr.via (by assumption) ?_ | split
  all_goals first | rfl | exact Fr.refl

theorem State.memDrain_fr {s} : Fr 218113793 s (State.memDrain s) := by
  unfold State.memDrain
  with_reducible
    repeat' first | apply Fr.refl | assumption | ((try lift_lets -underBinder); intro (x : State); refine (fun h => ?_ : Fr 218113793 s x → _) ?_; clear_value x; rotate_left; subst x) | apply Fr.ite | refine Fr.each ?_ (fun s _ => ?_) | apply Fr.next State.rtGrant_fr | apply Fr.next State.rtDone_fr | apply Fr.next State.serve_fr | apply Fr.next State.retryDone_fr | refine Fr.snd ‹_ = (_, _)› ?_ | refine Fr.fst ‹_ = (_, _)› ?_ | refine Fr.snd2 ‹_ = (_, _, _)› ?_ | refine Fr.via (by assumption) ?_ | split
  all_goals first | rfl | exact Fr.refl

theorem State.memRequest_fr {s a1} : Fr 134218497 s (State.memRequest s a1) := by
  unfold State.memRequest
  with_reducible
    repeat' first | apply Fr.refl | assumption | ((try lift_lets -underBinder); intro x; clear_value x) | apply Fr.ite | apply Fr.next State.modMem_fr | apply Fr.next State.addrError_fr | refine Fr.snd ‹_ = (_, _)› ?_ | refine Fr.fst ‹_ = (_, _)› ?_ | refine Fr.snd2 ‹_ = (_, _, _)› ?_ | refine Fr.via (by assumption) ?_ | split
  all_goals first | rfl | exact Fr.refl

theorem State.nrRun_fr {s a1 a2} : Fr 513 s (State.nrRun s a1 a2) := by
  unfold State.nrRun
  with_reducible
    repeat' first | apply Fr.refl | assumption | ((try lift_lets -underBinder); intro x; clear_value x) | apply Fr.ite | apply Fr.next State.bump_fr | apply Fr.next State.modMem_fr | refine Fr.snd ‹_ = (_, _)› ?_ | refine Fr.fst ‹_ = (_, _)› ?_ | refine Fr.snd2 ‹_ = (_, _, _)› ?_ | refine Fr.via (by assumption) ?_ | split
  all_goals first | rfl | exact Fr.refl

theorem State.postpone_fr {s a1 a2} : Fr 512 s (State.postpone s a1 a2) := by
  unfold State.postpone
  with_reducible
    repeat' first | apply Fr.refl | assumption | ((try lift_lets -underBinder); intro x; clear_value x) | apply Fr.ite | apply Fr.next State.modMem_fr | refine Fr.snd ‹_ = (_, _)› ?_ | refine Fr.fst ‹_ = (_, _)› ?_ | refine Fr.snd2 ‹_ = (_, _, _)› ?_ | refine Fr.via (by assumption) ?_ | split
  all_goals first | rfl | exact Fr.refl

theorem State.readFault_fr {s a n c t} (h : State.readFault s a n c = some t) : Fr 201336577 s t := by
  unfold State.readFault at h
  split at h
  · rw [← Option.some.inj h]
    exact Fr.mono State.addrError_fr rfl
  · obtain ⟨k, -, hk⟩ := Option.map_eq_some_iff.1 h
    rw [← hk]
    exact Fr.mono State.uncorrectable_fr rfl

theorem State.refreshBank_fr {s a1 a2} : Fr 512 s (State.refreshBank s a1 a2) := by
  unfold State.refreshBank
  with_reducible
    repeat' first | apply Fr.refl | assumption | ((try lift_lets -underBinder); intro x; clear_value x) | apply Fr.ite | apply Fr.next State.modMem_fr | refine Fr.snd ‹_ = (_, _)› ?_ | refine Fr.fst ‹_ = (_, _)› ?_ | refine Fr.snd2 ‹_ = (_, _, _)› ?_ | refine Fr.via (by assumption) ?_ | split
  all_goals first | rfl | exact Fr.refl

theorem State.rtRead_fr {s a1} : Fr 201336577 s (State.rtRead s a1) := by
  unfold State.rtRead
  with_reducible
    repeat' first | apply Fr.refl | assumption | ((try lift_lets -underBinder); intro (x : State); refine (fun h => ?_ : Fr 201336577 s x → _) ?_; clear_value x; rotate_left; subst x) | apply Fr.ite | apply Fr.next State.addrError_fr | refine Fr.each ?_ (fun s _ => ?_) | apply Fr.next State.uncorrectable_fr | refine Fr.snd ‹_ = (_, _)› ?_ | refine Fr.fst ‹_ = (_, _)› ?_ | refine Fr.snd2 ‹_ = (_, _, _)› ?_ | refine Fr.via (by assumption) ?_ | split
  all_goals first | rfl | exact Fr.refl

theorem State.seal_fr {s} : Fr 218113793 s (State.seal s) := by
  unfold State.seal
  with_reducible
    repeat' first | apply Fr.refl | assumption | ((try lift_lets -underBinder); intro (x : State); refine (fun h => ?_ : Fr 218113793 s x → _) ?_; clear_value x; rotate_left; subst x) | apply Fr.ite | apply Fr.next State.memDrain_fr | apply Fr.next State.modMem_fr | apply Fr.next State.event_fr | apply Fr.next State.wr_fr | refine Fr.snd ‹_ = (_, _)› ?_ | refine Fr.fst ‹_ = (_, _)› ?_ | refine Fr.snd2 ‹_ = (_, _, _)› ?_ | refine Fr.via (by assumption) ?_ | split
  all_goals first | rfl | exact Fr.refl

theorem State.selfRefresh_fr {s a1} : Fr 513 s (State.selfRefresh s a1) := by
  unfold State.selfRefresh
  with_reducible
    repeat' first | apply Fr.refl | assumption | apply Fr.ite | apply Fr.next State.wr_fr | apply Fr.next State.modMem_fr | refine Fr.snd ‹_ = (_, _)› ?_ | refine Fr.fst ‹_ = (_, _)› ?_ | refine Fr.snd2 ‹_ = (_, _, _)› ?_ | refine Fr.via (by assumption) ?_ | split
  all_goals first | rfl | exact Fr.refl

theorem State.srExit_fr {s} : Fr 134218497 s (State.srExit s) := by
  unfold State.srExit
  with_reducible
    repeat' first | apply Fr.refl | assumption | ((try lift_lets -underBinder); intro (x : State); refine (fun h => ?_ : Fr 134218497 s x → _) ?_; clear_value x; rotate_left; subst x) | ((try lift_lets -underBinder); intro x; clear_value x) | apply Fr.ite | apply Fr.next State.modMem_fr | refine Fr.each ?_ (fun s _ => ?_) | apply Fr.next State.memRequest_fr | apply Fr.next State.wr_fr | refine Fr.snd ‹_ = (_, _)› ?_ | refine Fr.fst ‹_ = (_, _)› ?_ | refine Fr.snd2 ‹_ = (_, _, _)› ?_ | refine Fr.via (by assumption) ?_ | split
  all_goals first | rfl | exact Fr.refl

theorem execAgePromotion_fr {a0 s} : FrO 513 s (execAgePromotion a0 s) := by
  unfold execAgePromotion
  with_reducible
    repeat' first | apply FrO.next | apply FrO.ite | apply Fr.refl | assumption | apply Fr.ite | apply Fr.next State.bump_fr | apply Fr.next State.modMem_fr | refine Fr.snd ‹_ = (_, _)› ?_ | refine Fr.fst ‹_ = (_, _)› ?_ | refine Fr.snd2 ‹_ = (_, _, _)› ?_ | refine Fr.via (by assumption) ?_ | split
  all_goals first | rfl | exact Fr.refl

theorem execBankRefresh_fr {a0 s} : FrO 512 s (execBankRefresh a0 s) := by
  unfold execBankRefresh
  with_reducible
    repeat' first | apply FrO.next | apply FrO.ite | apply Fr.refl | assumption | ((try lift_lets -underBinder); intro x; clear_value x) | apply Fr.ite | apply Fr.next State.refreshBank_fr | refine Fr.each ?_ (fun s _ => ?_) | apply Fr.next State.postpone_fr | refine Fr.snd ‹_ = (_, _)› ?_ | refine Fr.fst ‹_ = (_, _)› ?_ | refine Fr.snd2 ‹_ = (_, _, _)› ?_ | refine Fr.via (by assumption) ?_ | split
  all_goals first | rfl | exact Fr.refl

theorem execCorRateCheck_fr {a0 s} : FrO 134218497 s (execCorRateCheck a0 s) := by
  unfold execCorRateCheck
  with_reducible
    repeat' first | apply FrO.next | apply FrO.ite | apply Fr.refl | assumption | apply Fr.ite | apply Fr.next State.modMem_fr | apply Fr.next State.logc_fr | apply Fr.next State.event_fr | refine Fr.snd ‹_ = (_, _)› ?_ | refine Fr.fst ‹_ = (_, _)› ?_ | refine Fr.snd2 ‹_ = (_, _, _)› ?_ | refine Fr.via (by assumption) ?_ | split
  all_goals first | rfl | exact Fr.refl

theorem execEccRetry_fr {a0 a1 s} : FrO 201336577 s (execEccRetry a0 a1 s) := by
  unfold execEccRetry
  with_reducible
    repeat' first | apply FrO.next | apply FrO.ite | apply Fr.refl | assumption | apply Fr.ite | apply Fr.next State.retryDone_fr | refine Fr.snd ‹_ = (_, _)› ?_ | refine Fr.fst ‹_ = (_, _)› ?_ | refine Fr.snd2 ‹_ = (_, _, _)› ?_ | refine Fr.via (by assumption) ?_ | split
  all_goals first | rfl | exact Fr.refl

theorem execMemoryRequest_fr {a0 a1 a2 a3 a4 s} : FrO 134218497 s (execMemoryRequest a0 a1 a2 a3 a4 s) := by
  unfold execMemoryRequest
  with_reducible
    repeat' first | apply FrO.next | apply FrO.ite | apply Fr.refl | assumption | apply Fr.ite | apply Fr.next State.memRequest_fr | refine Fr.snd ‹_ = (_, _)› ?_ | refine Fr.fst ‹_ = (_, _)› ?_ | refine Fr.snd2 ‹_ = (_, _, _)› ?_ | refine Fr.via (by assumption) ?_ | split
  all_goals first | rfl | exact Fr.refl

theorem execMemoryResponse_fr {a0 a1 a2 a3 s} : FrO 218113793 s (execMemoryResponse a0 a1 a2 a3 s) := by
  unfold execMemoryResponse
  with_reducible
    repeat' first | apply FrO.next | apply FrO.ite | apply Fr.refl | assumption | apply Fr.ite | apply Fr.next State.rtDone_fr | apply Fr.next State.serve_fr | refine Fr.snd ‹_ = (_, _)› ?_ | refine Fr.fst ‹_ = (_, _)› ?_ | refine Fr.snd2 ‹_ = (_, _, _)› ?_ | refine Fr.via (by assumption) ?_ | split
  all_goals first | rfl | exact Fr.refl

theorem execNeighbourRefresh_fr {a0 s} : FrO 513 s (execNeighbourRefresh a0 s) := by
  unfold execNeighbourRefresh
  with_reducible
    repeat' first | apply FrO.next | apply FrO.ite | apply Fr.refl | assumption | apply Fr.ite | apply Fr.next State.nrRun_fr | apply Fr.next State.modMem_fr | refine Fr.snd ‹_ = (_, _)› ?_ | refine Fr.fst ‹_ = (_, _)› ?_ | refine Fr.snd2 ‹_ = (_, _, _)› ?_ | refine Fr.via (by assumption) ?_ | split
  all_goals first | rfl | exact Fr.refl

theorem execRdTableClear_fr {s} : FrO 512 s (execRdTableClear s) := by
  unfold execRdTableClear
  with_reducible
    repeat' first | apply FrO.next | apply FrO.ite | apply Fr.refl | assumption | apply Fr.ite | apply Fr.next State.modMem_fr | refine Fr.snd ‹_ = (_, _)› ?_ | refine Fr.fst ‹_ = (_, _)› ?_ | refine Fr.snd2 ‹_ = (_, _, _)› ?_ | refine Fr.via (by assumption) ?_ | split
  all_goals first | rfl | exact Fr.refl

theorem execRealtimeGrant_fr {a0 s} : FrO 16777729 s (execRealtimeGrant a0 s) := by
  unfold execRealtimeGrant
  with_reducible
    repeat' first | apply FrO.next | apply FrO.ite | apply Fr.refl | assumption | ((try lift_lets -underBinder); intro (x : State); refine (fun h => ?_ : Fr 16777729 s x → _) ?_; clear_value x; rotate_left; subst x) | apply Fr.ite | apply Fr.next State.linkTurn_fr | apply Fr.next State.rtGrant_fr | apply Fr.next State.lend_fr | refine Fr.snd ‹_ = (_, _)› ?_ | refine Fr.fst ‹_ = (_, _)› ?_ | refine Fr.snd2 ‹_ = (_, _, _)› ?_ | refine Fr.via (by assumption) ?_ | split
  all_goals first | rfl | exact Fr.refl

theorem execRefreshForced_fr {a0 a1 s} : FrO 134218497 s (execRefreshForced a0 a1 s) := by
  unfold execRefreshForced
  with_reducible
    repeat' first | apply FrO.next | apply FrO.ite | apply Fr.refl | assumption | apply Fr.ite | apply Fr.next State.logc_fr | apply Fr.next State.event_fr | apply Fr.next State.refreshBank_fr | refine Fr.snd ‹_ = (_, _)› ?_ | refine Fr.fst ‹_ = (_, _)› ?_ | refine Fr.snd2 ‹_ = (_, _, _)› ?_ | refine Fr.via (by assumption) ?_ | split
  all_goals first | rfl | exact Fr.refl

theorem execRoundBoundary_fr {s} : FrO 515 s (execRoundBoundary s) := by
  unfold execRoundBoundary
  with_reducible
    repeat' first | apply FrO.next | apply FrO.ite | apply Fr.refl | assumption | ((try lift_lets -underBinder); intro (x : State); refine (fun h => ?_ : Fr 515 s x → _) ?_; clear_value x; rotate_left; subst x) | apply Fr.ite | apply Fr.next State.latch_fr | apply Fr.next State.modMem_fr | apply Fr.next State.wrEff_fr | apply Fr.next State.wr_fr | apply Fr.next State.wrB_fr | refine Fr.snd ‹_ = (_, _)› ?_ | refine Fr.fst ‹_ = (_, _)› ?_ | refine Fr.snd2 ‹_ = (_, _, _)› ?_ | refine Fr.via (by assumption) ?_ | split
  all_goals first | rfl | exact Fr.refl

theorem execScrubRead_fr {a0 a1 s} : FrO 220201729 s (execScrubRead a0 a1 s) := by
  unfold execScrubRead
  with_reducible
    repeat' first | apply FrO.next | apply FrO.ite | apply Fr.refl | assumption | apply Fr.ite | apply Fr.next State.serve_fr | apply Fr.next State.modMem_fr | apply Fr.next State.wr_fr | apply Fr.next State.count_fr | apply Fr.next State.bump_fr | refine Fr.snd ‹_ = (_, _)› ?_ | refine Fr.fst ‹_ = (_, _)› ?_ | refine Fr.snd2 ‹_ = (_, _, _)› ?_ | refine Fr.via (by assumption) ?_ | split
  all_goals first | rfl | exact Fr.refl

theorem execSelfRefreshEntry_fr {a0 s} : FrO 513 s (execSelfRefreshEntry a0 s) := by
  unfold execSelfRefreshEntry
  with_reducible
    repeat' first | apply FrO.next | apply FrO.ite | apply Fr.refl | assumption | apply Fr.ite | apply Fr.next State.selfRefresh_fr | refine Fr.snd ‹_ = (_, _)› ?_ | refine Fr.fst ‹_ = (_, _)› ?_ | refine Fr.snd2 ‹_ = (_, _, _)› ?_ | refine Fr.via (by assumption) ?_ | split
  all_goals first | rfl | exact Fr.refl

theorem execSelfRefreshSeal_fr {s} : FrO 218113793 s (execSelfRefreshSeal s) := by
  unfold execSelfRefreshSeal
  with_reducible
    repeat' first | apply FrO.next | apply FrO.ite | apply Fr.refl | assumption | apply Fr.ite | apply Fr.next State.seal_fr | refine Fr.snd ‹_ = (_, _)› ?_ | refine Fr.fst ‹_ = (_, _)› ?_ | refine Fr.snd2 ‹_ = (_, _, _)› ?_ | refine Fr.via (by assumption) ?_ | split
  all_goals first | rfl | exact Fr.refl

theorem wrRdCtl_fr {a0 a1 s} : Fr 134217985 s (wrRdCtl a0 a1 s).2 := by
  unfold wrRdCtl
  with_reducible
    repeat' first | apply Fr.refl | assumption | ((try lift_lets -underBinder); intro (x : State); refine (fun h => ?_ : Fr 134217985 s x → _) ?_; clear_value x; rotate_left; subst x) | ((try lift_lets -underBinder); intro x; clear_value x) | apply Fr.ite | apply Fr.ite2 | apply Fr.next State.wr_fr | apply Fr.next okW_fr | apply Fr.next ignCode_fr | refine Fr.snd ‹_ = (_, _)› ?_ | refine Fr.fst ‹_ = (_, _)› ?_ | refine Fr.snd2 ‹_ = (_, _, _)› ?_ | refine Fr.via (by assumption) ?_ | split
  all_goals first | rfl | exact Fr.refl

theorem wrRtCtl_fr {a0 a1 s} : Fr 134218497 s (wrRtCtl a0 a1 s).2 := by
  unfold wrRtCtl
  with_reducible
    repeat' first | apply Fr.refl | assumption | ((try lift_lets -underBinder); intro x; clear_value x) | apply Fr.ite | apply Fr.ite2 | apply Fr.next okW_fr | apply Fr.next State.modMem_fr | apply Fr.next State.wrB_fr | apply Fr.next State.wr_fr | apply Fr.next ignCode_fr | refine Fr.snd ‹_ = (_, _)› ?_ | refine Fr.fst ‹_ = (_, _)› ?_ | refine Fr.snd2 ‹_ = (_, _, _)› ?_ | refine Fr.via (by assumption) ?_ | split
  all_goals first | rfl | exact Fr.refl

theorem wrXlate_fr {a0 a1 s} : Fr 1 s (wrXlate a0 a1 s).2 := by
  unfold wrXlate
  with_reducible
    repeat' first | apply Fr.refl | assumption | ((try lift_lets -underBinder); intro (x : State); refine (fun h => ?_ : Fr 1 s x → _) ?_; clear_value x; rotate_left; subst x) | apply Fr.ite | apply Fr.ite2 | apply Fr.next State.plainWrite_fr | apply Fr.next okW_fr | apply Fr.next State.wr_fr | refine Fr.snd ‹_ = (_, _)› ?_ | refine Fr.fst ‹_ = (_, _)› ?_ | refine Fr.snd2 ‹_ = (_, _, _)› ?_ | refine Fr.via (by assumption) ?_ | split
  all_goals first | rfl | exact Fr.refl

end Sys2Proof.Machine
end

