-- ==== Sys2Proof/Laws/FrameIngest.lean ====
section
/-! SUPPORT. The frame of every operation of Machine/Ingest.lean. -/

namespace Sys2Proof.Machine

set_option linter.unusedTactic false
set_option linter.unreachableTactic false

theorem State.mirror_fr {s a1} : Fr 1048576 s (State.mirror s a1) := by
  unfold State.mirror
  with_reducible
    repeat' first | apply Fr.refl | assumption | apply Fr.ite | apply Fr.next State.modLeaf_fr | refine Fr.snd ‹_ = (_, _)› ?_ | refine Fr.fst ‹_ = (_, _)› ?_ | refine Fr.snd2 ‹_ = (_, _, _)› ?_ | refine Fr.via (by assumption) ?_ | split
  all_goals first | rfl | exact Fr.refl

theorem State.applySet_fr {s a1 a2} : Fr 1049601 s (State.applySet s a1 a2) := by
  unfold State.applySet
  with_reducible
    repeat' first | apply Fr.refl | assumption | ((try lift_lets -underBinder); intro (x : State); refine (fun h => ?_ : Fr 1049601 s x → _) ?_; clear_value x; rotate_left; subst x) | ((try lift_lets -underBinder); intro x; clear_value x) | apply Fr.ite | apply Fr.next State.modScene_fr | apply Fr.next State.wr_fr | apply Fr.next State.mirror_fr | refine Fr.snd ‹_ = (_, _)› ?_ | refine Fr.fst ‹_ = (_, _)› ?_ | refine Fr.snd2 ‹_ = (_, _, _)› ?_ | refine Fr.via (by assumption) ?_ | split
  all_goals first | rfl | exact Fr.refl

theorem State.applyDue_fr {s a1 a2} : Fr 1049601 s (State.applyDue s a1 a2) := by
  induction a2 generalizing s a1 with
  | nil =>
    (unfold State.applyDue)
    with_reducible
      repeat' first | apply Fr.refl | assumption | apply Fr.ite | apply Fr.next State.modScene_fr | apply Fr.next State.applySet_fr | refine Fr.snd ‹_ = (_, _)› ?_ | refine Fr.fst ‹_ = (_, _)› ?_ | refine Fr.snd2 ‹_ = (_, _, _)› ?_ | refine Fr.via (by assumption) ?_ | split
    all_goals rfl
  | cons x xs ih =>
    (unfold State.applyDue)
    with_reducible
      repeat' first | apply Fr.refl | assumption | apply Fr.next ih | apply Fr.ite | apply Fr.next State.modScene_fr | apply Fr.next State.applySet_fr | refine Fr.snd ‹_ = (_, _)› ?_ | refine Fr.fst ‹_ = (_, _)› ?_ | refine Fr.snd2 ‹_ = (_, _, _)› ?_ | refine Fr.via (by assumption) ?_ | split
    all_goals rfl

theorem State.editSts_fr {s} : Fr 1 s (State.editSts s) := by
  unfold State.editSts
  with_reducible
    repeat' first | apply Fr.refl | assumption | apply Fr.ite | apply Fr.next State.wrB_fr | apply Fr.next State.wr_fr | refine Fr.snd ‹_ = (_, _)› ?_ | refine Fr.fst ‹_ = (_, _)› ?_ | refine Fr.snd2 ‹_ = (_, _, _)› ?_ | refine Fr.via (by assumption) ?_ | split
  all_goals first | rfl | exact Fr.refl

theorem State.applyEdits_fr {s a1} : Fr 1049601 s (State.applyEdits s a1) := by
  unfold State.applyEdits
  with_reducible
    repeat' first | apply Fr.refl | assumption | apply Fr.ite | apply Fr.next State.editSts_fr | apply Fr.next State.modScene_fr | apply Fr.next State.applyDue_fr | refine Fr.snd ‹_ = (_, _)› ?_ | refine Fr.fst ‹_ = (_, _)› ?_ | refine Fr.snd2 ‹_ = (_, _, _)› ?_ | refine Fr.via (by assumption) ?_ | split
  all_goals first | rfl | exact Fr.refl

theorem State.commitCount_fr {s} : Fr 1 s (State.commitCount s) := by
  unfold State.commitCount
  with_reducible
    repeat' first | apply Fr.refl | assumption | apply Fr.ite | apply Fr.next State.bump_fr | apply Fr.next State.wr_fr | refine Fr.snd ‹_ = (_, _)› ?_ | refine Fr.fst ‹_ = (_, _)› ?_ | refine Fr.snd2 ‹_ = (_, _, _)› ?_ | refine Fr.via (by assumption) ?_ | split
  all_goals first | rfl | exact Fr.refl

theorem State.swapCells_fr {s a1 a2 a3 a4 a5} : Fr 5120 s (State.swapCells s a1 a2 a3 a4 a5) := by
  unfold State.swapCells
  with_reducible
    repeat' first | apply Fr.refl | assumption | ((try lift_lets -underBinder); intro (x : State); refine (fun h => ?_ : Fr 5120 s x → _) ?_; clear_value x; rotate_left; subst x) | apply Fr.ite | apply Fr.next State.modScene_fr | apply Fr.next State.modWv_fr | refine Fr.foldl (fun s _ => ?_) _ ?_ | refine Fr.snd ‹_ = (_, _)› ?_ | refine Fr.fst ‹_ = (_, _)› ?_ | refine Fr.snd2 ‹_ = (_, _, _)› ?_ | refine Fr.via (by assumption) ?_ | split
  all_goals first | rfl | exact Fr.refl

theorem State.reserveSts_fr {s} : Fr 1 s (State.reserveSts s) := by
  unfold State.reserveSts
  with_reducible
    repeat' first | apply Fr.refl | assumption | apply Fr.ite | refine Fr.each ?_ (fun s _ => ?_) | apply Fr.next State.wr_fr | refine Fr.snd ‹_ = (_, _)› ?_ | refine Fr.fst ‹_ = (_, _)› ?_ | refine Fr.snd2 ‹_ = (_, _, _)› ?_ | refine Fr.via (by assumption) ?_ | split
  all_goals first | rfl | exact Fr.refl

theorem State.setUpd_fr {s a1 a2} : Fr 1024 s (State.setUpd s a1 a2) := by
  unfold State.setUpd
  with_reducible
    repeat' first | apply Fr.refl | assumption | apply Fr.ite | apply Fr.next State.modScene_fr | refine Fr.snd ‹_ = (_, _)› ?_ | refine Fr.fst ‹_ = (_, _)› ?_ | refine Fr.snd2 ‹_ = (_, _, _)› ?_ | refine Fr.via (by assumption) ?_ | split
  all_goals first | rfl | exact Fr.refl

theorem State.endUpdate_fr {s a1} : Fr 5121 s (State.endUpdate s a1) := by
  unfold State.endUpdate
  with_reducible
    repeat' first | apply Fr.refl | assumption | ((try lift_lets -underBinder); intro (x : State); refine (fun h => ?_ : Fr 5121 s x → _) ?_; clear_value x; rotate_left; subst x) | apply Fr.ite | apply Fr.next State.wr_fr | apply Fr.next State.modScene_fr | apply Fr.next State.reserveSts_fr | apply Fr.next State.modWv_fr | apply Fr.next State.setUpd_fr | refine Fr.snd ‹_ = (_, _)› ?_ | refine Fr.fst ‹_ = (_, _)› ?_ | refine Fr.snd2 ‹_ = (_, _, _)› ?_ | refine Fr.via (by assumption) ?_ | split
  all_goals first | rfl | exact Fr.refl

theorem State.commitMark_fr {s a1 a2 a3} : Fr 13313 s (State.commitMark s a1 a2 a3) := by
  unfold State.commitMark
  with_reducible
    repeat' first | apply Fr.refl | assumption | ((try lift_lets -underBinder); intro (x : State); refine (fun h => ?_ : Fr 13313 s x → _) ?_; clear_value x; rotate_left; subst x) | apply Fr.ite | apply Fr.next State.swapCells_fr | apply Fr.next State.resample_fr | apply Fr.next State.endUpdate_fr | apply Fr.next State.commitCount_fr | apply Fr.next State.putEntry_fr | refine Fr.snd ‹_ = (_, _)› ?_ | refine Fr.fst ‹_ = (_, _)› ?_ | refine Fr.snd2 ‹_ = (_, _, _)› ?_ | refine Fr.via (by assumption) ?_ | split
  all_goals first | rfl | exact Fr.refl

theorem State.reject_fr {s a1 a2 a3 a4} : Fr 134217985 s (State.reject s a1 a2 a3 a4) := by
  unfold State.reject
  with_reducible
    repeat' first | apply Fr.refl | assumption | ((try lift_lets -underBinder); intro (x : State); refine (fun h => ?_ : Fr 134217985 s x → _) ?_; clear_value x; rotate_left; subst x) | apply Fr.ite | apply Fr.next State.bump_fr | apply Fr.next State.wr_fr | apply Fr.next State.logOnce_fr | refine Fr.snd ‹_ = (_, _)› ?_ | refine Fr.fst ‹_ = (_, _)› ?_ | refine Fr.snd2 ‹_ = (_, _, _)› ?_ | refine Fr.via (by assumption) ?_ | split
  all_goals first | rfl | exact Fr.refl

theorem State.failUpdate_fr {s a1 a2} : Fr 134223105 s (State.failUpdate s a1 a2) := by
  unfold State.failUpdate
  with_reducible
    repeat' first | apply Fr.refl | assumption | ((try lift_lets -underBinder); intro x; clear_value x) | apply Fr.ite | apply Fr.next State.reject_fr | apply Fr.next State.endUpdate_fr | refine Fr.snd ‹_ = (_, _)› ?_ | refine Fr.fst ‹_ = (_, _)› ?_ | refine Fr.snd2 ‹_ = (_, _, _)› ?_ | refine Fr.via (by assumption) ?_ | split
  all_goals first | rfl | exact Fr.refl

theorem State.commitStep_fr {m s0 s a1 k} (hk : ∀ s x0 x1 x2, Fr m s (k s x0 x1 x2)) (h : Fr m s0 s) (hm : 134223105 &&& m = 134223105) :
    Fr m s0 (State.commitStep s a1 k) := by
  unfold State.commitStep
  with_reducible
    repeat' first | apply Fr.refl | assumption | apply Fr.ite | apply Fr.next State.logOnce_fr | apply Fr.next State.failUpdate_fr | refine Fr.trans ?_ (hk _ _ _ _) | split
  all_goals exact Fr.sub rfl hm

theorem State.commitTile_fr {s a1 a2 a3 a4} : Fr 13313 s (State.commitTile s a1 a2 a3 a4) := by
  unfold State.commitTile
  with_reducible
    repeat' first | apply Fr.refl | assumption | ((try lift_lets -underBinder); intro (x : State); refine (fun h => ?_ : Fr 13313 s x → _) ?_; clear_value x; rotate_left; subst x) | apply Fr.ite | apply Fr.next State.swapCells_fr | apply Fr.next State.resample_fr | apply Fr.next State.endUpdate_fr | apply Fr.next State.commitCount_fr | apply Fr.next State.setDirty_fr | apply Fr.next State.putEntry_fr | refine Fr.snd ‹_ = (_, _)› ?_ | refine Fr.fst ‹_ = (_, _)› ?_ | refine Fr.snd2 ‹_ = (_, _, _)› ?_ | refine Fr.via (by assumption) ?_ | split
  all_goals first | rfl | exact Fr.refl

theorem State.editErr_fr {s a1 a2} : Fr 1 s (State.editErr s a1 a2) := by
  unfold State.editErr
  with_reducible
    repeat' first | apply Fr.refl | assumption | apply Fr.ite | apply Fr.next State.wr_fr | refine Fr.snd ‹_ = (_, _)› ?_ | refine Fr.fst ‹_ = (_, _)› ?_ | refine Fr.snd2 ‹_ = (_, _, _)› ?_ | refine Fr.via (by assumption) ?_ | split
  all_goals first | rfl | exact Fr.refl

theorem State.editFor_fr {s a b t e} (h : State.editFor s a b = some (t, e)) : Fr 134217985 s t := by
  unfold State.editFor at h
  split at h
  · cases h
  · split at h
    · cases h
      exact Fr.refl
    · split at h
      · cases h
        exact Fr.refl
      · split at h
        · cases h
        · cases h
          exact (Fr.mono State.editErr_fr rfl).trans (Fr.mono State.logOnce_fr rfl)

theorem State.serveRing_fr {s a1} : Fr 1024 s (State.serveRing s a1) := by
  unfold State.serveRing
  with_reducible
    repeat' first | apply Fr.refl | assumption | ((try lift_lets -underBinder); intro x; clear_value x) | apply Fr.ite | apply Fr.next State.modScene_fr | refine Fr.snd ‹_ = (_, _)› ?_ | refine Fr.fst ‹_ = (_, _)› ?_ | refine Fr.snd2 ‹_ = (_, _, _)› ?_ | refine Fr.via (by assumption) ?_ | split
  all_goals first | rfl | exact Fr.refl

theorem State.setRingQ_fr {s a1 a2} : Fr 1024 s (State.setRingQ s a1 a2) := by
  unfold State.setRingQ
  with_reducible
    repeat' first | apply Fr.refl | assumption | apply Fr.ite | apply Fr.next State.modScene_fr | refine Fr.snd ‹_ = (_, _)› ?_ | refine Fr.fst ‹_ = (_, _)› ?_ | refine Fr.snd2 ‹_ = (_, _, _)› ?_ | refine Fr.via (by assumption) ?_ | split
  all_goals first | rfl | exact Fr.refl

theorem State.freePkts_fr {s a1 a2} : Fr 1024 s (State.freePkts s a1 a2) := by
  unfold State.freePkts
  with_reducible
    repeat' first | apply Fr.refl | assumption | ((try lift_lets -underBinder); intro x; clear_value x) | apply Fr.ite | apply Fr.next State.setRingQ_fr | refine Fr.snd ‹_ = (_, _)› ?_ | refine Fr.fst ‹_ = (_, _)› ?_ | refine Fr.snd2 ‹_ = (_, _, _)› ?_ | refine Fr.via (by assumption) ?_ | split
  all_goals first | rfl | exact Fr.refl

theorem State.failGather_fr {s a1 a2} : Fr 134219009 s (State.failGather s a1 a2) := by
  unfold State.failGather
  with_reducible
    repeat' first | apply Fr.refl | assumption | apply Fr.ite | apply Fr.next State.reject_fr | apply Fr.next State.setUpd_fr | apply Fr.next State.freePkts_fr | refine Fr.snd ‹_ = (_, _)› ?_ | refine Fr.fst ‹_ = (_, _)› ?_ | refine Fr.snd2 ‹_ = (_, _, _)› ?_ | refine Fr.via (by assumption) ?_ | split
  all_goals first | rfl | exact Fr.refl

theorem State.pktFault_fr {s a1 a2 a3} : Fr 201336577 s (State.pktFault s a1 a2 a3) := by
  unfold State.pktFault
  with_reducible
    repeat' first | apply Fr.refl | assumption | ((try lift_lets -underBinder); intro x; clear_value x) | apply Fr.ite | refine Fr.each ?_ (fun s _ => ?_) | apply Fr.next State.uncorrectable_fr | refine Fr.snd ‹_ = (_, _)› ?_ | refine Fr.fst ‹_ = (_, _)› ?_ | refine Fr.snd2 ‹_ = (_, _, _)› ?_ | refine Fr.via (by assumption) ?_ | split
  all_goals first | rfl | exact Fr.refl

theorem State.engine_fr {m s0 s a1 a2 k} (hk : ∀ s x0 x1, Fr m s (k s x0 x1)) (h : Fr m s0 s) (hm : 201336577 &&& m = 201336577) :
    Fr m s0 (State.engine s a1 a2 k) := by
  unfold State.engine
  with_reducible
    repeat' first | apply Fr.refl | assumption | ((try lift_lets -underBinder); intro (x : State); refine (fun h => ?_ : Fr m s0 x → _) ?_; clear_value x; rotate_left; subst x) | ((try lift_lets -underBinder); intro x; clear_value x) | apply Fr.ite | apply Fr.next State.serveRing_fr | apply Fr.next State.failGather_fr | apply Fr.next State.pktFault_fr | apply Fr.next State.bump_fr | apply Fr.next State.freePkts_fr | refine Fr.trans ?_ (hk _ _ _) | split
  all_goals exact Fr.sub rfl hm

theorem State.failEdit_fr {s a1 a2 a3} : Fr 134219009 s (State.failEdit s a1 a2 a3) := by
  unfold State.failEdit
  with_reducible
    repeat' first | apply Fr.refl | assumption | apply Fr.ite | apply Fr.next State.editSts_fr | apply Fr.next State.reject_fr | apply Fr.next State.editErr_fr | apply Fr.next State.freePkts_fr | refine Fr.snd ‹_ = (_, _)› ?_ | refine Fr.fst ‹_ = (_, _)› ?_ | refine Fr.snd2 ‹_ = (_, _, _)› ?_ | refine Fr.via (by assumption) ?_ | split
  all_goals first | rfl | exact Fr.refl

theorem State.tagFail_fr {s a1 a2} : Fr 1 s (State.tagFail s a1 a2) := by
  unfold State.tagFail
  with_reducible
    repeat' first | apply Fr.refl | assumption | apply Fr.ite | apply Fr.next State.wr_fr | apply Fr.next State.bump_fr | refine Fr.snd ‹_ = (_, _)› ?_ | refine Fr.fst ‹_ = (_, _)› ?_ | refine Fr.snd2 ‹_ = (_, _, _)› ?_ | refine Fr.via (by assumption) ?_ | split
  all_goals first | rfl | exact Fr.refl

theorem State.failPkt_fr {s a1 a2 a3 a4} : Fr 134219009 s (State.failPkt s a1 a2 a3 a4) := by
  unfold State.failPkt
  with_reducible
    repeat' first | apply Fr.refl | assumption | ((try lift_lets -underBinder); intro x; clear_value x) | apply Fr.ite | apply Fr.next State.reject_fr | apply Fr.next State.tagFail_fr | apply Fr.next State.setUpd_fr | apply Fr.next State.freePkts_fr | refine Fr.snd ‹_ = (_, _)› ?_ | refine Fr.fst ‹_ = (_, _)› ?_ | refine Fr.snd2 ‹_ = (_, _, _)› ?_ | refine Fr.via (by assumption) ?_ | split
  all_goals first | rfl | exact Fr.refl

theorem State.ingestWarm_fr {s} : Fr 5121 s (State.ingestWarm s) := by
  unfold State.ingestWarm
  with_reducible
    repeat' first | apply Fr.refl | assumption | ((try lift_lets -underBinder); intro (x : State); refine (fun h => ?_ : Fr 5121 s x → _) ?_; clear_value x; rotate_left; subst x) | ((try lift_lets -underBinder); intro x; have : ∀ s, x s = x s := fun _ => rfl; clear this; subst x) | apply Fr.ite | apply Fr.next State.modScene_fr | apply Fr.next State.dropRegs_fr | apply Fr.next State.modWv_fr | apply Fr.next State.reserveSts_fr | apply Fr.next State.editSts_fr | apply Fr.next State.wr_fr | refine Fr.snd ‹_ = (_, _)› ?_ | refine Fr.fst ‹_ = (_, _)› ?_ | refine Fr.snd2 ‹_ = (_, _, _)› ?_ | refine Fr.via (by assumption) ?_ | split
  all_goals first | rfl | exact Fr.refl

theorem State.mirrorCommit_fr {s a1 a2 a3} : Fr 1048576 s (State.mirrorCommit s a1 a2 a3) := by
  unfold State.mirrorCommit
  with_reducible
    repeat' first | apply Fr.refl | assumption | ((try lift_lets -underBinder); intro x; clear_value x) | apply Fr.ite | apply Fr.next State.mirror_fr | refine Fr.snd ‹_ = (_, _)› ?_ | refine Fr.fst ‹_ = (_, _)› ?_ | refine Fr.snd2 ‹_ = (_, _, _)› ?_ | refine Fr.via (by assumption) ?_ | split
  all_goals first | rfl | exact Fr.refl

theorem State.invalidateCommit_fr {s} : Fr 135279873 s (State.invalidateCommit s) := by
  unfold State.invalidateCommit
  with_reducible
    repeat' first | apply Fr.refl | assumption | apply Fr.ite | refine State.commitStep_fr (hk := fun s _ _ _ => ?_) ?_ ?_ | apply Fr.next State.mirrorCommit_fr | apply Fr.next State.commitMark_fr | refine Fr.snd ‹_ = (_, _)› ?_ | refine Fr.fst ‹_ = (_, _)› ?_ | refine Fr.snd2 ‹_ = (_, _, _)› ?_ | refine Fr.via (by assumption) ?_ | split
  all_goals first | rfl | exact Fr.refl

theorem State.putEntryBytes_fr {s a1 a2 a3} : Fr 201326592 s (State.putEntryBytes s a1 a2 a3) := by
  unfold State.putEntryBytes
  with_reducible
    repeat' first | apply Fr.refl | assumption | ((try lift_lets -underBinder); intro x; clear_value x) | apply Fr.ite | apply Fr.next State.hbmWr_fr | apply Fr.next State.sramWr_fr | refine Fr.snd ‹_ = (_, _)› ?_ | refine Fr.fst ‹_ = (_, _)› ?_ | refine Fr.snd2 ‹_ = (_, _, _)› ?_ | refine Fr.via (by assumption) ?_ | split
  all_goals first | rfl | exact Fr.refl

theorem State.putEntries_fr {s a1 a2 a3 a4} : Fr 201326592 s (State.putEntries s a1 a2 a3 a4) := by
  induction a2 generalizing s a1 a3 a4 with
  | zero =>
    (unfold State.putEntries)
    with_reducible
      repeat' first | apply Fr.refl | ((try lift_lets -underBinder); intro (x : State); refine (fun h => ?_ : Fr 201326592 s x → _) ?_; clear_value x; rotate_left; subst x) | ((try lift_lets -underBinder); intro (x : _ × _ × State); refine (fun h => ?_ : Fr 201326592 s x.2.2 → _) ?_; clear_value x; rotate_left; subst x) | ((try lift_lets -underBinder); intro (x : _ × State); refine (fun h => ?_ : Fr 201326592 s x.2 → _) ?_; clear_value x; rotate_left; subst x) | ((try lift_lets -underBinder); intro (x : State × _); refine (fun h => ?_ : Fr 201326592 s x.1 → _) ?_; clear_value x; rotate_left; subst x) | ((try lift_lets -underBinder); intro (x : State → State); refine (fun h => ?_ : (∀ s, Fr 201326592 s (x s)) → _) ?_; clear_value x; rotate_left; subst x; intro s; (try simp only [])) | ((try lift_lets -underBinder); intro x; have : ∀ s, x s = x s := fun _ => rfl; clear this; subst x) | ((try lift_lets -underBinder); intro x; clear_value x)
    all_goals rfl
  | succ i ih =>
    (unfold State.putEntries)
    with_reducible
      repeat' first | apply Fr.refl | assumption | apply Fr.next ih | apply Fr.ite | apply Fr.next State.putEntryBytes_fr | refine Fr.snd ‹_ = (_, _)› ?_ | refine Fr.fst ‹_ = (_, _)› ?_ | refine Fr.snd2 ‹_ = (_, _, _)› ?_ | refine Fr.via (by assumption) ?_ | split
    all_goals rfl

theorem State.landIn_fr {s a1 a2 a3} : Fr 201327617 s (State.landIn s a1 a2 a3) := by
  unfold State.landIn
  with_reducible
    repeat' first | apply Fr.refl | assumption | ((try lift_lets -underBinder); intro (x : State); refine (fun h => ?_ : Fr 201327617 s x → _) ?_; clear_value x; rotate_left; subst x) | ((try lift_lets -underBinder); intro x; clear_value x) | apply Fr.ite | apply Fr.next State.bump_fr | apply Fr.next State.putEntries_fr | apply Fr.next State.setRingQ_fr | refine Fr.snd ‹_ = (_, _)› ?_ | refine Fr.fst ‹_ = (_, _)› ?_ | refine Fr.snd2 ‹_ = (_, _, _)› ?_ | refine Fr.via (by assumption) ?_ | split
  all_goals first | rfl | exact Fr.refl

theorem State.land_fr {s a1 a2} : Fr 201328129 s (State.land s a1 a2) := by
  unfold State.land
  with_reducible
    repeat' first | apply Fr.refl | assumption | ((try lift_lets -underBinder); intro x; clear_value x) | apply Fr.ite | apply Fr.next State.modMem_fr | apply Fr.next State.bump_fr | apply Fr.next State.landIn_fr | refine Fr.snd ‹_ = (_, _)› ?_ | refine Fr.fst ‹_ = (_, _)› ?_ | refine Fr.snd2 ‹_ = (_, _, _)› ?_ | refine Fr.via (by assumption) ?_ | split
  all_goals first | rfl | exact Fr.refl

theorem State.packetLand_fr {s a1 a2} : Fr 201328129 s (State.packetLand s a1 a2) := by
  unfold State.packetLand
  with_reducible
    repeat' first | apply Fr.refl | assumption | apply Fr.ite | apply Fr.next State.bump_fr | apply Fr.next State.land_fr | refine Fr.snd ‹_ = (_, _)› ?_ | refine Fr.fst ‹_ = (_, _)› ?_ | refine Fr.snd2 ‹_ = (_, _, _)› ?_ | refine Fr.via (by assumption) ?_ | split
  all_goals first | rfl | exact Fr.refl

theorem State.plaitFail_fr {s a1 a2 a3} : Fr 134223105 s (State.plaitFail s a1 a2 a3) := by
  unfold State.plaitFail
  with_reducible
    repeat' first | apply Fr.refl | assumption | ((try lift_lets -underBinder); intro (x : State); refine (fun h => ?_ : Fr 134223105 s x → _) ?_; clear_value x; rotate_left; subst x) | apply Fr.ite | apply Fr.next State.wr_fr | apply Fr.next State.failUpdate_fr | apply Fr.next State.bump_fr | refine Fr.snd ‹_ = (_, _)› ?_ | refine Fr.fst ‹_ = (_, _)› ?_ | refine Fr.snd2 ‹_ = (_, _, _)› ?_ | refine Fr.via (by assumption) ?_ | split
  all_goals first | rfl | exact Fr.refl

theorem State.restampCommit_fr {s} : Fr 135279873 s (State.restampCommit s) := by
  unfold State.restampCommit
  with_reducible
    repeat' first | apply Fr.refl | assumption | apply Fr.ite | refine State.commitStep_fr (hk := fun s _ _ _ => ?_) ?_ ?_ | apply Fr.next State.mirrorCommit_fr | apply Fr.next State.commitMark_fr | apply Fr.next State.failUpdate_fr | refine Fr.snd ‹_ = (_, _)› ?_ | refine Fr.fst ‹_ = (_, _)› ?_ | refine Fr.snd2 ‹_ = (_, _, _)› ?_ | refine Fr.via (by assumption) ?_ | split
  all_goals first | rfl | exact Fr.refl

theorem State.takeClose_fr {a0 s a2 a3} : Fr 134219009 s (State.takeClose a0 s a2 a3) := by
  unfold State.takeClose
  with_reducible
    repeat' first | apply Fr.refl | assumption | ((try lift_lets -underBinder); intro (x : State); refine (fun h => ?_ : Fr 134219009 s x → _) ?_; clear_value x; rotate_left; subst x) | apply Fr.ite | apply Fr.next State.failPkt_fr | apply Fr.next State.bump_fr | apply Fr.next State.failEdit_fr | apply Fr.next (State.editFor_fr (by assumption)) | apply Fr.next State.editSts_fr | apply Fr.next State.modScene_fr | apply Fr.next State.freePkts_fr | refine Fr.snd ‹_ = (_, _)› ?_ | refine Fr.fst ‹_ = (_, _)› ?_ | refine Fr.snd2 ‹_ = (_, _, _)› ?_ | refine Fr.via (by assumption) ?_ | split
  all_goals first | rfl | exact Fr.refl

theorem State.takeEdit_fr {a0 s a2 a3} : Fr 134219009 s (State.takeEdit a0 s a2 a3) := by
  unfold State.takeEdit
  with_reducible
    repeat' first | apply Fr.refl | assumption | ((try lift_lets -underBinder); intro (x : State); refine (fun h => ?_ : Fr 134219009 s x → _) ?_; clear_value x; rotate_left; subst x) | apply Fr.ite | apply Fr.next State.failPkt_fr | apply Fr.next State.bump_fr | apply Fr.next State.failEdit_fr | apply Fr.next (State.editFor_fr (by assumption)) | apply Fr.next State.editSts_fr | apply Fr.next State.modScene_fr | apply Fr.next State.freePkts_fr | refine Fr.snd ‹_ = (_, _)› ?_ | refine Fr.fst ‹_ = (_, _)› ?_ | refine Fr.snd2 ‹_ = (_, _, _)› ?_ | refine Fr.via (by assumption) ?_ | split
  all_goals first | rfl | exact Fr.refl

theorem State.takeMark_fr {a0 a1 s a3 a4} : Fr 134219009 s (State.takeMark a0 a1 s a3 a4) := by
  unfold State.takeMark
  with_reducible
    repeat' first | apply Fr.refl | assumption | apply Fr.ite | apply Fr.next State.failPkt_fr | apply Fr.next State.setUpd_fr | apply Fr.next State.freePkts_fr | apply Fr.next State.bump_fr | refine Fr.snd ‹_ = (_, _)› ?_ | refine Fr.fst ‹_ = (_, _)› ?_ | refine Fr.snd2 ‹_ = (_, _, _)› ?_ | refine Fr.via (by assumption) ?_ | split
  all_goals first | rfl | exact Fr.refl

theorem State.takeTile_fr {a0 s a2 a3} : Fr 134219009 s (State.takeTile a0 s a2 a3) := by
  unfold State.takeTile
  with_reducible
    repeat' first | apply Fr.refl | assumption | ((try lift_lets -underBinder); intro x; clear_value x) | apply Fr.ite | apply Fr.next State.failPkt_fr | apply Fr.next State.setUpd_fr | apply Fr.next State.bump_fr | refine Fr.snd ‹_ = (_, _)› ?_ | refine Fr.fst ‹_ = (_, _)› ?_ | refine Fr.snd2 ‹_ = (_, _, _)› ?_ | refine Fr.via (by assumption) ?_ | split
  all_goals first | rfl | exact Fr.refl

theorem State.tileCommit_fr {s} : Fr 135279873 s (State.tileCommit s) := by
  unfold State.tileCommit
  with_reducible
    repeat' first | apply Fr.refl | assumption | apply Fr.ite | refine State.commitStep_fr (hk := fun s _ _ _ => ?_) ?_ ?_ | apply Fr.next State.mirrorCommit_fr | apply Fr.next State.commitTile_fr | refine Fr.snd ‹_ = (_, _)› ?_ | refine Fr.fst ‹_ = (_, _)› ?_ | refine Fr.snd2 ‹_ = (_, _, _)› ?_ | refine Fr.via (by assumption) ?_ | split
  all_goals first | rfl | exact Fr.refl

theorem State.wrRingAddr_fr {a0 a1 a2 s} : Fr 1 s (State.wrRingAddr a0 a1 a2 s).2 := by
  unfold State.wrRingAddr
  with_reducible
    repeat' first | apply Fr.refl | assumption | ((try lift_lets -underBinder); intro x; clear_value x) | apply Fr.ite | apply Fr.ite2 | apply Fr.next okW_fr | apply Fr.next State.plainWrite_fr | refine Fr.snd ‹_ = (_, _)› ?_ | refine Fr.fst ‹_ = (_, _)› ?_ | refine Fr.snd2 ‹_ = (_, _, _)› ?_ | refine Fr.via (by assumption) ?_ | split
  all_goals first | rfl | exact Fr.refl

theorem State.wrRingCfg_fr {a0 a1 s} : Fr 134219009 s (State.wrRingCfg a0 a1 s).2 := by
  unfold State.wrRingCfg
  with_reducible
    repeat' first | apply Fr.refl | assumption | ((try lift_lets -underBinder); intro (x : State); refine (fun h => ?_ : Fr 134219009 s x → _) ?_; clear_value x; rotate_left; subst x) | ((try lift_lets -underBinder); intro x; clear_value x) | apply Fr.ite | apply Fr.ite2 | apply Fr.next ign28_fr | apply Fr.next State.wr_fr | apply Fr.next okW_fr | apply Fr.next State.setRingQ_fr | refine Fr.snd ‹_ = (_, _)› ?_ | refine Fr.fst ‹_ = (_, _)› ?_ | refine Fr.snd2 ‹_ = (_, _, _)› ?_ | refine Fr.via (by assumption) ?_ | split
  all_goals first | rfl | exact Fr.refl

theorem State.wrStreamRing_fr {a0 a1 s} : Fr 134217985 s (State.wrStreamRing a0 a1 s).2 := by
  unfold State.wrStreamRing
  with_reducible
    repeat' first | apply Fr.refl | assumption | ((try lift_lets -underBinder); intro x; clear_value x) | apply Fr.ite | apply Fr.ite2 | apply Fr.next ign28_fr | apply Fr.next okW_fr | apply Fr.next State.plainWrite_fr | refine Fr.snd ‹_ = (_, _)› ?_ | refine Fr.fst ‹_ = (_, _)› ?_ | refine Fr.snd2 ‹_ = (_, _, _)› ?_ | refine Fr.via (by assumption) ?_ | split
  all_goals first | rfl | exact Fr.refl

theorem State.writeTile_fr {s a1 a2 a3 a4} : Fr 67108864 s (State.writeTile s a1 a2 a3 a4) := by
  unfold State.writeTile
  with_reducible
    repeat' first | apply Fr.refl | assumption | ((try lift_lets -underBinder); intro x; clear_value x) | apply Fr.ite | apply Fr.next State.hbmWr_fr | refine Fr.each ?_ (fun s _ => ?_) | refine Fr.snd ‹_ = (_, _)› ?_ | refine Fr.fst ‹_ = (_, _)› ?_ | refine Fr.snd2 ‹_ = (_, _, _)› ?_ | refine Fr.via (by assumption) ?_ | split
  all_goals first | rfl | exact Fr.refl

theorem execEditSetCheck_fr {s} : FrO 1024 s (execEditSetCheck s) := by
  unfold execEditSetCheck
  with_reducible
    repeat' first | apply FrO.next | apply FrO.ite | apply Fr.refl | assumption | apply Fr.ite | apply Fr.next State.modScene_fr | refine Fr.snd ‹_ = (_, _)› ?_ | refine Fr.fst ‹_ = (_, _)› ?_ | refine Fr.snd2 ‹_ = (_, _, _)› ?_ | refine Fr.via (by assumption) ?_ | split
  all_goals first | rfl | exact Fr.refl

theorem execEditSetCheckDone_fr {s} : FrO 134219009 s (execEditSetCheckDone s) := by
  unfold execEditSetCheckDone
  with_reducible
    repeat' first | apply FrO.next | apply FrO.ite | apply Fr.refl | assumption | ((try lift_lets -underBinder); intro x; clear_value x) | apply Fr.ite | refine Fr.foldl (fun s _ => ?_) _ ?_ | apply Fr.next State.modScene_fr | apply Fr.next State.editSts_fr | apply Fr.next State.reject_fr | apply Fr.next State.editErr_fr | apply Fr.next State.logOnce_fr | refine Fr.snd ‹_ = (_, _)› ?_ | refine Fr.fst ‹_ = (_, _)› ?_ | refine Fr.snd2 ‹_ = (_, _, _)› ?_ | refine Fr.via (by assumption) ?_ | split
  all_goals first | rfl | exact Fr.refl

theorem execEpochSweepDone_fr {s} : FrO 1025 s (execEpochSweepDone s) := by
  unfold execEpochSweepDone
  with_reducible
    repeat' first | apply FrO.next | apply FrO.ite | apply Fr.refl | assumption | apply Fr.ite | apply Fr.next State.editSts_fr | apply Fr.next State.modScene_fr | apply Fr.next State.epochVisit_fr | refine Fr.snd ‹_ = (_, _)› ?_ | refine Fr.fst ‹_ = (_, _)› ?_ | refine Fr.snd2 ‹_ = (_, _, _)› ?_ | refine Fr.via (by assumption) ?_ | split
  all_goals first | rfl | exact Fr.refl

theorem execIngestWrite_fr {a0 s} : FrO 201331969 s (execIngestWrite a0 s) := by
  unfold execIngestWrite
  with_reducible
    repeat' first | apply FrO.next | apply FrO.ite | apply Fr.refl | assumption | ((try lift_lets -underBinder); intro x; clear_value x) | apply Fr.ite | apply Fr.next State.failUpdate_fr | apply Fr.next State.plaitFail_fr | apply Fr.next State.setUpd_fr | refine Fr.each ?_ (fun s _ => ?_) | apply Fr.next State.bump_fr | apply Fr.next State.writeTile_fr | apply Fr.next State.modWv_fr | apply Fr.next State.reserveSts_fr | refine Fr.snd ‹_ = (_, _)› ?_ | refine Fr.fst ‹_ = (_, _)› ?_ | refine Fr.snd2 ‹_ = (_, _, _)› ?_ | refine Fr.via (by assumption) ?_ | split
  all_goals first | rfl | exact Fr.refl

theorem execStageUpdate_fr {a0 s} : FrO 1025 s (execStageUpdate a0 s) := by
  unfold execStageUpdate
  with_reducible
    repeat' first | apply FrO.next | apply FrO.ite | apply Fr.refl | assumption | apply Fr.ite | apply Fr.next State.wr_fr | apply Fr.next State.freePkts_fr | apply Fr.next State.setUpd_fr | apply Fr.next State.modScene_fr | refine Fr.snd ‹_ = (_, _)› ?_ | refine Fr.fst ‹_ = (_, _)› ?_ | refine Fr.snd2 ‹_ = (_, _, _)› ?_ | refine Fr.via (by assumption) ?_ | split
  all_goals first | rfl | exact Fr.refl

theorem execT5Tile_fr {a0 s} : FrO 201336577 s (execT5Tile a0 s) := by
  unfold execT5Tile
  with_reducible
    repeat' first | apply FrO.next | apply FrO.ite | apply Fr.refl | assumption | apply Fr.ite | refine State.engine_fr (hk := fun s _ _ => ?_) ?_ ?_ | apply Fr.next State.takeTile_fr | refine Fr.snd ‹_ = (_, _)› ?_ | refine Fr.fst ‹_ = (_, _)› ?_ | refine Fr.snd2 ‹_ = (_, _, _)› ?_ | refine Fr.via (by assumption) ?_ | split
  all_goals first | rfl | exact Fr.refl

theorem execTstEdit_fr {a0 s} : FrO 201336577 s (execTstEdit a0 s) := by
  unfold execTstEdit
  with_reducible
    repeat' first | apply FrO.next | apply FrO.ite | apply Fr.refl | assumption | apply Fr.ite | refine State.engine_fr (hk := fun s _ _ => ?_) ?_ ?_ | apply Fr.next State.takeEdit_fr | refine Fr.snd ‹_ = (_, _)› ?_ | refine Fr.fst ‹_ = (_, _)› ?_ | refine Fr.snd2 ‹_ = (_, _, _)› ?_ | refine Fr.via (by assumption) ?_ | split
  all_goals first | rfl | exact Fr.refl

theorem execTstEditClose_fr {a0 s} : FrO 201336577 s (execTstEditClose a0 s) := by
  unfold execTstEditClose
  with_reducible
    repeat' first | apply FrO.next | apply FrO.ite | apply Fr.refl | assumption | apply Fr.ite | refine State.engine_fr (hk := fun s _ _ => ?_) ?_ ?_ | apply Fr.next State.takeClose_fr | refine Fr.snd ‹_ = (_, _)› ?_ | refine Fr.fst ‹_ = (_, _)› ?_ | refine Fr.snd2 ‹_ = (_, _, _)› ?_ | refine Fr.via (by assumption) ?_ | split
  all_goals first | rfl | exact Fr.refl

theorem execTstInvalidate_fr {a0 s} : FrO 201336577 s (execTstInvalidate a0 s) := by
  unfold execTstInvalidate
  with_reducible
    repeat' first | apply FrO.next | apply FrO.ite | apply Fr.refl | assumption | apply Fr.ite | refine State.engine_fr (hk := fun s _ _ => ?_) ?_ ?_ | apply Fr.next State.takeMark_fr | refine Fr.snd ‹_ = (_, _)› ?_ | refine Fr.fst ‹_ = (_, _)› ?_ | refine Fr.snd2 ‹_ = (_, _, _)› ?_ | refine Fr.via (by assumption) ?_ | split
  all_goals first | rfl | exact Fr.refl

theorem execTstRestamp_fr {a0 s} : FrO 201336577 s (execTstRestamp a0 s) := by
  unfold execTstRestamp
  with_reducible
    repeat' first | apply FrO.next | apply FrO.ite | apply Fr.refl | assumption | apply Fr.ite | refine State.engine_fr (hk := fun s _ _ => ?_) ?_ ?_ | apply Fr.next State.takeMark_fr | refine Fr.snd ‹_ = (_, _)› ?_ | refine Fr.fst ‹_ = (_, _)› ?_ | refine Fr.snd2 ‹_ = (_, _, _)› ?_ | refine Fr.via (by assumption) ?_ | split
  all_goals first | rfl | exact Fr.refl

theorem execTstTile_fr {a0 s} : FrO 201336577 s (execTstTile a0 s) := by
  unfold execTstTile
  with_reducible
    repeat' first | apply FrO.next | apply FrO.ite | apply Fr.refl | assumption | apply Fr.ite | refine State.engine_fr (hk := fun s _ _ => ?_) ?_ ?_ | apply Fr.next State.takeTile_fr | refine Fr.snd ‹_ = (_, _)› ?_ | refine Fr.fst ‹_ = (_, _)› ?_ | refine Fr.snd2 ‹_ = (_, _, _)› ?_ | refine Fr.via (by assumption) ?_ | split
  all_goals first | rfl | exact Fr.refl

end Sys2Proof.Machine
end

