-- ==== Sys2Proof/Laws/FrameCoilLanes.lean ====
section
/-! SUPPORT. The frame of every operation of Machine/CoilLanes.lean. -/

namespace Sys2Proof.Machine

set_option linter.unusedTactic false
set_option linter.unreachableTactic false

theorem State.coilWarm_fr {s} : Fr 201328641 s (State.coilWarm s) := by
  unfold State.coilWarm
  with_reducible
    repeat' first | apply Fr.refl | assumption | ((try lift_lets -underBinder); intro (x : State); refine (fun h => ?_ : Fr 201328641 s x → _) ?_; clear_value x; rotate_left; subst x) | ((try lift_lets -underBinder); intro x; clear_value x) | apply Fr.ite | apply Fr.next State.clearHbm_fr | apply Fr.next State.modCoil_fr | refine Fr.each ?_ (fun s _ => ?_) | apply Fr.next State.wr_fr | refine Fr.snd ‹_ = (_, _)› ?_ | refine Fr.fst ‹_ = (_, _)› ?_ | refine Fr.snd2 ‹_ = (_, _, _)› ?_ | refine Fr.via (by assumption) ?_ | split
  all_goals first | rfl | exact Fr.refl

theorem State.ctxFault_fr {s a} : Fr 201336577 s ((State.ctxFault s a).getD s) := by
  unfold State.ctxFault
  generalize hf : (s.ctxReads a).findSome? (fun r => s.readFault r.1 r.2 .latency) = o
  cases o with
  | none => exact Fr.refl
  | some t =>
    obtain ⟨r, -, hr⟩ := List.exists_of_findSome?_eq_some hf
    exact State.readFault_fr hr

theorem State.histStore_fr {s a1 a2 a3} : Fr 67108864 s (State.histStore s a1 a2 a3) := by
  induction a3 generalizing s a1 a2 with
  | nil =>
    (unfold State.histStore)
    with_reducible
      repeat' first | apply Fr.refl | assumption | ((try lift_lets -underBinder); intro x; clear_value x) | apply Fr.ite | apply Fr.next State.hbmWr_fr | refine Fr.snd ‹_ = (_, _)› ?_ | refine Fr.fst ‹_ = (_, _)› ?_ | refine Fr.snd2 ‹_ = (_, _, _)› ?_ | refine Fr.via (by assumption) ?_ | split
    all_goals rfl
  | cons x xs ih =>
    (unfold State.histStore)
    with_reducible
      repeat' first | apply Fr.refl | assumption | apply Fr.next ih | ((try lift_lets -underBinder); intro x; clear_value x) | apply Fr.ite | apply Fr.next State.hbmWr_fr | refine Fr.snd ‹_ = (_, _)› ?_ | refine Fr.fst ‹_ = (_, _)› ?_ | refine Fr.snd2 ‹_ = (_, _, _)› ?_ | refine Fr.via (by assumption) ?_ | split
    all_goals rfl

theorem State.ctxStore_fr {s a1 a2} : Fr 67108864 s (State.ctxStore s a1 a2) := by
  unfold State.ctxStore
  with_reducible
    repeat' first | apply Fr.refl | assumption | ((try lift_lets -underBinder); intro x; clear_value x) | apply Fr.ite | apply Fr.next State.hbmWr_fr | apply Fr.next State.histStore_fr | refine Fr.snd ‹_ = (_, _)› ?_ | refine Fr.fst ‹_ = (_, _)› ?_ | refine Fr.snd2 ‹_ = (_, _, _)› ?_ | refine Fr.via (by assumption) ?_ | split
  all_goals first | rfl | exact Fr.refl

theorem State.decodeFail_fr {s a1 a2 a3 a4} : Fr 134223105 s (State.decodeFail s a1 a2 a3 a4) := by
  unfold State.decodeFail
  with_reducible
    repeat' first | apply Fr.refl | assumption | ((try lift_lets -underBinder); intro (x : State); refine (fun h => ?_ : Fr 134223105 s x → _) ?_; clear_value x; rotate_left; subst x) | apply Fr.ite | apply Fr.next State.wr_fr | apply Fr.next State.failUpdate_fr | apply Fr.next State.bump_fr | refine Fr.snd ‹_ = (_, _)› ?_ | refine Fr.fst ‹_ = (_, _)› ?_ | refine Fr.snd2 ‹_ = (_, _, _)› ?_ | refine Fr.via (by assumption) ?_ | split
  all_goals first | rfl | exact Fr.refl

theorem State.setLane_fr {s a1 a2} : Fr 2049 s (State.setLane s a1 a2) := by
  unfold State.setLane
  with_reducible
    repeat' first | apply Fr.refl | assumption | ((try lift_lets -underBinder); intro (x : State); refine (fun h => ?_ : Fr 2049 s x → _) ?_; clear_value x; rotate_left; subst x) | apply Fr.ite | apply Fr.next State.modCoil_fr | apply Fr.next State.wr_fr | refine Fr.snd ‹_ = (_, _)› ?_ | refine Fr.fst ‹_ = (_, _)› ?_ | refine Fr.snd2 ‹_ = (_, _, _)› ?_ | refine Fr.via (by assumption) ?_ | split
  all_goals first | rfl | exact Fr.refl

theorem State.startLane_fr {s a1 a2 a3} : Fr 201338625 s (State.startLane s a1 a2 a3) := by
  unfold State.startLane
  with_reducible
    repeat' first | apply Fr.refl | assumption | ((try lift_lets -underBinder); intro (x : State); refine (fun h => ?_ : Fr 201338625 s x → _) ?_; clear_value x; rotate_left; subst x) | ((try lift_lets -underBinder); intro x; clear_value x) | apply Fr.ite | apply Fr.next State.setLane_fr | apply Fr.next State.modCoil_fr | apply Fr.next State.ctxStore_fr | apply Fr.next State.ctxFault_fr | refine Fr.snd ‹_ = (_, _)› ?_ | refine Fr.fst ‹_ = (_, _)› ?_ | refine Fr.snd2 ‹_ = (_, _, _)› ?_ | refine Fr.via (by assumption) ?_ | split
  all_goals first | rfl | exact Fr.refl

theorem State.streamClear_fr {s a1} : Fr 67110913 s (State.streamClear s a1) := by
  unfold State.streamClear
  with_reducible
    repeat' first | apply Fr.refl | assumption | ((try lift_lets -underBinder); intro x; clear_value x) | apply Fr.ite | apply Fr.next State.setLane_fr | apply Fr.next State.hbmWr_fr | refine Fr.snd ‹_ = (_, _)› ?_ | refine Fr.fst ‹_ = (_, _)› ?_ | refine Fr.snd2 ‹_ = (_, _, _)› ?_ | refine Fr.via (by assumption) ?_ | split
  all_goals first | rfl | exact Fr.refl

theorem State.streamFlush_fr {s a1} : Fr 67110913 s (State.streamFlush s a1) := by
  unfold State.streamFlush
  with_reducible
    repeat' first | apply Fr.refl | assumption | ((try lift_lets -underBinder); intro x; clear_value x) | apply Fr.ite | apply Fr.next State.setLane_fr | apply Fr.next State.ctxStore_fr | refine Fr.snd ‹_ = (_, _)› ?_ | refine Fr.fst ‹_ = (_, _)› ?_ | refine Fr.snd2 ‹_ = (_, _, _)› ?_ | refine Fr.via (by assumption) ?_ | split
  all_goals first | rfl | exact Fr.refl

theorem State.wrCtxBase_fr {a0 a1 a2 s} : Fr 134217985 s (State.wrCtxBase a0 a1 a2 s).2 := by
  unfold State.wrCtxBase
  with_reducible
    repeat' first | apply Fr.refl | assumption | apply Fr.ite | apply Fr.ite2 | apply Fr.next ign28_fr | apply Fr.next okW_fr | apply Fr.next State.plainWrite_fr | refine Fr.snd ‹_ = (_, _)› ?_ | refine Fr.fst ‹_ = (_, _)› ?_ | refine Fr.snd2 ‹_ = (_, _, _)› ?_ | refine Fr.via (by assumption) ?_ | split
  all_goals first | rfl | exact Fr.refl

theorem State.wrEnc_fr {a0 a1 a2 s} : Fr 134217985 s (State.wrEnc a0 a1 a2 s).2 := by
  unfold State.wrEnc
  with_reducible
    repeat' first | apply Fr.refl | assumption | ((try lift_lets -underBinder); intro x; clear_value x) | apply Fr.ite | apply Fr.ite2 | apply Fr.next ign28_fr | apply Fr.next okW_fr | apply Fr.next State.plainWrite_fr | refine Fr.snd ‹_ = (_, _)› ?_ | refine Fr.fst ‹_ = (_, _)› ?_ | refine Fr.snd2 ‹_ = (_, _, _)› ?_ | refine Fr.via (by assumption) ?_ | split
  all_goals first | rfl | exact Fr.refl

theorem State.wrEncCtl_fr {a0 a1 s} : Fr 134220033 s (State.wrEncCtl a0 a1 s).2 := by
  unfold State.wrEncCtl
  with_reducible
    repeat' first | apply Fr.refl | assumption | ((try lift_lets -underBinder); intro (x : State); refine (fun h => ?_ : Fr 134220033 s x → _) ?_; clear_value x; rotate_left; subst x) | ((try lift_lets -underBinder); intro x; clear_value x) | apply Fr.ite | apply Fr.ite2 | apply Fr.next ign28_fr | apply Fr.next State.wr_fr | apply Fr.next okW_fr | apply Fr.next State.modCoil_fr | refine Fr.snd ‹_ = (_, _)› ?_ | refine Fr.fst ‹_ = (_, _)› ?_ | refine Fr.snd2 ‹_ = (_, _, _)› ?_ | refine Fr.via (by assumption) ?_ | split
  all_goals first | rfl | exact Fr.refl

theorem State.wrStrmCtl_fr {a0 a1 s} : Fr 201328897 s (State.wrStrmCtl a0 a1 s).2 := by
  unfold State.wrStrmCtl
  with_reducible
    repeat' first | apply Fr.refl | assumption | ((try lift_lets -underBinder); intro (x : State); refine (fun h => ?_ : Fr 201328897 s x → _) ?_; clear_value x; rotate_left; subst x) | ((try lift_lets -underBinder); intro x; clear_value x) | apply Fr.ite | apply Fr.ite2 | apply Fr.next okW_fr | apply Fr.next ign28_fr | apply Fr.next State.streamClear_fr | apply Fr.next State.streamFlush_fr | refine Fr.snd ‹_ = (_, _)› ?_ | refine Fr.fst ‹_ = (_, _)› ?_ | refine Fr.snd2 ‹_ = (_, _, _)› ?_ | refine Fr.via (by assumption) ?_ | split
  all_goals first | rfl | exact Fr.refl

theorem execCoilDecodeDone_fr {a0 s} : FrO 134225153 s (execCoilDecodeDone a0 s) := by
  unfold execCoilDecodeDone
  with_reducible
    repeat' first | apply FrO.next | apply FrO.ite | apply Fr.refl | assumption | ((try lift_lets -underBinder); intro (x : State); refine (fun h => ?_ : Fr 134225153 s x → _) ?_; clear_value x; rotate_left; subst x) | ((try lift_lets -underBinder); intro x; clear_value x) | apply Fr.ite | apply Fr.next State.setLane_fr | apply Fr.next State.decodeFail_fr | apply Fr.next State.bump_fr | apply Fr.next State.setUpd_fr | refine Fr.snd ‹_ = (_, _)› ?_ | refine Fr.fst ‹_ = (_, _)› ?_ | refine Fr.snd2 ‹_ = (_, _, _)› ?_ | refine Fr.via (by assumption) ?_ | split
  all_goals first | rfl | exact Fr.refl

theorem execCoilDecodeStart_fr {s} : FrO 201338625 s (execCoilDecodeStart s) := by
  unfold execCoilDecodeStart
  with_reducible
    repeat' first | apply FrO.next | apply FrO.ite | apply Fr.refl | assumption | apply Fr.ite | apply Fr.next State.modScene_fr | apply Fr.next State.startLane_fr | apply Fr.next State.setUpd_fr | refine Fr.snd ‹_ = (_, _)› ?_ | refine Fr.fst ‹_ = (_, _)› ?_ | refine Fr.snd2 ‹_ = (_, _, _)› ?_ | refine Fr.via (by assumption) ?_ | split
  all_goals first | rfl | exact Fr.refl

theorem execEncodeDone_fr {a0 s} : FrO 218115841 s (execEncodeDone a0 s) := by
  unfold execEncodeDone
  with_reducible
    repeat' first | apply FrO.next | apply FrO.ite | apply Fr.refl | assumption | ((try lift_lets -underBinder); intro (x : State); refine (fun h => ?_ : Fr 218115841 s x → _) ?_; clear_value x; rotate_left; subst x) | apply Fr.ite | apply Fr.next State.modCoil_fr | refine Fr.next (State.readFault_fr (by assumption)) ?_ ?_ | apply Fr.next State.wr_fr | apply Fr.next State.takeFree_fr | apply Fr.next State.addrError_fr | apply Fr.next State.hbmWr_fr | apply Fr.next State.logc_fr | refine Fr.snd ‹_ = (_, _)› ?_ | refine Fr.fst ‹_ = (_, _)› ?_ | refine Fr.snd2 ‹_ = (_, _, _)› ?_ | refine Fr.via (by assumption) ?_ | split
  all_goals first | rfl | exact Fr.refl

end Sys2Proof.Machine
end

