-- ==== Sys2Proof/Laws/FrameWeaver.lean ====
section
/-! SUPPORT. The frame of every operation of Machine/Weaver.lean. -/

namespace Sys2Proof.Machine

set_option linter.unusedTactic false
set_option linter.unreachableTactic false

theorem State.applyLut_fr {s a1} : Fr 5121 s (State.applyLut s a1) := by
  unfold State.applyLut
  with_reducible
    repeat' first | apply Fr.refl | assumption | apply Fr.ite | apply Fr.next State.modScene_fr | apply Fr.next State.wrB_fr | apply Fr.next State.modWv_fr | refine Fr.snd ‹_ = (_, _)› ?_ | refine Fr.fst ‹_ = (_, _)› ?_ | refine Fr.snd2 ‹_ = (_, _, _)› ?_ | refine Fr.via (by assumption) ?_ | split
  all_goals first | rfl | exact Fr.refl

theorem State.applyMap_fr {s a1} : Fr 5121 s (State.applyMap s a1) := by
  unfold State.applyMap
  with_reducible
    repeat' first | apply Fr.refl | assumption | ((try lift_lets -underBinder); intro (x : State); refine (fun h => ?_ : Fr 5121 s x → _) ?_; clear_value x; rotate_left; subst x) | apply Fr.ite | apply Fr.next State.modWv_fr | apply Fr.next State.wr_fr | apply Fr.next State.wrB_fr | apply Fr.next State.modScene_fr | refine Fr.snd ‹_ = (_, _)› ?_ | refine Fr.fst ‹_ = (_, _)› ?_ | refine Fr.snd2 ‹_ = (_, _, _)› ?_ | refine Fr.via (by assumption) ?_ | split
  all_goals first | rfl | exact Fr.refl

theorem State.applySettings_fr {s a1} : Fr 1027 s (State.applySettings s a1) := by
  unfold State.applySettings
  with_reducible
    repeat' first | apply Fr.refl | assumption | ((try lift_lets -underBinder); intro (x : State); refine (fun h => ?_ : Fr 1027 s x → _) ?_; clear_value x; rotate_left; subst x) | ((try lift_lets -underBinder); intro x; clear_value x) | apply Fr.ite | apply Fr.next State.wrB_fr | refine Fr.each ?_ (fun s _ => ?_) | apply Fr.next State.latch_fr | apply Fr.next State.modScene_fr | refine Fr.snd ‹_ = (_, _)› ?_ | refine Fr.fst ‹_ = (_, _)› ?_ | refine Fr.snd2 ‹_ = (_, _, _)› ?_ | refine Fr.via (by assumption) ?_ | split
  all_goals first | rfl | exact Fr.refl

theorem State.louvreWarn_fr {s a1} : Fr 134217985 s (State.louvreWarn s a1) := by
  unfold State.louvreWarn
  with_reducible
    repeat' first | apply Fr.refl | assumption | apply Fr.ite | apply Fr.next State.logc_fr | refine Fr.snd ‹_ = (_, _)› ?_ | refine Fr.fst ‹_ = (_, _)› ?_ | refine Fr.snd2 ‹_ = (_, _, _)› ?_ | refine Fr.via (by assumption) ?_ | split
  all_goals first | rfl | exact Fr.refl

theorem State.lutStep_fr {s a1 a2} : Fr 1 s (State.lutStep s a1 a2) := by
  unfold State.lutStep
  with_reducible
    repeat' first | apply Fr.refl | assumption | apply Fr.ite | apply Fr.next State.wr_fr | refine Fr.snd ‹_ = (_, _)› ?_ | refine Fr.fst ‹_ = (_, _)› ?_ | refine Fr.snd2 ‹_ = (_, _, _)› ?_ | refine Fr.via (by assumption) ?_ | split
  all_goals first | rfl | exact Fr.refl

theorem State.makePlan_fr {s a1 a2} : Fr 4096 s (State.makePlan s a1 a2) := by
  unfold State.makePlan
  with_reducible
    repeat' first | apply Fr.refl | assumption | ((try lift_lets -underBinder); intro x; clear_value x) | apply Fr.ite | apply Fr.next State.modWv_fr | refine Fr.foldl (fun s _ => ?_) _ ?_ | refine Fr.snd ‹_ = (_, _)› ?_ | refine Fr.fst ‹_ = (_, _)› ?_ | refine Fr.snd2 ‹_ = (_, _, _)› ?_ | refine Fr.via (by assumption) ?_ | split
  all_goals first | rfl | exact Fr.refl

theorem State.rdLutData_fr {a0 a1 s} : Fr 1 s (State.rdLutData a0 a1 s).2 := by
  unfold State.rdLutData
  with_reducible
    repeat' first | apply Fr.refl | assumption | ((try lift_lets -underBinder); intro x; clear_value x) | apply Fr.ite | apply Fr.ite2 | apply Fr.next State.lutStep_fr | refine Fr.snd ‹_ = (_, _)› ?_ | refine Fr.fst ‹_ = (_, _)› ?_ | refine Fr.snd2 ‹_ = (_, _, _)› ?_ | refine Fr.via (by assumption) ?_ | split
  all_goals first | rfl | exact Fr.refl

theorem State.showPlan_fr {s a1} : Fr 4097 s (State.showPlan s a1) := by
  unfold State.showPlan
  with_reducible
    repeat' first | apply Fr.refl | assumption | ((try lift_lets -underBinder); intro (x : State); refine (fun h => ?_ : Fr 4097 s x → _) ?_; clear_value x; rotate_left; subst x) | ((try lift_lets -underBinder); intro x; clear_value x) | apply Fr.ite | apply Fr.next State.wr_fr | apply Fr.next State.modWv_fr | refine Fr.snd ‹_ = (_, _)› ?_ | refine Fr.fst ‹_ = (_, _)› ?_ | refine Fr.snd2 ‹_ = (_, _, _)› ?_ | refine Fr.via (by assumption) ?_ | split
  all_goals first | rfl | exact Fr.refl

theorem State.view_fr {s} : Fr 5123 s (State.view s) := by
  unfold State.view
  with_reducible
    repeat' first | apply Fr.refl | assumption | apply Fr.ite | refine Fr.each ?_ (fun s _ => ?_) | apply Fr.next State.applySettings_fr | apply Fr.next State.applyLut_fr | apply Fr.next State.applyMap_fr | refine Fr.snd ‹_ = (_, _)› ?_ | refine Fr.fst ‹_ = (_, _)› ?_ | refine Fr.snd2 ‹_ = (_, _, _)› ?_ | refine Fr.via (by assumption) ?_ | split
  all_goals first | rfl | exact Fr.refl

theorem State.wrLutCtl_fr {a0 a1 s} : Fr 134217985 s (State.wrLutCtl a0 a1 s).2 := by
  unfold State.wrLutCtl
  with_reducible
    repeat' first | apply Fr.refl | assumption | apply Fr.ite | apply Fr.ite2 | apply Fr.next okW_fr | apply Fr.next ignCode_fr | apply Fr.next State.wrB_fr | refine Fr.snd ‹_ = (_, _)› ?_ | refine Fr.fst ‹_ = (_, _)› ?_ | refine Fr.snd2 ‹_ = (_, _, _)› ?_ | refine Fr.via (by assumption) ?_ | split
  all_goals first | rfl | exact Fr.refl

theorem State.wrLutData_fr {a0 a1 a2 s} : Fr 134222081 s (State.wrLutData a0 a1 a2 s).2 := by
  unfold State.wrLutData
  with_reducible
    repeat' first | apply Fr.refl | assumption | ((try lift_lets -underBinder); intro x; clear_value x) | apply Fr.ite | apply Fr.ite2 | apply Fr.next ign28_fr | apply Fr.next State.lutStep_fr | apply Fr.next okW_fr | apply Fr.next State.modWv_fr | refine Fr.snd ‹_ = (_, _)› ?_ | refine Fr.fst ‹_ = (_, _)› ?_ | refine Fr.snd2 ‹_ = (_, _, _)› ?_ | refine Fr.via (by assumption) ?_ | split
  all_goals first | rfl | exact Fr.refl

theorem State.wrLvrCtl_fr {a0 a1 s} : Fr 1 s (State.wrLvrCtl a0 a1 s).2 := by
  unfold State.wrLvrCtl
  with_reducible
    repeat' first | apply Fr.refl | assumption | apply Fr.ite | apply Fr.ite2 | apply Fr.next okW_fr | apply Fr.next State.wrB_fr | apply Fr.next State.wr_fr | refine Fr.snd ‹_ = (_, _)› ?_ | refine Fr.fst ‹_ = (_, _)› ?_ | refine Fr.snd2 ‹_ = (_, _, _)› ?_ | refine Fr.via (by assumption) ?_ | split
  all_goals first | rfl | exact Fr.refl

theorem State.wrMapCtl_fr {a0 a1 s} : Fr 134222081 s (State.wrMapCtl a0 a1 s).2 := by
  unfold State.wrMapCtl
  with_reducible
    repeat' first | apply Fr.refl | assumption | ((try lift_lets -underBinder); intro (x : State); refine (fun h => ?_ : Fr 134222081 s x → _) ?_; clear_value x; rotate_left; subst x) | apply Fr.ite | apply Fr.ite2 | apply Fr.next okW_fr | apply Fr.next ignCode_fr | apply Fr.next State.wrB_fr | apply Fr.next State.modWv_fr | refine Fr.snd ‹_ = (_, _)› ?_ | refine Fr.fst ‹_ = (_, _)› ?_ | refine Fr.snd2 ‹_ = (_, _, _)› ?_ | refine Fr.via (by assumption) ?_ | split
  all_goals first | rfl | exact Fr.refl

theorem State.wrOutCtl_fr {a0 a1 s} : Fr 134217985 s (State.wrOutCtl a0 a1 s).2 := by
  unfold State.wrOutCtl
  with_reducible
    repeat' first | apply Fr.refl | assumption | ((try lift_lets -underBinder); intro (x : State); refine (fun h => ?_ : Fr 134217985 s x → _) ?_; clear_value x; rotate_left; subst x) | ((try lift_lets -underBinder); intro x; clear_value x) | apply Fr.ite | apply Fr.ite2 | apply Fr.next State.wr_fr | apply Fr.next okW_fr | apply Fr.next ignCode_fr | refine Fr.snd ‹_ = (_, _)› ?_ | refine Fr.fst ‹_ = (_, _)› ?_ | refine Fr.snd2 ‹_ = (_, _, _)› ?_ | refine Fr.via (by assumption) ?_ | split
  all_goals first | rfl | exact Fr.refl

theorem execMapCheckDone_fr {a0 s} : FrO 201340673 s (execMapCheckDone a0 s) := by
  unfold execMapCheckDone
  with_reducible
    repeat' first | apply FrO.next | apply FrO.ite | apply Fr.refl | assumption | ((try lift_lets -underBinder); intro (x : State); refine (fun h => ?_ : Fr 201340673 s x → _) ?_; clear_value x; rotate_left; subst x) | ((try lift_lets -underBinder); intro (x : State → State); refine (fun h => ?_ : (∀ s, Fr 201340673 s (x s)) → _) ?_; clear_value x; rotate_left; subst x; intro s; (try simp only [])) | ((try lift_lets -underBinder); intro x; clear_value x) | apply Fr.ite | apply Fr.next State.modWv_fr | apply Fr.next State.wrB_fr | apply Fr.next State.logc_fr | refine Fr.next (State.readFault_fr (by assumption)) ?_ ?_ | apply Fr.next State.bump_fr | refine Fr.snd ‹_ = (_, _)› ?_ | refine Fr.fst ‹_ = (_, _)› ?_ | refine Fr.snd2 ‹_ = (_, _, _)› ?_ | refine Fr.via (by assumption) ?_ | split
  all_goals first | rfl | exact Fr.refl

end Sys2Proof.Machine
end

