-- ==== Sys2Proof/Laws/FrameFresh.lean ====
section
/-! SUPPORT. The frame of every operation of Machine/Fresh.lean. -/

namespace Sys2Proof.Machine

set_option linter.unusedTactic false
set_option linter.unreachableTactic false

theorem State.wrapEnd_fr {s a1} : Fr 134226177 s (State.wrapEnd s a1) := by
  unfold State.wrapEnd
  with_reducible
    repeat' first | apply Fr.refl | assumption | ((try lift_lets -underBinder); intro (x : State); refine (fun h => ?_ : Fr 134226177 s x → _) ?_; clear_value x; rotate_left; subst x) | apply Fr.ite | apply Fr.next State.modFrs_fr | apply Fr.next State.logc_fr | refine Fr.snd ‹_ = (_, _)› ?_ | refine Fr.fst ‹_ = (_, _)› ?_ | refine Fr.snd2 ‹_ = (_, _, _)› ?_ | refine Fr.via (by assumption) ?_ | split
  all_goals first | rfl | exact Fr.refl

theorem State.fastPass_fr {s} : Fr 134227201 s (State.fastPass s) := by
  unfold State.fastPass
  with_reducible
    repeat' first | apply Fr.refl | assumption | ((try lift_lets -underBinder); intro x; clear_value x) | apply Fr.ite | apply Fr.next State.wrapEnd_fr | apply Fr.next State.modFrs_fr | refine Fr.each ?_ (fun s _ => ?_) | apply Fr.next State.withdraw_fr | refine Fr.snd ‹_ = (_, _)› ?_ | refine Fr.fst ‹_ = (_, _)› ?_ | refine Fr.snd2 ‹_ = (_, _, _)› ?_ | refine Fr.via (by assumption) ?_ | split
  all_goals first | rfl | exact Fr.refl

theorem State.atSample_fr {s a1} : Fr 134751497 s (State.atSample s a1) := by
  unfold State.atSample
  with_reducible
    repeat' first | apply Fr.refl | assumption | apply Fr.ite | apply Fr.next State.fastPass_fr | apply Fr.next State.toWc_fr | refine Fr.snd ‹_ = (_, _)› ?_ | refine Fr.fst ‹_ = (_, _)› ?_ | refine Fr.snd2 ‹_ = (_, _, _)› ?_ | refine Fr.via (by assumption) ?_ | split
  all_goals first | rfl | exact Fr.refl

theorem State.countVerdict_fr {s a1 a2 a3} : Fr 9216 s (State.countVerdict s a1 a2 a3) := by
  unfold State.countVerdict
  with_reducible
    repeat' first | apply Fr.refl | assumption | ((try lift_lets -underBinder); intro (x : State); refine (fun h => ?_ : Fr 9216 s x → _) ?_; clear_value x; rotate_left; subst x) | ((try lift_lets -underBinder); intro x; clear_value x) | apply Fr.ite | apply Fr.next State.setDirty_fr | apply Fr.next State.modFrs_fr | refine Fr.snd ‹_ = (_, _)› ?_ | refine Fr.fst ‹_ = (_, _)› ?_ | refine Fr.snd2 ‹_ = (_, _, _)› ?_ | refine Fr.via (by assumption) ?_ | split
  all_goals first | rfl | exact Fr.refl

theorem State.freshFrameCount_fr {s} : Fr 134226177 s (State.freshFrameCount s) := by
  unfold State.freshFrameCount
  with_reducible
    repeat' first | apply Fr.refl | assumption | ((try lift_lets -underBinder); intro (x : State); refine (fun h => ?_ : Fr 134226177 s x → _) ?_; clear_value x; rotate_left; subst x) | ((try lift_lets -underBinder); intro x; clear_value x) | apply Fr.ite | apply Fr.next State.wr_fr | apply Fr.next State.wrB_fr | apply Fr.next State.modFrs_fr | apply Fr.next State.logc_fr | refine Fr.snd ‹_ = (_, _)› ?_ | refine Fr.fst ‹_ = (_, _)› ?_ | refine Fr.snd2 ‹_ = (_, _, _)› ?_ | refine Fr.via (by assumption) ?_ | split
  all_goals first | rfl | exact Fr.refl

theorem State.freshTimeSts_fr {s} : Fr 134226177 s (State.freshTimeSts s) := by
  unfold State.freshTimeSts
  with_reducible
    repeat' first | apply Fr.refl | assumption | ((try lift_lets -underBinder); intro (x : State); refine (fun h => ?_ : Fr 134226177 s x → _) ?_; clear_value x; rotate_left; subst x) | ((try lift_lets -underBinder); intro x; clear_value x) | apply Fr.ite | apply Fr.next State.wrB_fr | apply Fr.next State.modFrs_fr | apply Fr.next State.logc_fr | apply Fr.next State.resample_fr | refine Fr.snd ‹_ = (_, _)› ?_ | refine Fr.fst ‹_ = (_, _)› ?_ | refine Fr.snd2 ‹_ = (_, _, _)› ?_ | refine Fr.via (by assumption) ?_ | split
  all_goals first | rfl | exact Fr.refl

theorem State.jumpRefused_fr {s} : Fr 134226177 s (State.jumpRefused s) := by
  unfold State.jumpRefused
  with_reducible
    repeat' first | apply Fr.refl | assumption | apply Fr.ite | apply Fr.next State.logc_fr | apply Fr.next State.freshTimeSts_fr | refine Fr.snd ‹_ = (_, _)› ?_ | refine Fr.fst ‹_ = (_, _)› ?_ | refine Fr.snd2 ‹_ = (_, _, _)› ?_ | refine Fr.via (by assumption) ?_ | split
  all_goals first | rfl | exact Fr.refl

theorem State.startFastPass_fr {s} : Fr 134226177 s (State.startFastPass s) := by
  unfold State.startFastPass
  with_reducible
    repeat' first | apply Fr.refl | assumption | apply Fr.ite | apply Fr.next State.modFrs_fr | apply Fr.next State.wrapEnd_fr | refine Fr.snd ‹_ = (_, _)› ?_ | refine Fr.fst ‹_ = (_, _)› ?_ | refine Fr.snd2 ‹_ = (_, _, _)› ?_ | refine Fr.via (by assumption) ?_ | split
  all_goals first | rfl | exact Fr.refl

theorem State.startStepSweep_fr {s a1 a2} : Fr 8193 s (State.startStepSweep s a1 a2) := by
  unfold State.startStepSweep
  with_reducible
    repeat' first | apply Fr.refl | assumption | ((try lift_lets -underBinder); intro (x : State); refine (fun h => ?_ : Fr 8193 s x → _) ?_; clear_value x; rotate_left; subst x) | ((try lift_lets -underBinder); intro x; clear_value x) | apply Fr.ite | apply Fr.next State.modFrs_fr | apply Fr.next State.wrB_fr | refine Fr.snd ‹_ = (_, _)› ?_ | refine Fr.fst ‹_ = (_, _)› ?_ | refine Fr.snd2 ‹_ = (_, _, _)› ?_ | refine Fr.via (by assumption) ?_ | split
  all_goals first | rfl | exact Fr.refl

theorem State.startVerSweep_fr {s} : Fr 134226177 s (State.startVerSweep s) := by
  unfold State.startVerSweep
  with_reducible
    repeat' first | apply Fr.refl | assumption | ((try lift_lets -underBinder); intro (x : State); refine (fun h => ?_ : Fr 134226177 s x → _) ?_; clear_value x; rotate_left; subst x) | apply Fr.ite | apply Fr.next State.wrB_fr | apply Fr.next State.modFrs_fr | apply Fr.next State.resample_fr | apply Fr.next State.logc_fr | refine Fr.snd ‹_ = (_, _)› ?_ | refine Fr.fst ‹_ = (_, _)› ?_ | refine Fr.snd2 ‹_ = (_, _, _)› ?_ | refine Fr.via (by assumption) ?_ | split
  all_goals first | rfl | exact Fr.refl

theorem execFastPassDone_fr {s} : FrO 134227201 s (execFastPassDone s) := by
  unfold execFastPassDone
  with_reducible
    repeat' first | apply FrO.next | apply FrO.ite | apply Fr.refl | assumption | apply Fr.ite | apply Fr.next State.resample_fr | apply Fr.next State.fastPass_fr | refine Fr.snd ‹_ = (_, _)› ?_ | refine Fr.fst ‹_ = (_, _)› ?_ | refine Fr.snd2 ‹_ = (_, _, _)› ?_ | refine Fr.via (by assumption) ?_ | split
  all_goals first | rfl | exact Fr.refl

theorem execStepSweepDone_fr {s} : FrO 134227201 s (execStepSweepDone s) := by
  unfold execStepSweepDone
  with_reducible
    repeat' first | apply FrO.next | apply FrO.ite | apply Fr.refl | assumption | apply Fr.ite | apply Fr.next State.stepVisit_fr | apply Fr.next State.wrB_fr | apply Fr.next State.modFrs_fr | apply Fr.next State.resample_fr | apply Fr.next State.logc_fr | refine Fr.snd ‹_ = (_, _)› ?_ | refine Fr.fst ‹_ = (_, _)› ?_ | refine Fr.snd2 ‹_ = (_, _, _)› ?_ | refine Fr.via (by assumption) ?_ | split
  all_goals first | rfl | exact Fr.refl

theorem execVerdictSample_fr {a0 s} : FrO 134755595 s (execVerdictSample a0 s) := by
  unfold execVerdictSample
  with_reducible
    repeat' first | apply FrO.next | apply FrO.ite | apply Fr.refl | assumption | apply Fr.ite | apply Fr.next State.atSample_fr | apply Fr.next State.view_fr | refine Fr.foldl (fun s _ => ?_) _ ?_ | apply Fr.next State.modFrs_fr | apply Fr.next State.wr_fr | refine Fr.snd ‹_ = (_, _)› ?_ | refine Fr.fst ‹_ = (_, _)› ?_ | refine Fr.snd2 ‹_ = (_, _, _)› ?_ | refine Fr.via (by assumption) ?_ | split
  all_goals first | rfl | exact Fr.refl

theorem execVerificationSweep_fr {s} : FrO 9217 s (execVerificationSweep s) := by
  unfold execVerificationSweep
  with_reducible
    repeat' first | apply FrO.next | apply FrO.ite | apply Fr.refl | assumption | apply Fr.ite | apply Fr.next State.resample_fr | apply Fr.next State.verVisit_fr | refine Fr.snd ‹_ = (_, _)› ?_ | refine Fr.fst ‹_ = (_, _)› ?_ | refine Fr.snd2 ‹_ = (_, _, _)› ?_ | refine Fr.via (by assumption) ?_ | split
  all_goals first | rfl | exact Fr.refl

theorem execVerificationSweepDone_fr {s} : FrO 9217 s (execVerificationSweepDone s) := by
  unfold execVerificationSweepDone
  with_reducible
    repeat' first | apply FrO.next | apply FrO.ite | apply Fr.refl | assumption | apply Fr.ite | apply Fr.next State.resample_fr | apply Fr.next State.wrB_fr | apply Fr.next State.modFrs_fr | apply Fr.next State.verVisit_fr | refine Fr.snd ‹_ = (_, _)› ?_ | refine Fr.fst ‹_ = (_, _)› ?_ | refine Fr.snd2 ‹_ = (_, _, _)› ?_ | refine Fr.via (by assumption) ?_ | split
  all_goals first | rfl | exact Fr.refl

theorem execWrapSweepVisit_fr {s} : FrO 134227201 s (execWrapSweepVisit s) := by
  unfold execWrapSweepVisit
  with_reducible
    repeat' first | apply FrO.next | apply FrO.ite | apply Fr.refl | assumption | apply Fr.ite | apply Fr.next State.resample_fr | apply Fr.next State.withdraw_fr | apply Fr.next State.modFrs_fr | apply Fr.next State.wrapEnd_fr | refine Fr.snd ‹_ = (_, _)› ?_ | refine Fr.fst ‹_ = (_, _)› ?_ | refine Fr.snd2 ‹_ = (_, _, _)› ?_ | refine Fr.via (by assumption) ?_ | split
  all_goals first | rfl | exact Fr.refl

end Sys2Proof.Machine
end

