-- ==== Sys2Proof/Laws/FrameNvs.lean ====
section
/-! SUPPORT. The frame of every operation of Machine/Nvs.lean. -/

namespace Sys2Proof.Machine

set_option linter.unusedTactic false
set_option linter.unreachableTactic false

theorem State.bmsFail_fr {s a1} : Fr 134217985 s (State.bmsFail s a1) := by
  unfold State.bmsFail
  with_reducible
    repeat' first | apply Fr.refl | assumption | apply Fr.ite | apply Fr.next State.event_fr | apply Fr.next State.wr_fr | refine Fr.snd ‹_ = (_, _)› ?_ | refine Fr.fst ‹_ = (_, _)› ?_ | refine Fr.snd2 ‹_ = (_, _, _)› ?_ | refine Fr.via (by assumption) ?_ | split
  all_goals first | rfl | exact Fr.refl

theorem State.bmsSts_fr {s} : Fr 1 s (State.bmsSts s) := by
  unfold State.bmsSts
  with_reducible
    repeat' first | apply Fr.refl | assumption | ((try lift_lets -underBinder); intro x; clear_value x) | apply Fr.ite | apply Fr.next State.wr_fr | apply Fr.next State.wrB_fr | refine Fr.snd ‹_ = (_, _)› ?_ | refine Fr.fst ‹_ = (_, _)› ?_ | refine Fr.snd2 ‹_ = (_, _, _)› ?_ | refine Fr.via (by assumption) ?_ | split
  all_goals first | rfl | exact Fr.refl

theorem State.bmsErase_fr {s a1 a2 a3} : Fr 2097152 s (State.bmsErase s a1 a2 a3) := by
  unfold State.bmsErase
  with_reducible
    repeat' first | apply Fr.refl | assumption | ((try lift_lets -underBinder); intro x; clear_value x) | apply Fr.ite | apply Fr.next State.modNvs_fr | refine Fr.snd ‹_ = (_, _)› ?_ | refine Fr.fst ‹_ = (_, _)› ?_ | refine Fr.snd2 ‹_ = (_, _, _)› ?_ | refine Fr.via (by assumption) ?_ | split
  all_goals first | rfl | exact Fr.refl

theorem State.bmsCtl_fr {s a1 a2 a3} : Fr 136315137 s (State.bmsCtl s a1 a2 a3) := by
  unfold State.bmsCtl
  with_reducible
    repeat' first | apply Fr.refl | assumption | ((try lift_lets -underBinder); intro (x : State); refine (fun h => ?_ : Fr 136315137 s x → _) ?_; clear_value x; rotate_left; subst x) | ((try lift_lets -underBinder); intro x; clear_value x) | apply Fr.ite | apply Fr.next State.bmsFail_fr | apply Fr.next State.logc_fr | apply Fr.next State.modNvs_fr | apply Fr.next State.wr_fr | apply Fr.next State.wrB_fr | apply Fr.next State.bmsSts_fr | apply Fr.next State.bmsErase_fr | refine Fr.snd ‹_ = (_, _)› ?_ | refine Fr.fst ‹_ = (_, _)› ?_ | refine Fr.snd2 ‹_ = (_, _, _)› ?_ | refine Fr.via (by assumption) ?_ | split
  all_goals first | rfl | exact Fr.refl

theorem State.bmsWr_fr {s a1 a2 a3} : Fr 2097152 s (State.bmsWr s a1 a2 a3) := by
  unfold State.bmsWr
  with_reducible
    repeat' first | apply Fr.refl | assumption | apply Fr.ite | apply Fr.next State.modNvs_fr | refine Fr.foldl (fun s _ => ?_) _ ?_ | refine Fr.snd ‹_ = (_, _)› ?_ | refine Fr.fst ‹_ = (_, _)› ?_ | refine Fr.snd2 ‹_ = (_, _, _)› ?_ | refine Fr.via (by assumption) ?_ | split
  all_goals first | rfl | exact Fr.refl

theorem State.bmsEffect_fr {s a1} : Fr 220210945 s (State.bmsEffect s a1) := by
  unfold State.bmsEffect
  with_reducible
    repeat' first | apply Fr.refl | assumption | apply Fr.ite | apply Fr.next State.bmsErase_fr | apply Fr.next State.takeFree_fr | refine Fr.each ?_ (fun s _ => ?_) | apply Fr.next State.uncorrectable_fr | apply Fr.next State.bmsWr_fr | apply Fr.next State.hbmWr_fr | refine Fr.snd ‹_ = (_, _)› ?_ | refine Fr.fst ‹_ = (_, _)› ?_ | refine Fr.snd2 ‹_ = (_, _, _)› ?_ | refine Fr.via (by assumption) ?_ | split
  all_goals first | rfl | exact Fr.refl

theorem State.clearFirstFault_fr {s} : Fr 136315137 s (State.clearFirstFault s) := by
  unfold State.clearFirstFault
  with_reducible
    repeat' first | apply Fr.refl | assumption | ((try lift_lets -underBinder); intro (x : State); refine (fun h => ?_ : Fr 136315137 s x → _) ?_; clear_value x; rotate_left; subst x) | apply Fr.ite | refine Fr.each ?_ (fun s _ => ?_) | apply Fr.next State.commitPage_fr | apply Fr.next State.modLog_fr | apply Fr.next State.wrB_fr | apply Fr.next State.wr_fr | refine Fr.snd ‹_ = (_, _)› ?_ | refine Fr.fst ‹_ = (_, _)› ?_ | refine Fr.snd2 ‹_ = (_, _, _)› ?_ | refine Fr.via (by assumption) ?_ | split
  all_goals first | rfl | exact Fr.refl

theorem State.takePwd_fr {s} : Fr 1 s (State.takePwd s).2 := by
  unfold State.takePwd
  with_reducible
    repeat' first | apply Fr.refl | assumption | apply Fr.ite | apply Fr.ite2 | apply Fr.next State.wr_fr | refine Fr.snd ‹_ = (_, _)› ?_ | refine Fr.fst ‹_ = (_, _)› ?_ | refine Fr.snd2 ‹_ = (_, _, _)› ?_ | refine Fr.via (by assumption) ?_ | split
  all_goals first | rfl | exact Fr.refl

theorem State.nvsResult_fr {s a1} : Fr 134217985 s (State.nvsResult s a1) := by
  unfold State.nvsResult
  with_reducible
    repeat' first | apply Fr.refl | assumption | apply Fr.ite | refine Fr.when ?_ (fun s => ?_) | apply Fr.next State.wr_fr | apply Fr.next State.event_fr | refine Fr.snd ‹_ = (_, _)› ?_ | refine Fr.fst ‹_ = (_, _)› ?_ | refine Fr.snd2 ‹_ = (_, _, _)› ?_ | refine Fr.via (by assumption) ?_ | split
  all_goals first | rfl | exact Fr.refl

theorem State.wrongPassword_fr {s} : Fr 136315137 s (State.wrongPassword s) := by
  unfold State.wrongPassword
  with_reducible
    repeat' first | apply Fr.refl | assumption | ((try lift_lets -underBinder); intro (x : State); refine (fun h => ?_ : Fr 136315137 s x → _) ?_; clear_value x; rotate_left; subst x) | ((try lift_lets -underBinder); intro x; clear_value x) | apply Fr.ite | apply Fr.next State.logc_fr | apply Fr.next State.nvsResult_fr | apply Fr.next State.modNvs_fr | apply Fr.next State.wrB_fr | apply Fr.next State.event_fr | refine Fr.snd ‹_ = (_, _)› ?_ | refine Fr.fst ‹_ = (_, _)› ?_ | refine Fr.snd2 ‹_ = (_, _, _)› ?_ | refine Fr.via (by assumption) ?_ | split
  all_goals first | rfl | exact Fr.refl

theorem State.withPassword_fr {m s0 s a1 a2 k} (hk : ∀ s, Fr m s (k s)) (h : Fr m s0 s) (hm : 136315137 &&& m = 136315137) :
    Fr m s0 (State.withPassword s a1 a2 k) := by
  unfold State.withPassword
  with_reducible
    repeat' first | apply Fr.refl | assumption | apply Fr.ite | apply Fr.next State.nvsResult_fr | apply Fr.next State.wrongPassword_fr | refine Fr.trans ?_ (hk _) | split
  all_goals exact Fr.sub rfl hm

theorem State.cntVal_fr {s a1} : Fr 153092353 s (State.cntVal s a1).2 := by
  unfold State.cntVal
  with_reducible
    repeat' first | apply Fr.refl | assumption | ((try lift_lets -underBinder); intro x; clear_value x) | apply Fr.ite | apply Fr.ite2 | apply Fr.next State.takePwd_fr | apply Fr.next State.takeFree_fr | refine State.withPassword_fr (hk := fun s => ?_) ?_ ?_ | refine Fr.snd ‹_ = (_, _)› ?_ | refine Fr.fst ‹_ = (_, _)› ?_ | refine Fr.snd2 ‹_ = (_, _, _)› ?_ | refine Fr.via (by assumption) ?_ | split
  all_goals first | rfl | exact Fr.refl

theorem State.nvsSts_fr {s} : Fr 1 s (State.nvsSts s) := by
  unfold State.nvsSts
  with_reducible
    repeat' first | apply Fr.refl | assumption | apply Fr.ite | apply Fr.next State.wr_fr | apply Fr.next State.wrB_fr | refine Fr.snd ‹_ = (_, _)› ?_ | refine Fr.fst ‹_ = (_, _)› ?_ | refine Fr.snd2 ‹_ = (_, _, _)› ?_ | refine Fr.via (by assumption) ?_ | split
  all_goals first | rfl | exact Fr.refl

theorem State.enqueue_fr {s a1} : Fr 2097153 s (State.enqueue s a1) := by
  unfold State.enqueue
  with_reducible
    repeat' first | apply Fr.refl | assumption | apply Fr.ite | apply Fr.next State.nvsSts_fr | apply Fr.next State.modNvs_fr | refine Fr.snd ‹_ = (_, _)› ?_ | refine Fr.fst ‹_ = (_, _)› ?_ | refine Fr.snd2 ‹_ = (_, _, _)› ?_ | refine Fr.via (by assumption) ?_ | split
  all_goals first | rfl | exact Fr.refl

theorem State.logPageDone_fr {s a1 a2} : Fr 134217985 s (State.logPageDone s a1 a2) := by
  unfold State.logPageDone
  with_reducible
    repeat' first | apply Fr.refl | assumption | ((try lift_lets -underBinder); intro (x : State); refine (fun h => ?_ : Fr 134217985 s x → _) ?_; clear_value x; rotate_left; subst x) | apply Fr.ite | apply Fr.next State.modLog_fr | apply Fr.next State.logc_fr | refine Fr.snd ‹_ = (_, _)› ?_ | refine Fr.fst ‹_ = (_, _)› ?_ | refine Fr.snd2 ‹_ = (_, _, _)› ?_ | refine Fr.via (by assumption) ?_ | split
  all_goals first | rfl | exact Fr.refl

theorem State.journalPage_fr {s a1} : Fr 136315137 s (State.journalPage s a1) := by
  unfold State.journalPage
  with_reducible
    repeat' first | apply Fr.refl | assumption | ((try lift_lets -underBinder); intro x; clear_value x) | apply Fr.ite | apply Fr.next State.logPageDone_fr | apply Fr.next State.modNvs_fr | apply Fr.next State.commitPage_fr | refine Fr.snd ‹_ = (_, _)› ?_ | refine Fr.fst ‹_ = (_, _)› ?_ | refine Fr.snd2 ‹_ = (_, _, _)› ?_ | refine Fr.via (by assumption) ?_ | split
  all_goals first | rfl | exact Fr.refl

theorem State.journalLogs_fr {s a1} : Fr 136315137 s (State.journalLogs s a1) := by
  unfold State.journalLogs
  with_reducible
    repeat' first | apply Fr.refl | assumption | ((try lift_lets -underBinder); intro x; clear_value x) | apply Fr.ite | refine Fr.each ?_ (fun s _ => ?_) | apply Fr.next State.journalPage_fr | refine Fr.snd ‹_ = (_, _)› ?_ | refine Fr.fst ‹_ = (_, _)› ?_ | refine Fr.snd2 ‹_ = (_, _, _)› ?_ | refine Fr.via (by assumption) ?_ | split
  all_goals first | rfl | exact Fr.refl

theorem State.readTrouble_fr {s a1} : Fr 136315137 s (State.readTrouble s a1) := by
  unfold State.readTrouble
  with_reducible
    repeat' first | apply Fr.refl | assumption | ((try lift_lets -underBinder); intro (x : State); refine (fun h => ?_ : Fr 136315137 s x → _) ?_; clear_value x; rotate_left; subst x) | apply Fr.ite | apply Fr.next State.logc_fr | apply Fr.next State.event_fr | apply Fr.next State.enqueue_fr | refine Fr.snd ‹_ = (_, _)› ?_ | refine Fr.fst ‹_ = (_, _)› ?_ | refine Fr.snd2 ‹_ = (_, _, _)› ?_ | refine Fr.via (by assumption) ?_ | split
  all_goals first | rfl | exact Fr.refl

theorem State.setNvsData_fr {s a1} : Fr 1 s (State.setNvsData s a1) := by
  unfold State.setNvsData
  with_reducible
    repeat' first | apply Fr.refl | assumption | apply Fr.ite | refine Fr.each ?_ (fun s _ => ?_) | apply Fr.next State.setReg_fr | refine Fr.snd ‹_ = (_, _)› ?_ | refine Fr.fst ‹_ = (_, _)› ?_ | refine Fr.snd2 ‹_ = (_, _, _)› ?_ | refine Fr.via (by assumption) ?_ | split
  all_goals first | rfl | exact Fr.refl

theorem State.nvsRead_fr {s a1} : Fr 136315137 s (State.nvsRead s a1) := by
  unfold State.nvsRead
  with_reducible
    repeat' first | apply Fr.refl | assumption | ((try lift_lets -underBinder); intro (x : State → State); refine (fun h => ?_ : (∀ s, Fr 136315137 s (x s)) → _) ?_; clear_value x; rotate_left; subst x; intro s; (try simp only [])) | ((try lift_lets -underBinder); intro x; clear_value x) | apply Fr.ite | apply Fr.next State.nvsResult_fr | apply Fr.next State.readTrouble_fr | apply Fr.next State.setNvsData_fr | refine State.withPassword_fr (hk := fun s => ?_) ?_ ?_ | refine Fr.snd ‹_ = (_, _)› ?_ | refine Fr.fst ‹_ = (_, _)› ?_ | refine Fr.snd2 ‹_ = (_, _, _)› ?_ | refine Fr.via (by assumption) ?_ | split
  all_goals first | rfl | exact Fr.refl

theorem State.nvsRefuse_fr {s a1} : Fr 134217985 s (State.nvsRefuse s a1) := by
  unfold State.nvsRefuse
  with_reducible
    repeat' first | apply Fr.refl | assumption | apply Fr.ite | apply Fr.next State.logc_fr | apply Fr.next State.nvsResult_fr | refine Fr.snd ‹_ = (_, _)› ?_ | refine Fr.fst ‹_ = (_, _)› ?_ | refine Fr.snd2 ‹_ = (_, _, _)› ?_ | refine Fr.via (by assumption) ?_ | split
  all_goals first | rfl | exact Fr.refl

theorem State.nvsQueueReg_fr {s a1} : Fr 136315137 s (State.nvsQueueReg s a1) := by
  unfold State.nvsQueueReg
  with_reducible
    repeat' first | apply Fr.refl | assumption | apply Fr.ite | apply Fr.next State.nvsResult_fr | apply Fr.next State.modNvs_fr | apply Fr.next State.enqueue_fr | refine Fr.snd ‹_ = (_, _)› ?_ | refine Fr.fst ‹_ = (_, _)› ?_ | refine Fr.snd2 ‹_ = (_, _, _)› ?_ | refine Fr.via (by assumption) ?_ | split
  all_goals first | rfl | exact Fr.refl

theorem State.nvsWrite_fr {s a1} : Fr 136315137 s (State.nvsWrite s a1) := by
  unfold State.nvsWrite
  with_reducible
    repeat' first | apply Fr.refl | assumption | apply Fr.ite | apply Fr.next State.nvsResult_fr | apply Fr.next State.nvsRefuse_fr | refine State.withPassword_fr (hk := fun s => ?_) ?_ ?_ | apply Fr.next State.nvsQueueReg_fr | refine Fr.snd ‹_ = (_, _)› ?_ | refine Fr.fst ‹_ = (_, _)› ?_ | refine Fr.snd2 ‹_ = (_, _, _)› ?_ | refine Fr.via (by assumption) ?_ | split
  all_goals first | rfl | exact Fr.refl

theorem State.nvsSetPassword_fr {s a1} : Fr 136315137 s (State.nvsSetPassword s a1) := by
  unfold State.nvsSetPassword
  with_reducible
    repeat' first | apply Fr.refl | assumption | ((try lift_lets -underBinder); intro x; clear_value x) | apply Fr.ite | apply Fr.next State.nvsRefuse_fr | apply Fr.next State.nvsResult_fr | refine State.withPassword_fr (hk := fun s => ?_) ?_ ?_ | apply Fr.next State.nvsQueueReg_fr | refine Fr.snd ‹_ = (_, _)› ?_ | refine Fr.fst ‹_ = (_, _)› ?_ | refine Fr.snd2 ‹_ = (_, _, _)› ?_ | refine Fr.via (by assumption) ?_ | split
  all_goals first | rfl | exact Fr.refl

theorem State.nvsOp_fr {s a1} : Fr 136315137 s (State.nvsOp s a1) := by
  unfold State.nvsOp
  with_reducible
    repeat' first | apply Fr.refl | assumption | apply Fr.ite | apply Fr.next State.nvsRead_fr | apply Fr.next State.nvsWrite_fr | apply Fr.next State.nvsSetPassword_fr | refine Fr.snd ‹_ = (_, _)› ?_ | refine Fr.fst ‹_ = (_, _)› ?_ | refine Fr.snd2 ‹_ = (_, _, _)› ?_ | refine Fr.via (by assumption) ?_ | split
  all_goals first | rfl | exact Fr.refl

theorem State.nvsCmd_fr {s a1 a2 a3} : Fr 136315137 s (State.nvsCmd s a1 a2 a3) := by
  unfold State.nvsCmd
  with_reducible
    repeat' first | apply Fr.refl | assumption | apply Fr.ite | apply Fr.next State.takePwd_fr | apply Fr.next State.modNvs_fr | apply Fr.next State.nvsOp_fr | refine Fr.snd ‹_ = (_, _)› ?_ | refine Fr.fst ‹_ = (_, _)› ?_ | refine Fr.snd2 ‹_ = (_, _, _)› ?_ | refine Fr.via (by assumption) ?_ | split
  all_goals first | rfl | exact Fr.refl

theorem State.nvsDrain_fr {s a1} : Fr 136315137 s (State.nvsDrain s a1) := by
  induction a1 generalizing s with
  | nil =>
    (unfold State.nvsDrain)
    with_reducible
      repeat' first | apply Fr.refl | assumption | apply Fr.ite | apply Fr.next State.modNvs_fr | apply Fr.next State.nvsOp_fr | refine Fr.snd ‹_ = (_, _)› ?_ | refine Fr.fst ‹_ = (_, _)› ?_ | refine Fr.snd2 ‹_ = (_, _, _)› ?_ | refine Fr.via (by assumption) ?_ | split
    all_goals rfl
  | cons x xs ih =>
    (unfold State.nvsDrain)
    with_reducible
      repeat' first | apply Fr.refl | assumption | apply Fr.next ih | ((try lift_lets -underBinder); intro (x : State); refine (fun h => ?_ : Fr 136315137 s x → _) ?_; clear_value x; rotate_left; subst x) | apply Fr.ite | apply Fr.next State.modNvs_fr | apply Fr.next State.nvsOp_fr | refine Fr.snd ‹_ = (_, _)› ?_ | refine Fr.fst ‹_ = (_, _)› ?_ | refine Fr.snd2 ‹_ = (_, _, _)› ?_ | refine Fr.via (by assumption) ?_ | split
    all_goals rfl

theorem State.nvsWarning_fr {s} : Fr 136315137 s (State.nvsWarning s) := by
  unfold State.nvsWarning
  with_reducible
    repeat' first | apply Fr.refl | assumption | ((try lift_lets -underBinder); intro (x : State); refine (fun h => ?_ : Fr 136315137 s x → _) ?_; clear_value x; rotate_left; subst x) | ((try lift_lets -underBinder); intro x; clear_value x) | apply Fr.ite | apply Fr.next State.modNvs_fr | apply Fr.next State.wrB_fr | apply Fr.next State.nvsSts_fr | apply Fr.next State.nvsDrain_fr | apply Fr.next State.nvsResult_fr | refine Fr.snd ‹_ = (_, _)› ?_ | refine Fr.fst ‹_ = (_, _)› ?_ | refine Fr.snd2 ‹_ = (_, _, _)› ?_ | refine Fr.via (by assumption) ?_ | split
  all_goals first | rfl | exact Fr.refl

theorem State.retireBlock_fr {s} : Fr 134217985 s (State.retireBlock s) := by
  unfold State.retireBlock
  with_reducible
    repeat' first | apply Fr.refl | assumption | ((try lift_lets -underBinder); intro (x : State); refine (fun h => ?_ : Fr 134217985 s x → _) ?_; clear_value x; rotate_left; subst x) | apply Fr.ite | apply Fr.next State.bump_fr | apply Fr.next State.logc_fr | refine Fr.snd ‹_ = (_, _)› ?_ | refine Fr.fst ‹_ = (_, _)› ?_ | refine Fr.snd2 ‹_ = (_, _, _)› ?_ | refine Fr.via (by assumption) ?_ | split
  all_goals first | rfl | exact Fr.refl

theorem State.spendBudget_fr {s} : Fr 134217985 s (State.spendBudget s) := by
  unfold State.spendBudget
  with_reducible
    repeat' first | apply Fr.refl | assumption | ((try lift_lets -underBinder); intro (x : State); refine (fun h => ?_ : Fr 134217985 s x → _) ?_; clear_value x; rotate_left; subst x) | ((try lift_lets -underBinder); intro x; clear_value x) | apply Fr.ite | apply Fr.next State.modLog_fr | apply Fr.next State.logc_fr | refine Fr.snd ‹_ = (_, _)› ?_ | refine Fr.fst ‹_ = (_, _)› ?_ | refine Fr.snd2 ‹_ = (_, _, _)› ?_ | refine Fr.via (by assumption) ?_ | split
  all_goals first | rfl | exact Fr.refl

theorem execBmsDone_fr {a0 s} : FrO 220210945 s (execBmsDone a0 s) := by
  unfold execBmsDone
  with_reducible
    repeat' first | apply FrO.next | apply FrO.ite | apply Fr.refl | assumption | apply Fr.ite | apply Fr.next State.retireBlock_fr | apply Fr.next State.wrB_fr | apply Fr.next State.modNvs_fr | apply Fr.next State.bmsSts_fr | apply Fr.next State.logc_fr | apply Fr.next State.bmsFail_fr | apply Fr.next State.bmsEffect_fr | apply Fr.next State.event_fr | apply Fr.next State.wr_fr | refine Fr.snd ‹_ = (_, _)› ?_ | refine Fr.fst ‹_ = (_, _)› ?_ | refine Fr.snd2 ‹_ = (_, _, _)› ?_ | refine Fr.via (by assumption) ?_ | split
  all_goals first | rfl | exact Fr.refl

theorem execBmsPatrol_fr {a0 s} : FrO 134217985 s (execBmsPatrol a0 s) := by
  unfold execBmsPatrol
  with_reducible
    repeat' first | apply FrO.next | apply FrO.ite | apply Fr.refl | assumption | apply Fr.ite | refine Fr.each ?_ (fun s _ => ?_) | apply Fr.next State.retireBlock_fr | refine Fr.snd ‹_ = (_, _)› ?_ | refine Fr.fst ‹_ = (_, _)› ?_ | refine Fr.snd2 ‹_ = (_, _, _)› ?_ | refine Fr.via (by assumption) ?_ | split
  all_goals first | rfl | exact Fr.refl

theorem execLifeSTick_fr {s} : FrO 136315137 s (execLifeSTick s) := by
  unfold execLifeSTick
  with_reducible
    repeat' first | apply FrO.next | apply FrO.ite | apply Fr.refl | assumption | apply Fr.ite | apply Fr.next State.modNvs_fr | apply Fr.next State.counterAdd_fr | refine Fr.snd ‹_ = (_, _)› ?_ | refine Fr.fst ‹_ = (_, _)› ?_ | refine Fr.snd2 ‹_ = (_, _, _)› ?_ | refine Fr.via (by assumption) ?_ | split
  all_goals first | rfl | exact Fr.refl

theorem execLogPageWrite_fr {a0 s} : FrO 136315137 s (execLogPageWrite a0 s) := by
  unfold execLogPageWrite
  with_reducible
    repeat' first | apply FrO.next | apply FrO.ite | apply Fr.refl | assumption | apply Fr.ite | apply Fr.next State.spendBudget_fr | apply Fr.next State.enqueue_fr | refine Fr.snd ‹_ = (_, _)› ?_ | refine Fr.fst ‹_ = (_, _)› ?_ | refine Fr.snd2 ‹_ = (_, _, _)› ?_ | refine Fr.via (by assumption) ?_ | split
  all_goals first | rfl | exact Fr.refl

theorem execNvsPageWrite_fr {s} : FrO 2097153 s (execNvsPageWrite s) := by
  unfold execNvsPageWrite
  with_reducible
    repeat' first | apply FrO.next | apply FrO.ite | apply Fr.refl | assumption | apply Fr.ite | apply Fr.next State.nvsSts_fr | apply Fr.next State.modNvs_fr | refine Fr.snd ‹_ = (_, _)› ?_ | refine Fr.fst ‹_ = (_, _)› ?_ | refine Fr.snd2 ‹_ = (_, _, _)› ?_ | refine Fr.via (by assumption) ?_ | split
  all_goals first | rfl | exact Fr.refl

theorem execNvsScrubPage_fr {a0 s} : FrO 136315137 s (execNvsScrubPage a0 s) := by
  unfold execNvsScrubPage
  with_reducible
    repeat' first | apply FrO.next | apply FrO.ite | apply Fr.refl | assumption | apply Fr.ite | apply Fr.next State.modNvs_fr | apply Fr.next State.enqueue_fr | apply Fr.next State.readTrouble_fr | apply Fr.next State.wr_fr | apply Fr.next State.count_fr | apply Fr.next State.wrB_fr | apply Fr.next State.logc_fr | refine Fr.snd ‹_ = (_, _)› ?_ | refine Fr.fst ‹_ = (_, _)› ?_ | refine Fr.snd2 ‹_ = (_, _, _)› ?_ | refine Fr.via (by assumption) ?_ | split
  all_goals first | rfl | exact Fr.refl

theorem execNvsScrubStart_fr {s} : FrO 2097153 s (execNvsScrubStart s) := by
  unfold execNvsScrubStart
  with_reducible
    repeat' first | apply FrO.next | apply FrO.ite | apply Fr.refl | assumption | apply Fr.ite | apply Fr.next State.modNvs_fr | apply Fr.next State.wr_fr | apply Fr.next State.wrB_fr | refine Fr.snd ‹_ = (_, _)› ?_ | refine Fr.fst ‹_ = (_, _)› ?_ | refine Fr.snd2 ‹_ = (_, _, _)› ?_ | refine Fr.via (by assumption) ?_ | split
  all_goals first | rfl | exact Fr.refl

theorem execNvsWriteDone_fr {s} : FrO 136315137 s (execNvsWriteDone s) := by
  unfold execNvsWriteDone
  with_reducible
    repeat' first | apply FrO.next | apply FrO.ite | apply Fr.refl | assumption | ((try lift_lets -underBinder); intro (x : State); refine (fun h => ?_ : Fr 136315137 s x → _) ?_; clear_value x; rotate_left; subst x) | ((try lift_lets -underBinder); intro x; clear_value x) | apply Fr.ite | apply Fr.next State.modNvs_fr | apply Fr.next State.commitPage_fr | apply Fr.next State.nvsSts_fr | apply Fr.next State.nvsDrain_fr | apply Fr.next State.nvsResult_fr | apply Fr.next State.logPageDone_fr | refine Fr.snd ‹_ = (_, _)› ?_ | refine Fr.fst ‹_ = (_, _)› ?_ | refine Fr.snd2 ‹_ = (_, _, _)› ?_ | refine Fr.via (by assumption) ?_ | split
  all_goals first | rfl | exact Fr.refl

theorem execPasswordLockoutEnd_fr {s} : FrO 1 s (execPasswordLockoutEnd s) := by
  unfold execPasswordLockoutEnd
  with_reducible
    repeat' first | apply FrO.next | apply FrO.ite | apply Fr.refl | assumption | apply Fr.ite | apply Fr.next State.wrB_fr | refine Fr.snd ‹_ = (_, _)› ?_ | refine Fr.fst ‹_ = (_, _)› ?_ | refine Fr.snd2 ‹_ = (_, _, _)› ?_ | refine Fr.via (by assumption) ?_ | split
  all_goals first | rfl | exact Fr.refl

theorem wrBmsCtl_fr {a0 a1 a2 s} : Fr 136315137 s (wrBmsCtl a0 a1 a2 s).2 := by
  unfold wrBmsCtl
  with_reducible
    repeat' first | apply Fr.refl | assumption | apply Fr.ite | apply Fr.ite2 | apply Fr.next ign28_fr | apply Fr.next okW_fr | apply Fr.next State.bmsCtl_fr | refine Fr.snd ‹_ = (_, _)› ?_ | refine Fr.fst ‹_ = (_, _)› ?_ | refine Fr.snd2 ‹_ = (_, _, _)› ?_ | refine Fr.via (by assumption) ?_ | split
  all_goals first | rfl | exact Fr.refl

theorem wrBmsReg_fr {a0 a1 a2 s} : Fr 134217985 s (wrBmsReg a0 a1 a2 s).2 := by
  unfold wrBmsReg
  with_reducible
    repeat' first | apply Fr.refl | assumption | apply Fr.ite | apply Fr.ite2 | apply Fr.next ign28_fr | apply Fr.next okW_fr | apply Fr.next State.plainWrite_fr | refine Fr.snd ‹_ = (_, _)› ?_ | refine Fr.fst ‹_ = (_, _)› ?_ | refine Fr.snd2 ‹_ = (_, _, _)› ?_ | refine Fr.via (by assumption) ?_ | split
  all_goals first | rfl | exact Fr.refl

theorem wrNvsCmd_fr {a0 a1 s} : Fr 136315137 s (wrNvsCmd a0 a1 s).2 := by
  unfold wrNvsCmd
  with_reducible
    repeat' first | apply Fr.refl | assumption | apply Fr.ite | apply Fr.ite2 | apply Fr.next okW_fr | apply Fr.next State.nvsCmd_fr | refine Fr.snd ‹_ = (_, _)› ?_ | refine Fr.fst ‹_ = (_, _)› ?_ | refine Fr.snd2 ‹_ = (_, _, _)› ?_ | refine Fr.via (by assumption) ?_ | split
  all_goals first | rfl | exact Fr.refl

theorem wrNvsLogCtl_fr {a0 s} : Fr 136315137 s (wrNvsLogCtl a0 s).2 := by
  unfold wrNvsLogCtl
  with_reducible
    repeat' first | apply Fr.refl | assumption | apply Fr.ite | apply Fr.ite2 | apply Fr.next okW_fr | apply Fr.next State.takePwd_fr | apply Fr.next State.nvsRefuse_fr | refine State.withPassword_fr (hk := fun s => ?_) ?_ ?_ | apply Fr.next State.nvsResult_fr | apply Fr.next State.clearFirstFault_fr | refine Fr.snd ‹_ = (_, _)› ?_ | refine Fr.fst ‹_ = (_, _)› ?_ | refine Fr.snd2 ‹_ = (_, _, _)› ?_ | refine Fr.via (by assumption) ?_ | split
  all_goals first | rfl | exact Fr.refl

theorem wrNvsPwd_fr {a0 a1 s} : Fr 1 s (wrNvsPwd a0 a1 s).2 := by
  unfold wrNvsPwd
  with_reducible
    repeat' first | apply Fr.refl | assumption | apply Fr.ite | apply Fr.ite2 | apply Fr.next okW_fr | apply Fr.next State.setReg_fr | refine Fr.snd ‹_ = (_, _)› ?_ | refine Fr.fst ‹_ = (_, _)› ?_ | refine Fr.snd2 ‹_ = (_, _, _)› ?_ | refine Fr.via (by assumption) ?_ | split
  all_goals first | rfl | exact Fr.refl

end Sys2Proof.Machine
end

