-- ==== Sys2Proof/Laws/FrameDrive.lean ====
section
/-! SUPPORT. The frame of every operation of Machine/Drive.lean. -/

namespace Sys2Proof.Machine

set_option linter.unusedTactic false
set_option linter.unreachableTactic false

theorem State.sendSync_fr {s a1 a2 a3 a4} : Fr 1048576 s (State.sendSync s a1 a2 a3 a4) := by
  induction a3 generalizing s a1 a2 a4 with
  | zero =>
    (unfold State.sendSync)
    with_reducible
      repeat' first | apply Fr.refl | ((try lift_lets -underBinder); intro (x : State); refine (fun h => ?_ : Fr 1048576 s x → _) ?_; clear_value x; rotate_left; subst x) | ((try lift_lets -underBinder); intro (x : _ × _ × State); refine (fun h => ?_ : Fr 1048576 s x.2.2 → _) ?_; clear_value x; rotate_left; subst x) | ((try lift_lets -underBinder); intro (x : _ × State); refine (fun h => ?_ : Fr 1048576 s x.2 → _) ?_; clear_value x; rotate_left; subst x) | ((try lift_lets -underBinder); intro (x : State × _); refine (fun h => ?_ : Fr 1048576 s x.1 → _) ?_; clear_value x; rotate_left; subst x) | ((try lift_lets -underBinder); intro (x : State → State); refine (fun h => ?_ : (∀ s, Fr 1048576 s (x s)) → _) ?_; clear_value x; rotate_left; subst x; intro s; (try simp only [])) | ((try lift_lets -underBinder); intro x; have : ∀ s, x s = x s := fun _ => rfl; clear this; subst x) | ((try lift_lets -underBinder); intro x; clear_value x)
    all_goals rfl
  | succ i ih =>
    (unfold State.sendSync)
    with_reducible
      repeat' first | apply Fr.refl | assumption | apply Fr.next ih | apply Fr.ite | apply Fr.next State.mirror_fr | refine Fr.snd ‹_ = (_, _)› ?_ | refine Fr.fst ‹_ = (_, _)› ?_ | refine Fr.snd2 ‹_ = (_, _, _)› ?_ | refine Fr.via (by assumption) ?_ | split
    all_goals rfl

theorem State.copyRow_fr {s a1 a2 a3} : Fr 1048576 s (State.copyRow s a1 a2 a3) := by
  unfold State.copyRow
  with_reducible
    repeat' first | apply Fr.refl | assumption | apply Fr.ite | apply Fr.next State.modLeaf_fr | apply Fr.next State.sendSync_fr | refine Fr.snd ‹_ = (_, _)› ?_ | refine Fr.fst ‹_ = (_, _)› ?_ | refine Fr.snd2 ‹_ = (_, _, _)› ?_ | refine Fr.via (by assumption) ?_ | split
  all_goals first | rfl | exact Fr.refl

theorem State.repairOver_fr {s} : Fr 134217985 s (State.repairOver s) := by
  unfold State.repairOver
  with_reducible
    repeat' first | apply Fr.refl | assumption | apply Fr.ite | apply Fr.next State.logOnce_fr | refine Fr.snd ‹_ = (_, _)› ?_ | refine Fr.fst ‹_ = (_, _)› ?_ | refine Fr.snd2 ‹_ = (_, _, _)› ?_ | refine Fr.via (by assumption) ?_ | split
  all_goals first | rfl | exact Fr.refl

theorem State.repairSts_fr {s} : Fr 134217985 s (State.repairSts s) := by
  unfold State.repairSts
  with_reducible
    repeat' first | apply Fr.refl | assumption | apply Fr.ite | apply Fr.next State.repairOver_fr | apply Fr.next State.wr_fr | refine Fr.foldl (fun s _ => ?_) _ ?_ | refine Fr.snd ‹_ = (_, _)› ?_ | refine Fr.fst ‹_ = (_, _)› ?_ | refine Fr.snd2 ‹_ = (_, _, _)› ?_ | refine Fr.via (by assumption) ?_ | split
  all_goals first | rfl | exact Fr.refl

theorem State.flushRepairs_fr {s} : Fr 1048576 s (State.flushRepairs s) := by
  unfold State.flushRepairs
  with_reducible
    repeat' first | apply Fr.refl | assumption | apply Fr.ite | apply Fr.next State.modLeaf_fr | refine Fr.each ?_ (fun s _ => ?_) | apply Fr.next State.mirror_fr | refine Fr.snd ‹_ = (_, _)› ?_ | refine Fr.fst ‹_ = (_, _)› ?_ | refine Fr.snd2 ‹_ = (_, _, _)› ?_ | refine Fr.via (by assumption) ?_ | split
  all_goals first | rfl | exact Fr.refl

theorem State.applyRepairs_fr {s a1 a2} : Fr 202375425 s (State.applyRepairs s a1 a2) := by
  unfold State.applyRepairs
  with_reducible
    repeat' first | apply Fr.refl | assumption | ((try lift_lets -underBinder); intro (x : State); refine (fun h => ?_ : Fr 202375425 s x → _) ?_; clear_value x; rotate_left; subst x) | ((try lift_lets -underBinder); intro x; have : ∀ s, x s = x s := fun _ => rfl; clear this; subst x) | ((try lift_lets -underBinder); intro x; clear_value x) | apply Fr.ite | apply Fr.next State.modLeaf_fr | refine Fr.each ?_ (fun s _ => ?_) | apply Fr.next State.hbmWr_fr | apply Fr.next State.copyRow_fr | apply Fr.next State.repairSts_fr | apply Fr.next State.flushRepairs_fr | refine Fr.snd ‹_ = (_, _)› ?_ | refine Fr.fst ‹_ = (_, _)› ?_ | refine Fr.snd2 ‹_ = (_, _, _)› ?_ | refine Fr.via (by assumption) ?_ | split
  all_goals first | rfl | exact Fr.refl

theorem State.vcomStep_fr {s a1} : Fr 4194305 s (State.vcomStep s a1) := by
  unfold State.vcomStep
  with_reducible
    repeat' first | apply Fr.refl | assumption | ((try lift_lets -underBinder); intro x; clear_value x) | apply Fr.ite | apply Fr.next State.modThm_fr | apply Fr.next State.wrI_fr | refine Fr.snd ‹_ = (_, _)› ?_ | refine Fr.fst ‹_ = (_, _)› ?_ | refine Fr.snd2 ‹_ = (_, _, _)› ?_ | refine Fr.via (by assumption) ?_ | split
  all_goals first | rfl | exact Fr.refl

theorem State.trimStart_fr {s a1} : Fr 4194339 s (State.trimStart s a1) := by
  unfold State.trimStart
  with_reducible
    repeat' first | apply Fr.refl | assumption | ((try lift_lets -underBinder); intro (x : State); refine (fun h => ?_ : Fr 4194339 s x → _) ?_; clear_value x; rotate_left; subst x) | ((try lift_lets -underBinder); intro x; clear_value x) | apply Fr.ite | apply Fr.next State.modPanel_fr | apply Fr.next State.wrEff_fr | apply Fr.next State.vcomStep_fr | apply Fr.next State.latch_fr | refine Fr.snd ‹_ = (_, _)› ?_ | refine Fr.fst ‹_ = (_, _)› ?_ | refine Fr.snd2 ‹_ = (_, _, _)› ?_ | refine Fr.via (by assumption) ?_ | split
  all_goals first | rfl | exact Fr.refl

theorem State.cycleStart_fr {s a1} : Fr 138412323 s (State.cycleStart s a1) := by
  unfold State.cycleStart
  with_reducible
    repeat' first | apply Fr.refl | assumption | ((try lift_lets -underBinder); intro x; clear_value x) | apply Fr.ite | apply Fr.next State.wrB_fr | apply Fr.next State.modPanel_fr | apply Fr.next State.wr_fr | apply Fr.next State.logc_fr | apply Fr.next State.event_fr | apply Fr.next State.latch_fr | apply Fr.next State.trimStart_fr | refine Fr.snd ‹_ = (_, _)› ?_ | refine Fr.fst ‹_ = (_, _)› ?_ | refine Fr.snd2 ‹_ = (_, _, _)› ?_ | refine Fr.via (by assumption) ?_ | split
  all_goals first | rfl | exact Fr.refl

theorem State.decideBand_fr {s a1} : Fr 1 s (State.decideBand s a1) := by
  unfold State.decideBand
  with_reducible
    repeat' first | apply Fr.refl | assumption | apply Fr.ite | apply Fr.next State.wr_fr | refine Fr.snd ‹_ = (_, _)› ?_ | refine Fr.fst ‹_ = (_, _)› ?_ | refine Fr.snd2 ‹_ = (_, _, _)› ?_ | refine Fr.via (by assumption) ?_ | split
  all_goals first | rfl | exact Fr.refl

theorem State.healRow_fr {s a1 a2} : Fr 67108864 s (State.healRow s a1 a2) := by
  unfold State.healRow
  with_reducible
    repeat' first | apply Fr.refl | assumption | ((try lift_lets -underBinder); intro x; clear_value x) | apply Fr.ite | refine Fr.each ?_ (fun s _ => ?_) | apply Fr.next State.hbmWr_fr | refine Fr.snd ‹_ = (_, _)› ?_ | refine Fr.fst ‹_ = (_, _)› ?_ | refine Fr.snd2 ‹_ = (_, _, _)› ?_ | refine Fr.via (by assumption) ?_ | split
  all_goals first | rfl | exact Fr.refl

theorem State.noteResidue_fr {s a1 a2} : Fr 33 s (State.noteResidue s a1 a2) := by
  unfold State.noteResidue
  with_reducible
    repeat' first | apply Fr.refl | assumption | ((try lift_lets -underBinder); intro (x : State); refine (fun h => ?_ : Fr 33 s x → _) ?_; clear_value x; rotate_left; subst x) | ((try lift_lets -underBinder); intro x; clear_value x) | apply Fr.ite | apply Fr.next State.modPanel_fr | apply Fr.next State.wr_fr | refine Fr.snd ‹_ = (_, _)› ?_ | refine Fr.fst ‹_ = (_, _)› ?_ | refine Fr.snd2 ‹_ = (_, _, _)› ?_ | refine Fr.via (by assumption) ?_ | split
  all_goals first | rfl | exact Fr.refl

theorem State.noteSat_fr {s a1 a2 a3} : Fr 134218017 s (State.noteSat s a1 a2 a3) := by
  unfold State.noteSat
  with_reducible
    repeat' first | apply Fr.refl | assumption | ((try lift_lets -underBinder); intro (x : State); refine (fun h => ?_ : Fr 134218017 s x → _) ?_; clear_value x; rotate_left; subst x) | apply Fr.ite | apply Fr.next State.bump_fr | apply Fr.next State.modPanel_fr | apply Fr.next State.logc_fr | apply Fr.next State.event_fr | refine Fr.snd ‹_ = (_, _)› ?_ | refine Fr.fst ‹_ = (_, _)› ?_ | refine Fr.snd2 ‹_ = (_, _, _)› ?_ | refine Fr.via (by assumption) ?_ | split
  all_goals first | rfl | exact Fr.refl

theorem State.putResidue_fr {s a1 a2 a3 a4} : Fr 67108864 s (State.putResidue s a1 a2 a3 a4) := by
  unfold State.putResidue
  with_reducible
    repeat' first | apply Fr.refl | assumption | apply Fr.ite | apply Fr.next State.hbmWr_fr | refine Fr.snd ‹_ = (_, _)› ?_ | refine Fr.fst ‹_ = (_, _)› ?_ | refine Fr.snd2 ‹_ = (_, _, _)› ?_ | refine Fr.via (by assumption) ?_ | split
  all_goals first | rfl | exact Fr.refl

theorem State.refuseWave_fr {s a1 a2} : Fr 134217985 s (State.refuseWave s a1 a2) := by
  unfold State.refuseWave
  with_reducible
    repeat' first | apply Fr.refl | assumption | ((try lift_lets -underBinder); intro (x : State); refine (fun h => ?_ : Fr 134217985 s x → _) ?_; clear_value x; rotate_left; subst x) | apply Fr.ite | apply Fr.next State.wr_fr | apply Fr.next State.wrB_fr | apply Fr.next State.logc_fr | apply Fr.next State.event_fr | refine Fr.snd ‹_ = (_, _)› ?_ | refine Fr.fst ‹_ = (_, _)› ?_ | refine Fr.snd2 ‹_ = (_, _, _)› ?_ | refine Fr.via (by assumption) ?_ | split
  all_goals first | rfl | exact Fr.refl

theorem State.resVal_fr {s a1 a2} : Fr 16777216 s (State.resVal s a1 a2).2 := by
  unfold State.resVal
  with_reducible
    repeat' first | apply Fr.refl | assumption | ((try lift_lets -underBinder); intro x; clear_value x) | apply Fr.ite | apply Fr.ite2 | apply Fr.next State.takeFree_fr | refine Fr.snd ‹_ = (_, _)› ?_ | refine Fr.fst ‹_ = (_, _)› ?_ | refine Fr.snd2 ‹_ = (_, _, _)› ?_ | refine Fr.via (by assumption) ?_ | split
  all_goals first | rfl | exact Fr.refl

theorem State.settleOne_fr {s a1 a2 a3 a4 a5} : Fr 67108897 s (State.settleOne s a1 a2 a3 a4 a5).1 := by
  unfold State.settleOne
  with_reducible
    repeat' first | apply Fr.refl | assumption | apply Fr.ite | apply Fr.ite2 | apply Fr.next State.putResidue_fr | apply Fr.next State.noteResidue_fr | refine Fr.snd ‹_ = (_, _)› ?_ | refine Fr.fst ‹_ = (_, _)› ?_ | refine Fr.snd2 ‹_ = (_, _, _)› ?_ | refine Fr.via (by assumption) ?_ | split
  all_goals first | rfl | exact Fr.refl

theorem State.settleRow_fr {s a1 a2 a3 a4 a5} : Fr 67108897 s (State.settleRow s a1 a2 a3 a4 a5).1 := by
  induction a5 generalizing s a1 a2 a3 a4 with
  | nil =>
    (unfold State.settleRow)
    with_reducible
      repeat' first | apply Fr.refl | ((try lift_lets -underBinder); intro (x : State); refine (fun h => ?_ : Fr 67108897 s x → _) ?_; clear_value x; rotate_left; subst x) | ((try lift_lets -underBinder); intro (x : _ × _ × State); refine (fun h => ?_ : Fr 67108897 s x.2.2 → _) ?_; clear_value x; rotate_left; subst x) | ((try lift_lets -underBinder); intro (x : _ × State); refine (fun h => ?_ : Fr 67108897 s x.2 → _) ?_; clear_value x; rotate_left; subst x) | ((try lift_lets -underBinder); intro (x : State × _); refine (fun h => ?_ : Fr 67108897 s x.1 → _) ?_; clear_value x; rotate_left; subst x) | ((try lift_lets -underBinder); intro (x : State → State); refine (fun h => ?_ : (∀ s, Fr 67108897 s (x s)) → _) ?_; clear_value x; rotate_left; subst x; intro s; (try simp only [])) | ((try lift_lets -underBinder); intro x; have : ∀ s, x s = x s := fun _ => rfl; clear this; subst x) | ((try lift_lets -underBinder); intro x; clear_value x)
    all_goals rfl
  | cons x xs ih =>
    (unfold State.settleRow)
    with_reducible
      repeat' first | apply Fr.refl | assumption | apply Fr.next ih | apply Fr.ite | apply Fr.ite2 | apply Fr.next State.settleOne_fr | refine Fr.snd ‹_ = (_, _)› ?_ | refine Fr.fst ‹_ = (_, _)› ?_ | refine Fr.snd2 ‹_ = (_, _, _)› ?_ | refine Fr.via (by assumption) ?_ | split
    all_goals rfl

theorem State.rowWriteback_fr {s a1 a2} : Fr 202385185 s (State.rowWriteback s a1 a2) := by
  unfold State.rowWriteback
  with_reducible
    repeat' first | apply Fr.refl | assumption | ((try lift_lets -underBinder); intro (x : State); refine (fun h => ?_ : Fr 202385185 s x → _) ?_; clear_value x; rotate_left; subst x) | apply Fr.ite | apply Fr.next State.rtRead_fr | apply Fr.next State.settleRow_fr | apply Fr.next State.healRow_fr | apply Fr.next State.modPanel_fr | apply Fr.next State.applyRepairs_fr | apply Fr.next State.noteSat_fr | refine Fr.snd ‹_ = (_, _)› ?_ | refine Fr.fst ‹_ = (_, _)› ?_ | refine Fr.snd2 ‹_ = (_, _, _)› ?_ | refine Fr.via (by assumption) ?_ | split
  all_goals first | rfl | exact Fr.refl

theorem State.setWaveRails_fr {s a1 a2} : Fr 138412321 s (State.setWaveRails s a1 a2) := by
  unfold State.setWaveRails
  with_reducible
    repeat' first | apply Fr.refl | assumption | ((try lift_lets -underBinder); intro (x : State); refine (fun h => ?_ : Fr 138412321 s x → _) ?_; clear_value x; rotate_left; subst x) | ((try lift_lets -underBinder); intro x; clear_value x) | apply Fr.ite | apply Fr.next State.vcomStep_fr | apply Fr.next State.modPanel_fr | apply Fr.next State.wrB_fr | apply Fr.next State.logc_fr | refine Fr.snd ‹_ = (_, _)› ?_ | refine Fr.fst ‹_ = (_, _)› ?_ | refine Fr.snd2 ‹_ = (_, _, _)› ?_ | refine Fr.via (by assumption) ?_ | split
  all_goals first | rfl | exact Fr.refl

theorem State.showTp_fr {s a1} : Fr 1 s (State.showTp s a1) := by
  unfold State.showTp
  with_reducible
    repeat' first | apply Fr.refl | assumption | ((try lift_lets -underBinder); intro (x : State); refine (fun h => ?_ : Fr 1 s x → _) ?_; clear_value x; rotate_left; subst x) | apply Fr.ite | apply Fr.next State.wrI_fr | apply Fr.next State.wrB_fr | refine Fr.snd ‹_ = (_, _)› ?_ | refine Fr.fst ‹_ = (_, _)› ?_ | refine Fr.snd2 ‹_ = (_, _, _)› ?_ | refine Fr.via (by assumption) ?_ | split
  all_goals first | rfl | exact Fr.refl

theorem State.zeroResidues_fr {s} : Fr 201326592 s (State.zeroResidues s) := by
  unfold State.zeroResidues
  with_reducible
    repeat' first | apply Fr.refl | assumption | ((try lift_lets -underBinder); intro x; clear_value x) | apply Fr.ite | apply Fr.next State.clearHbm_fr | refine Fr.snd ‹_ = (_, _)› ?_ | refine Fr.fst ‹_ = (_, _)› ?_ | refine Fr.snd2 ‹_ = (_, _, _)› ?_ | refine Fr.via (by assumption) ?_ | split
  all_goals first | rfl | exact Fr.refl

theorem State.startResidues_fr {s} : Fr 201326624 s (State.startResidues s) := by
  unfold State.startResidues
  with_reducible
    repeat' first | apply Fr.refl | assumption | apply Fr.ite | apply Fr.next State.modPanel_fr | apply Fr.next State.zeroResidues_fr | refine Fr.snd ‹_ = (_, _)› ?_ | refine Fr.fst ‹_ = (_, _)› ?_ | refine Fr.snd2 ‹_ = (_, _, _)› ?_ | refine Fr.via (by assumption) ?_ | split
  all_goals first | rfl | exact Fr.refl

theorem State.wrWfCtl_fr {a0 a1 a2 s} : Fr 134218017 s (State.wrWfCtl a0 a1 a2 s).2 := by
  unfold State.wrWfCtl
  with_reducible
    repeat' first | apply Fr.refl | assumption | ((try lift_lets -underBinder); intro (x : State); refine (fun h => ?_ : Fr 134218017 s x → _) ?_; clear_value x; rotate_left; subst x) | apply Fr.ite | apply Fr.ite2 | apply Fr.next okW_fr | apply Fr.next ign28_fr | apply Fr.next State.wr_fr | apply Fr.next State.wrB_fr | apply Fr.next State.modPanel_fr | refine Fr.snd ‹_ = (_, _)› ?_ | refine Fr.fst ‹_ = (_, _)› ?_ | refine Fr.snd2 ‹_ = (_, _, _)› ?_ | refine Fr.via (by assumption) ?_ | split
  all_goals first | rfl | exact Fr.refl

theorem execRailChangeWindow_fr {s} : FrO 138412321 s (execRailChangeWindow s) := by
  unfold execRailChangeWindow
  with_reducible
    repeat' first | apply FrO.next | apply FrO.ite | apply Fr.refl | assumption | apply Fr.ite | refine Fr.each ?_ (fun s _ => ?_) | apply Fr.next State.setWaveRails_fr | refine Fr.snd ‹_ = (_, _)› ?_ | refine Fr.fst ‹_ = (_, _)› ?_ | refine Fr.snd2 ‹_ = (_, _, _)› ?_ | refine Fr.via (by assumption) ?_ | split
  all_goals first | rfl | exact Fr.refl

theorem execResidueWriteback_fr {a0 a1 s} : FrO 202385185 s (execResidueWriteback a0 a1 s) := by
  unfold execResidueWriteback
  with_reducible
    repeat' first | apply FrO.next | apply FrO.ite | apply Fr.refl | assumption | apply Fr.ite | apply Fr.next State.rowWriteback_fr | refine Fr.snd ‹_ = (_, _)› ?_ | refine Fr.fst ‹_ = (_, _)› ?_ | refine Fr.snd2 ‹_ = (_, _, _)› ?_ | refine Fr.via (by assumption) ?_ | split
  all_goals first | rfl | exact Fr.refl

theorem execWaveformCheckDone_fr {a0 s} : FrO 201336609 s (execWaveformCheckDone a0 s) := by
  unfold execWaveformCheckDone
  with_reducible
    repeat' first | apply FrO.next | apply FrO.ite | apply Fr.refl | assumption | ((try lift_lets -underBinder); intro (x : State); refine (fun h => ?_ : Fr 201336609 s x → _) ?_; clear_value x; rotate_left; subst x) | ((try lift_lets -underBinder); intro x; clear_value x) | apply Fr.ite | apply Fr.next State.modPanel_fr | refine Fr.next (State.readFault_fr (by assumption)) ?_ ?_ | apply Fr.next State.refuseWave_fr | apply Fr.next State.bump_fr | refine Fr.snd ‹_ = (_, _)› ?_ | refine Fr.fst ‹_ = (_, _)› ?_ | refine Fr.snd2 ‹_ = (_, _, _)› ?_ | refine Fr.via (by assumption) ?_ | split
  all_goals first | rfl | exact Fr.refl

theorem wrGateCtl_fr {a0 a1 a2 s} : Fr 134217985 s (wrGateCtl a0 a1 a2 s).2 := by
  unfold wrGateCtl
  with_reducible
    repeat' first | apply Fr.refl | assumption | apply Fr.ite | apply Fr.ite2 | apply Fr.next ign28_fr | apply Fr.next okW_fr | apply Fr.next State.wr_fr | apply Fr.next ignCode_fr | refine Fr.snd ‹_ = (_, _)› ?_ | refine Fr.fst ‹_ = (_, _)› ?_ | refine Fr.snd2 ‹_ = (_, _, _)› ?_ | refine Fr.via (by assumption) ?_ | split
  all_goals first | rfl | exact Fr.refl

theorem wrResAddr_fr {a0 a1 a2 a3 s} : Fr 134217985 s (wrResAddr a0 a1 a2 a3 s).2 := by
  unfold wrResAddr
  with_reducible
    repeat' first | apply Fr.refl | assumption | apply Fr.ite | apply Fr.ite2 | apply Fr.next ign28_fr | apply Fr.next okW_fr | apply Fr.next State.plainWrite_fr | refine Fr.snd ‹_ = (_, _)› ?_ | refine Fr.fst ‹_ = (_, _)› ?_ | refine Fr.snd2 ‹_ = (_, _, _)› ?_ | refine Fr.via (by assumption) ?_ | split
  all_goals first | rfl | exact Fr.refl

theorem wrWfAddr_fr {a0 a1 a2 a3 s} : Fr 134217985 s (wrWfAddr a0 a1 a2 a3 s).2 := by
  unfold wrWfAddr
  with_reducible
    repeat' first | apply Fr.refl | assumption | apply Fr.ite | apply Fr.ite2 | apply Fr.next ign28_fr | apply Fr.next okW_fr | apply Fr.next State.plainWrite_fr | refine Fr.snd ‹_ = (_, _)› ?_ | refine Fr.fst ‹_ = (_, _)› ?_ | refine Fr.snd2 ‹_ = (_, _, _)› ?_ | refine Fr.via (by assumption) ?_ | split
  all_goals first | rfl | exact Fr.refl

end Sys2Proof.Machine
end

