-- ==== Sys2Proof/Laws/FrameLink.lean ====
section
/-! SUPPORT. The frame of every operation of Machine/Link.lean. -/

namespace Sys2Proof.Machine

set_option linter.unusedTactic false
set_option linter.unreachableTactic false

theorem State.badReport_fr {s a1} : Fr 134217985 s (State.badReport s a1) := by
  unfold State.badReport
  with_reducible
    repeat' first | apply Fr.refl | assumption | apply Fr.ite | apply Fr.next State.event_fr | apply Fr.next State.bump_fr | refine Fr.snd ‹_ = (_, _)› ?_ | refine Fr.fst ‹_ = (_, _)› ?_ | refine Fr.snd2 ‹_ = (_, _, _)› ?_ | refine Fr.via (by assumption) ?_ | split
  all_goals first | rfl | exact Fr.refl

theorem State.ctrlSts_fr {s a1 a2 a3} : Fr 1 s (State.ctrlSts s a1 a2 a3) := by
  unfold State.ctrlSts
  with_reducible
    repeat' first | apply Fr.refl | assumption | ((try lift_lets -underBinder); intro x; clear_value x) | apply Fr.ite | apply Fr.next State.wr_fr | refine Fr.snd ‹_ = (_, _)› ?_ | refine Fr.fst ‹_ = (_, _)› ?_ | refine Fr.snd2 ‹_ = (_, _, _)› ?_ | refine Fr.via (by assumption) ?_ | split
  all_goals first | rfl | exact Fr.refl

theorem State.wrBit_fr {s a1 a2 a3 a4 a5} : Fr 1 s (State.wrBit s a1 a2 a3 a4 a5) := by
  unfold State.wrBit
  with_reducible
    repeat' first | apply Fr.refl | assumption | ((try lift_lets -underBinder); intro x; clear_value x) | apply Fr.ite | apply Fr.next State.wr_fr | refine Fr.snd ‹_ = (_, _)› ?_ | refine Fr.fst ‹_ = (_, _)› ?_ | refine Fr.snd2 ‹_ = (_, _, _)› ?_ | refine Fr.via (by assumption) ?_ | split
  all_goals first | rfl | exact Fr.refl

theorem State.failGroup_fr {s a1} : Fr 134217985 s (State.failGroup s a1) := by
  unfold State.failGroup
  with_reducible
    repeat' first | apply Fr.refl | assumption | ((try lift_lets -underBinder); intro (x : State); refine (fun h => ?_ : Fr 134217985 s x → _) ?_; clear_value x; rotate_left; subst x) | ((try lift_lets -underBinder); intro x; clear_value x) | apply Fr.ite | apply Fr.next State.wrBit_fr | apply Fr.next State.wrB_fr | apply Fr.next State.logc_fr | apply Fr.next State.event_fr | refine Fr.snd ‹_ = (_, _)› ?_ | refine Fr.fst ‹_ = (_, _)› ?_ | refine Fr.snd2 ‹_ = (_, _, _)› ?_ | refine Fr.via (by assumption) ?_ | split
  all_goals first | rfl | exact Fr.refl

theorem State.fitGroup_fr {s a1} : Fr 134217985 s (State.fitGroup s a1) := by
  unfold State.fitGroup
  with_reducible
    repeat' first | apply Fr.refl | assumption | ((try lift_lets -underBinder); intro x; clear_value x) | apply Fr.ite | apply Fr.next State.failGroup_fr | refine Fr.snd ‹_ = (_, _)› ?_ | refine Fr.fst ‹_ = (_, _)› ?_ | refine Fr.snd2 ‹_ = (_, _, _)› ?_ | refine Fr.via (by assumption) ?_ | split
  all_goals first | rfl | exact Fr.refl

theorem State.sendLine_fr {s a1 a2 a3 a4 a5 a6} : Fr 1048576 s (State.sendLine s a1 a2 a3 a4 a5 a6) := by
  unfold State.sendLine
  with_reducible
    repeat' first | apply Fr.refl | assumption | ((try lift_lets -underBinder); intro x; clear_value x) | apply Fr.ite | apply Fr.next State.mirror_fr | refine Fr.snd ‹_ = (_, _)› ?_ | refine Fr.fst ‹_ = (_, _)› ?_ | refine Fr.snd2 ‹_ = (_, _, _)› ?_ | refine Fr.via (by assumption) ?_ | split
  all_goals first | rfl | exact Fr.refl

theorem State.formDigest_fr {s a1 a2 a3 a4 a5} : Fr 1064960 s (State.formDigest s a1 a2 a3 a4 a5) := by
  unfold State.formDigest
  with_reducible
    repeat' first | apply Fr.refl | assumption | ((try lift_lets -underBinder); intro x; clear_value x) | apply Fr.ite | apply Fr.next State.sendLine_fr | apply Fr.next State.modRim_fr | refine Fr.snd ‹_ = (_, _)› ?_ | refine Fr.fst ‹_ = (_, _)› ?_ | refine Fr.snd2 ‹_ = (_, _, _)› ?_ | refine Fr.via (by assumption) ?_ | split
  all_goals first | rfl | exact Fr.refl

theorem State.initMaps_fr {s} : Fr 1 s (State.initMaps s) := by
  unfold State.initMaps
  with_reducible
    repeat' first | apply Fr.refl | assumption | ((try lift_lets -underBinder); intro (x : State); refine (fun h => ?_ : Fr 1 s x → _) ?_; clear_value x; rotate_left; subst x) | ((try lift_lets -underBinder); intro x; clear_value x) | apply Fr.ite | refine Fr.each ?_ (fun s _ => ?_) | apply Fr.next State.wrB_fr | apply Fr.next State.wr_fr | refine Fr.snd ‹_ = (_, _)› ?_ | refine Fr.fst ‹_ = (_, _)› ?_ | refine Fr.snd2 ‹_ = (_, _, _)› ?_ | refine Fr.via (by assumption) ?_ | split
  all_goals first | rfl | exact Fr.refl

theorem State.panelRate_fr {s a1 a2} : Fr 1 s (State.panelRate s a1 a2) := by
  unfold State.panelRate
  with_reducible
    repeat' first | apply Fr.refl | assumption | apply Fr.ite | refine Fr.each ?_ (fun s _ => ?_) | apply Fr.next State.panelTaps_fr | apply Fr.next State.wr_fr | refine Fr.snd ‹_ = (_, _)› ?_ | refine Fr.fst ‹_ = (_, _)› ?_ | refine Fr.snd2 ‹_ = (_, _, _)› ?_ | refine Fr.via (by assumption) ?_ | split
  all_goals first | rfl | exact Fr.refl

theorem State.initLanes_fr {s} : Fr 131073 s (State.initLanes s) := by
  unfold State.initLanes
  with_reducible
    repeat' first | apply Fr.refl | assumption | ((try lift_lets -underBinder); intro (x : State); refine (fun h => ?_ : Fr 131073 s x → _) ?_; clear_value x; rotate_left; subst x) | apply Fr.ite | apply Fr.next State.initMaps_fr | refine Fr.each ?_ (fun s _ => ?_) | apply Fr.next State.modLan_fr | apply Fr.next State.panelRate_fr | refine Fr.snd ‹_ = (_, _)› ?_ | refine Fr.fst ‹_ = (_, _)› ?_ | refine Fr.snd2 ‹_ = (_, _, _)› ?_ | refine Fr.via (by assumption) ?_ | split
  all_goals first | rfl | exact Fr.refl

theorem State.queueCtrl_fr {s a1 a2 a3 a4} : Fr 32768 s (State.queueCtrl s a1 a2 a3 a4) := by
  unfold State.queueCtrl
  with_reducible
    repeat' first | apply Fr.refl | assumption | ((try lift_lets -underBinder); intro x; clear_value x) | apply Fr.ite | apply Fr.next State.modScan_fr | refine Fr.snd ‹_ = (_, _)› ?_ | refine Fr.fst ‹_ = (_, _)› ?_ | refine Fr.snd2 ‹_ = (_, _, _)› ?_ | refine Fr.via (by assumption) ?_ | split
  all_goals first | rfl | exact Fr.refl

theorem State.setLanes_fr {s a1 a2} : Fr 134250753 s (State.setLanes s a1 a2) := by
  unfold State.setLanes
  with_reducible
    repeat' first | apply Fr.refl | assumption | ((try lift_lets -underBinder); intro (x : State); refine (fun h => ?_ : Fr 134250753 s x → _) ?_; clear_value x; rotate_left; subst x) | ((try lift_lets -underBinder); intro x; clear_value x) | apply Fr.ite | apply Fr.next State.wrB_fr | apply Fr.next State.wr_fr | refine Fr.foldl (fun s _ => ?_) _ ?_ | apply Fr.next State.wrBit_fr | apply Fr.next State.fitGroup_fr | apply Fr.next State.queueCtrl_fr | refine Fr.snd ‹_ = (_, _)› ?_ | refine Fr.fst ‹_ = (_, _)› ?_ | refine Fr.snd2 ‹_ = (_, _, _)› ?_ | refine Fr.via (by assumption) ?_ | split
  all_goals first | rfl | exact Fr.refl

theorem State.laneLocks_fr {s a1 a2} : Fr 134250785 s (State.laneLocks s a1 a2) := by
  unfold State.laneLocks
  with_reducible
    repeat' first | apply Fr.refl | assumption | ((try lift_lets -underBinder); intro (x : State); refine (fun h => ?_ : Fr 134250785 s x → _) ?_; clear_value x; rotate_left; subst x) | ((try lift_lets -underBinder); intro x; clear_value x) | apply Fr.ite | apply Fr.next State.wr_fr | apply Fr.next State.modPanel_fr | refine Fr.foldl (fun s _ => ?_) _ ?_ | apply Fr.next State.event_fr | refine Fr.each ?_ (fun s _ => ?_) | apply Fr.next State.logc_fr | apply Fr.next State.setLanes_fr | refine Fr.snd ‹_ = (_, _)› ?_ | refine Fr.fst ‹_ = (_, _)› ?_ | refine Fr.snd2 ‹_ = (_, _, _)› ?_ | refine Fr.via (by assumption) ?_ | split
  all_goals first | rfl | exact Fr.refl

theorem State.markFlag_fr {s a1 a2} : Fr 134217985 s (State.markFlag s a1 a2) := by
  unfold State.markFlag
  with_reducible
    repeat' first | apply Fr.refl | assumption | ((try lift_lets -underBinder); intro x; clear_value x) | apply Fr.ite | apply Fr.next State.logOnce_fr | apply Fr.next State.bump_fr | refine Fr.snd ‹_ = (_, _)› ?_ | refine Fr.fst ‹_ = (_, _)› ?_ | refine Fr.snd2 ‹_ = (_, _, _)› ?_ | refine Fr.via (by assumption) ?_ | split
  all_goals first | rfl | exact Fr.refl

theorem State.settleSent_fr {s a1 a2} : Fr 16384 s (State.settleSent s a1 a2) := by
  unfold State.settleSent
  with_reducible
    repeat' first | apply Fr.refl | assumption | apply Fr.ite | apply Fr.next State.modRim_fr | refine Fr.snd ‹_ = (_, _)› ?_ | refine Fr.fst ‹_ = (_, _)› ?_ | refine Fr.snd2 ‹_ = (_, _, _)› ?_ | refine Fr.via (by assumption) ?_ | split
  all_goals first | rfl | exact Fr.refl

theorem State.unprovenLine_fr {s a1 a2 a3 a4} : Fr 134234369 s (State.unprovenLine s a1 a2 a3 a4) := by
  unfold State.unprovenLine
  with_reducible
    repeat' first | apply Fr.refl | assumption | ((try lift_lets -underBinder); intro (x : State); refine (fun h => ?_ : Fr 134234369 s x → _) ?_; clear_value x; rotate_left; subst x) | apply Fr.ite | apply Fr.next State.bump_fr | apply Fr.next State.wrB_fr | apply Fr.next State.wr_fr | apply Fr.next State.modRim_fr | apply Fr.next State.logOnce_fr | refine Fr.snd ‹_ = (_, _)› ?_ | refine Fr.fst ‹_ = (_, _)› ?_ | refine Fr.snd2 ‹_ = (_, _, _)› ?_ | refine Fr.via (by assumption) ?_ | split
  all_goals first | rfl | exact Fr.refl

theorem State.lineReport_fr {s a1 a2} : Fr 135315745 s (State.lineReport s a1 a2) := by
  unfold State.lineReport
  with_reducible
    repeat' first | apply Fr.refl | assumption | ((try lift_lets -underBinder); intro (x : State); refine (fun h => ?_ : Fr 135315745 s x → _) ?_; clear_value x; rotate_left; subst x) | ((try lift_lets -underBinder); intro x; clear_value x) | apply Fr.ite | apply Fr.next State.bump_fr | apply Fr.next State.badReport_fr | apply Fr.next State.modLeaf_fr | apply Fr.next State.markFlag_fr | apply Fr.next State.logOnce_fr | apply Fr.next State.settleSent_fr | apply Fr.next State.modRim_fr | apply Fr.next State.unprovenLine_fr | apply Fr.next State.laneLocks_fr | refine Fr.snd ‹_ = (_, _)› ?_ | refine Fr.fst ‹_ = (_, _)› ?_ | refine Fr.snd2 ‹_ = (_, _, _)› ?_ | refine Fr.via (by assumption) ?_ | split
  all_goals first | rfl | exact Fr.refl

theorem State.queueAll_fr {s a1 a2} : Fr 32768 s (State.queueAll s a1 a2) := by
  unfold State.queueAll
  with_reducible
    repeat' first | apply Fr.refl | assumption | apply Fr.ite | refine Fr.each ?_ (fun s _ => ?_) | apply Fr.next State.queueCtrl_fr | refine Fr.snd ‹_ = (_, _)› ?_ | refine Fr.fst ‹_ = (_, _)› ?_ | refine Fr.snd2 ‹_ = (_, _, _)› ?_ | refine Fr.via (by assumption) ?_ | split
  all_goals first | rfl | exact Fr.refl

theorem State.readmitLanes_fr {s} : Fr 134250753 s (State.readmitLanes s) := by
  unfold State.readmitLanes
  with_reducible
    repeat' first | apply Fr.refl | assumption | ((try lift_lets -underBinder); intro x; clear_value x) | apply Fr.ite | refine Fr.each ?_ (fun s _ => ?_) | apply Fr.next State.modScan_fr | apply Fr.next State.setLanes_fr | refine Fr.snd ‹_ = (_, _)› ?_ | refine Fr.fst ‹_ = (_, _)› ?_ | refine Fr.snd2 ‹_ = (_, _, _)› ?_ | refine Fr.via (by assumption) ?_ | split
  all_goals first | rfl | exact Fr.refl

theorem State.reportMissing_fr {s a1 a2} : Fr 135282945 s (State.reportMissing s a1 a2) := by
  unfold State.reportMissing
  with_reducible
    repeat' first | apply Fr.refl | assumption | ((try lift_lets -underBinder); intro (x : State); refine (fun h => ?_ : Fr 135282945 s x → _) ?_; clear_value x; rotate_left; subst x) | ((try lift_lets -underBinder); intro x; clear_value x) | apply Fr.ite | apply Fr.next State.modLeaf_fr | apply Fr.next State.settleSent_fr | apply Fr.next State.unprovenLine_fr | refine Fr.snd ‹_ = (_, _)› ?_ | refine Fr.fst ‹_ = (_, _)› ?_ | refine Fr.snd2 ‹_ = (_, _, _)› ?_ | refine Fr.via (by assumption) ?_ | split
  all_goals first | rfl | exact Fr.refl

theorem State.txPacket_fr {s a1 a2} : Fr 16941056 s (State.txPacket s a1 a2) := by
  unfold State.txPacket
  with_reducible
    repeat' first | apply Fr.refl | assumption | apply Fr.ite | apply Fr.next State.sendPacket_fr | apply Fr.next State.modScan_fr | apply Fr.next State.startMap_fr | refine Fr.snd ‹_ = (_, _)› ?_ | refine Fr.fst ‹_ = (_, _)› ?_ | refine Fr.snd2 ‹_ = (_, _, _)› ?_ | refine Fr.via (by assumption) ?_ | split
  all_goals first | rfl | exact Fr.refl

theorem State.sendCtrl_fr {s a1 a2} : Fr 17989632 s (State.sendCtrl s a1 a2) := by
  unfold State.sendCtrl
  with_reducible
    repeat' first | apply Fr.refl | assumption | ((try lift_lets -underBinder); intro (x : State); refine (fun h => ?_ : Fr 17989632 s x → _) ?_; clear_value x; rotate_left; subst x) | apply Fr.ite | apply Fr.next State.txPacket_fr | apply Fr.next State.modScan_fr | apply Fr.next State.modLeaf_fr | refine Fr.snd ‹_ = (_, _)› ?_ | refine Fr.fst ‹_ = (_, _)› ?_ | refine Fr.snd2 ‹_ = (_, _, _)› ?_ | refine Fr.via (by assumption) ?_ | split
  all_goals first | rfl | exact Fr.refl

theorem State.setRate_fr {s a1 a2} : Fr 134217985 s (State.setRate s a1 a2) := by
  unfold State.setRate
  with_reducible
    repeat' first | apply Fr.refl | assumption | ((try lift_lets -underBinder); intro (x : State); refine (fun h => ?_ : Fr 134217985 s x → _) ?_; clear_value x; rotate_left; subst x) | apply Fr.ite | apply Fr.next State.panelRate_fr | apply Fr.next State.wr_fr | refine Fr.each ?_ (fun s _ => ?_) | apply Fr.next State.fitGroup_fr | refine Fr.snd ‹_ = (_, _)› ?_ | refine Fr.fst ‹_ = (_, _)› ?_ | refine Fr.snd2 ‹_ = (_, _, _)› ?_ | refine Fr.via (by assumption) ?_ | split
  all_goals first | rfl | exact Fr.refl

theorem State.wrLinkCtl_fr {a0 a1 a2 s} : Fr 134217985 s (State.wrLinkCtl a0 a1 a2 s).2 := by
  unfold State.wrLinkCtl
  with_reducible
    repeat' first | apply Fr.refl | assumption | ((try lift_lets -underBinder); intro (x : State); refine (fun h => ?_ : Fr 134217985 s x → _) ?_; clear_value x; rotate_left; subst x) | ((try lift_lets -underBinder); intro x; clear_value x) | apply Fr.ite | apply Fr.ite2 | apply Fr.next State.wr_fr | refine Fr.each ?_ (fun s _ => ?_) | apply Fr.next State.failGroup_fr | apply Fr.next ign28_fr | apply Fr.next okW_fr | refine Fr.snd ‹_ = (_, _)› ?_ | refine Fr.fst ‹_ = (_, _)› ?_ | refine Fr.snd2 ‹_ = (_, _, _)› ?_ | refine Fr.via (by assumption) ?_ | split
  all_goals first | rfl | exact Fr.refl

theorem execControlPacketResend_fr {a0 s} : FrO 152207617 s (execControlPacketResend a0 s) := by
  unfold execControlPacketResend
  with_reducible
    repeat' first | apply FrO.next | apply FrO.ite | apply Fr.refl | assumption | ((try lift_lets -underBinder); intro x; clear_value x) | apply Fr.ite | apply Fr.next State.sendCtrl_fr | apply Fr.next State.modScan_fr | apply Fr.next State.failGroup_fr | apply Fr.next State.event_fr | apply Fr.next State.ctrlSts_fr | refine Fr.snd ‹_ = (_, _)› ?_ | refine Fr.fst ‹_ = (_, _)› ?_ | refine Fr.snd2 ‹_ = (_, _, _)› ?_ | refine Fr.via (by assumption) ?_ | split
  all_goals first | rfl | exact Fr.refl

theorem execControlPacketSend_fr {a0 s} : FrO 17989633 s (execControlPacketSend a0 s) := by
  unfold execControlPacketSend
  with_reducible
    repeat' first | apply FrO.next | apply FrO.ite | apply Fr.refl | assumption | ((try lift_lets -underBinder); intro x; clear_value x) | apply Fr.ite | apply Fr.next State.modScan_fr | apply Fr.next State.ctrlSts_fr | apply Fr.next State.sendCtrl_fr | refine Fr.snd ‹_ = (_, _)› ?_ | refine Fr.fst ‹_ = (_, _)› ?_ | refine Fr.snd2 ‹_ = (_, _, _)› ?_ | refine Fr.via (by assumption) ?_ | split
  all_goals first | rfl | exact Fr.refl

theorem execFrameMarker_fr {a0 s} : FrO 16941056 s (execFrameMarker a0 s) := by
  unfold execFrameMarker
  with_reducible
    repeat' first | apply FrO.next | apply FrO.ite | apply Fr.refl | assumption | apply Fr.ite | apply Fr.next State.takeFree_fr | apply Fr.next State.markerMap_fr | apply Fr.next State.sendMarker_fr | apply Fr.next State.modScan_fr | refine Fr.snd ‹_ = (_, _)› ?_ | refine Fr.fst ‹_ = (_, _)› ?_ | refine Fr.snd2 ‹_ = (_, _, _)› ?_ | refine Fr.via (by assumption) ?_ | split
  all_goals first | rfl | exact Fr.refl

theorem execLinePacketSend_fr {a0 s} : FrO 18006016 s (execLinePacketSend a0 s) := by
  unfold execLinePacketSend
  with_reducible
    repeat' first | apply FrO.next | apply FrO.ite | apply Fr.refl | assumption | apply Fr.ite | apply Fr.next State.startMap_fr | apply Fr.next State.modRim_fr | apply Fr.next State.txPacket_fr | apply Fr.next State.formDigest_fr | refine Fr.snd ‹_ = (_, _)› ?_ | refine Fr.fst ‹_ = (_, _)› ?_ | refine Fr.snd2 ‹_ = (_, _, _)› ?_ | refine Fr.via (by assumption) ?_ | split
  all_goals first | rfl | exact Fr.refl

theorem execRateStepDecide_fr {a0 s} : FrO 134512961 s (execRateStepDecide a0 s) := by
  unfold execRateStepDecide
  with_reducible
    repeat' first | apply FrO.next | apply FrO.ite | apply Fr.refl | assumption | apply Fr.ite | apply Fr.next State.modScan_fr | apply Fr.next State.setRate_fr | apply Fr.next State.panelRate_fr | apply Fr.next State.logc_fr | apply Fr.next State.event_fr | apply Fr.next State.haltStart_fr | refine Fr.snd ‹_ = (_, _)› ?_ | refine Fr.fst ‹_ = (_, _)› ?_ | refine Fr.snd2 ‹_ = (_, _, _)› ?_ | refine Fr.via (by assumption) ?_ | split
  all_goals first | rfl | exact Fr.refl

theorem execRateStepTrain_fr {a0 s} : FrO 163841 s (execRateStepTrain a0 s) := by
  unfold execRateStepTrain
  with_reducible
    repeat' first | apply FrO.next | apply FrO.ite | apply Fr.refl | assumption | apply Fr.ite | refine Fr.each ?_ (fun s _ => ?_) | apply Fr.next State.queueCtrl_fr | apply Fr.next State.wr_fr | apply Fr.next State.panelRate_fr | apply Fr.next State.laneTrain_fr | apply Fr.next State.modScan_fr | refine Fr.snd ‹_ = (_, _)› ?_ | refine Fr.fst ‹_ = (_, _)› ?_ | refine Fr.snd2 ‹_ = (_, _, _)› ?_ | refine Fr.via (by assumption) ?_ | split
  all_goals first | rfl | exact Fr.refl

theorem execRimCalcDone_fr {s} : FrO 201352961 s (execRimCalcDone s) := by
  unfold execRimCalcDone
  with_reducible
    repeat' first | apply FrO.next | apply FrO.ite | apply Fr.refl | assumption | ((try lift_lets -underBinder); intro (x : State); refine (fun h => ?_ : Fr 201352961 s x → _) ?_; clear_value x; rotate_left; subst x) | ((try lift_lets -underBinder); intro (x : State → State); refine (fun h => ?_ : (∀ s, Fr 201352961 s (x s)) → _) ?_; clear_value x; rotate_left; subst x; intro s; (try simp only [])) | apply Fr.ite | apply Fr.next State.wrB_fr | apply Fr.next State.modRim_fr | apply Fr.next State.logc_fr | refine Fr.next (State.readFault_fr (by assumption)) ?_ ?_ | apply Fr.next State.wr_fr | refine Fr.snd ‹_ = (_, _)› ?_ | refine Fr.fst ‹_ = (_, _)› ?_ | refine Fr.snd2 ‹_ = (_, _, _)› ?_ | refine Fr.via (by assumption) ?_ | split
  all_goals first | rfl | exact Fr.refl

theorem wrCalcCtl_fr {a0 a1 s} : Fr 134234369 s (wrCalcCtl a0 a1 s).2 := by
  unfold wrCalcCtl
  with_reducible
    repeat' first | apply Fr.refl | assumption | ((try lift_lets -underBinder); intro (x : State); refine (fun h => ?_ : Fr 134234369 s x → _) ?_; clear_value x; rotate_left; subst x) | ((try lift_lets -underBinder); intro x; clear_value x) | apply Fr.ite | apply Fr.ite2 | apply Fr.next okW_fr | apply Fr.next ign28_fr | apply Fr.next State.modRim_fr | apply Fr.next State.wrB_fr | refine Fr.snd ‹_ = (_, _)› ?_ | refine Fr.fst ‹_ = (_, _)› ?_ | refine Fr.snd2 ‹_ = (_, _, _)› ?_ | refine Fr.via (by assumption) ?_ | split
  all_goals first | rfl | exact Fr.refl

theorem wrCalcReg_fr {a0 a1 a2 s} : Fr 134217985 s (wrCalcReg a0 a1 a2 s).2 := by
  unfold wrCalcReg
  with_reducible
    repeat' first | apply Fr.refl | assumption | apply Fr.ite | apply Fr.ite2 | apply Fr.next ign28_fr | apply Fr.next okW_fr | apply Fr.next State.plainWrite_fr | refine Fr.snd ‹_ = (_, _)› ?_ | refine Fr.fst ‹_ = (_, _)› ?_ | refine Fr.snd2 ‹_ = (_, _, _)› ?_ | refine Fr.via (by assumption) ?_ | split
  all_goals first | rfl | exact Fr.refl

theorem wrReadmit_fr {a0 a1 a2 s} : Fr 32768 s (wrReadmit a0 a1 a2 s).2 := by
  unfold wrReadmit
  with_reducible
    repeat' first | apply Fr.refl | assumption | ((try lift_lets -underBinder); intro x; clear_value x) | apply Fr.ite | apply Fr.ite2 | apply Fr.next okW_fr | apply Fr.next State.modScan_fr | refine Fr.snd ‹_ = (_, _)› ?_ | refine Fr.fst ‹_ = (_, _)› ?_ | refine Fr.snd2 ‹_ = (_, _, _)› ?_ | refine Fr.via (by assumption) ?_ | split
  all_goals first | rfl | exact Fr.refl

end Sys2Proof.Machine
end

