-- ==== Sys2Proof/Laws/FrameShut.lean ====
section
/-! SUPPORT. The frame of every operation of Machine/Shut.lean. -/

namespace Sys2Proof.Machine

set_option linter.unusedTactic false
set_option linter.unreachableTactic false

theorem State.srLeave_fr {s} : Fr 218113793 s (State.srLeave s) := by
  unfold State.srLeave
  with_reducible
    repeat' first | apply Fr.refl | assumption | ((try lift_lets -underBinder); intro (x : State); refine (fun h => ?_ : Fr 218113793 s x → _) ?_; clear_value x; rotate_left; subst x) | apply Fr.ite | apply Fr.next State.seal_fr | apply Fr.next State.wr_fr | refine Fr.snd ‹_ = (_, _)› ?_ | refine Fr.fst ‹_ = (_, _)› ?_ | refine Fr.snd2 ‹_ = (_, _, _)› ?_ | refine Fr.via (by assumption) ?_ | split
  all_goals first | rfl | exact Fr.refl

theorem State.startExit_fr {s} : Fr 218146561 s (State.startExit s) := by
  unfold State.startExit
  with_reducible
    repeat' first | apply Fr.refl | assumption | ((try lift_lets -underBinder); intro (x : State); refine (fun h => ?_ : Fr 218146561 s x → _) ?_; clear_value x; rotate_left; subst x) | apply Fr.ite | apply Fr.next State.startFastPass_fr | apply Fr.next State.srLeave_fr | apply Fr.next State.wr_fr | apply Fr.next State.modScan_fr | refine Fr.snd ‹_ = (_, _)› ?_ | refine Fr.fst ‹_ = (_, _)› ?_ | refine Fr.snd2 ‹_ = (_, _, _)› ?_ | refine Fr.via (by assumption) ?_ | split
  all_goals first | rfl | exact Fr.refl

theorem State.autoExit_fr {s} : Fr 218146561 s (State.autoExit s) := by
  unfold State.autoExit
  with_reducible
    repeat' first | apply Fr.refl | assumption | ((try lift_lets -underBinder); intro x; clear_value x) | apply Fr.ite | apply Fr.next State.modScan_fr | apply Fr.next State.startExit_fr | refine Fr.snd ‹_ = (_, _)› ?_ | refine Fr.fst ‹_ = (_, _)› ?_ | refine Fr.snd2 ‹_ = (_, _, _)› ?_ | refine Fr.via (by assumption) ?_ | split
  all_goals first | rfl | exact Fr.refl

theorem State.shutAbort_fr {s a1 a2} : Fr 134250753 s (State.shutAbort s a1 a2) := by
  unfold State.shutAbort
  with_reducible
    repeat' first | apply Fr.refl | assumption | ((try lift_lets -underBinder); intro (x : State); refine (fun h => ?_ : Fr 134250753 s x → _) ?_; clear_value x; rotate_left; subst x) | apply Fr.ite | apply Fr.next State.queueAll_fr | apply Fr.next State.wr_fr | apply Fr.next State.wrB_fr | apply Fr.next State.logc_fr | apply Fr.next State.event_fr | refine Fr.snd ‹_ = (_, _)› ?_ | refine Fr.fst ‹_ = (_, _)› ?_ | refine Fr.snd2 ‹_ = (_, _, _)› ?_ | refine Fr.via (by assumption) ?_ | split
  all_goals first | rfl | exact Fr.refl

theorem State.exitRequest_fr {s} : Fr 218146561 s (State.exitRequest s) := by
  unfold State.exitRequest
  with_reducible
    repeat' first | apply Fr.refl | assumption | ((try lift_lets -underBinder); intro x; clear_value x) | apply Fr.ite | apply Fr.next State.wrB_fr | apply Fr.next State.wr_fr | apply Fr.next State.shutAbort_fr | apply Fr.next State.modScan_fr | apply Fr.next State.startExit_fr | refine Fr.snd ‹_ = (_, _)› ?_ | refine Fr.fst ‹_ = (_, _)› ?_ | refine Fr.snd2 ‹_ = (_, _, _)› ?_ | refine Fr.via (by assumption) ?_ | split
  all_goals first | rfl | exact Fr.refl

theorem State.linkLost_fr {s a1} : Fr 134480225 s (State.linkLost s a1) := by
  unfold State.linkLost
  with_reducible
    repeat' first | apply Fr.refl | assumption | apply Fr.ite | apply Fr.next State.modPanel_fr | apply Fr.next State.haltStart_fr | apply Fr.next State.setRate_fr | refine Fr.snd ‹_ = (_, _)› ?_ | refine Fr.fst ‹_ = (_, _)› ?_ | refine Fr.snd2 ‹_ = (_, _, _)› ?_ | refine Fr.via (by assumption) ?_ | split
  all_goals first | rfl | exact Fr.refl

theorem State.shutExpiryCheck_fr {s} : Fr 218146561 s (State.shutExpiryCheck s) := by
  unfold State.shutExpiryCheck
  with_reducible
    repeat' first | apply Fr.refl | assumption | apply Fr.ite | apply Fr.next State.autoExit_fr | refine Fr.snd ‹_ = (_, _)› ?_ | refine Fr.fst ‹_ = (_, _)› ?_ | refine Fr.snd2 ‹_ = (_, _, _)› ?_ | refine Fr.via (by assumption) ?_ | split
  all_goals first | rfl | exact Fr.refl

theorem State.shutLinkAbort_fr {s a1} : Fr 134250753 s (State.shutLinkAbort s a1) := by
  unfold State.shutLinkAbort
  with_reducible
    repeat' first | apply Fr.refl | assumption | apply Fr.ite | apply Fr.next State.shutAbort_fr | refine Fr.snd ‹_ = (_, _)› ?_ | refine Fr.fst ‹_ = (_, _)› ?_ | refine Fr.snd2 ‹_ = (_, _, _)› ?_ | refine Fr.via (by assumption) ?_ | split
  all_goals first | rfl | exact Fr.refl

theorem State.shutStored_fr {s a1 a2} : Fr 134250753 s (State.shutStored s a1 a2) := by
  unfold State.shutStored
  with_reducible
    repeat' first | apply Fr.refl | assumption | ((try lift_lets -underBinder); intro (x : State); refine (fun h => ?_ : Fr 134250753 s x → _) ?_; clear_value x; rotate_left; subst x) | ((try lift_lets -underBinder); intro x; clear_value x) | apply Fr.ite | apply Fr.next State.modScan_fr | apply Fr.next State.wr_fr | apply Fr.next State.queueAll_fr | apply Fr.next State.shutAbort_fr | refine Fr.snd ‹_ = (_, _)› ?_ | refine Fr.fst ‹_ = (_, _)› ?_ | refine Fr.snd2 ‹_ = (_, _, _)› ?_ | refine Fr.via (by assumption) ?_ | split
  all_goals first | rfl | exact Fr.refl

theorem State.shutTimeCheck_fr {s} : Fr 218146561 s (State.shutTimeCheck s) := by
  unfold State.shutTimeCheck
  with_reducible
    repeat' first | apply Fr.refl | assumption | apply Fr.ite | apply Fr.next State.autoExit_fr | refine Fr.snd ‹_ = (_, _)› ?_ | refine Fr.fst ‹_ = (_, _)› ?_ | refine Fr.snd2 ‹_ = (_, _, _)› ?_ | refine Fr.via (by assumption) ?_ | split
  all_goals first | rfl | exact Fr.refl

theorem State.shutWake_fr {s a1} : Fr 218146561 s (State.shutWake s a1) := by
  unfold State.shutWake
  with_reducible
    repeat' first | apply Fr.refl | assumption | ((try lift_lets -underBinder); intro x; clear_value x) | apply Fr.ite | apply Fr.next State.autoExit_fr | refine Fr.snd ‹_ = (_, _)› ?_ | refine Fr.fst ‹_ = (_, _)› ?_ | refine Fr.snd2 ‹_ = (_, _, _)› ?_ | refine Fr.via (by assumption) ?_ | split
  all_goals first | rfl | exact Fr.refl

theorem State.shutterCheck_fr {s} : Fr 134250753 s (State.shutterCheck s) := by
  unfold State.shutterCheck
  with_reducible
    repeat' first | apply Fr.refl | assumption | ((try lift_lets -underBinder); intro (x : State); refine (fun h => ?_ : Fr 134250753 s x → _) ?_; clear_value x; rotate_left; subst x) | ((try lift_lets -underBinder); intro x; clear_value x) | apply Fr.ite | apply Fr.next State.queueAll_fr | apply Fr.next State.shutAbort_fr | apply Fr.next State.wr_fr | apply Fr.next State.modScan_fr | apply Fr.next State.logc_fr | refine Fr.snd ‹_ = (_, _)› ?_ | refine Fr.fst ‹_ = (_, _)› ?_ | refine Fr.snd2 ‹_ = (_, _, _)› ?_ | refine Fr.via (by assumption) ?_ | split
  all_goals first | rfl | exact Fr.refl

theorem execLineReportReceived_fr {a0 a1 s} : FrO 135315745 s (execLineReportReceived a0 a1 s) := by
  unfold execLineReportReceived
  with_reducible
    repeat' first | apply FrO.next | apply FrO.ite | apply Fr.refl | assumption | apply Fr.ite | apply Fr.next State.lineReport_fr | apply Fr.next State.shutLinkAbort_fr | refine Fr.snd ‹_ = (_, _)› ?_ | refine Fr.fst ‹_ = (_, _)› ?_ | refine Fr.snd2 ‹_ = (_, _, _)› ?_ | refine Fr.via (by assumption) ?_ | split
  all_goals first | rfl | exact Fr.refl

theorem execLoadMarker_fr {a0 s} : FrO 151159049 s (execLoadMarker a0 s) := by
  unfold execLoadMarker
  with_reducible
    repeat' first | apply FrO.next | apply FrO.ite | apply Fr.refl | assumption | apply Fr.ite | apply Fr.next State.modScan_fr | apply Fr.next State.markerMap_fr | apply Fr.next State.sendMarker_fr | apply Fr.next State.event_fr | apply Fr.next State.wr_fr | apply Fr.next State.modClk_fr | refine Fr.each ?_ (fun s _ => ?_) | apply Fr.next State.failGroup_fr | refine Fr.snd ‹_ = (_, _)› ?_ | refine Fr.fst ‹_ = (_, _)› ?_ | refine Fr.snd2 ‹_ = (_, _, _)› ?_ | refine Fr.via (by assumption) ?_ | split
  all_goals first | rfl | exact Fr.refl

theorem execPacketLand_fr {a0 a1 s} : FrO 218146561 s (execPacketLand a0 a1 s) := by
  unfold execPacketLand
  with_reducible
    repeat' first | apply FrO.next | apply FrO.ite | apply Fr.refl | assumption | apply Fr.ite | apply Fr.next State.packetLand_fr | apply Fr.next State.shutWake_fr | refine Fr.snd ‹_ = (_, _)› ?_ | refine Fr.fst ‹_ = (_, _)› ?_ | refine Fr.snd2 ‹_ = (_, _, _)› ?_ | refine Fr.via (by assumption) ?_ | split
  all_goals first | rfl | exact Fr.refl

theorem execSelfRefreshExit_fr {a0 s} : FrO 218105601 s (execSelfRefreshExit a0 s) := by
  unfold execSelfRefreshExit
  with_reducible
    repeat' first | apply FrO.next | apply FrO.ite | apply Fr.refl | assumption | apply Fr.ite | apply Fr.next State.modMem_fr | apply Fr.next State.srExit_fr | refine Fr.each ?_ (fun s _ => ?_) | apply Fr.next State.landIn_fr | apply Fr.next State.event_fr | apply Fr.next State.hbmStep_fr | apply Fr.next State.selfRefresh_fr | refine Fr.snd ‹_ = (_, _)› ?_ | refine Fr.fst ‹_ = (_, _)› ?_ | refine Fr.snd2 ‹_ = (_, _, _)› ?_ | refine Fr.via (by assumption) ?_ | split
  all_goals first | rfl | exact Fr.refl

theorem execShutterIn_fr {s} : FrO 222344965 s (execShutterIn s) := by
  unfold execShutterIn
  with_reducible
    repeat' first | apply FrO.next | apply FrO.ite | apply Fr.refl | assumption | apply Fr.ite | apply Fr.next State.modScan_fr | apply Fr.next State.setPower_fr | apply Fr.next State.bump_fr | apply Fr.next State.wr_fr | apply Fr.next State.modWv_fr | apply Fr.next State.event_fr | apply Fr.next State.selfRefresh_fr | apply Fr.next State.startExit_fr | apply Fr.next State.shutExpiryCheck_fr | refine Fr.snd ‹_ = (_, _)› ?_ | refine Fr.fst ‹_ = (_, _)› ?_ | refine Fr.snd2 ‹_ = (_, _, _)› ?_ | refine Fr.via (by assumption) ?_ | split
  all_goals first | rfl | exact Fr.refl

theorem execShutterStatusTimeout_fr {a0 s} : FrO 218146561 s (execShutterStatusTimeout a0 s) := by
  unfold execShutterStatusTimeout
  with_reducible
    repeat' first | apply FrO.next | apply FrO.ite | apply Fr.refl | assumption | apply Fr.ite | apply Fr.next State.autoExit_fr | apply Fr.next State.modScan_fr | refine Fr.snd ‹_ = (_, _)› ?_ | refine Fr.fst ‹_ = (_, _)› ?_ | refine Fr.snd2 ‹_ = (_, _, _)› ?_ | refine Fr.via (by assumption) ?_ | split
  all_goals first | rfl | exact Fr.refl

theorem execStatusReportReceived_fr {a0 a1 s} : FrO 134512993 s (execStatusReportReceived a0 a1 s) := by
  unfold execStatusReportReceived
  with_reducible
    repeat' first | apply FrO.next | apply FrO.ite | apply Fr.refl | assumption | apply Fr.ite | apply Fr.next State.bump_fr | apply Fr.next State.badReport_fr | apply Fr.next State.modScan_fr | apply Fr.next State.ctrlSts_fr | apply Fr.next State.laneLocks_fr | apply Fr.next State.shutLinkAbort_fr | apply Fr.next State.shutStored_fr | apply Fr.next State.linkLost_fr | refine Fr.snd ‹_ = (_, _)› ?_ | refine Fr.fst ‹_ = (_, _)› ?_ | refine Fr.snd2 ‹_ = (_, _, _)› ?_ | refine Fr.via (by assumption) ?_ | split
  all_goals first | rfl | exact Fr.refl

theorem wrShutCtl_fr {a0 s} : Fr 218146561 s (wrShutCtl a0 s).2 := by
  unfold wrShutCtl
  with_reducible
    repeat' first | apply Fr.refl | assumption | ((try lift_lets -underBinder); intro (x : State); refine (fun h => ?_ : Fr 218146561 s x → _) ?_; clear_value x; rotate_left; subst x) | ((try lift_lets -underBinder); intro x; clear_value x) | apply Fr.ite | apply Fr.ite2 | apply Fr.next State.wr_fr | apply Fr.next okW_fr | apply Fr.next State.exitRequest_fr | apply Fr.next State.modScan_fr | refine Fr.snd ‹_ = (_, _)› ?_ | refine Fr.fst ‹_ = (_, _)› ?_ | refine Fr.snd2 ‹_ = (_, _, _)› ?_ | refine Fr.via (by assumption) ?_ | split
  all_goals first | rfl | exact Fr.refl

end Sys2Proof.Machine
end

