-- ==== Sys2Proof/Laws/FrameBandRead.lean ====
section
/-! SUPPORT. The frame of every operation of Machine/BandRead.lean. -/

namespace Sys2Proof.Machine

set_option linter.unusedTactic false
set_option linter.unreachableTactic false

theorem State.cacheErrors_fr {s a1 a2} : Fr 134222081 s (State.cacheErrors s a1 a2) := by
  unfold State.cacheErrors
  with_reducible
    repeat' first | apply Fr.refl | assumption | ((try lift_lets -underBinder); intro (x : State); refine (fun h => ?_ : Fr 134222081 s x → _) ?_; clear_value x; rotate_left; subst x) | ((try lift_lets -underBinder); intro x; clear_value x) | apply Fr.ite | refine Fr.each ?_ (fun s _ => ?_) | apply Fr.next State.modWv_fr | apply Fr.next State.bump_fr | apply Fr.next State.logc_fr | refine Fr.snd ‹_ = (_, _)› ?_ | refine Fr.fst ‹_ = (_, _)› ?_ | refine Fr.snd2 ‹_ = (_, _, _)› ?_ | refine Fr.via (by assumption) ?_ | split
  all_goals first | rfl | exact Fr.refl

theorem State.beforeRead_fr {s a1 a2 a3} : Fr 202913577 s (State.beforeRead s a1 a2 a3) := by
  unfold State.beforeRead
  with_reducible
    repeat' first | apply Fr.refl | assumption | ((try lift_lets -underBinder); intro (x : State); refine (fun h => ?_ : Fr 202913577 s x → _) ?_; clear_value x; rotate_left; subst x) | apply Fr.ite | apply Fr.next State.cacheErrors_fr | apply Fr.next State.run_fr | apply Fr.next State.startResidues_fr | apply Fr.next State.rowWriteback_fr | refine Fr.snd ‹_ = (_, _)› ?_ | refine Fr.fst ‹_ = (_, _)› ?_ | refine Fr.snd2 ‹_ = (_, _, _)› ?_ | refine Fr.via (by assumption) ?_ | split
  all_goals first | rfl | exact Fr.refl

theorem State.markLate_fr {s a1 a2} : Fr 134217985 s (State.markLate s a1 a2) := by
  unfold State.markLate
  with_reducible
    repeat' first | apply Fr.refl | assumption | ((try lift_lets -underBinder); intro (x : State); refine (fun h => ?_ : Fr 134217985 s x → _) ?_; clear_value x; rotate_left; subst x) | apply Fr.ite | apply Fr.next State.bump_fr | apply Fr.next State.wrB_fr | apply Fr.next State.logc_fr | apply Fr.next State.event_fr | refine Fr.snd ‹_ = (_, _)› ?_ | refine Fr.fst ‹_ = (_, _)› ?_ | refine Fr.snd2 ‹_ = (_, _, _)› ?_ | refine Fr.via (by assumption) ?_ | split
  all_goals first | rfl | exact Fr.refl

theorem State.checkMarks_fr {s a1 a2} : Fr 134283521 s (State.checkMarks s a1 a2) := by
  unfold State.checkMarks
  with_reducible
    repeat' first | apply Fr.refl | assumption | ((try lift_lets -underBinder); intro (x : State); refine (fun h => ?_ : Fr 134283521 s x → _) ?_; clear_value x; rotate_left; subst x) | ((try lift_lets -underBinder); intro x; clear_value x) | apply Fr.ite | apply Fr.next State.modWeft_fr | refine Fr.each ?_ (fun s _ => ?_) | apply Fr.next State.markLate_fr | refine Fr.snd ‹_ = (_, _)› ?_ | refine Fr.fst ‹_ = (_, _)› ?_ | refine Fr.snd2 ‹_ = (_, _, _)› ?_ | refine Fr.via (by assumption) ?_ | split
  all_goals first | rfl | exact Fr.refl

theorem State.storePairs_fr {s a1 a2} : Fr 67108864 s (State.storePairs s a1 a2) := by
  unfold State.storePairs
  with_reducible
    repeat' first | apply Fr.refl | assumption | apply Fr.ite | apply Fr.next State.hbmWr_fr | refine Fr.snd ‹_ = (_, _)› ?_ | refine Fr.fst ‹_ = (_, _)› ?_ | refine Fr.snd2 ‹_ = (_, _, _)› ?_ | refine Fr.via (by assumption) ?_ | split
  all_goals first | rfl | exact Fr.refl

theorem State.dcLine_fr {s a1 a2} : Fr 202375457 s (State.dcLine s a1 a2) := by
  unfold State.dcLine
  with_reducible
    repeat' first | apply Fr.refl | assumption | ((try lift_lets -underBinder); intro (x : State); refine (fun h => ?_ : Fr 202375457 s x → _) ?_; clear_value x; rotate_left; subst x) | ((try lift_lets -underBinder); intro x; clear_value x) | apply Fr.ite | apply Fr.next State.bump_fr | apply Fr.next State.modPanel_fr | apply Fr.next State.healRow_fr | apply Fr.next State.settleRow_fr | apply Fr.next State.applyRepairs_fr | apply Fr.next State.noteSat_fr | apply Fr.next State.storePairs_fr | refine Fr.snd ‹_ = (_, _)› ?_ | refine Fr.fst ‹_ = (_, _)› ?_ | refine Fr.snd2 ‹_ = (_, _, _)› ?_ | refine Fr.via (by assumption) ?_ | split
  all_goals first | rfl | exact Fr.refl

theorem State.fetchRows_fr {s a1 a2} : Fr 201340675 s (State.fetchRows s a1 a2) := by
  unfold State.fetchRows
  with_reducible
    repeat' first | apply Fr.refl | assumption | ((try lift_lets -underBinder); intro (x : State); refine (fun h => ?_ : Fr 201340675 s x → _) ?_; clear_value x; rotate_left; subst x) | ((try lift_lets -underBinder); intro x; clear_value x) | apply Fr.ite | apply Fr.next State.view_fr | apply Fr.next State.modWv_fr | apply Fr.next State.rtRead_fr | refine Fr.snd ‹_ = (_, _)› ?_ | refine Fr.fst ‹_ = (_, _)› ?_ | refine Fr.snd2 ‹_ = (_, _, _)› ?_ | refine Fr.via (by assumption) ?_ | split
  all_goals first | rfl | exact Fr.refl

theorem State.illBlock_fr {s a1} : Fr 134227713 s (State.illBlock s a1) := by
  unfold State.illBlock
  with_reducible
    repeat' first | apply Fr.refl | assumption | apply Fr.ite | refine State.memRecord_fr (hk := fun s => ?_) ?_ ?_ | apply Fr.next State.tileFault_fr | apply Fr.next State.errAddr_fr | refine Fr.snd ‹_ = (_, _)› ?_ | refine Fr.fst ‹_ = (_, _)› ?_ | refine Fr.snd2 ‹_ = (_, _, _)› ?_ | refine Fr.via (by assumption) ?_ | split
  all_goals first | rfl | exact Fr.refl

theorem State.noteClamps_fr {s a1 a2} : Fr 134217985 s (State.noteClamps s a1 a2) := by
  unfold State.noteClamps
  with_reducible
    repeat' first | apply Fr.refl | assumption | ((try lift_lets -underBinder); intro (x : State); refine (fun h => ?_ : Fr 134217985 s x → _) ?_; clear_value x; rotate_left; subst x) | ((try lift_lets -underBinder); intro x; clear_value x) | apply Fr.ite | apply Fr.next State.bump_fr | refine Fr.each ?_ (fun s _ => ?_) | apply Fr.next State.logOnce_fr | refine Fr.snd ‹_ = (_, _)› ?_ | refine Fr.fst ‹_ = (_, _)› ?_ | refine Fr.snd2 ‹_ = (_, _, _)› ?_ | refine Fr.via (by assumption) ?_ | split
  all_goals first | rfl | exact Fr.refl

theorem State.noteRefused_fr {s a1} : Fr 134217985 s (State.noteRefused s a1) := by
  unfold State.noteRefused
  with_reducible
    repeat' first | apply Fr.refl | assumption | apply Fr.ite | refine Fr.each ?_ (fun s _ => ?_) | apply Fr.next State.logOnce_fr | apply Fr.next State.bump_fr | refine Fr.snd ‹_ = (_, _)› ?_ | refine Fr.fst ‹_ = (_, _)› ?_ | refine Fr.snd2 ‹_ = (_, _, _)› ?_ | refine Fr.via (by assumption) ?_ | split
  all_goals first | rfl | exact Fr.refl

theorem State.noteUnderrun_fr {s a1 a2} : Fr 134250785 s (State.noteUnderrun s a1 a2) := by
  unfold State.noteUnderrun
  with_reducible
    repeat' first | apply Fr.refl | assumption | ((try lift_lets -underBinder); intro (x : State); refine (fun h => ?_ : Fr 134250785 s x → _) ?_; clear_value x; rotate_left; subst x) | ((try lift_lets -underBinder); intro x; clear_value x) | apply Fr.ite | apply Fr.next State.modPanel_fr | apply Fr.next State.bump_fr | apply Fr.next State.wr_fr | apply Fr.next State.modScan_fr | apply Fr.next State.logc_fr | apply Fr.next State.event_fr | refine Fr.snd ‹_ = (_, _)› ?_ | refine Fr.fst ‹_ = (_, _)› ?_ | refine Fr.snd2 ‹_ = (_, _, _)› ?_ | refine Fr.via (by assumption) ?_ | split
  all_goals first | rfl | exact Fr.refl

theorem State.probe_fr {s a1 a2} : Fr 1 s (State.probe s a1 a2) := by
  unfold State.probe
  with_reducible
    repeat' first | apply Fr.refl | assumption | ((try lift_lets -underBinder); intro (x : State); refine (fun h => ?_ : Fr 1 s x → _) ?_; clear_value x; rotate_left; subst x) | ((try lift_lets -underBinder); intro x; clear_value x) | apply Fr.ite | apply Fr.next State.wrB_fr | apply Fr.next State.wr_fr | refine Fr.snd ‹_ = (_, _)› ?_ | refine Fr.fst ‹_ = (_, _)› ?_ | refine Fr.snd2 ‹_ = (_, _, _)› ?_ | refine Fr.via (by assumption) ?_ | split
  all_goals first | rfl | exact Fr.refl

theorem execBandRead_fr {a0 a1 a2 s} : FrO 203011883 s (execBandRead a0 a1 a2 s) := by
  unfold execBandRead
  with_reducible
    repeat' first | apply FrO.next | apply FrO.ite | apply Fr.refl | assumption | apply Fr.ite | apply Fr.next State.beforeRead_fr | apply Fr.next State.view_fr | apply Fr.next State.rtRead_fr | refine Fr.each ?_ (fun s _ => ?_) | apply Fr.next State.bump_fr | apply Fr.next State.countVerdict_fr | apply Fr.next State.noteRefused_fr | apply Fr.next State.noteUnderrun_fr | apply Fr.next State.dcLine_fr | apply Fr.next State.probe_fr | apply Fr.next State.noteClamps_fr | apply Fr.next State.modWv_fr | apply Fr.next State.checkMarks_fr | refine Fr.snd ‹_ = (_, _)› ?_ | refine Fr.fst ‹_ = (_, _)› ?_ | refine Fr.snd2 ‹_ = (_, _, _)› ?_ | refine Fr.via (by assumption) ?_ | split
  all_goals first | rfl | exact Fr.refl

theorem execPrefillCellArrive_fr {a0 s} : FrO 201340673 s (execPrefillCellArrive a0 s) := by
  unfold execPrefillCellArrive
  with_reducible
    repeat' first | apply FrO.next | apply FrO.ite | apply Fr.refl | assumption | ((try lift_lets -underBinder); intro (x : State); refine (fun h => ?_ : Fr 201340673 s x → _) ?_; clear_value x; rotate_left; subst x) | apply Fr.ite | apply Fr.next State.modWv_fr | refine Fr.each ?_ (fun s _ => ?_) | apply Fr.next State.uncorrectable_fr | apply Fr.next State.illBlock_fr | refine Fr.snd ‹_ = (_, _)› ?_ | refine Fr.fst ‹_ = (_, _)› ?_ | refine Fr.snd2 ‹_ = (_, _, _)› ?_ | refine Fr.via (by assumption) ?_ | split
  all_goals first | rfl | exact Fr.refl

theorem execPrefillIssue_fr {a0 s} : FrO 201340707 s (execPrefillIssue a0 s) := by
  unfold execPrefillIssue
  with_reducible
    repeat' first | apply FrO.next | apply FrO.ite | apply Fr.refl | assumption | apply Fr.ite | apply Fr.next State.makePlan_fr | apply Fr.next State.startResidues_fr | apply Fr.next State.view_fr | apply Fr.next State.fetchRows_fr | apply Fr.next State.modWv_fr | refine Fr.snd ‹_ = (_, _)› ?_ | refine Fr.fst ‹_ = (_, _)› ?_ | refine Fr.snd2 ‹_ = (_, _, _)› ?_ | refine Fr.via (by assumption) ?_ | split
  all_goals first | rfl | exact Fr.refl

end Sys2Proof.Machine
end

