-- ==== Sys2Proof/Laws/FrameLeaf.lean ====
section
/-! SUPPORT. The frame of every operation of Machine/Leaf.lean. -/

namespace Sys2Proof.Machine

set_option linter.unusedTactic false
set_option linter.unreachableTactic false

theorem State.takeCg_fr {s a1} : Fr 1 s (State.takeCg s a1) := by
  unfold State.takeCg
  with_reducible
    repeat' first | apply Fr.refl | assumption | apply Fr.ite | apply Fr.next State.wr_fr | refine Fr.snd ‹_ = (_, _)› ?_ | refine Fr.fst ‹_ = (_, _)› ?_ | refine Fr.snd2 ‹_ = (_, _, _)› ?_ | refine Fr.via (by assumption) ?_ | split
  all_goals first | rfl | exact Fr.refl

theorem State.commitFetched_fr {s a1 a2} : Fr 68170753 s (State.commitFetched s a1 a2) := by
  unfold State.commitFetched
  with_reducible
    repeat' first | apply Fr.refl | assumption | ((try lift_lets -underBinder); intro (x : State); refine (fun h => ?_ : Fr 68170753 s x → _) ?_; clear_value x; rotate_left; subst x) | ((try lift_lets -underBinder); intro x; clear_value x) | apply Fr.ite | apply Fr.next State.modLeaf_fr | apply Fr.next State.writeTile_fr | apply Fr.next State.swapCells_fr | apply Fr.next State.setDirty_fr | apply Fr.next State.resample_fr | apply Fr.next State.takeCg_fr | apply Fr.next State.commitCount_fr | apply Fr.next State.putEntry_fr | refine Fr.snd ‹_ = (_, _)› ?_ | refine Fr.fst ‹_ = (_, _)› ?_ | refine Fr.snd2 ‹_ = (_, _, _)› ?_ | refine Fr.via (by assumption) ?_ | split
  all_goals first | rfl | exact Fr.refl

theorem State.commitReady_fr {s} : Fr 68170753 s (State.commitReady s) := by
  unfold State.commitReady
  with_reducible
    repeat' first | apply Fr.refl | assumption | apply Fr.ite | refine Fr.each ?_ (fun s _ => ?_) | apply Fr.next State.commitFetched_fr | refine Fr.snd ‹_ = (_, _)› ?_ | refine Fr.fst ‹_ = (_, _)› ?_ | refine Fr.snd2 ‹_ = (_, _, _)› ?_ | refine Fr.via (by assumption) ?_ | split
  all_goals first | rfl | exact Fr.refl

theorem State.diverge_fr {s a1 a2 a3 a4 a5 a6} : Fr 1048576 s (State.diverge s a1 a2 a3 a4 a5 a6) := by
  unfold State.diverge
  with_reducible
    repeat' first | apply Fr.refl | assumption | ((try lift_lets -underBinder); intro x; clear_value x) | apply Fr.ite | refine Fr.each ?_ (fun s _ => ?_) | apply Fr.next State.modLeaf_fr | refine Fr.snd ‹_ = (_, _)› ?_ | refine Fr.fst ‹_ = (_, _)› ?_ | refine Fr.snd2 ‹_ = (_, _, _)› ?_ | refine Fr.via (by assumption) ?_ | split
  all_goals first | rfl | exact Fr.refl

theorem State.divergeTile_fr {s a1} : Fr 1048576 s (State.divergeTile s a1) := by
  unfold State.divergeTile
  with_reducible
    repeat' first | apply Fr.refl | assumption | ((try lift_lets -underBinder); intro x; clear_value x) | apply Fr.ite | apply Fr.next State.diverge_fr | refine Fr.snd ‹_ = (_, _)› ?_ | refine Fr.fst ‹_ = (_, _)› ?_ | refine Fr.snd2 ‹_ = (_, _, _)› ?_ | refine Fr.via (by assumption) ?_ | split
  all_goals first | rfl | exact Fr.refl

theorem State.commitWith_fr {m s0 s k} (hk : ∀ s, Fr m s (k s)) (h : Fr m s0 s) (hm : 1048576 &&& m = 1048576) :
    Fr m s0 (State.commitWith s k) := by
  unfold State.commitWith
  with_reducible
    repeat' first | apply Fr.refl | assumption | ((try lift_lets -underBinder); intro (x : State); refine (fun h => ?_ : Fr m s0 x → _) ?_; clear_value x; rotate_left; subst x) | apply Fr.ite | apply Fr.next State.divergeTile_fr | refine Fr.trans ?_ (hk _) | split
  all_goals exact Fr.sub rfl hm

theorem State.startSync_fr {s} : Fr 1048577 s (State.startSync s) := by
  unfold State.startSync
  with_reducible
    repeat' first | apply Fr.refl | assumption | apply Fr.ite | apply Fr.next State.wr_fr | apply Fr.next State.modLeaf_fr | refine Fr.snd ‹_ = (_, _)› ?_ | refine Fr.fst ‹_ = (_, _)› ?_ | refine Fr.snd2 ‹_ = (_, _, _)› ?_ | refine Fr.via (by assumption) ?_ | split
  all_goals first | rfl | exact Fr.refl

theorem State.showStage_fr {s a1} : Fr 1 s (State.showStage s a1) := by
  unfold State.showStage
  with_reducible
    repeat' first | apply Fr.refl | assumption | ((try lift_lets -underBinder); intro x; clear_value x) | apply Fr.ite | apply Fr.next State.wr_fr | refine Fr.snd ‹_ = (_, _)› ?_ | refine Fr.fst ‹_ = (_, _)› ?_ | refine Fr.snd2 ‹_ = (_, _, _)› ?_ | refine Fr.via (by assumption) ?_ | split
  all_goals first | rfl | exact Fr.refl

theorem State.setRole_fr {s a1} : Fr 141566213 s (State.setRole s a1) := by
  unfold State.setRole
  with_reducible
    repeat' first | apply Fr.refl | assumption | ((try lift_lets -underBinder); intro (x : State); refine (fun h => ?_ : Fr 141566213 s x → _) ?_; clear_value x; rotate_left; subst x) | ((try lift_lets -underBinder); intro x; clear_value x) | apply Fr.ite | apply Fr.next State.event_fr | apply Fr.next State.wr_fr | apply Fr.next State.startFastPass_fr | apply Fr.next State.setPower_fr | apply Fr.next State.modLeaf_fr | apply Fr.next State.startSync_fr | apply Fr.next State.count_fr | apply Fr.next State.wrB_fr | apply Fr.next State.showStage_fr | refine Fr.snd ‹_ = (_, _)› ?_ | refine Fr.fst ‹_ = (_, _)› ?_ | refine Fr.snd2 ‹_ = (_, _, _)› ?_ | refine Fr.via (by assumption) ?_ | split
  all_goals first | rfl | exact Fr.refl

theorem State.toSyncing_fr {s} : Fr 141566213 s (State.toSyncing s) := by
  unfold State.toSyncing
  with_reducible
    repeat' first | apply Fr.refl | assumption | apply Fr.ite | apply Fr.next State.modLeaf_fr | apply Fr.next State.setRole_fr | refine Fr.snd ‹_ = (_, _)› ?_ | refine Fr.fst ‹_ = (_, _)› ?_ | refine Fr.snd2 ‹_ = (_, _, _)› ?_ | refine Fr.via (by assumption) ?_ | split
  all_goals first | rfl | exact Fr.refl

theorem State.digMismatch_fr {s a1 a2} : Fr 141582597 s (State.digMismatch s a1 a2) := by
  unfold State.digMismatch
  with_reducible
    repeat' first | apply Fr.refl | assumption | ((try lift_lets -underBinder); intro (x : State); refine (fun h => ?_ : Fr 141582597 s x → _) ?_; clear_value x; rotate_left; subst x) | apply Fr.ite | apply Fr.next State.bump_fr | apply Fr.next State.wr_fr | apply Fr.next State.logOnce_fr | apply Fr.next State.modRim_fr | apply Fr.next State.modLeaf_fr | apply Fr.next State.toSyncing_fr | apply Fr.next State.logc_fr | refine Fr.snd ‹_ = (_, _)› ?_ | refine Fr.fst ‹_ = (_, _)› ?_ | refine Fr.snd2 ‹_ = (_, _, _)› ?_ | refine Fr.via (by assumption) ?_ | split
  all_goals first | rfl | exact Fr.refl

theorem State.compareDig_fr {s a1 a2 a3} : Fr 141582597 s (State.compareDig s a1 a2 a3) := by
  unfold State.compareDig
  with_reducible
    repeat' first | apply Fr.refl | assumption | ((try lift_lets -underBinder); intro (x : State); refine (fun h => ?_ : Fr 141582597 s x → _) ?_; clear_value x; rotate_left; subst x) | ((try lift_lets -underBinder); intro x; clear_value x) | apply Fr.ite | apply Fr.next State.modLeaf_fr | apply Fr.next State.bump_fr | apply Fr.next State.digMismatch_fr | refine Fr.snd ‹_ = (_, _)› ?_ | refine Fr.fst ‹_ = (_, _)› ?_ | refine Fr.snd2 ‹_ = (_, _, _)› ?_ | refine Fr.via (by assumption) ?_ | split
  all_goals first | rfl | exact Fr.refl

theorem State.decideTake_fr {s a1 a2} : Fr 219195137 s (State.decideTake s a1 a2) := by
  unfold State.decideTake
  with_reducible
    repeat' first | apply Fr.refl | assumption | ((try lift_lets -underBinder); intro (x : State); refine (fun h => ?_ : Fr 219195137 s x → _) ?_; clear_value x; rotate_left; subst x) | ((try lift_lets -underBinder); intro x; clear_value x) | apply Fr.ite | apply Fr.next State.modLeaf_fr | apply Fr.next State.startExit_fr | refine Fr.snd ‹_ = (_, _)› ?_ | refine Fr.fst ‹_ = (_, _)› ?_ | refine Fr.snd2 ‹_ = (_, _, _)› ?_ | refine Fr.via (by assumption) ?_ | split
  all_goals first | rfl | exact Fr.refl

theorem State.depose_fr {s} : Fr 141566213 s (State.depose s) := by
  unfold State.depose
  with_reducible
    repeat' first | apply Fr.refl | assumption | ((try lift_lets -underBinder); intro (x : State); refine (fun h => ?_ : Fr 141566213 s x → _) ?_; clear_value x; rotate_left; subst x) | apply Fr.ite | apply Fr.next State.modLeaf_fr | apply Fr.next State.logc_fr | apply Fr.next State.setRole_fr | refine Fr.snd ‹_ = (_, _)› ?_ | refine Fr.fst ‹_ = (_, _)› ?_ | refine Fr.snd2 ‹_ = (_, _, _)› ?_ | refine Fr.via (by assumption) ?_ | split
  all_goals first | rfl | exact Fr.refl

theorem State.dueAt_fr {s a1 a2 a3} : Fr 134751497 s (State.dueAt s a1 a2 a3) := by
  unfold State.dueAt
  with_reducible
    repeat' first | apply Fr.refl | assumption | apply Fr.ite | apply Fr.next State.toWc_fr | refine Fr.snd ‹_ = (_, _)› ?_ | refine Fr.fst ‹_ = (_, _)› ?_ | refine Fr.snd2 ‹_ = (_, _, _)› ?_ | refine Fr.via (by assumption) ?_ | split
  all_goals first | rfl | exact Fr.refl

theorem State.enterThermalStop_fr {s} : Fr 141566757 s (State.enterThermalStop s) := by
  unfold State.enterThermalStop
  with_reducible
    repeat' first | apply Fr.refl | assumption | ((try lift_lets -underBinder); intro (x : State); refine (fun h => ?_ : Fr 141566757 s x → _) ?_; clear_value x; rotate_left; subst x) | apply Fr.ite | apply Fr.next State.modPanel_fr | apply Fr.next State.selfRefresh_fr | apply Fr.next State.setRole_fr | apply Fr.next State.setPower_fr | apply Fr.next State.wrB_fr | apply Fr.next State.modThm_fr | refine Fr.snd ‹_ = (_, _)› ?_ | refine Fr.fst ‹_ = (_, _)› ?_ | refine Fr.snd2 ‹_ = (_, _, _)› ?_ | refine Fr.via (by assumption) ?_ | split
  all_goals first | rfl | exact Fr.refl

theorem State.fetchFor_fr {s a1} : Fr 135266561 s (State.fetchFor s a1) := by
  unfold State.fetchFor
  with_reducible
    repeat' first | apply Fr.refl | assumption | ((try lift_lets -underBinder); intro (x : State); refine (fun h => ?_ : Fr 135266561 s x → _) ?_; clear_value x; rotate_left; subst x) | apply Fr.ite | apply Fr.next State.modLeaf_fr | apply Fr.next State.mirror_fr | apply Fr.next State.bump_fr | apply Fr.next State.logc_fr | refine Fr.snd ‹_ = (_, _)› ?_ | refine Fr.fst ‹_ = (_, _)› ?_ | refine Fr.snd2 ‹_ = (_, _, _)› ?_ | refine Fr.via (by assumption) ?_ | split
  all_goals first | rfl | exact Fr.refl

theorem State.joinAs_fr {s a1} : Fr 141566221 s (State.joinAs s a1) := by
  unfold State.joinAs
  with_reducible
    repeat' first | apply Fr.refl | assumption | apply Fr.ite | apply Fr.next State.modClk_fr | apply Fr.next State.setRole_fr | refine Fr.snd ‹_ = (_, _)› ?_ | refine Fr.fst ‹_ = (_, _)› ?_ | refine Fr.snd2 ‹_ = (_, _, _)› ?_ | refine Fr.via (by assumption) ?_ | split
  all_goals first | rfl | exact Fr.refl

theorem State.wantDemote_fr {s a1} : Fr 1048576 s (State.wantDemote s a1) := by
  unfold State.wantDemote
  with_reducible
    repeat' first | apply Fr.refl | assumption | apply Fr.ite | apply Fr.next State.modLeaf_fr | refine Fr.snd ‹_ = (_, _)› ?_ | refine Fr.fst ‹_ = (_, _)› ?_ | refine Fr.snd2 ‹_ = (_, _, _)› ?_ | refine Fr.via (by assumption) ?_ | split
  all_goals first | rfl | exact Fr.refl

theorem State.leafFrame_fr {s} : Fr 135266561 s (State.leafFrame s) := by
  unfold State.leafFrame
  with_reducible
    repeat' first | apply Fr.refl | assumption | ((try lift_lets -underBinder); intro (x : State); refine (fun h => ?_ : Fr 135266561 s x → _) ?_; clear_value x; rotate_left; subst x) | apply Fr.ite | apply Fr.next State.repairOver_fr | apply Fr.next State.wrB_fr | apply Fr.next State.wantDemote_fr | apply Fr.next State.logc_fr | apply Fr.next State.modLeaf_fr | refine Fr.snd ‹_ = (_, _)› ?_ | refine Fr.fst ‹_ = (_, _)› ?_ | refine Fr.snd2 ‹_ = (_, _, _)› ?_ | refine Fr.via (by assumption) ?_ | split
  all_goals first | rfl | exact Fr.refl

theorem State.sendLeaf_fr {s a1} : Fr 1048576 s (State.sendLeaf s a1) := by
  unfold State.sendLeaf
  with_reducible
    repeat' first | apply Fr.refl | assumption | apply Fr.ite | apply Fr.next State.modLeaf_fr | refine Fr.snd ‹_ = (_, _)› ?_ | refine Fr.fst ‹_ = (_, _)› ?_ | refine Fr.snd2 ‹_ = (_, _, _)› ?_ | refine Fr.via (by assumption) ?_ | split
  all_goals first | rfl | exact Fr.refl

theorem State.leafLine_fr {s} : Fr 1048576 s (State.leafLine s) := by
  unfold State.leafLine
  with_reducible
    repeat' first | apply Fr.refl | assumption | ((try lift_lets -underBinder); intro (x : State); refine (fun h => ?_ : Fr 1048576 s x → _) ?_; clear_value x; rotate_left; subst x) | apply Fr.ite | apply Fr.next State.modLeaf_fr | apply Fr.next State.sendLeaf_fr | apply Fr.next State.wantDemote_fr | refine Fr.snd ‹_ = (_, _)› ?_ | refine Fr.fst ‹_ = (_, _)› ?_ | refine Fr.snd2 ‹_ = (_, _, _)› ?_ | refine Fr.via (by assumption) ?_ | split
  all_goals first | rfl | exact Fr.refl

theorem State.sendCopy_fr {s} : Fr 1048576 s (State.sendCopy s) := by
  unfold State.sendCopy
  with_reducible
    repeat' first | apply Fr.refl | assumption | ((try lift_lets -underBinder); intro (x : State); refine (fun h => ?_ : Fr 1048576 s x → _) ?_; clear_value x; rotate_left; subst x) | ((try lift_lets -underBinder); intro x; clear_value x) | apply Fr.ite | apply Fr.next State.modLeaf_fr | refine Fr.each ?_ (fun s _ => ?_) | apply Fr.next State.sendSync_fr | refine Fr.snd ‹_ = (_, _)› ?_ | refine Fr.fst ‹_ = (_, _)› ?_ | refine Fr.snd2 ‹_ = (_, _, _)› ?_ | refine Fr.via (by assumption) ?_ | split
  all_goals first | rfl | exact Fr.refl

theorem State.sendFetch_fr {s a1 a2 a3 a4 a5} : Fr 1048576 s (State.sendFetch s a1 a2 a3 a4 a5) := by
  induction a4 generalizing s a1 a2 a3 a5 with
  | zero =>
    (unfold State.sendFetch)
    with_reducible
      repeat' first | apply Fr.refl | ((try lift_lets -underBinder); intro (x : State); refine (fun h => ?_ : Fr 1048576 s x → _) ?_; clear_value x; rotate_left; subst x) | ((try lift_lets -underBinder); intro (x : _ × _ × State); refine (fun h => ?_ : Fr 1048576 s x.2.2 → _) ?_; clear_value x; rotate_left; subst x) | ((try lift_lets -underBinder); intro (x : _ × State); refine (fun h => ?_ : Fr 1048576 s x.2 → _) ?_; clear_value x; rotate_left; subst x) | ((try lift_lets -underBinder); intro (x : State × _); refine (fun h => ?_ : Fr 1048576 s x.1 → _) ?_; clear_value x; rotate_left; subst x) | ((try lift_lets -underBinder); intro (x : State → State); refine (fun h => ?_ : (∀ s, Fr 1048576 s (x s)) → _) ?_; clear_value x; rotate_left; subst x; intro s; (try simp only [])) | ((try lift_lets -underBinder); intro x; have : ∀ s, x s = x s := fun _ => rfl; clear this; subst x) | ((try lift_lets -underBinder); intro x; clear_value x)
    all_goals rfl
  | succ i ih =>
    (unfold State.sendFetch)
    with_reducible
      repeat' first | apply Fr.refl | assumption | apply Fr.next ih | apply Fr.ite | apply Fr.next State.mirror_fr | refine Fr.snd ‹_ = (_, _)› ?_ | refine Fr.fst ‹_ = (_, _)› ?_ | refine Fr.snd2 ‹_ = (_, _, _)› ?_ | refine Fr.via (by assumption) ?_ | split
    all_goals rfl

theorem State.sendRole_fr {s a1} : Fr 1048576 s (State.sendRole s a1) := by
  unfold State.sendRole
  with_reducible
    repeat' first | apply Fr.refl | assumption | apply Fr.ite | apply Fr.next State.modLeaf_fr | apply Fr.next State.sendLeaf_fr | refine Fr.snd ‹_ = (_, _)› ?_ | refine Fr.fst ‹_ = (_, _)› ?_ | refine Fr.snd2 ‹_ = (_, _, _)› ?_ | refine Fr.via (by assumption) ?_ | split
  all_goals first | rfl | exact Fr.refl

theorem State.stageDone_fr {s a1 a2} : Fr 65 s (State.stageDone s a1 a2) := by
  unfold State.stageDone
  with_reducible
    repeat' first | apply Fr.refl | assumption | apply Fr.ite | apply Fr.next State.showStage_fr | apply Fr.next State.modBoot_fr | refine Fr.snd ‹_ = (_, _)› ?_ | refine Fr.fst ‹_ = (_, _)› ?_ | refine Fr.snd2 ‹_ = (_, _, _)› ?_ | refine Fr.via (by assumption) ?_ | split
  all_goals first | rfl | exact Fr.refl

theorem State.syncEntry_fr {s a1 a2} : Fr 1024 s (State.syncEntry s a1 a2) := by
  unfold State.syncEntry
  with_reducible
    repeat' first | apply Fr.refl | assumption | ((try lift_lets -underBinder); intro x; clear_value x) | apply Fr.ite | apply Fr.next State.putEntry_fr | refine Fr.snd ‹_ = (_, _)› ?_ | refine Fr.fst ‹_ = (_, _)› ?_ | refine Fr.snd2 ‹_ = (_, _, _)› ?_ | refine Fr.via (by assumption) ?_ | split
  all_goals first | rfl | exact Fr.refl

theorem State.syncGot_fr {s a1 a2 a3} : Fr 68170753 s (State.syncGot s a1 a2 a3) := by
  unfold State.syncGot
  with_reducible
    repeat' first | apply Fr.refl | assumption | ((try lift_lets -underBinder); intro (x : State); refine (fun h => ?_ : Fr 68170753 s x → _) ?_; clear_value x; rotate_left; subst x) | ((try lift_lets -underBinder); intro x; clear_value x) | apply Fr.ite | apply Fr.next State.modLeaf_fr | apply Fr.next State.commitReady_fr | apply Fr.next State.wr_fr | refine Fr.snd ‹_ = (_, _)› ?_ | refine Fr.fst ‹_ = (_, _)› ?_ | refine Fr.snd2 ‹_ = (_, _, _)› ?_ | refine Fr.via (by assumption) ?_ | split
  all_goals first | rfl | exact Fr.refl

theorem State.takeRecords_fr {s a1} : Fr 134217985 s (State.takeRecords s a1) := by
  unfold State.takeRecords
  with_reducible
    repeat' first | apply Fr.refl | assumption | ((try lift_lets -underBinder); intro (x : State); refine (fun h => ?_ : Fr 134217985 s x → _) ?_; clear_value x; rotate_left; subst x) | apply Fr.ite | apply Fr.next State.wr_fr | apply Fr.next State.bump_fr | apply Fr.next State.logc_fr | apply Fr.next State.event_fr | refine Fr.snd ‹_ = (_, _)› ?_ | refine Fr.fst ‹_ = (_, _)› ?_ | refine Fr.snd2 ‹_ = (_, _, _)› ?_ | refine Fr.via (by assumption) ?_ | split
  all_goals first | rfl | exact Fr.refl

theorem State.takeSelf_fr {s a1} : Fr 219195137 s (State.takeSelf s a1) := by
  unfold State.takeSelf
  with_reducible
    repeat' first | apply Fr.refl | assumption | ((try lift_lets -underBinder); intro (x : State); refine (fun h => ?_ : Fr 219195137 s x → _) ?_; clear_value x; rotate_left; subst x) | apply Fr.ite | apply Fr.next State.decideTake_fr | apply Fr.next State.sendRole_fr | refine Fr.snd ‹_ = (_, _)› ?_ | refine Fr.fst ‹_ = (_, _)› ?_ | refine Fr.snd2 ‹_ = (_, _, _)› ?_ | refine Fr.via (by assumption) ?_ | split
  all_goals first | rfl | exact Fr.refl

theorem execActiveSilent_fr {s} : FrO 219195137 s (execActiveSilent s) := by
  unfold execActiveSilent
  with_reducible
    repeat' first | apply FrO.next | apply FrO.ite | apply Fr.refl | assumption | apply Fr.ite | apply Fr.next State.takeSelf_fr | refine Fr.snd ‹_ = (_, _)› ?_ | refine Fr.fst ‹_ = (_, _)› ?_ | refine Fr.snd2 ‹_ = (_, _, _)› ?_ | refine Fr.via (by assumption) ?_ | split
  all_goals first | rfl | exact Fr.refl

theorem execDemoteSend_fr {s} : FrO 219719433 s (execDemoteSend s) := by
  unfold execDemoteSend
  with_reducible
    repeat' first | apply FrO.next | apply FrO.ite | apply Fr.refl | assumption | ((try lift_lets -underBinder); intro (x : State); refine (fun h => ?_ : Fr 219719433 s x → _) ?_; clear_value x; rotate_left; subst x) | apply Fr.ite | apply Fr.next State.decideTake_fr | apply Fr.next State.toWc_fr | apply Fr.next State.sendRole_fr | apply Fr.next State.sendLeaf_fr | refine Fr.snd ‹_ = (_, _)› ?_ | refine Fr.fst ‹_ = (_, _)› ?_ | refine Fr.snd2 ‹_ = (_, _, _)› ?_ | refine Fr.via (by assumption) ?_ | split
  all_goals first | rfl | exact Fr.refl

theorem execHingePartnerTimeout_fr {s} : FrO 141566213 s (execHingePartnerTimeout s) := by
  unfold execHingePartnerTimeout
  with_reducible
    repeat' first | apply FrO.next | apply FrO.ite | apply Fr.refl | assumption | apply Fr.ite | apply Fr.next State.setRole_fr | apply Fr.next State.startFail_fr | refine Fr.snd ‹_ = (_, _)› ?_ | refine Fr.fst ‹_ = (_, _)› ?_ | refine Fr.snd2 ‹_ = (_, _, _)› ?_ | refine Fr.via (by assumption) ?_ | split
  all_goals first | rfl | exact Fr.refl

theorem execInvalidateCommit_fr {s} : FrO 135279873 s (execInvalidateCommit s) := by
  unfold execInvalidateCommit
  with_reducible
    repeat' first | apply FrO.next | apply FrO.ite | apply Fr.refl | assumption | apply Fr.ite | refine State.commitWith_fr (hk := fun s => ?_) ?_ ?_ | apply Fr.next State.invalidateCommit_fr | refine Fr.snd ‹_ = (_, _)› ?_ | refine Fr.fst ‹_ = (_, _)› ?_ | refine Fr.snd2 ‹_ = (_, _, _)› ?_ | refine Fr.via (by assumption) ?_ | split
  all_goals first | rfl | exact Fr.refl

theorem execLeafDemote_fr {a0 s} : FrO 219195137 s (execLeafDemote a0 s) := by
  unfold execLeafDemote
  with_reducible
    repeat' first | apply FrO.next | apply FrO.ite | apply Fr.refl | assumption | apply Fr.ite | apply Fr.next State.decideTake_fr | apply Fr.next State.logc_fr | refine Fr.snd ‹_ = (_, _)› ?_ | refine Fr.fst ‹_ = (_, _)› ?_ | refine Fr.snd2 ‹_ = (_, _, _)› ?_ | refine Fr.via (by assumption) ?_ | split
  all_goals first | rfl | exact Fr.refl

theorem execLeafHello_fr {a0 s} : FrO 141566221 s (execLeafHello a0 s) := by
  unfold execLeafHello
  with_reducible
    repeat' first | apply FrO.next | apply FrO.ite | apply Fr.refl | assumption | apply Fr.ite | apply Fr.next State.modLeaf_fr | apply Fr.next State.wr_fr | apply Fr.next State.logc_fr | apply Fr.next State.setRole_fr | apply Fr.next State.joinAs_fr | apply Fr.next State.sendCopy_fr | refine Fr.snd ‹_ = (_, _)› ?_ | refine Fr.fst ‹_ = (_, _)› ?_ | refine Fr.snd2 ‹_ = (_, _, _)› ?_ | refine Fr.via (by assumption) ?_ | split
  all_goals first | rfl | exact Fr.refl

theorem execLeafTake_fr {a0 s} : FrO 141566213 s (execLeafTake a0 s) := by
  unfold execLeafTake
  with_reducible
    repeat' first | apply FrO.next | apply FrO.ite | apply Fr.refl | assumption | apply Fr.ite | apply Fr.next State.depose_fr | refine Fr.snd ‹_ = (_, _)› ?_ | refine Fr.fst ‹_ = (_, _)› ?_ | refine Fr.snd2 ‹_ = (_, _, _)› ?_ | refine Fr.via (by assumption) ?_ | split
  all_goals first | rfl | exact Fr.refl

theorem execMirrorCommit_fr {a0 s} : FrO 1048576 s (execMirrorCommit a0 s) := by
  unfold execMirrorCommit
  with_reducible
    repeat' first | apply FrO.next | apply FrO.ite | apply Fr.refl | assumption | apply Fr.ite | apply Fr.next State.modLeaf_fr | refine Fr.snd ‹_ = (_, _)› ?_ | refine Fr.fst ‹_ = (_, _)› ?_ | refine Fr.snd2 ‹_ = (_, _, _)› ?_ | refine Fr.via (by assumption) ?_ | split
  all_goals first | rfl | exact Fr.refl

theorem execMirrorCommitApply_fr {s} : FrO 202913033 s (execMirrorCommitApply s) := by
  unfold execMirrorCommitApply
  with_reducible
    repeat' first | apply FrO.next | apply FrO.ite | apply Fr.refl | assumption | apply Fr.ite | apply Fr.next State.dueAt_fr | apply Fr.next State.fetchFor_fr | apply Fr.next State.modLeaf_fr | apply Fr.next State.takeCg_fr | apply Fr.next State.commitTile_fr | apply Fr.next State.commitMark_fr | apply Fr.next State.resample_fr | apply Fr.next State.commitReady_fr | apply Fr.next State.divergeTile_fr | refine Fr.snd ‹_ = (_, _)› ?_ | refine Fr.fst ‹_ = (_, _)› ?_ | refine Fr.snd2 ‹_ = (_, _, _)› ?_ | refine Fr.via (by assumption) ?_ | split
  all_goals first | rfl | exact Fr.refl

theorem execMirrorEditApply_fr {a0 s} : FrO 141566213 s (execMirrorEditApply a0 s) := by
  unfold execMirrorEditApply
  with_reducible
    repeat' first | apply FrO.next | apply FrO.ite | apply Fr.refl | assumption | apply Fr.ite | apply Fr.next State.toSyncing_fr | apply Fr.next State.logc_fr | refine Fr.snd ‹_ = (_, _)› ?_ | refine Fr.fst ‹_ = (_, _)› ?_ | refine Fr.snd2 ‹_ = (_, _, _)› ?_ | refine Fr.via (by assumption) ?_ | split
  all_goals first | rfl | exact Fr.refl

theorem execMirrorFetchData_fr {a0 s} : FrO 68170753 s (execMirrorFetchData a0 s) := by
  unfold execMirrorFetchData
  with_reducible
    repeat' first | apply FrO.next | apply FrO.ite | apply Fr.refl | assumption | apply Fr.ite | apply Fr.next State.commitReady_fr | apply Fr.next State.modLeaf_fr | refine Fr.snd ‹_ = (_, _)› ?_ | refine Fr.fst ‹_ = (_, _)› ?_ | refine Fr.snd2 ‹_ = (_, _, _)› ?_ | refine Fr.via (by assumption) ?_ | split
  all_goals first | rfl | exact Fr.refl

theorem execMirrorFetchReq_fr {a0 s} : FrO 1048576 s (execMirrorFetchReq a0 s) := by
  unfold execMirrorFetchReq
  with_reducible
    repeat' first | apply FrO.next | apply FrO.ite | apply Fr.refl | assumption | apply Fr.ite | apply Fr.next State.sendFetch_fr | refine Fr.snd ‹_ = (_, _)› ?_ | refine Fr.fst ‹_ = (_, _)› ?_ | refine Fr.snd2 ‹_ = (_, _, _)› ?_ | refine Fr.via (by assumption) ?_ | split
  all_goals first | rfl | exact Fr.refl

theorem execMirrorLine_fr {a0 s} : FrO 141582597 s (execMirrorLine a0 s) := by
  unfold execMirrorLine
  with_reducible
    repeat' first | apply FrO.next | apply FrO.ite | apply Fr.refl | assumption | apply Fr.ite | apply Fr.next State.modLeaf_fr | apply Fr.next State.wr_fr | apply Fr.next State.compareDig_fr | apply Fr.next State.wantDemote_fr | refine Fr.snd ‹_ = (_, _)› ?_ | refine Fr.fst ‹_ = (_, _)› ?_ | refine Fr.snd2 ‹_ = (_, _, _)› ?_ | refine Fr.via (by assumption) ?_ | split
  all_goals first | rfl | exact Fr.refl

theorem execMirrorRepair_fr {a0 s} : FrO 202375425 s (execMirrorRepair a0 s) := by
  unfold execMirrorRepair
  with_reducible
    repeat' first | apply FrO.next | apply FrO.ite | apply Fr.refl | assumption | apply Fr.ite | apply Fr.next State.modLeaf_fr | apply Fr.next State.hbmWr_fr | apply Fr.next State.repairSts_fr | refine Fr.snd ‹_ = (_, _)› ?_ | refine Fr.fst ‹_ = (_, _)› ?_ | refine Fr.snd2 ‹_ = (_, _, _)› ?_ | refine Fr.via (by assumption) ?_ | split
  all_goals first | rfl | exact Fr.refl

theorem execMirrorSync_fr {a0 s} : FrO 202388513 s (execMirrorSync a0 s) := by
  unfold execMirrorSync
  with_reducible
    repeat' first | apply FrO.next | apply FrO.ite | apply Fr.refl | assumption | apply Fr.ite | apply Fr.next State.syncGot_fr | refine Fr.each ?_ (fun s _ => ?_) | apply Fr.next State.syncEntry_fr | apply Fr.next State.hbmWr_fr | apply Fr.next State.startResidues_fr | refine Fr.snd ‹_ = (_, _)› ?_ | refine Fr.fst ‹_ = (_, _)› ?_ | refine Fr.snd2 ‹_ = (_, _, _)› ?_ | refine Fr.via (by assumption) ?_ | split
  all_goals first | rfl | exact Fr.refl

theorem execMirrorUpdateExpire_fr {a0 s} : FrO 5121 s (execMirrorUpdateExpire a0 s) := by
  unfold execMirrorUpdateExpire
  with_reducible
    repeat' first | apply FrO.next | apply FrO.ite | apply Fr.refl | assumption | apply Fr.ite | apply Fr.next State.endUpdate_fr | refine Fr.snd ‹_ = (_, _)› ?_ | refine Fr.fst ‹_ = (_, _)› ?_ | refine Fr.snd2 ‹_ = (_, _, _)› ?_ | refine Fr.via (by assumption) ?_ | split
  all_goals first | rfl | exact Fr.refl

theorem execMirrorWeftStart_fr {a0 s} : FrO 1048576 s (execMirrorWeftStart a0 s) := by
  unfold execMirrorWeftStart
  with_reducible
    repeat' first | apply FrO.next | apply FrO.ite | apply Fr.refl | assumption | apply Fr.ite | apply Fr.next State.modLeaf_fr | refine Fr.snd ‹_ = (_, _)› ?_ | refine Fr.fst ‹_ = (_, _)› ?_ | refine Fr.snd2 ‹_ = (_, _, _)› ?_ | refine Fr.via (by assumption) ?_ | split
  all_goals first | rfl | exact Fr.refl

theorem execPartnerLostTimeout_fr {s} : FrO 219195137 s (execPartnerLostTimeout s) := by
  unfold execPartnerLostTimeout
  with_reducible
    repeat' first | apply FrO.next | apply FrO.ite | apply Fr.refl | assumption | apply Fr.ite | apply Fr.next State.event_fr | apply Fr.next State.wr_fr | apply Fr.next State.takeSelf_fr | refine Fr.snd ‹_ = (_, _)› ?_ | refine Fr.fst ‹_ = (_, _)› ?_ | refine Fr.snd2 ‹_ = (_, _, _)› ?_ | refine Fr.via (by assumption) ?_ | split
  all_goals first | rfl | exact Fr.refl

theorem execPlannedSwap_fr {s} : FrO 1048576 s (execPlannedSwap s) := by
  unfold execPlannedSwap
  with_reducible
    repeat' first | apply FrO.next | apply FrO.ite | apply Fr.refl | assumption | apply Fr.ite | apply Fr.next State.wantDemote_fr | apply Fr.next State.modLeaf_fr | refine Fr.snd ‹_ = (_, _)› ?_ | refine Fr.fst ‹_ = (_, _)› ?_ | refine Fr.snd2 ‹_ = (_, _, _)› ?_ | refine Fr.via (by assumption) ?_ | split
  all_goals first | rfl | exact Fr.refl

theorem execReportMissing_fr {a0 a1 s} : FrO 141582597 s (execReportMissing a0 a1 s) := by
  unfold execReportMissing
  with_reducible
    repeat' first | apply FrO.next | apply FrO.ite | apply Fr.refl | assumption | apply Fr.ite | apply Fr.next State.reportMissing_fr | apply Fr.next State.depose_fr | refine Fr.snd ‹_ = (_, _)› ?_ | refine Fr.fst ‹_ = (_, _)› ?_ | refine Fr.snd2 ‹_ = (_, _, _)› ?_ | refine Fr.via (by assumption) ?_ | split
  all_goals first | rfl | exact Fr.refl

theorem execRestampCommit_fr {s} : FrO 135279873 s (execRestampCommit s) := by
  unfold execRestampCommit
  with_reducible
    repeat' first | apply FrO.next | apply FrO.ite | apply Fr.refl | assumption | apply Fr.ite | refine State.commitWith_fr (hk := fun s => ?_) ?_ ?_ | apply Fr.next State.restampCommit_fr | refine Fr.snd ‹_ = (_, _)› ?_ | refine Fr.fst ‹_ = (_, _)› ?_ | refine Fr.snd2 ‹_ = (_, _, _)› ?_ | refine Fr.via (by assumption) ?_ | split
  all_goals first | rfl | exact Fr.refl

theorem execRevert_fr {s} : FrO 1048576 s (execRevert s) := by
  unfold execRevert
  with_reducible
    repeat' first | apply FrO.next | apply FrO.ite | apply Fr.refl | assumption | apply Fr.ite | apply Fr.next State.modLeaf_fr | refine Fr.snd ‹_ = (_, _)› ?_ | refine Fr.fst ‹_ = (_, _)› ?_ | refine Fr.snd2 ‹_ = (_, _, _)› ?_ | refine Fr.via (by assumption) ?_ | split
  all_goals first | rfl | exact Fr.refl

theorem execSyncComplete_fr {s} : FrO 141566213 s (execSyncComplete s) := by
  unfold execSyncComplete
  with_reducible
    repeat' first | apply FrO.next | apply FrO.ite | apply Fr.refl | assumption | apply Fr.ite | apply Fr.next State.logc_fr | apply Fr.next State.event_fr | apply Fr.next State.setRole_fr | refine Fr.snd ‹_ = (_, _)› ?_ | refine Fr.fst ‹_ = (_, _)› ?_ | refine Fr.snd2 ‹_ = (_, _, _)› ?_ | refine Fr.via (by assumption) ?_ | split
  all_goals first | rfl | exact Fr.refl

theorem execTileCommit_fr {s} : FrO 135279873 s (execTileCommit s) := by
  unfold execTileCommit
  with_reducible
    repeat' first | apply FrO.next | apply FrO.ite | apply Fr.refl | assumption | apply Fr.ite | refine State.commitWith_fr (hk := fun s => ?_) ?_ ?_ | apply Fr.next State.tileCommit_fr | refine Fr.snd ‹_ = (_, _)› ?_ | refine Fr.fst ‹_ = (_, _)› ?_ | refine Fr.snd2 ‹_ = (_, _, _)› ?_ | refine Fr.via (by assumption) ?_ | split
  all_goals first | rfl | exact Fr.refl

theorem wrLefCtl_fr {a0 s} : Fr 141566213 s (wrLefCtl a0 s).2 := by
  unfold wrLefCtl
  with_reducible
    repeat' first | apply Fr.refl | assumption | ((try lift_lets -underBinder); intro (x : State); refine (fun h => ?_ : Fr 141566213 s x → _) ?_; clear_value x; rotate_left; subst x) | ((try lift_lets -underBinder); intro (x : _ × State); refine (fun h => ?_ : Fr 141566213 s x.2 → _) ?_; clear_value x; rotate_left; subst x) | apply Fr.ite | apply Fr.ite2 | apply Fr.next State.wrB_fr | apply Fr.next okW_fr | apply Fr.next State.toSyncing_fr | apply Fr.next ignCode_fr | apply Fr.next State.wantDemote_fr | refine Fr.snd ‹_ = (_, _)› ?_ | refine Fr.fst ‹_ = (_, _)› ?_ | refine Fr.snd2 ‹_ = (_, _, _)› ?_ | refine Fr.via (by assumption) ?_ | split
  all_goals first | rfl | exact Fr.refl

end Sys2Proof.Machine
end

