-- ==== Sys2Proof/Laws/FrameScan.lean ====
section
/-! SUPPORT. The frame of every operation of Machine/Scan.lean. -/

namespace Sys2Proof.Machine

set_option linter.unusedTactic false
set_option linter.unreachableTactic false

theorem State.compareNeed_fr {s} : Fr 134218497 s (State.compareNeed s) := by
  unfold State.compareNeed
  with_reducible
    repeat' first | apply Fr.refl | assumption | ((try lift_lets -underBinder); intro (x : State); refine (fun h => ?_ : Fr 134218497 s x → _) ?_; clear_value x; rotate_left; subst x) | ((try lift_lets -underBinder); intro x; clear_value x) | apply Fr.ite | apply Fr.next State.modMem_fr | apply Fr.next State.wrB_fr | apply Fr.next State.wr_fr | apply Fr.next State.event_fr | apply Fr.next State.logc_fr | refine Fr.snd ‹_ = (_, _)› ?_ | refine Fr.fst ‹_ = (_, _)› ?_ | refine Fr.snd2 ‹_ = (_, _, _)› ?_ | refine Fr.via (by assumption) ?_ | split
  all_goals first | rfl | exact Fr.refl

theorem State.applyChecks_fr {s} : Fr 134218497 s (State.applyChecks s) := by
  unfold State.applyChecks
  with_reducible
    repeat' first | apply Fr.refl | assumption | ((try lift_lets -underBinder); intro (x : State); refine (fun h => ?_ : Fr 134218497 s x → _) ?_; clear_value x; rotate_left; subst x) | apply Fr.ite | refine Fr.each ?_ (fun s _ => ?_) | apply Fr.next State.louvreWarn_fr | apply Fr.next State.compareNeed_fr | apply Fr.next State.modMem_fr | refine Fr.snd ‹_ = (_, _)› ?_ | refine Fr.fst ‹_ = (_, _)› ?_ | refine Fr.snd2 ‹_ = (_, _, _)› ?_ | refine Fr.via (by assumption) ?_ | split
  all_goals first | rfl | exact Fr.refl

theorem State.applyTables_fr {s} : Fr 5123 s (State.applyTables s) := by
  unfold State.applyTables
  with_reducible
    repeat' first | apply Fr.refl | assumption | ((try lift_lets -underBinder); intro (x : State); refine (fun h => ?_ : Fr 5123 s x → _) ?_; clear_value x; rotate_left; subst x) | apply Fr.ite | refine Fr.each ?_ (fun s _ => ?_) | apply Fr.next State.applySettings_fr | apply Fr.next State.applyLut_fr | apply Fr.next State.applyMap_fr | apply Fr.next State.makePlan_fr | refine Fr.snd ‹_ = (_, _)› ?_ | refine Fr.fst ‹_ = (_, _)› ?_ | refine Fr.snd2 ‹_ = (_, _, _)› ?_ | refine Fr.via (by assumption) ?_ | split
  all_goals first | rfl | exact Fr.refl

theorem State.blanking_fr {s} : Fr 151159553 s (State.blanking s) := by
  unfold State.blanking
  with_reducible
    repeat' first | apply Fr.refl | assumption | apply Fr.ite | apply Fr.next State.hbmTrims_fr | apply Fr.next State.laneTrims_fr | apply Fr.next State.readmitLanes_fr | apply Fr.next State.shutterCheck_fr | refine Fr.snd ‹_ = (_, _)› ?_ | refine Fr.fst ‹_ = (_, _)› ?_ | refine Fr.snd2 ‹_ = (_, _, _)› ?_ | refine Fr.via (by assumption) ?_ | split
  all_goals first | rfl | exact Fr.refl

theorem State.captureEnd_fr {s a1} : Fr 134250753 s (State.captureEnd s a1) := by
  unfold State.captureEnd
  with_reducible
    repeat' first | apply Fr.refl | assumption | apply Fr.ite | apply Fr.next State.shutAbort_fr | refine Fr.snd ‹_ = (_, _)› ?_ | refine Fr.fst ‹_ = (_, _)› ?_ | refine Fr.snd2 ‹_ = (_, _, _)› ?_ | refine Fr.via (by assumption) ?_ | split
  all_goals first | rfl | exact Fr.refl

theorem State.exitFrame_fr {s} : Fr 138412325 s (State.exitFrame s) := by
  unfold State.exitFrame
  with_reducible
    repeat' first | apply Fr.refl | assumption | apply Fr.ite | apply Fr.next State.modPanel_fr | apply Fr.next State.setPower_fr | refine Fr.snd ‹_ = (_, _)› ?_ | refine Fr.fst ‹_ = (_, _)› ?_ | refine Fr.snd2 ‹_ = (_, _, _)› ?_ | refine Fr.via (by assumption) ?_ | split
  all_goals first | rfl | exact Fr.refl

theorem State.frameBegin_fr {s a1} : Fr 134272803 s (State.frameBegin s a1) := by
  unfold State.frameBegin
  with_reducible
    repeat' first | apply Fr.refl | assumption | ((try lift_lets -underBinder); intro (x : State); refine (fun h => ?_ : Fr 134272803 s x → _) ?_; clear_value x; rotate_left; subst x) | ((try lift_lets -underBinder); intro x; clear_value x) | apply Fr.ite | apply Fr.next State.modLog_fr | apply Fr.next State.frameShows_fr | apply Fr.next State.sliceLine_fr | apply Fr.next State.modScene_fr | refine Fr.foldl (fun s _ => ?_) _ ?_ | apply Fr.next State.modScan_fr | refine Fr.each ?_ (fun s _ => ?_) | apply Fr.next State.wr_fr | apply Fr.next State.modPanel_fr | apply Fr.next State.showPlan_fr | apply Fr.next State.latch_fr | apply Fr.next State.compareNeed_fr | refine Fr.snd ‹_ = (_, _)› ?_ | refine Fr.fst ‹_ = (_, _)› ?_ | refine Fr.snd2 ‹_ = (_, _, _)› ?_ | refine Fr.via (by assumption) ?_ | split
  all_goals first | rfl | exact Fr.refl

theorem State.freshRows_fr {s a1} : Fr 32 s (State.freshRows s a1) := by
  unfold State.freshRows
  with_reducible
    repeat' first | apply Fr.refl | assumption | ((try lift_lets -underBinder); intro x; clear_value x) | apply Fr.ite | refine Fr.each ?_ (fun s _ => ?_) | apply Fr.next State.modPanel_fr | refine Fr.snd ‹_ = (_, _)› ?_ | refine Fr.fst ‹_ = (_, _)› ?_ | refine Fr.snd2 ‹_ = (_, _, _)› ?_ | refine Fr.via (by assumption) ?_ | split
  all_goals first | rfl | exact Fr.refl

theorem State.mullionCheck_fr {s a1} : Fr 134250761 s (State.mullionCheck s a1) := by
  unfold State.mullionCheck
  with_reducible
    repeat' first | apply Fr.refl | assumption | ((try lift_lets -underBinder); intro (x : State); refine (fun h => ?_ : Fr 134250761 s x → _) ?_; clear_value x; rotate_left; subst x) | ((try lift_lets -underBinder); intro x; clear_value x) | apply Fr.ite | apply Fr.next State.modClk_fr | apply Fr.next State.modScan_fr | apply Fr.next State.logc_fr | apply Fr.next State.event_fr | refine Fr.snd ‹_ = (_, _)› ?_ | refine Fr.fst ‹_ = (_, _)› ?_ | refine Fr.snd2 ‹_ = (_, _, _)› ?_ | refine Fr.via (by assumption) ?_ | split
  all_goals first | rfl | exact Fr.refl

theorem State.rephaseStart_fr {s} : Fr 134250753 s (State.rephaseStart s) := by
  unfold State.rephaseStart
  with_reducible
    repeat' first | apply Fr.refl | assumption | ((try lift_lets -underBinder); intro (x : State); refine (fun h => ?_ : Fr 134250753 s x → _) ?_; clear_value x; rotate_left; subst x) | ((try lift_lets -underBinder); intro x; clear_value x) | apply Fr.ite | apply Fr.next State.modScan_fr | apply Fr.next State.logc_fr | apply Fr.next State.wr_fr | refine Fr.snd ‹_ = (_, _)› ?_ | refine Fr.fst ‹_ = (_, _)› ?_ | refine Fr.snd2 ‹_ = (_, _, _)› ?_ | refine Fr.via (by assumption) ?_ | split
  all_goals first | rfl | exact Fr.refl

theorem State.setLine_fr {s a1 a2} : Fr 32769 s (State.setLine s a1 a2) := by
  unfold State.setLine
  with_reducible
    repeat' first | apply Fr.refl | assumption | apply Fr.ite | apply Fr.next State.modScan_fr | apply Fr.next State.wr_fr | refine Fr.snd ‹_ = (_, _)› ?_ | refine Fr.fst ‹_ = (_, _)› ?_ | refine Fr.snd2 ‹_ = (_, _, _)› ?_ | refine Fr.via (by assumption) ?_ | split
  all_goals first | rfl | exact Fr.refl

theorem State.servoFree_fr {s} : Fr 16809985 s (State.servoFree s) := by
  unfold State.servoFree
  with_reducible
    repeat' first | apply Fr.refl | assumption | ((try lift_lets -underBinder); intro x; clear_value x) | apply Fr.ite | apply Fr.next State.takeFree_fr | apply Fr.next State.setLine_fr | apply Fr.next State.wr_fr | refine Fr.snd ‹_ = (_, _)› ?_ | refine Fr.fst ‹_ = (_, _)› ?_ | refine Fr.snd2 ‹_ = (_, _, _)› ?_ | refine Fr.via (by assumption) ?_ | split
  all_goals first | rfl | exact Fr.refl

theorem State.lockStep_fr {s a1} : Fr 32769 s (State.lockStep s a1) := by
  unfold State.lockStep
  with_reducible
    repeat' first | apply Fr.refl | assumption | ((try lift_lets -underBinder); intro (x : State); refine (fun h => ?_ : Fr 32769 s x → _) ?_; clear_value x; rotate_left; subst x) | ((try lift_lets -underBinder); intro x; clear_value x) | apply Fr.ite | apply Fr.next State.modScan_fr | apply Fr.next State.wrI_fr | apply Fr.next State.wr_fr | refine Fr.snd ‹_ = (_, _)› ?_ | refine Fr.fst ‹_ = (_, _)› ?_ | refine Fr.snd2 ‹_ = (_, _, _)› ?_ | refine Fr.via (by assumption) ?_ | split
  all_goals first | rfl | exact Fr.refl

theorem State.servo_fr {s a1} : Fr 151027969 s (State.servo s a1) := by
  unfold State.servo
  with_reducible
    repeat' first | apply Fr.refl | assumption | ((try lift_lets -underBinder); intro (x : State); refine (fun h => ?_ : Fr 151027969 s x → _) ?_; clear_value x; rotate_left; subst x) | ((try lift_lets -underBinder); intro x; clear_value x) | apply Fr.ite | apply Fr.next State.wr_fr | apply Fr.next State.setLine_fr | apply Fr.next State.modScan_fr | apply Fr.next State.lockLost_fr | apply Fr.next State.servoFree_fr | apply Fr.next State.lockStep_fr | refine Fr.snd ‹_ = (_, _)› ?_ | refine Fr.fst ‹_ = (_, _)› ?_ | refine Fr.snd2 ‹_ = (_, _, _)› ?_ | refine Fr.via (by assumption) ?_ | split
  all_goals first | rfl | exact Fr.refl

theorem State.frameStart_fr {s a1 a2} : Fr 223934255 s (State.frameStart s a1 a2) := by
  unfold State.frameStart
  with_reducible
    repeat' first | apply Fr.refl | assumption | ((try lift_lets -underBinder); intro (x : State); refine (fun h => ?_ : Fr 223934255 s x → _) ?_; clear_value x; rotate_left; subst x) | ((try lift_lets -underBinder); intro x; clear_value x) | apply Fr.ite | apply Fr.next State.toLineEnd_fr | apply Fr.next State.freshRows_fr | apply Fr.next State.modClk_fr | apply Fr.next State.modScan_fr | apply Fr.next State.modPanel_fr | apply Fr.next State.leafFrame_fr | apply Fr.next State.mullionCheck_fr | apply Fr.next State.frameBegin_fr | apply Fr.next State.exitFrame_fr | apply Fr.next State.captureEnd_fr | refine Fr.each ?_ (fun s _ => ?_) | apply Fr.next State.cycleStart_fr | apply Fr.next State.shutExpiryCheck_fr | apply Fr.next State.rephaseStart_fr | apply Fr.next State.servo_fr | refine Fr.snd ‹_ = (_, _)› ?_ | refine Fr.fst ‹_ = (_, _)› ?_ | refine Fr.snd2 ‹_ = (_, _, _)› ?_ | refine Fr.via (by assumption) ?_ | split
  all_goals first | rfl | exact Fr.refl

theorem State.lineStart_fr {s a1} : Fr 152741641 s (State.lineStart s a1) := by
  unfold State.lineStart
  with_reducible
    repeat' first | apply Fr.refl | assumption | ((try lift_lets -underBinder); intro (x : State); refine (fun h => ?_ : Fr 152741641 s x → _) ?_; clear_value x; rotate_left; subst x) | apply Fr.ite | apply Fr.next State.modClk_fr | apply Fr.next State.toLineEnd_fr | apply Fr.next State.leafLine_fr | apply Fr.next State.mullionCheck_fr | apply Fr.next State.blanking_fr | refine Fr.snd ‹_ = (_, _)› ?_ | refine Fr.fst ‹_ = (_, _)› ?_ | refine Fr.snd2 ‹_ = (_, _, _)› ?_ | refine Fr.via (by assumption) ?_ | split
  all_goals first | rfl | exact Fr.refl

theorem State.lintelLock_fr {s a1} : Fr 134259523 s (State.lintelLock s a1) := by
  unfold State.lintelLock
  with_reducible
    repeat' first | apply Fr.refl | assumption | ((try lift_lets -underBinder); intro (x : State); refine (fun h => ?_ : Fr 134259523 s x → _) ?_; clear_value x; rotate_left; subst x) | ((try lift_lets -underBinder); intro x; clear_value x) | apply Fr.ite | refine Fr.each ?_ (fun s _ => ?_) | apply Fr.next State.latch_fr | apply Fr.next State.logc_fr | apply Fr.next State.modScan_fr | apply Fr.next State.wr_fr | apply Fr.next State.setLine_fr | apply Fr.next State.sliceLine_fr | apply Fr.next State.modBoot_fr | apply Fr.next State.stageDone_fr | apply Fr.next State.startFastPass_fr | refine Fr.snd ‹_ = (_, _)› ?_ | refine Fr.fst ‹_ = (_, _)› ?_ | refine Fr.snd2 ‹_ = (_, _, _)› ?_ | refine Fr.via (by assumption) ?_ | split
  all_goals first | rfl | exact Fr.refl

theorem State.touchTables_fr {s a1} : Fr 1056 s (State.touchTables s a1) := by
  unfold State.touchTables
  with_reducible
    repeat' first | apply Fr.refl | assumption | ((try lift_lets -underBinder); intro x; clear_value x) | apply Fr.ite | apply Fr.next State.modScene_fr | apply Fr.next State.modPanel_fr | refine Fr.snd ‹_ = (_, _)› ?_ | refine Fr.fst ‹_ = (_, _)› ?_ | refine Fr.snd2 ‹_ = (_, _, _)› ?_ | refine Fr.via (by assumption) ?_ | split
  all_goals first | rfl | exact Fr.refl

theorem execApplyPoint_fr {s} : FrO 152221475 s (execApplyPoint s) := by
  unfold execApplyPoint
  with_reducible
    repeat' first | apply FrO.next | apply FrO.ite | apply Fr.refl | assumption | apply Fr.ite | apply Fr.next State.applyEdits_fr | apply Fr.next State.event_fr | apply Fr.next State.freshFrameCount_fr | apply Fr.next State.touchTables_fr | apply Fr.next State.applyChecks_fr | apply Fr.next State.applyTables_fr | refine Fr.each ?_ (fun s _ => ?_) | apply Fr.next State.decideBand_fr | apply Fr.next State.blanking_fr | refine Fr.snd ‹_ = (_, _)› ?_ | refine Fr.fst ‹_ = (_, _)› ?_ | refine Fr.snd2 ‹_ = (_, _, _)› ?_ | refine Fr.via (by assumption) ?_ | split
  all_goals first | rfl | exact Fr.refl

theorem execEnterFull_fr {a0 s} : FrO 226031471 s (execEnterFull a0 s) := by
  unfold execEnterFull
  with_reducible
    repeat' first | apply FrO.next | apply FrO.ite | apply Fr.refl | assumption | ((try lift_lets -underBinder); intro (x : State); refine (fun h => ?_ : Fr 226031471 s x → _) ?_; clear_value x; rotate_left; subst x) | apply Fr.ite | apply Fr.next State.toLineEnd_fr | apply Fr.next State.applyTables_fr | apply Fr.next State.startResidues_fr | apply Fr.next State.modPanel_fr | apply Fr.next State.modClk_fr | apply Fr.next State.setPower_fr | apply Fr.next State.modMode_fr | apply Fr.next State.setRole_fr | apply Fr.next State.modFrs_fr | apply Fr.next State.frameBegin_fr | refine Fr.each ?_ (fun s _ => ?_) | apply Fr.next State.setWaveRails_fr | apply Fr.next State.cycleStart_fr | apply Fr.next State.fastPass_fr | apply Fr.next State.rephaseStart_fr | apply Fr.next State.servo_fr | apply Fr.next State.fitGroup_fr | apply Fr.next State.wr_fr | apply Fr.next State.modBoot_fr | refine Fr.snd ‹_ = (_, _)› ?_ | refine Fr.fst ‹_ = (_, _)› ?_ | refine Fr.snd2 ‹_ = (_, _, _)› ?_ | refine Fr.via (by assumption) ?_ | split
  all_goals first | rfl | exact Fr.refl

theorem execFrameStart_fr {a0 a1 s} : FrO 223934255 s (execFrameStart a0 a1 s) := by
  unfold execFrameStart
  with_reducible
    repeat' first | apply FrO.next | apply FrO.ite | apply Fr.refl | assumption | apply Fr.ite | apply Fr.next State.frameStart_fr | refine Fr.snd ‹_ = (_, _)› ?_ | refine Fr.fst ‹_ = (_, _)› ?_ | refine Fr.snd2 ‹_ = (_, _, _)› ?_ | refine Fr.via (by assumption) ?_ | split
  all_goals first | rfl | exact Fr.refl

theorem execHouseSyncEdge_fr {s} : FrO 32769 s (execHouseSyncEdge s) := by
  unfold execHouseSyncEdge
  with_reducible
    repeat' first | apply FrO.next | apply FrO.ite | apply Fr.refl | assumption | apply Fr.ite | apply Fr.next State.modScan_fr | apply Fr.next State.lockBack_fr | refine Fr.snd ‹_ = (_, _)› ?_ | refine Fr.fst ‹_ = (_, _)› ?_ | refine Fr.snd2 ‹_ = (_, _, _)› ?_ | refine Fr.via (by assumption) ?_ | split
  all_goals first | rfl | exact Fr.refl

theorem execLineMatch_fr {s} : FrO 134217985 s (execLineMatch s) := by
  unfold execLineMatch
  with_reducible
    repeat' first | apply FrO.next | apply FrO.ite | apply Fr.refl | assumption | apply Fr.ite | apply Fr.next State.event_fr | refine Fr.snd ‹_ = (_, _)› ?_ | refine Fr.fst ‹_ = (_, _)› ?_ | refine Fr.snd2 ‹_ = (_, _, _)› ?_ | refine Fr.via (by assumption) ?_ | split
  all_goals first | rfl | exact Fr.refl

theorem execLineStart_fr {a0 s} : FrO 152741641 s (execLineStart a0 s) := by
  unfold execLineStart
  with_reducible
    repeat' first | apply FrO.next | apply FrO.ite | apply Fr.refl | assumption | apply Fr.ite | apply Fr.next State.lineStart_fr | refine Fr.snd ‹_ = (_, _)› ?_ | refine Fr.fst ‹_ = (_, _)› ?_ | refine Fr.snd2 ‹_ = (_, _, _)› ?_ | refine Fr.via (by assumption) ?_ | split
  all_goals first | rfl | exact Fr.refl

theorem execLintelLock_fr {s} : FrO 134259523 s (execLintelLock s) := by
  unfold execLintelLock
  with_reducible
    repeat' first | apply FrO.next | apply FrO.ite | apply Fr.refl | assumption | apply Fr.ite | apply Fr.next State.lintelLock_fr | refine Fr.snd ‹_ = (_, _)› ?_ | refine Fr.fst ‹_ = (_, _)› ?_ | refine Fr.snd2 ‹_ = (_, _, _)› ?_ | refine Fr.via (by assumption) ?_ | split
  all_goals first | rfl | exact Fr.refl

theorem execLintelLockTimeout_fr {s} : FrO 134259523 s (execLintelLockTimeout s) := by
  unfold execLintelLockTimeout
  with_reducible
    repeat' first | apply FrO.next | apply FrO.ite | apply Fr.refl | assumption | apply Fr.ite | apply Fr.next State.startFail_fr | apply Fr.next State.wrB_fr | apply Fr.next State.lintelLock_fr | refine Fr.snd ‹_ = (_, _)› ?_ | refine Fr.fst ‹_ = (_, _)› ?_ | refine Fr.snd2 ‹_ = (_, _, _)› ?_ | refine Fr.via (by assumption) ?_ | split
  all_goals first | rfl | exact Fr.refl

theorem wrRaster_fr {a0 a1 s} : Fr 134217985 s (wrRaster a0 a1 s).2 := by
  unfold wrRaster
  with_reducible
    repeat' first | apply Fr.refl | assumption | apply Fr.ite | apply Fr.ite2 | apply Fr.next ignCode_fr | apply Fr.next okW_fr | apply Fr.next State.plainWrite_fr | refine Fr.snd ‹_ = (_, _)› ?_ | refine Fr.fst ‹_ = (_, _)› ?_ | refine Fr.snd2 ‹_ = (_, _, _)› ?_ | refine Fr.via (by assumption) ?_ | split
  all_goals first | rfl | exact Fr.refl

end Sys2Proof.Machine
end

