-- ==== Sys2Proof/Laws/FrameWeft.lean ====
section
/-! SUPPORT. The frame of every operation of Machine/Weft.lean. -/

namespace Sys2Proof.Machine

set_option linter.unusedTactic false
set_option linter.unreachableTactic false

theorem State.weftPaused_fr {s} : Fr 1 s (State.weftPaused s) := by
  unfold State.weftPaused
  with_reducible
    repeat' first | apply Fr.refl | assumption | apply Fr.ite | apply Fr.next State.wrB_fr | refine Fr.snd ‹_ = (_, _)› ?_ | refine Fr.fst ‹_ = (_, _)› ?_ | refine Fr.snd2 ‹_ = (_, _, _)› ?_ | refine Fr.via (by assumption) ?_ | split
  all_goals first | rfl | exact Fr.refl

theorem State.sqPop_fr {s} : Fr 1 s (State.sqPop s) := by
  unfold State.sqPop
  with_reducible
    repeat' first | apply Fr.refl | assumption | apply Fr.ite | apply Fr.next State.wr_fr | refine Fr.snd ‹_ = (_, _)› ?_ | refine Fr.fst ‹_ = (_, _)› ?_ | refine Fr.snd2 ‹_ = (_, _, _)› ?_ | refine Fr.via (by assumption) ?_ | split
  all_goals first | rfl | exact Fr.refl

theorem State.endList_fr {s a1} : Fr 134283521 s (State.endList s a1) := by
  unfold State.endList
  with_reducible
    repeat' first | apply Fr.refl | assumption | ((try lift_lets -underBinder); intro (x : State); refine (fun h => ?_ : Fr 134283521 s x → _) ?_; clear_value x; rotate_left; subst x) | apply Fr.ite | apply Fr.next State.modWeft_fr | apply Fr.next State.wr_fr | apply Fr.next State.wrB_fr | apply Fr.next State.weftPaused_fr | apply Fr.next State.sqPop_fr | apply Fr.next State.event_fr | refine Fr.snd ‹_ = (_, _)› ?_ | refine Fr.fst ‹_ = (_, _)› ?_ | refine Fr.snd2 ‹_ = (_, _, _)› ?_ | refine Fr.via (by assumption) ?_ | split
  all_goals first | rfl | exact Fr.refl

theorem State.weftErr_fr {s a1 a2 a3} : Fr 134217985 s (State.weftErr s a1 a2 a3) := by
  unfold State.weftErr
  with_reducible
    repeat' first | apply Fr.refl | assumption | ((try lift_lets -underBinder); intro (x : State); refine (fun h => ?_ : Fr 134217985 s x → _) ?_; clear_value x; rotate_left; subst x) | apply Fr.ite | apply Fr.next State.wr_fr | apply Fr.next State.logc_fr | apply Fr.next State.event_fr | refine Fr.snd ‹_ = (_, _)› ?_ | refine Fr.fst ‹_ = (_, _)› ?_ | refine Fr.snd2 ‹_ = (_, _, _)› ?_ | refine Fr.via (by assumption) ?_ | split
  all_goals first | rfl | exact Fr.refl

theorem State.weftFail_fr {s a1 a2} : Fr 134283521 s (State.weftFail s a1 a2) := by
  unfold State.weftFail
  with_reducible
    repeat' first | apply Fr.refl | assumption | apply Fr.ite | apply Fr.next State.endList_fr | apply Fr.next State.weftErr_fr | apply Fr.next State.bump_fr | refine Fr.snd ‹_ = (_, _)› ?_ | refine Fr.fst ‹_ = (_, _)› ?_ | refine Fr.snd2 ‹_ = (_, _, _)› ?_ | refine Fr.via (by assumption) ?_ | split
  all_goals first | rfl | exact Fr.refl

theorem State.dropBurst_fr {s a1} : Fr 202454273 s (State.dropBurst s a1) := by
  unfold State.dropBurst
  with_reducible
    repeat' first | apply Fr.refl | assumption | ((try lift_lets -underBinder); intro (x : State); refine (fun h => ?_ : Fr 202454273 s x → _) ?_; clear_value x; rotate_left; subst x) | ((try lift_lets -underBinder); intro x; clear_value x) | apply Fr.ite | apply Fr.next State.commitReady_fr | apply Fr.next State.modWeft_fr | apply Fr.next State.weftFail_fr | apply Fr.next State.weftErr_fr | apply Fr.next State.bump_fr | refine Fr.snd ‹_ = (_, _)› ?_ | refine Fr.fst ‹_ = (_, _)› ?_ | refine Fr.snd2 ‹_ = (_, _, _)› ?_ | refine Fr.via (by assumption) ?_ | split
  all_goals first | rfl | exact Fr.refl

theorem State.forward_fr {s a1 a2 a3} : Fr 5120 s (State.forward s a1 a2 a3) := by
  unfold State.forward
  with_reducible
    repeat' first | apply Fr.refl | assumption | ((try lift_lets -underBinder); intro (x : State); refine (fun h => ?_ : Fr 5120 s x → _) ?_; clear_value x; rotate_left; subst x) | ((try lift_lets -underBinder); intro x; have : ∀ s, x s = x s := fun _ => rfl; clear this; subst x) | ((try lift_lets -underBinder); intro x; clear_value x) | apply Fr.ite | apply Fr.next State.modScene_fr | apply Fr.next State.modWv_fr | refine Fr.foldl (fun s _ => ?_) _ ?_ | refine Fr.snd ‹_ = (_, _)› ?_ | refine Fr.fst ‹_ = (_, _)› ?_ | refine Fr.snd2 ‹_ = (_, _, _)› ?_ | refine Fr.via (by assumption) ?_ | split
  all_goals first | rfl | exact Fr.refl

theorem State.weftNext_fr {s a1} : Fr 134283521 s (State.weftNext s a1) := by
  unfold State.weftNext
  with_reducible
    repeat' first | apply Fr.refl | assumption | ((try lift_lets -underBinder); intro (x : State); refine (fun h => ?_ : Fr 134283521 s x → _) ?_; clear_value x; rotate_left; subst x) | ((try lift_lets -underBinder); intro x; clear_value x) | apply Fr.ite | apply Fr.next State.bump_fr | apply Fr.next State.wr_fr | apply Fr.next State.modWeft_fr | apply Fr.next State.endList_fr | apply Fr.next State.weftErr_fr | apply Fr.next State.weftPaused_fr | refine Fr.snd ‹_ = (_, _)› ?_ | refine Fr.fst ‹_ = (_, _)› ?_ | refine Fr.snd2 ‹_ = (_, _, _)› ?_ | refine Fr.via (by assumption) ?_ | split
  all_goals first | rfl | exact Fr.refl

theorem State.issueRows_fr {s a1 a2} : Fr 201402113 s (State.issueRows s a1 a2) := by
  unfold State.issueRows
  extract_lets r
  have h : Fr 201402113 s r.1 := by
    refine Fr.foldl1 (fun p x => ?_) _ Fr.refl
    dsimp only
    split
    · exact Fr.refl
    · dsimp only
      refine Fr.mono (m := 65536) ?_ rfl
      exact State.modWeft_fr
  clear_value r
  split
  · exact State.weftFail_fr.next (State.uncorrectable_fr.next h rfl) rfl
  · exact State.weftNext_fr.next h rfl

theorem State.noWait_fr {s} : Fr 65537 s (State.noWait s) := by
  unfold State.noWait
  with_reducible
    repeat' first | apply Fr.refl | assumption | apply Fr.ite | apply Fr.next State.wrB_fr | apply Fr.next State.modWeft_fr | refine Fr.snd ‹_ = (_, _)› ?_ | refine Fr.fst ‹_ = (_, _)› ?_ | refine Fr.snd2 ‹_ = (_, _, _)› ?_ | refine Fr.via (by assumption) ?_ | split
  all_goals first | rfl | exact Fr.refl

theorem State.skipList_fr {s a1 a2} : Fr 134283521 s (State.skipList s a1 a2) := by
  unfold State.skipList
  with_reducible
    repeat' first | apply Fr.refl | assumption | apply Fr.ite | apply Fr.next State.noWait_fr | apply Fr.next State.sqPop_fr | apply Fr.next State.weftErr_fr | apply Fr.next State.bump_fr | refine Fr.snd ‹_ = (_, _)› ?_ | refine Fr.fst ‹_ = (_, _)› ?_ | refine Fr.snd2 ‹_ = (_, _, _)› ?_ | refine Fr.via (by assumption) ?_ | split
  all_goals first | rfl | exact Fr.refl

theorem State.startList_fr {s a1 a2} : Fr 1114113 s (State.startList s a1 a2) := by
  unfold State.startList
  with_reducible
    repeat' first | apply Fr.refl | assumption | ((try lift_lets -underBinder); intro (x : State); refine (fun h => ?_ : Fr 1114113 s x → _) ?_; clear_value x; rotate_left; subst x) | ((try lift_lets -underBinder); intro x; clear_value x) | apply Fr.ite | apply Fr.next State.modWeft_fr | apply Fr.next State.noWait_fr | apply Fr.next State.wr_fr | apply Fr.next State.wrB_fr | apply Fr.next State.mirror_fr | apply Fr.next State.weftPaused_fr | refine Fr.snd ‹_ = (_, _)› ?_ | refine Fr.fst ‹_ = (_, _)› ?_ | refine Fr.snd2 ‹_ = (_, _, _)› ?_ | refine Fr.via (by assumption) ?_ | split
  all_goals first | rfl | exact Fr.refl

theorem State.startMirrored_fr {s a1} : Fr 142157069 s (State.startMirrored s a1) := by
  unfold State.startMirrored
  with_reducible
    repeat' first | apply Fr.refl | assumption | ((try lift_lets -underBinder); intro (x : State); refine (fun h => ?_ : Fr 142157069 s x → _) ?_; clear_value x; rotate_left; subst x) | apply Fr.ite | apply Fr.next State.modLeaf_fr | apply Fr.next State.dueAt_fr | apply Fr.next State.startList_fr | apply Fr.next State.toSyncing_fr | apply Fr.next State.logc_fr | refine Fr.snd ‹_ = (_, _)› ?_ | refine Fr.fst ‹_ = (_, _)› ?_ | refine Fr.snd2 ‹_ = (_, _, _)› ?_ | refine Fr.via (by assumption) ?_ | split
  all_goals first | rfl | exact Fr.refl

theorem State.waitFrame_fr {s} : Fr 65537 s (State.waitFrame s) := by
  unfold State.waitFrame
  with_reducible
    repeat' first | apply Fr.refl | assumption | apply Fr.ite | apply Fr.next State.wrB_fr | apply Fr.next State.modWeft_fr | refine Fr.snd ‹_ = (_, _)› ?_ | refine Fr.fst ‹_ = (_, _)› ?_ | refine Fr.snd2 ‹_ = (_, _, _)› ?_ | refine Fr.via (by assumption) ?_ | split
  all_goals first | rfl | exact Fr.refl

theorem State.startTimed_fr {s a1} : Fr 135332097 s (State.startTimed s a1) := by
  unfold State.startTimed
  with_reducible
    repeat' first | apply Fr.refl | assumption | ((try lift_lets -underBinder); intro x; clear_value x) | apply Fr.ite | apply Fr.next State.startList_fr | apply Fr.next State.waitFrame_fr | apply Fr.next State.logc_fr | refine Fr.snd ‹_ = (_, _)› ?_ | refine Fr.fst ‹_ = (_, _)› ?_ | refine Fr.snd2 ‹_ = (_, _, _)› ?_ | refine Fr.via (by assumption) ?_ | split
  all_goals first | rfl | exact Fr.refl

theorem State.takeHead_fr {s a1 a2 a3} : Fr 209266445 s (State.takeHead s a1 a2 a3) := by
  unfold State.takeHead
  with_reducible
    repeat' first | apply Fr.refl | assumption | apply Fr.ite | refine Fr.next (State.readFault_fr (by assumption)) ?_ ?_ | apply Fr.next State.skipList_fr | apply Fr.next State.startMirrored_fr | apply Fr.next State.startTimed_fr | refine Fr.snd ‹_ = (_, _)› ?_ | refine Fr.fst ‹_ = (_, _)› ?_ | refine Fr.snd2 ‹_ = (_, _, _)› ?_ | refine Fr.via (by assumption) ?_ | split
  all_goals first | rfl | exact Fr.refl

theorem State.weftAt_fr {m s0 s a1 k} (hk : ∀ s x0 x1, Fr m s (k s x0 x1)) (h : Fr m s0 s) (hm : 201402113 &&& m = 201402113) :
    Fr m s0 (State.weftAt s a1 k) := by
  unfold State.weftAt
  with_reducible
    repeat' first | apply Fr.refl | assumption | ((try lift_lets -underBinder); intro x; clear_value x) | apply Fr.ite | refine Fr.next (State.readFault_fr (by assumption)) ?_ ?_ | apply Fr.next State.weftFail_fr | refine Fr.trans ?_ (hk _ _ _) | split
  all_goals exact Fr.sub rfl hm

theorem State.weftReset_fr {s} : Fr 65537 s (State.weftReset s) := by
  unfold State.weftReset
  with_reducible
    repeat' first | apply Fr.refl | assumption | ((try lift_lets -underBinder); intro (x : State); refine (fun h => ?_ : Fr 65537 s x → _) ?_; clear_value x; rotate_left; subst x) | apply Fr.ite | apply Fr.next State.modWeft_fr | apply Fr.next State.wr_fr | refine Fr.snd ‹_ = (_, _)› ?_ | refine Fr.fst ‹_ = (_, _)› ?_ | refine Fr.snd2 ‹_ = (_, _, _)› ?_ | refine Fr.via (by assumption) ?_ | split
  all_goals first | rfl | exact Fr.refl

theorem State.weftRun_fr {m s0 s a1 k} (hk : ∀ s x0 x1 x2 x3, Fr m s (k s x0 x1 x2 x3)) (h : Fr m s0 s) (hm : 201402113 &&& m = 201402113) :
    Fr m s0 (State.weftRun s a1 k) := by
  unfold State.weftRun
  with_reducible
    repeat' first | apply Fr.refl | assumption | apply Fr.ite | refine State.weftAt_fr (hk := fun s _ _ => ?_) ?_ ?_ | apply Fr.next State.weftFail_fr | refine Fr.trans ?_ (hk _ _ _ _ _) | split
  all_goals exact Fr.sub rfl hm

theorem execWeftBlend_fr {s} : FrO 201402113 s (execWeftBlend s) := by
  unfold execWeftBlend
  with_reducible
    repeat' first | apply FrO.next | apply FrO.ite | apply Fr.refl | assumption | apply Fr.ite | refine State.weftRun_fr (hk := fun s _ _ _ _ => ?_) ?_ ?_ | apply Fr.next State.issueRows_fr | refine Fr.snd ‹_ = (_, _)› ?_ | refine Fr.fst ‹_ = (_, _)› ?_ | refine Fr.snd2 ‹_ = (_, _, _)› ?_ | refine Fr.via (by assumption) ?_ | split
  all_goals first | rfl | exact Fr.refl

theorem execWeftBurstComplete_fr {s} : FrO 202454273 s (execWeftBurstComplete s) := by
  unfold execWeftBurstComplete
  with_reducible
    repeat' first | apply FrO.next | apply FrO.ite | apply Fr.refl | assumption | ((try lift_lets -underBinder); intro (x : State); refine (fun h => ?_ : Fr 202454273 s x → _) ?_; clear_value x; rotate_left; subst x) | apply Fr.ite | apply Fr.next State.modWeft_fr | apply Fr.next State.hbmWr_fr | apply Fr.next State.dropBurst_fr | apply Fr.next State.setDirty_fr | apply Fr.next State.forward_fr | apply Fr.next State.resample_fr | apply Fr.next State.commitReady_fr | apply Fr.next State.diverge_fr | refine Fr.snd ‹_ = (_, _)› ?_ | refine Fr.fst ‹_ = (_, _)› ?_ | refine Fr.snd2 ‹_ = (_, _, _)› ?_ | refine Fr.via (by assumption) ?_ | split
  all_goals first | rfl | exact Fr.refl

theorem execWeftConvert_fr {s} : FrO 201402113 s (execWeftConvert s) := by
  unfold execWeftConvert
  with_reducible
    repeat' first | apply FrO.next | apply FrO.ite | apply Fr.refl | assumption | apply Fr.ite | refine State.weftRun_fr (hk := fun s _ _ _ _ => ?_) ?_ ?_ | apply Fr.next State.issueRows_fr | refine Fr.snd ‹_ = (_, _)› ?_ | refine Fr.fst ‹_ = (_, _)› ?_ | refine Fr.snd2 ‹_ = (_, _, _)› ?_ | refine Fr.via (by assumption) ?_ | split
  all_goals first | rfl | exact Fr.refl

theorem execWeftCopy_fr {s} : FrO 201402113 s (execWeftCopy s) := by
  unfold execWeftCopy
  with_reducible
    repeat' first | apply FrO.next | apply FrO.ite | apply Fr.refl | assumption | ((try lift_lets -underBinder); intro x; clear_value x) | apply Fr.ite | refine State.weftRun_fr (hk := fun s _ _ _ _ => ?_) ?_ ?_ | apply Fr.next State.issueRows_fr | refine Fr.snd ‹_ = (_, _)› ?_ | refine Fr.fst ‹_ = (_, _)› ?_ | refine Fr.snd2 ‹_ = (_, _, _)› ?_ | refine Fr.via (by assumption) ?_ | split
  all_goals first | rfl | exact Fr.refl

theorem execWeftFill_fr {s} : FrO 201402113 s (execWeftFill s) := by
  unfold execWeftFill
  with_reducible
    repeat' first | apply FrO.next | apply FrO.ite | apply Fr.refl | assumption | apply Fr.ite | refine State.weftRun_fr (hk := fun s _ _ _ _ => ?_) ?_ ?_ | apply Fr.next State.issueRows_fr | refine Fr.snd ‹_ = (_, _)› ?_ | refine Fr.fst ‹_ = (_, _)› ?_ | refine Fr.snd2 ‹_ = (_, _, _)› ?_ | refine Fr.via (by assumption) ?_ | split
  all_goals first | rfl | exact Fr.refl

theorem execWeftLine_fr {s} : FrO 201402113 s (execWeftLine s) := by
  unfold execWeftLine
  with_reducible
    repeat' first | apply FrO.next | apply FrO.ite | apply Fr.refl | assumption | apply Fr.ite | refine State.weftRun_fr (hk := fun s _ _ _ _ => ?_) ?_ ?_ | apply Fr.next State.issueRows_fr | refine Fr.snd ‹_ = (_, _)› ?_ | refine Fr.fst ‹_ = (_, _)› ?_ | refine Fr.snd2 ‹_ = (_, _, _)› ?_ | refine Fr.via (by assumption) ?_ | split
  all_goals first | rfl | exact Fr.refl

theorem execWeftListStart_fr {s} : FrO 209266445 s (execWeftListStart s) := by
  unfold execWeftListStart
  with_reducible
    repeat' first | apply FrO.next | apply FrO.ite | apply Fr.refl | assumption | apply Fr.ite | apply Fr.next State.takeHead_fr | refine Fr.snd ‹_ = (_, _)› ?_ | refine Fr.fst ‹_ = (_, _)› ?_ | refine Fr.snd2 ‹_ = (_, _, _)› ?_ | refine Fr.via (by assumption) ?_ | split
  all_goals first | rfl | exact Fr.refl

theorem execWeftNop_fr {s} : FrO 201402113 s (execWeftNop s) := by
  unfold execWeftNop
  with_reducible
    repeat' first | apply FrO.next | apply FrO.ite | apply Fr.refl | assumption | apply Fr.ite | refine State.weftAt_fr (hk := fun s _ _ => ?_) ?_ ?_ | apply Fr.next State.weftFail_fr | apply Fr.next State.weftNext_fr | refine Fr.snd ‹_ = (_, _)› ?_ | refine Fr.fst ‹_ = (_, _)› ?_ | refine Fr.snd2 ‹_ = (_, _, _)› ?_ | refine Fr.via (by assumption) ?_ | split
  all_goals first | rfl | exact Fr.refl

theorem execWeftPfill_fr {s} : FrO 201402113 s (execWeftPfill s) := by
  unfold execWeftPfill
  with_reducible
    repeat' first | apply FrO.next | apply FrO.ite | apply Fr.refl | assumption | apply Fr.ite | refine State.weftRun_fr (hk := fun s _ _ _ _ => ?_) ?_ ?_ | apply Fr.next State.issueRows_fr | refine Fr.snd ‹_ = (_, _)› ?_ | refine Fr.fst ‹_ = (_, _)› ?_ | refine Fr.snd2 ‹_ = (_, _, _)› ?_ | refine Fr.via (by assumption) ?_ | split
  all_goals first | rfl | exact Fr.refl

theorem execWeftScroll_fr {s} : FrO 201402113 s (execWeftScroll s) := by
  unfold execWeftScroll
  with_reducible
    repeat' first | apply FrO.next | apply FrO.ite | apply Fr.refl | assumption | ((try lift_lets -underBinder); intro x; clear_value x) | apply Fr.ite | refine State.weftRun_fr (hk := fun s _ _ _ _ => ?_) ?_ ?_ | apply Fr.next State.issueRows_fr | refine Fr.snd ‹_ = (_, _)› ?_ | refine Fr.fst ‹_ = (_, _)› ?_ | refine Fr.snd2 ‹_ = (_, _, _)› ?_ | refine Fr.via (by assumption) ?_ | split
  all_goals first | rfl | exact Fr.refl

theorem execWeftWait_fr {s} : FrO 201402113 s (execWeftWait s) := by
  unfold execWeftWait
  with_reducible
    repeat' first | apply FrO.next | apply FrO.ite | apply Fr.refl | assumption | ((try lift_lets -underBinder); intro x; clear_value x) | apply Fr.ite | refine State.weftRun_fr (hk := fun s _ _ _ _ => ?_) ?_ ?_ | apply Fr.next State.weftNext_fr | apply Fr.next State.wrB_fr | apply Fr.next State.modWeft_fr | refine Fr.snd ‹_ = (_, _)› ?_ | refine Fr.fst ‹_ = (_, _)› ?_ | refine Fr.snd2 ‹_ = (_, _, _)› ?_ | refine Fr.via (by assumption) ?_ | split
  all_goals first | rfl | exact Fr.refl

theorem execWeftWaitEnd_fr {s} : FrO 134283521 s (execWeftWaitEnd s) := by
  unfold execWeftWaitEnd
  with_reducible
    repeat' first | apply FrO.next | apply FrO.ite | apply Fr.refl | assumption | apply Fr.ite | apply Fr.next State.weftNext_fr | apply Fr.next State.wrB_fr | apply Fr.next State.modWeft_fr | refine Fr.snd ‹_ = (_, _)› ?_ | refine Fr.fst ‹_ = (_, _)› ?_ | refine Fr.snd2 ‹_ = (_, _, _)› ?_ | refine Fr.via (by assumption) ?_ | split
  all_goals first | rfl | exact Fr.refl

theorem execWeftWmark_fr {s} : FrO 201402113 s (execWeftWmark s) := by
  unfold execWeftWmark
  with_reducible
    repeat' first | apply FrO.next | apply FrO.ite | apply Fr.refl | assumption | ((try lift_lets -underBinder); intro (x : State); refine (fun h => ?_ : Fr 201402113 s x → _) ?_; clear_value x; rotate_left; subst x) | ((try lift_lets -underBinder); intro x; clear_value x) | apply Fr.ite | refine State.weftRun_fr (hk := fun s _ _ _ _ => ?_) ?_ ?_ | apply Fr.next State.modWeft_fr | apply Fr.next State.markLate_fr | refine Fr.snd ‹_ = (_, _)› ?_ | refine Fr.fst ‹_ = (_, _)› ?_ | refine Fr.snd2 ‹_ = (_, _, _)› ?_ | refine Fr.via (by assumption) ?_ | split
  all_goals first | rfl | exact Fr.refl

theorem execWmarkReached_fr {s} : FrO 134283521 s (execWmarkReached s) := by
  unfold execWmarkReached
  with_reducible
    repeat' first | apply FrO.next | apply FrO.ite | apply Fr.refl | assumption | apply Fr.ite | apply Fr.next State.modWeft_fr | apply Fr.next State.wrB_fr | apply Fr.next State.wr_fr | apply Fr.next State.weftNext_fr | refine Fr.snd ‹_ = (_, _)› ?_ | refine Fr.fst ‹_ = (_, _)› ?_ | refine Fr.snd2 ‹_ = (_, _, _)› ?_ | refine Fr.via (by assumption) ?_ | split
  all_goals first | rfl | exact Fr.refl

theorem wrSqBase_fr {a0 a1 a2 s} : Fr 134217985 s (wrSqBase a0 a1 a2 s).2 := by
  unfold wrSqBase
  with_reducible
    repeat' first | apply Fr.refl | assumption | apply Fr.ite | apply Fr.ite2 | apply Fr.next ign28_fr | apply Fr.next okW_fr | apply Fr.next State.plainWrite_fr | refine Fr.snd ‹_ = (_, _)› ?_ | refine Fr.fst ‹_ = (_, _)› ?_ | refine Fr.snd2 ‹_ = (_, _, _)› ?_ | refine Fr.via (by assumption) ?_ | split
  all_goals first | rfl | exact Fr.refl

theorem wrSqTail_fr {a0 a1 s} : Fr 134283521 s (wrSqTail a0 a1 s).2 := by
  unfold wrSqTail
  with_reducible
    repeat' first | apply Fr.refl | assumption | ((try lift_lets -underBinder); intro (x : State); refine (fun h => ?_ : Fr 134283521 s x → _) ?_; clear_value x; rotate_left; subst x) | apply Fr.ite | apply Fr.ite2 | apply Fr.next ign28_fr | apply Fr.next State.wr_fr | apply Fr.next okW_fr | apply Fr.next State.noWait_fr | refine Fr.snd ‹_ = (_, _)› ?_ | refine Fr.fst ‹_ = (_, _)› ?_ | refine Fr.snd2 ‹_ = (_, _, _)› ?_ | refine Fr.via (by assumption) ?_ | split
  all_goals first | rfl | exact Fr.refl

theorem wrWftCtl_fr {a0 s} : Fr 134283521 s (wrWftCtl a0 s).2 := by
  unfold wrWftCtl
  with_reducible
    repeat' first | apply Fr.refl | assumption | ((try lift_lets -underBinder); intro (x : State); refine (fun h => ?_ : Fr 134283521 s x → _) ?_; clear_value x; rotate_left; subst x) | apply Fr.ite | apply Fr.ite2 | apply Fr.next State.weftPaused_fr | apply Fr.next State.wrB_fr | apply Fr.next State.wr_fr | apply Fr.next okW_fr | apply Fr.next State.modWeft_fr | apply Fr.next State.endList_fr | apply Fr.next State.weftErr_fr | refine Fr.snd ‹_ = (_, _)› ?_ | refine Fr.fst ‹_ = (_, _)› ?_ | refine Fr.snd2 ‹_ = (_, _, _)› ?_ | refine Fr.via (by assumption) ?_ | split
  all_goals first | rfl | exact Fr.refl

end Sys2Proof.Machine
end

