-- ==== Sys2Proof/Laws/FramePower.lean ====
section
/-! SUPPORT. The frame of every operation of Machine/Power.lean. -/

namespace Sys2Proof.Machine

set_option linter.unusedTactic false
set_option linter.unreachableTactic false

theorem State.cold_fr {s a1} : Fr 218103807 s (State.cold s a1) := by
  refine ⟨fun p hp => ?_, fun _ => ⟨rfl, rfl, rfl, rfl, rfl⟩, id, s.secu.burnedIn_refl⟩
  cases p <;> first | rfl | exact absurd hp (by decide)

theorem State.dischargeDone_fr {s a1 a2} : Fr 136315169 s (State.dischargeDone s a1 a2) := by
  unfold State.dischargeDone
  with_reducible
    repeat' first | apply Fr.refl | assumption | ((try lift_lets -underBinder); intro (x : State); refine (fun h => ?_ : Fr 136315169 s x → _) ?_; clear_value x; rotate_left; subst x) | ((try lift_lets -underBinder); intro x; clear_value x) | apply Fr.ite | apply Fr.next State.wr_fr | apply Fr.next State.modPanel_fr | apply Fr.next State.logc_fr | apply Fr.next State.event_fr | apply Fr.next State.count_fr | apply Fr.next State.modNvs_fr | apply Fr.next State.journalLogs_fr | apply Fr.next State.counterAdd_fr | refine Fr.snd ‹_ = (_, _)› ?_ | refine Fr.fst ‹_ = (_, _)› ?_ | refine Fr.snd2 ‹_ = (_, _, _)› ?_ | refine Fr.via (by assumption) ?_ | split
  all_goals first | rfl | exact Fr.refl

theorem State.endLocks_fr {s} : Fr 1 s (State.endLocks s) := by
  unfold State.endLocks
  with_reducible
    repeat' first | apply Fr.refl | assumption | apply Fr.ite | refine Fr.each ?_ (fun s _ => ?_) | apply Fr.next State.setReg_fr | refine Fr.snd ‹_ = (_, _)› ?_ | refine Fr.fst ‹_ = (_, _)› ?_ | refine Fr.snd2 ‹_ = (_, _, _)› ?_ | refine Fr.via (by assumption) ?_ | split
  all_goals first | rfl | exact Fr.refl

theorem State.fabricLatch_fr {s} : Fr 17039362 s (State.fabricLatch s) := by
  unfold State.fabricLatch
  with_reducible
    repeat' first | apply Fr.refl | assumption | ((try lift_lets -underBinder); intro (x : State); refine (fun h => ?_ : Fr 17039362 s x → _) ?_; clear_value x; rotate_left; subst x) | ((try lift_lets -underBinder); intro x; clear_value x) | apply Fr.ite | refine Fr.each ?_ (fun s _ => ?_) | apply Fr.next State.latch_fr | apply Fr.next State.effSet_fr | apply Fr.next State.takeFree_fr | apply Fr.next State.modFab_fr | refine Fr.snd ‹_ = (_, _)› ?_ | refine Fr.fst ‹_ = (_, _)› ?_ | refine Fr.snd2 ‹_ = (_, _, _)› ?_ | refine Fr.via (by assumption) ?_ | split
  all_goals first | rfl | exact Fr.refl

theorem State.journalFirst_fr {s} : Fr 136315137 s (State.journalFirst s) := by
  unfold State.journalFirst
  with_reducible
    repeat' first | apply Fr.refl | assumption | ((try lift_lets -underBinder); intro (x : State); refine (fun h => ?_ : Fr 136315137 s x → _) ?_; clear_value x; rotate_left; subst x) | ((try lift_lets -underBinder); intro x; clear_value x) | apply Fr.ite | apply Fr.next State.journalPage_fr | apply Fr.next State.modNvs_fr | apply Fr.next State.counterAdd_fr | refine Fr.each ?_ (fun s _ => ?_) | refine Fr.snd ‹_ = (_, _)› ?_ | refine Fr.fst ‹_ = (_, _)› ?_ | refine Fr.snd2 ‹_ = (_, _, _)› ?_ | refine Fr.via (by assumption) ?_ | split
  all_goals first | rfl | exact Fr.refl

theorem State.sillPolarity_fr {s a1} : Fr 32 s (State.sillPolarity s a1) := by
  unfold State.sillPolarity
  with_reducible
    repeat' first | apply Fr.refl | assumption | apply Fr.ite | refine Fr.each ?_ (fun s _ => ?_) | apply Fr.next State.modPanel_fr | refine Fr.snd ‹_ = (_, _)› ?_ | refine Fr.fst ‹_ = (_, _)› ?_ | refine Fr.snd2 ‹_ = (_, _, _)› ?_ | refine Fr.via (by assumption) ?_ | split
  all_goals first | rfl | exact Fr.refl

theorem State.sillFrameStart_fr {s} : Fr 134768491 s (State.sillFrameStart s) := by
  unfold State.sillFrameStart
  with_reducible
    repeat' first | apply Fr.refl | assumption | ((try lift_lets -underBinder); intro (x : State); refine (fun h => ?_ : Fr 134768491 s x → _) ?_; clear_value x; rotate_left; subst x) | ((try lift_lets -underBinder); intro x; clear_value x) | apply Fr.ite | apply Fr.next State.toLineEnd_fr | apply Fr.next State.wr_fr | apply Fr.next State.modBoot_fr | apply Fr.next State.modClk_fr | apply Fr.next State.frameShows_fr | apply Fr.next State.sliceLine_fr | apply Fr.next State.modLog_fr | apply Fr.next State.sillPolarity_fr | apply Fr.next State.writeText_fr | apply Fr.next State.latch_fr | refine Fr.snd ‹_ = (_, _)› ?_ | refine Fr.fst ‹_ = (_, _)› ?_ | refine Fr.snd2 ‹_ = (_, _, _)› ?_ | refine Fr.via (by assumption) ?_ | split
  all_goals first | rfl | exact Fr.refl

theorem State.lineTurn_fr {s} : Fr 224065391 s (State.lineTurn s) := by
  unfold State.lineTurn
  with_reducible
    repeat' first | apply Fr.refl | assumption | ((try lift_lets -underBinder); intro x; clear_value x) | apply Fr.ite | apply Fr.next State.lineStart_fr | apply Fr.next State.sillFrameStart_fr | apply Fr.next State.takeFree_fr | apply Fr.next State.frameStart_fr | refine Fr.snd ‹_ = (_, _)› ?_ | refine Fr.fst ‹_ = (_, _)› ?_ | refine Fr.snd2 ‹_ = (_, _, _)› ?_ | refine Fr.via (by assumption) ?_ | split
  all_goals first | rfl | exact Fr.refl

theorem State.moduleRequest_fr {s a1} : Fr 96 s (State.moduleRequest s a1) := by
  unfold State.moduleRequest
  with_reducible
    repeat' first | apply Fr.refl | assumption | ((try lift_lets -underBinder); intro x; clear_value x) | apply Fr.ite | apply Fr.next State.modBoot_fr | apply Fr.next State.modPanel_fr | refine Fr.snd ‹_ = (_, _)› ?_ | refine Fr.fst ‹_ = (_, _)› ?_ | refine Fr.snd2 ‹_ = (_, _, _)› ?_ | refine Fr.via (by assumption) ?_ | split
  all_goals first | rfl | exact Fr.refl

theorem State.payOwed_fr {s} : Fr 136315201 s (State.payOwed s) := by
  unfold State.payOwed
  with_reducible
    repeat' first | apply Fr.refl | assumption | apply Fr.ite | apply Fr.next State.modBoot_fr | refine Fr.each ?_ (fun s _ => ?_) | apply Fr.next State.counterAdd_fr | refine Fr.snd ‹_ = (_, _)› ?_ | refine Fr.fst ‹_ = (_, _)› ?_ | refine Fr.snd2 ‹_ = (_, _, _)› ?_ | refine Fr.via (by assumption) ?_ | split
  all_goals first | rfl | exact Fr.refl

theorem State.powerLog_fr {s a1} : Fr 150995201 s (State.powerLog s a1) := by
  unfold State.powerLog
  with_reducible
    repeat' first | apply Fr.refl | assumption | apply Fr.ite | apply Fr.next State.takeFree_fr | apply Fr.next State.logc_fr | refine Fr.snd ‹_ = (_, _)› ?_ | refine Fr.fst ‹_ = (_, _)› ?_ | refine Fr.snd2 ‹_ = (_, _, _)› ?_ | refine Fr.via (by assumption) ?_ | split
  all_goals first | rfl | exact Fr.refl

theorem State.railFault_fr {s a1 a2} : Fr 134218017 s (State.railFault s a1 a2) := by
  unfold State.railFault
  with_reducible
    repeat' first | apply Fr.refl | assumption | ((try lift_lets -underBinder); intro (x : State); refine (fun h => ?_ : Fr 134218017 s x → _) ?_; clear_value x; rotate_left; subst x) | apply Fr.ite | apply Fr.next State.modPanel_fr | apply Fr.next State.wrB_fr | apply Fr.next State.logc_fr | apply Fr.next State.event_fr | refine Fr.snd ‹_ = (_, _)› ?_ | refine Fr.fst ‹_ = (_, _)› ?_ | refine Fr.snd2 ‹_ = (_, _, _)› ?_ | refine Fr.via (by assumption) ?_ | split
  all_goals first | rfl | exact Fr.refl

theorem State.rateLost_fr {s a1} : Fr 134217985 s (State.rateLost s a1) := by
  unfold State.rateLost
  with_reducible
    repeat' first | apply Fr.refl | assumption | apply Fr.ite | apply Fr.next State.setRate_fr | refine Fr.snd ‹_ = (_, _)› ?_ | refine Fr.fst ‹_ = (_, _)› ?_ | refine Fr.snd2 ‹_ = (_, _, _)› ?_ | refine Fr.via (by assumption) ?_ | split
  all_goals first | rfl | exact Fr.refl

theorem State.releaseHalts_fr {s} : Fr 65 s (State.releaseHalts s) := by
  unfold State.releaseHalts
  with_reducible
    repeat' first | apply Fr.refl | assumption | ((try lift_lets -underBinder); intro (x : State); refine (fun h => ?_ : Fr 65 s x → _) ?_; clear_value x; rotate_left; subst x) | apply Fr.ite | apply Fr.next State.modBoot_fr | apply Fr.next State.wrB_fr | refine Fr.snd ‹_ = (_, _)› ?_ | refine Fr.fst ‹_ = (_, _)› ?_ | refine Fr.snd2 ‹_ = (_, _, _)› ?_ | refine Fr.via (by assumption) ?_ | split
  all_goals first | rfl | exact Fr.refl

theorem State.startSill_fr {s} : Fr 17261 s (State.startSill s) := by
  unfold State.startSill
  with_reducible
    repeat' first | apply Fr.refl | assumption | ((try lift_lets -underBinder); intro (x : State); refine (fun h => ?_ : Fr 17261 s x → _) ?_; clear_value x; rotate_left; subst x) | apply Fr.ite | apply Fr.next State.modClk_fr | apply Fr.next State.modBoot_fr | apply Fr.next State.modMode_fr | apply Fr.next State.modPanel_fr | apply Fr.next State.writeText_fr | apply Fr.next State.frameShows_fr | apply Fr.next State.sliceLine_fr | apply Fr.next State.modLog_fr | apply Fr.next State.sillPolarity_fr | refine Fr.snd ‹_ = (_, _)› ?_ | refine Fr.fst ‹_ = (_, _)› ?_ | refine Fr.snd2 ‹_ = (_, _, _)› ?_ | refine Fr.via (by assumption) ?_ | split
  all_goals first | rfl | exact Fr.refl

theorem State.stopLoad_fr {s} : Fr 134677269 s (State.stopLoad s) := by
  unfold State.stopLoad
  with_reducible
    repeat' first | apply Fr.refl | assumption | ((try lift_lets -underBinder); intro (x : State); refine (fun h => ?_ : Fr 134677269 s x → _) ?_; clear_value x; rotate_left; subst x) | apply Fr.ite | refine Fr.each ?_ (fun s _ => ?_) | apply Fr.next State.portOff_fr | apply Fr.next State.modPwr_fr | apply Fr.next State.weftReset_fr | apply Fr.next State.selfRefresh_fr | apply Fr.next State.modMode_fr | refine Fr.snd ‹_ = (_, _)› ?_ | refine Fr.fst ‹_ = (_, _)› ?_ | refine Fr.snd2 ‹_ = (_, _, _)› ?_ | refine Fr.via (by assumption) ?_ | split
  all_goals first | rfl | exact Fr.refl

theorem State.stopMeasure_fr {s} : Fr 16 s (State.stopMeasure s) := by
  unfold State.stopMeasure
  with_reducible
    repeat' first | apply Fr.refl | assumption | apply Fr.ite | apply Fr.next State.modPwr_fr | refine Fr.snd ‹_ = (_, _)› ?_ | refine Fr.fst ‹_ = (_, _)› ?_ | refine Fr.snd2 ‹_ = (_, _, _)› ?_ | refine Fr.via (by assumption) ?_ | split
  all_goals first | rfl | exact Fr.refl

theorem State.stopPorts_fr {s} : Fr 134611201 s (State.stopPorts s) := by
  unfold State.stopPorts
  with_reducible
    repeat' first | apply Fr.refl | assumption | apply Fr.ite | refine Fr.each ?_ (fun s _ => ?_) | apply Fr.next State.portOff_fr | refine Fr.snd ‹_ = (_, _)› ?_ | refine Fr.fst ‹_ = (_, _)› ?_ | refine Fr.snd2 ‹_ = (_, _, _)› ?_ | refine Fr.via (by assumption) ?_ | split
  all_goals first | rfl | exact Fr.refl

theorem State.tick_fr {s} : Fr 224065391 s (State.tick s) := by
  unfold State.tick
  with_reducible
    repeat' first | apply Fr.refl | assumption | ((try lift_lets -underBinder); intro (x : State); refine (fun h => ?_ : Fr 224065391 s x → _) ?_; clear_value x; rotate_left; subst x) | apply Fr.ite | apply Fr.next State.stepDue_fr | apply Fr.next State.run_fr | apply Fr.next State.lineTurn_fr | refine Fr.snd ‹_ = (_, _)› ?_ | refine Fr.fst ‹_ = (_, _)› ?_ | refine Fr.snd2 ‹_ = (_, _, _)› ?_ | refine Fr.via (by assumption) ?_ | split
  all_goals first | rfl | exact Fr.refl

theorem State.unpower_fr {s} : Fr 218103807 s (State.unpower s) := by
  unfold State.unpower
  with_reducible
    repeat' first | apply Fr.refl | assumption | ((try lift_lets -underBinder); intro (x : State); refine (fun h => ?_ : Fr 218103807 s x → _) ?_; clear_value x; rotate_left; subst x) | ((try lift_lets -underBinder); intro x; clear_value x) | apply Fr.ite | apply Fr.next State.putCopy_fr | refine Fr.each ?_ (fun s _ => ?_) | apply Fr.next State.cold_fr | apply Fr.next State.wrB_fr | apply Fr.next State.wr_fr | refine Fr.snd ‹_ = (_, _)› ?_ | refine Fr.fst ‹_ = (_, _)› ?_ | refine Fr.snd2 ‹_ = (_, _, _)› ?_ | refine Fr.via (by assumption) ?_ | split
  all_goals first | rfl | exact Fr.refl

theorem State.warmReset_fr {s} : Fr 225951559 s (State.warmReset s) := by
  unfold State.warmReset
  with_reducible
    repeat' first | apply Fr.refl | assumption | ((try lift_lets -underBinder); intro (x : State); refine (fun h => ?_ : Fr 225951559 s x → _) ?_; clear_value x; rotate_left; subst x) | ((try lift_lets -underBinder); intro x; clear_value x) | apply Fr.ite | apply Fr.next State.weftReset_fr | apply Fr.next State.coilWarm_fr | apply Fr.next State.ingestWarm_fr | apply Fr.next State.endLocks_fr | apply Fr.next State.modWv_fr | refine Fr.each ?_ (fun s _ => ?_) | apply Fr.next State.portOff_fr | apply Fr.next State.latch_fr | apply Fr.next State.fabricLatch_fr | apply Fr.next State.modLeaf_fr | apply Fr.next State.setRole_fr | apply Fr.next State.timEnter_fr | apply Fr.next State.selfRefresh_fr | apply Fr.next State.setPower_fr | apply Fr.next State.modMem_fr | apply Fr.next State.wr_fr | apply Fr.next State.modScan_fr | apply Fr.next State.wrB_fr | apply Fr.next State.modBoot_fr | refine Fr.snd ‹_ = (_, _)› ?_ | refine Fr.fst ‹_ = (_, _)› ?_ | refine Fr.snd2 ‹_ = (_, _, _)› ?_ | refine Fr.via (by assumption) ?_ | split
  all_goals first | rfl | exact Fr.refl

theorem State.warmRequest_fr {s} : Fr 225951591 s (State.warmRequest s) := by
  unfold State.warmRequest
  with_reducible
    repeat' first | apply Fr.refl | assumption | apply Fr.ite | apply Fr.next State.modBoot_fr | apply Fr.next State.modPanel_fr | apply Fr.next State.warmReset_fr | refine Fr.snd ‹_ = (_, _)› ?_ | refine Fr.fst ‹_ = (_, _)› ?_ | refine Fr.snd2 ‹_ = (_, _, _)› ?_ | refine Fr.via (by assumption) ?_ | split
  all_goals first | rfl | exact Fr.refl

theorem execAlwaysOnRailUp_fr {s} : FrO 4 s (execAlwaysOnRailUp s) := by
  unfold execAlwaysOnRailUp
  with_reducible
    repeat' first | apply FrO.next | apply FrO.ite | apply Fr.refl | assumption | apply Fr.ite | apply Fr.next State.modMode_fr | refine Fr.snd ‹_ = (_, _)› ?_ | refine Fr.fst ‹_ = (_, _)› ?_ | refine Fr.snd2 ‹_ = (_, _, _)› ?_ | refine Fr.via (by assumption) ?_ | split
  all_goals first | rfl | exact Fr.refl

theorem execBalanceRestoreEnd_fr {s} : FrO 201326593 s (execBalanceRestoreEnd s) := by
  unfold execBalanceRestoreEnd
  with_reducible
    repeat' first | apply FrO.next | apply FrO.ite | apply Fr.refl | assumption | apply Fr.ite | apply Fr.next State.showStage_fr | apply Fr.next State.wrB_fr | apply Fr.next State.zeroResidues_fr | refine Fr.snd ‹_ = (_, _)› ?_ | refine Fr.fst ‹_ = (_, _)› ?_ | refine Fr.snd2 ‹_ = (_, _, _)› ?_ | refine Fr.via (by assumption) ?_ | split
  all_goals first | rfl | exact Fr.refl

theorem execDischargeSenseSample_fr {a0 a1 s} : FrO 33 s (execDischargeSenseSample a0 a1 s) := by
  unfold execDischargeSenseSample
  with_reducible
    repeat' first | apply FrO.next | apply FrO.ite | apply Fr.refl | assumption | apply Fr.ite | apply Fr.next State.wr_fr | apply Fr.next State.modPanel_fr | refine Fr.snd ‹_ = (_, _)› ?_ | refine Fr.fst ‹_ = (_, _)› ?_ | refine Fr.snd2 ‹_ = (_, _, _)› ?_ | refine Fr.via (by assumption) ?_ | split
  all_goals first | rfl | exact Fr.refl

theorem execDischargeStart_fr {a0 s} : FrO 134784297 s (execDischargeStart a0 s) := by
  unfold execDischargeStart
  with_reducible
    repeat' first | apply FrO.next | apply FrO.ite | apply Fr.refl | assumption | apply Fr.ite | apply Fr.next State.toWc_fr | apply Fr.next State.wrB_fr | refine Fr.each ?_ (fun s _ => ?_) | apply Fr.next State.queueCtrl_fr | apply Fr.next State.modPanel_fr | apply Fr.next State.wr_fr | refine Fr.snd ‹_ = (_, _)› ?_ | refine Fr.fst ‹_ = (_, _)› ?_ | refine Fr.snd2 ‹_ = (_, _, _)› ?_ | refine Fr.via (by assumption) ?_ | split
  all_goals first | rfl | exact Fr.refl

theorem execFeedLost_fr {a0 s} : FrO 150995217 s (execFeedLost a0 s) := by
  unfold execFeedLost
  with_reducible
    repeat' first | apply FrO.next | apply FrO.ite | apply Fr.refl | assumption | apply Fr.ite | apply Fr.next State.stopMeasure_fr | apply Fr.next State.powerLog_fr | apply Fr.next State.modPwr_fr | apply Fr.next State.wrB_fr | refine Fr.snd ‹_ = (_, _)› ?_ | refine Fr.fst ‹_ = (_, _)› ?_ | refine Fr.snd2 ‹_ = (_, _, _)› ?_ | refine Fr.via (by assumption) ?_ | split
  all_goals first | rfl | exact Fr.refl

theorem execFeedOk_fr {a0 s} : FrO 17 s (execFeedOk a0 s) := by
  unfold execFeedOk
  with_reducible
    repeat' first | apply FrO.next | apply FrO.ite | apply Fr.refl | assumption | apply Fr.ite | apply Fr.next State.modPwr_fr | apply Fr.next State.wrB_fr | refine Fr.snd ‹_ = (_, _)› ?_ | refine Fr.fst ‹_ = (_, _)› ?_ | refine Fr.snd2 ‹_ = (_, _, _)› ?_ | refine Fr.via (by assumption) ?_ | split
  all_goals first | rfl | exact Fr.refl

theorem execFeedOvervoltage_fr {a0 s} : FrO 150995217 s (execFeedOvervoltage a0 s) := by
  unfold execFeedOvervoltage
  with_reducible
    repeat' first | apply FrO.next | apply FrO.ite | apply Fr.refl | assumption | apply Fr.ite | apply Fr.next State.stopMeasure_fr | apply Fr.next State.powerLog_fr | apply Fr.next State.modPwr_fr | apply Fr.next State.wrB_fr | refine Fr.snd ‹_ = (_, _)› ?_ | refine Fr.fst ‹_ = (_, _)› ?_ | refine Fr.snd2 ‹_ = (_, _, _)› ?_ | refine Fr.via (by assumption) ?_ | split
  all_goals first | rfl | exact Fr.refl

theorem execHoldRdy_fr {s} : FrO 136315201 s (execHoldRdy s) := by
  unfold execHoldRdy
  with_reducible
    repeat' first | apply FrO.next | apply FrO.ite | apply Fr.refl | assumption | apply Fr.ite | apply Fr.next State.showStage_fr | apply Fr.next State.payOwed_fr | apply Fr.next State.wrB_fr | refine Fr.snd ‹_ = (_, _)› ?_ | refine Fr.fst ‹_ = (_, _)› ?_ | refine Fr.snd2 ‹_ = (_, _, _)› ?_ | refine Fr.via (by assumption) ?_ | split
  all_goals first | rfl | exact Fr.refl

theorem execHoldTimeout_fr {s} : FrO 134218001 s (execHoldTimeout s) := by
  unfold execHoldTimeout
  with_reducible
    repeat' first | apply FrO.next | apply FrO.ite | apply Fr.refl | assumption | apply Fr.ite | apply Fr.next State.startFail_fr | apply Fr.next State.modPwr_fr | refine Fr.snd ‹_ = (_, _)› ?_ | refine Fr.fst ‹_ = (_, _)› ?_ | refine Fr.snd2 ‹_ = (_, _, _)› ?_ | refine Fr.via (by assumption) ?_ | split
  all_goals first | rfl | exact Fr.refl

theorem execHoldupMeasureDone_fr {a0 s} : FrO 134218001 s (execHoldupMeasureDone a0 s) := by
  unfold execHoldupMeasureDone
  with_reducible
    repeat' first | apply FrO.next | apply FrO.ite | apply Fr.refl | assumption | apply Fr.ite | apply Fr.next State.wrB_fr | apply Fr.next State.wr_fr | apply Fr.next State.modPwr_fr | apply Fr.next State.logc_fr | refine Fr.snd ‹_ = (_, _)› ?_ | refine Fr.fst ‹_ = (_, _)› ?_ | refine Fr.snd2 ‹_ = (_, _, _)› ?_ | refine Fr.via (by assumption) ?_ | split
  all_goals first | rfl | exact Fr.refl

theorem execHoldupMeasureStart_fr {s} : FrO 16 s (execHoldupMeasureStart s) := by
  unfold execHoldupMeasureStart
  with_reducible
    repeat' first | apply FrO.next | apply FrO.ite | apply Fr.refl | assumption | apply Fr.ite | apply Fr.next State.modPwr_fr | refine Fr.snd ‹_ = (_, _)› ?_ | refine Fr.fst ‹_ = (_, _)› ?_ | refine Fr.snd2 ‹_ = (_, _, _)› ?_ | refine Fr.via (by assumption) ?_ | split
  all_goals first | rfl | exact Fr.refl

theorem execModuleUnpowered_fr {s} : FrO 218103807 s (execModuleUnpowered s) := by
  unfold execModuleUnpowered
  with_reducible
    repeat' first | apply FrO.next | apply FrO.ite | apply Fr.refl | assumption | apply Fr.ite | apply Fr.next State.unpower_fr | refine Fr.snd ‹_ = (_, _)› ?_ | refine Fr.fst ‹_ = (_, _)› ?_ | refine Fr.snd2 ‹_ = (_, _, _)› ?_ | refine Fr.via (by assumption) ?_ | split
  all_goals first | rfl | exact Fr.refl

theorem execOvervoltageCleared_fr {a0 s} : FrO 17 s (execOvervoltageCleared a0 s) := by
  unfold execOvervoltageCleared
  with_reducible
    repeat' first | apply FrO.next | apply FrO.ite | apply Fr.refl | assumption | apply Fr.ite | apply Fr.next State.modPwr_fr | apply Fr.next State.wrB_fr | refine Fr.snd ‹_ = (_, _)› ?_ | refine Fr.fst ‹_ = (_, _)› ?_ | refine Fr.snd2 ‹_ = (_, _, _)› ?_ | refine Fr.via (by assumption) ?_ | split
  all_goals first | rfl | exact Fr.refl

theorem execPanelLockTimeout_fr {a0 s} : FrO 134217985 s (execPanelLockTimeout a0 s) := by
  unfold execPanelLockTimeout
  with_reducible
    repeat' first | apply FrO.next | apply FrO.ite | apply Fr.refl | assumption | apply Fr.ite | apply Fr.next State.startFail_fr | refine Fr.snd ‹_ = (_, _)› ?_ | refine Fr.fst ‹_ = (_, _)› ?_ | refine Fr.snd2 ‹_ = (_, _, _)› ?_ | refine Fr.via (by assumption) ?_ | split
  all_goals first | rfl | exact Fr.refl

theorem execPanelUnplugged_fr {a0 s} : FrO 134218017 s (execPanelUnplugged a0 s) := by
  unfold execPanelUnplugged
  with_reducible
    repeat' first | apply FrO.next | apply FrO.ite | apply Fr.refl | assumption | apply Fr.ite | apply Fr.next State.modPanel_fr | apply Fr.next State.railFault_fr | refine Fr.snd ‹_ = (_, _)› ?_ | refine Fr.fst ‹_ = (_, _)› ?_ | refine Fr.snd2 ‹_ = (_, _, _)› ?_ | refine Fr.via (by assumption) ?_ | split
  all_goals first | rfl | exact Fr.refl

theorem execPowerFailWarning_fr {s} : FrO 158794613 s (execPowerFailWarning s) := by
  unfold execPowerFailWarning
  with_reducible
    repeat' first | apply FrO.next | apply FrO.ite | apply Fr.refl | assumption | apply Fr.ite | apply Fr.next State.setPower_fr | apply Fr.next State.wantDemote_fr | apply Fr.next State.wrB_fr | apply Fr.next State.modBoot_fr | apply Fr.next State.stopMeasure_fr | apply Fr.next State.modPanel_fr | apply Fr.next State.nvsWarning_fr | apply Fr.next State.powerLog_fr | apply Fr.next State.logc_fr | apply Fr.next State.releaseHalts_fr | apply Fr.next State.journalFirst_fr | apply Fr.next State.modPwr_fr | apply Fr.next State.weftReset_fr | apply Fr.next State.stopPorts_fr | apply Fr.next State.stopLoad_fr | refine Fr.snd ‹_ = (_, _)› ?_ | refine Fr.fst ‹_ = (_, _)› ?_ | refine Fr.snd2 ‹_ = (_, _, _)› ?_ | refine Fr.via (by assumption) ?_ | split
  all_goals first | rfl | exact Fr.refl

theorem execRailFault_fr {a0 a1 a2 s} : FrO 134218017 s (execRailFault a0 a1 a2 s) := by
  unfold execRailFault
  with_reducible
    repeat' first | apply FrO.next | apply FrO.ite | apply Fr.refl | assumption | apply Fr.ite | apply Fr.next State.wrB_fr | apply Fr.next State.railFault_fr | refine Fr.snd ‹_ = (_, _)› ?_ | refine Fr.fst ‹_ = (_, _)› ?_ | refine Fr.snd2 ‹_ = (_, _, _)› ?_ | refine Fr.via (by assumption) ?_ | split
  all_goals first | rfl | exact Fr.refl

theorem execRailsEnable_fr {a0 a1 s} : FrO 140509537 s (execRailsEnable a0 a1 s) := by
  unfold execRailsEnable
  with_reducible
    repeat' first | apply FrO.next | apply FrO.ite | apply Fr.refl | assumption | ((try lift_lets -underBinder); intro (x : State); refine (fun h => ?_ : Fr 140509537 s x → _) ?_; clear_value x; rotate_left; subst x) | apply Fr.ite | apply Fr.next State.logc_fr | apply Fr.next State.modThm_fr | apply Fr.next State.counterAdd_fr | apply Fr.next State.railFault_fr | apply Fr.next State.modPanel_fr | apply Fr.next State.showStage_fr | apply Fr.next State.modBoot_fr | apply Fr.next State.wrB_fr | refine Fr.snd ‹_ = (_, _)› ?_ | refine Fr.fst ‹_ = (_, _)› ?_ | refine Fr.snd2 ‹_ = (_, _, _)› ?_ | refine Fr.via (by assumption) ?_ | split
  all_goals first | rfl | exact Fr.refl

theorem execSillFrameStart_fr {s} : FrO 134768491 s (execSillFrameStart s) := by
  unfold execSillFrameStart
  with_reducible
    repeat' first | apply FrO.next | apply FrO.ite | apply Fr.refl | assumption | apply Fr.ite | apply Fr.next State.sillFrameStart_fr | refine Fr.snd ‹_ = (_, _)› ?_ | refine Fr.fst ‹_ = (_, _)› ?_ | refine Fr.snd2 ‹_ = (_, _, _)› ?_ | refine Fr.via (by assumption) ?_ | split
  all_goals first | rfl | exact Fr.refl

theorem execSillHandover_fr {s} : FrO 226492271 s (execSillHandover s) := by
  unfold execSillHandover
  with_reducible
    repeat' first | apply FrO.next | apply FrO.ite | apply Fr.refl | assumption | ((try lift_lets -underBinder); intro (x : State → State); refine (fun h => ?_ : (∀ s, Fr 226492271 s (x s)) → _) ?_; clear_value x; rotate_left; subst x; intro s; (try simp only [])) | apply Fr.ite | apply Fr.next State.modPanel_fr | apply Fr.next State.toLineEnd_fr | apply Fr.next State.modWv_fr | apply Fr.next State.modFrs_fr | apply Fr.next State.modScan_fr | apply Fr.next State.wr_fr | apply Fr.next State.startSill_fr | apply Fr.next State.warmReset_fr | apply Fr.next State.enterThermalStop_fr | refine Fr.each ?_ (fun s _ => ?_) | apply Fr.next State.setRole_fr | apply Fr.next State.setPower_fr | apply Fr.next State.srLeave_fr | apply Fr.next State.rateLost_fr | apply Fr.next State.haltStart_fr | refine Fr.snd ‹_ = (_, _)› ?_ | refine Fr.fst ‹_ = (_, _)› ?_ | refine Fr.snd2 ‹_ = (_, _, _)› ?_ | refine Fr.via (by assumption) ?_ | split
  all_goals first | rfl | exact Fr.refl

theorem execSillPictureStart_fr {s} : FrO 1065837 s (execSillPictureStart s) := by
  unfold execSillPictureStart
  with_reducible
    repeat' first | apply FrO.next | apply FrO.ite | apply Fr.refl | assumption | apply Fr.ite | apply Fr.next State.showStage_fr | apply Fr.next State.modLeaf_fr | apply Fr.next State.startSill_fr | apply Fr.next State.modBoot_fr | refine Fr.snd ‹_ = (_, _)› ?_ | refine Fr.fst ‹_ = (_, _)› ?_ | refine Fr.snd2 ‹_ = (_, _, _)› ?_ | refine Fr.via (by assumption) ?_ | split
  all_goals first | rfl | exact Fr.refl

theorem execTakeover_fr {s} : FrO 142550845 s (execTakeover s) := by
  unfold execTakeover
  with_reducible
    repeat' first | apply FrO.next | apply FrO.ite | apply Fr.refl | assumption | apply Fr.ite | apply Fr.next State.dueAt_fr | apply Fr.next State.modLeaf_fr | apply Fr.next State.stopLoad_fr | apply Fr.next State.modPanel_fr | apply Fr.next State.repairSts_fr | apply Fr.next State.flushRepairs_fr | apply Fr.next State.setRole_fr | apply Fr.next State.takeRecords_fr | apply Fr.next State.wr_fr | apply Fr.next State.enterThermalStop_fr | apply Fr.next State.modMode_fr | apply Fr.next State.journalLogs_fr | apply Fr.next State.modPwr_fr | apply Fr.next State.bump_fr | apply Fr.next State.logc_fr | refine Fr.snd ‹_ = (_, _)› ?_ | refine Fr.fst ‹_ = (_, _)› ?_ | refine Fr.snd2 ‹_ = (_, _, _)› ?_ | refine Fr.via (by assumption) ?_ | split
  all_goals first | rfl | exact Fr.refl

theorem wrRstCtl_fr {a0 s} : Fr 225951591 s (wrRstCtl a0 s).2 := by
  unfold wrRstCtl
  with_reducible
    repeat' first | apply Fr.refl | assumption | ((try lift_lets -underBinder); intro (x : _ × State); refine (fun h => ?_ : Fr 225951591 s x.2 → _) ?_; clear_value x; rotate_left; subst x) | apply Fr.ite | apply Fr.ite2 | apply Fr.next ignCode_fr | apply Fr.next okW_fr | apply Fr.next State.warmRequest_fr | apply Fr.next State.moduleRequest_fr | refine Fr.snd ‹_ = (_, _)› ?_ | refine Fr.fst ‹_ = (_, _)› ?_ | refine Fr.snd2 ‹_ = (_, _, _)› ?_ | refine Fr.via (by assumption) ?_ | split
  all_goals first | rfl | exact Fr.refl

end Sys2Proof.Machine
end

