-- ==== Sys2Proof/Laws/FrameSecu.lean ====
section
/-! SUPPORT. The frame of every operation of Machine/Secu.lean. -/

namespace Sys2Proof.Machine

set_option linter.unusedTactic false
set_option linter.unreachableTactic false

theorem State.clearSec_fr {s} : Fr 1 s (State.clearSec s) := by
  unfold State.clearSec
  with_reducible
    repeat' first | apply Fr.refl | assumption | ((try lift_lets -underBinder); intro x; have : ∀ s, x s = x s := fun _ => rfl; clear this; subst x) | apply Fr.ite | refine Fr.each ?_ (fun s _ => ?_) | apply Fr.next State.setReg_fr | refine Fr.snd ‹_ = (_, _)› ?_ | refine Fr.fst ‹_ = (_, _)› ?_ | refine Fr.snd2 ‹_ = (_, _, _)› ?_ | refine Fr.via (by assumption) ?_ | split
  all_goals first | rfl | exact Fr.refl

theorem State.secEnd_fr {s a1 a2} : Fr 134217985 s (State.secEnd s a1 a2) := by
  unfold State.secEnd
  with_reducible
    repeat' first | apply Fr.refl | assumption | ((try lift_lets -underBinder); intro (x : State); refine (fun h => ?_ : Fr 134217985 s x → _) ?_; clear_value x; rotate_left; subst x) | apply Fr.ite | apply Fr.next State.event_fr | apply Fr.next State.clearSec_fr | apply Fr.next State.wr_fr | apply Fr.next State.logc_fr | refine Fr.snd ‹_ = (_, _)› ?_ | refine Fr.fst ‹_ = (_, _)› ?_ | refine Fr.snd2 ‹_ = (_, _, _)› ?_ | refine Fr.via (by assumption) ?_ | split
  all_goals first | rfl | exact Fr.refl

theorem State.secRefuse_fr {s a1} : Fr 134217985 s (State.secRefuse s a1) := by
  unfold State.secRefuse
  with_reducible
    repeat' first | apply Fr.refl | assumption | apply Fr.ite | apply Fr.next State.secEnd_fr | refine Fr.snd ‹_ = (_, _)› ?_ | refine Fr.fst ‹_ = (_, _)› ?_ | refine Fr.snd2 ‹_ = (_, _, _)› ?_ | refine Fr.via (by assumption) ?_ | split
  all_goals first | rfl | exact Fr.refl

theorem State.badSignature_fr {s} : Fr 142606593 s (State.badSignature s) := by
  unfold State.badSignature
  with_reducible
    repeat' first | apply Fr.refl | assumption | ((try lift_lets -underBinder); intro (x : State); refine (fun h => ?_ : Fr 142606593 s x → _) ?_; clear_value x; rotate_left; subst x) | ((try lift_lets -underBinder); intro x; clear_value x) | apply Fr.ite | apply Fr.next State.setSigs_fr | apply Fr.next State.secRefuse_fr | refine Fr.snd ‹_ = (_, _)› ?_ | refine Fr.fst ‹_ = (_, _)› ?_ | refine Fr.snd2 ‹_ = (_, _, _)› ?_ | refine Fr.via (by assumption) ?_ | split
  all_goals first | rfl | exact Fr.refl

theorem State.setSec_fr {s a1} : Fr 134217989 s (State.setSec s a1) := by
  unfold State.setSec
  with_reducible
    repeat' first | apply Fr.refl | assumption | apply Fr.ite | apply Fr.next State.event_fr | apply Fr.next State.modMode_fr | refine Fr.snd ‹_ = (_, _)› ?_ | refine Fr.fst ‹_ = (_, _)› ?_ | refine Fr.snd2 ‹_ = (_, _, _)› ?_ | refine Fr.via (by assumption) ?_ | split
  all_goals first | rfl | exact Fr.refl

theorem State.keyStoreFailed_fr {s} : Fr 142606597 s (State.keyStoreFailed s) := by
  unfold State.keyStoreFailed
  with_reducible
    repeat' first | apply Fr.refl | assumption | ((try lift_lets -underBinder); intro (x : State); refine (fun h => ?_ : Fr 142606597 s x → _) ?_; clear_value x; rotate_left; subst x) | apply Fr.ite | apply Fr.next State.wrB_fr | apply Fr.next State.setKeys_fr | apply Fr.next State.logc_fr | apply Fr.next State.setSec_fr | refine Fr.snd ‹_ = (_, _)› ?_ | refine Fr.fst ‹_ = (_, _)› ?_ | refine Fr.snd2 ‹_ = (_, _, _)› ?_ | refine Fr.via (by assumption) ?_ | split
  all_goals first | rfl | exact Fr.refl

theorem State.checkSeal_fr {s} : Fr 142606597 s (State.checkSeal s) := by
  unfold State.checkSeal
  with_reducible
    repeat' first | apply Fr.refl | assumption | ((try lift_lets -underBinder); intro (x : State); refine (fun h => ?_ : Fr 142606597 s x → _) ?_; clear_value x; rotate_left; subst x) | ((try lift_lets -underBinder); intro x; clear_value x) | apply Fr.ite | apply Fr.next State.setSec_fr | apply Fr.next State.wrB_fr | apply Fr.next State.setKeys_fr | apply Fr.next State.keyStoreFailed_fr | apply Fr.next State.burnTrans_fr | apply Fr.next State.logc_fr | refine Fr.snd ‹_ = (_, _)› ?_ | refine Fr.fst ‹_ = (_, _)› ?_ | refine Fr.snd2 ‹_ = (_, _, _)› ?_ | refine Fr.via (by assumption) ?_ | split
  all_goals first | rfl | exact Fr.refl

theorem State.writeSeal_fr {s a1 a2} : Fr 136315137 s (State.writeSeal s a1 a2) := by
  unfold State.writeSeal
  with_reducible
    repeat' first | apply Fr.refl | assumption | apply Fr.ite | apply Fr.next State.commitPage_fr | refine Fr.snd ‹_ = (_, _)› ?_ | refine Fr.fst ‹_ = (_, _)› ?_ | refine Fr.snd2 ‹_ = (_, _, _)› ?_ | refine Fr.via (by assumption) ?_ | split
  all_goals first | rfl | exact Fr.refl

theorem State.resealStore_fr {s} : Fr 136315137 s (State.resealStore s) := by
  unfold State.resealStore
  with_reducible
    repeat' first | apply Fr.refl | assumption | apply Fr.ite | apply Fr.next State.writeSeal_fr | refine Fr.snd ‹_ = (_, _)› ?_ | refine Fr.fst ‹_ = (_, _)› ?_ | refine Fr.snd2 ‹_ = (_, _, _)› ?_ | refine Fr.via (by assumption) ?_ | split
  all_goals first | rfl | exact Fr.refl

theorem State.writeSlot_fr {s a1 a2} : Fr 144703745 s (State.writeSlot s a1 a2) := by
  unfold State.writeSlot
  with_reducible
    repeat' first | apply Fr.refl | assumption | ((try lift_lets -underBinder); intro (x : State); refine (fun h => ?_ : Fr 144703745 s x → _) ?_; clear_value x; rotate_left; subst x) | ((try lift_lets -underBinder); intro x; clear_value x) | apply Fr.ite | apply Fr.next State.commitPage_fr | apply Fr.next State.resealStore_fr | apply Fr.next State.setKeys_fr | refine Fr.snd ‹_ = (_, _)› ?_ | refine Fr.fst ‹_ = (_, _)› ?_ | refine Fr.snd2 ‹_ = (_, _, _)› ?_ | refine Fr.via (by assumption) ?_ | split
  all_goals first | rfl | exact Fr.refl

theorem State.opKeyClear_fr {s} : Fr 144703745 s (State.opKeyClear s) := by
  unfold State.opKeyClear
  with_reducible
    repeat' first | apply Fr.refl | assumption | apply Fr.ite | apply Fr.next State.secRefuse_fr | apply Fr.next State.secEnd_fr | apply Fr.next State.writeSlot_fr | refine Fr.snd ‹_ = (_, _)› ?_ | refine Fr.fst ‹_ = (_, _)› ?_ | refine Fr.snd2 ‹_ = (_, _, _)› ?_ | refine Fr.via (by assumption) ?_ | split
  all_goals first | rfl | exact Fr.refl

theorem State.opKeyLoad_fr {s a1} : Fr 144703745 s (State.opKeyLoad s a1) := by
  unfold State.opKeyLoad
  with_reducible
    repeat' first | apply Fr.refl | assumption | apply Fr.ite | apply Fr.next State.secRefuse_fr | apply Fr.next State.secEnd_fr | apply Fr.next State.writeSlot_fr | refine Fr.snd ‹_ = (_, _)› ?_ | refine Fr.fst ‹_ = (_, _)› ?_ | refine Fr.snd2 ‹_ = (_, _, _)› ?_ | refine Fr.via (by assumption) ?_ | split
  all_goals first | rfl | exact Fr.refl

theorem State.renewNonce_fr {s} : Fr 16777217 s (State.renewNonce s) := by
  unfold State.renewNonce
  with_reducible
    repeat' first | apply Fr.refl | assumption | apply Fr.ite | apply Fr.next State.takeFree_fr | apply Fr.next State.wr_fr | refine Fr.snd ‹_ = (_, _)› ?_ | refine Fr.fst ‹_ = (_, _)› ?_ | refine Fr.snd2 ‹_ = (_, _, _)› ?_ | refine Fr.via (by assumption) ?_ | split
  all_goals first | rfl | exact Fr.refl

theorem State.ownerOp_fr {m s0 s a1 a2 a3 a4 k} (hk : ∀ s, Fr m s (k s)) (h : Fr m s0 s) (hm : 159383809 &&& m = 159383809) :
    Fr m s0 (State.ownerOp s a1 a2 a3 a4 k) := by
  unfold State.ownerOp
  with_reducible
    repeat' first | apply Fr.refl | assumption | ((try lift_lets -underBinder); intro (x : State); refine (fun h => ?_ : Fr m s0 x → _) ?_; clear_value x; rotate_left; subst x) | apply Fr.ite | apply Fr.next State.renewNonce_fr | apply Fr.next State.secRefuse_fr | apply Fr.next State.badSignature_fr | refine Fr.trans ?_ (hk _) | split
  all_goals exact Fr.sub rfl hm

theorem State.opOwner_fr {s} : Fr 159383809 s (State.opOwner s) := by
  unfold State.opOwner
  with_reducible
    repeat' first | apply Fr.refl | assumption | ((try lift_lets -underBinder); intro x; clear_value x) | apply Fr.ite | refine State.ownerOp_fr (hk := fun s => ?_) ?_ ?_ | apply Fr.next State.event_fr | apply Fr.next State.clearSec_fr | apply Fr.next State.wr_fr | apply Fr.next State.burnOwner_fr | refine Fr.snd ‹_ = (_, _)› ?_ | refine Fr.fst ‹_ = (_, _)› ?_ | refine Fr.snd2 ‹_ = (_, _, _)› ?_ | refine Fr.via (by assumption) ?_ | split
  all_goals first | rfl | exact Fr.refl

theorem State.opRecover_fr {s} : Fr 161481061 s (State.opRecover s) := by
  unfold State.opRecover
  with_reducible
    repeat' first | apply Fr.refl | assumption | ((try lift_lets -underBinder); intro (x : State); refine (fun h => ?_ : Fr 161481061 s x → _) ?_; clear_value x; rotate_left; subst x) | apply Fr.ite | refine State.ownerOp_fr (hk := fun s => ?_) ?_ ?_ | refine Fr.each ?_ (fun s _ => ?_) | apply Fr.next State.commitPage_fr | apply Fr.next State.setKeys_fr | apply Fr.next State.wrB_fr | apply Fr.next State.burnTrans_fr | apply Fr.next State.writeSeal_fr | apply Fr.next State.moduleRequest_fr | apply Fr.next State.secEnd_fr | apply Fr.next State.setSec_fr | refine Fr.snd ‹_ = (_, _)› ?_ | refine Fr.fst ‹_ = (_, _)› ?_ | refine Fr.snd2 ‹_ = (_, _, _)› ?_ | refine Fr.via (by assumption) ?_ | split
  all_goals first | rfl | exact Fr.refl

theorem State.opSeal_fr {s} : Fr 144711941 s (State.opSeal s) := by
  unfold State.opSeal
  with_reducible
    repeat' first | apply Fr.refl | assumption | ((try lift_lets -underBinder); intro (x : State); refine (fun h => ?_ : Fr 144711941 s x → _) ?_; clear_value x; rotate_left; subst x) | ((try lift_lets -underBinder); intro x; clear_value x) | apply Fr.ite | apply Fr.next State.secRefuse_fr | apply Fr.next State.burnOwner_fr | apply Fr.next State.burnTrans_fr | apply Fr.next State.writeSeal_fr | apply Fr.next State.secEnd_fr | apply Fr.next State.startVerSweep_fr | apply Fr.next State.setSec_fr | refine Fr.snd ‹_ = (_, _)› ?_ | refine Fr.fst ‹_ = (_, _)› ?_ | refine Fr.snd2 ‹_ = (_, _, _)› ?_ | refine Fr.via (by assumption) ?_ | split
  all_goals first | rfl | exact Fr.refl

theorem State.opSvnCommit_fr {s} : Fr 142606593 s (State.opSvnCommit s) := by
  unfold State.opSvnCommit
  with_reducible
    repeat' first | apply Fr.refl | assumption | ((try lift_lets -underBinder); intro (x : State); refine (fun h => ?_ : Fr 142606593 s x → _) ?_; clear_value x; rotate_left; subst x) | apply Fr.ite | apply Fr.next State.secRefuse_fr | apply Fr.next State.burnSvn_fr | apply Fr.next State.secEnd_fr | apply Fr.next State.wr_fr | refine Fr.snd ‹_ = (_, _)› ?_ | refine Fr.fst ‹_ = (_, _)› ?_ | refine Fr.snd2 ‹_ = (_, _, _)› ?_ | refine Fr.via (by assumption) ?_ | split
  all_goals first | rfl | exact Fr.refl

theorem State.opUnseal_fr {s} : Fr 161480965 s (State.opUnseal s) := by
  unfold State.opUnseal
  with_reducible
    repeat' first | apply Fr.refl | assumption | apply Fr.ite | refine State.ownerOp_fr (hk := fun s => ?_) ?_ ?_ | apply Fr.next State.secEnd_fr | apply Fr.next State.setSec_fr | apply Fr.next State.burnTrans_fr | apply Fr.next State.writeSeal_fr | refine Fr.snd ‹_ = (_, _)› ?_ | refine Fr.fst ‹_ = (_, _)› ?_ | refine Fr.snd2 ‹_ = (_, _, _)› ?_ | refine Fr.via (by assumption) ?_ | split
  all_goals first | rfl | exact Fr.refl

theorem State.secOp_fr {s a1 a2} : Fr 161489253 s (State.secOp s a1 a2) := by
  unfold State.secOp
  with_reducible
    repeat' first | apply Fr.refl | assumption | apply Fr.ite | apply Fr.next State.opSeal_fr | apply Fr.next State.opUnseal_fr | apply Fr.next State.opRecover_fr | apply Fr.next State.opOwner_fr | apply Fr.next State.opKeyLoad_fr | apply Fr.next State.opKeyClear_fr | apply Fr.next State.opSvnCommit_fr | refine Fr.snd ‹_ = (_, _)› ?_ | refine Fr.fst ‹_ = (_, _)› ?_ | refine Fr.snd2 ‹_ = (_, _, _)› ?_ | refine Fr.via (by assumption) ?_ | split
  all_goals first | rfl | exact Fr.refl

theorem execSignatureLockoutEnd_fr {s} : FrO 8388608 s (execSignatureLockoutEnd s) := by
  unfold execSignatureLockoutEnd
  with_reducible
    repeat' first | apply FrO.next | apply FrO.ite | apply Fr.refl | assumption | apply Fr.ite | apply Fr.next State.setSigs_fr | refine Fr.snd ‹_ = (_, _)› ?_ | refine Fr.fst ‹_ = (_, _)› ?_ | refine Fr.snd2 ‹_ = (_, _, _)› ?_ | refine Fr.via (by assumption) ?_ | split
  all_goals first | rfl | exact Fr.refl

theorem wrSecCtl_fr {a0 a1 s} : Fr 161489253 s (wrSecCtl a0 a1 s).2 := by
  unfold wrSecCtl
  with_reducible
    repeat' first | apply Fr.refl | assumption | apply Fr.ite | apply Fr.ite2 | apply Fr.next ignCode_fr | apply Fr.next okW_fr | apply Fr.next State.secOp_fr | refine Fr.snd ‹_ = (_, _)› ?_ | refine Fr.fst ‹_ = (_, _)› ?_ | refine Fr.snd2 ‹_ = (_, _, _)› ?_ | refine Fr.via (by assumption) ?_ | split
  all_goals first | rfl | exact Fr.refl

theorem wrSecReg_fr {a0 a1 a2 s} : Fr 134217985 s (wrSecReg a0 a1 a2 s).2 := by
  unfold wrSecReg
  with_reducible
    repeat' first | apply Fr.refl | assumption | apply Fr.ite | apply Fr.ite2 | apply Fr.next ign28_fr | apply Fr.next okW_fr | apply Fr.next State.plainWrite_fr | apply Fr.next State.setReg_fr | refine Fr.snd ‹_ = (_, _)› ?_ | refine Fr.fst ‹_ = (_, _)› ?_ | refine Fr.snd2 ‹_ = (_, _, _)› ?_ | refine Fr.via (by assumption) ?_ | split
  all_goals first | rfl | exact Fr.refl

end Sys2Proof.Machine
end

