-- ==== Sys2Proof/Laws/FrameStart.lean ====
section
/-! SUPPORT. The frame of every operation of Machine/Start.lean. -/

namespace Sys2Proof.Machine

set_option linter.unusedTactic false
set_option linter.unreachableTactic false

theorem State.enterQuarantine_fr {s} : Fr 134218053 s (State.enterQuarantine s) := by
  unfold State.enterQuarantine
  with_reducible
    repeat' first | apply Fr.refl | assumption | ((try lift_lets -underBinder); intro (x : State); refine (fun h => ?_ : Fr 134218053 s x → _) ?_; clear_value x; rotate_left; subst x) | apply Fr.ite | apply Fr.next State.setSec_fr | apply Fr.next State.wrB_fr | apply Fr.next State.wr_fr | apply Fr.next State.modBoot_fr | refine Fr.snd ‹_ = (_, _)› ?_ | refine Fr.fst ‹_ = (_, _)› ?_ | refine Fr.snd2 ‹_ = (_, _, _)› ?_ | refine Fr.via (by assumption) ?_ | split
  all_goals first | rfl | exact Fr.refl

theorem State.fallBack_fr {s a1} : Fr 134217985 s (State.fallBack s a1) := by
  unfold State.fallBack
  with_reducible
    repeat' first | apply Fr.refl | assumption | apply Fr.ite | apply Fr.next State.logc_fr | refine Fr.snd ‹_ = (_, _)› ?_ | refine Fr.fst ‹_ = (_, _)› ?_ | refine Fr.snd2 ‹_ = (_, _, _)› ?_ | refine Fr.via (by assumption) ?_ | split
  all_goals first | rfl | exact Fr.refl

theorem State.firmwareDone_fr {s} : Fr 218113857 s (State.firmwareDone s) := by
  unfold State.firmwareDone
  with_reducible
    repeat' first | apply Fr.refl | assumption | ((try lift_lets -underBinder); intro (x : State); refine (fun h => ?_ : Fr 218113857 s x → _) ?_; clear_value x; rotate_left; subst x) | apply Fr.ite | apply Fr.next State.srLeave_fr | apply Fr.next State.stageDone_fr | refine Fr.snd ‹_ = (_, _)› ?_ | refine Fr.fst ‹_ = (_, _)› ?_ | refine Fr.snd2 ‹_ = (_, _, _)› ?_ | refine Fr.via (by assumption) ?_ | split
  all_goals first | rfl | exact Fr.refl

theorem State.fwFailed_fr {s a1} : Fr 134217985 s (State.fwFailed s a1) := by
  unfold State.fwFailed
  with_reducible
    repeat' first | apply Fr.refl | assumption | apply Fr.ite | apply Fr.next State.logc_fr | refine Fr.snd ‹_ = (_, _)› ?_ | refine Fr.fst ‹_ = (_, _)› ?_ | refine Fr.snd2 ‹_ = (_, _, _)› ?_ | refine Fr.via (by assumption) ?_ | split
  all_goals first | rfl | exact Fr.refl

theorem State.loadErr_fr {s a1} : Fr 1 s (State.loadErr s a1) := by
  unfold State.loadErr
  with_reducible
    repeat' first | apply Fr.refl | assumption | apply Fr.ite | apply Fr.next State.bump_fr | refine Fr.snd ‹_ = (_, _)› ?_ | refine Fr.fst ‹_ = (_, _)› ?_ | refine Fr.snd2 ‹_ = (_, _, _)› ?_ | refine Fr.via (by assumption) ?_ | split
  all_goals first | rfl | exact Fr.refl

theorem State.loadWeave_fr {s e side t} (h : State.loadWeave s e side = some t) : Fr 67112993 s t := by
  unfold State.loadWeave at h
  dsimp only at h
  split at h
  · split at h
    · rw [← Option.some.inj h]
      refine Fr.each Fr.refl (fun s _ => ?_)
      (with_reducible repeat' first | apply Fr.refl | apply Fr.next State.modWv_fr | apply Fr.next State.wrB_fr) <;> rfl
    · cases h
  · cases h

theorem State.loadWave_fr {s e side t} (h : State.loadWave s e side = some t) : Fr 67112993 s t := by
  unfold State.loadWave at h
  dsimp only at h
  split at h
  · cases h
  · obtain ⟨a, ha, hb⟩ := Option.bind_eq_some_iff.1 h
    split at ha
    · rw [← Option.some.inj ha] at hb
      split at hb
      · rw [← Option.some.inj hb]
        (with_reducible repeat' first | apply Fr.refl | apply Fr.next State.modPanel_fr | apply Fr.next State.wrB_fr | apply Fr.next State.wr_fr) <;> rfl
      · cases hb
    · cases ha

theorem State.loadUniform_fr {s e side t} (h : State.loadUniform s e side = some t) : Fr 67112993 s t := by
  unfold State.loadUniform at h
  dsimp only at h
  split at h
  · cases h
  · rw [← Option.some.inj h]
    refine Fr.each Fr.refl (fun s _ => ?_)
    (with_reducible repeat' first | apply Fr.refl | apply Fr.next State.hbmWr_fr | apply Fr.next State.hbmWr_fr) <;> rfl

theorem State.mapFailed_fr {s a1 a2 a3} : Fr 134217985 s (State.mapFailed s a1 a2 a3) := by
  unfold State.mapFailed
  with_reducible
    repeat' first | apply Fr.refl | assumption | ((try lift_lets -underBinder); intro (x : State); refine (fun h => ?_ : Fr 134217985 s x → _) ?_; clear_value x; rotate_left; subst x) | ((try lift_lets -underBinder); intro x; clear_value x) | apply Fr.ite | apply Fr.next State.loadErr_fr | refine Fr.each ?_ (fun s _ => ?_) | apply Fr.next State.wrB_fr | apply Fr.next State.logc_fr | apply Fr.next State.refuseWave_fr | refine Fr.snd ‹_ = (_, _)› ?_ | refine Fr.fst ‹_ = (_, _)› ?_ | refine Fr.snd2 ‹_ = (_, _, _)› ?_ | refine Fr.via (by assumption) ?_ | split
  all_goals first | rfl | exact Fr.refl

theorem State.loadType_fr {s ty sides} : Fr 201593185 s (State.loadType s ty sides).2 ∧
    ∀ t, (State.loadType s ty sides).1 = some t → Fr 201593185 s t := by
  induction sides generalizing s with
  | nil => exact ⟨Fr.refl, fun t h => by cases h⟩
  | cons side rest ih =>
    have back : ∀ {s0 s : State}, Fr 201593185 s0 s → Fr 201593185 s0 (if rest.isEmpty then s else s.fallBack ty) :=
      fun h => Fr.ite h (State.fallBack_fr.next h rfl)
    unfold State.loadType
    split
    · exact ⟨(back Fr.refl).trans ih.1, fun t h => (back Fr.refl).trans (ih.2 t h)⟩
    · split
      · refine ⟨Fr.refl, fun t h => ?_⟩
        cases h
        rename_i h
        refine Fr.mono (m := 67112993) ?_ rfl
        split at h
        · exact State.loadWeave_fr h
        · split at h
          · exact State.loadWave_fr h
          · exact State.loadUniform_fr h
      · rename_i e _ _ _
        have hf : Fr 201593185 s (s.mapFailed e side ty) := Fr.mono State.mapFailed_fr rfl
        exact ⟨(back (hf)).trans ih.1, fun t h => (back hf).trans (ih.2 t h)⟩

theorem State.runFirmware_fr {s a1 a2} : Fr 65 s (State.runFirmware s a1 a2) := by
  unfold State.runFirmware
  with_reducible
    repeat' first | apply Fr.refl | assumption | ((try lift_lets -underBinder); intro (x : State); refine (fun h => ?_ : Fr 65 s x → _) ?_; clear_value x; rotate_left; subst x) | apply Fr.ite | apply Fr.next State.wrB_fr | apply Fr.next State.wr_fr | apply Fr.next State.modBoot_fr | refine Fr.snd ‹_ = (_, _)› ?_ | refine Fr.fst ‹_ = (_, _)› ?_ | refine Fr.snd2 ‹_ = (_, _, _)› ?_ | refine Fr.via (by assumption) ?_ | split
  all_goals first | rfl | exact Fr.refl

theorem State.tryFirmware_fr {s a1} : Fr 218113861 s (State.tryFirmware s a1) := by
  unfold State.tryFirmware
  with_reducible
    repeat' first | apply Fr.refl | assumption | ((try lift_lets -underBinder); intro (x : State); refine (fun h => ?_ : Fr 218113861 s x → _) ?_; clear_value x; rotate_left; subst x) | apply Fr.ite | apply Fr.next State.enterQuarantine_fr | apply Fr.next State.startFail_fr | apply Fr.next State.firmwareDone_fr | apply Fr.next State.runFirmware_fr | apply Fr.next State.fwFailed_fr | apply Fr.next State.fallBack_fr | refine Fr.snd ‹_ = (_, _)› ?_ | refine Fr.fst ‹_ = (_, _)› ?_ | refine Fr.snd2 ‹_ = (_, _, _)› ?_ | refine Fr.via (by assumption) ?_ | split
  all_goals first | rfl | exact Fr.refl

theorem execFirmwareVerify_fr {s} : FrO 226502469 s (execFirmwareVerify s) := by
  unfold execFirmwareVerify
  with_reducible
    repeat' first | apply FrO.next | apply FrO.ite | apply Fr.refl | assumption | apply Fr.ite | apply Fr.next State.checkSeal_fr | apply Fr.next State.showStage_fr | apply Fr.next State.tryFirmware_fr | apply Fr.next State.enterQuarantine_fr | refine Fr.snd ‹_ = (_, _)› ?_ | refine Fr.fst ‹_ = (_, _)› ?_ | refine Fr.snd2 ‹_ = (_, _, _)› ?_ | refine Fr.via (by assumption) ?_ | split
  all_goals first | rfl | exact Fr.refl

theorem execHbmTraining_fr {a0 a1 s} : FrO 134480705 s (execHbmTraining a0 a1 s) := by
  unfold execHbmTraining
  with_reducible
    repeat' first | apply FrO.next | apply FrO.ite | apply Fr.refl | assumption | apply Fr.ite | apply Fr.next State.showStage_fr | apply Fr.next State.wr_fr | refine Fr.foldl (fun s _ => ?_) _ ?_ | apply Fr.next State.event_fr | apply Fr.next State.modMem_fr | apply Fr.next State.stageDone_fr | apply Fr.next State.haltStart_fr | apply Fr.next State.logc_fr | refine Fr.snd ‹_ = (_, _)› ?_ | refine Fr.fst ‹_ = (_, _)› ?_ | refine Fr.snd2 ‹_ = (_, _, _)› ?_ | refine Fr.via (by assumption) ?_ | split
  all_goals first | rfl | exact Fr.refl

theorem execLaneStepUp_fr {s} : FrO 4456513 s (execLaneStepUp s) := by
  unfold execLaneStepUp
  with_reducible
    repeat' first | apply FrO.next | apply FrO.ite | apply Fr.refl | assumption | apply Fr.ite | apply Fr.next State.stageDone_fr | apply Fr.next State.askRun_fr | apply Fr.next State.wr_fr | apply Fr.next State.modFab_fr | refine Fr.snd ‹_ = (_, _)› ?_ | refine Fr.fst ‹_ = (_, _)› ?_ | refine Fr.snd2 ‹_ = (_, _, _)› ?_ | refine Fr.via (by assumption) ?_ | split
  all_goals first | rfl | exact Fr.refl

theorem execMapLoad_fr {s} : FrO 201593185 s (execMapLoad s) := by
  unfold execMapLoad
  have bad : ∀ {p : Option State × State} {t s1}, p = (none, t) → Fr 201593185 s p.2 → s1 = t → FrO 201593185 s (.next (s1.haltStart 0x0701)) := by
    rintro p t s1 rfl h rfl
    exact FrO.next (State.haltStart_fr.next h rfl)
  split
  · exact FrO.next Fr.refl
  · have h0 : Fr 201593185 s (s.showStage 7) := Fr.mono State.showStage_fr rfl
    dsimp only
    split
    · exact bad ‹_› (h0.trans State.loadType_fr.1) rfl
    · have h1 := h0.trans (State.loadType_fr.2 _ (congrArg Prod.fst ‹_›))
      split
      · exact bad ‹_› (h1.trans State.loadType_fr.1) rfl
      · have h2 := h1.trans (State.loadType_fr.2 _ (congrArg Prod.fst ‹_›))
        split
        · exact bad ‹_› (h2.trans State.loadType_fr.1) rfl
        · have h3 := h2.trans (State.loadType_fr.2 _ (congrArg Prod.fst ‹_›))
          exact FrO.next (State.stageDone_fr.next h3 rfl)

theorem execWatchdogReset_fr {s} : FrO 65 s (execWatchdogReset s) := by
  unfold execWatchdogReset
  with_reducible
    repeat' first | apply FrO.next | apply FrO.ite | apply Fr.refl | assumption | apply Fr.ite | apply Fr.next State.wr_fr | apply Fr.next State.bump_fr | apply Fr.next State.modBoot_fr | refine Fr.snd ‹_ = (_, _)› ?_ | refine Fr.fst ‹_ = (_, _)› ?_ | refine Fr.snd2 ‹_ = (_, _, _)› ?_ | refine Fr.via (by assumption) ?_ | split
  all_goals first | rfl | exact Fr.refl

theorem wrWdgSvc_fr {a0 a1 s} : Fr 134218049 s (wrWdgSvc a0 a1 s).2 := by
  unfold wrWdgSvc
  with_reducible
    repeat' first | apply Fr.refl | assumption | apply Fr.ite | apply Fr.ite2 | apply Fr.next okW_fr | apply Fr.next State.modBoot_fr | apply Fr.next ign28_fr | refine Fr.snd ‹_ = (_, _)› ?_ | refine Fr.fst ‹_ = (_, _)› ?_ | refine Fr.snd2 ‹_ = (_, _, _)› ?_ | refine Fr.via (by assumption) ?_ | split
  all_goals first | rfl | exact Fr.refl

end Sys2Proof.Machine
end

