-- ==== Sys2Proof/Laws/FrameRegRead.lean ====
section
/-! SUPPORT. The frame of every operation of Machine/RegRead.lean. -/

namespace Sys2Proof.Machine

set_option linter.unusedTactic false
set_option linter.unreachableTactic false

theorem State.computed_fr {s a1 a2 a3} : FrI 153092353 s (State.computed s a1 a2 a3) := by
  unfold State.computed
  extract_lets
  with_reducible
    repeat' first | apply FrI.ite | apply FrI.none | apply FrI.some | apply Fr.refl | apply Fr.next State.takeFree_fr | apply Fr.next State.rdLutData_fr | apply Fr.next State.resVal_fr | apply Fr.next State.rtAdvance_fr | apply Fr.next State.cntVal_fr | apply Fr.next State.wr_fr | (intro x; clear_value x)
  all_goals rfl

theorem State.readClear_fr {s a1 a2 a3 a4 a5} : Fr 1 s (State.readClear s a1 a2 a3 a4 a5) := by
  unfold State.readClear
  with_reducible
    repeat' first | apply Fr.refl | assumption | ((try lift_lets -underBinder); intro (x : State); refine (fun h => ?_ : Fr 1 s x → _) ?_; clear_value x; rotate_left; subst x) | ((try lift_lets -underBinder); intro x; clear_value x) | apply Fr.ite | apply Fr.next State.setReg_fr | refine Fr.snd ‹_ = (_, _)› ?_ | refine Fr.fst ‹_ = (_, _)› ?_ | refine Fr.snd2 ‹_ = (_, _, _)› ?_ | refine Fr.via (by assumption) ?_ | split
  all_goals first | rfl | exact Fr.refl

theorem State.readLatch_fr {s a1 a2 a3 a4} : Fr 153092481 s (State.readLatch s a1 a2 a3 a4).2 := by
  unfold State.readLatch
  with_reducible
    repeat' first | apply Fr.refl | assumption | ((try lift_lets -underBinder); intro x; clear_value x) | apply Fr.ite | apply Fr.ite2 | apply Fr.next State.modBus_fr | refine Fr.snd ‹_ = (_, _)› ?_ | refine Fr.fst ‹_ = (_, _)› ?_ | refine Fr.snd2 ‹_ = (_, _, _)› ?_ | refine Fr.via (by assumption) ?_ | split
  all_goals first | rfl | exact Fr.refl

theorem State.readVal_fr {s a1 a2 a3 a4} : Fr 153092353 s (State.readVal s a1 a2 a3 a4).2 := by
  unfold State.readVal
  split
  · exact Fr.refl
  · split
    · exact State.computed_fr _ ‹_›
    · exact Fr.refl

theorem State.readReg_fr {s a1 a2 a3 a4} : Fr 153092481 s (State.readReg s a1 a2 a3 a4).2 := by
  unfold State.readReg
  with_reducible
    repeat' first | apply Fr.refl | assumption | apply Fr.ite | apply Fr.ite2 | apply Fr.next State.readVal_fr | apply Fr.next State.readLatch_fr | apply Fr.next State.readClear_fr | refine Fr.snd ‹_ = (_, _)› ?_ | refine Fr.fst ‹_ = (_, _)› ?_ | refine Fr.snd2 ‹_ = (_, _, _)› ?_ | refine Fr.via (by assumption) ?_ | split
  all_goals first | rfl | exact Fr.refl

end Sys2Proof.Machine
end

