-- ==== Sys2Proof/Laws/FrameRegDisp.lean ====
section
/-! SUPPORT. The frame of every operation of Machine/RegDisp.lean. -/

namespace Sys2Proof.Machine

set_option linter.unusedTactic false
set_option linter.unreachableTactic false

theorem State.answer_fr {r : Status × Nat × State} : Fr 128 r.2.2 (State.answer r) := by
  obtain ⟨a, b, s⟩ := r
  exact State.modBus_fr

theorem State.forceEvents_fr {s a1 a2} : Fr 134217985 s (State.forceEvents s a1 a2) := by
  unfold State.forceEvents
  with_reducible
    repeat' first | apply Fr.refl | assumption | ((try lift_lets -underBinder); intro (x : State); refine (fun h => ?_ : Fr 134217985 s x → _) ?_; clear_value x; rotate_left; subst x) | apply Fr.ite | refine Fr.each ?_ (fun s _ => ?_) | apply Fr.next State.wr_fr | apply Fr.next State.report_fr | refine Fr.snd ‹_ = (_, _)› ?_ | refine Fr.fst ‹_ = (_, _)› ?_ | refine Fr.snd2 ‹_ = (_, _, _)› ?_ | refine Fr.via (by assumption) ?_ | split
  all_goals first | rfl | exact Fr.refl

theorem State.winSts_fr {s a1 a2 a3} : Fr 1 s (State.winSts s a1 a2 a3) := by
  unfold State.winSts
  with_reducible
    repeat' first | apply Fr.refl | assumption | apply Fr.ite | apply Fr.next State.setReg_fr | refine Fr.snd ‹_ = (_, _)› ?_ | refine Fr.fst ‹_ = (_, _)› ?_ | refine Fr.snd2 ‹_ = (_, _, _)› ?_ | refine Fr.via (by assumption) ?_ | split
  all_goals first | rfl | exact Fr.refl

theorem State.rdWinData_fr {s a1 a2} : Fr 201336577 s (State.rdWinData s a1 a2).2.2 := by
  unfold State.rdWinData
  with_reducible
    repeat' first | apply Fr.refl | assumption | ((try lift_lets -underBinder); intro x; clear_value x) | apply Fr.ite | apply Fr.ite2 | apply Fr.next State.winSts_fr | apply Fr.next State.addrError_fr | apply Fr.next State.uncorrectable_fr | refine Fr.snd ‹_ = (_, _)› ?_ | refine Fr.fst ‹_ = (_, _)› ?_ | refine Fr.snd2 ‹_ = (_, _, _)› ?_ | refine Fr.via (by assumption) ?_ | split
  all_goals first | rfl | exact Fr.refl

theorem State.readAccess_fr {s a1 a2 a3} : Fr 220211073 s (State.readAccess s a1 a2 a3).2.2 := by
  unfold State.readAccess
  with_reducible
    repeat' first | apply Fr.refl | assumption | ((try lift_lets -underBinder); intro x; clear_value x) | apply Fr.ite | apply Fr.ite2 | apply Fr.next State.rdWinData_fr | apply Fr.next State.readReg_fr | refine Fr.snd ‹_ = (_, _)› ?_ | refine Fr.fst ‹_ = (_, _)› ?_ | refine Fr.snd2 ‹_ = (_, _, _)› ?_ | refine Fr.via (by assumption) ?_ | split
  all_goals first | rfl | exact Fr.refl

theorem State.showMap_fr {s a1} : Fr 1 s (State.showMap s a1) := by
  unfold State.showMap
  with_reducible
    repeat' first | apply Fr.refl | assumption | apply Fr.ite | apply Fr.next State.wr_fr | refine Fr.snd ‹_ = (_, _)› ?_ | refine Fr.fst ‹_ = (_, _)› ?_ | refine Fr.snd2 ‹_ = (_, _, _)› ?_ | refine Fr.via (by assumption) ?_ | split
  all_goals first | rfl | exact Fr.refl

theorem State.softMachines_fr {s a1} : Fr 209157383 s (State.softMachines s a1) := by
  unfold State.softMachines
  with_reducible
    repeat' first | apply Fr.refl | assumption | ((try lift_lets -underBinder); intro (x : State); refine (fun h => ?_ : Fr 209157383 s x → _) ?_; clear_value x; rotate_left; subst x) | ((try lift_lets -underBinder); intro x; clear_value x) | apply Fr.ite | apply Fr.next State.ingestWarm_fr | apply Fr.next State.coilWarm_fr | apply Fr.next State.wrB_fr | apply Fr.next State.modRim_fr | apply Fr.next State.weftReset_fr | apply Fr.next State.modWv_fr | refine Fr.each ?_ (fun s _ => ?_) | apply Fr.next State.portOff_fr | apply Fr.next State.dropEff_fr | apply Fr.next State.modFab_fr | apply Fr.next State.modLeaf_fr | apply Fr.next State.setRole_fr | refine Fr.snd ‹_ = (_, _)› ?_ | refine Fr.fst ‹_ = (_, _)› ?_ | refine Fr.snd2 ‹_ = (_, _, _)› ?_ | refine Fr.via (by assumption) ?_ | split
  all_goals first | rfl | exact Fr.refl

theorem State.softReset_fr {s a1} : Fr 225934599 s (State.softReset s a1) := by
  unfold State.softReset
  with_reducible
    repeat' first | apply Fr.refl | assumption | ((try lift_lets -underBinder); intro (x : State); refine (fun h => ?_ : Fr 225934599 s x → _) ?_; clear_value x; rotate_left; subst x) | ((try lift_lets -underBinder); intro x; clear_value x) | apply Fr.ite | apply Fr.next State.softMachines_fr | apply Fr.next State.dropRegs_fr | apply Fr.next State.showMap_fr | apply Fr.next State.wrB_fr | apply Fr.next State.fabricLatch_fr | refine Fr.snd ‹_ = (_, _)› ?_ | refine Fr.fst ‹_ = (_, _)› ?_ | refine Fr.snd2 ‹_ = (_, _, _)› ?_ | refine Fr.via (by assumption) ?_ | split
  all_goals first | rfl | exact Fr.refl

theorem State.valueAfter_fr {s a1 a2 a3} : Fr 153092353 s (State.valueAfter s a1 a2 a3).2 := by
  unfold State.valueAfter
  with_reducible
    repeat' first | apply Fr.refl | assumption | ((try lift_lets -underBinder); intro x; clear_value x) | apply Fr.ite | apply Fr.ite2 | apply Fr.next State.readVal_fr | apply Fr.next State.modFreeCtr_fr | refine Fr.snd ‹_ = (_, _)› ?_ | refine Fr.fst ‹_ = (_, _)› ?_ | refine Fr.snd2 ‹_ = (_, _, _)› ?_ | refine Fr.via (by assumption) ?_ | split
  all_goals first | rfl | exact Fr.refl

theorem wrWinData_fr {a0 a1 a2 a3 s} : Fr 201326849 s (wrWinData a0 a1 a2 a3 s).2 := by
  unfold wrWinData
  with_reducible
    repeat' first | apply Fr.refl | assumption | ((try lift_lets -underBinder); intro x; clear_value x) | apply Fr.ite | apply Fr.ite2 | apply Fr.next State.winSts_fr | apply Fr.next State.addrError_fr | apply Fr.next okW_fr | apply Fr.next State.hbmWr_fr | apply Fr.next State.sramWr_fr | apply Fr.next ign28_fr | refine Fr.snd ‹_ = (_, _)› ?_ | refine Fr.fst ‹_ = (_, _)› ?_ | refine Fr.snd2 ‹_ = (_, _, _)› ?_ | refine Fr.via (by assumption) ?_ | split
  all_goals first | rfl | exact Fr.refl

theorem wrWinAddr_fr {a0 a1 a2 s} : Fr 1 s (wrWinAddr a0 a1 a2 s).2 := by
  unfold wrWinAddr
  with_reducible
    repeat' first | apply Fr.refl | assumption | apply Fr.ite | apply Fr.ite2 | apply Fr.next okW_fr | apply Fr.next State.plainWrite_fr | refine Fr.snd ‹_ = (_, _)› ?_ | refine Fr.fst ‹_ = (_, _)› ?_ | refine Fr.snd2 ‹_ = (_, _, _)› ?_ | refine Fr.via (by assumption) ?_ | split
  all_goals first | rfl | exact Fr.refl

theorem wrPgCtl_fr {a0 a1 a2 s} : Fr 225934599 s (wrPgCtl a0 a1 a2 s).2 := by
  unfold wrPgCtl
  with_reducible
    repeat' first | apply Fr.refl | assumption | ((try lift_lets -underBinder); intro (x : State); refine (fun h => ?_ : Fr 225934599 s x → _) ?_; clear_value x; rotate_left; subst x) | apply Fr.ite | apply Fr.ite2 | apply Fr.next ign28_fr | apply Fr.next State.wr_fr | apply Fr.next State.wrB_fr | apply Fr.next okW_fr | apply Fr.next State.softReset_fr | refine Fr.snd ‹_ = (_, _)› ?_ | refine Fr.fst ‹_ = (_, _)› ?_ | refine Fr.snd2 ‹_ = (_, _, _)› ?_ | refine Fr.via (by assumption) ?_ | split
  all_goals first | rfl | exact Fr.refl

theorem wrHeader_fr {a0 a1 a2 a3 s} : Fr 225934599 s (wrHeader a0 a1 a2 a3 s).2 := by
  unfold wrHeader
  with_reducible
    repeat' first | apply Fr.refl | assumption | apply Fr.ite | apply Fr.ite2 | apply Fr.next wrPgCtl_fr | apply Fr.next okW_fr | apply Fr.next State.wr_fr | apply Fr.next State.forceEvents_fr | apply Fr.next State.plainWrite_fr | refine Fr.snd ‹_ = (_, _)› ?_ | refine Fr.fst ‹_ = (_, _)› ?_ | refine Fr.snd2 ‹_ = (_, _, _)› ?_ | refine Fr.via (by assumption) ?_ | split
  all_goals first | rfl | exact Fr.refl

theorem wrDataPages_fr {a0 a1 a2 a3 s} : FrI 201411841 s (wrDataPages a0 a1 a2 a3 s) := by
  unfold wrDataPages
  with_reducible
    repeat' first | apply FrI.ite | apply FrI.none | apply FrI.some | apply Fr.refl | apply Fr.next State.wrRingCfg_fr | apply Fr.next State.wrRingAddr_fr | apply Fr.next State.wrStreamRing_fr | apply Fr.next State.wrCtxBase_fr | apply Fr.next State.wrStrmCtl_fr | apply Fr.next State.wrEnc_fr | apply Fr.next State.wrEncCtl_fr | apply Fr.next wrCalcReg_fr | apply Fr.next wrCalcCtl_fr | apply Fr.next wrSqBase_fr | apply Fr.next wrSqTail_fr | apply Fr.next wrWftCtl_fr
  all_goals rfl

theorem wrProbeSel_fr {a0 a1 s} : Fr 4097 s (wrProbeSel a0 a1 s).2 := by
  unfold wrProbeSel
  with_reducible
    repeat' first | apply Fr.refl | assumption | ((try lift_lets -underBinder); intro (x : State); refine (fun h => ?_ : Fr 4097 s x → _) ?_; clear_value x; rotate_left; subst x) | apply Fr.ite | apply Fr.ite2 | apply Fr.next State.plainWrite_fr | apply Fr.next okW_fr | apply Fr.next State.modWv_fr | refine Fr.snd ‹_ = (_, _)› ?_ | refine Fr.fst ‹_ = (_, _)› ?_ | refine Fr.snd2 ‹_ = (_, _, _)› ?_ | refine Fr.via (by assumption) ?_ | split
  all_goals first | rfl | exact Fr.refl

theorem wrWvPage_fr {a0 a1 a2 a3 s} : FrI 134222081 s (wrWvPage a0 a1 a2 a3 s) := by
  unfold wrWvPage
  with_reducible
    repeat' first | apply FrI.ite | apply FrI.none | apply FrI.some | apply Fr.refl | apply Fr.next State.wrLvrCtl_fr | apply Fr.next State.wrMapCtl_fr | apply Fr.next State.wrOutCtl_fr | apply Fr.next State.wrLutData_fr | apply Fr.next State.wrLutCtl_fr | apply Fr.next wrProbeSel_fr
  all_goals rfl

theorem wrPlkPage_fr {a0 a1 a2 a3 s} : FrI 134250753 s (wrPlkPage a0 a1 a2 a3 s) := by
  unfold wrPlkPage
  with_reducible
    repeat' first | apply FrI.ite | apply FrI.none | apply FrI.some | apply Fr.refl | apply Fr.next State.wrLinkCtl_fr | apply Fr.next wrReadmit_fr
  all_goals rfl

theorem wrPdvPage_fr {a0 a1 a2 a3 s} : FrI 134218017 s (wrPdvPage a0 a1 a2 a3 s) := by
  unfold wrPdvPage
  with_reducible
    repeat' first | apply FrI.ite | apply FrI.none | apply FrI.some | apply Fr.refl | apply Fr.next wrResAddr_fr | apply Fr.next wrWfAddr_fr | apply Fr.next State.wrWfCtl_fr | apply Fr.next wrGateCtl_fr
  all_goals rfl

theorem wrPanelPages_fr {a0 a1 a2 a3 s} : FrI 218150689 s (wrPanelPages a0 a1 a2 a3 s) := by
  unfold wrPanelPages
  with_reducible
    repeat' first | apply FrI.ite | apply FrI.none | apply FrI.some | apply Fr.refl | apply FrI.mono wrWvPage_fr | apply Fr.next wrRaster_fr | apply Fr.next wrShutCtl_fr | apply FrI.mono wrPlkPage_fr | apply FrI.mono wrPdvPage_fr
  all_goals rfl

theorem wrLinkPages_fr {a0 a1 a2 a3 s} : FrI 226404103 s (wrLinkPages a0 a1 a2 a3 s) := by
  unfold wrLinkPages
  with_reducible
    repeat' first | apply FrI.ite | apply FrI.none | apply FrI.some | apply Fr.refl | apply Fr.next wrRtCtl_fr | apply Fr.next wrRdCtl_fr | apply Fr.next wrXlate_fr | apply Fr.next wrLaneCtl_fr | apply Fr.next wrPortCfg_fr | apply Fr.next wrRtData_fr | apply Fr.next wrFabPortCtl_fr | apply Fr.next wrJumpCtl_fr | apply Fr.next wrPpsCfg_fr | apply Fr.next wrSlot_fr | apply Fr.next wrCmpVal_fr | apply Fr.next wrCmpCtl_fr | apply Fr.next wrLefCtl_fr
  all_goals rfl

theorem wrEvtTail_fr {a0 a1 a2 s} : Fr 134217985 s (wrEvtTail a0 a1 a2 s).2 := by
  unfold wrEvtTail
  with_reducible
    repeat' first | apply Fr.refl | assumption | ((try lift_lets -underBinder); intro (x : State); refine (fun h => ?_ : Fr 134217985 s x → _) ?_; clear_value x; rotate_left; subst x) | ((try lift_lets -underBinder); intro x; clear_value x) | apply Fr.ite | apply Fr.ite2 | apply Fr.next ign28_fr | apply Fr.next State.wr_fr | apply Fr.next State.modLog_fr | apply Fr.next State.wrB_fr | apply Fr.next okW_fr | apply Fr.next State.logc_fr | refine Fr.snd ‹_ = (_, _)› ?_ | refine Fr.fst ‹_ = (_, _)› ?_ | refine Fr.snd2 ‹_ = (_, _, _)› ?_ | refine Fr.via (by assumption) ?_ | split
  all_goals first | rfl | exact Fr.refl

theorem wrServicePages_fr {a0 a1 a2 a3 a4 a5 s} : FrI 234340199 s (wrServicePages a0 a1 a2 a3 a4 a5 s) := by
  unfold wrServicePages
  with_reducible
    repeat' first | apply FrI.ite | apply FrI.none | apply FrI.some | apply Fr.refl | apply Fr.next wrNvsPwd_fr | apply Fr.next wrNvsCmd_fr | apply Fr.next wrNvsLogCtl_fr | apply Fr.next wrBmsCtl_fr | apply Fr.next wrBmsReg_fr | apply Fr.next wrZoneThr_fr | apply Fr.next wrSenCfg_fr | apply Fr.next wrClbCmd_fr | apply Fr.next wrStCtl_fr | apply Fr.next wrSecCtl_fr | apply Fr.next wrSecReg_fr | apply Fr.next wrRstCtl_fr | apply Fr.next wrWdgSvc_fr | apply Fr.next wrEvtTail_fr
  all_goals rfl

theorem regAct_fr {a0 a1 a2 a3 a4 a5 s} : Fr 234880871 s (regAct a0 a1 a2 a3 a4 a5 s).2 := by
  unfold regAct
  split
  · split
    · exact Fr.mono wrWinData_fr rfl
    · exact Fr.mono wrWinAddr_fr rfl
  · split
    · exact Fr.mono wrHeader_fr rfl
    · split
      · exact (wrDataPages_fr.mono rfl) _ ‹_›
      · split
        · exact (wrPanelPages_fr.mono rfl) _ ‹_›
        · split
          · exact (wrLinkPages_fr.mono rfl) _ ‹_›
          · split
            · exact (wrServicePages_fr.mono rfl) _ ‹_›
            · exact okW_fr.next (Fr.mono State.plainWrite_fr rfl) rfl

theorem State.writeAccess_fr {s a1 a2 a3 a4 a5} : Fr 234880871 s (State.writeAccess s a1 a2 a3 a4 a5).2.2 := by
  unfold State.writeAccess
  with_reducible
    repeat' first | apply Fr.refl | assumption | ((try lift_lets -underBinder); intro x; clear_value x) | apply Fr.ite | apply Fr.ite2 | refine State.gate_fr (hk := fun s => ?_) ?_ ?_ | apply Fr.next regAct_fr | apply Fr.next State.valueAfter_fr | refine Fr.snd ‹_ = (_, _)› ?_ | refine Fr.fst ‹_ = (_, _)› ?_ | refine Fr.snd2 ‹_ = (_, _, _)› ?_ | refine Fr.via (by assumption) ?_ | split
  all_goals first | rfl | exact Fr.refl

end Sys2Proof.Machine
end

