-- ==== Sys2Proof/Laws/FrameRestart.lean ====
section
/-! SUPPORT. The frame of every operation of Machine/Restart.lean. -/

namespace Sys2Proof.Machine

set_option linter.unusedTactic false
set_option linter.unreachableTactic false

theorem State.applyConfig_fr {s a1} : Fr 234880871 s (State.applyConfig s a1) := by
  unfold State.applyConfig
  with_reducible
    repeat' first | apply Fr.refl | assumption | ((try lift_lets -underBinder); intro x; clear_value x) | apply Fr.ite | refine Fr.each ?_ (fun s _ => ?_) | apply Fr.next regAct_fr | refine Fr.snd ‹_ = (_, _)› ?_ | refine Fr.fst ‹_ = (_, _)› ?_ | refine Fr.snd2 ‹_ = (_, _, _)› ?_ | refine Fr.via (by assumption) ?_ | split
  all_goals first | rfl | exact Fr.refl

theorem State.readIdentity_fr {s} : Fr 1 s (State.readIdentity s) := by
  unfold State.readIdentity
  with_reducible
    repeat' first | apply Fr.refl | assumption | ((try lift_lets -underBinder); intro (x : State); refine (fun h => ?_ : Fr 1 s x → _) ?_; clear_value x; rotate_left; subst x) | ((try lift_lets -underBinder); intro x; clear_value x) | apply Fr.ite | apply Fr.next State.wr_fr | apply Fr.next State.wrB_fr | refine Fr.snd ‹_ = (_, _)› ?_ | refine Fr.fst ‹_ = (_, _)› ?_ | refine Fr.snd2 ‹_ = (_, _, _)› ?_ | refine Fr.via (by assumption) ?_ | split
  all_goals first | rfl | exact Fr.refl

theorem State.owe_fr {s a1} : Fr 136315201 s (State.owe s a1) := by
  unfold State.owe
  with_reducible
    repeat' first | apply Fr.refl | assumption | apply Fr.ite | apply Fr.next State.counterAdd_fr | apply Fr.next State.modBoot_fr | refine Fr.snd ‹_ = (_, _)› ?_ | refine Fr.fst ‹_ = (_, _)› ?_ | refine Fr.snd2 ‹_ = (_, _, _)› ?_ | refine Fr.via (by assumption) ?_ | split
  all_goals first | rfl | exact Fr.refl

theorem State.stageCalibration_fr {s} : Fr 150995201 s (State.stageCalibration s) := by
  unfold State.stageCalibration
  with_reducible
    repeat' first | apply Fr.refl | assumption | apply Fr.ite | apply Fr.next State.startFail_fr | apply Fr.next State.wrB_fr | apply Fr.next State.wrI_fr | apply Fr.next State.takeFree_fr | apply Fr.next State.wr_fr | refine Fr.snd ‹_ = (_, _)› ?_ | refine Fr.fst ‹_ = (_, _)› ?_ | refine Fr.snd2 ‹_ = (_, _, _)› ?_ | refine Fr.via (by assumption) ?_ | split
  all_goals first | rfl | exact Fr.refl

theorem State.stageConfig_fr {s} : Fr 234880871 s (State.stageConfig s) := by
  unfold State.stageConfig
  with_reducible
    repeat' first | apply Fr.refl | assumption | ((try lift_lets -underBinder); intro x; clear_value x) | apply Fr.ite | apply Fr.next State.startFail_fr | apply Fr.next State.modBoot_fr | apply Fr.next State.wrB_fr | apply Fr.next State.applyConfig_fr | refine Fr.snd ‹_ = (_, _)› ?_ | refine Fr.fst ‹_ = (_, _)› ?_ | refine Fr.snd2 ‹_ = (_, _, _)› ?_ | refine Fr.via (by assumption) ?_ | split
  all_goals first | rfl | exact Fr.refl

theorem State.stageMarker_fr {s} : Fr 136315233 s (State.stageMarker s) := by
  unfold State.stageMarker
  with_reducible
    repeat' first | apply Fr.refl | assumption | ((try lift_lets -underBinder); intro (x : State); refine (fun h => ?_ : Fr 136315233 s x → _) ?_; clear_value x; rotate_left; subst x) | apply Fr.ite | apply Fr.next State.modPanel_fr | apply Fr.next State.owe_fr | apply Fr.next State.wrB_fr | refine Fr.snd ‹_ = (_, _)› ?_ | refine Fr.fst ‹_ = (_, _)› ?_ | refine Fr.snd2 ‹_ = (_, _, _)› ?_ | refine Fr.via (by assumption) ?_ | split
  all_goals first | rfl | exact Fr.refl

theorem State.startLatch_fr {s} : Fr 2 s (State.startLatch s) := by
  unfold State.startLatch
  with_reducible
    repeat' first | apply Fr.refl | assumption | apply Fr.ite | apply Fr.next State.latchAll_fr | refine Fr.snd ‹_ = (_, _)› ?_ | refine Fr.fst ‹_ = (_, _)› ?_ | refine Fr.snd2 ‹_ = (_, _, _)› ?_ | refine Fr.via (by assumption) ?_ | split
  all_goals first | rfl | exact Fr.refl

theorem State.stageBms_fr {s} : Fr 134217985 s (State.stageBms s) := by
  unfold State.stageBms
  with_reducible
    repeat' first | apply Fr.refl | assumption | ((try lift_lets -underBinder); intro (x : State); refine (fun h => ?_ : Fr 134217985 s x → _) ?_; clear_value x; rotate_left; subst x) | apply Fr.ite | apply Fr.next State.bmsSts_fr | refine Fr.each ?_ (fun s _ => ?_) | apply Fr.next State.logc_fr | refine Fr.snd ‹_ = (_, _)› ?_ | refine Fr.fst ‹_ = (_, _)› ?_ | refine Fr.snd2 ‹_ = (_, _, _)› ?_ | refine Fr.via (by assumption) ?_ | split
  all_goals first | rfl | exact Fr.refl

theorem State.stagePanel_fr {s a1 a2} : Fr 134218033 s (State.stagePanel s a1 a2) := by
  unfold State.stagePanel
  with_reducible
    repeat' first | apply Fr.refl | assumption | ((try lift_lets -underBinder); intro (x : State); refine (fun h => ?_ : Fr 134218033 s x → _) ?_; clear_value x; rotate_left; subst x) | ((try lift_lets -underBinder); intro x; clear_value x) | apply Fr.ite | apply Fr.next State.modPanel_fr | apply Fr.next State.wrB_fr | apply Fr.next State.startFail_fr | apply Fr.next State.event_fr | apply Fr.next State.modPwr_fr | refine Fr.snd ‹_ = (_, _)› ?_ | refine Fr.fst ‹_ = (_, _)› ?_ | refine Fr.snd2 ‹_ = (_, _, _)› ?_ | refine Fr.via (by assumption) ?_ | split
  all_goals first | rfl | exact Fr.refl

theorem State.begin__fr {s a1 a2 a3} : Fr 234880887 s (State.begin_ s a1 a2 a3) := by
  unfold State.begin_
  with_reducible
    repeat' first | apply Fr.refl | assumption | ((try lift_lets -underBinder); intro (x : State); refine (fun h => ?_ : Fr 234880887 s x → _) ?_; clear_value x; rotate_left; subst x) | apply Fr.ite | apply Fr.next State.modBoot_fr | apply Fr.next State.modPwr_fr | refine Fr.each ?_ (fun s _ => ?_) | apply Fr.next State.powerLog_fr | apply Fr.next State.showStage_fr | apply Fr.next State.readIdentity_fr | apply Fr.next State.owe_fr | apply Fr.next State.readTrouble_fr | apply Fr.next State.stageCalibration_fr | apply Fr.next State.stageConfig_fr | apply Fr.next State.stageMarker_fr | apply Fr.next State.startLatch_fr | apply Fr.next State.wr_fr | apply Fr.next State.wrB_fr | apply Fr.next State.stageBms_fr | apply Fr.next State.fabricStart_fr | apply Fr.next State.initLanes_fr | apply Fr.next State.renewNonce_fr | apply Fr.next State.stagePanel_fr | refine Fr.snd ‹_ = (_, _)› ?_ | refine Fr.fst ‹_ = (_, _)› ?_ | refine Fr.snd2 ‹_ = (_, _, _)› ?_ | refine Fr.via (by assumption) ?_ | split
  all_goals first | rfl | exact Fr.refl

theorem State.moduleBase_fr {s} : Fr 218103807 s (State.moduleBase s) := by
  unfold State.moduleBase
  with_reducible
    repeat' first | apply Fr.refl | assumption | ((try lift_lets -underBinder); intro (x : State); refine (fun h => ?_ : Fr 218103807 s x → _) ?_; clear_value x; rotate_left; subst x) | apply Fr.ite | apply Fr.next State.modNvs_fr | apply Fr.next State.commitPage_fr | apply Fr.next State.count_fr | apply Fr.next State.modMode_fr | apply Fr.next State.unpower_fr | apply Fr.next State.modPwr_fr | apply Fr.next State.wr_fr | apply Fr.next State.wrB_fr | apply Fr.next State.modLog_fr | apply Fr.next State.modBus_fr | refine Fr.snd ‹_ = (_, _)› ?_ | refine Fr.fst ‹_ = (_, _)› ?_ | refine Fr.snd2 ‹_ = (_, _, _)› ?_ | refine Fr.via (by assumption) ?_ | split
  all_goals first | rfl | exact Fr.refl

theorem State.finishReset_fr {s} : Fr 234881023 s (State.finishReset s) := by
  unfold State.finishReset
  with_reducible
    repeat' first | apply Fr.refl | assumption | ((try lift_lets -underBinder); intro x; clear_value x) | apply Fr.ite | apply Fr.next State.begin__fr | apply Fr.next State.wr_fr | apply Fr.next State.moduleBase_fr | refine Fr.snd ‹_ = (_, _)› ?_ | refine Fr.fst ‹_ = (_, _)› ?_ | refine Fr.snd2 ‹_ = (_, _, _)› ?_ | refine Fr.via (by assumption) ?_ | split
  all_goals first | rfl | exact Fr.refl

theorem execDischargeDone_fr {a0 a1 s} : FrO 234881023 s (execDischargeDone a0 a1 s) := by
  unfold execDischargeDone
  with_reducible
    repeat' first | apply FrO.next | apply FrO.ite | apply Fr.refl | assumption | apply Fr.ite | apply Fr.next State.finishReset_fr | apply Fr.next State.dischargeDone_fr | refine Fr.snd ‹_ = (_, _)› ?_ | refine Fr.fst ‹_ = (_, _)› ?_ | refine Fr.snd2 ‹_ = (_, _, _)› ?_ | refine Fr.via (by assumption) ?_ | split
  all_goals first | rfl | exact Fr.refl

theorem execSensorRead_fr {a0 a1 a2 s} : FrO 234881023 s (execSensorRead a0 a1 a2 s) := by
  unfold execSensorRead
  with_reducible
    repeat' first | apply FrO.next | apply FrO.ite | apply Fr.refl | assumption | apply Fr.ite | apply Fr.next State.finishReset_fr | apply Fr.next State.sensorRead_fr | refine Fr.snd ‹_ = (_, _)› ?_ | refine Fr.fst ‹_ = (_, _)› ?_ | refine Fr.snd2 ‹_ = (_, _, _)› ?_ | refine Fr.via (by assumption) ?_ | split
  all_goals first | rfl | exact Fr.refl

theorem execV48Valid_fr {a0 a1 a2 s} : FrO 234881023 s (execV48Valid a0 a1 a2 s) := by
  unfold execV48Valid
  with_reducible
    repeat' first | apply FrO.next | apply FrO.ite | apply Fr.refl | assumption | apply Fr.ite | apply Fr.next State.begin__fr | apply Fr.next State.modMode_fr | apply Fr.next State.unpower_fr | refine Fr.snd ‹_ = (_, _)› ?_ | refine Fr.fst ‹_ = (_, _)› ?_ | refine Fr.snd2 ‹_ = (_, _, _)› ?_ | refine Fr.via (by assumption) ?_ | split
  all_goals first | rfl | exact Fr.refl

end Sys2Proof.Machine
end

