-- ==== Sys2Proof/Laws/Run.lean ====
section
/-! SUPPORT. What the clock running on can change: the registers that `runKeys` names, and in hub SRAM the event rings alone. -/

namespace Sys2Proof.Machine

variable {s : State}

/-- A repetition over a list keeps the registers that each of its items keeps. -/
theorem State.keepsRegs.eachMem {α : Type} {f : State → α → State} {xs : List α} {t : State} {ks : List Nat}
    (h : s.keepsRegs t ks) (hf : ∀ u x, x ∈ xs → s.keepsRegs u ks → s.keepsRegs (f u x) ks) : s.keepsRegs (t.each xs f) ks := by
  unfold State.each
  induction xs generalizing t with
  | nil => exact h
  | cons x xs ih => exact ih (hf t x (List.mem_cons_self ..) h) (fun u y hy => hf u y (List.mem_cons_of_mem _ hy))

/-- A repetition keeps hub SRAM outside the event rings where each of its items does. -/
theorem State.keepsHub.each {α : Type} {f : State → α → State} {xs : List α} {t : State} (h : s.keepsHub t)
    (hf : ∀ u x, s.keepsHub u → s.keepsHub (f u x)) : s.keepsHub (t.each xs f) := by
  unfold State.each
  induction xs generalizing t with
  | nil => exact h
  | cons x xs ih => exact ih (hf t x h)

theorem State.cycRecs_mem {cr : CycLog × LogRec} (h : cr ∈ s.cycRecs) : cr.1 ∈ s.log.cyc := by
  obtain ⟨a, ha, e⟩ := List.mem_filterMap.1 h
  obtain ⟨_, _, e⟩ := Option.map_eq_some_iff.1 e
  cases e
  exact ha

/-- PG_ERR_FIRST of the page of a record of the cycle is among the registers that the clock can change. -/
theorem State.mem_runKeys {cr : CycLog × LogRec} (h : cr ∈ s.cycRecs) : HDR.PG_ERR_FIRST.CODE.key cr.1.page 0 ∈ s.runKeys :=
  List.mem_cons_of_mem _ (List.mem_map_of_mem (State.cycRecs_mem h))

/-- Putting a cycle's log records in order writes PG_ERR_FIRST of their pages alone. -/
theorem State.orderLog_keepsRegs : s.keepsRegs s.orderLog s.runKeys := by
  unfold State.orderLog
  dsimp only
  apply State.keepsRegs.ite State.keepsRegs_refl
  apply State.keepsRegs.eachMem
  · refine State.keepsRegs.each (State.keepsRegs.each State.keepsRegs_refl ?_) ?_
    · exact fun u x h => h.logStore
    · exact fun u x h => State.keepsRegs.ite h.logStore h
  · intro u p hp h
    obtain ⟨cr, hc, rfl⟩ := List.mem_map.1 (List.mem_eraseDups.1 hp)
    have hk := State.mem_runKeys (List.mem_filter.1 hc).1
    split
    · exact (h.wr hk).wr (f := HDR.PG_ERR_FIRST.SEQ) hk
    · exact h

theorem State.orderRing_keepsRegs {t : State} {ks : List Nat} {r : Fin 2} (h : s.keepsRegs t ks) :
    s.keepsRegs (t.orderRing r) ks := by
  unfold State.orderRing
  dsimp only
  apply State.keepsRegs.ite h
  apply State.keepsRegs.each h
  intro u x hu
  split
  · exact hu.sramWr
  · exact hu

/-- The end of a weave cycle writes PG_ERR_FIRST of its records' pages alone. -/
theorem State.endCycle_keepsRegs : s.keepsRegs s.endCycle s.runKeys := by
  unfold State.endCycle
  apply State.keepsRegs.ite State.keepsRegs_refl
  exact (State.orderRing_keepsRegs (State.orderRing_keepsRegs State.orderLog_keepsRegs)).modLog

theorem State.keepsRegs.sweeps {t : State} {n : Nat} (h : s.keepsRegs t s.runKeys) : s.keepsRegs (t.sweeps n) s.runKeys := by
  have hw : FRS.STAT_WITHDRAW.key 0 0 ∈ s.runKeys := List.mem_cons_self ..
  have h1 : s.keepsRegs (t.epochVisit n) s.runKeys := by
    unfold State.epochVisit
    split
    · exact h
    · exact h.modScene
  have h2 : s.keepsRegs ((t.epochVisit n).stepVisit n) s.runKeys := by
    generalize t.epochVisit n = u at h1
    unfold State.stepVisit
    split
    · exact h1
    · exact (State.keepsRegs.each h1 (fun u x hu => hu.modScene.bump hw)).modFrs
  unfold State.sweeps
  generalize (t.epochVisit n).stepVisit n = u at h2 ⊢
  unfold State.verVisit
  split
  · exact h2
  · exact (State.keepsRegs.each h2 (fun u x hu => hu.modScene)).modFrs

/-- The registers that can change as the clock runs on. -/
theorem State.run_keepsRegs {n : Nat} : s.keepsRegs (s.run n) s.runKeys := by
  unfold State.run
  apply State.keepsRegs.ite State.keepsRegs_refl
  apply State.keepsRegs.sweeps
  unfold State.slewRun
  have h : s.keepsRegs (s.endCycle.advance n) s.runKeys := State.endCycle_keepsRegs.modClk
  exact State.keepsRegs.ite h h.modClk.modTim

/-! ### Hub SRAM -/

/-- The registers that the clock can change place no event ring. -/
theorem State.base_runKeys : EVT.BASE.OFS.key 0 0 ∉ s.runKeys ∧ EVT.BASE.OFS.key 1 0 ∉ s.runKeys := by
  have hw : EVT.BASE.OFS.key 0 0 ≠ FRS.STAT_WITHDRAW.key 0 0 ∧ EVT.BASE.OFS.key 1 0 ≠ FRS.STAT_WITHDRAW.key 0 0 := by decide
  have hp (p : Nat) : EVT.BASE.OFS.key 0 0 ≠ HDR.PG_ERR_FIRST.CODE.key p 0 ∧
      EVT.BASE.OFS.key 1 0 ≠ HDR.PG_ERR_FIRST.CODE.key p 0 := by
    simp [Fld.key, regKey, EVT.BASE.OFS, HDR.PG_ERR_FIRST.CODE]; omega
  unfold State.runKeys
  simp only [List.mem_cons, List.mem_map, not_or, not_exists, not_and]
  exact ⟨⟨hw.1, fun c _ h => (hp c.page).1 h.symm⟩, hw.2, fun c _ h => (hp c.page).2 h.symm⟩

theorem State.keepsHub_fr {t : State} {m : Nat} (h : Fr m s t) (hr : s.keepsRegs t s.runKeys)
    (hm : m.testBit Area.sram.ctorIdx = false) : s.keepsHub t :=
  State.keepsHub_of hr (h.1 .sram hm) State.base_runKeys

theorem State.keepsHub.orderRing {t : State} {r : Fin 2} (h : s.keepsHub t) : s.keepsHub (t.orderRing r) := by
  unfold State.orderRing
  dsimp only
  split
  · exact h
  apply State.keepsHub.each h
  intro u x hu
  split
  · rename_i k _
    refine hu.sramWr (fun a h1 h2 => ⟨r, by omega, ?_⟩)
    rw [List.length_append, leBytes_length] at h2
    have : (x.2.body.take 12).length ≤ 12 := List.length_take_le 12 _
    omega
  · exact hu

theorem State.modLog_keepsHub {f} : s.keepsHub (s.modLog f) := ⟨fun _ => rfl, fun _ _ => rfl⟩

theorem State.endCycle_keepsHub : s.keepsHub s.endCycle := by
  unfold State.endCycle
  split
  · exact State.keepsHub_refl
  · have h := (State.keepsHub_fr (s := s) State.orderLog_fr State.orderLog_keepsRegs (by decide)).orderRing (r := 0)
    exact (h.orderRing (r := 1)).trans State.modLog_keepsHub

/-- The clock running on writes hub SRAM in the event rings alone. -/
theorem State.run_keepsHub {n : Nat} : s.keepsHub (s.run n) := by
  unfold State.run
  split
  · exact State.keepsHub_refl
  · refine State.endCycle_keepsHub.trans ?_
    generalize s.endCycle = t
    have hr : ((t.advance n).slewRun).keepsRegs (((t.advance n).slewRun).sweeps n) ((t.advance n).slewRun).runKeys :=
      State.keepsRegs.sweeps State.keepsRegs_refl
    have h1 : t.keepsHub (t.advance n).slewRun := by
      unfold State.slewRun
      split <;> exact ⟨fun _ => rfl, fun _ _ => rfl⟩
    exact h1.trans (State.keepsHub_fr State.sweeps_fr hr (by decide))

/-- What the clock running on can change. -/
theorem State.run_within {n : Nat} : s.within (s.run n) [.regs, .clk, .log, .scene, .frs, .tim, .sram] s.runKeys :=
  ⟨State.run_fr.keeps (fun p hp => by cases p <;> first | rfl | exact absurd (by decide) hp), State.run_keepsRegs, State.run_keepsHub⟩

end Sys2Proof.Machine
end

