-- ==== Sys2Proof/Laws/Step.lean ====
section
/-! SUPPORT. What one command can do at all: it answers a next state, keeps the queue, the canonical
forms and the number of fuses, and unburns nothing. -/

namespace Sys2Proof.Machine

/-- Every command answers a next state and leaves the queue alone. -/
theorem exec_fr (c : Instr) (s : State) : FrO (2 ^ 28 - 1 - 2 ^ 25) s (exec c s) := by
  cases c with
  | feedOk _ => exact execFeedOk_fr.mono rfl
  | feedLost _ => exact execFeedLost_fr.mono rfl
  | feedOvervoltage _ => exact execFeedOvervoltage_fr.mono rfl
  | overvoltageCleared _ => exact execOvervoltageCleared_fr.mono rfl
  | alwaysOnRailUp => exact execAlwaysOnRailUp_fr.mono rfl
  | v48Valid _ _ _ => exact execV48Valid_fr.mono rfl
  | powerFailWarning => exact execPowerFailWarning_fr.mono rfl
  | holdRdy => exact execHoldRdy_fr.mono rfl
  | holdTimeout => exact execHoldTimeout_fr.mono rfl
  | holdupMeasureStart => exact execHoldupMeasureStart_fr.mono rfl
  | holdupMeasureDone _ => exact execHoldupMeasureDone_fr.mono rfl
  | railFault _ _ _ => exact execRailFault_fr.mono rfl
  | panelUnplugged _ => exact execPanelUnplugged_fr.mono rfl
  | panelLockTimeout _ => exact execPanelLockTimeout_fr.mono rfl
  | railsEnable _ _ => exact execRailsEnable_fr.mono rfl
  | sillPictureStart => exact execSillPictureStart_fr.mono rfl
  | sillFrameStart => exact execSillFrameStart_fr.mono rfl
  | balanceRestoreEnd => exact execBalanceRestoreEnd_fr.mono rfl
  | firmwareVerify => exact execFirmwareVerify_fr.mono rfl
  | hbmTraining _ _ => exact execHbmTraining_fr.mono rfl
  | mapLoad => exact execMapLoad_fr.mono rfl
  | laneStepUp => exact execLaneStepUp_fr.mono rfl
  | lintelLock => exact execLintelLock_fr.mono rfl
  | lintelLockTimeout => exact execLintelLockTimeout_fr.mono rfl
  | enterFull _ => exact execEnterFull_fr.mono rfl
  | fastPassDone => exact execFastPassDone_fr.mono rfl
  | warmReset _ => exact execWarmReset_fr.mono rfl
  | moduleReset _ => exact execModuleReset_fr.mono rfl
  | watchdogReset => exact execWatchdogReset_fr.mono rfl
  | watchdogService _ _ => exact execWatchdogService_fr.mono rfl
  | testReset => exact execTestReset_fr.mono rfl
  | softReset _ _ _ => exact execSoftReset_fr.mono rfl
  | pageLock _ _ _ => exact execPageLock_fr.mono rfl
  | pgEvtClear _ _ _ => exact execPgEvtClear_fr.mono rfl
  | pgEvtForce _ _ _ => exact execPgEvtForce_fr.mono rfl
  | eventRingTailWrite _ _ _ => exact execEventRingTailWrite_fr.mono rfl
  | rcRead _ _ _ => exact execRcRead_fr.mono rfl
  | registerWrite _ _ _ => exact execRegisterWrite_fr.mono rfl
  | packetLand _ _ => exact execPacketLand_fr.mono rfl
  | tstTile _ => exact execTstTile_fr.mono rfl
  | t5Tile _ => exact execT5Tile_fr.mono rfl
  | tstEdit _ => exact execTstEdit_fr.mono rfl
  | tstEditClose _ => exact execTstEditClose_fr.mono rfl
  | tstRestamp _ => exact execTstRestamp_fr.mono rfl
  | tstInvalidate _ => exact execTstInvalidate_fr.mono rfl
  | stageUpdate _ => exact execStageUpdate_fr.mono rfl
  | coilDecodeStart => exact execCoilDecodeStart_fr.mono rfl
  | coilDecodeDone _ => exact execCoilDecodeDone_fr.mono rfl
  | ingestWrite _ => exact execIngestWrite_fr.mono rfl
  | tileCommit => exact execTileCommit_fr.mono rfl
  | restampCommit => exact execRestampCommit_fr.mono rfl
  | invalidateCommit => exact execInvalidateCommit_fr.mono rfl
  | editSetCheck => exact execEditSetCheck_fr.mono rfl
  | editSetCheckDone => exact execEditSetCheckDone_fr.mono rfl
  | applyPoint => exact execApplyPoint_fr.mono rfl
  | epochSweepDone => exact execEpochSweepDone_fr.mono rfl
  | ringEnable _ _ => exact execRingEnable_fr.mono rfl
  | ringDisable _ _ => exact execRingDisable_fr.mono rfl
  | streamRingWrite _ _ => exact execStreamRingWrite_fr.mono rfl
  | streamClear _ => exact execStreamClear_fr.mono rfl
  | streamFlush _ => exact execStreamFlush_fr.mono rfl
  | ctxBaseWrite _ _ _ => exact execCtxBaseWrite_fr.mono rfl
  | encodeStart _ _ => exact execEncodeStart_fr.mono rfl
  | encodeDone _ => exact execEncodeDone_fr.mono rfl
  | mapSwap _ _ => exact execMapSwap_fr.mono rfl
  | mapCheckDone _ => simp only [exec]; exact execMapCheckDone_fr.mono rfl
  | lutDataWrite _ _ _ => exact execLutDataWrite_fr.mono rfl
  | lutDataRead _ _ => exact execLutDataRead_fr.mono rfl
  | lutSwap _ _ => exact execLutSwap_fr.mono rfl
  | outCtlWrite _ _ _ => exact execOutCtlWrite_fr.mono rfl
  | probeArm _ _ _ => exact execProbeArm_fr.mono rfl
  | lineStart _ => exact execLineStart_fr.mono rfl
  | frameStart _ _ => exact execFrameStart_fr.mono rfl
  | lineMatch => exact execLineMatch_fr.mono rfl
  | verdictSample _ => exact execVerdictSample_fr.mono rfl
  | bandRead _ _ _ => exact execBandRead_fr.mono rfl
  | prefillIssue _ => exact execPrefillIssue_fr.mono rfl
  | prefillCellArrive _ => exact execPrefillCellArrive_fr.mono rfl
  | residueWriteback _ _ => exact execResidueWriteback_fr.mono rfl
  | linePacketSend _ => exact execLinePacketSend_fr.mono rfl
  | loadMarker _ => exact execLoadMarker_fr.mono rfl
  | frameMarker _ => exact execFrameMarker_fr.mono rfl
  | railChangeWindow => exact execRailChangeWindow_fr.mono rfl
  | controlPacketSend _ => exact execControlPacketSend_fr.mono rfl
  | controlPacketResend _ => exact execControlPacketResend_fr.mono rfl
  | lineReportReceived _ _ => exact execLineReportReceived_fr.mono rfl
  | reportMissing _ _ => exact execReportMissing_fr.mono rfl
  | statusReportReceived _ _ => exact execStatusReportReceived_fr.mono rfl
  | laneReadmit _ _ _ => exact execLaneReadmit_fr.mono rfl
  | minLanesWrite _ _ _ => exact execMinLanesWrite_fr.mono rfl
  | rasterWrite _ _ _ => exact execRasterWrite_fr.mono rfl
  | rateStepTrain _ => exact execRateStepTrain_fr.mono rfl
  | rateStepDecide _ => exact execRateStepDecide_fr.mono rfl
  | shutterRequest _ _ => exact execShutterRequest_fr.mono rfl
  | shutterIn => exact execShutterIn_fr.mono rfl
  | shutterExitRequest _ _ => exact execShutterExitRequest_fr.mono rfl
  | shutterStatusTimeout _ => exact execShutterStatusTimeout_fr.mono rfl
  | waveformSwap _ _ => exact execWaveformSwap_fr.mono rfl
  | waveformCheckDone _ => simp only [exec]; exact execWaveformCheckDone_fr.mono rfl
  | gateCtlWrite _ _ _ => exact execGateCtlWrite_fr.mono rfl
  | resAddrWrite _ _ _ _ => exact execResAddrWrite_fr.mono rfl
  | resValRead _ _ => exact execResValRead_fr.mono rfl
  | dischargeStart _ => exact execDischargeStart_fr.mono rfl
  | dischargeSenseSample _ _ => exact execDischargeSenseSample_fr.mono rfl
  | dischargeDone _ _ => exact execDischargeDone_fr.mono rfl
  | sillHandover => exact execSillHandover_fr.mono rfl
  | weftSubmit _ _ => exact execWeftSubmit_fr.mono rfl
  | weftListStart => exact execWeftListStart_fr.mono rfl
  | weftNop => exact execWeftNop_fr.mono rfl
  | weftCopy => exact execWeftCopy_fr.mono rfl
  | weftFill => exact execWeftFill_fr.mono rfl
  | weftPfill => exact execWeftPfill_fr.mono rfl
  | weftLine => exact execWeftLine_fr.mono rfl
  | weftBlend => exact execWeftBlend_fr.mono rfl
  | weftScroll => exact execWeftScroll_fr.mono rfl
  | weftConvert => exact execWeftConvert_fr.mono rfl
  | weftWait => exact execWeftWait_fr.mono rfl
  | weftWaitEnd => exact execWeftWaitEnd_fr.mono rfl
  | weftWmark => exact execWeftWmark_fr.mono rfl
  | wmarkReached => exact execWmarkReached_fr.mono rfl
  | weftBurstComplete => exact execWeftBurstComplete_fr.mono rfl
  | weftAbort _ _ => exact execWeftAbort_fr.mono rfl
  | weftPause _ _ => exact execWeftPause_fr.mono rfl
  | weftQueueWrite _ _ _ => exact execWeftQueueWrite_fr.mono rfl
  | rimCalcStart _ => exact execRimCalcStart_fr.mono rfl
  | rimCalcDone => exact execRimCalcDone_fr.mono rfl
  | realtimeGrant _ => exact execRealtimeGrant_fr.mono rfl
  | roundBoundary => exact execRoundBoundary_fr.mono rfl
  | memoryRequest _ _ _ _ _ => exact execMemoryRequest_fr.mono rfl
  | memoryResponse _ _ _ _ => exact execMemoryResponse_fr.mono rfl
  | eccRetry _ _ => exact execEccRetry_fr.mono rfl
  | agePromotion _ => exact execAgePromotion_fr.mono rfl
  | bankRefresh _ => exact execBankRefresh_fr.mono rfl
  | refreshForced _ _ => exact execRefreshForced_fr.mono rfl
  | neighbourRefresh _ => exact execNeighbourRefresh_fr.mono rfl
  | rdTableClear => exact execRdTableClear_fr.mono rfl
  | rdCtlWrite _ _ => exact execRdCtlWrite_fr.mono rfl
  | scrubRead _ _ => exact execScrubRead_fr.mono rfl
  | corRateCheck _ => exact execCorRateCheck_fr.mono rfl
  | selfRefreshEntry _ => exact execSelfRefreshEntry_fr.mono rfl
  | selfRefreshSeal => exact execSelfRefreshSeal_fr.mono rfl
  | selfRefreshExit _ => exact execSelfRefreshExit_fr.mono rfl
  | xlateWrite _ _ _ => exact execXlateWrite_fr.mono rfl
  | losSet _ => exact execLosSet_fr.mono rfl
  | losClear _ => exact execLosClear_fr.mono rfl
  | blockLockGain _ => exact execBlockLockGain_fr.mono rfl
  | blockLockLoss _ => exact execBlockLockLoss_fr.mono rfl
  | degradedCheck _ _ _ => exact execDegradedCheck_fr.mono rfl
  | fillSend _ => exact execFillSend_fr.mono rfl
  | fillReceive _ _ _ => exact execFillReceive_fr.mono rfl
  | portEnable _ _ => exact execPortEnable_fr.mono rfl
  | portDisable _ _ => exact execPortDisable_fr.mono rfl
  | portCfgWrite _ _ => exact execPortCfgWrite_fr.mono rfl
  | laneCtlWrite _ _ => exact execLaneCtlWrite_fr.mono rfl
  | backoffElapsed _ => exact execBackoffElapsed_fr.mono rfl
  | capReceive _ _ _ _ _ _ => exact execCapReceive_fr.mono rfl
  | trainDone _ _ _ => exact execTrainDone_fr.mono rfl
  | checkDone _ _ _ _ => exact execCheckDone_fr.mono rfl
  | stepDone _ _ => exact execStepDone_fr.mono rfl
  | exchangeTimeout _ => exact execExchangeTimeout_fr.mono rfl
  | trainBlockTimeout _ => exact execTrainBlockTimeout_fr.mono rfl
  | trainTimeout _ => exact execTrainTimeout_fr.mono rfl
  | stepRelockTimeout _ => exact execStepRelockTimeout_fr.mono rfl
  | capRestore _ _ => exact execCapRestore_fr.mono rfl
  | ethPortBringup _ _ => exact execEthPortBringup_fr.mono rfl
  | flitReceive _ _ => exact execFlitReceive_fr.mono rfl
  | fecFrameReceive _ _ => exact execFecFrameReceive_fr.mono rfl
  | lctlReceive _ _ _ _ _ _ _ => exact execLctlReceive_fr.mono rfl
  | lctlAckSend _ => exact execLctlAckSend_fr.mono rfl
  | replayTimeout _ => exact execReplayTimeout_fr.mono rfl
  | widthReceive _ _ _ _ => exact execWidthReceive_fr.mono rfl
  | widthSwitch _ => exact execWidthSwitch_fr.mono rfl
  | widthTimeout _ => exact execWidthTimeout_fr.mono rfl
  | transomProbe _ _ _ => exact execTransomProbe_fr.mono rfl
  | probeAnnounce => exact execProbeAnnounce_fr.mono rfl
  | rootLost => exact execRootLost_fr.mono rfl
  | addressFix => exact execAddressFix_fr.mono rfl
  | neighSend _ => exact execNeighSend_fr.mono rfl
  | transomNeigh _ _ _ => exact execTransomNeigh_fr.mono rfl
  | transomStop _ _ _ => exact execTransomStop_fr.mono rfl
  | transomRelease _ _ _ => exact execTransomRelease_fr.mono rfl
  | transomEcho _ _ _ => exact execTransomEcho_fr.mono rfl
  | transomEchoRsp _ _ _ => exact execTransomEchoRsp_fr.mono rfl
  | transomNak _ _ _ => exact execTransomNak_fr.mono rfl
  | transomRegReq _ _ _ => exact execTransomRegReq_fr.mono rfl
  | transomRegRsp _ _ _ => exact execTransomRegRsp_fr.mono rfl
  | transomIllegalType _ _ _ => exact execTransomIllegalType_fr.mono rfl
  | violationQuarantine _ => exact execViolationQuarantine_fr.mono rfl
  | quarantineExpire _ => exact execQuarantineExpire_fr.mono rfl
  | routeTableWrite _ _ => exact execRouteTableWrite_fr.mono rfl
  | portRelease _ => exact execPortRelease_fr.mono rfl
  | portQuarantine _ => exact execPortQuarantine_fr.mono rfl
  | portRewiden _ => exact execPortRewiden_fr.mono rfl
  | registerFrame _ _ _ => exact execRegisterFrame_fr.mono rfl
  | bulkCopyMessage => exact execBulkCopyMessage_fr.mono rfl
  | ptpMessage _ _ _ _ _ _ _ => exact execPtpMessage_fr.mono rfl
  | ptpSample _ => exact execPtpSample_fr.mono rfl
  | timeAcquire _ _ => exact execTimeAcquire_fr.mono rfl
  | announceTimeout => exact execAnnounceTimeout_fr.mono rfl
  | holdoverTick => exact execHoldoverTick_fr.mono rfl
  | ppsEdge _ => exact execPpsEdge_fr.mono rfl
  | ppsTimeout => exact execPpsTimeout_fr.mono rfl
  | clk10Check _ => exact execClk10Check_fr.mono rfl
  | jumpAccept _ => exact execJumpAccept_fr.mono rfl
  | stepSweepDone => exact execStepSweepDone_fr.mono rfl
  | wrapSweepVisit => exact execWrapSweepVisit_fr.mono rfl
  | verificationSweep => exact execVerificationSweep_fr.mono rfl
  | verificationSweepDone => exact execVerificationSweepDone_fr.mono rfl
  | lintelSlotWrite _ _ _ => exact execLintelSlotWrite_fr.mono rfl
  | lintelSlotFire _ => exact execLintelSlotFire_fr.mono rfl
  | firedClear _ _ _ => exact execFiredClear_fr.mono rfl
  | compareArm _ _ => exact execCompareArm_fr.mono rfl
  | compareFire _ => exact execCompareFire_fr.mono rfl
  | leafHelloSend => exact execLeafHelloSend_fr.mono rfl
  | hingePartnerTimeout => exact execHingePartnerTimeout_fr.mono rfl
  | leafHello _ => exact execLeafHello_fr.mono rfl
  | demoteSend => exact execDemoteSend_fr.mono rfl
  | leafDemote _ => exact execLeafDemote_fr.mono rfl
  | leafTake _ => exact execLeafTake_fr.mono rfl
  | takeover => exact execTakeover_fr.mono rfl
  | activeSilent => exact execActiveSilent_fr.mono rfl
  | partnerLostTimeout => exact execPartnerLostTimeout_fr.mono rfl
  | mirrorCommit _ => exact execMirrorCommit_fr.mono rfl
  | mirrorCommitApply => exact execMirrorCommitApply_fr.mono rfl
  | mirrorUpdateExpire _ => exact execMirrorUpdateExpire_fr.mono rfl
  | mirrorFetchReq _ => exact execMirrorFetchReq_fr.mono rfl
  | mirrorFetchData _ => exact execMirrorFetchData_fr.mono rfl
  | mirrorLine _ => exact execMirrorLine_fr.mono rfl
  | mirrorWeftStart _ => exact execMirrorWeftStart_fr.mono rfl
  | mirrorEditApply _ => exact execMirrorEditApply_fr.mono rfl
  | mirrorRepair _ => exact execMirrorRepair_fr.mono rfl
  | mirrorSync _ => exact execMirrorSync_fr.mono rfl
  | syncComplete => exact execSyncComplete_fr.mono rfl
  | plannedSwap => exact execPlannedSwap_fr.mono rfl
  | revert => exact execRevert_fr.mono rfl
  | leafSwap _ => exact execLeafSwap_fr.mono rfl
  | leafResync _ => exact execLeafResync_fr.mono rfl
  | leafRearm _ => exact execLeafRearm_fr.mono rfl
  | nvsRead _ _ => exact execNvsRead_fr.mono rfl
  | nvsWrite _ _ => exact execNvsWrite_fr.mono rfl
  | nvsSetPassword _ _ => exact execNvsSetPassword_fr.mono rfl
  | nvsPageWrite => exact execNvsPageWrite_fr.mono rfl
  | nvsWriteDone => exact execNvsWriteDone_fr.mono rfl
  | lifeSTick => exact execLifeSTick_fr.mono rfl
  | passwordLockoutEnd => exact execPasswordLockoutEnd_fr.mono rfl
  | logPageWrite _ => exact execLogPageWrite_fr.mono rfl
  | firstFaultClear _ => exact execFirstFaultClear_fr.mono rfl
  | nvsScrubStart => exact execNvsScrubStart_fr.mono rfl
  | nvsScrubPage _ => exact execNvsScrubPage_fr.mono rfl
  | bmsErase _ => exact execBmsErase_fr.mono rfl
  | bmsWrite _ => exact execBmsWrite_fr.mono rfl
  | bmsRead _ => exact execBmsRead_fr.mono rfl
  | bmsDone _ => exact execBmsDone_fr.mono rfl
  | bmsPatrol _ => exact execBmsPatrol_fr.mono rfl
  | sensorRead _ _ _ => exact execSensorRead_fr.mono rfl
  | thermalRestart => exact execThermalRestart_fr.mono rfl
  | calibrationRun _ => exact execCalibrationRun_fr.mono rfl
  | calibrationCommand _ _ => exact execCalibrationCommand_fr.mono rfl
  | calibrationDone _ => exact execCalibrationDone_fr.mono rfl
  | vrefCalibration _ _ => exact execVrefCalibration_fr.mono rfl
  | freqMeasure _ => exact execFreqMeasure_fr.mono rfl
  | selfTestStart _ _ => exact execSelfTestStart_fr.mono rfl
  | selfTestDone _ => exact execSelfTestDone_fr.mono rfl
  | sealOp _ => exact execSeal_fr.mono rfl
  | unsealOp _ => exact execUnseal_fr.mono rfl
  | recover _ => exact execRecover_fr.mono rfl
  | owner _ => exact execOwner_fr.mono rfl
  | keyLoad _ _ => exact execKeyLoad_fr.mono rfl
  | keyClear _ => exact execKeyClear_fr.mono rfl
  | svnCommit _ => exact execSvnCommit_fr.mono rfl
  | signatureLockoutEnd => exact execSignatureLockoutEnd_fr.mono rfl
  | debugAttach => exact execDebugAttach_fr.mono rfl
  | debugDetach => exact execDebugDetach_fr.mono rfl
  | idcode => exact execIdcode_fr.mono rfl
  | samplePreload _ => exact execSamplePreload_fr.mono rfl
  | extest => exact execExtest_fr.mono rfl
  | clamp => exact execClamp_fr.mono rfl
  | highz => exact execHighz_fr.mono rfl
  | extestPulse => exact execExtestPulse_fr.mono rfl
  | extestTrain => exact execExtestTrain_fr.mono rfl
  | dbgReq _ => exact execDbgReq_fr.mono rfl
  | intrusiveGrant => exact execIntrusiveGrant_fr.mono rfl
  | dbgSts => exact execDbgSts_fr.mono rfl
  | jtagRegRd _ => exact execJtagRegRd_fr.mono rfl
  | jtagRegWr _ _ => exact execJtagRegWr_fr.mono rfl
  | memRd _ => exact execMemRd_fr.mono rfl
  | memWr _ _ => exact execMemWr_fr.mono rfl
  | halt => exact execHalt_fr.mono rfl
  | resume => exact execResume_fr.mono rfl
  | bypass => exact execBypass_fr.mono rfl
  | windowRead _ _ _ => exact execWindowRead_fr.mono rfl
  | windowWrite _ _ _ _ => exact execWindowWrite_fr.mono rfl
  | moduleUnpowered => exact execModuleUnpowered_fr.mono rfl
  | houseSyncEdge => exact execHouseSyncEdge_fr.mono rfl
  | cdrLockGain _ => exact execCdrLockGain_fr.mono rfl
  | cdrLockLoss _ => exact execCdrLockLoss_fr.mono rfl
  | managementLinkChange _ _ => exact execManagementLinkChange_fr.mono rfl

/-- The queue takes no part in what a command keeps. -/
theorem State.follows_pending {s : State} {q : List Instr} : ({ s with pending := q } : State).Follows s ∧
    s.Follows { s with pending := q } :=
  ⟨⟨id, id, s.secu.burnedIn_refl⟩, ⟨id, id, s.secu.burnedIn_refl⟩⟩

end Sys2Proof.Machine
end

