-- ==== Sys2Proof/WellFormed.lean ====
section
/-! DEFINITION. What makes a command well-formed: list operands have the length of the structure they stand for, and a command
that carries a typed message carries its type. A command outside these bounds names nothing the hardware can see; exec still
answers it. -/

namespace Sys2Proof

/-- An ECC error pattern names each symbol of a burst at most once, with a change in it (R280). -/
def errsOk (errs : List (Fin 36 × BitVec 8)) : Bool := decide (errs.map (·.1)).Nodup && errs.all (fun e => e.2 != 0)

/-- A message whose first byte is its kind, of at least `n` bytes (R372, R377). -/
def messageOk (bs : List Byte) (kind n : Nat) : Bool := decide ((bs.getD 0 0).toNat = kind) && decide (n ≤ bs.length)

/-- A Transom message of a type: 24 bytes with TYPE in byte 4 (R329). -/
def transomOk (msg : List Byte) (type : Nat) : Bool := decide (msg.length = 24) && decide ((msg.getD 4 0).toNat = type)

/-- A window page (R460, R473). -/
def windowPage (page : BitVec 12) : Bool :=
  (decide (0x100 ≤ page.toNat) && decide (page.toNat < 0x180)) || (decide (0x200 ≤ page.toNat) && decide (page.toNat < 0x238))

/-- A well-formed command. -/
def Instr.wellFormed : Instr → Bool
  | .hbmTraining first again => decide (first.length = 4) && decide (again.length = 4)
  | .packetLand _ bytes => decide (bytes.length < 65536)
  | .lineReportReceived _ bs => decide (bs.length = 16)
  | .statusReportReceived _ bs => decide (bs.length = 16)
  | .memoryRequest _ _ len write data => decide (data.length = if write then len.toNat else 0)
  | .memoryResponse _ _ _ errs => errsOk errs
  | .eccRetry _ errs => errsOk errs
  | .scrubRead _ errs => errsOk errs
  | .trainDone _ reqs rx => decide (reqs.length ≤ 8) && decide (rx.length ≤ 8)
  | .checkDone _ counts _ _ => decide (counts.length ≤ 8)
  | .flitReceive _ flit => decide (flit.length = 64)
  | .transomProbe _ msg _ => transomOk msg 1
  | .transomNeigh _ msg _ => transomOk msg 2
  | .transomStop _ msg _ => transomOk msg 5
  | .transomRelease _ msg _ => transomOk msg 6
  | .transomEcho _ msg _ => transomOk msg 7
  | .transomEchoRsp _ msg _ => transomOk msg 8
  | .transomNak _ msg _ => transomOk msg 9
  | .transomRegReq _ msg _ => transomOk msg 10
  | .transomRegRsp _ msg _ => transomOk msg 11
  | .transomIllegalType _ msg _ => decide (msg.length = 24) && !([1, 2, 5, 6, 7, 8, 9, 10, 11].contains ((msg.getD 4 0).toNat))
  | .registerFrame _ _ frame => decide (frame.length < 65536)
  | .timeAcquire _ ns => decide (ns.toNat < 1000000000)
  | .leafHello arg => messageOk arg 1 15
  | .leafDemote arg => messageOk arg 2 15
  | .leafTake arg => messageOk arg 3 15
  | .mirrorCommit bs => messageOk bs 1 36
  | .mirrorFetchReq bs => messageOk bs 6 20
  | .mirrorFetchData bs => messageOk bs 7 24
  | .mirrorLine bs => messageOk bs 2 24
  | .mirrorWeftStart bs => messageOk bs 3 20
  | .mirrorEditApply bs => messageOk bs 4 12
  | .mirrorRepair bs => messageOk bs 5 8
  | .mirrorSync bs => messageOk bs 8 12
  | .logPageWrite page => decide (546 ≤ page.toNat) && decide (page.toNat ≤ 1656)
  | .windowRead _ page _ => windowPage page
  | .windowWrite _ page _ _ => windowPage page
  | .feedOk .. | .feedLost .. | .feedOvervoltage .. | .overvoltageCleared .. | .alwaysOnRailUp | .v48Valid .. |
    .powerFailWarning | .holdRdy | .holdTimeout | .holdupMeasureStart | .holdupMeasureDone .. | .railFault .. |
    .panelUnplugged .. | .panelLockTimeout .. | .railsEnable .. | .sillPictureStart | .sillFrameStart |
    .balanceRestoreEnd | .firmwareVerify | .mapLoad | .laneStepUp | .lintelLock | .lintelLockTimeout | .enterFull ..
    | .fastPassDone | .warmReset .. | .moduleReset .. | .watchdogReset | .watchdogService .. | .testReset |
    .softReset .. | .pageLock .. | .pgEvtClear .. | .pgEvtForce .. | .eventRingTailWrite .. | .rcRead .. |
    .registerWrite .. | .tstTile .. | .t5Tile .. | .tstEdit .. | .tstEditClose .. | .tstRestamp .. | .tstInvalidate
    .. | .stageUpdate .. | .coilDecodeStart | .coilDecodeDone .. | .ingestWrite .. | .tileCommit | .restampCommit |
    .invalidateCommit | .editSetCheck | .editSetCheckDone | .applyPoint | .epochSweepDone | .ringEnable .. |
    .ringDisable .. | .streamRingWrite .. | .streamClear .. | .streamFlush .. | .ctxBaseWrite .. | .encodeStart .. |
    .encodeDone .. | .mapSwap .. | .mapCheckDone .. | .lutDataWrite .. | .lutDataRead .. | .lutSwap .. |
    .outCtlWrite .. | .probeArm .. | .lineStart .. | .frameStart .. | .lineMatch | .verdictSample .. | .bandRead ..
    | .prefillIssue .. | .prefillCellArrive .. | .residueWriteback .. | .linePacketSend .. | .loadMarker .. |
    .frameMarker .. | .railChangeWindow | .controlPacketSend .. | .controlPacketResend .. | .reportMissing .. |
    .laneReadmit .. | .minLanesWrite .. | .rasterWrite .. | .rateStepTrain .. | .rateStepDecide .. | .shutterRequest
    .. | .shutterIn | .shutterExitRequest .. | .shutterStatusTimeout .. | .waveformSwap .. | .waveformCheckDone .. |
    .gateCtlWrite .. | .resAddrWrite .. | .resValRead .. | .dischargeStart .. | .dischargeSenseSample .. |
    .dischargeDone .. | .sillHandover | .weftSubmit .. | .weftListStart | .weftNop | .weftCopy | .weftFill |
    .weftPfill | .weftLine | .weftBlend | .weftScroll | .weftConvert | .weftWait | .weftWaitEnd | .weftWmark |
    .wmarkReached | .weftBurstComplete | .weftAbort .. | .weftPause .. | .weftQueueWrite .. | .rimCalcStart .. |
    .rimCalcDone | .realtimeGrant .. | .roundBoundary | .agePromotion .. | .bankRefresh .. | .refreshForced .. |
    .neighbourRefresh .. | .rdTableClear | .rdCtlWrite .. | .corRateCheck .. | .selfRefreshEntry .. |
    .selfRefreshSeal | .selfRefreshExit .. | .xlateWrite .. | .losSet .. | .losClear .. | .blockLockGain .. |
    .blockLockLoss .. | .degradedCheck .. | .fillSend .. | .fillReceive .. | .portEnable .. | .portDisable .. |
    .portCfgWrite .. | .laneCtlWrite .. | .backoffElapsed .. | .capReceive .. | .stepDone .. | .exchangeTimeout .. |
    .trainBlockTimeout .. | .trainTimeout .. | .stepRelockTimeout .. | .capRestore .. | .ethPortBringup .. |
    .fecFrameReceive .. | .lctlReceive .. | .lctlAckSend .. | .replayTimeout .. | .widthReceive .. | .widthSwitch ..
    | .widthTimeout .. | .probeAnnounce | .rootLost | .addressFix | .neighSend .. | .violationQuarantine .. |
    .quarantineExpire .. | .routeTableWrite .. | .portRelease .. | .portQuarantine .. | .portRewiden .. |
    .bulkCopyMessage | .ptpMessage .. | .ptpSample .. | .announceTimeout | .holdoverTick | .ppsEdge .. | .ppsTimeout
    | .clk10Check .. | .jumpAccept .. | .stepSweepDone | .wrapSweepVisit | .verificationSweep |
    .verificationSweepDone | .lintelSlotWrite .. | .lintelSlotFire .. | .firedClear .. | .compareArm .. |
    .compareFire .. | .leafHelloSend | .hingePartnerTimeout | .demoteSend | .takeover | .activeSilent |
    .partnerLostTimeout | .mirrorCommitApply | .mirrorUpdateExpire .. | .syncComplete | .plannedSwap | .revert |
    .leafSwap .. | .leafResync .. | .leafRearm .. | .nvsRead .. | .nvsWrite .. | .nvsSetPassword .. | .nvsPageWrite
    | .nvsWriteDone | .lifeSTick | .passwordLockoutEnd | .firstFaultClear .. | .nvsScrubStart | .nvsScrubPage .. |
    .bmsErase .. | .bmsWrite .. | .bmsRead .. | .bmsDone .. | .bmsPatrol .. | .sensorRead .. | .thermalRestart |
    .calibrationRun .. | .calibrationCommand .. | .calibrationDone .. | .vrefCalibration .. | .freqMeasure .. |
    .selfTestStart .. | .selfTestDone .. | .sealOp .. | .unsealOp .. | .recover .. | .owner .. | .keyLoad .. |
    .keyClear .. | .svnCommit .. | .signatureLockoutEnd | .debugAttach | .debugDetach | .idcode | .samplePreload ..
    | .extest | .clamp | .highz | .extestPulse | .extestTrain | .dbgReq .. | .intrusiveGrant | .dbgSts | .jtagRegRd
    .. | .jtagRegWr .. | .memRd .. | .memWr .. | .halt | .resume | .bypass | .moduleUnpowered | .houseSyncEdge |
    .cdrLockGain .. | .cdrLockLoss .. | .managementLinkChange .. => true

end Sys2Proof
end

