-- ==== Sys2Proof/Tests/Slice0.lean ====
section
/-! SUPPORT. Tests: ill-formed commands that the checks refuse, the values of the spec's worked examples, and for every statement
with hypotheses a state and operands that meet them, clause by clause. -/

set_option maxRecDepth 10000
set_option linter.unusedVariables false
set_option Elab.async false

namespace Sys2Proof.Tests

open Sys2Proof.Machine

/-! ### Small states -/

/-- A state after reset with 48 V valid. -/
def on : State := State.reset.modMode (fun m => { m with supply := .on })
|>.modPwr (fun p => { p with charger := true })
|>.wr SYS.PWR_STS 3
/-- Both feeds good, the bank charged. -/
def charged : State := on.wr SYS.PWR_STS 0x13
/-- Feed B lost before any start. -/
def lost : State := State.reset.modPwr (fun p => { p with pfFeed := p.pfFeed.set 1 true })
/-- The always-on rail is up. -/
def aon : State := State.reset.modMode (fun m => { m with supply := .aon })
/-- Full, with the Weaver's raster. -/
def full : State := (((charged.modMode (fun m => { m with power := .full, raster := .weaver })).wr SYS.START_STS.STAGE 12).wr LEF.STS.ROLE 1).wrB PDV.RAIL_STS.UP true 1
/-- An active leaf whose partner is Ready. -/
def activeLeaf : State := (((full.wr LEF.STS.ROLE 2).wr LEF.STS.PARTNER_ROLE 4).wrEff LEF.CFG.PAIRED 1).wrB LEF.STS.HINGE_UP true
/-- A panel in place, and none. -/
def panel0 : PanelId := ⟨true, 5, 77⟩
def noPanel : PanelId := ⟨false, 0, 0⟩
/-- The conditions of R58 hold for both halves. -/
def railsOk : State :=
  (((charged.modBoot (fun b => { b with cfg := { b.cfg with sill := some Rails.down } })).modPanel (fun p => { p with
    presN := Vector.replicate 2 false, eepromOk := Vector.replicate 2 true, driverLock := Vector.replicate 2 0xFF })))
/-- The last line of a Sill frame. -/
def sillEnd : State := (charged.modMode (fun m => { m with raster := .sill })).modClk (fun c => { c with line := 8699, sillFrame := 4 })
/-- The end of frame 299 of balance-restore. -/
def balanced : State := (sillEnd.modBoot (fun b => { b with balFrames := 299 })).wrB SYS.START_STS.BAL_RST true
/-- A start with stages done. -/
def stage (done : BitVec 16) : State := on.modBoot (fun b => { b with done := done, starting := true })
/-- The same behind the Sill picture. -/
def sillRuns (done : BitVec 16) : State := (stage done).modMode (fun m => { m with raster := .sill })
/-- Stages 5 to 8 done and time valid. -/
def timed : State := (((sillRuns 0x1E0).wrB TIM.STS.TVAL true).wrEff TIM.VALID_LIM.US 100).wr TIM.BOUND.US 100
/-- Everything is ready for the first Weaver frame. -/
def ready : State := ((sillRuns 0x3E0).modBoot (fun b => { b with lockDone := true })).modClk (fun c => { c with sillFrame := 5, line := 8699 })
/-- Sealed, in the Sill power state. -/
def sealedS : State := on.modMode (fun m => { m with sec := .sealed })
/-- A request that writes 0x12345678 to SYS.SCRATCH with SEQ 0x2A. -/
def frame1 : List Byte :=
  let b := frameHead 0 1 0x2A ++ [0x02, 0x00, 0x01, 0x2C, 0x12, 0x34, 0x56, 0x78]
  b ++ beBytes 4 (rim b 0x2A)
/-- The plane of the worked example, at index 17 (chapter 4). -/
def tile17 : Plane := ⟨4, 0, true, 3072, 256, 60, 4, 16384, 0, 0x100000, 15360, 3932160⟩
/-- The scene with that plane and the entry of its tile 30, ring 5 enabled in the ring pool. -/
def scene17 : State :=
  (((on.modScene (fun c => { c with planes := [(17, some tile17)], epoch := [(17, 2)], fresh := [(16414, ⟨1, 0x1A2A, 100, .content, true, true, false, false, 49, 17, 2⟩)] })).setReg (ING.RING_CFG.key 0 5) 0x405).setRingQ 5
    ⟨false, 0x03000000, 16, 0, []⟩).wr FAB.ADDR_STS.ADDR 0
/-- A packet with its Rim check-value: VER and TYPE, FLAGS, TILE, SEQ, STAMP, MAX_AGE, FRAG_LAST, TOTAL_LEN and payload. -/
def tst (vt fl tile seq stamp age last total : Nat) (pl : List Byte) : List Byte :=
  let b := [0x54, 0x53] ++ beBytes 1 vt ++ beBytes 1 fl ++ beBytes 2 5 ++ beBytes 2 pl.length ++ beBytes 4 tile ++ beBytes 4 seq ++
    beBytes 4 stamp ++ beBytes 4 age ++ beBytes 2 49 ++ zeros 3 ++ beBytes 1 last ++ zeros 2 ++ beBytes 4 total ++ zeros 12 ++ pl
  b ++ beBytes 4 (rim b 0)
/-- A TL-5100 packet for TILE16 16,414. -/
def t5Pkt : List Byte :=
  let b := [0x54, 0x53, 0x10, 0] ++ beBytes 2 5 ++ beBytes 2 4 ++ beBytes 2 16414 ++ zeros 2 ++ beBytes 4 0x1A2B ++ beBytes 4 0 ++
    beBytes 4 183 ++ beBytes 2 49 ++ zeros 6 ++ [1, 2, 3, 4]
  b ++ beBytes 4 (rim b 0)
/-- A fill of the tile, a first fragment, a restamp, an invalidation, an edit record and an edit close. -/
def fillPkt : List Byte := tst 0x20 0x10 16414 0x1A2B 0 183 0 4 [1, 2, 3, 4]
def fragPkt : List Byte := tst 0x20 0x08 16414 0x1A2B 0 183 2 16384 (zeros 64)
def restampPkt : List Byte := tst 0x23 0 16414 0x1A2B 5 183 0 0 []
def invalPkt : List Byte := tst 0x24 0 16414 0x1A2B 0 0 0 0 []
def editPkt : List Byte := tst 0x21 0 7 3 0 0 0 0 (zeros 64)
def closePkt : List Byte := tst 0x22 0 7 4 100 0 0 0 []
/-- A packet landed on ring 5. -/
def landed (b : List Byte) : State := scene17.landIn scene17.stamp 64 b
/-- An edit set 7 being assembled; closed; in its check. -/
def clear17 : EditSet := ⟨7, [(0, [2, 0, 0, 17] ++ zeros 60)], 1, 100, false, false, 5, false, false, false⟩
def assembling : State := (landed closePkt).modScene (fun c => { c with edit := some { clear17 with count := 0, frame := 0 } })
def closed7 : State := scene17.modScene (fun c => { c with closed := [clear17] })
def checked7 (e : EditSet) : State := scene17.modScene (fun c => { c with closed := [{ e with checking := true }] })
/-- The raw update of tile 30 in a phase, and a state that holds it. -/
def upd17 (k : UpdKind) (ph : UpdPhase) (enc : Nat) (pl ex : List Byte) : Update :=
  ⟨k, ph, 1, 1, 0, 16414, 0x1A2B, 7, 183, 49, 0, enc, pl.length, true, true, false, 17, 2, 4, pl, ex, 0⟩
def holding (u : Update) : State :=
  scene17.modScene (fun c => { c with upd := [(5, some u)] })
/-- The second fragment of three, and the update it continues. -/
def frag2Pkt : List Byte :=
  let b := (fragPkt.take 112).set 28 1
  b ++ beBytes 4 (rim b 0)
def fragUpd : Update := { upd17 .tile .gathering 1 (zeros 64) [] with stamp := 0, lastFrag := 2, total := 16384 }
/-- The apply point of a set due for the frame after. -/
def applying : State :=
  ((full.modClk (fun c => { c with line := 8640, frame := 99 })).modScene (fun c => { c with planes := scene17.scene.planes, epoch := scene17.scene.epoch, closed := [{ clear17 with passed := true }] }))
/-- The plane with RGB565 tiles and a raw update of its tile 30. -/
def rgbPlane : Plane := ⟨1, 0, true, 3072, 256, 60, 4, 16384, 0, 0x100000, 15360, 3932160⟩
def rgb : State := scene17.modScene (fun c => { c with planes := [(17, some rgbPlane)] })
def rgbUpd : Update := { upd17 .tile .staged 1 (zeros 8192) [] with fmt := 1 }
/-- A staged Coil update of the tile on ring 5; a lane that decodes one; a raw Coil stream too short for the tile. -/
def queued (st : Nat) : State :=
  (holding { upd17 .tile .staged 0 [1, 2] [] with stream := st }).modScene (fun c => { c with readyOrder := [5] })
def rawBody : List Byte := coilRaw 16 (zeros 64)
def decoding (pl : List Byte) : State :=
  (holding (upd17 .tile .decoding 0 pl [])).setLane 31 { DecLane.free with ring := some 5 }
/-- A stream-3 context resident in lane 2. -/
def resident3 : State := (on.setLane 2 { DecLane.free with ctx := some (3, ⟨[7, 8], 10, none⟩) }).wr COL.STRM_SEL.STREAM 3 0 1
/-- An encode job on lane 1. -/
def encJob1 (len cap : Nat) : State := (on.wr COL.ENC_STS 1 0 1).modCoil (fun c => { c with enc := [(1, some ⟨64, len, 4096, cap, 0, 10⟩)] })
/-- An RGB565 update decoded from a raw stream, and the context it leaves. -/
def upd64 : Update := { upd17 .tile .decoding 0 (coilRaw 16 (zeros 8192)) [] with fmt := 1 }
def upd64ctx : CoilCtx := ⟨zeros 8192, 8192, none⟩
def decoded64 : State := (holding upd64).setLane 31 { DecLane.free with ring := some 5 }
/-- A weave map image with 128 stakes; a die that checks an image at 64, where that one is stored, or elsewhere. -/
def mapHead : List Byte := leBytes 4 0x50414D57 ++ leBytes 2 1 ++ leBytes 2 128 ++ leBytes 4 5 ++ leBytes 4 6 ++ leBytes 4 7 ++ leBytes 2 121 ++ leBytes 2 35 ++ zeros 8
def mapImg : List Byte := mapHead ++ zeros 8470 ++ leBytes 4 3736748880
def cellsAt (a : Nat) : List Byte → Table Byte
  | [] => []
  | b :: bs => if b = 0 then cellsAt (a + 1) bs else (a, b) :: cellsAt (a + 1) bs
def checkingMap (a : Nat) : State :=
  ((on.modWv (fun w => { w with mapBusy := w.mapBusy.set 1 true, mapAddr := w.mapAddr.set 1 a })).wrB WV.MAP_CTL.SWAP true 1).modRam
    (fun r => { r with hbm := cellsAt 64 mapImg })
/-- Line 300 is read next, with its verdict sample taken. -/
def reading : State :=
  (full.modClk (fun c => { c with line := 299, frame := 41 })).modFrs (fun r => { r with sample := r.sample.set 1 { r.sample[1] with line := 300, frame := 41, at_ := 0 } })
/-- A scene whose plane 17 has slots in the first bands of half A; cell 0 of its column 48 is wanted. -/
def prefilling : State :=
  (full.modScene (fun c => { c with planes := scene17.scene.planes, epoch := scene17.scene.epoch })).modWv (fun w => { w with
    plan := w.plan.set 0 (List.replicate 540 [⟨17, 0, 2⟩]) })
def arriving : State := (prefilling.modClk (fun c => { c with line := 300 })).modWv (fun w => { w with wanted := [cellKey 0 17 1 1] })
/-- A Plait plane in its place. -/
def plaitPlane : Plane := { rgbPlane with format := 0x10 }
/-- A sweep over the one entry of the scene. -/
def sweeping : State := scene17.modFrs (fun r => { r with stepSweep := some (0, 1900000000, 1), verSweep := some 0, wrapOn := true, wrapPos := 16414 })
/-- The panel link up on 14 lanes; a report of group 3 for line 300; a packet of group 3 that awaits its report. -/
def linked : State := ((full.initMaps).modPanel (fun p => { p with driverLock := Vector.replicate 2 0xFF })).modLeaf (fun l => { l with driving := true })
def report (ty fl line chk lock : Nat) : List Byte :=
  let b := beBytes 1 ty ++ beBytes 1 fl ++ beBytes 2 line ++ beBytes 4 chk ++ beBytes 2 lock ++ [3, 0]
  b ++ beBytes 4 (rim b 0x300)
def awaiting : State := linked.modRim (fun r => { r with held := [(3, 300)], sent := [(3, 300)], lchk := [(glKey 3 300, 0x5A73B9A8)] })
/-- A control packet of group 3, and a state that has sent it `n` times. -/
def shutEnter : CtrlPkt := ⟨4, 0, 42, 0, []⟩
def sentCtrl (n : Nat) : State := linked.modScan (fun c => { c with ctrlSent := [(3, [(shutEnter, n)])] })
/-- Line 300 of half A has its codes. -/
def coded : State := linked.modWv (fun w => { w with codes := w.codes.set 0 ⟨41, 300, 0x41, 7, List.replicate 46080 9⟩ })
/-- Line 301 of a frame of the Weaver, and the last line of one. -/
def atLine (l : BitVec 16) : State := linked.modClk (fun c => { c with line := l, frame := 41 })
/-- The Sill raster with the lanes at 3.125 Gb/s; training for the next rate, with every lane in lock. -/
def slow : State := ((charged.initMaps).modMode (fun m => { m with raster := .sill })).modBoot (fun b => { b with done := 0x80 })
def slowP : State := slow.modPanel (fun p => { p with presN := Vector.replicate 2 false })
def training (tries lock : Nat) : State :=
  (slowP.modScan (fun c => { c with rateTrain := c.rateTrain.set 0 true, rateTry := c.rateTry.set 0 tries, rateNew := c.rateNew.set 0 1 })).each (List.range 8) (fun s g =>
    s.wr PLK.GRP_LOCK.LOCK lock 0 g)
/-- Shutter is being entered: the capture frame has ended; in Shutter; leaving it. -/
def entering : State :=
  ((linked.modClk (fun c => { c with frame := 43, line := 0 })).modScan (fun c => { c with shutC := 42 })).wr SCN.SHUT_STS.STATE 3
def shuttered : State := (((entering.setPower .shutter).wr SCN.SHUT_STS.STATE 4).wr DMC.SR_STS.STATE 2).wr DMC.SR_STS.CAUSE 2
def exiting : State :=
  ((shuttered.wr SCN.SHUT_STS.STATE 5).modClk (fun c => { c with line := 1, frame := 45 })).modScan (fun c => { c with shutExit := some 45 })
/-- A flat waveform table for panel type 7: each band's references on VCOM +- one step, and its image. -/
def flatPhase (p : Nat) : WavePhase := ⟨0, 150, 4, List.replicate 14 (if p % 2 = 0 then 1500 else 1000)⟩
def flatBand (t : Int) : WaveBand := ⟨t, 30000, -8000, 5000, [flatPhase 0, flatPhase 1, flatPhase 2, flatPhase 3]⟩
def flatWave : Waveform := ⟨7, [flatBand 0, flatBand 100, flatBand 200, flatBand 300, flatBand 0]⟩
def flatBody : List Byte :=
  let ph (p : Nat) : List Byte := leBytes 2 0 ++ leBytes 2 150 ++ leBytes 2 4 ++ zeros 2 ++ (List.range 14).flatMap (fun _ => leBytes 2 (if p % 2 = 0 then 1500 else 1000)) ++ zeros 4
  let band (t : Nat) : List Byte := leBytes 2 t ++ leBytes 2 30000 ++ leBytes 2 57536 ++ leBytes 2 5000 ++ zeros 8 ++ ph 0 ++ ph 1 ++ ph 2 ++ ph 3
  leBytes 4 0x4D524657 ++ leBytes 2 1 ++ leBytes 2 5 ++ leBytes 8 7 ++ zeros 16 ++ band 0 ++ band 100 ++ band 200 ++ band 300 ++ band 0
def flatImg : List Byte := flatBody ++ leBytes 4 3529688508
/-- Full with that table in force in both halves, and its check under way in half B with `img` at 64. -/
def waved : State := linked.modPanel (fun p => { p with wave := Vector.replicate 2 (some flatWave) })
def checkingWave (img : List Byte) : State :=
  (((((full.modPanel (fun p => { p with wave := Vector.replicate 2 (some flatWave) })).modRam (fun r => { r with hbm := cellsAt 64 img })).setReg (PDV.WF_ADDR_LO.key 1 0) 64).wrB PDV.WF_CTL.SWAP true 1).modPanel (fun p => { p with waveBusy := p.waveBusy.set 1 true })).modBoot
    (fun b => { b with cfg := { b.cfg with panelType := 7 } })
/-- Both halves driven; half A discharges; a row of half A waits for its H row. -/
def driven : State := ((waved.wrB PDV.RAIL_STS.UP true 0).modPanel (fun p => { p with driven := Vector.replicate 2 true, presN := Vector.replicate 2 false })).wrB SYS.PWR_STS.PF_WARN true
def discharging (c : Nat) : State := (driven.wrB PDV.RAIL_STS.UP false 0).modPanel (fun p => { p with dis := p.dis.set 0 ⟨true, c, true⟩ })
def rowWaits : State :=
  (waved.hbmWr (waved.resAddr 0 + pairOfs + dcOfs 0 300 15001) [160]).modPanel (fun p => { p with rowMark := [(rowKey 0 300, ⟨1, [⟨15001, -60, 181, -1, false⟩]⟩)] })
/-- The end of a phase-3 frame with a reset or stop that waits for it. -/
def cycleEnd (k : ResetKind) : State :=
  ((waved.modClk (fun c => { c with frame := 43, fs := 40, line := 8699 })).wrEff SCN.VTOTAL.LINES 8700).modPanel (fun p => { p with resetPend := some k })
/-- A Weft command's 64 bytes, and Full with a list of such commands at 4,096 whose first is due. -/
def wcmd (op fl df sf dp db sp sb dx dy w h sx sy c0 c1 arg : Nat) : List Byte :=
  [op, fl, df, sf].flatMap (beBytes 1) ++ leBytes 4 dp ++ leBytes 8 db ++ leBytes 4 sp ++ zeros 4 ++ leBytes 8 sb ++
    [dx, dy, w - 1, h - 1, sx, sy].flatMap (leBytes 2) ++ leBytes 4 c0 ++ leBytes 4 c1 ++ leBytes 4 arg ++ zeros 8
def wlist (n : Nat) (evt : Bool) : WeftList := ⟨4096, n, 0xA3C, 40, evt, 0, 3⟩
def weaving (cmds : List Byte) (n : Nat) : State :=
  ((full.modRam (fun r => { r with hbm := cellsAt 4096 cmds })).modWeft (fun w => { w with list := some (wlist n true) })).wrB WFT.STS.BUSY true
/-- A raw surface of 16-bit pixels at 8,192 with a pitch of 64. -/
def surf16 : Surf := ⟨8192, 64, 1, none⟩
/-- A descriptor at the head of a queue at 16,384. -/
def wdesc (fr fl : Nat) : List Byte := leBytes 8 4096 ++ leBytes 2 2 ++ zeros 2 ++ leBytes 4 0xA3C ++ leBytes 4 fr ++ leBytes 4 fl ++ zeros 8
def queuedList (fr fl : Nat) : State :=
  (((full.modRam (fun r => { r with hbm := cellsAt 16384 (wdesc fr fl) })).modClk (fun c => { c with frame := 40 })).setReg (WFT.SQ_BASE_LO.key 0 0) 16384).wr WFT.SQ_TAIL.INDEX 1
/-- A write burst that has been issued, to memory and to plane 17. -/
def bursting (b : Burst) : State :=
  (full.modScene (fun c => { c with planes := scene17.scene.planes, epoch := scene17.scene.epoch })).modWeft (fun w => { w with bursts := [b], listNo := 4 })
def rawBurst : Burst := ⟨8192, [1, 2, 3, 4], 3, 0xA3C, 1, none⟩
def planeBurst (e : BitVec 4) : Burst := ⟨0x100000, [1, 2, 3, 4], 3, 0xA3C, 1, some ⟨17, e, 16384, 0, 0, 1⟩⟩
/-- The same with plane 17 in force. -/
def drawing (cmd : List Byte) : State := (weaving cmd 2).modScene (fun c => { c with planes := scene17.scene.planes, epoch := scene17.scene.epoch })
/-- A read of 64 bytes at 4,096 in a class, queued; a Real-time block of pseudo-channel 65, queued or granted. -/
def rdReq (w : MemWho) : MemReq := ⟨0, w.cls, w, 4096, 64, none, 0, false⟩
def asking (r : MemReq) : State := on.modMem (fun m => { m with q := [r] })
def rtReq : MemReq := ⟨0, .realTime, .prefill 1, 0x1000D32800, 2048, none, 0, false⟩
def rtQueued : State := on.modMem (fun m => { m with rtQ := [(65, [rtReq])] })
def rtGranted : State := on.modMem (fun m => { m with rtOut := [(65, [rtReq])] })
/-- The memory in a state of self-refresh, with a cause. -/
def refreshing (st c : Nat) : State := ((on.wr DMC.SR_STS.STATE st).wr DMC.SR_STS.CAUSE c).modMem (fun m => { m with sealed := st != 0 && st != 1 })
/-- Fabric port 5 in a state of its bring-up at a rate, its lanes in lock; Up with all of them. -/
def laneUp (s : State) (n : Nat) : State := (s.wrB LAN.LANE_STS.BLOCK true 0 n).wrB LAN.LANE_STS.CDR true 0 n
def port5 (st r : Nat) : State :=
  (((((on.each (List.range 8) (fun s l => laneUp s (296 + l))).portTx 5 true).wr LAN.PORT_STS.STATE st 0 5).wr LAN.PORT_STS.RATE r 0 5).wr LAN.PORT_STS.CAP_RATE 4 0 5).modPort 5
    (fun c => { c with target := 4, passed := 0xFF })
def port5Up : State := (port5 6 4).setWidth 5 8 0xFF
/-- Flex port 0 in Ethernet mode in a state. -/
def flex0 (st : Nat) : State := (on.wr LAN.PORT_CFG.MODE 0 0 32).wr LAN.PORT_STS.STATE st 0 32
/-- Module 0x0307 of a 16 x 16 mesh with fabric port 4 as X+ and port 5 as Y+, both Up with their neighbour check passed. -/
def upPort (s : State) (p : Nat) : State :=
  (((((s.portTx p true).wr LAN.PORT_STS.STATE 6 0 p).setWidth p 8 0xFF).modPort p (fun c => { c with passed := 0xFF })).modFab (fun f => { f with
    nbr := tset (fun _ => Neigh.none) f.nbr p ⟨true, 0x0308, 4, true, false⟩ }))
def fab0 : State :=
  ((((on.effSet (regKey 0 FAB.PAGE FAB.PDIR.off) 0x19000).effSet (regKey 0 FAB.PAGE (FAB.PDIR.off + 8)) 0x6000000).wrEff FAB.GRID.W_M1 15).wrEff FAB.GRID.H_M1 15)
def fab5 : State :=
  (upPort (upPort (fab0.each (List.range 8) (fun s l => laneUp s (296 + l))) 5) 4 |>.wr FAB.ADDR_STS.ADDR 0x307).wr FAB.ADDR_STS.STATE 2
/-- A flit by LSEQ, VC byte and content; a message header; a message of 44 bytes for this module and its two-flit fellow. -/
def flit (lseq b2 : Nat) (pl : List Byte) : List Byte := beBytes 2 lseq ++ beBytes 1 b2 ++ [0] ++ (pl ++ zeros 60).take 60
def mhdr (dst src ty ttl len : Nat) : List Byte := beBytes 2 dst ++ beBytes 2 src ++ beBytes 1 ty ++ [0] ++ beBytes 2 ttl ++ beBytes 2 len ++ [0x12, 0x34, 0, 0, 0, 0]
def oneFlit : List Byte := flit 0 0x1A (mhdr 0x307 0x602 1 600 44 ++ List.replicate 44 7)
def headFlit (dst : Nat) : List Byte := flit 0 0x0A (mhdr dst 0x602 1 600 100 ++ List.replicate 44 7)
def inMessage (o : Option Nat) : State :=
  fab5.modLink 5 (fun l => { l with rxNext := 1, cur := l.cur.set 2 (some ⟨1, o, false, 0, mhdr 0x307 0x602 1 600 100, List.replicate 44 7⟩) })
/-- The first flits are out and unacknowledged; a width is agreed. -/
def replaying : State := fab5.modLink 5 (fun l => { l with replay := [flit 0 0x1A [], flit 1 0x1A []], txNext := 2, owed := [0, 0, 3, 0, 0, 0] })
def widening (w : Nat) (m : BitVec 8) : State := fab5.modFab (fun f => { f with wide := [(5, ⟨true, m, some (w, m), 64⟩)] })
/-- The fabric of an eligible module 0x8000 without an address, its port 5 towards an Up neighbour; a PROBE's bytes. -/
def electing (b : Option Probe) (inGrid : Bool) : State :=
  ((((upPort (fab0.wr FAB.ADDR_STS.STATE 1) 5).wrEff FAB.ADDR_CFG.SRC 1).wrEff FAB.ROOT_CFG.COL 2).wrEff FAB.ROOT_CFG.ROW 3).modFab (fun f => { f with
    root := ⟨true, 0x55AA, b, inGrid, b.isSome⟩, nbr := [] })
def probe0 : Probe := ⟨5, 7, 2, 3, 1, 9⟩
def probeMsg (b : Probe) : List Byte := (mkTransom 0 0x206 0x01 600 true false 0 b.arg).bytes
def tmsg (dst src ty : Nat) (arg : List Byte) : List Byte := (mkTransom dst src ty 600 false false 0x77 arg).bytes
def regMsg (src : Nat) : List Byte := tmsg 0x307 src 0x0A (regArg 2 0x00012C 0x12345678 0x77)
/-- Port 5 quarantined; its violations of this second; Sealed with a manager. -/
def quar5 (k : QuarKind) (past : List Nat) : State := fab5.modFab (fun f => { f with quar := [(5, ⟨k, past⟩)] })
def violated (n : Nat) : State := fab5.modFab (fun f => { f with viol := [(5, (n, 0))] })
def managed : State := ((fab5.modMode (fun m => { m with sec := .sealed })).wrB FAB.MGR0.VALID true).wr FAB.MGR0.ADDR 0x602
/-- The time unit in a state with a usable master on port 5, Full behind it. -/
def timeIn (st : Nat) : State :=
  ((full.wr TIM.STS.STATE st).wr TIM.STS.PORT 5).modTim (fun t => { t with masterOk := true, accM := 250000 }) |>.modClk (fun c => { c with sec := 1700000000, ns := 999999000 })
def lockedT : State := ((timeIn 2).wrB TIM.STS.TVAL true).wr TIM.BOUND.US 3
def heldT : State := (((timeIn 3).wrB TIM.STS.TVAL true).wr TIM.BOUND.US 3).modTim (fun t => { t with b0 := 3, holdSec := 3599 })
def jumpT : State := (heldT.wr TIM.JUMP.US 2000).modTim (fun t => { t with lastOff := 2000000, near := 7 })
def armedT (v : Nat) (s : State) : State := (s.wr LNT.CMP_VAL v 0 3).wr LNT.CMP_CTL 3 0 3
def slotAt (mode fr : Nat) : State := ((((full.wrEff SCN.VTOTAL.LINES 8700).modClk (fun c => { c with line := 300, frame := 41 })).wr LNT.SLOT_CFG.LINE 300 0 255).wr LNT.SLOT_CFG.MODE mode 0 255).wr LNT.SLOT_FRAME fr 0 255
/-- What slot 255 held before a write of this cycle; a PTP message delivered at port 5. -/
def slotWas : SlotOld := ⟨255, (slotAt 0 40).clk.now, 300 * 65536 + 2, 0, 41⟩
def ptpIn : State := full.deliver 1 5 (List.replicate 16 0) (List.replicate 44 1)
/-- A leaf of a pair in a role, its partner in another, the Hinge up. -/
def leafIn (r pr : Nat) : State :=
  (((full.modMode (fun m => { m with power := if 3 ≤ r then .standbyLeaf else .full })).wr LEF.STS.ROLE r).wr LEF.STS.PARTNER_ROLE pr |>.wrEff LEF.CFG.PAIRED 1).wrB LEF.STS.HINGE_UP true
    |>.modClk (fun c => { c with line := 4000, frame := 0xA3C6 }) |>.wrEff SCN.VTOTAL.LINES 8700
/-- A paired leaf that negotiates behind the Sill picture. -/
def joining : State := ((leafIn 0 0).modMode (fun m => { m with power := .sill, raster := .sill })).modBoot (fun b => { b with done := 0x200 })
def hello (r fl id : Nat) : List Byte := [0x01] ++ beBytes 1 r ++ beBytes 1 fl ++ beBytes 8 id ++ beBytes 4 0x77
def taking (c : Nat) (give : Bool) (r : Nat) : State := (leafIn r (if give then 4 else 2)).modLeaf (fun l => { l with tau := some ⟨c, give, 4001, 0xA3C6⟩ }) |>.modClk (fun c => { c with line := 4001 })
/-- COMMIT, LINE and the other mirror bodies. -/
def commitRec (op w2 : Nat) : List Byte :=
  [0x01] ++ beBytes 1 op ++ beBytes 2 5 ++ beBytes 8 0xA3C61F400064 ++ beBytes 4 16414 ++ beBytes 4 0x1A2B ++ beBytes 4 7 ++ beBytes 4 w2 ++ beBytes 2 49 ++ zeros 2 ++ beBytes 4 77
def mrec (op : Nat) (f : Bool) : MirrorRec := ⟨op, 5, 8004, 0xA3C6, 100, 16414, 0x1A2B, 7, 0x3A000B7, 49, 77, f⟩
def mirrored (op : Nat) (u : Option Update) (pl : Plane) : State :=
  (leafIn 4 2).modScene (fun c => { c with planes := [(17, some pl)], epoch := [(17, 2)], upd := [(5, u)], fresh := scene17.scene.fresh }) |>.modLeaf (fun l => { l with sched := [mrec op false] }) |>.modClk (fun c => { c with line := 8004 })
def fetching (got : List Byte) : State := (mirrored 0 none rgbPlane).modLeaf (fun l => { l with sched := [mrec 0 true], fetch := [⟨16414, 0x1A2B, got⟩] })
def fdata (ofs : Nat) (bs : List Byte) : List Byte := [0x07] ++ zeros 11 ++ beBytes 4 16414 ++ beBytes 4 0x1A2B ++ beBytes 4 ofs ++ bs
def lineMsg (fl line dig pr : Nat) : List Byte :=
  [0x02] ++ beBytes 1 fl ++ beBytes 2 line ++ beBytes 4 9 ++ beBytes 4 7 ++ beBytes 4 8 ++ beBytes 4 dig ++ beBytes 1 pr ++ zeros 3
def compared (a b : Nat) : State :=
  ((leafIn 4 2).modRim (fun r => { r with dig := [(glKey 1 300, ⟨true, a, 7, 8⟩)] })).modLeaf (fun l => { l with pdig := [(glKey 1 300, ⟨true, b, 7, 8⟩)] })
def repairMsg : List Byte := [0x05, 1] ++ beBytes 2 8639 ++ beBytes 2 46078 ++ beBytes 2 2 ++ [0xAA, 0xBB]
def syncing : State := leafIn 3 2
/-- The parameter store with a rewritten copy of page 3, one bad copy of page 4, none of page 5, and known passwords. -/
def copyOf (p : Nat) (b : BitVec 8) (q : BitVec 32) : PageCopy := mkCopy p (List.replicate 496 b) q
def store : State := full.modNvs (fun n => { n with
  pages := [(3, copyOf 3 7 2), (4, blankCopy), (5, blankCopy), (18, copyOf 18 9 2), (4100, copyOf 4 7 1), (4101, blankCopy)], pwds := [(4, 0), (5, 0x1122334455667788)] })
def onPage (p : Nat) (s : State) : State := s.wr NVS.PG_SEL.PAGE p 0 1
def withPwd (s : State) : State := (s.wr NVS.PWD_LO 0x55667788).wr NVS.PWD_HI 0x11223344
def wrPage (b : WriteBy) (pw : Option (Nat × BitVec 64)) : NvsWrite := ⟨18, List.replicate 496 5, b, pw⟩
def writing (b : WriteBy) (pw : Option (Nat × BitVec 64)) : State := store.modNvs (fun n => { n with cur := some (wrPage b pw), regOp := true })
def rec1 : LogRec := ⟨1, 0, 0, 0, 0, 0x2A, 1, 5, 6⟩
def logging : State := store.modLog (fun l => { l with wait := [(14, rec1), (16384, rec1)] })
/-- A bulk map store operation on side B; its registers. -/
def bmsReg : State := (((full.wr BMS.SIDE_SEL.SIDE 1 0 1).wr BMS.OFS.OFS 3).wr BMS.HBM_LO.ADDR 2).wr BMS.LEN.BYTES 8192
def bmsRuns (op len : Nat) : State := ((full.modNvs (fun n => { n with bmsJob := some ⟨op, 1, 4096, 8192, len⟩, bms := [(4294967301, 7), (4294971397, 8)], bmsProg := [(1048577, true)] })).wrB BMS.STS.BUSY true).hbmWr 8192 [1, 2, 3]
/-- Full, with every sensor of zone 3 at a reading, and the counts of a zone's levels. -/
def warmTo (t : Int) (ns : Table Nat) (lv : Table Bool) (s : State) : State :=
  (s.each [12, 13, 14, 15] (fun s n => s.wrI THM.SEN_STS.TEMP t 0 n)).modThm (fun m => { m with zoneIn := ns, inLevel := lv })
def stoppedT : State := ((full.each (List.range 7) (fun s z => s.wrI THM.ZONE_STS.TEMP 250 0 z)).modMode (fun m => { m with power := .thermalStop, raster := .sill })).wrB THM.FAULT.STOPPED true
def calWaits (g : BitVec 3) : State := (full.modThm (fun t => { t with waits := g })).wrI THM.ZONE_STS.TEMP 346 0 1
def calRuns (g : Nat) : State := (full.wr CLB.STS.RUNNING g).modThm (fun t => { t with base := [(64 + 8 + 6, 300), (64 + 8 + 5, 310)] })
def testing (k : Nat) : State := (full.modThm (fun t => { t with selfTest := some ⟨k, 1⟩ })).wrB CLB.ST_STS.BUSY true
/-- The holdup bank is ready and the key store good; the same Sealed; Quarantined without a key store. -/
def secOn : State := (on.wrB SYS.PWR_STS.HOLD_RDY true).wrB SEC.STS.KEYSTORE_OK true
def sealedOn : State := secOn.modMode (fun m => { m with sec := .sealed })
def quarOn : State := (secOn.modMode (fun m => { m with sec := .quarantined })).wrB SEC.STS.KEYSTORE_OK false
/-- A probe at an attachment level. -/
def probing (l : DbgLevel) (s : State) : State := (s.setDbg l).wrB DBG.STS.PRESENT true
/-- A signature is presented whose signer's key has a digest, which is the owner field. -/
def signedBy (digest : Nat) (s : State) : State :=
  ((List.range 24).foldl (fun s k => s.setReg (regKey 0 SEC.PAGE (0x300 + 4 * k)) (BitVec.ofNat 32
    (beAt (beBytes 48 g384.1 ++ beBytes 48 1) (4 * k) 4))) s).modSecu (fun u => { u with owners := [beBytes 48 digest] })
def sigUnseal : Nat := 0x49d749166d856babdaa2f9f536504347b4671bacab43001194bb24bc1a8267e9e58f14101e1ecd30e80443894e9fc7e1
def sigOwner : Nat := 0x47a7b84169622324056626fb4c5d230843f649b69c03577575c291f3bc1bb05da7e95ce34484fe8daea5facd1167dbae

/-! ### Ill-formed commands, one for each check -/

/-- The checks on list operands refuse a wrong length or a repeated symbol. -/
theorem test_ill_formed_lists :
    ([.hbmTraining [1] [1, 2, 3, 4], .hbmTraining [1, 2, 3, 4] [], .lineReportReceived 0 (zeros 15), .statusReportReceived 0 (zeros 17),
      .memoryRequest .ingest 0 2 true [1], .memoryRequest .ingest 0 2 false [1, 2], .memoryResponse 0 false 0 [(0, 1), (0, 2)],
      .eccRetry 0 [(3, 0)], .scrubRead 0 [(1, 1), (1, 1)], .trainDone 0 (List.replicate 9 []) [], .trainDone 0 [] (List.replicate 9 (0, [])),
      .checkDone 0 (List.replicate 9 0) 0 0,
      .flitReceive 0 (zeros 63)] : List Instr).all (fun c => !c.wellFormed) = true := by decide +kernel

/-- A landed packet and a register frame are shorter than 65,536 bytes. -/
theorem test_ill_formed_frames (via : Arrival) (path : FramePath) (src : BitVec 144) (bs : List Byte) (h : 65536 ≤ bs.length) :
    (Instr.packetLand via bs).wellFormed = false ∧ (Instr.registerFrame path src bs).wellFormed = false := by
  simp [Instr.wellFormed, Nat.not_lt.mpr h]

/-- The checks on messages refuse another type or a short one. -/
theorem test_ill_formed_messages :
    ([.transomProbe 0 (tmsg 0 0 2 (zeros 15)) true, .transomNeigh 0 (zeros 24) true, .transomStop 0 (zeros 23) true,
      .transomRelease 0 (tmsg 0 0 5 (zeros 15)) true, .transomEcho 0 (zeros 24) true, .transomEchoRsp 0 (zeros 24) true,
      .transomNak 0 (zeros 24) true, .transomRegReq 0 (tmsg 0 0 11 (zeros 15)) true, .transomRegRsp 0 (tmsg 0 0 10 (zeros 15)) true,
      .transomIllegalType 0 (tmsg 0 0 9 (zeros 15)) true, .leafHello [1], .leafDemote (1 :: zeros 14), .leafTake (zeros 15),
      .mirrorCommit (zeros 36), .mirrorFetchReq (6 :: zeros 18), .mirrorFetchData (zeros 24), .mirrorLine [2], .mirrorWeftStart (zeros 20),
      .mirrorEditApply (4 :: zeros 10), .mirrorRepair [5], .mirrorSync (zeros 12)] : List Instr).all (fun c => !c.wellFormed) = true := by
  decide +kernel

/-- The checks on numbers refuse what lies out of range. -/
theorem test_ill_formed_numbers :
    ([.timeAcquire 0 1000000000, .logPageWrite 545, .logPageWrite 1657, .windowRead .mgmt 0x180 0, .windowWrite .mgmt 0x238 0 1] :
      List Instr).all (fun c => !c.wellFormed) = true := by decide +kernel

/-- A word spells no command: the table gives no bits (R455). -/
theorem test_no_words : decodeTableWord 0 0 = none ∧ State.reset.withFetchWord 0 0 = State.reset := ⟨rfl, rfl⟩

/-! ### Values of the spec's worked examples -/

/-- The check word of "123456789" (chapter 8, R176). -/
theorem test_rim_check : rim (ascii "123456789") 0 = 0xE3069283 := by decide +kernel

/-- LCHK of line 300 of group 2 under CG 0x00417F0F: CRC and fold word (chapter 8). -/
theorem test_rim_fold : (0x012C0200 : Nat) ^^^ 0x00417F0F = 0x016D7D0F ∧ (0x5B1EC4A7 : Nat) ^^^ 0x016D7D0F = 0x5A73B9A8 := by decide

/-- The new bank of 1,200 µF, and the same at end of life (R36). -/
theorem test_holdup : holdMs 1200 = 388 ∧ holdMs 840 = 270 := by decide +kernel

/-- Words of the entry of tile 16,414 after its commit (chapter 4). -/
theorem test_entry_words :
    let e : Entry := ⟨0x8F3C2D10, 0x1A2B, 183, .content, true, true, true, false, 49, 17, 2⟩
    e.word 2 = 0x03A000B7 ∧ e.word 3 = 0x20110031 := by decide +kernel

/-- The commit of the TILE of chapter 4: the entry, COMMIT_GEN and STAT_COMMIT. -/
theorem test_tile_handle : (0x40000 : Nat) / 0x10 + 0x1E = 0x401E := by decide

/-- The flat RGB565 tile of chapter 5 decodes to 4,096 pixels of 0x07E0. -/
theorem test_coil_flat :
    (coilDecode 8192 false CoilCtx.empty ([0xA0, 0x00, 0x1F, 0xFF, 0x00, 0x16, 0xF0, 0x23] ++
      [0x9F, 0xFC, 0x09, 0xFF, 0xC0, 0x9F, 0xFC, 0x09, 0xFF, 0xC0, 0x9F, 0xFC, 0x09, 0xFF, 0xC0, 0x9F, 0xFC, 0x09, 0xFF, 0xA0, 0x80])).toOption.map
      (fun r => (r.1.length, r.1.take 4, (r.1.drop 8188))) = some (8192, [0xE0, 7, 0xE0, 7], [0xE0, 7, 0xE0, 7]) := by decide +kernel

/-- Its last body byte changed is an error, not another tile. -/
theorem test_coil_short :
    (coilDecode 8192 false CoilCtx.empty [0x80, 0x00, 0x00, 0x00, 0x00, 0x00, 0x55]).toOption = none := by decide +kernel

/-- The grey ramp of chapter 5: the canonical block and its 54 bytes. -/
theorem test_plait_ramp :
    let px := (List.range 64).map (fun i => 0xFF000000 + (40 + i % 16) * 0x010101)
    let row := List.replicate 11 (0xAA : Byte) ++ [0x02]
    plaitEncode 0x14 px = (2, [0x20, 0x22, 0xFF, 0x28, 0x28, 0x28] ++ row ++ row ++ row ++ row ++ zeros 10) ∧
    plaitDecode 0x14 2 (([0x20, 0x22, 0xFF, 0x28, 0x28, 0x28] ++ row ++ row ++ row ++ row) ++ zeros 202) = some px := by decide +kernel

/-- The stake of green subpixel (5,000, 300) of chapter 6. -/
theorem test_stake :
    let grid := ((List.replicate (121 * 35) (0 : Int)).set (121 + 19) 512 |>.set (121 + 20) 768 |>.set (2 * 121 + 19) 256)
    (WeaveMap.mk 128 0x14000000 0x14000000 0 grid).stake 5000 300 1 = 13078 := by decide +kernel

/-- Sample positions of planes 17 and 40 (chapter 6). -/
theorem test_sample_pos :
    let l : Option (Nat × Louvre) := some (2, ⟨43, 63, 2, -1, 13696, [40]⟩)
    samplePos l 13078 5000 300 1 { tile17 with disp := 512 } = (1923, 11, 43) ∧
    (samplePos l 13078 5000 300 1 { tile17 with disp := -256, x := 0, y := 0 }).1 = 5002 := by decide +kernel

/-- Edge weight of the same ray, and one at the louvre's first stake. -/
theorem test_edge_weight :
    edgeWeight (some (2, ⟨43, 63, 2, -1, 13696, []⟩)) 13078 = 256 := by decide +kernel

/-- The default input curve at the indices of chapter 6, and its ends; the default output curve by R152's formula (log entry 23). -/
theorem test_curves : inCurve 771 = 34619 ∧ inCurve 514 = 14176 ∧ inCurve 192 = 1926 ∧ inCurve 1023 = 65535 ∧
    outCurve 0 = 0 ∧ outCurve 489 = 46835 ∧ outCurve 1024 = 65535 := by
  decide +kernel

/-- Filter weights at phase 11, and the two filtered planes of chapter 6. -/
theorem test_filter :
    filterWeights false 11 = (-60, 956, 141, -13) ∧
    filterTaps (-60, 956, 141, -13) (65535, 34619) (65535, 34619) (32896, 7116) (32896, 7116) = (61455, 31181) := by decide +kernel

/-- Compositing the two planes (chapter 6). -/
theorem test_composite :
    composite 256 (composite 256 (0, 0) true 61455 31181) false 65535 1926 = (65535, 31301) := by decide +kernel

/-- The output level of OUT_1[489] = 46,830 and OUT_1[490] = 46,874, and the dithered code 2,905 (chapter 6). -/
theorem test_code :
    (State.reset.modWv (fun w => { w with curves := w.curves.set 0 [(4585, 46830), (4586, 46874)] })).outLevel 0 1 31301 = 46833 ∧ pairIndex 0xA3C5 0xA000 0 = 482 ∧
    ditherCode 12 true 482 5000 300 1 46481 = 2905 := by decide +kernel

/-- The verdict example of chapter 7: 183 ms of age with 3 µs of bound are still fresh, one microsecond more is Stale. -/
theorem test_verdict_age :
    ageOf (0x8F3C2D10 + 182995) 3 0x8F3C2D10 = 183000 ∧
    rowVerdict (verdictRow false ⟨0x8F3C2D10, 1, 183, .content, true, true, false, false, 1, 3, 0⟩ (0x8F3C2D10 + 182995) 3 true false false false) = 0 ∧
    rowVerdict (verdictRow false ⟨0x8F3C2D10, 1, 183, .content, true, true, false, false, 1, 3, 0⟩ (0x8F3C2D10 + 182996) 3 true false false false) = 2 := by
  decide +kernel

/-- The lane map of group 3 with lane 5 failed: GRP_MAP0 0x76F43210 and GRP_MAP1 0x05DCBA98 (chapter 9). -/
theorem test_lane_map :
    laneMapOf 0x20 = [0, 1, 2, 3, 4, 15, 6, 7, 8, 9, 10, 11, 12, 13, 5] := by decide +kernel

/-- The settle frame of chapter 10: r = -60, H = 160, ho = 181 give n = -1 and a residue of -81. -/
theorem test_dc_settle :
    bleed true 48 1 12 482 (-60) = (-1, false) ∧ settle 1 (160 - 181) (-60) (-1) false = (-81, false) := by decide +kernel

/-- ARGB8888 0xFF20C040 in RGB565 is 0x25E8 (R255). -/
theorem test_pix_conv : pixConv 4 1 0xFF20C040 = 0x25E8 := by decide +kernel

/-- The five points of the LINE of chapter 11. -/
theorem test_line_points : linePts 509 130 511 126 = [(509, 130), (510, 129), (510, 128), (511, 127), (511, 126)] := by decide +kernel

/-- The address of chapter 12: pseudo-channel 65, row 10,924, bank 40, burst 20; XLATE_OUT 0x83556514. -/
theorem test_xlate : xlate 0x1000D32A99 = ⟨65, 40, 10924, 20⟩ ∧ xlateWord 0x1000D32A99 = 0x83556514 := by decide +kernel

/-- A round at S = 125: 8 maintenance and 125 Real-time slices (R270). -/
theorem test_slices :
    ((List.range 256).filter (fun k => sliceKind k 125 == .realTime)).length = 125 ∧
    ((List.range 256).filter (fun k => sliceKind k 125 == .maint)).length = 8 := by decide +kernel

/-- One wrong symbol is corrected, two are not (R280). -/
theorem test_burst_code : eccCheck [(35, 0xFF)] = .corrected ∧ eccCheck [(0, 1), (35, 0x80)] = .uncorrectable := by decide +kernel

/-- The bit pairs 00 10 11 01 map to levels 0, 3, 2, 1, precoded 0, 3, 3, 2, and back (R293, R294). -/
theorem test_precoding :
    levels [false, false, true, false, true, true, false, true] = [0, 3, 2, 1] ∧ precode 0 [0, 3, 2, 1] = [0, 3, 3, 2] ∧
    decodePre 0 [0, 3, 3, 2] = [0, 3, 2, 1] := by decide +kernel

/-- The scrambler from all ones, and the descrambler that undoes it (R292). -/
theorem test_scrambler :
    (scramble scrambleInit (List.replicate 40 false)).1.take 39 = List.replicate 39 false ∧
    descramble scrambleInit (scramble scrambleInit (byteBits 0xA5)).1 = byteBits 0xA5 := by decide +kernel

/-- A TILE message of 1,280 bytes takes 22 flits (chapter 14). -/
theorem test_flits : flitsOf 1280 = 22 := by decide

/-- The VCOM target at 34.5 °C on the curve of chapter 18. -/
theorem test_vcom_target : vcomTarget [(300, 12), (400, 20)] 345 = 16 := by decide +kernel

/-- SEC.STS and DBG.STS of the Intrusive example (R448): 0x020106B9 and 0x0000001A. -/
theorem test_sec_sts :
    let s := ((((on.modMode (fun m => { m with sec := .sealed, dbg := .intrusive, power := .standbyLeaf })).wrB SEC.STS.KEYS_HIDDEN true).wrB
      SEC.STS.KEYSTORE_OK true).wrB SEC.STS.FW_OK true).modSecu (fun u => { u with trans := 1, owners := [[]] })
    s.secSts = 0x020106B9 ∧ ((s.wrB DBG.STS.PRESENT true).wr DBG.STS.REQ 2).dbgSts = 0x1A := by decide +kernel

/-- The 32 bytes of the record of chapter 21, and the page and byte of ring entry 10,758. -/
theorem test_log_bytes :
    (LogRec.mk 0x00012A07 0xA3C5012D01C8 0x0B3C4A10 0x13 0 0x40 0 0x0002012C 0x5A72B9A8).bytes =
      [0x07, 0x2A, 0x01, 0x00, 0xC8, 0x01, 0x2D, 0x01, 0xC5, 0xA3, 0x00, 0x00, 0x10, 0x4A, 0x3C, 0x0B, 0x13, 0x00, 0x00, 0x40,
       0x00, 0x00, 0x00, 0x00, 0x2C, 0x01, 0x02, 0x00, 0xA8, 0xB9, 0x72, 0x5A] ∧
    logPage 10758 = 1263 ∧ 32 * (10758 % 15) = 96 := by decide +kernel

/-- The response of the register frame of chapter 20, up to its CHK. -/
theorem test_register_frame :
    let fr := frameHead 0 3 0x2A ++ [0x01, 0x00, 0x01, 0x00, 0, 0, 0, 0, 0x01, 0x01, 0x01, 0x30, 0, 0, 0, 0, 0x02, 0x00, 0x01, 0x2C, 0x12, 0x34, 0x56, 0x78]
    let t := (on.wr ING.COMMIT_GEN 0x00417F0F).frameRun .mgmt 7 (fr ++ beBytes 4 (rim fr 0x2A))
    t.bus.out.take 40 = [0x52, 0x41, 0x11, 0x03, 0, 0, 0, 0x2A, 0, 0, 0, 0, 0, 0, 0, 0, 0x00, 0x00, 0x01, 0x00, 0x72, 0x50, 0x00, 0x42,
      0x00, 0x01, 0x01, 0x30, 0x00, 0x41, 0x7F, 0x0F, 0x00, 0x00, 0x01, 0x2C, 0x12, 0x34, 0x56, 0x78] ∧ t.bus.out.length = 44 := by decide +kernel

/-- START_T of the example of chapter 3: 10,088 ms and 118.4 ms. -/
theorem test_start_t : (10088 + 1184 * 65536 : Nat) = 0x04A02768 ∧ (118333 + 99) / 100 = 1184 := by decide

/-- SHA-384 of "abc" (the standard's own example). -/
theorem test_sha384 :
    beNat (sha384 (ascii "abc")) =
      0xCB00753F45A35E8BB5A03D699AC65007272C32AB0EDED1631A8B605A43FF5BED8086072BA1E7CC2358BAECA134C825A7 := by decide +kernel

/-- AES-256 of the standard's own example (FIPS 197, C.3). -/
theorem test_aes256 :
    aesEnc (aesKeys ((List.range 32).map (BitVec.ofNat 8))) ((List.range 16).map (fun i => BitVec.ofNat 8 (17 * i))) =
      beBytes 16 0x8EA2B7CA516745BFEAFC49904B496089 := by decide +kernel

/-- Two records of one weave cycle take their entries in the order of their pages when it ends (R477), with the numbers in order. -/
theorem test_cycle_order :
    let s := (full.logc TIM.PAGE 0xB1 0 0).logc SYS.PAGE 0x2B 0 0
    let t := s.tick
    ((s.entryAt 0).map (·.code), (s.entryAt 1).map (·.code)) = (some 0xB1, some 0x2B) ∧
    ((t.entryAt 0).map (·.code), (t.entryAt 1).map (·.code)) = (some 0x2B, some 0xB1) ∧
    (t.entryAt 0).map (·.seq) = (s.entryAt 0).map (·.seq) := by decide +kernel

/-! ### The hypotheses of the statements about functions -/

/-- The hypotheses of EncodeDecodes, at both ends of the ranges. -/
theorem hyps_EncodeDecodes :
    (∃ (j : EncJob) (src : List Byte), 10 ≤ j.log ∧ j.log ≤ 16 ∧ 1 ≤ src.length ∧ src.length < 2 ^ 27) :=
  ⟨⟨0, 1, 0, 0, 9, 16⟩, [7], by decide, by decide, by decide, by decide⟩

/-- The hypotheses of WeaverArithmetic. -/
theorem hyps_WeaverArithmetic :
    (∃ m : WeaveMap, 1 ≤ m.nstk ∧ m.nstk ≤ 256) ∧ (∃ phi : Nat, phi < 64) ∧ (∃ d : Nat, d = 10 ∨ d = 12) ∧
    (∃ prev : List Slot, (prev.map (fun u => 3 * u.w)).sum ≤ 11520) :=
  ⟨⟨⟨256, 0, 0, 0, []⟩, by decide, by decide⟩, ⟨63, by decide⟩, ⟨10, .inl rfl⟩, ⟨[⟨17, 0, 3840⟩], by decide⟩⟩

/-- The hypotheses of ContentVerdict: a refused tile, one of no data, and a wider bound on a fresh tile. -/
theorem hyps_ContentVerdict :
    (∃ refused : Bool, refused = true) ∧ (∃ (refused : Bool) (e : Entry), refused = false ∧ e.state = .noData) ∧
    (∃ (e : Entry) (now be be' : Nat), be ≤ be' ∧ be' < 2 ^ 31 ∧ 0 ≤ ageOf now be e.stamp ∧
      ageOf now be e.stamp + (be' - be : Nat) < 2 ^ 31 ∧ rowVerdict (verdictRow false e now be' true false false false) = 0) :=
  ⟨⟨true, rfl⟩, ⟨false, Entry.zero, rfl, rfl⟩,
   ⟨⟨0x8F3C2D10, 1, 183, .content, true, true, false, false, 1, 3, 0⟩, 0x8F3C2D10 + 182990, 3, 8, by decide +kernel⟩⟩

/-- The hypotheses of PanelLanes: fourteen lanes in use, and fewer. -/
theorem hyps_LaneMap :
    (∃ fail : BitVec 15, lanesInUse fail.toNat = 14 ∧ ∃ l : Fin 14, fail.getLsbD l = false) ∧
    (∃ fail : BitVec 15, lanesInUse fail.toNat < 14 ∧ ∃ l l' : Fin 15, fail.getLsbD l = false ∧ fail.getLsbD l' = false ∧ l < l') ∧
    (∃ (fail : BitVec 15) (l : Fin 15) (i : Nat), fail.getLsbD l = true ∧ i < lanesInUse fail.toNat) :=
  ⟨⟨0x20, by decide +kernel⟩, ⟨0x4021, by decide +kernel, 1, 2, by decide +kernel⟩, ⟨0x20, 5, 13, by decide +kernel⟩⟩

/-- The hypotheses of DcAndDischarge about the residue. -/
theorem hyps_Residue :
    (∃ (pol r : Int), (pol = 1 ∨ pol = -1) ∧ -127 ≤ r ∧ r ≤ 127) ∧
    (∃ (ena : Bool) (thr depth pi : Nat) (pol r : Int), 8 ≤ thr ∧ thr ≤ 126 ∧ 8 < depth ∧ (pol = 1 ∨ pol = -1) ∧ -127 ≤ r ∧ r ≤ 127 ∧
      (bleed ena thr pol depth pi r).1 = 0) :=
  ⟨⟨-1, -127, by decide⟩, ⟨true, 126, 10, 0, -1, 125, by decide +kernel⟩⟩

/-- The hypotheses of BurstCode: three symbols at once. -/
theorem hyps_BurstCode :
    ∃ (p q r : Fin 36) (u v w : BitVec 8), p ≠ q ∧ q ≠ r ∧ p ≠ r ∧ u ≠ 0 ∧ v ≠ 0 ∧ w ≠ 0 := ⟨0, 1, 35, 1, 0xFF, 0x80, by decide⟩

/-- The hypotheses of MemoryAccess about addresses and rounds. -/
theorem hyps_AddressMap :
    (∃ a b, a < hbmSize ∧ b < hbmSize ∧ xlate a = xlate b ∧ a % 32 = b % 32) ∧ (∃ n, 64 ≤ n ∧ n ≤ 160) :=
  ⟨⟨hbmSize - 1, hbmSize - 1, by decide, by decide, rfl, rfl⟩, ⟨160, by decide⟩⟩

/-- The hypotheses of LogRecords: a fault record that enters the log and takes the last first-fault entry, a note, and a count
that is not 0. -/
theorem hyps_LogRecords :
    (∃ (s : State) (page code a b : Nat), s.logAdmits code = true ∧ s.rd NVS.LOG_STS.HEAD < 16384 ∧ s.rd NVS.LOG_STS.FF_COUNT = 255 ∧
      code ∈ [0x2A, 0x2C, 0x2D] ∧
      (s.logStore (s.rd NVS.LOG_STS.HEAD) (s.mkRec page code a b)).logNoRoom (16384 + s.rd NVS.LOG_STS.FF_COUNT) = false) ∧
    (∃ (s : State) (page : Nat), s.rd HDR.PG_ERR_CNT.COUNT page = 0 ∧ s.rd HDR.PG_ERR_CNT.COUNT (page + 1) ≠ 0) :=
  ⟨⟨on.wr NVS.LOG_STS.FF_COUNT 255, 0, 0x2A, 1, 2, by decide +kernel⟩, ⟨on.wr HDR.PG_ERR_CNT.COUNT 1 1, 0, by decide +kernel⟩⟩

/-- The clock stands at `now`, the line in progress began at `at_`. -/
def clocked (s : State) (now at_ : Nat) : State := s.modClk (fun c => { c with now := now, lineAt := at_ })

/-- A step of the count waits, just before the next µs boundary. -/
def stepWaits (jump : Bool) : State :=
  ((jumpT.modTim (fun t => { t with step := some ⟨2500, 7000000, jump⟩ })).modMode (fun m => { m with raster := .off })).modClk (fun c => { c with
    ns := 999, sub := 7, sec := 7 })

/-- The hypotheses of ClockTick, clause by clause: without 48 V; at the end of a second; a slew that takes a nanosecond; a step and
an accepted jump at their µs boundary, and one before it; the end of a line, and of a frame of either raster. -/
theorem hyps_ClockTick :
    (∃ s : State, s.pending = [] ∧ s.mode.supply ≠ .on) ∧
    (∃ s : State, s.pending = [] ∧ s.mode.supply = .on ∧ s.clk.ns.toNat = 999999999 ∧ s.tim.step = none ∧ s.tim.slew = 0 ∧
      s.mode.raster = .off ∧ s.frs.verSweep = some 262143) ∧
    (∃ s : State, s.pending = [] ∧ s.mode.supply = .on ∧ s.tim.step = none ∧ s.mode.raster = .off ∧ s.tim.slew = -70 ∧
      (s.clk.now + 1 - s.tim.slewAt) / 8000 = 2 ∧ 1 ≤ s.taiNs - 2 ∧ s.taiNs < 2 ^ 48 * 1000000000 - 1) ∧
    (∀ jump : Bool, ∃ (s : State) (p : StepPend), s.pending = [] ∧ s.mode.supply = .on ∧ s.tim.step = some p ∧ p.jump = jump ∧
      (s.run 1).taiNs / 1000 ≠ p.us ∧ (s.run 1).stepDue.midLine = true ∧ 0 ≤ (s.run 1).taiNs - p.off ∧
      (s.run 1).taiNs - p.off < 2 ^ 48 * 1000000000 ∧ s.frs.stepSweep = none) ∧
    (∃ (s : State) (p : StepPend), s.pending = [] ∧ s.mode.supply = .on ∧ s.tim.step = some p ∧ (s.run 1).taiNs / 1000 = p.us ∧
      (s.run 1).midLine = true) ∧
    (∃ s : State, s.pending = [] ∧ s.mode.supply = .on ∧ s.tim.step = none ∧ s.mode.raster = .weaver ∧ s.boot.hold = false ∧
      s.vtotal ≤ 65535 ∧ s.lineLen ≤ s.clk.now + 1 - s.clk.lineAt ∧ s.clk.line.toNat + 2 = s.vtotal) ∧
    (∀ r : RasterMode, r ≠ .off → ∃ s : State, s.pending = [] ∧ s.mode.supply = .on ∧ s.tim.step = none ∧ s.mode.raster = r ∧
      s.boot.hold = false ∧ s.vtotal ≤ 65535 ∧ s.lineLen ≤ s.clk.now + 1 - s.clk.lineAt ∧ s.clk.line.toNat + 1 = s.vtotal ∧
      s.enterReady = false) :=
  ⟨⟨State.reset, by decide +kernel⟩,
   ⟨(on.modClk (fun c => { c with ns := 999999999 })).modFrs (fun r => { r with verSweep := some 262143 }), by decide +kernel⟩,
   ⟨(on.modTim (fun t => { t with slew := -70 })).modClk (fun c => { c with now := 15999, ns := 500, sub := 6 }), by decide +kernel⟩,
   fun jump => ⟨stepWaits jump, ⟨2500, 7000000, jump⟩, by cases jump <;> decide +kernel⟩,
   ⟨(stepWaits true).modClk (fun c => { c with ns := 998 }), ⟨2500, 7000000, true⟩, by decide +kernel⟩,
   ⟨clocked (full.modClk (fun c => { c with line := 8698 })) 10000 9000, by decide +kernel⟩,
   fun r h => match r with
     | .off => absurd rfl h
     | .sill => ⟨clocked sillEnd 10000 3000, by decide +kernel⟩
     | .weaver => ⟨clocked (full.modClk (fun c => { c with line := 8699 })) 10000 9000, by decide +kernel⟩⟩

/-- The hypotheses of StepKeepsSound: a sound state with a command that waits, and the state it steps to. -/
theorem hyps_StepKeepsSound :
    ∃ s t : State, s.sound ∧ step s = .next t ∧ s.pending = [.signatureLockoutEnd] :=
  ⟨{ State.reset with pending := [.signatureLockoutEnd] }, _,
   ⟨⟨rfl, rfl, rfl, rfl, rfl⟩, by decide, by decide, by decide⟩, rfl, rfl⟩

/-! ### The hypotheses of the statements about commands -/

/-- A value forced before it is used, so that the kernel runs through a long image step by step. -/
def force (n : Nat) (f : Nat → Nat) : Nat := match n with
  | 0 => f 0
  | k + 1 => f (k + 1)
theorem force_eq (n : Nat) (f : Nat → Nat) : force n f = f n := by cases n <;> rfl
/-- The CRC register, each step forced. -/
def crcF : List Byte → Nat → Nat
  | [], r => r
  | b :: bs, r => force (crcByte r b) (crcF bs)
theorem crcF_eq (bs : List Byte) (r : Nat) : crcF bs r = bs.foldl crcByte r := by
  induction bs generalizing r with
  | nil => rfl
  | cons b bs ih => exact (force_eq _ _).trans (ih _)
theorem mapImg_rim : rim (mapImg.take 8502) 0 = 3736748880 := by rw [rim, crcReg, ← crcF_eq]; decide +kernel
theorem mapImg_ok : (parseMap mapImg).isSome = true := by
  unfold parseMap
  rw [if_pos]
  · rfl
  · exact ⟨by decide +kernel, by decide +kernel, by decide +kernel, by decide +kernel, by decide +kernel, by decide +kernel,
      by decide +kernel, by rw [mapImg_rim]; decide +kernel⟩
theorem tget_cellsAt (bs : List Byte) (a k : Nat) (h : a ≤ k) : tget memDefault (cellsAt a bs) k = bs.getD (k - a) 0 := by
  induction bs generalizing a with
  | nil => rfl
  | cons b bs ih =>
    by_cases e : k = a
    · subst e
      by_cases hb : b = 0
      · rw [cellsAt, if_pos hb]
        have : ∀ (bs : List Byte) (a : Nat), k < a → tget memDefault (cellsAt a bs) k = 0 := by
          intro bs
          induction bs with
          | nil => intro a _; rfl
          | cons c cs ih =>
            intro a h
            rw [cellsAt]
            split
            · exact ih _ (by omega)
            · rw [tget, if_neg (by omega)]; exact ih _ (by omega)
        simp [this bs (k + 1) (by omega), hb]
      · rw [cellsAt, if_neg hb, tget, if_pos rfl]; simp
    · have h' : a + 1 ≤ k := by omega
      have hk : k - a = (k - (a + 1)) + 1 := by omega
      rw [cellsAt]
      split
      · rw [ih _ h', hk, List.getD_cons_succ]
      · rw [tget, if_neg e, ih _ h', hk, List.getD_cons_succ]
theorem tgets_cellsAt (bs : List Byte) (a : Nat) : tgets memDefault (cellsAt a bs) a bs.length = bs := by
  have h : ∀ (n i : Nat), i + n = bs.length → tgets memDefault (cellsAt a bs) (a + i) n = bs.drop i := by
    intro n
    induction n with
    | zero => intro i h; rw [tgets, List.drop_of_length_le (by omega)]
    | succ n ih =>
      intro i h
      have hl : i < bs.length := by omega
      rw [tgets, tget_cellsAt _ _ _ (by omega), List.drop_eq_getElem_cons hl, Nat.add_assoc, ih (i + 1) (by omega), Nat.add_sub_cancel_left]
      simp [List.getD, hl]
  exact h bs.length 0 (by omega)
theorem mapImg_read : (checkingMap 64).hbmRd 64 8506 = mapImg := by
  have h : mapImg.length = 8506 := by decide +kernel
  have h' := tgets_cellsAt mapImg 64
  rwa [h] at h'
theorem checkWave_passes {bs : List Byte} {w : Waveform} {t p g : Nat} (h1 : parseWave bs = some w)
    (h2 : w.band.all WaveBand.ordered = true) (h3 : w.band.all WaveBand.balanced = true)
    (h4 : (List.range 4).all (fun i => adjacentOk (w.bandAt i) (w.bandAt (i + 1))) = true) (h5 : w.gateOk p g = true)
    (h6 : w.panel = t) (h7 : leAt bs 912 4 = rim (bs.take 912) 0) : checkWave bs t p g = (0, some w) := by
  simp [checkWave, h1, h2, h3, h4, h5, h6, h7]
theorem flatImg_rim : rim (flatImg.take 912) 0 = 3529688508 := by rw [rim, crcReg, ← crcF_eq]; decide +kernel
theorem flatImg_check : checkWave flatImg 7 196168 200 = (0, some flatWave) :=
  checkWave_passes (by decide +kernel) (by decide +kernel) (by decide +kernel) (by decide +kernel) (by decide +kernel)
    (by decide +kernel) (by rw [flatImg_rim]; decide +kernel)
theorem flatImg_read : (checkingWave flatImg).hbmRd ((checkingWave flatImg).addr37 PDV.WF_ADDR_LO PDV.WF_ADDR_HI (1 : Fin 2)) 916 = flatImg := by
  have h : flatImg.length = 916 := by decide +kernel
  have a : (checkingWave flatImg).addr37 PDV.WF_ADDR_LO PDV.WF_ADDR_HI (1 : Fin 2) = 64 := by decide +kernel
  have h' := tgets_cellsAt flatImg 64
  rw [h] at h'
  rw [a]
  exact h'
theorem flatImg_sits : (checkingWave flatImg).boot.cfg.panelType = 7 ∧ (checkingWave flatImg).eff_ SCN.LINE_PER = 196168 ∧
    (checkingWave flatImg).rd PDV.GATE_CTL.GATE_DLY (1 : Fin 2) = 200 := by decide +kernel

/-- The hypotheses of PowerSupply, clause by clause. -/
theorem hyps_PowerSupply :
    (∃ (s : State) (f : Fin 2), (s.mode.supply ≠ .on) ∧ (s.pwr.pfFeed[f] = false ∨ s.rdB (feedOkBit f) = true)) ∧
    (∃ (s : State) (f : Fin 2), (s.mode.supply = .on) ∧ (s.pwr.pfFeed[f] = false ∨ s.rdB (feedOkBit f) = true)) ∧
    (∃ (s : State) (f : Fin 2), (s.pwr.pfFeed[f] = true) ∧ (s.rdB (feedOkBit f) = false)) ∧
    (∃ (s : State), (s.mode.supply = .on)) ∧
    (∃ (s : State), (s.mode.supply ≠ .on)) ∧
    (∃ (s : State), (s.mode.supply = .off)) ∧
    (∃ (s : State), (s.mode.supply = .on) ∧ (s.pwr.charger = true) ∧ (s.mode.power ≠ .discharge) ∧ (s.boot.owed = [])) ∧
    (∃ (s : State), (s.mode.supply = .on) ∧ (s.pwr.charger = true) ∧ (s.mode.power ≠ .discharge)) ∧
    (∃ (s : State), (s.mode.supply = .on) ∧ (s.mode.power ≠ .discharge) ∧ (s.rdB SYS.PWR_STS.HOLD_RDY = false)) ∧
    (∃ (s : State), (s.rdB SYS.PWR_STS.HOLD_RDY = true) ∧ (s.rdB SYS.PWR_STS.FEED_A_OK = true) ∧ (s.rdB SYS.PWR_STS.FEED_B_OK = true) ∧ (s.rdB SYS.PWR_STS.FEED_A_OV = false) ∧ (s.rdB SYS.PWR_STS.FEED_B_OV = false) ∧ (s.mode.power ≠ .discharge)) ∧
    (∃ (s : State), (s.rdB SYS.PWR_STS.HOLD_RDY = false ∨ s.rdB SYS.PWR_STS.FEED_A_OK = false ∨ s.rdB SYS.PWR_STS.FEED_B_OK = false ∨ s.rdB SYS.PWR_STS.FEED_A_OV = true ∨ s.rdB SYS.PWR_STS.FEED_B_OV = true ∨ s.mode.power = .discharge)) ∧
    (∃ (s : State), (s.pwr.measuring = false)) ∧
    (∃ (s : State), (s.pwr.measuring = true)) ∧
    (∃ (s : State), (s.pwr.measuring = true)) ∧
    (∃ (s : State), (s.pwr.measuring = true)) :=
  ⟨⟨State.reset, 1, by decide +kernel⟩,
   ⟨on, 1, by decide +kernel⟩,
   ⟨lost, 1, by decide +kernel⟩,
   ⟨on, by decide +kernel⟩,
   ⟨State.reset, by decide +kernel⟩,
   ⟨State.reset, by decide +kernel⟩,
   ⟨on, by decide +kernel⟩,
   ⟨(on.modBoot (fun b => { b with owed := [2] })), by decide +kernel⟩,
   ⟨on, by decide +kernel⟩,
   ⟨charged, by decide +kernel⟩,
   ⟨on, by decide +kernel⟩,
   ⟨charged, by decide +kernel⟩,
   ⟨(charged.modPwr (fun p => { p with measuring := true })), by decide +kernel⟩,
   ⟨(charged.modPwr (fun p => { p with measuring := true })), by decide +kernel⟩,
   ⟨(charged.modPwr (fun p => { p with measuring := true })), by decide +kernel⟩⟩

/-- The hypotheses of PowerFail, clause by clause. -/
theorem hyps_PowerFail :
    (∃ (s : State), (s.mode.supply = .aon) ∧ (s.nvs.cur = none) ∧ (s.listedIn 18 169 = [])) ∧
    (∃ (s : State), (s.mode.supply = .aon) ∧ (s.nvs.cur = none)) ∧
    (∃ (s : State), (s.mode.supply = .off)) ∧
    (∃ (s : State), (s.mode.supply = .on) ∧ (s.mode.power ≠ .discharge) ∧ (s.canHand = false)) ∧
    (∃ (s : State), (s.mode.supply = .on) ∧ (s.mode.power ≠ .discharge) ∧ (s.canHand = true)) ∧
    (∃ (s : State), (s.mode.power = .discharge)) ∧
    (∃ (s : State), (s.mode.supply ≠ .off) ∧ (s.nvs.cur = none)) ∧
    (∃ (s : State), (s.mode.supply = .off)) :=
  ⟨⟨aon, by decide +kernel⟩,
   ⟨aon, by decide +kernel⟩,
   ⟨State.reset, by decide +kernel⟩,
   ⟨full, by decide +kernel⟩,
   ⟨activeLeaf, by decide +kernel⟩,
   ⟨(full.modMode (fun m => { m with power := .discharge })), by decide +kernel⟩,
   ⟨full, by decide +kernel⟩,
   ⟨State.reset, by decide +kernel⟩⟩

/-- The hypotheses of PanelRails, clause by clause. -/
theorem hyps_PanelRails :
    (∃ (s : State) (h : Fin 2), (s.railsAllowed h = true) ∧ (s.zoneStartOk h = true)) ∧
    (∃ (s : State) (h : Fin 2), (s.railsAllowed h = true) ∧ (s.zoneStartOk h = true)) ∧
    (∃ (s : State) (h : Fin 2), (s.railsAllowed h = true) ∧ (s.zoneStartOk h = false) ∧ (s.thm.startLogged = false)) ∧
    (∃ (s : State) (h : Fin 2), (s.panel.presN[h] = true)) ∧
    (∃ (s : State) (h : Fin 2), (s.rdB PDV.RAIL_STS.UP h = true) ∧ (s.rdB PDV.RAIL_STS.FAULT h = false)) ∧
    (∃ (s : State) (h : Fin 2), (s.rdB PDV.RAIL_STS.UP h = false)) ∧
    (∃ (s : State) (h : Fin 2), (s.rdB PDV.RAIL_STS.UP h = false)) ∧
    (∃ (s : State) (h : Fin 2), (s.rdB PDV.RAIL_STS.UP h = true)) ∧
    (∃ (s : State) (h : Fin 2), (s.mode.supply = .on) ∧ (s.mode.power = .sill) ∧ (s.driversLocked h = false) ∧ (s.rdB PDV.RAIL_STS.UP h = false)) :=
  ⟨⟨railsOk, 1, by decide +kernel⟩,
   ⟨railsOk, 1, by decide +kernel⟩,
   ⟨(railsOk.wr THM.ZONE_STS.TEMP 2000 0 2), 1, by decide +kernel⟩,
   ⟨(on.modPanel (fun p => { p with presN := p.presN.set 0 true })), 0, by decide +kernel⟩,
   ⟨full, 1, by decide +kernel⟩,
   ⟨State.reset, 0, by decide +kernel⟩,
   ⟨(on.modPanel (fun p => { p with presN := p.presN.set 0 false })), 0, by decide +kernel⟩,
   ⟨full, 1, by decide +kernel⟩,
   ⟨on, 1, by decide +kernel⟩⟩

/-- The hypotheses of SillAndEnterFull, clause by clause. -/
theorem hyps_SillAndEnterFull :
    (∃ (s : State), (s.mode.supply = .on) ∧ (s.mode.power = .sill) ∧ (s.mode.raster = .off) ∧ (s.rdB SYS.START_STS.CFG_DEF = false) ∧ (s.boot.romBad = false) ∧ (s.rd SYS.START_STS.STAGE < 13)) ∧
    (∃ (s : State), (s.mode.raster = .sill) ∧ (s.clk.line = 8699) ∧ (s.enterReady = false ∨ s.clk.sillFrame % 2 = 0)) ∧
    (∃ (s : State), (s.mode.raster = .sill) ∧ (s.clk.line = 8699) ∧ (s.enterReady = true) ∧ (s.clk.sillFrame % 2 = 1)) ∧
    (∃ (s : State), (s.clk.line ≠ 8699)) ∧
    (∃ (s : State), (s.mode.raster = .weaver)) ∧
    (∃ (s : State), (s.rdB SYS.START_STS.BAL_RST = true) ∧ (s.mode.raster = .sill) ∧ (300 ≤ s.boot.balFrames ∨ (s.boot.balFrames = 299 ∧ s.clk.line = 8699))) ∧
    (∃ (s : State), (s.boot.balFrames < 299 ∨ (s.boot.balFrames = 299 ∧ s.clk.line ≠ 8699))) ∧
    (∃ (s : State), (s.mayEnter = true)) ∧
    (∃ (s : State), (s.rdB SYS.START_STS.BAL_RST = true)) ∧
    (∃ (s : State), (s.boot.hold = false) ∧ (s.clk.sillFrame % 2 = 0 ∨ s.clk.line ≠ 8699)) ∧
    (∃ (s : State), (s.frs.fastPass = true) ∧ (s.handlesIn 0 262144 (wrapBad s.tUs) = []) ∧ (∀ h : Fin 2, s.frs.sample[h].at_ ≠ s.clk.now ∨ s.frs.sample[h].at_ = 0)) ∧
    (∃ (s : State), (s.frs.fastPass = true)) ∧
    (∃ (s : State), (s.frs.fastPass = false)) :=
  ⟨⟨charged, by decide +kernel⟩,
   ⟨sillEnd, by decide +kernel⟩,
   ⟨ready, by decide +kernel⟩,
   ⟨on, by decide +kernel⟩,
   ⟨full, by decide +kernel⟩,
   ⟨balanced, by decide +kernel⟩,
   ⟨on, by decide +kernel⟩,
   ⟨ready, by decide +kernel⟩,
   ⟨balanced, by decide +kernel⟩,
   ⟨on, by decide +kernel⟩,
   ⟨(full.modFrs (fun r => { r with fastPass := true })), by decide +kernel⟩,
   ⟨(full.modFrs (fun r => { r with fastPass := true })), by decide +kernel⟩,
   ⟨full, by decide +kernel⟩⟩

/-- The hypotheses of StartStages, clause by clause. -/
theorem hyps_StartStages :
    (∃ (s : State), (s.startRuns = true) ∧ (s.stageIs 5 = false) ∧ (s.boot.firstSill = true ∨ s.rdB SYS.START_STS.CFG_DEF = true)) ∧
    (∃ (s : State), (s.boot.firstSill = false) ∧ (s.rdB SYS.START_STS.CFG_DEF = false)) ∧
    (∃ (s : State), (s.startRuns = true) ∧ (s.stageIs 5 = false) ∧ (s.boot.firstSill = true ∨ s.rdB SYS.START_STS.CFG_DEF = true) ∧ (s.bmsDir 0 = none) ∧ (s.bmsDir 1 = none)) ∧
    (∃ (s : State) (first : List (BitVec 6)), (s.startRuns = true) ∧ (s.stageIs 6 = false) ∧ (s.rdI THM.ZONE_STS.TEMP 0 5 > 10 * s.rdI THM.ZONE_THR0.CSTOP 0 5) ∧ (s.rdI THM.ZONE_STS.TEMP 0 6 > 10 * s.rdI THM.ZONE_THR0.CSTOP 0 6) ∧ (∀ k : Fin 4, 16 ≤ (first.getD k 0).toNat)) ∧
    (∃ (s : State) (first : List (BitVec 6)) (again : List (BitVec 6)) (k : Fin 4), (s.startRuns = true) ∧ (s.stageIs 6 = false) ∧ (s.rdI THM.ZONE_STS.TEMP 0 5 > 10 * s.rdI THM.ZONE_THR0.CSTOP 0 5) ∧ (s.rdI THM.ZONE_STS.TEMP 0 6 > 10 * s.rdI THM.ZONE_THR0.CSTOP 0 6) ∧ ((first.getD k 0).toNat < 16) ∧ ((again.getD k 0).toNat < 16)) ∧
    (∃ (s : State), (s.startRuns = true) ∧ (s.stageIs 6 = true) ∧ (s.stageIs 7 = false)) ∧
    (∃ (s : State), (s.startRuns = true) ∧ (s.stageIs 5 = true) ∧ (s.stageIs 7 = true) ∧ (s.stageIs 8 = false) ∧ (s.lanesAtRate = true)) ∧
    (∃ (s : State), (s.canLock = true) ∧ (s.timeValid = true) ∧ (s.rasterOk = true)) ∧
    (∃ (s : State), (s.canLock = true) ∧ (s.timeValid = true) ∧ (s.rasterOk = false)) ∧
    (∃ (s : State), (s.timeValid = false)) ∧
    (∃ (s : State), (s.canLock = true) ∧ (s.timeValid = false)) :=
  ⟨⟨(on.modBoot (fun b => { b with firstSill := true })), by decide +kernel⟩,
   ⟨on, by decide +kernel⟩,
   ⟨(on.modBoot (fun b => { b with firstSill := true })), by decide +kernel⟩,
   ⟨on, [16, 63, 16, 16], by decide +kernel⟩,
   ⟨on, [16, 63, 16, 15], [0, 0, 0, 15], 3, by decide +kernel⟩,
   ⟨(stage 0x60), by decide +kernel⟩,
   ⟨(stage 0xE0), by decide +kernel⟩,
   ⟨timed, by decide +kernel⟩,
   ⟨(timed.wr SCN.LINE_PER.PER 1), by decide +kernel⟩,
   ⟨on, by decide +kernel⟩,
   ⟨(sillRuns 0x1E0), by decide +kernel⟩⟩

/-- The hypotheses of PacketRings, clause by clause. -/
theorem hyps_PacketRings :
    (∃ (s : State) (bytes : List Byte) (q : RingQ), (6 ≤ bytes.length) ∧ (beAt bytes 0 2 = 0x5453) ∧ (bits (beAt bytes 2 1) 7 4 = 2) ∧ (s.rdB ING.RING_CFG.ENA 0 (beAt bytes 4 2) = true) ∧ ((s.ringQ (beAt bytes 4 2)) = q) ∧ (q.inHbm = false) ∧ (s.mode.sec ≠ .quarantined) ∧ (s.mode.power ≠ .shutter) ∧ (q.fill + ringEntries bytes.length ≤ q.size)) ∧
    (∃ (s : State) (udp : BitVec 16) (bytes : List Byte) (q : RingQ), (6 ≤ bytes.length) ∧ (beAt bytes 0 2 = 0x5453) ∧ (bits (beAt bytes 2 1) 7 4 = 2) ∧ (s.rdB ING.RING_CFG.ENA 0 (beAt bytes 4 2) = true) ∧ ((s.ringQ (beAt bytes 4 2)) = q) ∧ (q.inHbm = false) ∧ (s.mode.sec ≠ .quarantined) ∧ (s.mode.power ≠ .shutter) ∧ (q.fill + ringEntries bytes.length ≤ q.size) ∧ (udp.toNat = s.rd ING.UDP_PORT.PORT)) ∧
    (∃ (s : State) (bytes : List Byte), (s.rdB ING.RING_CFG.ENA 0 (beAt bytes 4 2) = true) ∧ ((s.ringQ (beAt bytes 4 2)).inHbm = true) ∧ (s.mem.sealed = true) ∧ (s.landHeld + 64 * ringEntries bytes.length ≤ 262144) ∧ (s.mode.sec ≠ .quarantined) ∧ (s.mode.power ≠ .shutter)) ∧
    (∃ (s : State) (bytes : List Byte) (q : RingQ), (6 ≤ bytes.length) ∧ (beAt bytes 0 2 = 0x5453) ∧ (bits (beAt bytes 2 1) 7 4 = 2) ∧ (s.rdB ING.RING_CFG.ENA 0 (beAt bytes 4 2) = true) ∧ ((s.ringQ (beAt bytes 4 2)) = q) ∧ (q.inHbm = false) ∧ (s.mode.sec ≠ .quarantined) ∧ (s.mode.power ≠ .shutter) ∧ (q.size < q.fill + ringEntries bytes.length)) ∧
    (∃ (s : State) (bytes : List Byte), (beAt bytes 0 2 ≠ 0x5453 ∨ (bits (beAt bytes 2 1) 7 4 ≠ 2 ∧ bits (beAt bytes 2 1) 7 4 ≠ 1) ∨ s.rdB ING.RING_CFG.ENA 0 (beAt bytes 4 2) = false) ∧ (s.mem.sealed = false) ∧ (s.mode.sec ≠ .quarantined)) ∧
    (∃ (s : State) (udp : BitVec 16) (fragment : Bool) (v6 : Bool) (sum : UdpSum), (fragment = true ∨ sum = .bad ∨ (sum = .zero ∧ v6 = true)) ∧ (udp.toNat = s.rd ING.UDP_PORT.PORT) ∧ (s.mode.sec ≠ .quarantined)) ∧
    (∃ (s : State) (udp : BitVec 16), (udp.toNat ≠ s.rd ING.UDP_PORT.PORT)) ∧
    (∃ (s : State) (path : Path) (v : BitVec 32), (s.takes path ING.PAGE 0x10C = true) ∧ (s.rdB ING.RING_CFG.ENA 0 (s.ringSel path) = false) ∧ ((s.ringQ (s.ringSel path)).fill = 0) ∧ (4 ≤ bits v.toNat 12 8) ∧ (bits v.toNat 12 8 ≤ 16)) ∧
    (∃ (s : State) (path : Path) (v : BitVec 32), (s.takes path ING.PAGE 0x10C = true) ∧ (s.rdB ING.RING_CFG.ENA 0 (s.ringSel path) = false) ∧ ((s.ringQ (s.ringSel path)).fill = 0) ∧ (bits v.toNat 12 8 < 4 ∨ 16 < bits v.toNat 12 8)) ∧
    (∃ (s : State) (path : Path), (s.takes path ING.PAGE 0x10C = true)) ∧
    (∃ (s : State) (path : Path), (s.takes path ING.PAGE 0x154 = true) ∧ (s.streamBusy (s.rd ING.STREAM_SEL.STREAM 0 path.num) = false)) ∧
    (∃ (s : State) (path : Path), (s.takes path ING.PAGE 0x154 = true) ∧ (s.streamBusy (s.rd ING.STREAM_SEL.STREAM 0 path.num) = true)) :=
  ⟨⟨scene17, fillPkt, ⟨false, 0x03000000, 16, 0, []⟩, by decide +kernel⟩,
   ⟨scene17, 17250, fillPkt, ⟨false, 0x03000000, 16, 0, []⟩, by decide +kernel⟩,
   ⟨((scene17.setRingQ 5 ⟨true, 64, 16, 0, []⟩).modMem (fun m => { m with sealed := true })), fillPkt, by decide +kernel⟩,
   ⟨(scene17.setRingQ 5 ⟨false, 0x03000000, 16, 0, [(0, 15)]⟩), fillPkt, ⟨false, 0x03000000, 16, 0, [(0, 15)]⟩, by decide +kernel⟩,
   ⟨on, fillPkt, by decide +kernel⟩,
   ⟨scene17, 17250, false, true, .zero, by decide +kernel⟩,
   ⟨scene17, 17251, by decide +kernel⟩,
   ⟨on, .mgmt, 0x1000, by decide +kernel⟩,
   ⟨on, .fabric, 0x1100, by decide +kernel⟩,
   ⟨((landed fillPkt).wr ING.RING_SEL.RING 5 0 1), .mgmt, by decide +kernel⟩,
   ⟨on, .mgmt, by decide +kernel⟩,
   ⟨(holding (upd17 .tile .staged 0 [1, 2] [])), .mgmt, by decide +kernel⟩⟩

/-- The hypotheses of TilePackets, clause by clause. -/
theorem hyps_TilePackets :
    (∃ (s : State) (ring : BitVec 16) (p : Pkt) (ip : Nat × Plane), (s.front ring.toNat = some p) ∧ (s.checkPkt ring.toNat none p = none) ∧ (p.type = 0) ∧ (p.ver = 2) ∧ ((s.checkTile p).toOption = some ip)) ∧
    (∃ (s : State) (ring : BitVec 16) (p : Pkt) (u : Update) (k : Nat) (n : Nat), (s.mode.sec ≠ .quarantined) ∧ (s.upd ring.toNat = some u) ∧ (u.phase = .gathering) ∧ ((s.ringQ ring.toNat).pkts[u.pkts]? = some (k, n)) ∧ (s.mem.sealed = false) ∧ (s.mayServe ring.toNat = true) ∧ (s.pktBad ring.toNat k n = false) ∧ (s.pktAt ring.toNat k n = p) ∧ (p.ver = 2) ∧ (p.type = 0) ∧ (u.isNext p false = true) ∧ (s.checkPkt ring.toNat (some u) p = none)) ∧
    (∃ (s : State) (ring : BitVec 16) (p : Pkt) (c : Nat), (s.front ring.toNat = some p) ∧ (s.checkPkt ring.toNat none p = some c) ∧ (p.ver = 2) ∧ (p.type = 0)) ∧
    (∃ (s : State) (ring : BitVec 16) (p : Pkt) (ip : Nat × Plane), (s.front ring.toNat = some p) ∧ (s.checkPkt ring.toNat none p = none) ∧ (p.type = 0) ∧ (p.ver = 2) ∧ (s.owner p.tile = some ip) ∧ (s.timeValid = false) ∧ ((s.entry p.tile).state ≠ .noData) ∧ (sdiff32 p.seq (s.entry p.tile).seq < 0)) ∧
    (∃ (s : State) (ring : BitVec 16) (p : Pkt) (ip : Nat × Plane), (s.front ring.toNat = some p) ∧ (s.checkPkt ring.toNat none p = none) ∧ (p.ver = 1) ∧ ((s.checkTile p).toOption = some ip)) ∧
    (∃ (s : State) (ring : BitVec 16) (p : Pkt) (c : Nat), (s.front ring.toNat = some p) ∧ (s.checkPkt ring.toNat none p = some c) ∧ (p.ver = 1)) :=
  ⟨⟨(landed fragPkt), 5, (pktOf 0 2 (fragPkt)), (17, tile17), by decide +kernel⟩,
   ⟨(((landed fragPkt).landIn 0 64 frag2Pkt).setUpd 5 (some fragUpd)), 5, (pktOf 0 2 (frag2Pkt)), fragUpd, 3, 3, by decide +kernel⟩,
   ⟨(landed (let b := fillPkt; b.set 49 (b.getD 49 0 + 1))), 5, (pktOf 0 2 ((let b := fillPkt; b.set 49 (b.getD 49 0 + 1)))), 2, by decide +kernel⟩,
   ⟨(landed (tst 0x20 0x10 16414 0x1A29 0 183 0 4 [1, 2, 3, 4])), 5, (pktOf 0 2 (tst 0x20 0x10 16414 0x1A29 0 183 0 4 [1, 2, 3, 4])), (17, tile17), by decide +kernel⟩,
   ⟨((scene17.wrB ING.T5_CTL.ENA true).landIn 0 64 t5Pkt), 5, (pktOf 0 2 (t5Pkt)), (17, tile17), by decide +kernel⟩,
   ⟨((scene17.wrB ING.T5_CTL.ENA true).landIn 0 64 (let b := t5Pkt; b.set 34 (b.getD 34 0 + 1))), 5, (pktOf 0 2 ((let b := t5Pkt; b.set 34 (b.getD 34 0 + 1)))), 2, by decide +kernel⟩⟩

/-- The hypotheses of MarkAndEditPackets, clause by clause. -/
theorem hyps_MarkAndEditPackets :
    (∃ (s : State) (ring : BitVec 16) (p : Pkt) (ip : Nat × Plane), (s.front ring.toNat = some p) ∧ (s.checkPkt ring.toNat none p = none) ∧ (p.type = 3) ∧ (p.ver = 2) ∧ ((s.checkTile p).toOption = some ip)) ∧
    (∃ (s : State) (ring : BitVec 16) (p : Pkt) (ip : Nat × Plane), (s.front ring.toNat = some p) ∧ (s.checkPkt ring.toNat none p = none) ∧ (p.type = 4) ∧ (p.ver = 2) ∧ ((s.checkTile p).toOption = some ip)) ∧
    (∃ (s : State) (ring : BitVec 16) (p : Pkt) (c : Nat), (s.front ring.toNat = some p) ∧ (s.checkPkt ring.toNat none p = some c) ∧ (p.ver = 2) ∧ (p.type = 3)) ∧
    (∃ (s : State) (ring : BitVec 16) (p : Pkt) (c : Nat), (s.front ring.toNat = some p) ∧ (s.checkPkt ring.toNat none p = some c) ∧ (p.ver = 2) ∧ (p.type = 4)) ∧
    (∃ (s : State) (ring : BitVec 16) (p : Pkt), (s.front ring.toNat = some p) ∧ (s.checkPkt ring.toNat none p = none) ∧ (p.type = 1) ∧ (p.ver = 2) ∧ (s.rdB ING.RING_CFG.EDIT_OK 0 ring.toNat = true) ∧ (0 < sdiff32 p.tile s.editRef) ∧ (s.scene.edit = none)) ∧
    (∃ (s : State) (ring : BitVec 16) (p : Pkt) (e : EditSet), (s.front ring.toNat = some p) ∧ (s.checkPkt ring.toNat none p = none) ∧ (p.type = 2) ∧ (p.ver = 2) ∧ (s.rdB ING.RING_CFG.EDIT_OK 0 ring.toNat = true) ∧ (0 < sdiff32 p.tile s.editRef) ∧ (s.scene.edit = some e) ∧ (e.id = p.tile) ∧ (s.scene.closed.length < 4)) ∧
    (∃ (s : State) (ring : BitVec 16) (p : Pkt), (s.front ring.toNat = some p) ∧ (s.checkPkt ring.toNat none p = none) ∧ (p.type = 2) ∧ (p.ver = 2) ∧ (s.rdB ING.RING_CFG.EDIT_OK 0 ring.toNat = true) ∧ (0 < sdiff32 p.tile s.editRef) ∧ (s.scene.edit.map (·.id) = some p.tile) ∧ (4 ≤ s.scene.closed.length)) ∧
    (∃ (s : State) (ring : BitVec 16) (p : Pkt), (s.front ring.toNat = some p) ∧ (s.checkPkt ring.toNat none p = none) ∧ (p.type = 1) ∧ (p.ver = 2) ∧ (s.rdB ING.RING_CFG.EDIT_OK 0 ring.toNat = false)) ∧
    (∃ (s : State) (ring : BitVec 16) (p : Pkt), (s.front ring.toNat = some p) ∧ (s.checkPkt ring.toNat none p = none) ∧ (p.type = 2) ∧ (p.ver = 2) ∧ (s.rdB ING.RING_CFG.EDIT_OK 0 ring.toNat = false)) :=
  ⟨⟨(landed restampPkt), 5, (pktOf 0 2 (restampPkt)), (17, tile17), by decide +kernel⟩,
   ⟨(landed invalPkt), 5, (pktOf 0 2 (invalPkt)), (17, tile17), by decide +kernel⟩,
   ⟨(landed (let b := restampPkt; b.set 36 (b.getD 36 0 + 1))), 5, (pktOf 0 2 ((let b := restampPkt; b.set 36 (b.getD 36 0 + 1)))), 2, by decide +kernel⟩,
   ⟨(landed (let b := invalPkt; b.set 36 (b.getD 36 0 + 1))), 5, (pktOf 0 2 ((let b := invalPkt; b.set 36 (b.getD 36 0 + 1)))), 2, by decide +kernel⟩,
   ⟨(landed editPkt), 5, (pktOf 0 2 (editPkt)), by decide +kernel⟩,
   ⟨assembling, 5, (pktOf 0 2 (closePkt)), { clear17 with count := 0, frame := 0 }, by decide +kernel⟩,
   ⟨(assembling.modScene (fun c => { c with closed := [{ clear17 with id := 1 }, { clear17 with id := 2 }, { clear17 with id := 3 }, { clear17 with id := 4 }] })), 5, (pktOf 0 2 (closePkt)), by decide +kernel⟩,
   ⟨((landed editPkt).wrB ING.RING_CFG.EDIT_OK false 0 5), 5, (pktOf 0 2 (editPkt)), by decide +kernel⟩,
   ⟨((landed closePkt).wrB ING.RING_CFG.EDIT_OK false 0 5), 5, (pktOf 0 2 (closePkt)), by decide +kernel⟩⟩

/-- The hypotheses of EditSets, clause by clause. -/
theorem hyps_EditSets :
    (∃ (s : State) (i : Nat), (s.scene.closed.any (·.checking) = false) ∧ (s.scene.closed.findIdx? (fun e => !e.passed) = some i)) ∧
    (∃ (s : State) (e : EditSet), (s.scene.closed = [e]) ∧ (e.checking = true) ∧ (e.failures s.tabs = []) ∧ (s.editLate e [] = false)) ∧
    (∃ (s : State) (e : EditSet) (r : Nat), (s.scene.closed = [e]) ∧ (e.checking = true) ∧ ((e.failures s.tabs).min? = some r)) ∧
    (∃ (s : State) (e : EditSet), (s.mode.raster = .weaver) ∧ (s.clk.line = 8640) ∧ (s.scene.closed = [e]) ∧ (e.passed = true) ∧ (sdiff32 e.frame s.frameAfter ≤ 0)) ∧
    (∃ (s : State), (s.clk.line ≠ 8640)) ∧
    (∃ (s : State) (n : Nat), (s.scene.sweepEpoch = some n)) :=
  ⟨⟨closed7, 0, by decide +kernel⟩,
   ⟨(checked7 clear17), { clear17 with checking := true }, by decide +kernel⟩,
   ⟨(checked7 { clear17 with count := 2 }), { clear17 with count := 2, checking := true }, 1, by decide +kernel⟩,
   ⟨applying, { clear17 with passed := true }, by decide +kernel⟩,
   ⟨scene17, by decide +kernel⟩,
   ⟨(scene17.modScene (fun c => { c with epoch := [(17, 3)], sweepEpoch := some 0 })), 0, by decide +kernel⟩⟩

/-- The hypotheses of IngestAndCommits, clause by clause. -/
theorem hyps_IngestAndCommits :
    (∃ (s : State) (ring : BitVec 16) (u : Update), (s.upd ring.toNat = some u) ∧ (u.phase = .passed) ∧ (s.rd ING.STAGE_FILL.FILL + u.units ≤ 65536)) ∧
    (∃ (s : State) (ring : BitVec 16) (u : Update), (s.upd ring.toNat = some u) ∧ (65536 < s.rd ING.STAGE_FILL.FILL + u.units)) ∧
    (∃ (s : State) (ring : BitVec 16) (u : Update) (p : Plane), (s.upd ring.toNat = some u) ∧ (u.kind = .tile) ∧ (u.phase = .staged) ∧ (u.enc = 1) ∧ (u.fmt = p.format) ∧ (fmtPlait p.format = false) ∧ (u.payload.length = fmtTileBytes u.fmt) ∧ (s.mem.sealed = false) ∧ (s.updPlane u = some p) ∧ (64 * fmtBpp p.format ≤ p.pitch) ∧ (∀ d : Fin 2, s.rd WV.RSV_STS.IN_USE d + (s.tileCells u.plane p u.handle).length ≤ 768)) ∧
    (∃ (s : State) (ring : BitVec 16) (u : Update), (s.upd ring.toNat = some u) ∧ (u.kind = .tile) ∧ (u.phase = .staged) ∧ (u.enc = 1) ∧ (u.payload.length ≠ fmtTileBytes u.fmt) ∧ (s.mem.sealed = false)) ∧
    (∃ (s : State) (ring : BitVec 16) (u : Update), (s.upd ring.toNat = some u) ∧ (u.kind = .tile) ∧ (u.phase = .staged) ∧ (u.enc = 1) ∧ (u.payload.length = fmtTileBytes u.fmt) ∧ (fmtPlait u.fmt = true) ∧ (plaitSlotOk u.fmt u.payload = false) ∧ (s.mem.sealed = false)) ∧
    (∃ (s : State) (r : Nat) (u : Update) (p : Plane), (s.commits = some (r, u)) ∧ (u.kind = .tile) ∧ ((s.commitCheck u).toOption = some p)) ∧
    (∃ (s : State) (r : Nat) (u : Update) (p : Plane), (s.commits = some (r, u)) ∧ (u.kind = .restamp) ∧ ((s.commitCheck u).toOption = some p) ∧ ((s.entry u.handle).state = .content)) ∧
    (∃ (s : State) (r : Nat) (u : Update) (p : Plane), (s.commits = some (r, u)) ∧ (u.kind = .invalidate) ∧ ((s.commitCheck u).toOption = some p)) ∧
    (∃ (s : State) (r : Nat) (u : Update) (p : Plane), (s.commits = some (r, u)) ∧ (u.kind = .restamp) ∧ ((s.commitCheck u).toOption = some p) ∧ ((s.entry u.handle).state ≠ .content)) ∧
    (∃ (s : State) (r : Nat) (u : Update), (s.commits = some (r, u)) ∧ (u.kind = .restamp) ∧ (s.updPlane u = none)) ∧
    (∃ (s : State) (r : Nat) (u : Update), (s.commits = some (r, u)) ∧ (u.kind = .tile) ∧ (s.updPlane u = none)) :=
  ⟨⟨(holding (upd17 .tile .passed 0 [1, 2] [])), 5, upd17 .tile .passed 0 [1, 2] [], by decide +kernel⟩,
   ⟨((holding (upd17 .tile .passed 0 [1, 2] [])).wr ING.STAGE_FILL.FILL 65536), 5, upd17 .tile .passed 0 [1, 2] [], by decide +kernel⟩,
   ⟨(rgb.setUpd 5 (some rgbUpd)), 5, rgbUpd, rgbPlane, by decide +kernel⟩,
   ⟨((holding (upd17 .tile .staged 1 [1] [])).wr ING.STAGE_FILL.FILL 1), 5, upd17 .tile .staged 1 [1] [], by decide +kernel⟩,
   ⟨((holding { upd17 .tile .staged 1 (List.replicate 64 255 ++ zeros 16384) [] with fmt := 0x10 }).wr ING.STAGE_FILL.FILL 257), 5, { upd17 .tile .staged 1 (List.replicate 64 255 ++ zeros 16384) [] with fmt := 0x10 }, by decide +kernel⟩,
   ⟨(holding (upd17 .tile .written 1 [] [])), 5, upd17 .tile .written 1 [] [], tile17, by decide +kernel⟩,
   ⟨(holding (upd17 .restamp .written 0 [] [])), 5, upd17 .restamp .written 0 [] [], tile17, by decide +kernel⟩,
   ⟨(holding (upd17 .invalidate .written 0 [] [])), 5, upd17 .invalidate .written 0 [] [], tile17, by decide +kernel⟩,
   ⟨((holding (upd17 .restamp .written 0 [] [])).modScene (fun c => { c with fresh := [] })), 5, upd17 .restamp .written 0 [] [], tile17, by decide +kernel⟩,
   ⟨((holding (upd17 .restamp .written 0 [] [])).modScene (fun c => { c with epoch := [(17, 3)] })), 5, upd17 .restamp .written 0 [] [], by decide +kernel⟩,
   ⟨((holding (upd17 .tile .written 1 [] [])).modScene (fun c => { c with epoch := [(17, 3)] })), 5, upd17 .tile .written 1 [] [], by decide +kernel⟩⟩

/-- The hypotheses of CoilLanes, clause by clause. -/
theorem hyps_CoilLanes :
    (∃ (s : State) (r : Nat) (n : Nat) (rest : List Nat) (u : Update), (s.scene.readyOrder = r :: rest) ∧ (s.upd r = some u) ∧ (u.phase = .staged) ∧ (u.stream = 0) ∧ (s.laneFor u = some n)) ∧
    (∃ (s : State) (r : Nat) (n : Nat) (rest : List Nat) (u : Update) (c : CoilCtx), (s.scene.readyOrder = r :: rest) ∧ (s.upd r = some u) ∧ (u.phase = .staged) ∧ (u.stream ≠ 0) ∧ (s.laneFor u = some n) ∧ (s.laneOf u.stream = some n → (s.decLane n).ctx = some (u.stream, c)) ∧ (s.laneOf u.stream = none → (s.decLane n).ctx = none ∧ (s.ctxLoad u.stream).toOption = some c)) ∧
    (∃ (s : State) (lane : Fin 32) (r : Nat) (u : Update) (out : List Byte) (c : CoilCtx), ((s.decLane lane).ring = some r) ∧ (s.upd r = some u) ∧ ((s.decodeRun (s.decLane lane) u).toOption = some (out, c))) ∧
    (∃ (s : State) (lane : Fin 32) (r : Nat) (blk : Nat) (u : Update) (w : CoilWhy), ((s.decLane lane).ring = some r) ∧ (s.upd r = some u) ∧ (failureOf (s.decodeRun (s.decLane lane) u) = some (w, blk))) ∧
    (∃ (s : State) (path : Path) (n : Nat), (s.takes path COL.PAGE 0x114 = true) ∧ (s.streamDecodes (s.rd COL.STRM_SEL.STREAM 0 path.num) = false) ∧ (s.rd COL.STRM_SEL.STREAM 0 path.num ≠ 0) ∧ ((s.laneOf (s.rd COL.STRM_SEL.STREAM 0 path.num)) = some n)) ∧
    (∃ (s : State) (path : Path), (s.takes path COL.PAGE 0x114 = true) ∧ (s.streamDecodes (s.rd COL.STRM_SEL.STREAM 0 path.num) = false) ∧ (s.rd COL.STRM_SEL.STREAM 0 path.num ≠ 0) ∧ ((s.laneOf (s.rd COL.STRM_SEL.STREAM 0 path.num)) = none)) ∧
    (∃ (s : State) (path : Path) (n : Nat) (c : CoilCtx), (s.takes path COL.PAGE 0x114 = true) ∧ (s.streamDecodes (s.rd COL.STRM_SEL.STREAM 0 path.num) = false) ∧ (s.rd COL.STRM_SEL.STREAM 0 path.num ≠ 0) ∧ ((s.laneOf (s.rd COL.STRM_SEL.STREAM 0 path.num)) = some n) ∧ ((s.decLane n).ctx = some (s.rd COL.STRM_SEL.STREAM 0 path.num, c))) ∧
    (∃ (s : State) (path : Path), (s.takes path COL.PAGE 0x114 = true) ∧ (s.streamDecodes (s.rd COL.STRM_SEL.STREAM 0 path.num) = true)) ∧
    (∃ (s : State) (path : Path), (s.takes path COL.PAGE 0x114 = true) ∧ (s.streamDecodes (s.rd COL.STRM_SEL.STREAM 0 path.num) = true)) ∧
    (∃ (s : State) (path : Path) (hi : Bool), (s.takes path COL.PAGE (0x100 + 4 * b2n hi) = true) ∧ (∀ k : Fin 32, (s.decLane k).ring = none ∧ (s.decLane k).ctx = none)) ∧
    (∃ (s : State) (path : Path) (hi : Bool) (k : Fin 32), (s.takes path COL.PAGE (0x100 + 4 * b2n hi) = true) ∧ ((s.decLane k).ctx.isSome = true ∨ (s.decLane k).ring.isSome = true)) :=
  ⟨⟨(queued 0), 5, 0, [], upd17 .tile .staged 0 [1, 2] [], by decide +kernel⟩,
   ⟨(queued 3), 5, 0, [], { upd17 .tile .staged 0 [1, 2] [] with stream := 3 }, ⟨[], 0, none⟩, by decide +kernel⟩,
   ⟨decoded64, 31, 5, upd64, zeros 8192, upd64ctx, by decide +kernel⟩,
   ⟨(decoding rawBody), 31, 5, 0, upd17 .tile .decoding 0 rawBody [], .short, by decide +kernel⟩,
   ⟨resident3, .mgmt, 2, by decide +kernel⟩,
   ⟨(on.wr COL.STRM_SEL.STREAM 4095 0 1), .mgmt, by decide +kernel⟩,
   ⟨resident3, .mgmt, 2, ⟨[7, 8], 10, none⟩, by decide +kernel⟩,
   ⟨((holding { upd17 .tile .decoding 0 [1] [] with stream := 3 }).wr COL.STRM_SEL.STREAM 3 0 4), .fabric, by decide +kernel⟩,
   ⟨((holding { upd17 .tile .decoding 0 [1] [] with stream := 3 }).wr COL.STRM_SEL.STREAM 3 0 4), .fabric, by decide +kernel⟩,
   ⟨on, .mgmt, true, by decide +kernel⟩,
   ⟨resident3, .mgmt, false, 2, by decide +kernel⟩⟩

/-- The hypotheses of EncodeJobs, clause by clause. -/
theorem hyps_EncodeJobs :
    (∃ (s : State) (path : Path), (s.takes path COL.PAGE 0x14C = true) ∧ (s.rdB COL.ENC_STS.BUSY 0 (s.rd COL.ENC_SEL.LANE 0 path.num) = false) ∧ (s.hotThrottle = false) ∧ (s.mode.sec ≠ .quarantined)) ∧
    (∃ (s : State) (path : Path), (s.takes path COL.PAGE 0x14C = true) ∧ (s.rdB COL.ENC_STS.BUSY 0 (s.rd COL.ENC_SEL.LANE 0 path.num) = true)) ∧
    (∃ (s : State) (lane : Fin 4) (j : EncJob), (tget (fun _ => none) s.coil.enc lane = some j) ∧ (s.mem.sealed = false) ∧ (j.src + j.len ≤ hbmSize) ∧ (s.firstBad j.src j.len = none) ∧ ((encStream j (s.hbmRd j.src j.len)).length ≤ j.cap) ∧ (j.dst + j.cap ≤ hbmSize)) ∧
    (∃ (s : State) (lane : Fin 4) (j : EncJob), (tget (fun _ => none) s.coil.enc lane = some j) ∧ (s.mem.sealed = false) ∧ (j.src + j.len ≤ hbmSize) ∧ (s.firstBad j.src j.len = none) ∧ (j.cap < (encStream j (s.hbmRd j.src j.len)).length) ∧ (j.dst + j.cap ≤ hbmSize)) ∧
    (∃ (s : State) (lane : Fin 4) (j : EncJob) (k : Nat), (tget (fun _ => none) s.coil.enc lane = some j) ∧ (s.mem.sealed = false) ∧ (s.firstBad j.src j.len = some k)) ∧
    (∃ (s : State) (lane : Fin 4) (j : EncJob), (tget (fun _ => none) s.coil.enc lane = some j) ∧ (s.mem.sealed = false) ∧ (hbmSize < j.src + j.len)) ∧
    (∃ (s : State), (s.mem.sealed = true)) :=
  ⟨⟨on, .mgmt, by decide +kernel⟩,
   ⟨((encJob1 16 64).wr COL.ENC_SEL.LANE 1 0 1), .mgmt, by decide +kernel⟩,
   ⟨(encJob1 16 22), 1, ⟨64, 16, 4096, 22, 0, 10⟩, by decide +kernel⟩,
   ⟨(encJob1 16 21), 1, ⟨64, 16, 4096, 21, 0, 10⟩, by decide +kernel⟩,
   ⟨((encJob1 64 100).spoil 2), 1, ⟨64, 64, 4096, 100, 0, 10⟩, 2, by decide +kernel⟩,
   ⟨(on.modCoil (fun c => { c with enc := [(1, some ⟨103079215103, 2, 4096, 100, 0, 10⟩)] })), 1, ⟨103079215103, 2, 4096, 100, 0, 10⟩, by decide +kernel⟩,
   ⟨((encJob1 16 22).modMem (fun m => { m with sealed := true })), by decide +kernel⟩⟩

/-- The hypotheses of WeaverSettings, clause by clause. -/
theorem hyps_WeaverSettings :
    (∃ (s : State) (path : Path) (half : Fin 2), (s.takes path (WV.PAGE + half.val) 0x104 = true) ∧ (s.rdB WV.MAP_CTL.SWAP half = false)) ∧
    (∃ (s : State) (path : Path) (half : Fin 2), (s.takes path (WV.PAGE + half.val) 0x104 = true) ∧ (s.rdB WV.MAP_CTL.SWAP half = true)) ∧
    (∃ (s : State) (half : Fin 2) (m : WeaveMap), (s.wv.mapBusy[half] = true) ∧ (s.mem.sealed = false) ∧ (s.wv.mapAddr[half] + 8506 ≤ hbmSize) ∧ (s.firstBad s.wv.mapAddr[half] 8506 = none) ∧ (parseMap (s.hbmRd s.wv.mapAddr[half] 8506) = some m)) ∧
    (∃ (s : State) (half : Fin 2), (s.wv.mapBusy[half] = true) ∧ (s.mem.sealed = false) ∧ (s.wv.mapAddr[half] + 8506 ≤ hbmSize) ∧ (s.firstBad s.wv.mapAddr[half] 8506 = none) ∧ (parseMap (s.hbmRd s.wv.mapAddr[half] 8506) = none)) ∧
    (∃ (s : State) (half : Fin 2), (s.wv.mapBusy[half] = true) ∧ (s.mem.sealed = false) ∧ (hbmSize < s.wv.mapAddr[half] + 8506 ∨ s.firstBad s.wv.mapAddr[half] 8506 ≠ none)) ∧
    (∃ (s : State) (half : Fin 2), (s.wv.mapBusy[half] = false ∨ s.mem.sealed = true)) ∧
    (∃ (s : State) (path : Path) (half : Fin 2), (s.takes path (WV.PAGE + half.val) 0x138 = true) ∧ (s.rd WV.LUT_SEL.INDEX half path.num ≤ curveLast (s.rd WV.LUT_SEL.TABLE half path.num))) ∧
    (∃ (s : State) (path : Path) (half : Fin 2), (s.takes path (WV.PAGE + half.val) 0x138 = true) ∧ (curveLast (s.rd WV.LUT_SEL.TABLE half path.num) < s.rd WV.LUT_SEL.INDEX half path.num)) ∧
    (∃ (s : State) (path : Path), (s.shows path = true)) ∧
    (∃ (s : State) (path : Path) (half : Fin 2), (s.takes path (WV.PAGE + half.val) 0x13C = true) ∧ (s.rdB WV.LUT_CTL.PENDING half = false)) ∧
    (∃ (s : State) (path : Path) (half : Fin 2), (s.takes path (WV.PAGE + half.val) 0x13C = true) ∧ (s.rdB WV.LUT_CTL.PENDING half = true)) ∧
    (∃ (s : State) (path : Path) (half : Fin 2), (s.takes path (WV.PAGE + half.val) 0x120 = true) ∧ (s.mode.power = .sill) ∧ (s.rd WV.OUT_CTL half < 8)) ∧
    (∃ (s : State) (path : Path) (half : Fin 2) (v : BitVec 32), (s.takes path (WV.PAGE + half.val) 0x120 = true) ∧ (s.mode.power ≠ .sill) ∧ (bits v.toNat 0 0 ≠ s.rd WV.OUT_CTL.DEPTH half)) ∧
    (∃ (s : State) (path : Path) (half : Fin 2), (s.takes path (WV.PAGE + half.val) 0x160 = true)) :=
  ⟨⟨on, .mgmt, 1, by decide +kernel⟩,
   ⟨(checkingMap 64), .mgmt, 1, by decide +kernel⟩,
   ⟨(checkingMap 64), 1, ((parseMap mapImg).get mapImg_ok), by decide +kernel, by decide +kernel, by decide +kernel, by decide +kernel, (congrArg parseMap mapImg_read).trans (Option.some_get _).symm⟩,
   ⟨(checkingMap 0), 1, by decide +kernel⟩,
   ⟨((checkingMap 64).spoil 5), 1, by decide +kernel⟩,
   ⟨on, 0, by decide +kernel⟩,
   ⟨((on.wrB WV.LUT_SEL.AUTO true 1 1).wr WV.LUT_SEL.INDEX 1023 1 1), .mgmt, 1, by decide +kernel⟩,
   ⟨(on.wr WV.LUT_SEL.INDEX 1024 0 1), .mgmt, 0, by decide +kernel⟩,
   ⟨((on.wrB WV.LUT_SEL.AUTO true 1 1).wr WV.LUT_SEL.INDEX 1024 1 1), .mgmt, by decide +kernel⟩,
   ⟨on, .mgmt, 1, by decide +kernel⟩,
   ⟨(on.wrB WV.LUT_CTL.PENDING true 1), .mgmt, 1, by decide +kernel⟩,
   ⟨on, .mgmt, 1, by decide +kernel⟩,
   ⟨full, .mgmt, 1, 1, by decide +kernel⟩,
   ⟨on, .fabric, 1, by decide +kernel⟩⟩

/-- The hypotheses of BandCache, clause by clause. -/
theorem hyps_BandCache :
    (∃ (s : State) (half : Fin 2) (l : Nat) (f : Nat), (s.nextLine = some (l, f)) ∧ (s.frs.sample[half].line = l) ∧ (s.frs.sample[half].frame = f) ∧ (s.clk.now ≤ s.frs.sample[half].at_ + 8)) ∧
    (∃ (s : State), (s.nextLine = none)) ∧
    (∃ (s : State) (half : Fin 2), (s.frs.sample[half].at_ + 8 < s.clk.now ∨ s.nextLine ≠ some (s.frs.sample[half].line, s.frs.sample[half].frame))) ∧
    (∃ (s : State), (s.cacheRuns = true) ∧ (s.mem.sealed = false) ∧ (s.prefillBand < 540)) ∧
    (∃ (s : State), (s.mode.raster = .off ∨ s.mem.sealed = true)) ∧
    (∃ (s : State) (k : BitVec 32) (p : Plane), (k.toNat ∈ s.wv.wanted) ∧ (s.plane (cellPlane k.toNat).1 = some p) ∧ (fmtPlait p.format = false) ∧ (s.ram.bad = [])) ∧
    (∃ (s : State) (k : BitVec 32) (p : Plane), (k.toNat ∈ s.wv.wanted) ∧ (s.plane (cellPlane k.toNat).1 = some p) ∧ (s.badBursts (s.cellRanges p (b2n (s.entry (p.tileBase + (cellPlane k.toNat).2.1 / 4 * p.wt + (cellPlane k.toNat).2.2)).slot) (cellPlane k.toNat).2.1 (cellPlane k.toNat).2.2) ≠ [])) ∧
    (∃ (s : State) (k : BitVec 32) (p : Plane), (k.toNat ∈ s.wv.wanted) ∧ (s.plane (cellPlane k.toNat).1 = some p) ∧ (fmtPlait p.format = true) ∧ (s.ram.bad = [])) ∧
    (∃ (s : State) (k : BitVec 32), (k.toNat ∉ s.wv.wanted)) :=
  ⟨⟨reading, 1, 300, 41, by decide +kernel⟩,
   ⟨on, by decide +kernel⟩,
   ⟨(reading.modClk (fun c => { c with now := 9 })), 1, by decide +kernel⟩,
   ⟨(prefilling.modClk (fun c => { c with line := 300 })), by decide +kernel⟩,
   ⟨on, by decide +kernel⟩,
   ⟨arriving, BitVec.ofNat 32 (cellKey 0 17 1 1), tile17, by decide +kernel⟩,
   ⟨(arriving.spoil ((0x100000 + 16 * 15360 + 256) / 32)), BitVec.ofNat 32 (cellKey 0 17 1 1), tile17, by decide +kernel⟩,
   ⟨(arriving.modScene (fun c => { c with planes := [(17, some plaitPlane)] })), BitVec.ofNat 32 (cellKey 0 17 1 1), plaitPlane, by decide +kernel⟩,
   ⟨on, 0, by decide +kernel⟩⟩

/-- The hypotheses of VerdictsAndSweeps, clause by clause. -/
theorem hyps_VerdictsAndSweeps :
    (∃ (s : State) (half : Fin 2) (l : Nat) (f : Nat), (s.nextLine = some (l, f)) ∧ (s.beforeSample half = true)) ∧
    (∃ (s : State) (half : Fin 2), (s.nextLine = none ∨ s.beforeSample half = false)) ∧
    (∃ (s : State), (s.mode.raster = .weaver) ∧ (s.clk.line = 8640)) ∧
    (∃ (s : State) (n : Nat) (d : Int) (told : BitVec 32), (s.frs.stepSweep = some (n, d, told))) ∧
    (∃ (s : State), (s.frs.stepSweep = none)) ∧
    (∃ (s : State), (s.frs.wrapOn = true) ∧ (s.mode.power ≠ .discharge) ∧ (s.frs.fastPass = false) ∧ (s.frs.wrapPos < 262143) ∧ (s.scene.recent = [])) ∧
    (∃ (s : State), (s.frs.wrapOn = true) ∧ (s.mode.power ≠ .discharge) ∧ (s.frs.fastPass = false) ∧ (s.frs.wrapPos = 262143)) ∧
    (∃ (s : State), (s.frs.wrapOn = false ∨ s.mode.power = .discharge ∨ s.frs.fastPass = true)) ∧
    (∃ (s : State), (s.frs.fastPass = true)) ∧
    (∃ (s : State) (n : Nat), (s.frs.verSweep = some n) ∧ (n < 262144)) ∧
    (∃ (s : State) (n : Nat), (s.frs.verSweep = some n)) ∧
    (∃ (s : State), (s.frs.verSweep = none)) :=
  ⟨⟨reading, 1, 300, 41, by decide +kernel⟩,
   ⟨on, 0, by decide +kernel⟩,
   ⟨(applying.modFrs (fun r => { r with worst := [(9, 7)] })), by decide +kernel⟩,
   ⟨(sweeping.modFrs (fun r => { r with stepCount := 5 })), 0, 1900000000, 1, by decide +kernel⟩,
   ⟨on, by decide +kernel⟩,
   ⟨(sweeping.modClk (fun c => { c with sec := 1900 })), by decide +kernel⟩,
   ⟨(sweeping.modFrs (fun r => { r with wrapPos := 262143, wrapHit := true })), by decide +kernel⟩,
   ⟨on, by decide +kernel⟩,
   ⟨((sweeping.modClk (fun c => { c with sec := 1900 })).modFrs (fun r => { r with fastPass := true })), by decide +kernel⟩,
   ⟨(sweeping.modFrs (fun r => { r with verSweep := some 16414 })), 16414, by decide +kernel⟩,
   ⟨(sweeping.modFrs (fun r => { r with verSweep := some 16000 })), 16000, by decide +kernel⟩,
   ⟨on, by decide +kernel⟩⟩

/-- The hypotheses of RimAndReports, clause by clause. -/
theorem hyps_RimAndReports :
    (∃ (s : State) (path : Path), (s.takes path RIM.PAGE 0x138 = true) ∧ (s.rdB RIM.CALC_STS.BUSY = false)) ∧
    (∃ (s : State) (path : Path), (s.takes path RIM.PAGE 0x138 = true) ∧ (s.rdB RIM.CALC_STS.BUSY = true)) ∧
    (∃ (s : State) (j : CalcJob), (s.rim.calcJob = some j) ∧ (s.mem.sealed = false) ∧ (j.addr + j.len ≤ hbmSize) ∧ (s.firstBad j.addr j.len = none) ∧ (rim (s.hbmRd j.addr j.len) j.fold < 2 ^ 32)) ∧
    (∃ (s : State) (j : CalcJob) (k : Nat), (s.rim.calcJob = some j) ∧ (s.mem.sealed = false) ∧ (j.addr + j.len ≤ hbmSize) ∧ (s.firstBad j.addr j.len = some k)) ∧
    (∃ (s : State), (s.rim.calcJob = none ∨ s.mem.sealed = true)) ∧
    (∃ (s : State) (j : CalcJob), (s.rim.calcJob = some j) ∧ (s.mem.sealed = false) ∧ (hbmSize < j.addr + j.len)) ∧
    (∃ (s : State) (group : Fin 16), (s.mode.raster = .weaver) ∧ (s.mode.power = .full) ∧ (s.leaf.mute = false) ∧ (s.wv.codes[groupHalf group.val].codes ≠ []) ∧ (s.wv.codes[groupHalf group.val].line < 8640) ∧ (s.leaf.driving = true) ∧ (s.groupFailed group.val = false)) ∧
    (∃ (s : State) (group : Fin 16), (s.mode.raster = .off ∨ s.mode.power = .discharge ∨ (s.mode.power = .shutter ∧ s.scan.shutExit ≠ some (BitVec.ofNat 32 s.wv.codes[groupHalf group.val].frame)))) ∧
    (∃ (s : State) (group : Fin 16) (bs : List Byte), (reportOk group.val bs = true) ∧ (beAt bs 0 1 = 0x52) ∧ (beAt bs 10 1 = group.val) ∧ (beAt bs 1 1 = 0) ∧ (beAt bs 8 2 = 0x7FFF) ∧ (s.panel.driverLock[groupHalf group.val].getLsbD (group.val % 8) = true) ∧ (s.rim.held.contains (group.val, beAt bs 2 2) = true) ∧ ((tget (fun _ => 0) s.rim.lchk (glKey group.val (beAt bs 2 2))).toNat = beAt bs 4 4)) ∧
    (∃ (s : State) (group : Fin 16) (bs : List Byte), (reportOk group.val bs = true) ∧ (beAt bs 0 1 = 0x52) ∧ (beAt bs 10 1 = group.val) ∧ (beAt bs 1 1 = 0) ∧ (beAt bs 8 2 = 0x7FFF) ∧ (s.panel.driverLock[groupHalf group.val].getLsbD (group.val % 8) = true) ∧ (s.rim.held.contains (group.val, beAt bs 2 2) = true) ∧ ((tget (fun _ => 0) s.rim.lchk (glKey group.val (beAt bs 2 2))).toNat ≠ beAt bs 4 4)) ∧
    (∃ (s : State) (group : Fin 16) (bs : List Byte), (reportOk group.val bs = false)) ∧
    (∃ (s : State) (group : Fin 16) (line : Fin 8640), (s.rim.sent.contains (group.val, line.val) = true) ∧ (s.role ≠ 2)) :=
  ⟨⟨(on.wrB RIM.CALC_STS.DONE true), .mgmt, by decide +kernel⟩,
   ⟨(on.wrB RIM.CALC_STS.BUSY true), .fabric, by decide +kernel⟩,
   ⟨(((on.hbmWr 64 [0x31, 0x32, 0x33, 0x34, 0x35, 0x36, 0x37, 0x38, 0x39]).modRim (fun r => { r with calcJob := some ⟨64, 9, 0⟩ })).wrB RIM.CALC_STS.BUSY true), ⟨64, 9, 0⟩, by decide +kernel⟩,
   ⟨((((on.modRam (fun r => { r with bad := [(2, true)] })).modRim (fun r => { r with calcJob := some ⟨64, 9, 0⟩ })).wrB RIM.CALC_STS.BUSY true)), ⟨64, 9, 0⟩, 2, by decide +kernel⟩,
   ⟨on, by decide +kernel⟩,
   ⟨(on.modRim (fun r => { r with calcJob := some ⟨hbmSize, 9, 0⟩ })), ⟨hbmSize, 9, 0⟩, by decide +kernel⟩,
   ⟨coded, 3, by decide +kernel⟩,
   ⟨shuttered, 15, by decide +kernel⟩,
   ⟨awaiting, 3, (report 0x52 0 300 0x5A73B9A8 0x7FFF), by decide +kernel⟩,
   ⟨awaiting, 3, (report 0x52 0 300 0x5A72B9A8 0x7FFF), by decide +kernel⟩,
   ⟨awaiting, 4, (report 0x52 0 300 0x5A72B9A8 0x7FFF), by decide +kernel⟩,
   ⟨awaiting, 3, 300, by decide +kernel⟩⟩

/-- The hypotheses of PanelLanes, clause by clause. -/
theorem hyps_PanelLanes :
    (∃ (s : State) (group : Fin 16) (bs : List Byte), (reportOk group.val bs = true) ∧ (beAt bs 0 1 = 0x53) ∧ (beAt bs 10 1 = group.val) ∧ (beAt bs 1 1 % 2 = 0) ∧ (beAt bs 8 2 % 2 ^ 15 ≠ 0) ∧ (s.scan.rateTrain[groupHalf group.val] = false) ∧ (s.panel.driverLock[groupHalf group.val].getLsbD (group.val % 8) = true) ∧ ((s.rd PLK.GRP_STS.FAIL (groupHalf group.val) group.val ||| (s.rd PLK.GRP_LOCK.LOCK (groupHalf group.val) group.val &&& ((0x7FFF : Nat) - (0x7FFF &&& beAt bs 8 2)))) ≠ s.rd PLK.GRP_STS.FAIL (groupHalf group.val) group.val) ∧ (s.shutArmed = false) ∧ (s.rd PLK.LINK_CTL.MIN_LANES (groupHalf group.val) ≤ lanesInUse (s.rd PLK.GRP_STS.FAIL (groupHalf group.val) group.val ||| (s.rd PLK.GRP_LOCK.LOCK (groupHalf group.val) group.val &&& ((0x7FFF : Nat) - (0x7FFF &&& beAt bs 8 2))))) ∧ (fits (s.depth (groupHalf group.val)) (lanesInUse (s.rd PLK.GRP_STS.FAIL (groupHalf group.val) group.val ||| (s.rd PLK.GRP_LOCK.LOCK (groupHalf group.val) group.val &&& ((0x7FFF : Nat) - (0x7FFF &&& beAt bs 8 2))))) (s.rd PLK.LINK_STS.RATE_CUR (groupHalf group.val)) s.lineEff = true)) ∧
    (∃ (s : State) (group : Fin 16) (bs : List Byte), (reportOk group.val bs = true) ∧ (beAt bs 0 1 = 0x53) ∧ (beAt bs 10 1 = group.val) ∧ (beAt bs 8 2 % 2 ^ 15 = 0) ∧ (s.panel.driverLock[groupHalf group.val].getLsbD (group.val % 8) = true) ∧ (s.panel.resetPend = none) ∧ (s.mode.raster = .weaver) ∧ (s.scan.rateTrain[groupHalf group.val] = false)) ∧
    (∃ (s : State) (group : Fin 16) (bs : List Byte), (reportOk group.val bs = true) ∧ (beAt bs 0 1 = 0x53) ∧ (beAt bs 10 1 = group.val) ∧ (beAt bs 8 2 % 2 ^ 15 = 0) ∧ (s.panel.driverLock[groupHalf group.val].getLsbD (group.val % 8) = true) ∧ (s.mode.raster = .sill) ∧ (s.scan.rateTrain[groupHalf group.val] = false)) ∧
    (∃ (s : State) (path : Path) (half : Fin 2), (s.takes path (PLK.PAGE + half.val) 0x11C = true)) ∧
    (∃ (s : State), (s.mode.raster = .weaver) ∧ (s.clk.line = 8640)) ∧
    (∃ (s : State) (path : Path) (half : Fin 2) (v : BitVec 32), (s.takes path (PLK.PAGE + half.val) 0x100 = true) ∧ (s.mode.power ≠ .sill) ∧ (v.toNat % 8 ≠ s.rd PLK.LINK_CTL.RATE half)) ∧
    (∃ (s : State) (path : Path) (half : Fin 2) (v : BitVec 32), (s.takes path (PLK.PAGE + half.val) 0x100 = true) ∧ (s.mode.power = .sill ∨ v.toNat % 8 = s.rd PLK.LINK_CTL.RATE half)) :=
  ⟨⟨(((linked.wr PLK.GRP_LOCK.LOCK 0x7FFF 0 3).wr PLK.LINK_STS.RATE_CUR 3 0).wr SCN.LINE_EFF.PER 196168), 3, (report 0x53 0 0 0 0x7FDF), by decide +kernel⟩,
   ⟨linked, 3, (report 0x53 0 0 0 0), by decide +kernel⟩,
   ⟨((linked.modMode (fun m => { m with raster := .sill, power := .sill })).wr PLK.LINK_STS.RATE_CUR 3 0), 3, (report 0x53 0 0 0 0), by decide +kernel⟩,
   ⟨((linked.wr PLK.GRP_STS.FAIL 0x20 0 0).wr PLK.GRP_LOCK.LOCK 0x7FFF 0 0), .mgmt, 0, by decide +kernel⟩,
   ⟨(((linked.modClk (fun c => { c with line := 8640, frame := 99 })).wr PLK.GRP_STS.FAIL 0x20 0 3).modScan (fun c => { c with readmit := [(3, 0x20)] })), by decide +kernel⟩,
   ⟨(linked.wr PLK.GRP_STS.N 9 0 5), .mgmt, 0, 0xA02, by decide +kernel⟩,
   ⟨(linked.wr PLK.GRP_STS.N 9 0 5), .mgmt, 0, 0xA03, by decide +kernel⟩⟩

/-- The hypotheses of ControlPackets, clause by clause. -/
theorem hyps_ControlPackets :
    (∃ (s : State) (group : Fin 16) (p : CtrlPkt) (q : List CtrlPkt), (tget (fun _ => []) s.scan.ctrlQ group.val = p :: q) ∧ (s.leaf.driving = true) ∧ (s.groupFailed group.val = false ∨ p.cmd = 7) ∧ (s.leaf.mute = false ∨ p.cmd = 6 ∨ p.cmd = 7)) ∧
    (∃ (s : State) (group : Fin 16), (tget (fun _ => []) s.scan.ctrlQ group.val = [] ∨ s.leaf.driving = false)) ∧
    (∃ (s : State) (group : Fin 16) (p : CtrlPkt) (q : List CtrlPkt), (tget (fun _ => []) s.scan.ctrlQ group.val = p :: q) ∧ (p.cmd ≠ 7) ∧ (s.groupFailed group.val = true ∨ (s.leaf.mute = true ∧ p.cmd ≠ 6))) ∧
    (∃ (s : State) (group : Fin 16) (bs : List Byte) (p : CtrlPkt) (n : Nat) (rest : List (CtrlPkt × Nat)), (reportOk group.val bs = true) ∧ (beAt bs 0 1 = 0x53) ∧ (beAt bs 10 1 = group.val) ∧ (beAt bs 8 2 = 0x7FFF) ∧ (s.panel.driverLock[groupHalf group.val].getLsbD (group.val % 8) = true) ∧ (tget (fun _ => []) s.scan.ctrlSent group.val = (p, n) :: rest) ∧ (p.seq = beAt bs 2 2) ∧ (p.cmd = beAt bs 4 4 % 256) ∧ (s.shutArmed = false)) ∧
    (∃ (s : State) (group : Fin 16) (p : CtrlPkt) (n : Nat) (rest : List (CtrlPkt × Nat)), (tget (fun _ => []) s.scan.ctrlSent group.val = (p, n) :: rest) ∧ (n < 3)) ∧
    (∃ (s : State) (group : Fin 16) (p : CtrlPkt) (n : Nat) (rest : List (CtrlPkt × Nat)), (tget (fun _ => []) s.scan.ctrlSent group.val = (p, n) :: rest) ∧ (3 ≤ n) ∧ (s.groupFailed group.val = false)) ∧
    (∃ (s : State) (group : Fin 16), (tget (fun _ => []) s.scan.ctrlSent group.val = [])) :=
  ⟨⟨(linked.modScan (fun c => { c with ctrlQ := [(3, [shutEnter])], groupSeq := [(3, 0xFFFF)] })), 3, shutEnter, [], by decide +kernel⟩,
   ⟨linked, 15, by decide +kernel⟩,
   ⟨((linked.modScan (fun c => { c with ctrlQ := [(3, [shutEnter])] })).modLeaf (fun l => { l with mute := true })), 3, shutEnter, [], by decide +kernel⟩,
   ⟨(sentCtrl 2), 3, (report 0x53 4 0 4 0x7FFF), shutEnter, 2, [], by decide +kernel⟩,
   ⟨(sentCtrl 2), 3, shutEnter, 2, [], by decide +kernel⟩,
   ⟨(sentCtrl 3), 3, shutEnter, 3, [], by decide +kernel⟩,
   ⟨linked, 0, by decide +kernel⟩⟩

/-- The hypotheses of RasterLines, clause by clause. -/
theorem hyps_RasterLines :
    (∃ (s : State) (skew : BitVec 8), (s.mode.raster = .weaver) ∧ (s.clk.line.toNat + 1 < s.vtotal) ∧ (skew.toNat = s.eff_ SCN.MUL_SKEW)) ∧
    (∃ (s : State) (skew : BitVec 8), (s.mode.raster = .weaver) ∧ (s.clk.line.toNat + 1 < s.vtotal) ∧ (skew.toNat ≠ s.eff_ SCN.MUL_SKEW)) ∧
    (∃ (s : State), (s.mode.raster = .sill) ∧ (s.clk.line.toNat < 8699) ∧ (s.clk.line ≠ 8639)) ∧
    (∃ (s : State), (s.mode.raster = .sill) ∧ (s.clk.line = 8639)) ∧
    (∃ (s : State), (s.mode.raster = .off ∨ s.vtotal ≤ s.clk.line.toNat + 1)) ∧
    (∃ (s : State), (s.mode.raster = .weaver) ∧ (s.clk.line.toNat + 1 = s.vtotal)) ∧
    (∃ (s : State), (s.mode.raster = .weaver) ∧ (s.clk.line.toNat + 1 = s.vtotal) ∧ (s.eff_ SCN.RATE_CTL.SRC = 3) ∧ (s.scan.rephaseTo = none) ∧ (s.scan.rephase = false)) ∧
    (∃ (s : State), (s.mode.raster ≠ .weaver ∨ s.clk.line.toNat + 1 ≠ s.vtotal)) ∧
    (∃ (s : State), (s.mode.raster ≠ .off) ∧ (s.clk.line.toNat = s.rd SCN.LM_POS.LINE) ∧ (s.clk.wc.toNat = s.rd SCN.LM_POS.WC)) ∧
    (∃ (s : State), (s.clk.line.toNat ≠ s.rd SCN.LM_POS.LINE ∨ s.clk.wc.toNat ≠ s.rd SCN.LM_POS.WC)) ∧
    (∃ (s : State) (h : Fin 2), (s.marks h = true) ∧ (1 ≤ s.clk.line.toNat) ∧ (s.clk.line.toNat < 8640) ∧ (s.clk.line.toNat ≠ 1 ∨ s.rd SCN.SHUT_STS.STATE ≠ 5)) ∧
    (∃ (s : State), (s.marks 0 = true) ∧ (s.clk.line = 8640)) ∧
    (∃ (s : State) (h : Fin 2), (s.marks h = true) ∧ (s.clk.line.toNat + 1 = s.vtotal) ∧ (s.mode.raster = .weaver) ∧ (s.rd SCN.SHUT_STS.STATE = 0)) :=
  ⟨⟨(atLine 300), 0, by decide +kernel⟩,
   ⟨(atLine 300), 3, by decide +kernel⟩,
   ⟨slow, by decide +kernel⟩,
   ⟨(((slow.modClk (fun c => { c with line := 8639 })).wr PLK.GRP_STS.FAIL 0x20 0 3).modScan (fun c => { c with readmit := [(3, 0x20)] })), by decide +kernel⟩,
   ⟨on, by decide +kernel⟩,
   ⟨((atLine 8699).wrEff SCN.VTOTAL.LINES 8700), by decide +kernel⟩,
   ⟨(((atLine 8699).wrEff SCN.VTOTAL.LINES 8700).wrEff SCN.RATE_CTL.SRC 3), by decide +kernel⟩,
   ⟨(atLine 300), by decide +kernel⟩,
   ⟨((atLine 300).wr SCN.LM_POS.LINE 300), by decide +kernel⟩,
   ⟨(atLine 300), by decide +kernel⟩,
   ⟨(atLine 1), 0, by decide +kernel⟩,
   ⟨(atLine 8640), by decide +kernel⟩,
   ⟨((atLine 8699).wrEff SCN.VTOTAL.LINES 8700), 1, by decide +kernel⟩⟩

/-- The hypotheses of RasterSettings, clause by clause. -/
theorem hyps_RasterSettings :
    (∃ (s : State) (path : Path) (r : Fin 5), (s.takes path SCN.PAGE (0x100 + 4 * r.val) = true) ∧ (s.mode.power = .sill)) ∧
    (∃ (s : State) (path : Path) (r : Fin 5), (s.takes path SCN.PAGE (0x100 + 4 * r.val) = true) ∧ (s.mode.power ≠ .sill)) ∧
    (∃ (s : State) (a : Nat), (s.scan.houseEdge = some a) ∧ (s.eff_ SCN.RATE_CTL.SRC ≠ 2)) ∧
    (∃ (s : State) (h : Fin 2), (s.mode.raster = .sill) ∧ (s.mode.power = .sill) ∧ (s.rd PLK.LINK_STS.RATE_CUR h < min 3 (s.rd PLK.LINK_CTL.RATE h)) ∧ (s.scan.rateTrain[h] = false) ∧ (s.panel.presN[h] = false) ∧ (s.rd SYS.START_STS.STAGE ≠ 13) ∧ (s.boot.done.getLsbD 7 = true)) ∧
    (∃ (s : State) (h : Fin 2), (s.scan.rateTrain[h] = true) ∧ ((List.range 8).all (fun k => s.rd PLK.GRP_LOCK.LOCK h (8 * h.val + k) == 0x7FFF) = true) ∧ (s.scan.rateNew[h] < 4) ∧ (∀ k : Fin 8, s.panel.driverLock[h].getLsbD k.val = true → s.rd PLK.LINK_CTL.MIN_LANES h ≤ s.rd PLK.GRP_STS.N h (8 * h.val + k.val) ∧ fits (s.depth h) (s.rd PLK.GRP_STS.N h (8 * h.val + k.val)) s.scan.rateNew[h] s.lineEff = true)) ∧
    (∃ (s : State) (h : Fin 2), (s.scan.rateTrain[h] = true) ∧ ((List.range 8).all (fun k => s.rd PLK.GRP_LOCK.LOCK h (8 * h.val + k) == 0x7FFF) = true) ∧ (s.scan.rateNew[h] < 4)) ∧
    (∃ (s : State) (h : Fin 2), (s.scan.rateTrain[h] = true) ∧ ((List.range 8).all (fun k => s.rd PLK.GRP_LOCK.LOCK h (8 * h.val + k) == 0x7FFF) = false) ∧ (s.scan.rateTry[h] < 2)) ∧
    (∃ (s : State) (h : Fin 2), (s.scan.rateTrain[h] = true) ∧ ((List.range 8).all (fun k => s.rd PLK.GRP_LOCK.LOCK h (8 * h.val + k) == 0x7FFF) = false) ∧ (2 ≤ s.scan.rateTry[h])) ∧
    (∃ (s : State) (h : Fin 2), (s.scan.rateTrain[h] = false)) :=
  ⟨⟨on, .fabric, 4, by decide +kernel⟩,
   ⟨full, .fabric, 2, by decide +kernel⟩,
   ⟨(on.modScan (fun c => { c with houseEdge := some 0 })), 0, by decide +kernel⟩,
   ⟨slowP, 1, by decide +kernel⟩,
   ⟨(training 2 0x7FFF), 0, by decide +kernel⟩,
   ⟨(training 2 0x7FFF), 0, by decide +kernel⟩,
   ⟨(training 1 0x7FFE), 0, by decide +kernel⟩,
   ⟨(training 2 0x3FFF), 0, by decide +kernel⟩,
   ⟨slow, 0, by decide +kernel⟩⟩

/-- The hypotheses of Shutter, clause by clause. -/
theorem hyps_Shutter :
    (∃ (s : State) (path : Path) (v : BitVec 32), (s.takes path SCN.PAGE 0x134 = true) ∧ (bit v.toNat 1 = false) ∧ (s.rdB SCN.SHUT_CTL.REQ = false)) ∧
    (∃ (s : State), (s.mode.raster = .weaver) ∧ (s.clk.line = 8640) ∧ (s.rd SCN.SHUT_STS.STATE = 0) ∧ (s.rdB SCN.SHUT_CTL.REQ = false)) ∧
    (∃ (s : State), (s.rd SCN.SHUT_STS.STATE = 3) ∧ (s.clk.frame = s.scan.shutC + 1) ∧ (s.clk.line = 0) ∧ (s.scan.shutExitReq = false) ∧ (∀ h ∈ s.contentTiles, 3 * s.frameUs < s.tileLeft h)) ∧
    (∃ (s : State), (s.rd SCN.SHUT_STS.STATE ≠ 3)) ∧
    (∃ (s : State) (path : Path), (s.takes path SCN.PAGE 0x134 = true) ∧ (s.rd SCN.SHUT_STS.STATE = 1)) ∧
    (∃ (s : State) (path : Path), (s.takes path SCN.PAGE 0x134 = true) ∧ (s.rd SCN.SHUT_STS.STATE = 2)) ∧
    (∃ (s : State) (path : Path), (s.takes path SCN.PAGE 0x134 = true) ∧ (s.rd SCN.SHUT_STS.STATE = 3)) ∧
    (∃ (s : State) (path : Path), (s.takes path SCN.PAGE 0x134 = true) ∧ (s.rd SCN.SHUT_STS.STATE = 4) ∧ (s.rd DMC.SR_STS.STATE = 2) ∧ (s.rd DMC.SR_STS.CAUSE = 2)) ∧
    (∃ (s : State), (s.mode.power = .shutter) ∧ (s.rd SCN.SHUT_STS.STATE = 4) ∧ (s.rd DMC.SR_STS.STATE = 2)) ∧
    (∃ (s : State), (s.mode.power ≠ .shutter)) ∧
    (∃ (s : State), (s.marks 0 = true) ∧ (s.clk.line = 1) ∧ (s.rd SCN.SHUT_STS.STATE = 5) ∧ (s.scan.shutExit = some s.clk.frame)) :=
  ⟨⟨linked, .mgmt, 4, by decide +kernel⟩,
   ⟨applying, by decide +kernel⟩,
   ⟨entering, by decide +kernel⟩,
   ⟨linked, by decide +kernel⟩,
   ⟨((linked.wr SCN.SHUT_STS.STATE 1).wrB SCN.SHUT_CTL.REQ true), .mgmt, by decide +kernel⟩,
   ⟨((linked.wr SCN.SHUT_STS.STATE 2).wrB SCN.SHUT_CTL.REQ true), .mgmt, by decide +kernel⟩,
   ⟨entering, .mgmt, by decide +kernel⟩,
   ⟨shuttered, .mgmt, by decide +kernel⟩,
   ⟨shuttered, by decide +kernel⟩,
   ⟨linked, by decide +kernel⟩,
   ⟨(exiting.modScan (fun c => { c with statusMiss := [(9, 4)] })), by decide +kernel⟩⟩

/-- The hypotheses of WaveformsAndDrive, clause by clause. -/
theorem hyps_WaveformsAndDrive :
    (∃ (s : State) (path : Path) (half : Fin 2), (s.takes path (PDV.PAGE + half.val) 0x12C = true) ∧ (s.rdB PDV.WF_CTL.SWAP half = false)) ∧
    (∃ (s : State) (path : Path) (half : Fin 2), (s.takes path (PDV.PAGE + half.val) 0x12C = true) ∧ (s.rdB PDV.WF_CTL.SWAP half = true)) ∧
    (∃ (s : State) (half : Fin 2) (w : Waveform) (r : Nat), (s.panel.waveBusy[half] = true) ∧ (s.mem.sealed = false) ∧ (s.addr37 PDV.WF_ADDR_LO PDV.WF_ADDR_HI half + 916 ≤ hbmSize) ∧ (s.firstBad (s.addr37 PDV.WF_ADDR_LO PDV.WF_ADDR_HI half) 916 = none) ∧ (checkWave (s.hbmRd (s.addr37 PDV.WF_ADDR_LO PDV.WF_ADDR_HI half) 916) s.boot.cfg.panelType (s.eff_ SCN.LINE_PER) (s.rd PDV.GATE_CTL.GATE_DLY half) = (r, some w))) ∧
    (∃ (s : State) (half : Fin 2) (r : Nat), (s.panel.waveBusy[half] = true) ∧ (s.mem.sealed = false) ∧ (s.addr37 PDV.WF_ADDR_LO PDV.WF_ADDR_HI half + 916 ≤ hbmSize) ∧ (s.firstBad (s.addr37 PDV.WF_ADDR_LO PDV.WF_ADDR_HI half) 916 = none) ∧ (checkWave (s.hbmRd (s.addr37 PDV.WF_ADDR_LO PDV.WF_ADDR_HI half) 916) s.boot.cfg.panelType (s.eff_ SCN.LINE_PER) (s.rd PDV.GATE_CTL.GATE_DLY half) = (r, none))) ∧
    (∃ (s : State) (half : Fin 2), (s.panel.waveBusy[half] = true) ∧ (s.mem.sealed = false) ∧ (hbmSize < s.addr37 PDV.WF_ADDR_LO PDV.WF_ADDR_HI half + 916 ∨ s.firstBad (s.addr37 PDV.WF_ADDR_LO PDV.WF_ADDR_HI half) 916 ≠ none)) ∧
    (∃ (s : State) (half : Fin 2), (s.panel.waveBusy[half] = false ∨ s.mem.sealed = true)) ∧
    (∃ (s : State), (s.mode.raster = .weaver) ∧ (8642 ≤ s.clk.line.toNat) ∧ (s.clk.line.toNat < s.vtotal - 6) ∧ (s.phaseOf s.frameAfter ≠ 0)) ∧
    (∃ (s : State), (s.mode.raster = .weaver) ∧ (8642 ≤ s.clk.line.toNat) ∧ (s.clk.line.toNat < s.vtotal - 6) ∧ (s.phaseOf s.frameAfter = 0)) ∧
    (∃ (s : State), (s.clk.line.toNat < 8642)) ∧
    (∃ (s : State) (path : Path) (half : Fin 2) (v : BitVec 32), (s.takes path (PDV.PAGE + half.val) 0x13C = true) ∧ (s.mode.power = .sill) ∧ ((s.panel.wave[half]).all (fun w => w.gateOk (s.eff_ SCN.LINE_PER) (v.toNat % 4096)) = true)) ∧
    (∃ (s : State) (path : Path) (half : Fin 2) (v : BitVec 32) (w : Waveform), (s.takes path (PDV.PAGE + half.val) 0x13C = true) ∧ (s.mode.power = .sill) ∧ (s.panel.wave[half] = some w) ∧ (w.gateOk (s.eff_ SCN.LINE_PER) (v.toNat % 4096) = false)) ∧
    (∃ (s : State) (path : Path) (half : Fin 2), (s.takes path (PDV.PAGE + half.val) 0x13C = true) ∧ (s.mode.power ≠ .sill)) ∧
    (∃ (s : State) (path : Path) (half : Fin 2) (hi : Bool), (s.takes path (PDV.PAGE + half.val) (if hi = true then 0x108 else 0x104) = true) ∧ (s.mode.power = .sill)) ∧
    (∃ (s : State) (path : Path) (half : Fin 2) (hi : Bool), (s.takes path (PDV.PAGE + half.val) (if hi = true then 0x108 else 0x104) = true) ∧ (s.mode.power ≠ .sill)) ∧
    (∃ (s : State) (path : Path) (half : Fin 2) (x : Nat) (y : Nat) (c : Nat), (s.shows path = true) ∧ (x = s.rd PDV.RES_SEL.X half path.num) ∧ (y = s.rd PDV.RES_SEL.Y half path.num) ∧ (c = s.rd PDV.RES_SEL.C half path.num) ∧ (x < 30720) ∧ (y < 8640) ∧ (c < 3) ∧ (s.hbmBad (s.resAddr half + dcOfs (x / 15360) y (3 * (x % 15360) + c)) 1 = false) ∧ (s.hbmBad (s.resAddr half + dcOfs (x / 15360) y (3 * (x % 15360) + c) + pairOfs) 1 = false)) :=
  ⟨⟨(waved.wr PDV.WF_CTL.WHY 7 1), .mgmt, 1, by decide +kernel⟩,
   ⟨(waved.wrB PDV.WF_CTL.SWAP true 1), .mgmt, 1, by decide +kernel⟩,
   ⟨(checkingWave flatImg), 1, flatWave, 0, (by decide +kernel), (by decide +kernel), (by decide +kernel), (by decide +kernel), (by rw [flatImg_sits.1, flatImg_sits.2.1, flatImg_sits.2.2, flatImg_read, flatImg_check])⟩,
   ⟨(checkingWave [1]), 1, 1, by decide +kernel⟩,
   ⟨((checkingWave [1]).spoil 5), 1, by decide +kernel⟩,
   ⟨waved, 0, by decide +kernel⟩,
   ⟨((driven.modClk (fun c => { c with line := 8650, frame := 40, fs := 40 })).wrEff SCN.VTOTAL.LINES 8700), by decide +kernel⟩,
   ⟨((driven.modClk (fun c => { c with line := 8650, frame := 43, fs := 40 })).wrEff SCN.VTOTAL.LINES 8700), by decide +kernel⟩,
   ⟨waved, by decide +kernel⟩,
   ⟨((waved.modMode (fun m => { m with power := .sill })).wrEff SCN.LINE_PER.PER 196168), .mgmt, 1, 65, by decide +kernel⟩,
   ⟨((waved.modMode (fun m => { m with power := .sill })).wrEff SCN.LINE_PER.PER 196168), .mgmt, 1, 64, flatWave, by decide +kernel⟩,
   ⟨waved, .mgmt, 1, by decide +kernel⟩,
   ⟨on, .mgmt, 1, true, by decide +kernel⟩,
   ⟨waved, .mgmt, 0, false, by decide +kernel⟩,
   ⟨(((rowWaits.wr PDV.RES_SEL.X 5000 0 1).wr PDV.RES_SEL.Y 300 0 1).wr PDV.RES_SEL.C 1 0 1), .mgmt, 0, 5000, 300, 1, by decide +kernel⟩⟩

/-- The hypotheses of DcAndDischarge, clause by clause. -/
theorem hyps_DcAndDischarge :
    (∃ (s : State) (half : Fin 2) (line : Fin 8640) (pol : Int) (u : SettleSub), (tget (fun _ => (⟨0, []⟩ : RowDc)) s.panel.rowMark (rowKey half line.val) = ⟨pol, [u]⟩) ∧ (u.col < 46080) ∧ (s.role < 2) ∧ (∀ r ∈ s.leaf.repairIn, ¬ (r.half = half.val ∧ r.line = line.val)) ∧ (s.resAddr half + dcOfs half line.val u.col < hbmSize)) ∧
    (∃ (s : State) (half : Fin 2) (line : Fin 8640) (pol : Int), (tget (fun _ => (⟨0, []⟩ : RowDc)) s.panel.rowMark (rowKey half line.val) = ⟨pol, []⟩)) ∧
    (∃ (s : State) (half : Fin 2), (s.rdB PDV.RAIL_STS.UP half = true) ∧ (s.panel.dis[half].run = false) ∧ (s.dischargeCause half ≠ 0)) ∧
    (∃ (s : State) (half : Fin 2), (s.rdB PDV.RAIL_STS.UP half = false ∨ s.panel.dis[half].run = true ∨ s.dischargeCause half = 0)) ∧
    (∃ (s : State) (half : Fin 2), (s.panel.dis[half].run = true)) ∧
    (∃ (s : State) (half : Fin 2), (s.panel.dis[half].run = true) ∧ (s.anyRailsUp = true) ∧ (s.modulePends = false)) ∧
    (∃ (s : State) (half : Fin 2), (s.panel.dis[half].run = false)) ∧
    (∃ (s : State), (s.mode.raster = .weaver) ∧ (s.phase = 3) ∧ (s.clk.line.toNat + 1 = s.vtotal) ∧ (s.panel.resetPend = some .warm)) ∧
    (∃ (s : State), (s.mode.raster = .weaver) ∧ (s.phase = 3) ∧ (s.clk.line.toNat + 1 = s.vtotal) ∧ (s.panel.resetPend = some .stop)) ∧
    (∃ (s : State), (s.mode.raster = .weaver) ∧ (s.phase = 3) ∧ (s.clk.line.toNat + 1 = s.vtotal) ∧ (s.panel.resetPend = some .linkLost)) ∧
    (∃ (s : State), (s.mode.raster ≠ .weaver ∨ s.phase ≠ 3 ∨ s.clk.line.toNat + 1 ≠ s.vtotal ∨ s.panel.resetPend = none ∨ s.panel.resetPend = some .module)) :=
  ⟨⟨rowWaits, 0, 300, 1, ⟨15001, -60, 181, -1, false⟩, by decide +kernel⟩,
   ⟨waved, 1, 8639, 0, by decide +kernel⟩,
   ⟨driven, 1, by decide +kernel⟩,
   ⟨waved, 1, by decide +kernel⟩,
   ⟨(discharging 1), 0, by decide +kernel⟩,
   ⟨(discharging 1), 0, by decide +kernel⟩,
   ⟨waved, 0, by decide +kernel⟩,
   ⟨(cycleEnd .warm), by decide +kernel⟩,
   ⟨(cycleEnd .stop), by decide +kernel⟩,
   ⟨(cycleEnd .linkLost), by decide +kernel⟩,
   ⟨waved, by decide +kernel⟩⟩

/-- The hypotheses of WeftQueue, clause by clause. -/
theorem hyps_WeftQueue :
    (∃ (s : State) (path : Path) (v : BitVec 32), (s.takes path WFT.PAGE 0x10C = true) ∧ (v.toNat % 4096 < s.sqSize)) ∧
    (∃ (s : State) (path : Path) (v : BitVec 32), (s.takes path WFT.PAGE 0x10C = true) ∧ (s.sqSize ≤ v.toNat % 4096)) ∧
    (∃ (s : State) (path : Path) (r : Fin 3), (s.takes path WFT.PAGE (0x100 + 4 * r.val) = true) ∧ (s.rdB WFT.CTL.ENA = false) ∧ (s.rd WFT.SQ_HEAD.INDEX = s.rd WFT.SQ_TAIL.INDEX)) ∧
    (∃ (s : State) (path : Path) (r : Fin 3), (s.takes path WFT.PAGE (0x100 + 4 * r.val) = true) ∧ (s.rdB WFT.CTL.ENA = true ∨ s.rd WFT.SQ_HEAD.INDEX ≠ s.rd WFT.SQ_TAIL.INDEX)) ∧
    (∃ (s : State) (path : Path) (v : BitVec 32), (s.takes path WFT.PAGE 0x114 = true) ∧ (bit v.toNat 2 = false)) ∧
    (∃ (s : State) (path : Path) (l : WeftList), (s.takes path WFT.PAGE 0x114 = true) ∧ (s.weft.list = some l) ∧ (s.weft.wait = none) ∧ (s.weft.wmark = none)) ∧
    (∃ (s : State) (path : Path), (s.takes path WFT.PAGE 0x114 = true) ∧ (s.weft.list ≠ none) ∧ (s.weft.wait ≠ none ∨ s.weft.wmark ≠ none)) ∧
    (∃ (s : State) (d : WeftDesc), (s.headDesc = some d) ∧ (s.isStandby = false) ∧ (s.role ≠ 2) ∧ (d.timed = false) ∧ (s.rdB WFT.CTL.PAUSE = false)) ∧
    (∃ (s : State) (d : WeftDesc), (s.headDesc = some d) ∧ (s.isStandby = false) ∧ (d.timed = true) ∧ (sdiff32 s.clk.frame.toNat d.frame < 0)) ∧
    (∃ (s : State) (d : WeftDesc), (s.headDesc = some d) ∧ (s.isStandby = false) ∧ (s.role ≠ 2) ∧ (d.timed = true) ∧ (0 < sdiff32 s.clk.frame.toNat d.frame) ∧ (s.weft.waitFrame = false)) ∧
    (∃ (s : State), (s.queueFree = true) ∧ (s.headAddr + 32 ≤ hbmSize) ∧ (s.firstBad s.headAddr 32 = none) ∧ ((weftDesc (s.hbmRd s.headAddr 32)).2 = false)) ∧
    (∃ (s : State), (s.queueFree = true) ∧ (hbmSize < s.headAddr + 32 ∨ s.firstBad s.headAddr 32 ≠ none)) ∧
    (∃ (s : State), (s.queueFree = false)) :=
  ⟨⟨(on.wr WFT.SQ_SIZE.SIZE_LOG2 12), .mgmt, 4095, by decide +kernel⟩,
   ⟨(on.wr WFT.SQ_SIZE.SIZE_LOG2 3), .mgmt, 16, by decide +kernel⟩,
   ⟨(on.wrB WFT.CTL.ENA false), .mgmt, 2, by decide +kernel⟩,
   ⟨on, .mgmt, 0, by decide +kernel⟩,
   ⟨(weaving [] 2), .mgmt, 1, by decide +kernel⟩,
   ⟨(weaving [] 2), .mgmt, (wlist 2 true), by decide +kernel⟩,
   ⟨((weaving [] 2).modWeft (fun w => { w with wait := some (8639, 0) })), .mgmt, by decide +kernel⟩,
   ⟨(queuedList 0 2), ⟨4096, 2, 0xA3C, 0, false, true⟩, by decide +kernel⟩,
   ⟨(queuedList 41 3), ⟨4096, 2, 0xA3C, 41, true, true⟩, by decide +kernel⟩,
   ⟨(queuedList 39 1), ⟨4096, 2, 0xA3C, 39, true, false⟩, by decide +kernel⟩,
   ⟨(queuedList 0 4), by decide +kernel⟩,
   ⟨((queuedList 0 0).spoil ((queuedList 0 0).headAddr / 32)), by decide +kernel⟩,
   ⟨full, by decide +kernel⟩⟩

/-- The hypotheses of WeftFlow, clause by clause. -/
theorem hyps_WeftFlow :
    (∃ (s : State) (l : WeftList), (s.weftDue = some l) ∧ ((s.cmdAt l).op = 0) ∧ ((s.cmdAt l).fieldsOk = true) ∧ (l.cmd + 1 < l.count) ∧ (s.weft.abort = false)) ∧
    (∃ (s : State) (l : WeftList), (s.weftDue = some l) ∧ ((s.cmdAt l).op = 0) ∧ ((s.cmdAt l).fieldsOk = true) ∧ (l.count ≤ l.cmd + 1)) ∧
    (∃ (s : State) (l : WeftList), (s.weftDue = some l) ∧ (9 < (s.cmdAt l).op)) ∧
    (∃ (s : State), (s.weft.list = none)) ∧
    (∃ (s : State) (l : WeftList) (e : Nat), (s.weftDue = some l) ∧ ((s.cmdAt l).op = 2) ∧ (failureOf (s.weftCheck (s.cmdAt l)) = some e)) ∧
    (∃ (s : State) (l : WeftList), (s.weftDue = some l) ∧ ((s.cmdAt l).op = 8) ∧ ((s.cmdAt l).fieldsOk = true) ∧ (bits (s.cmdAt l).arg 13 0 ≤ 8639) ∧ (s.bandReadPast (bits (s.cmdAt l).arg 13 0) (l.frameOf (s.cmdAt l)) = false)) ∧
    (∃ (s : State) (l : WeftList), (s.weftDue = some l) ∧ ((s.cmdAt l).op = 8) ∧ ((s.cmdAt l).fieldsOk = true) ∧ (bits (s.cmdAt l).arg 13 0 ≤ 8639) ∧ (s.bandReadPast (bits (s.cmdAt l).arg 13 0) (l.frameOf (s.cmdAt l)) = true) ∧ (l.cmd + 1 < l.count) ∧ (s.weft.abort = false)) ∧
    (∃ (s : State) (l : WeftList) (line : Nat) (f : BitVec 32), (s.weft.wait = some (line, f)) ∧ (s.weft.list = some l) ∧ (s.bandReadPast line f.toNat = true) ∧ (l.cmd + 1 < l.count) ∧ (s.weft.abort = false)) ∧
    (∃ (s : State) (line : Nat) (f : BitVec 32), (s.weft.wait = some (line, f)) ∧ (s.bandReadPast line f.toNat = false)) ∧
    (∃ (s : State) (l : WeftList), (s.weftDue = some l) ∧ ((s.cmdAt l).op = 9) ∧ ((s.cmdAt l).fieldsOk = true) ∧ (bits (s.cmdAt l).arg 13 0 ≤ 8639) ∧ (s.bandReadPast (bits (s.cmdAt l).arg 13 0) (l.frameOf (s.cmdAt l)) = false)) ∧
    (∃ (s : State) (l : WeftList), (s.weftDue = some l) ∧ ((s.cmdAt l).op = 9) ∧ ((s.cmdAt l).fieldsOk = true) ∧ (bits (s.cmdAt l).arg 13 0 ≤ 8639) ∧ (s.bandReadPast (bits (s.cmdAt l).arg 13 0) (l.frameOf (s.cmdAt l)) = true)) ∧
    (∃ (s : State) (l : WeftList) (line : Nat) (frel : Nat), (s.weft.wmark = some (line, frel)) ∧ (s.weft.list = some l) ∧ (s.weft.bursts = [])) ∧
    (∃ (s : State), (s.weft.bursts ≠ [])) ∧
    (∃ (s : State) (b : Burst) (rest : List Burst), (s.weft.bursts = b :: rest) ∧ (s.mem.sealed = false) ∧ (b.plane = none)) ∧
    (∃ (s : State) (b : Burst) (rest : List Burst) (q : BurstPlane) (p : Plane), (s.weft.bursts = b :: rest) ∧ (s.mem.sealed = false) ∧ (s.leaf.sched = []) ∧ (b.plane = some q) ∧ (s.plane q.plane = some p) ∧ (s.epochOf q.plane = q.epoch)) ∧
    (∃ (s : State) (b : Burst) (q : BurstPlane), (s.weft.bursts = [b]) ∧ (s.mem.sealed = false) ∧ (s.leaf.sched = []) ∧ (b.plane = some q) ∧ (s.epochOf q.plane ≠ q.epoch)) ∧
    (∃ (s : State), (s.weft.bursts = [] ∨ s.mem.sealed = true)) ∧
    (∃ (s : State) (l : WeftList) (d : Surf) (r : Surf) (i : Nat) (p : Plane), (s.weftDue = some l) ∧ ((s.cmdAt l).op = 1) ∧ (s.weftReady (s.cmdAt l) = some (d, r)) ∧ (d.plane = some (i, p))) ∧
    (∃ (s : State) (l : WeftList) (d : Surf) (r : Surf) (i : Nat) (p : Plane), (s.weftDue = some l) ∧ ((s.cmdAt l).op = 2) ∧ (s.weftReady (s.cmdAt l) = some (d, r)) ∧ (d.plane = some (i, p))) ∧
    (∃ (s : State) (l : WeftList) (d : Surf) (r : Surf) (i : Nat) (p : Plane), (s.weftDue = some l) ∧ ((s.cmdAt l).op = 3) ∧ (s.weftReady (s.cmdAt l) = some (d, r)) ∧ (d.plane = some (i, p))) ∧
    (∃ (s : State) (l : WeftList) (d : Surf) (r : Surf) (i : Nat) (p : Plane), (s.weftDue = some l) ∧ ((s.cmdAt l).op = 4) ∧ (s.weftReady (s.cmdAt l) = some (d, r)) ∧ (d.plane = some (i, p))) ∧
    (∃ (s : State) (l : WeftList) (d : Surf) (r : Surf) (i : Nat) (p : Plane), (s.weftDue = some l) ∧ ((s.cmdAt l).op = 5) ∧ (s.weftReady (s.cmdAt l) = some (d, r)) ∧ (d.plane = some (i, p))) ∧
    (∃ (s : State) (l : WeftList) (d : Surf) (r : Surf) (i : Nat) (p : Plane), (s.weftDue = some l) ∧ ((s.cmdAt l).op = 6) ∧ (s.weftReady (s.cmdAt l) = some (d, r)) ∧ (d.plane = some (i, p))) ∧
    (∃ (s : State) (l : WeftList) (d : Surf) (r : Surf) (i : Nat) (p : Plane), (s.weftDue = some l) ∧ ((s.cmdAt l).op = 7) ∧ (s.weftReady (s.cmdAt l) = some (d, r)) ∧ (d.plane = some (i, p))) :=
  ⟨⟨(weaving (wcmd 0 0 0 0 0 0 0 0 0 0 1 1 0 0 0 0 0) 2), (wlist 2 true), by decide +kernel⟩,
   ⟨(weaving (wcmd 0 0 0 0 0 0 0 0 0 0 1 1 0 0 0 0 0) 1), (wlist 1 true), by decide +kernel⟩,
   ⟨(weaving (wcmd 10 0 0 0 0 0 0 0 0 0 1 1 0 0 0 0 0) 2), (wlist 2 true), by decide +kernel⟩,
   ⟨full, by decide +kernel⟩,
   ⟨(weaving (wcmd 2 0 1 0 64 8200 0 0 1 1 3 2 0 0 0 0 0) 2), (wlist 2 true), 0x72, by decide +kernel⟩,
   ⟨(weaving (wcmd 8 0 0 0 0 0 0 0 0 0 1 1 0 0 0 0 8639) 2), (wlist 2 true), by decide +kernel⟩,
   ⟨((weaving (wcmd 8 0 0 0 0 0 0 0 0 0 1 1 0 0 0 0 300) 2).modClk (fun c => { c with frame := 40, line := 300 })), (wlist 2 true), by decide +kernel⟩,
   ⟨(((weaving [] 2).modClk (fun c => { c with frame := 40, line := 299, wc := 28 })).modWeft (fun w => { w with wait := some (300, 40) })), (wlist 2 true), 300, 40, by decide +kernel⟩,
   ⟨(((weaving [] 2).modClk (fun c => { c with frame := 40, line := 299, wc := 27 })).modWeft (fun w => { w with wait := some (300, 40) })), 300, 40, by decide +kernel⟩,
   ⟨(weaving (wcmd 9 0 0 0 0 0 0 0 0 0 1 1 0 0 0 0 0x103E8) 2), (wlist 2 true), by decide +kernel⟩,
   ⟨((weaving (wcmd 9 0 0 0 0 0 0 0 0 0 1 1 0 0 0 0 300) 2).modClk (fun c => { c with frame := 40, line := 300 })), (wlist 2 true), by decide +kernel⟩,
   ⟨((weaving [] 2).modWeft (fun w => { w with wmark := some (8639, 255), marks := [⟨8639, 295, 255, none⟩] })), (wlist 2 true), 8639, 255, by decide +kernel⟩,
   ⟨(bursting rawBurst), by decide +kernel⟩,
   ⟨(bursting rawBurst), rawBurst, [], by decide +kernel⟩,
   ⟨(bursting (planeBurst 2)), (planeBurst 2), [], ⟨17, 2, 16384, 0, 0, 1⟩, tile17, by decide +kernel⟩,
   ⟨(bursting (planeBurst 3)), (planeBurst 3), ⟨17, 3, 16384, 0, 0, 1⟩, by decide +kernel⟩,
   ⟨full, by decide +kernel⟩,
   ⟨(drawing (wcmd 1 3 0 0 0 17 0 17 20 1 4 2 18 1 0 0 0)), (wlist 2 true), ⟨0, 15360, 4, some (17, tile17)⟩, ⟨0, 15360, 4, some (17, tile17)⟩, 17, tile17, by decide +kernel⟩,
   ⟨(drawing (wcmd 2 1 0 0 0 17 0 0 20 1 4 2 0 0 9 0 0)), (wlist 2 true), ⟨0, 15360, 4, some (17, tile17)⟩, ⟨0, 15360, 4, some (17, tile17)⟩, 17, tile17, by decide +kernel⟩,
   ⟨(drawing (wcmd 3 1 0 0 0 17 0 0 20 1 4 2 0 0 9 0 0)), (wlist 2 true), ⟨0, 15360, 4, some (17, tile17)⟩, ⟨0, 15360, 4, some (17, tile17)⟩, 17, tile17, by decide +kernel⟩,
   ⟨(drawing (wcmd 4 1 0 0 0 17 0 0 20 1 1 1 30 1 9 0 0)), (wlist 2 true), ⟨0, 15360, 4, some (17, tile17)⟩, ⟨0, 15360, 4, some (17, tile17)⟩, 17, tile17, by decide +kernel⟩,
   ⟨(drawing (wcmd 5 3 0 0 0 17 0 17 20 1 4 2 30 1 0 0 0)), (wlist 2 true), ⟨0, 15360, 4, some (17, tile17)⟩, ⟨0, 15360, 4, some (17, tile17)⟩, 17, tile17, by decide +kernel⟩,
   ⟨(drawing (wcmd 6 1 0 0 0 17 0 0 20 1 4 2 0 0 9 0 0)), (wlist 2 true), ⟨0, 15360, 4, some (17, tile17)⟩, ⟨0, 15360, 4, some (17, tile17)⟩, 17, tile17, by decide +kernel⟩,
   ⟨(drawing (wcmd 7 3 0 0 0 17 0 17 20 1 4 2 30 1 0 0 0)), (wlist 2 true), ⟨0, 15360, 4, some (17, tile17)⟩, ⟨0, 15360, 4, some (17, tile17)⟩, 17, tile17, by decide +kernel⟩⟩

/-- The hypotheses of WeftPixels, clause by clause. -/
theorem hyps_WeftPixels :
    (∃ (s : State) (l : WeftList) (d : Surf) (r : Surf), (s.weftDue = some l) ∧ ((s.cmdAt l).op = 2) ∧ (s.weftReady (s.cmdAt l) = some (d, r)) ∧ (d.plane = none) ∧ (r.plane = none)) ∧
    (∃ (s : State) (l : WeftList) (d : Surf) (r : Surf), (s.weftDue = some l) ∧ ((s.cmdAt l).op = 3) ∧ (s.weftReady (s.cmdAt l) = some (d, r)) ∧ (d.plane = none) ∧ (r.plane = none)) ∧
    (∃ (s : State) (l : WeftList) (d : Surf) (r : Surf), (s.weftDue = some l) ∧ ((s.cmdAt l).op = 4) ∧ (s.weftReady (s.cmdAt l) = some (d, r)) ∧ (d.plane = none) ∧ (r.plane = none)) ∧
    (∃ (s : State) (l : WeftList) (d : Surf) (r : Surf), (s.weftDue = some l) ∧ ((s.cmdAt l).op = 1) ∧ (s.weftReady (s.cmdAt l) = some (d, r)) ∧ (d.plane = none) ∧ (r.plane = none)) ∧
    (∃ (s : State) (l : WeftList) (d : Surf) (r : Surf), (s.weftDue = some l) ∧ ((s.cmdAt l).op = 7) ∧ (s.weftReady (s.cmdAt l) = some (d, r)) ∧ (d.plane = none) ∧ (r.plane = none)) ∧
    (∃ (s : State) (l : WeftList) (d : Surf) (r : Surf), (s.weftDue = some l) ∧ ((s.cmdAt l).op = 5) ∧ (s.weftReady (s.cmdAt l) = some (d, r)) ∧ (d.plane = none) ∧ (r.plane = none)) ∧
    (∃ (s : State) (l : WeftList) (d : Surf) (r : Surf), (s.weftDue = some l) ∧ ((s.cmdAt l).op = 6) ∧ (s.weftReady (s.cmdAt l) = some (d, r)) ∧ (d.plane = none) ∧ (r.plane = none)) :=
  ⟨⟨(weaving (wcmd 2 0 1 0 64 8192 0 0 1 1 3 2 0 0 0xFF20C040 0 0) 2), (wlist 2 true), surf16, surf16, by decide +kernel⟩,
   ⟨(weaving (wcmd 3 4 1 0 64 8192 0 0 1 1 3 2 0 0 0xFF20C040 9 0) 2), (wlist 2 true), surf16, surf16, by decide +kernel⟩,
   ⟨(weaving (wcmd 4 0 1 0 64 8192 0 0 9 5 1 1 7 1 0xFF00FF00 0 0) 2), (wlist 2 true), surf16, surf16, by decide +kernel⟩,
   ⟨(weaving (wcmd 1 0 1 1 64 8192 64 8192 1 1 3 2 0 1 0 0 0) 2), (wlist 2 true), surf16, surf16, by decide +kernel⟩,
   ⟨(weaving (wcmd 7 0 1 1 64 8192 64 8192 1 1 3 2 9 1 0 0 0) 2), (wlist 2 true), surf16, surf16, by decide +kernel⟩,
   ⟨(weaving (wcmd 5 0 1 1 64 8192 64 8192 1 1 3 2 9 1 0 0 255) 2), (wlist 2 true), surf16, surf16, by decide +kernel⟩,
   ⟨(weaving (wcmd 6 0 1 0 64 8192 0 0 1 1 3 2 0 0 5 0 0x1FFFE) 2), (wlist 2 true), surf16, surf16, by decide +kernel⟩⟩

/-- The hypotheses of RefreshAndScrub, clause by clause. -/
theorem hyps_RefreshAndScrub :
    (∃ (s : State) (pc : Fin 128) (b : Nat), (s.mem.sealed = false) ∧ ((s.rotation pc).Nodup) ∧ (((s.rotation pc).filter (fun b => !tget (fun _ => false) s.mem.forced (bankKey pc.val b))).find? (fun b => !s.bankNeeded pc b) = some b)) ∧
    (∃ (s : State) (pc : Fin 128) (b : Nat), (s.mem.sealed = false) ∧ (((s.rotation pc).filter (fun b => !tget (fun _ => false) s.mem.forced (bankKey pc.val b))).head? = some b) ∧ (((s.rotation pc).filter (fun b => !tget (fun _ => false) s.mem.forced (bankKey pc.val b))).all (s.bankNeeded pc) = true)) ∧
    (∃ (s : State), (s.mem.sealed = true)) ∧
    (∃ (s : State) (pc : Fin 128) (bank : Fin 48), (tget (fun _ => false) s.mem.forced (bankKey pc.val bank) = true) ∧ (s.mem.sealed = false) ∧ (s.calTime % 128 = 0)) ∧
    (∃ (s : State) (pc : Fin 128) (bank : Fin 48), (tget (fun _ => false) s.mem.forced (bankKey pc.val bank) = false ∨ s.mem.sealed = true ∨ s.calTime % 128 ≠ 0)) ∧
    (∃ (s : State) (pc : Fin 128) (e : Nat × Nat) (q : List (Nat × Nat)), (s.mem.sealed = false) ∧ (s.sliceKindNow ≠ .realTime) ∧ (tget (fun _ => 0) s.mem.rtBusy (bankKey pc.val e.1) ≤ s.clk.now) ∧ (tget (fun _ => 0) s.mem.refBusy (bankKey pc.val e.1) ≤ s.clk.now) ∧ (tget (fun _ => []) s.mem.nrFirst pc.val = []) ∧ (tget (fun _ => []) s.mem.nrQ pc.val = e :: q) ∧ (s.sliceKindNow = .maint ∨ s.bankNeeded pc e.1 = false)) ∧
    (∃ (s : State) (pc : Fin 128) (e : Nat × Nat) (q : List (Nat × Nat)), (s.mem.sealed = false) ∧ (s.sliceKindNow ≠ .realTime) ∧ (tget (fun _ => 0) s.mem.rtBusy (bankKey pc.val e.1) ≤ s.clk.now) ∧ (tget (fun _ => 0) s.mem.refBusy (bankKey pc.val e.1) ≤ s.clk.now) ∧ (tget (fun _ => []) s.mem.nrFirst pc.val = e :: q)) ∧
    (∃ (s : State), (s.mem.sealed = true ∨ s.sliceKindNow = .realTime)) ∧
    (∃ (s : State) (path : Path), (s.takes path DMC.PAGE 0x114 = true) ∧ (s.mode.power = .sill)) ∧
    (∃ (s : State) (path : Path) (v : BitVec 32), (s.takes path DMC.PAGE 0x114 = true) ∧ (s.mode.power ≠ .sill) ∧ (v.toNat % 2 ≠ s.rd DMC.RD_CTL.MODE)) ∧
    (∃ (s : State) (n : Nat), (s.mem.sealed = false) ∧ (s.calTime % 32768 = 0) ∧ (s.mem.sliceNext = some n) ∧ (s.mem.sliceLine0 = true)) ∧
    (∃ (s : State), (s.mem.sealed = false) ∧ (s.calTime % 32768 = 0) ∧ (s.mem.sliceNext = none ∨ s.mem.sliceLine0 = false)) ∧
    (∃ (s : State), (s.mem.sealed = true ∨ s.calTime % 32768 ≠ 0)) ∧
    (∃ (s : State) (errs : List (Fin 36 × BitVec 8)), (s.rdB DMC.SCRUB_CTL.ENA = true) ∧ (s.mem.sealed = false) ∧ (s.hotThrottle = false) ∧ (s.mem.scrubPc < 127) ∧ (s.firstBad (blockAddr s.mem.scrubPc (s.rd DMC.SCRUB_STS.BLOCK)) 2048 = none) ∧ (eccOf errs ≠ .uncorrectable)) ∧
    (∃ (s : State) (errs : List (Fin 36 × BitVec 8)), (s.rdB DMC.SCRUB_CTL.ENA = true) ∧ (s.mem.sealed = false) ∧ (s.hotThrottle = false) ∧ (s.mem.scrubPc < 127) ∧ (s.firstBad (blockAddr s.mem.scrubPc (s.rd DMC.SCRUB_STS.BLOCK)) 2048 ≠ none ∨ eccOf errs = .uncorrectable)) ∧
    (∃ (s : State), (s.rdB DMC.SCRUB_CTL.ENA = true) ∧ (s.mem.sealed = false) ∧ (s.hotThrottle = false) ∧ (127 ≤ s.mem.scrubPc) ∧ (s.rd DMC.SCRUB_STS.BLOCK + 1 < 393216)) ∧
    (∃ (s : State), (s.rdB DMC.SCRUB_CTL.ENA = true) ∧ (s.mem.sealed = false) ∧ (s.hotThrottle = false) ∧ (127 ≤ s.mem.scrubPc) ∧ (393216 ≤ s.rd DMC.SCRUB_STS.BLOCK + 1)) ∧
    (∃ (s : State), (s.rdB DMC.SCRUB_CTL.ENA = false ∨ s.mem.sealed = true ∨ s.hotThrottle = true)) ∧
    (∃ (s : State) (pc : Fin 128), (s.rd DMC.COR_THR.COUNT < tget (fun _ => 0) s.mem.corHour pc.val)) ∧
    (∃ (s : State) (pc : Fin 128), (tget (fun _ => 0) s.mem.corHour pc.val ≤ s.rd DMC.COR_THR.COUNT)) ∧
    (∃ (s : State) (path : Path) (hi : Bool), (s.takes path DMC.PAGE (if hi = true then 0x14C else 0x148) = true)) :=
  ⟨⟨((on.modMem (fun m => { m with rtQ := [(65, [rtReq])], postponed := [(bankKey 65 40, 7)] })).modMem (fun m => { m with refOrder := [(65, 40 :: (List.range 48).erase 40)] })), 65, 0, by decide +kernel⟩,
   ⟨((on.modMem (fun m => { m with rtQ := [(65, [rtReq])] })).modMem (fun m => { m with refOrder := [(65, [40, 44])] })), 65, 40, by decide +kernel⟩,
   ⟨(refreshing 2 2), by decide +kernel⟩,
   ⟨(on.modMem (fun m => { m with forced := [(bankKey 127 47, true)] })), 127, 47, by decide +kernel⟩,
   ⟨on, 0, 0, by decide +kernel⟩,
   ⟨(on.modMem (fun m => { m with nrQ := [(9, [(3, 16383)])] })), 9, (3, 16383), [], by decide +kernel⟩,
   ⟨(on.modMem (fun m => { m with nrFirst := [(9, [(3, 0)])] })), 9, (3, 0), [], by decide +kernel⟩,
   ⟨(refreshing 2 2), by decide +kernel⟩,
   ⟨on, .mgmt, by decide +kernel⟩,
   ⟨full, .mgmt, 0x10000091, by decide +kernel⟩,
   ⟨(on.modMem (fun m => { m with sliceNext := some 160, sliceLine0 := true })), 160, by decide +kernel⟩,
   ⟨on, by decide +kernel⟩,
   ⟨(on.modClk (fun c => { c with now := 128 })), by decide +kernel⟩,
   ⟨(on.modMem (fun m => { m with scrubPc := 126 })), [(0, 1)], by decide +kernel⟩,
   ⟨(on.modMem (fun m => { m with scrubPc := 126 })), [(3, 1), (9, 0xFF)], by decide +kernel⟩,
   ⟨((on.modMem (fun m => { m with scrubPc := 127 })).wr DMC.SCRUB_STS.BLOCK 393214), by decide +kernel⟩,
   ⟨((on.modMem (fun m => { m with scrubPc := 127 })).wr DMC.SCRUB_STS.BLOCK 393215), by decide +kernel⟩,
   ⟨(on.wrB DMC.SCRUB_CTL.ENA false), by decide +kernel⟩,
   ⟨(on.modMem (fun m => { m with corHour := [(5, 65)] })), 5, by decide +kernel⟩,
   ⟨(on.modMem (fun m => { m with corHour := [(5, 64)] })), 5, by decide +kernel⟩,
   ⟨(on.setReg (DMC.XLATE_LO.key 0 0) 0x00D32A99), .mgmt, true, by decide +kernel⟩⟩

/-- The hypotheses of SelfRefresh, clause by clause. -/
theorem hyps_SelfRefresh :
    (∃ (s : State), (s.rd DMC.SR_STS.STATE = 0)) ∧
    (∃ (s : State), (s.rd DMC.SR_STS.STATE = 3)) ∧
    (∃ (s : State), (s.rd DMC.SR_STS.STATE = 1 ∨ s.rd DMC.SR_STS.STATE = 2)) ∧
    (∃ (s : State), (s.rd DMC.SR_STS.STATE = 1) ∧ (s.mem.rtQ = []) ∧ (s.mem.rtOut = []) ∧ (s.mem.retry = []) ∧ (s.ram.bad = [])) ∧
    (∃ (s : State) (pc : Fin 128) (r : MemReq), (s.rd DMC.SR_STS.STATE = 1) ∧ (s.mem.rtQ = [(pc.val, [r])]) ∧ (r.write = none) ∧ (s.mem.rtOut = []) ∧ (s.mem.q = []) ∧ (s.mem.retry = []) ∧ (s.ram.bad = [])) ∧
    (∃ (s : State) (r : MemReq) (b : List Byte), (s.rd DMC.SR_STS.STATE = 1) ∧ (s.mem.q = [r]) ∧ (r.cls = .latency) ∧ (r.write = some b)) ∧
    (∃ (s : State) (r : MemReq), (s.rd DMC.SR_STS.STATE = 1) ∧ (s.mem.q = []) ∧ (s.mem.rtQ = []) ∧ (s.mem.rtOut = []) ∧ (s.mem.retry = [r]) ∧ (s.firstBad r.addr r.len ≠ none)) ∧
    (∃ (s : State), (s.rd DMC.SR_STS.STATE ≠ 1)) ∧
    (∃ (s : State), (s.rd DMC.SR_STS.STATE = 3) ∧ (s.mem.srAgain = false) ∧ (s.mem.landHold = [])) ∧
    (∃ (s : State), (s.rd DMC.SR_STS.STATE = 3) ∧ (s.mem.srAgain = true)) ∧
    (∃ (s : State), (s.rd DMC.SR_STS.STATE ≠ 3)) :=
  ⟨⟨on, by decide +kernel⟩,
   ⟨(refreshing 3 2), by decide +kernel⟩,
   ⟨(refreshing 2 2), by decide +kernel⟩,
   ⟨((refreshing 1 2).modMem (fun m => { m with q := [rdReq .debug, rdReq .weft] })), by decide +kernel⟩,
   ⟨((refreshing 1 2).modMem (fun m => { m with rtQ := [(65, [rtReq])] })), 65, rtReq, by decide +kernel⟩,
   ⟨((refreshing 1 2).modMem (fun m => { m with q := [{ rdReq .weft with write := some [5, 6] }] })), { rdReq .weft with write := some [5, 6] }, [5, 6], by decide +kernel⟩,
   ⟨(((refreshing 1 2).modMem (fun m => { m with retry := [rdReq .weft] })).spoil 128), (rdReq .weft), by decide +kernel⟩,
   ⟨on, by decide +kernel⟩,
   ⟨((refreshing 3 2).modMem (fun m => { m with held := [rdReq .weft] })), by decide +kernel⟩,
   ⟨((refreshing 3 1).modMem (fun m => { m with srAgain := true })), by decide +kernel⟩,
   ⟨on, by decide +kernel⟩⟩

/-- The hypotheses of MemoryAccess, clause by clause. -/
theorem hyps_MemoryAccess :
    (∃ (s : State) (who : MemWho) (addr : BitVec 40) (len : BitVec 12) (write : Bool), (sizeOk who.cls addr.toNat len.toNat = true) ∧ (write = false ∨ who.mayWrite = true) ∧ (hbmSize < addr.toNat + len.toNat)) ∧
    (∃ (s : State) (who : MemWho) (addr : BitVec 40) (len : BitVec 12) (write : Bool), (sizeOk who.cls addr.toNat len.toNat = true) ∧ (write = false ∨ who.mayWrite = true) ∧ (addr.toNat + len.toNat ≤ hbmSize) ∧ (s.mem.sealed = false) ∧ (who.cls ≠ .realTime)) ∧
    (∃ (s : State) (who : MemWho) (addr : BitVec 40) (len : BitVec 12) (write : Bool), (sizeOk who.cls addr.toNat len.toNat = true) ∧ (write = false ∨ who.mayWrite = true) ∧ (addr.toNat + len.toNat ≤ hbmSize) ∧ (s.mem.sealed = false) ∧ (who.cls = .realTime)) ∧
    (∃ (s : State) (who : MemWho) (addr : BitVec 40) (len : BitVec 12) (write : Bool), (sizeOk who.cls addr.toNat len.toNat = true) ∧ (write = false ∨ who.mayWrite = true) ∧ (addr.toNat + len.toNat ≤ hbmSize) ∧ (s.mem.sealed = true)) ∧
    (∃ (s : State) (who : MemWho) (addr : BitVec 40) (len : BitVec 12) (write : Bool), (sizeOk who.cls addr.toNat len.toNat = false ∨ (write = true ∧ who.mayWrite = false))) ∧
    (∃ (s : State) (pc : Fin 128) (r : MemReq), (s.mem.sealed = false) ∧ ((s.calTime + 64) % 128 = 0) ∧ (s.kindAt (s.calTime + 64) = .realTime) ∧ (((tget (fun _ => []) s.mem.rtQ pc.val).take 32).find? ((s.linkTurn (s.mem.calRound + (s.calTime + 64) / 32768)).eligible pc) = some r)) ∧
    (∃ (s : State) (pc : Fin 128) (r : MemReq), (s.mem.sealed = false) ∧ ((s.calTime + 64) % 128 = 0) ∧ (s.kindAt (s.calTime + 64) = .realTime) ∧ (((tget (fun _ => []) s.mem.rtQ pc.val).take 32).find? ((s.linkTurn (s.mem.calRound + (s.calTime + 64) / 32768)).eligible pc) = none) ∧ (s.mem.q.find? (fun r => r.cls == .latency && hbmPc r.addr == pc.val && (reqRows r).all (fun l => !(match tget (fun _ => []) s.mem.rtQ pc.val with | r :: _ => blockBanks r.addr | [] => []).contains l.bank)) = some r)) ∧
    (∃ (s : State), (s.mem.sealed = true ∨ (s.calTime + 64) % 128 ≠ 0 ∨ s.kindAt (s.calTime + 64) ≠ .realTime)) ∧
    (∃ (s : State) (pc : Fin 128) (burst : Fin 64) (errs : List (Fin 36 × BitVec 8)) (r : MemReq), (s.mem.sealed = false) ∧ (s.nextReq pc = some r) ∧ (r.write = none) ∧ ((s.readRes r burst (eccOf errs)).1 ≠ .uncorrectable)) ∧
    (∃ (s : State) (pc : Fin 128) (r : MemReq) (b : List Byte), (s.mem.sealed = false) ∧ (s.nextReq pc = some r) ∧ (r.write = some b)) ∧
    (∃ (s : State) (pc : Fin 128) (burst : Fin 64) (errs : List (Fin 36 × BitVec 8)) (r : MemReq), (s.mem.sealed = false) ∧ (s.nextReq pc = some r) ∧ (r.write = none) ∧ ((s.readRes r burst (eccOf errs)).1 = .uncorrectable)) ∧
    (∃ (s : State) (pc : Fin 128), (s.mem.sealed = true ∨ s.nextReq pc = none)) ∧
    (∃ (s : State) (pc : Fin 128) (r : MemReq) (q : List MemReq), (tget (fun _ => []) s.mem.rtOut pc.val = r :: q) ∧ (r.write = none) ∧ (r.since + 218 ≤ s.clk.now) ∧ (s.badBursts [(r.addr, r.len)] = [])) ∧
    (∃ (s : State) (pc : Fin 128) (r : MemReq) (q : List MemReq) (b : List Byte), (tget (fun _ => []) s.mem.rtOut pc.val = r :: q) ∧ (r.write = some b) ∧ (r.since + 208 ≤ s.clk.now)) ∧
    (∃ (s : State) (pc : Fin 128), (tget (fun _ => []) s.mem.rtOut pc.val = [])) ∧
    (∃ (s : State) (r : MemReq) (q : List MemReq), (s.mem.retry = r :: q) ∧ (r.since ≤ s.clk.now)) ∧
    (∃ (s : State), ((s.mem.retry.head?).all (fun r => decide (s.clk.now < r.since)) = true)) ∧
    (∃ (s : State) (n : BitVec 16) (r : MemReq), (s.mem.q[n.toNat]? = some r) ∧ (r.head = false) ∧ (r.since + s.ageLimit r.cls ≤ s.clk.now)) ∧
    (∃ (s : State) (n : BitVec 16), ((s.mem.q[n.toNat]?).all (fun r => r.head || decide (s.clk.now < r.since + s.ageLimit r.cls)) = true)) :=
  ⟨⟨on, .weft, 0x17FFFFFFFF, 33, false, by decide +kernel⟩,
   ⟨on, .debug, 0x17FFFFFFE0, 32, true, by decide +kernel⟩,
   ⟨rtQueued, .dc 1, 0x1000D32800, 2048, false, by decide +kernel⟩,
   ⟨(refreshing 2 2), .ingest, 0, 32, false, by decide +kernel⟩,
   ⟨on, .prefill 0, 0, 2048, true, by decide +kernel⟩,
   ⟨(rtQueued.modClk (fun c => { c with now := 64 })), 65, rtReq, by decide +kernel⟩,
   ⟨((asking (rdReq .weft)).modClk (fun c => { c with now := 64 })), 2, (rdReq .weft), by decide +kernel⟩,
   ⟨on, by decide +kernel⟩,
   ⟨(asking (rdReq .weft)), 2, 0, [(35, 0x80)], (rdReq .weft), by decide +kernel⟩,
   ⟨(asking { rdReq .encode with write := some [5, 6] }), 2, { rdReq .encode with write := some [5, 6] }, [5, 6], by decide +kernel⟩,
   ⟨(asking (rdReq .debug)), 2, 0, [(3, 1), (9, 0xFF)], (rdReq .debug), by decide +kernel⟩,
   ⟨on, 2, by decide +kernel⟩,
   ⟨(rtGranted.modClk (fun c => { c with now := 218 })), 65, rtReq, [], by decide +kernel⟩,
   ⟨((on.modMem (fun m => { m with rtOut := [(65, [{ rtReq with who := .dc 1, write := some [5, 6] }])] })).modClk (fun c => { c with now := 208 })), 65, { rtReq with who := .dc 1, write := some [5, 6] }, [], [5, 6], by decide +kernel⟩,
   ⟨on, 2, by decide +kernel⟩,
   ⟨((on.modMem (fun m => { m with retry := [{ rdReq .weft with since := 64 }] })).modClk (fun c => { c with now := 64 })), { rdReq .weft with since := 64 }, [], by decide +kernel⟩,
   ⟨on, by decide +kernel⟩,
   ⟨((asking (rdReq .debug)).modClk (fun c => { c with now := 10000000 })), 0, (rdReq .debug), by decide +kernel⟩,
   ⟨(asking (rdReq .debug)), 0, by decide +kernel⟩⟩

/-- The hypotheses of LaneLocks, clause by clause. -/
theorem hyps_LaneLocks :
    (∃ (s : State) (lane : Fin 512), (240 ≤ lane.val) ∧ (s.rdB LAN.LANE_STS.BLOCK 0 lane = false)) ∧
    (∃ (s : State) (lane : Fin 512), (240 ≤ lane.val) ∧ (s.rdB LAN.LANE_STS.BLOCK 0 lane = true)) ∧
    (∃ (s : State) (lane : Fin 512), (240 ≤ lane.val)) ∧
    (∃ (s : State) (lane : Fin 512), (240 ≤ lane.val)) ∧
    (∃ (s : State) (lane : Fin 512), (240 ≤ lane.val)) ∧
    (∃ (s : State) (lane : Fin 512), (240 ≤ lane.val) ∧ (s.rdB LAN.LANE_STS.CDR 0 lane = true) ∧ (s.rdB LAN.LANE_STS.LOS 0 lane = false) ∧ (s.rdB LAN.LANE_STS.BLOCK 0 lane = false) ∧ ((laneHome lane.val).all (fun h => !s.portUp h.1) = true)) ∧
    (∃ (s : State) (lane : Fin 512), (s.rdB LAN.LANE_STS.CDR 0 lane = false)) ∧
    (∃ (s : State) (lane : Fin 512), (240 ≤ lane.val) ∧ (lane.val < 256) ∧ (s.rdB LAN.LANE_STS.BLOCK 0 lane = true)) ∧
    (∃ (s : State) (lane : Fin 512) (p : Nat) (l : Nat), (laneHome lane.val = some (p, l)) ∧ (s.rdB LAN.LANE_STS.BLOCK 0 lane = true) ∧ (s.portUp p = true) ∧ (s.portEth p = false) ∧ (bit (s.rxMask p) l = true) ∧ (s.rxMask p ≠ 2 ^ l)) ∧
    (∃ (s : State) (lane : Fin 512) (headers : BitVec 32), (s.rdB LAN.LANE_STS.BLOCK 0 lane = true) ∧ (s.eff_ LAN.DEGR_THR.COUNT < headers.toNat)) ∧
    (∃ (s : State) (lane : Fin 512) (headers : BitVec 32), (s.rdB LAN.LANE_STS.BLOCK 0 lane = true) ∧ (s.eff_ LAN.DEGR_THR.COUNT < headers.toNat)) ∧
    (∃ (s : State) (lane : Fin 512) (headers : BitVec 32) (kinds : BitVec 32), (headers.toNat ≤ s.eff_ LAN.DEGR_THR.COUNT) ∧ (kinds ≠ 0) ∧ (s.log.frameKeys.contains (0x99, lane.val) = false)) ∧
    (∃ (s : State) (lane : Fin 512) (headers : BitVec 32) (kinds : BitVec 32), (headers.toNat ≤ s.eff_ LAN.DEGR_THR.COUNT) ∧ (kinds = 0 ∨ s.log.frameKeys.contains (0x99, lane.val) = true)) ∧
    (∃ (s : State) (port : Fin 40), (s.portUp port = true) ∧ (s.portEth port = false)) ∧
    (∃ (s : State) (port : Fin 40), (s.portUp port = false)) ∧
    (∃ (s : State) (port : Fin 40), (s.portUp port = true) ∧ (s.portEth port = false)) ∧
    (∃ (s : State) (port : Fin 40), (s.portUp port = false)) ∧
    (∃ (s : State) (path : Path) (p : Nat) (l : Nat), (s.takes path LAN.PAGE 0x110 = true) ∧ (laneHome (s.rd LAN.LANE_SEL.LANE 0 path.num) = some (p, l)) ∧ (s.portUp p = false)) ∧
    (∃ (s : State) (path : Path), (s.takes path LAN.PAGE 0x110 = true) ∧ (240 ≤ s.rd LAN.LANE_SEL.LANE 0 path.num) ∧ (s.rd LAN.LANE_SEL.LANE 0 path.num < 256)) :=
  ⟨⟨on, 511, by decide +kernel⟩,
   ⟨port5Up, 302, by decide +kernel⟩,
   ⟨(on.wrB LAN.LANE_STS.LOS true 0 240), 240, by decide +kernel⟩,
   ⟨on, 240, by decide +kernel⟩,
   ⟨port5Up, 302, by decide +kernel⟩,
   ⟨(on.wrB LAN.LANE_STS.CDR true 0 302), 302, by decide +kernel⟩,
   ⟨on, 302, by decide +kernel⟩,
   ⟨(laneUp on 243), 243, by decide +kernel⟩,
   ⟨port5Up, 302, 5, 6, by decide +kernel⟩,
   ⟨port5Up, 302, 1001, by decide +kernel⟩,
   ⟨port5Up, 302, 1001, by decide +kernel⟩,
   ⟨port5Up, 302, 1000, 1, by decide +kernel⟩,
   ⟨port5Up, 302, 1000, 0, by decide +kernel⟩,
   ⟨port5Up, 5, by decide +kernel⟩,
   ⟨on, 39, by decide +kernel⟩,
   ⟨port5Up, 5, by decide +kernel⟩,
   ⟨on, 0, by decide +kernel⟩,
   ⟨((port5 4 2).wr LAN.LANE_SEL.LANE 302 0 1), .mgmt, 5, 6, by decide +kernel⟩,
   ⟨(on.wr LAN.LANE_SEL.LANE 255 0 1), .mgmt, by decide +kernel⟩⟩

/-- The hypotheses of PortLadder, clause by clause. -/
theorem hyps_PortLadder :
    (∃ (s : State) (port : Fin 40) (supported : Bool), (s.portState port = 0) ∧ (s.rdB LAN.PORT_CFG.ENA 0 (portKey port.val) = true) ∧ (s.pwr.lanesStopped = false) ∧ (port.val < 24 ∨ supported = true) ∧ (s.portEth port = false)) ∧
    (∃ (s : State) (port : Fin 40) (supported : Bool), (s.portState port = 0) ∧ (s.rdB LAN.PORT_CFG.ENA 0 (portKey port.val) = true) ∧ (s.pwr.lanesStopped = false) ∧ (supported = true) ∧ (s.portEth port = true)) ∧
    (∃ (s : State) (port : Fin 40), (24 ≤ port.val)) ∧
    (∃ (s : State) (port : Fin 40), (port.val < 24) ∧ (s.portState port ≠ 0 ∨ s.rdB LAN.PORT_CFG.ENA 0 (portKey port.val) = false ∨ s.pwr.lanesStopped = true)) ∧
    (∃ (s : State) (port : Fin 40), (24 ≤ port.val) ∧ (s.portState port ≠ 0 ∨ s.rdB LAN.PORT_CFG.ENA 0 (portKey port.val) = false ∨ s.pwr.lanesStopped = true)) ∧
    (∃ (s : State) (path : Path) (v : BitVec 32) (p : Nat), (s.takes path LAN.PAGE 0x118 = true) ∧ (portOfSel (s.rd LAN.PORT_SEL 0 path.num) = some p) ∧ (s.rdB LAN.PORT_CFG.ENA 0 (portKey p) = true) ∧ ((v.toNat % 2 ^ 14 ||| (if p < 24 then 2 else 0)) / 2 = s.rd LAN.PORT_CFG 0 (portKey p) / 2)) ∧
    (∃ (s : State) (path : Path) (p : Nat), (s.takes path LAN.PAGE 0x118 = true) ∧ (portOfSel (s.rd LAN.PORT_SEL 0 path.num) = some p) ∧ (s.rdB LAN.PORT_CFG.ENA 0 (portKey p) = false)) ∧
    (∃ (s : State) (path : Path) (v : BitVec 32) (p : Nat), (s.takes path LAN.PAGE 0x118 = true) ∧ (portOfSel (s.rd LAN.PORT_SEL 0 path.num) = some p) ∧ (s.rdB LAN.PORT_CFG.ENA 0 (portKey p) = true) ∧ (v.toNat % 2 = 1) ∧ ((v.toNat % 2 ^ 14 ||| (if p < 24 then 2 else 0)) / 2 ≠ s.rd LAN.PORT_CFG 0 (portKey p) / 2)) ∧
    (∃ (s : State) (port : Fin 40), (s.portState port = 1)) ∧
    (∃ (s : State) (port : Fin 40), (s.portState port ≠ 1)) ∧
    (∃ (s : State) (port : Fin 40), (s.portState port = 1) ∧ (s.portEth port = false) ∧ (s.rdB LAN.PORT_STS.BACKOFF 0 (portKey port.val) = false) ∧ ((laneNums port.val).any (fun l => s.rdB LAN.LANE_STS.BLOCK 0 (laneIdx port.val l) && !s.rdB LAN.LANE_CTL.DIS 0 (laneIdx port.val l)) = true)) ∧
    (∃ (s : State) (port : Fin 40), (s.portState port = 2) ∧ (s.portEth port = false)) ∧
    (∃ (s : State) (port : Fin 40) (version : BitVec 4), (s.portState port = 2) ∧ (s.portEth port = false) ∧ (version ≠ 1)) ∧
    (∃ (s : State) (port : Fin 40), (s.portState port = 1) ∧ (s.rdB LAN.PORT_STS.BACKOFF 0 (portKey port.val) = true)) ∧
    (∃ (s : State) (port : Fin 40), (s.portState port = 3) ∧ (s.portEth port = false)) ∧
    (∃ (s : State) (port : Fin 40), (s.portState port = 3) ∧ (s.portEth port = false)) ∧
    (∃ (s : State) (port : Fin 40), (s.portState port ≠ 3)) ∧
    (∃ (s : State) (port : Fin 40) (counts : List (BitVec 32)) (hdr : BitVec 8) (partner : BitVec 8) (pass : Nat), (s.portState port = 4) ∧ (s.portEth port = false) ∧ (pass = laneMask port.val (fun l => s.laneUsable port.val l && !hdr.getLsbD l && decide ((counts.getD l 0).toNat ≤ checkLimit (s.rd LAN.PORT_STS.RATE 0 (portKey port.val))))) ∧ (pass &&& partner.toNat ≠ 0) ∧ (s.rd LAN.PORT_STS.RATE 0 (portKey port.val) < (s.portSt port.val).target)) ∧
    (∃ (s : State) (port : Fin 40) (counts : List (BitVec 32)) (hdr : BitVec 8) (partner : BitVec 8) (pass : Nat), (s.portState port = 4) ∧ (s.portEth port = false) ∧ (pass = laneMask port.val (fun l => s.laneUsable port.val l && !hdr.getLsbD l && decide ((counts.getD l 0).toNat ≤ checkLimit (s.rd LAN.PORT_STS.RATE 0 (portKey port.val))))) ∧ (pass &&& partner.toNat ≠ 0) ∧ ((s.portSt port.val).target ≤ s.rd LAN.PORT_STS.RATE 0 (portKey port.val)) ∧ (port.val ≠ 23)) ∧
    (∃ (s : State) (port : Fin 40) (counts : List (BitVec 32)) (hdr : BitVec 8) (partner : BitVec 8), (s.portState port = 4) ∧ (s.portEth port = false) ∧ (laneMask port.val (fun l => s.laneUsable port.val l && !hdr.getLsbD l && decide ((counts.getD l 0).toNat ≤ checkLimit (s.rd LAN.PORT_STS.RATE 0 (portKey port.val)))) &&& partner.toNat = 0)) ∧
    (∃ (s : State) (port : Fin 40) (relocked : BitVec 8), (s.portState port = 5) ∧ (s.portEth port = false) ∧ (laneMask port.val (fun l => relocked.getLsbD l && !s.rdB LAN.LANE_STS.FAILED 0 (laneIdx port.val l) && !s.rdB LAN.LANE_CTL.DIS 0 (laneIdx port.val l)) ≠ 0)) ∧
    (∃ (s : State) (port : Fin 40), (s.portState port = 2)) ∧
    (∃ (s : State) (port : Fin 40), (s.portState port = 3 ∨ s.portState port = 4)) ∧
    (∃ (s : State) (port : Fin 40), (s.portState port = 3)) ∧
    (∃ (s : State) (port : Fin 40), (s.portState port = 5)) ∧
    (∃ (s : State) (port : Fin 40), (s.portState port ≠ 2)) ∧
    (∃ (s : State) (port : Fin 40), (s.portState port ≠ 3)) ∧
    (∃ (s : State) (port : Fin 40), (s.portUp port = true) ∧ (s.portEth port = false)) ∧
    (∃ (s : State) (port : Fin 40), (s.portUp port = true) ∧ (s.portEth port = false)) ∧
    (∃ (s : State) (port : Fin 40), (s.portUp port = false)) ∧
    (∃ (s : State) (port : Fin 16), (s.portEth (24 + port.val) = true) ∧ (s.portState (24 + port.val) = 7)) ∧
    (∃ (s : State) (port : Fin 16), (s.portEth (24 + port.val) = true) ∧ (s.portState (24 + port.val) = 8)) ∧
    (∃ (s : State) (port : Fin 16), (s.portEth (24 + port.val) = true) ∧ (6 < s.portState (24 + port.val))) ∧
    (∃ (s : State) (port : Fin 16), (s.portEth (24 + port.val) = true) ∧ (6 ≤ s.portState (24 + port.val))) ∧
    (∃ (s : State) (port : Fin 16), (s.portEth (24 + port.val) = false)) :=
  ⟨⟨on, 39, true, by decide +kernel⟩,
   ⟨(flex0 0), 24, true, by decide +kernel⟩,
   ⟨(flex0 8), 25, by decide +kernel⟩,
   ⟨port5Up, 5, by decide +kernel⟩,
   ⟨(flex0 8), 24, by decide +kernel⟩,
   ⟨((port5 4 2).wr LAN.PORT_SEL 5 0 1), .mgmt, 0x2A72, 5, by decide +kernel⟩,
   ⟨((on.wrB LAN.PORT_CFG.ENA false 0 47).wr LAN.PORT_SEL 47 0 1), .mgmt, 39, by decide +kernel⟩,
   ⟨(on.wr LAN.PORT_SEL 47 0 1), .mgmt, 1, 39, by decide +kernel⟩,
   ⟨(port5 1 0), 5, by decide +kernel⟩,
   ⟨on, 5, by decide +kernel⟩,
   ⟨(port5 1 0), 5, by decide +kernel⟩,
   ⟨(port5 2 0), 5, by decide +kernel⟩,
   ⟨(port5 2 0), 5, 2, by decide +kernel⟩,
   ⟨((port5 1 0).wrB LAN.PORT_STS.BACKOFF true 0 5), 5, by decide +kernel⟩,
   ⟨(port5 3 4), 5, by decide +kernel⟩,
   ⟨(port5 3 4), 5, by decide +kernel⟩,
   ⟨on, 5, by decide +kernel⟩,
   ⟨(port5 4 3), 5, [750, 751], 4, 255, 0xF9, by decide +kernel⟩,
   ⟨(port5 4 4), 5, [0, 0, 0, 0, 0, 0, 2210], 0, 255, 0xBF, by decide +kernel⟩,
   ⟨(port5 4 2), 5, [], 1, 1, by decide +kernel⟩,
   ⟨(port5 5 3), 5, 0xFB, by decide +kernel⟩,
   ⟨(port5 2 0), 5, by decide +kernel⟩,
   ⟨(port5 4 3), 5, by decide +kernel⟩,
   ⟨(port5 3 0), 5, by decide +kernel⟩,
   ⟨(port5 5 3), 5, by decide +kernel⟩,
   ⟨on, 5, by decide +kernel⟩,
   ⟨on, 5, by decide +kernel⟩,
   ⟨port5Up, 5, by decide +kernel⟩,
   ⟨port5Up, 5, by decide +kernel⟩,
   ⟨on, 5, by decide +kernel⟩,
   ⟨(flex0 7), 0, by decide +kernel⟩,
   ⟨(flex0 8), 0, by decide +kernel⟩,
   ⟨(flex0 8), 0, by decide +kernel⟩,
   ⟨(flex0 6), 0, by decide +kernel⟩,
   ⟨on, 0, by decide +kernel⟩⟩

/-- The hypotheses of FabricLinks, clause by clause. -/
theorem hyps_FabricLinks :
    (∃ (s : State) (port : Fin 40) (flit : List Byte) (k : Nat), (s.calnarUp port.val = true) ∧ (flit.length = 64) ∧ (BitVec.ofNat 16 (beAt flit 0 2) = (s.link port.val).rxNext) ∧ (beAt flit 2 1 % 4 ≠ 0) ∧ (beAt flit 2 1 / 32 = 0) ∧ (beAt flit 3 1 = 0) ∧ (k = 2 * (beAt flit 2 1 % 4 - 1) + bits (beAt flit 2 1) 2 2) ∧ (0 < (s.link port.val).granted.getD k 0) ∧ (flitHead flit = true) ∧ ((s.link port.val).cur.getD k none = none) ∧ (flitTail flit = true) ∧ (s.headCheck port.val (beAt flit 2 1 % 4) (slice flit 4 16) (flitTail flit) = none) ∧ (s.dir port.val = 6 ∨ beAt flit 2 1 % 4 = 1 ∨ s.way (beAt flit 6 2) (beAt flit 4 2) s.carries = .taken)) ∧
    (∃ (s : State) (port : Fin 40) (flit : List Byte) (k : Nat), (s.calnarUp port.val = true) ∧ (flit.length = 64) ∧ (BitVec.ofNat 16 (beAt flit 0 2) = (s.link port.val).rxNext) ∧ (beAt flit 2 1 % 4 ≠ 0) ∧ (beAt flit 2 1 / 32 = 0) ∧ (beAt flit 3 1 = 0) ∧ (k = 2 * (beAt flit 2 1 % 4 - 1) + bits (beAt flit 2 1) 2 2) ∧ (0 < (s.link port.val).granted.getD k 0) ∧ (flitHead flit = true) ∧ ((s.link port.val).cur.getD k none = none) ∧ (flitTail flit = false) ∧ (s.headCheck port.val (beAt flit 2 1 % 4) (slice flit 4 16) (flitTail flit) = none) ∧ (s.dir port.val = 6 ∨ beAt flit 2 1 % 4 = 1 ∨ s.way (beAt flit 6 2) (beAt flit 4 2) s.carries = .taken) ∧ (k < (s.link port.val).cur.length)) ∧
    (∃ (s : State) (port : Fin 40) (flit : List Byte) (k : Nat) (c : CurMsg), (s.calnarUp port.val = true) ∧ (flit.length = 64) ∧ (BitVec.ofNat 16 (beAt flit 0 2) = (s.link port.val).rxNext) ∧ (beAt flit 2 1 % 4 ≠ 0) ∧ (beAt flit 2 1 / 32 = 0) ∧ (beAt flit 3 1 = 0) ∧ (k = 2 * (beAt flit 2 1 % 4 - 1) + bits (beAt flit 2 1) 2 2) ∧ (0 < (s.link port.val).granted.getD k 0) ∧ (flitHead flit = false) ∧ (flitTail flit = true) ∧ ((s.link port.val).cur.getD k none = some c) ∧ (c.drop = false) ∧ (c.left = 1) ∧ (c.out = none) ∧ (s.quarantined port.val = false)) ∧
    (∃ (s : State) (port : Fin 40) (flit : List Byte) (k : Nat) (q : Nat) (cls : Nat) (tb : Bool) (al : Bool), (s.calnarUp port.val = true) ∧ (flit.length = 64) ∧ (BitVec.ofNat 16 (beAt flit 0 2) = (s.link port.val).rxNext) ∧ (beAt flit 2 1 % 4 ≠ 0) ∧ (beAt flit 2 1 / 32 = 0) ∧ (beAt flit 3 1 = 0) ∧ (k = 2 * (beAt flit 2 1 % 4 - 1) + bits (beAt flit 2 1) 2 2) ∧ (0 < (s.link port.val).granted.getD k 0) ∧ (flitHead flit = true) ∧ ((s.link port.val).cur.getD k none = none) ∧ (flitTail flit = true) ∧ (s.headCheck port.val (beAt flit 2 1 % 4) (slice flit 4 16) (flitTail flit) = none) ∧ (s.dir port.val ≠ 6) ∧ (beAt flit 2 1 % 4 ≠ 1) ∧ (s.way (beAt flit 6 2) (beAt flit 4 2) s.carries = .port q tb al) ∧ (q ≠ port.val) ∧ (0 < beAt flit 10 2) ∧ (cls = s.outClass (s.dir port.val) (s.dir q) (bits (beAt flit 2 1) 2 2)) ∧ (s.carries q = true) ∧ ((s.link q).txQ = []) ∧ ((s.link q).replay.length < 1024) ∧ ((s.link q).credits.length = 6) ∧ ((s.link q).locked = List.replicate 6 none) ∧ (0 < (s.link q).credits.getD (2 * (beAt flit 2 1 % 4 - 1) + cls) 0)) ∧
    (∃ (s : State) (port : Fin 40) (flit : List Byte) (k : Nat) (code : Nat), (s.calnarUp port.val = true) ∧ (flit.length = 64) ∧ (BitVec.ofNat 16 (beAt flit 0 2) = (s.link port.val).rxNext) ∧ (beAt flit 2 1 % 4 ≠ 0) ∧ (beAt flit 2 1 / 32 = 0) ∧ (beAt flit 3 1 = 0) ∧ (k = 2 * (beAt flit 2 1 % 4 - 1) + bits (beAt flit 2 1) 2 2) ∧ (0 < (s.link port.val).granted.getD k 0) ∧ (flitHead flit = true) ∧ ((s.link port.val).cur.getD k none = none) ∧ (s.headCheck port.val (beAt flit 2 1 % 4) (slice flit 4 16) (flitTail flit) = some code) ∧ (isViolation code = true) ∧ (s.recent (64 * port.val + code) 1600000 = false)) ∧
    (∃ (s : State) (port : Fin 40) (flit : List Byte) (k : Nat), (s.calnarUp port.val = true) ∧ (flit.length = 64) ∧ (BitVec.ofNat 16 (beAt flit 0 2) = (s.link port.val).rxNext) ∧ (beAt flit 2 1 % 4 ≠ 0) ∧ (beAt flit 2 1 / 32 = 0) ∧ (beAt flit 3 1 = 0) ∧ (k = 2 * (beAt flit 2 1 % 4 - 1) + bits (beAt flit 2 1) 2 2) ∧ (0 < (s.link port.val).granted.getD k 0) ∧ (flitHead flit = true) ∧ ((s.link port.val).cur.getD k none = none) ∧ (s.headCheck port.val (beAt flit 2 1 % 4) (slice flit 4 16) (flitTail flit) = some 0x09) ∧ (s.recent (64 * port.val + 0x09) 1600000 = false)) ∧
    (∃ (s : State) (port : Fin 40) (flit : List Byte) (k : Nat), (s.calnarUp port.val = true) ∧ (flit.length = 64) ∧ (BitVec.ofNat 16 (beAt flit 0 2) = (s.link port.val).rxNext) ∧ (beAt flit 2 1 % 4 ≠ 0) ∧ (beAt flit 2 1 / 32 = 0) ∧ (beAt flit 3 1 = 0) ∧ (k = 2 * (beAt flit 2 1 % 4 - 1) + bits (beAt flit 2 1) 2 2) ∧ (0 < (s.link port.val).granted.getD k 0) ∧ (flitHead flit = true) ∧ ((s.link port.val).cur.getD k none = none) ∧ (s.headCheck port.val (beAt flit 2 1 % 4) (slice flit 4 16) (flitTail flit) = some 0x08) ∧ (s.recent (64 * port.val + 0x08) 1600000 = false)) ∧
    (∃ (s : State) (port : Fin 40) (flit : List Byte) (k : Nat), (s.calnarUp port.val = true) ∧ (flit.length = 64) ∧ (BitVec.ofNat 16 (beAt flit 0 2) = (s.link port.val).rxNext) ∧ (beAt flit 2 1 % 4 ≠ 0) ∧ (beAt flit 2 1 / 32 = 0) ∧ (beAt flit 3 1 = 0) ∧ (k = 2 * (beAt flit 2 1 % 4 - 1) + bits (beAt flit 2 1) 2 2) ∧ (0 < (s.link port.val).granted.getD k 0) ∧ (flitHead flit = true) ∧ ((s.link port.val).cur.getD k none = none) ∧ (s.headCheck port.val (beAt flit 2 1 % 4) (slice flit 4 16) (flitTail flit) = none) ∧ (s.dir port.val ≠ 6) ∧ (beAt flit 2 1 % 4 ≠ 1) ∧ (s.way (beAt flit 6 2) (beAt flit 4 2) s.carries = .noRoute) ∧ (s.recent (64 * port.val + 0x01) 1600000 = false)) ∧
    (∃ (s : State) (port : Fin 40) (flit : List Byte) (k : Nat), (s.calnarUp port.val = true) ∧ (flit.length = 64) ∧ (BitVec.ofNat 16 (beAt flit 0 2) = (s.link port.val).rxNext) ∧ (beAt flit 2 1 % 4 ≠ 0) ∧ (beAt flit 2 1 / 32 = 0) ∧ (beAt flit 3 1 = 0) ∧ (k = 2 * (beAt flit 2 1 % 4 - 1) + bits (beAt flit 2 1) 2 2) ∧ (0 < (s.link port.val).granted.getD k 0) ∧ (flitHead flit = true) ∧ ((s.link port.val).cur.getD k none = none) ∧ (s.headCheck port.val (beAt flit 2 1 % 4) (slice flit 4 16) (flitTail flit) = none) ∧ (s.dir port.val ≠ 6) ∧ (beAt flit 2 1 % 4 ≠ 1) ∧ (s.way (beAt flit 6 2) (beAt flit 4 2) s.carries ≠ .noRoute) ∧ (s.way (beAt flit 6 2) (beAt flit 4 2) s.carries ≠ .taken) ∧ (beAt flit 10 2 % 1024 = 0) ∧ (s.recent (64 * port.val + 0x02) 1600000 = false)) ∧
    (∃ (s : State) (port : Fin 40) (flit : List Byte) (k : Nat), (s.calnarUp port.val = true) ∧ (flit.length = 64) ∧ (BitVec.ofNat 16 (beAt flit 0 2) = (s.link port.val).rxNext) ∧ (beAt flit 2 1 % 4 ≠ 0) ∧ (beAt flit 2 1 / 32 = 0) ∧ (beAt flit 3 1 = 0) ∧ (k = 2 * (beAt flit 2 1 % 4 - 1) + bits (beAt flit 2 1) 2 2) ∧ ((s.link port.val).granted.getD k 0 = 0) ∧ (s.recent (64 * port.val + 0x06) 1600000 = false)) ∧
    (∃ (s : State) (port : Fin 40) (flit : List Byte), (0 < ((s.link port.val).rxNext - BitVec.ofNat 16 (beAt flit 0 2)).toNat) ∧ (((s.link port.val).rxNext - BitVec.ofNat 16 (beAt flit 0 2)).toNat ≤ 1024)) ∧
    (∃ (s : State) (port : Fin 40) (flit : List Byte), (s.calnarUp port.val = true) ∧ (flit.length = 64) ∧ (1024 < ((s.link port.val).rxNext - BitVec.ofNat 16 (beAt flit 0 2)).toNat) ∧ (s.recent (64 * port.val + 0x07) 1600000 = false)) ∧
    (∃ (s : State) (port : Fin 40), (s.calnarUp port.val = false)) ∧
    (∃ (s : State) (port : Fin 40) (errs : Fin 213), (s.calnarUp port.val = true) ∧ (3 ≤ s.rd LAN.PORT_STS.RATE 0 (portKey port.val)) ∧ (6 < errs.val)) ∧
    (∃ (s : State) (port : Fin 40) (errs : Fin 213), (errs.val ≤ 6 ∨ s.rd LAN.PORT_STS.RATE 0 (portKey port.val) < 3)) ∧
    (∃ (s : State) (port : Fin 40) (ack : BitVec 16) (valid : Bool) (n : Nat), (s.calnarUp port.val = true) ∧ (n = (ack - ((s.link port.val).txNext - BitVec.ofNat 16 (s.link port.val).replay.length)).toNat) ∧ (0 < n) ∧ (n ≤ (s.link port.val).replay.length) ∧ ((s.link port.val).txQ = []) ∧ (valid = false)) ∧
    (∃ (s : State) (port : Fin 40) (ack : BitVec 16) (idx : BitVec 3), (s.calnarUp port.val = true) ∧ (ack = (s.link port.val).txNext - BitVec.ofNat 16 (s.link port.val).replay.length) ∧ ((s.link port.val).txQ = []) ∧ (idx.toNat < 6)) ∧
    (∃ (s : State) (port : Fin 40) (kind : BitVec 8), (s.calnarUp port.val = true) ∧ (4 ≤ kind.toNat) ∧ (kind.toNat ≤ 0xEF) ∧ (kind.toNat < 0x10 ∨ 0x13 < kind.toNat) ∧ (s.recent (64 * port.val + 0x0A) 1600000 = false)) ∧
    (∃ (s : State) (port : Fin 40) (kind : BitVec 8), (s.calnarUp port.val = false ∨ kind.toNat < 4 ∨ 0xEF < kind.toNat ∨ (0x11 ≤ kind.toNat ∧ kind.toNat ≤ 0x13))) ∧
    (∃ (s : State) (port : Fin 40) (i : Nat), (s.calnarUp port.val = true) ∧ (i < 6) ∧ (0 < (s.link port.val).owed.getD i 0) ∧ (∀ j : Fin 6, j.val < i → (s.link port.val).owed.getD j.val 0 = 0)) ∧
    (∃ (s : State) (port : Fin 40), (s.calnarUp port.val = false)) ∧
    (∃ (s : State) (port : Fin 40), (s.calnarUp port.val = true) ∧ ((s.link port.val).replay ≠ []) ∧ (8 ≤ (s.link port.val).naks ∨ (s.link port.val).progressAt + 160000 ≤ s.clk.now) ∧ (port.val ≠ 23) ∧ ((s.link port.val).txQ = [])) ∧
    (∃ (s : State) (port : Fin 40), ((s.link port.val).replay = [] ∨ ((s.link port.val).naks < 8 ∧ s.clk.now < (s.link port.val).progressAt + 160000))) ∧
    (∃ (s : State) (port : Fin 40) (mask : BitVec 8), (s.calnarUp port.val = true) ∧ (s.rxMask port.val &&& mask.toNat ≠ 0)) ∧
    (∃ (s : State) (port : Fin 40) (mask : BitVec 8), (s.calnarUp port.val = true) ∧ (s.rxMask port.val &&& mask.toNat = 0) ∧ (port.val ≠ 23) ∧ ((s.link port.val).txQ = [])) ∧
    (∃ (s : State) (port : Fin 40), (s.calnarUp port.val = false)) ∧
    (∃ (s : State) (port : Fin 40) (w : Nat) (m : BitVec 8), (s.calnarUp port.val = true) ∧ ((s.wide port.val).agreed = some (w, m)) ∧ (w < s.rd FAB.PORT_STS.WIDTH 0 port.val)) ∧
    (∃ (s : State) (port : Fin 40) (m : BitVec 8), (s.calnarUp port.val = true) ∧ ((s.wide port.val).agreed = some (s.rd FAB.PORT_STS.WIDTH 0 port.val, m))) ∧
    (∃ (s : State) (port : Fin 40), ((s.wide port.val).agreed = none)) ∧
    (∃ (s : State) (port : Fin 40), (s.calnarUp port.val = true) ∧ ((s.wide port.val).sending = true) ∧ (port.val ≠ 23) ∧ ((s.link port.val).txQ = [])) ∧
    (∃ (s : State) (port : Fin 40), ((s.wide port.val).sending = false)) :=
  ⟨⟨fab5, 5, oneFlit, 2, by decide +kernel⟩,
   ⟨fab5, 5, (headFlit 0x307), 2, by decide +kernel⟩,
   ⟨(inMessage none), 5, (flit 1 0x12 (List.replicate 56 9)), 2, ⟨1, none, false, 0, mhdr 0x307 0x602 1 600 100, List.replicate 44 7⟩, by decide +kernel⟩,
   ⟨fab5, 5, (flit 0 0x1A (mhdr 0x602 0x308 1 600 44)), 2, 4, 0, false, false, by decide +kernel⟩,
   ⟨fab5, 5, (flit 0 0x1A (mhdr 0x602 0x308 0x10 600 44)), 2, 3, by decide +kernel⟩,
   ⟨fab5, 5, (flit 0 0x1A (mhdr 0x1002 0x308 1 600 44)), 2, by decide +kernel⟩,
   ⟨(fab5.quarantine 5 .held []), 5, oneFlit, 2, by decide +kernel⟩,
   ⟨fab5, 5, (flit 0 0x1A (mhdr 0x002 0x308 1 600 44)), 2, by decide +kernel⟩,
   ⟨fab5, 5, (flit 0 0x1A (mhdr 0x602 0x308 1 0 44)), 2, by decide +kernel⟩,
   ⟨(fab5.modLink 5 (fun l => { l with granted := zeros 6 |>.map (·.toNat) })), 5, oneFlit, 2, by decide +kernel⟩,
   ⟨fab5, 5, (flit 0xFC00 0x1A []), by decide +kernel⟩,
   ⟨fab5, 5, (flit 1 0x1A []), by decide +kernel⟩,
   ⟨on, 5, by decide +kernel⟩,
   ⟨(fab5.wr LAN.PORT_STS.RATE 3 0 5), 5, 7, by decide +kernel⟩,
   ⟨(fab5.wr LAN.PORT_STS.RATE 4 0 5), 5, 6, by decide +kernel⟩,
   ⟨replaying, 5, 1, false, 1, by decide +kernel⟩,
   ⟨replaying, 5, 0, 5, by decide +kernel⟩,
   ⟨replaying, 5, 0x14, by decide +kernel⟩,
   ⟨fab5, 5, 0x13, by decide +kernel⟩,
   ⟨replaying, 5, 2, by decide +kernel⟩,
   ⟨on, 5, by decide +kernel⟩,
   ⟨(replaying.modLink 5 (fun l => { l with naks := 8 })), 5, by decide +kernel⟩,
   ⟨(replaying.modLink 5 (fun l => { l with progressAt := replaying.clk.now })), 5, by decide +kernel⟩,
   ⟨fab5, 5, 0xF7, by decide +kernel⟩,
   ⟨fab5, 5, 0, by decide +kernel⟩,
   ⟨on, 5, by decide +kernel⟩,
   ⟨(widening 4 0x17), 5, 4, 0x17, by decide +kernel⟩,
   ⟨(widening 8 0xFF), 5, 0xFF, by decide +kernel⟩,
   ⟨fab5, 5, by decide +kernel⟩,
   ⟨(widening 4 0x17), 5, by decide +kernel⟩,
   ⟨fab5, 5, by decide +kernel⟩⟩

/-- The hypotheses of FabricAddresses, clause by clause. -/
theorem hyps_FabricAddresses :
    (∃ (s : State), (s.fab.root.elig = true) ∧ (s.fab.root.best = none ∨ s.fab.root.best.any (fun b => decide (s.moduleId < b.id)) = true)) ∧
    (∃ (s : State) (b : Probe), (s.fab.root.elig = true) ∧ (s.fab.root.best = some b) ∧ (b.id = s.moduleId)) ∧
    (∃ (s : State) (b : Probe), (s.fab.root.elig = false ∨ (s.fab.root.best = some b ∧ b.id < s.moduleId))) ∧
    (∃ (s : State) (b : Probe), (s.fab.root.best = some b) ∧ (0 < b.hops) ∧ (s.fab.root.elig = false)) ∧
    (∃ (s : State) (b : Probe), (s.fab.root.best = some b) ∧ (0 < b.hops) ∧ (s.fab.root.elig = true)) ∧
    (∃ (s : State), (s.fab.root.best = none)) ∧
    (∃ (s : State) (b : Probe), (s.fab.root.best = some b) ∧ (s.addrSrc = 1) ∧ (s.fab.addrFixed = false) ∧ (s.fab.root.derived = true) ∧ (s.fab.root.inGrid = true) ∧ (256 * b.col + b.row < 65536)) ∧
    (∃ (s : State), (s.fab.addrFixed = true ∨ s.fab.root.inGrid = false ∨ s.addrSrc ≠ 1)) ∧
    (∃ (s : State) (port : Fin 40) (msg : List Byte) (serve : Bool) (c : Nat) (r : Nat), (s.calnarUp port.val = true) ∧ (msg.length = 24) ∧ (beAt msg 4 1 = 0x01) ∧ (s.trQueue port.val = []) ∧ (serve = true) ∧ (beAt msg 5 2 / 2 ^ 12 = 0) ∧ (1 ≤ s.dir port.val) ∧ (s.dir port.val ≤ 4) ∧ ((probeOf (slice msg 9 15)).id ≠ s.moduleId) ∧ (improves s.fab.root.best (probeOf (slice msg 9 15)) = true) ∧ (s.stepDir (oppDir (s.dir port.val)) (probeOf (slice msg 9 15)).col (probeOf (slice msg 9 15)).row = some (c, r)) ∧ (s.addrSrc = 1) ∧ (beAt msg 5 2 % 1024 ≠ 0)) ∧
    (∃ (s : State) (port : Fin 40) (msg : List Byte) (serve : Bool), (s.calnarUp port.val = true) ∧ (msg.length = 24) ∧ (beAt msg 4 1 = 0x01) ∧ (s.trQueue port.val = []) ∧ (serve = true) ∧ (beAt msg 5 2 / 2 ^ 12 = 0) ∧ (1 ≤ s.dir port.val) ∧ (s.dir port.val ≤ 4) ∧ ((probeOf (slice msg 9 15)).id ≠ s.moduleId) ∧ (improves s.fab.root.best (probeOf (slice msg 9 15)) = true) ∧ (s.stepDir (oppDir (s.dir port.val)) (probeOf (slice msg 9 15)).col (probeOf (slice msg 9 15)).row = none) ∧ (s.addrSrc = 1) ∧ (s.fab.addrFixed = false) ∧ (s.rd FAB.ADDR_STS.STATE ≠ 3)) ∧
    (∃ (s : State) (port : Fin 40) (msg : List Byte) (serve : Bool), (s.calnarUp port.val = true) ∧ (msg.length = 24) ∧ (beAt msg 4 1 = 0x01) ∧ (s.trQueue port.val = []) ∧ (serve = true) ∧ (beAt msg 5 2 / 2 ^ 12 = 0) ∧ (1 ≤ s.dir port.val) ∧ (s.dir port.val ≤ 4) ∧ ((probeOf (slice msg 9 15)).id = s.moduleId) ∧ ((probeOf (slice msg 9 15)).nonce ≠ s.fab.root.nonce.toNat) ∧ (s.fab.root.elig = true) ∧ (s.fab.root.best = none)) ∧
    (∃ (s : State) (port : Fin 40) (msg : List Byte) (serve : Bool), (s.calnarUp port.val = true) ∧ (msg.length = 24) ∧ (beAt msg 4 1 = 0x01) ∧ (s.trQueue port.val = []) ∧ (serve = false)) ∧
    (∃ (s : State) (port : Fin 40) (msg : List Byte), (s.calnarUp port.val = false ∨ msg.length ≠ 24 ∨ beAt msg 4 1 ≠ 0x01)) ∧
    (∃ (s : State) (port : Fin 40), (s.calnarUp port.val = true) ∧ (1 ≤ s.dir port.val) ∧ (s.dir port.val ≤ 4) ∧ (tget (fun _ => []) s.fab.trOut port.val = [])) ∧
    (∃ (s : State) (port : Fin 40), (s.calnarUp port.val = false ∨ s.dir port.val = 0 ∨ 4 < s.dir port.val)) ∧
    (∃ (s : State) (port : Fin 40) (msg : List Byte) (serve : Bool) (a : Nat) (c : Nat) (r : Nat), (s.calnarUp port.val = true) ∧ (msg.length = 24) ∧ (beAt msg 4 1 = 0x02) ∧ (s.trQueue port.val = []) ∧ (serve = true) ∧ (beAt msg 5 2 / 2 ^ 11 = 0) ∧ (1 ≤ s.dir port.val) ∧ (s.dir port.val ≤ 4) ∧ (s.addressed = true) ∧ (s.stepDir (s.dir port.val) (s.addr / 256) (s.addr % 256) = some (c, r)) ∧ (a = 256 * c + r) ∧ (beAt msg 17 2 = a) ∧ (beAt msg 19 1 = oppDir (s.dir port.val))) ∧
    (∃ (s : State) (port : Fin 40) (msg : List Byte) (serve : Bool), (s.calnarUp port.val = true) ∧ (msg.length = 24) ∧ (beAt msg 4 1 = 0x02) ∧ (s.trQueue port.val = []) ∧ (serve = true) ∧ (beAt msg 5 2 / 2 ^ 11 = 0) ∧ (1 ≤ s.dir port.val) ∧ (s.dir port.val ≤ 4) ∧ (s.addressed = true) ∧ (beAt msg 19 1 ≠ oppDir (s.dir port.val)) ∧ ((tget (fun _ => Neigh.none) s.fab.nbr port.val).bad = false)) ∧
    (∃ (s : State) (port : Fin 40) (msg : List Byte) (serve : Bool), (s.calnarUp port.val = true) ∧ (msg.length = 24) ∧ (beAt msg 4 1 = 0x02) ∧ (s.trQueue port.val = []) ∧ (serve = true) ∧ (beAt msg 5 2 / 2 ^ 12 = 0) ∧ (1 ≤ s.dir port.val) ∧ (s.dir port.val ≤ 4) ∧ (s.addressed = false ∨ bit (beAt msg 5 2) 11 = true)) ∧
    (∃ (s : State) (port : Fin 40) (msg : List Byte) (serve : Bool), (s.calnarUp port.val = true) ∧ (msg.length = 24) ∧ (beAt msg 4 1 = 0x02) ∧ (s.trQueue port.val = []) ∧ (serve = false)) :=
  ⟨⟨(electing none false), by decide +kernel⟩,
   ⟨(electing (some ⟨State.reset.moduleId, 0x55AA, 2, 3, 0, 255⟩) true), ⟨State.reset.moduleId, 0x55AA, 2, 3, 0, 255⟩, by decide +kernel⟩,
   ⟨fab5, probe0, by decide +kernel⟩,
   ⟨((electing (some probe0) true).modFab (fun f => { f with root := { f.root with elig := false } })), probe0, by decide +kernel⟩,
   ⟨(electing (some probe0) true), probe0, by decide +kernel⟩,
   ⟨fab5, by decide +kernel⟩,
   ⟨((electing (some probe0) true).modFab (fun f => { f with waitAddr := true })), probe0, by decide +kernel⟩,
   ⟨fab5, by decide +kernel⟩,
   ⟨(electing none false), 5, (probeMsg probe0), true, 2, 2, by decide +kernel⟩,
   ⟨(electing none false), 5, (probeMsg { probe0 with row := 0 }), true, by decide +kernel⟩,
   ⟨(electing none false), 5, (probeMsg { probe0 with id := (electing none false).moduleId }), true, by decide +kernel⟩,
   ⟨(electing none false), 5, (probeMsg probe0), false, by decide +kernel⟩,
   ⟨on, 5, [], by decide +kernel⟩,
   ⟨fab5, 5, by decide +kernel⟩,
   ⟨fab5, 6, by decide +kernel⟩,
   ⟨fab5, 5, (tmsg 0 0x308 0x02 (beBytes 8 9 ++ beBytes 2 0x308 ++ [4])), true, 0x308, 3, 8, by decide +kernel⟩,
   ⟨fab5, 5, (tmsg 0 0x308 0x02 (beBytes 8 9 ++ beBytes 2 0x308 ++ [3])), true, by decide +kernel⟩,
   ⟨fab5, 5, ((⟨tmsg 0 0x308 0x02 (beBytes 8 9 ++ beBytes 2 0 ++ [4])⟩ : TransomMsg).bytes.set 5 8), true, by decide +kernel⟩,
   ⟨fab5, 5, (tmsg 0 0x308 2 []), false, by decide +kernel⟩⟩

/-- The hypotheses of FabricControl, clause by clause. -/
theorem hyps_FabricControl :
    (∃ (s : State) (port : Fin 40) (msg : List Byte) (serve : Bool), (s.calnarUp port.val = true) ∧ (msg.length = 24) ∧ (beAt msg 4 1 = 0x05) ∧ (s.trQueue port.val = []) ∧ (serve = true) ∧ (beAt msg 5 2 / 2 ^ 12 = 0) ∧ (s.addressed = true) ∧ (beAt msg 0 2 = s.addr) ∧ (beAt msg 9 1 < 40) ∧ ((tget (fun _ => QuarSt.none) s.fab.quar (beAt msg 9 1)).kind ≠ .held) ∧ (s.mode.sec = .openS ∨ s.isManager ⟨msg⟩ = true)) ∧
    (∃ (s : State) (port : Fin 40) (msg : List Byte) (serve : Bool), (s.calnarUp port.val = true) ∧ (msg.length = 24) ∧ (beAt msg 4 1 = 0x06) ∧ (s.trQueue port.val = []) ∧ (serve = true) ∧ (beAt msg 5 2 / 2 ^ 12 = 0) ∧ (s.addressed = true) ∧ (beAt msg 0 2 = s.addr) ∧ (beAt msg 9 1 < 40) ∧ ((tget (fun _ => QuarSt.none) s.fab.quar (beAt msg 9 1)).kind ≠ .open_) ∧ (s.mode.sec = .openS ∨ s.isManager ⟨msg⟩ = true) ∧ ((s.link (beAt msg 9 1)).txQ = [])) ∧
    (∃ (s : State) (port : Fin 40) (msg : List Byte) (serve : Bool), (s.calnarUp port.val = true) ∧ (msg.length = 24) ∧ (beAt msg 4 1 = 0x05) ∧ (s.trQueue port.val = []) ∧ (serve = true) ∧ (beAt msg 5 2 / 2 ^ 11 = 0) ∧ (s.addressed = true) ∧ (beAt msg 0 2 = s.addr) ∧ (s.mode.sec = .sealed) ∧ (s.isManager ⟨msg⟩ = false) ∧ (s.recent (64 * port.val + 0x0B) 1600000 = false)) ∧
    (∃ (s : State) (port : Fin 40) (msg : List Byte) (serve : Bool), (s.calnarUp port.val = true) ∧ (msg.length = 24) ∧ (beAt msg 4 1 = 0x06) ∧ (s.trQueue port.val = []) ∧ (serve = true) ∧ (beAt msg 5 2 / 2 ^ 11 = 0) ∧ (s.addressed = true) ∧ (beAt msg 0 2 = s.addr) ∧ (s.mode.sec = .sealed) ∧ (s.isManager ⟨msg⟩ = false) ∧ (s.recent (64 * port.val + 0x0B) 1600000 = false)) ∧
    (∃ (s : State) (port : Fin 40) (msg : List Byte) (serve : Bool), (s.calnarUp port.val = true) ∧ (msg.length = 24) ∧ (beAt msg 4 1 = 0x0A) ∧ (s.trQueue port.val = []) ∧ (serve = true) ∧ (beAt msg 5 2 / 2 ^ 11 = 0) ∧ (s.addressed = true) ∧ (beAt msg 0 2 = s.addr) ∧ (s.mode.sec = .sealed) ∧ (s.isManager ⟨msg⟩ = false) ∧ (s.recent (64 * port.val + 0x0B) 1600000 = false) ∧ (regArgOk ⟨msg⟩ = true)) ∧
    (∃ (s : State) (port : Fin 40) (msg : List Byte) (serve : Bool) (q : Nat) (tb : Bool) (al : Bool), (s.calnarUp port.val = true) ∧ (msg.length = 24) ∧ (beAt msg 4 1 = 0x07) ∧ (s.trQueue port.val = []) ∧ (serve = true) ∧ (beAt msg 5 2 / 2 ^ 11 = 0) ∧ (s.addressed = true) ∧ (beAt msg 0 2 = s.addr) ∧ (s.way s.addr (beAt msg 2 2) s.calnarUp = .port q tb al) ∧ (s.calnarUp q = true) ∧ (tget (fun _ => []) s.fab.trOut q = [])) ∧
    (∃ (s : State) (port : Fin 40) (msg : List Byte) (serve : Bool) (q : Nat) (tb : Bool) (al : Bool), (s.calnarUp port.val = true) ∧ (msg.length = 24) ∧ (beAt msg 4 1 = 0x0A) ∧ (s.trQueue port.val = []) ∧ (serve = true) ∧ (beAt msg 5 2 / 2 ^ 11 = 0) ∧ (s.addressed = true) ∧ (beAt msg 0 2 = s.addr) ∧ (s.takes .transom 0 0x12C = true) ∧ (s.mode.sec = .openS) ∧ (regArgOk ⟨msg⟩ = true) ∧ (slice msg 9 4 = [0x02, 0x00, 0x01, 0x2C]) ∧ (s.cached (Path.transom.num * 2 ^ 144 + beAt msg 2 2) = none) ∧ (s.way s.addr (beAt msg 2 2) s.calnarUp = .port q tb al) ∧ (s.calnarUp q = true) ∧ (tget (fun _ => []) s.fab.trOut q = [])) ∧
    (∃ (s : State) (port : Fin 40) (msg : List Byte) (serve : Bool), (s.calnarUp port.val = true) ∧ (msg.length = 24) ∧ (beAt msg 4 1 = 0x0A) ∧ (s.trQueue port.val = []) ∧ (serve = true) ∧ (beAt msg 5 2 / 2 ^ 12 = 0) ∧ (s.addressed = true) ∧ (beAt msg 0 2 = s.addr) ∧ (regArgOk ⟨msg⟩ = false)) ∧
    (∃ (s : State) (port : Fin 40) (msg : List Byte) (serve : Bool), (s.calnarUp port.val = true) ∧ (msg.length = 24) ∧ (beAt msg 4 1 = 0x09) ∧ (s.trQueue port.val = []) ∧ (serve = true) ∧ (beAt msg 5 2 / 2 ^ 12 = 0) ∧ (s.addressed = true) ∧ (beAt msg 0 2 = s.addr)) ∧
    (∃ (s : State) (port : Fin 40) (msg : List Byte) (serve : Bool), (s.calnarUp port.val = true) ∧ (msg.length = 24) ∧ (beAt msg 4 1 = 0x0B) ∧ (s.trQueue port.val = []) ∧ (serve = true) ∧ (beAt msg 5 2 / 2 ^ 12 = 0) ∧ (s.addressed = true) ∧ (beAt msg 0 2 = s.addr)) ∧
    (∃ (s : State) (port : Fin 40) (msg : List Byte) (serve : Bool), (s.calnarUp port.val = true) ∧ (msg.length = 24) ∧ (beAt msg 4 1 = 0x08) ∧ (s.trQueue port.val = []) ∧ (serve = true) ∧ (beAt msg 5 2 / 2 ^ 12 = 0) ∧ (s.addressed = true) ∧ (beAt msg 0 2 = s.addr) ∧ (s.paired = false ∨ beAt msg 2 2 ≠ s.rd LEF.PARTNER.ADDR)) ∧
    (∃ (s : State) (port : Fin 40) (msg : List Byte) (serve : Bool), (s.calnarUp port.val = true) ∧ (msg.length = 24) ∧ (transomLegal (s.dir port.val == 6) (beAt msg 4 1) = false) ∧ (s.trQueue port.val = []) ∧ (serve = true) ∧ (s.recent (64 * port.val + 3) 1600000 = false)) ∧
    (∃ (s : State) (port : Fin 40) (msg : List Byte), (transomLegal (s.dir port.val == 6) (beAt msg 4 1) = true)) ∧
    (∃ (s : State) (port : Fin 40) (msg : List Byte) (serve : Bool), (s.calnarUp port.val = true) ∧ (msg.length = 24) ∧ (beAt msg 4 1 = 0x07) ∧ (64 ≤ (s.trQueue port.val).length) ∧ (serve = false)) ∧
    (∃ (s : State) (port : Fin 40) (msg : List Byte) (serve : Bool), (s.calnarUp port.val = true) ∧ (msg.length = 24) ∧ (beAt msg 4 1 = 0x05) ∧ (64 ≤ (s.trQueue port.val).length) ∧ ((s.trQueue port.val).any lowType = true) ∧ (serve = false)) ∧
    (∃ (s : State) (port : Fin 40), (s.violThr < (tget (fun _ => (0, 0)) s.fab.viol port.val).1) ∧ (tget (fun _ => QuarSt.none) s.fab.quar port.val = QuarSt.none)) ∧
    (∃ (s : State) (port : Fin 40) (x : Nat) (y : Nat), (s.violThr < (tget (fun _ => (0, 0)) s.fab.viol port.val).1) ∧ (tget (fun _ => QuarSt.none) s.fab.quar port.val = ⟨.open_, [x, y]⟩) ∧ (s.clk.now < x + 5760000000000) ∧ (s.clk.now < y + 5760000000000)) ∧
    (∃ (s : State) (port : Fin 40), ((tget (fun _ => (0, 0)) s.fab.viol port.val).1 ≤ s.violThr)) ∧
    (∃ (s : State) (port : Fin 40), ((tget (fun _ => QuarSt.none) s.fab.quar port.val).kind = .timed) ∧ ((tget (fun _ => QuarSt.none) s.fab.quar port.val).past.getLastD 0 + s.quarWc ≤ s.clk.now) ∧ ((s.link port.val).txQ = [])) ∧
    (∃ (s : State) (port : Fin 40), ((tget (fun _ => QuarSt.none) s.fab.quar port.val).kind ≠ .timed ∨ s.clk.now < (tget (fun _ => QuarSt.none) s.fab.quar port.val).past.getLastD 0 + s.quarWc)) ∧
    (∃ (s : State) (path : Path) (p : Nat), (s.takes path FAB.PAGE 0x140 = true) ∧ (s.rd FAB.PORT_SEL.PORT 0 path.num = p) ∧ (p < 40) ∧ (s.calnarUp p = true) ∧ ((tget (fun _ => QuarSt.none) s.fab.quar p).kind ≠ .held)) ∧
    (∃ (s : State) (path : Path) (p : Nat), (s.takes path FAB.PAGE 0x140 = true) ∧ (s.rd FAB.PORT_SEL.PORT 0 path.num = p) ∧ (p < 40) ∧ (s.calnarUp p = true) ∧ ((tget (fun _ => QuarSt.none) s.fab.quar p).kind ≠ .open_) ∧ ((s.link p).txQ = [])) ∧
    (∃ (s : State) (path : Path) (p : Nat), (s.takes path FAB.PAGE 0x140 = true) ∧ (s.rd FAB.PORT_SEL.PORT 0 path.num = p) ∧ (p < 40) ∧ (s.calnarUp p = true) ∧ (p ≠ 23) ∧ ((s.link p).txQ = [])) ∧
    (∃ (s : State) (path : Path), (s.takes path FAB.PAGE 0x140 = true) ∧ (s.calnarUp (s.rd FAB.PORT_SEL.PORT 0 path.num) = false)) ∧
    (∃ (s : State) (path : Path), (s.takes path FAB.PAGE 0x140 = true) ∧ (s.calnarUp (s.rd FAB.PORT_SEL.PORT 0 path.num) = false)) ∧
    (∃ (s : State) (path : Path), (s.takes path FAB.PAGE 0x140 = true) ∧ (s.calnarUp (s.rd FAB.PORT_SEL.PORT 0 path.num) = false)) ∧
    (∃ (s : State) (path : Path) (d : Nat), (s.takes path FAB.PAGE 0x134 = true) ∧ (s.rd FAB.RT_SEL.DST 0 path.num = d)) :=
  ⟨⟨managed, 4, (tmsg 0x307 0x602 5 [5]), true, by decide +kernel⟩,
   ⟨(quar5 .held []), 4, (tmsg 0x307 0x602 6 [5]), true, by decide +kernel⟩,
   ⟨managed, 4, (tmsg 0x307 0x603 5 [5]), true, by decide +kernel⟩,
   ⟨managed, 4, (tmsg 0x307 0x603 6 [5]), true, by decide +kernel⟩,
   ⟨managed, 4, (regMsg 0x603), true, by decide +kernel⟩,
   ⟨fab5, 5, (tmsg 0x307 0x602 7 [1, 2, 3]), true, 4, false, false, by decide +kernel⟩,
   ⟨fab5, 5, (regMsg 0x602), true, 4, false, false, by decide +kernel⟩,
   ⟨fab5, 5, (tmsg 0x307 0x602 0x0A (zeros 15)), true, by decide +kernel⟩,
   ⟨fab5, 5, (tmsg 0x307 0x602 0x09 [1]), true, by decide +kernel⟩,
   ⟨fab5, 5, (tmsg 0x307 0x602 0x0B [1]), true, by decide +kernel⟩,
   ⟨fab5, 5, (tmsg 0x307 0x602 0x08 [1]), true, by decide +kernel⟩,
   ⟨fab5, 5, (tmsg 0x307 0x602 0x0C [1]), true, by decide +kernel⟩,
   ⟨fab5, 5, (tmsg 0x307 0x602 0x09 [1]), by decide +kernel⟩,
   ⟨(fab5.setTrQueue 5 (List.replicate 64 ⟨tmsg 0x307 0x602 7 []⟩)), 5, (tmsg 0x307 0x602 7 []), false, by decide +kernel⟩,
   ⟨(fab5.setTrQueue 5 (List.replicate 64 ⟨tmsg 0x307 0x602 7 []⟩)), 5, (tmsg 0x307 0x602 5 [4]), false, by decide +kernel⟩,
   ⟨(violated 17), 5, by decide +kernel⟩,
   ⟨((quar5 .open_ [0, 1]).modFab (fun f => { f with viol := [(5, (17, 0))] })), 5, 0, 1, by decide +kernel⟩,
   ⟨(violated 16), 5, by decide +kernel⟩,
   ⟨((quar5 .timed [0]).modClk (fun c => { c with now := 16000000000 })), 5, by decide +kernel⟩,
   ⟨(quar5 .held [0]), 5, by decide +kernel⟩,
   ⟨(fab5.wr FAB.PORT_SEL.PORT 5 0 1), .mgmt, 5, by decide +kernel⟩,
   ⟨((quar5 .held []).wr FAB.PORT_SEL.PORT 5 0 1), .mgmt, 5, by decide +kernel⟩,
   ⟨(fab5.wr FAB.PORT_SEL.PORT 5 0 1), .mgmt, 5, by decide +kernel⟩,
   ⟨on, .mgmt, by decide +kernel⟩,
   ⟨on, .mgmt, by decide +kernel⟩,
   ⟨on, .mgmt, by decide +kernel⟩,
   ⟨((fab5.wr FAB.RT_SEL.DST 0xFFFF 0 1).wrB FAB.RT_SEL.AUTO true 0 1), .mgmt, 0xFFFF, by decide +kernel⟩⟩

/-- The hypotheses of TimeUnit, clause by clause. -/
theorem hyps_TimeUnit :
    (∃ (s : State) (ns : BitVec 30), (s.rd TIM.STS.STATE = 0) ∧ (ns.toNat < 1000000000) ∧ (s.tim.masterOk = true ∨ s.rdB TIM.STS.PPS_OK = true) ∧ (s.rd SCN.SHUT_STS.STATE ≠ 3) ∧ (s.rd SCN.SHUT_STS.STATE ≠ 4)) ∧
    (∃ (s : State) (ns : BitVec 30), (s.rd TIM.STS.STATE ≠ 0 ∨ 1000000000 ≤ ns.toNat ∨ (s.tim.masterOk = false ∧ s.rdB TIM.STS.PPS_OK = false))) ∧
    (∃ (s : State) (offset : BitVec 64) (o : Int), (s.tim.masterOk = true) ∧ (s.mode.sec ≠ .quarantined) ∧ (o = sgn 64 offset.toNat) ∧ (s.tim.slew = 0) ∧ (0 ≤ s.taiNs) ∧ (s.taiNs < 2 ^ 48 * 1000000000) ∧ (s.rd SCN.SHUT_STS.STATE ≠ 3) ∧ (s.rd SCN.SHUT_STS.STATE ≠ 4) ∧ (s.rd TIM.STS.STATE = 1) ∧ ((s.rd TIM.SLEW_LIM.US) * 1000 < o.natAbs) ∧ (0 ≤ s.taiNs - o) ∧ (s.taiNs - o < 2 ^ 48 * 1000000000)) ∧
    (∃ (s : State) (offset : BitVec 64) (o : Int), (s.tim.masterOk = true) ∧ (s.mode.sec ≠ .quarantined) ∧ (o = sgn 64 offset.toNat) ∧ (s.tim.slew = 0) ∧ (0 ≤ s.taiNs) ∧ (s.taiNs < 2 ^ 48 * 1000000000) ∧ (s.rd SCN.SHUT_STS.STATE ≠ 3) ∧ (s.rd SCN.SHUT_STS.STATE ≠ 4) ∧ (s.rd TIM.STS.STATE = 1) ∧ (o.natAbs ≤ (s.rd TIM.SLEW_LIM.US) * 1000) ∧ (1000 < o.natAbs)) ∧
    (∃ (s : State) (offset : BitVec 64) (o : Int), (s.tim.masterOk = true) ∧ (s.mode.sec ≠ .quarantined) ∧ (o = sgn 64 offset.toNat) ∧ (s.tim.slew = 0) ∧ (0 ≤ s.taiNs) ∧ (s.taiNs < 2 ^ 48 * 1000000000) ∧ (s.rd SCN.SHUT_STS.STATE ≠ 3) ∧ (s.rd SCN.SHUT_STS.STATE ≠ 4) ∧ (s.rd TIM.STS.STATE = 1) ∧ (o.natAbs ≤ (s.rd TIM.SLEW_LIM.US) * 1000) ∧ (o.natAbs ≤ 1000) ∧ (s.tim.good < 7)) ∧
    (∃ (s : State) (offset : BitVec 64) (o : Int), (s.tim.masterOk = true) ∧ (s.mode.sec ≠ .quarantined) ∧ (o = sgn 64 offset.toNat) ∧ (s.tim.slew = 0) ∧ (0 ≤ s.taiNs) ∧ (s.taiNs < 2 ^ 48 * 1000000000) ∧ (s.rd SCN.SHUT_STS.STATE ≠ 3) ∧ (s.rd SCN.SHUT_STS.STATE ≠ 4) ∧ (s.rd TIM.STS.STATE = 1) ∧ (o.natAbs ≤ (s.rd TIM.SLEW_LIM.US) * 1000) ∧ (o.natAbs ≤ 1000) ∧ (s.tim.good = 7)) ∧
    (∃ (s : State) (offset : BitVec 64) (o : Int), (s.tim.masterOk = true) ∧ (s.mode.sec ≠ .quarantined) ∧ (o = sgn 64 offset.toNat) ∧ (s.tim.slew = 0) ∧ (0 ≤ s.taiNs) ∧ (s.taiNs < 2 ^ 48 * 1000000000) ∧ (s.rd SCN.SHUT_STS.STATE ≠ 3) ∧ (s.rd SCN.SHUT_STS.STATE ≠ 4) ∧ (s.rd TIM.STS.STATE = 2) ∧ (s.jumpUs = 0) ∧ (o.natAbs ≤ (s.rd TIM.SLEW_LIM.US) * 1000) ∧ (o.natAbs ≤ s.eff_ TIM.JUMP_THR.US * 1000)) ∧
    (∃ (s : State) (offset : BitVec 64) (o : Int), (s.tim.masterOk = true) ∧ (s.mode.sec ≠ .quarantined) ∧ (o = sgn 64 offset.toNat) ∧ (s.tim.slew = 0) ∧ (0 ≤ s.taiNs) ∧ (s.taiNs < 2 ^ 48 * 1000000000) ∧ (s.rd SCN.SHUT_STS.STATE ≠ 3) ∧ (s.rd SCN.SHUT_STS.STATE ≠ 4) ∧ (s.rd TIM.STS.STATE = 2) ∧ (s.jumpUs = 0) ∧ ((s.rd TIM.SLEW_LIM.US) * 1000 < o.natAbs) ∧ (o.natAbs ≤ s.eff_ TIM.JUMP_THR.US * 1000)) ∧
    (∃ (s : State) (offset : BitVec 64) (o : Int), (s.tim.masterOk = true) ∧ (s.mode.sec ≠ .quarantined) ∧ (o = sgn 64 offset.toNat) ∧ (s.tim.slew = 0) ∧ (0 ≤ s.taiNs) ∧ (s.taiNs < 2 ^ 48 * 1000000000) ∧ (s.rd SCN.SHUT_STS.STATE ≠ 3) ∧ (s.rd SCN.SHUT_STS.STATE ≠ 4) ∧ (s.rd TIM.STS.STATE = 2 ∨ s.rd TIM.STS.STATE = 3) ∧ (s.jumpUs = 0) ∧ (s.eff_ TIM.JUMP_THR.US * 1000 < o.natAbs) ∧ (s.tim.far < 2)) ∧
    (∃ (s : State) (offset : BitVec 64) (o : Int), (s.tim.masterOk = true) ∧ (s.mode.sec ≠ .quarantined) ∧ (o = sgn 64 offset.toNat) ∧ (s.tim.slew = 0) ∧ (0 ≤ s.taiNs) ∧ (s.taiNs < 2 ^ 48 * 1000000000) ∧ (s.rd SCN.SHUT_STS.STATE ≠ 3) ∧ (s.rd SCN.SHUT_STS.STATE ≠ 4) ∧ (s.rd TIM.STS.STATE = 2) ∧ (s.jumpUs = 0) ∧ (s.eff_ TIM.JUMP_THR.US * 1000 < o.natAbs) ∧ (s.tim.far = 2)) ∧
    (∃ (s : State) (offset : BitVec 64) (o : Int), (s.tim.masterOk = true) ∧ (s.mode.sec ≠ .quarantined) ∧ (o = sgn 64 offset.toNat) ∧ (s.tim.slew = 0) ∧ (0 ≤ s.taiNs) ∧ (s.taiNs < 2 ^ 48 * 1000000000) ∧ (s.rd SCN.SHUT_STS.STATE ≠ 3) ∧ (s.rd SCN.SHUT_STS.STATE ≠ 4) ∧ (s.rd TIM.STS.STATE = 3) ∧ (s.jumpUs ≠ 0) ∧ (s.eff_ TIM.JUMP_THR.US * 1000 < o.natAbs)) ∧
    (∃ (s : State) (offset : BitVec 64) (o : Int), (s.tim.masterOk = true) ∧ (s.mode.sec ≠ .quarantined) ∧ (o = sgn 64 offset.toNat) ∧ (s.tim.slew = 0) ∧ (0 ≤ s.taiNs) ∧ (s.taiNs < 2 ^ 48 * 1000000000) ∧ (s.rd SCN.SHUT_STS.STATE ≠ 3) ∧ (s.rd SCN.SHUT_STS.STATE ≠ 4) ∧ (s.rd TIM.STS.STATE = 3) ∧ (s.jumpUs ≠ 0) ∧ (o.natAbs ≤ s.eff_ TIM.JUMP_THR.US * 1000) ∧ (o.natAbs ≤ (s.rd TIM.SLEW_LIM.US) * 1000) ∧ (s.tim.near = 7)) ∧
    (∃ (s : State), (s.tim.masterOk = false ∨ s.rd TIM.STS.STATE = 0 ∨ s.mode.sec = .quarantined)) ∧
    (∃ (s : State), (s.rd TIM.STS.STATE = 2) ∧ (s.rd TIM.STS.PORT ≠ 0xFF) ∧ (s.rd SCN.SHUT_STS.STATE ≠ 3) ∧ (s.rd SCN.SHUT_STS.STATE ≠ 4)) ∧
    (∃ (s : State), (s.rd TIM.STS.STATE = 1) ∧ (s.rd TIM.STS.PORT ≠ 0xFF) ∧ (s.rd SCN.SHUT_STS.STATE ≠ 3) ∧ (s.rd SCN.SHUT_STS.STATE ≠ 4)) ∧
    (∃ (s : State), (s.rd TIM.STS.STATE = 0)) ∧
    (∃ (s : State) (port : Fin 41) (domain : BitVec 8) (acc : BitVec 8) (via : PtpVia) (ps : Nat), (s.ptpPort port.val = true) ∧ (s.mode.sec ≠ .quarantined) ∧ (domain.toNat = s.eff_ TIM.CTL.DOMAIN) ∧ (s.ptpAdmits port.val via = true) ∧ (accPs acc.toNat (s.eff_ TIM.ACC_UNK.US) = some ps)) ∧
    (∃ (s : State) (port : Fin 41) (domain : BitVec 8) (via : PtpVia) (kind : PtpKind), (s.ptpPort port.val = true) ∧ (s.mode.sec ≠ .quarantined) ∧ (domain.toNat = s.eff_ TIM.CTL.DOMAIN) ∧ (s.ptpAdmits port.val via = true) ∧ (kind = .sync ∨ kind = .delayResp ∨ kind = .pdelay)) ∧
    (∃ (s : State) (port : Fin 41) (domain : BitVec 8) (via : PtpVia) (best : Bool) (kind : PtpKind), (s.ptpPort port.val = true) ∧ (s.mode.sec ≠ .quarantined) ∧ (domain.toNat = s.eff_ TIM.CTL.DOMAIN) ∧ (s.ptpAdmits port.val via = true) ∧ (kind = .followUp ∨ kind = .management ∨ (kind = .announce ∧ best = false))) ∧
    (∃ (s : State) (port : Fin 41) (domain : BitVec 8) (acc : BitVec 8) (via : PtpVia), (s.ptpPort port.val = true) ∧ (s.mode.sec ≠ .quarantined) ∧ (domain.toNat = s.eff_ TIM.CTL.DOMAIN) ∧ (s.ptpAdmits port.val via = true) ∧ (accPs acc.toNat (s.eff_ TIM.ACC_UNK.US) = none) ∧ (s.tim.masterOk = true) ∧ (s.rd TIM.STS.STATE = 2) ∧ (s.rd SCN.SHUT_STS.STATE ≠ 3) ∧ (s.rd SCN.SHUT_STS.STATE ≠ 4)) ∧
    (∃ (s : State) (port : Fin 41) (domain : BitVec 8) (via : PtpVia), (s.ptpPort port.val = true) ∧ (s.mode.sec ≠ .quarantined) ∧ (domain.toNat ≠ s.eff_ TIM.CTL.DOMAIN ∨ s.ptpAdmits port.val via = false)) ∧
    (∃ (s : State) (port : Fin 41), (s.ptpPort port.val = false ∨ s.mode.sec = .quarantined)) ∧
    (∃ (s : State), (s.rd TIM.STS.STATE = 3) ∧ (s.rdB TIM.STS.PPS_OK = false) ∧ (s.rd SCN.SHUT_STS.STATE ≠ 3) ∧ (s.rd SCN.SHUT_STS.STATE ≠ 4)) ∧
    (∃ (s : State), (s.rd TIM.STS.STATE = 3) ∧ (s.rdB TIM.STS.PPS_OK = true) ∧ (s.rd SCN.SHUT_STS.STATE ≠ 3) ∧ (s.rd SCN.SHUT_STS.STATE ≠ 4)) ∧
    (∃ (s : State), (s.rd TIM.STS.STATE ≠ 3)) ∧
    (∃ (s : State) (err : BitVec 32), (s.rd TIM.PPS_CFG.ENA = 1) ∧ ((sgn 32 err.toNat).natAbs ≤ s.eff_ TIM.PPS_CFG.WIN * 1000) ∧ (s.tim.ppsGood = 7) ∧ (s.rdB TIM.STS.PPS_OK = false) ∧ (s.rd TIM.STS.STATE ≠ 3)) ∧
    (∃ (s : State) (err : BitVec 32), (s.rd TIM.PPS_CFG.ENA = 1) ∧ ((sgn 32 err.toNat).natAbs ≤ s.eff_ TIM.PPS_CFG.WIN * 1000) ∧ (s.rdB TIM.STS.PPS_OK = true) ∧ (s.rd TIM.STS.STATE = 3) ∧ (∀ ch : Fin 16, s.rdB LNT.CMP_CTL.ARM 0 ch = false) ∧ (0 ≤ s.taiNs - sgn 32 err.toNat) ∧ (s.taiNs - sgn 32 err.toNat < 2 ^ 48 * 1000000000) ∧ (s.rd SCN.SHUT_STS.STATE ≠ 3) ∧ (s.rd SCN.SHUT_STS.STATE ≠ 4)) ∧
    (∃ (s : State) (err : BitVec 32), (s.rd TIM.PPS_CFG.ENA = 1) ∧ (s.eff_ TIM.PPS_CFG.WIN * 1000 < (sgn 32 err.toNat).natAbs) ∧ (s.rdB TIM.STS.PPS_OK = true) ∧ (s.rd SCN.SHUT_STS.STATE ≠ 3) ∧ (s.rd SCN.SHUT_STS.STATE ≠ 4)) ∧
    (∃ (s : State), (s.rd TIM.PPS_CFG.ENA = 0)) ∧
    (∃ (s : State), (s.rdB TIM.STS.PPS_OK = true) ∧ (s.rd SCN.SHUT_STS.STATE ≠ 3) ∧ (s.rd SCN.SHUT_STS.STATE ≠ 4)) :=
  ⟨⟨(armedT 5 (timeIn 0)), 500000000, by decide +kernel⟩,
   ⟨lockedT, 0, by decide +kernel⟩,
   ⟨(timeIn 1), 100001, 100001, by decide +kernel⟩,
   ⟨(timeIn 1), 0xFFFFFFFFFFFFFC17, -1001, by decide +kernel⟩,
   ⟨(timeIn 1), 1000, 1000, by decide +kernel⟩,
   ⟨((timeIn 1).modTim (fun t => { t with good := 7 })), 1000, 1000, by decide +kernel⟩,
   ⟨lockedT, 0xFFFFFFFFFFFFFF38, -200, by decide +kernel⟩,
   ⟨lockedT, 100001, 100001, by decide +kernel⟩,
   ⟨lockedT, 2000000, 2000000, by decide +kernel⟩,
   ⟨(lockedT.modTim (fun t => { t with far := 2 })), 2000000, 2000000, by decide +kernel⟩,
   ⟨jumpT, 3000000, 3000000, by decide +kernel⟩,
   ⟨jumpT, 100, 100, by decide +kernel⟩,
   ⟨on, by decide +kernel⟩,
   ⟨lockedT, by decide +kernel⟩,
   ⟨(timeIn 1), by decide +kernel⟩,
   ⟨on, by decide +kernel⟩,
   ⟨ptpIn, 5, 0, 0x22, .timeVc, 250000, by decide +kernel⟩,
   ⟨ptpIn, 5, 0, .timeVc, .pdelay, by decide +kernel⟩,
   ⟨ptpIn, 5, 0, .timeVc, true, .management, by decide +kernel⟩,
   ⟨lockedT, 5, 0, 0x31, .timeVc, by decide +kernel⟩,
   ⟨ptpIn, 5, 0, .udp4, by decide +kernel⟩,
   ⟨on, 40, by decide +kernel⟩,
   ⟨heldT, by decide +kernel⟩,
   ⟨(heldT.wrB TIM.STS.PPS_OK true), by decide +kernel⟩,
   ⟨on, by decide +kernel⟩,
   ⟨((lockedT.wr TIM.PPS_CFG.ENA 1).modTim (fun t => { t with ppsGood := 7 })), 0xFFFFF830, by decide +kernel⟩,
   ⟨((heldT.wr TIM.PPS_CFG.ENA 1).wrB TIM.STS.PPS_OK true), 2000, by decide +kernel⟩,
   ⟨((heldT.wr TIM.PPS_CFG.ENA 1).wrB TIM.STS.PPS_OK true), 2001, by decide +kernel⟩,
   ⟨on, by decide +kernel⟩,
   ⟨(heldT.wrB TIM.STS.PPS_OK true), by decide +kernel⟩⟩

/-- The hypotheses of Lintel, clause by clause. -/
theorem hyps_Lintel :
    (∃ (s : State) (path : Path), (s.takes path TIM.PAGE 0x128 = true) ∧ (s.jumpUs ≠ 0)) ∧
    (∃ (s : State) (path : Path), (s.takes path TIM.PAGE 0x128 = true) ∧ (s.jumpUs = 0)) ∧
    (∃ (s : State) (path : Path), (s.mode.sec = .sealed) ∧ (path.privileged = false) ∧ (s.pathOpen path = true) ∧ (s.pathServed path true = true) ∧ (s.modulePends = false) ∧ (s.rdB HDR.PG_CTL.LOCK TIM.PAGE = false)) ∧
    (∃ (s : State) (path : Path) (v : BitVec 32) (n : Nat), (s.takes path LNT.PAGE 0x104 = true) ∧ (s.rd LNT.SLOT_SEL.SLOT 0 path.num = n) ∧ (bits v.toNat 29 16 < s.eff_ SCN.VTOTAL.LINES)) ∧
    (∃ (s : State) (path : Path) (v : BitVec 32), (s.takes path LNT.PAGE 0x104 = true) ∧ (s.eff_ SCN.VTOTAL.LINES ≤ bits v.toNat 29 16)) ∧
    (∃ (s : State) (path : Path) (n : Nat), (s.takes path LNT.PAGE 0x108 = true) ∧ (s.rd LNT.SLOT_SEL.SLOT 0 path.num = n)) ∧
    (∃ (s : State) (path : Path) (n : Nat), (s.takes path LNT.PAGE 0x10C = true) ∧ (s.rd LNT.SLOT_SEL.SLOT 0 path.num = n)) ∧
    (∃ (s : State) (slot : Fin 256), (s.lintelRuns = true) ∧ (s.tim.slotOld.all (fun x => x.slot != slot.val || x.at_ != s.clk.now) = true) ∧ (s.rd LNT.SLOT_CFG.LINE 0 slot = s.clk.line.toNat) ∧ (min (s.rd LNT.SLOT_WC 0 slot) (s.lineLen - 1) = s.clk.wc.toNat) ∧ (s.rd LNT.SLOT_CFG.MODE 0 slot = 1 ∨ (s.rd LNT.SLOT_CFG.MODE 0 slot = 2 ∧ s.rd LNT.SLOT_FRAME 0 slot = s.clk.frame.toNat))) ∧
    (∃ (s : State) (slot : Fin 256) (o : SlotOld) (l : List SlotOld), (s.lintelRuns = true) ∧ (s.tim.slotOld = o :: l) ∧ (o.slot = slot.val) ∧ (o.at_ = s.clk.now) ∧ (bits o.cfg 29 16 = s.clk.line.toNat) ∧ (min (o.wc % 8192) (s.lineLen - 1) = s.clk.wc.toNat) ∧ (o.cfg % 4 = 1 ∨ (o.cfg % 4 = 2 ∧ o.frame = s.clk.frame.toNat))) ∧
    (∃ (s : State) (slot : Fin 256), (s.lintelRuns = true) ∧ (s.tim.slotOld.all (fun x => x.slot != slot.val || x.at_ != s.clk.now) = true) ∧ (s.rd LNT.SLOT_CFG.MODE 0 slot = 2) ∧ (0 < sdiff32 s.clk.frame.toNat (s.rd LNT.SLOT_FRAME 0 slot))) ∧
    (∃ (s : State) (slot : Fin 256), (s.tim.slotOld.all (fun x => x.slot != slot.val || x.at_ != s.clk.now) = true) ∧ (s.lintelRuns = false ∨ s.rd LNT.SLOT_CFG.MODE 0 slot = 0 ∨ s.rd LNT.SLOT_CFG.MODE 0 slot = 3 ∨ (s.rd LNT.SLOT_CFG.MODE 0 slot = 1 ∧ (s.rd LNT.SLOT_CFG.LINE 0 slot ≠ s.clk.line.toNat ∨ min (s.rd LNT.SLOT_WC 0 slot) (s.lineLen - 1) ≠ s.clk.wc.toNat)) ∨ sdiff32 s.clk.frame.toNat (s.rd LNT.SLOT_FRAME 0 slot) < 0 ∧ s.rd LNT.SLOT_CFG.MODE 0 slot = 2)) ∧
    (∃ (s : State) (path : Path) (k : Fin 8), (s.takes path LNT.PAGE (0x110 + 4 * k.val) = true)) ∧
    (∃ (s : State) (path : Path) (ch : Nat), (s.takes path LNT.PAGE 0x138 = true) ∧ (s.rd LNT.CMP_SEL.CH 0 path.num = ch) ∧ (sdiff32 s.rawNs (s.rd LNT.CMP_VAL 0 ch) < 0)) ∧
    (∃ (s : State) (path : Path) (v : BitVec 32) (ch : Nat), (s.takes path LNT.PAGE 0x138 = true) ∧ (s.rd LNT.CMP_SEL.CH 0 path.num = ch) ∧ (0 ≤ sdiff32 s.rawNs (s.rd LNT.CMP_VAL 0 ch)) ∧ (bits v.toNat 2 1 ≠ 1) ∧ (bits v.toNat 2 1 ≠ 2)) ∧
    (∃ (s : State) (ch : Fin 16), (s.rdB LNT.CMP_CTL.ARM 0 ch = true) ∧ (0 ≤ sdiff32 s.rawNs (s.rd LNT.CMP_VAL 0 ch)) ∧ (s.rd LNT.CMP_CTL.ACT 0 ch = 0 ∨ s.rd LNT.CMP_CTL.ACT 0 ch = 3)) ∧
    (∃ (s : State) (ch : Fin 16), (s.rdB LNT.CMP_CTL.ARM 0 ch = true) ∧ (0 ≤ sdiff32 s.rawNs (s.rd LNT.CMP_VAL 0 ch)) ∧ (s.rd LNT.CMP_CTL.ACT 0 ch = 2) ∧ (s.role = 2) ∧ (s.rd LEF.STS.PARTNER_ROLE = 4) ∧ (s.leaf.demoteCause = 0) ∧ (s.leaf.tau = none)) ∧
    (∃ (s : State) (ch : Fin 16), (s.rdB LNT.CMP_CTL.ARM 0 ch = true) ∧ (0 ≤ sdiff32 s.rawNs (s.rd LNT.CMP_VAL 0 ch)) ∧ (s.rd LNT.CMP_CTL.ACT 0 ch = 1) ∧ (s.rd SCN.SHUT_STS.STATE = 4)) ∧
    (∃ (s : State) (ch : Fin 16), (s.rdB LNT.CMP_CTL.ARM 0 ch = false ∨ sdiff32 s.rawNs (s.rd LNT.CMP_VAL 0 ch) < 0)) :=
  ⟨⟨jumpT, .mgmt, by decide +kernel⟩,
   ⟨lockedT, .mgmt, by decide +kernel⟩,
   ⟨(jumpT.modMode (fun m => { m with sec := .sealed })), .fabric, by decide +kernel⟩,
   ⟨((slotAt 0 0).wr LNT.SLOT_SEL.SLOT 255 0 1), .mgmt, 0xE1FBFFFF, 255, by decide +kernel⟩,
   ⟨(slotAt 0 0), .mgmt, 0x21FC0000, by decide +kernel⟩,
   ⟨((slotAt 0 0).wr LNT.SLOT_SEL.SLOT 255 0 1), .mgmt, 255, by decide +kernel⟩,
   ⟨((slotAt 0 0).wr LNT.SLOT_SEL.SLOT 255 0 1), .mgmt, 255, by decide +kernel⟩,
   ⟨((slotAt 2 41).wrB LNT.SLOT_CFG.LOG true 0 255), 255, by decide +kernel⟩,
   ⟨((slotAt 0 40).modTim (fun t => { t with slotOld := [slotWas] })), 255, slotWas, [], by decide +kernel⟩,
   ⟨(slotAt 2 40), 255, by decide +kernel⟩,
   ⟨(slotAt 2 42), 255, by decide +kernel⟩,
   ⟨((slotAt 0 0).setFired 255), .mgmt, 7, by decide +kernel⟩,
   ⟨(((lockedT.modClk (fun c => { c with sec := 0, ns := 5 })).wr LNT.CMP_VAL 6 0 3).wr LNT.CMP_SEL.CH 3 0 1), .mgmt, 3, by decide +kernel⟩,
   ⟨(((lockedT.modClk (fun c => { c with sec := 0, ns := 5 })).wr LNT.CMP_VAL 5 0 3).wr LNT.CMP_SEL.CH 3 0 1), .mgmt, 0, 3, by decide +kernel⟩,
   ⟨((lockedT.modClk (fun c => { c with sec := 0, ns := 5 })).wr LNT.CMP_VAL 5 0 3 |>.wr LNT.CMP_CTL 7 0 3), 3, by decide +kernel⟩,
   ⟨((activeLeaf.wr LNT.CMP_VAL 0 0 3).wr LNT.CMP_CTL 5 0 3), 3, by decide +kernel⟩,
   ⟨((shuttered.wr LNT.CMP_VAL 0 0 3).wr LNT.CMP_CTL 3 0 3), 3, by decide +kernel⟩,
   ⟨on, 3, by decide +kernel⟩⟩

/-- The hypotheses of LeafRoles, clause by clause. -/
theorem hyps_LeafRoles :
    (∃ (s : State), (s.negotiates = true) ∧ (s.rdB LEF.STS.HINGE_UP = true)) ∧
    (∃ (s : State), (s.negotiates = true) ∧ (s.rdB LEF.STS.HINGE_UP = false)) ∧
    (∃ (s : State), (s.negotiates = false)) ∧
    (∃ (s : State), (s.negotiates = true) ∧ (s.role = 0) ∧ (s.leaf.partner.heard = false)) ∧
    (∃ (s : State), (s.role ≠ 0 ∨ s.leaf.partner.heard = true ∨ s.negotiates = false)) ∧
    (∃ (s : State) (arg : List Byte), (s.paired = true) ∧ (arg.length = 15) ∧ (beAt arg 0 1 = 1) ∧ (s.role = 1) ∧ (beAt arg 1 1 ≠ 3) ∧ (s.mode.raster = .weaver)) ∧
    (∃ (s : State) (arg : List Byte), (s.paired = true) ∧ (arg.length = 15) ∧ (beAt arg 0 1 = 1) ∧ (s.role = 0) ∧ (s.negotiates = true) ∧ (beAt arg 1 1 = 1 ∨ beAt arg 1 1 = 2)) ∧
    (∃ (s : State) (arg : List Byte), (s.paired = true) ∧ (arg.length = 15) ∧ (beAt arg 0 1 = 1) ∧ (s.role = 0) ∧ (s.negotiates = true) ∧ (beAt arg 1 1 = 0)) ∧
    (∃ (s : State) (arg : List Byte), (s.paired = true) ∧ (arg.length = 15) ∧ (beAt arg 0 1 = 1) ∧ (s.role = 5) ∧ (s.mode.raster = .weaver) ∧ (beAt arg 1 1 = 1 ∨ beAt arg 1 1 = 2)) ∧
    (∃ (s : State) (arg : List Byte), (s.paired = true) ∧ (arg.length = 15) ∧ (beAt arg 0 1 = 1) ∧ (s.role = 2 ∨ s.role = 3 ∨ s.role = 4) ∧ (beAt arg 1 1 ≠ 3) ∧ (s.mode.raster = .weaver)) ∧
    (∃ (s : State) (arg : List Byte), (s.paired = true) ∧ (arg.length = 15) ∧ (beAt arg 0 1 = 1) ∧ (s.role = 0) ∧ (s.negotiates = false) ∧ (s.mode.raster = .sill) ∧ (s.leaf.driving = true) ∧ ((helloOf s.clk.now arg).driving = true) ∧ (s.winsOver (helloOf s.clk.now arg) = false)) ∧
    (∃ (s : State) (arg : List Byte) (h : Nat) (e : Entry), (s.paired = true) ∧ (arg.length = 15) ∧ (beAt arg 0 1 = 1) ∧ (s.role = 2) ∧ (beAt arg 1 1 = 3) ∧ (s.rd LEF.STS.PARTNER_ROLE ≠ 3 ∨ (s.leaf.partner.intrusive = true ∧ (helloOf s.clk.now arg).intrusive = false)) ∧ (s.mode.raster = .weaver) ∧ (s.scene.fresh = [(h, e)]) ∧ (s.scene.planes = [])) ∧
    (∃ (s : State) (arg : List Byte), (s.paired = false ∨ arg.length ≠ 15 ∨ beAt arg 0 1 ≠ 1)) ∧
    (∃ (s : State), (s.rdB LEF.STS.HINGE_UP = true) ∧ (s.clk.now - s.clk.lineAt ≤ 300) ∧ (s.rd SCN.SHUT_STS.STATE ≠ 4) ∧ (s.role = 2) ∧ (s.leaf.demoteCause ≠ 0) ∧ (s.rd LEF.STS.PARTNER_ROLE = 4) ∧ (s.leaf.tau = none)) ∧
    (∃ (s : State), (s.rdB LEF.STS.HINGE_UP = true) ∧ (s.clk.now - s.clk.lineAt ≤ 300) ∧ (s.role ≠ 2 ∨ s.leaf.demoteCause = 0 ∨ s.rd LEF.STS.PARTNER_ROLE ≠ 4) ∧ (beAt s.leaf.repeats 0 1 = 2)) ∧
    (∃ (s : State), (s.rdB LEF.STS.HINGE_UP = false ∨ 300 < s.clk.now - s.clk.lineAt ∨ ((s.leaf.demoteCause = 0 ∨ s.role ≠ 2) ∧ beAt s.leaf.repeats 0 1 ≠ 2))) ∧
    (∃ (s : State) (arg : List Byte), (s.paired = true) ∧ (8 ≤ arg.length) ∧ (beAt arg 0 1 = 2) ∧ (s.role = 4) ∧ (s.leaf.tau = none) ∧ (s.rd SCN.SHUT_STS.STATE ≠ 4)) ∧
    (∃ (s : State) (arg : List Byte), (s.paired = true) ∧ (8 ≤ arg.length) ∧ (beAt arg 0 1 = 2) ∧ (s.role = 4) ∧ (s.leaf.tau = none) ∧ (s.rd SCN.SHUT_STS.STATE = 4)) ∧
    (∃ (s : State) (arg : List Byte), (s.paired = true) ∧ (8 ≤ arg.length) ∧ (beAt arg 0 1 = 2) ∧ (s.role = 3 ∨ s.role = 5)) ∧
    (∃ (s : State), (s.paired = false ∨ s.role < 3)) ∧
    (∃ (s : State) (arg : List Byte), (s.paired = true) ∧ (8 ≤ arg.length) ∧ (beAt arg 0 1 = 3) ∧ (s.role = 2)) ∧
    (∃ (s : State), (s.role ≠ 2)) ∧
    (∃ (s : State) (tk : TakeSt), (s.leaf.tau = some tk) ∧ (s.reached tk.line tk.frame = true) ∧ (tk.giveUp = false) ∧ (s.role = 4) ∧ (s.mode.power = .standbyLeaf) ∧ (plannedCause tk.cause = true ∨ s.leaf.diverge = [])) ∧
    (∃ (s : State) (tk : TakeSt), (s.leaf.tau = some tk) ∧ (s.reached tk.line tk.frame = true) ∧ (tk.giveUp = false) ∧ (s.role = 4) ∧ (s.mode.power = .shutter) ∧ (plannedCause tk.cause = true ∨ s.leaf.diverge = [])) ∧
    (∃ (s : State) (tk : TakeSt), (s.leaf.tau = some tk) ∧ (s.reached tk.line tk.frame = true) ∧ (tk.giveUp = false) ∧ (s.role = 4) ∧ (s.mode.power = .standbyLeaf) ∧ (plannedCause tk.cause = false) ∧ (s.leaf.diverge ≠ [])) ∧
    (∃ (s : State) (tk : TakeSt), (s.leaf.tau = some tk) ∧ (s.reached tk.line tk.frame = true) ∧ (tk.giveUp = true) ∧ (s.rd LEF.STS.PARTNER_ROLE = 4) ∧ (s.role = 2) ∧ (s.mode.power = .full) ∧ (s.nvs.jrnlOn = false) ∧ (s.thm.stopping = false)) ∧
    (∃ (s : State) (tk : TakeSt), (s.leaf.tau = some tk) ∧ (s.reached tk.line tk.frame = true) ∧ (tk.giveUp = true) ∧ (s.rd LEF.STS.PARTNER_ROLE ≠ 4) ∧ (s.nvs.jrnlOn = false) ∧ (s.thm.stopping = false)) ∧
    (∃ (s : State), (s.leaf.tau = none)) ∧
    (∃ (s : State) (tk : TakeSt), (s.leaf.tau = some tk) ∧ (s.reached tk.line tk.frame = false)) ∧
    (∃ (s : State), (s.role = 4) ∧ (s.rdB LEF.STS.HINGE_UP = true) ∧ (s.mode.power ≠ .shutter) ∧ (s.rd SCN.SHUT_STS.STATE ≠ 4) ∧ (4 < s.leaf.silent ∨ (s.leaf.silent = 4 ∧ 500 ≤ s.clk.now - s.clk.lineAt)) ∧ (s.leaf.tau = none)) ∧
    (∃ (s : State), (s.role ≠ 4 ∨ s.leaf.silent < 4 ∨ s.mode.power = .shutter ∨ s.rdB LEF.STS.HINGE_UP = false)) ∧
    (∃ (s : State), (s.paired = true) ∧ (s.rdB LEF.STS.HINGE_UP = false) ∧ (s.partnerSeen = false) ∧ (s.role = 4) ∧ (s.leaf.tau = none) ∧ (s.rd SCN.SHUT_STS.STATE ≠ 4)) ∧
    (∃ (s : State), (s.paired = true) ∧ (s.rdB LEF.STS.HINGE_UP = false) ∧ (s.partnerSeen = false) ∧ (s.role ≠ 4)) ∧
    (∃ (s : State), (s.paired = false ∨ s.rdB LEF.STS.HINGE_UP = true ∨ s.partnerSeen = true)) ∧
    (∃ (s : State), (s.eff_ LEF.CFG.SWAP_H ≠ 0) ∧ (s.leaf.swapAt + 1600000000 * (3600 * s.eff_ LEF.CFG.SWAP_H) ≤ s.clk.now) ∧ (s.role = 2) ∧ (s.rd LEF.STS.PARTNER_ROLE = 4) ∧ (s.leaf.demoteCause = 0) ∧ (s.leaf.tau = none)) ∧
    (∃ (s : State), (s.eff_ LEF.CFG.SWAP_H = 0 ∨ s.role ≠ 2 ∨ s.clk.now < s.leaf.swapAt + 1600000000 * (3600 * s.eff_ LEF.CFG.SWAP_H))) ∧
    (∃ (s : State), (s.role = 4) ∧ (s.eff_ LEF.CFG.REVERT = 1) ∧ (s.eff_ LEF.CFG.PREF = 1) ∧ (s.rdB LEF.STS.BARRED = false) ∧ (s.leaf.readyAt + 1600000000 * s.rd LEF.REVERT_S.S ≤ s.clk.now)) ∧
    (∃ (s : State), (s.rdB LEF.STS.BARRED = true ∨ s.eff_ LEF.CFG.REVERT = 0 ∨ s.clk.now < s.leaf.readyAt + 1600000000 * s.rd LEF.REVERT_S.S)) ∧
    (∃ (s : State) (path : Path), (s.takes path LEF.PAGE 0x10C = true) ∧ (s.role = 2) ∧ (s.rd LEF.STS.PARTNER_ROLE = 4) ∧ (s.leaf.demoteCause = 0) ∧ (s.leaf.tau = none)) ∧
    (∃ (s : State) (path : Path), (s.takes path LEF.PAGE 0x10C = true) ∧ (s.role ≠ 2 ∨ s.rd LEF.STS.PARTNER_ROLE ≠ 4)) ∧
    (∃ (s : State) (path : Path), (s.takes path LEF.PAGE 0x10C = true) ∧ (s.role = 4 ∨ s.role = 5)) ∧
    (∃ (s : State) (path : Path), (s.takes path LEF.PAGE 0x10C = true) ∧ (s.role = 3)) ∧
    (∃ (s : State) (path : Path), (s.takes path LEF.PAGE 0x10C = true) ∧ (s.isStandby = false)) ∧
    (∃ (s : State) (path : Path), (s.takes path LEF.PAGE 0x10C = true)) :=
  ⟨⟨joining, by decide +kernel⟩,
   ⟨(joining.wrB LEF.STS.HINGE_UP false), by decide +kernel⟩,
   ⟨on, by decide +kernel⟩,
   ⟨joining, by decide +kernel⟩,
   ⟨(leafIn 4 2), by decide +kernel⟩,
   ⟨(leafIn 1 0), (hello 0 2 9), by decide +kernel⟩,
   ⟨joining, (hello 2 3 9), by decide +kernel⟩,
   ⟨joining, (hello 0 2 9), by decide +kernel⟩,
   ⟨(leafIn 5 2), (hello 2 3 9), by decide +kernel⟩,
   ⟨(leafIn 2 0), (hello 4 2 9), by decide +kernel⟩,
   ⟨((joining.modBoot (fun b => { b with done := 0 })).modLeaf (fun l => { l with driving := true })), (hello 0 3 9), by decide +kernel⟩,
   ⟨((leafIn 2 0).modScene (fun c => { c with fresh := [(16414, Entry.zero)] })), (hello 3 2 9), 16414, Entry.zero, by decide +kernel⟩,
   ⟨on, [], by decide +kernel⟩,
   ⟨((leafIn 2 4).modLeaf (fun l => { l with demoteCause := 1 })), by decide +kernel⟩,
   ⟨((leafIn 4 2).modLeaf (fun l => { l with repeats := takeBytes 2 ⟨1, true, 4001, 5⟩ })), by decide +kernel⟩,
   ⟨(leafIn 2 4), by decide +kernel⟩,
   ⟨(leafIn 4 2), (takeBytes 2 ⟨1, true, 4001, 5⟩), by decide +kernel⟩,
   ⟨((shuttered.wr LEF.STS.ROLE 4).wrEff LEF.CFG.PAIRED 1), (takeBytes 2 ⟨1, true, 4001, 5⟩), by decide +kernel⟩,
   ⟨(leafIn 3 2), (takeBytes 2 ⟨1, true, 4001, 5⟩), by decide +kernel⟩,
   ⟨on, by decide +kernel⟩,
   ⟨(leafIn 2 4), (takeBytes 3 ⟨9, false, 4001, 5⟩), by decide +kernel⟩,
   ⟨on, by decide +kernel⟩,
   ⟨(taking 1 false 4), ⟨1, false, 4001, 0xA3C6⟩, by decide +kernel⟩,
   ⟨((taking 1 false 4).modMode (fun m => { m with power := .shutter })), ⟨1, false, 4001, 0xA3C6⟩, by decide +kernel⟩,
   ⟨((taking 9 false 4).modLeaf (fun l => { l with diverge := [⟨0, 3, 0, 1⟩, ⟨0, 3, 9, 1⟩] })), ⟨9, false, 4001, 0xA3C6⟩, by decide +kernel⟩,
   ⟨(taking 11 true 2), ⟨11, true, 4001, 0xA3C6⟩, by decide +kernel⟩,
   ⟨((taking 1 true 2).wr LEF.STS.PARTNER_ROLE 3), ⟨1, true, 4001, 0xA3C6⟩, by decide +kernel⟩,
   ⟨on, by decide +kernel⟩,
   ⟨((taking 1 false 4).modClk (fun c => { c with line := 4000 })), ⟨1, false, 4001, 0xA3C6⟩, by decide +kernel⟩,
   ⟨((leafIn 4 2).modLeaf (fun l => { l with silent := 5 })), by decide +kernel⟩,
   ⟨((leafIn 4 2).modLeaf (fun l => { l with silent := 3 })), by decide +kernel⟩,
   ⟨((leafIn 4 2).wrB LEF.STS.HINGE_UP false), by decide +kernel⟩,
   ⟨((leafIn 2 4).wrB LEF.STS.HINGE_UP false), by decide +kernel⟩,
   ⟨on, by decide +kernel⟩,
   ⟨(((leafIn 2 4).wrEff LEF.CFG.SWAP_H 1).modClk (fun c => { c with now := 5760000000000 })), by decide +kernel⟩,
   ⟨((leafIn 2 4).wrEff LEF.CFG.SWAP_H 1), by decide +kernel⟩,
   ⟨((((leafIn 4 2).wrEff LEF.CFG.REVERT 1).wrEff LEF.CFG.PREF 1).modClk (fun c => { c with now := 5760000000000 })), by decide +kernel⟩,
   ⟨(((leafIn 4 2).wrEff LEF.CFG.REVERT 1).wrEff LEF.CFG.PREF 1), by decide +kernel⟩,
   ⟨(leafIn 2 4), .mgmt, by decide +kernel⟩,
   ⟨(leafIn 2 3), .mgmt, by decide +kernel⟩,
   ⟨(leafIn 4 2), .mgmt, by decide +kernel⟩,
   ⟨(leafIn 3 2), .mgmt, by decide +kernel⟩,
   ⟨(leafIn 2 4), .mgmt, by decide +kernel⟩,
   ⟨((leafIn 4 2).wrB LEF.STS.BARRED true), .mgmt, by decide +kernel⟩⟩

/-- The hypotheses of LeafMirror, clause by clause. -/
theorem hyps_LeafMirror :
    (∃ (s : State) (bs : List Byte), (s.isStandby = true) ∧ (36 ≤ bs.length) ∧ (beAt bs 0 1 = 1)) ∧
    (∃ (s : State) (bs : List Byte), (s.isStandby = false ∨ bs.length < 36 ∨ beAt bs 0 1 ≠ 1)) ∧
    (∃ (s : State) (r : MirrorRec) (ring : Nat) (i : Nat) (u : Update) (p : Plane), (s.isStandby = true) ∧ (s.leaf.sched.find? (fun r => !r.fetching) = some r) ∧ (s.leaf.sched.head? = some r) ∧ (s.reached r.line r.frame = true) ∧ (s.commitWaits r.tile = false) ∧ (s.leaf.fetch = []) ∧ (s.matching r = some (ring, u)) ∧ (s.owner r.tile = some (i, p)) ∧ (s.upd ring = some u) ∧ (u.handle = r.tile)) ∧
    (∃ (s : State) (r : MirrorRec), (s.isStandby = true) ∧ (s.leaf.sched.find? (fun r => !r.fetching) = some r) ∧ (s.reached r.line r.frame = true) ∧ (s.matching r = none ∨ s.owner r.tile = none)) ∧
    (∃ (s : State) (r : MirrorRec), (s.isStandby = true) ∧ (s.leaf.sched.find? (fun r => !r.fetching) = some r) ∧ (s.reached r.line r.frame = false)) ∧
    (∃ (s : State), (s.isStandby = false ∨ s.leaf.sched = [])) ∧
    (∃ (s : State) (ring : BitVec 16) (u : Update), (s.isStandby = true) ∧ (s.upd ring.toNat = some u) ∧ (u.phase = .written) ∧ (u.doneAt + (s.vtotal + 4) * s.rd SCN.LINE_EFF.PER / 256 ≤ s.clk.now) ∧ (s.leaf.sched = [])) ∧
    (∃ (s : State) (ring : BitVec 16) (u : Update), (s.upd ring.toNat = some u) ∧ (s.clk.now < u.doneAt + (s.vtotal + 4) * s.rd SCN.LINE_EFF.PER / 256 ∨ s.leaf.sched.any (fun r => r.tile == u.handle && r.seq == u.seq && r.source == u.source) = true)) ∧
    (∃ (s : State) (ring : BitVec 16), (s.isStandby = false ∨ s.upd ring.toNat = none)) ∧
    (∃ (s : State) (bs : List Byte) (i : Nat) (p : Plane), (s.role = 2) ∧ (20 ≤ bs.length) ∧ (beAt bs 0 1 = 6) ∧ (s.owner (beAt bs 12 4) = some (i, p)) ∧ (p.format = 1)) ∧
    (∃ (s : State) (bs : List Byte), (s.role ≠ 2 ∨ bs.length < 20 ∨ beAt bs 0 1 ≠ 6)) ∧
    (∃ (s : State) (bs : List Byte) (f : FetchSt) (i : Nat) (p : Plane), (s.isStandby = true) ∧ (24 ≤ bs.length) ∧ (beAt bs 0 1 = 7) ∧ (s.leaf.fetch = [f]) ∧ (beAt bs 12 4 = f.tile) ∧ (beAt bs 16 4 = f.seq) ∧ (beAt bs 20 4 = f.got.length) ∧ (s.owner f.tile = some (i, p)) ∧ (f.got.length + (bs.length - 24) < fmtTileBytes p.format)) ∧
    (∃ (s : State) (bs : List Byte) (f : FetchSt) (r : MirrorRec) (i : Nat) (p : Plane), (s.isStandby = true) ∧ (24 ≤ bs.length) ∧ (beAt bs 0 1 = 7) ∧ (s.leaf.fetch = [f]) ∧ (s.leaf.sched = [r]) ∧ (r.fetching = true) ∧ (s.commitWaits r.tile = false) ∧ (r.tile = f.tile) ∧ (r.seq = f.seq) ∧ (beAt bs 12 4 = f.tile) ∧ (beAt bs 16 4 = f.seq) ∧ (beAt bs 20 4 = f.got.length) ∧ (s.owner f.tile = some (i, p)) ∧ (p.format = 1) ∧ (f.got.length + (bs.length - 24) = 8192)) ∧
    (∃ (s : State), (s.isStandby = false ∨ s.leaf.fetch = [])) ∧
    (∃ (s : State) (bs : List Byte), (s.paired = true) ∧ (24 ≤ bs.length) ∧ (beAt bs 0 1 = 2) ∧ (bit (beAt bs 1 1) 1 = false) ∧ (tget (fun _ => DigRec.none) s.rim.dig (glKey (beAt bs 1 1 % 2) ((beAt bs 2 2 + 8624) % 8640)) = DigRec.none)) ∧
    (∃ (s : State) (bs : List Byte), (s.paired = true) ∧ (24 ≤ bs.length) ∧ (beAt bs 0 1 = 2) ∧ (bit (beAt bs 1 1) 1 = true) ∧ (tget (fun _ => DigRec.none) s.rim.dig (glKey (beAt bs 1 1 % 2) ((beAt bs 2 2 + 8624) % 8640)) = DigRec.none) ∧ (s.role = 2) ∧ (s.rd LEF.STS.PARTNER_ROLE = 4) ∧ (s.leaf.demoteCause = 0) ∧ (s.leaf.tau = none)) ∧
    (∃ (s : State) (bs : List Byte) (h : Nat) (old : Nat) (a : DigRec) (b : DigRec), (s.paired = true) ∧ (24 ≤ bs.length) ∧ (beAt bs 0 1 = 2) ∧ (h = beAt bs 1 1 % 2) ∧ (bit (beAt bs 1 1) 1 = false) ∧ (old = (beAt bs 2 2 + 8624) % 8640) ∧ (beAt bs 2 2 < 8640) ∧ (s.role = 4) ∧ (bit (beAt bs 20 1) 0 = true) ∧ (tget (fun _ => DigRec.none) s.rim.dig (glKey h old) = a) ∧ (tget (fun _ => DigRec.none) s.leaf.pdig (glKey h old) = b) ∧ (a.cg = b.cg) ∧ (a.wg = b.wg) ∧ (a.dig ≠ b.dig) ∧ (a.ok = true) ∧ (b.ok = true) ∧ (s.rim.digMisNow < s.eff_ LEF.CFG.DIG_THR)) ∧
    (∃ (s : State) (bs : List Byte) (h : Nat) (old : Nat) (a : DigRec) (b : DigRec), (s.paired = true) ∧ (24 ≤ bs.length) ∧ (beAt bs 0 1 = 2) ∧ (h = beAt bs 1 1 % 2) ∧ (bit (beAt bs 1 1) 1 = false) ∧ (old = (beAt bs 2 2 + 8624) % 8640) ∧ (beAt bs 2 2 < 8640) ∧ (s.role = 4) ∧ (bit (beAt bs 20 1) 0 = true) ∧ (tget (fun _ => DigRec.none) s.rim.dig (glKey h old) = a) ∧ (tget (fun _ => DigRec.none) s.leaf.pdig (glKey h old) = b) ∧ (a.cg = b.cg) ∧ (a.wg = b.wg) ∧ (a.dig ≠ b.dig) ∧ (a.ok = true) ∧ (b.ok = true) ∧ (s.rim.digMisNow = s.eff_ LEF.CFG.DIG_THR)) ∧
    (∃ (s : State) (bs : List Byte) (h : Nat) (old : Nat) (a : DigRec) (b : DigRec), (s.paired = true) ∧ (24 ≤ bs.length) ∧ (beAt bs 0 1 = 2) ∧ (h = beAt bs 1 1 % 2) ∧ (bit (beAt bs 1 1) 1 = false) ∧ (old = (beAt bs 2 2 + 8624) % 8640) ∧ (beAt bs 2 2 < 8640) ∧ (s.role = 4) ∧ (tget (fun _ => DigRec.none) s.rim.dig (glKey h old) = a) ∧ (tget (fun _ => DigRec.none) s.leaf.pdig (glKey h old) = b) ∧ (a.ok = true) ∧ (b.ok = true) ∧ (bit (beAt bs 20 1) 0 = false ∨ a.cg ≠ b.cg ∨ a.wg ≠ b.wg)) ∧
    (∃ (s : State) (bs : List Byte), (s.paired = false ∨ bs.length < 24 ∨ beAt bs 0 1 ≠ 2)) ∧
    (∃ (s : State) (bs : List Byte), (s.isStandby = true) ∧ (20 ≤ bs.length) ∧ (beAt bs 0 1 = 3)) ∧
    (∃ (s : State) (bs : List Byte), (s.isStandby = false ∨ bs.length < 20 ∨ beAt bs 0 1 ≠ 3)) ∧
    (∃ (s : State) (bs : List Byte), (s.isStandby = true) ∧ (12 ≤ bs.length) ∧ (beAt bs 0 1 = 4) ∧ (beAt bs 4 4 ≠ s.rd ING.EDIT_LAST)) ∧
    (∃ (s : State) (bs : List Byte), (s.isStandby = false ∨ beAt bs 4 4 = s.rd ING.EDIT_LAST)) ∧
    (∃ (s : State) (bs : List Byte), (s.isStandby = true ∨ (s.role = 2 ∧ plannedCause (s.rd LEF.TAKE_CAUSE.CAUSE) = true)) ∧ (beAt bs 0 1 = 5) ∧ (bs.length = 8 + beAt bs 6 2) ∧ (beAt bs 2 2 < 8640) ∧ (beAt bs 4 2 + beAt bs 6 2 ≤ 46080) ∧ (beAt bs 1 1 ≤ 1) ∧ ((tget (fun _ => (⟨0, []⟩ : RowDc)) s.panel.rowMark (rowKey (beAt bs 1 1) (beAt bs 2 2))).subs = [])) ∧
    (∃ (s : State) (bs : List Byte), (s.isStandby = true) ∧ (beAt bs 0 1 = 5) ∧ (bs.length = 8 + beAt bs 6 2) ∧ (beAt bs 2 2 < 8640) ∧ (beAt bs 4 2 + beAt bs 6 2 ≤ 46080) ∧ (beAt bs 1 1 ≤ 1) ∧ ((tget (fun _ => (⟨0, []⟩ : RowDc)) s.panel.rowMark (rowKey (beAt bs 1 1) (beAt bs 2 2))).subs ≠ [])) ∧
    (∃ (s : State) (bs : List Byte), (s.takesRepairs = false ∨ beAt bs 0 1 ≠ 5 ∨ bs.length < 8 + beAt bs 6 2 ∨ 8640 ≤ beAt bs 2 2 ∨ 46080 < beAt bs 4 2 + beAt bs 6 2)) ∧
    (∃ (s : State) (bs : List Byte), (s.role = 3) ∧ (s.leaf.fetch = []) ∧ (bs.length = 28) ∧ (beAt bs 0 1 = 8) ∧ (beAt bs 1 1 = 0) ∧ (beAt bs 4 8 % 16 = 0) ∧ (beAt bs 4 8 < 16 * handles)) ∧
    (∃ (s : State) (bs : List Byte), (s.role = 3) ∧ (12 ≤ bs.length) ∧ (bs.length ≤ 8204) ∧ (beAt bs 0 1 = 8) ∧ (beAt bs 1 1 = 1 ∨ beAt bs 1 1 = 2) ∧ (beAt bs 4 8 + (bs.length - 12) ≤ hbmSize) ∧ (s.panel.resZero = false) ∧ (s.leaf.fetch = [])) ∧
    (∃ (s : State) (bs : List Byte), (s.role ≠ 3 ∨ bs.length < 12 ∨ 8204 < bs.length ∨ beAt bs 0 1 ≠ 8)) ∧
    (∃ (s : State), (s.role = 3) ∧ (s.leaf.copyDone = true) ∧ (s.leaf.cleanWhole = true) ∧ (s.leaf.repairIn = []) ∧ (s.rdB LEF.STS.BARRED = false) ∧ (s.mode.dbg ≠ .intrusive)) ∧
    (∃ (s : State), (s.role ≠ 3 ∨ s.leaf.copyDone = false ∨ s.leaf.cleanWhole = false ∨ s.leaf.repairIn ≠ [] ∨ s.rdB LEF.STS.BARRED = true)) :=
  ⟨⟨(leafIn 4 2), (commitRec 0 0x3A000B7), by decide +kernel⟩,
   ⟨(leafIn 2 4), [], by decide +kernel⟩,
   ⟨(mirrored 0 (some { upd17 .tile .written 1 [] [] with stamp := 7 }) tile17), (mrec 0 false), 5, 17, { upd17 .tile .written 1 [] [] with stamp := 7 }, tile17, by decide +kernel⟩,
   ⟨(mirrored 0 none tile17), (mrec 0 false), by decide +kernel⟩,
   ⟨((mirrored 0 none tile17).modClk (fun c => { c with line := 8003 })), (mrec 0 false), by decide +kernel⟩,
   ⟨(leafIn 4 2), by decide +kernel⟩,
   ⟨(((mirrored 0 (some (upd17 .tile .written 1 [] [])) tile17).modLeaf (fun l => { l with sched := [] })).modClk (fun c => { c with now := 2 ^ 40 })), 5, (upd17 .tile .written 1 [] []), by decide +kernel⟩,
   ⟨(mirrored 0 (some (upd17 .tile .written 1 [] [])) tile17), 5, (upd17 .tile .written 1 [] []), by decide +kernel⟩,
   ⟨on, 5, by decide +kernel⟩,
   ⟨((leafIn 2 4).modScene (fun c => { c with planes := [(17, some rgbPlane)] })), ([0x06] ++ zeros 11 ++ beBytes 4 16414 ++ beBytes 4 9), 17, rgbPlane, by decide +kernel⟩,
   ⟨on, [], by decide +kernel⟩,
   ⟨(fetching []), (fdata 0 [1, 2, 3]), ⟨16414, 0x1A2B, []⟩, 17, rgbPlane, by decide +kernel⟩,
   ⟨(fetching (List.replicate 8190 7)), (fdata 8190 [1, 2]), ⟨16414, 0x1A2B, List.replicate 8190 7⟩, (mrec 0 true), 17, rgbPlane, by decide +kernel⟩,
   ⟨on, by decide +kernel⟩,
   ⟨(leafIn 4 2), (lineMsg 0x2D 15 5 1), by decide +kernel⟩,
   ⟨(leafIn 2 4), (lineMsg 2 15 5 1), by decide +kernel⟩,
   ⟨(compared 1 2), (lineMsg 1 316 5 1), 1, 300, ⟨true, 1, 7, 8⟩, ⟨true, 2, 7, 8⟩, by decide +kernel⟩,
   ⟨((compared 1 2).modRim (fun r => { r with digMisNow := 4 })), (lineMsg 1 316 5 1), 1, 300, ⟨true, 1, 7, 8⟩, ⟨true, 2, 7, 8⟩, by decide +kernel⟩,
   ⟨(compared 1 2), (lineMsg 1 316 5 0), 1, 300, ⟨true, 1, 7, 8⟩, ⟨true, 2, 7, 8⟩, by decide +kernel⟩,
   ⟨on, [], by decide +kernel⟩,
   ⟨(leafIn 4 2), ([0x03] ++ zeros 11 ++ beBytes 4 0xA3C ++ beBytes 4 3), by decide +kernel⟩,
   ⟨on, [], by decide +kernel⟩,
   ⟨(leafIn 4 2), ([0x04, 0, 0, 0] ++ beBytes 4 7 ++ beBytes 4 9), by decide +kernel⟩,
   ⟨(leafIn 4 2), ([0x04, 0, 0, 0] ++ beBytes 4 0 ++ beBytes 4 9), by decide +kernel⟩,
   ⟨(leafIn 4 2), repairMsg, by decide +kernel⟩,
   ⟨((leafIn 4 2).modPanel (fun p => { p with rowMark := [(rowKey 1 8639, ⟨1, [⟨15001, -60, 181, -1, false⟩]⟩)] })), repairMsg, by decide +kernel⟩,
   ⟨on, [], by decide +kernel⟩,
   ⟨syncing, ([0x08, 0, 0, 0] ++ beBytes 8 262624 ++ leBytes 4 7 ++ leBytes 4 9 ++ leBytes 4 0x200000 ++ leBytes 4 0x20110031), by decide +kernel⟩,
   ⟨(syncing.modLeaf (fun l => { l with rowsDone := #v[false, true] })), ([0x08, 2, 0, 0] ++ beBytes 8 (syncing.resAddr 0 + dcOfs 0 8639 0 + 46079) ++ [9]), by decide +kernel⟩,
   ⟨(leafIn 4 2), [], by decide +kernel⟩,
   ⟨(syncing.modLeaf (fun l => { l with copyDone := true, cleanWhole := true })), by decide +kernel⟩,
   ⟨syncing, by decide +kernel⟩⟩

/-- The hypotheses of ParameterStore, clause by clause. -/
theorem hyps_ParameterStore :
    (∃ (s : State) (path : Path) (p : Nat) (d : List Byte), (s.takes path NVS.PAGE 0x110 = true) ∧ (s.nvs.regOp = false) ∧ (s.rd NVS.PG_SEL.PAGE 0 path.num = p) ∧ ((partOf p = .identity ∨ ((partOf p = .config ∨ partOf p = .calibration ∨ partOf p = .log) ∧ (s.pwdOf (2 * (partOf p).num) = 0 ∨ (s.rdB NVS.STS.LOCKOUT = false ∧ (s.pwdOf (2 * (partOf p).num)).toNat = s.rd NVS.PWD_LO + s.rd NVS.PWD_HI * 2 ^ 32))))) ∧ (s.pageData p = some d) ∧ (s.copyOk p p = true) ∧ (s.copyOk (p + 4096) p = true)) ∧
    (∃ (s : State) (path : Path) (p : Nat) (d : List Byte), (s.takes path NVS.PAGE 0x110 = true) ∧ (s.nvs.regOp = false) ∧ (s.rd NVS.PG_SEL.PAGE 0 path.num = p) ∧ (partOf p = .identity) ∧ (s.pageData p = some d) ∧ (s.copyOk p p = false ∨ s.copyOk (p + 4096) p = false) ∧ (s.nvs.q = []) ∧ (s.nvs.cur = none)) ∧
    (∃ (s : State) (path : Path) (p : Nat), (s.takes path NVS.PAGE 0x110 = true) ∧ (s.nvs.regOp = false) ∧ (s.rd NVS.PG_SEL.PAGE 0 path.num = p) ∧ (partOf p = .identity) ∧ (s.pageData p = none)) ∧
    (∃ (s : State) (path : Path) (p : Nat), (s.takes path NVS.PAGE 0x110 = true) ∧ (s.nvs.regOp = false) ∧ (s.rd NVS.PG_SEL.PAGE 0 path.num = p) ∧ (partOf p = .reserved)) ∧
    (∃ (s : State) (path : Path) (p : Nat), (s.takes path NVS.PAGE 0x110 = true) ∧ (s.nvs.regOp = false) ∧ (s.rd NVS.PG_SEL.PAGE 0 path.num = p) ∧ (partOf p = .passwords ∨ partOf p = .counters)) ∧
    (∃ (s : State) (path : Path) (p : Nat), (s.takes path NVS.PAGE 0x110 = true) ∧ (s.nvs.regOp = false) ∧ (s.rd NVS.PG_SEL.PAGE 0 path.num = p) ∧ (partOf p = .config ∨ partOf p = .calibration) ∧ (p < 170 ∨ 273 < p) ∧ (s.mode.sec = .openS) ∧ (s.nvsNoWrite = false) ∧ (s.pwdOf (2 * (partOf p).num + 1) = 0 ∨ (s.rdB NVS.STS.LOCKOUT = false ∧ (s.pwdOf (2 * (partOf p).num + 1)).toNat = s.rd NVS.PWD_LO + s.rd NVS.PWD_HI * 2 ^ 32)) ∧ (s.nvs.q.length < 16)) ∧
    (∃ (s : State) (path : Path) (p : Nat), (s.takes path NVS.PAGE 0x110 = true) ∧ (s.nvs.regOp = false) ∧ (s.rd NVS.PG_SEL.PAGE 0 path.num = p) ∧ (partOf p = .config ∨ partOf p = .calibration) ∧ (p < 170 ∨ 273 < p) ∧ (s.mode.sec = .openS) ∧ (s.nvsNoWrite = false) ∧ (s.pwdOf (2 * (partOf p).num + 1) = 0 ∨ (s.rdB NVS.STS.LOCKOUT = false ∧ (s.pwdOf (2 * (partOf p).num + 1)).toNat = s.rd NVS.PWD_LO + s.rd NVS.PWD_HI * 2 ^ 32)) ∧ (16 ≤ s.nvs.q.length)) ∧
    (∃ (s : State) (path : Path) (p : Nat), (s.takes path NVS.PAGE 0x110 = true) ∧ (s.nvs.regOp = false) ∧ (s.rd NVS.PG_SEL.PAGE 0 path.num = p) ∧ (partOf p ≠ .config) ∧ (partOf p ≠ .calibration)) ∧
    (∃ (s : State) (path : Path) (p : Nat), (s.takes path NVS.PAGE 0x110 = true) ∧ (s.nvs.regOp = false) ∧ (s.rd NVS.PG_SEL.PAGE 0 path.num = p) ∧ (partOf p = .config ∨ partOf p = .calibration) ∧ (s.mode.sec ≠ .openS)) ∧
    (∃ (s : State) (path : Path) (p : Nat), (s.takes path NVS.PAGE 0x110 = true) ∧ (s.nvs.regOp = false) ∧ (s.rd NVS.PG_SEL.PAGE 0 path.num = p) ∧ (partOf p = .config ∨ partOf p = .calibration) ∧ (s.mode.sec = .openS) ∧ (s.nvsNoWrite = true)) ∧
    (∃ (s : State) (path : Path) (p : Nat), (s.takes path NVS.PAGE 0x110 = true) ∧ (s.nvs.regOp = false) ∧ (s.rd NVS.PG_SEL.PAGE 0 path.num = p) ∧ (partOf p = .config ∨ partOf p = .calibration) ∧ (p < 170 ∨ 273 < p) ∧ (s.mode.sec = .openS) ∧ (s.nvsNoWrite = false) ∧ (s.pwdOf (2 * (partOf p).num + 1) ≠ 0) ∧ (s.rdB NVS.STS.LOCKOUT = false) ∧ ((s.pwdOf (2 * (partOf p).num + 1)).toNat ≠ s.rd NVS.PWD_LO + s.rd NVS.PWD_HI * 2 ^ 32) ∧ ((s.nvs.wrongAt.filter (fun t => decide (s.clk.now < t + 96000000000))).length < 7)) ∧
    (∃ (s : State) (path : Path) (p : Nat), (s.takes path NVS.PAGE 0x110 = true) ∧ (s.nvs.regOp = false) ∧ (s.rd NVS.PG_SEL.PAGE 0 path.num = p) ∧ (partOf p = .config ∨ partOf p = .calibration) ∧ (p < 170 ∨ 273 < p) ∧ (s.mode.sec = .openS) ∧ (s.nvsNoWrite = false) ∧ (s.pwdOf (2 * (partOf p).num + 1) ≠ 0) ∧ (s.rdB NVS.STS.LOCKOUT = false) ∧ ((s.pwdOf (2 * (partOf p).num + 1)).toNat ≠ s.rd NVS.PWD_LO + s.rd NVS.PWD_HI * 2 ^ 32) ∧ (7 ≤ (s.nvs.wrongAt.filter (fun t => decide (s.clk.now < t + 96000000000))).length)) ∧
    (∃ (s : State) (path : Path) (p : Nat), (s.takes path NVS.PAGE 0x110 = true) ∧ (s.nvs.regOp = false) ∧ (s.rd NVS.PG_SEL.PAGE 0 path.num = p) ∧ (partOf p = .config ∨ partOf p = .calibration) ∧ (p < 170 ∨ 273 < p) ∧ (s.mode.sec = .openS) ∧ (s.nvsNoWrite = false) ∧ (s.pwdOf (2 * (partOf p).num + 1) ≠ 0) ∧ (s.rdB NVS.STS.LOCKOUT = true)) ∧
    (∃ (s : State) (path : Path) (p : Nat), (s.takes path NVS.PAGE 0x110 = true) ∧ (s.nvs.regOp = false) ∧ (s.rd NVS.PG_SEL.PAGE 0 path.num = p) ∧ (partOf p ≠ .reserved) ∧ (partOf p ≠ .passwords) ∧ (s.mode.sec = .openS) ∧ (s.nvsNoWrite = false) ∧ (s.pwdOf (2 * (partOf p).num + 1) = 0 ∨ (s.rdB NVS.STS.LOCKOUT = false ∧ (s.pwdOf (2 * (partOf p).num + 1)).toNat = s.rd NVS.PWD_LO + s.rd NVS.PWD_HI * 2 ^ 32)) ∧ (s.nvs.q.length < 16)) ∧
    (∃ (s : State) (path : Path), (s.takes path NVS.PAGE 0x110 = true) ∧ (s.nvs.regOp = false) ∧ (s.mode.sec ≠ .openS)) ∧
    (∃ (s : State) (path : Path) (p : Nat), (s.takes path NVS.PAGE 0x110 = true) ∧ (s.nvs.regOp = true) ∧ (s.rd NVS.PG_SEL.PAGE 0 path.num = p)) ∧
    (∃ (s : State) (w : NvsWrite) (q : List NvsWrite), (s.nvs.cur = none) ∧ (s.nvs.q = w :: q) ∧ (s.nvsNoWrite = false)) ∧
    (∃ (s : State), (s.nvs.q = [] ∨ s.nvs.cur ≠ none ∨ s.nvsNoWrite = true)) ∧
    (∃ (s : State) (w : NvsWrite), (s.nvs.cur = some w) ∧ (s.nvs.cmdQ = []) ∧ (w.by_ = .reg ∨ w.by_ = .own) ∧ ((s.pageSeq w.page).toNat < 100000)) ∧
    (∃ (s : State) (w : NvsWrite), (s.nvs.cur = some w) ∧ (w.by_ = .own) ∧ (100000 ≤ (s.pageSeq w.page).toNat) ∧ ((s.pageSeq w.page).toNat < 4294967295)) ∧
    (∃ (s : State) (w : NvsWrite), (s.nvs.cur = some w) ∧ (w.by_ = .scrub)) ∧
    (∃ (s : State) (w : NvsWrite), (s.nvs.cur = some w) ∧ (w.by_ = .log) ∧ (w.pwd = none)) ∧
    (∃ (s : State), (s.nvs.cur = none)) ∧
    (∃ (s : State), (s.nvs.lockAt + 960000000000 ≤ s.clk.now)) ∧
    (∃ (s : State), (s.clk.now < s.nvs.lockAt + 960000000000)) :=
  ⟨⟨(onPage 18 store), .mgmt, 18, (List.replicate 496 9), by decide +kernel⟩,
   ⟨(onPage 4 store), .mgmt, 4, (List.replicate 496 7), by decide +kernel⟩,
   ⟨(onPage 5 store), .mgmt, 5, by decide +kernel⟩,
   ⟨(onPage 4095 store), .mgmt, 4095, by decide +kernel⟩,
   ⟨(onPage 545 store), .mgmt, 545, by decide +kernel⟩,
   ⟨(onPage 169 (withPwd store)), .mgmt, 169, by decide +kernel⟩,
   ⟨((onPage 18 (withPwd store)).modNvs (fun n => { n with q := List.replicate 16 (wrPage .own none) })), .mgmt, 18, by decide +kernel⟩,
   ⟨(onPage 15 store), .mgmt, 15, by decide +kernel⟩,
   ⟨((onPage 18 store).modMode (fun m => { m with sec := .sealed })), .mgmt, 18, by decide +kernel⟩,
   ⟨((onPage 18 store).modNvs (fun n => { n with jrnlOn := true })), .mgmt, 18, by decide +kernel⟩,
   ⟨(onPage 18 store), .mgmt, 18, by decide +kernel⟩,
   ⟨((onPage 18 store).modNvs (fun n => { n with wrongAt := List.replicate 7 0 })), .mgmt, 18, by decide +kernel⟩,
   ⟨((onPage 18 (withPwd store)).wrB NVS.STS.LOCKOUT true), .mgmt, 18, by decide +kernel⟩,
   ⟨(onPage 18 (withPwd store)), .mgmt, 18, by decide +kernel⟩,
   ⟨((onPage 18 store).modMode (fun m => { m with sec := .sealed })), .mgmt, by decide +kernel⟩,
   ⟨(onPage 18 (writing .reg none)), .mgmt, 18, by decide +kernel⟩,
   ⟨(store.modNvs (fun n => { n with q := [wrPage .own none] })), (wrPage .own none), [], by decide +kernel⟩,
   ⟨store, by decide +kernel⟩,
   ⟨(writing .reg (some (5, 7))), (wrPage .reg (some (5, 7))), by decide +kernel⟩,
   ⟨((writing .own none).modNvs (fun n => { n with pages := [(18, copyOf 18 9 100000)] })), (wrPage .own none), by decide +kernel⟩,
   ⟨(writing .scrub none), (wrPage .scrub none), by decide +kernel⟩,
   ⟨(writing .log none), (wrPage .log none), by decide +kernel⟩,
   ⟨store, by decide +kernel⟩,
   ⟨((store.wrB NVS.STS.LOCKOUT true).modClk (fun c => { c with now := 960000000000 })), by decide +kernel⟩,
   ⟨(store.wrB NVS.STS.LOCKOUT true), by decide +kernel⟩⟩

/-- The hypotheses of CountersLogsMaps, clause by clause. -/
theorem hyps_CountersLogsMaps :
    (∃ (s : State), (s.nvsNoWrite = false) ∧ (s.nvs.lifeAt + 5760000000000 ≤ s.clk.now) ∧ ((s.pageData (530 + min 0xFFFFFFFF (s.counter 1 + 3600) % 16)).any (fun d => d.length == 496) = true)) ∧
    (∃ (s : State), (s.nvsNoWrite = true ∨ s.clk.now < s.nvs.lifeAt + 5760000000000)) ∧
    (∃ (s : State) (page : BitVec 11), (s.asmPages.contains page.toNat = true) ∧ (s.nvsNoWrite = false) ∧ (s.nvs.q = []) ∧ (s.budgetSpent = false) ∧ (s.log.budget < 7199)) ∧
    (∃ (s : State) (page : BitVec 11), (s.asmPages.contains page.toNat = false ∨ s.nvsNoWrite = true ∨ s.nvs.q.any (fun w => w.page == page.toNat) = true)) ∧
    (∃ (s : State) (path : Path), (s.takes path NVS.PAGE 0x128 = true) ∧ (s.nvsNoWrite = false) ∧ (s.pwdOf (11) = 0 ∨ (s.rdB NVS.STS.LOCKOUT = false ∧ (s.pwdOf (11)).toNat = s.rd NVS.PWD_LO + s.rd NVS.PWD_HI * 2 ^ 32)) ∧ (∀ k : Fin 18, (s.pageSeq (1639 + k.val)).toNat < 100000)) ∧
    (∃ (s : State) (path : Path), (s.takes path NVS.PAGE 0x128 = true) ∧ (s.nvsNoWrite = true)) ∧
    (∃ (s : State), (s.nvs.scrubPos = none) ∧ (s.nvs.scrubLife + 2592000 ≤ s.lifeS)) ∧
    (∃ (s : State), (s.lifeS < s.nvs.scrubLife + 2592000)) ∧
    (∃ (s : State) (p : Nat), (s.nvs.scrubPos = some p) ∧ (p < 4095) ∧ (s.nvs.q.length ≤ 14) ∧ (s.nvsNoWrite = false) ∧ ((s.pageData p).isSome = true)) ∧
    (∃ (s : State) (p : Nat), (s.nvs.scrubPos = some p) ∧ (p < 4095) ∧ (s.nvs.q.length ≤ 14) ∧ (s.nvsNoWrite = false) ∧ (s.pageData p = none) ∧ (s.copyOk p p = false)) ∧
    (∃ (s : State), (s.nvs.scrubPos = some 4095) ∧ (s.nvs.q.length ≤ 14) ∧ (s.nvsNoWrite = false) ∧ (s.copyOk 4095 4095 = true) ∧ (s.copyOk 8191 4095 = true) ∧ (∀ k : Fin 16, (s.pageSeq (530 + k.val)).toNat < 100000)) ∧
    (∃ (s : State), (s.nvs.scrubPos = none ∨ 14 < s.nvs.q.length ∨ s.nvsNoWrite = true)) ∧
    (∃ (s : State) (path : Path), (s.takes path BMS.PAGE 0x118 = true) ∧ (s.rdB BMS.STS.BUSY = false) ∧ (s.mode.sec = .openS) ∧ (s.rd BMS.SIDE_SEL.SIDE 0 path.num ≠ s.fwSide)) ∧
    (∃ (s : State) (path : Path), (s.takes path BMS.PAGE 0x118 = true) ∧ (s.rdB BMS.STS.BUSY = true)) ∧
    (∃ (s : State) (path : Path), (s.takes path BMS.PAGE 0x118 = true) ∧ (s.rdB BMS.STS.BUSY = false) ∧ (s.mode.sec ≠ .openS) ∧ (path.privileged = false)) ∧
    (∃ (s : State) (path : Path), (s.takes path BMS.PAGE 0x118 = true) ∧ (s.rdB BMS.STS.BUSY = false) ∧ (s.mode.sec = .openS) ∧ (s.rd BMS.LEN.BYTES % 4096 = 0) ∧ (s.rd BMS.OFS.OFS * 4096 + s.rd BMS.LEN.BYTES ≤ bmsSide) ∧ (s.rd BMS.HBM_LO.ADDR * 4096 + s.rd BMS.HBM_HI.ADDR * 2 ^ 32 + s.rd BMS.LEN.BYTES ≤ hbmSize) ∧ (s.rd BMS.SIDE_SEL.SIDE 0 path.num ≠ s.fwSide) ∧ (s.nvs.bmsProg = [])) ∧
    (∃ (s : State) (path : Path), (s.takes path BMS.PAGE 0x118 = true) ∧ (s.rdB BMS.STS.BUSY = true)) ∧
    (∃ (s : State) (path : Path), (s.takes path BMS.PAGE 0x118 = true) ∧ (s.rdB BMS.STS.BUSY = false) ∧ (s.mode.sec ≠ .openS) ∧ (path.privileged = false)) ∧
    (∃ (s : State) (path : Path), (s.takes path BMS.PAGE 0x118 = true) ∧ (s.rdB BMS.STS.BUSY = false) ∧ (s.mode.sec = .openS) ∧ (s.rd BMS.LEN.BYTES % 4096 = 0) ∧ (s.rd BMS.OFS.OFS * 4096 + s.rd BMS.LEN.BYTES ≤ bmsSide) ∧ (s.rd BMS.HBM_LO.ADDR * 4096 + s.rd BMS.HBM_HI.ADDR * 2 ^ 32 + s.rd BMS.LEN.BYTES ≤ hbmSize)) ∧
    (∃ (s : State) (path : Path), (s.takes path BMS.PAGE 0x118 = true) ∧ (s.rdB BMS.STS.BUSY = true)) ∧
    (∃ (s : State) (path : Path), (s.takes path BMS.PAGE 0x118 = true) ∧ (s.rdB BMS.STS.BUSY = false) ∧ (s.mode.sec ≠ .openS) ∧ (path.privileged = false)) ∧
    (∃ (s : State) (path : Path), (s.takes path BMS.PAGE 0x118 = true) ∧ (s.rdB BMS.STS.BUSY = false) ∧ (s.mode.sec = .openS) ∧ (s.rd BMS.SIDE_SEL.SIDE 0 path.num = s.fwSide)) ∧
    (∃ (s : State) (path : Path), (s.takes path BMS.PAGE 0x118 = true) ∧ (s.rdB BMS.STS.BUSY = false) ∧ (s.mode.sec = .openS) ∧ (bmsSide < s.rd BMS.OFS.OFS * 4096 + s.rd BMS.LEN.BYTES ∨ s.rd BMS.LEN.BYTES % 4096 ≠ 0)) ∧
    (∃ (s : State) (path : Path), (s.takes path BMS.PAGE 0x118 = true) ∧ (s.rdB BMS.STS.BUSY = false) ∧ (s.mode.sec = .openS) ∧ (s.rd BMS.SIDE_SEL.SIDE 0 path.num ≠ s.fwSide) ∧ (s.rd BMS.LEN.BYTES = 4096) ∧ (s.rd BMS.OFS.OFS * 4096 + 4096 ≤ bmsSide) ∧ (s.rd BMS.HBM_LO.ADDR * 4096 + s.rd BMS.HBM_HI.ADDR * 2 ^ 32 + 4096 ≤ hbmSize) ∧ (tget (fun _ => false) s.nvs.bmsProg ((s.rd BMS.SIDE_SEL.SIDE 0 path.num * bmsSide + s.rd BMS.OFS.OFS * 4096) / 4096) = true)) ∧
    (∃ (s : State) (fail : Bool) (j : BmsJob), (s.nvs.bmsJob = some j) ∧ (s.hotThrottle = false) ∧ (fail = false) ∧ (j.op = 1)) ∧
    (∃ (s : State) (fail : Bool) (j : BmsJob), (s.nvs.bmsJob = some j) ∧ (s.hotThrottle = false) ∧ (s.mem.sealed = false) ∧ (fail = false) ∧ (j.op = 2) ∧ (s.ram.bad = [])) ∧
    (∃ (s : State) (j : BmsJob), (s.nvs.bmsJob = some j) ∧ (s.hotThrottle = false) ∧ (s.mem.sealed = false) ∧ (j.op = 3)) ∧
    (∃ (s : State) (fail : Bool) (j : BmsJob), (s.nvs.bmsJob = some j) ∧ (s.hotThrottle = false) ∧ (fail = true) ∧ (j.op = 1 ∨ (j.op = 2 ∧ s.mem.sealed = false))) ∧
    (∃ (s : State), (s.nvs.bmsJob = none ∨ s.hotThrottle = true ∨ (s.mem.sealed = true ∧ ∀ j, s.nvs.bmsJob = some j → j.op ≠ 1))) ∧
    (∃ (s : State), (s.hotThrottle = false)) ∧
    (∃ (s : State) (retired : BitVec 16), (s.hotThrottle = true ∨ retired = 0)) :=
  ⟨⟨(store.modClk (fun c => { c with now := 5760000000000 })), by decide +kernel⟩,
   ⟨store, by decide +kernel⟩,
   ⟨logging, 546, by decide +kernel⟩,
   ⟨logging, 547, by decide +kernel⟩,
   ⟨(logging.modNvs (fun n => { n with pwds := [(11, 0)] })), .mgmt, by decide +kernel⟩,
   ⟨(store.modNvs (fun n => { n with jrnlOn := true })), .mgmt, by decide +kernel⟩,
   ⟨(store.modClk (fun c => { c with now := 1600000000 * 2592000 })), by decide +kernel⟩,
   ⟨store, by decide +kernel⟩,
   ⟨(store.modNvs (fun n => { n with scrubPos := some 4 })), 4, by decide +kernel⟩,
   ⟨(store.modNvs (fun n => { n with scrubPos := some 5 })), 5, by decide +kernel⟩,
   ⟨(store.modNvs (fun n => { n with scrubPos := some 4095, pages := (4095, copyOf 4095 1 1) :: (8191, copyOf 4095 1 1) :: n.pages })), by decide +kernel⟩,
   ⟨store, by decide +kernel⟩,
   ⟨bmsReg, .mgmt, by decide +kernel⟩,
   ⟨(bmsRuns 1 0), .mgmt, by decide +kernel⟩,
   ⟨(bmsReg.modMode (fun m => { m with sec := .sealed })), .fabric, by decide +kernel⟩,
   ⟨bmsReg, .mgmt, by decide +kernel⟩,
   ⟨(bmsRuns 1 0), .mgmt, by decide +kernel⟩,
   ⟨(bmsReg.modMode (fun m => { m with sec := .sealed })), .fabric, by decide +kernel⟩,
   ⟨bmsReg, .mgmt, by decide +kernel⟩,
   ⟨(bmsRuns 1 0), .mgmt, by decide +kernel⟩,
   ⟨(bmsReg.modMode (fun m => { m with sec := .sealed })), .fabric, by decide +kernel⟩,
   ⟨full, .mgmt, by decide +kernel⟩,
   ⟨(bmsReg.wr BMS.LEN.BYTES 8193), .mgmt, by decide +kernel⟩,
   ⟨(((bmsReg.wr BMS.LEN.BYTES 4096).wr BMS.OFS.OFS 1).modNvs (fun n => { n with bmsProg := [(1048577, true)] })), .mgmt, by decide +kernel⟩,
   ⟨(bmsRuns 1 0), false, ⟨1, 1, 4096, 8192, 0⟩, by decide +kernel⟩,
   ⟨(bmsRuns 2 4096), false, ⟨2, 1, 4096, 8192, 4096⟩, by decide +kernel⟩,
   ⟨(bmsRuns 3 4096), ⟨3, 1, 4096, 8192, 4096⟩, by decide +kernel⟩,
   ⟨((bmsRuns 2 4096).modNvs (fun n => { n with bmsRetried := true })), true, ⟨2, 1, 4096, 8192, 4096⟩, by decide +kernel⟩,
   ⟨full, by refine Or.inl ?_; decide +kernel⟩,
   ⟨full, by decide +kernel⟩,
   ⟨full, 0, by decide +kernel⟩⟩

/-- The hypotheses of Thermal, clause by clause. -/
theorem hyps_Thermal :
    (∃ (s : State) (sensor : Fin 28) (temp : BitVec 16) (valid : Bool) (z : Nat) (T : Int), (z = sensorZone sensor) ∧ (z = 0 ∨ z = 3 ∨ z = 4 ∨ z = 5) ∧ (valid = true) ∧ (s.rdB THM.SEN_STS.BROKEN 0 sensor = false) ∧ (s.modulePends = false) ∧ (T = (s.wrI THM.SEN_STS.TEMP temp.toInt 0 sensor).zoneTemp z) ∧ (-32768 ≤ T) ∧ (T ≤ 32767) ∧ (∀ l ∈ [1, 2, 3, 4, 5, 6], s.inLevel z l = true ∨ s.beyond z l T = false)) ∧
    (∃ (s : State) (sensor : Fin 28) (temp : BitVec 16) (valid : Bool) (z : Nat) (T : Int), (z = sensorZone sensor) ∧ (z = 0 ∨ z = 3 ∨ z = 4 ∨ z = 5) ∧ (valid = true) ∧ (s.rdB THM.SEN_STS.BROKEN 0 sensor = false) ∧ (s.modulePends = false) ∧ (T = (s.wrI THM.SEN_STS.TEMP temp.toInt 0 sensor).zoneTemp z) ∧ (-32768 ≤ T) ∧ (T ≤ 32767) ∧ (∀ l ∈ [1, 3, 4, 5, 6], s.inLevel z l = true ∨ s.beyond z l T = false) ∧ (s.inLevel z 2 = false) ∧ (s.beyond z 2 T = true) ∧ (tget (fun _ => 0) s.thm.zoneIn (8 * z + 2) = 2)) ∧
    (∃ (s : State) (sensor : Fin 28) (temp : BitVec 16) (valid : Bool) (z : Nat) (T : Int), (z = sensorZone sensor) ∧ (z = 0 ∨ z = 3 ∨ z = 4 ∨ z = 5) ∧ (valid = true) ∧ (s.rdB THM.SEN_STS.BROKEN 0 sensor = false) ∧ (s.modulePends = false) ∧ (T = (s.wrI THM.SEN_STS.TEMP temp.toInt 0 sensor).zoneTemp z) ∧ (-32768 ≤ T) ∧ (T ≤ 32767) ∧ (∀ l ∈ [2, 3, 4, 5, 6], s.inLevel z l = true ∨ s.beyond z l T = false) ∧ (s.inLevel z 1 = false) ∧ (s.beyond z 1 T = true) ∧ (tget (fun _ => 0) s.thm.zoneIn (8 * z + 1) = 2)) ∧
    (∃ (s : State) (sensor : Fin 28) (temp : BitVec 16) (valid : Bool) (z : Nat) (T : Int), (z = sensorZone sensor) ∧ (z = 0 ∨ z = 3 ∨ z = 4 ∨ z = 5) ∧ (valid = true) ∧ (s.rdB THM.SEN_STS.BROKEN 0 sensor = false) ∧ (s.modulePends = false) ∧ (T = (s.wrI THM.SEN_STS.TEMP temp.toInt 0 sensor).zoneTemp z) ∧ (-32768 ≤ T) ∧ (T ≤ 32767) ∧ (∀ l ∈ [1, 2, 4, 5, 6], s.inLevel z l = true ∨ s.beyond z l T = false) ∧ (s.inLevel z 3 = false) ∧ (s.beyond z 3 T = true) ∧ (tget (fun _ => 0) s.thm.zoneIn (8 * z + 3) = 2)) ∧
    (∃ (s : State) (sensor : Fin 28) (temp : BitVec 16) (valid : Bool) (z : Nat) (T : Int), (z = sensorZone sensor) ∧ (z = 0 ∨ z = 3 ∨ z = 4 ∨ z = 5) ∧ (valid = true) ∧ (s.rdB THM.SEN_STS.BROKEN 0 sensor = false) ∧ (s.modulePends = false) ∧ (T = (s.wrI THM.SEN_STS.TEMP temp.toInt 0 sensor).zoneTemp z) ∧ (-32768 ≤ T) ∧ (T ≤ 32767) ∧ (∀ l ∈ [1, 2, 3, 4, 6], s.inLevel z l = true ∨ s.beyond z l T = false) ∧ (s.inLevel z 5 = false) ∧ (s.beyond z 5 T = true) ∧ (tget (fun _ => 0) s.thm.zoneIn (8 * z + 5) = 2) ∧ (s.mode.power = .full)) ∧
    (∃ (s : State) (sensor : Fin 28) (temp : BitVec 16) (valid : Bool) (z : Nat) (T : Int), (z = sensorZone sensor) ∧ (z = 0 ∨ z = 3 ∨ z = 4 ∨ z = 5) ∧ (valid = true) ∧ (s.rdB THM.SEN_STS.BROKEN 0 sensor = false) ∧ (s.modulePends = false) ∧ (T = (s.wrI THM.SEN_STS.TEMP temp.toInt 0 sensor).zoneTemp z) ∧ (-32768 ≤ T) ∧ (T ≤ 32767) ∧ (∀ l ∈ [1, 2, 3, 5, 6], s.inLevel z l = true ∨ s.beyond z l T = false) ∧ (s.inLevel z 4 = false) ∧ (s.beyond z 4 T = true) ∧ (tget (fun _ => 0) s.thm.zoneIn (8 * z + 4) = 2) ∧ (s.thm.stopping = false) ∧ (s.mode.power = .full) ∧ (s.role = 2) ∧ (s.rdB LEF.STS.HINGE_UP = true) ∧ (s.rd LEF.STS.PARTNER_ROLE = 4) ∧ (s.leaf.demoteCause = 0) ∧ (s.leaf.tau = none)) ∧
    (∃ (s : State) (sensor : Fin 28) (temp : BitVec 16) (valid : Bool) (z : Nat) (T : Int), (z = sensorZone sensor) ∧ (z = 0 ∨ z = 3 ∨ z = 4 ∨ z = 5) ∧ (valid = true) ∧ (s.rdB THM.SEN_STS.BROKEN 0 sensor = false) ∧ (s.modulePends = false) ∧ (T = (s.wrI THM.SEN_STS.TEMP temp.toInt 0 sensor).zoneTemp z) ∧ (-32768 ≤ T) ∧ (T ≤ 32767) ∧ (∀ l ∈ [1, 2, 3, 5, 6], s.inLevel z l = true ∨ s.beyond z l T = false) ∧ (s.inLevel z 4 = false) ∧ (s.beyond z 4 T = true) ∧ (tget (fun _ => 0) s.thm.zoneIn (8 * z + 4) = 2) ∧ (s.thm.stopping = false) ∧ (s.mode.power = .full) ∧ (s.role ≠ 2) ∧ (s.mode.raster = .weaver)) ∧
    (∃ (s : State) (sensor : Fin 28) (temp : BitVec 16) (valid : Bool) (z : Nat) (T : Int), (z = sensorZone sensor) ∧ (z = 0 ∨ z = 3 ∨ z = 4 ∨ z = 5) ∧ (valid = true) ∧ (s.rdB THM.SEN_STS.BROKEN 0 sensor = false) ∧ (s.modulePends = false) ∧ (T = (s.wrI THM.SEN_STS.TEMP temp.toInt 0 sensor).zoneTemp z) ∧ (-32768 ≤ T) ∧ (T ≤ 32767) ∧ (∀ l ∈ [1, 2, 3, 5, 6], s.inLevel z l = true ∨ s.beyond z l T = false) ∧ (s.inLevel z 4 = false) ∧ (s.beyond z 4 T = true) ∧ (tget (fun _ => 0) s.thm.zoneIn (8 * z + 4) = 2) ∧ (s.thm.stopping = false) ∧ (s.mode.power = .sill) ∧ (s.role ≠ 2) ∧ (s.mode.raster = .sill)) ∧
    (∃ (s : State) (sensor : Fin 28) (temp : BitVec 16) (valid : Bool) (z : Nat) (T : Int), (z = sensorZone sensor) ∧ (z = 0 ∨ z = 3 ∨ z = 4 ∨ z = 5) ∧ (valid = true) ∧ (s.rdB THM.SEN_STS.BROKEN 0 sensor = false) ∧ (s.modulePends = false) ∧ (T = (s.wrI THM.SEN_STS.TEMP temp.toInt 0 sensor).zoneTemp z) ∧ (-32768 ≤ T) ∧ (T ≤ 32767) ∧ (∀ l ∈ [1, 2, 3, 4, 5], s.inLevel z l = true ∨ s.beyond z l T = false) ∧ (s.inLevel z 6 = false) ∧ (s.beyond z 6 T = true) ∧ (tget (fun _ => 0) s.thm.zoneIn (8 * z + 6) = 1) ∧ (s.mode.supply = .on) ∧ (s.mode.power = .full) ∧ (s.mode.raster = .weaver) ∧ (s.rdB SYS.PWR_STS.HOLD_RDY = true) ∧ (s.nvs.jrnlOn = false) ∧ ((s.pageData (530 + (min 0xFFFFFFFF (s.counter 5 + 1)) % 16)).any (fun d => d.length == 496) = true)) ∧
    (∃ (s : State) (sensor : Fin 28) (temp : BitVec 16) (valid : Bool) (z : Nat) (T : Int), (z = sensorZone sensor) ∧ (z = 0 ∨ z = 3 ∨ z = 4 ∨ z = 5) ∧ (valid = true) ∧ (s.rdB THM.SEN_STS.BROKEN 0 sensor = false) ∧ (s.modulePends = false) ∧ (T = (s.wrI THM.SEN_STS.TEMP temp.toInt 0 sensor).zoneTemp z) ∧ (-32768 ≤ T) ∧ (T ≤ 32767) ∧ (∀ l ∈ [1, 3, 4, 5, 6], s.inLevel z l = true ∨ s.beyond z l T = false) ∧ (s.inLevel z 2 = true) ∧ (s.backFrom z 2 T = true) ∧ (tget (fun _ => 0) s.thm.zoneOut (8 * z + 2) = 2)) ∧
    (∃ (s : State) (sensor : Fin 28) (temp : BitVec 16) (valid : Bool) (z : Nat) (T : Int), (z = sensorZone sensor) ∧ (z = 3) ∧ (valid = false) ∧ (s.rdB THM.SEN_STS.BROKEN 0 sensor = false) ∧ (tget (fun _ => 0) s.thm.senBad sensor = 2) ∧ (s.modulePends = false) ∧ (T = 1000) ∧ (s.zoneThr 3 3 = T) ∧ (∀ n ∈ [12, 13, 14, 15], s.rdB THM.SEN_STS.BROKEN 0 n = false ∧ s.rdI THM.SEN_STS.TEMP 0 n ≤ T) ∧ (temp.toInt ≤ T) ∧ (s.thm.zoneIn = []) ∧ (s.thm.inLevel = [])) ∧
    (∃ (s : State) (sensor : Fin 28) (temp : BitVec 16) (valid : Bool) (z : Nat) (T : Int), (z = sensorZone sensor) ∧ (z = 0 ∨ z = 3 ∨ z = 4 ∨ z = 5) ∧ (valid = true) ∧ (s.rdB THM.SEN_STS.BROKEN 0 sensor = true) ∧ (tget (fun _ => 0) s.thm.senGood sensor = 99) ∧ (s.modulePends = false) ∧ (T = ((s.wrI THM.SEN_STS.TEMP temp.toInt 0 sensor).wrB THM.SEN_STS.BROKEN false 0 sensor).zoneTemp z) ∧ (∀ l ∈ [1, 2, 3, 4, 5, 6], s.inLevel z l = false ∧ s.beyond z l T = false)) ∧
    (∃ (s : State) (c : Nat), (s.mode.power = .thermalStop) ∧ (s.mode.sec = .openS) ∧ (s.mode.raster = .sill) ∧ (s.thm.clearSince = some c) ∧ (c + 1600000000 * s.rd THM.RESTART.S ≤ s.clk.now) ∧ (∀ z ∈ List.range 7, s.zoneThr z 1 + s.hyst < s.rdI THM.ZONE_STS.TEMP 0 z ∧ s.rdI THM.ZONE_STS.TEMP 0 z < s.zoneThr z 2 - s.hyst)) ∧
    (∃ (s : State) (c : Nat), (s.mode.power = .thermalStop) ∧ (s.mode.sec = .quarantined) ∧ (s.mode.raster = .sill) ∧ (s.thm.clearSince = some c) ∧ (c + 1600000000 * s.rd THM.RESTART.S ≤ s.clk.now) ∧ (s.zonesClear = true)) ∧
    (∃ (s : State), (s.mode.power ≠ .thermalStop ∨ s.thm.clearSince = none ∨ s.rdI THM.ZONE_STS.TEMP 0 5 ≤ s.zoneThr 5 1 + s.hyst)) :=
  ⟨⟨(warmTo 500 [] [] full), 13, 550, true, 3, 550, by decide +kernel⟩,
   ⟨(warmTo 900 [(26, 2)] [] full), 13, 950, true, 3, 950, by decide +kernel⟩,
   ⟨(warmTo (-300) [(25, 2)] [] full), 13, 0xFED4, true, 3, -300, by decide +kernel⟩,
   ⟨(warmTo 990 [(27, 2)] [(26, true)] full), 13, 1000, true, 3, 1000, by decide +kernel⟩,
   ⟨(warmTo (-400) [(29, 2)] [(25, true)] full), 13, 0xFE70, true, 3, -400, by decide +kernel⟩,
   ⟨(warmTo 1040 [(28, 2)] [(26, true), (27, true)] (leafIn 2 4)), 13, 1050, true, 3, 1050, by decide +kernel⟩,
   ⟨(warmTo 1040 [(28, 2)] [(26, true), (27, true)] full), 13, 1050, true, 3, 1050, by decide +kernel⟩,
   ⟨(warmTo 1040 [(28, 2)] [(26, true), (27, true)] (slow.wr LEF.STS.ROLE 0)), 13, 1050, true, 3, 1050, by decide +kernel⟩,
   ⟨(warmTo 1140 [(30, 1)] [(26, true), (27, true), (28, true)] full), 13, 1150, true, 3, 1150, by decide +kernel⟩,
   ⟨((warmTo 910 [] [(26, true)] full).modThm (fun m => { m with zoneOut := [(26, 2)] })), 13, 919, true, 3, 919, by decide +kernel⟩,
   ⟨((warmTo 500 [] [] full).modThm (fun m => { m with senBad := [(13, 2)] })), 13, 0, false, 3, 1000, by decide +kernel⟩,
   ⟨(((warmTo 500 [] [] full).modThm (fun m => { m with senGood := [(13, 99)] })).wrB THM.SEN_STS.BROKEN true 0 13), 13, 510, true, 3, 510, by decide +kernel⟩,
   ⟨(stoppedT.modThm (fun t => { t with clearSince := some 0 }) |>.modClk (fun k => { k with now := 2 ^ 40 })), 0, by decide +kernel⟩,
   ⟨((stoppedT.modThm (fun t => { t with clearSince := some 0 }) |>.modClk (fun k => { k with now := 2 ^ 40 })).modMode (fun m => { m with sec := .quarantined })), 0, by decide +kernel⟩,
   ⟨full, by decide +kernel⟩⟩

/-- The hypotheses of Calibration, clause by clause. -/
theorem hyps_Calibration :
    (∃ (s : State) (path : Path), (s.takes path CLB.PAGE 0x108 = true)) ∧
    (∃ (s : State) (group : Fin 3), (s.mayRun group = true) ∧ (group ≠ 2)) ∧
    (∃ (s : State) (group : Fin 3) (d : List Byte) (ta : Int) (tb : Int), (s.mayRun group = true) ∧ (group = 2) ∧ (s.pageData 274 = some d) ∧ (s.tp 0 = some ta) ∧ (s.tp 1 = some tb)) ∧
    (∃ (s : State) (group : Fin 3), (s.mayRun group = false)) ∧
    (∃ (s : State) (group : Fin 3), (bit (s.rd CLB.STS.RUNNING) group = true) ∧ (group = 2 → s.thm.vcomLeft[0] = 0 ∧ s.thm.vcomLeft[1] = 0)) ∧
    (∃ (s : State), (s.mode.raster = .sill) ∧ (s.clk.line = 8639)) ∧
    (∃ (s : State) (group : Fin 3), (bit (s.rd CLB.STS.RUNNING) group = false ∨ (group = 2 ∧ (s.thm.vcomLeft[0] ≠ 0 ∨ s.thm.vcomLeft[1] ≠ 0)))) ∧
    (∃ (s : State) (gain : BitVec 32), (s.mode.supply = .on) ∧ (s.thm.vrefStored.all (fun g => decide ((gain.toInt - g).natAbs ≤ 200)) = true)) ∧
    (∃ (s : State) (gain : BitVec 32) (ok : Bool), (s.mode.supply = .on) ∧ (ok = false ∨ s.thm.vrefStored.any (fun g => decide (200 < (gain.toInt - g).natAbs)) = true)) ∧
    (∃ (s : State), (s.rdB CLB.STS.CLK10_OK = true)) ∧
    (∃ (s : State), (s.rdB CLB.STS.CLK10_OK = false)) ∧
    (∃ (s : State) (path : Path) (v : BitVec 32), (s.takes path CLB.PAGE 0x11C = true) ∧ (s.rdB CLB.ST_STS.BUSY = false) ∧ (s.testAllowed (bits v.toNat 2 0) (bits v.toNat 24 16) = true)) ∧
    (∃ (s : State) (path : Path) (v : BitVec 32), (s.takes path CLB.PAGE 0x11C = true) ∧ (s.rdB CLB.ST_STS.BUSY = false) ∧ (s.testAllowed (bits v.toNat 2 0) (bits v.toNat 24 16) = false)) ∧
    (∃ (s : State) (path : Path), (s.takes path CLB.PAGE 0x11C = true) ∧ (s.rdB CLB.ST_STS.BUSY = true)) ∧
    (∃ (s : State) (st : SelfTest), (s.thm.selfTest = some st) ∧ (st.test ≠ 4)) ∧
    (∃ (s : State) (st : SelfTest), (s.thm.selfTest = some st) ∧ (st.test = 4)) ∧
    (∃ (s : State), (s.thm.selfTest = none)) :=
  ⟨⟨(calRuns 1), .mgmt, by decide +kernel⟩,
   ⟨(calWaits 2), 1, by decide +kernel⟩,
   ⟨((calWaits 4).modNvs (fun n => { n with pages := [(274, mkCopy 274 (List.replicate 496 1) 2)] })), 2, (List.replicate 496 1), 0, 0, by decide +kernel⟩,
   ⟨full, 1, by decide +kernel⟩,
   ⟨(calRuns 3), 1, by decide +kernel⟩,
   ⟨((slow.modClk (fun c => { c with line := 8639 })).wr CLB.STS.RUNNING 3), by decide +kernel⟩,
   ⟨full, 1, by decide +kernel⟩,
   ⟨(full.modThm (fun t => { t with vrefStored := some 100 })), 0xFFFFFF9C, by decide +kernel⟩,
   ⟨(full.modThm (fun t => { t with vrefStored := some 100 })), 301, true, by decide +kernel⟩,
   ⟨(full.wrB CLB.STS.CLK10_OK true), by decide +kernel⟩,
   ⟨full, by decide +kernel⟩,
   ⟨full, .mgmt, 0x01FF0003, by decide +kernel⟩,
   ⟨full, .mgmt, 4, by decide +kernel⟩,
   ⟨(testing 2), .mgmt, by decide +kernel⟩,
   ⟨(testing 2), ⟨2, 1⟩, by decide +kernel⟩,
   ⟨(testing 4), ⟨4, 1⟩, by decide +kernel⟩,
   ⟨full, by decide +kernel⟩⟩

/-- The hypotheses of SecurityOperations, clause by clause. -/
theorem hyps_SecurityOperations :
    (∃ (s : State) (path : Path), (s.takes path SEC.PAGE 0x100 = true) ∧ (s.rd SEC.RESULT.CODE ≠ 8) ∧ (s.mode.sec = .openS) ∧ (s.mode.dbg ≠ .intrusive) ∧ (s.mode.power ≠ .discharge) ∧ (s.rdB SEC.STS.KEYSTORE_OK = true) ∧ (s.secu.trans < 256) ∧ (s.secu.owners ≠ [] ∨ (s.secBytes 0x400 24).all (· == 0) = false) ∧ (s.nvsNoWrite = false)) ∧
    (∃ (s : State) (path : Path), (s.takes path SEC.PAGE 0x100 = true) ∧ (s.rd SEC.RESULT.CODE ≠ 8) ∧ (s.mode.sec ≠ .openS ∨ s.mode.dbg = .intrusive ∨ s.mode.power = .discharge ∨ s.rdB SEC.STS.KEYSTORE_OK = false)) ∧
    (∃ (s : State) (path : Path), (s.takes path SEC.PAGE 0x100 = true) ∧ (s.rd SEC.RESULT.CODE ≠ 8) ∧ (s.mode.sec = .sealed) ∧ (s.secu.sigLock = false) ∧ (s.secu.trans < 256) ∧ (s.nvsNoWrite = false) ∧ (s.signed (s.signedMsg (ascii "UNSEAL")) = true)) ∧
    (∃ (s : State) (path : Path), (s.takes path SEC.PAGE 0x100 = true) ∧ (s.rd SEC.RESULT.CODE ≠ 8) ∧ (s.mode.sec = .sealed) ∧ (s.secu.sigLock = false) ∧ (s.secu.trans < 256) ∧ (s.nvsNoWrite = false) ∧ (s.signed (s.signedMsg (ascii "UNSEAL")) = false)) ∧
    (∃ (s : State) (path : Path), (s.takes path SEC.PAGE 0x100 = true) ∧ (s.rd SEC.RESULT.CODE ≠ 8) ∧ (s.mode.sec = .sealed) ∧ (s.secu.sigLock = true)) ∧
    (∃ (s : State) (path : Path), (s.takes path SEC.PAGE 0x100 = true) ∧ (s.rd SEC.RESULT.CODE ≠ 8) ∧ (s.mode.sec = .quarantined) ∧ (s.rdB SEC.STS.KEYSTORE_OK = false) ∧ (s.secu.sigLock = false) ∧ (s.secu.trans < 256) ∧ (s.nvsNoWrite = false) ∧ (s.secu.owners = [] ∨ s.signed (s.signedMsg (ascii "RECOVER")) = true) ∧ (s.panelDown = false)) ∧
    (∃ (s : State) (path : Path), (s.takes path SEC.PAGE 0x100 = true) ∧ (s.rd SEC.RESULT.CODE ≠ 8) ∧ (s.mode.sec = .quarantined) ∧ (s.rdB SEC.STS.KEYSTORE_OK = false) ∧ (s.secu.sigLock = false) ∧ (s.secu.trans < 256) ∧ (s.nvsNoWrite = false) ∧ (s.secu.owners = []) ∧ (s.panelDown = true) ∧ (s.mode.power ≠ .discharge)) ∧
    (∃ (s : State) (path : Path), (s.takes path SEC.PAGE 0x100 = true) ∧ (s.rd SEC.RESULT.CODE ≠ 8) ∧ (s.mode.sec ≠ .quarantined ∨ s.rdB SEC.STS.KEYSTORE_OK = true)) ∧
    (∃ (s : State) (path : Path), (s.takes path SEC.PAGE 0x100 = true) ∧ (s.rd SEC.RESULT.CODE ≠ 8) ∧ (s.mode.sec = .sealed) ∧ (s.secu.sigLock = false) ∧ (s.secu.owners.length < 4) ∧ (s.signed (s.signedMsg (ascii "OWNER") ++ s.secBytes 0x400 24) = true)) ∧
    (∃ (s : State) (path : Path), (s.takes path SEC.PAGE 0x100 = true) ∧ (s.rd SEC.RESULT.CODE ≠ 8) ∧ (s.mode.sec = .sealed) ∧ (s.secu.sigLock = false) ∧ (s.secu.owners.length = 4)) ∧
    (∃ (s : State) (path : Path), (s.takes path SEC.PAGE 0x100 = true) ∧ (s.rd SEC.RESULT.CODE ≠ 8) ∧ (s.mode.sec = .openS) ∧ (s.rd SEC.KEY_BIND.SOURCE ≠ 0) ∧ (s.nvsNoWrite = false)) ∧
    (∃ (s : State) (path : Path) (readOk : Bool), (s.takes path SEC.PAGE 0x100 = true) ∧ (s.rd SEC.RESULT.CODE ≠ 8) ∧ (s.mode.sec = .openS) ∧ (s.rd SEC.KEY_BIND.SOURCE ≠ 0) ∧ (readOk = false ∨ s.nvsNoWrite = true)) ∧
    (∃ (s : State) (path : Path), (s.takes path SEC.PAGE 0x100 = true) ∧ (s.rd SEC.RESULT.CODE ≠ 8) ∧ (s.mode.sec ≠ .openS)) ∧
    (∃ (s : State) (path : Path), (s.takes path SEC.PAGE 0x100 = true) ∧ (s.rd SEC.RESULT.CODE ≠ 8) ∧ (s.mode.sec = .openS) ∧ (s.nvsNoWrite = false) ∧ (twf (fun _ => KeySlot.empty) s.secu.keys = true)) ∧
    (∃ (s : State) (path : Path), (s.takes path SEC.PAGE 0x100 = true) ∧ (s.rd SEC.RESULT.CODE ≠ 8) ∧ (s.mode.sec ≠ .quarantined) ∧ (s.rdB SEC.STS.FW_OK = true)) ∧
    (∃ (s : State) (path : Path), (s.takes path SEC.PAGE 0x100 = true) ∧ (s.rd SEC.RESULT.CODE ≠ 8) ∧ (s.mode.sec = .quarantined ∨ s.rdB SEC.STS.FW_OK = false)) ∧
    (∃ (s : State), (s.secu.lockAt + secWc 600 ≤ s.clk.now)) ∧
    (∃ (s : State), (s.clk.now < s.secu.lockAt + secWc 600)) :=
  ⟨⟨(secOn.setReg (regKey 0 SEC.PAGE 0x400) 7), .mgmt, by decide +kernel⟩,
   ⟨sealedOn, .mgmt, by decide +kernel⟩,
   ⟨(signedBy sigUnseal sealedOn), .mgmt, by decide +kernel⟩,
   ⟨(sealedOn.setSigs [1, 2, 3] false), .mgmt, by decide +kernel⟩,
   ⟨(sealedOn.setSigs [] true), .mgmt, by decide +kernel⟩,
   ⟨(quarOn.wrB PDV.RAIL_STS.UP true 1), .mgmt, by decide +kernel⟩,
   ⟨quarOn, .mgmt, by decide +kernel⟩,
   ⟨sealedOn, .mgmt, by decide +kernel⟩,
   ⟨(signedBy sigOwner sealedOn), .mgmt, by decide +kernel⟩,
   ⟨(sealedOn.modSecu (fun u => { u with owners := List.replicate 4 [] })), .mgmt, by decide +kernel⟩,
   ⟨((secOn.wr SEC.KEY_BIND.SOURCE 49).wr SEC.KEY_SEL.SLOT 1023), .mgmt, by decide +kernel⟩,
   ⟨(secOn.wr SEC.KEY_BIND.SOURCE 49), .mgmt, false, by decide +kernel⟩,
   ⟨sealedOn, .mgmt, by decide +kernel⟩,
   ⟨(secOn.setKeys [(0, ⟨true, 49, zeros 32⟩)]), .mgmt, by decide +kernel⟩,
   ⟨((sealedOn.wrB SEC.STS.FW_OK true).wr SEC.FW_STS.SVN 5), .mgmt, by decide +kernel⟩,
   ⟨secOn, .mgmt, by decide +kernel⟩,
   ⟨(on.modSecu (fun u => { u with sigLock := true }) |>.modClk (fun c => { c with now := 960000000000 })), by decide +kernel⟩,
   ⟨(on.setSigs [] true), by decide +kernel⟩⟩

/-- The hypotheses of TestAccessPort, clause by clause. -/
theorem hyps_TestAccessPort :
    (∃ (s : State), (s.mode.dbg = .intrusive) ∧ (s.anyRailsUp = false)) ∧
    (∃ (s : State), (s.mode.dbg ≠ .intrusive ∨ s.anyRailsUp = true)) ∧
    (∃ (s : State), (s.mode.dbg = .intrusive) ∧ (s.anyRailsUp = false)) ∧
    (∃ (s : State), (s.mode.dbg ≠ .intrusive ∨ s.anyRailsUp = true)) ∧
    (∃ (s : State), (s.mode.dbg = .intrusive) ∧ (s.anyRailsUp = false)) ∧
    (∃ (s : State), (s.mode.dbg ≠ .intrusive ∨ s.anyRailsUp = true)) ∧
    (∃ (s : State), (s.mode.dbg = .intrusive) ∧ (s.anyRailsUp = false)) ∧
    (∃ (s : State), (s.mode.dbg ≠ .intrusive ∨ s.anyRailsUp = true)) ∧
    (∃ (s : State), (s.mode.dbg = .intrusive) ∧ (s.anyRailsUp = false)) ∧
    (∃ (s : State), (s.mode.dbg ≠ .intrusive ∨ s.anyRailsUp = true)) ∧
    (∃ (s : State), (s.attached = true) ∧ (s.modulePends = false)) ∧
    (∃ (s : State) (addr : BitVec 24), (s.attached = false) ∧ (addr.toNat % 4 = 0) ∧ (pageRows (addr.toNat / 4096) ≠ none) ∧ (s.modulePends = false)) ∧
    (∃ (s : State), (s.mode.dbg = .intrusive) ∧ (s.rdB HDR.PG_CTL.LOCK 0 = false) ∧ (s.modulePends = false)) ∧
    (∃ (s : State) (addr : BitVec 24), (s.mode.dbg ≠ .intrusive) ∧ (addr.toNat % 4 = 0) ∧ (pageRows (addr.toNat / 4096) ≠ none) ∧ (s.modulePends = false)) ∧
    (∃ (s : State) (addr : BitVec 37), (s.attached = true) ∧ (addr.toNat < hbmSize) ∧ (s.mem.sealed = false)) ∧
    (∃ (s : State) (addr : BitVec 37), (s.attached = true) ∧ (addr.toNat < hbmSize) ∧ (s.mem.sealed = true)) ∧
    (∃ (s : State) (addr : BitVec 37), (s.attached = true) ∧ (hbmSize ≤ addr.toNat)) ∧
    (∃ (s : State), (s.attached = false)) ∧
    (∃ (s : State) (addr : BitVec 37), (s.mode.dbg = .intrusive) ∧ (addr.toNat < hbmSize) ∧ (s.mem.sealed = false)) ∧
    (∃ (s : State), (s.mode.dbg ≠ .intrusive)) ∧
    (∃ (s : State), (s.mode.dbg = .intrusive) ∧ (s.mode.power ≠ .discharge) ∧ (s.boot.halted = false)) ∧
    (∃ (s : State), (s.mode.dbg ≠ .intrusive)) ∧
    (∃ (s : State), (s.mode.dbg = .intrusive) ∧ (s.boot.halted = true)) ∧
    (∃ (s : State), (s.mode.dbg ≠ .intrusive)) :=
  ⟨⟨(probing .intrusive on), by decide +kernel⟩,
   ⟨(probing .intrusive full), by decide +kernel⟩,
   ⟨(probing .intrusive on), by decide +kernel⟩,
   ⟨(probing .intrusive full), by decide +kernel⟩,
   ⟨(probing .intrusive on), by decide +kernel⟩,
   ⟨(probing .intrusive full), by decide +kernel⟩,
   ⟨(probing .intrusive on), by decide +kernel⟩,
   ⟨(probing .intrusive full), by decide +kernel⟩,
   ⟨(probing .intrusive on), by decide +kernel⟩,
   ⟨(probing .intrusive full), by decide +kernel⟩,
   ⟨(probing .observe on), by decide +kernel⟩,
   ⟨on, 0x00012C, by decide +kernel⟩,
   ⟨(probing .intrusive on), by decide +kernel⟩,
   ⟨(probing .observe on), 0x00012C, by decide +kernel⟩,
   ⟨(probing .observe on), 0x17FFFFFFFF, by decide +kernel⟩,
   ⟨(probing .observe shuttered |>.modMem (fun m => { m with sealed := true })), 5, by decide +kernel⟩,
   ⟨(probing .observe on), 0x1800000000, by decide +kernel⟩,
   ⟨on, by decide +kernel⟩,
   ⟨(probing .intrusive on), 0x17FFFFFFFF, by decide +kernel⟩,
   ⟨(probing .observe on), by decide +kernel⟩,
   ⟨(probing .intrusive on), by decide +kernel⟩,
   ⟨(probing .observe on), by decide +kernel⟩,
   ⟨(probing .intrusive on |>.modBoot (fun b => { b with halted := true })), by decide +kernel⟩,
   ⟨(probing .observe on), by decide +kernel⟩⟩

/-- The hypotheses of DebugAttachment, clause by clause. -/
theorem hyps_DebugAttachment :
    (∃ (s : State), (s.mode.supply ≠ .off) ∧ (s.mode.dbg = .detached) ∧ (s.mode.power ≠ .discharge)) ∧
    (∃ (s : State), (s.mode.supply ≠ .off) ∧ (s.mode.dbg = .detached) ∧ (s.mode.power = .discharge)) ∧
    (∃ (s : State), (s.mode.dbg ≠ .intrusive)) ∧
    (∃ (s : State), (s.mode.dbg = .intrusive) ∧ (s.isStandby = false)) ∧
    (∃ (s : State), (s.mode.dbg = .intrusive) ∧ (s.role = 4)) ∧
    (∃ (s : State), (s.mode.dbg = .intrusive) ∧ (s.isStandby = false)) ∧
    (∃ (s : State), (s.mode.dbg = .observe)) ∧
    (∃ (s : State), (s.mode.dbg = .observe) ∧ (s.rdB SEC.STS.INT_PEND = false) ∧ (s.mode.sec ≠ .openS) ∧ (s.mode.power ≠ .shutter)) ∧
    (∃ (s : State), (s.mode.dbg = .observe) ∧ (s.rdB SEC.STS.INT_PEND = false) ∧ (s.mode.power = .shutter) ∧ (s.rd SCN.SHUT_STS.STATE = 4)) ∧
    (∃ (s : State), (s.attached = false)) ∧
    (∃ (s : State), (s.rdB SEC.STS.INT_PEND = true) ∧ (s.rdB SYS.PWR_STS.HOLD_RDY = true) ∧ (s.mode.power ≠ .discharge) ∧ (s.mode.power ≠ .shutter) ∧ (s.leaf.tau = none) ∧ (¬(s.role = 2 ∧ s.leaf.demoteCause ≠ 0 ∧ s.rd LEF.STS.PARTNER_ROLE = 4)) ∧ (s.role ≠ 4)) ∧
    (∃ (s : State), (s.rdB SEC.STS.INT_PEND = false ∨ s.rdB SYS.PWR_STS.HOLD_RDY = false ∨ s.mode.power = .discharge ∨ s.mode.power = .shutter ∨ s.leaf.tau ≠ none ∨ (s.role = 2 ∧ s.leaf.demoteCause ≠ 0 ∧ s.rd LEF.STS.PARTNER_ROLE = 4))) :=
  ⟨⟨on, by decide +kernel⟩,
   ⟨(on.setPower .discharge), by decide +kernel⟩,
   ⟨(probing .observe on), by decide +kernel⟩,
   ⟨(probing .intrusive on |>.modBoot (fun b => { b with halted := true })), by decide +kernel⟩,
   ⟨(probing .intrusive (full.wr LEF.STS.ROLE 4)), by decide +kernel⟩,
   ⟨(probing .intrusive full), by decide +kernel⟩,
   ⟨(probing .observe full |>.wrB SEC.STS.INT_PEND true), by decide +kernel⟩,
   ⟨(probing .observe activeLeaf |>.modMode (fun m => { m with sec := .sealed })), by decide +kernel⟩,
   ⟨(probing .observe shuttered), by decide +kernel⟩,
   ⟨full, by decide +kernel⟩,
   ⟨(probing .observe full |>.wrB SEC.STS.INT_PEND true), by decide +kernel⟩,
   ⟨(probing .observe on |>.wrB SEC.STS.INT_PEND true), by decide +kernel⟩⟩

/-- The hypotheses of Resets, clause by clause. -/
theorem hyps_Resets :
    (∃ (s : State) (path : Path), (s.takes path 0x000 0x168 = true) ∧ (s.mode.raster ≠ .weaver) ∧ (s.boot.warm = false) ∧ (s.boot.modReset = false) ∧ (s.boot.starting = false) ∧ (s.mode.power ≠ .discharge) ∧ (s.mode.power ≠ .thermalStop)) ∧
    (∃ (s : State) (path : Path), (s.takes path 0x000 0x168 = true) ∧ (s.mode.raster = .weaver) ∧ (s.boot.warm = false) ∧ (s.boot.modReset = false) ∧ (s.boot.starting = false) ∧ (s.mode.power ≠ .discharge) ∧ (s.mode.power ≠ .thermalStop)) ∧
    (∃ (s : State) (path : Path), (s.takes path 0x000 0x168 = true) ∧ (s.boot.warm = true ∨ s.boot.modReset = true ∨ s.boot.starting = true ∨ s.mode.power = .discharge ∨ s.mode.power = .thermalStop)) ∧
    (∃ (s : State) (path : Path), (s.takes path 0x000 0x168 = true) ∧ (s.mode.power ≠ .discharge) ∧ (s.modulePends = false) ∧ (s.panelDown = false)) ∧
    (∃ (s : State) (path : Path), (s.takes path 0x000 0x168 = true) ∧ (s.mode.power ≠ .discharge) ∧ (s.panelDown = true)) ∧
    (∃ (s : State) (path : Path), (s.takes path 0x000 0x168 = true) ∧ (s.mode.power = .discharge)) ∧
    (∃ (s : State), (s.rdB SIL.CPU_STS.FW = true) ∧ (s.boot.halted = false) ∧ (3200000000 ≤ s.clk.now - s.boot.wdgMs)) ∧
    (∃ (s : State), (s.rdB SIL.CPU_STS.FW = false ∨ s.boot.halted = true ∨ s.clk.now - s.boot.wdgMs < 3200000000)) ∧
    (∃ (s : State), (s.takes .firmware SIL.PAGE 0x104 = true)) ∧
    (∃ (s : State) (path : Path) (v : BitVec 32), (s.takes path SIL.PAGE 0x104 = true) ∧ (path ≠ .firmware ∨ v ≠ 0xA5C3)) :=
  ⟨⟨(sillEnd.wrB HDR.PG_CTL.LOCK true 0x071), .mgmt, by decide +kernel⟩,
   ⟨full, .mgmt, by decide +kernel⟩,
   ⟨(stage 0x40), .mgmt, by decide +kernel⟩,
   ⟨full, .mgmt, by decide +kernel⟩,
   ⟨(sillRuns 0x60), .mgmt, by decide +kernel⟩,
   ⟨(on.setPower .discharge), .mgmt, by decide +kernel⟩,
   ⟨(full.wrB SIL.CPU_STS.FW true |>.modClk (fun c => { c with now := 3200000000 })), by decide +kernel⟩,
   ⟨(full.wrB SIL.CPU_STS.FW true), by decide +kernel⟩,
   ⟨full, by decide +kernel⟩,
   ⟨full, .mgmt, 0xA5C3, by decide +kernel⟩⟩

/-- The hypotheses of RegisterAccess, clause by clause. -/
theorem hyps_RegisterAccess :
    (∃ (s : State) (path : Path), (s.takes path 0 0x12C = true)) ∧
    (∃ (s : State) (path : Path) (addr : BitVec 24), (addr.toNat % 4 ≠ 0) ∧ (s.pathOpen path = true) ∧ (s.modulePends = false)) ∧
    (∃ (s : State) (path : Path) (addr : BitVec 24), (addr.toNat % 4 = 0) ∧ (pageRows (addr.toNat / 4096) ≠ none) ∧ (s.pathServed path true = false) ∧ (s.pathOpen path = true) ∧ (s.modulePends = false)) ∧
    (∃ (s : State) (path : Path), (s.rdB HDR.PG_CTL.LOCK 0 = true) ∧ (s.pathServed path true = true) ∧ (s.pathOpen path = true) ∧ (s.modulePends = false)) ∧
    (∃ (s : State) (path : Path) (page : Nat) (off : Nat) (r : RegRow), (s.shows path = true) ∧ (page < 4096) ∧ (off % 4 = 0) ∧ (off < 0x800) ∧ (rowOf page off = some r) ∧ (r.acc = .rc) ∧ (s.computed path page off = none) ∧ (roPairs.all (fun q => q.1 != page || (q.2.1 != off && q.2.2 != off)) = true)) :=
  ⟨⟨on, .mgmt, by decide +kernel⟩,
   ⟨on, .fabric, 0xFFFFFF, by decide +kernel⟩,
   ⟨on, .jtag, 0x00012C, by decide +kernel⟩,
   ⟨(on.wrB HDR.PG_CTL.LOCK true 0), .transom, by decide +kernel⟩,
   ⟨(on.wr HDR.PG_ERR_CNT.COUNT 5 0x071), .fabric, 0x071, 0x01C, ⟨0x01C, 1, .rc, false, 0x0, 0xFFFF⟩, by decide +kernel⟩⟩

/-- The hypotheses of HeadersAndRings, clause by clause. -/
theorem hyps_HeadersAndRings :
    (∃ (s : State) (path : Path) (p : BitVec 12), (s.takes path p.toNat 0x008 = true)) ∧
    (∃ (s : State) (path : Path) (p : BitVec 12) (v : BitVec 32), (s.takes path p.toNat 0x008 = true) ∧ (s.softRefused p.toNat = false) ∧ (bit v.toNat 2 = false)) ∧
    (∃ (s : State) (path : Path) (p : BitVec 12), (s.takes path p.toNat 0x008 = true) ∧ (s.softRefused p.toNat = true)) ∧
    (∃ (s : State) (path : Path) (p : BitVec 12), (s.takes path p.toNat 0x010 = true)) ∧
    (∃ (s : State) (path : Path) (p : BitVec 12), (s.takes path p.toNat 0x018 = true) ∧ (p.toNat ≠ 0x070) ∧ (p.toNat ≠ 0x071)) ∧
    (∃ (s : State) (path : Path) (p : BitVec 12), (s.mode.sec ≠ .openS) ∧ (pageRows p.toNat ≠ none) ∧ (s.pathOpen path = true) ∧ (s.pathServed path true = true) ∧ (s.modulePends = false)) ∧
    (∃ (s : State) (path : Path) (p : BitVec 12) (b : Nat), (s.takes path p.toNat 0x018 = true) ∧ (p.toNat ≠ 0x070) ∧ (p.toNat ≠ 0x071) ∧ (b < 32) ∧ (bit (pageEvents p.toNat) b = true) ∧ (s.rdB HDR.PG_CTL.ENA p.toNat = true) ∧ (bit (s.rd HDR.PG_EVT_EN p.toNat) b = true) ∧ (s.rd EVT.BASE.OFS 0 = 0x03FE0000) ∧ (s.rd EVT.BASE.OFS 1 = 0x03FF0000)) ∧
    (∃ (s : State) (path : Path) (r : Fin 2) (v : BitVec 32), (s.takes path (0x070 + r.val) 0x108 = true) ∧ (r = 0 → path = .firmware) ∧ ((v.toNat % 4096 + 4096 - s.rd EVT.TAIL.INDEX r) % 4096 ≤ s.evFill r) ∧ (s.rdB EVT.STS.OVF r = false)) ∧
    (∃ (s : State) (path : Path) (r : Fin 2) (v : BitVec 32), (s.takes path (0x070 + r.val) 0x108 = true) ∧ (r = 0 → path = .firmware) ∧ ((v.toNat % 4096 + 4096 - s.rd EVT.TAIL.INDEX r) % 4096 ≤ s.evFill r) ∧ (v.toNat % 4096 ≠ s.rd EVT.TAIL.INDEX r) ∧ (s.rdB EVT.STS.OVF r = true)) ∧
    (∃ (s : State) (path : Path) (r : Fin 2) (v : BitVec 32), (s.takes path (0x070 + r.val) 0x108 = true) ∧ ((r = 0 ∧ path ≠ .firmware) ∨ s.evFill r < (v.toNat % 4096 + 4096 - s.rd EVT.TAIL.INDEX r) % 4096)) :=
  ⟨⟨on, .mgmt, 0x237, by decide +kernel⟩,
   ⟨on, .mgmt, 0x010, 0, by decide +kernel⟩,
   ⟨full, .fabric, 0x020, by decide +kernel⟩,
   ⟨(on.wr HDR.PG_EVT 0xFF 0x042), .fabric, 0x042, by decide +kernel⟩,
   ⟨on, .mgmt, 0x050, by decide +kernel⟩,
   ⟨sealedS, .mgmt, 0x050, by decide +kernel⟩,
   ⟨(on.wr EVT.HEAD.INDEX 4095 1), .mgmt, 0x050, 4, by decide +kernel⟩,
   ⟨(on.wr EVT.HEAD.INDEX 9 1), .mgmt, 1, 9, by decide +kernel⟩,
   ⟨((on.wr EVT.HEAD.INDEX 4095 1).wrB EVT.STS.OVF true 1), .mgmt, 1, 4095, by decide +kernel⟩,
   ⟨(on.wr EVT.HEAD.INDEX 9 1), .mgmt, 1, 10, by decide +kernel⟩⟩

/-- The hypotheses of WindowsAndFrames, clause by clause. -/
theorem hyps_WindowsAndFrames :
    (∃ (s : State) (path : Path) (p : BitVec 12) (k : Fin 512), (s.shows path = true) ∧ (0x100 ≤ p.toNat) ∧ (p.toNat < 0x180) ∧ (s.winAddr p.toNat (0x800 + 4 * k.val) < hbmSize) ∧ (s.firstBad (s.winAddr p.toNat (0x800 + 4 * k.val)) 4 = none)) ∧
    (∃ (s : State) (path : Path) (p : BitVec 12) (k : Fin 512), (s.shows path = true) ∧ (0x100 ≤ p.toNat) ∧ (p.toNat < 0x180) ∧ (hbmSize ≤ s.winAddr p.toNat (0x800 + 4 * k.val))) ∧
    (∃ (s : State) (path : Path) (p : BitVec 12) (k : Fin 512), (s.shows path = true) ∧ (0x100 ≤ p.toNat) ∧ (p.toNat < 0x180) ∧ (s.winAddr p.toNat (0x800 + 4 * k.val) < hbmSize) ∧ (s.firstBad (s.winAddr p.toNat (0x800 + 4 * k.val)) 4 ≠ none)) ∧
    (∃ (s : State) (path : Path) (p : BitVec 12), (s.shows path = true) ∧ (0x200 ≤ p.toNat) ∧ (p.toNat < 0x238)) ∧
    (∃ (s : State) (path : Path) (p : BitVec 12) (k : Fin 512), (s.takes path p.toNat (0x800 + 4 * k.val) = true) ∧ (0x100 ≤ p.toNat) ∧ (p.toNat < 0x180) ∧ (s.winAddr p.toNat (0x800 + 4 * k.val) < hbmSize)) ∧
    (∃ (s : State) (path : Path) (p : BitVec 12) (k : Fin 512), (s.takes path p.toNat (0x800 + 4 * k.val) = true) ∧ (0x100 ≤ p.toNat) ∧ (p.toNat < 0x180) ∧ (hbmSize ≤ s.winAddr p.toNat (0x800 + 4 * k.val))) ∧
    (∃ (s : State) (path : Path) (p : BitVec 12) (k : Fin 512), (s.takes path p.toNat (0x800 + 4 * k.val) = true) ∧ (0x200 ≤ p.toNat) ∧ (p.toNat < 0x238) ∧ (s.mode.sec = .openS) ∧ (s.mode.power = .sill)) ∧
    (∃ (s : State) (path : Path) (p : BitVec 12) (k : Fin 512), (s.takes path p.toNat (0x800 + 4 * k.val) = true) ∧ (0x200 ≤ p.toNat) ∧ (p.toNat < 0x238) ∧ (s.mode.sec ≠ .openS ∨ s.mode.power ≠ .sill)) ∧
    (∃ (s : State) (via : FramePath) (src : BitVec 144) (fr : List Byte), (s.pathOpen via.path = true) ∧ (s.takes via.path 0 0x12C = true) ∧ (frameOk fr = true) ∧ (beAt fr 3 1 = 1) ∧ (slice fr 16 4 = [0x02, 0x00, 0x01, 0x2C]) ∧ ((s.cached (via.path.num * 2 ^ 144 + src.toNat)).filter (fun c => c.seq == beAt fr 4 4) = none)) ∧
    (∃ (s : State) (via : FramePath) (src : BitVec 144) (fr : List Byte) (c : CacheLine), (s.pathOpen via.path = true) ∧ (frameOk fr = true) ∧ (s.cached (via.path.num * 2 ^ 144 + src.toNat) = some c) ∧ (c.seq = beAt fr 4 4)) ∧
    (∃ (s : State) (via : FramePath) (fr : List Byte), (s.pathOpen via.path = true) ∧ (frameOk fr = false)) ∧
    (∃ (s : State), (s.rdB SYS.RAP_CFG.FLEX = false)) :=
  ⟨⟨on, .fabric, 0x17F, 511, by decide +kernel⟩,
   ⟨(on.setReg (regKey 0 0x100 0x104) 24), .mgmt, 0x100, 0, by decide +kernel⟩,
   ⟨(on.spoil 0), .mgmt, 0x100, 0, by decide +kernel⟩,
   ⟨on, .fabric, 0x237, by decide +kernel⟩,
   ⟨on, .mgmt, 0x17F, 511, by decide +kernel⟩,
   ⟨(on.setReg (regKey 0 0x100 0x104) 24), .mgmt, 0x100, 0, by decide +kernel⟩,
   ⟨on, .mgmt, 0x237, 511, by decide +kernel⟩,
   ⟨full, .mgmt, 0x200, 0, by decide +kernel⟩,
   ⟨on, .fabric, 0x1234, frame1, by decide +kernel⟩,
   ⟨(on.remember ⟨FramePath.mgmt.path.num * 2 ^ 144 + 9, 0x2A, [1, 2]⟩), .mgmt, 9, frame1, ⟨FramePath.mgmt.path.num * 2 ^ 144 + 9, 0x2A, [1, 2]⟩, by decide +kernel⟩,
   ⟨on, .mgmt, frame1.dropLast, by decide +kernel⟩,
   ⟨on, by decide +kernel⟩⟩

/-- The hypotheses of UnmappedPages, clause by clause. -/
theorem hyps_UnmappedPages :
    (∃ (s : State) (path : Path) (addr : BitVec 24), (addr.toNat % 4 = 0) ∧ (pageRows (addr.toNat / 4096) = none) ∧ (s.pathOpen path = true) ∧ (s.modulePends = false)) ∧
    (∃ (s : State) (path : Path) (addr : BitVec 24), (addr.toNat % 4 = 0) ∧ (pageRows (addr.toNat / 4096) = none) ∧ (s.pathOpen path = true) ∧ (s.modulePends = false)) ∧
    (∃ (s : State) (path : Path), (s.shows path = true)) :=
  ⟨⟨full, .fabric, 0x0FF000, by decide +kernel⟩,
   ⟨sealedS, .jtag, 0x238FFC, by decide +kernel⟩,
   ⟨full, .mgmt, by decide +kernel⟩⟩

end Sys2Proof.Tests
end

namespace Sys2Proof.Machine

-- The memory limit of the check bounds the threads that wait for a lemma above: the proofs are elaborated one after another.
set_option Elab.async false

/-! SUPPORT. The register pages that an operation can change. The clauses about a frame start name single registers at the end of a
long chain of operations; `State.onPages` bounds each operation of the chain by the pages it writes, so that a register of any
other page reads through the chain unchanged. -/

section

/-- The register with key `k` belongs to a page and is no counter that every page's log records and event flags share: neither
PG_ERR_CNT nor PG_ERR_FIRST (R489), and on no page of the log or of an event ring (R477, R481). -/
def unshared (k : Nat) : Prop :=
  k % 4096 ≠ 0x01C ∧ k % 4096 ≠ 0x020 ∧ k / 4096 % 4096 ∉ [NVS.PAGE, EVT.PAGE, EVT.PAGE + 1]

/-- Every unshared register outside the pages `ps` is in `t` as in `s`. -/
def State.onPages (s t : State) (ps : List Nat) : Prop :=
  ∀ k, unshared k → k / 4096 % 4096 ∉ ps → t.reg k = s.reg k

/-- The page in a register's key. -/
theorem Fld.key_page {f : Fld} {i x : Nat} (hp : f.page + i < 4096) (ho : f.off < 4096) :
    f.key i x / 4096 % 4096 = f.page + i := by
  unfold Fld.key regKey
  omega

namespace State.onPages

variable {s t u : State} {ps qs : List Nat}

theorem refl : s.onPages s ps := fun _ _ _ => rfl

/-- A further change on some of the pages. -/
theorem next (h : s.onPages t ps) (k : t.onPages u qs) (hq : ∀ p ∈ qs, p ∈ ps := by decide) : s.onPages u ps :=
  fun r hr hp => (k r hr (fun hm => hp (hq _ hm))).trans (h r hr hp)

theorem regs (h : s.onPages t ps) (e : u.regs = t.regs) : s.onPages u ps :=
  h.next (qs := []) (fun k _ _ => by unfold State.reg; rw [e]) (by simp)

/-- A further change whose frame leaves the registers alone. -/
theorem frame {m : Nat} (h : s.onPages t ps) (k : Fr m t u) (hm : m.testBit Area.regs.ctorIdx = false := by decide) :
    s.onPages u ps := h.regs (k.1 .regs hm)

theorem ite {c : Prop} [Decidable c] (ht : s.onPages t ps) (hu : s.onPages u ps) : s.onPages (if c then t else u) ps := by
  split <;> assumption

theorem each {α : Type} {f : State → α → State} {xs : List α} (h : s.onPages t ps) (hf : ∀ (u : State) x, u.onPages (f u x) ps) :
    s.onPages (t.each xs f) ps := by
  unfold State.each
  induction xs generalizing t with
  | nil => exact h
  | cons x xs ih => exact ih (h.next (hf t x) (fun _ hp => hp))

theorem setReg {k : Nat} {v : BitVec 32} (h : s.onPages t ps) (hk : k / 4096 % 4096 ∈ ps) : s.onPages (t.setReg k v) ps :=
  fun r hr hp => by
    rw [State.setReg_reg, if_neg (fun e : r = k => hp (e ▸ hk))]
    exact h r hr hp

theorem wr {f : Fld} {v i x : Nat} (h : s.onPages t ps) (hp : f.page + i ∈ ps := by decide) (hl : f.page + i < 4096 := by decide)
    (ho : f.off < 4096 := by decide) : s.onPages (t.wr f v i x) ps := h.setReg (Fld.key_page hl ho ▸ hp)

theorem wrB {f : Fld} {v : Bool} {i x : Nat} (h : s.onPages t ps) (hp : f.page + i ∈ ps := by decide)
    (hl : f.page + i < 4096 := by decide) (ho : f.off < 4096 := by decide) : s.onPages (t.wrB f v i x) ps := h.wr hp hl ho

theorem wrI {f : Fld} {v : Int} {i x : Nat} (h : s.onPages t ps) (hp : f.page + i ∈ ps := by decide)
    (hl : f.page + i < 4096 := by decide) (ho : f.off < 4096 := by decide) : s.onPages (t.wrI f v i x) ps := h.wr hp hl ho

theorem bump {f : Fld} {n i x : Nat} (h : s.onPages t ps) (hp : f.page + i ∈ ps := by decide)
    (hl : f.page + i < 4096 := by decide) (ho : f.off < 4096 := by decide) : s.onPages (t.bump f n i x) ps := h.wr hp hl ho

/-- A change of listed registers, each shared or on one of the pages. -/
theorem keepsRegs {ks : List Nat} (h : s.onPages t ps) (k : t.keepsRegs u ks)
    (hk : ∀ r ∈ ks, unshared r → r / 4096 % 4096 ∈ ps) : s.onPages u ps :=
  fun r hr hp => (k r (fun hm => hp (hk r hm hr))).trans (h r hr hp)

end State.onPages

theorem ringKeys_shared : ∀ k ∈ ringKeys, k / 4096 % 4096 ∈ [NVS.PAGE, EVT.PAGE, EVT.PAGE + 1] := by decide

/-- The registers that an event flag of a page changes lie on that page or are shared. -/
theorem eventKeys_page {p k : Nat} (hp : p < 4096) (hk : k ∈ eventKeys p) (hu : unshared k) : k / 4096 % 4096 = p := by
  rcases List.mem_append.1 hk with h | h
  · simp only [List.mem_cons, List.not_mem_nil, or_false] at h
    rcases h with rfl | rfl
    · rw [Fld.key_page (by simpa [HDR.PG_EVT] using hp) (by decide)]
      exact Nat.zero_add p
    · rw [Fld.key_page (by simpa [HDR.PG_BEAM_AT.WC] using hp) (by decide)]
      exact Nat.zero_add p
  · exact absurd (ringKeys_shared k h) hu.2.2

/-- The registers that a log record changes are shared. -/
theorem logKeys_shared {p k : Nat} (hk : k ∈ logKeys p) : ¬ unshared k := by
  rintro ⟨h1, h2, h3⟩
  have ho (f : Fld) (h : f.off < 4096) : f.key p 0 % 4096 = f.off := by unfold Fld.key regKey; omega
  rcases List.mem_append.1 hk with h | h
  · simp only [List.mem_cons, List.not_mem_nil, or_false] at h
    rcases h with rfl | rfl | rfl | rfl | rfl | rfl
    · exact h3 (by decide)
    · exact h3 (by decide)
    · exact h1 (ho _ (by decide))
    · exact h2 (ho _ (by decide))
    · exact h3 (by decide)
    · exact h3 (by decide)
  · have hn : k / 4096 % 4096 = NVS.PAGE := eventKeys_page (by decide) h ⟨h1, h2, h3⟩
    exact h3 (by rw [hn]; decide)

namespace State.onPages

variable {s t : State} {ps : List Nat}

theorem event {p b : Nat} (h : s.onPages t ps) (hp : p ∈ ps := by decide) (hl : p < 4096 := by decide) :
    s.onPages (t.event p b) ps :=
  h.keepsRegs (State.keepsRegs_refl.event (fun _ hk => hk)) (fun _ hk hu => (eventKeys_page hl hk hu).symm ▸ hp)

/-- A log record changes shared registers alone. -/
theorem logc {p c a b : Nat} (h : s.onPages t ps) : s.onPages (t.logc p c a b) ps :=
  h.keepsRegs (State.keepsRegs_refl.logc (fun _ hk => hk)) (fun _ hk hu => absurd hu (logKeys_shared hk))

/-- A register field outside the pages reads as before. -/
theorem rd {f : Fld} {i x : Nat} (h : s.onPages t ps) (hp : f.page + i ∉ NVS.PAGE :: EVT.PAGE :: (EVT.PAGE + 1) :: ps := by decide)
    (hl : f.page + i < 4096 := by decide) (ho : f.off < 4096 ∧ f.off ≠ 0x01C ∧ f.off ≠ 0x020 := by decide) :
    t.rd f i x = s.rd f i x := by
  have hk := Fld.key_page (x := x) hl ho.1
  have hm : f.key i x % 4096 = f.off := by unfold Fld.key regKey; omega
  simp only [List.mem_cons, not_or] at hp
  unfold State.rd
  rw [h (f.key i x) ⟨hm ▸ ho.2.1, hm ▸ ho.2.2, by simp [hk, hp]⟩ (hk.symm ▸ hp.2.2.2)]

/-- An event flag of a page outside `ps` stands as before. -/
theorem flag {p b : Nat} (h : s.onPages t ps) (hp : p ∉ NVS.PAGE :: EVT.PAGE :: (EVT.PAGE + 1) :: ps := by decide)
    (hl : p < 4096 := by decide) (hf : s.flag p b) : t.flag p b := by
  unfold State.flag
  rw [h.rd (by simpa [HDR.PG_EVT] using hp) (by simpa [HDR.PG_EVT] using hl)]
  exact hf

end State.onPages

end

section

variable {s : State}

/-! ### The clock, the memory drain and the fast pass -/

/-- The clock running on counts withdrawn entries, and else writes shared registers alone. -/
theorem State.run_onPages {n : Nat} : s.onPages (s.run n) [FRS.PAGE] := by
  refine State.onPages.refl.keepsRegs State.run_keepsRegs (fun r hr hu => ?_)
  unfold State.runKeys at hr
  rcases List.mem_cons.1 hr with rfl | hc
  · decide
  · obtain ⟨c, -, rfl⟩ := List.mem_map.1 hc
    exact absurd (by unfold Fld.key regKey HDR.PG_ERR_FIRST.CODE; dsimp only; omega) hu.2.1

theorem State.resample_onPages : s.onPages s.resample [FRS.PAGE] := by
  unfold State.resample
  refine State.onPages.refl.each (fun u h => ?_)
  dsimp only
  split
  · exact .refl
  · exact ((State.onPages.refl.frame State.modFrs_fr).wr).wr

theorem State.tileFault_onPages {a : Nat} : s.onPages (s.tileFault a) [FRS.PAGE] := by
  unfold State.tileFault
  dsimp only
  split
  · exact .refl
  · split
    · exact .ite ((State.onPages.refl.frame State.putEntry_fr).next State.resample_onPages) .refl
    · exact .refl

theorem State.errAddr_onPages {a : Nat} {c : MemClass} : s.onPages (s.errAddr a c) [DMC.PAGE] :=
  ((State.onPages.refl.wr).wr).wr

/-- An uncorrectable burst is counted and recorded by the memory unit, and its tile's verdict sample is taken again (R280, R281). -/
theorem State.uncorrectable_onPages {a : Nat} {c : MemClass} : s.onPages (s.uncorrectable a c) [DMC.PAGE, FRS.PAGE] := by
  have h : s.onPages (((((s.spoil (a / 32)).bump DMC.ECC_UNC).errAddr a c).tileFault a)) [DMC.PAGE, FRS.PAGE] :=
    (((State.onPages.refl.frame State.spoil_fr).bump).next State.errAddr_onPages).next State.tileFault_onPages
  unfold State.uncorrectable State.memRecord
  dsimp only
  split
  · exact h
  · exact ((h.frame State.modMem_fr).event).logc

theorem State.corrected_onPages {a : Nat} : s.onPages (s.corrected a) [DMC.PAGE] := by
  unfold State.corrected
  exact (State.onPages.refl.bump).frame State.modMem_fr

theorem State.rtGrant_onPages {pc : Nat} {r : MemReq} : s.onPages (s.rtGrant pc r) [DMC.PAGE] := by
  unfold State.rtGrant
  refine ((State.onPages.refl.frame State.modMem_fr).each (fun u b => ?_)).bump
  exact (State.onPages.refl.frame State.act_fr).frame State.modMem_fr

theorem State.rtDone_onPages {pc burst : Nat} {r : MemReq} {res : EccRes} :
    s.onPages (s.rtDone pc r burst res) [DMC.PAGE, FRS.PAGE] := by
  unfold State.rtDone
  dsimp only
  split
  · exact (State.onPages.refl.frame State.modMem_fr).frame State.hbmWr_fr
  · refine (State.onPages.frame (.ite ?_ ?_) State.modMem_fr).each (fun u k => State.uncorrectable_onPages)
    · exact (State.onPages.refl.frame State.modMem_fr).next State.corrected_onPages
    · exact State.onPages.refl.frame State.modMem_fr

theorem State.serve_onPages {r : MemReq} {burst : Nat} {res : EccRes} : s.onPages (s.serve r burst res) [DMC.PAGE] := by
  have h : s.onPages ((s.openFor r).modMem (fun m => { m with q := m.q.erase r })) [DMC.PAGE] :=
    (State.onPages.refl.frame State.openFor_fr).frame State.modMem_fr
  unfold State.serve
  dsimp only
  split
  · exact h.frame State.hbmWr_fr
  · split
    · exact h.frame State.modMem_fr
    · exact (h.next State.corrected_onPages).frame State.modMem_fr
    · exact h.frame State.modMem_fr

theorem State.retryDone_onPages {r : MemReq} {burst : Nat} {res : EccRes} :
    s.onPages (s.retryDone r burst res) [DMC.PAGE, FRS.PAGE] := by
  have h : s.onPages (s.modMem (fun m => { m with retry := m.retry.erase r })) [DMC.PAGE, FRS.PAGE] :=
    State.onPages.refl.frame State.modMem_fr
  unfold State.retryDone
  dsimp only
  split
  · exact (h.next State.uncorrectable_onPages).frame State.modMem_fr
  · exact (h.next State.corrected_onPages).frame State.modMem_fr

/-- The drain of the memory queues before self-refresh (R286). -/
theorem State.memDrain_onPages : s.onPages s.memDrain [DMC.PAGE, FRS.PAGE] := by
  unfold State.memDrain
  refine (((State.onPages.refl.each ?_).each ?_).each ?_).each ?_
  · exact fun u _ => State.onPages.refl.next State.rtGrant_onPages
  · exact fun u _ => State.rtDone_onPages
  · exact fun u _ => State.onPages.refl.next State.serve_onPages
  · exact fun u _ => State.retryDone_onPages

theorem State.seal_onPages : s.onPages s.seal [DMC.PAGE, FRS.PAGE] :=
  ((State.memDrain_onPages.frame State.modMem_fr).wr).event

theorem State.srLeave_onPages : s.onPages s.srLeave [DMC.PAGE, FRS.PAGE] := by
  have h : s.onPages (if s.rd DMC.SR_STS.STATE = 1 then s.seal else s) [DMC.PAGE, FRS.PAGE] := .ite State.seal_onPages .refl
  unfold State.srLeave
  exact .ite .refl (.ite h.wr h)

theorem State.startFastPass_onPages : s.onPages s.startFastPass [FRS.PAGE] := by
  unfold State.startFastPass State.wrapEnd
  have h : s.onPages (s.modFrs (fun r => { r with wrapPos := 0, wrapHit := false })) [FRS.PAGE] :=
    State.onPages.refl.frame State.modFrs_fr
  exact State.onPages.frame (.ite h.logc h) State.modFrs_fr

/-! ### Blanking -/

theorem State.shutAbort_onPages {why : Nat} {keep : Bool} : s.onPages (s.shutAbort why keep) [SCN.PAGE] := by
  have h : s.onPages (((s.queueAll 5 0).wr SCN.SHUT_STS.STATE (b2n keep)).wr SCN.SHUT_STS.WHY why) [SCN.PAGE] :=
    ((State.onPages.refl.frame State.queueAll_fr).wr).wr
  unfold State.shutAbort
  exact (State.onPages.event (.ite h h.wrB)).logc

/-- The Shutter's part of the blanking writes its own page (R212, R216). -/
theorem State.shutterCheck_onPages : s.onPages s.shutterCheck [SCN.PAGE] := by
  unfold State.shutterCheck
  dsimp only
  refine .ite ?_ (.ite (.ite .refl State.shutAbort_onPages) (.ite (.ite .refl (.ite ?_ ?_)) .refl))
  · split
    · exact .ite (State.onPages.refl.frame State.queueAll_fr) .refl
    · exact .refl
  · exact (((State.onPages.refl.wr).wr).frame State.queueAll_fr).frame State.modScan_fr
  · have h : s.onPages ((s.wr SCN.SHUT_STS.STATE 1).wr SCN.SHUT_STS.WHY (s.shutWhy s.captureFrame)) [SCN.PAGE] :=
      (State.onPages.refl.wr).wr
    exact .ite h (h.frame State.modScan_fr).logc

theorem State.laneTrim_onPages {n : Nat} : s.onPages (s.laneTrim n) [LAN.PAGE] := by
  unfold State.laneTrim
  have h : s.onPages (s.takeFree 8).2 [LAN.PAGE] := State.onPages.refl.frame State.takeFree_fr
  exact .ite h (.ite h.logc (.ite h.wr (h.frame State.modLan_fr)))

theorem State.laneTrims_onPages : s.onPages s.laneTrims [LAN.PAGE] := by
  unfold State.laneTrims
  exact .ite (State.onPages.refl.each (fun u n => State.laneTrim_onPages)) .refl

theorem State.hbmTrims_onPages : s.onPages s.hbmTrims [] := by
  unfold State.hbmTrims State.hbmStep
  refine .ite (State.onPages.refl.each (fun u pc => ?_)) .refl
  unfold State.hbmTrim
  have h : u.onPages (u.takeFree 8).2 [] := State.onPages.refl.frame State.takeFree_fr
  exact .ite h (.ite (h.frame State.modMem_fr).logc (h.frame State.modMem_fr))

/-! ### The frame start -/

theorem State.setPower_onPages {p : PowerState} : s.onPages (s.setPower p) [CLB.PAGE] := by
  unfold State.setPower
  extract_lets a keep run b c d e
  have hc : s.onPages c [CLB.PAGE] :=
    (((State.onPages.refl.frame State.modMode_fr).frame State.modThm_fr).wr).wrB
  exact .ite .refl (.ite (((((hc.frame State.modThm_fr).wrB).wrB).wr).event).logc hc)

theorem State.frameShows_onPages : s.onPages s.frameShows [DMC.PAGE, RIM.PAGE] := by
  unfold State.frameShows
  exact (((State.onPages.refl.wr).frame State.modMem_fr).wr).frame State.modRim_fr

theorem State.compareNeed_onPages : s.onPages s.compareNeed [DMC.PAGE] := by
  unfold State.compareNeed
  extract_lets short a b c
  have ha : s.onPages a [DMC.PAGE] := State.onPages.refl.frame State.modMem_fr
  have hw : s.onPages (a.wr DMC.RT_STS.NEED (min 255 a.mem.rtNeed)) [DMC.PAGE] := ha.wr
  have hb : s.onPages b [DMC.PAGE] := hw.wrB
  have hc : s.onPages c [DMC.PAGE] := hb.event
  exact .ite (.ite hc (hc.frame State.modMem_fr).logc) hb

/-- The page of a weave die. -/
theorem diePage (d : Fin 2) : WV.PAGE + d.val ∈ [WV.PAGE, WV.PAGE + 1] ∧ WV.PAGE + d.val < 4096 := by
  revert d; decide

theorem State.showPlan_onPages {d : Fin 2} : s.onPages (s.showPlan d) [WV.PAGE, WV.PAGE + 1] := by
  obtain ⟨hm, hl⟩ := diePage d
  unfold State.showPlan
  exact ((State.onPages.refl.wr hm hl).wr hm hl).frame State.modWv_fr

theorem State.mullionCheck_onPages {skew : Nat} : s.onPages (s.mullionCheck skew) [SCN.PAGE] := by
  have h : s.onPages (s.modClk (fun c => { c with lineErr := (skew : Int) - (s.eff_ SCN.MUL_SKEW : Nat) })) [SCN.PAGE] :=
    State.onPages.refl.frame State.modClk_fr
  unfold State.mullionCheck
  exact .ite h ((h.frame State.modScan_fr).event).logc

theorem State.leafFrame_onPages : s.onPages s.leafFrame [LEF.PAGE] := by
  unfold State.leafFrame
  have h : s.onPages s.repairOver [LEF.PAGE] := by
    unfold State.repairOver State.logOnce
    exact .ite (.ite .refl (State.onPages.refl.frame State.modLog_fr).logc) .refl
  exact State.onPages.frame (.ite ((h.wrB).logc.frame State.wantDemote_fr) h) State.modLeaf_fr

/-- The page of a half's panel drive. -/
theorem drivePage (h : Fin 2) : PDV.PAGE + h.val ∈ [PDV.PAGE, PDV.PAGE + 1] ∧ PDV.PAGE + h.val < 4096 := by
  revert h; decide

theorem State.vcomStep_onPages {h : Fin 2} : s.onPages (s.vcomStep h) [PDV.PAGE, PDV.PAGE + 1] := by
  unfold State.vcomStep
  exact .ite ((State.onPages.refl.wrI (drivePage h).1 (drivePage h).2).frame State.modThm_fr) .refl

theorem State.trimStart_onPages {h : Fin 2} : s.onPages (s.trimStart h) [PDV.PAGE, PDV.PAGE + 1] := by
  have hp : s.onPages (s.modPanel (fun p => { p with trimNext := p.trimNext.set h none })) [PDV.PAGE, PDV.PAGE + 1] :=
    State.onPages.refl.frame State.modPanel_fr
  unfold State.trimStart
  dsimp only
  split
  · exact State.onPages.frame (.ite (hp.next State.vcomStep_onPages) hp) State.wrEff_fr
  · exact (hp.next State.vcomStep_onPages).frame State.latch_fr

/-- A cycle start writes the panel drive pages (R226, R230). -/
theorem State.cycleStart_onPages {h : Fin 2} : s.onPages (s.cycleStart h) [PDV.PAGE, PDV.PAGE + 1] := by
  obtain ⟨hm, hl⟩ := drivePage h
  unfold State.cycleStart
  extract_lets a nb b
  have ha : s.onPages a [PDV.PAGE, PDV.PAGE + 1] := by
    unfold a
    split
    · exact (State.onPages.refl.frame State.modPanel_fr).wrB hm hl
    · exact .refl
  have hb : s.onPages b [PDV.PAGE, PDV.PAGE + 1] := .ite ha ((ha.event hm hl).logc.wr hm hl)
  exact ((hb.wrB hm hl).next State.trimStart_onPages).frame State.latch_fr

/-! ### The servo and the Shutter's part of a frame start -/

theorem State.lockLost_onPages : s.onPages s.lockLost [SCN.PAGE] := by
  unfold State.lockLost
  exact .ite (((State.onPages.refl.wr).frame State.modScan_fr).event).logc .refl

theorem State.rephaseStart_onPages : s.onPages s.rephaseStart [SCN.PAGE] := by
  unfold State.rephaseStart
  exact .ite .refl ((State.onPages.refl.frame State.modScan_fr).wr).logc

/-- A Shutter exit that begins writes SHUT_STS of the raster page, and else the pages of the memory and freshness units (R214). -/
theorem State.shutExpiryCheck_regs : s.shutExpiryCheck.regs = s.regs ∨
    (s.wr SCN.SHUT_STS.STATE 5).onPages s.shutExpiryCheck [DMC.PAGE, FRS.PAGE] := by
  have h : (s.wr SCN.SHUT_STS.STATE 5).onPages s.startExit [DMC.PAGE, FRS.PAGE] := by
    unfold State.startExit
    exact (State.srLeave_onPages.next State.startFastPass_onPages).frame State.modScan_fr
  unfold State.shutExpiryCheck
  split
  · unfold State.autoExit
    dsimp only
    split
    · split
      · exact .inl rfl
      · split
        · exact .inr h
        · exact .inl rfl
    · exact .inl rfl
  · exact .inl rfl

end

/-! SUPPORT. What the parts of a line start and of a frame start do to the beam, the raster's state and the values in force. -/

section

/-- An area outside a frame's mask is the same. -/
theorem Fr.same {m : Nat} {s t : State} (h : Fr m s t) (p : Area) (hp : m.testBit p.ctorIdx = false := by decide) : p.same s t :=
  h.1 p hp

/-- A frame's mask names the areas it keeps. -/
theorem Fr.keepsOf {m : Nat} {s t : State} {ps : List Area} (h : Fr m s t)
    (hm : ∀ i < 28, m.testBit i = true → Area.ofNat i ∈ ps := by decide) : s.keeps t ps := by
  refine h.keeps (fun p hp => ?_)
  by_contra hb
  have hi := hm p.ctorIdx (by cases p <;> decide) (by simpa using hb)
  rw [Area.ofNat_ctorIdx] at hi
  exact hp hi

/-- Every register field reads the same through a frame that leaves the registers alone. -/
theorem Fr.rd {m : Nat} {s t : State} (h : Fr m s t) (f : Fld) (i x : Nat)
    (hm : m.testBit Area.regs.ctorIdx = false := by decide) : t.rd f i x = s.rd f i x := by
  unfold State.rd State.reg
  rw [(h.same .regs hm : t.regs = s.regs)]

section
variable (s : State)

@[simp] theorem State.setReg_scan (k : Nat) (v : BitVec 32) : (s.setReg k v).scan = s.scan := s.modRegs_scan _
@[simp] theorem State.wr_scan (f : Fld) (v i x : Nat) : (s.wr f v i x).scan = s.scan := s.setReg_scan _ _
@[simp] theorem State.wrB_scan (f : Fld) (v : Bool) (i x : Nat) : (s.wrB f v i x).scan = s.scan := s.wr_scan _ _ _ _
@[simp] theorem State.wrI_scan (f : Fld) (v : Int) (i x : Nat) : (s.wrI f v i x).scan = s.scan := s.wr_scan _ _ _ _
@[simp] theorem State.event_scan (p b : Nat) : (s.event p b).scan = s.scan := State.event_fr.same .scan
@[simp] theorem State.logc_scan (p c a b : Nat) : (s.logc p c a b).scan = s.scan := State.logc_fr.same .scan

/-! ### Event flags -/

/-- PG_EVT of a page after an event of that page (R457). -/
theorem State.event_rd_evt {p b : Nat} (hp : p ∉ [EVT.PAGE, EVT.PAGE + 1]) (hl : p < 4096) (hb : b < 32) :
    (s.event p b).rd HDR.PG_EVT p = s.rd HDR.PG_EVT p ||| 2 ^ b := by
  have hk : HDR.PG_EVT.key p 0 ∉ ringKeys := by
    have hr : ∀ k ∈ ringKeys, k / 4096 % 4096 ∈ [EVT.PAGE, EVT.PAGE + 1] := by decide
    intro h
    have := hr _ h
    rw [Fld.key_page (by simpa [HDR.PG_EVT] using hl) (by decide)] at this
    exact hp (by simpa [HDR.PG_EVT] using this)
  have hb : HDR.PG_EVT.key p 0 ≠ HDR.PG_BEAM_AT.WC.key p 0 ∧ HDR.PG_EVT.key p 0 ≠ HDR.PG_BEAM_AT.LINE.key p 0 := by
    simp [Fld.key, regKey, HDR.PG_EVT, HDR.PG_BEAM_AT.WC, HDR.PG_BEAM_AT.LINE]
  have ho : s.rd HDR.PG_EVT p ||| 2 ^ b < 2 ^ 32 :=
    Nat.or_lt_two_pow (s.rd_lt HDR.PG_EVT p 0) (Nat.pow_lt_pow_right (by decide) ‹b < 32›)
  unfold State.event
  extract_lets t u v
  calc (v.report p b false).rd HDR.PG_EVT p = v.rd HDR.PG_EVT p :=
        (State.keepsRegs_refl.report (ks := ringKeys) (fun _ h => h)).rd hk
    _ = t.rd HDR.PG_EVT p := by rw [State.rd_wr_ne hb.2, State.rd_wr_ne hb.1]
    _ = s.rd HDR.PG_EVT p ||| 2 ^ b := by
        rw [State.rd_wr (by decide) (by decide)]
        exact Nat.mod_eq_of_lt ho

theorem bit_eq_testBit (n i : Nat) : bit n i = n.testBit i := by
  unfold bit
  rw [Nat.testBit_eq_decide_div_mod_eq]
  rfl

/-- The flag of an event stands. -/
theorem State.event_flag_self {p b : Nat} (hp : p ∉ [EVT.PAGE, EVT.PAGE + 1] := by decide) (hl : p < 4096 := by decide)
    (hb : b < 32 := by decide) : (s.event p b).flag p b := by
  unfold State.flag
  rw [State.event_rd_evt s hp hl hb, bit_eq_testBit, Nat.testBit_or, Nat.testBit_two_pow_self, Bool.or_true]

/-- An event leaves the other flags of its page standing. -/
theorem State.event_flag_mono {p b c : Nat} (h : s.flag p c) (hp : p ∉ [EVT.PAGE, EVT.PAGE + 1] := by decide)
    (hl : p < 4096 := by decide) (hb : b < 32 := by decide) : (s.event p b).flag p c := by
  unfold State.flag at *
  rw [bit_eq_testBit] at *
  rw [State.event_rd_evt s hp hl hb, Nat.testBit_or, h, Bool.true_or]

/-- A log record leaves every event flag but those of the log's own page standing. -/
theorem State.logc_flag {p q c a b n : Nat} (h : s.flag p n) (hp : p ∉ [NVS.PAGE, EVT.PAGE, EVT.PAGE + 1] := by decide)
    (hl : p < 4096 := by decide) : (s.logc q c a b).flag p n :=
  (State.onPages.refl (ps := [])).logc.flag hp hl h

/-! ### The raster's state -/

/-- A property that each step of a repetition keeps. -/
theorem State.each_induct {α : Type} {P : State → Prop} {f : State → α → State} (xs : List α) (h : P s)
    (hf : ∀ u x, P u → P (f u x)) : P (s.each xs f) := by
  unfold State.each
  induction xs generalizing s with
  | nil => exact h
  | cons x xs ih => exact ih (f s x) (hf s x h)

/-- Queueing a control packet for every group changes their queues alone (R201). -/
theorem State.queueAll_scan (cmd arg0 : Nat) :
    (s.queueAll cmd arg0).scan = { s.scan with ctrlQ := (s.queueAll cmd arg0).scan.ctrlQ } := by
  unfold State.queueAll
  split
  · refine s.each_induct (P := fun u => u.scan = { s.scan with ctrlQ := u.scan.ctrlQ }) _ rfl (fun u g hu => ?_)
    split
    · exact hu
    · unfold State.queueCtrl
      rw [State.modScan_scan, hu]
  · rfl

/-- An aborted Shutter entry changes the control queues, and else nothing of the raster (R216). -/
theorem State.shutAbort_scan (why : Nat) (keep : Bool) :
    (s.shutAbort why keep).scan = { s.scan with ctrlQ := (s.shutAbort why keep).scan.ctrlQ } := by
  cases keep with
  | true =>
    simp only [State.shutAbort, State.logc_scan, State.event_scan, State.wr_scan, if_true]
    exact s.queueAll_scan _ _
  | false =>
    simp only [State.shutAbort, State.logc_scan, State.event_scan, State.wr_scan, State.wrB_scan, Bool.false_eq_true, if_false]
    exact s.queueAll_scan _ _

theorem State.captureEnd_scan (ended : BitVec 32) :
    (s.captureEnd ended).scan = { s.scan with ctrlQ := (s.captureEnd ended).scan.ctrlQ } := by
  unfold State.captureEnd
  split
  · exact s.shutAbort_scan _ _
  · rfl

/-- The registers that an aborted Shutter entry writes. -/
theorem State.captureEnd_keepsRegs (ended : BitVec 32) : s.keepsRegs (s.captureEnd ended)
    ([SCN.SHUT_STS.STATE.key 0 0] ++ (eventKeys SCN.PAGE ++ logKeys SCN.PAGE)) := by
  unfold State.captureEnd State.shutAbort
  refine .ite ?_ State.keepsRegs_refl
  simp only [if_true]
  have hq : s.keepsRegs (s.queueAll 5 0) ([SCN.SHUT_STS.STATE.key 0 0] ++ (eventKeys SCN.PAGE ++ logKeys SCN.PAGE)) :=
    .regs (State.queueAll_fr.same .regs) State.keepsRegs_refl
  refine State.keepsRegs.logc (.event ((hq.wr (by decide)).wr (by decide)) ?_) ?_
  · exact fun k hk => List.mem_append_right _ (List.mem_append_left _ hk)
  · exact fun k hk => List.mem_append_right _ (List.mem_append_right _ hk)

/-- The Mullion check leaves the raster's state but for the frame's Mullion errors (R189). -/
theorem State.mullionCheck_scan (skew : Nat) : (s.mullionCheck skew).scan =
    { s.scan with mullion := if skew = s.eff_ SCN.MUL_SKEW then s.scan.mullion else s.scan.mullion ||| 1 } := by
  unfold State.mullionCheck
  dsimp only
  split
  · rfl
  · rw [State.logc_scan, State.event_scan]
    rfl

/-- The Mullion check keeps the beam and notes the error of the line start (R189). -/
theorem State.mullionCheck_clk (skew : Nat) :
    (s.mullionCheck skew).clk = { s.clk with lineErr := (skew : Int) - (s.eff_ SCN.MUL_SKEW : Nat) } := by
  unfold State.mullionCheck
  dsimp only
  split
  · rfl
  · rw [show ∀ u p c a b, State.clk (State.logc u p c a b) = u.clk from fun _ _ _ _ _ => State.logc_fr.same .clk,
      show ∀ u p b, State.clk (State.event u p b) = u.clk from fun _ _ _ => State.event_fr.same .clk]
    rfl

/-- A late or early line start of half B raises its event (R189). -/
theorem State.mullionCheck_flag {skew : Nat} (h : skew ≠ s.eff_ SCN.MUL_SKEW) : (s.mullionCheck skew).flag SCN.PAGE 5 := by
  unfold State.mullionCheck
  rw [if_neg h]
  exact State.logc_flag _ (State.event_flag_self _)

/-- It counts as a Mullion error of this frame. -/
theorem State.mullionCheck_mullion {skew : Nat} (h : skew ≠ s.eff_ SCN.MUL_SKEW) :
    bit (s.mullionCheck skew).scan.mullion.toNat 0 = true := by
  rw [State.mullionCheck_scan, if_neg h, bit_eq_testBit, BitVec.toNat_or, Nat.testBit_or]
  simp

/-! ### The servo -/

@[simp] theorem State.lockLost_mullion : s.lockLost.scan.mullion = s.scan.mullion := by
  unfold State.lockLost
  dsimp only
  split
  · rw [State.logc_scan, State.event_scan, State.modScan_scan, State.wr_scan]
  · rfl

theorem State.setLine_scan (eff trim : Int) : (s.setLine eff trim).scan = { s.scan with trim := trim } := by
  rw [State.setLine, State.modScan_scan, State.wr_scan]


/-- Without a stated servo the lock state and LINE_EFF alone change. -/
theorem State.servoFree_keepsRegs :
    s.keepsRegs s.servoFree [SCN.LOCK_STS.STATE.key 0 0, SCN.LINE_EFF.PER.key 0 0] := by
  unfold State.servoFree State.setLine
  dsimp only
  refine State.keepsRegs.wr (.wr (.modScan (.wr ?_ (by decide))) (by decide)) (by decide)
  exact .modFreeCtr (.modFreeCtr (.modFreeCtr State.keepsRegs_refl.modFreeCtr))

/-- The lock state takes PHASE_ERR and STATE alone. -/
theorem State.keepsRegs.lockStep {t : State} {e : Int} {ks : List Nat} (h : s.keepsRegs t ks)
    (hk : SCN.LOCK_STS.STATE.key 0 0 ∈ ks) : s.keepsRegs (t.lockStep e) ks := by
  have hp : s.keepsRegs (t.wrI SCN.LOCK_STS.PHASE_ERR (clampI (-32767) 32767 (Int.tdiv e 256))) ks := h.wrI hk
  unfold State.lockStep
  exact .ite (.modScan (.wr hp.modScan hk)) (.ite (.wr hp.modScan hk) hp.modScan)

/-- The source of the frame lock is lost, or the servo writes its lock state and LINE_EFF alone (R355). -/
theorem State.servo_cases (fl : Nat) : s.servo fl = s.lockLost.modScan (fun c => { c with trim := 0, pull := true }) ∨
    s.keepsRegs (s.servo fl) [SCN.LOCK_STS.STATE.key 0 0, SCN.LINE_EFF.PER.key 0 0] := by
  unfold State.servo
  dsimp only
  split
  · exact .inr (.wr (.modScan (State.keepsRegs_refl.wr (by decide))) (by decide))
  · split
    · exact .inl rfl
    · split
      · exact .inr s.servoFree_keepsRegs
      · refine .inr (State.keepsRegs.lockStep _ (.modScan (.wr (.ite State.keepsRegs_refl ?_) (by decide))) (by decide))
        exact State.keepsRegs_refl.wr (by decide)

theorem State.lockStep_mullion (e : Int) : (s.lockStep e).scan.mullion = s.scan.mullion := by
  unfold State.lockStep
  dsimp only
  repeat' split
  all_goals simp only [State.modScan_scan, State.wr_scan, State.wrI_scan]

/-- The servo leaves the frame's Mullion errors as they are. -/
theorem State.servo_mullion (fl : Nat) : (s.servo fl).scan.mullion = s.scan.mullion := by
  unfold State.servo
  dsimp only
  split
  · rw [State.wr_scan, State.setLine_scan]
  · split
    · rw [State.modScan_scan, State.lockLost_mullion]
    · split
      · unfold State.servoFree State.takeFree
        simp only [State.wr_scan, State.setLine_scan, State.modFreeCtr_scan]
      · rw [State.lockStep_mullion, State.setLine_scan]
        dsimp only
        split
        · rfl
        · rw [State.wr_scan]

theorem State.lockLost_flag {n : Nat} (h : s.flag SCN.PAGE n) : s.lockLost.flag SCN.PAGE n := by
  have hw : s.keepsRegs ((s.wr SCN.LOCK_STS.STATE 4).modScan (fun c => { c with trim := 0, goodFrames := 0 }))
      [SCN.LOCK_STS.STATE.key 0 0] := (State.keepsRegs_refl.wr (by decide)).modScan
  unfold State.lockLost
  dsimp only
  split
  · refine State.logc_flag _ (State.event_flag_mono _ ?_)
    unfold State.flag
    rw [hw.rd (by decide)]
    exact h
  · exact h

/-- Every event flag of the raster page still stands after the servo. -/
theorem State.servo_flag {fl n : Nat} (h : s.flag SCN.PAGE n) : (s.servo fl).flag SCN.PAGE n := by
  rcases s.servo_cases fl with e | k
  · rw [e]
    exact s.lockLost_flag h
  · unfold State.flag
    rw [k.rd (by decide)]
    exact h

theorem State.servo_onPages (fl : Nat) : s.onPages (s.servo fl) [SCN.PAGE] := by
  rcases s.servo_cases fl with e | k
  · rw [e]
    exact State.lockLost_onPages.frame State.modScan_fr
  · exact State.onPages.refl.keepsRegs k (fun r hr _ => (by decide : ∀ r ∈ [SCN.LOCK_STS.STATE.key 0 0, SCN.LINE_EFF.PER.key 0 0],
      r / 4096 % 4096 ∈ [SCN.PAGE]) r hr)

/-- Free-running, the lines take LINE_PER (R355, R191). -/
theorem State.servo_freeRunning {fl : Nat} (h : s.eff_ SCN.RATE_CTL.SRC = 3) :
    s.servo fl = (s.setLine (s.eff_ SCN.LINE_PER.PER : Nat) 0).wr SCN.LOCK_STS.STATE 1 := by
  unfold State.servo
  exact if_pos (.inl h)

section freeRunning
variable {fl : Nat} (h : s.eff_ SCN.RATE_CTL.SRC = 3)
include h

theorem State.servo_freeRunning_lock : (s.servo fl).rd SCN.LOCK_STS.STATE = 1 := by
  rw [s.servo_freeRunning h, State.rd_wr (by decide) (by decide)]
  rfl

theorem State.servo_freeRunning_lineEff : (s.servo fl).rd SCN.LINE_EFF.PER = s.eff_ SCN.LINE_PER.PER := by
  have hv : s.eff_ SCN.LINE_PER.PER < 2 ^ SCN.LINE_EFF.PER.width := Nat.mod_lt _ (by decide)
  rw [s.servo_freeRunning h, State.rd_wr_ne (by decide), State.setLine, State.modScan_rd, State.rd_wr (by decide) (by decide),
    Int.toNat_natCast, Nat.mod_eq_of_lt hv]

theorem State.servo_freeRunning_trim : (s.servo fl).scan.trim = 0 := by
  rw [s.servo_freeRunning h, State.wr_scan, State.setLine_scan]

theorem State.servo_freeRunning_rephase : (s.servo fl).scan.rephase = s.scan.rephase := by
  rw [s.servo_freeRunning h, State.wr_scan, State.setLine_scan]

end freeRunning

/-! ### Re-phase and the Shutter's expiry check -/

theorem State.rephaseStart_mullion : s.rephaseStart.scan.mullion = s.scan.mullion := by
  unfold State.rephaseStart
  dsimp only
  split
  · rfl
  · rw [State.logc_scan, State.wr_scan, State.modScan_scan]

/-- Without a re-phase due nothing changes (R357). -/
theorem State.rephaseStart_none (h : s.scan.rephase = false) : s.rephaseStart = s := by
  unfold State.rephaseStart
  exact if_pos (by rw [h]; rfl)

/-- Every event flag of the raster page still stands after a re-phase. -/
theorem State.rephaseStart_flag {n : Nat} (h : s.flag SCN.PAGE n) : s.rephaseStart.flag SCN.PAGE n := by
  unfold State.rephaseStart
  dsimp only
  split
  · exact h
  · refine State.logc_flag _ ?_
    unfold State.flag
    rw [(State.keepsRegs_refl.modScan.wr (ks := [SCN.LOCK_STS.STATE.key 0 0]) (by decide)).rd (by decide)]
    exact h

/-- A Shutter exit changes the frame it ends in and the request for it, and else nothing of the raster (R214). -/
theorem State.shutExpiryCheck_scan : s.shutExpiryCheck.scan = { s.scan with
    shutExit := s.shutExpiryCheck.scan.shutExit, shutExitReq := s.shutExpiryCheck.scan.shutExitReq } := by
  have hs (u : State) : u.srLeave.startFastPass.scan = u.scan :=
    (State.startFastPass_fr.same .scan).trans (State.srLeave_fr.same .scan)
  unfold State.shutExpiryCheck
  split
  · unfold State.autoExit
    dsimp only
    split
    · split
      · rw [State.modScan_scan]
      · split
        · unfold State.startExit
          rw [State.modScan_scan, hs, State.wr_scan]
        · rfl
    · rfl
  · rfl

theorem State.shutExpiryCheck_mullion : s.shutExpiryCheck.scan.mullion = s.scan.mullion := by rw [State.shutExpiryCheck_scan]

theorem State.shutExpiryCheck_trim : s.shutExpiryCheck.scan.trim = s.scan.trim := by rw [State.shutExpiryCheck_scan]

/-- A field of the raster page but SHUT_STS, and any field of a page that the exit does not write, reads as before. -/
theorem State.shutExpiryCheck_rd {f : Fld} (hk : f.key 0 0 ≠ SCN.SHUT_STS.STATE.key 0 0 := by decide)
    (hp : f.page + 0 ∉ [NVS.PAGE, EVT.PAGE, EVT.PAGE + 1, DMC.PAGE, FRS.PAGE] := by decide) (hl : f.page + 0 < 4096 := by decide)
    (ho : f.off < 4096 ∧ f.off ≠ 0x01C ∧ f.off ≠ 0x020 := by decide) : s.shutExpiryCheck.rd f = s.rd f := by
  rcases s.shutExpiryCheck_regs with e | k
  · unfold State.rd State.reg
    rw [e]
  · rw [k.rd hp hl ho, State.rd_wr_ne hk]

/-- Every event flag of the raster page still stands after it. -/
theorem State.shutExpiryCheck_flag {n : Nat} (h : s.flag SCN.PAGE n) : s.shutExpiryCheck.flag SCN.PAGE n := by
  unfold State.flag
  rcases s.shutExpiryCheck_regs with e | k
  · unfold State.rd State.reg at *
    rw [e]
    exact h
  · rw [k.rd, State.rd_wr_ne (by decide)]
    exact h

/-! ### Values in force -/

/-- A register that comes into force reads as written. -/
theorem State.latch_eff_self (f : Fld) : (s.latch f).eff_ f = s.rd f := by
  unfold State.latch State.effSet State.eff_
  rw [State.modEff_eff, tget_tset, if_pos rfl]
  rfl

/-- It leaves the other registers' values in force. -/
theorem State.latch_eff_ne {f g : Fld} {i x j y : Nat} (h : g.key j y ≠ f.key i x) : (s.latch f i x).eff_ g j y = s.eff_ g j y := by
  unfold State.latch State.effSet State.eff_
  rw [State.modEff_eff, tget_tset, if_neg h]

theorem State.eff_of_same {t : State} (h : t.eff = s.eff) (f : Fld) (i x : Nat) : t.eff_ f i x = s.eff_ f i x := by
  unfold State.eff_
  rw [h]

/-- So does a field whose value in force is set. -/
theorem State.wrEff_eff_ne {f g : Fld} {v i x j y : Nat} (h : g.key j y ≠ f.key i x) :
    (s.wrEff f v i x).eff_ g j y = s.eff_ g j y := by
  unfold State.wrEff State.effSet State.eff_
  rw [State.modEff_eff, tget_tset, if_neg h]

/-- No register of another page has the key of one on a half's panel drive page. -/
theorem key_ne_drive {f g : Fld} {h : Fin 2} (hf : f.page + 0 ∉ [PDV.PAGE, PDV.PAGE + 1]) (hl : f.page + 0 < 4096)
    (ho : f.off < 4096) (hp : g.page = PDV.PAGE) (hg : g.off < 4096) : f.key 0 0 ≠ g.key h 0 := by
  intro e
  have e' := congrArg (fun k => k / 4096 % 4096) e
  simp only [Fld.key_page hl ho, Fld.key_page (f := g) (by rw [hp]; exact (drivePage h).2) hg, hp] at e'
  exact hf (e' ▸ (drivePage h).1)

/-- A step of the VCOM trim at a cycle start brings a register of the panel drive pages into force, and no other (R424). -/
theorem State.trimStart_eff {h : Fin 2} {f : Fld} (hf : f.page + 0 ∉ [PDV.PAGE, PDV.PAGE + 1]) (hl : f.page + 0 < 4096)
    (ho : f.off < 4096) : (s.trimStart h).eff_ f = s.eff_ f := by
  have hv (u : State) : (u.vcomStep h).eff_ f = u.eff_ f := u.eff_of_same (State.vcomStep_fr.same .eff) _ _ _
  have hp (p : PanelSt → PanelSt) : (s.modPanel p).eff_ f = s.eff_ f := s.eff_of_same (s.modPanel_eff p) _ _ _
  unfold State.trimStart
  dsimp only
  split
  · rw [State.wrEff_eff_ne _ (key_ne_drive hf hl ho rfl (by decide))]
    split
    · rw [hv, hp]
    · exact hp _
  · rw [State.latch_eff_ne _ (key_ne_drive hf hl ho rfl (by decide)), hv, hp]

/-- A cycle start brings registers of the panel drive pages into force, and no others. -/
theorem State.cycleStart_eff {h : Fin 2} {f : Fld} (hf : f.page + 0 ∉ [PDV.PAGE, PDV.PAGE + 1] := by decide)
    (hl : f.page + 0 < 4096 := by decide) (ho : f.off < 4096 := by decide) : (s.cycleStart h).eff_ f = s.eff_ f := by
  unfold State.cycleStart
  extract_lets a nb b
  have ha : a.eff = s.eff := by
    unfold a
    split
    · exact (State.wrB_fr.same .eff).trans (s.modPanel_eff _)
    · rfl
  have hb : b.eff = s.eff := by
    unfold b
    split
    · exact ha
    · exact ((State.wr_fr.same .eff).trans ((State.logc_fr.same .eff).trans (State.event_fr.same .eff))).trans ha
  have hw : (b.wrB PDV.WV_STS.PENDING false h).eff = s.eff := (State.wrB_fr.same .eff).trans hb
  rw [State.latch_eff_ne _ (key_ne_drive hf hl ho rfl (by decide)), State.trimStart_eff _ hf hl ho]
  exact State.eff_of_same _ hw _ _ _

end

end

section

section
variable (s : State)

/-! ### The frame's beginning -/

theorem State.frameShows_retSts : s.frameShows.rd RIM.RET_STS = s.rim.retNow.toNat := by
  have hr (u : State) (m : MemSt → MemSt) (v : Nat) : ((u.wr DMC.REF_STS.POST_MAX v).modMem m).rim = u.rim :=
    (State.modMem_fr.same .rim).trans (State.wr_fr.same .rim)
  unfold State.frameShows
  dsimp only
  rw [State.modRim_rd, State.rd_wr (by decide) (by decide), hr]
  exact Nat.mod_eq_of_lt s.rim.retNow.isLt

theorem State.frameShows_retNow : s.frameShows.rim.retNow = 0 := by
  unfold State.frameShows
  dsimp only
  rw [State.modRim_rim]

/-- The settings that take effect at each start of line 0 come into force (R219, R172). -/
def State.frameSettings : State := ((s.latch SCN.MUL_SKEW).latch SCN.TRIM_MAX.WC).latch FRS.ALM_CTL

theorem State.frameSettings_fr {s : State} : Fr 2 s s.frameSettings :=
  State.latch_fr.next (State.latch_fr.next State.latch_fr rfl) rfl

theorem State.frameSettings_rd (f : Fld) : s.frameSettings.rd f = s.rd f :=
  State.frameSettings_fr.rd f 0 0

/-- A frame shows what the one before counted, brings settings into force and compares a new SLICES value: `u` is its state before
the settings (R219, R181). -/
theorem State.frameBegin_split (ended : BitVec 32) : ∃ u : State,
    u.rd RIM.RET_STS = s.rim.retNow.toNat ∧ u.rim.retNow = 0 ∧
    s.onPages u [DMC.PAGE, RIM.PAGE, PDV.PAGE, PDV.PAGE + 1, WV.PAGE, WV.PAGE + 1] ∧ u.eff = s.eff ∧
    u.scan = { s.scan with underrunFault := u.scan.underrunFault, mullion := u.scan.mullion } ∧
    Fr 134218497 u.frameSettings (s.frameBegin ended) ∧ u.frameSettings.onPages (s.frameBegin ended) [DMC.PAGE] := by
  unfold State.frameBegin
  extract_lets _ f begun shown keep clean marked rows u t
  have hb : shown.rd RIM.RET_STS = s.rim.retNow.toNat := by
    rw [State.frameShows_retSts, (State.sliceLine_fr.same .rim : begun.sliceLine.rim = begun.rim)]
    exact congrArg (fun r : RimSt => r.retNow.toNat) (s.modLog_rim _)
  have hm : Fr 33792 shown marked := State.modScan_fr.next (State.modScene_fr.mono rfl) rfl
  have hr : Fr 33825 shown rows := (hm.mono rfl).each (fun w h => State.wr_fr.next (State.modPanel_fr.mono rfl) rfl)
  have hu : Fr 37921 shown u := (hr.mono rfl).each (fun w h => State.showPlan_fr.mono rfl)
  have hp : shown.onPages u [PDV.PAGE, PDV.PAGE + 1, WV.PAGE, WV.PAGE + 1] := by
    refine ((State.onPages.refl.frame hm).each (fun w h => ?_)).each (fun w h => State.onPages.refl.next State.showPlan_onPages)
    exact (State.onPages.refl.frame State.modPanel_fr).wr
      ((by decide : ∀ h : Fin 2, PDV.PAGE + h.val ∈ [PDV.PAGE, PDV.PAGE + 1, WV.PAGE, WV.PAGE + 1]) h) (drivePage h).2
  have hs : u.scan = marked.scan := by
    refine (State.each_induct (P := fun w => w.scan = rows.scan) rows halves rfl (fun w h hw => ?_)).trans
      (State.each_induct (P := fun w => w.scan = marked.scan) marked halves rfl (fun w h hw => ?_))
    · exact (State.showPlan_fr.same .scan).trans hw
    · rw [State.wr_scan, State.modPanel_scan]
      exact hw
  have hc : clean.scan = s.scan := by
    rw [State.modScene_scan]
    exact (State.frameShows_fr.same .scan).trans ((State.sliceLine_fr.same .scan).trans (s.modLog_scan _))
  refine ⟨u, ?_, ?_, ?_, ?_, ?_, .ite State.compareNeed_fr .refl, .ite State.compareNeed_onPages .refl⟩
  · exact hp.rd.trans hb
  · rw [(hu.same .rim : u.rim = shown.rim)]
    exact State.frameShows_retNow _
  · have ha : s.onPages begun.sliceLine [DMC.PAGE, RIM.PAGE, PDV.PAGE, PDV.PAGE + 1, WV.PAGE, WV.PAGE + 1] :=
      (State.onPages.refl.frame State.modLog_fr).frame State.sliceLine_fr
    exact (ha.next State.frameShows_onPages).next hp
  · exact (hu.same .eff).trans ((State.frameShows_fr.same .eff).trans ((State.sliceLine_fr.same .eff).trans (s.modLog_eff _)))
  · rw [hs, State.modScan_scan, hc]

section begun
variable (ended : BitVec 32)

theorem State.frameBegin_retSts : (s.frameBegin ended).rd RIM.RET_STS = s.rim.retNow.toNat := by
  obtain ⟨u, hr, -, -, -, -, -, hp⟩ := s.frameBegin_split ended
  rw [hp.rd, State.frameSettings_rd, hr]

theorem State.frameBegin_retNow : (s.frameBegin ended).rim.retNow = 0 := by
  obtain ⟨u, -, hr, -, -, -, hf, -⟩ := s.frameBegin_split ended
  rw [(hf.same .rim : (s.frameBegin ended).rim = u.frameSettings.rim), (State.frameSettings_fr.same .rim : _ = u.rim), hr]

/-- The Mullion skew in force is the one written (R219). -/
theorem State.frameBegin_skew : (s.frameBegin ended).eff_ SCN.MUL_SKEW = s.rd SCN.MUL_SKEW := by
  obtain ⟨u, -, -, hp, -, -, hf, -⟩ := s.frameBegin_split ended
  rw [State.eff_of_same _ (hf.same .eff)]
  unfold State.frameSettings
  rw [State.latch_eff_ne _ (by decide), State.latch_eff_ne _ (by decide), State.latch_eff_self, hp.rd]

/-- The largest trim in force is the one written (R219). -/
theorem State.frameBegin_trimMax : (s.frameBegin ended).eff_ SCN.TRIM_MAX.WC = s.rd SCN.TRIM_MAX.WC := by
  obtain ⟨u, -, -, hp, -, -, hf, -⟩ := s.frameBegin_split ended
  rw [State.eff_of_same _ (hf.same .eff)]
  unfold State.frameSettings
  rw [State.latch_eff_ne _ (by decide), State.latch_eff_self]
  exact (State.latch_fr.rd _ _ _).trans hp.rd

/-- The raster settings that wait for the Lintel lock stay in force as they are (R219). -/
theorem State.frameBegin_eff {f : Fld} (hs : f.key 0 0 ≠ SCN.MUL_SKEW.key 0 0 := by decide)
    (ht : f.key 0 0 ≠ SCN.TRIM_MAX.WC.key 0 0 := by decide) (ha : f.key 0 0 ≠ FRS.ALM_CTL.key 0 0 := by decide) :
    (s.frameBegin ended).eff_ f = s.eff_ f := by
  obtain ⟨u, -, -, -, he, -, hf, -⟩ := s.frameBegin_split ended
  rw [State.eff_of_same _ (hf.same .eff)]
  unfold State.frameSettings
  rw [State.latch_eff_ne _ ha, State.latch_eff_ne _ ht, State.latch_eff_ne _ hs, State.eff_of_same _ he]

theorem State.frameBegin_rephase : (s.frameBegin ended).scan.rephase = s.scan.rephase := by
  obtain ⟨u, -, -, -, -, hs, hf, -⟩ := s.frameBegin_split ended
  rw [(hf.same .scan : (s.frameBegin ended).scan = _), (State.frameSettings_fr.same .scan : (State.frameSettings _).scan = _), hs]

end begun

/-! ### The edge of a frame -/

/-- Where the beam is, but for its weave cycle, as the clock runs on (R5). -/
theorem State.run_beam (n : Nat) :
    (s.run n).clk.line = s.clk.line ∧ (s.run n).clk.frame = s.clk.frame ∧ (s.run n).clk.fs = s.clk.fs := by
  have hs (u : State) : u.slewRun.clk.line = u.clk.line ∧ u.slewRun.clk.frame = u.clk.frame ∧ u.slewRun.clk.fs = u.clk.fs := by
    unfold State.slewRun
    dsimp only
    split
    · exact ⟨rfl, rfl, rfl⟩
    · rw [State.modTim_clk, State.setTai, State.modClk_clk]
      exact ⟨rfl, rfl, rfl⟩
  unfold State.run
  split
  · exact ⟨rfl, rfl, rfl⟩
  · rw [(State.sweeps_fr.same .clk : (State.sweeps _ n).clk = _)]
    obtain ⟨hl, hf, hb⟩ := hs (s.endCycle.advance n)
    rw [hl, hf, hb, State.advance, State.modClk_clk, (State.endCycle_fr.same .clk : s.endCycle.clk = s.clk)]
    exact ⟨rfl, rfl, rfl⟩

/-- The state at the edge that begins the next frame, before what the frame begins with (R355). -/
def State.atFrameEdge : State :=
  let e := s.toLineEnd
  let r := e.freshRows e.clk.frame.toNat
  ((r.modClk (fun c => { c with
    frame := BitVec.ofNat 32 e.frameAfter, fs := BitVec.ofNat 32 (r.fsFor e.frameAfter), line := 0, wc := 0, lineAt := c.now,
    frac := r.fracNext })).modScan (fun c => { c with rephaseTo := none, stretch := 0 })).modPanel (fun p => { p with
      resetLate := false, firstWeaver := false })

/-- The Shutter's part of a frame start before the frame's own records (R213, R214, R216). -/
def State.frameShutter : State := (s.atFrameEdge.captureEnd s.toLineEnd.clk.frame).exitFrame

/-- The frame's own records and settings are in place, and half B's line start is checked (R189, R219). -/
def State.frameChecked (skew : Nat) : State := (s.frameShutter.frameBegin s.toLineEnd.clk.frame).mullionCheck skew

/-- What leaf and panel drive begin with the frame (R381, R230). -/
def State.frameCycle : State :=
  if s.leafFrame.phase = 0 then s.leafFrame.each halves State.cycleStart else s.leafFrame

/-- The parts of a frame start in their order. -/
theorem State.frameStart_parts {fl skew : Nat} (hr : s.mode.raster = .weaver) (hl : s.clk.line.toNat + 1 = s.vtotal) :
    s.frameStart fl skew = ((((s.frameChecked skew).frameCycle).servo fl).rephaseStart).shutExpiryCheck := by
  unfold State.frameStart
  rw [if_neg (by simp [hr, hl])]
  rfl

end

end

/-! SUPPORT. What a frame start changes, part by part. -/

section

section
variable (s : State)

theorem State.toLineEnd_beam :
    s.toLineEnd.clk.line = s.clk.line ∧ s.toLineEnd.clk.frame = s.clk.frame ∧ s.toLineEnd.clk.fs = s.clk.fs := s.run_beam _

/-- The frames that follow are named by the raster's state and the frame in progress. -/
theorem State.frameAfter_congr {s t : State} (hs : t.scan = s.scan) (hf : t.clk.frame = s.clk.frame) :
    t.frameAfter = s.frameAfter := by
  unfold State.frameAfter
  rw [hs, hf]

theorem State.fsFor_congr {s t : State} (hm : t.mode = s.mode) (hs : t.scan = s.scan) (hf : t.clk.frame = s.clk.frame)
    (hb : t.clk.fs = s.clk.fs) (f : Nat) : t.fsFor f = s.fsFor f := by
  unfold State.fsFor
  rw [hm, hs, hf, hb]

theorem State.atFrameEdge_fr : Fr 134784297 s s.atFrameEdge := by
  unfold State.atFrameEdge
  exact State.modPanel_fr.next (State.modScan_fr.next (State.modClk_fr.next (State.freshRows_fr.next
    (State.toLineEnd_fr.mono rfl) rfl) rfl) rfl) rfl

/-- The beam at the edge that begins a frame. -/
theorem State.atFrameEdge_beam : s.atFrameEdge.clk.line = 0 ∧ s.atFrameEdge.clk.wc = 0 ∧
    s.atFrameEdge.clk.lineAt = s.toLineEnd.clk.now ∧ s.atFrameEdge.clk.frame = BitVec.ofNat 32 s.frameAfter ∧
    s.atFrameEdge.clk.fs = BitVec.ofNat 32 (s.fsFor s.frameAfter) := by
  obtain ⟨-, hf, hb⟩ := s.toLineEnd_beam
  have ha : s.toLineEnd.frameAfter = s.frameAfter := State.frameAfter_congr (State.toLineEnd_fr.same .scan) hf
  have hr (n : Nat) : (s.toLineEnd.freshRows n).clk = s.toLineEnd.clk := State.freshRows_fr.same .clk
  have hfs (n f : Nat) : (s.toLineEnd.freshRows n).fsFor f = s.fsFor f :=
    State.fsFor_congr ((State.freshRows_fr.same .mode).trans (State.toLineEnd_fr.same .mode))
      ((State.freshRows_fr.same .scan).trans (State.toLineEnd_fr.same .scan)) (by rw [hr, hf]) (by rw [hr, hb]) f
  unfold State.atFrameEdge
  dsimp only
  rw [State.modPanel_clk, State.modScan_clk, State.modClk_clk, hr, ha, hfs]
  exact ⟨rfl, rfl, rfl, rfl, rfl⟩

theorem State.atFrameEdge_onPages : s.onPages s.atFrameEdge [FRS.PAGE] := by
  unfold State.atFrameEdge
  exact (((State.run_onPages.frame State.freshRows_fr).frame State.modClk_fr).frame State.modScan_fr).frame State.modPanel_fr

theorem State.atFrameEdge_scan : s.atFrameEdge.scan = { s.scan with rephaseTo := none, stretch := 0 } := by
  unfold State.atFrameEdge
  dsimp only
  rw [State.modPanel_scan, State.modScan_scan, State.modClk_scan, (State.freshRows_fr.same .scan : (State.freshRows _ _).scan = _),
    (State.toLineEnd_fr.same .scan : s.toLineEnd.scan = s.scan)]

theorem State.frameShutter_fr : Fr 138445157 s.atFrameEdge s.frameShutter :=
  State.exitFrame_fr.next (State.captureEnd_fr.mono rfl) rfl

/-- A register of the raster page outside the header, but SHUT_STS, reads as before the frame start. -/
theorem State.frameShutter_rd {f : Fld} (hp : f.page = SCN.PAGE) (ho : f.off < 4096 ∧ f.off ≠ 0x01C ∧ f.off ≠ 0x020)
    (hk : f.key 0 0 ∉ [SCN.SHUT_STS.STATE.key 0 0] ++ (eventKeys SCN.PAGE ++ logKeys SCN.PAGE)) :
    s.frameShutter.rd f = s.rd f := by
  have he (u : State) : u.onPages u.exitFrame [CLB.PAGE] := by
    unfold State.exitFrame
    exact .ite (State.setPower_onPages.frame State.modPanel_fr) .refl
  rw [State.frameShutter, (he _).rd (by rw [hp]; decide) (by rw [hp]; decide) ho, (State.captureEnd_keepsRegs _ _).rd hk,
    s.atFrameEdge_onPages.rd (by rw [hp]; decide) (by rw [hp]; decide) ho]

theorem State.frameShutter_rephase : s.frameShutter.scan.rephase = s.scan.rephase := by
  rw [State.frameShutter, (State.exitFrame_fr.same .scan : (State.exitFrame _).scan = _), State.captureEnd_scan,
    s.atFrameEdge_scan]

section checked
variable (skew : Nat)

/-- The beam once the frame has begun: at the edge, with the error of half B's line start (R189). -/
theorem State.frameChecked_clk :
    (s.frameChecked skew).clk = { s.atFrameEdge.clk with lineErr := (skew : Int) - (s.rd SCN.MUL_SKEW : Nat) } := by
  rw [State.frameChecked, State.mullionCheck_clk, State.frameBegin_skew,
    s.frameShutter_rd rfl (by decide) (by decide), (State.frameBegin_fr.same .clk : (State.frameBegin _ _).clk = _),
    (s.frameShutter_fr.same .clk : s.frameShutter.clk = _)]

theorem State.frameChecked_skew : (s.frameChecked skew).eff_ SCN.MUL_SKEW = s.rd SCN.MUL_SKEW := by
  rw [State.frameChecked, State.eff_of_same _ (State.mullionCheck_fr.same .eff), State.frameBegin_skew,
    s.frameShutter_rd rfl (by decide) (by decide)]

theorem State.frameChecked_trimMax : (s.frameChecked skew).eff_ SCN.TRIM_MAX.WC = s.rd SCN.TRIM_MAX.WC := by
  rw [State.frameChecked, State.eff_of_same _ (State.mullionCheck_fr.same .eff), State.frameBegin_trimMax,
    s.frameShutter_rd rfl (by decide) (by decide)]

/-- The raster settings that wait for the Lintel lock stay in force as they are (R219). -/
theorem State.frameChecked_eff {f : Fld} (hs : f.key 0 0 ≠ SCN.MUL_SKEW.key 0 0 := by decide)
    (ht : f.key 0 0 ≠ SCN.TRIM_MAX.WC.key 0 0 := by decide) (ha : f.key 0 0 ≠ FRS.ALM_CTL.key 0 0 := by decide) :
    (s.frameChecked skew).eff_ f = s.eff_ f := by
  rw [State.frameChecked, State.eff_of_same _ (State.mullionCheck_fr.same .eff), State.frameBegin_eff _ _ hs ht ha]
  exact State.eff_of_same _ ((s.frameShutter_fr.same .eff).trans (s.atFrameEdge_fr.same .eff)) _ _ _

/-- RET_STS shows the column drivers' reports of the frame that ended (R181, R185). -/
theorem State.frameChecked_retSts : (s.frameChecked skew).rd RIM.RET_STS = s.rim.retNow.toNat := by
  rw [State.frameChecked, State.mullionCheck_onPages.rd, State.frameBegin_retSts,
    (s.frameShutter_fr.same .rim : s.frameShutter.rim = _), (s.atFrameEdge_fr.same .rim : s.atFrameEdge.rim = _)]

theorem State.frameChecked_retNow : (s.frameChecked skew).rim.retNow = 0 := by
  rw [State.frameChecked, (State.mullionCheck_fr.same .rim : (State.mullionCheck _ _).rim = _), State.frameBegin_retNow]

theorem State.frameChecked_rephase : (s.frameChecked skew).scan.rephase = s.scan.rephase := by
  rw [State.frameChecked, State.mullionCheck_scan, State.frameBegin_rephase, State.frameShutter_rephase]

/-- A half B line start at another distance than the skew written raises the event and counts, at line 0 too (R189, R219). -/
theorem State.frameChecked_mullion (h : skew ≠ s.rd SCN.MUL_SKEW) : (s.frameChecked skew).flag SCN.PAGE 5 ∧
    bit (s.frameChecked skew).scan.mullion.toNat 0 = true := by
  have hk : skew ≠ (s.frameShutter.frameBegin s.toLineEnd.clk.frame).eff_ SCN.MUL_SKEW := by
    rw [State.frameBegin_skew, s.frameShutter_rd rfl (by decide) (by decide)]
    exact h
  exact ⟨State.mullionCheck_flag _ hk, State.mullionCheck_mullion _ hk⟩

end checked

theorem State.frameCycle_fr : Fr 139461027 s s.frameCycle := by
  unfold State.frameCycle
  exact .ite ((State.leafFrame_fr.mono rfl).each (fun u h => State.cycleStart_fr.mono rfl)) (State.leafFrame_fr.mono rfl)

/-- The leaf and the panel drive write their own pages as a frame begins. -/
theorem State.frameCycle_onPages : s.onPages s.frameCycle [LEF.PAGE, PDV.PAGE, PDV.PAGE + 1] := by
  have hl : s.onPages s.leafFrame [LEF.PAGE, PDV.PAGE, PDV.PAGE + 1] := State.onPages.refl.next State.leafFrame_onPages
  unfold State.frameCycle
  exact .ite (hl.each (fun u h => State.onPages.refl.next State.cycleStart_onPages)) hl

/-- They bring no register of another page into force. -/
theorem State.frameCycle_eff {f : Fld} (hf : f.page + 0 ∉ [PDV.PAGE, PDV.PAGE + 1] := by decide)
    (hl : f.page + 0 < 4096 := by decide) (ho : f.off < 4096 := by decide) : s.frameCycle.eff_ f = s.eff_ f := by
  have h : s.leafFrame.eff_ f = s.eff_ f := State.eff_of_same _ (State.leafFrame_fr.same .eff) _ _ _
  unfold State.frameCycle
  split
  · exact s.leafFrame.each_induct (P := fun u => u.eff_ f = s.eff_ f) halves h
      (fun u d hu => (u.cycleStart_eff hf hl ho).trans hu)
  · exact h

end

end

/-! SUPPORT. Line starts: the beam at the next line, and the blanking of the Sill raster. -/

section

section
variable (s : State)

/-- The state at the edge that begins the next line (R5). -/
def State.atNextLine : State :=
  (s.toLineEnd.modClk (fun c => { c with line := c.line + 1, wc := 0 })).modClk (fun c => { c with lineAt := c.now })

theorem State.atNextLine_clk : s.atNextLine.clk =
    { s.toLineEnd.clk with line := s.clk.line + 1, wc := 0, lineAt := s.toLineEnd.clk.now } := by
  obtain ⟨hl, -, -⟩ := s.toLineEnd_beam
  rw [State.atNextLine, State.modClk_clk, State.modClk_clk, hl]

theorem State.atNextLine_fr : Fr 134751497 s s.atNextLine :=
  State.modClk_fr.next (State.modClk_fr.next State.toLineEnd_fr rfl) rfl

theorem State.atNextLine_onPages : s.onPages s.atNextLine [FRS.PAGE] :=
  (State.run_onPages.frame State.modClk_fr).frame State.modClk_fr

/-- What the edge of a line changes is what the clock running on changes. -/
theorem State.atNextLine_within : s.within s.atNextLine [.regs, .clk, .log, .scene, .frs, .tim, .sram] s.runKeys := by
  obtain ⟨-, hr, hh⟩ := (State.run_within : s.within s.toLineEnd _ _)
  refine ⟨s.atNextLine_fr.keepsOf, hr.modClk.modClk, hh.trans ⟨fun _ => rfl, fun _ _ => rfl⟩⟩

/-- A line start of the Weaver raster (R188, R189). -/
theorem State.lineStart_weaver {skew : Nat} (hr : s.mode.raster = .weaver) (hl : s.clk.line.toNat + 1 < s.vtotal) :
    s.lineStart skew = (s.atNextLine.mullionCheck skew).leafLine := by
  have hm : s.atNextLine.mode = s.mode := s.atNextLine_fr.same .mode
  unfold State.lineStart
  rw [if_neg (by simp [hr]; omega)]
  exact if_pos (by rw [← hr]; exact congrArg Modes.raster hm)

/-- A line start of the Sill raster (R60, R208). -/
theorem State.lineStart_sill {skew : Nat} (hr : s.mode.raster = .sill) (hl : s.clk.line.toNat < 8699) :
    s.lineStart skew = if s.clk.line + 1 = 8640 then s.atNextLine.blanking else s.atNextLine := by
  have hm : s.atNextLine.mode = s.mode := s.atNextLine_fr.same .mode
  have hv : s.vtotal = 8700 := by rw [State.vtotal, hr]; rfl
  have hc : s.atNextLine.clk.line = s.clk.line + 1 := by rw [s.atNextLine_clk]
  unfold State.lineStart
  rw [if_neg (by rw [hr, hv]; simp; omega), ← hc]
  exact if_neg (by
    rw [show (State.modClk _ _).mode.raster = s.mode.raster from congrArg Modes.raster hm, hr]
    decide)

/-! ### Lanes brought back in the blanking -/

/-- Registers at different offsets of their pages differ. -/
theorem Fld.key_ne_of_off {f g : Fld} {i x j y : Nat} (h : f.off ≠ g.off := by decide) (hf : f.off < 4096 := by decide)
    (hg : g.off < 4096 := by decide) : f.key i x ≠ g.key j y := by
  unfold Fld.key regKey
  omega

/-- Registers of different items of a page differ. -/
theorem Fld.key_ne_of_item {f g : Fld} {i x j y : Nat} (h : x ≠ y) (hi : f.page + i < 4096) (hj : g.page + j < 4096)
    (hf : f.off < 4096 := by decide) (hg : g.off < 4096 := by decide) : f.key i x ≠ g.key j y := by
  unfold Fld.key regKey
  omega

/-- A block's own register keeps its value at an event of any page. -/
theorem State.event_rd_block {f : Fld} {p b i x : Nat}
    (hp : f.page + i ∉ [NVS.PAGE, EVT.PAGE, EVT.PAGE + 1]) (hi : f.page + i < 4096) (ho : f.off < 4096)
    (hb : 0x100 ≤ f.off) : (s.event p b).rd f i x = s.rd f i x := by
  have hk := Fld.key_page (x := x) hi ho
  have hm : f.key i x % 4096 = f.off := by unfold Fld.key regKey; omega
  refine (State.keepsRegs_refl.event (ks := eventKeys p) (fun _ h => h)).rd (fun h => ?_)
  rcases List.mem_append.1 h with h | h
  · simp only [List.mem_cons, List.not_mem_nil, or_false] at h
    rcases h with h | h
    · rw [h] at hm
      unfold Fld.key regKey HDR.PG_EVT at hm
      dsimp only at hm
      omega
    · rw [h] at hm
      unfold Fld.key regKey HDR.PG_BEAM_AT.WC at hm
      dsimp only at hm
      omega
  · exact hp (hk ▸ ringKeys_shared _ h)

/-- The lane status of a group is a block's own register. -/
theorem linkPage (h : Fin 2) : PLK.PAGE + h.val < 4096 ∧ PLK.PAGE + h.val ∉ [NVS.PAGE, EVT.PAGE, EVT.PAGE + 1] := by
  revert h; decide

/-- A group that fails keeps every group's failed lanes (R209). -/
theorem State.failGroup_lanes (g : Nat) (h : Fin 2) (x : Nat) :
    (s.failGroup g).rd PLK.GRP_STS.FAIL h x = s.rd PLK.GRP_STS.FAIL h x := by
  obtain ⟨hl, hs⟩ := linkPage h
  unfold State.failGroup
  dsimp only
  split
  · rfl
  · rw [(State.onPages.refl (ps := [])).logc.rd hs hl (by decide),
      State.event_rd_block (f := PLK.GRP_STS.FAIL) _ hs hl (by decide) (by decide)]
    unfold State.wrB State.wrBit
    rw [State.rd_wr_ne Fld.key_ne_of_off, State.rd_wr_ne Fld.key_ne_of_off]

/-- A new set of failed lanes is that group's own (R207, R208). -/
theorem State.setLanes_lanes (g fail : Nat) (h : Fin 2) (x : Nat) : (s.setLanes g fail).rd PLK.GRP_STS.FAIL h x =
    if h = groupHalf g ∧ x = g then fail % 2 ^ 15 else s.rd PLK.GRP_STS.FAIL h x := by
  have hfit (u : State) : (u.fitGroup g).rd PLK.GRP_STS.FAIL h x = u.rd PLK.GRP_STS.FAIL h x := by
    unfold State.fitGroup
    dsimp only
    split
    · exact u.failGroup_lanes g h x
    · rfl
  unfold State.setLanes
  dsimp only
  rw [hfit, State.queueCtrl_fr.rd, State.wrBit, State.rd_wr_ne Fld.key_ne_of_off, State.rd_wr_ne Fld.key_ne_of_off,
    State.rd_wr_ne Fld.key_ne_of_off, State.wrB]
  by_cases hg : h = groupHalf g ∧ x = g
  · obtain ⟨rfl, rfl⟩ := hg
    rw [if_pos ⟨rfl, rfl⟩, State.rd_wr_field (g := PLK.GRP_STS.FAIL) (f := PLK.GRP_STS.SPARE_USED) rfl (by decide) (by decide)
        (by decide) (by decide), State.rd_wr_field (g := PLK.GRP_STS.FAIL) (f := PLK.GRP_STS.N) rfl (by decide) (by decide)
        (by decide) (by decide), State.rd_wr (by decide) (by decide)]
    rfl
  · have hk (f : Fld) (hp : f.page = PLK.PAGE) (ho : f.off < 4096) : PLK.GRP_STS.FAIL.key h x ≠ f.key (groupHalf g) g := by
      have hh : x = g → h.val ≠ (groupHalf g).val := fun hx he => hg ⟨Fin.ext he, hx⟩
      simp only [Fld.key, regKey, hp, PLK.GRP_STS.FAIL, PLK.PAGE]
      omega
    rw [if_neg hg, State.rd_wr_ne (hk _ rfl (by decide)), State.rd_wr_ne (hk _ rfl (by decide)),
      State.rd_wr_ne (hk _ rfl (by decide))]

theorem State.fitGroup_scan (g : Nat) : (s.fitGroup g).scan = s.scan := by
  unfold State.fitGroup State.failGroup State.wrBit
  dsimp only
  split
  · split
    · rfl
    · rw [State.logc_scan, State.event_scan, State.wrB_scan, State.wr_scan]
  · rfl

theorem State.setLanes_readmit (g fail : Nat) : (s.setLanes g fail).scan.readmit = s.scan.readmit := by
  simp only [State.setLanes, State.queueCtrl, State.wrBit, State.fitGroup_scan, State.modScan_scan, State.wr_scan, State.wrB_scan]

/-- The failed lanes of a group, and those that are to come back. -/
def State.groupLanes (s : State) (g : Nat) : Nat × BitVec 15 :=
  (s.rd PLK.GRP_STS.FAIL (groupHalf g) g, tget (fun _ => 0) s.scan.readmit g)

/-- What the blanking makes of them: the lanes to come back have failed no more (R208). -/
def lanesBack (x : Nat × BitVec 15) : Nat × BitVec 15 := (x.1 - (x.1 &&& x.2.toNat), 0)

/-- The maps of re-admitted lanes, in one group. -/
def State.readmitGroup (s : State) (g : Nat) : State :=
  let r := (tget (fun _ => 0) s.scan.readmit g).toNat
  if r = 0 then s
  else
    let fail := s.rd PLK.GRP_STS.FAIL (groupHalf g) g
    (s.setLanes g (fail - (fail &&& r))).modScan (fun c => { c with readmit := tset (fun _ => 0) c.readmit g 0 })

theorem State.readmitLanes_eq : s.readmitLanes = s.each (List.range 16) State.readmitGroup := rfl

/-- Lanes come back in one group alone. -/
theorem State.readmitGroup_lanes (g x : Nat) :
    (s.readmitGroup g).groupLanes x = if x = g then lanesBack (s.groupLanes g) else s.groupLanes x := by
  unfold State.readmitGroup
  dsimp only
  by_cases hr : (tget (fun _ => 0) s.scan.readmit g).toNat = 0
  · rw [if_pos hr]
    split
    · subst x
      have hz : tget (fun _ => 0) s.scan.readmit g = 0 := BitVec.eq_of_toNat_eq hr
      unfold lanesBack State.groupLanes
      rw [hz]
      simp
    · rfl
  · rw [if_neg hr]
    unfold State.groupLanes
    rw [State.modScan_rd, State.setLanes_lanes, State.modScan_scan, State.setLanes_readmit, tget_tset]
    by_cases hx : x = g
    · subst x
      have hf : s.rd PLK.GRP_STS.FAIL (groupHalf g) g < 2 ^ 15 := s.rd_lt _ _ _
      rw [if_pos ⟨rfl, rfl⟩, if_pos rfl, if_pos rfl, Nat.mod_eq_of_lt (by omega)]
      rfl
    · rw [if_neg (fun h => hx h.2), if_neg hx, if_neg hx]

/-- In the blanking every group's lanes that were to come back have failed no more, and none is to come back (R208). -/
theorem State.readmitLanes_lanes {g : Nat} (hg : g < 16) : s.readmitLanes.groupLanes g = lanesBack (s.groupLanes g) := by
  have key (xs : List Nat) : xs.Nodup → ∀ u : State,
      (u.each xs State.readmitGroup).groupLanes g = if g ∈ xs then lanesBack (u.groupLanes g) else u.groupLanes g := by
    unfold State.each
    induction xs with
    | nil => exact fun _ u => rfl
    | cons x xs ih =>
      intro hn u
      obtain ⟨hx, hn⟩ := List.nodup_cons.1 hn
      rw [List.foldl_cons, ih hn, State.readmitGroup_lanes]
      by_cases e : g = x
      · subst e
        simp [hx]
      · simp [e]
  rw [State.readmitLanes_eq, key _ List.nodup_range, if_pos (List.mem_range.2 hg)]

/-! ### The rest of the blanking -/

/-- The Shutter check brings no lanes back. -/
theorem State.shutterCheck_readmit : s.shutterCheck.scan.readmit = s.scan.readmit := by
  have hq (u : State) (c a : Nat) : (u.queueAll c a).scan.readmit = u.scan.readmit := by rw [u.queueAll_scan]
  have ha (u : State) (w : Nat) (k : Bool) : (u.shutAbort w k).scan.readmit = u.scan.readmit := by rw [u.shutAbort_scan]
  unfold State.shutterCheck
  dsimp only
  split
  · split
    · split
      · exact hq _ _ _
      · rfl
    · rfl
  · split
    · split
      · rfl
      · exact ha _ _ _
    · split
      · split
        · rfl
        · split
          · rw [State.modScan_scan]
            simp only [hq, State.wr_scan]
          · split
            · simp only [State.wr_scan]
            · simp only [State.logc_scan, State.modScan_scan, State.wr_scan]
      · rfl

/-- Of the blanking, the re-admission alone changes the lanes of the groups (R208). -/
theorem State.blanking_lanes {g : Nat} (hg : g < 16) : s.blanking.groupLanes g = lanesBack (s.groupLanes g) := by
  obtain ⟨hl, -⟩ := linkPage (groupHalf g)
  have keep {t u : State} {ps : List Nat} (h : t.onPages u ps) (hr : u.scan.readmit = t.scan.readmit)
      (hp : ∀ d : Fin 2, PLK.PAGE + d.val ∉ NVS.PAGE :: EVT.PAGE :: (EVT.PAGE + 1) :: ps) : u.groupLanes g = t.groupLanes g :=
    Prod.ext (h.rd (hp _) hl (by decide)) (congrArg (tget (fun _ => 0) · g) hr)
  have ht (u : State) : u.laneTrims.groupLanes g = u.groupLanes g :=
    keep State.laneTrims_onPages (congrArg ScanSt.readmit (State.laneTrims_fr.same .scan)) (by decide)
  have hh (u : State) : u.hbmTrims.groupLanes g = u.groupLanes g :=
    keep State.hbmTrims_onPages (congrArg ScanSt.readmit (State.hbmTrims_fr.same .scan)) (by decide)
  rw [State.blanking, hh, ht, State.readmitLanes_lanes _ hg, keep State.shutterCheck_onPages s.shutterCheck_readmit (by decide)]

end

end

/-! RasterLines, clause by clause: line starts, frame starts, the line match and the markers. -/

section

section
variable (s : State)

/-! ### Line starts -/

theorem State.atNextLine_skew : s.atNextLine.eff_ SCN.MUL_SKEW = s.eff_ SCN.MUL_SKEW :=
  State.eff_of_same _ (s.atNextLine_fr.same .eff) _ _ _

theorem State.lineStart_weaver_clk {skew : Nat} (hr : s.mode.raster = .weaver) (hl : s.clk.line.toNat + 1 < s.vtotal) :
    (s.lineStart skew).clk =
      { s.atNextLine.clk with lineErr := (skew : Int) - (s.eff_ SCN.MUL_SKEW : Nat) } := by
  rw [s.lineStart_weaver hr hl, (State.leafLine_fr.same .clk : (State.leafLine _).clk = _), State.mullionCheck_clk,
    s.atNextLine_skew]

/-- A half B line start at another distance than the skew in force raises the event and counts (R189). -/
theorem State.lineStart_mullion {skew : Nat} (hr : s.mode.raster = .weaver) (hl : s.clk.line.toNat + 1 < s.vtotal)
    (hk : skew ≠ s.eff_ SCN.MUL_SKEW) :
    bit (s.lineStart skew).scan.mullion.toNat 0 = true ∧ (s.lineStart skew).flag SCN.PAGE 5 := by
  have hk' : skew ≠ s.atNextLine.eff_ SCN.MUL_SKEW := by rwa [s.atNextLine_skew]
  rw [s.lineStart_weaver hr hl, (State.leafLine_fr.same .scan : (State.leafLine _).scan = _)]
  refine ⟨State.mullionCheck_mullion _ hk', ?_⟩
  exact (State.onPages.refl (ps := []).frame State.leafLine_fr).flag (hf := State.mullionCheck_flag _ hk')

theorem State.lineStart_idle {skew : Nat} (h : s.mode.raster = .off ∨ s.vtotal ≤ s.clk.line.toNat + 1) :
    s.lineStart skew = s := if_pos h

theorem State.lineStart_keeps {skew : Nat} : s.keeps (s.lineStart skew)
    [.regs, .clk, .log, .mem, .scene, .frs, .scan, .lan, .tim, .leaf, .freeCtr, .sram] := State.lineStart_fr.keepsOf

/-- At the start of line 8,640 of the Sill raster the lanes of each group that were to come back have failed no more (R208). -/
theorem State.lineStart_readmit {skew : Nat} (hr : s.mode.raster = .sill) (hl : s.clk.line = 8639) {g : Nat} (hg : g < 16) :
    (s.lineStart skew).groupLanes g = lanesBack (s.groupLanes g) := by
  have hn : s.atNextLine.groupLanes g = s.groupLanes g :=
    Prod.ext (s.atNextLine_onPages.rd
        ((by decide : ∀ d : Fin 2, PLK.PAGE + d.val ∉ [NVS.PAGE, EVT.PAGE, EVT.PAGE + 1, FRS.PAGE]) _) (linkPage _).1 (by decide))
      (congrArg (fun c : ScanSt => tget (fun _ => 0) c.readmit g) (s.atNextLine_fr.same .scan))
  rw [s.lineStart_sill hr (by rw [hl]; decide), if_pos (by rw [hl]; rfl), State.blanking_lanes _ hg, hn]

theorem State.lineStart_sill_clk {skew : Nat} (hr : s.mode.raster = .sill) (hl : s.clk.line.toNat < 8699) :
    (s.lineStart skew).clk = s.atNextLine.clk := by
  rw [s.lineStart_sill hr hl]
  split
  · exact State.blanking_fr.same .clk
  · rfl

/-! ### Frame starts -/

section frame
variable {s} {fl skew : Nat} (hr : s.mode.raster = .weaver) (hl : s.clk.line.toNat + 1 = s.vtotal)
include hr hl

theorem State.frameStart_checked_fr : Fr 223389603 (s.frameChecked skew) (s.frameStart fl skew) := by
  rw [s.frameStart_parts hr hl]
  exact State.shutExpiryCheck_fr.next (State.rephaseStart_fr.next (State.servo_fr.next
    ((State.frameCycle_fr _).mono rfl) rfl) rfl) rfl

theorem State.frameStart_clk : (s.frameStart fl skew).clk =
    { s.atFrameEdge.clk with lineErr := (skew : Int) - (s.rd SCN.MUL_SKEW : Nat) } :=
  ((State.frameStart_checked_fr hr hl).same .clk).trans (s.frameChecked_clk skew)

/-- After its records and settings a frame start brings only panel drive registers into force. -/
theorem State.frameStart_eff {f : Fld} (hf : f.page + 0 ∉ [PDV.PAGE, PDV.PAGE + 1] := by decide)
    (hp : f.page + 0 < 4096 := by decide) (ho : f.off < 4096 := by decide) :
    (s.frameStart fl skew).eff_ f = (s.frameChecked skew).eff_ f := by
  rw [s.frameStart_parts hr hl, State.eff_of_same _ (State.shutExpiryCheck_fr.same .eff),
    State.eff_of_same _ (State.rephaseStart_fr.same .eff), State.eff_of_same _ (State.servo_fr.same .eff),
    State.frameCycle_eff _ hf hp ho]

theorem State.frameStart_retSts : (s.frameStart fl skew).rd RIM.RET_STS = s.rim.retNow.toNat := by
  rw [s.frameStart_parts hr hl, State.shutExpiryCheck_rd, State.rephaseStart_onPages.rd, (State.servo_onPages _ _).rd,
    (State.frameCycle_onPages _).rd, s.frameChecked_retSts]

theorem State.frameStart_retNow : (s.frameStart fl skew).rim.retNow = 0 :=
  (congrArg RimSt.retNow ((State.frameStart_checked_fr hr hl).same .rim)).trans (s.frameChecked_retNow skew)

/-- A half B line start at another distance than the skew written raises the event and counts, at line 0 too (R189). -/
theorem State.frameStart_mullion (hk : skew ≠ s.rd SCN.MUL_SKEW) :
    (s.frameStart fl skew).flag SCN.PAGE 5 ∧ bit (s.frameStart fl skew).scan.mullion.toNat 0 = true := by
  obtain ⟨hf, hm⟩ := s.frameChecked_mullion skew hk
  rw [s.frameStart_parts hr hl]
  constructor
  · exact State.shutExpiryCheck_flag _ (State.rephaseStart_flag _ (State.servo_flag _
      ((State.frameCycle_onPages _).flag (hf := hf))))
  · rw [State.shutExpiryCheck_mullion, State.rephaseStart_mullion, State.servo_mullion,
      ((State.frameCycle_fr _).same .scan : (State.frameCycle _).scan = _)]
    exact hm

/-- A free-running frame runs on LINE_PER without a trim (R191, R355). -/
theorem State.frameStart_freeRunning (hs : s.eff_ SCN.RATE_CTL.SRC = 3) (hp : s.scan.rephase = false) :
    (s.frameStart fl skew).rd SCN.LOCK_STS.STATE = 1 ∧
    (s.frameStart fl skew).rd SCN.LINE_EFF.PER = s.eff_ SCN.LINE_PER.PER ∧ (s.frameStart fl skew).scan.trim = 0 := by
  have hc : (s.frameChecked skew).frameCycle.eff_ SCN.RATE_CTL.SRC = 3 := by
    rw [State.frameCycle_eff, State.frameChecked_eff, hs]
  have hph : ((s.frameChecked skew).frameCycle.servo fl).scan.rephase = false := by
    rw [State.servo_freeRunning_rephase _ hc, ((State.frameCycle_fr _).same .scan : (State.frameCycle _).scan = _),
      s.frameChecked_rephase, hp]
  rw [s.frameStart_parts hr hl, State.rephaseStart_none _ hph]
  refine ⟨?_, ?_, ?_⟩
  · rw [State.shutExpiryCheck_rd, State.servo_freeRunning_lock _ hc]
  · rw [State.shutExpiryCheck_rd, State.servo_freeRunning_lineEff _ hc, State.frameCycle_eff, State.frameChecked_eff]
  · rw [State.shutExpiryCheck_trim, State.servo_freeRunning_trim _ hc]

end frame

end

end

/-! SUPPORT. The markers of the panel link. -/

section

/-- A frame that leaves the registers and hub SRAM alone. -/
theorem Fr.within {m : Nat} {s t : State} {ps : List Area} (h : Fr m s t)
    (hm : ∀ i < 28, m.testBit i = true → Area.ofNat i ∈ ps := by decide)
    (hr : m.testBit Area.regs.ctorIdx = false := by decide) (hs : m.testBit Area.sram.ctorIdx = false := by decide) :
    s.within t ps [] := by
  have hk : s.keepsRegs t [] := State.keepsRegs_of_regs (h.same .regs hr)
  exact ⟨h.keepsOf hm, hk, State.keepsHub_of hk (h.same .sram hs) (by decide)⟩

section
variable (s : State)

theorem State.markerMap_marker (h : Fin 2) : (s.markerMap h).scan.marker = s.scan.marker := by
  unfold State.markerMap
  refine s.each_induct (P := fun u => u.scan.marker = s.scan.marker) _ rfl (fun u g hu => ?_)
  split
  · rw [State.modScan_scan]
    exact hu
  · exact hu

/-- A marker goes out on a half, and the raster's state holds what it says (R197). -/
def State.mark (h : Fin 2) (f : MarkerSt → MarkerSt) (b : LaneBlk) : State :=
  ((s.modScan (fun c => { c with marker := c.marker.set h (f c.marker[h]) })).sendMarker h b).markerMap h

theorem State.mark_fr {s : State} {h : Fin 2} {f : MarkerSt → MarkerSt} {b : LaneBlk} : Fr 16941056 s (s.mark h f b) := by
  unfold State.mark
  exact State.markerMap_fr.next (State.sendMarker_fr.next (State.modScan_fr.mono rfl) rfl) rfl

theorem State.mark_marker (h : Fin 2) (f : MarkerSt → MarkerSt) (b : LaneBlk) :
    (s.mark h f b).scan.marker[h] = f s.scan.marker[h] := by
  have he : (s.mark h f b).scan.marker = s.scan.marker.set h (f s.scan.marker[h]) := by
    rw [State.mark, State.markerMap_marker, (State.sendMarker_fr.same .scan : (State.sendMarker _ h b).scan = _), State.modScan_scan]
  simp [he]

/-- The LOAD of the line before the one in progress (R197). -/
def State.loadMark (h : Fin 2) : State :=
  s.mark h (fun m => { m with load := some (s.clk.line.toNat - 1) }) (kBlk 2 (beBytes 2 (s.clk.line.toNat - 1)))

theorem State.loadMark_fr (h : Fin 2) : Fr 16941056 s (s.loadMark h) := State.mark_fr

theorem State.loadMark_load (h : Fin 2) : (s.loadMark h).scan.marker[h].load = some (s.clk.line.toNat - 1) := by
  unfold State.loadMark
  rw [State.mark_marker]

variable {s}

/-- A LOAD within the picture, but for the line that ends a Shutter exit. -/
theorem execLoadMarker_picture {h : Fin 2} (hm : s.marks h = true) (h1 : 1 ≤ s.clk.line.toNat) (h2 : s.clk.line.toNat < 8640)
    (hx : s.clk.line.toNat ≠ 1 ∨ s.rd SCN.SHUT_STS.STATE ≠ 5) : execLoadMarker h s = .next (s.loadMark h) := by
  have hx' : ¬ (s.clk.line.toNat = 1 ∧ (s.loadMark h).rd SCN.SHUT_STS.STATE = 5 ∧
      (s.loadMark h).scan.shutExit = some (s.loadMark h).clk.frame) := by
    rw [State.loadMark, (State.mark_fr).rd]
    rintro ⟨ha, hb, -⟩
    exact hx.elim (· ha) (· hb)
  unfold State.loadMark State.mark at *
  unfold execLoadMarker
  dsimp only
  rw [if_neg (by simp [hm]; omega), if_neg (show s.clk.line.toNat ≠ 8640 by omega), if_neg hx', ite_self]

/-- The LOAD of the last line ends the frame for half A (R197). -/
theorem execLoadMarker_last (hm : s.marks 0 = true) (hl : s.clk.line = 8640) :
    execLoadMarker 0 s = .next ((s.loadMark 0).event SCN.PAGE 2) := by
  have hn : s.clk.line.toNat = 8640 := by rw [hl]; rfl
  unfold State.loadMark State.mark execLoadMarker
  dsimp only
  rw [if_neg (by simp [hm, hn]), if_neg (by simp), if_pos hn, if_neg (fun hc => absurd (hc.1.symm.trans hn) (by decide))]

/-- The marker that a FRAME of the Weaver raster outside Shutter carries (R197). -/
def State.frameMark (s : State) (h : Fin 2) : MarkerSt :=
  { s.scan.marker[h] with
    frame := s.frameAfter, phase := s.phaseOf s.frameAfter
    band := if s.phaseOf s.frameAfter = 0 then s.rd PDV.WV_STS.BAND_NEXT h else s.rd PDV.WV_STS.BAND h
    sill := false, shutter := false }

theorem execFrameMarker_weaver {h : Fin 2} (hm : s.marks h = true) (hl : s.clk.line.toNat + 1 = s.vtotal)
    (hr : s.mode.raster = .weaver) (hs : s.rd SCN.SHUT_STS.STATE = 0) :
    execFrameMarker h s = .next (s.mark h (fun _ => s.frameMark h) (frameBlk (s.frameMark h))) := by
  have hn : (s.mode.raster == .sill) = false := by rw [hr]; rfl
  unfold State.mark State.frameMark execFrameMarker
  dsimp only
  rw [if_neg (by simp [hm, hl])]
  simp [hn, hs, State.band]

end

end

/-! O22 (`RasterLines`), clause by clause. -/

section

section
variable {s : State}

theorem lineStart_gives {p : State → Prop} {skew : BitVec 8} (h : p (s.lineStart skew.toNat)) : gives (.lineStart skew) s p :=
  ⟨_, rfl, h⟩

theorem frameStart_gives {p : State → Prop} {fl : BitVec 32} {skew : BitVec 8} (h : p (s.frameStart fl.toNat skew.toNat)) :
    gives (.frameStart fl skew) s p := ⟨_, rfl, h⟩

/-- A line start of the Weaver raster at the skew in force: the beam at the next line. -/
theorem lineStart_gives_onSkew (skew : BitVec 8) (hr : s.mode.raster = .weaver) (hl : s.clk.line.toNat + 1 < s.vtotal)
    (hk : skew.toNat = s.eff_ SCN.MUL_SKEW) : gives (.lineStart skew) s (fun t =>
      t.clk = { s.toLineEnd.clk with line := s.clk.line + 1, wc := 0, lineAt := s.toLineEnd.clk.now, lineErr := 0 } ∧
      s.keeps t [.regs, .clk, .log, .mem, .scene, .frs, .scan, .lan, .tim, .leaf, .freeCtr, .sram]) := by
  refine lineStart_gives ⟨?_, s.lineStart_keeps⟩
  rw [s.lineStart_weaver_clk hr hl, s.atNextLine_clk, hk, Int.sub_self]

/-- At another distance it counts a Mullion error. -/
theorem lineStart_gives_offSkew (skew : BitVec 8) (hr : s.mode.raster = .weaver) (hl : s.clk.line.toNat + 1 < s.vtotal)
    (hk : skew.toNat ≠ s.eff_ SCN.MUL_SKEW) : gives (.lineStart skew) s (fun t =>
      t.clk.line = s.clk.line + 1 ∧
      t.clk.lineErr = (skew.toNat : Int) - s.eff_ SCN.MUL_SKEW ∧
      bit t.scan.mullion.toNat 0 = true ∧
      t.flag SCN.PAGE 5 ∧
      s.keeps t [.regs, .clk, .log, .mem, .scene, .frs, .scan, .lan, .tim, .leaf, .freeCtr, .sram]) := by
  obtain ⟨hm, hf⟩ := s.lineStart_mullion hr hl hk
  refine lineStart_gives ⟨?_, ?_, hm, hf, s.lineStart_keeps⟩
  · rw [s.lineStart_weaver_clk hr hl, s.atNextLine_clk]
  · rw [s.lineStart_weaver_clk hr hl]

theorem lineStart_gives_sill (skew : BitVec 8) (hr : s.mode.raster = .sill) (hl : s.clk.line.toNat < 8699)
    (hn : s.clk.line ≠ 8639) : gives (.lineStart skew) s (fun t =>
      t.clk = { s.toLineEnd.clk with line := s.clk.line + 1, wc := 0, lineAt := s.toLineEnd.clk.now } ∧
      s.within t [.regs, .clk, .log, .scene, .frs, .tim, .sram] (s.runKeys)) := by
  have he : s.lineStart skew.toNat = s.atNextLine := by
    rw [s.lineStart_sill hr hl]
    exact if_neg (fun h => hn (by bv_omega))
  exact lineStart_gives (he ▸ ⟨s.atNextLine_clk, s.atNextLine_within⟩)

/-- The start of line 8,640 of the Sill raster brings lanes back. -/
theorem lineStart_gives_blanking (skew : BitVec 8) (hr : s.mode.raster = .sill) (hl : s.clk.line = 8639) :
    gives (.lineStart skew) s (fun t =>
      t.clk = { s.toLineEnd.clk with line := s.clk.line + 1, wc := 0, lineAt := s.toLineEnd.clk.now } ∧
      (∀ g : Fin 16, tget (fun _ => 0) t.scan.readmit g.val = 0) ∧
      (∀ g : Fin 16, t.rd PLK.GRP_STS.FAIL (groupHalf g.val) g.val = s.rd PLK.GRP_STS.FAIL (groupHalf g.val) g.val -
        (s.rd PLK.GRP_STS.FAIL (groupHalf g.val) g.val &&& (tget (fun _ => 0) s.scan.readmit g.val).toNat)) ∧
      s.keeps t [.regs, .clk, .log, .mem, .scene, .frs, .scan, .lan, .tim, .leaf, .freeCtr, .sram]) := by
  have hg (g : Fin 16) := s.lineStart_readmit (skew := skew.toNat) hr hl g.isLt
  refine lineStart_gives ⟨?_, fun g => congrArg Prod.snd (hg g), fun g => congrArg Prod.fst (hg g), s.lineStart_keeps⟩
  rw [s.lineStart_sill_clk hr (by rw [hl]; decide), s.atNextLine_clk]

theorem frameStart_keeps {fl skew : Nat} : s.keeps (s.frameStart fl skew)
    [.regs, .eff, .mode, .clk, .panel, .log, .mem, .scene, .wv, .frs, .rim, .scan, .tim, .leaf, .thm, .freeCtr, .hbm, .sram] :=
  State.frameStart_fr.keepsOf

theorem frameStart_gives_next (fl : BitVec 32) (skew : BitVec 8) (hr : s.mode.raster = .weaver)
    (hl : s.clk.line.toNat + 1 = s.vtotal) : gives (.frameStart fl skew) s (fun t =>
      t.clk.line = 0 ∧
      t.clk.wc = 0 ∧
      t.clk.lineAt = s.toLineEnd.clk.now ∧
      t.clk.frame = BitVec.ofNat 32 s.frameAfter ∧
      t.clk.fs = BitVec.ofNat 32 (s.fsFor s.frameAfter) ∧
      t.eff_ SCN.MUL_SKEW = s.rd SCN.MUL_SKEW ∧
      t.eff_ SCN.TRIM_MAX.WC = s.rd SCN.TRIM_MAX.WC ∧
      t.rd RIM.RET_STS = s.rim.retNow.toNat ∧
      t.rim.retNow = 0 ∧
      t.clk.lineErr = (skew.toNat : Int) - s.rd SCN.MUL_SKEW ∧
      ((skew.toNat ≠ s.rd SCN.MUL_SKEW → t.flag SCN.PAGE 5 ∧ bit t.scan.mullion.toNat 0 = true)) ∧
      s.keeps t [.regs, .eff, .mode, .clk, .panel, .log, .mem, .scene, .wv, .frs, .rim, .scan, .tim, .leaf, .thm, .freeCtr, .hbm, .sram]) := by
  obtain ⟨hline, hwc, hat, hf, hfs⟩ := s.atFrameEdge_beam
  have hc := State.frameStart_clk (fl := fl.toNat) (skew := skew.toNat) hr hl
  refine frameStart_gives ⟨?_, ?_, ?_, ?_, ?_, ?_, ?_, State.frameStart_retSts hr hl, State.frameStart_retNow hr hl, ?_,
    State.frameStart_mullion hr hl, frameStart_keeps⟩
  · rw [hc, ← hline]
  · rw [hc, ← hwc]
  · rw [hc, ← hat]
  · rw [hc, ← hf]
  · rw [hc, ← hfs]
  · rw [State.frameStart_eff hr hl, s.frameChecked_skew]
  · rw [State.frameStart_eff hr hl, s.frameChecked_trimMax]
  · rw [hc]

/-- Without a re-phase the next frame is numbered after the one in progress (R190). -/
theorem State.frameAfter_next (h : s.scan.rephaseTo = none) : BitVec.ofNat 32 s.frameAfter = s.clk.frame + 1 := by
  unfold State.frameAfter
  rw [h]
  apply BitVec.eq_of_toNat_eq
  simp [BitVec.toNat_add]

theorem frameStart_gives_freeRunning (fl : BitVec 32) (skew : BitVec 8) (hr : s.mode.raster = .weaver)
    (hl : s.clk.line.toNat + 1 = s.vtotal) (hs : s.eff_ SCN.RATE_CTL.SRC = 3) (ht : s.scan.rephaseTo = none)
    (hp : s.scan.rephase = false) : gives (.frameStart fl skew) s (fun t =>
      t.clk.frame = s.clk.frame + 1 ∧
      t.rd SCN.LOCK_STS.STATE = 1 ∧
      t.rd SCN.LINE_EFF.PER = s.eff_ SCN.LINE_PER.PER ∧
      t.scan.trim = 0 ∧
      s.keeps t [.regs, .eff, .mode, .clk, .panel, .log, .mem, .scene, .wv, .frs, .rim, .scan, .tim, .leaf, .thm, .freeCtr, .hbm, .sram]) := by
  obtain ⟨-, -, -, hf, -⟩ := s.atFrameEdge_beam
  obtain ⟨hlock, heff, htrim⟩ := State.frameStart_freeRunning (fl := fl.toNat) (skew := skew.toNat) hr hl hs hp
  refine frameStart_gives ⟨?_, hlock, heff, htrim, frameStart_keeps⟩
  rw [State.frameStart_clk hr hl, ← State.frameAfter_next ht, ← hf]

theorem frameStart_idle (fl : BitVec 32) (skew : BitVec 8) (h : s.mode.raster ≠ .weaver ∨ s.clk.line.toNat + 1 ≠ s.vtotal) :
    idle (.frameStart fl skew) s := congrArg Host.Outcome.next (if_pos h)

theorem lineMatch_gives (hr : s.mode.raster ≠ .off) (hl : s.clk.line.toNat = s.rd SCN.LM_POS.LINE)
    (hw : s.clk.wc.toNat = s.rd SCN.LM_POS.WC) : gives .lineMatch s (fun t =>
      t.flag SCN.PAGE 0 ∧ s.within t [.regs, .log, .sram] (eventKeys SCN.PAGE)) :=
  ⟨_, if_pos ⟨hr, hl, hw⟩, s.event_flag_self, State.event_fr.keepsOf, State.keepsRegs_refl.event (fun _ hk => hk),
    State.keepsHub_refl.event⟩

theorem lineMatch_idle (h : s.clk.line.toNat ≠ s.rd SCN.LM_POS.LINE ∨ s.clk.wc.toNat ≠ s.rd SCN.LM_POS.WC) :
    idle .lineMatch s := if_neg (fun ⟨_, hl, hw⟩ => h.elim (· hl) (· hw))

theorem loadMarker_gives (h : Fin 2) (hm : s.marks h = true) (h1 : 1 ≤ s.clk.line.toNat) (h2 : s.clk.line.toNat < 8640)
    (hx : s.clk.line.toNat ≠ 1 ∨ s.rd SCN.SHUT_STS.STATE ≠ 5) : gives (.loadMarker h) s (fun t =>
      t.scan.marker[h].load = some (s.clk.line.toNat - 1) ∧ s.within t [.scan, .lan, .freeCtr] []) :=
  ⟨_, execLoadMarker_picture hm h1 h2 hx, s.loadMark_load h, (s.loadMark_fr h).within⟩

theorem loadMarker_gives_last (hm : s.marks 0 = true) (hl : s.clk.line = 8640) : gives (.loadMarker 0) s (fun t =>
      t.scan.marker[(0 : Fin 2)].load = some 8639 ∧
      t.flag SCN.PAGE 2 ∧
      s.within t [.regs, .log, .scan, .lan, .freeCtr, .sram] (eventKeys SCN.PAGE)) := by
  obtain ⟨-, -, hh⟩ : s.within (s.loadMark 0) [.scan, .lan, .freeCtr] [] := (s.loadMark_fr 0).within
  have hf : Fr 151159041 s ((s.loadMark 0).event SCN.PAGE 2) := State.event_fr.next ((s.loadMark_fr 0).mono rfl) rfl
  refine ⟨_, execLoadMarker_last hm hl, ?_, State.event_flag_self _, hf.keepsOf, ?_, hh.event⟩
  · rw [State.event_scan, s.loadMark_load, hl]
    rfl
  · exact (State.keepsRegs_of_regs ((s.loadMark_fr 0).same .regs)).event (fun _ hk => hk)

theorem frameMarker_gives (h : Fin 2) (hm : s.marks h = true) (hl : s.clk.line.toNat + 1 = s.vtotal)
    (hr : s.mode.raster = .weaver) (hs : s.rd SCN.SHUT_STS.STATE = 0) : gives (.frameMarker h) s (fun t =>
      t.scan.marker[h] = s.frameMark h ∧ s.within t [.scan, .lan, .freeCtr] []) :=
  ⟨_, execFrameMarker_weaver hm hl hr hs, s.mark_marker h _ _, State.mark_fr.within⟩

end

/-- Settles O22: each line and frame start is followed part by part through the frames and register pages of its operations. -/
theorem rasterLines : Obligations.RasterLines := by
  intro s
  exact ⟨lineStart_gives_onSkew, lineStart_gives_offSkew, lineStart_gives_sill, lineStart_gives_blanking,
    fun skew h => congrArg Host.Outcome.next (s.lineStart_idle h), frameStart_gives_next, frameStart_gives_freeRunning, frameStart_idle,
    lineMatch_gives, lineMatch_idle, loadMarker_gives, loadMarker_gives_last, frameMarker_gives⟩

end

end Sys2Proof.Machine

namespace Sys2Proof.Machine

-- The memory limit of the check bounds the threads that wait for a lemma above: the proofs are elaborated one after another.
set_option Elab.async false

/-! SUPPORT. Frames of the statements as chains: what each shared operation changes, and how a record is still in the log of a state
that an operation before it has changed. -/

section

variable {s t u : State} {ps qs : List Area} {ks js : List Nat}

theorem State.keeps.next (h : s.keeps t ps) (k : t.keeps u qs) (hq : ∀ p ∈ qs, p ∈ ps := by decide) : s.keeps u ps :=
  fun p hp => Area.same_trans (h p hp) (k p (fun hm => hp (hq p hm)))

namespace State.within

theorem refl : s.within s ps ks := ⟨fun p _ => p.same_refl s, State.keepsRegs_refl, State.keepsHub_refl⟩

/-- A further change of some of the areas and registers. -/
theorem next (h : s.within t ps ks) (k : t.within u qs js) (hq : ∀ p ∈ qs, p ∈ ps := by decide)
    (hj : ∀ x ∈ js, x ∈ ks := by decide) : s.within u ps ks :=
  ⟨h.1.next k.1 hq, k.2.1.next h.2.1 hj, h.2.2.trans k.2.2⟩

/-- A further change whose frame leaves the registers and hub SRAM alone. -/
theorem frame {m : Nat} (h : s.within t ps ks) (k : Fr m t u) (hm : ∀ i < 28, m.testBit i = true → Area.ofNat i ∈ ps := by decide)
    (hr : m.testBit Area.regs.ctorIdx = false := by decide) (hs : m.testBit Area.sram.ctorIdx = false := by decide) :
    s.within u ps ks :=
  h.next (k.within (ps := ps) hm hr hs) (fun _ hp => hp) (fun _ hx => absurd hx List.not_mem_nil)

theorem same (h : s.within t ps ks) (p : Area) (hp : p ∉ ps := by decide) : p.same s t := h.1 p hp

theorem rd (h : s.within t ps ks) {f : Fld} {i x : Nat} (hk : f.key i x ∉ ks := by decide) : t.rd f i x = s.rd f i x := h.2.1.rd hk

theorem rdB (h : s.within t ps ks) {f : Fld} {i x : Nat} (hk : f.key i x ∉ ks := by decide) : t.rdB f i x = s.rdB f i x := by
  unfold State.rdB
  rw [h.rd hk]

end State.within

theorem State.within_of {m : Nat} (h : Fr m s t) (hk : s.keepsRegs t ks) (hh : s.keepsHub t)
    (hm : ∀ i < 28, m.testBit i = true → Area.ofNat i ∈ ps := by decide) : s.within t ps ks := ⟨h.keepsOf hm, hk, hh⟩

/-- A register written lies outside the bases of the event rings. -/
def offBase (k : Nat) : Prop := EVT.BASE.OFS.key 0 0 ≠ k ∧ EVT.BASE.OFS.key 1 0 ≠ k

theorem State.setReg_within {k : Nat} {v : BitVec 32} (hk : offBase k := by unfold offBase; decide) :
    s.within (s.setReg k v) [.regs] [k] :=
  State.within_of State.setReg_fr State.setReg_keepsRegs
    (State.keepsHub_of (ks := [k]) State.setReg_keepsRegs (by rw [State.setReg_ram]) (by simpa [offBase] using hk))

theorem State.wr_within {f : Fld} {v i x : Nat} (hk : offBase (f.key i x) := by unfold offBase; decide) :
    s.within (s.wr f v i x) [.regs] [f.key i x] := State.setReg_within hk

theorem State.wrB_within {f : Fld} {v : Bool} {i x : Nat} (hk : offBase (f.key i x) := by unfold offBase; decide) :
    s.within (s.wrB f v i x) [.regs] [f.key i x] := State.setReg_within hk

theorem State.logc_within {p c a b : Nat} : s.within (s.logc p c a b) [.regs, .log, .sram] (logKeys p) :=
  State.within_of State.logc_fr (State.keepsRegs_refl.logc (fun _ h => h)) State.keepsHub_refl.logc

theorem State.event_within {p b : Nat} : s.within (s.event p b) [.regs, .log, .sram] (eventKeys p) :=
  State.within_of State.event_fr (State.keepsRegs_refl.event (fun _ h => h)) State.keepsHub_refl.event

theorem State.takeFree_within {n : Nat} : s.within (s.takeFree n).2 [.freeCtr] [] := State.takeFree_fr.within

/-- A page whose wear is checked, and a counter that advances, write the store, its status and its log. -/
theorem State.wearCheck_within {p : Nat} : s.within (s.wearCheck p) [.regs, .log, .nvs, .sram] (NVS.STS.key 0 0 :: logKeys NVS.PAGE) := by
  unfold State.wearCheck
  dsimp only
  have h1 : s.within (s.wrB NVS.STS.WEAR true) [.regs, .log, .nvs, .sram] (NVS.STS.key 0 0 :: logKeys NVS.PAGE) :=
    State.within.refl.next State.wrB_within
  split
  · split
    · exact h1
    · exact ((h1.frame State.modNvs_fr).next State.event_within).next State.logc_within
  · exact .refl

theorem State.counterAdd_within {i n : Nat} :
    s.within (s.counterAdd i n) [.regs, .log, .nvs, .sram] (NVS.STS.key 0 0 :: logKeys NVS.PAGE) := by
  unfold State.counterAdd State.commitPage
  exact (State.within.refl.frame State.nvsCommitPage_fr).next State.wearCheck_within

theorem State.within.each {α : Type} {f : State → α → State} {xs : List α} (h : s.within t ps ks)
    (hf : ∀ (u : State) x, u.within (f u x) ps ks) : s.within (t.each xs f) ps ks := by
  unfold State.each
  induction xs generalizing t with
  | nil => exact h
  | cons x xs ih => exact ih (h.next (hf t x) (fun _ hp => hp) (fun _ hk => hk))

/-! ### Fields written -/

theorem setBits_fold_lt (fs : List (Fld × Nat)) (hf : ∀ x ∈ fs, x.1.hi < 32 ∧ x.1.lo ≤ x.1.hi) {n : Nat} (hn : n < 2 ^ 32) :
    fs.foldl (fun n x => setBits n x.1.hi x.1.lo x.2) n < 2 ^ 32 := by
  induction fs generalizing n with
  | nil => exact hn
  | cons x fs ih =>
    obtain ⟨hx, hfs⟩ := List.forall_mem_cons.1 hf
    exact ih hfs (setBits_lt hn hx.1 hx.2)

theorem State.wr_fieldsTo {f : Fld} {v i x k : Nat} (hk : f.key i x = k) : s.fieldsTo (s.wr f v i x) k [(f, v)] := by
  unfold State.fieldsTo
  rw [State.wr_reg, if_pos hk.symm, hk]
  rfl

namespace State.fieldsTo

variable {k : Nat} {fs : List (Fld × Nat)}

/-- A further field of the register is written. -/
theorem wr (h : s.fieldsTo t k fs) {f : Fld} {v i x : Nat} (hk : f.key i x = k)
    (hf : ∀ x ∈ fs, x.1.hi < 32 ∧ x.1.lo ≤ x.1.hi) : s.fieldsTo (t.wr f v i x) k (fs ++ [(f, v)]) := by
  unfold State.fieldsTo at h ⊢
  rw [State.wr_reg, if_pos hk.symm, hk, h, BitVec.toNat_ofNat, Nat.mod_eq_of_lt (setBits_fold_lt fs hf (BitVec.isLt _)),
    List.foldl_append]
  rfl

/-- The register keeps its value. -/
theorem keepsRegs (h : s.fieldsTo t k fs) (hr : t.keepsRegs u ks) (hk : k ∉ ks) : s.fieldsTo u k fs := (hr k hk).trans h

theorem within (h : s.fieldsTo t k fs) (hw : t.within u ps ks) (hk : k ∉ ks := by decide) : s.fieldsTo u k fs :=
  h.keepsRegs hw.2.1 hk

/-- The fields are counted from a state with the same register. -/
theorem from_ (h : t.fieldsTo u k fs) (e : t.reg k = s.reg k) : s.fieldsTo u k fs := by
  unfold State.fieldsTo at h ⊢
  rw [h, e]

end State.fieldsTo

/-! ### The log of a state that changed before the record -/

/-- What decides whether a record enters the log, and where, is the same in both states (R404, R477, R479). -/
structure State.sameLog (s t : State) : Prop where
  head : t.rd NVS.LOG_STS.HEAD = s.rd NVS.LOG_STS.HEAD
  wait : t.log.wait = s.log.wait
  budget : t.log.budget = s.log.budget
  day : t.log.budgetDay = s.log.budgetDay
  nvs : t.nvs = s.nvs
  clk : t.clk = s.clk

theorem State.sameLog.trans (h : s.sameLog t) (k : t.sameLog u) : s.sameLog u :=
  ⟨k.head.trans h.head, k.wait.trans h.wait, k.budget.trans h.budget, k.day.trans h.day, k.nvs.trans h.nvs, k.clk.trans h.clk⟩

theorem State.within.sameLog (h : s.within t ps ks) (hk : NVS.LOG_STS.HEAD.key 0 0 ∉ ks := by decide) (hl : Area.log ∉ ps := by decide)
    (hn : Area.nvs ∉ ps := by decide) (hc : Area.clk ∉ ps := by decide) : s.sameLog t := by
  have e : t.log = s.log := h.same .log hl
  exact ⟨h.rd hk, by rw [e], by rw [e], by rw [e], h.same .nvs hn, h.same .clk hc⟩

theorem State.counter_congr (h : t.nvs = s.nvs) (i : Nat) : t.counter i = s.counter i := by
  unfold State.counter State.cell State.pageData State.curCopy State.copyOk State.copy
  rw [h]

theorem State.sameLog.admits (h : s.sameLog t) (c : Nat) : t.logAdmits c = s.logAdmits c := by
  unfold State.logAdmits State.logNoRoom State.asmPages State.budgetSpent State.lifeS
  rw [h.head, h.wait, h.budget, h.day, State.counter_congr h.nvs, h.nvs, h.clk]

/-- The record of a cause stands where the log of an earlier state had its head. -/
theorem State.logged_of {p c : Nat} {args : Nat → Nat → Prop} (h : s.sameLog t) (k : t.logged u p c args) : s.logged u p c args := by
  unfold State.logged at k ⊢
  rw [h.admits, h.head] at k
  exact k

theorem State.logged.imp {p c : Nat} {args args' : Nat → Nat → Prop} (h : s.logged t p c args) (hi : ∀ a b, args a b → args' a b) :
    s.logged t p c args' := fun hc => by
  obtain ⟨h1, h2, h3, h4⟩ := h hc
  exact ⟨h1, h2, h3, hi _ _ h4⟩

/-! ### The shown power status -/

/-- The registers that the alarm relay depends on (R47, R390). -/
def relayKeys : List Nat :=
  [SYS.PWR_STS.key 0 0, FRS.ALM_STS.ACTIVE.key 0 0, LEF.STS.key 0 0, PLK.LINK_STS.FAILED.key 0 0, PLK.LINK_STS.FAILED.key 1 0,
    LEF.THR.UNPROV.key 0 0, THM.FAULT.key 0 0]

theorem State.within.pwrSts (h : s.within t ps ks) (hr : ∀ k ∈ relayKeys, k ∉ ks := by decide)
    (ha : ∀ p ∈ [Area.mode, .pwr, .panel, .eff, .scan, .rim], p ∉ ps := by decide) : t.pwrSts = s.pwrSts := by
  simp only [List.forall_mem_cons] at ha
  obtain ⟨hm, hp, hn, he, hs, hi, -⟩ := ha
  have em : t.mode = s.mode := h.same .mode hm
  have ep : t.pwr = s.pwr := h.same .pwr hp
  have en : t.panel = s.panel := h.same .panel hn
  have ee : t.eff = s.eff := h.same .eff he
  have es : t.scan = s.scan := h.same .scan hs
  have ei : t.rim = s.rim := h.same .rim hi
  have rd (f : Fld) (i : Nat) (hf : f.key i 0 ∈ relayKeys) : t.rd f i = s.rd f i := h.rd (hr _ hf)
  unfold State.pwrSts State.relayClosed State.freshFault State.leafFault State.leafFaults State.thermalFault State.powerFault
    State.rdB State.eff_
  rw [em, ep, en, ee, es, ei]
  simp only [rd SYS.PWR_STS 0 (by decide), rd FRS.ALM_STS.ACTIVE 0 (by decide), rd LEF.STS.ROLE 0 (by decide),
    rd LEF.STS.PARTNER_ROLE 0 (by decide), rd LEF.STS.HINGE_UP 0 (by decide), rd PLK.LINK_STS.FAILED 0 (by decide),
    rd PLK.LINK_STS.FAILED 1 (by decide), rd LEF.THR.UNPROV 0 (by decide), rd THM.FAULT 0 (by decide)]

end

end Sys2Proof.Machine

namespace Sys2Proof.Machine

set_option Elab.async false

/-! O1 (`PowerSupply`): feeds, the holdup charge and its measurement. -/

section

variable {s t : State}

/-! ### Shared operations -/

theorem State.takeFree_pwrSts (n : Nat) : (s.takeFree n).2.pwrSts = s.pwrSts := State.takeFree_within.pwrSts

theorem State.powerLog_on {c : Nat} (h : s.mode.supply = .on) :
    s.powerLog c = (s.takeFree 32).2.logc SYS.PAGE c (s.takeFree 32).2.pwrSts (s.takeFree 32).1.toNat := if_pos h

theorem State.powerLog_off {c : Nat} (h : s.mode.supply ≠ .on) : s.powerLog c = s := if_neg h

theorem State.powerLog_within {c : Nat} : s.within (s.powerLog c) [.regs, .log, .freeCtr, .sram] (logKeys SYS.PAGE) := by
  by_cases h : s.mode.supply = .on
  · rw [State.powerLog_on h]
    exact (State.within.refl.next State.takeFree_within).next State.logc_within
  · rw [State.powerLog_off h]
    exact .refl

/-- The record of a power log holds PWR_STS as it stands (R484). -/
theorem State.powerLog_logged {c : Nat} (h : s.mode.supply = .on) :
    s.logged (s.powerLog c) SYS.PAGE c (fun a _ => a = (s.powerLog c).pwrSts) := by
  rw [State.powerLog_within.pwrSts, State.powerLog_on h]
  exact (State.logged_of State.takeFree_within.sameLog (State.logged_logc _ _ _ _ _)).imp
    (fun a b hab => hab.1.trans (State.takeFree_pwrSts 32))

theorem State.showStage_within {k : Nat} : s.within (s.showStage k) [.regs] [SYS.START_STS.key 0 0] := by
  unfold State.showStage
  dsimp only
  split
  · exact .refl
  · exact State.wr_within

/-- A stage from 12 on stays; else the greater of the shown stage and the one reached shows, stages not all being done (R57, R69). -/
theorem State.showStage_stage {k : Nat} (h : s.rd SYS.START_STS.STAGE ≤ k) (hk : k < 11) (hd : s.stagesDone = false) :
    (s.showStage k).rd SYS.START_STS.STAGE = k := by
  unfold State.showStage
  dsimp only
  rw [if_neg (by omega), hd, Bool.false_and, if_neg Bool.false_ne_true, if_neg (by omega),
    State.rd_wr (f := SYS.START_STS.STAGE) (by decide) (by decide), Nat.max_eq_right h, Nat.mod_eq_of_lt]
  exact Nat.lt_trans hk (by decide)

theorem State.payOwed_within : s.within s.payOwed [.regs, .boot, .log, .nvs, .sram] (NVS.STS.key 0 0 :: logKeys NVS.PAGE) := by
  unfold State.payOwed
  refine State.within.frame (.each .refl (fun u i => ?_)) State.modBoot_fr
  exact State.within.refl.next State.counterAdd_within (by decide) (fun _ h => h)

theorem State.payOwed_boot : s.payOwed.boot = { s.boot with owed := [] } := by
  have h : (s.each s.boot.owed (fun s i => s.counterAdd i 1)).boot = s.boot :=
    (Fr.each (.refl : Fr _ s s) (fun u i => State.counterAdd_fr)).same .boot
  unfold State.payOwed
  rw [State.modBoot_boot, h]

theorem State.payOwed_none (h : s.boot.owed = []) : s.payOwed = s := by
  have e : s.payOwed = s.modBoot (fun b => { b with owed := [] }) := by
    unfold State.payOwed
    rw [h]
    rfl
  rw [e]
  unfold State.modBoot
  rw [← h]

theorem State.startFail_within {c : Nat} :
    s.within (s.startFail c) [.regs, .log, .sram] (SYS.START_STS.key 0 0 :: logKeys SYS.PAGE) :=
  (State.within.refl.next State.wr_within).next State.logc_within

theorem State.startFail_fail {c : Nat} : s.fieldsTo (s.startFail c) (SYS.START_STS.key 0 0) [(SYS.START_STS.FAIL, c)] :=
  State.fieldsTo.within (State.wr_fieldsTo (f := SYS.START_STS.FAIL) rfl) State.logc_within

/-- A start's failure is logged with START_STS as it then stands (R483, R484). -/
theorem State.startFail_logged {c : Nat} :
    s.logged (s.startFail c) SYS.PAGE 0x2A (fun a b => a = (s.startFail c).rd SYS.START_STS ∧ b = 0) := by
  have h : (s.startFail c).rd SYS.START_STS = (s.wr SYS.START_STS.FAIL c).rd SYS.START_STS := State.logc_within.rd
  rw [h]
  have hw : s.within (s.wr SYS.START_STS.FAIL c) [.regs] [SYS.START_STS.FAIL.key 0 0] := State.wr_within
  exact State.logged_of hw.sameLog (State.logged_logc _ _ _ _ _)

/-! ### Feeds -/

theorem feedOkBit_key (f : Fin 2) : (feedOkBit f).key 0 0 = SYS.PWR_STS.key 0 0 := by
  unfold feedOkBit
  split <;> rfl

theorem feedOvBit_key (f : Fin 2) : (feedOvBit f).key 0 0 = SYS.PWR_STS.key 0 0 := by
  unfold feedOvBit
  split <;> rfl

/-- A bit of PWR_STS is written and the power faults change: what the feed commands have in common. -/
def State.feedChange (s : State) (b : Fld) (v : Bool) (p : PowerSt → PowerSt) : State := (s.wrB b v).modPwr p

section
variable {b : Fld} {v : Bool} {p : PowerSt → PowerSt} (hb : b.key 0 0 = SYS.PWR_STS.key 0 0)
include hb

theorem State.feedChange_within : s.within (s.feedChange b v p) [.regs, .pwr] [SYS.PWR_STS.key 0 0] := by
  have h : s.within (s.wrB b v) [.regs] [b.key 0 0] := State.wrB_within (by rw [hb]; unfold offBase; decide)
  rw [hb] at h
  exact (State.within.refl.next h).frame State.modPwr_fr

theorem State.feedChange_fieldsTo : s.fieldsTo (s.feedChange b v p) (SYS.PWR_STS.key 0 0) [(b, b2n v)] :=
  State.wr_fieldsTo hb

end

/-- The feed change, logged where a start has begun. -/
theorem State.feedChange_logged {b : Fld} {v : Bool} {p : PowerSt → PowerSt} {c : Nat} (hb : b.key 0 0 = SYS.PWR_STS.key 0 0)
    (hs : s.mode.supply = .on) :
    s.fieldsTo ((s.feedChange b v p).powerLog c) (SYS.PWR_STS.key 0 0) [(b, b2n v)] ∧
    ((s.feedChange b v p).powerLog c).pwr = p s.pwr ∧
    s.logged ((s.feedChange b v p).powerLog c) SYS.PAGE c (fun a _ => a = ((s.feedChange b v p).powerLog c).pwrSts) ∧
    s.within ((s.feedChange b v p).powerLog c) [.regs, .pwr, .log, .freeCtr, .sram] ([SYS.PWR_STS.key 0 0] ++ logKeys SYS.PAGE) := by
  have hw := State.feedChange_within (s := s) (v := v) (p := p) hb
  refine ⟨(State.feedChange_fieldsTo hb).within State.powerLog_within, ?_, ?_, (State.within.refl.next hw).next State.powerLog_within⟩
  · exact State.powerLog_within.same .pwr
  · exact State.logged_of hw.sameLog (State.powerLog_logged hs)

theorem feedOk_gives (f : Fin 2) : gives (.feedOk f) s (fun t =>
      s.fieldsTo t (SYS.PWR_STS.key 0 0) [((feedOkBit f), 1)] ∧
      t.pwr = { s.pwr with pfFeed := s.pwr.pfFeed.set f false } ∧
      s.within t [.regs, .pwr] [SYS.PWR_STS.key 0 0]) :=
  ⟨_, rfl, State.feedChange_fieldsTo (feedOkBit_key f), rfl, State.feedChange_within (feedOkBit_key f)⟩

/-- What a feed that is lost changes before its record. -/
def State.feedGone (s : State) (f : Fin 2) : State :=
  s.feedChange (feedOkBit f) false (fun p => { p with pfFeed := p.pfFeed.set f true, measuring := false })

/-- What an overvoltage changes before its record. -/
def State.feedOver (s : State) (f : Fin 2) : State :=
  s.feedChange (feedOvBit f) true (fun p => { p with pfOv := p.pfOv.set f true, measuring := false })

theorem execFeedLost_new {f : Fin 2} (h : s.pwr.pfFeed[f] = false ∨ s.rdB (feedOkBit f) = true) :
    execFeedLost f s = .next ((s.feedGone f).powerLog 0x2C) :=
  if_neg (by rintro ⟨h1, h2⟩; simp [h1, h2] at h)

theorem feedLost_gives_quiet (f : Fin 2) (hs : s.mode.supply ≠ .on) (h : s.pwr.pfFeed[f] = false ∨ s.rdB (feedOkBit f) = true) :
    gives (.feedLost f) s (fun t =>
      s.fieldsTo t (SYS.PWR_STS.key 0 0) [((feedOkBit f), 0)] ∧
      t.pwr = { s.pwr with pfFeed := s.pwr.pfFeed.set f true, measuring := false } ∧
      s.within t [.regs, .pwr] [SYS.PWR_STS.key 0 0]) := by
  refine ⟨_, execFeedLost_new h, ?_⟩
  rw [State.powerLog_off (s := s.feedGone f) hs]
  exact ⟨State.feedChange_fieldsTo (feedOkBit_key f), rfl, State.feedChange_within (feedOkBit_key f)⟩

theorem feedLost_gives_logged (f : Fin 2) (hs : s.mode.supply = .on) (h : s.pwr.pfFeed[f] = false ∨ s.rdB (feedOkBit f) = true) :
    gives (.feedLost f) s (fun t =>
      s.fieldsTo t (SYS.PWR_STS.key 0 0) [((feedOkBit f), 0)] ∧
      t.pwr = { s.pwr with pfFeed := s.pwr.pfFeed.set f true, measuring := false } ∧
      s.logged t SYS.PAGE 0x2C (fun a _ => a = t.pwrSts) ∧
      s.within t [.regs, .pwr, .log, .freeCtr, .sram] ([SYS.PWR_STS.key 0 0] ++ logKeys SYS.PAGE)) :=
  ⟨_, execFeedLost_new h, State.feedChange_logged (feedOkBit_key f) hs⟩

theorem feedLost_idle (f : Fin 2) (h : s.pwr.pfFeed[f] = true) (hb : s.rdB (feedOkBit f) = false) : idle (.feedLost f) s :=
  if_pos ⟨h, hb⟩

theorem feedOvervoltage_gives_logged (f : Fin 2) (hs : s.mode.supply = .on) : gives (.feedOvervoltage f) s (fun t =>
      s.fieldsTo t (SYS.PWR_STS.key 0 0) [((feedOvBit f), 1)] ∧
      t.pwr = { s.pwr with pfOv := s.pwr.pfOv.set f true, measuring := false } ∧
      s.logged t SYS.PAGE 0x2D (fun a _ => a = t.pwrSts) ∧
      s.within t [.regs, .pwr, .log, .freeCtr, .sram] ([SYS.PWR_STS.key 0 0] ++ logKeys SYS.PAGE)) :=
  ⟨(s.feedOver f).powerLog 0x2D, rfl, State.feedChange_logged (feedOvBit_key f) hs⟩

theorem feedOvervoltage_gives_quiet (f : Fin 2) (hs : s.mode.supply ≠ .on) : gives (.feedOvervoltage f) s (fun t =>
      s.fieldsTo t (SYS.PWR_STS.key 0 0) [((feedOvBit f), 1)] ∧
      t.pwr = { s.pwr with pfOv := s.pwr.pfOv.set f true, measuring := false } ∧
      s.within t [.regs, .pwr] [SYS.PWR_STS.key 0 0]) := by
  refine ⟨(s.feedOver f).powerLog 0x2D, rfl, ?_⟩
  rw [State.powerLog_off (s := s.feedOver f) hs]
  exact ⟨State.feedChange_fieldsTo (feedOvBit_key f), rfl, State.feedChange_within (feedOvBit_key f)⟩

theorem overvoltageCleared_gives (f : Fin 2) : gives (.overvoltageCleared f) s (fun t =>
      s.fieldsTo t (SYS.PWR_STS.key 0 0) [((feedOvBit f), 0)] ∧
      t.pwr = { s.pwr with pfOv := s.pwr.pfOv.set f false } ∧
      s.within t [.regs, .pwr] [SYS.PWR_STS.key 0 0]) :=
  ⟨_, rfl, State.feedChange_fieldsTo (feedOvBit_key f), rfl, State.feedChange_within (feedOvBit_key f)⟩

theorem alwaysOnRailUp_gives (hs : s.mode.supply = .off) : gives .alwaysOnRailUp s (fun t =>
      t.mode = { s.mode with supply := .aon } ∧ s.within t [.mode] []) :=
  ⟨_, congrArg Host.Outcome.next (if_pos hs), rfl, State.modMode_fr.within⟩

/-! ### The holdup charge -/

section
variable (hs : s.mode.supply = .on) (hc : s.pwr.charger = true) (hp : s.mode.power ≠ .discharge)
include hs hc hp

theorem execHoldRdy_on : execHoldRdy s = .next ((s.wrB SYS.PWR_STS.HOLD_RDY true).payOwed.showStage 3) := if_pos ⟨hs, hc, hp⟩

theorem holdRdy_gives : gives .holdRdy s (fun t =>
      t.rdB SYS.PWR_STS.HOLD_RDY = true ∧
      t.boot = { s.boot with owed := [] } ∧
      (s.rd SYS.START_STS.STAGE ≤ 3 → s.stagesDone = false → t.rd SYS.START_STS.STAGE = 3) ∧
      s.within t [.regs, .boot, .log, .nvs, .sram] ([SYS.PWR_STS.key 0 0, SYS.START_STS.key 0 0, NVS.STS.key 0 0] ++ logKeys NVS.PAGE)) := by
  have h1 : s.within (s.wrB SYS.PWR_STS.HOLD_RDY true) [.regs] [SYS.PWR_STS.key 0 0] := State.wrB_within
  have h2 : s.within (s.wrB SYS.PWR_STS.HOLD_RDY true).payOwed [.regs, .boot, .log, .nvs, .sram]
      ([SYS.PWR_STS.key 0 0, NVS.STS.key 0 0] ++ logKeys NVS.PAGE) := (State.within.refl.next h1).next State.payOwed_within
  refine ⟨_, execHoldRdy_on hs hc hp, ?_, ?_, fun h3 hd => ?_, ?_⟩
  · rw [State.showStage_within.rdB, State.payOwed_within.rdB]
    unfold State.rdB State.wrB
    rw [State.rd_wr (by decide) (by decide)]
    rfl
  · rw [State.showStage_within.same .boot, State.payOwed_boot]
    rfl
  · refine State.showStage_stage (by rw [h2.rd]; exact h3) (by decide) ?_
    have he : (s.wrB SYS.PWR_STS.HOLD_RDY true).payOwed.eff = s.eff := h2.same .eff
    unfold State.stagesDone State.paired State.role State.eff_ at hd ⊢
    rw [State.payOwed_boot, he, h2.rd]
    exact hd
  · exact (State.within.refl.next h2).next State.showStage_within

theorem holdRdy_gives_unowed (ho : s.boot.owed = []) : gives .holdRdy s (fun t =>
      t.rdB SYS.PWR_STS.HOLD_RDY = true ∧
      s.fieldsTo t (SYS.PWR_STS.key 0 0) [(SYS.PWR_STS.HOLD_RDY, 1)] ∧
      (s.rd SYS.START_STS.STAGE ≤ 3 → s.stagesDone = false → t.rd SYS.START_STS.STAGE = 3) ∧
      s.within t [.regs] [SYS.PWR_STS.key 0 0, SYS.START_STS.key 0 0]) := by
  obtain ⟨t, he, hr, -, hst, -⟩ := holdRdy_gives hs hc hp
  have e : t = (s.wrB SYS.PWR_STS.HOLD_RDY true).showStage 3 := by
    have e' := (execHoldRdy_on hs hc hp).symm.trans he
    rw [State.payOwed_none (s := s.wrB SYS.PWR_STS.HOLD_RDY true) ho] at e'
    exact (Host.Outcome.next.inj e').symm
  refine ⟨t, he, hr, ?_, hst, ?_⟩
  · exact e ▸ State.fieldsTo.within (State.wr_fieldsTo (f := SYS.PWR_STS.HOLD_RDY) rfl) State.showStage_within
  · exact e ▸ (State.within.refl.next State.wrB_within).next State.showStage_within

end

theorem holdTimeout_gives (hs : s.mode.supply = .on) (hp : s.mode.power ≠ .discharge) (hr : s.rdB SYS.PWR_STS.HOLD_RDY = false) :
    gives .holdTimeout s (fun t =>
      s.fieldsTo t (SYS.START_STS.key 0 0) [(SYS.START_STS.FAIL, 0x0301)] ∧
      t.pwr = { s.pwr with pfStart := true, holdTries := s.pwr.holdTries + 1 } ∧
      t.powerFault = true ∧
      s.logged t SYS.PAGE 0x2A (fun a b => a = t.rd SYS.START_STS ∧ b = 0) ∧
      s.within t [.regs, .pwr, .log, .sram] ([SYS.START_STS.key 0 0] ++ logKeys SYS.PAGE)) := by
  have h1 : s.within (s.modPwr (fun p => { p with pfStart := true, holdTries := p.holdTries + 1 })) [.pwr] [] := State.modPwr_fr.within
  have e : ((s.modPwr (fun p => { p with pfStart := true, holdTries := p.holdTries + 1 })).startFail 0x0301).pwr =
      { s.pwr with pfStart := true, holdTries := s.pwr.holdTries + 1 } := State.startFail_within.same .pwr
  refine ⟨_, if_pos ⟨hs, hp, hr⟩, State.startFail_fail.from_ rfl, e, ?_, State.logged_of h1.sameLog State.startFail_logged, ?_⟩
  · unfold State.powerFault
    rw [e]
    simp
  · exact (State.within.refl.next h1).next State.startFail_within

/-! ### The holdup measurement -/

theorem holdupMeasureStart_gives (h1 : s.rdB SYS.PWR_STS.HOLD_RDY = true) (h2 : s.rdB SYS.PWR_STS.FEED_A_OK = true)
    (h3 : s.rdB SYS.PWR_STS.FEED_B_OK = true) (h4 : s.rdB SYS.PWR_STS.FEED_A_OV = false) (h5 : s.rdB SYS.PWR_STS.FEED_B_OV = false)
    (h6 : s.mode.power ≠ .discharge) : gives .holdupMeasureStart s (fun t =>
      t.pwr = { s.pwr with measuring := true } ∧ s.within t [.pwr] []) :=
  ⟨_, if_pos ⟨h1, h2, h3, h4, h5, h6⟩, rfl, State.modPwr_fr.within⟩

theorem holdupMeasureStart_idle (h : s.rdB SYS.PWR_STS.HOLD_RDY = false ∨ s.rdB SYS.PWR_STS.FEED_A_OK = false ∨
      s.rdB SYS.PWR_STS.FEED_B_OK = false ∨ s.rdB SYS.PWR_STS.FEED_A_OV = true ∨ s.rdB SYS.PWR_STS.FEED_B_OV = true ∨
      s.mode.power = .discharge) : idle .holdupMeasureStart s :=
  if_neg (by rintro ⟨h1, h2, h3, h4, h5, h6⟩; simp [h1, h2, h3, h4, h5, h6] at h)

theorem holdupMeasureDone_idle (c : BitVec 32) (h : s.pwr.measuring = false) : idle (.holdupMeasureDone c) s :=
  if_neg (by rw [h]; exact Bool.false_ne_true)

/-- HOLD_MS and HOLD_DEGR are written and the measurement ends (R35, R36). -/
def State.measured (s : State) (ms : Nat) : State :=
  ((s.wr SYS.PWR_STS.HOLD_MS ms).wrB SYS.PWR_STS.HOLD_DEGR (decide (ms < 250))).modPwr
    (fun p => { p with measuring := false, pfHold := decide (ms < 250) })

section
variable (ms : Nat)

theorem State.measured_within : s.within (s.measured ms) [.regs, .pwr] [SYS.PWR_STS.key 0 0] :=
  ((State.within.refl.next State.wr_within).next State.wrB_within).frame State.modPwr_fr

theorem State.measured_fieldsTo : s.fieldsTo (s.measured ms) (SYS.PWR_STS.key 0 0)
    [(SYS.PWR_STS.HOLD_MS, ms), (SYS.PWR_STS.HOLD_DEGR, b2n (decide (ms < 250)))] :=
  ((State.wr_fieldsTo (f := SYS.PWR_STS.HOLD_MS) rfl).wr (f := SYS.PWR_STS.HOLD_DEGR) rfl (by simp [SYS.PWR_STS.HOLD_MS])).within
    (State.modPwr_fr.within (ps := [.pwr]))

theorem State.measured_holdMs (h : ms < 65536) : (s.measured ms).rd SYS.PWR_STS.HOLD_MS = ms := by
  unfold State.measured State.wrB
  rw [State.modPwr_rd, State.rd_wr_field (f := SYS.PWR_STS.HOLD_DEGR) (g := SYS.PWR_STS.HOLD_MS) rfl (by decide) (by decide)
    (by decide) (by decide), State.rd_wr (f := SYS.PWR_STS.HOLD_MS) (by decide) (by decide)]
  exact Nat.mod_eq_of_lt h

theorem State.measured_holdDegr : (s.measured ms).rdB SYS.PWR_STS.HOLD_DEGR = decide (ms < 250) := by
  unfold State.measured State.rdB State.wrB
  rw [State.modPwr_rd, State.rd_wr (by decide) (by decide)]
  cases decide (ms < 250) <;> rfl

end

/-- The end of a measurement, with its record where the value falls below 250 (R36). -/
def State.measureEnd (s : State) (ms : Nat) : State :=
  if decide (ms < 250) && !s.pwr.pfHold then (s.measured ms).logc SYS.PAGE 0x2E (s.measured ms).pwrSts 0 else s.measured ms

theorem execHoldupMeasureDone_on {c : BitVec 32} (h : s.pwr.measuring = true) :
    execHoldupMeasureDone c s = .next (s.measureEnd (min 0xFFFF (holdMs c.toNat))) := if_pos h

theorem State.measureEnd_within (ms : Nat) :
    (s.measured ms).within (s.measureEnd ms) [.regs, .log, .sram] (logKeys SYS.PAGE) := by
  unfold State.measureEnd
  split
  · exact State.logc_within
  · exact .refl

/-- A measurement below 250 that begins a power fault is logged with PWR_STS (R36). -/
theorem State.measureEnd_logged {ms : Nat} (h : ms < 250) (hp : s.pwr.pfHold = false) :
    s.logged (s.measureEnd ms) SYS.PAGE 0x2E (fun a b => a = (s.measureEnd ms).pwrSts ∧ b = 0) := by
  rw [(State.measureEnd_within ms).pwrSts]
  unfold State.measureEnd
  rw [if_pos (by simp [h, hp])]
  exact State.logged_of (State.measured_within ms).sameLog (State.logged_logc _ _ _ _ _)

theorem State.measureEnd_holdMs {ms : Nat} (h : ms < 65536) : (s.measureEnd ms).rd SYS.PWR_STS.HOLD_MS = ms := by
  rw [(State.measureEnd_within ms).rd, State.measured_holdMs ms h]

theorem State.measureEnd_holdDegr (ms : Nat) : (s.measureEnd ms).rdB SYS.PWR_STS.HOLD_DEGR = decide (ms < 250) := by
  rw [(State.measureEnd_within ms).rdB, State.measured_holdDegr]

theorem State.measureEnd_pwr (ms : Nat) :
    (s.measureEnd ms).pwr = { s.pwr with measuring := false, pfHold := decide (ms < 250) } := by
  have h : (s.measureEnd ms).pwr = (s.measured ms).pwr := (State.measureEnd_within ms).same .pwr
  have e : ((s.wr SYS.PWR_STS.HOLD_MS ms).wrB SYS.PWR_STS.HOLD_DEGR (decide (ms < 250))).pwr = s.pwr :=
    ((State.wr_fr (s := s)).trans State.wrB_fr).same .pwr
  rw [h, State.measured, State.modPwr_pwr, e]

/-- A measurement of 250 or more logs nothing. -/
theorem State.measureEnd_log {ms : Nat} (h : 250 ≤ ms) : (s.measureEnd ms).log = s.log := by
  unfold State.measureEnd
  rw [decide_eq_false (by omega), Bool.false_and, if_neg Bool.false_ne_true, State.measured, State.modPwr_log, State.wrB_log,
    State.wr_log]

theorem holdupMeasureDone_gives (c : BitVec 32) (h : s.pwr.measuring = true) : gives (.holdupMeasureDone c) s (fun t =>
      s.fieldsTo t (SYS.PWR_STS.key 0 0) [(SYS.PWR_STS.HOLD_MS, min 0xFFFF ((c.toNat * (6400 - 1296) / 2 * 9 / 10 - 53000) / 7000 + 2)), (SYS.PWR_STS.HOLD_DEGR, b2n (decide ((c.toNat * (6400 - 1296) / 2 * 9 / 10 - 53000) / 7000 + 2 < 250)))] ∧
      t.pwr.pfHold = decide (t.rd SYS.PWR_STS.HOLD_MS < 250) ∧
      t.pwr = { s.pwr with measuring := false, pfHold := t.pwr.pfHold } ∧
      (t.pwr.pfHold = true → s.pwr.pfHold = false → s.logged t SYS.PAGE 0x2E (fun a b => a = t.pwrSts ∧ b = 0)) ∧
      s.within t [.regs, .pwr, .log, .sram] ([SYS.PWR_STS.key 0 0] ++ logKeys SYS.PAGE)) := by
  have hm : min 0xFFFF (holdMs c.toNat) < 65536 := by omega
  have hd : decide (holdMs c.toNat < 250) = decide (min 0xFFFF (holdMs c.toNat) < 250) := by
    rw [decide_eq_decide]
    omega
  refine ⟨_, execHoldupMeasureDone_on h, ?_, ?_, ?_, fun hl hp => ?_, ?_⟩
  · have hf := (State.measured_fieldsTo (s := s) (min 0xFFFF (holdMs c.toNat))).within (State.measureEnd_within _)
    rw [← hd] at hf
    exact hf
  · rw [State.measureEnd_pwr, State.measureEnd_holdMs hm]
  · rw [State.measureEnd_pwr]
  · rw [State.measureEnd_pwr] at hl
    exact State.measureEnd_logged (of_decide_eq_true hl) hp
  · exact (State.within.refl.next (State.measured_within _)).next (State.measureEnd_within _)

/-- The worked values of R35: HOLD_MS of a bank of 1,200 and of one of 840 microfarads. -/
theorem holdMs_worked : min 0xFFFF (holdMs (1200 : BitVec 32).toNat) = 388 ∧ min 0xFFFF (holdMs (840 : BitVec 32).toNat) = 270 := by
  decide

theorem holdupMeasureDone_gives_1200 (h : s.pwr.measuring = true) : gives (.holdupMeasureDone 1200) s (fun t =>
      t.rd SYS.PWR_STS.HOLD_MS = 388 ∧
      t.rdB SYS.PWR_STS.HOLD_DEGR = false ∧
      (s.mode.supply = .on → s.pwr.pfHold = false → t.log = s.log)) := by
  refine ⟨_, execHoldupMeasureDone_on h, ?_⟩
  rw [holdMs_worked.1]
  exact ⟨State.measureEnd_holdMs (by decide), State.measureEnd_holdDegr 388, fun _ _ => State.measureEnd_log (by decide)⟩

theorem holdupMeasureDone_gives_840 (h : s.pwr.measuring = true) : gives (.holdupMeasureDone 840) s (fun t =>
      t.rd SYS.PWR_STS.HOLD_MS = 270 ∧ t.rdB SYS.PWR_STS.HOLD_DEGR = false) := by
  refine ⟨_, execHoldupMeasureDone_on h, ?_⟩
  rw [holdMs_worked.2]
  exact ⟨State.measureEnd_holdMs (by decide), State.measureEnd_holdDegr 270⟩

/-- Settles O1: each command's change is followed through the frames of its operations, its record through `State.sameLog`. -/
theorem powerSupply : Obligations.PowerSupply := by
  intro s
  exact ⟨feedOk_gives, feedLost_gives_quiet, feedLost_gives_logged, feedLost_idle, feedOvervoltage_gives_logged,
    feedOvervoltage_gives_quiet, overvoltageCleared_gives, alwaysOnRailUp_gives, holdRdy_gives_unowed, holdRdy_gives, holdTimeout_gives,
    holdupMeasureStart_gives, holdupMeasureStart_idle, holdupMeasureDone_idle, holdupMeasureDone_gives, holdupMeasureDone_gives_1200,
    holdupMeasureDone_gives_840⟩

end

end Sys2Proof.Machine

namespace Sys2Proof.Machine

set_option Elab.async false

/-! SUPPORT. The parameter store: what a completed page write leaves to read, and the value of a counter that advances (R396-R399,
R403). -/

section

theorem tfind_cons {α : Type} (a k : Nat) (w : α) (t : Table α) : tfind ((a, w) :: t) k = if a = k then some w else tfind t k := by
  by_cases e : a = k <;> simp [tfind, e]

theorem tfind_tput {α : Type} (t : Table α) (k k' : Nat) (v : α) : tfind (tput k v t) k' = if k = k' then some v else tfind t k' := by
  induction t with
  | nil => exact tfind_cons k k' v []
  | cons h t ih =>
    obtain ⟨a, w⟩ := h
    unfold tput
    split
    · exact tfind_cons k k' v _
    · split
      · subst_vars
        rw [tfind_cons, tfind_cons]
        split <;> rfl
      · rw [tfind_cons, tfind_cons, ih]
        split_ifs <;> first | rfl | omega

theorem tfind_tdel {α : Type} (t : Table α) (k k' : Nat) : tfind (tdel k t) k' = if k = k' then none else tfind t k' := by
  induction t with
  | nil => exact (ite_self _).symm
  | cons h t ih =>
    obtain ⟨a, w⟩ := h
    unfold tdel
    rw [tfind_cons]
    split
    · subst_vars
      rw [ih]
      split <;> rfl
    · rw [tfind_cons, ih]
      split_ifs <;> first | rfl | omega

/-- What a table lists after a write: nothing where the value is what an unlisted key reads as. -/
theorem tfind_tset {α : Type} [DecidableEq α] (d : Nat → α) (t : Table α) (k k' : Nat) (v : α) :
    tfind (tset d t k v) k' = if k = k' then (if v = d k then none else some v) else tfind t k' := by
  unfold tset
  by_cases h : v = d k <;> simp only [h, if_true, if_false, tfind_tdel, tfind_tput]

variable {s : State} {p q n : Nat}

theorem mkCopy_valid (p : Nat) (d : List Byte) (q : BitVec 32) : (mkCopy p d q).valid p = true := by
  simp [mkCopy, PageCopy.valid, PageCopy.head]

/-! ### Page writes -/

theorem State.nvsCommitPage_copy (d : List Byte) (k : Nat) : (s.nvsCommitPage p d).copy k =
    if k = s.writeCopy p then mkCopy p d (s.pageSeq p + 1) else s.copy k := tget_tset _ _ _ _ _

/-- A physical copy of another page, or the one that stays, is as valid as before. -/
theorem State.nvsCommitPage_copyOk_ne {d : List Byte} {k : Nat} (h : k ≠ s.writeCopy p) :
    (s.nvsCommitPage p d).copyOk k q = s.copyOk k q := by
  have e : tfind (s.nvsCommitPage p d).nvs.pages k = tfind s.nvs.pages k := (tfind_tset _ _ _ _ _).trans (if_neg h.symm)
  unfold State.copyOk
  rw [e]

/-- The copy written is valid: page 170 alone has none at delivery (R438). -/
theorem State.nvsCommitPage_copyOk_self {d : List Byte} (hp : p ≠ 170) : (s.nvsCommitPage p d).copyOk (s.writeCopy p) p = true := by
  have e : tfind (s.nvsCommitPage p d).nvs.pages (s.writeCopy p) =
      if mkCopy p d (s.pageSeq p + 1) = deliveredCopy (s.writeCopy p) then none else some (mkCopy p d (s.pageSeq p + 1)) :=
    (tfind_tset _ _ _ _ _).trans (if_pos rfl)
  unfold State.copyOk
  rw [e]
  split
  · rename_i c hc
    split at hc
    · cases hc
    · cases hc
      exact mkCopy_valid _ _ _
  · simpa using hp

/-- A sequence number and the next one, by signed difference (R398). -/
theorem sdiff32_next (q : BitVec 32) : sdiff32 (q + 1).toNat q.toNat = 1 ∧ sdiff32 q.toNat (q + 1).toNat = -1 := by
  have h := q.isLt
  have e : (q + 1).toNat = (q.toNat + 1) % 2 ^ 32 := BitVec.toNat_add q 1
  unfold sdiff32 sgn
  rw [e]
  constructor
  · rw [show ((q.toNat + 1) % 2 ^ 32 % 2 ^ 32 + 2 ^ 32 - q.toNat % 2 ^ 32) % 2 ^ 32 = 1 by omega]
    rfl
  · rw [show (q.toNat % 2 ^ 32 + 2 ^ 32 - (q.toNat + 1) % 2 ^ 32 % 2 ^ 32) % 2 ^ 32 = 2 ^ 32 - 1 by omega]
    rfl

/-- The two physical copies of a page, the current one first: what a page write turns on (R398, R399). -/
theorem State.writeCopy_cases (s : State) (p : Nat) :
    (s.curCopy p = some p ∧ s.writeCopy p = p + 4096 ∧ s.copyOk p p = true) ∨
    (s.curCopy p = some (p + 4096) ∧ s.writeCopy p = p ∧ s.copyOk (p + 4096) p = true) ∨
    (s.curCopy p = none ∧ s.writeCopy p = p ∧ s.copyOk (p + 4096) p = false) := by
  unfold State.writeCopy State.curCopy
  dsimp only
  by_cases hd : sdiff32 (s.copy (p + 4096)).seq.toNat (s.copy p).seq.toNat > 0 <;>
    cases s.copyOk p p <;> cases s.copyOk (p + 4096) p <;> simp [hd]

/-- A completed page write makes the copy it wrote the current one. -/
theorem State.nvsCommitPage_curCopy {d : List Byte} (hp : p ≠ 170) : (s.nvsCommitPage p d).curCopy p = some (s.writeCopy p) := by
  have hw := State.nvsCommitPage_copyOk_self (s := s) (d := d) hp
  have hs := sdiff32_next (s.pageSeq p)
  have hn : (s.nvsCommitPage p d).copy (s.writeCopy p) = mkCopy p d (s.pageSeq p + 1) := by rw [State.nvsCommitPage_copy, if_pos rfl]
  obtain ⟨hc, e, ho⟩ | ⟨hc, e, ho⟩ | ⟨hc, e, ho⟩ := s.writeCopy_cases p
  · have ho' : (s.nvsCommitPage p d).copyOk p p = true := (State.nvsCommitPage_copyOk_ne (by omega)).trans ho
    have hq : (s.nvsCommitPage p d).copy p = s.copy p := by rw [State.nvsCommitPage_copy, if_neg (by omega)]
    have hp' : s.pageSeq p = (s.copy p).seq := by unfold State.pageSeq; rw [hc]
    rw [e] at hw hn ⊢
    unfold State.curCopy
    rw [hn, hq, ho', hw, ← hp', show (mkCopy p d (s.pageSeq p + 1)).seq = s.pageSeq p + 1 from rfl, hs.1]
    rfl
  · have ho' : (s.nvsCommitPage p d).copyOk (p + 4096) p = true := (State.nvsCommitPage_copyOk_ne (by omega)).trans ho
    have hq : (s.nvsCommitPage p d).copy (p + 4096) = s.copy (p + 4096) := by rw [State.nvsCommitPage_copy, if_neg (by omega)]
    have hp' : s.pageSeq p = (s.copy (p + 4096)).seq := by unfold State.pageSeq; rw [hc]
    rw [e] at hw hn ⊢
    unfold State.curCopy
    rw [hn, hq, ho', hw, ← hp', show (mkCopy p d (s.pageSeq p + 1)).seq = s.pageSeq p + 1 from rfl, hs.2]
    rfl
  · have ho' : (s.nvsCommitPage p d).copyOk (p + 4096) p = false := (State.nvsCommitPage_copyOk_ne (by omega)).trans ho
    rw [e] at hw ⊢
    unfold State.curCopy
    rw [ho', hw]
    rfl

theorem State.nvsCommitPage_pageData_self {d : List Byte} (hp : p ≠ 170) : (s.nvsCommitPage p d).pageData p = some d := by
  unfold State.pageData
  rw [State.nvsCommitPage_curCopy hp, Option.map_some, State.nvsCommitPage_copy, if_pos rfl]
  rfl

/-- Another page reads as before. -/
theorem State.nvsCommitPage_pageData_ne {d : List Byte} (h : q ≠ p) (hp : p < 4096) (hq : q < 4096) :
    (s.nvsCommitPage p d).pageData q = s.pageData q := by
  have hw : s.writeCopy p = p ∨ s.writeCopy p = p + 4096 := by
    obtain ⟨-, e, -⟩ | ⟨-, e, -⟩ | ⟨-, e, -⟩ := s.writeCopy_cases p <;> simp [e]
  have h1 : q ≠ s.writeCopy p := by omega
  have h2 : q + 4096 ≠ s.writeCopy p := by omega
  have ec : (s.nvsCommitPage p d).curCopy q = s.curCopy q := by
    unfold State.curCopy
    rw [State.nvsCommitPage_copyOk_ne h1, State.nvsCommitPage_copyOk_ne h2, State.nvsCommitPage_copy, State.nvsCommitPage_copy,
      if_neg h1, if_neg h2]
  unfold State.pageData
  rw [ec]
  cases hc : s.curCopy q with
  | none => rfl
  | some k =>
    have hk : k = q ∨ k = q + 4096 := by
      obtain ⟨e, -⟩ | ⟨e, -⟩ | ⟨e, -⟩ := s.writeCopy_cases q <;> rw [hc] at e <;> simp at e <;> omega
    rw [Option.map_some, Option.map_some, State.nvsCommitPage_copy, if_neg (by omega)]

/-! ### Counters -/

theorem leNat_leBytes (n v : Nat) : leNat (leBytes n v) = v % 256 ^ n := by
  induction n generalizing v with
  | zero => simp [leBytes, leNat, Nat.mod_one]
  | succ n ih =>
    have e : v % 256 ^ (n + 1) = v % 256 + 256 * (v / 256 % 256 ^ n) := by rw [Nat.pow_succ', Nat.mod_mul]
    rw [leBytes, leNat, ih, BitVec.toNat_ofNat, e]

theorem leNat_lt (bs : List Byte) : leNat bs < 256 ^ bs.length := by
  induction bs with
  | nil => decide
  | cons b bs ih =>
    have hb := b.isLt
    simp only [leNat, List.length_cons, Nat.pow_succ']
    omega

theorem leAt_lt (d : List Byte) (o : Nat) : leAt d o 4 < 2 ^ 32 :=
  Nat.lt_of_lt_of_le (leNat_lt _) (Nat.le_trans (Nat.pow_le_pow_right (by decide) (List.length_take_le 4 _)) (by decide))

theorem State.counter_eq_sup (s : State) (i : Nat) : s.counter i = (Finset.range 16).sup (s.cell i) := by
  have h (n : Nat) : (List.range n).foldl (fun m k => max m (s.cell i k)) 0 = (Finset.range n).sup (s.cell i) := by
    induction n with
    | zero => rfl
    | succ n ih =>
      rw [List.range_succ, List.foldl_append, ih, Finset.range_add_one, Finset.sup_insert, max_comm]
      rfl
  exact h 16

/-- The first counter's cell is the first word of its page. -/
theorem leAt_splice_zero (d : List Byte) {v : Nat} (h : v < 2 ^ 32) : leAt (splice d (4 * 0) (leBytes 4 v)) (4 * 0) 4 = v := by
  have e : slice (splice d (4 * 0) (leBytes 4 v)) (4 * 0) 4 = leBytes 4 v := by
    unfold slice splice
    rw [Nat.mul_zero, List.take_zero, List.drop_zero, List.nil_append]
    exact List.take_left' (leBytes_length 4 v)
  unfold leAt
  rw [e, leNat_leBytes, Nat.mod_eq_of_lt (by simpa using h)]

theorem State.wearCheck_pages (s : State) (p : Nat) : (s.wearCheck p).nvs.pages = s.nvs.pages := by
  have hn (u : State) (a b c d e : Nat) : ((u.event a b).logc a c d e).nvs = u.nvs :=
    ((State.event_fr (s := u)).trans State.logc_fr).same .nvs
  unfold State.wearCheck
  dsimp only
  split
  · split
    · rfl
    · rw [hn]
      rfl
  · rfl

theorem State.pageData_congr {t : State} (h : t.nvs.pages = s.nvs.pages) (p : Nat) : t.pageData p = s.pageData p := by
  unfold State.pageData State.curCopy State.copyOk State.copy
  rw [h]

theorem State.commitPage_pageData {d : List Byte} : (s.commitPage p d).pageData q = (s.nvsCommitPage p d).pageData q :=
  State.pageData_congr (State.wearCheck_pages _ _) q

/-- RUN_MARK advances (R403): the new value is the greatest, so it is what the counter shows. -/
theorem State.counterAdd_runMark (n : Nat) : (s.counterAdd 0 n).counter 0 = satAdd 32 (s.counter 0) n := by
  have hv : satAdd 32 (s.counter 0) n < 2 ^ 32 := Nat.lt_of_le_of_lt (Nat.min_le_left _ _) (by decide)
  have hcell (k : Nat) (hk : k < 16) : (s.counterAdd 0 n).cell 0 k =
      if k = satAdd 32 (s.counter 0) n % 16 then satAdd 32 (s.counter 0) n else s.cell 0 k := by
    unfold State.counterAdd State.cell
    dsimp only
    rw [State.commitPage_pageData]
    split_ifs with e
    · rw [e, State.nvsCommitPage_pageData_self (by omega)]
      exact leAt_splice_zero _ hv
    · rw [State.nvsCommitPage_pageData_ne (by omega) (by omega) (by omega)]
  have hold (k : Nat) (hk : k < 16) : s.cell 0 k ≤ satAdd 32 (s.counter 0) n := by
    have h1 : s.cell 0 k ≤ s.counter 0 := by
      rw [State.counter_eq_sup]
      exact Finset.le_sup (f := s.cell 0) (Finset.mem_range.2 hk)
    have h2 : s.cell 0 k < 2 ^ 32 := by
      unfold State.cell
      split
      · exact leAt_lt _ _
      · decide
    unfold satAdd
    omega
  rw [State.counter_eq_sup]
  apply le_antisymm
  · refine Finset.sup_le (fun k hk => ?_)
    rw [hcell k (Finset.mem_range.1 hk)]
    split
    · exact le_refl _
    · exact hold k (Finset.mem_range.1 hk)
  · have hm : satAdd 32 (s.counter 0) n % 16 < 16 := Nat.mod_lt _ (by decide)
    have h := Finset.le_sup (f := (s.counterAdd 0 n).cell 0) (Finset.mem_range.2 hm)
    rw [hcell _ hm, if_pos rfl] at h
    exact h

end

end Sys2Proof.Machine

namespace Sys2Proof.Machine

set_option Elab.async false

/-! O3 (`PanelRails`): rails, their faults, and the lock time-out. -/

section

variable {s t : State}

/-! ### Event flags before a record -/

theorem State.ringPut_budget (s : State) (r : Fin 2) (p n : Nat) (f : Bool) :
    (s.ringPut r p n f).log.budget = s.log.budget ∧ (s.ringPut r p n f).log.budgetDay = s.log.budgetDay := by
  unfold State.ringPut State.ringFlag State.noteEv
  dsimp only
  repeat' split
  all_goals simp only [State.wr_log, State.wrB_log, State.bump_log, State.modLog_log, State.sramWr, State.modRam_log, and_self]

theorem State.report_budget (s : State) (p b : Nat) (f : Bool) :
    (s.report p b f).log.budget = s.log.budget ∧ (s.report p b f).log.budgetDay = s.log.budgetDay := by
  unfold State.report
  split
  · have h1 := s.ringPut_budget 0 p b f
    have h2 := (s.ringPut 0 p b f).ringPut_budget 1 p b f
    exact ⟨h2.1.trans h1.1, h2.2.trans h1.2⟩
  · exact ⟨rfl, rfl⟩

theorem State.event_budget (s : State) (p b : Nat) :
    (s.event p b).log.budget = s.log.budget ∧ (s.event p b).log.budgetDay = s.log.budgetDay := by
  unfold State.event
  extract_lets t u v
  have hv : v.log = s.log := by rw [State.wr_log, State.wr_log, State.wr_log]
  rw [(v.report_budget p b false).1, (v.report_budget p b false).2, hv]
  exact ⟨rfl, rfl⟩

/-- An event flag changes nothing that a record's entry depends on. -/
theorem State.event_sameLog (s : State) (p b : Nat) : s.sameLog (s.event p b) := by
  obtain ⟨hb, hd⟩ := s.event_budget p b
  exact ⟨s.event_head p b, s.event_wait p b, hb, hd, State.event_within.same .nvs, State.event_within.same .clk⟩

/-! ### A rail fault -/

/-- The registers of the panel drive lie off the event pages. -/
theorem railSts_key (h : Fin 2) : PDV.RAIL_STS.key h 0 ∉ [SYS.START_STS.key 0 0, NVS.STS.key 0 0] ++ logKeys NVS.PAGE ++
    eventKeys (PDV.PAGE + h) ++ logKeys (PDV.PAGE + h) := by
  revert h
  decide

theorem railSts_offBase (h : Fin 2) : offBase (PDV.RAIL_STS.key h 0) := by
  unfold offBase
  revert h
  decide

theorem drivePage_eventful (h : Fin 2) : PDV.PAGE + h.val ∉ [NVS.PAGE, EVT.PAGE, EVT.PAGE + 1] ∧ PDV.PAGE + h.val < 4096 := by
  revert h
  decide

/-- A field of RAIL_STS. -/
structure railField (f : Fld) : Prop where
  page : f.page = PDV.PAGE
  off : f.off = PDV.RAIL_STS.off

theorem railField.key {f : Fld} (hf : railField f) (h : Fin 2) : f.key h 0 = PDV.RAIL_STS.key h 0 := by
  unfold Fld.key
  rw [hf.page, hf.off]
  rfl

theorem railField_of (f : Fld) (h : f.page = PDV.PAGE ∧ f.off = PDV.RAIL_STS.off := by decide) : railField f := ⟨h.1, h.2⟩

/-- HEAD of the log lies elsewhere. -/
theorem railSts_head (h : Fin 2) : NVS.LOG_STS.HEAD.key 0 0 ∉ [PDV.RAIL_STS.key h 0] := by
  revert h
  decide

/-- FAULT and its power fault: a rail fault before its event and its record. -/
def State.railDown (s : State) (h : Fin 2) : State :=
  (s.wrB PDV.RAIL_STS.FAULT true h).modPanel (fun p => { p with railFaultPf := p.railFaultPf.set h true })

section
variable (h : Fin 2) (a : Nat)

theorem State.railFault_eq :
    s.railFault h a = ((s.railDown h).event (PDV.PAGE + h) 1).logc (PDV.PAGE + h) 0x67 ((s.railDown h).rd PDV.RAIL_STS h) a := rfl

theorem State.railDown_within : s.within (s.railDown h) [.regs, .panel] [PDV.RAIL_STS.key h 0] := by
  have hw : s.within (s.wrB PDV.RAIL_STS.FAULT true h) [.regs] [PDV.RAIL_STS.key h 0] := State.wrB_within (railSts_offBase h)
  exact (State.within.refl.next hw (by decide) (by simp)).frame State.modPanel_fr

/-- The event and the record of a rail fault write no register of the panel drive. -/
theorem State.railFault_after : (s.railDown h).within (s.railFault h a) [.regs, .log, .sram]
    (eventKeys (PDV.PAGE + h) ++ logKeys (PDV.PAGE + h)) :=
  (State.within.refl.next State.event_within (by decide) (fun _ hx => List.mem_append_left _ hx)).next State.logc_within (by decide)
    (fun _ hx => List.mem_append_right _ hx)

theorem State.railFault_within : s.within (s.railFault h a) [.regs, .panel, .log, .sram]
    ([PDV.RAIL_STS.key h 0] ++ eventKeys (PDV.PAGE + h) ++ logKeys (PDV.PAGE + h)) :=
  (State.within.refl.next (State.railDown_within h) (by decide) (by simp)).next (State.railFault_after h a) (by decide)
    (by simp +contextual)

theorem State.railFault_panel : (s.railFault h a).panel = { s.panel with railFaultPf := s.panel.railFaultPf.set h true } := by
  have e : (s.railFault h a).panel = (s.railDown h).panel := (State.railFault_after h a).same .panel
  have e1 : (s.wrB PDV.RAIL_STS.FAULT true h).panel = s.panel := State.wrB_fr.same .panel
  rw [e, State.railDown, State.modPanel_panel, e1]

theorem any_set_true (v : Vector Bool 2) (h : Fin 2) : (v.set h true).toList.any id = true := by
  have hx : (v.set h true)[h.val] = true := Vector.getElem_set_self _
  exact List.any_eq_true.2 ⟨_, Vector.mem_toList_iff.2 (Vector.getElem_mem h.isLt), hx⟩

/-- A rail fault is a power fault (R39). -/
theorem State.railFault_powerFault : (s.railFault h a).powerFault = true := by
  unfold State.powerFault
  rw [State.railFault_panel, any_set_true, Bool.or_true]

theorem State.railFault_flag : (s.railFault h a).flag (PDV.PAGE + h) 1 := by
  obtain ⟨hp, hl⟩ := drivePage_eventful h
  rw [State.railFault_eq]
  exact State.logc_flag _ (State.event_flag_self _ (fun hm => hp (List.mem_cons_of_mem _ hm)) hl) hp hl

/-- Behind its event and its record RAIL_STS is as the fault wrote it. -/
theorem State.railFault_rd {f : Fld} (hf : railField f) : (s.railFault h a).rd f h = (s.wrB PDV.RAIL_STS.FAULT true h).rd f h := by
  have hk : f.key h 0 ∉ eventKeys (PDV.PAGE + h) ++ logKeys (PDV.PAGE + h) := by
    rw [hf.key h]
    intro hm
    exact railSts_key h (List.mem_append.2 ((List.mem_append.1 hm).imp_left (fun he => List.mem_append_right _ he)))
  rw [(State.railFault_after h a).rd hk, State.railDown, State.modPanel_rd]

theorem State.railFault_fault : (s.railFault h a).rdB PDV.RAIL_STS.FAULT h = true := by
  unfold State.rdB
  rw [State.railFault_rd h a (railField_of _), State.wrB, State.rd_wr (f := PDV.RAIL_STS.FAULT) (by decide) (by decide)]
  rfl

/-- The other fields of RAIL_STS stay. -/
theorem State.railFault_field {f : Fld} (hf : railField f) (hl : f.lo ≤ f.hi)
    (hd : f.hi < PDV.RAIL_STS.FAULT.lo ∨ PDV.RAIL_STS.FAULT.hi < f.lo) : (s.railFault h a).rdB f h = s.rdB f h := by
  have hk : f.key h 0 = PDV.RAIL_STS.FAULT.key h 0 := by
    rw [hf.key h]
    exact (railField.key (railField_of PDV.RAIL_STS.FAULT) h).symm
  unfold State.rdB
  rw [State.railFault_rd h a hf, State.wrB, State.rd_wr_field (f := PDV.RAIL_STS.FAULT) (g := f) hk (by decide) (by decide) hl hd]

/-- The record of a rail fault holds RAIL_STS (R39). -/
theorem State.railFault_logged : s.logged (s.railFault h a) (PDV.PAGE + h) 0x67 (fun x y => x = (s.railFault h a).rd PDV.RAIL_STS h ∧ y = a) := by
  have e : (s.railFault h a).rd PDV.RAIL_STS h = (s.railDown h).rd PDV.RAIL_STS h := by
    rw [State.railFault_rd h a (railField_of _), State.railDown, State.modPanel_rd]
  have hs : s.sameLog ((s.railDown h).event (PDV.PAGE + h) 1) :=
    ((State.railDown_within h).sameLog (railSts_head h)).trans (State.event_sameLog _ _ _)
  rw [e, State.railFault_eq]
  exact State.logged_of hs (State.logged_logc _ _ _ _ _)

end

theorem railLim_field (r : Fin 4) : railField (railLim r) ∧ (railLim r).lo = (railLim r).hi ∧ (railLim r).hi < 32 ∧
    ((railLim r).hi < PDV.RAIL_STS.FAULT.lo ∨ PDV.RAIL_STS.FAULT.hi < (railLim r).lo) ∧
    (PDV.RAIL_STS.UP.hi < (railLim r).lo ∨ (railLim r).hi < PDV.RAIL_STS.UP.lo) := by
  have e : (railLim r).page = PDV.PAGE ∧ (railLim r).off = PDV.RAIL_STS.off ∧ (railLim r).lo = (railLim r).hi ∧ (railLim r).hi < 32 ∧
      ((railLim r).hi < PDV.RAIL_STS.FAULT.lo ∨ PDV.RAIL_STS.FAULT.hi < (railLim r).lo) ∧
      (PDV.RAIL_STS.UP.hi < (railLim r).lo ∨ (railLim r).hi < PDV.RAIL_STS.UP.lo) := by
    revert r
    decide
  exact ⟨⟨e.1, e.2.1⟩, e.2.2⟩

/-- A rail in limit shows its bit (R39). -/
def State.railLimit (s : State) (h : Fin 2) (r : Fin 4) (limit : Bool) : State := if limit then s.wrB (railLim r) true h else s

section
variable (h : Fin 2) (r : Fin 4) (limit : Bool)

theorem State.railLimit_within : s.within (s.railLimit h r limit) [.regs] [PDV.RAIL_STS.key h 0] := by
  have hk := (railLim_field r).1.key h
  unfold State.railLimit
  split
  · have hw : s.within (s.wrB (railLim r) true h) [.regs] [(railLim r).key h 0] :=
      State.wrB_within (by rw [hk]; exact railSts_offBase h)
    rwa [hk] at hw
  · exact .refl

theorem State.railLimit_up : (s.railLimit h r limit).rdB PDV.RAIL_STS.UP h = s.rdB PDV.RAIL_STS.UP h := by
  obtain ⟨hf, hl, h32, -, hd⟩ := railLim_field r
  unfold State.railLimit State.rdB State.wrB
  split
  · rw [State.rd_wr_field (f := railLim r) (g := PDV.RAIL_STS.UP) (((railField_of _).key h).trans (hf.key h).symm) h32 hl.le (by decide) hd]
  · rfl

theorem State.railLimit_set : (s.railLimit h r true).rdB (railLim r) h = true := by
  obtain ⟨-, hl, h32, -⟩ := railLim_field r
  rw [State.railLimit, if_pos rfl, State.rdB, State.wrB, State.rd_wr (f := railLim r) h32 hl.le, Fld.width, hl, Nat.add_sub_cancel_left]
  rfl

theorem railFault_gives (hu : s.rdB PDV.RAIL_STS.UP h = true) (hf : s.rdB PDV.RAIL_STS.FAULT h = false) :
    gives (.railFault h r limit) s (fun t =>
      t.rdB PDV.RAIL_STS.FAULT h = true ∧
      (limit = true → t.rdB (railLim r) h = true) ∧
      t.rdB PDV.RAIL_STS.UP h = true ∧
      t.panel = { s.panel with railFaultPf := s.panel.railFaultPf.set h true } ∧
      t.powerFault = true ∧
      t.flag (PDV.PAGE + h.val) 1 ∧
      s.logged t (PDV.PAGE + h.val) 0x67 (fun a b => a = t.rd PDV.RAIL_STS h ∧ b = r.val) ∧
      s.within t [.regs, .panel, .log, .sram] ([PDV.RAIL_STS.key h 0] ++ eventKeys (PDV.PAGE+h.val) ++ logKeys (PDV.PAGE+h.val))) := by
  have hw := State.railLimit_within (s := s) h r limit
  obtain ⟨hr, hl, -, hd, -⟩ := railLim_field r
  refine ⟨(s.railLimit h r limit).railFault h r, if_pos ⟨hu, hf⟩, State.railFault_fault h r, fun e => ?_, ?_, ?_,
    State.railFault_powerFault h r, State.railFault_flag h r, State.logged_of (hw.sameLog (railSts_head h)) (State.railFault_logged h r), ?_⟩
  · rw [State.railFault_field h r hr hl.le hd, e, State.railLimit_set]
  · rw [State.railFault_field h r (railField_of _) (by decide) (by decide), State.railLimit_up, hu]
  · have e : (s.railLimit h r limit).panel = s.panel := hw.same .panel
    rw [State.railFault_panel, e]
  · exact (State.within.refl.next hw (by decide) (by simp)).next (State.railFault_within h r) (by decide) (fun _ hx => hx)

theorem railFault_idle (hu : s.rdB PDV.RAIL_STS.UP h = false) : idle (.railFault h r limit) s :=
  if_neg (by rw [hu]; rintro ⟨h1, -⟩; cases h1)

end

/-! ### A panel unplugged -/

/-- What ends as a panel leaves its connector (R40). -/
def State.panelGone (s : State) (h : Fin 2) : State :=
  s.modPanel (fun p => { p with
    presN := p.presN.set h true, heaterOn := p.heaterOn.set h false
    gatesOn := p.gatesOn.set h false, allGate := p.allGate.set h false })

theorem panelUnplugged_gives_unpowered (h : Fin 2) (hu : s.rdB PDV.RAIL_STS.UP h = false) : gives (.panelUnplugged h) s (fun t =>
      t.panel = { s.panel with presN := s.panel.presN.set h true, heaterOn := s.panel.heaterOn.set h false, gatesOn := s.panel.gatesOn.set h false, allGate := s.panel.allGate.set h false } ∧
      s.within t [.panel] []) := by
  have e : execPanelUnplugged h s = .next (s.panelGone h) :=
    congrArg Host.Outcome.next (if_neg (by rw [← Bool.not_eq_true] at hu; exact hu))
  exact ⟨_, e, rfl, State.modPanel_fr.within⟩

theorem panelUnplugged_gives_powered (h : Fin 2) (hu : s.rdB PDV.RAIL_STS.UP h = true) : gives (.panelUnplugged h) s (fun t =>
      t.panel.presN[h] = true ∧
      t.panel.heaterOn[h] = false ∧
      t.panel.gatesOn[h] = false ∧
      t.panel.allGate[h] = false ∧
      t.rdB PDV.RAIL_STS.FAULT h = true ∧
      t.powerFault = true ∧
      t.flag (PDV.PAGE + h.val) 1 ∧
      s.logged t (PDV.PAGE + h.val) 0x67 (fun a _ => a = t.rd PDV.RAIL_STS h) ∧
      s.within t [.regs, .panel, .log, .sram] ([PDV.RAIL_STS.key h 0] ++ eventKeys (PDV.PAGE+h.val) ++ logKeys (PDV.PAGE+h.val))) := by
  have e : execPanelUnplugged h s = .next ((s.panelGone h).railFault h 0) := congrArg Host.Outcome.next (if_pos hu)
  have hw : s.within (s.panelGone h) [.panel] [] := State.modPanel_fr.within
  have hp := State.railFault_panel (s := s.panelGone h) h 0
  refine ⟨_, e, ?_, ?_, ?_, ?_, State.railFault_fault h 0, State.railFault_powerFault h 0, State.railFault_flag h 0,
    (State.logged_of hw.sameLog (State.railFault_logged h 0)).imp (fun _ _ hab => hab.1), ?_⟩
  · rw [hp]
    simp [State.panelGone]
  · rw [hp]
    simp [State.panelGone]
  · rw [hp]
    simp [State.panelGone]
  · rw [hp]
    simp [State.panelGone]
  · exact (State.within.refl.frame State.modPanel_fr).next (State.railFault_within h 0) (by decide) (fun _ hx => hx)

/-! ### Rails enabled -/

/-- The run marker is set before a rail rises (R62). -/
def State.marked (s : State) : State := if s.runMark then s else s.counterAdd 0 1

theorem State.marked_within : s.within s.marked [.regs, .log, .nvs, .sram] (NVS.STS.key 0 0 :: logKeys NVS.PAGE) := by
  unfold State.marked
  split
  · exact .refl
  · exact State.counterAdd_within

/-- An even RUN_MARK lies below the greatest value, so that the next one is odd. -/
theorem State.marked_runMark : s.marked.runMark = true := by
  unfold State.marked
  split
  · assumption
  · rename_i hm
    unfold State.runMark at hm ⊢
    have h1 : s.counter 0 % 2 = 0 := by simpa using hm
    have h2 : s.counter 0 < 2 ^ 32 := by
      rw [State.counter_eq_sup, Finset.sup_lt_iff (by decide)]
      intro k _
      unfold State.cell
      split
      · exact leAt_lt _ _
      · decide
    rw [State.counterAdd_runMark]
    unfold satAdd
    simp only [beq_iff_eq]
    omega

theorem State.runMark_of_nvs (h : t.nvs = s.nvs) : t.runMark = s.runMark := by
  unfold State.runMark
  rw [State.counter_congr h]

theorem State.railsAllowed_up {h : Fin 2} (ha : s.railsAllowed h = true) : s.rdB PDV.RAIL_STS.UP h = false := by
  unfold State.railsAllowed at ha
  cases hu : s.rdB PDV.RAIL_STS.UP h
  · rfl
  · simp [hu] at ha

theorem State.railsAllowed_present {h : Fin 2} (hp : s.panel.presN[h] = true) : s.railsAllowed h = false := by
  unfold State.railsAllowed
  simp [hp]

/-- What rises in the panel's state as a half's rails come up (R58). -/
def State.railsRise (s : State) (h : Fin 2) : State :=
  s.modPanel (fun p => { p with
    rails := p.rails.set h (sillRails (s.boot.cfg.sill.getD Rails.down) (s.clk.sillFrame % 2 == 1 && s.mode.raster == .sill)),
    driven := p.driven.set h true, railFaultPf := p.railFaultPf.set h false,
    gatesOn := p.gatesOn.set h (s.mode.raster == .sill), allGate := p.allGate.set h false })

/-- UP shows, the pins' drive ends and stage 3 shows. -/
def State.railsUp (s : State) (h : Fin 2) : State :=
  (((s.railsRise h).wrB PDV.RAIL_STS.UP true h).modBoot (fun b => { b with pinDrive := .none })).showStage 3

section
variable {h : Fin 2} (ha : s.railsAllowed h = true)
include ha

theorem execRailsEnable_up (hz : s.zoneStartOk h = true) : execRailsEnable h none s = .next (s.marked.railsUp h) := by
  unfold execRailsEnable
  rw [if_neg (by simp [ha]), if_neg (by simp [hz])]
  simp only [State.railsUp, State.railsRise, State.marked]

theorem execRailsEnable_missed (hz : s.zoneStartOk h = true) (r : Fin 4) :
    execRailsEnable h (some r) s = .next (s.marked.railFault h r) := by
  unfold execRailsEnable
  rw [if_neg (by simp [ha]), if_neg (by simp [hz])]
  simp only [State.marked]

theorem execRailsEnable_cold (hz : s.zoneStartOk h = false) (hl : s.thm.startLogged = false) (m : Option (Fin 4)) :
    execRailsEnable h m s = .next ((s.modThm (fun t => { t with startLogged := true })).logc THM.PAGE 0xE5 (s.rd THM.FAULT) (1 + h.val)) := by
  rw [execRailsEnable, if_neg (by simp [ha]), if_pos (by simp [hz]), if_neg (by simp [hl])]

end

section
variable (h : Fin 2)

theorem State.railsUp_within : s.within (s.railsUp h) [.regs, .panel, .boot] [PDV.RAIL_STS.key h 0, SYS.START_STS.key 0 0] := by
  have h1 : s.within (s.railsRise h) [.panel] [] := State.modPanel_fr.within
  have h2 : (s.railsRise h).within ((s.railsRise h).wrB PDV.RAIL_STS.UP true h) [.regs] [PDV.RAIL_STS.key h 0] :=
    State.wrB_within (railSts_offBase h)
  exact (((State.within.refl.next h1 (by decide) (by simp)).next h2 (by decide) (by simp)).frame State.modBoot_fr).next
    State.showStage_within (by decide) (by simp)

theorem State.railsUp_panel : (s.railsUp h).panel = (s.railsRise h).panel := by
  have e : (s.railsUp h).panel = (((s.railsRise h).wrB PDV.RAIL_STS.UP true h).modBoot (fun b => { b with pinDrive := .none })).panel :=
    State.showStage_within.same .panel
  rw [e, State.modBoot_panel, State.wrB_fr.same .panel]

theorem State.railsUp_pinDrive : (s.railsUp h).boot.pinDrive = .none := by
  have e : (s.railsUp h).boot = (((s.railsRise h).wrB PDV.RAIL_STS.UP true h).modBoot (fun b => { b with pinDrive := .none })).boot :=
    State.showStage_within.same .boot
  rw [e, State.modBoot_boot]

theorem State.railsUp_up : (s.railsUp h).rdB PDV.RAIL_STS.UP h = true := by
  have hk := railSts_key h
  unfold State.railsUp State.rdB State.wrB
  rw [State.showStage_within.rd (by revert h; decide), State.modBoot_rd, State.rd_wr (by decide) (by decide)]
  rfl

end

theorem railsEnable_gives_up (h : Fin 2) (ha : s.railsAllowed h = true) (hz : s.zoneStartOk h = true) :
    gives (.railsEnable h none) s (fun t =>
      t.rdB PDV.RAIL_STS.UP h = true ∧
      t.runMark = true ∧
      t.panel.rails[h] = sillRails (s.boot.cfg.sill.getD Rails.down) (s.clk.sillFrame % 2 == 1 && s.mode.raster == .sill) ∧
      t.panel.driven[h] = true ∧
      t.panel.allGate[h] = false ∧
      t.boot.pinDrive = .none ∧
      t.panel.gatesOn[h] = (s.mode.raster == .sill) ∧
      (∀ g : Fin 2, g ≠ h → t.panel.rails[g] = s.panel.rails[g]) ∧
      s.within t [.regs, .panel, .boot, .log, .nvs, .sram] ([PDV.RAIL_STS.key h 0, SYS.START_STS.key 0 0, NVS.STS.key 0 0] ++ logKeys NVS.PAGE)) := by
  have hw := State.marked_within (s := s)
  have hb : s.marked.boot = s.boot := hw.same .boot
  have hc : s.marked.clk = s.clk := hw.same .clk
  have hm : s.marked.mode = s.mode := hw.same .mode
  have hn : s.marked.panel = s.panel := hw.same .panel
  have hp := State.railsUp_panel (s := s.marked) h
  refine ⟨_, execRailsEnable_up ha hz, State.railsUp_up h, ?_, ?_, ?_, ?_, State.railsUp_pinDrive h, ?_, fun g hg => ?_, ?_⟩
  · rw [State.runMark_of_nvs (t := s.marked.railsUp h) ((State.railsUp_within h).same .nvs), State.marked_runMark]
  · rw [hp, State.railsRise, State.modPanel_panel, hb, hc, hm]
    simp
  · rw [hp]
    simp [State.railsRise]
  · rw [hp]
    simp [State.railsRise]
  · rw [hp, State.railsRise, State.modPanel_panel, hm]
    simp
  · have hv : h.val ≠ g.val := fun e => hg (Fin.ext e.symm)
    rw [hp, State.railsRise, State.modPanel_panel, hn]
    simp [hv]
  · refine (State.within.refl.next hw (by decide) (fun x hx => ?_)).next (State.railsUp_within h) (by decide) (by simp)
    obtain rfl | hx := List.mem_cons.1 hx
    · simp
    · exact List.mem_append_right _ hx

/-- The page of a panel drive's records is that of the store's, for the header and the shared registers. -/
theorem logKeys_store {h : Fin 2} {k : Nat} (hk : k ∈ NVS.STS.key 0 0 :: logKeys NVS.PAGE) :
    k ∈ [PDV.RAIL_STS.key h 0, NVS.STS.key 0 0] ++ eventKeys (PDV.PAGE + h.val) ++ logKeys (PDV.PAGE + h.val) := by
  revert k
  revert h
  decide

theorem railSts_store (h : Fin 2) : PDV.RAIL_STS.key h 0 ∉ NVS.STS.key 0 0 :: logKeys NVS.PAGE := by
  revert h
  decide

theorem railsEnable_gives_missed (h : Fin 2) (r : Fin 4) (ha : s.railsAllowed h = true) (hz : s.zoneStartOk h = true) :
    gives (.railsEnable h (some r)) s (fun t =>
      t.rdB PDV.RAIL_STS.UP h = false ∧
      t.rdB PDV.RAIL_STS.FAULT h = true ∧
      t.powerFault = true ∧
      t.runMark = true ∧
      s.within t [.regs, .panel, .log, .nvs, .sram] ([PDV.RAIL_STS.key h 0, NVS.STS.key 0 0] ++ eventKeys (PDV.PAGE+h.val) ++ logKeys (PDV.PAGE+h.val))) := by
  have hw := State.marked_within (s := s)
  refine ⟨_, execRailsEnable_missed ha hz r, ?_, State.railFault_fault h r, State.railFault_powerFault h r, ?_, ?_⟩
  · have e : s.marked.rdB PDV.RAIL_STS.UP h = s.rdB PDV.RAIL_STS.UP h :=
      hw.rdB (by rw [(railField_of PDV.RAIL_STS.UP).key h]; exact railSts_store h)
    rw [State.railFault_field h r (railField_of _) (by decide) (by decide), e, State.railsAllowed_up ha]
  · have e : (s.marked.railFault h r).nvs = s.marked.nvs := (State.railFault_within h r).same .nvs
    rw [State.runMark_of_nvs e, State.marked_runMark]
  · exact (State.within.refl.next hw (by decide) (fun _ hx => logKeys_store hx)).next (State.railFault_within h r) (by decide)
      (by simp +contextual)

theorem railSts_thermal (h : Fin 2) : PDV.RAIL_STS.key h 0 ∉ logKeys THM.PAGE := by
  revert h
  decide

theorem railsEnable_gives_cold (h : Fin 2) (m : Option (Fin 4)) (ha : s.railsAllowed h = true) (hz : s.zoneStartOk h = false)
    (hl : s.thm.startLogged = false) : gives (.railsEnable h m) s (fun t =>
      t.rdB PDV.RAIL_STS.UP h = false ∧
      s.logged t THM.PAGE 0xE5 (fun a b => a = s.rd THM.FAULT ∧ b = 1 + h.val) ∧
      t.thm = { s.thm with startLogged := true } ∧
      s.within t [.regs, .log, .thm, .sram] (logKeys THM.PAGE)) := by
  have h1 : s.within (s.modThm (fun t => { t with startLogged := true })) [.thm] [] := State.modThm_fr.within
  have hw := (State.within.refl (s := s) (ps := [.regs, .log, .thm, .sram]) (ks := logKeys THM.PAGE)).next h1
    (by decide) (by simp)
  have hw := hw.next (State.logc_within (p := THM.PAGE) (c := 0xE5) (a := s.rd THM.FAULT) (b := 1 + h.val))
  refine ⟨_, execRailsEnable_cold ha hz hl m, ?_, State.logged_of h1.sameLog (State.logged_logc _ _ _ _ _), ?_, hw⟩
  · rw [hw.rdB (by rw [(railField_of PDV.RAIL_STS.UP).key h]; exact railSts_thermal h), State.railsAllowed_up ha]
  · rw [State.logc_fr.same .thm, State.modThm_thm]

theorem railsEnable_idle (h : Fin 2) (m : Option (Fin 4)) (hp : s.panel.presN[h] = true) : idle (.railsEnable h m) s := by
  refine if_pos ?_
  rw [State.railsAllowed_present hp]
  rfl

theorem panelLockTimeout_gives (h : Fin 2) (hs : s.mode.supply = .on) (hp : s.mode.power = .sill) (hd : s.driversLocked h = false)
    (hu : s.rdB PDV.RAIL_STS.UP h = false) : gives (.panelLockTimeout h) s (fun t =>
      s.fieldsTo t (SYS.START_STS.key 0 0) [(SYS.START_STS.FAIL, 0x0203)] ∧
      s.logged t SYS.PAGE 0x2A (fun a b => a = t.rd SYS.START_STS ∧ b = 0) ∧
      s.within t [.regs, .log, .sram] ([SYS.START_STS.key 0 0] ++ logKeys SYS.PAGE)) :=
  ⟨_, if_pos ⟨hs, hd, hu, hp⟩, State.startFail_fail, State.startFail_logged, State.startFail_within⟩

end

/-- Settles O3: rails rise behind the run marker, a fault leaves its mark, its event and its record, and what cannot rise stays down. -/
theorem panelRails : Obligations.PanelRails := fun _ =>
  ⟨railsEnable_gives_up, railsEnable_gives_missed, railsEnable_gives_cold, railsEnable_idle, railFault_gives, fun h r l => railFault_idle h r l,
    panelUnplugged_gives_unpowered, panelUnplugged_gives_powered, panelLockTimeout_gives⟩

end Sys2Proof.Machine

namespace Sys2Proof.Machine

set_option Elab.async false

/-! O2 (`PowerFail`) fails: a read of the parameter store that waits behind a queued write runs at the power-fail warning, and finds
a torn copy whose rewrite it queues (R398, log entry 233), so that the queue is not empty for the journal. -/

section

variable {s t u : State}

/-! ### What the journal does with the queue -/

theorem State.wearCheck_q (p : Nat) : (s.wearCheck p).nvs.q = s.nvs.q := by
  have hn (u : State) (a b c d e : Nat) : ((u.event a b).logc a c d e).nvs = u.nvs :=
    ((State.event_fr (s := u)).trans State.logc_fr).same .nvs
  unfold State.wearCheck
  dsimp only
  split
  · split
    · rfl
    · rw [hn]
      rfl
  · rfl

theorem State.commitPage_q (p : Nat) (d : List Byte) : (s.commitPage p d).nvs.q = s.nvs.q := State.wearCheck_q p

theorem State.counterAdd_q {i n : Nat} : (s.counterAdd i n).nvs.q = s.nvs.q := by
  unfold State.counterAdd
  dsimp only
  rw [State.commitPage_q]

theorem State.logPageDone_nvs (p : Nat) (d : List Byte) : (s.logPageDone p d).nvs = s.nvs := State.logPageDone_fr.same .nvs

theorem State.journalPage_q (p : Nat) : (s.journalPage p).nvs.q = s.nvs.q := by
  unfold State.journalPage
  split
  · dsimp only
    rw [State.logPageDone_nvs, State.modNvs_nvs]
    dsimp only
    rw [State.commitPage_q]
  · rfl

/-- The journal takes nothing from the queue and adds nothing to it (R401). -/
theorem State.journalFirst_q : s.journalFirst.nvs.q = s.nvs.q := by
  unfold State.journalFirst
  extract_lets p a b
  have ha : a.nvs.q = s.nvs.q := State.journalPage_q p
  have hc (i n : Nat) : (a.counterAdd i n).nvs.q = s.nvs.q := State.counterAdd_q.trans ha
  have hb : b.nvs.q = s.nvs.q := by
    unfold b
    rw [State.modNvs_nvs]
    dsimp only
    rw [hc]
  exact State.each_induct b (P := fun u => u.nvs.q = s.nvs.q) _ hb (fun u p hu => (State.journalPage_q p).trans hu)

/-! ### A read with a torn copy -/

/-- A rewrite of a page that has one valid copy enters the queue (R398). -/
theorem State.readTrouble_q {p : Nat} {d : List Byte} (hd : s.pageData p = some d) (hc : (s.copyOk p p && s.copyOk (p + 4096) p) = false)
    (hn : s.nvs.cur = none) (hq : s.nvs.q = []) :
    (s.readTrouble p).nvs.q = [{ page := p, data := d, by_ := .scrub, pwd := none }] := by
  have hl (u : State) (a b c d : Nat) : (u.logc a b c d).nvs = u.nvs := State.logc_fr.same .nvs
  have hs (u : State) : u.nvsSts.nvs = u.nvs := State.nvsSts_fr.same .nvs
  unfold State.readTrouble
  rw [hd]
  dsimp only
  rw [if_neg (by rw [hc]; exact Bool.false_ne_true), if_neg (by simp [hn, hq]), hl, State.enqueue, hs, State.modNvs_nvs, hq]
  rfl

/-- A read of a page that is in the log and asks for no password reads it (R402, R412). -/
theorem State.nvsOp_read_q {c : NvsCmd} {d : List Byte} (ho : c.op = 1) (hp : partOf c.page = .log) (hw : s.pwdOf 10 = 0)
    (hd : s.pageData c.page = some d) (hc : (s.copyOk c.page c.page && s.copyOk (c.page + 4096) c.page) = false)
    (hn : s.nvs.cur = none) (hq : s.nvs.q = []) :
    (s.nvsOp c).nvs.q = [{ page := c.page, data := d, by_ := .scrub, pwd := none }] := by
  have e1 (u : State) (n : Nat) : (u.nvsResult n).nvs = u.nvs := State.nvsResult_fr.same .nvs
  have e2 (u : State) (x : List Byte) : (u.setNvsData x).nvs = u.nvs := State.setNvsData_fr.same .nvs
  unfold State.nvsOp State.nvsRead
  rw [if_pos ho]
  dsimp only
  rw [hp]
  dsimp only
  unfold State.withPassword
  rw [if_pos (show s.pwdOf (2 * Part.log.num) = 0 from hw)]
  dsimp only
  rw [hd]
  dsimp only
  rw [e1, e2]
  exact State.readTrouble_q hd hc hn hq

/-- A waiting operation that needs no page write of its own runs, and nothing waits any more (R414). -/
theorem State.nvsDrain_single_q (c : NvsCmd) : (s.nvsDrain [c]).nvs.q = (s.nvsOp c).nvs.q := by
  unfold State.nvsDrain
  dsimp only
  split
  · rw [State.modNvs_nvs]
  · unfold State.nvsDrain
    rw [State.modNvs_nvs]

/-- What a state's store holds as a read of page 600 waits behind a queued write: the first copy of the page is torn (R398), and the
second as delivered. -/
def NvsSt.waitingRead : NvsSt :=
  { NvsSt.init with
    pages := [(600, blankCopy)], q := [{ page := 18, data := zeros 496, by_ := .reg, pwd := none }], regOp := true
    cmdQ := [{ op := 1, kind := 0, page := 600, pwd := 0, data := [] }] }

section
variable (h : s.nvs.pages = NvsSt.waitingRead.pages)
include h

theorem State.copyOk_waitingRead : s.copyOk 600 600 = false ∧ s.copyOk (600 + 4096) 600 = true := by
  unfold State.copyOk
  rw [h]
  exact ⟨by decide +kernel, by decide +kernel⟩

theorem State.pageData_waitingRead : s.pageData 600 = some (s.copy (600 + 4096)).data := by
  obtain ⟨h1, h2⟩ := State.copyOk_waitingRead h
  have hc : s.curCopy 600 = some (600 + 4096) := by
    unfold State.curCopy
    rw [h1, h2]
    rfl
  unfold State.pageData
  rw [hc]
  rfl

end

/-- The warning drops the queued write and runs the waiting read, which queues a rewrite (R398, R400). -/
theorem State.nvsWarning_waitingRead (h : s.nvs = NvsSt.waitingRead) : s.nvsWarning.nvs.q ≠ [] := by
  have hs (u : State) : u.nvsSts.nvs = u.nvs := State.nvsSts_fr.same .nvs
  have hr (u : State) (n : Nat) : (u.nvsResult n).nvs = u.nvs := State.nvsResult_fr.same .nvs
  unfold State.nvsWarning
  extract_lets hit a b
  have hb : b.nvs = { NvsSt.waitingRead with q := [], jrnlOn := true, jrnl := 0, bmsJob := none } := by
    have e : b.nvs = a.nvsSts.nvs := State.wrB_fr.same .nvs
    rw [e, hs, State.modNvs_nvs, h]
  have hc : b.nvs.cmdQ = [{ op := 1, kind := 0, page := 600, pwd := 0, data := [] }] := by rw [hb]; rfl
  have hh : hit = true := by
    unfold hit
    rw [h]
    rfl
  have hv : ((b.modNvs (fun n => { n with regOp := false })).nvsResult 4).nvs =
      { NvsSt.waitingRead with q := [], jrnlOn := true, jrnl := 0, bmsJob := none, regOp := false } := by
    rw [hr, State.modNvs_nvs, hb]
  rw [if_pos hh, hc]
  generalize (b.modNvs (fun n => { n with regOp := false })).nvsResult 4 = v at hv ⊢
  have hp : v.nvs.pages = NvsSt.waitingRead.pages := by rw [hv]
  obtain ⟨h1, -⟩ := State.copyOk_waitingRead hp
  have hw : v.pwdOf 10 = 0 := by
    unfold State.pwdOf
    rw [hv]
    decide +kernel
  have hq : (v.nvsOp { op := 1, kind := 0, page := 600, pwd := 0, data := [] }).nvs.q ≠ [] := by
    rw [State.nvsOp_read_q rfl (by decide) hw (State.pageData_waitingRead hp) (by rw [h1]; rfl) (by rw [hv]; rfl) (by rw [hv])]
    exact List.cons_ne_nil _ _
  exact (State.nvsDrain_single_q _).trans_ne hq

/-! ### The warning -/

/-- Of the steps of the warning only the store's own change its queue. -/
theorem execPowerFailWarning_q (h1 : s.mode.supply = .on) (h2 : s.mode.power ≠ .discharge) (ht : execPowerFailWarning s = .next t) :
    ∃ u : State, u.nvs = s.nvs ∧ t.nvs.q = u.nvsWarning.nvs.q := by
  unfold execPowerFailWarning at ht
  rw [if_neg (by simp [h1, h2])] at ht
  extract_lets hand ready a b c d e f g at ht
  have ea : a.nvs = s.nvs := by
    have e1 : a.nvs = ((s.wrB SYS.PWR_STS.PF_WARN true).wantDemote 8).nvs := State.setPower_fr.same .nvs
    have e2 : ((s.wrB SYS.PWR_STS.PF_WARN true).wantDemote 8).nvs = (s.wrB SYS.PWR_STS.PF_WARN true).nvs := State.wantDemote_fr.same .nvs
    exact (e1.trans e2).trans (State.wrB_fr.same .nvs)
  have eb : b.nvs = a.nvs := State.modBoot_nvs _ _
  have ec : c.nvs = b.nvs := State.modPanel_nvs _ _
  have ee : e.nvs = d.nvs := by
    unfold e
    split
    · exact State.powerLog_fr.same .nvs
    · rfl
  have ef : f.nvs = e.nvs := by
    unfold f
    split
    · have e1 : e.releaseHalts.nvs = e.nvs := State.releaseHalts_fr.same .nvs
      have e2 : (e.releaseHalts.logc DBG.PAGE 0xF7 e.dbgSts 0).nvs = e.releaseHalts.nvs := State.logc_fr.same .nvs
      exact e2.trans e1
    · rfl
  have eg : g.nvs.q = f.nvs.q := by
    unfold g
    split
    · exact State.journalFirst_q
    · rfl
  have hg : g.nvs.q = c.nvsWarning.nvs.q := by
    rw [eg, ef, ee]
  refine ⟨c, by rw [ec, eb, ea], ?_⟩
  rw [← hg]
  split at ht
  · obtain rfl := Host.Outcome.next.inj ht
    have e1 : g.stopPorts.weftReset.nvs = g.stopPorts.nvs := State.weftReset_fr.same .nvs
    have e2 : g.stopPorts.nvs = g.nvs := State.stopPorts_fr.same .nvs
    rw [State.modPwr_nvs, e1, e2]
  · obtain rfl := Host.Outcome.next.inj ht
    have e1 : g.stopLoad.nvs = g.nvs := State.stopLoad_fr.same .nvs
    rw [e1]

/-- A module with its holdup bank charged whose store is as in `NvsSt.waitingRead`. -/
def State.waitingRead : State :=
  ({ State.reset with mode := { Modes.init with supply := .on }, nvs := NvsSt.waitingRead } : State).wrB SYS.PWR_STS.HOLD_RDY true

/-- Refutes O2: a read that waits behind a queued write runs at the warning, after the queue has been cleared. It finds a torn copy and
queues its rewrite, so that the queue is not empty as the clause of the warning says (`NvsSt.waitingRead`). -/
theorem not_powerFail : ¬ Obligations.PowerFail := by
  unfold Obligations.PowerFail
  intro h
  obtain ⟨-, -, -, hw, -⟩ := h State.waitingRead
  have hs : State.waitingRead.mode.supply = .on := rfl
  have hp : State.waitingRead.mode.power ≠ .discharge := by decide
  obtain ⟨t, ht, -, -, -, -, hq, -⟩ := hw hs hp (by decide +kernel)
  obtain ⟨u, hu, hn⟩ := execPowerFailWarning_q hs hp ht
  exact State.nvsWarning_waitingRead (hu.trans rfl) (hn.symm.trans hq)

end

end Sys2Proof.Machine

namespace Sys2Proof.Machine

set_option Elab.async false

/-! O4 (`SillAndEnterFull`) fails: without a fast pass under way FAST_PASS_DONE is not idle. It samples again what the halves have
sampled in the weave cycle of the command (`State.resample`). -/

/-- A module whose halves have taken their verdict samples in this weave cycle, one second after the epoch, with T as it was before the
clock was set. -/
def State.sampledNow : State :=
  { State.reset with
    clk := { Clock.init with now := 1, sec := 1 }
    frs := { FreshSt.init with sample := Vector.replicate 2 { SampleSt.none with at_ := 1 } } }

/-- The command takes T of half A's sample anew. -/
theorem State.sampledNow_resampled : State.sampledNow.fastPass.resample.frs.sample[0].t = 1000000 := by decide +kernel

/-- Refutes O4: with no fast pass under way FAST_PASS_DONE samples again (`State.sampledNow`), where the statement has it change
nothing. -/
theorem not_sillAndEnterFull : ¬ Obligations.SillAndEnterFull := by
  unfold Obligations.SillAndEnterFull
  intro h
  obtain ⟨-, -, -, -, -, -, -, -, -, -, -, -, hi⟩ := h State.sampledNow
  have hs : State.sampledNow.fastPass.resample = State.sampledNow := Host.Outcome.next.inj (hi rfl)
  have ht := State.sampledNow_resampled
  rw [hs] at ht
  exact absurd ht (by decide)

end Sys2Proof.Machine

namespace Sys2Proof.Machine

set_option Elab.async false

/-! O50 (`Resets`) fails: the clause on the ports reads LAN.PORT_STS at the index of the port's number, where the model, as PORT_SEL does,
keeps port 24 + q at index 32 + q (`portKey`). Indices 24 to 31 are no port's, and a warm reset leaves them as they are. -/

/-- A module that has power and runs neither a start nor a reset, with a state in the register of index 24. -/
def State.strayPort : State :=
  ({ State.reset with mode := { Modes.init with supply := .on } } : State).wr LAN.PORT_STS.STATE 6 0 24

/-- The warm reset is taken, and the index keeps its state. -/
theorem State.strayPort_kept :
    State.strayPort.takes .firmware 0x000 0x168 = true ∧
    (State.strayPort.cmdWrite .firmware SYS.PAGE 0x168 0xCA5E0001).rd LAN.PORT_STS.STATE 0 24 = 6 :=
  ⟨by decide +kernel, by decide +kernel⟩

/-- Refutes O50: a warm reset leaves LAN.PORT_STS of index 24, which is no port's, in its state, where the statement has every index
below 40 read 0 (`State.strayPort`). -/
theorem not_resets : ¬ Obligations.Resets := by
  unfold Obligations.Resets
  intro h
  obtain ⟨hw, -⟩ := h State.strayPort
  obtain ⟨ht, hk⟩ := State.strayPort_kept
  obtain ⟨t, he, -, -, -, -, -, -, -, -, hp, -⟩ := hw .firmware ht (by decide) rfl rfl rfl (by decide) (by decide)
  have e : State.strayPort.cmdWrite .firmware SYS.PAGE 0x168 0xCA5E0001 = t := Host.Outcome.next.inj he
  rw [e] at hk
  exact absurd (hk.symm.trans (hp 24)) (by decide)

end Sys2Proof.Machine

namespace Sys2Proof.Machine

set_option Elab.async false

/-! SUPPORT. A field read behind a write of other bits, and a log record that another one follows. -/

section

variable {s t u : State}

/-- Another register, or other bits of its own, are written: the field reads as before. -/
theorem State.rd_wr_apart {f g : Fld} {v i x j y : Nat} (hd : g.key j y ≠ f.key i x ∨ g.hi < f.lo ∨ f.hi < g.lo)
    (hf : f.lo ≤ f.hi ∧ f.hi < 32 ∧ g.lo ≤ g.hi) : (s.wr f v i x).rd g j y = s.rd g j y := by
  obtain ⟨hl, h32, hg⟩ := hf
  by_cases hk : g.key j y = f.key i x
  · exact State.rd_wr_field hk h32 hl hg (hd.resolve_left (fun h => h hk))
  · exact State.rd_wr_ne hk

theorem State.modBoot_rdB (f : StartSt → StartSt) {g : Fld} {i x : Nat} : (s.modBoot f).rdB g i x = s.rdB g i x := rfl

/-- A one-bit field reads as written. -/
theorem State.rdB_wrB {f : Fld} {v : Bool} {i x : Nat} (h : f.hi < 32 ∧ f.lo = f.hi) : (s.wrB f v i x).rdB f i x = v := by
  rw [State.rdB, State.wrB, State.rd_wr h.1 h.2.le, Fld.width, h.2, Nat.add_sub_cancel_left]
  cases v <;> rfl

/-- Behind a write of other bits a one-bit field reads as before. -/
theorem State.rdB_wr_apart {f g : Fld} {v i x j y : Nat} (hd : g.key j y ≠ f.key i x ∨ g.hi < f.lo ∨ f.hi < g.lo)
    (hf : f.lo ≤ f.hi ∧ f.hi < 32 ∧ g.lo ≤ g.hi) : (s.wr f v i x).rdB g j y = s.rdB g j y := by
  unfold State.rdB
  rw [State.rd_wr_apart hd hf]

theorem State.rdB_wrB_apart {f g : Fld} {v : Bool} {i x j y : Nat} (hd : g.key j y ≠ f.key i x ∨ g.hi < f.lo ∨ f.hi < g.lo)
    (hf : f.lo ≤ f.hi ∧ f.hi < 32 ∧ g.lo ≤ g.hi) : (s.wrB f v i x).rdB g j y = s.rdB g j y := State.rdB_wr_apart hd hf

theorem State.onPages.rdB {ps : List Nat} {f : Fld} {i x : Nat} (h : s.onPages t ps)
    (hp : f.page + i ∉ NVS.PAGE :: EVT.PAGE :: (EVT.PAGE + 1) :: ps := by decide) (hl : f.page + i < 4096 := by decide)
    (ho : f.off < 4096 ∧ f.off ≠ 0x01C ∧ f.off ≠ 0x020 := by decide) : t.rdB f i x = s.rdB f i x := by
  unfold State.rdB
  rw [h.rd hp hl ho]

/-- DBG.STS as shown depends on its register, INT_PEND and the attachment level (R453). -/
theorem State.within.dbgSts {ps : List Area} {ks : List Nat} (h : s.within t ps ks) (hd : DBG.STS.key 0 0 ∉ ks := by decide)
    (hi : SEC.STS.INT_PEND.key 0 0 ∉ ks := by decide) (hm : Area.mode ∉ ps := by decide) : t.dbgSts = s.dbgSts := by
  unfold State.dbgSts
  rw [h.rd hd, h.rd hi, (h.same .mode hm : t.mode = s.mode)]

/-! ### A record behind a record -/

/-- HEAD behind a record that enters the log: one or, where the first-fault area fills, two entries on (R404, R477). -/
theorem State.logc_head {c : Nat} (hc : s.logAdmits c = true) (p a b : Nat) :
    (s.logc p c a b).rd NVS.LOG_STS.HEAD = (s.rd NVS.LOG_STS.HEAD + 1) % 16384 ∨
    (s.logc p c a b).rd NVS.LOG_STS.HEAD = (s.rd NVS.LOG_STS.HEAD + 2) % 16384 := by
  have h1 : (s.logRaw p c a b).rd NVS.LOG_STS.HEAD = (s.rd NVS.LOG_STS.HEAD + 1) % 16384 := by rw [State.logRaw_head, if_pos hc]
  unfold State.logc
  dsimp only
  split
  · rw [State.logRaw_head, State.event_head, State.modLog_rd, h1]
    split
    · exact .inr (by omega)
    · exact .inl rfl
  · exact .inl h1

/-- The entries of the log other than the two that HEAD comes to stay. -/
theorem State.logc_wait_ne {k : Nat} (hk : k < 16384) (h0 : k ≠ s.rd NVS.LOG_STS.HEAD) (h1 : k ≠ (s.rd NVS.LOG_STS.HEAD + 1) % 16384)
    (p c a b : Nat) : tget (fun _ => LogRec.empty) (s.logc p c a b).log.wait k = tget (fun _ => LogRec.empty) s.log.wait k := by
  have e : tget (fun _ => LogRec.empty) (s.logRaw p c a b).log.wait k = tget (fun _ => LogRec.empty) s.log.wait k := by
    rw [State.logRaw_wait _ _ _ _ _ _ hk, if_neg (fun h => h0 h.2)]
  unfold State.logc
  dsimp only
  split
  · rw [State.logRaw_wait _ _ _ _ _ _ hk, if_neg, State.event_wait, State.modLog_log]
    · exact e
    · rw [State.event_head, State.modLog_rd, State.logRaw_head]
      rintro ⟨-, h⟩
      split at h
      · exact h1 h
      · exact h0 h
  · exact e

theorem State.logged.wait {p c : Nat} {args : Nat → Nat → Prop} (h : s.logged t p c args) (e : u.log.wait = t.log.wait) :
    s.logged u p c args := by
  unfold State.logged
  rw [e]
  exact h

/-- A record is still in the log behind the next one. -/
theorem State.logged_logc_logc {p c a b : Nat} (h : (s.logc p c a b).sameLog u) (q d x y : Nat) :
    s.logged (u.logc q d x y) p c (fun v w => v = a ∧ w = b) := by
  intro hc
  have hlt : s.rd NVS.LOG_STS.HEAD < 16384 := s.rd_lt _ _ _
  have hu : u.rd NVS.LOG_STS.HEAD = (s.rd NVS.LOG_STS.HEAD + 1) % 16384 ∨ u.rd NVS.LOG_STS.HEAD = (s.rd NVS.LOG_STS.HEAD + 2) % 16384 := by
    rw [h.head]
    exact State.logc_head hc p a b
  have e : tget (fun _ => LogRec.empty) (u.logc q d x y).log.wait (s.rd NVS.LOG_STS.HEAD) =
      tget (fun _ => LogRec.empty) (s.logc p c a b).log.wait (s.rd NVS.LOG_STS.HEAD) := by
    rw [State.logc_wait_ne hlt (by omega) (by omega), h.wait]
  dsimp only
  rw [e]
  exact State.logged_logc s p c a b hc

end

end Sys2Proof.Machine

namespace Sys2Proof.Machine

set_option Elab.async false

/-! O48 (`TestAccessPort`): the instructions of the test access port. -/

section

variable {s : State}

/-! ### Loading an instruction -/

theorem State.tapLoad_within {c : BitVec 8} {d : Nat} : s.within (s.tapLoad c d) [.boot] [] := State.modBoot_fr.within

/-- An instruction loads its code and drives no pin. -/
theorem State.tapLoad_boot (c : BitVec 8) (d : Nat) :
    (s.tapLoad c d).boot = { s.boot with tapIr := c, tapDr := BitVec.ofNat 64 d, pinDrive := .none } := rfl

/-- A pin-driving instruction that may drive. -/
theorem State.pinScan_drives {c : BitVec 8} {d : PinDrive} (hd : s.mode.dbg = .intrusive) (hr : s.anyRailsUp = false) :
    (s.pinScan c d).boot = { s.boot with tapIr := c, tapDr := 0, pinDrive := d } ∧
    (s.pinScan c d).rdB DBG.STS.SCAN_HELD = false ∧
    s.within (s.pinScan c d) [.regs, .boot] [DBG.STS.key 0 0] := by
  have e : s.pinScan c d = ((s.tapLoad c 0).modBoot (fun b => { b with pinDrive := d })).wrB DBG.STS.SCAN_HELD false := if_pos ⟨hd, hr⟩
  rw [e]
  refine ⟨rfl, State.rdB_wrB (by decide), ?_⟩
  exact ((State.within.refl.next State.tapLoad_within).frame State.modBoot_fr).next State.wrB_within

/-- A pin-driving instruction that is held: SCAN_HELD and its event, before the record. -/
def State.scanHeld (s : State) (c : BitVec 8) : State := ((s.tapLoad c 0).wrB DBG.STS.SCAN_HELD true).event DBG.PAGE 3

theorem State.pinScan_eq_held {c : BitVec 8} {d : PinDrive} (h : s.mode.dbg ≠ .intrusive ∨ s.anyRailsUp = true) :
    s.pinScan c d = (s.scanHeld c).logc DBG.PAGE 0xFA (s.scanHeld c).dbgSts c.toNat :=
  if_neg (by
    rintro ⟨hd, hr⟩
    rcases h with h | h
    · exact h hd
    · exact Bool.false_ne_true (hr.symm.trans h))

theorem State.scanHeld_sameLog (c : BitVec 8) : s.sameLog (s.scanHeld c) := by
  have hw : s.within ((s.tapLoad c 0).wrB DBG.STS.SCAN_HELD true) [.regs, .boot] [DBG.STS.key 0 0] :=
    (State.within.refl.next State.tapLoad_within).next State.wrB_within
  exact hw.sameLog.trans (State.event_sameLog _ _ _)

theorem State.scanHeld_within (c : BitVec 8) :
    s.within (s.scanHeld c) [.regs, .boot, .log, .sram] ([DBG.STS.key 0 0] ++ eventKeys DBG.PAGE) :=
  ((State.within.refl.next State.tapLoad_within).next State.wrB_within).next State.event_within

/-- A pin-driving instruction that is held drives nothing, and is logged with DBG.STS as shown behind it (R445). -/
theorem State.pinScan_held {c : BitVec 8} {d : PinDrive} (h : s.mode.dbg ≠ .intrusive ∨ s.anyRailsUp = true) :
    (s.pinScan c d).boot = { s.boot with tapIr := c, tapDr := 0, pinDrive := .none } ∧
    (s.pinScan c d).rdB DBG.STS.SCAN_HELD = true ∧
    (s.pinScan c d).flag DBG.PAGE 3 ∧
    s.logged (s.pinScan c d) DBG.PAGE 0xFA (fun a _ => a = (s.pinScan c d).dbgSts) ∧
    s.within (s.pinScan c d) [.regs, .boot, .log, .sram] ([DBG.STS.key 0 0] ++ eventKeys DBG.PAGE ++ logKeys DBG.PAGE) := by
  rw [State.pinScan_eq_held h]
  have hl : (s.scanHeld c).within ((s.scanHeld c).logc DBG.PAGE 0xFA (s.scanHeld c).dbgSts c.toNat) [.regs, .log, .sram]
      (logKeys DBG.PAGE) := State.logc_within
  refine ⟨?_, ?_, State.logc_flag _ (State.event_flag_self _), ?_, ?_⟩
  · have e : (s.scanHeld c).boot = (s.tapLoad c 0).boot := Eq.trans (State.event_fr.same .boot) (State.wrB_fr.same .boot)
    exact (hl.same .boot).trans e
  · have e : (s.scanHeld c).rdB DBG.STS.SCAN_HELD = ((s.tapLoad c 0).wrB DBG.STS.SCAN_HELD true).rdB DBG.STS.SCAN_HELD :=
      State.event_within.rdB
    rw [hl.rdB, e, State.rdB_wrB (by decide)]
  · rw [hl.dbgSts]
    exact (State.logged_of (State.scanHeld_sameLog c) (State.logged_logc _ _ _ _ _)).imp (fun _ _ hab => hab.1)
  · exact (State.within.refl.next (State.scanHeld_within c)).next hl

/-! ### Register accesses -/

/-- The level of R445 for a read through the port. -/
theorem State.pathServed_jtag_read : s.pathServed .jtag false = s.attached := by
  unfold State.pathServed State.attached
  cases s.mode.dbg <;> rfl

/-- The level of R445 for a write through the port. -/
theorem State.pathServed_jtag_write : s.pathServed .jtag true = decide (s.mode.dbg = .intrusive) := by
  unfold State.pathServed
  cases s.mode.dbg <;> rfl

theorem State.tapAnswer_within {c : BitVec 8} {a : BitVec 24} {r : Status × Nat × State} (h : r.2.2 = s) :
    s.within (State.tapAnswer c a r) [.boot, .bus] [] := by
  subst h
  exact (State.within.refl.frame State.answer_fr).next State.tapLoad_within

/-- DR behind an access: DATA, ADDR and STATUS (R470). -/
theorem State.tapAnswer_boot (c : BitVec 8) (a : BitVec 24) (r : Status × Nat × State) : (State.tapAnswer c a r).boot =
    { r.2.2.boot with tapIr := c, tapDr := BitVec.ofNat 64 (r.2.1 % 2 ^ 32 + a.toNat * 2 ^ 32 + r.1.code * 2 ^ 56), pinDrive := .none } := rfl

/-- DATA and ADDR stand in DR behind an access that is done. -/
theorem State.tapAnswer_boot_ok (c : BitVec 8) (a : BitVec 24) (v : BitVec 32) : (State.tapAnswer c a (.ok, v.toNat, s)).boot =
    { s.boot with tapIr := c, tapDr := BitVec.ofNat 64 (v.toNat + a.toNat * 2 ^ 32), pinDrive := .none } := by
  rw [State.tapAnswer_boot, Nat.mod_eq_of_lt v.isLt, Status.code, Nat.zero_mul, Nat.add_zero]

theorem State.tapAnswer_answered (c : BitVec 8) (a : BitVec 24) (r : Status × Nat × State) : (State.tapAnswer c a r).answered r.1 := rfl

/-- ADDR stands in DR. -/
theorem State.tapAnswer_addr (c : BitVec 8) (a : BitVec 24) (r : Status × Nat × State) :
    (State.tapAnswer c a r).boot.tapDr.toNat / 2 ^ 32 % 2 ^ 24 = a.toNat := by
  have ha := a.isLt
  rw [State.tapAnswer_boot, BitVec.toNat_ofNat]
  omega

theorem State.finishReset_of_none (h : s.modulePends = false) : s.finishReset = s := if_neg (by rw [h]; rintro ⟨h, -⟩; cases h)

/-- An access at a level that R445 does not serve. -/
theorem State.readAccess_path {path : Path} {a : Nat} (hp : s.pathServed path false = false) (ha : a % 4 = 0)
    (hr : pageRows (a / 4096) ≠ none) : s.readAccess path a = (.path, 0, s) := by
  unfold State.readAccess
  dsimp only
  rw [if_neg (not_not_intro ha), if_neg hr, if_pos (by rw [hp]; rfl)]

theorem State.writeAccess_path {path : Path} {priv ok : Bool} {a v : Nat} (hp : s.pathServed path true = false) (ha : a % 4 = 0)
    (hr : pageRows (a / 4096) ≠ none) : s.writeAccess path priv ok a v = (.path, 0, s) := by
  unfold State.writeAccess
  dsimp only
  rw [if_neg (not_not_intro ha), if_neg hr, if_pos (by rw [hp]; rfl)]

/-- The key of SYS.SCRATCH. -/
def scratchKey : Nat := regKey 0 0 0x12C

/-- The address of SYS.SCRATCH. -/
theorem scratch_toNat : (0x12C : BitVec 24).toNat = 0x12C := rfl

/-- SYS.SCRATCH is a plain register: a read through the port returns its value and changes nothing. -/
theorem State.readAccess_scratch (hp : s.pathServed .jtag false = true) :
    s.readAccess .jtag 0x12C = (.ok, (s.reg scratchKey).toNat, s) := by
  have hv : s.readReg .jtag 0 0x12C = ((s.reg scratchKey).toNat % 2 ^ 32, s) := rfl
  have e : s.readAccess .jtag 0x12C = (.ok, s.readReg .jtag 0 0x12C) := by
    unfold State.readAccess
    dsimp only
    rw [if_neg (by decide), if_neg (by decide), if_neg (by rw [hp]; decide), if_neg (by decide)]
  rw [e, hv, Nat.mod_eq_of_lt (BitVec.isLt _)]

/-- A write of SYS.SCRATCH that its page does not lock stores the value, and answers it. -/
theorem State.writeAccess_scratch {priv ok : Bool} (v : BitVec 32) (hp : s.pathServed .jtag true = true)
    (hl : s.rdB HDR.PG_CTL.LOCK 0 = false) :
    s.writeAccess .jtag priv ok 0x12C v.toNat = (.ok, v.toNat, s.setReg scratchKey v) := by
  have hm : v.toNat &&& 0xFFFFFFFF = v.toNat := by
    rw [show 0xFFFFFFFF = 2 ^ 32 - 1 from rfl, Nat.and_two_pow_sub_one_eq_mod, Nat.mod_eq_of_lt v.isLt]
  have ha : regAct .jtag priv ok 0 0x12C v.toNat s = (.ok, s.setReg scratchKey v) := by
    have e : regAct .jtag priv ok 0 0x12C v.toNat s = (.ok, s.setReg scratchKey (BitVec.ofNat 32 (v.toNat &&& 0xFFFFFFFF))) := rfl
    rw [e, hm, BitVec.ofNat_toNat, BitVec.setWidth_eq]
  have hg : s.gate .jtag priv 0 0x12C v.toNat (regAct .jtag priv ok 0 0x12C v.toNat) = (.ok, s.setReg scratchKey v) := by
    have hr : rowOf 0 0x12C = some ⟨0x12C, 1, .rw, false, 0, 0xFFFFFFFF⟩ := by decide
    unfold State.gate
    rw [hr]
    dsimp only
    rw [if_neg (by rw [hp]; decide), if_neg (fun h => absurd h.1 (by decide)), if_neg (by rw [hl]; decide),
      if_neg (fun h => absurd h.1 (by decide)), if_neg (by simp), if_neg (fun h => absurd h.1 (by decide)), ha]
  have hv : (s.setReg scratchKey v).valueAfter .jtag 0 0x12C = (v.toNat, s.setReg scratchKey v) := by
    have e : (s.setReg scratchKey v).valueAfter .jtag 0 0x12C = (((s.setReg scratchKey v).reg scratchKey).toNat, s.setReg scratchKey v) := rfl
    rw [e, State.setReg_reg, if_pos rfl]
  have e : s.writeAccess .jtag priv ok 0x12C v.toNat = (.ok, (s.setReg scratchKey v).valueAfter .jtag 0 0x12C) := by
    unfold State.writeAccess
    dsimp only
    rw [if_neg (by decide), if_neg (by decide), if_neg (by rw [hp]; decide), hg]
  rw [e, hv]

theorem jtagRegRd_gives (ha : s.attached = true) : gives (.jtagRegRd 0x12C) s (fun t =>
      t.answered .ok ∧
      t.boot = { s.boot with tapIr := 0x12, tapDr := BitVec.ofNat 64 ((s.reg (regKey 0 0 0x12C)).toNat + 0x12C * 2 ^ 32), pinDrive := .none } ∧
      s.within t [.boot, .bus] []) := by
  have hx : execJtagRegRd 0x12C s = .next (State.tapAnswer 0x12 0x12C (.ok, (s.reg scratchKey).toNat, s)) := by
    unfold execJtagRegRd
    rw [scratch_toNat, State.readAccess_scratch (State.pathServed_jtag_read.trans ha)]
  refine ⟨_, hx, State.tapAnswer_answered _ _ _, ?_, State.tapAnswer_within rfl⟩
  rw [State.tapAnswer_boot_ok, scratch_toNat]
  rfl

theorem jtagRegRd_gives_path (addr : BitVec 24) (hd : s.attached = false) (ha : addr.toNat % 4 = 0)
    (hr : pageRows (addr.toNat / 4096) ≠ none) : gives (.jtagRegRd addr) s (fun t =>
      t.answered .path ∧
      t.boot.tapIr = 0x12 ∧
      t.boot.tapDr.toNat / 2 ^ 32 % 2 ^ 24 = addr.toNat ∧
      s.within t [.boot, .bus] []) := by
  have e : s.readAccess .jtag addr.toNat = (.path, 0, s) := State.readAccess_path (State.pathServed_jtag_read.trans hd) ha hr
  exact ⟨_, congrArg (fun r => Host.Outcome.next (State.tapAnswer 0x12 addr r)) e, rfl, rfl, State.tapAnswer_addr _ _ _,
    State.tapAnswer_within rfl⟩

theorem jtagRegWr_gives (v : BitVec 32) (hd : s.mode.dbg = .intrusive) (hl : s.rdB HDR.PG_CTL.LOCK 0 = false)
    (hm : s.modulePends = false) : gives (.jtagRegWr 0x12C v) s (fun t =>
      t.answered .ok ∧
      t.reg (regKey 0 0 0x12C) = v ∧
      t.boot = { s.boot with tapIr := 0x13, tapDr := BitVec.ofNat 64 (v.toNat + 0x12C * 2 ^ 32), pinDrive := .none } ∧
      s.within t [.regs, .boot, .bus] [regKey 0 0 0x12C]) := by
  have hp : s.pathServed .jtag true = true := by rw [State.pathServed_jtag_write, hd]; rfl
  have hw : s.within (s.setReg scratchKey v) [.regs] [scratchKey] := State.setReg_within
  have hx : execJtagRegWr 0x12C v s = .next (State.tapAnswer 0x13 0x12C (.ok, v.toNat, s.setReg scratchKey v)) := by
    unfold execJtagRegWr
    rw [scratch_toNat, State.writeAccess_scratch v hp hl, State.finishReset_of_none]
    exact hm
  refine ⟨_, hx, State.tapAnswer_answered _ _ _, ?_, ?_, (State.within.refl.next hw).next (State.tapAnswer_within rfl)⟩
  · exact (s.setReg_reg scratchKey v scratchKey).trans (if_pos rfl)
  · rw [State.tapAnswer_boot_ok, scratch_toNat]
    rfl

theorem jtagRegWr_gives_path (addr : BitVec 24) (v : BitVec 32) (hd : s.mode.dbg ≠ .intrusive) (ha : addr.toNat % 4 = 0)
    (hr : pageRows (addr.toNat / 4096) ≠ none) (hm : s.modulePends = false) : gives (.jtagRegWr addr v) s (fun t =>
      t.answered .path ∧
      t.boot.tapIr = 0x13 ∧
      s.within t [.boot, .bus] []) := by
  have e : s.writeAccess .jtag false true addr.toNat v.toNat = (.path, 0, s) :=
    State.writeAccess_path (State.pathServed_jtag_write.trans (decide_eq_false hd)) ha hr
  have hx : execJtagRegWr addr v s = .next (State.tapAnswer 0x13 addr (.path, 0, s)) := by
    unfold execJtagRegWr
    rw [e, State.finishReset_of_none]
    exact hm
  exact ⟨_, hx, rfl, rfl, State.tapAnswer_within rfl⟩

/-! ### Memory accesses -/

/-- The request of an access through the port, for the word that holds its address (R444, R450). -/
def debugReq (s : State) (addr : BitVec 37) (w : Option (List Byte)) : MemReq :=
  { no := 0, cls := .background, who := .debug, addr := addr.toNat / 4 * 4, len := 4, write := w, since := s.clk.now, head := false }

section
variable (code : BitVec 8) (addr : BitVec 37) (w : Option (List Byte))

/-- A memory instruction with the request it makes. -/
def State.tapMem (s : State) : State := (s.tapLoad code 0).memRequest (debugReq s addr w)

theorem State.tapMem_queued (ha : addr.toNat < hbmSize) (hs : s.mem.sealed = false) :
    (s.tapMem code addr w).boot = { s.boot with tapIr := code, tapDr := 0, pinDrive := .none } ∧
    (s.tapMem code addr w).mem = { s.mem with
      reqNo := s.mem.reqNo + 1
      q := s.mem.q ++ [⟨s.mem.reqNo, .background, .debug, addr.toNat / 4 * 4, 4, w, s.clk.now, false⟩] } ∧
    s.within (s.tapMem code addr w) [.boot, .mem] [] := by
  have e : s.tapMem code addr w = ((s.tapLoad code 0).modMem (fun m => { m with reqNo := m.reqNo + 1 })).modMem (fun m => { m with
      q := m.q ++ [{ debugReq s addr w with no := s.mem.reqNo, since := s.clk.now }] }) := by
    unfold State.tapMem State.memRequest
    rw [if_neg (by unfold debugReq hbmSize at *; dsimp only; omega), if_neg (show ¬ (s.tapLoad code 0).mem.sealed = true from fun h => Bool.false_ne_true (hs.symm.trans h))]
    rfl
  rw [e]
  exact ⟨rfl, rfl, ((State.within.refl.next State.tapLoad_within).frame State.modMem_fr).frame State.modMem_fr⟩

/-- While HBM is in self-refresh the request is held (R288). -/
theorem State.tapMem_held (ha : addr.toNat < hbmSize) (hs : s.mem.sealed = true) :
    (s.tapMem code addr w).boot = { s.boot with tapIr := code, tapDr := 0, pinDrive := .none } ∧
    (s.tapMem code addr w).mem = { s.mem with
      held := s.mem.held ++ [⟨0, .background, .debug, addr.toNat / 4 * 4, 4, w, s.clk.now, false⟩] } ∧
    s.within (s.tapMem code addr w) [.boot, .mem] [] := by
  have e : s.tapMem code addr w = (s.tapLoad code 0).modMem (fun m => { m with held := m.held ++ [debugReq s addr w] }) := by
    unfold State.tapMem State.memRequest
    rw [if_neg (by unfold debugReq hbmSize at *; dsimp only; omega), if_pos (show (s.tapLoad code 0).mem.sealed = true from hs)]
  rw [e]
  exact ⟨rfl, rfl, (State.within.refl.next State.tapLoad_within).frame State.modMem_fr⟩

/-- A request at or beyond 96 GiB is an ADDR error (R267). -/
theorem State.tapMem_beyond (ha : hbmSize ≤ addr.toNat) :
    (s.tapMem code addr w).boot = { s.boot with tapIr := code, tapDr := 0, pinDrive := .none } ∧
    (s.tapMem code addr w).mem.resp = .addr ∧
    s.logged (s.tapMem code addr w) DMC.PAGE 0x89 (fun _ _ => True) ∧
    s.within (s.tapMem code addr w) [.regs, .boot, .log, .mem, .sram] (logKeys DMC.PAGE) := by
  have hw : s.within (s.tapLoad code 0) [.boot] [] := State.tapLoad_within
  have e : s.tapMem code addr w = ((s.tapLoad code 0).addrError (addr.toNat / 4 * 4)).modMem (fun m => { m with resp := .addr }) :=
    if_pos (by unfold debugReq hbmSize at *; dsimp only; omega)
  rw [e]
  refine ⟨?_, rfl, ?_, ((State.within.refl.next hw).next State.logc_within).frame State.modMem_fr⟩
  · exact State.logc_fr.same .boot
  · exact (State.logged_of hw.sameLog (State.logged_logc _ _ _ _ _)).imp (fun _ _ _ => trivial)

end

theorem execMemRd_attached (addr : BitVec 37) (h : s.attached = true) : execMemRd addr s = .next (s.tapMem 0x14 addr none) :=
  congrArg Host.Outcome.next (if_pos h)

theorem execMemWr_intrusive (addr : BitVec 37) (data : BitVec 32) (h : s.mode.dbg = .intrusive) :
    execMemWr addr data s = .next (s.tapMem 0x15 addr (some (leBytes 4 data.toNat))) :=
  congrArg Host.Outcome.next (if_pos h)

/-- An instruction that its level does not serve is a BYPASS under its own code. -/
theorem gives_bypass {i : Instr} {c : BitVec 8} (h : exec i s = .next (s.tapLoad c 0)) : gives i s (fun t =>
      t.boot = { s.boot with tapIr := c, tapDr := 0, pinDrive := .none } ∧
      s.within t [.boot] []) := ⟨_, h, rfl, State.tapLoad_within⟩

theorem execMemRd_detached (addr : BitVec 37) (h : s.attached = false) : execMemRd addr s = .next (s.tapLoad 0x14 0) :=
  congrArg Host.Outcome.next (if_neg (fun ha => Bool.false_ne_true (h.symm.trans ha)))

theorem execMemWr_below (addr : BitVec 37) (data : BitVec 32) (h : s.mode.dbg ≠ .intrusive) :
    execMemWr addr data s = .next (s.tapLoad 0x15 0) := congrArg Host.Outcome.next (if_neg h)

/-! ### HALT and RESUME -/

/-- What shows that the processor is halted, or runs (R447). -/
def State.showHalt (s : State) (v : Bool) : State :=
  ((s.wrB DBG.STS.HALTED v).wrB SIL.CPU_STS.HALTED v).wrB SIL.CPU_STS.WDG_PAUSED v

theorem State.showHalt_rdB (v : Bool) : (s.showHalt v).rdB DBG.STS.HALTED = v ∧ (s.showHalt v).rdB SIL.CPU_STS.HALTED = v ∧
    (s.showHalt v).rdB SIL.CPU_STS.WDG_PAUSED = v := by
  unfold State.showHalt
  simp (disch := decide) only [State.rdB_wrB, State.rdB_wrB_apart, and_self]

theorem State.showHalt_within (v : Bool) : s.within (s.showHalt v) [.regs] [DBG.STS.key 0 0, SIL.CPU_STS.key 0 0] :=
  ((State.within.refl.next State.wrB_within).next State.wrB_within).next State.wrB_within

theorem execHalt_runs (hd : s.mode.dbg = .intrusive) (hp : s.mode.power ≠ .discharge) (hh : s.boot.halted = false) : execHalt s =
    .next (((s.tapLoad 0x16 0).modBoot (fun b => { b with halted := true, wdgMs := s.clk.now - b.wdgMs })).showHalt true) :=
  if_pos ⟨hd, hp, hh⟩

theorem execResume_halted (hd : s.mode.dbg = .intrusive) (hh : s.boot.halted = true) : execResume s =
    .next ((((s.tapLoad 0x17 0).modBoot (fun b => { b with halted := false, wdgMs := s.clk.now })).showHalt false).modBoot
      (fun b => { b with wdgMs := s.clk.now - s.boot.wdgMs })) :=
  if_pos ⟨hd, hh⟩

theorem halt_gives (hd : s.mode.dbg = .intrusive) (hp : s.mode.power ≠ .discharge) (hh : s.boot.halted = false) : gives .halt s (fun t =>
      t.boot = { s.boot with tapIr := 0x16, tapDr := 0, pinDrive := .none, halted := true, wdgMs := s.clk.now - s.boot.wdgMs } ∧
      t.rdB DBG.STS.HALTED = true ∧
      t.rdB SIL.CPU_STS.HALTED = true ∧
      t.rdB SIL.CPU_STS.WDG_PAUSED = true ∧
      s.within t [.regs, .boot] [DBG.STS.key 0 0, SIL.CPU_STS.key 0 0]) := by
  obtain ⟨h1, h2, h3⟩ :=
    State.showHalt_rdB (s := (s.tapLoad 0x16 0).modBoot (fun b => { b with halted := true, wdgMs := s.clk.now - b.wdgMs })) true
  refine ⟨_, execHalt_runs hd hp hh, ?_, h1, h2, h3, ?_⟩
  · exact (State.showHalt_within true).same .boot
  · exact ((State.within.refl.next State.tapLoad_within).frame State.modBoot_fr).next (State.showHalt_within true)

theorem resume_gives (hd : s.mode.dbg = .intrusive) (hh : s.boot.halted = true) : gives .resume s (fun t =>
      t.boot = { s.boot with tapIr := 0x17, tapDr := 0, pinDrive := .none, halted := false, wdgMs := s.clk.now - s.boot.wdgMs } ∧
      t.rdB DBG.STS.HALTED = false ∧
      t.rdB SIL.CPU_STS.HALTED = false ∧
      t.rdB SIL.CPU_STS.WDG_PAUSED = false ∧
      s.within t [.regs, .boot] [DBG.STS.key 0 0, SIL.CPU_STS.key 0 0]) := by
  obtain ⟨h1, h2, h3⟩ :=
    State.showHalt_rdB (s := (s.tapLoad 0x17 0).modBoot (fun b => { b with halted := false, wdgMs := s.clk.now })) false
  refine ⟨_, execResume_halted hd hh, ?_, (State.modBoot_rdB _).trans h1, (State.modBoot_rdB _).trans h2, (State.modBoot_rdB _).trans h3, ?_⟩
  · exact congrArg (fun b : StartSt => { b with wdgMs := s.clk.now - s.boot.wdgMs }) ((State.showHalt_within false).same .boot)
  · exact (((State.within.refl.next State.tapLoad_within).frame State.modBoot_fr).next (State.showHalt_within false)).frame
      State.modBoot_fr

/-! ### The pins -/

theorem execIdcode_eq : execIdcode s = .next ((s.takeFree 32).2.tapLoad 0x01 (s.takeFree 32).1.toNat) := rfl

theorem execSamplePreload_eq (cells : List Bool) : execSamplePreload cells s =
    .next (((s.takeFree 64).2.tapLoad 0x02 (s.takeFree 64).1.toNat).modBoot (fun b => { b with bsr := cells })) := rfl

theorem idcode_gives : gives .idcode s (fun t =>
      t.boot.tapIr = 0x01 ∧
      t.boot.pinDrive = .none ∧
      t.boot.bsr = s.boot.bsr ∧
      t.freeCtr = s.freeCtr + 1 ∧
      s.within t [.boot, .freeCtr] []) :=
  ⟨_, execIdcode_eq, rfl, rfl, rfl, rfl, (State.within.refl.next State.takeFree_within).next State.tapLoad_within⟩

theorem samplePreload_gives (cells : List Bool) : gives (.samplePreload cells) s (fun t =>
      t.boot.tapIr = 0x02 ∧
      t.boot.pinDrive = .none ∧
      t.boot.bsr = cells ∧
      t.freeCtr = s.freeCtr + 1 ∧
      s.within t [.boot, .freeCtr] []) :=
  ⟨_, execSamplePreload_eq cells, rfl, rfl, rfl, rfl,
    ((State.within.refl.next State.takeFree_within).next State.tapLoad_within).frame State.modBoot_fr⟩

/-- Settles O48: pin-driving instructions through `State.pinScan`, register accesses through the access they make, memory accesses
through `State.tapMem`. -/
theorem testAccessPort : Obligations.TestAccessPort := by
  unfold Obligations.TestAccessPort
  intro s
  exact ⟨idcode_gives, samplePreload_gives, ⟨_, rfl, rfl, State.tapLoad_within⟩, gives_bypass rfl, gives_bypass rfl,
    fun hd hr => ⟨_, rfl, State.pinScan_drives hd hr⟩, fun h => ⟨_, rfl, State.pinScan_held h⟩,
    fun hd hr => ⟨_, rfl, State.pinScan_drives hd hr⟩, fun h => ⟨_, rfl, State.pinScan_held h⟩,
    fun hd hr => ⟨_, rfl, State.pinScan_drives hd hr⟩, fun h => ⟨_, rfl, State.pinScan_held h⟩,
    fun hd hr => ⟨_, rfl, State.pinScan_drives hd hr⟩, fun h => ⟨_, rfl, State.pinScan_held h⟩,
    fun hd hr => ⟨_, rfl, State.pinScan_drives hd hr⟩, fun h => ⟨_, rfl, State.pinScan_held h⟩,
    fun ha _ => jtagRegRd_gives ha, fun addr hd ha hr _ => jtagRegRd_gives_path addr hd ha hr,
    jtagRegWr_gives, jtagRegWr_gives_path,
    fun addr ha hl hs => ⟨_, execMemRd_attached addr ha, State.tapMem_queued _ _ _ hl hs⟩,
    fun addr ha hl hs => ⟨_, execMemRd_attached addr ha, State.tapMem_held _ _ _ hl hs⟩,
    fun addr ha hl => ⟨_, execMemRd_attached addr ha, State.tapMem_beyond _ _ _ hl⟩,
    fun addr ha => gives_bypass (execMemRd_detached addr ha),
    fun addr data hd hl hs => ⟨_, execMemWr_intrusive addr data hd, State.tapMem_queued _ _ _ hl hs⟩,
    fun addr data hd => gives_bypass (execMemWr_below addr data hd),
    halt_gives, fun hd => gives_bypass (if_neg (fun h => hd h.1)),
    resume_gives, fun hd => gives_bypass (if_neg (fun h => hd h.1))⟩

end

end Sys2Proof.Machine

namespace Sys2Proof.Machine

set_option Elab.async false

/-! SUPPORT. The stages of the start: what ends one, and what a halt leaves (R56, R57, R65). -/

section

variable {s t u : State}

/-! ### A stage ends -/

theorem State.stageDone_within {k n : Nat} : s.within (s.stageDone k n) [.regs, .boot] [SYS.START_STS.key 0 0] :=
  (State.within.refl.frame State.modBoot_fr).next State.showStage_within

theorem State.stageDone_boot (k n : Nat) :
    (s.stageDone k n).boot = { s.boot with done := s.boot.done ||| BitVec.ofNat 16 (2 ^ k) } :=
  State.showStage_within.same .boot

theorem State.stageDone_stageIs {k : Nat} (n : Nat) (hk : k < 16) : (s.stageDone k n).stageIs k = true := by
  unfold State.stageIs
  rw [State.stageDone_boot, BitVec.getLsbD_or, BitVec.getLsbD_ofNat, Nat.testBit_two_pow_self]
  simp [hk]

theorem State.stageIs_congr (h : t.boot = s.boot) (k : Nat) : t.stageIs k = s.stageIs k := by
  unfold State.stageIs
  rw [h]

/-! ### A start fails, and halts -/

theorem State.startFail_rd_fail {c : Nat} (h : c < 65536) : (s.startFail c).rd SYS.START_STS.FAIL = c := by
  have e : (s.startFail c).rd SYS.START_STS.FAIL = (s.wr SYS.START_STS.FAIL c).rd SYS.START_STS.FAIL := State.logc_within.rd
  rw [e, State.rd_wr (by decide) (by decide)]
  exact Nat.mod_eq_of_lt h

/-- The other fields of START_STS stay. -/
theorem State.startFail_rd {c : Nat} {f : Fld} (hk : f.key 0 0 ∉ logKeys SYS.PAGE := by decide)
    (hd : f.lo ≤ f.hi ∧ (f.hi < SYS.START_STS.FAIL.lo ∨ SYS.START_STS.FAIL.hi < f.lo) := by decide) :
    (s.startFail c).rd f = s.rd f := by
  have e : (s.startFail c).rd f = (s.wr SYS.START_STS.FAIL c).rd f := State.logc_within.rd hk
  rw [e, State.rd_wr_apart (.inr hd.2) ⟨by decide, by decide, hd.1⟩]

/-- What a halt writes before its record (R65). -/
def State.stopStart (s : State) : State :=
  ((s.wr SYS.START_STS.STAGE 13).modFab (fun f => { f with waitAddr := false })).modBoot
    (fun b => { b with starting := false, warm := false })

theorem State.haltStart_eq (c : Nat) : s.haltStart c = s.stopStart.startFail c := rfl

theorem State.stopStart_within : s.within s.stopStart [.regs, .boot, .fab] [SYS.START_STS.key 0 0] :=
  ((State.within.refl.next State.wr_within).frame State.modFab_fr).frame State.modBoot_fr

theorem State.haltStart_within {c : Nat} :
    s.within (s.haltStart c) [.regs, .boot, .log, .fab, .sram] (SYS.START_STS.key 0 0 :: logKeys SYS.PAGE) :=
  (State.within.refl.next State.stopStart_within).next State.startFail_within

theorem State.haltStart_stage (c : Nat) : (s.haltStart c).rd SYS.START_STS.STAGE = 13 := by
  rw [State.haltStart_eq, State.startFail_rd, State.stopStart, State.modBoot_rd, State.modFab_rd, State.rd_wr (by decide) (by decide)]
  rfl

theorem State.haltStart_fail {c : Nat} (h : c < 65536) : (s.haltStart c).rd SYS.START_STS.FAIL = c := State.startFail_rd_fail h

/-- A halt leaves the stages that are done. -/
theorem State.haltStart_stageIs (c k : Nat) : (s.haltStart c).stageIs k = s.stageIs k := by
  have e : (s.haltStart c).boot = s.stopStart.boot := State.startFail_within.same .boot
  unfold State.stageIs
  rw [e]
  rfl

end

end Sys2Proof.Machine

namespace Sys2Proof.Machine

set_option Elab.async false

/-! Start stage 5 of O5: firmware verification (R56, R438, R442, R443). -/

section

variable {s t : State}

/-- What FIRMWARE_VERIFY ends with: verified firmware in control, or a Quarantined module at stage 14 (R443). -/
def State.firmwareEnd (t : State) : Prop :=
  (t.stageIs 5 = true ∧ t.rdB SEC.STS.FW_OK = true ∧ t.rdB SIL.CPU_STS.FW = true) ∨
  (t.mode.sec = .quarantined ∧ t.rd SYS.START_STS.STAGE = 14 ∧ t.rdB SEC.STS.FW_OK = false)

/-! ### Quarantine -/

theorem State.setSec_sec (st : SecState) : (s.setSec st).mode.sec = st := by
  unfold State.setSec
  split
  · assumption
  · exact congrArg Modes.sec (State.event_fr.same .mode)

/-- The security state alone changes in the module's modes. -/
theorem State.setSec_mode (st : SecState) : (s.setSec st).mode = { s.mode with sec := st } := by
  unfold State.setSec
  split
  · subst_vars
    rfl
  · exact State.event_fr.same .mode

theorem State.setSec_rd {f : Fld} (st : SecState) (hk : f.key 0 0 ∉ eventKeys SEC.PAGE := by decide) : (s.setSec st).rd f = s.rd f := by
  unfold State.setSec
  split
  · rfl
  · exact (State.event_within.rd hk).trans (s.modMode_rd _ f 0 0)

theorem State.enterQuarantine_mode : s.enterQuarantine.mode = { s.mode with sec := .quarantined } := by
  have e : s.enterQuarantine.mode = ((s.wrB SEC.STS.FW_OK false).setSec .quarantined).mode :=
    State.wr_fr.same .mode
  have e' : (s.wrB SEC.STS.FW_OK false).mode = s.mode := State.wrB_fr.same .mode
  rw [e, State.setSec_mode, e']

theorem State.enterQuarantine_stage : s.enterQuarantine.rd SYS.START_STS.STAGE = 14 := State.rd_wr (by decide) (by decide)

theorem State.enterQuarantine_boot : s.enterQuarantine.boot = { s.boot with starting := false, warm := false } := by
  have e : ((s.wrB SEC.STS.FW_OK false).setSec .quarantined).boot = s.boot :=
    Eq.trans (State.setSec_fr.same .boot) (State.wrB_fr.same .boot)
  exact congrArg (fun b : StartSt => { b with starting := false, warm := false }) e

theorem State.enterQuarantine_fwOk : s.enterQuarantine.rdB SEC.STS.FW_OK = false := by
  have h1 : s.enterQuarantine.rdB SEC.STS.FW_OK = ((s.wrB SEC.STS.FW_OK false).setSec .quarantined).rdB SEC.STS.FW_OK :=
    State.rdB_wr_apart (by decide) (by decide)
  have h2 : ((s.wrB SEC.STS.FW_OK false).setSec .quarantined).rd SEC.STS.FW_OK = (s.wrB SEC.STS.FW_OK false).rd SEC.STS.FW_OK :=
    State.setSec_rd _
  rw [h1, State.rdB, h2]
  exact State.rdB_wrB (by decide)

/-- A Quarantined module has ended its start, in the power state it was in. -/
theorem State.enterQuarantine_shows {p : PowerState} (hp : s.mode.power = p) : s.enterQuarantine.mode.sec = .quarantined ∧
    s.enterQuarantine.rd SYS.START_STS.STAGE = 14 ∧ s.enterQuarantine.boot.starting = false ∧ s.enterQuarantine.mode.power = p := by
  rw [State.enterQuarantine_mode, State.enterQuarantine_boot]
  exact ⟨rfl, State.enterQuarantine_stage, rfl, hp⟩

theorem State.enterQuarantine_end : s.enterQuarantine.firmwareEnd :=
  .inr ⟨by rw [State.enterQuarantine_mode], State.enterQuarantine_stage, State.enterQuarantine_fwOk⟩

/-- A logged state's modes are those before the record. -/
theorem State.logc_mode (p c a b : Nat) : (s.logc p c a b).mode = s.mode := State.logc_fr.same .mode

theorem State.keyStoreFailed_power : s.keyStoreFailed.mode.power = s.mode.power := by
  unfold State.keyStoreFailed
  dsimp only
  rw [State.logc_mode, State.setSec_mode]
  rfl

/-- The check of the key store leaves the power state (R438). -/
theorem State.checkSeal_power : s.checkSeal.mode.power = s.mode.power := by
  have hs (u : State) (ks : Table KeySlot) (st : SecState) :
      (((u.setKeys ks).wrB SEC.STS.KEYSTORE_OK true).setSec st).mode.power = u.mode.power := by
    rw [State.setSec_mode]
    rfl
  unfold State.checkSeal
  dsimp only
  split
  · split
    · exact hs _ _ _
    · exact State.keyStoreFailed_power
  · split
    · exact State.keyStoreFailed_power
    · split
      · exact State.keyStoreFailed_power
      · split
        · split
          · rw [State.logc_mode]
            exact hs _ _ _
          · exact hs _ _ _
        · exact State.keyStoreFailed_power

/-! ### Firmware in control -/

/-- What a verified image says, shown in its registers (R443). -/
def State.firmwareFacts (s : State) (side : Nat) (i : FwInfo) : State :=
  let s := (s.wr SEC.FW_STS.SVN i.svn).wr SEC.FW_STS.SIDE side
  let s := (s.wr SEC.FW_STS.SVN_MIN s.secu.svnFuses).wr SEC.FW_STS.KEY_IDX i.key
  (s.wrB SEC.FW_STS.KEY0_REVOKED s.secu.key0Revoked).wr SEC.FW_VER i.version

/-- The firmware runs, with its watchdog and, unless Intrusive holds, the keys (R448). -/
def State.firmwareRuns (s : State) : State :=
  let s := (s.wrB SIL.CPU_STS.FW true).modBoot (fun b => { b with wdgMs := s.clk.now })
  if s.mode.dbg = .intrusive then s else s.wrB SEC.STS.KEYS_HIDDEN false

theorem State.runFirmware_eq (side : Nat) (i : FwInfo) : s.runFirmware side i =
    (((s.wr SYS.START_STS.FW_IMG side).wrB SEC.STS.FW_OK true).firmwareFacts side i).firmwareRuns := rfl

theorem State.firmwareFacts_within (side : Nat) (i : FwInfo) :
    s.within (s.firmwareFacts side i) [.regs] [SEC.FW_STS.SVN.key 0 0, SEC.FW_VER.key 0 0] := by
  unfold State.firmwareFacts
  exact (((((State.within.refl.next State.wr_within).next State.wr_within).next State.wr_within).next State.wr_within).next
    State.wrB_within).next State.wr_within

theorem State.firmwareRuns_fw : s.firmwareRuns.rdB SIL.CPU_STS.FW = true := by
  have h (f : StartSt → StartSt) : ((s.wrB SIL.CPU_STS.FW true).modBoot f).rdB SIL.CPU_STS.FW = true :=
    (State.modBoot_rdB f).trans (State.rdB_wrB (by decide))
  unfold State.firmwareRuns
  dsimp only
  split
  · exact h _
  · exact (State.rdB_wrB_apart (by decide) (by decide)).trans (h _)

theorem State.firmwareRuns_fwOk : s.firmwareRuns.rdB SEC.STS.FW_OK = s.rdB SEC.STS.FW_OK := by
  have h (f : StartSt → StartSt) : ((s.wrB SIL.CPU_STS.FW true).modBoot f).rdB SEC.STS.FW_OK = s.rdB SEC.STS.FW_OK :=
    (State.modBoot_rdB f).trans (State.rdB_wrB_apart (by decide) (by decide))
  unfold State.firmwareRuns
  dsimp only
  split
  · exact h _
  · exact (State.rdB_wrB_apart (by decide) (by decide)).trans (h _)

theorem State.runFirmware_fwOk (side : Nat) (i : FwInfo) : (s.runFirmware side i).rdB SEC.STS.FW_OK = true := by
  rw [State.runFirmware_eq, State.firmwareRuns_fwOk, (State.firmwareFacts_within side i).rdB]
  exact State.rdB_wrB (by decide)

/-- The end of stage 5 leaves what shows the firmware. -/
theorem State.firmwareDone_rdB {f : Fld} (hp : f.page ∉ [NVS.PAGE, EVT.PAGE, EVT.PAGE + 1, DMC.PAGE, FRS.PAGE, SYS.PAGE] := by decide)
    (hl : f.page < 4096 := by decide) (ho : f.off < 4096 ∧ f.off ≠ 0x01C ∧ f.off ≠ 0x020 := by decide) :
    s.firmwareDone.rdB f = s.rdB f := by
  have h1 : s.onPages (if s.boot.warm then s.srLeave else s) [DMC.PAGE, FRS.PAGE, SYS.PAGE] :=
    .ite (State.onPages.refl.next State.srLeave_onPages) .refl
  have h2 : s.onPages s.firmwareDone [DMC.PAGE, FRS.PAGE, SYS.PAGE] :=
    h1.keepsRegs State.stageDone_within.2.1 (fun r hr _ => by rw [List.mem_singleton.1 hr]; decide)
  exact h2.rdB hp hl ho

theorem State.firmware_end (side : Nat) (i : FwInfo) : ((s.runFirmware side i).firmwareDone).firmwareEnd := by
  have h1 : ((s.runFirmware side i).firmwareDone).rdB SEC.STS.FW_OK = (s.runFirmware side i).rdB SEC.STS.FW_OK := State.firmwareDone_rdB
  have h2 : ((s.runFirmware side i).firmwareDone).rdB SIL.CPU_STS.FW = (s.runFirmware side i).rdB SIL.CPU_STS.FW := State.firmwareDone_rdB
  exact .inl ⟨State.stageDone_stageIs _ (by decide), h1.trans (State.runFirmware_fwOk side i), h2.trans State.firmwareRuns_fw⟩

/-- Whatever images there are, one of them takes control or the module is Quarantined (R409, R443). -/
theorem State.tryFirmware_end (sides : List Nat) : (s.tryFirmware sides).firmwareEnd := by
  unfold State.tryFirmware
  split
  · exact State.enterQuarantine_end
  · split
    · exact State.firmware_end _ _
    · dsimp only
      split
      · exact State.enterQuarantine_end
      · split
        · exact State.firmware_end _ _
        · exact State.enterQuarantine_end

/-! ### The command -/

/-- The state in which the images are tried. -/
def State.sealChecked (s : State) : State := (s.showStage 5).checkSeal

theorem State.sealChecked_fr : Fr 142606597 s s.sealChecked :=
  ((State.showStage_fr.mono rfl).trans State.checkSeal_fr)

theorem execFirmwareVerify_run (hs : s.startRuns = true) (h5 : s.stageIs 5 = false)
    (hf : s.boot.firstSill = true ∨ s.rdB SYS.START_STS.CFG_DEF = true) : execFirmwareVerify s =
      .next (if s.sealChecked.rdB SEC.STS.KEYSTORE_OK then s.sealChecked.tryFirmware s.sealChecked.bmsOrder
        else s.sealChecked.enterQuarantine) :=
  if_neg (by simp only [hs, h5]; rcases hf with h | h <;> simp [h])

theorem firmwareVerify_gives (hs : s.startRuns = true) (h5 : s.stageIs 5 = false)
    (hf : s.boot.firstSill = true ∨ s.rdB SYS.START_STS.CFG_DEF = true) : gives .firmwareVerify s (fun t =>
      ((t.stageIs 5 = true ∧ t.rdB SEC.STS.FW_OK = true ∧ t.rdB SIL.CPU_STS.FW = true) ∨ (t.mode.sec = .quarantined ∧ t.rd SYS.START_STS.STAGE = 14 ∧ t.rdB SEC.STS.FW_OK = false)) ∧
      s.keeps t [.regs, .mode, .boot, .log, .mem, .scene, .frs, .secu, .freeCtr, .hbm, .sram]) := by
  have e := execFirmwareVerify_run hs h5 hf
  obtain ⟨t, ht, hk⟩ := execFirmwareVerify_fr (s := s)
  refine ⟨t, ht, ?_, hk.keepsOf⟩
  cases Host.Outcome.next.inj (e.symm.trans ht)
  split
  · exact State.tryFirmware_end _
  · exact State.enterQuarantine_end

theorem firmwareVerify_idle (hf : s.boot.firstSill = false) (hc : s.rdB SYS.START_STS.CFG_DEF = false) : idle .firmwareVerify s :=
  if_pos (.inr (.inr ⟨hf, hc⟩))

/-- With an unreadable directory on both sides no image is tried. -/
theorem State.bmsOrder_nil (h0 : s.bmsDir 0 = none) (h1 : s.bmsDir 1 = none) : s.bmsOrder = [] := by
  unfold State.bmsOrder
  rw [h0, h1]

theorem State.bmsDir_congr (h : t.nvs = s.nvs) (side : Nat) : t.bmsDir side = s.bmsDir side := by
  unfold State.bmsDir State.bmsRd
  rw [h]

theorem firmwareVerify_gives_none (hs : s.startRuns = true) (h5 : s.stageIs 5 = false)
    (hf : s.boot.firstSill = true ∨ s.rdB SYS.START_STS.CFG_DEF = true) (h0 : s.bmsDir 0 = none) (h1 : s.bmsDir 1 = none) :
    gives .firmwareVerify s (fun t =>
      t.mode.sec = .quarantined ∧
      t.rd SYS.START_STS.STAGE = 14 ∧
      t.boot.starting = false ∧
      t.mode.power = s.mode.power) := by
  have hn : s.sealChecked.nvs = s.nvs := State.sealChecked_fr.same .nvs
  have hp : s.sealChecked.mode.power = s.mode.power := State.checkSeal_power.trans (congrArg Modes.power (State.showStage_fr.same .mode))
  have ho : s.sealChecked.bmsOrder = [] := State.bmsOrder_nil ((State.bmsDir_congr hn 0).trans h0) ((State.bmsDir_congr hn 1).trans h1)
  refine ⟨_, execFirmwareVerify_run hs h5 hf, ?_⟩
  rw [ho]
  split
  · exact State.enterQuarantine_shows ((congrArg Modes.power (State.startFail_fr.same .mode)).trans hp)
  · exact State.enterQuarantine_shows hp

end

end Sys2Proof.Machine

namespace Sys2Proof.Machine

set_option Elab.async false

/-! Start stages 6 and 7 of O5: HBM training (R283) and the map load (R136, R228, R241). -/

section

variable {s t u : State}

/-! ### Eyes -/

/-- The narrowest eyes that training ends with: a failed stack's are those of its one retrain (R283). -/
def trainedEyes (first again : List (BitVec 6)) : List (BitVec 6) :=
  (List.range 4).map (fun k => if (first.getD k 0).toNat < 16 then again.getD k 0 else first.getD k 0)

theorem trainedEyes_getD (first again : List (BitVec 6)) (k : Fin 4) :
    (trainedEyes first again).getD k 0 = if (first.getD k 0).toNat < 16 then again.getD k 0 else first.getD k 0 := by
  fin_cases k <;> rfl

/-- One bit for each stack whose eye is too narrow. -/
theorem failedStacks_eq_ofBits (eyes : List (BitVec 6)) :
    failedStacks eyes = Nat.ofBits (fun k : Fin 4 => decide ((eyes.getD k 0).toNat < 16)) := by
  have h (p : Nat → Bool) : (List.range 4).foldl (fun a k => if p k = true then a + 2 ^ k else a) 0 = Nat.ofBits (fun k : Fin 4 => p k) := by
    simp only [List.range, List.range.loop, List.foldl, Nat.ofBits, Fin.foldr, Fin.foldr.loop]
    cases p 0 <;> cases p 1 <;> cases p 2 <;> cases p 3 <;> rfl
  rw [← h (fun k => decide ((eyes.getD k 0).toNat < 16))]
  simp only [decide_eq_true_eq]
  rfl

theorem failedStacks_lt (eyes : List (BitVec 6)) : failedStacks eyes < 16 := by
  rw [failedStacks_eq_ofBits]
  exact Nat.ofBits_lt_two_pow _

theorem failedStacks_testBit (eyes : List (BitVec 6)) (k : Fin 4) :
    (failedStacks eyes).testBit k = decide ((eyes.getD k 0).toNat < 16) := by
  rw [failedStacks_eq_ofBits, Nat.testBit_ofBits_lt _ _ k.isLt]

theorem failedStacks_eq_zero {eyes : List (BitVec 6)} (h : ∀ k : Fin 4, 16 ≤ (eyes.getD k 0).toNat) : failedStacks eyes = 0 := by
  apply Nat.eq_of_testBit_eq
  intro i
  rw [Nat.zero_testBit]
  by_cases hi : i < 4
  · rw [failedStacks_testBit eyes ⟨i, hi⟩]
    exact decide_eq_false (Nat.not_lt.2 (h ⟨i, hi⟩))
  · exact Nat.testBit_lt_two_pow (Nat.lt_of_lt_of_le (failedStacks_lt eyes) (Nat.pow_le_pow_right (by decide) (Nat.not_lt.1 hi) : 2 ^ 4 ≤ 2 ^ i))

/-! ### HBM training -/

/-- The eyes are shown in TRAIN_STS. -/
def State.eyesWritten (s : State) (eyes : List (BitVec 6)) : State :=
  (((s.showStage 6).wr DMC.TRAIN_STS.PASS (15 - failedStacks eyes)).wr DMC.TRAIN_STS.FAIL (failedStacks eyes)).wr DMC.TRAIN_STS.MARGIN
    (eyes.foldl (fun m e => min m e.toNat) 63)

/-- The results of the training, before its event. -/
def State.eyesShown (s : State) (eyes : List (BitVec 6)) : State :=
  (s.eyesWritten eyes).modMem (fun m => { m with retrain := false, trims := [] })

/-- The training is over, and its stage not yet done. -/
def State.trained (s : State) (eyes : List (BitVec 6)) : State := (s.eyesShown eyes).event DMC.PAGE 5

section
variable (eyes : List (BitVec 6))

theorem State.eyesWritten_within : s.within (s.eyesWritten eyes) [.regs] [DMC.TRAIN_STS.key 0 0, SYS.START_STS.key 0 0] :=
  (((State.within.refl.next State.showStage_within).next State.wr_within).next State.wr_within).next State.wr_within

theorem State.eyesShown_within : s.within (s.eyesShown eyes) [.regs, .mem] [DMC.TRAIN_STS.key 0 0, SYS.START_STS.key 0 0] :=
  (State.within.refl.next (State.eyesWritten_within eyes)).frame State.modMem_fr

theorem State.trained_within : s.within (s.trained eyes) [.regs, .log, .mem, .sram]
    ([DMC.TRAIN_STS.key 0 0, SYS.START_STS.key 0 0] ++ eventKeys DMC.PAGE) :=
  (State.within.refl.next (State.eyesShown_within eyes)).next State.event_within

theorem State.trained_sameLog : s.sameLog (s.trained eyes) := (State.eyesShown_within eyes).sameLog.trans (State.event_sameLog _ _ _)

/-- The event of the training leaves TRAIN_STS. -/
theorem State.trained_rd {f : Fld} (hk : f.key 0 0 ∉ eventKeys DMC.PAGE := by decide) :
    (s.trained eyes).rd f = (s.eyesWritten eyes).rd f :=
  (State.event_within.rd hk).trans (State.modMem_rd _ _ _ _ _)

theorem State.trained_pass : (s.trained eyes).rd DMC.TRAIN_STS.PASS = 15 - failedStacks eyes := by
  rw [State.trained_rd, State.eyesWritten, State.rd_wr_apart (by decide) (by decide), State.rd_wr_apart (by decide) (by decide),
    State.rd_wr (by decide) (by decide)]
  exact Nat.mod_eq_of_lt (Nat.lt_of_le_of_lt (Nat.sub_le _ _) (by decide))

theorem State.trained_fail : (s.trained eyes).rd DMC.TRAIN_STS.FAIL = failedStacks eyes := by
  rw [State.trained_rd, State.eyesWritten, State.rd_wr_apart (by decide) (by decide), State.rd_wr (by decide) (by decide)]
  exact Nat.mod_eq_of_lt (failedStacks_lt eyes)

theorem State.trained_mem : (s.trained eyes).mem = { s.mem with retrain := false, trims := [] } := by
  have h : (s.trained eyes).mem = (s.eyesShown eyes).mem := State.event_within.same .mem
  have h' : (s.eyesWritten eyes).mem = s.mem := (State.eyesWritten_within eyes).same .mem
  rw [h, State.eyesShown, State.modMem_mem, h']

theorem State.trained_flag : (s.trained eyes).flag DMC.PAGE 5 := State.event_flag_self _

theorem State.trained_boot : (s.trained eyes).boot = s.boot := (State.trained_within eyes).same .boot

end

section
variable {first again : List (BitVec 6)} (hs : s.startRuns = true) (h6 : s.stageIs 6 = false)
  (hh : s.rdI THM.ZONE_STS.TEMP 0 5 > 10 * s.rdI THM.ZONE_THR0.CSTOP 0 5)
  (hm : s.rdI THM.ZONE_STS.TEMP 0 6 > 10 * s.rdI THM.ZONE_THR0.CSTOP 0 6)
include hs h6 hh hm

theorem execHbmTraining_run : execHbmTraining first again s = if failedStacks (trainedEyes first again) = 0 then
      .next ((s.trained (trainedEyes first again)).stageDone 6 7)
    else .next (((s.trained (trainedEyes first again)).logc DMC.PAGE 0x86 ((s.trained (trainedEyes first again)).rd DMC.TRAIN_STS) 0).haltStart
      0x0601) :=
  if_neg (by simp only [hs, h6, decide_eq_false (Int.not_le.2 hh), decide_eq_false (Int.not_le.2 hm)]; simp)

theorem hbmTraining_gives (hf : ∀ k : Fin 4, 16 ≤ (first.getD k 0).toNat) : gives (.hbmTraining first again) s (fun t =>
      t.stageIs 6 = true ∧
      t.rd DMC.TRAIN_STS.PASS = 15 ∧
      t.rd DMC.TRAIN_STS.FAIL = 0 ∧
      t.flag DMC.PAGE 5 ∧
      t.mem = { s.mem with retrain := false, trims := [] } ∧
      s.within t [.regs, .boot, .log, .mem, .sram] ([DMC.TRAIN_STS.key 0 0, SYS.START_STS.key 0 0] ++ eventKeys DMC.PAGE)) := by
  have h0 : failedStacks (trainedEyes first again) = 0 := failedStacks_eq_zero (fun k => by
    rw [trainedEyes_getD, if_neg (Nat.not_lt.2 (hf k))]
    exact hf k)
  have hd : (s.trained (trainedEyes first again)).within ((s.trained (trainedEyes first again)).stageDone 6 7) [.regs, .boot]
      [SYS.START_STS.key 0 0] := State.stageDone_within
  refine ⟨_, (execHbmTraining_run hs h6 hh hm).trans (if_pos h0), State.stageDone_stageIs _ (by decide), ?_, ?_, ?_, ?_, ?_⟩
  · rw [hd.rd, State.trained_pass, h0]
  · rw [hd.rd, State.trained_fail, h0]
  · unfold State.flag
    rw [hd.rd]
    exact State.trained_flag _
  · exact (hd.same .mem).trans (State.trained_mem _)
  · exact (State.within.refl.next (State.trained_within _)).next hd

theorem hbmTraining_gives_halt (k : Fin 4) (hf : (first.getD k 0).toNat < 16) (ha : (again.getD k 0).toNat < 16) :
    gives (.hbmTraining first again) s (fun t =>
      t.stageIs 6 = false ∧
      t.rd SYS.START_STS.STAGE = 13 ∧
      t.rd SYS.START_STS.FAIL = 0x0601 ∧
      bit (t.rd DMC.TRAIN_STS.FAIL) k = true ∧
      s.logged t DMC.PAGE 0x86 (fun a b => a = t.rd DMC.TRAIN_STS ∧ b = 0) ∧
      s.within t [.regs, .boot, .log, .mem, .fab, .sram] ([DMC.TRAIN_STS.key 0 0, SYS.START_STS.key 0 0] ++ eventKeys DMC.PAGE ++ logKeys DMC.PAGE ++ logKeys SYS.PAGE)) := by
  have hb : (failedStacks (trainedEyes first again)).testBit k = true := by
    rw [failedStacks_testBit, trainedEyes_getD, if_pos hf]
    exact decide_eq_true ha
  have h0 : failedStacks (trainedEyes first again) ≠ 0 := fun h => by
    rw [h, Nat.zero_testBit] at hb
    cases hb
  have hx := (execHbmTraining_run hs h6 hh hm).trans (if_neg h0)
  generalize trainedEyes first again = eyes at hx hb
  have hl : (s.trained eyes).within ((s.trained eyes).logc DMC.PAGE 0x86 ((s.trained eyes).rd DMC.TRAIN_STS) 0) [.regs, .log, .sram]
      (logKeys DMC.PAGE) := State.logc_within
  generalize hu : (s.trained eyes).logc DMC.PAGE 0x86 ((s.trained eyes).rd DMC.TRAIN_STS) 0 = u at hx hl
  have hw : u.within (u.haltStart 0x0601) [.regs, .boot, .log, .fab, .sram] (SYS.START_STS.key 0 0 :: logKeys SYS.PAGE) :=
    State.haltStart_within
  refine ⟨_, hx, ?_, State.haltStart_stage _, State.haltStart_fail (by decide), ?_, ?_, ?_⟩
  · rw [State.haltStart_stageIs, State.stageIs_congr (hl.same .boot), State.stageIs_congr (State.trained_boot eyes), h6]
  · rw [hw.rd, hl.rd, State.trained_fail, bit_eq_testBit]
    exact hb
  · have hq : u.within (u.stopStart.wr SYS.START_STS.FAIL 0x0601) [.regs, .boot, .fab] [SYS.START_STS.key 0 0] :=
      (State.within.refl.next State.stopStart_within).next State.wr_within
    have hr : (u.haltStart 0x0601).rd DMC.TRAIN_STS = (s.trained eyes).rd DMC.TRAIN_STS := hw.rd.trans hl.rd
    subst hu
    rw [hr]
    exact State.logged_of (State.trained_sameLog eyes) (State.logged_logc_logc hq.sameLog _ _ _ _)
  · exact ((State.within.refl.next (State.trained_within eyes)).next hl).next hw

end

/-! ### Maps -/

/-- The load of one image by its type (R409). -/
def State.loadImage (s : State) (ty : Nat) (e : BmsEntry) (side : Nat) : Option State :=
  if ty = 2 then s.loadWeave e side else if ty = 3 then s.loadWave e side else s.loadUniform e side

/-- The sides' images fail with records alone, until one of them loads or none is left (R409). -/
theorem State.loadType_cases (s : State) (ty : Nat) (sides : List Nat) : ∃ u, Fr 134217985 s u ∧
    (s.loadType ty sides = (none, u) ∨ ∃ e side t, u.loadImage ty e side = some t ∧ s.loadType ty sides = (some t, u)) := by
  induction sides generalizing s with
  | nil => exact ⟨s, .refl, .inl rfl⟩
  | cons side rest ih =>
    have hf (v : State) : Fr 134217985 v (if rest.isEmpty then v else v.fallBack ty) := .ite .refl State.fallBack_fr
    cases hi : s.bmsImage side ty with
    | none =>
      obtain ⟨u, hu, h⟩ := ih (if rest.isEmpty then s else s.fallBack ty)
      have e : s.loadType ty (side :: rest) = (if rest.isEmpty then s else s.fallBack ty).loadType ty rest := by
        rw [State.loadType, hi]
      rw [e]
      exact ⟨u, (hf s).trans hu, h⟩
    | some e =>
      cases hl : s.loadImage ty e side with
      | some t =>
        refine ⟨s, .refl, .inr ⟨e, side, t, hl, ?_⟩⟩
        unfold State.loadImage at hl
        rw [State.loadType, hi]
        dsimp only
        rw [hl]
      | none =>
        obtain ⟨u, hu, h⟩ := ih (if rest.isEmpty then s.mapFailed e side ty else (s.mapFailed e side ty).fallBack ty)
        have e : s.loadType ty (side :: rest) =
            (if rest.isEmpty then s.mapFailed e side ty else (s.mapFailed e side ty).fallBack ty).loadType ty rest := by
          unfold State.loadImage at hl
          rw [State.loadType, hi]
          dsimp only
          rw [hl]
        rw [e]
        exact ⟨u, (State.mapFailed_fr.trans (hf _)).trans hu, h⟩

/-- Every image's load leaves what the start keeps of itself. -/
theorem State.loadImage_fr {ty side : Nat} {e : BmsEntry} (h : s.loadImage ty e side = some t) : Fr 67112993 s t := by
  unfold State.loadImage at h
  split at h
  · exact State.loadWeave_fr h
  · split at h
    · exact State.loadWave_fr h
    · exact State.loadUniform_fr h

/-- A die takes a loaded map. -/
def State.putMap (s : State) (m : WeaveMap) (d : Fin 2) : State :=
  ((s.wrB WV.MAP_CTL.SWAP true d).wrB WV.MAP_CTL.ERR false d).modWv (fun w => { w with mapNext := w.mapNext.set d (some m) })

/-- A half takes a loaded waveform table. -/
def State.putWave (s : State) (w : Waveform) (h : Fin 2) : State :=
  (((s.wrB PDV.WF_CTL.SWAP true h).wrB PDV.WF_CTL.ERR false h).wr PDV.WF_CTL.WHY 0 h).modPanel
    (fun p => { p with waveNext := p.waveNext.set h (some w) })

theorem State.putMap_mapNext (m : WeaveMap) (d : Fin 2) : (s.putMap m d).wv.mapNext = s.wv.mapNext.set d (some m) := by
  have e : ((s.wrB WV.MAP_CTL.SWAP true d).wrB WV.MAP_CTL.ERR false d).wv = s.wv := Eq.trans (State.wrB_fr.same .wv) (State.wrB_fr.same .wv)
  rw [State.putMap, State.modWv_wv, e]

theorem State.putWave_waveNext (w : Waveform) (h : Fin 2) : (s.putWave w h).panel.waveNext = s.panel.waveNext.set h (some w) := by
  have e : (((s.wrB PDV.WF_CTL.SWAP true h).wrB PDV.WF_CTL.ERR false h).wr PDV.WF_CTL.WHY 0 h).panel = s.panel :=
    Eq.trans (State.wr_fr.same .panel) (Eq.trans (State.wrB_fr.same .panel) (State.wrB_fr.same .panel))
  rw [State.putWave, State.modPanel_panel, e]

theorem State.putWave_wv (w : Waveform) (h : Fin 2) : (s.putWave w h).wv = s.wv := by
  have e : (((s.wrB PDV.WF_CTL.SWAP true h).wrB PDV.WF_CTL.ERR false h).wr PDV.WF_CTL.WHY 0 h).wv = s.wv :=
    Eq.trans (State.wr_fr.same .wv) (Eq.trans (State.wrB_fr.same .wv) (State.wrB_fr.same .wv))
  rw [State.putWave, State.modPanel_wv, e]

theorem State.loadWeave_some {side : Nat} {e : BmsEntry} (h : s.loadWeave e side = some t) : ∃ m, t = (s.putMap m 0).putMap m 1 := by
  unfold State.loadWeave at h
  dsimp only at h
  split at h
  · split at h
    · exact ⟨_, (Option.some.inj h).symm⟩
    · cases h
  · cases h

theorem State.loadWave_some {side : Nat} {e : BmsEntry} (h : s.loadWave e side = some t) :
    ∃ w w', t = (s.putWave w 0).putWave w' 1 := by
  unfold State.loadWave at h
  dsimp only at h
  split at h
  · cases h
  · obtain ⟨u, hu, h⟩ := Option.bind_eq_some_iff.1 h
    split at hu
    · split at h
      · have e := Option.some.inj hu
        subst e
        exact ⟨_, _, (Option.some.inj h).symm⟩
      · cases h
    · cases hu

/-- Two values set in turn leave both places filled. -/
theorem vector_set_both {α : Type} (v : Vector (Option α) 2) (x y : α) (d : Fin 2) :
    ((v.set 0 (some x)).set 1 (some y))[d].isSome = true := by
  rcases (show d = 0 ∨ d = 1 by omega) with rfl | rfl <;> simp

/-- Both dies hold the loaded map (R136). -/
theorem State.loadWeave_maps {side : Nat} {e : BmsEntry} (h : s.loadWeave e side = some t) (d : Fin 2) :
    t.wv.mapNext[d].isSome = true := by
  obtain ⟨m, rfl⟩ := State.loadWeave_some h
  have e : ((s.putMap m 0).putMap m 1).wv.mapNext = (s.wv.mapNext.set 0 (some m)).set 1 (some m) := by
    rw [State.putMap_mapNext, State.putMap_mapNext]
    rfl
  rw [e]
  exact vector_set_both _ _ _ d

/-- Both halves hold the loaded waveform table, and the dies their maps (R228). -/
theorem State.loadWave_waves {side : Nat} {e : BmsEntry} (h : s.loadWave e side = some t) :
    t.wv = s.wv ∧ ∀ d : Fin 2, t.panel.waveNext[d].isSome = true := by
  obtain ⟨w, w', rfl⟩ := State.loadWave_some h
  have e : ((s.putWave w 0).putWave w' 1).panel.waveNext = (s.panel.waveNext.set 0 (some w)).set 1 (some w') := by
    rw [State.putWave_waveNext, State.putWave_waveNext]
    rfl
  refine ⟨(State.putWave_wv _ _).trans (State.putWave_wv _ _), fun d => ?_⟩
  rw [e]
  exact vector_set_both _ _ _ d

theorem State.loadUniform_keeps {side : Nat} {e : BmsEntry} (h : s.loadUniform e side = some t) :
    t.wv = s.wv ∧ t.panel = s.panel := by
  have hf : Fr 67108864 s t := by
    unfold State.loadUniform at h
    dsimp only at h
    split at h
    · cases h
    · rw [← Option.some.inj h]
      exact Fr.each .refl (fun u d => State.hbmWr_fr.trans State.hbmWr_fr)
  exact ⟨hf.same .wv, hf.same .panel⟩

/-- What MAP_LOAD ends with: maps and tables in place, or a halted start (R65). -/
def State.mapsEnd (t : State) : Prop :=
  (t.stageIs 7 = true ∧ (∀ d : Fin 2, t.wv.mapNext[d].isSome = true ∧ t.panel.waveNext[d].isSome = true)) ∨
  (t.stageIs 7 = false ∧ t.rd SYS.START_STS.STAGE = 13 ∧ t.rd SYS.START_STS.FAIL = 0x0701)

theorem State.haltStart_mapsEnd (h : s.stageIs 7 = false) : (s.haltStart 0x0701).mapsEnd :=
  .inr ⟨(State.haltStart_stageIs _ 7).trans h, State.haltStart_stage _, State.haltStart_fail (by decide)⟩

/-- The three loads of stage 7, one after another. -/
theorem execMapLoad_end (hs : s.startRuns = true) (h6 : s.stageIs 6 = true) (h7 : s.stageIs 7 = false) :
    ∃ t, execMapLoad s = .next t ∧ t.mapsEnd := by
  have hc : ¬ (s.startRuns = false ∨ s.stageIs 6 = false ∨ s.stageIs 7 = true) := by simp [hs, h6, h7]
  have hb0 : (s.showStage 7).boot = s.boot := State.showStage_within.same .boot
  obtain ⟨u2, hu2, e2⟩ := (s.showStage 7).loadType_cases 2 (s.showStage 7).bmsOrder
  have hb2 : u2.boot = s.boot := Eq.trans (hu2.same .boot) hb0
  unfold execMapLoad
  rw [if_neg hc]
  dsimp only
  obtain e2 | ⟨_, _, t2, l2, e2⟩ := e2
  · rw [e2]
    exact ⟨_, rfl, State.haltStart_mapsEnd ((State.stageIs_congr hb2 7).trans h7)⟩
  · obtain ⟨u3, hu3, e3⟩ := t2.loadType_cases 3 t2.bmsOrder
    have hb3 : u3.boot = s.boot := Eq.trans (hu3.same .boot) (Eq.trans ((State.loadImage_fr l2).same .boot) hb2)
    have hw3 : u3.wv = t2.wv := hu3.same .wv
    rw [e2]
    dsimp only
    obtain e3 | ⟨_, _, t3, l3, e3⟩ := e3
    · rw [e3]
      exact ⟨_, rfl, State.haltStart_mapsEnd ((State.stageIs_congr hb3 7).trans h7)⟩
    · obtain ⟨u4, hu4, e4⟩ := t3.loadType_cases 4 t3.bmsOrder
      have hb4 : u4.boot = s.boot := Eq.trans (hu4.same .boot) (Eq.trans ((State.loadImage_fr l3).same .boot) hb3)
      have hw4 : u4.wv = t3.wv := hu4.same .wv
      have hp4 : u4.panel = t3.panel := hu4.same .panel
      rw [e3]
      dsimp only
      obtain e4 | ⟨_, _, t4, l4, e4⟩ := e4
      · rw [e4]
        exact ⟨_, rfl, State.haltStart_mapsEnd ((State.stageIs_congr hb4 7).trans h7)⟩
      · rw [e4]
        obtain ⟨hw, hwaves⟩ := State.loadWave_waves l3
        obtain ⟨hw', hp'⟩ := State.loadUniform_keeps l4
        have ew : (t4.stageDone 7 8).wv = t2.wv :=
          Eq.trans (State.stageDone_within.same .wv) (hw'.trans (hw4.trans (hw.trans hw3)))
        have ep : (t4.stageDone 7 8).panel = t3.panel := Eq.trans (State.stageDone_within.same .panel) (hp'.trans hp4)
        refine ⟨_, rfl, .inl ⟨State.stageDone_stageIs _ (by decide), fun d => ?_⟩⟩
        rw [ew, ep]
        exact ⟨State.loadWeave_maps l2 d, hwaves d⟩

theorem mapLoad_gives (hs : s.startRuns = true) (h6 : s.stageIs 6 = true) (h7 : s.stageIs 7 = false) : gives .mapLoad s (fun t =>
      ((t.stageIs 7 = true ∧ (∀ d : Fin 2, t.wv.mapNext[d].isSome = true ∧ t.panel.waveNext[d].isSome = true)) ∨ (t.stageIs 7 = false ∧ t.rd SYS.START_STS.STAGE = 13 ∧ t.rd SYS.START_STS.FAIL = 0x0701)) ∧
      s.keeps t [.regs, .panel, .boot, .log, .wv, .fab, .hbm, .sram]) := by
  obtain ⟨t, ht, hm⟩ := execMapLoad_end hs h6 h7
  obtain ⟨t', ht', hk⟩ := execMapLoad_fr (s := s)
  have e : t' = t := Host.Outcome.next.inj (ht'.symm.trans ht)
  exact ⟨t, ht, hm, e ▸ hk.keepsOf⟩

end

end Sys2Proof.Machine

namespace Sys2Proof.Machine

set_option Elab.async false

/-! Start stages 8 and 9 of O5: the lane step-up (R210, R319) and the Lintel lock (R187, R486). -/

section

variable {s t u : State}

/-! ### Lane step-up -/

/-- Calibration is asked for where CLB.CTL.AUTO says so (R424). -/
def State.stepUpCal (s : State) : State := if s.rdB CLB.CTL.AUTO then s.askRun 7 else s

theorem State.stepUpCal_within : s.within s.stepUpCal [.regs, .thm] [CLB.STS.key 0 0] := by
  unfold State.stepUpCal State.askRun
  split
  · exact (State.within.refl.frame State.modThm_fr).next State.wrB_within
  · exact .refl

/-- Stage 8 is done, before an unaddressed module waits. -/
def State.steppedUp (s : State) : State := (s.stageDone 8 9).stepUpCal

theorem State.steppedUp_within : s.within s.steppedUp [.regs, .boot, .thm] [SYS.START_STS.key 0 0, CLB.STS.key 0 0] :=
  (State.within.refl.next State.stageDone_within).next State.stepUpCal_within

theorem State.steppedUp_stageIs : s.steppedUp.stageIs 8 = true :=
  (State.stageIs_congr (State.stepUpCal_within.same .boot) 8).trans (State.stageDone_stageIs _ (by decide))

theorem State.steppedUp_address : s.steppedUp.addrSrc = s.addrSrc ∧ s.steppedUp.addressed = s.addressed := by
  have e : s.steppedUp.eff_ FAB.ADDR_CFG.SRC = s.eff_ FAB.ADDR_CFG.SRC := State.eff_of_same s (State.steppedUp_within.same .eff) _ _ _
  have r : s.steppedUp.rd FAB.ADDR_STS.STATE = s.rd FAB.ADDR_STS.STATE := State.steppedUp_within.rd
  exact ⟨congrArg (min 2) e, congrArg (· == 2) r⟩

/-- An unaddressed module waits in Sill at stage 13 (R319). -/
def State.waitsForAddress (s : State) : State := (s.modFab (fun f => { f with waitAddr := true })).wr SYS.START_STS.STAGE 13

theorem State.waitsForAddress_within : s.within s.waitsForAddress [.regs, .fab] [SYS.START_STS.key 0 0] :=
  (State.within.refl.frame State.modFab_fr).next State.wr_within

theorem execLaneStepUp_run (hs : s.startRuns = true) (h5 : s.stageIs 5 = true) (h7 : s.stageIs 7 = true) (h8 : s.stageIs 8 = false)
    (hl : s.lanesAtRate = true) : execLaneStepUp s =
      if s.steppedUp.addrSrc ≠ 2 ∧ s.steppedUp.addressed = false then .next s.steppedUp.waitsForAddress else .next s.steppedUp :=
  if_neg (by simp [hs, h5, h7, h8, hl])

theorem laneStepUp_gives (hs : s.startRuns = true) (h5 : s.stageIs 5 = true) (h7 : s.stageIs 7 = true) (h8 : s.stageIs 8 = false)
    (hl : s.lanesAtRate = true) : gives .laneStepUp s (fun t =>
      t.stageIs 8 = true ∧
      (s.addrSrc ≠ 2 → s.addressed = false → t.rd SYS.START_STS.STAGE = 13) ∧
      s.within t [.regs, .boot, .fab, .thm] [SYS.START_STS.key 0 0, CLB.STS.key 0 0]) := by
  have e := execLaneStepUp_run hs h5 h7 h8 hl
  have hw : s.within s.steppedUp [.regs, .boot, .fab, .thm] [SYS.START_STS.key 0 0, CLB.STS.key 0 0] :=
    State.within.refl.next State.steppedUp_within
  rw [State.steppedUp_address.1, State.steppedUp_address.2] at e
  by_cases ha : s.addrSrc ≠ 2 ∧ s.addressed = false
  · refine ⟨_, e.trans (if_pos ha), ?_, fun _ _ => State.rd_wr (by decide) (by decide), hw.next State.waitsForAddress_within⟩
    exact (State.stageIs_congr (State.waitsForAddress_within.same .boot) 8).trans State.steppedUp_stageIs
  · exact ⟨_, e.trans (if_neg ha), State.steppedUp_stageIs, fun h1 h2 => absurd ⟨h1, h2⟩ ha, hw⟩

/-! ### The Lintel lock -/

/-- The raster settings come into force, or are refused with code 0x5B (R187). -/
def State.lockRaster (s : State) : State :=
  if s.rasterOk then
    s.each [SCN.LINE_PER.PER, SCN.VTOTAL.LINES, SCN.RATE_CTL, SCN.PHASE.NS, SCN.HS_DELAY.NS] (fun s f => s.latch f)
  else s.logc SCN.PAGE 0x5B (s.rd SCN.LOCK_STS) 0

/-- The skew and the trim limit come into force with every lock. -/
def State.lockTrims (s : State) : State := s.each [SCN.MUL_SKEW, SCN.TRIM_MAX.WC] (fun s f => s.latch f)

/-- The raster's state of the lock: aligned where the time is valid and the raster follows it (R188, R190). -/
def State.lockAlign (s : State) (valid : Bool) : State :=
  (s.wr SCN.LOCK_STS.SRC (s.eff_ SCN.RATE_CTL.SRC)).modScan (fun c => { c with
    aligned := valid && (s.eff_ SCN.RATE_CTL.SRC == 0 || s.eff_ SCN.RATE_CTL.SRC == 1), rephase := false, rephaseTo := none
    stretch := 0, goodFrames := 0, pull := false, houseN := 0, houseAt := none })

/-- The line length of the settings in force, without a trim (R191). -/
def State.lockLine (s : State) : State := s.setLine (s.eff_ SCN.LINE_PER.PER) 0

/-- The lock is done, and noted with its time (R486). -/
def State.lockNoted (s : State) : State := (s.modBoot (fun b => { b with lockDone := true, lockAt := s.clk.now })).sliceLine

/-- The bands of the first Weaver frame (R229). -/
def State.lockBands (s : State) : State :=
  s.each halves (fun s h => match (s.panel.waveNext[h]).or s.panel.wave[h] with
    | some w => s.wr PDV.WV_STS.BAND_NEXT (bandDirect w (s.tp h)) h
    | none => s)

/-- The lock up to the fast pass, behind the raster settings. -/
def State.lockRest (s : State) (valid : Bool) : State := ((s.lockTrims.lockAlign valid).lockLine.lockNoted).lockBands

theorem State.lintelLock_eq (valid : Bool) :
    s.lintelLock valid = ((s.lockRaster.lockRest valid).startFastPass).stageDone 9 10 := rfl

/-- Registers that come into force leave the registers. -/
theorem State.within.latch {ps : List Area} {ks : List Nat} {f : Fld} (h : s.within t ps ks) (he : Area.eff ∈ ps := by decide) :
    s.within (t.latch f) ps ks :=
  h.next (State.latch_fr.within (ps := [.eff])) (by simpa using he) (by simp)

theorem State.lockTrims_within : s.within s.lockTrims [.eff] [] := (State.within.refl.latch).latch

theorem State.lockAlign_within (valid : Bool) : s.within (s.lockAlign valid) [.regs, .scan] [SCN.LOCK_STS.key 0 0] :=
  (State.within.refl.next State.wr_within).frame State.modScan_fr

theorem State.lockLine_within : s.within s.lockLine [.regs, .scan] [SCN.LINE_EFF.PER.key 0 0] := by
  unfold State.lockLine State.setLine
  exact (State.within.refl.next State.wr_within).frame State.modScan_fr

theorem State.lockNoted_fr : Fr 576 s s.lockNoted := (State.modBoot_fr.mono rfl).trans (State.sliceLine_fr.mono rfl)

/-- From the trims to the bands the lock changes no value in force. -/
theorem State.lockNoted_within (valid : Bool) : s.within ((s.lockAlign valid).lockLine.lockNoted) [.regs, .boot, .mem, .scan]
    [SCN.LOCK_STS.key 0 0, SCN.LINE_EFF.PER.key 0 0] :=
  ((State.within.refl.next (State.lockAlign_within valid)).next State.lockLine_within).frame State.lockNoted_fr

theorem State.lockNoted_boot (valid : Bool) :
    ((s.lockAlign valid).lockLine.lockNoted).boot = { s.boot with lockDone := true, lockAt := s.clk.now } := by
  have hw : s.within (s.lockAlign valid).lockLine [.regs, .scan] [SCN.LOCK_STS.key 0 0, SCN.LINE_EFF.PER.key 0 0] :=
    (State.within.refl.next (State.lockAlign_within valid)).next State.lockLine_within
  have hb : (s.lockAlign valid).lockLine.boot = s.boot := hw.same .boot
  have hc : (s.lockAlign valid).lockLine.clk = s.clk := hw.same .clk
  have hn (u : State) : u.lockNoted.boot = { u.boot with lockDone := true, lockAt := u.clk.now } := State.sliceLine_fr.same .boot
  rw [hn, hb, hc]

theorem State.lockNoted_aligned (valid : Bool) : ((s.lockAlign valid).lockLine.lockNoted).scan.aligned =
    (valid && (s.eff_ SCN.RATE_CTL.SRC == 0 || s.eff_ SCN.RATE_CTL.SRC == 1)) := by
  have h : ((s.lockAlign valid).lockLine.lockNoted).scan = ((s.lockAlign valid).lockLine).scan := State.lockNoted_fr.same .scan
  rw [h, State.lockLine, State.setLine_scan, State.lockAlign, State.modScan_scan]

/-- The registers of the shown bands, one for each half. -/
theorem waveSts_key (h : Fin 2) : PDV.WV_STS.BAND_NEXT.key h 0 ∈ [PDV.WV_STS.key 0 0, PDV.WV_STS.key 1 0] ∧
    offBase (PDV.WV_STS.BAND_NEXT.key h 0) := by
  unfold offBase
  revert h
  decide

theorem State.lockBands_within : s.within s.lockBands [.regs] [PDV.WV_STS.key 0 0, PDV.WV_STS.key 1 0] := by
  unfold State.lockBands
  refine State.within.refl.each (fun u h => ?_)
  obtain ⟨hk, hb⟩ := waveSts_key h
  split
  · exact State.within.refl.next (State.wr_within hb) (by decide) (by simpa using hk)
  · exact .refl

/-- The registers that the lock writes behind the raster settings. -/
def lockKeys : List Nat := [SCN.LOCK_STS.key 0 0, SCN.LINE_EFF.PER.key 0 0, PDV.WV_STS.key 0 0, PDV.WV_STS.key 1 0]

theorem State.lockRest_within (valid : Bool) : s.within (s.lockRest valid) [.regs, .eff, .boot, .mem, .scan] lockKeys :=
  ((State.within.refl.next State.lockTrims_within).next (State.lockNoted_within valid)).next State.lockBands_within

/-- The values in force of the registers other than the trims' stay. -/
theorem State.lockRest_eff {valid : Bool} {f : Fld} (hs : f.key 0 0 ≠ SCN.MUL_SKEW.key 0 0 := by decide)
    (ht : f.key 0 0 ≠ SCN.TRIM_MAX.WC.key 0 0 := by decide) : (s.lockRest valid).eff_ f = s.eff_ f := by
  have h1 : (s.lockRest valid).eff_ f = s.lockTrims.eff_ f :=
    State.eff_of_same _ (Eq.trans (State.lockBands_within.same .eff) ((State.lockNoted_within valid).same .eff)) _ _ _
  exact h1.trans ((State.latch_eff_ne _ ht).trans (State.latch_eff_ne _ hs))

theorem State.lockRest_boot (valid : Bool) : (s.lockRest valid).boot = { s.boot with lockDone := true, lockAt := s.clk.now } := by
  have h1 : (s.lockRest valid).boot = ((s.lockTrims.lockAlign valid).lockLine.lockNoted).boot := State.lockBands_within.same .boot
  have h2 : s.lockTrims.boot = s.boot := State.lockTrims_within.same .boot
  have h3 : s.lockTrims.clk = s.clk := State.lockTrims_within.same .clk
  rw [h1, State.lockNoted_boot, h2, h3]

theorem State.lockRest_aligned (valid : Bool) : (s.lockRest valid).scan.aligned =
    (valid && (s.eff_ SCN.RATE_CTL.SRC == 0 || s.eff_ SCN.RATE_CTL.SRC == 1)) := by
  have h1 : (s.lockRest valid).scan = ((s.lockTrims.lockAlign valid).lockLine.lockNoted).scan := State.lockBands_within.same .scan
  have h2 : s.lockTrims.eff_ SCN.RATE_CTL.SRC = s.eff_ SCN.RATE_CTL.SRC :=
    (State.latch_eff_ne _ (by decide)).trans (State.latch_eff_ne _ (by decide))
  rw [h1, State.lockNoted_aligned, h2]

/-! ### What the lock leaves -/

/-- The raster settings change values in force or the log. -/
theorem State.lockRaster_fr : Fr 134217987 s s.lockRaster := by
  unfold State.lockRaster
  exact .ite (Fr.each .refl (fun u f => State.latch_fr.mono rfl)) (State.logc_fr.mono rfl)

theorem State.lintelLock_boot (valid : Bool) : (s.lintelLock valid).boot =
    { s.boot with lockDone := true, lockAt := s.clk.now, done := s.boot.done ||| BitVec.ofNat 16 (2 ^ 9) } := by
  have h1 : ((s.lockRaster.lockRest valid).startFastPass).boot = (s.lockRaster.lockRest valid).boot := State.startFastPass_fr.same .boot
  have h2 : s.lockRaster.boot = s.boot := State.lockRaster_fr.same .boot
  have h3 : s.lockRaster.clk = s.clk := State.lockRaster_fr.same .clk
  rw [State.lintelLock_eq, State.stageDone_boot, h1, State.lockRest_boot, h2, h3]

theorem State.lintelLock_stageIs (valid : Bool) : (s.lintelLock valid).stageIs 9 = true := State.stageDone_stageIs _ (by decide)

theorem State.lintelLock_aligned (valid : Bool) : (s.lintelLock valid).scan.aligned =
    (valid && (s.lockRaster.eff_ SCN.RATE_CTL.SRC == 0 || s.lockRaster.eff_ SCN.RATE_CTL.SRC == 1)) := by
  have h1 : ((s.lockRaster.lockRest valid).startFastPass).scan = (s.lockRaster.lockRest valid).scan := State.startFastPass_fr.same .scan
  have h2 : (s.lintelLock valid).scan = ((s.lockRaster.lockRest valid).startFastPass).scan := State.stageDone_within.same .scan
  rw [h2, h1, State.lockRest_aligned]

theorem State.lintelLock_fastPass (valid : Bool) : (s.lintelLock valid).frs.fastPass = true := by
  have h : (s.lintelLock valid).frs = ((s.lockRaster.lockRest valid).startFastPass).frs := State.stageDone_within.same .frs
  rw [h]
  rfl

theorem State.lintelLock_eff {valid : Bool} {f : Fld} (hs : f.key 0 0 ≠ SCN.MUL_SKEW.key 0 0 := by decide)
    (ht : f.key 0 0 ≠ SCN.TRIM_MAX.WC.key 0 0 := by decide) : (s.lintelLock valid).eff_ f = s.lockRaster.eff_ f := by
  have h1 : ((s.lockRaster.lockRest valid).startFastPass).eff = (s.lockRaster.lockRest valid).eff := State.startFastPass_fr.same .eff
  have h2 : (s.lintelLock valid).eff = ((s.lockRaster.lockRest valid).startFastPass).eff := State.stageDone_within.same .eff
  exact (State.eff_of_same _ (h2.trans h1) _ _ _).trans (State.lockRest_eff hs ht)

/-- Settings that are right come into force as they stand (R187). -/
theorem State.lockRaster_eff_ok (h : s.rasterOk = true) :
    s.lockRaster.eff_ SCN.LINE_PER.PER = s.rd SCN.LINE_PER.PER ∧ s.lockRaster.eff_ SCN.VTOTAL.LINES = s.rd SCN.VTOTAL.LINES ∧
    s.lockRaster.eff_ SCN.RATE_CTL.RATE = s.rd SCN.RATE_CTL.RATE ∧ s.lockRaster.eff_ SCN.RATE_CTL.SRC = s.rd SCN.RATE_CTL.SRC := by
  have e : s.lockRaster = ((((s.latch SCN.LINE_PER.PER).latch SCN.VTOTAL.LINES).latch SCN.RATE_CTL).latch SCN.PHASE.NS).latch
    SCN.HS_DELAY.NS := if_pos h
  have hr (v : State) : (v.latch SCN.RATE_CTL).eff_ SCN.RATE_CTL.RATE = v.rd SCN.RATE_CTL.RATE ∧
      (v.latch SCN.RATE_CTL).eff_ SCN.RATE_CTL.SRC = v.rd SCN.RATE_CTL.SRC :=
    ⟨v.latch_eff_self SCN.RATE_CTL.RATE, v.latch_eff_self SCN.RATE_CTL.SRC⟩
  have hl (v : State) (f g : Fld) : (v.latch f).rd g = v.rd g := v.effSet_rd _ _ _ _ _
  rw [e]
  simp (disch := decide) only [State.latch_eff_ne, State.latch_eff_self, (hr _).1, (hr _).2, hl, and_self]

/-- Settings that are refused leave the previous ones in force. -/
theorem State.lockRaster_refused (h : s.rasterOk = false) : s.lockRaster = s.logc SCN.PAGE 0x5B (s.rd SCN.LOCK_STS) 0 :=
  if_neg (by rw [h]; exact Bool.false_ne_true)

theorem State.lockRaster_eff_refused (h : s.rasterOk = false) (f : Fld) : s.lockRaster.eff_ f = s.eff_ f := by
  rw [State.lockRaster_refused h]
  exact State.eff_of_same s (State.logc_fr.same .eff) _ _ _

/-- The fast pass begins with at most one record. -/
theorem State.startFastPass_wait : ∃ v : State, s.sameLog v ∧
    (s.startFastPass.log.wait = v.log.wait ∨ ∃ a, s.startFastPass.log.wait = (v.logc FRS.PAGE 0x34 a 0).log.wait) := by
  have hv : s.within (s.modFrs (fun r => { r with wrapPos := 0, wrapHit := false })) [.frs] [] := State.modFrs_fr.within
  refine ⟨_, hv.sameLog, ?_⟩
  cases hh : s.frs.wrapHit with
  | false =>
    left
    unfold State.startFastPass State.wrapEnd
    rw [hh]
    rfl
  | true =>
    right
    refine ⟨s.rd FRS.TIME_STS, ?_⟩
    unfold State.startFastPass State.wrapEnd
    rw [hh]
    rfl

/-- The record of refused settings stands behind the lock (R187). -/
theorem State.lintelLock_logged (h : s.rasterOk = false) (valid : Bool) :
    s.logged (s.lintelLock valid) SCN.PAGE 0x5B (fun a b => a = s.rd SCN.LOCK_STS ∧ b = 0) := by
  have hw : s.lockRaster.within (s.lockRaster.lockRest valid) [.regs, .eff, .boot, .mem, .scan] lockKeys := State.lockRest_within valid
  have hd : (s.lintelLock valid).log = ((s.lockRaster.lockRest valid).startFastPass).log := State.stageDone_within.same .log
  obtain ⟨v, hv, e⟩ := State.startFastPass_wait (s := s.lockRaster.lockRest valid)
  have hs := hw.sameLog.trans hv
  rw [State.lockRaster_refused h] at hs
  obtain e | ⟨a, e⟩ := e
  · exact (State.logged_logc s _ _ _ _).wait (by rw [hd, e, hs.wait])
  · exact (State.logged_logc_logc hs _ _ _ _).wait (by rw [hd, e])

theorem State.lintelLock_keeps (valid : Bool) :
    s.keeps (s.lintelLock valid) [.regs, .eff, .boot, .log, .mem, .frs, .scan, .sram] := State.lintelLock_fr.keepsOf

/-! ### The commands -/

section
variable (hc : s.canLock = true)
include hc

theorem execLintelLock_valid (ht : s.timeValid = true) : execLintelLock s = .next (s.lintelLock true) := if_pos (by rw [hc, ht]; rfl)

theorem lintelLock_gives (ht : s.timeValid = true) (hr : s.rasterOk = true) : gives .lintelLock s (fun t =>
      t.boot.lockDone = true ∧
      t.boot.lockAt = s.clk.now ∧
      t.stageIs 9 = true ∧
      t.eff_ SCN.LINE_PER.PER = s.rd SCN.LINE_PER.PER ∧
      t.eff_ SCN.VTOTAL.LINES = s.rd SCN.VTOTAL.LINES ∧
      t.eff_ SCN.RATE_CTL.RATE = s.rd SCN.RATE_CTL.RATE ∧
      t.scan.aligned = (s.rd SCN.RATE_CTL.SRC == 0 || s.rd SCN.RATE_CTL.SRC == 1) ∧
      t.frs.fastPass = true ∧
      s.keeps t [.regs, .eff, .boot, .log, .mem, .frs, .scan, .sram]) := by
  obtain ⟨hp, hv, hf, hs⟩ := State.lockRaster_eff_ok hr
  refine ⟨_, execLintelLock_valid hc ht, ?_, ?_, State.lintelLock_stageIs true, Eq.trans State.lintelLock_eff hp,
    Eq.trans State.lintelLock_eff hv, Eq.trans State.lintelLock_eff hf, ?_, State.lintelLock_fastPass true, State.lintelLock_keeps true⟩
  · rw [State.lintelLock_boot]
  · rw [State.lintelLock_boot]
  · rw [State.lintelLock_aligned, hs, Bool.true_and]

theorem lintelLock_gives_refused (ht : s.timeValid = true) (hr : s.rasterOk = false) : gives .lintelLock s (fun t =>
      t.boot.lockDone = true ∧
      t.stageIs 9 = true ∧
      t.eff_ SCN.LINE_PER.PER = s.eff_ SCN.LINE_PER.PER ∧
      t.eff_ SCN.VTOTAL.LINES = s.eff_ SCN.VTOTAL.LINES ∧
      t.eff_ SCN.RATE_CTL = s.eff_ SCN.RATE_CTL ∧
      s.logged t SCN.PAGE 0x5B (fun a b => a = s.rd SCN.LOCK_STS ∧ b = 0) ∧
      s.keeps t [.regs, .eff, .boot, .log, .mem, .frs, .scan, .sram]) := by
  refine ⟨_, execLintelLock_valid hc ht, ?_, State.lintelLock_stageIs true, Eq.trans State.lintelLock_eff (State.lockRaster_eff_refused hr _),
    Eq.trans State.lintelLock_eff (State.lockRaster_eff_refused hr _), Eq.trans State.lintelLock_eff (State.lockRaster_eff_refused hr _),
    State.lintelLock_logged hr true, State.lintelLock_keeps true⟩
  rw [State.lintelLock_boot]

/-- The start goes on without valid time: LNT_FREE and fail code 0x0901 behind the lock (R65, R486). -/
theorem execLintelLockTimeout_invalid (ht : s.timeValid = false) :
    execLintelLockTimeout s = .next (((s.lintelLock false).wrB SYS.START_STS.LNT_FREE true).startFail 0x0901) :=
  if_pos (by rw [hc, ht]; rfl)

theorem lintelLockTimeout_gives (ht : s.timeValid = false) : gives .lintelLockTimeout s (fun t =>
      t.boot.lockDone = true ∧
      t.stageIs 9 = true ∧
      t.rdB SYS.START_STS.LNT_FREE = true ∧
      t.rd SYS.START_STS.FAIL = 0x0901 ∧
      t.scan.aligned = false ∧
      s.keeps t [.regs, .eff, .boot, .log, .mem, .frs, .scan, .sram]) := by
  have hx := execLintelLockTimeout_invalid hc ht
  have hb := State.lintelLock_boot (s := s) false
  have hi := State.lintelLock_stageIs (s := s) false
  have ha := State.lintelLock_aligned (s := s) false
  have hk := State.lintelLock_keeps (s := s) false
  generalize s.lintelLock false = u at hx hb hi ha hk
  have hw : u.within ((u.wrB SYS.START_STS.LNT_FREE true).startFail 0x0901) [.regs, .log, .sram] (SYS.START_STS.key 0 0 :: logKeys SYS.PAGE) :=
    (State.within.refl.next State.wrB_within).next State.startFail_within
  have hboot : ((u.wrB SYS.START_STS.LNT_FREE true).startFail 0x0901).boot = u.boot := hw.same .boot
  have hscan : ((u.wrB SYS.START_STS.LNT_FREE true).startFail 0x0901).scan = u.scan := hw.same .scan
  refine ⟨_, hx, ?_, (State.stageIs_congr hboot 9).trans hi, ?_, State.startFail_rd_fail (by decide), ?_, hk.next hw.1⟩
  · rw [hboot, hb]
  · rw [State.rdB, State.startFail_rd]
    exact State.rdB_wrB (by decide)
  · rw [hscan, ha, Bool.false_and]

end

theorem lintelLock_idle (ht : s.timeValid = false) : idle .lintelLock s :=
  if_neg (by rw [ht, Bool.and_false]; exact Bool.false_ne_true)

/-- Settles O5: stage by stage, each command as the chain of operations that its lemmas above follow. -/
theorem startStages : Obligations.StartStages := by
  unfold Obligations.StartStages
  intro s
  exact ⟨firmwareVerify_gives, firmwareVerify_idle, firmwareVerify_gives_none,
    fun _ _ hs h6 hh hm hf => hbmTraining_gives hs h6 hh hm hf,
    fun _ _ k hs h6 hh hm hf ha => hbmTraining_gives_halt hs h6 hh hm k hf ha,
    mapLoad_gives, laneStepUp_gives, lintelLock_gives, lintelLock_gives_refused, lintelLock_idle, lintelLockTimeout_gives⟩

end

end Sys2Proof.Machine

namespace Sys2Proof.Machine

set_option Elab.async false

/-! O13 (`EncodeDecodes`): a stream of raw blocks, read back by the block check of R124 and by the decoder (R108, R111, R112). -/

section

/-- A raw block: its six header bytes and its body (R111). -/
def rawBlock (last : Bool) (c : List Byte) : List Byte :=
  leBytes 1 (b2n last * 128) ++ [0] ++ beBytes 2 (c.length - 1) ++ beBytes 2 (c.length - 1) ++ c

/-- A stream of raw blocks, one for each piece. -/
def rawBlocks : List (List Byte) → List Byte
  | [] => []
  | c :: cs => rawBlock cs.isEmpty c ++ rawBlocks cs

/-- The run after a raw block. -/
def CoilRun.push (r : CoilRun) (c : List Byte) : CoilRun :=
  { r with hist := c.reverse ++ r.hist, avail := r.avail + c.length, out := r.out + c.length }

/-! ### The pieces of a source -/

section chunks

variable {n : Nat}

theorem chunks_cons {f : Nat} {x : Byte} {xs : List Byte} :
    chunks n (f + 1) (x :: xs) = (x :: xs).take n :: chunks n f ((x :: xs).drop n) := rfl

theorem chunks_flatten (hn : 0 < n) {f : Nat} {xs : List Byte} (hf : xs.length ≤ f) : (chunks n f xs).flatten = xs := by
  induction f generalizing xs with
  | zero => rw [List.length_eq_zero_iff.1 (Nat.le_zero.1 hf)]; rfl
  | succ f ih =>
    cases xs with
    | nil => rfl
    | cons x xs =>
      rw [chunks_cons, List.flatten_cons, ih (by simp only [List.length_drop, List.length_cons] at *; omega), List.take_append_drop]

theorem length_of_mem_chunks (hn : 0 < n) {f : Nat} {xs c : List Byte} (hc : c ∈ chunks n f xs) : 1 ≤ c.length ∧ c.length ≤ n := by
  induction f generalizing xs with
  | zero => exact absurd hc List.not_mem_nil
  | succ f ih =>
    cases xs with
    | nil => exact absurd hc List.not_mem_nil
    | cons x xs =>
      rcases List.mem_cons.1 hc with rfl | h
      · rw [List.length_take, List.length_cons]
        omega
      · exact ih h

theorem chunks_length (hn : 0 < n) {f : Nat} {xs : List Byte} (hf : xs.length ≤ f) :
    (chunks n f xs).length = (xs.length + n - 1) / n := by
  induction f generalizing xs with
  | zero =>
    rw [List.length_eq_zero_iff.1 (Nat.le_zero.1 hf)]
    exact (Nat.div_eq_of_lt (by simp only [List.length_nil]; omega)).symm
  | succ f ih =>
    cases xs with
    | nil => exact (Nat.div_eq_of_lt (by simp only [List.length_nil]; omega)).symm
    | cons x xs =>
      rw [chunks_cons, List.length_cons, ih (by simp only [List.length_drop, List.length_cons] at *; omega), List.length_drop]
      rw [← Nat.add_div_right _ hn]
      by_cases h : n ≤ (x :: xs).length
      · congr 1
        omega
      · rw [List.length_cons] at *
        rw [Nat.div_eq_of_lt_le (k := 1) (by omega) (by omega), Nat.div_eq_of_lt_le (k := 1) (by omega) (by omega)]

end chunks

/-! ### The stream as a list of blocks -/

theorem rawBlocks_zipIdx (cs : List (List Byte)) (i : Nat) :
    (cs.zipIdx i).flatMap (fun ci => rawBlock (ci.2 + 1 == i + cs.length) ci.1) = rawBlocks cs := by
  induction cs generalizing i with
  | nil => rfl
  | cons c cs ih =>
    have hl : (i + 1 == i + (c :: cs).length) = cs.isEmpty := by cases cs <;> simp
    rw [List.zipIdx_cons, List.flatMap_cons, hl, rawBlocks, ← ih (i + 1), List.length_cons, Nat.add_right_comm i 1, Nat.add_assoc]

theorem coilRaw_eq_rawBlocks (log : Nat) (src : List Byte) : coilRaw log src = rawBlocks (chunks (2 ^ log) (src.length + 1) src) := by
  rw [← rawBlocks_zipIdx _ 0]
  simp only [Nat.zero_add]
  rfl

theorem rawBlock_append (last : Bool) (c q : List Byte) : rawBlock last c ++ q =
    BitVec.ofNat 8 (b2n last * 128) :: 0 :: BitVec.ofNat 8 ((c.length - 1) / 256) :: BitVec.ofNat 8 (c.length - 1) ::
      BitVec.ofNat 8 ((c.length - 1) / 256) :: BitVec.ofNat 8 (c.length - 1) :: (c ++ q) := by
  simp [rawBlock, leBytes, beBytes]

theorem rawBlock_length (last : Bool) (c : List Byte) : (rawBlock last c).length = 6 + c.length := by
  rw [← List.append_nil (rawBlock last c), rawBlock_append]
  simp only [List.append_nil, List.length_cons]
  omega

theorem rawBlocks_length (cs : List (List Byte)) : (rawBlocks cs).length = cs.flatten.length + 6 * cs.length := by
  induction cs with
  | nil => rfl
  | cons c cs ih =>
    rw [rawBlocks, List.length_append, rawBlock_length, ih, List.flatten_cons, List.length_append, List.length_cons]
    omega

theorem rawBlocks_eq_nil_iff (cs : List (List Byte)) : rawBlocks cs = [] ↔ cs = [] := by
  rw [← List.length_eq_zero_iff, rawBlocks_length, ← List.length_eq_zero_iff]
  constructor
  · omega
  · intro h
    rw [List.length_eq_zero_iff.1 h]
    rfl

/-! ### A block read back -/

/-- The header byte of a raw block: LAST alone may be set (R111). -/
theorem rawFlags (last : Bool) : bit (b2n last * 128) 7 = last ∧ bits (b2n last * 128) 6 5 = 0 ∧ bit (b2n last * 128) 4 = false ∧
    bits (b2n last * 128) 3 0 = 0 := by cases last <;> exact ⟨rfl, rfl, rfl, rfl⟩

section block

variable {last : Bool} {c q : List Byte}

theorem rawBlock_header : beAt (rawBlock last c ++ q) 0 1 = b2n last * 128 ∧ beAt (rawBlock last c ++ q) 1 1 = 0 := by
  rw [rawBlock_append]
  cases last <;> exact ⟨rfl, rfl⟩

theorem rawBlock_sizes (h1 : 1 ≤ c.length) (h2 : c.length ≤ 65536) :
    beAt (rawBlock last c ++ q) 2 2 + 1 = c.length ∧ beAt (rawBlock last c ++ q) 4 2 + 1 = c.length := by
  have e : beNat [BitVec.ofNat 8 ((c.length - 1) / 256), BitVec.ofNat 8 (c.length - 1)] + 1 = c.length := by
    simp only [beNat, List.foldl_cons, List.foldl_nil, BitVec.toNat_ofNat]
    omega
  rw [rawBlock_append]
  exact ⟨e, e⟩

theorem rawBlock_drop : (rawBlock last c ++ q).drop 6 = c ++ q := by
  rw [rawBlock_append]
  rfl

theorem rawBlock_rest : (rawBlock last c ++ q).drop (6 + c.length) = q := by
  rw [← List.drop_drop, rawBlock_drop, List.drop_left]

/-- The decoder takes a raw block that ends the stream exactly when its header says so (R111, R112). -/
theorem coilBlocks_rawBlock {space f k : Nat} {r : CoilRun} (h1 : 1 ≤ c.length) (h2 : c.length ≤ 65536)
    (hs : r.out + c.length ≤ space) (hl : last = (q == [])) :
    coilBlocks space none (f + 1) k (rawBlock last c ++ q) r =
      if last then .ok { r.push c with blk := k } else coilBlocks space none f (k + 1) q (r.push c) := by
  have hlen : (rawBlock last c ++ q).length = 6 + c.length + q.length := by rw [List.length_append, rawBlock_length]
  obtain ⟨hlast, hmode, hreset, hlow⟩ := rawFlags last
  obtain ⟨hh, hz⟩ := rawBlock_header (last := last) (c := c) (q := q)
  obtain ⟨ho, hi⟩ := rawBlock_sizes (last := last) (q := q) h1 h2
  rw [coilBlocks]
  simp only [hlen, hh, hz, ho, hi, hlast, hmode, hreset, hlow, rawBlock_drop, rawBlock_rest, List.take_left, ite_self, coilBody]
  rw [if_neg (by omega), if_neg (by simp), if_neg (by simp), if_neg (by simp), if_neg (by simp; omega), if_neg (by omega),
    if_neg (by simp [hl])]
  rfl

end block

/-! ### The stream read back -/

theorem encBlocksOk_rawBlocks {effort log f : Nat} {cs : List (List Byte)} (hlog : log ≤ 16)
    (hc : ∀ c ∈ cs, 1 ≤ c.length ∧ c.length ≤ 2 ^ log) (hne : cs ≠ []) (hf : cs.length ≤ f) :
    encBlocksOk effort log f (rawBlocks cs) = true := by
  have hw : 2 ^ log ≤ 65536 := Nat.pow_le_pow_right (by decide) hlog
  induction cs generalizing f with
  | nil => exact absurd rfl hne
  | cons c cs ih =>
    obtain ⟨f, rfl⟩ : ∃ g, f = g + 1 := ⟨f - 1, by rw [List.length_cons] at hf; omega⟩
    obtain ⟨⟨h1, h2⟩, hcs⟩ := List.forall_mem_cons.1 hc
    obtain ⟨ho, hi⟩ := rawBlock_sizes (last := cs.isEmpty) (q := rawBlocks cs) h1 (h2.trans hw)
    obtain ⟨-, hmode, -, -⟩ := rawFlags cs.isEmpty
    have hrest : ((rawBlocks cs).isEmpty || encBlocksOk effort log f (rawBlocks cs)) = true := by
      cases cs with
      | nil => rfl
      | cons d ds => rw [ih hcs (List.cons_ne_nil d ds) (Nat.le_of_succ_le_succ hf), Bool.or_true]
    rw [rawBlocks, encBlocksOk]
    simp only [rawBlock_header, ho, hi, hmode, rawBlock_rest, hrest]
    simp [h2]

theorem coilBlocks_rawBlocks {space f k : Nat} {r : CoilRun} {cs : List (List Byte)} (hc : ∀ c ∈ cs, 1 ≤ c.length ∧ c.length ≤ 65536)
    (hne : cs ≠ []) (hf : cs.length ≤ f) (hs : r.out + cs.flatten.length ≤ space) :
    ∃ b, coilBlocks space none f k (rawBlocks cs) r = .ok { r.push cs.flatten with blk := b } := by
  induction cs generalizing f k r with
  | nil => exact absurd rfl hne
  | cons c cs ih =>
    obtain ⟨f, rfl⟩ : ∃ g, f = g + 1 := ⟨f - 1, by rw [List.length_cons] at hf; omega⟩
    obtain ⟨⟨h1, h2⟩, hcs⟩ := List.forall_mem_cons.1 hc
    rw [List.flatten_cons, List.length_append] at hs
    have hl : cs.isEmpty = (rawBlocks cs == []) := by
      rw [Bool.eq_iff_iff, List.isEmpty_iff, beq_iff_eq, rawBlocks_eq_nil_iff]
    rw [rawBlocks, coilBlocks_rawBlock h1 h2 (by omega) hl]
    cases cs with
    | nil => exact ⟨k, by simp⟩
    | cons d ds =>
      obtain ⟨b, hb⟩ := ih (k := k + 1) (r := r.push c) hcs (List.cons_ne_nil d ds) (Nat.le_of_succ_le_succ hf)
        (by simp only [CoilRun.push]; omega)
      refine ⟨b, hb.trans ?_⟩
      simp [CoilRun.push, Nat.add_assoc]

/-! ### The stream of a job -/

/-- What R124 asks of the stream of a source: the bound on its length, blocks of its EFFORT, and that it decodes to the source. -/
structure EncodesTo (effort log : Nat) (src out : List Byte) : Prop where
  bound : out.length ≤ coilBound log src.length
  blocks : encBlocksOk effort log (out.length + 1) out = true
  decodes : (coilDecode src.length false CoilCtx.empty out).toOption.map (fun r => r.1) = some src

theorem coilRaw_encodesTo {effort log : Nat} {src : List Byte} (hlog : log ≤ 16) (hs : 1 ≤ src.length) :
    EncodesTo effort log src (coilRaw log src) := by
  have hn : 0 < 2 ^ log := Nat.two_pow_pos log
  have hw : 2 ^ log ≤ 65536 := Nat.pow_le_pow_right (by decide) hlog
  rw [coilRaw_eq_rawBlocks]
  have hflat : (chunks (2 ^ log) (src.length + 1) src).flatten = src := chunks_flatten hn (Nat.le_succ _)
  have hmem : ∀ c ∈ chunks (2 ^ log) (src.length + 1) src, 1 ≤ c.length ∧ c.length ≤ 2 ^ log :=
    fun c hc => length_of_mem_chunks hn hc
  have hcount := chunks_length hn (Nat.le_succ src.length)
  generalize chunks (2 ^ log) (src.length + 1) src = cs at hflat hmem hcount
  have hlen := rawBlocks_length cs
  have hne : cs ≠ [] := by
    rintro rfl
    rw [← hflat] at hs
    exact absurd hs (by decide)
  refine ⟨?_, encBlocksOk_rawBlocks hlog hmem hne (by omega), ?_⟩
  · rw [hlen, hflat, hcount]
    exact Nat.le_refl _
  · obtain ⟨b, hb⟩ := coilBlocks_rawBlocks (space := src.length) (f := (rawBlocks cs).length + 1) (k := 0)
      (r := ⟨0, [], 0, 0, 0, none⟩) (fun c hc => ⟨(hmem c hc).1, (hmem c hc).2.trans hw⟩) hne (by omega)
      (by rw [hflat, Nat.zero_add])
    rw [hflat] at hb
    have hd : coilDecode src.length false CoilCtx.empty (rawBlocks cs) = .ok (src, ⟨src.reverse.take (min src.length coilWindow),
        src.length % 2 ^ 32, none⟩, b) := by
      simp [coilDecode, hb, CoilRun.push, List.take_of_length_le]
    rw [hd]
    rfl

/-- The lane's own choice is emitted only where it passes the check of R124; else the raw blocks are. -/
theorem encStream_encodesTo {j : EncJob} {src : List Byte} (hlog : j.log ≤ 16) (hs : 1 ≤ src.length) :
    EncodesTo j.effort j.log src (encStream j src) := by
  have hraw := coilRaw_encodesTo (effort := j.effort) hlog hs
  unfold encStream
  dsimp only
  split
  · exact hraw
  · split
    case isTrue hok =>
      rw [Bool.and_eq_true, decide_eq_true_eq] at hok
      obtain ⟨hb, hk⟩ := hok
      split
      · rename_i out ctx blk hd
        split
        case isTrue ho => exact ⟨hb, hk, by rw [hd, ← ho]; rfl⟩
        case isFalse => exact hraw
      · exact hraw
    case isFalse => exact hraw

/-- Settles O13: raw blocks by induction on the pieces of the source, any other choice by the lane's own check. -/
theorem encodeDecodes : Obligations.EncodeDecodes := by
  intro j src _ hlog hs _
  obtain ⟨hb, hk, hd⟩ := encStream_encodesTo hlog hs
  exact ⟨hb, hk, hd⟩

end

end Sys2Proof.Machine

namespace Sys2Proof.Machine

set_option Elab.async false

/-! SUPPORT. A write of a Coil register that passes every check (R461-R468), the registers of the Coil page, and bytes of HBM written
and read back. -/

section

variable {s t : State}

/-! ### An access that passes -/

theorem State.gate_takes {path : Path} {page off v : Nat} {act : State → WrRes} (h : s.takes path page off = true) :
    s.gate path path.privileged page off v act = act s := by
  unfold State.takes at h
  unfold State.gate
  cases hr : rowOf page off with
  | none => rw [hr] at h; cases h
  | some r =>
    rw [hr] at h
    simp only [Bool.and_eq_true, Bool.not_eq_true'] at h
    obtain ⟨⟨⟨⟨⟨⟨⟨⟨⟨-, hserved⟩, -⟩, -⟩, -⟩, hforce⟩, hlock⟩, hrws⟩, hpriv⟩, hwin⟩ := h
    dsimp only
    rw [if_neg (by simp [hserved]), if_neg (by simpa using hforce), if_neg (by simp [hlock]), if_neg (by simpa using hrws),
      if_neg (by simp [hpriv]), if_neg (by simpa [← and_assoc] using hwin)]

/-- What the checks of `State.takes` say of the access itself. -/
theorem State.takes_access {path : Path} {page off : Nat} (h : s.takes path page off = true) :
    s.pathOpen path = true ∧ s.pathServed path true = true ∧ s.modulePends = false ∧ off % 4 = 0 ∧ off < 4096 := by
  unfold State.takes at h
  split at h
  · cases h
  · simp only [Bool.and_eq_true, Bool.not_eq_true', decide_eq_true_eq, beq_iff_eq] at h
    obtain ⟨⟨⟨⟨⟨⟨⟨⟨⟨hopen, hserved⟩, hpends⟩, halign⟩, hoff⟩, -⟩, -⟩, -⟩, -⟩, -⟩ := h
    exact ⟨hopen, hserved, hpends, halign, hoff⟩

theorem State.cmdWrite_takes {path : Path} {page off v : Nat} (h : s.takes path page off = true) (hp : pageRows page ≠ none) :
    s.cmdWrite path page off v =
      (State.answer ((regAct path path.privileged true page off (v % 2 ^ 32) s).1,
        (regAct path path.privileged true page off (v % 2 ^ 32) s).2.valueAfter path page off)).finishReset := by
  obtain ⟨hopen, hserved, -, halign, hoff⟩ := State.takes_access h
  have hpage : (page * 4096 + off) / 4096 = page := by omega
  have hmod : (page * 4096 + off) % 4096 = off := by omega
  unfold State.cmdWrite State.writeAccess
  dsimp only
  rw [if_pos hopen, if_neg (by omega), hpage, hmod, if_neg hp, if_neg (by simp [hserved]), State.gate_takes h]

/-- What a read of a Coil register computes changes nothing. -/
theorem State.computed_coil {path : Path} {off : Nat} {v : Nat × State} (h : s.computed path COL.PAGE off = some v) : v.2 = s := by
  have e : s.computed path COL.PAGE off =
      if off = HDR.PG_STS.off then some (s.pgSts COL.PAGE, s)
      else if off = COL.STRM_STS.off then some (s.strmSts (s.rd COL.STRM_SEL.STREAM 0 path.num), s)
      else if off = COL.STRM_POS.off then some ((s.streamCtx (s.rd COL.STRM_SEL.STREAM 0 path.num)).2.1, s) else none := rfl
  rw [e] at h
  split_ifs at h
  · exact (Option.some.inj h) ▸ rfl
  · exact (Option.some.inj h) ▸ rfl
  · exact (Option.some.inj h) ▸ rfl

theorem State.readVal_coil (path : Path) (off : Nat) (r : RegRow) : (s.readVal path COL.PAGE off r).2 = s := by
  unfold State.readVal
  split
  · rfl
  · split
    · exact State.computed_coil ‹_›
    · rfl

/-- The value shown after a write of a Coil register changes nothing. -/
theorem State.valueAfter_coil (path : Path) (off : Nat) : (s.valueAfter path COL.PAGE off).2 = s := by
  unfold State.valueAfter
  rw [if_neg (by rintro ⟨h, -⟩; exact absurd h (by decide))]
  split
  · rfl
  · dsimp only
    rw [State.readVal_coil]
    rfl

/-- A write of a Coil register that passes: the register's own act, then the answer. -/
theorem State.cmdWrite_coil {path : Path} {off v : Nat} {st : Status} (h : s.takes path COL.PAGE off = true) (hv : v < 2 ^ 32)
    (ha : regAct path path.privileged true COL.PAGE off v s = (st, t)) (hp : t.panel = s.panel) :
    ∃ w, s.cmdWrite path COL.PAGE off v = State.answer (st, w, t) := by
  obtain ⟨-, -, hpends, -, -⟩ := State.takes_access h
  refine ⟨(t.valueAfter path COL.PAGE off).1, ?_⟩
  rw [State.cmdWrite_takes h (by decide), Nat.mod_eq_of_lt hv, ha]
  have e : (st, t.valueAfter path COL.PAGE off) = (st, (t.valueAfter path COL.PAGE off).1, t) :=
    congrArg (Prod.mk st) (Prod.ext rfl (State.valueAfter_coil path off))
  rw [e]
  refine State.finishReset_of_none ?_
  unfold State.modulePends at hpends ⊢
  rw [show (State.answer (st, (t.valueAfter path COL.PAGE off).1, t)).panel = s.panel from hp]
  exact hpends

theorem State.answer_answered (st : Status) (w : Nat) : (State.answer (st, w, t)).answered st := rfl

theorem State.answer_reg (st : Status) (w k : Nat) : (State.answer (st, w, t)).reg k = t.reg k := rfl

theorem State.answer_rd (st : Status) (w : Nat) (f : Fld) (i x : Nat) : (State.answer (st, w, t)).rd f i x = t.rd f i x := rfl

theorem State.answer_coil (st : Status) (w : Nat) : (State.answer (st, w, t)).coil = t.coil := rfl

theorem State.answer_within (st : Status) (w : Nat) : t.within (State.answer (st, w, t)) [.bus] [] := State.modBus_fr.within

/-- A record that stands still does behind the answer. -/
theorem State.answer_logged {st : Status} {w p c : Nat} {args : Nat → Nat → Prop} (h : s.logged t p c args) :
    s.logged (State.answer (st, w, t)) p c args := h

/-- A write that is ignored with its record (R465, R484). -/
theorem State.cmdWrite_coil_ign28 {path : Path} {off v : Nat} (h : s.takes path COL.PAGE off = true) (hv : v < 2 ^ 32)
    (ha : regAct path path.privileged true COL.PAGE off v s = ign28 path COL.PAGE off v s) :
    ∃ t, s.cmdWrite path COL.PAGE off v = t ∧ t.answered .ignored ∧
      s.logged t SYS.PAGE 0x28 (fun a b => a = COL.PAGE * 4096 + off + path.num * 2 ^ 24 ∧ b = v) ∧
      s.within t [.regs, .bus, .log, .sram] (logKeys SYS.PAGE) := by
  obtain ⟨w, hw⟩ := State.cmdWrite_coil h hv ha (State.logc_fr.same .panel)
  exact ⟨_, hw, State.answer_answered _ _, State.answer_logged (State.logged_logc s _ _ _ _),
    (State.within.refl.next State.logc_within).next (State.answer_within _ _)⟩

/-! ### Registers of the Coil page -/

/-- A field that fills its register is the register (R10). -/
theorem State.wr_word {f : Fld} {v i x : Nat} (h : f.lo = 0 ∧ f.hi = 31) : (s.wr f v i x).reg (f.key i x) = BitVec.ofNat 32 v := by
  have hlt := (s.reg (f.key i x)).isLt
  rw [State.wr_reg, if_pos rfl, setBits, h.1, h.2, Nat.div_eq_of_lt hlt]
  exact BitVec.eq_of_toNat_eq (by simp [Nat.mod_one])

/-- A register of the Coil page is no base of an event ring. -/
theorem offBase_coil {f : Fld} {n : Nat} (hp : f.page = COL.PAGE) (ho : f.off < 4096) : offBase (f.key 0 n) := by
  unfold offBase Fld.key regKey
  rw [hp]
  simp only [EVT.BASE.OFS, COL.PAGE]
  omega

theorem State.wr_within_coil {f : Fld} {v n : Nat} (hp : f.page = COL.PAGE := by decide) (ho : f.off < 4096 := by decide) :
    s.within (s.wr f v 0 n) [.regs] [f.key 0 n] := State.wr_within (offBase_coil hp ho)

/-- Registers of one lane at different offsets are different registers. -/
theorem Fld.key_ne {f g : Fld} {n : Nat} (hp : f.page = g.page := by decide) (ho : f.off ≠ g.off := by decide) : f.key 0 n ≠ g.key 0 n := by
  unfold Fld.key regKey
  omega

theorem State.bump_within {f : Fld} {m n x : Nat} (hk : offBase (f.key n x) := by unfold offBase; decide) :
    s.within (s.bump f m n x) [.regs] [f.key n x] := State.wr_within hk

/-- A counter that fills its register saturates (R10). -/
theorem State.rd_bump {f : Fld} {m n x : Nat} (h : f.lo = 0 ∧ f.hi = 31) :
    (s.bump f m n x).rd f n x = min 0xFFFFFFFF (s.rd f n x + m) := by
  have hw : f.width = 32 := by rw [Fld.width, h.1, h.2]
  have hs : satAdd f.width (s.rd f n x) m = min 0xFFFFFFFF (s.rd f n x + m) := by rw [hw]; rfl
  rw [State.bump, State.rd_wr (by omega) (by omega), hs, hw]
  exact Nat.mod_eq_of_lt (by omega)

/-- A register of the Coil page that no record counts in (R489). -/
theorem unshared_coil {f : Fld} {n : Nat} (hp : f.page = COL.PAGE := by decide)
    (ho : f.off < 4096 ∧ f.off ≠ 0x01C ∧ f.off ≠ 0x020 := by decide) : unshared (f.key 0 n) := by
  have hm : f.key 0 n % 4096 = f.off := by unfold Fld.key regKey; omega
  have hk : f.key 0 n / 4096 % 4096 = COL.PAGE := by rw [Fld.key_page (by rw [hp]; decide) ho.1, hp, Nat.add_zero]
  exact ⟨hm ▸ ho.2.1, hm ▸ ho.2.2, by rw [hk]; decide⟩

/-! ### Bytes of HBM -/

theorem tgets_eq_map (m : Table Byte) (a n : Nat) : tgets memDefault m a n = (List.range n).map (fun i => tget memDefault m (a + i)) := by
  induction n generalizing a with
  | zero => rfl
  | succ n ih =>
    rw [tgets, ih, List.range_succ_eq_map, List.map_cons, List.map_map]
    refine congrArg (List.cons _) (List.map_congr_left (fun i _ => ?_))
    rw [Function.comp_apply, Nat.succ_eq_add_one, Nat.add_comm i 1, Nat.add_assoc]

/-- The first bytes of a write read back. -/
theorem State.hbmRd_hbmWr {a n : Nat} {bs : List Byte} (h : n ≤ bs.length) : (s.hbmWr a bs).hbmRd a n = bs.take n := by
  change tgets memDefault (tsets memDefault s.ram.hbm a bs) a n = _
  rw [tgets_eq_map]
  refine List.ext_getElem (by simp [h]) (fun i hi _ => ?_)
  rw [List.length_map, List.length_range] at hi
  rw [List.getElem_map, List.getElem_range, List.getElem_take, tget_tsets, dif_pos ⟨by omega, by omega⟩]
  simp only [Nat.add_sub_cancel_left]

theorem State.hbmWr_out {a k : Nat} {bs : List Byte} (h : k < a ∨ a + bs.length ≤ k) :
    tget memDefault (s.hbmWr a bs).ram.hbm k = tget memDefault s.ram.hbm k := tget_tsets_out _ _ (by omega)

end

end Sys2Proof.Machine

namespace Sys2Proof.Machine

set_option Elab.async false

/-! O12 (`EncodeJobs`): GO, and how a job ends (R124, R125, R130, R132). -/

section

variable {s t : State}

/-! ### What a read meets -/

theorem State.readFault_none {a n : Nat} (c : MemClass) (hs : a + n ≤ hbmSize) (hb : s.firstBad a n = none) : s.readFault a n c = none := by
  rw [State.readFault, if_neg (by omega), hb]
  rfl

/-- An uncorrectable result spoils a code word; every byte of HBM stays (R280). -/
theorem State.uncorrectable_hbm (a : Nat) (c : MemClass) : (s.uncorrectable a c).ram.hbm = s.ram.hbm := by
  have h : Fr 134227713 (s.spoil (a / 32)) (s.uncorrectable a c) := by
    unfold State.uncorrectable
    exact State.memRecord_fr (fun _ => State.event_fr.mono rfl)
      (((State.bump_fr.mono rfl).trans (State.errAddr_fr.mono rfl)).trans (State.tileFault_fr.mono rfl)) rfl
  exact (h.same .hbm).1

/-- Whatever error a read meets, every byte of HBM stays (R267, R280). -/
theorem State.readFault_hbm {a n : Nat} {c : MemClass} (h : s.readFault a n c = some t) : t.ram.hbm = s.ram.hbm := by
  unfold State.readFault at h
  split at h
  · rw [← Option.some.inj h]
    exact (State.addrError_fr.same .hbm).1
  · obtain ⟨k, -, hk⟩ := Option.map_eq_some_iff.1 h
    rw [← hk]
    exact State.uncorrectable_hbm _ _

/-! ### GO -/

section start

variable {path : Path}

/-- The settings of ENC_CTL, BUSY alone, and ENC_OUT 0 (R124). -/
def State.encSet (s : State) (n v : Nat) : State :=
  (((s.wr COL.ENC_CTL.EFFORT v 0 n).wr COL.ENC_CTL.BLK_LOG2 (bits v 12 8) 0 n).wr COL.ENC_STS 1 0 n).wr COL.ENC_OUT.BYTES 0 0 n

/-- A job begins: the one that the lane's registers describe. -/
def State.encGo (s : State) (n v : Nat) : State :=
  (s.encSet n v).modCoil (fun c => { c with enc := tset (fun _ => none) c.enc n (some ((s.encSet n v).encJob n)) })

theorem State.encSet_within (n v : Nat) :
    s.within (s.encSet n v) [.regs] [COL.ENC_STS.key 0 n, COL.ENC_OUT.key 0 n, COL.ENC_CTL.key 0 n] := by
  refine (((State.within.refl.next State.wr_within_coil (by decide) ?_).next State.wr_within_coil (by decide) ?_).next
    State.wr_within_coil (by decide) ?_).next State.wr_within_coil (by decide) ?_
  all_goals simp [Fld.key, COL.ENC_CTL, COL.ENC_CTL.EFFORT, COL.ENC_CTL.BLK_LOG2, COL.ENC_OUT, COL.ENC_OUT.BYTES]

theorem State.encGo_within (n v : Nat) :
    s.within (s.encGo n v) [.regs, .coil] [COL.ENC_STS.key 0 n, COL.ENC_OUT.key 0 n, COL.ENC_CTL.key 0 n] :=
  (State.within.refl.next (State.encSet_within n v) (by decide) (fun _ h => h)).frame State.modCoil_fr

theorem State.encGo_sts (n v : Nat) : (s.encGo n v).reg (COL.ENC_STS.key 0 n) = 1 := by
  rw [State.encGo, State.modCoil_reg, State.encSet, State.wr_reg, if_neg Fld.key_ne]
  exact State.wr_word (by decide)

theorem State.encGo_out (n v : Nat) : (s.encGo n v).rd COL.ENC_OUT.BYTES 0 n = 0 := by
  rw [State.encGo, State.modCoil_rd, State.encSet, State.rd_wr (by decide) (by decide), Nat.zero_mod]

theorem State.encGo_effort (n v : Nat) : (s.encGo n v).rd COL.ENC_CTL.EFFORT 0 n = v % 4 := by
  rw [State.encGo, State.modCoil_rd, State.encSet, State.rd_wr_ne Fld.key_ne, State.rd_wr_ne Fld.key_ne,
    State.rd_wr_apart (.inr (by decide)) (by decide), State.rd_wr (by decide) (by decide)]
  rfl

/-- The job that a lane's registers describe depends on the registers alone. -/
theorem State.encJob_congr (h : t.reg = s.reg) (n : Nat) : t.encJob n = s.encJob n := by
  unfold State.encJob State.addr37 State.rd
  rw [h]

theorem State.encGo_enc (n v : Nat) : tget (fun _ => none) (s.encGo n v).coil.enc n = some ((s.encGo n v).encJob n) := by
  have hjob : (s.encGo n v).encJob n = (s.encSet n v).encJob n := State.encJob_congr (funext fun k => State.modCoil_reg _ _ k) n
  rw [hjob, State.encGo, State.modCoil_coil, tget_tset, if_pos rfl]

/-- GO as `execEncodeStart` writes it. -/
theorem goBit (v : BitVec 32) : setBits v.toNat 31 31 1 < 2 ^ 32 ∧ bit (setBits v.toNat 31 31 1) 31 = true ∧
    setBits v.toNat 31 31 1 % 4 = v.toNat % 4 := by
  have hset : bits (setBits v.toNat 31 31 1) 31 31 = 1 := bits_setBits _ _ _ _
  have hlow : bits (setBits v.toNat 31 31 1) 1 0 = bits v.toNat 1 0 := bits_setBits_ne (by decide) (by decide) (by decide)
  refine ⟨setBits_lt v.isLt (by decide) (by decide), beq_iff_eq.2 hset, ?_⟩
  simpa [bits] using hlow

theorem State.wrEncCtl_go {v : Nat} (hb : s.rdB COL.ENC_STS.BUSY 0 (s.rd COL.ENC_SEL.LANE 0 path.num) = false) (hh : s.hotThrottle = false)
    (hq : s.mode.sec ≠ .quarantined) (hv : bit v 31 = true) :
    s.wrEncCtl path v = (.ok, s.encGo (s.rd COL.ENC_SEL.LANE 0 path.num) v) := by
  unfold State.wrEncCtl State.encSel
  dsimp only
  rw [hb, hh, if_neg (by simp [hq]), if_pos hv]
  rfl

theorem State.wrEncCtl_busy {v : Nat} (hb : s.rdB COL.ENC_STS.BUSY 0 (s.rd COL.ENC_SEL.LANE 0 path.num) = true) :
    s.wrEncCtl path v = ign28 path COL.PAGE 0x14C v s := by
  unfold State.wrEncCtl State.encSel
  dsimp only
  rw [hb]
  rfl

theorem regAct_encCtl (priv ok : Bool) (v : Nat) : regAct path priv ok COL.PAGE 0x14C v s = s.wrEncCtl path v := rfl

theorem encodeStart_gives (v : BitVec 32) (ht : s.takes path COL.PAGE 0x14C = true)
    (hb : s.rdB COL.ENC_STS.BUSY 0 (s.rd COL.ENC_SEL.LANE 0 path.num) = false) (hh : s.hotThrottle = false)
    (hq : s.mode.sec ≠ .quarantined) : gives (.encodeStart path v) s (fun t =>
      t.answered .ok ∧
      t.reg (COL.ENC_STS.key 0 (s.rd COL.ENC_SEL.LANE 0 path.num)) = 1 ∧
      t.rd COL.ENC_OUT.BYTES 0 (s.rd COL.ENC_SEL.LANE 0 path.num) = 0 ∧
      t.rd COL.ENC_CTL.EFFORT 0 (s.rd COL.ENC_SEL.LANE 0 path.num) = v.toNat % 4 ∧
      tget (fun _ => none) t.coil.enc (s.rd COL.ENC_SEL.LANE 0 path.num) = some (t.encJob (s.rd COL.ENC_SEL.LANE 0 path.num)) ∧
      s.within t [.regs, .bus, .coil] [COL.ENC_STS.key 0 ((s.rd COL.ENC_SEL.LANE 0 path.num)), COL.ENC_OUT.key 0 ((s.rd COL.ENC_SEL.LANE 0 path.num)), COL.ENC_CTL.key 0 ((s.rd COL.ENC_SEL.LANE 0 path.num))]) := by
  obtain ⟨hlt, hgo, heff⟩ := goBit v
  have hact := (regAct_encCtl path.privileged true (setBits v.toNat 31 31 1)).trans (State.wrEncCtl_go hb hh hq hgo)
  generalize s.rd COL.ENC_SEL.LANE 0 path.num = n at *
  have hgw := s.encGo_within n (setBits v.toNat 31 31 1)
  obtain ⟨w, hw⟩ := State.cmdWrite_coil ht hlt hact (hgw.same .panel)
  refine ⟨_, congrArg Host.Outcome.next hw, State.answer_answered _ _, ?_, ?_, ?_, ?_,
    (State.within.refl.next hgw (by decide) (fun _ h => h)).next (State.answer_within _ _) (by decide)
      (fun _ h => absurd h List.not_mem_nil)⟩
  · rw [State.answer_reg, State.encGo_sts]
  · rw [State.answer_rd, State.encGo_out]
  · rw [State.answer_rd, State.encGo_effort, heff]
  · rw [State.encJob_congr (funext fun k => State.answer_reg _ _ k), State.answer_coil, State.encGo_enc]

theorem encodeStart_gives_busy (v : BitVec 32) (ht : s.takes path COL.PAGE 0x14C = true)
    (hb : s.rdB COL.ENC_STS.BUSY 0 (s.rd COL.ENC_SEL.LANE 0 path.num) = true) : gives (.encodeStart path v) s (fun t =>
      t.answered .ignored ∧
      s.logged t SYS.PAGE 0x28 (fun a b => a = COL.PAGE * 4096 + 0x14C + path.num * 2 ^ 24 ∧ b = setBits v.toNat 31 31 1) ∧
      s.within t [.regs, .bus, .log, .sram] (logKeys SYS.PAGE)) := by
  obtain ⟨t, hw, h⟩ := State.cmdWrite_coil_ign28 ht (goBit v).1 ((regAct_encCtl path.privileged true _).trans (State.wrEncCtl_busy hb))
  exact ⟨t, congrArg Host.Outcome.next hw, h⟩

end start

/-! ### The end of a job -/

section done

variable {lane : Fin 4} {j : EncJob}

/-- The lane's job is over. -/
def State.encFree (s : State) (lane : Fin 4) : State :=
  s.modCoil (fun c => { c with enc := tset (fun _ => none) c.enc lane none })

theorem State.encFree_enc (lane : Fin 4) : tget (fun _ => none) (s.encFree lane).coil.enc lane = none := by
  rw [State.encFree, State.modCoil_coil, tget_tset, if_pos rfl]

/-- The stream that the job of a lane emits (R124). -/
def State.encOut (s : State) (j : EncJob) : List Byte := encStream j (s.hbmRd j.src j.len)

/-- `n` bytes of a stream stand at ENC_DST, ENC_OUT counts them, and ENC_STS shows how the job ended (R124, R125). -/
def State.encPut (s : State) (lane : Fin 4) (dst : Nat) (out : List Byte) (n sts : Nat) : State :=
  ((s.hbmWr dst (out.take n)).wr COL.ENC_OUT.BYTES n 0 lane).wr COL.ENC_STS sts 0 lane

theorem State.encPut_within (dst : Nat) (out : List Byte) (n sts : Nat) :
    s.within (s.encPut lane dst out n sts) [.regs, .hbm] [COL.ENC_STS.key 0 lane, COL.ENC_OUT.key 0 lane] := by
  refine ((State.within.refl.frame State.hbmWr_fr).next State.wr_within_coil (by decide) ?_).next State.wr_within_coil (by decide) ?_
  all_goals simp [Fld.key, COL.ENC_OUT, COL.ENC_OUT.BYTES]

theorem State.encPut_sts (dst : Nat) (out : List Byte) (n sts : Nat) :
    (s.encPut lane dst out n sts).reg (COL.ENC_STS.key 0 lane) = BitVec.ofNat 32 sts := State.wr_word (by decide)

theorem State.encPut_out (dst : Nat) (out : List Byte) (n sts : Nat) :
    (s.encPut lane dst out n sts).rd COL.ENC_OUT.BYTES 0 lane = n % 2 ^ 28 :=
  (State.rd_wr_ne Fld.key_ne).trans (State.rd_wr (by decide) (by decide))

/-- Bytes outside the span that the job wrote stay. -/
theorem State.encPut_hbm {dst a n : Nat} (out : List Byte) (sts : Nat) (h : a < dst ∨ dst + n ≤ a) :
    tget memDefault (s.encPut lane dst out n sts).ram.hbm a = tget memDefault s.ram.hbm a :=
  (State.hbmWr_out (by rw [List.length_take]; omega) : tget memDefault (s.hbmWr dst (out.take n)).ram.hbm a = _)

/-- A stream written whole reads back. -/
theorem State.encPut_hbmRd (dst : Nat) (out : List Byte) (sts : Nat) :
    (s.encPut lane dst out out.length sts).hbmRd dst out.length = out := by
  have hram : (s.encPut lane dst out out.length sts).ram = (s.hbmWr dst out).ram := by
    rw [State.encPut, State.wr_ram, State.wr_ram, List.take_length]
  have hread := State.hbmRd_hbmWr (s := s) (a := dst) (Nat.le_refl out.length)
  unfold State.hbmRd at hread ⊢
  rw [hram, hread, List.take_length]

section run

variable (hj : tget (fun _ => none) s.coil.enc lane = some j) (hm : s.mem.sealed = false)
include hj hm

theorem execEncodeDone_fault (h : (s.encFree lane).readFault j.src j.len .throughput = some t) :
    execEncodeDone lane s = .next (t.wr COL.ENC_STS 8 0 lane) := by
  unfold execEncodeDone
  rw [hj]
  dsimp only
  rw [hm, if_neg Bool.false_ne_true, show (s.modCoil _).readFault j.src j.len .throughput = some t from h]

section reads

variable (hs : j.src + j.len ≤ hbmSize) (hb : s.firstBad j.src j.len = none) (hd : j.dst + j.cap ≤ hbmSize)
include hs hb hd

theorem execEncodeDone_fits (hc : (s.encOut j).length ≤ j.cap) :
    execEncodeDone lane s = .next ((s.encFree lane).encPut lane j.dst (s.encOut j) (s.encOut j).length 2) := by
  have hr : (s.encFree lane).readFault j.src j.len .throughput = none := State.readFault_none _ hs hb
  have hc' : (encStream j ((s.encFree lane).hbmRd j.src j.len)).length ≤ j.cap := hc
  have hn : ¬ hbmSize < j.dst + (encStream j ((s.encFree lane).hbmRd j.src j.len)).length := by omega
  unfold State.encFree at hr hc' hn
  unfold execEncodeDone
  rw [hj]
  dsimp only
  rw [hm, if_neg Bool.false_ne_true]
  simp only [hr, if_pos hc', if_neg hn]
  rfl

/-- How much of a stream that passes the capacity is written is the model's free choice, up to ENC_CAP (log entry 1). -/
theorem execEncodeDone_passes (hc : j.cap < (s.encOut j).length) : ∃ n, n ≤ j.cap ∧
    execEncodeDone lane s = .next (let u := ((s.encFree lane).takeFree 28).2.encPut lane j.dst (s.encOut j) n 4
      u.logc COL.PAGE 0x1A (u.rd COL.ENC_STS 0 lane) (u.rd COL.ENC_OUT 0 lane)) := by
  have hr : (s.encFree lane).readFault j.src j.len .throughput = none := State.readFault_none _ hs hb
  have hc' : ¬ (encStream j ((s.encFree lane).hbmRd j.src j.len)).length ≤ j.cap := Nat.not_le.2 hc
  have hcap : ((s.encFree lane).takeFree 28).1.toNat % (j.cap + 1) ≤ j.cap := Nat.le_of_lt_succ (Nat.mod_lt _ (Nat.succ_pos _))
  have hn : ¬ hbmSize < j.dst + ((s.encFree lane).takeFree 28).1.toNat % (j.cap + 1) := by omega
  refine ⟨_, hcap, ?_⟩
  unfold State.encFree at hr hc' hn
  unfold execEncodeDone
  rw [hj]
  dsimp only
  rw [hm, if_neg Bool.false_ne_true]
  simp only [hr, if_neg hc', if_neg hn]
  rfl

end reads

/-- A job whose read meets an error ends with ERR_MEM (R125). -/
theorem encodeDone_fault_gives (h : (s.encFree lane).readFault j.src j.len .throughput = some t) : gives (.encodeDone lane) s (fun u =>
      u = t.wr COL.ENC_STS 8 0 lane ∧
      u.reg (COL.ENC_STS.key 0 lane) = 8 ∧
      u.ram.hbm = s.ram.hbm ∧
      tget (fun _ => none) u.coil.enc lane = none) := by
  have hcoil : t.coil = (s.encFree lane).coil := (State.readFault_fr h).same .coil
  refine ⟨_, execEncodeDone_fault hj hm h, rfl, State.wr_word (by decide), ?_, ?_⟩
  · rw [State.wr_ram, State.readFault_hbm h]
    rfl
  · rw [show (t.wr COL.ENC_STS 8 0 lane).coil = t.coil from State.wr_fr.same .coil, hcoil, State.encFree_enc]

theorem encodeDone_gives_mem {k : Nat} (hb : s.firstBad j.src j.len = some k) : gives (.encodeDone lane) s (fun t =>
      t.reg (COL.ENC_STS.key 0 lane) = 8 ∧
      t.ram.hbm = s.ram.hbm ∧
      tget (fun _ => none) t.coil.enc lane = none ∧
      s.keeps t [.regs, .coil, .log, .mem, .scene, .frs, .hbm, .sram]) := by
  obtain ⟨u, hu⟩ : ∃ u, (s.encFree lane).readFault j.src j.len .throughput = some u := by
    unfold State.readFault
    split
    · exact ⟨_, rfl⟩
    · exact ⟨_, congrArg (Option.map _) hb⟩
  obtain ⟨t, hx, rfl, hsts, hhbm, henc⟩ := encodeDone_fault_gives hj hm hu
  have hf : Fr 201338625 s (u.wr COL.ENC_STS 8 0 lane) :=
    ((State.modCoil_fr.mono rfl).trans ((State.readFault_fr hu).mono rfl)).trans (State.wr_fr.mono rfl)
  exact ⟨_, hx, hsts, hhbm, henc, hf.keepsOf⟩

theorem encodeDone_gives_beyond (hs : hbmSize < j.src + j.len) : gives (.encodeDone lane) s (fun t =>
      t.reg (COL.ENC_STS.key 0 lane) = 8 ∧
      t.ram.hbm = s.ram.hbm ∧
      tget (fun _ => none) t.coil.enc lane = none ∧
      s.keeps t [.regs, .coil, .log, .mem, .scene, .frs, .sram]) := by
  have hu : (s.encFree lane).readFault j.src j.len .throughput = some ((s.encFree lane).addrError j.src) := if_pos hs
  obtain ⟨t, hx, rfl, hsts, hhbm, henc⟩ := encodeDone_fault_gives hj hm hu
  have hf : Fr 134220033 s (((s.encFree lane).addrError j.src).wr COL.ENC_STS 8 0 lane) :=
    ((State.modCoil_fr.mono rfl).trans (State.addrError_fr.mono rfl)).trans (State.wr_fr.mono rfl)
  exact ⟨_, hx, hsts, hhbm, henc, hf.keepsOf⟩

section reads

variable (hs : j.src + j.len ≤ hbmSize) (hb : s.firstBad j.src j.len = none) (hd : j.dst + j.cap ≤ hbmSize)
include hs hb hd

theorem encodeDone_gives_done (hc : (s.encOut j).length ≤ j.cap) : gives (.encodeDone lane) s (fun t =>
      t.reg (COL.ENC_STS.key 0 lane) = 2 ∧
      t.rd COL.ENC_OUT.BYTES 0 lane = (s.encOut j).length % 2 ^ 28 ∧
      t.hbmRd j.dst (s.encOut j).length = s.encOut j ∧
      (∀ a, a < j.dst ∨ j.dst + (s.encOut j).length ≤ a → tget memDefault t.ram.hbm a = tget memDefault s.ram.hbm a) ∧
      tget (fun _ => none) t.coil.enc lane = none ∧
      s.within t [.regs, .coil, .hbm] [COL.ENC_STS.key 0 lane, COL.ENC_OUT.key 0 lane]) := by
  have hw := (s.encFree lane).encPut_within (lane := lane) j.dst (s.encOut j) (s.encOut j).length 2
  have hcoil := hw.same .coil
  refine ⟨_, execEncodeDone_fits hj hm hs hb hd hc, State.encPut_sts _ _ _ _, State.encPut_out _ _ _ _, State.encPut_hbmRd _ _ _,
    fun a ha => State.encPut_hbm _ _ ha, ?_, (State.within.refl.frame State.modCoil_fr).next hw (by decide) (fun _ h => h)⟩
  rw [show State.coil _ = _ from hcoil, State.encFree_enc]

theorem encodeDone_gives_cap (hc : j.cap < (s.encOut j).length) : gives (.encodeDone lane) s (fun t =>
      t.reg (COL.ENC_STS.key 0 lane) = 4 ∧
      (∀ a, a < j.dst ∨ j.dst + j.cap ≤ a → tget memDefault t.ram.hbm a = tget memDefault s.ram.hbm a) ∧
      s.logged t COL.PAGE 0x1A (fun a _ => a = 4) ∧
      tget (fun _ => none) t.coil.enc lane = none ∧
      s.within t [.regs, .coil, .hbm, .log, .freeCtr, .sram] ([COL.ENC_STS.key 0 lane, COL.ENC_OUT.key 0 lane] ++ logKeys COL.PAGE)) := by
  obtain ⟨n, hn, hx⟩ := execEncodeDone_passes hj hm hs hb hd hc
  have hp := ((s.encFree lane).takeFree 28).2.encPut_within (lane := lane) j.dst (s.encOut j) n 4
  have hsts := ((s.encFree lane).takeFree 28).2.encPut_sts (lane := lane) j.dst (s.encOut j) n 4
  have hhbm (a : Nat) (ha : a < j.dst ∨ j.dst + j.cap ≤ a) :=
    ((s.encFree lane).takeFree 28).2.encPut_hbm (lane := lane) (s.encOut j) 4 (show a < j.dst ∨ j.dst + n ≤ a by omega)
  dsimp only at hx
  generalize ((s.encFree lane).takeFree 28).2.encPut lane j.dst (s.encOut j) n 4 = u at hx hp hsts hhbm
  have hu : s.within u [.regs, .coil, .hbm, .freeCtr] [COL.ENC_STS.key 0 lane, COL.ENC_OUT.key 0 lane] :=
    ((State.within.refl.frame State.modCoil_fr).frame State.takeFree_fr).next hp (by decide) (fun _ h => h)
  have hrd : u.rd COL.ENC_STS 0 lane = 4 := by
    unfold State.rd
    rw [hsts]
    rfl
  have hhead : NVS.LOG_STS.HEAD.key 0 0 ∉ [COL.ENC_STS.key 0 lane, COL.ENC_OUT.key 0 lane] := by
    clear * -
    revert lane
    decide
  have hlf : Fr 134217985 u (u.logc COL.PAGE 0x1A (u.rd COL.ENC_STS 0 lane) (u.rd COL.ENC_OUT 0 lane)) := State.logc_fr
  refine ⟨_, hx, ?_, fun a ha => ?_, ?_, ?_, ?_⟩
  · rw [State.logc_within.2.1 _ (fun h => logKeys_shared h unshared_coil), hsts]
    rfl
  · rw [(hlf.same .hbm).1]
    exact hhbm a ha
  · exact State.logged_of (hu.sameLog hhead) ((State.logged_logc u _ _ _ _).imp (fun a b h => h.1.trans hrd))
  · rw [show State.coil _ = u.coil from hlf.same .coil, show u.coil = _ from hp.same .coil]
    exact State.encFree_enc lane
  · exact (State.within.refl.next hu (by decide) (fun _ h => List.mem_append_left _ h)).next State.logc_within (by decide)
      (fun _ h => List.mem_append_right _ h)

end reads

end run

theorem encodeDone_idle (hm : s.mem.sealed = true) : idle (.encodeDone lane) s := by
  change execEncodeDone lane s = .next s
  unfold execEncodeDone
  split
  · rfl
  · exact if_pos hm

end done

/-- Settles O12: GO through the register access it makes, the end of a job by what its read meets and whether its stream fits. -/
theorem encodeJobs : Obligations.EncodeJobs := by
  intro s
  exact ⟨fun _ => encodeStart_gives, fun _ => encodeStart_gives_busy, fun _ _ hj hm hs hb hc hd => encodeDone_gives_done hj hm hs hb hd hc,
    fun _ _ hj hm hs hb hc hd => encodeDone_gives_cap hj hm hs hb hd hc, fun _ _ _ hj hm hb => encodeDone_gives_mem hj hm hb,
    fun _ _ hj hm hs => encodeDone_gives_beyond hj hm hs, fun _ => encodeDone_idle⟩

end

end Sys2Proof.Machine

namespace Sys2Proof.Machine

set_option Elab.async false

/-! SUPPORT. The table of the decode lanes: a lane stored, the lane that a stream holds, the lane that an update takes (R122, R131). -/

section

variable {s t : State}

/-! ### A lane stored -/

section setLane

variable {n k : Nat} {l : DecLane}

theorem State.setLane_within : s.within (s.setLane n l) [.regs, .coil] [COL.LANE_BUSY.key 0 0] :=
  (State.within.refl.frame State.modCoil_fr).next State.wr_within

theorem State.decLane_congr (h : t.coil = s.coil) (k : Nat) : t.decLane k = s.decLane k := by
  unfold State.decLane
  rw [h]

theorem State.setLane_decLane : (s.setLane n l).decLane k = if k = n then l else s.decLane k := by
  have hcoil : (s.setLane n l).coil = { s.coil with lanes := tset (fun _ => DecLane.free) s.coil.lanes n l } := State.wr_fr.same .coil
  unfold State.decLane
  rw [hcoil, tget_tset]

theorem State.setLane_decLane_self : (s.setLane n l).decLane n = l := by rw [State.setLane_decLane, if_pos rfl]

theorem State.setLane_decLane_ne (h : k ≠ n) : (s.setLane n l).decLane k = s.decLane k := by rw [State.setLane_decLane, if_neg h]

/-- LANE_BUSY shows whether the lane decodes (R131). -/
theorem State.setLane_busy (h : n < 32) : bit ((s.setLane n l).rd COL.LANE_BUSY) n = l.ring.isSome := by
  have hset : bits (setBits (s.rd COL.LANE_BUSY) n n (b2n l.ring.isSome)) n n = b2n l.ring.isSome := by
    rw [bits_setBits, Nat.add_sub_cancel_left]
    cases l.ring <;> rfl
  have hrd : (s.setLane n l).rd COL.LANE_BUSY = setBits (s.rd COL.LANE_BUSY) n n (b2n l.ring.isSome) :=
    (State.rd_wr (by decide) (by decide)).trans (Nat.mod_eq_of_lt (setBits_lt (s.rd_lt _ _ _) h (Nat.le_refl n)))
  unfold bits at hset
  rw [Nat.add_sub_cancel_left, Nat.pow_one] at hset
  unfold bit
  rw [hrd, hset]
  cases l.ring <;> rfl

end setLane

/-! ### The lane of a stream, and of an update -/

/-- The lane of a stream is one of the 32, and its context is the stream's. -/
theorem State.laneOf_eq_some {st n : Nat} (h : s.laneOf st = some n) : n < 32 ∧ ∃ c, (s.decLane n).ctx = some (st, c) := by
  refine ⟨List.mem_range.1 (List.mem_of_find?_eq_some h), ?_⟩
  have hp := List.find?_some h
  cases hc : (s.decLane n).ctx with
  | none => rw [hc] at hp; cases hp
  | some x =>
    rw [hc] at hp
    exact ⟨x.2, by rw [← beq_iff_eq.1 hp]⟩

theorem State.laneOf_congr (h : t.coil.lanes = s.coil.lanes) (st : Nat) : t.laneOf st = s.laneOf st := by
  unfold State.laneOf State.decLane
  rw [h]

/-- A fold that keeps its choice or takes the next element ends with one of them. -/
theorem mem_of_foldl_choice {f : Option Nat → Nat → Option Nat} (hf : ∀ b x, f b x = some x ∨ f b x = b) {xs : List Nat} {b : Option Nat}
    {m : Nat} (h : xs.foldl f b = some m) : m ∈ xs ∨ b = some m := by
  induction xs generalizing b with
  | nil => exact .inr h
  | cons x xs ih =>
    rcases ih h with hm | hm
    · exact .inl (List.mem_cons_of_mem x hm)
    · rcases hf b x with hx | hx
      · exact .inl (Option.some.inj (hx.symm.trans hm) ▸ List.mem_cons_self ..)
      · exact .inr (hx.symm.trans hm)

theorem State.freeLane_lt {n : Nat} (h : s.freeLane = some n) : n < 32 := by
  have hfree : ∀ m ∈ (List.range 32).filter (fun n => (s.decLane n).ring.isNone), m < 32 :=
    fun m hm => List.mem_range.1 (List.mem_of_mem_filter hm)
  unfold State.freeLane at h
  dsimp only at h
  split at h
  · exact hfree n (List.mem_of_find?_eq_some (‹_ = some _›.trans h))
  · refine hfree n ((mem_of_foldl_choice (fun b x => ?_) h).resolve_right (by simp))
    cases b with
    | none => exact .inl rfl
    | some m =>
      dsimp only
      split
      · exact .inl rfl
      · exact .inr rfl

theorem State.laneFor_lt {u : Update} {n : Nat} (h : s.laneFor u = some n) : n < 32 := by
  unfold State.laneFor at h
  split at h
  · cases h
  · split at h
    · exact State.freeLane_lt h
    · split at h
      · rename_i m hm
        split at h
        · exact Option.some.inj h ▸ (State.laneOf_eq_some hm).1
        · cases h
      · split at h
        · cases h
        · exact State.freeLane_lt h

/-- An update of a resident stream takes the lane that holds it. -/
theorem State.laneFor_bound {u : Update} {n : Nat} (hst : u.stream ≠ 0) (h : s.laneFor u = some n) :
    s.laneOf u.stream = some n ∨ s.laneOf u.stream = none := by
  unfold State.laneFor at h
  rw [if_neg hst] at h
  split at h
  · cases h
  · split at h
    · rename_i m hm
      split at h
      · exact .inl (hm.trans h)
      · cases h
    · rename_i hm
      exact .inr hm

/-! ### A context load -/

theorem State.readFault_isSome (s : State) (a n : Nat) (c : MemClass) :
    (s.readFault a n c).isSome = (decide (hbmSize < a + n) || (s.firstBad a n).isSome) := by
  unfold State.readFault
  split
  · rename_i h
    simp [h]
  · rename_i h
    simp [h]

/-- A context load depends on CTX_BASE and on the memory alone. -/
theorem State.ctxLoad_congr (hr : t.regs = s.regs) (hm : t.ram = s.ram) (st : Nat) : t.ctxLoad st = s.ctxLoad st := by
  have hrd (a n : Nat) : t.hbmRd a n = s.hbmRd a n := by unfold State.hbmRd; rw [hm]
  have hslot : t.ctxSlot st = s.ctxSlot st := by
    unfold State.ctxSlot State.addr37 State.reg
    rw [hr]
  have hfault (a n : Nat) (c : MemClass) : (t.readFault a n c).isSome = (s.readFault a n c).isSome := by
    rw [State.readFault_isSome, State.readFault_isSome]
    unfold State.firstBad
    rw [hm]
  have hctx (a : Nat) : (t.ctxFault a).isSome = (s.ctxFault a).isSome := by
    unfold State.ctxFault State.ctxReads
    rw [List.isSome_findSome?, List.isSome_findSome?]
    simp only [hfault, hrd]
  unfold State.ctxLoad
  simp only [hctx, hslot, hrd]

end

end Sys2Proof.Machine

namespace Sys2Proof.Machine

set_option Elab.async false

/-! O11 (`CoilLanes`), the decode lanes: the start of a decode and its end (R118, R120, R121, R122, R131). -/

section

variable {s t : State}

/-! ### The start of a decode -/

section start

variable {r n : Nat} {rest : List Nat} {u : Update} {c : CoilCtx}

theorem State.startLane_alone (hst : u.stream = 0) :
    s.startLane n r u = s.setLane n { s.decLane n with ring := some r, bad := none } := if_pos hst

/-- The use counter moves on (R122). -/
def State.nextUse (s : State) : State := s.modCoil (fun c => { c with useCtr := s.coil.useCtr + 1 })

theorem State.nextUse_within : s.within s.nextUse [.coil] [] :=
  State.within.refl.frame (State.modCoil_fr : Fr 2048 s (s.modCoil (fun c => { c with useCtr := s.coil.useCtr + 1 })))

theorem State.nextUse_regs : s.nextUse.regs = s.regs := s.modCoil_regs _

theorem State.nextUse_ram : s.nextUse.ram = s.ram := s.modCoil_ram _

theorem State.startLane_resident (hst : u.stream ≠ 0) (hres : s.laneOf u.stream = some n) : s.startLane n r u =
    s.nextUse.setLane n { s.decLane n with ring := some r, used := s.coil.useCtr + 1, bad := none } :=
  (if_neg hst).trans (if_pos hres)

theorem State.startLane_load (hst : u.stream ≠ 0) (hres : s.laneOf u.stream = none) (hctx : (s.decLane n).ctx = none)
    (hload : s.ctxLoad u.stream = .ok c) :
    s.startLane n r u = s.nextUse.setLane n ⟨some (u.stream, c), s.coil.useCtr + 1, some r, none⟩ := by
  have hres' : s.nextUse.laneOf u.stream = none := (State.laneOf_congr rfl _).trans hres
  have hload' : s.nextUse.ctxLoad u.stream = .ok c := (State.ctxLoad_congr State.nextUse_regs State.nextUse_ram _).trans hload
  unfold State.nextUse at hres' hload' ⊢
  unfold State.startLane
  rw [if_neg hst]
  simp only [hres', hctx, hload', reduceCtorEq, if_false]

/-- An update of a bound stream starts with the stream's context, resident or loaded. -/
theorem State.startLane_bound (hst : u.stream ≠ 0)
    (hl : s.laneOf u.stream = some n ∧ (s.decLane n).ctx = some (u.stream, c) ∨
      s.laneOf u.stream = none ∧ (s.decLane n).ctx = none ∧ s.ctxLoad u.stream = .ok c) :
    s.startLane n r u = s.nextUse.setLane n ⟨some (u.stream, c), s.coil.useCtr + 1, some r, none⟩ := by
  rcases hl with ⟨hres, hctx⟩ | ⟨hres, hctx, hload⟩
  · rw [State.startLane_resident hst hres]
    dsimp only
    rw [hctx]
  · exact State.startLane_load hst hres hctx hload

/-- The update that has come first is taken off the queue and decodes. -/
def State.takeReady (s : State) (r : Nat) (u : Update) : State :=
  (s.modScene (fun c => { c with readyOrder := c.readyOrder.filter (· != r) })).setUpd r (some { u with phase := .decoding })

theorem State.takeReady_within : s.within (s.takeReady r u) [.scene] [] := 
  (State.within.refl.frame State.modScene_fr).frame State.setUpd_fr

theorem execCoilDecodeStart_first (hq : s.scene.readyOrder = r :: rest) (hu : s.upd r = some u) (hp : u.phase = .staged)
    (hl : s.laneFor u = some n) : execCoilDecodeStart s = .next ((s.takeReady r u).startLane n r u) := by
  unfold execCoilDecodeStart
  rw [hq, List.findSome?_cons]
  dsimp only
  rw [hu]
  dsimp only
  rw [if_pos hp, hl]
  rfl

/-- What a start leaves, whatever the lane holds. -/
theorem State.startsIn (hq : s.scene.readyOrder = r :: rest) (hn : n < 32) {v : State} {l : DecLane} (hl : l.ring.isSome = true)
    (hv : (s.takeReady r u).within v [.coil] []) (hlanes : v.decLane = s.decLane) :
    (v.setLane n l).scene.readyOrder = rest.filter (· != r) ∧
    (v.setLane n l).upd r = some { u with phase := .decoding } ∧
    (v.setLane n l).decLane n = l ∧
    bit ((v.setLane n l).rd COL.LANE_BUSY) n = true ∧
    (∀ k, k ≠ n → (v.setLane n l).decLane k = s.decLane k) ∧
    s.within (v.setLane n l) [.regs, .scene, .coil] [COL.LANE_BUSY.key 0 0] := by
  have hw : (s.takeReady r u).within (v.setLane n l) [.regs, .coil] [COL.LANE_BUSY.key 0 0] :=
    (State.within.refl.next hv (by decide) (fun _ h => absurd h List.not_mem_nil)).next State.setLane_within
  have hscene : (v.setLane n l).scene = (s.takeReady r u).scene := hw.same .scene
  refine ⟨?_, ?_, State.setLane_decLane_self, (State.setLane_busy hn).trans hl, fun k hk => ?_,
    (State.within.refl.next State.takeReady_within (by decide) (fun _ h => absurd h List.not_mem_nil)).next hw⟩
  · rw [hscene]
    change s.scene.readyOrder.filter (· != r) = _
    rw [hq, List.filter_cons_of_neg (by simp)]
  · unfold State.upd
    rw [hscene, State.takeReady, State.setUpd, State.modScene_scene, tget_tset, if_pos rfl]
  · rw [State.setLane_decLane_ne hk, hlanes]

theorem coilDecodeStart_gives_alone (hq : s.scene.readyOrder = r :: rest) (hu : s.upd r = some u) (hp : u.phase = .staged)
    (hst : u.stream = 0) (hl : s.laneFor u = some n) : gives .coilDecodeStart s (fun t =>
      t.scene.readyOrder = rest.filter (· != r) ∧
      t.upd r = some { u with phase := .decoding } ∧
      t.decLane n = { s.decLane n with ring := some r, bad := none } ∧
      bit (t.rd COL.LANE_BUSY) n = true ∧
      (∀ k, k ≠ n → t.decLane k = s.decLane k) ∧
      s.within t [.regs, .scene, .coil] [COL.LANE_BUSY.key 0 0]) := by
  have hx := execCoilDecodeStart_first hq hu hp hl
  rw [State.startLane_alone hst] at hx
  exact ⟨_, hx, State.startsIn hq (State.laneFor_lt hl) rfl .refl rfl⟩

theorem coilDecodeStart_gives_bound (hq : s.scene.readyOrder = r :: rest) (hu : s.upd r = some u) (hp : u.phase = .staged)
    (hst : u.stream ≠ 0) (hl : s.laneFor u = some n) (hres : s.laneOf u.stream = some n → (s.decLane n).ctx = some (u.stream, c))
    (hload : s.laneOf u.stream = none → (s.decLane n).ctx = none ∧ (s.ctxLoad u.stream).toOption = some c) :
    gives .coilDecodeStart s (fun t =>
      t.scene.readyOrder = rest.filter (· != r) ∧
      t.upd r = some { u with phase := .decoding } ∧
      t.decLane n = ⟨some (u.stream, c), s.coil.useCtr + 1, some r, none⟩ ∧
      bit (t.rd COL.LANE_BUSY) n = true ∧
      (∀ k, k ≠ n → t.decLane k = s.decLane k) ∧
      s.within t [.regs, .scene, .coil] [COL.LANE_BUSY.key 0 0]) := by
  have hx := execCoilDecodeStart_first hq hu hp hl
  have hctx : (s.takeReady r u).laneOf u.stream = some n ∧ ((s.takeReady r u).decLane n).ctx = some (u.stream, c) ∨
      (s.takeReady r u).laneOf u.stream = none ∧ ((s.takeReady r u).decLane n).ctx = none ∧
        (s.takeReady r u).ctxLoad u.stream = .ok c := by
    have hmem : (s.takeReady r u).ctxLoad u.stream = s.ctxLoad u.stream := 
      State.ctxLoad_congr (t := s.takeReady r u) (by rw [State.takeReady, State.setUpd, State.modScene_regs, State.modScene_regs])
        (by rw [State.takeReady, State.setUpd, State.modScene_ram, State.modScene_ram]) _
    rw [hmem]
    rcases State.laneFor_bound hst hl with h | h
    · exact .inl ⟨h, hres h⟩
    · obtain ⟨h1, h2⟩ := hload h
      refine .inr ⟨h, h1, ?_⟩
      cases hc : s.ctxLoad u.stream with
      | error e => rw [hc] at h2; cases h2
      | ok d => rw [hc] at h2; exact congrArg Except.ok (Option.some.inj h2)
  rw [State.startLane_bound hst hctx] at hx
  exact ⟨_, hx, State.startsIn hq (State.laneFor_lt hl) rfl State.nextUse_within rfl⟩

end start

/-! ### The end of a decode -/

section done

variable {lane : Fin 32} {r : Nat} {u : Update}

/-- The lane at rest, its context as it was. -/
def State.laneRest (s : State) (lane : Fin 32) : State := s.setLane lane { s.decLane lane with ring := none, bad := none }

/-- The lane behind a decode that succeeded: a bound stream's context advances (R120, R121). -/
def State.laneDecoded (s : State) (lane : Fin 32) (u : Update) (c : CoilCtx) : State :=
  if u.stream = 0 then s.laneRest lane
  else (s.laneRest lane).setLane lane { s.decLane lane with ctx := some (u.stream, c), ring := none, bad := none }

theorem State.laneRest_within : s.within (s.laneRest lane) [.regs, .coil] [COL.LANE_BUSY.key 0 0] := State.setLane_within

theorem State.laneRest_upd : (s.laneRest lane).upd r = s.upd r :=
  congrArg (fun c : SceneSt => tget (fun _ => none) c.upd r) (State.laneRest_within.same .scene)

theorem State.laneDecoded_within (c : CoilCtx) : s.within (s.laneDecoded lane u c) [.regs, .coil] [COL.LANE_BUSY.key 0 0] := by
  unfold State.laneDecoded
  split
  · exact State.laneRest_within
  · exact State.laneRest_within.next State.setLane_within

theorem State.laneDecoded_decLane (c : CoilCtx) : (s.laneDecoded lane u c).decLane lane =
    { s.decLane lane with ring := none, bad := none, ctx := if u.stream = 0 then (s.decLane lane).ctx else some (u.stream, c) } := by
  unfold State.laneDecoded
  split
  · exact State.setLane_decLane_self
  · exact State.setLane_decLane_self

/-- What a decode gives depends on the lane and the update alone. -/
theorem State.decodeRun_eq (l : DecLane) : t.decodeRun l u = s.decodeRun l u := by
  unfold State.decodeRun
  rfl

section run

variable (hr : (s.decLane lane).ring = some r) (hu : s.upd r = some u)
include hr hu

theorem execCoilDecodeDone_ok {out : List Byte} {c : CoilCtx} (hd : s.decodeRun (s.decLane lane) u = .ok (out, c)) :
    execCoilDecodeDone lane s = .next (((s.laneDecoded lane u c).bump COL.STAT_OUT (out.length / 64)).setUpd r
      (some { u with phase := .expanded, expansion := out, doneAt := s.clk.now })) := by
  have hu' : (s.laneRest lane).upd r = some u := State.laneRest_upd.trans hu
  have hd' : (s.laneRest lane).decodeRun (s.decLane lane) u = .ok (out, c) := by
    rw [State.decodeRun_eq (s := s), hd]
  have hclk : ((s.laneDecoded lane u c).bump COL.STAT_OUT (out.length / 64)).clk = s.clk :=
    (State.bump_fr.same .clk : _ = (s.laneDecoded lane u c).clk).trans ((State.laneDecoded_within c).same .clk)
  rw [← hclk]
  unfold State.laneDecoded
  unfold State.laneRest at hu' hd' ⊢
  unfold execCoilDecodeDone
  simp only [hr, hu', hd']

theorem execCoilDecodeDone_error {w : CoilWhy} {blk : Nat} (hd : s.decodeRun (s.decLane lane) u = .error (w, blk)) :
    execCoilDecodeDone lane s = .next ((s.laneRest lane).decodeFail r u w blk) := by
  have hu' : (s.laneRest lane).upd r = some u := State.laneRest_upd.trans hu
  have hd' : (s.laneRest lane).decodeRun (s.decLane lane) u = .error (w, blk) := by
    rw [State.decodeRun_eq (s := s), hd]
  unfold State.laneRest at hu' hd' ⊢
  unfold execCoilDecodeDone
  simp only [hr, hu', hd']

theorem coilDecodeDone_gives {out : List Byte} {c : CoilCtx} (hd : (s.decodeRun (s.decLane lane) u).toOption = some (out, c)) :
    gives (.coilDecodeDone lane) s (fun t =>
      t.upd r = some { u with phase := .expanded, expansion := out, doneAt := s.clk.now } ∧
      (t.decLane lane = { s.decLane lane with ring := none, bad := none, ctx := if u.stream = 0 then (s.decLane lane).ctx else some (u.stream, c) }) ∧
      t.rd COL.STAT_OUT = min 0xFFFFFFFF (s.rd COL.STAT_OUT + out.length / 64) ∧
      t.rd COL.STAT_FAIL = s.rd COL.STAT_FAIL ∧
      t.scene.fresh = s.scene.fresh ∧
      s.within t [.regs, .scene, .coil] [COL.LANE_BUSY.key 0 0, COL.STAT_OUT.key 0 0]) := by
  have hrun : s.decodeRun (s.decLane lane) u = .ok (out, c) := by
    cases h : s.decodeRun (s.decLane lane) u with
    | error e => rw [h] at hd; cases hd
    | ok x => rw [h] at hd; exact congrArg Except.ok (Option.some.inj hd)
  have hx := execCoilDecodeDone_ok hr hu hrun
  have hl := s.laneDecoded_within (lane := lane) (u := u) c
  have hdec := s.laneDecoded_decLane (lane := lane) (u := u) c
  generalize s.laneDecoded lane u c = v at hx hl hdec
  have hb : s.within (v.bump COL.STAT_OUT (out.length / 64)) [.regs, .coil] [COL.LANE_BUSY.key 0 0, COL.STAT_OUT.key 0 0] :=
    (State.within.refl.next hl).next State.bump_within
  have hscene : (v.bump COL.STAT_OUT (out.length / 64)).scene = s.scene := hb.same .scene
  have hstat : (v.bump COL.STAT_OUT (out.length / 64)).rd COL.STAT_OUT = min 0xFFFFFFFF (s.rd COL.STAT_OUT + out.length / 64) := by
    rw [State.rd_bump (by decide), hl.rd]
  refine ⟨_, hx, ?_, ?_, ?_, ?_, ?_, (State.within.refl.next hb).frame State.setUpd_fr⟩
  · rw [State.upd, State.setUpd, State.modScene_scene, tget_tset, if_pos rfl]
  · rw [State.decLane_congr (State.setUpd_fr.same .coil), State.decLane_congr (State.bump_fr.same .coil), hdec]
  · rw [State.setUpd, State.modScene_rd, hstat]
  · rw [State.setUpd, State.modScene_rd, hb.rd]
  · rw [State.setUpd, State.modScene_scene, hscene]

end run

end done

end

end Sys2Proof.Machine

namespace Sys2Proof.Machine

set_option Elab.async false

/-! O11 (`CoilLanes`), a decode that fails: what the Coil page shows, and the update rejected (R93, R103, R118, R131). -/

section

variable {s t : State}

/-! ### An update that fails -/

theorem State.onPages.logOnce {item p c a b : Nat} {ps : List Nat} (h : s.onPages t ps) : s.onPages (t.logOnce item p c a b) ps := by
  unfold State.logOnce
  split
  · exact h
  · exact (h.frame State.modLog_fr).logc

theorem State.keepsRegs.logOnce {item p c a b : Nat} : s.keepsRegs (s.logOnce item p c a b) (logKeys p) := by
  unfold State.logOnce
  split
  · exact State.keepsRegs_refl
  · exact State.keepsRegs_refl.modLog.logc (fun _ h => h)

theorem State.reserveSts_onPages : s.onPages s.reserveSts [WV.PAGE, WV.PAGE + 1] := by
  unfold State.reserveSts State.each
  exact ((State.onPages.refl.wr).wr)

theorem State.reject_onPages {ring code tile arg : Nat} : s.onPages (s.reject ring code tile arg) [ING.PAGE, RIM.PAGE] := by
  unfold State.reject
  split
  · exact State.onPages.refl.bump
  · have h : s.onPages ((((s.bump ING.STAT_REJ).wr ING.REJ_LAST.CODE code).wr ING.REJ_LAST.RING ring).wr ING.REJ_TILE tile) [ING.PAGE, RIM.PAGE] :=
      (((State.onPages.refl.bump).wr).wr).wr
    exact (State.onPages.ite h.bump h).logOnce

/-- REJ_LAST shows the code of a Coil failure (R103, R118). -/
theorem State.reject_code {ring code tile arg : Nat} (hc : code = 0x10 ∨ code = 0x11) :
    (s.reject ring code tile arg).rd ING.REJ_LAST.CODE = code := by
  unfold State.reject
  rw [if_neg (by omega)]
  dsimp only
  rw [if_neg (by omega), State.keepsRegs.logOnce.rd (by decide), State.rd_wr_ne (by decide),
    State.rd_wr_apart (.inr (by decide)) (by decide), State.rd_wr (by decide) (by decide)]
  rcases hc with rfl | rfl <;> rfl

section update

variable {ring : Nat} {u : Update}

theorem State.endUpdate_onPages : s.onPages (s.endUpdate ring) [ING.PAGE, WV.PAGE, WV.PAGE + 1] := by
  unfold State.endUpdate
  split
  · exact .refl
  · rename_i u _
    have h : s.onPages (if u.held then s.wr ING.STAGE_FILL.FILL (s.rd ING.STAGE_FILL.FILL - u.units) else s) [ING.PAGE, WV.PAGE, WV.PAGE + 1] :=
      State.onPages.ite State.onPages.refl.wr .refl
    exact ((((h.frame State.modScene_fr).frame State.setUpd_fr).frame State.modWv_fr).next State.reserveSts_onPages)

theorem State.endUpdate_scene (hu : s.upd ring = some u) : (s.endUpdate ring).scene =
    { s.scene with readyOrder := s.scene.readyOrder.filter (· != ring), upd := tset (fun _ => none) s.scene.upd ring none } := by
  unfold State.endUpdate
  rw [hu]
  dsimp only
  rw [show ∀ v : State, v.reserveSts.scene = v.scene from fun v => State.reserveSts_fr.same .scene, State.modWv_scene, State.setUpd,
    State.modScene_scene, State.modScene_scene]
  split
  · rw [show ∀ (v : State) (f : Fld) (n : Nat), (v.wr f n).scene = v.scene from fun v f n => State.wr_fr.same .scene]
  · rfl

theorem State.failUpdate_eq {code : Nat} (hu : s.upd ring = some u) : s.failUpdate ring code =
    (s.endUpdate ring).reject ring code u.handle (s.conflictArg code u.handle u.source) := by
  unfold State.failUpdate
  rw [hu]

/-- A failed update is gone; the freshness table stays. -/
theorem State.failUpdate_scene {code : Nat} (hu : s.upd ring = some u) :
    (s.failUpdate ring code).upd ring = none ∧ (s.failUpdate ring code).scene.fresh = s.scene.fresh := by
  have h : (s.failUpdate ring code).scene = (s.endUpdate ring).scene := by
    rw [State.failUpdate_eq hu]
    exact State.reject_fr.same .scene
  rw [State.upd, h, State.endUpdate_scene hu, tget_tset, if_pos rfl]
  exact ⟨rfl, rfl⟩

theorem State.failUpdate_onPages {code : Nat} (hu : s.upd ring = some u) :
    s.onPages (s.failUpdate ring code) [ING.PAGE, WV.PAGE, WV.PAGE + 1, RIM.PAGE] := by
  rw [State.failUpdate_eq hu]
  exact (State.onPages.refl.next State.endUpdate_onPages).next State.reject_onPages

theorem State.failUpdate_code {code : Nat} (hu : s.upd ring = some u) (hc : code = 0x10 ∨ code = 0x11) :
    (s.failUpdate ring code).rd ING.REJ_LAST.CODE = code := by
  rw [State.failUpdate_eq hu]
  exact State.reject_code hc

end update

/-! ### A failed decode -/

section fail

variable {lane : Fin 32} {r blk : Nat} {u : Update} {w : CoilWhy}

theorem CoilWhy.code_lt (w : CoilWhy) : w.code < 256 := by cases w <;> decide

theorem CoilWhy.reject_eq (w : CoilWhy) : w.reject = if w = .short ∨ w = .plait then 0x11 else 0x10 := by cases w <;> rfl

/-- FAIL_LAST, FAIL_RING and STAT_FAIL of a failed decode (R118, R131). -/
def State.failShown (s : State) (r : Nat) (u : Update) (w : CoilWhy) (blk : Nat) : State :=
  ((((s.wr COL.FAIL_LAST.WHY w.code).wr COL.FAIL_LAST.STREAM u.stream).wr COL.FAIL_RING.RING r).wr COL.FAIL_RING.BLOCK blk).bump COL.STAT_FAIL

theorem State.failShown_within : s.within (s.failShown r u w blk) [.regs]
    [COL.FAIL_LAST.WHY.key 0 0, COL.FAIL_RING.RING.key 0 0, COL.STAT_FAIL.key 0 0] :=
  ((((State.within.refl.next State.wr_within).next State.wr_within).next State.wr_within).next State.wr_within).next State.bump_within

theorem State.failShown_regs : (s.failShown r u w blk).rd COL.FAIL_LAST.WHY = w.code ∧
    (s.failShown r u w blk).rd COL.FAIL_LAST.STREAM = u.stream % 4096 ∧
    (s.failShown r u w blk).rd COL.FAIL_RING.RING = r % 65536 ∧
    (s.failShown r u w blk).rd COL.FAIL_RING.BLOCK = blk % 65536 ∧
    (s.failShown r u w blk).rd COL.STAT_FAIL = min 0xFFFFFFFF (s.rd COL.STAT_FAIL + 1) := by
  unfold State.failShown
  refine ⟨?_, ?_, ?_, ?_, ?_⟩
  · rw [State.bump, State.rd_wr_ne (by decide), State.rd_wr_ne (by decide), State.rd_wr_ne (by decide),
      State.rd_wr_apart (.inr (by decide)) (by decide), State.rd_wr (by decide) (by decide)]
    exact Nat.mod_eq_of_lt w.code_lt
  · rw [State.bump, State.rd_wr_ne (by decide), State.rd_wr_ne (by decide), State.rd_wr_ne (by decide), State.rd_wr (by decide) (by decide)]
    rfl
  · rw [State.bump, State.rd_wr_ne (by decide), State.rd_wr_apart (.inr (by decide)) (by decide), State.rd_wr (by decide) (by decide)]
    rfl
  · rw [State.bump, State.rd_wr_ne (by decide), State.rd_wr (by decide) (by decide)]
    rfl
  · rw [State.rd_bump (by decide), State.rd_wr_ne (by decide), State.rd_wr_ne (by decide), State.rd_wr_ne (by decide), State.rd_wr_ne (by decide)]

theorem State.decodeFail_eq : s.decodeFail r u w blk = (s.failShown r u w blk).failUpdate r w.reject := rfl

theorem coilDecodeDone_gives_error (hr : (s.decLane lane).ring = some r) (hu : s.upd r = some u)
    (hd : failureOf (s.decodeRun (s.decLane lane) u) = some (w, blk)) : gives (.coilDecodeDone lane) s (fun t =>
      t.upd r = none ∧
      (t.decLane lane).ctx = (s.decLane lane).ctx ∧
      (t.decLane lane).ring = none ∧
      t.rd COL.FAIL_LAST.WHY = w.code ∧
      t.rd COL.FAIL_LAST.STREAM = u.stream % 4096 ∧
      t.rd COL.FAIL_RING.RING = r % 65536 ∧
      t.rd COL.FAIL_RING.BLOCK = blk % 65536 ∧
      t.rd COL.STAT_FAIL = min 0xFFFFFFFF (s.rd COL.STAT_FAIL + 1) ∧
      (t.rd ING.REJ_LAST.CODE = if w = .short ∨ w = .plait then 0x11 else 0x10) ∧
      t.scene.fresh = s.scene.fresh ∧
      t.ram.hbm = s.ram.hbm ∧
      s.keeps t [.regs, .scene, .coil, .wv, .log, .sram]) := by
  have hrun : s.decodeRun (s.decLane lane) u = .error (w, blk) := by
    cases h : s.decodeRun (s.decLane lane) u with
    | error e => rw [h] at hd; exact congrArg Except.error (Option.some.inj hd)
    | ok x => rw [h] at hd; cases hd
  have hx := execCoilDecodeDone_error hr hu hrun
  have hdec : (s.laneRest lane).decLane lane = { s.decLane lane with ring := none, bad := none } := State.setLane_decLane_self
  have hfr : Fr 134225153 s ((s.laneRest lane).decodeFail r u w blk) := (State.setLane_fr.mono rfl).trans (State.decodeFail_fr.mono rfl)
  have hcoil : ((s.laneRest lane).decodeFail r u w blk).coil = (s.laneRest lane).coil := State.decodeFail_fr.same .coil
  have hv := (State.laneRest_within (s := s) (lane := lane)).rd (f := COL.STAT_FAIL) (i := 0) (x := 0)
  have hscene : ((s.laneRest lane).failShown r u w blk).scene = s.scene :=
    ((State.within.refl.next State.laneRest_within (ps := [.regs, .coil]) (ks := [COL.LANE_BUSY.key 0 0])).1.next
      State.failShown_within.1) .scene (by decide)
  obtain ⟨hwhy, hstream, hring, hblk, hstat⟩ := (s.laneRest lane).failShown_regs (r := r) (u := u) (w := w) (blk := blk)
  have hu' : ((s.laneRest lane).failShown r u w blk).upd r = some u := by rw [State.upd, hscene]; exact hu
  obtain ⟨hgone, hfresh⟩ := State.failUpdate_scene (code := w.reject) hu'
  have hpages := State.failUpdate_onPages (code := w.reject) hu'
  rw [State.decodeFail_eq] at hx hfr hcoil
  generalize (s.laneRest lane).failShown r u w blk = v at *
  refine ⟨_, hx, hgone, ?_, ?_, hpages.rd.trans hwhy, hpages.rd.trans hstream, hpages.rd.trans hring, hpages.rd.trans hblk,
    hpages.rd.trans (hstat.trans (by rw [hv])), ?_, hfresh.trans (congrArg SceneSt.fresh hscene), (hfr.same .hbm).1, hfr.keepsOf⟩
  · rw [State.decLane_congr hcoil, hdec]
  · rw [State.decLane_congr hcoil, hdec]
  · rw [State.failUpdate_code hu' (by rw [CoilWhy.reject_eq]; split <;> simp), CoilWhy.reject_eq]

end fail

end

end Sys2Proof.Machine

namespace Sys2Proof.Machine

set_option Elab.async false

/-! O11 (`CoilLanes`), the register writes: CLEAR and FLUSH of a stream, and the context base (R119, R122, R130, R132). -/

section

variable {s t : State} {path : Path}

theorem State.answer_decLane (st : Status) (w k : Nat) : (State.answer (st, w, t)).decLane k = t.decLane k :=
  State.decLane_congr (State.answer_coil st w) k

theorem State.answer_hbmRd (st : Status) (w a n : Nat) : (State.answer (st, w, t)).hbmRd a n = t.hbmRd a n := rfl

theorem regAct_strmCtl (priv ok : Bool) (v : Nat) : regAct path priv ok COL.PAGE 0x114 v s = s.wrStrmCtl path v := rfl

/-! ### STRM_CTL -/

section strmCtl

variable {st : Nat}

theorem State.wrStrmCtl_clear (hd : s.streamDecodes (s.rd COL.STRM_SEL.STREAM 0 path.num) = false)
    (h0 : s.rd COL.STRM_SEL.STREAM 0 path.num ≠ 0) :
    s.wrStrmCtl path 1 = (.ok, s.streamClear (s.rd COL.STRM_SEL.STREAM 0 path.num)) := by
  unfold State.wrStrmCtl
  dsimp only
  rw [if_neg (by decide), hd, if_neg Bool.false_ne_true, if_neg h0]
  rfl

theorem State.wrStrmCtl_flush (hd : s.streamDecodes (s.rd COL.STRM_SEL.STREAM 0 path.num) = false)
    (h0 : s.rd COL.STRM_SEL.STREAM 0 path.num ≠ 0) :
    s.wrStrmCtl path 2 = (.ok, s.streamFlush (s.rd COL.STRM_SEL.STREAM 0 path.num)) := by
  unfold State.wrStrmCtl
  dsimp only
  rw [if_neg (by decide), hd, if_neg Bool.false_ne_true, if_neg h0]
  rfl

theorem State.wrStrmCtl_busy {v : Nat} (hv : v = 1 ∨ v = 2) (hd : s.streamDecodes (s.rd COL.STRM_SEL.STREAM 0 path.num) = true) :
    s.wrStrmCtl path v = ign28 path COL.PAGE 0x114 v s := by
  unfold State.wrStrmCtl
  dsimp only
  rw [if_neg (by rcases hv with rfl | rfl <;> decide), if_pos hd]
  rfl

theorem State.streamClear_resident {n : Nat} (hl : s.laneOf st = some n) :
    s.streamClear st = s.setLane n { s.decLane n with ctx := some (st, CoilCtx.empty) } := by
  unfold State.streamClear
  rw [hl]

theorem State.streamClear_slot (hl : s.laneOf st = none) : s.streamClear st = s.hbmWr (s.ctxSlot st + 262144) (zeros 12) := by
  unfold State.streamClear coilWindow
  rw [hl]

theorem State.streamFlush_resident {n : Nat} {c : CoilCtx} (hl : s.laneOf st = some n) (hc : (s.decLane n).ctx = some (st, c)) :
    s.streamFlush st = (s.ctxStore st c).setLane n { s.decLane n with ctx := none } := by
  unfold State.streamFlush
  rw [hl]
  dsimp only
  rw [hc]

/-- The header that a write-back leaves in the slot: POS, FILL and TABLES (R119). -/
theorem State.ctxStore_header (c : CoilCtx) : (s.ctxStore st c).hbmRd (s.ctxSlot st + 262144) 16 =
    leBytes 4 c.pos ++ leBytes 4 c.hist.length ++ leBytes 4 (b2n c.tabs.isSome) ++ zeros 4 := by
  have hlen : (leBytes 4 c.pos ++ leBytes 4 c.hist.length ++ leBytes 4 (b2n c.tabs.isSome) ++ zeros 4).length = 16 := by
    simp [leBytes_length, zeros]
  have hhead : (ctxHeader c).take 16 = leBytes 4 c.pos ++ leBytes 4 c.hist.length ++ leBytes 4 (b2n c.tabs.isSome) ++ zeros 4 := by
    rw [ctxHeader, List.append_assoc (_ ++ zeros 4), List.take_left' hlen]
  have hle : 16 ≤ (ctxHeader c).length := by
    rw [← hlen, ← hhead]
    exact List.length_take_le' ..
  unfold State.ctxStore coilWindow
  rw [State.hbmRd_hbmWr hle, hhead]

theorem streamClear_gives_resident {n : Nat} (ht : s.takes path COL.PAGE 0x114 = true)
    (hd : s.streamDecodes (s.rd COL.STRM_SEL.STREAM 0 path.num) = false) (h0 : s.rd COL.STRM_SEL.STREAM 0 path.num ≠ 0)
    (hl : s.laneOf (s.rd COL.STRM_SEL.STREAM 0 path.num) = some n) : gives (.streamClear path) s (fun t =>
      t.answered .ok ∧
      t.decLane n = { s.decLane n with ctx := some (s.rd COL.STRM_SEL.STREAM 0 path.num, CoilCtx.empty) } ∧
      s.within t [.bus, .coil, .regs] [COL.LANE_BUSY.key 0 0]) := by
  have hact := (regAct_strmCtl path.privileged true 1).trans (State.wrStrmCtl_clear hd h0)
  rw [State.streamClear_resident hl] at hact
  obtain ⟨w, hw⟩ := State.cmdWrite_coil ht (by decide) hact (State.setLane_fr.same .panel)
  refine ⟨_, congrArg Host.Outcome.next hw, State.answer_answered _ _, ?_,
    (State.within.refl.next State.setLane_within).next (State.answer_within _ _)⟩
  rw [State.answer_decLane, State.setLane_decLane_self]

theorem streamClear_gives_slot (ht : s.takes path COL.PAGE 0x114 = true)
    (hd : s.streamDecodes (s.rd COL.STRM_SEL.STREAM 0 path.num) = false) (h0 : s.rd COL.STRM_SEL.STREAM 0 path.num ≠ 0)
    (hl : s.laneOf (s.rd COL.STRM_SEL.STREAM 0 path.num) = none) : gives (.streamClear path) s (fun t =>
      t.answered .ok ∧
      t.hbmRd (s.ctxSlot (s.rd COL.STRM_SEL.STREAM 0 path.num) + 262144) 12 = zeros 12 ∧
      (∀ a, a < s.ctxSlot (s.rd COL.STRM_SEL.STREAM 0 path.num) + 262144 ∨ s.ctxSlot (s.rd COL.STRM_SEL.STREAM 0 path.num) + 262156 ≤ a → tget memDefault t.ram.hbm a = tget memDefault s.ram.hbm a) ∧
      s.within t [.bus, .hbm] []) := by
  have hact := (regAct_strmCtl path.privileged true 1).trans (State.wrStrmCtl_clear hd h0)
  rw [State.streamClear_slot hl] at hact
  generalize s.ctxSlot (s.rd COL.STRM_SEL.STREAM 0 path.num) = slot at *
  obtain ⟨w, hw⟩ := State.cmdWrite_coil ht (by decide) hact (State.hbmWr_fr.same .panel)
  have hlen : (zeros 12).length = 12 := List.length_replicate
  refine ⟨_, congrArg Host.Outcome.next hw, State.answer_answered _ _, ?_, fun a ha => ?_,
    (State.within.refl.frame State.hbmWr_fr).next (State.answer_within _ _)⟩
  · rw [State.answer_hbmRd, State.hbmRd_hbmWr hlen.ge, List.take_of_length_le hlen.le]
  · exact State.hbmWr_out (by rw [hlen]; omega)

theorem streamFlush_gives {n : Nat} {c : CoilCtx} (ht : s.takes path COL.PAGE 0x114 = true)
    (hd : s.streamDecodes (s.rd COL.STRM_SEL.STREAM 0 path.num) = false) (h0 : s.rd COL.STRM_SEL.STREAM 0 path.num ≠ 0)
    (hl : s.laneOf (s.rd COL.STRM_SEL.STREAM 0 path.num) = some n)
    (hc : (s.decLane n).ctx = some (s.rd COL.STRM_SEL.STREAM 0 path.num, c)) : gives (.streamFlush path) s (fun t =>
      t.answered .ok ∧
      t.decLane n = { s.decLane n with ctx := none } ∧
      t.hbmRd (s.ctxSlot (s.rd COL.STRM_SEL.STREAM 0 path.num) + 262144) 16 = leBytes 4 c.pos ++ leBytes 4 c.hist.length ++ leBytes 4 (b2n c.tabs.isSome) ++ zeros 4 ∧
      s.within t [.bus, .coil, .regs, .hbm] [COL.LANE_BUSY.key 0 0]) := by
  have hact := (regAct_strmCtl path.privileged true 2).trans (State.wrStrmCtl_flush hd h0)
  rw [State.streamFlush_resident hl hc] at hact
  have hw : s.within (s.ctxStore (s.rd COL.STRM_SEL.STREAM 0 path.num) c) [.hbm] [] := State.ctxStore_fr.within
  have hhead := s.ctxStore_header (st := s.rd COL.STRM_SEL.STREAM 0 path.num) c
  generalize s.ctxStore (s.rd COL.STRM_SEL.STREAM 0 path.num) c = v at hact hw hhead
  have hset : s.within (v.setLane n { s.decLane n with ctx := none }) [.bus, .coil, .regs, .hbm] [COL.LANE_BUSY.key 0 0] :=
    (State.within.refl.next hw).next State.setLane_within
  obtain ⟨w, hw⟩ := State.cmdWrite_coil ht (by decide) hact (hset.same .panel)
  refine ⟨_, congrArg Host.Outcome.next hw, State.answer_answered _ _, ?_, ?_, hset.next (State.answer_within _ _)⟩
  · rw [State.answer_decLane, State.setLane_decLane_self]
  · have hram : (v.setLane n { s.decLane n with ctx := none }).ram.hbm = v.ram.hbm := (State.setLane_fr.same .hbm).1
    rw [← hhead, State.answer_hbmRd]
    unfold State.hbmRd
    rw [hram]

theorem streamClear_gives_busy (ht : s.takes path COL.PAGE 0x114 = true)
    (hd : s.streamDecodes (s.rd COL.STRM_SEL.STREAM 0 path.num) = true) : gives (.streamClear path) s (fun t =>
      t.answered .ignored ∧
      s.logged t SYS.PAGE 0x28 (fun a b => a = COL.PAGE * 4096 + 0x114 + path.num * 2 ^ 24 ∧ b = 1) ∧
      s.within t [.regs, .bus, .log, .sram] (logKeys SYS.PAGE)) := by
  obtain ⟨t, hw, h⟩ := State.cmdWrite_coil_ign28 ht (by decide) ((regAct_strmCtl path.privileged true 1).trans (State.wrStrmCtl_busy (.inl rfl) hd))
  exact ⟨t, congrArg Host.Outcome.next hw, h⟩

theorem streamFlush_gives_busy (ht : s.takes path COL.PAGE 0x114 = true)
    (hd : s.streamDecodes (s.rd COL.STRM_SEL.STREAM 0 path.num) = true) : gives (.streamFlush path) s (fun t =>
      t.answered .ignored ∧
      s.logged t SYS.PAGE 0x28 (fun a b => a = COL.PAGE * 4096 + 0x114 + path.num * 2 ^ 24 ∧ b = 2) ∧
      s.within t [.regs, .bus, .log, .sram] (logKeys SYS.PAGE)) := by
  obtain ⟨t, hw, h⟩ := State.cmdWrite_coil_ign28 ht (by decide) ((regAct_strmCtl path.privileged true 2).trans (State.wrStrmCtl_busy (.inr rfl) hd))
  exact ⟨t, congrArg Host.Outcome.next hw, h⟩

end strmCtl

/-! ### CTX_BASE -/

section ctxBase

theorem regAct_ctxBase (priv ok hi : Bool) (v : Nat) : regAct path priv ok COL.PAGE (0x100 + 4 * b2n hi) v s =
    s.wrCtxBase path (0x100 + 4 * b2n hi) v := by cases hi <;> rfl

/-- The writable bits of CTX_BASE_LO and _HI (R132). -/
def ctxBaseMask (hi : Bool) : Nat := if hi then 0x1F else 0xFFFFF000

theorem ctxBaseMask_and (hi : Bool) (v : BitVec 32) :
    BitVec.ofNat 32 (v.toNat &&& ctxBaseMask hi) = v &&& (if hi then 0x1F else 0xFFFFF000) := by
  cases hi <;> simp [ctxBaseMask, BitVec.ofNat_and]

theorem State.plainWrite_ctxBase (hi : Bool) (v : Nat) : s.plainWrite COL.PAGE (0x100 + 4 * b2n hi) 0 v =
    s.setReg (regKey 0 COL.PAGE (0x100 + 4 * b2n hi)) (BitVec.ofNat 32 (v &&& ctxBaseMask hi)) := by
  have hr : rowOf COL.PAGE (0x100 + 4 * b2n hi) = some ⟨0x100 + 4 * b2n hi, 1, .rw, false, 0, ctxBaseMask hi⟩ := by cases hi <;> decide
  unfold State.plainWrite
  rw [hr]

theorem State.wrCtxBase_free {off v : Nat} (h : ∀ k : Fin 32, (s.decLane k).ring = none ∧ (s.decLane k).ctx = none) :
    s.wrCtxBase path off v = (.ok, s.plainWrite COL.PAGE off 0 v) := by
  unfold State.wrCtxBase
  refine if_neg ?_
  simp only [List.any_eq_true, List.mem_range, not_exists, not_and]
  intro k hk
  obtain ⟨hring, hctx⟩ := h ⟨k, hk⟩
  simp [hring, hctx]

theorem State.wrCtxBase_held {off v : Nat} (k : Fin 32) (h : (s.decLane k).ctx.isSome = true ∨ (s.decLane k).ring.isSome = true) :
    s.wrCtxBase path off v = ign28 path COL.PAGE off v s := by
  unfold State.wrCtxBase
  refine if_pos (List.any_eq_true.2 ⟨k.val, List.mem_range.2 k.isLt, ?_⟩)
  rcases h with h | h <;> simp [h]

theorem ctxBaseWrite_gives (hi : Bool) (v : BitVec 32) (ht : s.takes path COL.PAGE (0x100 + 4 * b2n hi) = true)
    (h : ∀ k : Fin 32, (s.decLane k).ring = none ∧ (s.decLane k).ctx = none) : gives (.ctxBaseWrite path hi v) s (fun t =>
      t.answered .ok ∧
      (t.reg (regKey 0 COL.PAGE (0x100 + 4 * b2n hi)) = v &&& (if hi then 0x1F else 0xFFFFF000)) ∧
      s.within t [.regs, .bus] [regKey 0 COL.PAGE (0x100 + 4 * b2n hi)]) := by
  have hact := (regAct_ctxBase (path := path) path.privileged true hi v.toNat).trans (State.wrCtxBase_free h)
  rw [State.plainWrite_ctxBase] at hact
  obtain ⟨w, hw⟩ := State.cmdWrite_coil ht v.isLt hact (State.setReg_fr.same .panel)
  have hbase : offBase (regKey 0 COL.PAGE (0x100 + 4 * b2n hi)) := by cases hi <;> (unfold offBase; decide)
  refine ⟨_, congrArg Host.Outcome.next hw, State.answer_answered _ _, ?_,
    (State.within.refl.next (State.setReg_within hbase) (by decide) (fun _ h => h)).next (State.answer_within _ _) (by decide)
      (fun _ h => absurd h List.not_mem_nil)⟩
  rw [State.answer_reg, State.setReg_reg, if_pos rfl, ctxBaseMask_and]

theorem ctxBaseWrite_gives_held (hi : Bool) (v : BitVec 32) (k : Fin 32) (ht : s.takes path COL.PAGE (0x100 + 4 * b2n hi) = true)
    (h : (s.decLane k).ctx.isSome = true ∨ (s.decLane k).ring.isSome = true) : gives (.ctxBaseWrite path hi v) s (fun t =>
      t.answered .ignored ∧
      s.logged t SYS.PAGE 0x28 (fun a b => a = COL.PAGE * 4096 + 0x100 + 4 * b2n hi + path.num * 2 ^ 24 ∧ b = v.toNat) ∧
      s.within t [.regs, .bus, .log, .sram] (logKeys SYS.PAGE)) := by
  obtain ⟨t, hw, hans, hlog, hwithin⟩ := State.cmdWrite_coil_ign28 ht v.isLt
    ((regAct_ctxBase path.privileged true hi v.toNat).trans (State.wrCtxBase_held k h))
  exact ⟨t, congrArg Host.Outcome.next hw, hans, hlog.imp (fun a b h => by rwa [← Nat.add_assoc] at h), hwithin⟩

end ctxBase

/-- Settles O11: a decode starts and ends by what its lane holds, a register write by the access it makes. -/
theorem coilLanes : Obligations.CoilLanes := by
  intro s
  exact ⟨fun _ _ _ _ => coilDecodeStart_gives_alone, fun _ _ _ _ _ => coilDecodeStart_gives_bound,
    fun _ _ _ _ _ hr hu => coilDecodeDone_gives hr hu, fun _ _ _ _ _ => coilDecodeDone_gives_error,
    fun _ _ => streamClear_gives_resident, fun _ => streamClear_gives_slot, fun _ _ _ => streamFlush_gives,
    fun _ => streamClear_gives_busy, fun _ => streamFlush_gives_busy, fun _ => ctxBaseWrite_gives, fun _ => ctxBaseWrite_gives_held⟩

end

end Sys2Proof.Machine

namespace Sys2Proof.Machine

set_option Elab.async false

/-! O16 (`WeaverArithmetic`): the ranges of the ray arithmetic (R134, R138, R143, R149, R151, R154, R155). -/

section

/-- A position of 32 bits, scaled by a number of stakes, lies below that number in 8.8 fixed point (R134). -/
theorem stakeScale_lt {p n : Nat} (hp : p < 2 ^ 32) (h1 : 1 ≤ n) (hn : n ≤ 256) : p * n / 2 ^ 24 % 2 ^ 16 / 256 < n := by
  have hmul : p * n < 2 ^ 24 * (256 * n) := calc
    p * n < 2 ^ 32 * n := Nat.mul_lt_mul_of_pos_right hp h1
    _ = 2 ^ 24 * (256 * n) := by omega
  have hdiv : p * n / 2 ^ 24 < 256 * n := Nat.div_lt_of_lt_mul hmul
  omega

theorem WeaveMap.stake_lt {m : WeaveMap} (x y c : Nat) (h1 : 1 ≤ m.nstk) (hn : m.nstk ≤ 256) : m.stake x y c / 256 < m.nstk :=
  stakeScale_lt (Nat.mod_lt _ (by decide)) h1 hn

theorem edgeWeight_le (l : Option (Nat × Louvre)) (s88 : Nat) : edgeWeight l s88 ≤ 256 := by
  unfold edgeWeight
  split
  · exact le_rfl
  · split
    · exact le_rfl
    · exact min_le_left _ _

/-- A clamped value lies in its range. -/
theorem clampI_mem {lo hi : Int} (h : lo ≤ hi) (i : Int) : lo ≤ clampI lo hi i ∧ clampI lo hi i ≤ hi :=
  ⟨le_max_left _ _, max_le h (min_le_left _ _)⟩

theorem filterTaps_range (k : Int × Int × Int × Int) (a b c d : Nat × Nat) :
    (filterTaps k a b c d).2 ≤ (filterTaps k a b c d).1 ∧ (filterTaps k a b c d).1 ≤ 65535 := by
  unfold filterTaps
  dsimp only
  obtain ⟨ha0, ha⟩ := clampI_mem (show (0 : Int) ≤ 65535 by decide)
    ((k.1 * a.1 + k.2.1 * b.1 + k.2.2.1 * c.1 + k.2.2.2 * d.1 + 512) / 1024)
  generalize clampI 0 65535 _ = fa at *
  exact ⟨Int.toNat_le_toNat (clampI_mem ha0 _).2, Int.toNat_le.2 ha⟩

/-- Four tap weights sum to 1,024, the outer two lie in -128 to 0 and the third in 0 to 1,024 (R149). -/
def weightsFit (w : Int × Int × Int × Int) : Prop :=
  w.1 + w.2.1 + w.2.2.1 + w.2.2.2 = 1024 ∧ -128 ≤ w.1 ∧ w.1 ≤ 0 ∧ -128 ≤ w.2.2.2 ∧ w.2.2.2 ≤ 0 ∧ 0 ≤ w.2.2.1 ∧ w.2.2.1 ≤ 1024

theorem filterWeights_cubic : ∀ phi : Nat, phi < 64 → weightsFit (filterWeights false phi) := by
  unfold weightsFit
  decide

theorem filterWeights_linear {phi : Nat} (h : phi < 64) : weightsFit (filterWeights true phi) := by
  simp only [weightsFit, filterWeights, if_true]
  omega

theorem filterWeights_fit (lin : Bool) (phi : Nat) (h : phi < 64) : weightsFit (filterWeights lin phi) := by
  cases lin with
  | false => exact filterWeights_cubic phi h
  | true => exact filterWeights_linear h

theorem composite_le (e : Nat) (acc : Nat × Nat) (common : Bool) (pa pc : Nat) :
    (composite e acc common pa pc).1 ≤ 65535 ∧ (composite e acc common pa pc).2 ≤ 65535 :=
  ⟨min_le_left _ _, min_le_left _ _⟩

theorem ditherCode_le (d : Nat) (on : Bool) (pi x y c ub : Nat) : ditherCode d on pi x y c ub ≤ 2 ^ d - 1 := min_le_left _ _

/-- Admitted slots keep the limits of R143: 64 slots, and 11,520 cells where the band before leaves room for them. -/
def planFits (prev adm : List Slot) : Prop :=
  adm.length ≤ 64 ∧ ((prev.map (fun u => 3 * u.w)).sum ≤ 11520 → planCells prev adm ≤ 11520)

/-- The slot plan keeps its limits as it admits slot after slot (R143). -/
theorem planBand_fits (ranked : List (Plane × Slot)) (prev : List Slot) (b : Nat) : planFits prev (planBand ranked prev b).1 := by
  unfold planBand
  refine List.foldlRecOn (motive := fun acc : List Slot × List Nat => planFits prev acc.1) ranked _ ?_ ?_
  · exact ⟨Nat.zero_le _, fun h => h⟩
  · intro acc hacc ps _
    dsimp only
    split
    · exact hacc
    · split
      · rename_i hadm
        exact ⟨hadm.1, fun _ => hadm.2⟩
      · exact hacc

/-- Settles O16: a lemma above for each range, the slot plan by recursion along the ranked slots. -/
theorem weaverArithmetic : Obligations.WeaverArithmetic :=
  ⟨fun _ => WeaveMap.stake_lt, edgeWeight_le, filterTaps_range, filterWeights_fit, composite_le,
    fun d on pi x y c ub _ => ditherCode_le d on pi x y c ub, planBand_fits⟩

end

end Sys2Proof.Machine

namespace Sys2Proof.Machine

set_option Elab.async false

/-! SUPPORT. A register of a weave die read and written by a path (R461-R468), and the registers of the WV pages. -/

section

variable {s t u : State} {path : Path} {half : Fin 2}

/-! ### Registers of the WV pages -/

/-- A register of a WV page is no base of an event ring. -/
theorem offBase_wv {f : Fld} {n : Nat} (hp : f.page = WV.PAGE := by decide) (ho : f.off < 4096 := by decide) : offBase (f.key half n) := by
  have hh := half.isLt
  unfold offBase Fld.key regKey
  rw [hp]
  simp only [EVT.BASE.OFS, WV.PAGE]
  omega

theorem State.wr_within_wv {f : Fld} {v n : Nat} (hp : f.page = WV.PAGE := by decide) (ho : f.off < 4096 := by decide) :
    s.within (s.wr f v half n) [.regs] [f.key half n] := State.wr_within (offBase_wv hp ho)

/-- Fields of one register of a page and item. -/
theorem Fld.key_congr {f g : Fld} {i x : Nat} (h : f.page = g.page ∧ f.off = g.off := by decide) : f.key i x = g.key i x := by
  unfold Fld.key
  rw [h.1, h.2]

/-- Registers of one page and item at different offsets are different registers. -/
theorem Fld.key_ne_off {f g : Fld} {i x : Nat} (hp : f.page = g.page := by decide) (ho : f.off ≠ g.off := by decide) :
    f.key i x ≠ g.key i x := by
  unfold Fld.key regKey
  omega

/-- A further field of the one register that changes. -/
theorem State.within.wr_wv {ps : List Area} {f g : Fld} {v n : Nat} (h : s.within t ps [g.key half n]) (hm : Area.regs ∈ ps := by decide)
    (hg : f.page = g.page ∧ f.off = g.off := by decide) (hp : f.page = WV.PAGE := by decide) (ho : f.off < 4096 := by decide) :
    s.within (t.wr f v half n) ps [g.key half n] :=
  h.next (State.wr_within_wv hp ho) (fun _ hq => List.mem_singleton.1 hq ▸ hm)
    (fun _ hx => List.mem_singleton.2 ((List.mem_singleton.1 hx).trans (Fld.key_congr hg)))

/-- Behind a write of other bits a field reads as before. -/
theorem State.rd_wr_other {f g : Fld} {v i x : Nat} (hd : g.hi < f.lo ∨ f.hi < g.lo := by decide)
    (hf : f.lo ≤ f.hi ∧ f.hi < 32 ∧ g.lo ≤ g.hi := by decide) : (s.wr f v i x).rd g i x = s.rd g i x :=
  State.rd_wr_apart (.inr hd) hf

/-- A register of a WV page that no record counts in (R489). -/
theorem unshared_wv {f : Fld} {n : Nat} (hp : f.page = WV.PAGE := by decide)
    (ho : f.off < 4096 ∧ f.off ≠ 0x01C ∧ f.off ≠ 0x020 := by decide) : unshared (f.key half n) := by
  have hm : f.key half n % 4096 = f.off := by unfold Fld.key regKey; omega
  have hk : f.key half n / 4096 % 4096 = WV.PAGE + half := by
    rw [Fld.key_page (by rw [hp]; exact (diePage half).2) ho.1, hp]
  exact ⟨hm ▸ ho.2.1, hm ▸ ho.2.2, by rw [hk]; clear * -; revert half; decide⟩

/-- A log record leaves a register of a WV page alone. -/
theorem State.logc_rd_wv {f : Fld} {n p c a b : Nat} (hp : f.page = WV.PAGE := by decide)
    (ho : f.off < 4096 ∧ f.off ≠ 0x01C ∧ f.off ≠ 0x020 := by decide) : (s.logc p c a b).rd f half n = s.rd f half n :=
  State.logc_within.rd (fun h => logKeys_shared h (unshared_wv hp ho))

/-- The record that ends a change of unshared registers stands where the log had its head. -/
theorem State.within.logged_logc {ks : List Nat} (h : s.within u [.regs, .wv] ks) (hk : ∀ k ∈ ks, unshared k) (p c a b : Nat) :
    s.logged (u.logc p c a b) p c (fun x y => x = a ∧ y = b) := by
  have hhead : NVS.LOG_STS.HEAD.key 0 0 ∉ ks := fun hm => logKeys_shared (p := 0) (List.mem_cons_self ..) (hk _ hm)
  exact State.logged_of (h.sameLog hhead) (State.logged_logc u p c a b)

/-! ### LUT_DATA and INDEX (R159) -/

theorem State.lutStep_within : s.within (s.lutStep half path) [.regs] [WV.LUT_SEL.AUTO.key half path.num] := by
  unfold State.lutStep
  split
  · exact State.within.refl.wr_wv
  · exact .refl

theorem curveLast_le (n : Nat) : curveLast n ≤ 1024 := by
  unfold curveLast
  split <;> decide

/-- INDEX behind an access of LUT_DATA: AUTO moves it to the next entry, and from the last one to the first. -/
def State.lutIndex (s : State) (half : Fin 2) (path : Path) : Nat :=
  if s.rdB WV.LUT_SEL.AUTO half path.num then lutNext (s.rd WV.LUT_SEL.TABLE half path.num) (s.rd WV.LUT_SEL.INDEX half path.num)
  else s.rd WV.LUT_SEL.INDEX half path.num

theorem State.lutStep_index : (s.lutStep half path).rd WV.LUT_SEL.INDEX half path.num = s.lutIndex half path := by
  have hlast := curveLast_le (s.rd WV.LUT_SEL.TABLE half path.num)
  unfold State.lutStep State.lutIndex lutNext
  split
  · rw [State.rd_wr (by decide) (by decide)]
    refine Nat.mod_eq_of_lt (show _ < 2048 from ?_)
    split <;> omega
  · rfl

theorem State.lutStep_table : (s.lutStep half path).rd WV.LUT_SEL.TABLE half path.num = s.rd WV.LUT_SEL.TABLE half path.num := by
  unfold State.lutStep
  split
  · exact State.rd_wr_other
  · rfl

/-! ### An access that passes -/

theorem State.computed_wv (path : Path) (off : Nat) : s.computed path (WV.PAGE + half.val) off =
    if off = HDR.PG_STS.off then some (s.pgSts (WV.PAGE + half.val), s)
    else if off = WV.SLOT_INFO.off then some (s.slotInfo half path, s)
    else if off = WV.LUT_DATA.VALUE.off then some (s.rdLutData half path) else none := by
  unfold State.computed
  match half with
  | 0 => rfl
  | 1 => rfl

/-- What a read of a register of a WV page computes takes no free value. -/
theorem State.computed_wv_freeCtr {off : Nat} {v : Nat × State} (h : s.computed path (WV.PAGE + half.val) off = some v) :
    v.2.freeCtr = s.freeCtr := by
  rw [State.computed_wv] at h
  split_ifs at h
  · exact (Option.some.inj h) ▸ rfl
  · exact (Option.some.inj h) ▸ rfl
  · exact (Option.some.inj h) ▸ State.rdLutData_fr.same .freeCtr

/-- The value shown after a write of a register of a WV page changes nothing. -/
theorem State.valueAfter_wv (path : Path) (off : Nat) : (s.valueAfter path (WV.PAGE + half.val) off).2 = s := by
  have hwin : ¬ (isWin (WV.PAGE + half.val) = true ∧ 0x800 ≤ off) := fun h => by
    obtain ⟨hw, -⟩ := h
    revert half
    decide
  have hfree (r : RegRow) : (s.readVal path (WV.PAGE + half.val) off r).2.freeCtr = s.freeCtr := by
    unfold State.readVal
    split
    · rfl
    · split
      · exact State.computed_wv_freeCtr ‹_›
      · rfl
  unfold State.valueAfter
  rw [if_neg hwin]
  split
  · rfl
  · rename_i r _
    dsimp only
    rw [hfree r]
    rfl

/-- A write that passes and whose shown value changes nothing: the register's own act, then the answer. -/
theorem State.cmdWrite_passes {page off v : Nat} {st : Status} (h : s.takes path page off = true) (hrows : pageRows page ≠ none)
    (hv : v < 2 ^ 32) (ha : regAct path path.privileged true page off v s = (st, t)) (hshown : (t.valueAfter path page off).2 = t)
    (hp : t.panel = s.panel) : ∃ w, s.cmdWrite path page off v = State.answer (st, w, t) := by
  obtain ⟨-, -, hpends, -, -⟩ := State.takes_access h
  refine ⟨(t.valueAfter path page off).1, ?_⟩
  have hvalue : t.valueAfter path page off = ((t.valueAfter path page off).1, t) := Prod.ext rfl hshown
  rw [State.cmdWrite_takes h hrows, Nat.mod_eq_of_lt hv, ha]
  dsimp only
  rw [hvalue]
  refine State.finishReset_of_none ?_
  unfold State.modulePends at hpends ⊢
  rw [show (State.answer (st, (t.valueAfter path page off).1, t)).panel = s.panel from hp]
  exact hpends

theorem pageRows_wv : pageRows (WV.PAGE + half.val) ≠ none := by
  revert half
  decide

theorem State.cmdWrite_wv {off v : Nat} {st : Status} (h : s.takes path (WV.PAGE + half.val) off = true) (hv : v < 2 ^ 32)
    (ha : regAct path path.privileged true (WV.PAGE + half.val) off v s = (st, t)) (hp : t.panel = s.panel) :
    ∃ w, s.cmdWrite path (WV.PAGE + half.val) off v = State.answer (st, w, t) :=
  State.cmdWrite_passes h pageRows_wv hv ha (State.valueAfter_wv path off) hp

theorem State.answer_rdB (st : Status) (w : Nat) (f : Fld) (i x : Nat) : (State.answer (st, w, t)).rdB f i x = t.rdB f i x := rfl

theorem State.answer_wv (st : Status) (w : Nat) : (State.answer (st, w, t)).wv = t.wv := rfl

/-- A write of a register of a WV page that is ignored with a record, behind a change of unshared registers (R465, R484). -/
theorem State.cmdWrite_wv_ign {off v p c a b : Nat} {ks : List Nat} (h : s.takes path (WV.PAGE + half.val) off = true) (hv : v < 2 ^ 32)
    (ha : regAct path path.privileged true (WV.PAGE + half.val) off v s = ignCode p c a b u)
    (hu : s.within u [.regs] ks) (hk : ∀ k ∈ ks, unshared k) :
    ∃ w, s.cmdWrite path (WV.PAGE + half.val) off v = State.answer (.ignored, w, u.logc p c a b) ∧
      s.logged (State.answer (.ignored, w, u.logc p c a b)) p c (fun x y => x = a ∧ y = b) ∧
      s.within (State.answer (.ignored, w, u.logc p c a b)) [.regs, .bus, .log, .sram] (ks ++ logKeys p) := by
  have hpanel : (u.logc p c a b).panel = s.panel :=
    (State.logc_fr.same .panel : _ = u.panel).trans (hu.same .panel)
  obtain ⟨w, hw⟩ := State.cmdWrite_wv h hv ha hpanel
  have hlog := (State.within.refl.next hu (by decide) (fun _ h => h)).logged_logc hk p c a b
  exact ⟨w, hw, State.answer_logged hlog,
    ((State.within.refl.next hu (by decide) (fun _ h => List.mem_append_left _ h)).next State.logc_within (by decide)
      (fun _ h => List.mem_append_right _ h)).next (State.answer_within _ _) (by decide) (fun _ h => absurd h List.not_mem_nil)⟩

/-- A read of a register that passes and waits for no reset. -/
theorem State.cmdRead_shows {page off v : Nat} {r : RegRow} (h : s.shows path = true) (hr : rowOf page off = some r)
    (ho : off % 4 = 0 ∧ off < 0x800) (hc : r.acc ≠ .rc ∧ r.acc ≠ .wo) (hpair : ∀ p ∈ roPairs, p.1 ≠ page)
    (hv : s.computed path page off = some (v, t)) (hp : t.panel = s.panel) :
    s.cmdRead path page off = State.answer (.ok, v % 2 ^ 32, t) := by
  obtain ⟨⟨hopen, hserved⟩, hpends⟩ : (s.pathOpen path = true ∧ s.pathServed path false = true) ∧ s.modulePends = false := by
    simpa [State.shows] using h
  have hrows : pageRows page ≠ none := fun e => by
    unfold rowOf at hr
    rw [e] at hr
    cases hr
  have hlatch : t.readLatch path page off (v % 2 ^ 32) = (v % 2 ^ 32, t) := by
    have hfind : roPairs.find? (fun p => p.1 == page && p.2.1 == off) = none :=
      List.find?_eq_none.2 (fun p hm => by simp [hpair p hm])
    have hany : roPairs.any (fun p => p.1 == page && p.2.2 == off) = false :=
      List.any_eq_false.2 (fun p hm => by simp [hpair p hm])
    unfold State.readLatch
    rw [hfind, hany]
    rfl
  have hread : s.readReg path page off 0 = (v % 2 ^ 32, t) := by
    unfold State.readReg State.readVal State.readClear rcValue
    simp only [hr, hv, if_neg hc.1, if_neg hc.2, hlatch]
  have haccess : s.readAccess path (page * 4096 + off) 0 = (.ok, v % 2 ^ 32, t) := by
    have hpage : (page * 4096 + off) / 4096 = page := by omega
    have hmod : (page * 4096 + off) % 4096 = off := by omega
    unfold State.readAccess
    dsimp only
    rw [if_neg (by omega), hpage, hmod, if_neg hrows, if_neg (by simp [hserved]), if_neg (by omega), hread]
  unfold State.cmdRead
  rw [if_pos hopen, haccess]
  refine State.finishReset_of_none ?_
  unfold State.modulePends at hpends ⊢
  rw [show (State.answer (.ok, v % 2 ^ 32, t)).panel = s.panel from hp]
  exact hpends

end

end Sys2Proof.Machine

namespace Sys2Proof.Machine

set_option Elab.async false

/-! O14 (`WeaverSettings`), the register accesses: MAP_CTL, LUT_DATA, LUT_CTL, OUT_CTL and PROBE_SEL (R136, R159, R160). -/

section

variable {s t : State} {path : Path} {half : Fin 2}

theorem wrDataPages_wv (off v : Nat) : wrDataPages path (WV.PAGE + half.val) off v s = none := by
  unfold wrDataPages
  match half with
  | 0 => rfl
  | 1 => rfl

theorem wrPanelPages_wv (off v : Nat) : wrPanelPages path (WV.PAGE + half.val) off v s = wrWvPage half path off v s := by
  unfold wrPanelPages
  match half with
  | 0 => rfl
  | 1 => rfl

theorem regAct_wv {off v : Nat} {r : WrRes} (h : wrWvPage half path off v s = some r) (ho : 0x100 ≤ off) :
    regAct path path.privileged true (WV.PAGE + half.val) off v s = r := by
  have hwin : isWin (WV.PAGE + half.val) = false := by clear * -; revert half; decide
  unfold regAct
  rw [hwin, if_neg (by simp), if_neg (by omega), wrDataPages_wv, wrPanelPages_wv, h]

/-! ### MAP_CTL: SWAP (R136) -/

/-- SWAP stands and ERR is clear. -/
def State.mapShown (s : State) (half : Fin 2) : State := (s.wrB WV.MAP_CTL.SWAP true half).wrB WV.MAP_CTL.ERR false half

/-- The image at MAP_ADDR waits for its check. -/
def State.mapAsked (s : State) (half : Fin 2) : State :=
  (s.mapShown half).modWv (fun w => { w with
    mapBusy := w.mapBusy.set half true
    mapAddr := w.mapAddr.set half (s.addr37 WV.MAP_ADDR_LO WV.MAP_ADDR_HI half) })

theorem State.mapAsked_rdB (f : Fld) (i x : Nat) : (s.mapAsked half).rdB f i x = (s.mapShown half).rdB f i x := by
  rw [State.rdB, State.mapAsked, State.modWv_rd, State.rdB]

theorem State.mapShown_within : s.within (s.mapShown half) [.regs] [WV.MAP_CTL.key half 0] := by
  unfold State.mapShown State.wrB
  exact State.within.refl.wr_wv.wr_wv

theorem State.mapShown_rd : (s.mapShown half).rdB WV.MAP_CTL.SWAP half = true ∧ (s.mapShown half).rdB WV.MAP_CTL.ERR half = false ∧
    (s.mapShown half).rd WV.MAP_CTL.NSTK half = s.rd WV.MAP_CTL.NSTK half := by
  unfold State.mapShown
  refine ⟨?_, State.rdB_wrB (by decide), (State.rd_wr_other).trans State.rd_wr_other⟩
  rw [State.rdB_wrB_apart (.inr (by decide)) (by decide), State.rdB_wrB (by decide)]

theorem State.mapShown_addr : (s.mapShown half).addr37 WV.MAP_ADDR_LO WV.MAP_ADDR_HI half = s.addr37 WV.MAP_ADDR_LO WV.MAP_ADDR_HI half := by
  have hreg (f : Fld) (hp : f.page = WV.MAP_CTL.page) (ho : f.off ≠ WV.MAP_CTL.off) :
      (s.mapShown half).reg (f.key half 0) = s.reg (f.key half 0) :=
    State.mapShown_within.2.1 _ (fun h => Fld.key_ne_off hp ho (List.mem_singleton.1 h))
  unfold State.addr37
  rw [hreg WV.MAP_ADDR_LO rfl (by decide), hreg WV.MAP_ADDR_HI rfl (by decide)]

theorem State.wrMapCtl_swap (h : s.rdB WV.MAP_CTL.SWAP half = false) : s.wrMapCtl half 1 = (.ok, s.mapAsked half) := by
  unfold State.wrMapCtl
  rw [if_neg (by decide), h, if_neg Bool.false_ne_true, State.mapAsked, ← State.mapShown_addr]
  rfl

theorem State.wrMapCtl_pending (h : s.rdB WV.MAP_CTL.SWAP half = true) :
    s.wrMapCtl half 1 = ignCode (WV.PAGE + half.val) 0x25 (s.rd WV.MAP_CTL half) 0 s := by
  unfold State.wrMapCtl
  rw [if_neg (by decide), if_pos h]

theorem mapSwap_gives (ht : s.takes path (WV.PAGE + half.val) 0x104 = true) (h : s.rdB WV.MAP_CTL.SWAP half = false) :
    gives (.mapSwap path half) s (fun t =>
      t.answered .ok ∧
      t.rdB WV.MAP_CTL.SWAP half = true ∧
      t.rdB WV.MAP_CTL.ERR half = false ∧
      t.rd WV.MAP_CTL.NSTK half = s.rd WV.MAP_CTL.NSTK half ∧
      t.wv = { s.wv with mapBusy := s.wv.mapBusy.set half true, mapAddr := s.wv.mapAddr.set half (s.addr37 WV.MAP_ADDR_LO WV.MAP_ADDR_HI half) } ∧
      s.within t [.regs, .bus, .wv] [WV.MAP_CTL.key half 0]) := by
  have hask : s.within (s.mapAsked half) [.regs, .bus, .wv] [WV.MAP_CTL.key half 0] :=
    (State.within.refl.next State.mapShown_within (by decide) (fun _ h => h)).frame State.modWv_fr
  obtain ⟨w, hw⟩ := State.cmdWrite_wv ht (by decide) ((regAct_wv rfl (by decide)).trans (State.wrMapCtl_swap h)) (hask.same .panel)
  obtain ⟨hswap, herr, hnstk⟩ := s.mapShown_rd (half := half)
  refine ⟨_, congrArg Host.Outcome.next hw, State.answer_answered _ _, ?_, ?_, ?_, rfl,
    hask.next (State.answer_within _ _) (by decide) (fun _ h => absurd h List.not_mem_nil)⟩
  · rw [State.answer_rdB, State.mapAsked_rdB, hswap]
  · rw [State.answer_rdB, State.mapAsked_rdB, herr]
  · rw [State.answer_rd, State.mapAsked, State.modWv_rd, hnstk]

theorem mapSwap_gives_pending (ht : s.takes path (WV.PAGE + half.val) 0x104 = true) (h : s.rdB WV.MAP_CTL.SWAP half = true) :
    gives (.mapSwap path half) s (fun t =>
      t.answered .ignored ∧
      s.logged t (WV.PAGE + half.val) 0x25 (fun a b => a = s.rd WV.MAP_CTL half ∧ b = 0) ∧
      s.within t [.regs, .bus, .log, .sram] (logKeys (WV.PAGE + half.val))) := by
  obtain ⟨w, hw, hlog, hwithin⟩ := State.cmdWrite_wv_ign ht (by decide) ((regAct_wv rfl (by decide)).trans (State.wrMapCtl_pending h))
    (State.within.refl (ks := [])) (fun _ h => absurd h List.not_mem_nil)
  exact ⟨_, congrArg Host.Outcome.next hw, State.answer_answered _ _, hlog, hwithin⟩

/-! ### LUT_DATA (R159) -/

/-- The selected entry of the shadow table takes a value. -/
def State.lutPut (s : State) (half : Fin 2) (path : Path) (v : Nat) : State :=
  s.modWv (fun w => { w with shadow := w.shadow.set half (tset curveDefault w.shadow[half]
    (2048 * s.rd WV.LUT_SEL.TABLE half path.num + s.rd WV.LUT_SEL.INDEX half path.num) (BitVec.ofNat 16 v)) })

theorem State.wrLutData_entry {v : Nat}
    (h : s.rd WV.LUT_SEL.INDEX half path.num ≤ curveLast (s.rd WV.LUT_SEL.TABLE half path.num)) :
    s.wrLutData half path v = (.ok, (s.lutPut half path v).lutStep half path) := if_neg (Nat.not_lt.2 h)

theorem State.wrLutData_beyond {v : Nat}
    (h : curveLast (s.rd WV.LUT_SEL.TABLE half path.num) < s.rd WV.LUT_SEL.INDEX half path.num) :
    s.wrLutData half path v = ignCode SYS.PAGE 0x28 (wrArg0 path (WV.PAGE + half.val) 0x138) v (s.lutStep half path) := if_pos h

theorem State.lutStep_wv : (s.lutStep half path).wv = s.wv := State.lutStep_within.same .wv

theorem lutDataWrite_gives (v : BitVec 32) (ht : s.takes path (WV.PAGE + half.val) 0x138 = true)
    (h : s.rd WV.LUT_SEL.INDEX half path.num ≤ curveLast (s.rd WV.LUT_SEL.TABLE half path.num)) :
    gives (.lutDataWrite path half v) s (fun t =>
      t.answered .ok ∧
      t.wv = (s.lutPut half path v.toNat).wv ∧
      t.rd WV.LUT_SEL.INDEX half path.num = s.lutIndex half path ∧
      t.rd WV.LUT_SEL.TABLE half path.num = s.rd WV.LUT_SEL.TABLE half path.num ∧
      s.within t [.regs, .bus, .wv] [WV.LUT_SEL.AUTO.key half (path.num)]) := by
  have hput : s.within ((s.lutPut half path v.toNat).lutStep half path) [.regs, .bus, .wv] [WV.LUT_SEL.AUTO.key half path.num] :=
    (State.within.refl.frame State.modWv_fr).next State.lutStep_within (by decide) (fun _ h => h)
  obtain ⟨w, hw⟩ := State.cmdWrite_wv ht v.isLt ((regAct_wv rfl (by decide)).trans (State.wrLutData_entry h)) (hput.same .panel)
  refine ⟨_, congrArg Host.Outcome.next hw, State.answer_answered _ _, ?_, ?_, ?_,
    hput.next (State.answer_within _ _) (by decide) (fun _ h => absurd h List.not_mem_nil)⟩
  · rw [State.answer_wv, State.lutStep_wv]
  · rw [State.answer_rd, State.lutStep_index]
    rfl
  · rw [State.answer_rd, State.lutStep_table]
    rfl

theorem lutDataWrite_gives_beyond (v : BitVec 32) (ht : s.takes path (WV.PAGE + half.val) 0x138 = true)
    (h : curveLast (s.rd WV.LUT_SEL.TABLE half path.num) < s.rd WV.LUT_SEL.INDEX half path.num) :
    gives (.lutDataWrite path half v) s (fun t =>
      t.answered .ignored ∧
      t.wv = s.wv ∧
      s.logged t SYS.PAGE 0x28 (fun a b => a = (WV.PAGE + half.val) * 4096 + 0x138 + path.num * 2 ^ 24 ∧ b = v.toNat) ∧
      s.within t [.regs, .bus, .log, .sram] ([WV.LUT_SEL.AUTO.key half (path.num)] ++ logKeys SYS.PAGE)) := by
  obtain ⟨w, hw, hlog, hwithin⟩ := State.cmdWrite_wv_ign ht v.isLt ((regAct_wv rfl (by decide)).trans (State.wrLutData_beyond h))
    State.lutStep_within (fun k hk => List.mem_singleton.1 hk ▸ unshared_wv)
  exact ⟨_, congrArg Host.Outcome.next hw, State.answer_answered _ _, hwithin.same .wv, hlog, hwithin⟩

/-- What a read of LUT_DATA returns: the selected entry, 0 beyond the table. -/
def State.lutShown (s : State) (half : Fin 2) (path : Path) : Nat :=
  if curveLast (s.rd WV.LUT_SEL.TABLE half path.num) < s.rd WV.LUT_SEL.INDEX half path.num then 0
  else (tget curveDefault (if s.rdB WV.LUT_SEL.SHADOW half path.num then s.wv.shadow[half] else s.wv.curves[half])
    (2048 * (s.rd WV.LUT_SEL.TABLE half path.num) + s.rd WV.LUT_SEL.INDEX half path.num)).toNat

theorem State.lutShown_lt : s.lutShown half path < 2 ^ 32 := by
  unfold State.lutShown
  split
  · decide
  · exact Nat.lt_trans (BitVec.isLt _) (by decide)

theorem lutDataRead_gives (h : s.shows path = true) : gives (.lutDataRead path half) s (fun t =>
      t.answered .ok ∧
      t.bus.last.data.toNat = s.lutShown half path ∧
      t.rd WV.LUT_SEL.INDEX half path.num = s.lutIndex half path ∧
      s.within t [.regs, .bus] [WV.LUT_SEL.AUTO.key half (path.num)]) := by
  have hrow : rowOf (WV.PAGE + half.val) 0x138 = some ⟨0x138, 1, .rw, false, 0, 0xFFFF⟩ := by clear * -; revert half; decide
  have hpair : ∀ p ∈ roPairs, p.1 ≠ WV.PAGE + half.val := by clear * -; revert half; decide
  have hread : s.computed path (WV.PAGE + half.val) 0x138 = some (s.lutShown half path, s.lutStep half path) :=
    (State.computed_wv path 0x138).trans rfl
  have hcmd := State.cmdRead_shows h hrow (by decide) (by decide) hpair hread (State.lutStep_within.same .panel)
  refine ⟨_, congrArg Host.Outcome.next hcmd, State.answer_answered _ _, ?_, ?_,
    (State.within.refl.next State.lutStep_within (by decide) (fun _ h => h)).next (State.answer_within _ _) (by decide)
      (fun _ h => absurd h List.not_mem_nil)⟩
  · calc (BitVec.ofNat 32 (s.lutShown half path % 2 ^ 32)).toNat
      _ = s.lutShown half path := by rw [BitVec.toNat_ofNat, Nat.mod_mod, Nat.mod_eq_of_lt State.lutShown_lt]
  · rw [State.answer_rd, State.lutStep_index]

/-! ### LUT_CTL: SWAP (R159) -/

theorem State.wrLutCtl_swap (h : s.rdB WV.LUT_CTL.PENDING half = false) :
    s.wrLutCtl half 1 = (.ok, s.wrB WV.LUT_CTL.PENDING true half) := by
  unfold State.wrLutCtl
  rw [if_neg (by decide), h]
  rfl

theorem State.wrLutCtl_pending (h : s.rdB WV.LUT_CTL.PENDING half = true) :
    s.wrLutCtl half 1 = ignCode (WV.PAGE + half.val) 0x25 (s.rd WV.LUT_CTL half) 0 s := by
  unfold State.wrLutCtl
  rw [if_neg (by decide), if_pos h]

theorem lutSwap_gives (ht : s.takes path (WV.PAGE + half.val) 0x13C = true) (h : s.rdB WV.LUT_CTL.PENDING half = false) :
    gives (.lutSwap path half) s (fun t =>
      t.answered .ok ∧
      t.rdB WV.LUT_CTL.PENDING half = true ∧
      s.within t [.regs, .bus] [WV.LUT_CTL.key half 0]) := by
  obtain ⟨w, hw⟩ := State.cmdWrite_wv ht (by decide) ((regAct_wv rfl (by decide)).trans (State.wrLutCtl_swap h)) (State.wrB_fr.same .panel)
  have hset : s.within (s.wrB WV.LUT_CTL.PENDING true half) [.regs, .bus] [WV.LUT_CTL.key half 0] := State.within.refl.wr_wv
  refine ⟨_, congrArg Host.Outcome.next hw, State.answer_answered _ _, ?_,
    hset.next (State.answer_within _ _) (by decide) (fun _ h => absurd h List.not_mem_nil)⟩
  rw [State.answer_rdB, State.rdB_wrB (by decide)]

theorem lutSwap_gives_pending (ht : s.takes path (WV.PAGE + half.val) 0x13C = true) (h : s.rdB WV.LUT_CTL.PENDING half = true) :
    gives (.lutSwap path half) s (fun t =>
      t.answered .ignored ∧
      s.logged t (WV.PAGE + half.val) 0x25 (fun a b => a = s.rd WV.LUT_CTL half ∧ b = 0) ∧
      s.within t [.regs, .bus, .log, .sram] (logKeys (WV.PAGE + half.val))) := by
  obtain ⟨w, hw, hlog, hwithin⟩ := State.cmdWrite_wv_ign ht (by decide) ((regAct_wv rfl (by decide)).trans (State.wrLutCtl_pending h))
    (State.within.refl (ks := [])) (fun _ h => absurd h List.not_mem_nil)
  exact ⟨_, congrArg Host.Outcome.next hw, State.answer_answered _ _, hlog, hwithin⟩

/-! ### OUT_CTL (R160) -/

/-- DITHER and UNI of OUT_CTL as written. -/
def State.outSet (s : State) (half : Fin 2) (v : Nat) : State :=
  (s.wr WV.OUT_CTL.DITHER (bits v 1 1) half).wr WV.OUT_CTL.UNI (bits v 2 2) half

theorem State.outSet_within {v : Nat} : s.within (s.outSet half v) [.regs] [WV.OUT_CTL.key half 0] :=
  State.within.refl.wr_wv.wr_wv

theorem State.outSet_rd {v : Nat} : (s.outSet half v).rd WV.OUT_CTL.DEPTH half = s.rd WV.OUT_CTL.DEPTH half ∧
    (s.outSet half v).rd WV.OUT_CTL.DITHER half = bits v 1 1 ∧ (s.outSet half v).rd WV.OUT_CTL.UNI half = bits v 2 2 := by
  unfold State.outSet
  refine ⟨(State.rd_wr_other).trans State.rd_wr_other, ?_, ?_⟩
  · rw [State.rd_wr_other, State.rd_wr (by decide) (by decide)]
    exact Nat.mod_mod _ _
  · rw [State.rd_wr (by decide) (by decide)]
    exact Nat.mod_mod _ _

/-- Three bits written one by one make their number. -/
theorem setBits_low3 {n : Nat} (hn : n < 8) (v : Nat) :
    setBits (setBits (setBits n 1 1 (bits v 1 1)) 2 2 (bits v 2 2)) 0 0 v = v % 8 := by
  generalize hx : setBits (setBits (setBits n 1 1 (bits v 1 1)) 2 2 (bits v 2 2)) 0 0 v = x
  have hlt : x < 2 ^ 3 := hx ▸ setBits_lt (setBits_lt (setBits_lt hn (by decide) (by decide)) (by decide) (by decide)) (by decide) (by decide)
  have h0 : bits x 0 0 = v % 2 := hx ▸ bits_setBits _ _ _ _
  have h1 : bits x 1 1 = bits v 1 1 := by
    rw [← hx, bits_setBits_ne (by decide) (by decide) (by decide), bits_setBits_ne (by decide) (by decide) (by decide), bits_setBits]
    exact Nat.mod_mod _ _
  have h2 : bits x 2 2 = bits v 2 2 := by
    rw [← hx, bits_setBits_ne (by decide) (by decide) (by decide), bits_setBits]
    exact Nat.mod_mod _ _
  simp only [bits] at h0 h1 h2
  omega

/-- With its three fields written, OUT_CTL holds the low bits of the value. -/
theorem State.outSet_depth {v : Nat} (h : s.rd WV.OUT_CTL half < 8) :
    ((s.outSet half v).wr WV.OUT_CTL.DEPTH v half).rd WV.OUT_CTL half = v % 8 := by
  have hword (t : State) : t.rd WV.OUT_CTL half = (t.reg (WV.OUT_CTL.key half 0)).toNat := by
    simp [State.rd, bits, WV.OUT_CTL, Nat.mod_eq_of_lt (BitVec.isLt _)]
  have hset : s.fieldsTo ((s.outSet half v).wr WV.OUT_CTL.DEPTH v half) (WV.OUT_CTL.key half 0)
      [(WV.OUT_CTL.DITHER, bits v 1 1), (WV.OUT_CTL.UNI, bits v 2 2), (WV.OUT_CTL.DEPTH, v)] :=
    ((State.wr_fieldsTo Fld.key_congr).wr Fld.key_congr (by simp [WV.OUT_CTL.DITHER])).wr Fld.key_congr
      (by simp [WV.OUT_CTL.DITHER, WV.OUT_CTL.UNI])
  rw [hword] at h
  rw [hword, hset]
  exact (congrArg (fun n => (BitVec.ofNat 32 n).toNat) (setBits_low3 h v)).trans
    ((BitVec.toNat_ofNat _ _).trans (Nat.mod_eq_of_lt (Nat.lt_of_lt_of_le (Nat.mod_lt v (by decide)) (by decide))))

theorem State.wrOutCtl_sill {v : Nat} (h : s.mode.power = .sill) :
    s.wrOutCtl half v = (.ok, (s.outSet half v).wr WV.OUT_CTL.DEPTH v half) := if_pos h

theorem State.wrOutCtl_refused {v : Nat} (hp : s.mode.power ≠ .sill) (h : bits v 0 0 ≠ s.rd WV.OUT_CTL.DEPTH half) :
    s.wrOutCtl half v = ignCode (WV.PAGE + half.val) 0x27 ((s.outSet half v).rd WV.OUT_CTL half) v (s.outSet half v) :=
  (if_neg hp).trans (if_pos (by simpa [bits] using h))

theorem outCtlWrite_gives (v : BitVec 32) (ht : s.takes path (WV.PAGE + half.val) 0x120 = true) (hp : s.mode.power = .sill)
    (h : s.rd WV.OUT_CTL half < 8) : gives (.outCtlWrite path half v) s (fun t =>
      t.answered .ok ∧
      t.rd WV.OUT_CTL half = v.toNat % 8 ∧
      s.within t [.regs, .bus] [WV.OUT_CTL.key half 0]) := by
  have hset : s.within ((s.outSet half v.toNat).wr WV.OUT_CTL.DEPTH v.toNat half) [.regs, .bus] [WV.OUT_CTL.key half 0] :=
    (State.within.refl.next State.outSet_within (by decide) (fun _ h => h)).wr_wv
  obtain ⟨w, hw⟩ := State.cmdWrite_wv ht v.isLt ((regAct_wv rfl (by decide)).trans (State.wrOutCtl_sill hp)) (hset.same .panel)
  exact ⟨_, congrArg Host.Outcome.next hw, State.answer_answered _ _, (State.answer_rd _ _ _ _ _).trans (State.outSet_depth h),
    hset.next (State.answer_within _ _) (by decide) (fun _ h => absurd h List.not_mem_nil)⟩

theorem outCtlWrite_gives_refused (v : BitVec 32) (ht : s.takes path (WV.PAGE + half.val) 0x120 = true) (hp : s.mode.power ≠ .sill)
    (h : bits v.toNat 0 0 ≠ s.rd WV.OUT_CTL.DEPTH half) : gives (.outCtlWrite path half v) s (fun t =>
      t.answered .ignored ∧
      t.rd WV.OUT_CTL.DEPTH half = s.rd WV.OUT_CTL.DEPTH half ∧
      t.rd WV.OUT_CTL.DITHER half = bits v.toNat 1 1 ∧
      t.rd WV.OUT_CTL.UNI half = bits v.toNat 2 2 ∧
      s.logged t (WV.PAGE + half.val) 0x27 (fun a b => a = t.rd WV.OUT_CTL half ∧ b = v.toNat) ∧
      s.within t [.regs, .bus, .log, .sram] ([WV.OUT_CTL.key half 0] ++ logKeys (WV.PAGE + half.val))) := by
  obtain ⟨w, hw, hlog, hwithin⟩ := State.cmdWrite_wv_ign ht v.isLt ((regAct_wv rfl (by decide)).trans (State.wrOutCtl_refused hp h))
    State.outSet_within (fun k hk => List.mem_singleton.1 hk ▸ unshared_wv)
  obtain ⟨hdepth, hdither, huni⟩ := s.outSet_rd (half := half) (v := v.toNat)
  refine ⟨_, congrArg Host.Outcome.next hw, State.answer_answered _ _, (State.logc_rd_wv).trans hdepth, (State.logc_rd_wv).trans hdither,
    (State.logc_rd_wv).trans huni, hlog.imp (fun a b hab => ⟨hab.1.trans ?_, hab.2⟩), hwithin⟩
  rw [State.answer_rd, State.logc_rd_wv]

/-! ### PROBE_SEL (R160) -/

/-- PROBE_SEL takes the whole value (R10). -/
theorem State.plainWrite_probe {v : Nat} (hv : v < 2 ^ 32) : s.plainWrite (WV.PAGE + half.val) 0x160 0 v =
    s.setReg (WV.PROBE_SEL.key half 0) (BitVec.ofNat 32 v) := by
  have hrow : rowOf (WV.PAGE + half.val) 0x160 = some ⟨0x160, 1, .rw, false, 0, 0xFFFFFFFF⟩ := by clear * -; revert half; decide
  have hmask : v &&& 0xFFFFFFFF = v := (Nat.and_two_pow_sub_one_eq_mod v 32).trans (Nat.mod_eq_of_lt hv)
  unfold State.plainWrite
  rw [hrow]
  dsimp only
  rw [hmask]
  rfl

/-- PROBE_SEL holds the value, and the probe is armed for the next frame. -/
def State.probeSet (s : State) (half : Fin 2) (v : Nat) : State :=
  (s.setReg (WV.PROBE_SEL.key half 0) (BitVec.ofNat 32 v)).modWv (fun w => { w with probeArm := w.probeArm.set half s.clk.frame })

theorem wrProbeSel_arm {v : Nat} (hv : v < 2 ^ 32) (h : bit v 31 = true) : wrProbeSel half v s = (.ok, s.probeSet half v) := by
  unfold wrProbeSel
  dsimp only
  rw [if_pos h, State.plainWrite_probe hv]
  rfl

theorem State.probeSet_rd {f : Fld} {v : Nat} (hv : v < 2 ^ 32) (hf : f.page = WV.PROBE_SEL.page ∧ f.off = WV.PROBE_SEL.off := by decide) :
    (s.probeSet half v).rd f half = bits v f.hi f.lo := by
  rw [State.rd, State.probeSet, State.modWv_reg, State.setReg_reg, if_pos (Fld.key_congr hf), BitVec.toNat_ofNat, Nat.mod_eq_of_lt hv]

theorem probeArm_gives (v : BitVec 32) (ht : s.takes path (WV.PAGE + half.val) 0x160 = true) :
    gives (.probeArm path half v) s (fun t =>
      t.answered .ok ∧
      t.rdB WV.PROBE_SEL.ARM half = true ∧
      t.rd WV.PROBE_SEL.X half = bits v.toNat 14 0 ∧
      t.rd WV.PROBE_SEL.Y half = bits v.toNat 28 15 ∧
      t.rd WV.PROBE_SEL.C half = bits v.toNat 30 29 ∧
      s.within t [.regs, .bus, .wv] [WV.PROBE_SEL.key half 0]) := by
  obtain ⟨hlt, harm, -⟩ := goBit v
  have hset : s.within (s.probeSet half (setBits v.toNat 31 31 1)) [.regs, .bus, .wv] [WV.PROBE_SEL.key half 0] :=
    (State.within.refl.next (State.setReg_within offBase_wv) (by decide) (fun _ h => h)).frame State.modWv_fr
  obtain ⟨w, hw⟩ := State.cmdWrite_wv ht hlt ((regAct_wv rfl (by decide)).trans (wrProbeSel_arm hlt harm)) (hset.same .panel)
  have hbits (a b : Nat) (h : b ≤ a ∧ a < 31) : bits (setBits v.toNat 31 31 1) a b = bits v.toNat a b :=
    bits_setBits_ne (by decide) h.1 (.inl h.2)
  refine ⟨_, congrArg Host.Outcome.next hw, State.answer_answered _ _, ?_, ?_, ?_, ?_,
    hset.next (State.answer_within _ _) (by decide) (fun _ h => absurd h List.not_mem_nil)⟩
  · rw [State.answer_rdB, State.rdB, State.probeSet_rd hlt]
    exact congrArg (· != 0) (bits_setBits v.toNat 31 31 1)
  · rw [State.answer_rd, State.probeSet_rd hlt]
    exact hbits 14 0 (by decide)
  · rw [State.answer_rd, State.probeSet_rd hlt]
    exact hbits 28 15 (by decide)
  · rw [State.answer_rd, State.probeSet_rd hlt]
    exact hbits 30 29 (by decide)

end

end Sys2Proof.Machine

namespace Sys2Proof.Machine

set_option Elab.async false

/-! O14 (`WeaverSettings`), the check of a weave map image: accepted, refused, or not readable (R135, R136). -/

section

variable {s t u : State} {path : Path} {half : Fin 2}

/-! ### An image refused -/

/-- The check of an image is over. -/
def State.mapFree (s : State) (half : Fin 2) : State := s.modWv (fun w => { w with mapBusy := w.mapBusy.set half false })

/-- SWAP is clear and ERR stands. -/
def State.mapErred (s : State) (half : Fin 2) : State := (s.wrB WV.MAP_CTL.SWAP false half).wrB WV.MAP_CTL.ERR true half

/-- An image is refused with its record; `chk` is the CHECK it carries (R136). -/
def State.mapRefused (s : State) (half : Fin 2) (chk : Nat) : State :=
  (s.mapErred half).logc (WV.PAGE + half.val) 0x24 ((s.mapErred half).rd WV.MAP_CTL half) chk

theorem State.mapErred_within : s.within (s.mapErred half) [.regs] [WV.MAP_CTL.key half 0] := by
  unfold State.mapErred State.wrB
  exact State.within.refl.wr_wv.wr_wv

theorem State.mapErred_rdB : (s.mapErred half).rdB WV.MAP_CTL.SWAP half = false ∧ (s.mapErred half).rdB WV.MAP_CTL.ERR half = true := by
  unfold State.mapErred
  refine ⟨?_, State.rdB_wrB (by decide)⟩
  rw [State.rdB_wrB_apart (.inr (by decide)) (by decide), State.rdB_wrB (by decide)]

theorem State.mapRefused_fr {chk : Nat} : Fr 134217985 s (s.mapRefused half chk) :=
  ((State.wrB_fr.mono rfl).trans (State.wrB_fr.mono rfl)).trans (State.logc_fr.mono rfl)

theorem State.mapRefused_shown {chk : Nat} : (s.mapRefused half chk).rdB WV.MAP_CTL.SWAP half = false ∧
    (s.mapRefused half chk).rdB WV.MAP_CTL.ERR half = true := by
  obtain ⟨hswap, herr⟩ := s.mapErred_rdB (half := half)
  unfold State.mapRefused State.rdB
  rw [State.logc_rd_wv, State.logc_rd_wv]
  exact ⟨hswap, herr⟩

/-- The record of a refused image, behind a change of unshared registers, shows MAP_CTL as it stands. -/
theorem State.mapRefused_logged {ks : List Nat} {chk : Nat} (h : s.within u [.regs, .wv] ks) (hk : ∀ k ∈ ks, unshared k) :
    s.logged (u.mapRefused half chk) (WV.PAGE + half.val) 0x24 (fun a _ => a = (u.mapRefused half chk).rd WV.MAP_CTL half) := by
  have hfail : s.within (u.mapErred half) [.regs, .wv] (WV.MAP_CTL.key half 0 :: ks) :=
    (State.within.refl.next h (fun _ hp => hp) (fun _ hx => List.mem_cons_of_mem _ hx)).next State.mapErred_within (by decide)
      (fun _ hx => List.mem_singleton.1 hx ▸ List.mem_cons_self ..)
  have hlog := hfail.logged_logc (List.forall_mem_cons.2 ⟨unshared_wv, hk⟩) (WV.PAGE + half.val) 0x24
    ((u.mapErred half).rd WV.MAP_CTL half) chk
  exact hlog.imp (fun a b hab => hab.1.trans (State.logc_rd_wv).symm)

theorem State.mapRefused_within {chk : Nat} : s.within (s.mapRefused half chk) [.regs, .log, .sram]
    (WV.MAP_CTL.key half 0 :: logKeys (WV.PAGE + half.val)) :=
  (State.within.refl.next State.mapErred_within (by decide) (fun _ hx => List.mem_singleton.1 hx ▸ List.mem_cons_self ..)).next
    State.logc_within (by decide) (fun _ hx => List.mem_cons_of_mem _ hx)

/-- LOAD_ERR counts an image whose CHECK differs (R158). -/
def State.mapCounted (s : State) (bs : List Byte) : State :=
  if leAt bs 8502 4 = Sys2Proof.Machine.rim (bs.take 8502) 0 then s else s.bump RIM.LOAD_ERR

theorem State.mapCounted_within {bs : List Byte} : s.within (s.mapCounted bs) [.regs] [RIM.LOAD_ERR.key 0 0] := by
  unfold State.mapCounted
  split
  · exact .refl
  · exact State.bump_within

theorem loadErr_unshared : unshared (RIM.LOAD_ERR.key 0 0) := by
  unfold unshared
  decide

/-- Refusing a map leaves LOAD_ERR as it stands. -/
theorem State.mapRefused_loadErr {chk : Nat} : (s.mapRefused half chk).rd RIM.LOAD_ERR = s.rd RIM.LOAD_ERR := by
  refine State.mapRefused_within.rd (fun h => ?_)
  rcases List.mem_cons.1 h with he | hl
  · clear * - he
    revert half
    decide
  · exact logKeys_shared hl loadErr_unshared

/-- A read that meets an error counts and records it on the memory unit's pages and samples verdicts again (R267, R280, R281). -/
theorem State.readFault_onPages {a n : Nat} {c : MemClass} (h : s.readFault a n c = some t) : s.onPages t [DMC.PAGE, FRS.PAGE] := by
  unfold State.readFault at h
  split at h
  · rw [← Option.some.inj h]
    exact State.onPages.refl.logc
  · obtain ⟨k, -, hk⟩ := Option.map_eq_some_iff.1 h
    rw [← hk]
    exact State.uncorrectable_onPages

/-- The error that a read of the image meets. -/
theorem State.mapFree_readFault (h : hbmSize < s.wv.mapAddr[half] + 8506 ∨ s.firstBad s.wv.mapAddr[half] 8506 ≠ none) :
    ∃ u, (s.mapFree half).readFault s.wv.mapAddr[half] 8506 .throughput = some u := by
  refine Option.isSome_iff_exists.1 ?_
  have hbad : (s.mapFree half).firstBad s.wv.mapAddr[half] 8506 = s.firstBad s.wv.mapAddr[half] 8506 := rfl
  rw [State.readFault_isSome, hbad, Bool.or_eq_true, decide_eq_true_eq]
  exact h.imp_right Option.isSome_iff_ne_none.2

/-! ### MAP_CHECK_DONE (R136) -/

section check

variable (hb : s.wv.mapBusy[half] = true) (hm : s.mem.sealed = false)
include hb hm

/-- An image that cannot be read is refused, and counts in LOAD_ERR. -/
theorem execMapCheckDone_fault (h : (s.mapFree half).readFault s.wv.mapAddr[half] 8506 .throughput = some u) :
    ∃ chk, execMapCheckDone half s = .next ((u.bump RIM.LOAD_ERR).mapRefused half chk) := by
  refine ⟨leAt ((s.mapFree half).hbmRd s.wv.mapAddr[half] 8506) 8502 4, ?_⟩
  unfold State.mapFree at h ⊢
  unfold execMapCheckDone
  dsimp only
  rw [hb, hm, if_neg (by decide), h]
  rfl

theorem mapCheckDone_gives_fault (h : hbmSize < s.wv.mapAddr[half] + 8506 ∨ s.firstBad s.wv.mapAddr[half] 8506 ≠ none) :
    gives (.mapCheckDone half) s (fun t =>
      t.rdB WV.MAP_CTL.SWAP half = false ∧
      t.rdB WV.MAP_CTL.ERR half = true ∧
      t.wv.mapNext = s.wv.mapNext ∧
      t.wv.map = s.wv.map ∧
      t.rd RIM.LOAD_ERR = min (2 ^ 32 - 1) (s.rd RIM.LOAD_ERR + 1) ∧
      s.keeps t [.regs, .log, .mem, .scene, .wv, .frs, .hbm, .sram]) := by
  obtain ⟨u, hu⟩ := State.mapFree_readFault h
  obtain ⟨chk, hx⟩ := execMapCheckDone_fault hb hm hu
  obtain ⟨hswap, herr⟩ := (u.bump RIM.LOAD_ERR).mapRefused_shown (half := half) (chk := chk)
  have hfr : Fr 201336577 (s.mapFree half) ((u.bump RIM.LOAD_ERR).mapRefused half chk) :=
    ((State.readFault_fr hu).trans (State.bump_fr.mono rfl)).trans (State.mapRefused_fr.mono rfl)
  have hwv : ((u.bump RIM.LOAD_ERR).mapRefused half chk).wv = (s.mapFree half).wv := hfr.same .wv
  have hload : u.rd RIM.LOAD_ERR = s.rd RIM.LOAD_ERR := (State.readFault_onPages hu).rd
  have hall : Fr 201340673 s ((u.bump RIM.LOAD_ERR).mapRefused half chk) := (State.modWv_fr.mono rfl).trans (hfr.mono rfl)
  refine ⟨_, hx, hswap, herr, (congrArg WeaverSt.mapNext hwv).trans rfl, (congrArg WeaverSt.map hwv).trans rfl, ?_, hall.keepsOf⟩
  exact State.mapRefused_loadErr.trans ((State.rd_bump (by decide)).trans (congrArg (fun n => min 0xFFFFFFFF (n + 1)) hload))

section reads

variable (hs : s.wv.mapAddr[half] + 8506 ≤ hbmSize) (hg : s.firstBad s.wv.mapAddr[half] 8506 = none)
include hs hg

theorem execMapCheckDone_good {m : WeaveMap} (h : parseMap (s.hbmRd s.wv.mapAddr[half] 8506) = some m) :
    execMapCheckDone half s = .next ((s.mapFree half).modWv (fun w => { w with mapNext := w.mapNext.set half (some m) })) := by
  have hr : (s.mapFree half).readFault s.wv.mapAddr[half] 8506 .throughput = none := State.readFault_none _ hs hg
  have hp : parseMap ((s.mapFree half).hbmRd s.wv.mapAddr[half] 8506) = some m := h
  unfold State.mapFree at hr hp
  unfold execMapCheckDone
  dsimp only
  rw [hb, hm, if_neg (by decide), hr]
  dsimp only
  rw [hp]
  rfl

theorem mapCheckDone_gives_good {m : WeaveMap} (h : parseMap (s.hbmRd s.wv.mapAddr[half] 8506) = some m) :
    gives (.mapCheckDone half) s (fun t =>
      t.wv = { s.wv with mapBusy := s.wv.mapBusy.set half false, mapNext := s.wv.mapNext.set half (some m) } ∧
      s.within t [.wv] []) :=
  ⟨_, execMapCheckDone_good hb hm hs hg h, rfl, (State.within.refl.frame State.modWv_fr).frame State.modWv_fr⟩

theorem execMapCheckDone_bad (h : parseMap (s.hbmRd s.wv.mapAddr[half] 8506) = none) :
    ∃ bs chk, execMapCheckDone half s = .next (((s.mapFree half).mapCounted bs).mapRefused half chk) := by
  have hr : (s.mapFree half).readFault s.wv.mapAddr[half] 8506 .throughput = none := State.readFault_none _ hs hg
  have hp : parseMap ((s.mapFree half).hbmRd s.wv.mapAddr[half] 8506) = none := h
  refine ⟨(s.mapFree half).hbmRd s.wv.mapAddr[half] 8506, leAt ((s.mapFree half).hbmRd s.wv.mapAddr[half] 8506) 8502 4, ?_⟩
  unfold State.mapFree at hr hp ⊢
  unfold execMapCheckDone
  dsimp only
  rw [hb, hm, if_neg (by decide), hr]
  dsimp only
  rw [hp]
  rfl

theorem mapCheckDone_gives_bad (h : parseMap (s.hbmRd s.wv.mapAddr[half] 8506) = none) : gives (.mapCheckDone half) s (fun t =>
      t.rdB WV.MAP_CTL.SWAP half = false ∧
      t.rdB WV.MAP_CTL.ERR half = true ∧
      t.wv = { s.wv with mapBusy := s.wv.mapBusy.set half false } ∧
      s.logged t (WV.PAGE + half.val) 0x24 (fun a _ => a = t.rd WV.MAP_CTL half) ∧
      s.within t [.regs, .log, .wv, .sram] ([WV.MAP_CTL.key half 0, RIM.LOAD_ERR.key 0 0] ++ logKeys (WV.PAGE + half.val))) := by
  obtain ⟨bs, chk, hx⟩ := execMapCheckDone_bad hb hm hs hg h
  have hcount : s.within ((s.mapFree half).mapCounted bs) [.regs, .wv] [RIM.LOAD_ERR.key 0 0] :=
    (State.within.refl.frame State.modWv_fr).next State.mapCounted_within
  have hwv : ((s.mapFree half).mapCounted bs).wv = { s.wv with mapBusy := s.wv.mapBusy.set half false } :=
    State.mapCounted_within.same .wv
  generalize (s.mapFree half).mapCounted bs = u at hx hcount hwv
  obtain ⟨hswap, herr⟩ := u.mapRefused_shown (half := half) (chk := chk)
  refine ⟨_, hx, hswap, herr, ?_, State.mapRefused_logged hcount (fun k hk => List.mem_singleton.1 hk ▸ loadErr_unshared), ?_⟩
  · rw [← hwv]
    exact State.mapRefused_fr.same .wv
  · refine (State.within.refl.next hcount (by decide) (fun _ hx => ?_)).next State.mapRefused_within (by decide) (fun _ hx => ?_)
    · exact List.mem_append_left _ (List.mem_cons_of_mem _ hx)
    · rcases List.mem_cons.1 hx with rfl | hx
      · exact List.mem_cons_self ..
      · exact List.mem_append_right _ hx

end reads

end check

theorem mapCheckDone_idle (h : s.wv.mapBusy[half] = false ∨ s.mem.sealed = true) : idle (.mapCheckDone half) s := by
  change execMapCheckDone half s = .next s
  unfold execMapCheckDone
  refine if_pos ?_
  rcases h with h | h <;> simp [h]

/-- Settles O14: each register write and read through the access it makes, the check of an image by what its read meets and
whether it parses. -/
theorem weaverSettings : Obligations.WeaverSettings := by
  intro s
  exact ⟨fun _ _ => mapSwap_gives, fun _ _ => mapSwap_gives_pending,
    fun _ _ hb hm hs hg h => mapCheckDone_gives_good hb hm hs hg h,
    fun _ hb hm hs hg h => mapCheckDone_gives_bad hb hm hs hg h,
    fun _ hb hm h => mapCheckDone_gives_fault hb hm h, fun _ => mapCheckDone_idle,
    fun _ _ => lutDataWrite_gives, fun _ _ => lutDataWrite_gives_beyond, fun _ _ => lutDataRead_gives,
    fun _ _ => lutSwap_gives, fun _ _ => lutSwap_gives_pending,
    fun _ _ => outCtlWrite_gives, fun _ _ => outCtlWrite_gives_refused, fun _ _ => probeArm_gives⟩

end

end Sys2Proof.Machine

namespace Sys2Proof.Machine

set_option Elab.async false

/-! O18 (`ContentVerdict`): the rows of R164 and the freshness inequality of R163. -/

section

variable {refused valid step intr ver : Bool} {e : Entry} {now be be' : Nat}

/-- Row 9 alone shows Content: it is the one that no row before it decides. -/
theorem rowVerdict_verdictRow_eq_zero : rowVerdict (verdictRow refused e now be valid step intr ver) = 0 ↔
    verdictRow refused e now be valid step intr ver = 9 := by
  unfold verdictRow
  split_ifs <;> decide

theorem freshPass_iff {stamp maxAge : Nat} : freshPass now be stamp maxAge = true ↔
    ageOf now be stamp ≤ 1000 * (maxAge : Int) ∧ sgn 32 (stamp + 2 ^ 32 - (now + 2) % 2 ^ 32) ≤ 1800000000 := by
  unfold freshPass
  rw [Bool.and_eq_true, decide_eq_true_eq, decide_eq_true_eq, Nat.cast_mul, Nat.cast_ofNat]

/-- An entry of content reaches row 9 where none of rows 5 to 8 holds. -/
theorem verdictRow_of_content (hr : refused = false) (hs : e.state = .content) :
    verdictRow refused e now be valid step intr ver = 9 ↔
      e.tv = true ∧ (valid = true ∧ step = false) ∧ freshPass now be e.stamp e.maxAge = true ∧
      e.v = true ∧ intr = false ∧ ver = false := by
  unfold verdictRow
  rw [hr, hs, if_neg Bool.false_ne_true, if_neg (by decide), if_neg (by decide), if_neg (by decide)]
  split_ifs <;> grind

theorem verdictRow_eq_nine : verdictRow refused e now be valid step intr ver = 9 ↔
    refused = false ∧ e.state = .content ∧ e.tv = true ∧ (valid = true ∧ step = false) ∧
    freshPass now be e.stamp e.maxAge = true ∧ e.v = true ∧ intr = false ∧ ver = false := by
  by_cases h : refused = false ∧ e.state = .content
  · rw [verdictRow_of_content h.1 h.2]
    simp only [h, true_and]
  · refine ⟨fun h9 => absurd ?_ h, fun h9 => absurd ⟨h9.1, h9.2.1⟩ h⟩
    unfold verdictRow at h9
    cases hr : refused <;> cases hs : e.state <;> simp [hr, hs] at h9 ⊢

/-- What a Content verdict needs (R163, R164). -/
theorem contentVerdict_iff : rowVerdict (verdictRow refused e now be valid step intr ver) = 0 ↔
      refused = false ∧ e.state = .content ∧ e.tv = true ∧ valid = true ∧ step = false ∧ e.v = true ∧ intr = false ∧
      ver = false ∧ ageOf now be e.stamp ≤ 1000 * (e.maxAge : Int) ∧ sgn 32 (e.stamp + 2 ^ 32 - (now + 2) % 2 ^ 32) ≤ 1800000000 := by
  rw [rowVerdict_verdictRow_eq_zero, verdictRow_eq_nine, freshPass_iff]
  tauto

/-- A wider bound adds its width to the age, while the age stays within its 31 bits (R163). -/
theorem ageOf_wider {stamp : Nat} (hb : be ≤ be') (h0 : 0 ≤ ageOf now be stamp) (h31 : ageOf now be stamp + (be' - be : Nat) < 2 ^ 31) :
    ageOf now be' stamp = ageOf now be stamp + (be' - be : Nat) := by
  have hs : stamp % 2 ^ 32 < 2 ^ 32 := Nat.mod_lt _ (by decide)
  unfold ageOf sgn at *
  generalize stamp % 2 ^ 32 = st at *
  split at h0 <;> split <;> omega

/-- A narrower bound never hides content. -/
theorem contentVerdict_narrower (hb : be ≤ be') (h0 : 0 ≤ ageOf now be e.stamp)
    (h31 : ageOf now be e.stamp + (be' - be : Nat) < 2 ^ 31)
    (h : rowVerdict (verdictRow refused e now be' valid step intr ver) = 0) :
    rowVerdict (verdictRow refused e now be valid step intr ver) = 0 := by
  rw [contentVerdict_iff] at h ⊢
  obtain ⟨hr, hs, htv, hv, hst, he, hi, hver, hage, hahead⟩ := h
  rw [ageOf_wider hb h0 h31] at hage
  exact ⟨hr, hs, htv, hv, hst, he, hi, hver, by omega, hahead⟩

/-- Settles O18: row 9 of R164 read as its conditions, and the age as a function of the bound. -/
theorem contentVerdict : Obligations.ContentVerdict := by
  intro refused e now be valid step intr ver
  refine ⟨contentVerdict_iff, fun hr => ?_, fun hr hs => ?_, fun be' hb _ => contentVerdict_narrower hb⟩
  · rw [verdictRow, if_pos hr]
    rfl
  · rw [verdictRow, if_neg (by simp [hr]), if_pos hs]
    rfl

end

end Sys2Proof.Machine

namespace Sys2Proof.Machine

set_option Elab.async false

/-! O49 (`DebugAttachment`) fails: the grant counts in the INTRUSIVE counter through a cell at byte 24 of its page (R403), and the
statement covers states whose page holds fewer bytes. There the cell that the grant writes is not the one the counter reads. -/

section

variable {s t : State} {i n p : Nat}

/-! ### What the counters depend on -/

theorem State.counter_of_pageData (h : ∀ k < 16, t.pageData (530 + k) = s.pageData (530 + k)) : t.counter i = s.counter i := by
  rw [State.counter_eq_sup, State.counter_eq_sup]
  refine Finset.sup_congr rfl (fun k hk => ?_)
  unfold State.cell
  rw [h k (Finset.mem_range.1 hk)]

theorem State.counter_of_pages (h : t.nvs.pages = s.nvs.pages) : t.counter i = s.counter i :=
  State.counter_of_pageData (fun _ _ => State.pageData_congr h _)

/-- What a counter's advance stores depends on the store alone. -/
theorem State.counterAdd_pages (h : t.nvs = s.nvs) : (t.counterAdd i n).nvs.pages = (s.counterAdd i n).nvs.pages := by
  have hd (q : Nat) : t.pageData q = s.pageData q := State.pageData_congr (congrArg NvsSt.pages h) q
  have hw (u : State) (q : Nat) (d : List Byte) :
      (u.commitPage q d).nvs.pages = tset deliveredCopy u.nvs.pages (u.writeCopy q) (mkCopy q d (u.pageSeq q + 1)) :=
    State.wearCheck_pages _ q
  have hq (q : Nat) : t.writeCopy q = s.writeCopy q ∧ t.pageSeq q = s.pageSeq q := by
    unfold State.writeCopy State.pageSeq State.curCopy State.copyOk State.copy
    rw [h]
    exact ⟨rfl, rfl⟩
  unfold State.counterAdd
  dsimp only
  rw [hw, hw, State.counter_congr h, hd, (hq _).1, (hq _).2, h]

/-- A log page that commits at once is a page write, and the entries it holds leave the buffer (R446). -/
theorem State.commitLogPage_eq (s : State) (p : Nat) : ∃ f : NvsSt → NvsSt, (∀ n, (f n).pages = n.pages) ∧
    s.commitLogPage p = ((s.commitPage p (s.logPageData p)).logPageDone p (s.logPageData p)).modNvs f :=
  ⟨fun n => { n with cur := n.cur.map (fun w => if w.page = p then { w with data := s.logPageData p } else w) }, fun _ => rfl, rfl⟩

/-- A Log page in the store keeps the counters, whose pages lie below. -/
theorem State.commitLogPage_counter (h1 : 546 ≤ p) (h2 : p < 4096) : (s.commitLogPage p).counter i = s.counter i := by
  obtain ⟨f, hf, hx⟩ := s.commitLogPage_eq p
  have e : (s.commitLogPage p).nvs.pages = (s.commitPage p (s.logPageData p)).nvs.pages := by
    rw [hx, State.modNvs_nvs, hf, State.logPageDone_nvs]
  refine (State.counter_of_pages e).trans (State.counter_of_pageData (fun k hk => ?_))
  rw [State.commitPage_pageData, State.nvsCommitPage_pageData_ne (by omega) h2 (by omega)]

theorem State.newestLogPage_range (s : State) : 546 ≤ s.newestLogPage ∧ s.newestLogPage < 4096 := by
  unfold State.newestLogPage logPage
  split <;> omega

/-! ### The grant -/

/-- The grant up to its record, before the INTRUSIVE counter (R446). -/
def State.grantLogged (s : State) : State :=
  let a := (s.wrB SEC.STS.INT_PEND false).setDbg .intrusive
  let b := if s.mode.sec = .openS then a else a.wrB SEC.STS.KEYS_HIDDEN true
  let c := (b.bump DBG.CNT.COUNT).stampPair DBG.GRANT_LO.STAMP DBG.GRANT_HI.STAMP
  (c.event DBG.PAGE 1).logc DBG.PAGE 0xF6 c.dbgSts 0

theorem State.grantLogged_nvs : s.grantLogged.nvs = s.nvs := by
  have h : Fr 134217989 s s.grantLogged := by
    have ha : Fr 134217989 s ((s.wrB SEC.STS.INT_PEND false).setDbg .intrusive) :=
      State.setDbg_fr.next (State.wrB_fr.mono rfl) rfl
    unfold State.grantLogged
    exact State.logc_fr.next (State.event_fr.next (State.stampPair_fr.next (State.bump_fr.next
      (.ite ha (State.wrB_fr.next ha rfl)) rfl) rfl) rfl) rfl
  exact h.same .nvs

theorem State.grantLogged_onPages : s.onPages s.grantLogged [SEC.PAGE, DBG.PAGE] := by
  have ha : s.onPages ((s.wrB SEC.STS.INT_PEND false).setDbg .intrusive) [SEC.PAGE, DBG.PAGE] :=
    State.onPages.refl.wrB.frame State.setDbg_fr
  unfold State.grantLogged State.stampPair
  exact ((((State.onPages.ite ha ha.wrB).bump).wr.wr).event).logc

/-- The grant with its counter and its log page in the store (R403, R446). -/
def State.grantCounted (s : State) : State :=
  (s.grantLogged.count 6 1).commitLogPage (s.grantLogged.count 6 1).newestLogPage

theorem State.commitPage_onPages {d : List Byte} : s.onPages (s.commitPage p d) [] :=
  (State.onPages.refl.frame State.nvsCommitPage_fr).keepsRegs State.wearCheck_within.2.1 (fun r hr hu => by
    rcases List.mem_cons.1 hr with rfl | hr
    · exact absurd (by decide) hu.2.2
    · exact absurd hu (logKeys_shared hr))

theorem State.commitLogPage_onPages : s.onPages (s.commitLogPage p) [] := by
  have h : s.onPages ((s.commitPage p (s.logPageData p)).logPageDone p (s.logPageData p)) [] := by
    unfold State.logPageDone
    have hc : s.onPages ((s.commitPage p (s.logPageData p)).modLog (fun l => { l with
        wait := tfilter (fun k r => !(logPage k == p &&
          slice (s.logPageData p) (32 * ((if k < 16384 then k else k - 16384) % 15)) 32 == r.bytes)) l.wait })) [] :=
      State.commitPage_onPages.frame State.modLog_fr
    exact .ite (hc.frame State.modLog_fr).logc hc
  obtain ⟨f, -, hx⟩ := s.commitLogPage_eq p
  rw [hx]
  exact h.frame State.modNvs_fr

theorem State.grantCounted_role : s.grantCounted.role = s.role := by
  have h : s.onPages (s.grantLogged.count 6 1) [SEC.PAGE, DBG.PAGE] := by
    unfold State.count
    exact .ite (State.grantLogged_onPages.next State.commitPage_onPages) State.grantLogged_onPages
  exact (h.next State.commitLogPage_onPages).rd

section
variable (hp : s.rdB SEC.STS.INT_PEND = true) (hh : s.rdB SYS.PWR_STS.HOLD_RDY = true) (hd : s.mode.power = .sill)
  (ht : s.leaf.tau = none) (hr : s.role = 0)
include hp hh hd ht hr

/-- A grant on an unpaired module in Sill. -/
theorem execIntrusiveGrant_sill : execIntrusiveGrant s = .next s.grantCounted.startVerSweep := by
  have e : execIntrusiveGrant s = .next (if s.grantCounted.role = 4 then s.grantCounted.startVerSweep.toSyncing
      else s.grantCounted.startVerSweep) := by
    unfold execIntrusiveGrant
    rw [if_neg (by simp [hp, hh, hd, ht, hr])]
    rfl
  rw [e, State.grantCounted_role, hr]
  rfl

/-- The INTRUSIVE counter behind the grant is what the counter's advance leaves. -/
theorem execIntrusiveGrant_counter (hj : s.nvs.jrnlOn = false) (he : execIntrusiveGrant s = .next t) :
    t.counter 6 = (s.counterAdd 6 1).counter 6 := by
  obtain rfl := Host.Outcome.next.inj ((execIntrusiveGrant_sill hp hh hd ht hr).symm.trans he)
  have hc : s.grantLogged.count 6 1 = s.grantLogged.counterAdd 6 1 := by
    refine if_pos ?_
    rw [State.grantLogged_onPages.rdB, hh, State.grantLogged_nvs, hj]
    rfl
  have hn : s.grantCounted.startVerSweep.nvs = s.grantCounted.nvs := State.startVerSweep_fr.same .nvs
  obtain ⟨h1, h2⟩ := (s.grantLogged.count 6 1).newestLogPage_range
  calc s.grantCounted.startVerSweep.counter 6 = s.grantCounted.counter 6 := State.counter_congr hn 6
    _ = (s.grantLogged.count 6 1).counter 6 := State.commitLogPage_counter h1 h2
    _ = (s.counterAdd 6 1).counter 6 := by
      rw [hc]
      exact State.counter_of_pages (State.counterAdd_pages State.grantLogged_nvs)

end

/-! ### A page that is too short -/

/-- A module whose holdup bank is charged, with an Intrusive request pending. The page of the counters' next cell holds no byte. -/
def State.shortPage : State :=
  (({ State.reset with nvs := { NvsSt.init with pages := [(531, mkCopy 531 [] 1)] } } : State).wrB SEC.STS.INT_PEND true).wrB
    SYS.PWR_STS.HOLD_RDY true

/-- The counter reads 0 there, and reads 0 when it has advanced. -/
theorem State.shortPage_counter : State.shortPage.counter 6 = 0 ∧ (State.shortPage.counterAdd 6 1).counter 6 = 0 :=
  ⟨by decide +kernel, by decide +kernel⟩

/-- Refutes O49: where the page of the INTRUSIVE counter's next cell is too short for it, the counter stays at 0 over a grant that the
statement has it count (`State.shortPage`). -/
theorem not_debugAttachment : ¬ Obligations.DebugAttachment := by
  unfold Obligations.DebugAttachment
  intro h
  obtain ⟨-, -, -, -, -, -, -, -, -, -, hg, -⟩ := h State.shortPage
  obtain ⟨h0, h1⟩ := State.shortPage_counter
  have hp : State.shortPage.rdB SEC.STS.INT_PEND = true := by decide +kernel
  have hh : State.shortPage.rdB SYS.PWR_STS.HOLD_RDY = true := by decide +kernel
  have hr : State.shortPage.role = 0 := by decide +kernel
  obtain ⟨t, he, -, -, -, -, -, -, hc, -⟩ := hg hp hh (by decide) (by decide) rfl (fun hx => by simp [hr] at hx) (by simp [hr])
  have ht := hc ⟨rfl, by rw [h0]; decide⟩
  rw [execIntrusiveGrant_counter hp hh rfl rfl hr rfl he, h0, h1] at ht
  exact absurd ht (by decide)

end

end Sys2Proof.Machine

namespace Sys2Proof.Machine

set_option Elab.async false

/-! SUPPORT. The freshness table under a sweep (R101, R167-R169), and the verdict samples taken again in their weave cycle (R161). -/

section

variable {s t u : State}

/-! ### Entries of the table -/

theorem tget_of_unlisted {α : Type} {d : Nat → α} {m : Table α} {k : Nat} (h : k ∉ m.map (·.1)) : tget d m k = d k := by
  induction m with
  | nil => rfl
  | cons x m ih =>
    rw [List.map_cons, List.mem_cons, not_or] at h
    exact (if_neg h.1).trans (ih h.2)

theorem State.putEntry_entryRaw (s : State) (h k : Nat) (e : Entry) :
    (s.putEntry h e).entryRaw k = if k = h then e else s.entryRaw k := tget_tset _ _ _ _ _

theorem State.entryRaw_congr (h : t.scene.fresh = s.scene.fresh) (k : Nat) : t.entryRaw k = s.entryRaw k := by
  unfold State.entryRaw
  rw [h]

theorem Fr.entryRaw {m : Nat} (h : Fr m s t) (k : Nat) (hm : m.testBit Area.scene.ctorIdx = false := by decide) :
    t.entryRaw k = s.entryRaw k := State.entryRaw_congr (congrArg SceneSt.fresh (h.same .scene hm)) k

/-- The handles that a sweep picks, where it passes over an entry of zeros. -/
theorem State.mem_handlesIn {lo hi k : Nat} {p : Entry → Bool} (hz : p Entry.zero = false) :
    k ∈ s.handlesIn lo hi p ↔ lo ≤ k ∧ k < hi ∧ p (s.entryRaw k) = true := by
  have hl (h : p (s.entryRaw k) = true) : k ∈ s.scene.fresh.map (·.1) := by
    by_contra hn
    rw [State.entryRaw, tget_of_unlisted hn, hz] at h
    exact Bool.false_ne_true h
  unfold State.handlesIn
  simp only [List.mem_filter, Bool.and_eq_true, decide_eq_true_eq]
  exact ⟨fun h => ⟨h.2.1.1, h.2.1.2, h.2.2⟩, fun h => ⟨hl h.2.2, ⟨h.1, h.2.1⟩, h.2.2⟩⟩

theorem State.each_cons {α : Type} (s : State) (x : α) (xs : List α) (f : State → α → State) :
    s.each (x :: xs) f = (f s x).each xs f := rfl

/-- A visit of listed entries, each of them rewritten by `f`, leaves the others. -/
theorem State.each_entryRaw {g : State → Nat → State} {f : Entry → Entry} (hf : ∀ e, f (f e) = f e)
    (hg : ∀ (u : State) h k, (g u h).entryRaw k = if k = h then f (u.entryRaw h) else u.entryRaw k) (xs : List Nat) (s : State) (k : Nat) :
    (s.each xs g).entryRaw k = if k ∈ xs then f (s.entryRaw k) else s.entryRaw k := by
  induction xs generalizing s with
  | nil => rfl
  | cons x xs ih =>
    rw [State.each_cons, ih, hg]
    by_cases hx : k = x
    · subst hx
      simp [hf]
    · simp [hx]

/-! ### Entries withdrawn (R167, R168) -/

/-- An entry as it is withdrawn. -/
def Entry.withdrawn (e : Entry) : Entry := { e with state := .withdrawn }

/-- A list of entries withdrawn, in order. -/
def State.withdrawAll (s : State) (xs : List Nat) : State := s.each xs State.withdraw

theorem State.withdraw_entryRaw (s : State) (h k : Nat) :
    (s.withdraw h).entryRaw k = if k = h then (s.entryRaw h).withdrawn else s.entryRaw k := by
  have e : (s.withdraw h).entryRaw k = (s.putEntry h (s.entryRaw h).withdrawn).entryRaw k := Fr.entryRaw State.bump_fr k
  rw [e, State.putEntry_entryRaw]

theorem State.withdraw_within {h : Nat} : s.within (s.withdraw h) [.regs, .scene] [FRS.STAT_WITHDRAW.key 0 0] :=
  (State.within.refl.frame State.putEntry_fr).next State.bump_within

theorem State.withdraw_planes (s : State) (h : Nat) : (s.withdraw h).scene.planes = s.scene.planes := by
  have e : (s.withdraw h).scene = (s.putEntry h (s.entryRaw h).withdrawn).scene := State.bump_fr.same .scene
  rw [e]
  rfl

section
variable (xs : List Nat)

theorem State.withdrawAll_within : s.within (s.withdrawAll xs) [.regs, .scene] [FRS.STAT_WITHDRAW.key 0 0] :=
  State.within.refl.each (fun _ _ => State.withdraw_within)

theorem State.withdrawAll_entryRaw (s : State) (k : Nat) :
    (s.withdrawAll xs).entryRaw k = if k ∈ xs then (s.entryRaw k).withdrawn else s.entryRaw k :=
  State.each_entryRaw (f := Entry.withdrawn) (fun _ => rfl) State.withdraw_entryRaw xs s k

theorem State.withdrawAll_planes (s : State) : (s.withdrawAll xs).scene.planes = s.scene.planes :=
  State.each_induct s (P := fun u => u.scene.planes = s.scene.planes) xs rfl (fun u h hu => (u.withdraw_planes h).trans hu)

/-- STAT_WITHDRAW counts each entry withdrawn (R167). -/
theorem State.withdrawAll_count (s : State) :
    (s.withdrawAll xs).rd FRS.STAT_WITHDRAW = min 0xFFFFFFFF (s.rd FRS.STAT_WITHDRAW + xs.length) := by
  induction xs generalizing s with
  | nil =>
    have h : s.rd FRS.STAT_WITHDRAW < 2 ^ 32 := s.rd_lt _ _ _
    change s.rd FRS.STAT_WITHDRAW = min 0xFFFFFFFF (s.rd FRS.STAT_WITHDRAW + 0)
    omega
  | cons x xs ih =>
    have hp : (s.putEntry x (s.entryRaw x).withdrawn).rd FRS.STAT_WITHDRAW = s.rd FRS.STAT_WITHDRAW := State.putEntry_fr.rd _ _ _
    have h : (s.withdraw x).rd FRS.STAT_WITHDRAW = min 0xFFFFFFFF (s.rd FRS.STAT_WITHDRAW + 1) := by
      have e : s.withdraw x = (s.putEntry x (s.entryRaw x).withdrawn).bump FRS.STAT_WITHDRAW := rfl
      rw [e, State.rd_bump (by decide), hp]
    have hs : s.withdrawAll (x :: xs) = (s.withdraw x).withdrawAll xs := State.each_cons s x xs State.withdraw
    rw [hs, ih, h, List.length_cons]
    omega

/-- What a sweep withdraws: every entry in its reach that it finds bad, and no other. -/
theorem State.withdrawAll_handlesIn {lo hi : Nat} {p : Entry → Bool} (hz : p Entry.zero = false) (s : State) (k : Nat) :
    (s.withdrawAll (s.handlesIn lo hi p)).entryRaw k =
      if lo ≤ k ∧ k < hi ∧ p (s.entryRaw k) = true then (s.entryRaw k).withdrawn else s.entryRaw k := by
  rw [State.withdrawAll_entryRaw]
  simp only [State.mem_handlesIn hz]

end

/-! ### Samples taken again (R161, R173) -/

/-- The registers that show the time inputs of a verdict sample. -/
def sampleKeys : List Nat := [FRS.BOUND.BE.key 0 0, FRS.NOW.T.key 0 0]

/-- Sampling again changes the samples and what they showed, and the registers of their time inputs. -/
theorem State.resample_within : s.within s.resample [.regs, .frs] sampleKeys := by
  unfold State.resample
  refine State.within.refl.each (fun u h => ?_)
  dsimp only
  split
  · exact .refl
  · exact ((State.within.refl.frame State.modFrs_fr).next State.wr_within).next State.wr_within

theorem State.resample_frs (s : State) : s.resample.frs = { s.frs with sample := s.resample.frs.sample, seen := s.resample.frs.seen } := by
  unfold State.resample
  refine State.each_induct s (P := fun u => u.frs = { s.frs with sample := u.frs.sample, seen := u.frs.seen }) _ rfl (fun u h hu => ?_)
  dsimp only
  split
  · exact hu
  · have e (v : State) (f : FreshSt → FreshSt) (b n : Nat) :
        (((v.modFrs f).wr FRS.BOUND.BE b).wr FRS.NOW.T n).frs = f v.frs := State.wr_fr.same .frs
    rw [e, hu]

theorem State.resample_entryRaw (s : State) (k : Nat) : s.resample.entryRaw k = s.entryRaw k := State.resample_fr.entryRaw k

end

end Sys2Proof.Machine

namespace Sys2Proof.Machine

set_option Elab.async false

/-! O17 (`VerdictsAndSweeps`), the sweeps: the step sweep, the wrap sweep and its fast pass, and the verification sweep (R167-R169). -/

section

variable {s t u : State}

/-- The registers of a sweep: its count, and the time inputs of the samples taken again behind it. -/
def sweepKeys : List Nat := FRS.STAT_WITHDRAW.key 0 0 :: sampleKeys

theorem State.within.resample {ps : List Area} {ks : List Nat} (h : s.within t ps ks) (hp : ∀ p ∈ [Area.regs, .frs], p ∈ ps := by decide)
    (hk : ∀ k ∈ sampleKeys, k ∈ ks := by decide) : s.within t.resample ps ks := h.next State.resample_within hp hk

/-- A record stands behind a sample taken again. -/
theorem State.logged.resample {p c : Nat} {args : Nat → Nat → Prop} (h : s.logged t p c args) : s.logged t.resample p c args :=
  h.wait (congrArg LogSt.wait (State.resample_fr.same .log))

/-! ### The step sweep (R167, R173) -/

theorem stepBad_zero (d : Int) (told : Nat) : stepBad d told Entry.zero = false := rfl

/-- The step sweep has withdrawn the entries `bad` and is over, before its record. -/
def State.stepSwept (s : State) (bad : List Nat) : State :=
  ((s.withdrawAll bad).modFrs (fun r => { r with stepSweep := none, stepCount := r.stepCount + bad.length })).wrB
    FRS.TIME_STS.STEP_SWEEP false

section
variable (bad : List Nat)

theorem State.stepSwept_fr : Fr 8193 (s.withdrawAll bad) (s.stepSwept bad) := State.wrB_fr.next (State.modFrs_fr.mono rfl) rfl

theorem State.stepSwept_within :
    s.within (s.stepSwept bad) [.regs, .scene, .frs] [FRS.TIME_STS.key 0 0, FRS.STAT_WITHDRAW.key 0 0] :=
  ((State.within.refl.next (State.withdrawAll_within bad)).frame State.modFrs_fr).next State.wrB_within

theorem State.stepSwept_frs : (s.stepSwept bad).frs = { s.frs with stepSweep := none, stepCount := s.frs.stepCount + bad.length } := by
  have h : (s.withdrawAll bad).frs = s.frs := (State.withdrawAll_within bad).same .frs
  have e : (s.stepSwept bad).frs = { (s.withdrawAll bad).frs with
      stepSweep := none, stepCount := (s.withdrawAll bad).frs.stepCount + bad.length } := State.wrB_fr.same .frs
  rw [e, h]

theorem State.stepSwept_count :
    (s.stepSwept bad).rd FRS.STAT_WITHDRAW = min 0xFFFFFFFF (s.rd FRS.STAT_WITHDRAW + bad.length) := by
  rw [State.stepSwept, State.wrB, State.rd_wr_ne (by decide), State.modFrs_rd, State.withdrawAll_count]

end

/-- The step sweep's end visits every entry it had not come to (R167). -/
theorem execStepSweepDone_run {n : Nat} {d : Int} {told : BitVec 32} (h : s.frs.stepSweep = some (n, d, told)) :
    let v := s.stepSwept (s.handlesIn n 262144 (stepBad d told.toNat))
    execStepSweepDone s = .next (v.logc FRS.PAGE 0x33 (v.rd FRS.TIME_STS) v.frs.stepCount).resample := by
  have hm : min handles (n + handles) = 262144 := by unfold handles; omega
  unfold execStepSweepDone State.stepVisit
  rw [h]
  dsimp only
  rw [hm]
  rfl

theorem stepSweepDone_gives (n : Nat) (d : Int) (told : BitVec 32) (h : s.frs.stepSweep = some (n, d, told)) :
    gives .stepSweepDone s (fun t =>
      (∀ k, t.entryRaw k = if n ≤ k ∧ k < 262144 ∧ stepBad d told.toNat (s.entryRaw k) = true then { s.entryRaw k with state := .withdrawn } else s.entryRaw k) ∧
      t.frs.stepSweep = none ∧
      t.rdB FRS.TIME_STS.STEP_SWEEP = false ∧
      t.rd FRS.STAT_WITHDRAW = min 0xFFFFFFFF (s.rd FRS.STAT_WITHDRAW + (s.handlesIn n 262144 (stepBad d told.toNat)).length) ∧
      s.logged t FRS.PAGE 0x33 (fun a b => a = t.rd FRS.TIME_STS ∧ b = s.frs.stepCount + (s.handlesIn n 262144 (stepBad d told.toNat)).length) ∧
      t.scene.planes = s.scene.planes ∧
      s.within t [.regs, .log, .scene, .frs, .sram] ([FRS.TIME_STS.key 0 0, FRS.STAT_WITHDRAW.key 0 0, FRS.BOUND.BE.key 0 0, FRS.NOW.T.key 0 0] ++ logKeys FRS.PAGE)) := by
  refine ⟨_, execStepSweepDone_run h, ?_⟩
  have hw := s.withdrawAll_handlesIn (lo := n) (hi := 262144) (stepBad_zero d told.toNat)
  generalize s.handlesIn n 262144 (stepBad d told.toNat) = bad at hw ⊢
  have hv : s.within (s.stepSwept bad) [.regs, .scene, .frs] [FRS.TIME_STS.key 0 0, FRS.STAT_WITHDRAW.key 0 0] := State.stepSwept_within bad
  have hs : (s.stepSwept bad).within (((s.stepSwept bad).logc FRS.PAGE 0x33 ((s.stepSwept bad).rd FRS.TIME_STS)
      (s.stepSwept bad).frs.stepCount).resample) [.regs, .log, .frs, .sram] (sampleKeys ++ logKeys FRS.PAGE) :=
    (State.within.refl.next State.logc_within).resample
  have hf : Fr 134226177 (s.withdrawAll bad) (((s.stepSwept bad).logc FRS.PAGE 0x33 ((s.stepSwept bad).rd FRS.TIME_STS)
      (s.stepSwept bad).frs.stepCount).resample) :=
    State.resample_fr.next (State.logc_fr.next ((State.stepSwept_fr bad).mono rfl) rfl) rfl
  refine ⟨fun k => (hf.entryRaw k).trans (hw k), ?_, ?_, ?_, ?_, ?_, ?_⟩
  · rw [State.resample_frs, (State.logc_fr.same .frs : (State.logc (s.stepSwept bad) _ _ _ _).frs = _), State.stepSwept_frs]
  · exact hs.rdB.trans (State.rdB_wrB (by decide))
  · exact hs.rd.trans (State.stepSwept_count bad)
  · rw [hs.rd]
    refine ((State.logged_of hv.sameLog (State.logged_logc _ _ _ _ _)).imp (fun a b hab => ⟨hab.1, hab.2.trans ?_⟩)).resample
    rw [State.stepSwept_frs]
  · have e := congrArg SceneSt.planes (hf.same .scene)
    exact e.trans (State.withdrawAll_planes bad s)
  · exact (State.within.refl.next hv).next hs

theorem stepSweepDone_idle (h : s.frs.stepSweep = none) : idle .stepSweepDone s := by
  change execStepSweepDone s = .next s
  unfold execStepSweepDone
  rw [h]

/-! ### A pass of the wrap sweep ends (R168) -/

section
variable (hit : Bool)

theorem State.wrapEnd_within : s.within (s.wrapEnd hit) [.regs, .log, .frs, .sram] (logKeys FRS.PAGE) := by
  have h : s.within (s.modFrs (fun r => { r with wrapPos := 0, wrapHit := false })) [.regs, .log, .frs, .sram] (logKeys FRS.PAGE) :=
    State.within.refl.frame State.modFrs_fr
  unfold State.wrapEnd
  split
  · exact h.next State.logc_within
  · exact h

theorem State.wrapEnd_frs (s : State) : (s.wrapEnd hit).frs = { s.frs with wrapPos := 0, wrapHit := false } := by
  unfold State.wrapEnd
  split
  · exact State.logc_fr.same .frs
  · rfl

end

/-- A pass that withdrew an entry is logged with TIME_STS. -/
theorem State.wrapEnd_logged :
    s.logged (s.wrapEnd true) FRS.PAGE 0x34 (fun a _ => a = (s.wrapEnd true).rd FRS.TIME_STS) := by
  have h : s.within (s.modFrs (fun r => { r with wrapPos := 0, wrapHit := false })) [.frs] [] := State.modFrs_fr.within
  rw [(State.wrapEnd_within true).rd]
  exact (State.logged_of h.sameLog (State.logged_logc _ _ _ _ _)).imp (fun _ _ hab => hab.1)

/-! ### A visit of the wrap sweep (R168) -/

theorem wrapBad_zero (n : Nat) : wrapBad n Entry.zero = false := rfl

/-- The wrap sweep has visited its entry, and withdrawn it where it is bad. -/
def State.wrapVisited (s : State) (bad : Bool) : State := if bad then (s.withdraw s.frs.wrapPos).resample else s

theorem State.wrapVisited_within (bad : Bool) : s.within (s.wrapVisited bad) [.regs, .scene, .frs] sweepKeys := by
  unfold State.wrapVisited
  split
  · exact (State.within.refl.next State.withdraw_within).resample
  · exact .refl

theorem State.wrapVisited_entryRaw (s : State) (bad : Bool) (k : Nat) : (s.wrapVisited bad).entryRaw k =
    if k = s.frs.wrapPos ∧ bad = true then (s.entryRaw k).withdrawn else s.entryRaw k := by
  unfold State.wrapVisited
  cases bad
  · simp
  · rw [if_pos rfl, State.resample_entryRaw, State.withdraw_entryRaw]
    by_cases h : k = s.frs.wrapPos <;> simp [h]

theorem State.wrapVisited_wrapHit (s : State) (bad : Bool) : (s.wrapVisited bad).frs.wrapHit = s.frs.wrapHit := by
  unfold State.wrapVisited
  split
  · rw [State.resample_frs, (State.withdraw_within (s := s) (h := s.frs.wrapPos)).same .frs]
  · rfl

/-- A visit behind which the sweep moves on, and one that ends its pass. An entry committed in this very cycle is not withdrawn. -/
theorem execWrapSweepVisit_run (hw : s.frs.wrapOn = true) (hp : s.mode.power ≠ .discharge) (hf : s.frs.fastPass = false) :
    ∃ bad : Bool, (s.scene.recent = [] → bad = wrapBad s.tUs (s.entryRaw s.frs.wrapPos)) ∧
      execWrapSweepVisit s = .next (if s.frs.wrapPos + 1 < 262144 then
        (s.wrapVisited bad).modFrs (fun r => { r with wrapPos := s.frs.wrapPos + 1, wrapHit := s.frs.wrapHit || bad })
      else (s.wrapVisited bad).wrapEnd (s.frs.wrapHit || bad)) := by
  refine ⟨wrapBad s.tUs (s.entryRaw s.frs.wrapPos) &&
    !s.scene.recent.any (fun r => r.commit && r.handle == s.frs.wrapPos && r.at_ == s.clk.now), fun hr => by simp [hr], ?_⟩
  unfold execWrapSweepVisit
  rw [if_neg (by simp [hw, hp, hf]), ← s.wrapVisited_wrapHit]
  rfl

theorem wrapSweepVisit_gives (hw : s.frs.wrapOn = true) (hp : s.mode.power ≠ .discharge) (hf : s.frs.fastPass = false)
    (hn : s.frs.wrapPos < 262143) (hr : s.scene.recent = []) : gives .wrapSweepVisit s (fun t =>
      (t.entryRaw s.frs.wrapPos = if wrapBad s.tUs (s.entryRaw s.frs.wrapPos) = true then { s.entryRaw s.frs.wrapPos with state := .withdrawn } else s.entryRaw s.frs.wrapPos) ∧
      (∀ k, k ≠ s.frs.wrapPos → t.entryRaw k = s.entryRaw k) ∧
      t.frs.wrapPos = s.frs.wrapPos + 1 ∧
      s.within t [.regs, .scene, .frs] [FRS.STAT_WITHDRAW.key 0 0, FRS.BOUND.BE.key 0 0, FRS.NOW.T.key 0 0]) := by
  obtain ⟨bad, hb, e⟩ := execWrapSweepVisit_run hw hp hf
  rw [if_pos (by omega)] at e
  have he (k : Nat) (f : FreshSt → FreshSt) : ((s.wrapVisited bad).modFrs f).entryRaw k = _ := (State.modFrs_fr.entryRaw k).trans (s.wrapVisited_entryRaw bad k)
  refine ⟨_, e, ?_, fun k hk => ?_, rfl, (State.wrapVisited_within bad).frame State.modFrs_fr⟩
  · rw [he, hb hr]
    simp only [true_and]
    rfl
  · rw [he, if_neg (fun h => hk h.1)]

theorem wrapSweepVisit_gives_last (hw : s.frs.wrapOn = true) (hp : s.mode.power ≠ .discharge) (hf : s.frs.fastPass = false)
    (hn : s.frs.wrapPos = 262143) : gives .wrapSweepVisit s (fun t =>
      t.frs.wrapPos = 0 ∧
      t.frs.wrapHit = false ∧
      ((s.frs.wrapHit = true → s.logged t FRS.PAGE 0x34 (fun a _ => a = t.rd FRS.TIME_STS))) ∧
      s.within t [.regs, .log, .scene, .frs, .sram] ([FRS.STAT_WITHDRAW.key 0 0, FRS.BOUND.BE.key 0 0, FRS.NOW.T.key 0 0] ++ logKeys FRS.PAGE)) := by
  obtain ⟨bad, -, e⟩ := execWrapSweepVisit_run hw hp hf
  rw [if_neg (by omega)] at e
  have hv : s.within (s.wrapVisited bad) [.regs, .scene, .frs] sweepKeys := State.wrapVisited_within bad
  refine ⟨_, e, ?_, ?_, fun hh => ?_, (State.within.refl.next hv).next (State.wrapEnd_within _)⟩
  · rw [State.wrapEnd_frs]
  · rw [State.wrapEnd_frs]
  · rw [hh, Bool.true_or]
    exact State.logged_of hv.sameLog State.wrapEnd_logged

theorem wrapSweepVisit_idle (h : s.frs.wrapOn = false ∨ s.mode.power = .discharge ∨ s.frs.fastPass = true) : idle .wrapSweepVisit s := by
  change execWrapSweepVisit s = .next s
  unfold execWrapSweepVisit
  refine if_pos ?_
  rcases h with h | h | h <;> simp [h]

/-! ### The fast pass (R168) -/

/-- The entries that a whole pass of the wrap sweep withdraws. -/
def State.wrapBads (s : State) : List Nat := s.handlesIn 0 262144 (wrapBad s.tUs)

/-- A fast pass has withdrawn its entries, before its record. -/
def State.fastSwept (s : State) : State := (s.withdrawAll s.wrapBads).modFrs (fun r => { r with fastPass := false })

theorem State.fastPass_run (h : s.frs.fastPass = true) : s.fastPass = s.fastSwept.wrapEnd (!s.wrapBads.isEmpty) := by
  unfold State.fastPass
  rw [if_neg (by rw [h]; decide)]
  rfl

theorem State.fastPass_off (h : s.frs.fastPass = false) : s.fastPass = s := by
  unfold State.fastPass
  rw [if_pos (by rw [h]; rfl)]

theorem State.fastSwept_within : s.within s.fastSwept [.regs, .scene, .frs] [FRS.STAT_WITHDRAW.key 0 0] :=
  (State.within.refl.next (State.withdrawAll_within _)).frame State.modFrs_fr

theorem State.fastSwept_frs : s.fastSwept.frs = { s.frs with fastPass := false } := by
  have h : (s.withdrawAll s.wrapBads).frs = s.frs := (State.withdrawAll_within _).same .frs
  rw [State.fastSwept, State.modFrs_frs, h]

theorem State.fastPass_within :
    s.within s.fastPass [.regs, .log, .scene, .frs, .sram] (FRS.STAT_WITHDRAW.key 0 0 :: logKeys FRS.PAGE) := by
  cases h : s.frs.fastPass with
  | false =>
    rw [State.fastPass_off h]
    exact .refl
  | true =>
    rw [State.fastPass_run h]
    exact (State.within.refl.next State.fastSwept_within).next (State.wrapEnd_within _)

theorem State.fastPass_frs (h : s.frs.fastPass = true) :
    s.fastPass.frs = { s.frs with fastPass := false, wrapPos := 0, wrapHit := false } := by
  rw [State.fastPass_run h, State.wrapEnd_frs, State.fastSwept_frs]

theorem fastPassDone_gives (h : s.frs.fastPass = true) : gives .fastPassDone s (fun t =>
      (∀ k, t.entryRaw k = if k < 262144 ∧ wrapBad s.tUs (s.entryRaw k) = true then { s.entryRaw k with state := .withdrawn } else s.entryRaw k) ∧
      t.frs.fastPass = false ∧
      t.frs.wrapPos = 0 ∧
      t.frs.wrapHit = false ∧
      t.rd FRS.STAT_WITHDRAW = min 0xFFFFFFFF (s.rd FRS.STAT_WITHDRAW + (s.handlesIn 0 262144 (wrapBad s.tUs)).length) ∧
      ((s.handlesIn 0 262144 (wrapBad s.tUs) ≠ [] → s.logged t FRS.PAGE 0x34 (fun a _ => a = t.rd FRS.TIME_STS))) ∧
      s.within t [.regs, .log, .scene, .frs, .sram] ([FRS.STAT_WITHDRAW.key 0 0, FRS.BOUND.BE.key 0 0, FRS.NOW.T.key 0 0] ++ logKeys FRS.PAGE)) := by
  have hf : s.fastPass.resample.frs = { s.frs with
      fastPass := false, wrapPos := 0, wrapHit := false, sample := s.fastPass.resample.frs.sample, seen := s.fastPass.resample.frs.seen } := by
    rw [State.resample_frs, State.fastPass_frs h]
  have hr : Fr 134226177 (s.withdrawAll s.wrapBads) s.fastPass.resample := by
    rw [State.fastPass_run h]
    exact State.resample_fr.next (State.wrapEnd_fr.next (State.modFrs_fr.mono rfl) rfl) rfl
  refine ⟨_, rfl, fun k => ?_, by rw [hf], by rw [hf], by rw [hf], ?_, fun hb => ?_, (State.within.refl.next State.fastPass_within).resample⟩
  · rw [hr.entryRaw, State.wrapBads, State.withdrawAll_handlesIn (wrapBad_zero _)]
    simp only [Nat.zero_le, true_and]
    rfl
  · rw [State.resample_within.rd, State.fastPass_run h, (State.wrapEnd_within _).rd, State.fastSwept, State.modFrs_rd,
      State.withdrawAll_count]
    rfl
  · have he : (!s.wrapBads.isEmpty) = true := by simpa [State.wrapBads] using hb
    rw [State.resample_within.rd, State.fastPass_run h, he]
    exact (State.logged_of State.fastSwept_within.sameLog State.wrapEnd_logged).resample

/-! ### The verification sweep (R169) -/

/-- An entry without V. -/
def Entry.unverified (e : Entry) : Entry := { e with v := false }

/-- V of an entry is cleared. -/
def State.clearV (s : State) (h : Nat) : State := s.putEntry h (s.entryRaw h).unverified

theorem Entry.unverified_of {e : Entry} (h : e.v = false) : e.unverified = e := by
  unfold Entry.unverified
  rw [← h]

theorem State.clearV_entryRaw (s : State) (h k : Nat) :
    (s.clearV h).entryRaw k = if k = h then (s.entryRaw h).unverified else s.entryRaw k := s.putEntry_entryRaw h k _

/-- The verification sweep has cleared V of the entries up to `hi`. -/
def State.cleared (s : State) (n hi : Nat) : State := s.each (s.handlesIn n hi (·.v)) State.clearV

theorem State.verVisit_run {n m : Nat} (h : s.frs.verSweep = some n) : s.verVisit m =
    (s.cleared n (min 262144 (n + m))).modFrs (fun r => { r with verSweep := some (min 262144 (n + m)) }) := by
  unfold State.verVisit
  rw [h]
  rfl

section
variable (n hi : Nat)

theorem State.cleared_fr : Fr 1024 s (s.cleared n hi) := Fr.each .refl (fun _ _ => State.putEntry_fr)

theorem State.cleared_entryRaw (s : State) (k : Nat) :
    (s.cleared n hi).entryRaw k = if n ≤ k ∧ k < hi then { s.entryRaw k with v := false } else s.entryRaw k := by
  rw [State.cleared, State.each_entryRaw (f := Entry.unverified) (fun _ => rfl) State.clearV_entryRaw]
  simp only [State.mem_handlesIn (p := (·.v)) rfl]
  cases hv : (s.entryRaw k).v
  · rw [if_neg (by simp), show { s.entryRaw k with v := false } = s.entryRaw k from Entry.unverified_of hv, ite_self]
  · simp only [and_true]
    rfl

end

theorem verificationSweep_gives (n : Nat) (h : s.frs.verSweep = some n) (hn : n < 262144) : gives .verificationSweep s (fun t =>
      (∀ k, t.entryRaw k = if k = n then { s.entryRaw k with v := false } else s.entryRaw k) ∧
      t.frs.verSweep = some (n + 1) ∧
      s.within t [.regs, .scene, .frs] [FRS.BOUND.BE.key 0 0, FRS.NOW.T.key 0 0]) := by
  have hx : s.verVisit 1 = (s.cleared n (n + 1)).modFrs (fun r => { r with verSweep := some (n + 1) }) := by
    rw [State.verVisit_run h, Nat.min_eq_right (by omega)]
  refine ⟨(s.verVisit 1).resample, rfl, fun k => ?_, ?_, ?_⟩
  · have hk : n ≤ k ∧ k < n + 1 ↔ k = n := by omega
    rw [State.resample_entryRaw, hx, State.modFrs_fr.entryRaw, State.cleared_entryRaw]
    simp only [hk]
  · rw [State.resample_frs, hx, State.modFrs_frs]
  · rw [hx]
    exact ((State.within.refl.frame (State.cleared_fr n (n + 1))).frame State.modFrs_fr).resample

theorem verificationSweepDone_gives (n : Nat) (h : s.frs.verSweep = some n) : gives .verificationSweepDone s (fun t =>
      (∀ k, t.entryRaw k = if n ≤ k ∧ k < 262144 then { s.entryRaw k with v := false } else s.entryRaw k) ∧
      t.frs.verSweep = none ∧
      t.rdB FRS.TIME_STS.VER_SWEEP = false ∧
      s.within t [.regs, .scene, .frs] [FRS.TIME_STS.key 0 0, FRS.BOUND.BE.key 0 0, FRS.NOW.T.key 0 0]) := by
  have hm : min 262144 (n + handles) = 262144 := by unfold handles; omega
  have hx : execVerificationSweepDone s = .next
      (((s.cleared n 262144).modFrs (fun r => { r with verSweep := none })).wrB FRS.TIME_STS.VER_SWEEP false).resample := by
    unfold execVerificationSweepDone
    rw [h, State.verVisit_run h, hm]
    rfl
  refine ⟨_, hx, fun k => ?_, ?_, ?_, ?_⟩
  · have hf : Fr 8193 (s.cleared n 262144)
        (((s.cleared n 262144).modFrs (fun r => { r with verSweep := none })).wrB FRS.TIME_STS.VER_SWEEP false).resample :=
      State.resample_fr.next (State.wrB_fr.next (State.modFrs_fr.mono rfl) rfl) rfl
    rw [hf.entryRaw, State.cleared_entryRaw]
  · have e (v : State) (b : Bool) : (v.wrB FRS.TIME_STS.VER_SWEEP b).frs = v.frs := State.wrB_fr.same .frs
    rw [State.resample_frs, e, State.modFrs_frs]
  · rw [State.resample_within.rdB]
    exact State.rdB_wrB (by decide)
  · exact (((State.within.refl.frame (State.cleared_fr n 262144)).frame State.modFrs_fr).next State.wrB_within).resample

theorem verificationSweepDone_idle (h : s.frs.verSweep = none) : idle .verificationSweepDone s := by
  change execVerificationSweepDone s = .next s
  unfold execVerificationSweepDone
  rw [h]

end

end Sys2Proof.Machine

namespace Sys2Proof.Machine

set_option Elab.async false

/-! O17 (`VerdictsAndSweeps`), the verdict sample (R161-R164). -/

section

variable {s t u : State}

/-! ### The sample cycle (R161) -/

/-- A sweep that visits entries moves on; the samples and the time inputs of the frame stay. -/
theorem State.stepVisit_sample (s : State) (n : Nat) :
    (s.stepVisit n).frs.sample = s.frs.sample ∧ (s.stepVisit n).frs.timeBad = s.frs.timeBad := by
  unfold State.stepVisit
  split
  · exact ⟨rfl, rfl⟩
  · have h (xs : List Nat) : (s.each xs State.withdraw).frs = s.frs := (State.withdrawAll_within xs).same .frs
    dsimp only
    rw [State.modFrs_frs, h]
    exact ⟨rfl, rfl⟩

theorem State.verVisit_sample (s : State) (m : Nat) :
    (s.verVisit m).frs.sample = s.frs.sample ∧ (s.verVisit m).frs.timeBad = s.frs.timeBad := by
  cases h : s.frs.verSweep with
  | none =>
    unfold State.verVisit
    rw [h]
    exact ⟨rfl, rfl⟩
  | some n =>
    have e : (s.cleared n (min 262144 (n + m))).frs = s.frs := (State.cleared_fr _ _).same .frs
    rw [State.verVisit_run h, State.modFrs_frs, e]
    exact ⟨rfl, rfl⟩

theorem State.run_sample (s : State) (n : Nat) :
    (s.run n).frs.sample = s.frs.sample ∧ (s.run n).frs.timeBad = s.frs.timeBad := by
  unfold State.run
  split
  · exact ⟨rfl, rfl⟩
  · have h : Fr 134743305 s ((s.endCycle.advance n).slewRun.epochVisit n) :=
      State.epochVisit_fr.next (State.slewRun_fr.next (State.advance_fr.next (State.endCycle_fr.mono rfl) rfl) rfl) rfl
    have hf : ((s.endCycle.advance n).slewRun.epochVisit n).frs = s.frs := h.same .frs
    unfold State.sweeps
    obtain ⟨v1, v2⟩ := State.verVisit_sample (((s.endCycle.advance n).slewRun.epochVisit n).stepVisit n) n
    obtain ⟨w1, w2⟩ := State.stepVisit_sample ((s.endCycle.advance n).slewRun.epochVisit n) n
    rw [v1, v2, w1, w2, hf]
    exact ⟨rfl, rfl⟩

theorem State.fastPass_sample (s : State) :
    s.fastPass.frs.sample = s.frs.sample ∧ s.fastPass.frs.timeBad = s.frs.timeBad := by
  cases h : s.frs.fastPass with
  | false => rw [State.fastPass_off h]; exact ⟨rfl, rfl⟩
  | true => rw [State.fastPass_frs h]; exact ⟨rfl, rfl⟩

theorem State.atSample_sample (s : State) (half : Fin 2) :
    (s.atSample half).frs.sample = s.frs.sample ∧ (s.atSample half).frs.timeBad = s.frs.timeBad := by
  unfold State.atSample
  split
  · obtain ⟨v1, v2⟩ := State.fastPass_sample (s.toWc (s.sampleWc half))
    rw [v1, v2]
    exact s.run_sample _
  · exact s.fastPass_sample

/-- The registers that a verdict sample can change beside those of its time inputs: what the clock and a fast pass change. -/
def State.sampleRunKeys (s : State) : List Nat := logKeys FRS.PAGE ++ s.runKeys

theorem State.withdrawKey_mem (s : State) : FRS.STAT_WITHDRAW.key 0 0 ∈ s.sampleRunKeys :=
  List.mem_append_right _ (List.mem_cons_self ..)

theorem State.atSample_within {half : Fin 2} :
    s.within (s.atSample half) [.regs, .clk, .log, .scene, .frs, .tim, .sram] s.sampleRunKeys := by
  have hk : ∀ k ∈ FRS.STAT_WITHDRAW.key 0 0 :: logKeys FRS.PAGE, k ∈ s.sampleRunKeys := fun k hk => by
    rcases List.mem_cons.1 hk with rfl | hk
    · exact s.withdrawKey_mem
    · exact List.mem_append_left _ hk
  have hr (n : Nat) : s.within (s.run n) [.regs, .clk, .log, .scene, .frs, .tim, .sram] s.sampleRunKeys :=
    State.within.refl.next State.run_within (hj := fun k h => List.mem_append_right _ h)
  unfold State.atSample
  refine State.within.next ?_ State.fastPass_within (hj := hk)
  split
  · exact hr _
  · exact .refl

/-! ### The time inputs as they show (R162) -/

theorem satAdd_lt (w a n : Nat) : satAdd w a n < 2 ^ w := by
  have : 0 < 2 ^ w := Nat.two_pow_pos w
  unfold satAdd
  omega

theorem State.showTime_be (v : State) (be n : Nat) (h : be < 2 ^ 32) : ((v.wr FRS.BOUND.BE be).wr FRS.NOW.T n).rd FRS.BOUND.BE = be := by
  rw [State.rd_wr_ne (by decide), State.rd_wr (by decide) (by decide)]
  exact Nat.mod_eq_of_lt h

theorem State.showTime_t (v : State) (be n : Nat) (h : n < 2 ^ 32) : ((v.wr FRS.BOUND.BE be).wr FRS.NOW.T n).rd FRS.NOW.T = n := by
  rw [State.rd_wr (by decide) (by decide)]
  exact Nat.mod_eq_of_lt h

theorem State.showTime_frs (v : State) (be n : Nat) : ((v.wr FRS.BOUND.BE be).wr FRS.NOW.T n).frs = v.frs := by
  have e (u : State) (f : Fld) (m : Nat) : (u.wr f m).frs = u.frs := State.wr_fr.same .frs
  rw [e, e]

/-! ### VERDICT_SAMPLE (R161) -/

/-- The sample of line `l` of frame `f` that a half takes. -/
def State.sampleOf (b : State) (half : Fin 2) (l f : Nat) : SampleSt :=
  { at_ := b.clk.now, line := l, frame := f, t := b.tUs, be := b.bE, valid := b.timeValid, gen := b.rd ING.COMMIT_GEN,
    wg := b.weft.wg.toNat, rows := (b.view.covered half (l / 16)).foldl (fun u x => tset (fun _ => 0) u x.1 (b.rowNow x.2 x.1)) [] }

/-- A half takes its sample, and its time inputs show. -/
def State.sampled (b : State) (half : Fin 2) (l f : Nat) : State :=
  ((b.modFrs (fun r => { r with
    sample := r.sample.set half (b.sampleOf half l f)
    seen := (b.view.covered half (l / 16)).foldl (fun t x => tset (fun _ => (0, 0)) t x.1 (b.rowNow x.2 x.1, b.ageNow x.1)) r.seen
    timeBad := r.timeBad || !b.timeValid })).wr FRS.BOUND.BE b.bE).wr FRS.NOW.T b.tUs

theorem execVerdictSample_run {half : Fin 2} {l f : Nat} (hl : s.nextLine = some (l, f)) (hb : s.beforeSample half = true) :
    execVerdictSample half s = .next ((s.atSample half).sampled half l f) := by
  unfold execVerdictSample
  rw [hl]
  dsimp only
  rw [hb, if_neg (by decide)]
  rfl

theorem verdictSample_gives (half : Fin 2) (l f : Nat) (hl : s.nextLine = some (l, f)) (hb : s.beforeSample half = true) :
    gives (.verdictSample half) s (fun t =>
      (let b := s.atSample half; t.frs.sample[half] = { at_ := b.clk.now, line := l, frame := f, t := b.tUs, be := b.bE, valid := b.timeValid, gen := b.rd ING.COMMIT_GEN, wg := b.weft.wg.toNat, rows := (b.view.covered half (l / 16)).foldl (fun u x => tset (fun _ => 0) u x.1 (b.rowNow x.2 x.1)) [] }) ∧
      t.rd FRS.BOUND.BE = (s.atSample half).bE ∧
      t.rd FRS.NOW.T = (s.atSample half).tUs ∧
      t.frs.timeBad = (s.frs.timeBad || !(s.atSample half).timeValid) ∧
      (∀ g : Fin 2, g ≠ half → t.frs.sample[g] = s.frs.sample[g]) ∧
      s.within t [.regs, .clk, .log, .scene, .frs, .tim, .sram] ([FRS.BOUND.BE.key 0 0, FRS.NOW.T.key 0 0] ++ logKeys FRS.PAGE ++ s.runKeys)) := by
  obtain ⟨hs, ht⟩ := s.atSample_sample half
  refine ⟨_, execVerdictSample_run hl hb, ?_, State.showTime_be _ _ _ (satAdd_lt 32 _ _), State.showTime_t _ _ _ (Nat.mod_lt _ (by decide)), ?_, fun g hg => ?_, ?_⟩
  · rw [State.sampled, State.showTime_frs]
    exact Vector.getElem_set_self _
  · rw [State.sampled, State.showTime_frs, ← ht]
    rfl
  · have hn : half.val ≠ g.val := fun h => hg (Fin.ext h.symm)
    rw [State.sampled, State.showTime_frs, ← hs]
    exact Vector.getElem_set_ne half.isLt g.isLt hn
  · have hk : ∀ k ∈ s.sampleRunKeys, k ∈ sampleKeys ++ s.sampleRunKeys := fun k hk => List.mem_append_right _ hk
    have hw : s.within (s.atSample half) [.regs, .clk, .log, .scene, .frs, .tim, .sram] (sampleKeys ++ s.sampleRunKeys) :=
      State.within.refl.next State.atSample_within (hj := hk)
    exact ((hw.frame State.modFrs_fr).next State.wr_within (hj := by simp [sampleKeys])).next State.wr_within (hj := by simp [sampleKeys])

/-- Behind its cycle, and where the Weaver computes no line, a half takes no sample. -/
theorem verdictSample_idle (half : Fin 2) (h : s.nextLine = none ∨ s.beforeSample half = false) : idle (.verdictSample half) s := by
  change execVerdictSample half s = .next s
  unfold execVerdictSample
  rcases h with h | h
  · rw [h]
  · rw [h]
    split <;> rfl

end

end Sys2Proof.Machine

namespace Sys2Proof.Machine

set_option Elab.async false

/-! SUPPORT. The register pages that the parts of an apply point write (R99, R136, R158-R160, R208), none of them the freshness unit's,
and the alarm settings in force, which none of them changes. -/

section

variable {s t u : State}

/-! ### Edit sets (R99) -/

theorem State.editSts_onPages : s.onPages s.editSts [ING.PAGE] := ((State.onPages.refl.wr).wrB).wrB

theorem State.applySet_onPages {f : Nat} {e : EditSet} : s.onPages (s.applySet f e) [ING.PAGE] := by
  unfold State.applySet
  extract_lets r a b c
  have hc : s.onPages c [ING.PAGE] := (((State.onPages.refl.frame State.modScene_fr).wr).wr).wr
  exact .ite (hc.frame State.mirror_fr) hc

theorem State.applyDue_onPages {f : Nat} (es : List EditSet) : s.onPages (s.applyDue f es) [ING.PAGE] := by
  induction es generalizing s with
  | nil => exact State.onPages.refl.frame State.modScene_fr
  | cons e es ih => exact .ite (State.applySet_onPages.next ih) (State.onPages.refl.frame State.modScene_fr)

theorem State.applyEdits_onPages {f : Nat} : s.onPages (s.applyEdits f) [ING.PAGE] :=
  ((State.applyDue_onPages _).frame State.modScene_fr).next State.editSts_onPages

/-! ### Maps, curves and settings (R136, R159, R160) -/

theorem State.applyMap_onPages {d : Fin 2} : s.onPages (s.applyMap d) [WV.PAGE, WV.PAGE + 1] := by
  obtain ⟨hm, hl⟩ := diePage d
  unfold State.applyMap
  split
  · exact .refl
  · exact ((((((State.onPages.refl.frame State.modWv_fr).wrB hm hl).wr hm hl).wr hm hl).wr hm hl).wr hm hl).frame State.modScene_fr

theorem State.applyLut_onPages {d : Fin 2} : s.onPages (s.applyLut d) [WV.PAGE, WV.PAGE + 1] := by
  obtain ⟨hm, hl⟩ := diePage d
  unfold State.applyLut
  exact .ite (((State.onPages.refl.frame State.modWv_fr).wrB hm hl).frame State.modScene_fr) .refl

theorem State.applySettings_onPages {d : Fin 2} : s.onPages (s.applySettings d) [WV.PAGE, WV.PAGE + 1] := by
  obtain ⟨hm, hl⟩ := diePage d
  unfold State.applySettings
  extract_lets ch a changed b
  have ha : s.onPages a [WV.PAGE, WV.PAGE + 1] := State.onPages.refl.wrB hm hl
  have hb : s.onPages b [WV.PAGE, WV.PAGE + 1] := ha.each (fun u f => State.onPages.refl.frame State.latch_fr)
  exact .ite (hb.frame State.modScene_fr) hb

theorem State.applyTables_onPages : s.onPages s.applyTables [WV.PAGE, WV.PAGE + 1] := by
  unfold State.applyTables
  refine (State.onPages.refl.each (fun u d => ?_)).each (fun u d => State.onPages.refl.frame State.makePlan_fr)
  exact (State.applyMap_onPages.next State.applyLut_onPages).next State.applySettings_onPages

/-- A setting in force is as before in a frame that leaves the settings alone. -/
theorem Fr.eff_ {m : Nat} (h : Fr m s t) (f : Fld) (i x : Nat) (hm : m.testBit Area.eff.ctorIdx = false := by decide) :
    t.eff_ f i x = s.eff_ f i x := State.eff_of_same s (h.same .eff hm) f i x

/-- Settings that come into force leave the others in force. -/
theorem State.latches_eff_ne {g : Fld} {i j y : Nat} (fs : List Fld) (hk : ∀ f ∈ fs, g.key j y ≠ f.key i 0) (s : State) :
    (s.each fs (fun u f => u.latch f i)).eff_ g j y = s.eff_ g j y := by
  induction fs generalizing s with
  | nil => rfl
  | cons f fs ih =>
    rw [State.each_cons, ih (fun f' hf => hk f' (List.mem_cons_of_mem _ hf)), State.latch_eff_ne _ (hk f (List.mem_cons_self ..))]

/-- The settings that come into force on a die are the die's own. -/
theorem State.applySettings_alarm (s : State) (d : Fin 2) : (s.applySettings d).eff_ FRS.ALM_CTL = s.eff_ FRS.ALM_CTL := by
  unfold State.applySettings
  extract_lets ch a changed b
  have hk : ∀ d : Fin 2, ∀ f ∈ [WV.LVR_CTL.ENA, WV.FLT_CTL.MODE, WV.OUT_CTL.DITHER, WV.UNI_ADDR_LO.ADDR, WV.UNI_ADDR_HI.ADDR,
      WV.UNI_NODE_LO.ADDR, WV.UNI_NODE_HI.ADDR], FRS.ALM_CTL.key 0 0 ≠ f.key d 0 := by decide
  have hb : b.eff_ FRS.ALM_CTL = s.eff_ FRS.ALM_CTL := (State.latches_eff_ne ch (hk d) a).trans (State.wrB_fr.eff_ _ _ _)
  split
  · exact (State.modScene_fr.eff_ _ _ _).trans hb
  · exact hb

theorem State.applyTables_alarm : s.applyTables.eff_ FRS.ALM_CTL = s.eff_ FRS.ALM_CTL := by
  unfold State.applyTables
  refine Eq.trans (Fr.eff_ (m := 4096) (Fr.each .refl (fun u d => State.makePlan_fr)) _ _ _) ?_
  refine State.each_induct s (P := fun u => u.eff_ FRS.ALM_CTL = s.eff_ FRS.ALM_CTL) _ rfl (fun u d hu => ?_)
  rw [State.applySettings_alarm, State.applyLut_fr.eff_, State.applyMap_fr.eff_, hu]

/-! ### Warnings and the need of the coming frame (R158, R274) -/

theorem State.applyChecks_onPages : s.onPages s.applyChecks [DMC.PAGE] := by
  unfold State.applyChecks State.louvreWarn
  exact ((State.onPages.refl.each (fun u d => .ite State.onPages.refl.logc .refl)).frame State.modMem_fr).next State.compareNeed_onPages

theorem State.decideBand_onPages {h : Fin 2} : s.onPages (s.decideBand h) [PDV.PAGE, PDV.PAGE + 1] := by
  obtain ⟨hm, hl⟩ := drivePage h
  unfold State.decideBand
  refine .ite .refl ?_
  split
  · exact State.onPages.refl.wr hm hl
  · exact .refl

/-! ### Lanes come back (R208) -/

/-- The pages on which a group's lanes and its failure show. -/
def lanePages : List Nat := [PLK.PAGE, PLK.PAGE + 1, PDV.PAGE, PDV.PAGE + 1]

theorem linkPage_mem (h : Fin 2) : PLK.PAGE + h.val ∈ lanePages ∧ PDV.PAGE + h.val ∈ lanePages ∧ PDV.PAGE + h.val < 4096 := by
  revert h; decide

theorem State.fitGroup_onPages {g : Nat} : s.onPages (s.fitGroup g) lanePages := by
  obtain ⟨hm, hd, hdl⟩ := linkPage_mem (groupHalf g)
  obtain ⟨hl, -⟩ := linkPage (groupHalf g)
  unfold State.fitGroup State.failGroup State.wrBit
  exact .ite (.ite .refl ((((State.onPages.refl.wr hm hl).wrB hd hdl).event hm hl).logc)) .refl

theorem State.setLanes_onPages {g fail : Nat} : s.onPages (s.setLanes g fail) lanePages := by
  obtain ⟨hm, -⟩ := linkPage_mem (groupHalf g)
  obtain ⟨hl, -⟩ := linkPage (groupHalf g)
  unfold State.setLanes State.wrBit
  exact (((((((State.onPages.refl.wr hm hl).wr hm hl).wrB hm hl).wr hm hl).wr hm hl).wr hm hl).frame State.queueCtrl_fr).next
    State.fitGroup_onPages

theorem State.readmitLanes_onPages : s.onPages s.readmitLanes lanePages := by
  rw [State.readmitLanes_eq]
  refine State.onPages.refl.each (fun u g => ?_)
  unfold State.readmitGroup
  exact .ite .refl (State.setLanes_onPages.frame State.modScan_fr)

/-- What the blanking begins shows on pages of the raster, the panel link, the drive and the lanes (R208, R212, R302). -/
theorem State.blanking_onPages : s.onPages s.blanking (SCN.PAGE :: LAN.PAGE :: lanePages) :=
  (((State.onPages.refl.next State.shutterCheck_onPages).next State.readmitLanes_onPages).next State.laneTrims_onPages).next
    State.hbmTrims_onPages

end

end Sys2Proof.Machine

namespace Sys2Proof.Machine

set_option Elab.async false

/-! O17 (`VerdictsAndSweeps`): the counts of the frame and the freshness fault (R171, R172), and the whole statement. -/

section

variable {s t u : State}

/-! ### The counts of the frame (R171) -/

/-- The registers of the frame's counts. -/
def countKeys : List Nat :=
  [FRS.CNT_CONTENT.COUNT.key 0 0, FRS.CNT_NODATA.COUNT.key 0 0, FRS.CNT_STALE.COUNT.key 0 0, FRS.CNT_UNVER.COUNT.key 0 0,
    FRS.CNT_FAULT.COUNT.key 0 0, FRS.FIRST_STALE.HANDLE.key 0 0]

/-- The five counts of a frame show. -/
def State.countsShown (s : State) (n : Nat → Nat) : State :=
  ((((s.wr FRS.CNT_CONTENT.COUNT (n 0)).wr FRS.CNT_NODATA.COUNT (n 1)).wr FRS.CNT_STALE.COUNT (n 2)).wr FRS.CNT_UNVER.COUNT (n 3)).wr
    FRS.CNT_FAULT.COUNT (n 4)

/-- The first tile that became Stale shows. -/
def State.firstShown (s : State) (h : Option Nat) : State :=
  (s.wr FRS.FIRST_STALE.HANDLE (h.getD 0)).wrB FRS.FIRST_STALE.VALID h.isSome

/-- The counts of the frame show, and the next frame's begin. -/
def State.frameCounted (s : State) : State :=
  ((s.countsShown s.countOf).firstShown s.frs.firstStale).modFrs (fun r => { r with worst := [], firstStale := none, timeBad := false })

theorem State.countsShown_within (n : Nat → Nat) : s.within (s.countsShown n) [.regs, .frs] countKeys := by
  have w (f : Fld) (hb : EVT.BASE.OFS.key 0 0 ≠ f.key 0 0 ∧ EVT.BASE.OFS.key 1 0 ≠ f.key 0 0) (hk : ∀ k ∈ [f.key 0 0], k ∈ countKeys)
      (m : Nat) {v : State} (h : s.within v [.regs, .frs] countKeys) : s.within (v.wr f m) [.regs, .frs] countKeys :=
    h.next (State.wr_within (hk := hb)) (by decide) hk
  exact w FRS.CNT_FAULT.COUNT (by decide) (by decide) _ (w FRS.CNT_UNVER.COUNT (by decide) (by decide) _
    (w FRS.CNT_STALE.COUNT (by decide) (by decide) _ (w FRS.CNT_NODATA.COUNT (by decide) (by decide) _
      (w FRS.CNT_CONTENT.COUNT (by decide) (by decide) _ .refl))))

theorem State.firstShown_within (h : Option Nat) : s.within (s.firstShown h) [.regs] [FRS.FIRST_STALE.HANDLE.key 0 0] := by
  unfold State.firstShown
  exact (State.within.refl.next State.wr_within).next State.wrB_within

theorem State.frameCounted_within : s.within s.frameCounted [.regs, .frs] countKeys :=
  ((State.countsShown_within _).next (State.firstShown_within _)).frame State.modFrs_fr

theorem State.countsShown_counts (s : State) (n : Nat → Nat) :
    (s.countsShown n).rd FRS.CNT_CONTENT.COUNT = n 0 % 2 ^ 19 ∧ (s.countsShown n).rd FRS.CNT_NODATA.COUNT = n 1 % 2 ^ 19 ∧
    (s.countsShown n).rd FRS.CNT_STALE.COUNT = n 2 % 2 ^ 19 ∧ (s.countsShown n).rd FRS.CNT_UNVER.COUNT = n 3 % 2 ^ 19 ∧
    (s.countsShown n).rd FRS.CNT_FAULT.COUNT = n 4 % 2 ^ 19 := by
  unfold State.countsShown
  refine ⟨?_, ?_, ?_, ?_, State.rd_wr (by decide) (by decide)⟩
  · rw [State.rd_wr_ne (by decide), State.rd_wr_ne (by decide), State.rd_wr_ne (by decide), State.rd_wr_ne (by decide)]
    exact State.rd_wr (by decide) (by decide)
  · rw [State.rd_wr_ne (by decide), State.rd_wr_ne (by decide), State.rd_wr_ne (by decide)]
    exact State.rd_wr (by decide) (by decide)
  · rw [State.rd_wr_ne (by decide), State.rd_wr_ne (by decide)]
    exact State.rd_wr (by decide) (by decide)
  · rw [State.rd_wr_ne (by decide)]
    exact State.rd_wr (by decide) (by decide)

/-! ### The freshness fault (R172) -/

/-- CAUSE and CLEAN of the freshness fault show. -/
def State.alarmCounted (s : State) (cause clean : Nat) : State := (s.wr FRS.ALM_STS.CAUSE cause).wr FRS.ALM_STS.CLEAN clean

/-- ACTIVE of the freshness fault rises on a hit and falls when it is due, each change with its record. -/
def State.alarmSet (s : State) (hit was due : Bool) (cause : Nat) : State :=
  if hit then
    let s := s.wrB FRS.ALM_STS.ACTIVE true
    if was then s else s.logc FRS.PAGE 0x36 (s.rd FRS.ALM_STS) cause
  else if was && due then
    let s := s.wrB FRS.ALM_STS.ACTIVE false
    s.logc FRS.PAGE 0x37 (s.rd FRS.ALM_STS) cause
  else s

/-- An enabled condition holds among those of the frame (R172). -/
def State.alarmHit (s : State) : Bool := s.almConds &&& (s.eff_ FRS.ALM_CTL % 32) != 0

/-- Frames without an enabled condition, as CLEAN counts them (R172). -/
def State.alarmClean (s : State) : Nat := if s.alarmHit then 0 else min 255 (s.rd FRS.ALM_STS.CLEAN + 1)

/-- The counts of the frame show, and the causes of the fault with them. -/
def State.frameAlarm (s : State) : State := s.frameCounted.alarmCounted s.almConds s.alarmClean

theorem State.countOf_congr (h : t.frs = s.frs) (v : Nat) : t.countOf v = s.countOf v := by
  unfold State.countOf
  rw [h]

theorem State.almConds_congr (h : t.frs = s.frs) : t.almConds = s.almConds := by
  simp only [State.almConds, State.countOf_congr h, h]

theorem State.freshFrameCount_run (s : State) : s.freshFrameCount =
    s.frameAlarm.alarmSet s.alarmHit (s.rdB FRS.ALM_STS.ACTIVE)
      (decide (max 1 (s.frameAlarm.eff_ FRS.ALM_CTL.CLR_FR) ≤ s.alarmClean)) s.almConds := by
  have he : s.frameCounted.eff_ FRS.ALM_CTL = s.eff_ FRS.ALM_CTL := State.eff_of_same s (State.frameCounted_within.same .eff) _ _ _
  have hc : s.frameCounted.rd FRS.ALM_STS.CLEAN = s.rd FRS.ALM_STS.CLEAN := State.frameCounted_within.rd
  have ha : s.frameCounted.rdB FRS.ALM_STS.ACTIVE = s.rdB FRS.ALM_STS.ACTIVE := State.frameCounted_within.rdB
  have hw (u : State) (f : Fld) (n v : Nat) : (u.wr f n).countOf v = u.countOf v := State.countOf_congr (State.wr_fr.same .frs) v
  have hs (u : State) (f : Fld) (n : Nat) : (u.wr f n).frs = u.frs := State.wr_fr.same .frs
  unfold State.freshFrameCount
  simp only [hw, hs]
  rw [State.frameAlarm, State.alarmClean, State.alarmHit, ← he, ← hc, ← ha]
  rfl

section
variable (hit was due : Bool) (cause : Nat)

theorem State.alarmSet_within : s.within (s.alarmSet hit was due cause) [.regs, .log, .sram] (FRS.ALM_STS.ACTIVE.key 0 0 :: logKeys FRS.PAGE) := by
  have hb (b : Bool) : s.within (s.wrB FRS.ALM_STS.ACTIVE b) [.regs, .log, .sram] (FRS.ALM_STS.ACTIVE.key 0 0 :: logKeys FRS.PAGE) :=
    State.within.refl.next State.wrB_within
  have hl {v : State} (h : s.within v [.regs, .log, .sram] (FRS.ALM_STS.ACTIVE.key 0 0 :: logKeys FRS.PAGE)) (c a b : Nat) :
      s.within (v.logc FRS.PAGE c a b) [.regs, .log, .sram] (FRS.ALM_STS.ACTIVE.key 0 0 :: logKeys FRS.PAGE) := h.next State.logc_within
  unfold State.alarmSet
  dsimp only
  split
  · split
    · exact hb true
    · exact hl (hb true) _ _ _
  · split
    · exact hl (hb false) _ _ _
    · exact .refl

/-- ACTIVE is a bit of its own. -/
theorem State.alarmSet_rd {f : Fld} (hd : f.key 0 0 ≠ FRS.ALM_STS.ACTIVE.key 0 0 ∨ f.hi < 0 ∨ 0 < f.lo) (hf : f.lo ≤ f.hi)
    (hk : f.key 0 0 ∉ logKeys FRS.PAGE) : (s.alarmSet hit was due cause).rd f = s.rd f := by
  have hb (b : Bool) : (s.wrB FRS.ALM_STS.ACTIVE b).rd f = s.rd f :=
    State.rd_wr_apart hd ⟨by decide, by decide, hf⟩
  have hl (v : State) (c a b : Nat) : (v.logc FRS.PAGE c a b).rd f = v.rd f := State.logc_within.rd (by assumption)
  unfold State.alarmSet
  dsimp only
  split
  · split
    · exact hb true
    · exact (hl _ _ _ _).trans (hb true)
  · split
    · exact (hl _ _ _ _).trans (hb false)
    · rfl

theorem State.alarmSet_active : (s.alarmSet true was due cause).rdB FRS.ALM_STS.ACTIVE = true := by
  have hb : (s.wrB FRS.ALM_STS.ACTIVE true).rdB FRS.ALM_STS.ACTIVE = true := State.rdB_wrB (by decide)
  unfold State.alarmSet
  rw [if_pos rfl]
  dsimp only
  split
  · exact hb
  · exact State.logc_within.rdB.trans hb

end

theorem State.frameAlarm_cause : s.frameAlarm.rd FRS.ALM_STS.CAUSE = s.almConds % 32 := by
  unfold State.frameAlarm State.alarmCounted
  rw [State.rd_wr_apart (by decide) (by decide), State.rd_wr (by decide) (by decide)]
  rfl

theorem State.alarmClean_lt (s : State) : s.alarmClean < 256 := by
  unfold State.alarmClean
  split <;> omega

theorem State.frameAlarm_clean : s.frameAlarm.rd FRS.ALM_STS.CLEAN = s.alarmClean := by
  unfold State.frameAlarm State.alarmCounted
  rw [State.rd_wr (by decide) (by decide)]
  exact Nat.mod_eq_of_lt s.alarmClean_lt

/-- The alarm leaves what the counts of the frame showed. -/
theorem State.freshFrameCount_rd {f : Fld} (hf : f.lo ≤ f.hi := by decide)
    (hd : f.key 0 0 ≠ FRS.ALM_STS.ACTIVE.key 0 0 ∨ f.hi < 0 ∨ 0 < f.lo := by decide) (hk : f.key 0 0 ∉ logKeys FRS.PAGE := by decide) :
    s.freshFrameCount.rd f = s.frameAlarm.rd f := by
  rw [State.freshFrameCount_run]
  exact State.alarmSet_rd _ _ _ _ hd hf hk

theorem State.freshFrameCount_count {f : Fld} (hn : f.lo ≤ f.hi := by decide)
    (hd : f.key 0 0 ≠ FRS.ALM_STS.ACTIVE.key 0 0 := by decide) (hf : f.key 0 0 ≠ FRS.FIRST_STALE.HANDLE.key 0 0 := by decide)
    (hk : f.key 0 0 ∉ logKeys FRS.PAGE := by decide) : s.freshFrameCount.rd f = (s.countsShown s.countOf).rd f := by
  rw [State.freshFrameCount_rd hn (.inl hd) hk]
  unfold State.frameAlarm State.alarmCounted State.frameCounted State.firstShown State.wrB
  rw [State.rd_wr_ne (f := FRS.ALM_STS.CLEAN) hd, State.rd_wr_ne (f := FRS.ALM_STS.CAUSE) hd, State.modFrs_rd,
    State.rd_wr_ne (f := FRS.FIRST_STALE.VALID) hf, State.rd_wr_ne hf]

/-- The frame's counts begin anew. -/
theorem State.freshFrameCount_worst (s : State) : s.freshFrameCount.frs.worst = [] := by
  have hs : s.frameAlarm.frs = s.frameCounted.frs := by
    unfold State.frameAlarm State.alarmCounted
    exact Fr.same (m := 1) (State.wr_fr.next State.wr_fr rfl) .frs
  rw [State.freshFrameCount_run, (State.alarmSet_within _ _ _ _).same .frs, hs]
  rfl

theorem State.freshFrameCount_active (h : s.alarmHit = true) : s.freshFrameCount.rdB FRS.ALM_STS.ACTIVE = true := by
  rw [State.freshFrameCount_run, h]
  exact State.alarmSet_active _ _ _

/-! ### APPLY_POINT (R99, R171, R172) -/

/-- What an apply point brings into force ahead of the counts of the frame. -/
def State.applied (s : State) : State :=
  (((s.event SCN.PAGE 1).applyEdits s.frameAfter).applyTables.applyChecks).touchTables s.frameAfter

theorem State.applied_fr : Fr 135272227 s s.applied :=
  State.touchTables_fr.next (State.applyChecks_fr.next (State.applyTables_fr.next (State.applyEdits_fr.next
    (State.event_fr.mono rfl) rfl) rfl) rfl) rfl

theorem State.applied_onPages : s.onPages s.applied [SCN.PAGE, ING.PAGE, WV.PAGE, WV.PAGE + 1, DMC.PAGE] := by
  have h : s.onPages (s.event SCN.PAGE 1) [SCN.PAGE, ING.PAGE, WV.PAGE, WV.PAGE + 1, DMC.PAGE] := State.onPages.refl.event
  exact (((h.next State.applyEdits_onPages).next State.applyTables_onPages).next State.applyChecks_onPages).frame State.touchTables_fr

theorem State.applied_alarm : s.applied.eff_ FRS.ALM_CTL = s.eff_ FRS.ALM_CTL := by
  unfold State.applied
  rw [State.touchTables_fr.eff_, State.applyChecks_fr.eff_, State.applyTables_alarm, State.applyEdits_fr.eff_, State.event_fr.eff_]

/-- What follows the counts of the frame: the band of the next cycle, and the blanking. -/
def State.frameTurned (s : State) : State := (if s.phase = 3 then s.each halves State.decideBand else s).blanking

theorem State.frameTurned_frs : s.frameTurned.frs = s.frs := by
  have h : Fr 1 s (if s.phase = 3 then s.each halves State.decideBand else s) := .ite (Fr.each .refl (fun _ _ => State.decideBand_fr)) .refl
  exact (State.blanking_fr.same .frs).trans (h.same .frs)

theorem State.frameTurned_onPages : s.onPages s.frameTurned (SCN.PAGE :: LAN.PAGE :: lanePages) := by
  unfold State.frameTurned
  refine State.onPages.next (.ite (State.onPages.refl.each (fun u h => ?_)) .refl) State.blanking_onPages
  exact State.onPages.refl.next State.decideBand_onPages

theorem execApplyPoint_run (hr : s.mode.raster = .weaver) (hl : s.clk.line = 8640) :
    execApplyPoint s = .next s.applied.freshFrameCount.frameTurned := by
  unfold execApplyPoint
  rw [if_neg (by simp [hr, hl])]
  rfl

theorem State.applied_alarmHit : s.applied.alarmHit = s.alarmHit := by
  unfold State.alarmHit
  rw [State.almConds_congr (State.applied_fr.same .frs), State.applied_alarm]

theorem State.applied_alarmClean : s.applied.alarmClean = s.alarmClean := by
  unfold State.alarmClean
  rw [State.applied_alarmHit, State.applied_onPages.rd]

theorem applyPoint_gives (hr : s.mode.raster = .weaver) (hl : s.clk.line = 8640) : gives .applyPoint s (fun t =>
      t.rd FRS.CNT_CONTENT.COUNT = s.countOf 0 % 2 ^ 19 ∧
      t.rd FRS.CNT_NODATA.COUNT = s.countOf 1 % 2 ^ 19 ∧
      t.rd FRS.CNT_STALE.COUNT = s.countOf 2 % 2 ^ 19 ∧
      t.rd FRS.CNT_UNVER.COUNT = s.countOf 3 % 2 ^ 19 ∧
      t.rd FRS.CNT_FAULT.COUNT = s.countOf 4 % 2 ^ 19 ∧
      t.rd FRS.ALM_STS.CAUSE = s.almConds % 32 ∧
      ((s.almConds &&& (s.eff_ FRS.ALM_CTL % 32) ≠ 0 → t.rdB FRS.ALM_STS.ACTIVE = true ∧ t.rd FRS.ALM_STS.CLEAN = 0)) ∧
      ((s.almConds &&& (s.eff_ FRS.ALM_CTL % 32) = 0 → t.rd FRS.ALM_STS.CLEAN = min 255 (s.rd FRS.ALM_STS.CLEAN + 1))) ∧
      t.frs.worst = [] ∧
      s.keeps t [.regs, .eff, .panel, .log, .mem, .scene, .wv, .frs, .scan, .lan, .leaf, .freeCtr, .sram]) := by
  have hk : s.keeps s.applied.freshFrameCount.frameTurned [.regs, .eff, .panel, .log, .mem, .scene, .wv, .frs, .scan, .lan, .leaf, .freeCtr, .sram] := by
    obtain ⟨t, e, h⟩ := execApplyPoint_fr (s := s)
    rw [execApplyPoint_run hr hl] at e
    cases e
    exact h.keepsOf
  have hf : s.applied.frs = s.frs := State.applied_fr.same .frs
  have hc (v : Nat) : s.applied.countOf v = s.countOf v := State.countOf_congr hf v
  have hclean : s.applied.freshFrameCount.frameTurned.rd FRS.ALM_STS.CLEAN = s.alarmClean := by
    rw [State.frameTurned_onPages.rd, State.freshFrameCount_rd, State.frameAlarm_clean, State.applied_alarmClean]
  obtain ⟨h0, h1, h2, h3, h4⟩ := s.applied.countsShown_counts s.applied.countOf
  rw [hc] at h0 h1 h2 h3 h4
  refine ⟨_, execApplyPoint_run hr hl, ?_, ?_, ?_, ?_, ?_, ?_, fun hh => ?_, fun hh => ?_, ?_, hk⟩
  · rw [State.frameTurned_onPages.rd, State.freshFrameCount_count, h0]
  · rw [State.frameTurned_onPages.rd, State.freshFrameCount_count, h1]
  · rw [State.frameTurned_onPages.rd, State.freshFrameCount_count, h2]
  · rw [State.frameTurned_onPages.rd, State.freshFrameCount_count, h3]
  · rw [State.frameTurned_onPages.rd, State.freshFrameCount_count, h4]
  · rw [State.frameTurned_onPages.rd, State.freshFrameCount_rd, State.frameAlarm_cause, State.almConds_congr hf]
  · have ha : s.alarmHit = true := by simpa [State.alarmHit] using hh
    refine ⟨?_, by rw [hclean, State.alarmClean, ha, if_pos rfl]⟩
    rw [State.frameTurned_onPages.rdB]
    exact State.freshFrameCount_active (State.applied_alarmHit.trans ha)
  · have ha : s.alarmHit = false := by simpa [State.alarmHit] using hh
    rw [hclean, State.alarmClean, ha, if_neg (by decide)]
  · rw [State.frameTurned_frs]
    exact State.freshFrameCount_worst _

end

/-- Settles O17: the clauses of the verdict sample (R161), the apply point (R171, R172), the step sweep (R167), the wrap sweep with its
fast pass (R168) and the verification sweep (R169). -/
theorem verdictsAndSweeps : Obligations.VerdictsAndSweeps := by
  unfold Obligations.VerdictsAndSweeps
  exact fun s => ⟨verdictSample_gives, verdictSample_idle, applyPoint_gives, stepSweepDone_gives, stepSweepDone_idle, wrapSweepVisit_gives,
    wrapSweepVisit_gives_last, wrapSweepVisit_idle, fastPassDone_gives, verificationSweep_gives, verificationSweepDone_gives,
    verificationSweepDone_idle⟩

end Sys2Proof.Machine
